-- ==== Sys2Proof/Word.lean ====
section
/-! DEFINITION. The word types of the model (R7, R11): bytes, 16, 32 and 64 bit words, endpoint identifiers, packet
sequence numbers, 4 KiB data units, and the few helpers on them that every file uses. -/

namespace Sys2Proof

/-- One byte. -/
abbrev Byte := BitVec 8

/-- A 32-bit word. -/
abbrev Word32 := BitVec 32

/-- A 64-bit word, the width of the widest register (R12). -/
abbrev Word64 := BitVec 64

/-- An endpoint identifier: 14 bits of module ID and 18 bits within the module, or a host's own (R42). -/
abbrev Eid := BitVec 32

/-- A packet sequence number; its order is serial arithmetic modulo 2^32 (R51). -/
abbrev Psn := BitVec 32

/-- One 4 KiB logical block or data unit (R37, R38): 32,768 bits, byte 0 the least significant. -/
abbrev Block := BitVec 32768

/-- A table held as plain data: pairs of key and value, at most the first of a key counting. -/
abbrev Table (κ α : Type) := List (κ × α)

end Sys2Proof
end

