-- ==== Sys2Proof/Packet.lean ====
section
/-! DEFINITION. What comes in with a command and goes out of the module, as typed records: HKT packets (R46 to R50),
queue setup messages (R104), submission and completion entries (R114, R117), register access entries (R535), pair
frames and drive commands.  The records hold the fields the spec names; their byte layouts are the spec's tables. -/

namespace Sys2Proof

/-! ## Hokutra transport (R46, R49) -/

/-- The flags of R46: line protection, fence, acknowledge at once, retransmission, notify. -/
structure HktFlags where
  g : Bool := false
  f : Bool := false
  a : Bool := false
  t : Bool := false
  n : Bool := false
  deriving DecidableEq, Repr

/-- The base header of R46, with the fields that R48 checks. -/
structure HktHdr where
  version  : Nat := 1
  opcode   : Nat
  flags    : HktFlags
  rsvSvc   : Bool := false
  svc      : Nat
  path     : Nat
  extLen   : Nat
  dst      : Eid
  src      : Eid
  psn      : Psn
  msgId    : Word32
  sendTs   : Word32
  echoTs   : Word32
  epoch    : BitVec 16
  unaDelta : Nat
  deriving DecidableEq, Repr

/-- What the ingress port sees of an HKT packet (R43), its UDP source port (R44), its GCM tag and, with flags.g = 1, its encrypted
payload (R70), whether it came over IPv6 and the VLAN of its tag (R42). -/
structure Ingress where
  port     : Nat
  fragment : Bool := false
  badCsum  : Bool := false
  ipOpts   : Bool := false
  tooShort : Bool := false
  srcPort  : Nat
  tag      : BitVec 128 := 0
  body     : List Byte := []
  v6       : Bool := false
  vlan     : Nat := 0
  deriving DecidableEq, Repr

/-- WRITE extension and payload (R49). -/
structure WriteExt where
  key      : Word32
  offset   : Nat
  msgLen   : Nat
  pktIndex : Nat
  pktCount : Nat
  payload  : List Byte
  deriving DecidableEq, Repr

/-- READ_REQ extension (R49). -/
structure ReadReqExt where
  key     : Word32
  offset  : Nat
  readLen : Nat
  deriving DecidableEq, Repr

/-- READ_RESP extension and payload (R49). -/
structure ReadRespExt where
  offset   : Nat
  pktIndex : Nat
  pktCount : Nat
  payload  : List Byte
  deriving DecidableEq, Repr

/-- SEND extension and payload (R49). -/
structure SendExt where
  service  : Nat
  msgLen   : Nat
  offset   : Nat
  pktIndex : Nat
  pktCount : Nat
  payload  : List Byte
  deriving DecidableEq, Repr

/-- DOORBELL extension (R49). -/
structure DoorbellExt where
  qpn   : Nat
  ring  : Nat
  value : Nat
  deriving DecidableEq, Repr

/-- ACK extension (R49). -/
structure AckExt where
  ackPsn   : Psn
  rwnd     : Nat
  echoPath : Nat
  deriving DecidableEq, Repr

/-- NAK extension (R49); the codes are those of R50. -/
structure NakExt where
  nakPsn   : Psn
  ackPsn   : Psn
  code     : Nat
  echoPath : Nat
  info     : Nat
  deriving DecidableEq, Repr

/-- PROBE extension (R49); kind 0 is a request, 1 a reply. -/
structure ProbeExt where
  id   : Word32
  kind : Nat
  path : Nat
  deriving DecidableEq, Repr

/-- A namespace location record (R341). -/
structure LocRec where
  nsid     : Nat
  ownerId  : Nat
  withdraw : Bool := false
  ownerGen : Word32
  ttl      : Nat
  deriving DecidableEq, Repr

/-- A module reachability record (R380). -/
structure ModRec where
  moduleId : Nat
  hops     : Nat
  withdraw : Bool := false
  deriving DecidableEq, Repr

/-- The extension and body of a packet, one form per opcode of R47. -/
inductive HktExt where
  | write    (x : WriteExt)
  | readReq  (x : ReadReqExt)
  | readResp (x : ReadRespExt)
  | send     (x : SendExt)
  | doorbell (x : DoorbellExt)
  | ack      (x : AckExt)
  | nak      (x : NakExt)
  | probe    (x : ProbeExt)
  | learnLoc (hop : Nat) (seq : Word32) (recs : List LocRec)
  | learnMod (hop : Nat) (seq : Word32) (recs : List ModRec)
  deriving DecidableEq, Repr

/-- A whole HKT packet as received or sent, with its ingress facts or, when sent, its UDP source port and tag. -/
structure HktPkt where
  hdr : HktHdr
  ext : HktExt
  ing : Ingress
  deriving DecidableEq, Repr

/-- What a packet the module sends carries outside its HKT headers (R42, R43, R74): the port, the Ethernet addresses (R369), the
802.1Q tag with its PCP where the port or the peer has a VLAN, the IP version, DF, the TTL or hop limit, the DSCP, the ECN field, the UDP
destination port and checksum. -/
structure HktWire where
  port    : Nat
  dstMac  : Option Nat
  srcMac  : Nat
  tag     : Option (Nat × Nat)
  v6      : Bool := false
  df      : Bool
  dscp    : Nat
  ecn     : Nat := 0
  ttl     : Nat := 64
  udpPort : Nat
  udpSum  : BitVec 16 := 0
  deriving DecidableEq, Repr

/-! ## Frames (R74, R349, R368, R370) -/

/-- What the switch reads of a frame's IP header: version, IP length (total length, or payload length plus 40), DSCP,
TTL or hop limit, addresses, and the UDP or TCP ports. -/
structure FrameIp where
  v6    : Bool := false
  len   : Nat
  dscp  : Nat
  ttl   : Nat
  src   : List Byte
  dst   : List Byte
  udp   : Bool := false
  ports : Option (Nat × Nat) := none
  deriving DecidableEq, Repr

/-- What the switch reads of an HKT header. -/
structure FrameHkt where
  opcode : Nat
  dst    : Eid
  src    : Eid
  path   : Nat
  svc    : Nat
  deriving DecidableEq, Repr

/-- A frame as it arrives at a port (R19): addresses, tag (VLAN and PCP), IP and HKT headers where it has them, the
facts of R43, whether it is a pair frame (R324), and its length from destination MAC to FCS. -/
structure Frame where
  port  : Nat
  dst   : Nat
  src   : Nat
  tag   : Option (Nat × Nat) := none
  ip    : Option FrameIp := none
  hkt   : Option FrameHkt := none
  bad43 : Bool := false
  pair  : Bool := false
  len   : Nat
  deriving DecidableEq, Repr

/-- How a frame's tail ends it (R353): good, a bad FCS (the stomp pattern included), an uncorrectable FEC codeword, or the
loss of the ingress link. -/
inductive FrameTail where
  | good | fcs | fec | linkLost
  deriving DecidableEq, Repr

/-! ## Queues (R104, R114, R117) -/

/-- A queue setup request of R104 as its 64 B message spells it. -/
structure QSetup where
  len         : Nat := 64
  op          : Nat
  precolour   : Bool := false
  admin       : Bool := false
  reqId       : Word32
  qpn         : Nat := 0
  sqEntries   : Nat := 0
  cqEntries   : Nat := 0
  notifyCount : Nat := 1
  notifyTime  : Nat := 0
  sqAddr      : Word64 := 0
  cqAddr      : Word64 := 0
  deriving DecidableEq, Repr

/-- A queue setup reply of R104. -/
structure QReply where
  op        : Nat
  status    : Nat
  reqId     : Word32
  qpn       : Nat := 0
  state     : Nat := 0
  cqPhase   : Nat := 0
  sqKey     : Word32 := 0
  cqKey     : Word32 := 0
  sqHead    : Nat := 0
  sqTail    : Nat := 0
  cqHead    : Nat := 0
  cqTail    : Nat := 0
  cqSeq     : Nat := 0
  inflight  : Nat := 0
  cmplCount : Nat := 0
  errCount  : Nat := 0
  deriving DecidableEq, Repr

/-- A submission queue entry (R114): the fields the module uses. -/
structure Sqe where
  opcode : Nat
  fuse   : Nat := 0
  psdt   : Nat
  cid    : Nat
  nsid   : Word32 := 0
  cdw2   : Word32 := 0
  dptr0  : Word64 := 0
  dptr1  : Word64 := 0
  cdw10  : Word32 := 0
  cdw11  : Word32 := 0
  cdw12  : Word32 := 0
  cdw13  : Word32 := 0
  cdw14  : Word32 := 0
  cdw15  : Word32 := 0
  deriving DecidableEq, Repr

/-- A completion status: type, code and the do-not-retry bit (R117). -/
structure Status where
  sct : Nat
  sc  : Nat
  dnr : Bool := false
  deriving DecidableEq, Repr

/-- A completion queue entry (R117) with the slot it goes to. -/
structure Cqe where
  slot   : Nat
  dw0    : Word32
  dw1    : Word32
  sqhd   : Nat
  cqSeq  : Nat
  cid    : Nat
  phase  : Bool
  status : Status
  more   : Bool
  deriving DecidableEq, Repr

/-- What a memory read over PCIe is for (R112, R115, R422): entries of a queue, bytes of a block of a command's data from an
offset in the block on, a PRP list or SGL segment of a command, a word of a slice's dirty bitmap. -/
inductive DmaUse where
  | sqe (qpn : Nat)
  | data (cmd block off : Nat)
  | list (cmd : Nat)
  | mark (slice buf word : Nat)
  deriving DecidableEq, Repr

/-- The configuration of an endpoint that enumeration leaves (R386, R393, R394): link rate code and width, FLIT mode,
interrupt mode (0 INTx, 1 MSI, 2 MSI-X), MSI messages allocated, whether ATS and PASID are enabled. -/
structure EpConfig where
  speed   : Nat
  width   : Nat
  flit    : Bool
  intMode : Nat
  msis    : Nat
  ats     : Bool
  pasid   : Bool
  deriving DecidableEq, Repr

/-! ## Register access (R535) -/

/-- An entry of a register access message. -/
structure RegAccess where
  addr  : Nat
  width : Nat
  kind  : Nat
  value : Word64
  deriving DecidableEq, Repr

/-- A register access request: the header fields that R537 checks and the entries. -/
structure RegRequest where
  len     : Nat
  op      : Nat
  count   : Nat
  reqId   : Word32
  rsv     : Bool := false
  entries : List RegAccess
  deriving DecidableEq, Repr

/-- The path an access comes from (R533). -/
inductive AccessPath where
  | core
  | bar0
  | service (src : Eid)
  | slice (s : Nat)
  deriving DecidableEq, Repr

/-! ## Events (R502 to R505) -/

/-- An event report on its way into the EVT block: code and severity (R502), source kind and source (R504), args in the
order named (R505), and the key of R507 where its chapter coalesces it. -/
structure Report where
  code    : Nat
  sev     : Nat
  srcKind : Nat
  source  : Nat
  args    : List Nat
  key     : Option Nat := none
  deriving DecidableEq, Repr

end Sys2Proof
end

