-- ==== Sys2Proof/Pool.lean ====
section
/-! DEFINITION. The records of the pool that several blocks and both modules of a pair share: owners and namespaces
(chapters 04, 05), map entries, segments and Firn records (07), Névé descriptors (08), Crevasse entries (09), what a drive
reports of itself (10), pair frames (11) and key and slot states (06, 17). -/

namespace Sys2Proof

/-- The owner of a queue pair (R101). -/
inductive QOwner where
  | net (eid : Eid)
  | fn
  | slice (s : Nat)
  deriving DecidableEq, Repr

/-- The states of R140; a FREE entry is one the table does not list. -/
inductive NsState where
  | active | deleting
  deriving DecidableEq, Repr

/-- Who an attachment entry admits (R147): a CNTLID, or an EID prefix with rights. -/
inductive AttachKey where
  | cntlid (c : Nat)
  | eid (e : Eid) (len : Nat)
  deriving DecidableEq, Repr

/-- An attachment entry with its rights. -/
structure Attach where
  key : AttachKey
  rd  : Bool
  wr  : Bool
  deriving DecidableEq, Repr

/-- A namespace table entry (R139, R145, R150, R165); modes are 0 mirror-required, 1 local, 2 write-through,
3 early-ack; kgen and the retiring slot are those of R188, the check values those of the keys its slots hold (R182). -/
structure Ns where
  state    : NsState := .active
  creator  : Nat
  mode     : Nat
  assured  : Bool
  group    : Nat
  keySlot  : Nat
  tenant   : Nat
  nsze     : Nat
  attach   : List Attach := []
  ownerId  : Nat
  gen      : Nat := 0
  kgen     : Bool := false
  oldSlot  : Option Nat := none
  zapOld   : Bool := false
  check    : Option Word64 := none
  oldCheck : Option Word64 := none
  deriving DecidableEq, Repr

/-- A map entry (R210). -/
inductive MapEnt where
  | unmapped
  | member (kgen : Bool) (seg off : Nat)
  | neve (kgen : Bool) (idx : Nat)
  | lost (seg off : Nat)
  deriving DecidableEq, Repr

/-- The segment states of R203; FREE is a segment the table does not list. -/
inductive SegState where
  | isOpen | isSealed | calving | releasing
  deriving DecidableEq, Repr

/-- The heads of R197. -/
inductive HeadId where
  | host (g : Nat)
  | cold (g : Nat)
  | meta_
  deriving DecidableEq, Repr

/-- What a block of a metadata segment holds (R218, R211, R204, R220, R227). -/
inductive MetaBlk where
  | firn (first count : Nat)
  | page (ns page : Nat)
  | summary (seg part : Nat)
  | segPage (n : Nat)
  | dirPage (ns n : Nat)
  | root (j : Nat)
  deriving DecidableEq, Repr

/-- A valid block of a segment summary (R227), or what a metadata block is. -/
inductive SegBlk where
  | data (ns lba : Nat) (kgen : Bool)
  | md (b : MetaBlk)
  deriving DecidableEq, Repr

/-- A segment table entry (R204): m is 2 or 3, extents of e granules at `base` on `members`; with it its summary by data
block offset (R227), the stripes begun, whether it is closed (R209), and where its summary lies. -/
structure Seg where
  state   : SegState := .isOpen
  head    : HeadId
  k       : Nat
  m       : Nat
  e       : Nat
  done    : Nat := 0
  live    : Nat := 0
  sealSeq : Nat := 0
  members : List Nat
  base    : List Nat
  begun   : Nat := 0
  closed  : Bool := false
  blocks  : Table Nat SegBlk := []
  summary : Option (Nat × Nat) := none
  deriving DecidableEq, Repr

/-- A recorded outcome of the management sequence (R142): number, status, DW0 and DW1. -/
structure MgmtOutcome where
  seq    : Word32
  status : Status
  dw0    : Word32
  dw1    : Word32
  deriving DecidableEq, Repr

/-- The image an NS_META record carries (R220). -/
inductive NsImage where
  | entry (i : Nat) (n : Ns)
  | attach (i : Nat) (l : List Attach)
  | mgmtSeq (accepted completed : Nat) (r : Option MgmtOutcome) (dels : List (Word32 × List Nat))
  | tenant (t a b c : Nat)
  | service (i mode tenant : Nat)
  | keyGen (i : Nat) (kgen : Bool) (slot : Nat) (old : Option Nat) (zap : Bool) (check oldCheck : Option Word64)
  deriving DecidableEq, Repr

/-- What a Firn record says (R220); a group is NS_META records that commit together (R142). -/
inductive FirnBody where
  | mapSet (ns lba count seg off : Nat) (kgen : Bool)
  | mapClear (ns lba count : Nat)
  | segState (seg : Nat) (s : Option Seg)
  | pagePut (ns page seg off baseSeq crc : Nat)
  | nsMeta (i : NsImage)
  | nsGroup (l : List NsImage)
  | checkpoint (replayStart seg off : Nat)
  | summaryPut (seg mseg moff : Nat)
  | nsDelete (ns nsid : Nat)
  deriving DecidableEq, Repr

/-- A Firn record (R219): its sequence number, origin (0 host, 1 Calving, 2 sweep, 3 rebuild, 4 deletion) and body; its
continuation records take the numbers after it. -/
structure FirnRec where
  seq    : Nat
  origin : Nat
  body   : FirnBody
  deriving DecidableEq, Repr

/-- A Névé descriptor (R243) without its state: index, owner, LBA, commit_seq, firn_mark (the low 32 bits), flags. -/
structure NeveDesc where
  ns       : Nat
  owner    : QOwner
  lba      : Nat
  seq      : Nat
  firnMark : Nat
  early    : Bool
  fua      : Bool
  kgen     : Bool
  deriving DecidableEq, Repr

/-- A Crevasse entry (R288). -/
structure Crev where
  nsid   : Nat
  slba   : Nat
  nlb    : Nat
  cause  : Nat
  member : Nat
  seg    : Nat
  dtc    : Word64
  deriving DecidableEq, Repr

/-- A valid copy of a pool label (R225). -/
structure DriveLabel where
  seq      : Nat
  poolId   : Nat
  member   : Nat
  chunk128 : Bool
  ckptLoc  : Nat
  ckptSeq  : Nat
  deriving DecidableEq, Repr

/-- What bring-up finds at a drive (R302, R303, R307, R308): whether the link reached L0 in time, its rate in GT/s and
width, FLIT mode, class code, whether CSTS.RDY came in time, the properties R308 checks, the controller's CNTLID, and
the valid label copies read. -/
structure DriveFacts where
  l0        : Bool
  rate      : Nat
  width     : Nat
  flit      : Bool
  classCode : Nat
  ready     : Bool
  active    : Nat
  lbads     : Nat
  metadata  : Nat
  capacity  : Nat
  mdts      : Nat
  mqes      : Nat
  granted   : Nat
  vwc       : Bool
  vwcOff    : Bool
  ps0       : Nat
  dsm       : Bool
  locked    : Bool
  warning   : Nat
  shared    : Bool
  otherPort : Bool
  cntlid    : Nat
  labels    : List DriveLabel
  deriving DecidableEq, Repr

/-! ## Keys and slots that pass between the modules of a pair -/

/-- The kinds of R179. -/
inductive KeyKind where
  | xts | gcm | kek
  deriving DecidableEq, Repr

/-- The states of R179 but EMPTY; an EMPTY slot is one the table does not list. -/
inductive SlotState where
  | loaded | awaiting | zeroised
  deriving DecidableEq, Repr

/-- What a slot is bound to (KEY_SLOT_INFO.bind): nothing, a namespace by index, or retiring for one; bindings by
KEY_EP_PROT entries are counted from that table. -/
inductive KeyBind where
  | none
  | ns (i : Nat)
  | retiring (i : Nat)
  deriving DecidableEq, Repr

/-- A key slot (R179, R182): its key as two Boolean shares, 512 bits wide for XTS and in the low 256 for the others, its check value and
whether that is known. -/
structure KeySlot where
  kind    : KeyKind
  state   : SlotState
  assured : Bool
  persist : Bool
  bind    : KeyBind := .none
  key     : BitVec 512
  mask    : BitVec 512 := 0
  check   : Word64
  known   : Bool := true
  deriving DecidableEq, Repr

/-- The key that a slot's shares give. -/
def KeySlot.value (k : KeySlot) : BitVec 512 := k.key ^^^ k.mask

/-- What stays of a slot without its key. -/
def KeySlot.bare (k : KeySlot) : KeySlot := { k with key := 0, mask := 0 }

/-- A KEY frame (R184): the pair key's agreement (the public key, its signature, the attestation key that the sender's certificate chain
names, whether that chain is good), a key command's outcome on a slot, its acknowledgement, or the store of one side for the merge; keys
travel wrapped under the pair key. -/
inductive KeyFrame where
  | agree (pub sig cert : List Byte) (chainOk : Bool)
  | load (slot : Nat) (k : KeySlot) (wrapped : List Byte)
  | zeroise (slot : Nat)
  | zeroiseAll
  | rotate (i slot : Nat) (zap : Bool)
  | applied (slot : Nat)
  | store (l : List (Nat × KeySlot × List Byte))
  deriving DecidableEq, Repr

/-- The state of a slot power channel that SLOT RELEASE carries (R465) and SLOT frames report (R464): the state of
SLT_CH_STATUS, the fault timer in µs, retries left. -/
structure ChanState where
  state   : Nat
  timer   : Nat
  retries : Nat
  deriving DecidableEq, Repr

/-- What the sense lines of a slot channel show in a sample (R450, R454 to R461): the 12 V output, the 3.3 V aux and the
supply in mV, the current in mA, the NTC in °C or none where it reads open or short. -/
structure SlotSense where
  vOut   : Nat := 0
  v3     : Nat := 0
  supply : Nat := 12000
  cur    : Nat := 0
  ntc    : Option Int := some 25
  deriving DecidableEq, Repr

/-- A SLOT frame other than RELEASE and TAKEN (R464): the owner's report, a forwarded SLT_CMD with its op, its result. -/
inductive SlotFrame where
  | report (slot : Nat) (c : ChanState)
  | cmd (slot op : Nat)
  | result (slot res : Nat)
  deriving DecidableEq, Repr

/-- A MEMBER frame (R297, R299): a declaration with its cause, an adoption, a pool created, and the label sequence that goes
with it. -/
inductive MemberFrame where
  | failed (member cause : Nat) (labelSeq : Nat)
  | joined (member : Nat) (labelSeq : Nat)
  | pool (poolId : Nat) (chunk128 : Bool) (members : List Nat) (labelSeq : Nat)
  deriving DecidableEq, Repr

/-- A CREVASSE frame (R291, R328): a run entered, blocks healed, a namespace's entries removed, or one side's list for the
merge. -/
inductive CrevFrame where
  | add (c : Crev)
  | heal (nsid slba nlb : Nat)
  | drop (nsid : Nat)
  | list (l : List Crev)
  deriving DecidableEq, Repr

/-- A DRIVE frame (R303, R315): a refusal with its reason, a power cycle request or notice. -/
inductive DriveFrame where
  | refused (member reason : Nat)
  | cycle (member : Nat)
  deriving DecidableEq, Repr

/-- A SEG_GRANT frame (R322): a request for a head, or granted segments. -/
inductive GrantFrame where
  | request (h : HeadId)
  | grant (h : HeadId) (l : List (Nat × Seg))
  deriving DecidableEq, Repr

/-- A forwarded command (R337): the forwarder's number for it, opcode, namespace index, first LBA, blocks, FUA, issuing
owner, key generation of its ciphertext, and the ranges of a Copy or Dataset Management. -/
structure FwdCmd where
  id     : Nat
  opcode : Nat
  ns     : Nat
  lba    : Nat
  nlb    : Nat
  fua    : Bool
  owner  : QOwner
  kgen   : Bool
  ranges : List (Nat × Nat) := []
  deriving DecidableEq, Repr

/-- A block in FWD_DATA (R337): ciphertext with its key generation, a block that reads as zeroes, or a lost one. -/
inductive FwdBlock where
  | cipher (kgen : Bool) (b : Block)
  | zero
  | lost
  deriving DecidableEq, Repr

/-- The sequenced pair frames (R325). -/
inductive PairMsg where
  | nevePut (idx : Nat) (d : NeveDesc) (data : Block)
  | firnPut (l : List FirnRec) (floor : Nat)
  | mirrorAck (acked firnAcked : Nat)
  | neveRetire (l : List Nat)
  | neveFetch (idx : Nat)
  | firnReq (origin : Nat) (body : FirnBody)
  | owner (i gen : Nat)
  | segGrant (g : GrantFrame)
  | fwdCmd (c : FwdCmd)
  | fwdData (id block : Nat) (b : FwdBlock)
  | fwdDone (id : Nat) (st : Status) (dw0 dw1 : Word32)
  | key (k : KeyFrame)
  | member (m : MemberFrame)
  | crevasse (c : CrevFrame)
  | slotRelease (slot : Nat) (c : ChanState)
  | slotTaken (slot : Nat)
  | slot (f : SlotFrame)
  | drive (f : DriveFrame)
  deriving DecidableEq, Repr

/-- The header of a received pair frame (R324): the pair link it came on, seq, ack and formation. -/
structure PairHdr where
  link      : Nat
  seq       : Nat
  ack       : Nat
  formation : Nat
  deriving DecidableEq, Repr

/-- The payload of a HEARTBEAT (R327). -/
structure Heartbeat where
  moduleId  : Nat
  bayB      : Bool
  state     : Nat
  master    : Bool
  dumping   : Bool
  proto     : Nat
  poolId    : Nat
  count     : Nat
  formation : Nat
  version   : Nat
  deriving DecidableEq, Repr

/-- What the noise tests saw and, where they failed, the 1,024 samples of their repetition (R191, R194). -/
structure NoiseRun where
  seen  : List Bool
  again : List Bool
  deriving DecidableEq, Repr

/-- A row read whose time is over, and the chunk of it that is late where it waits for several (R240). -/
structure LateRead where
  read  : Nat
  chunk : Option Nat
  deriving DecidableEq, Repr

/-- The payload of a FIRN_PUT (R254, R321): records in order, and the sequence below which records are on members. -/
structure FirnPut where
  recs  : List FirnRec
  floor : Nat
  deriving DecidableEq, Repr

/-- What a reset finds that the module cannot know before it: the cipher lanes that fail their known-answer test (R193), the
outcome of the other known-answer tests (R192, R194: 0 passed, else failed), the noise samples of the startup tests and of their
repetition (R191, R194), the slots that the partner has adopted by step 6 of the boot (R466, R479). -/
structure BootIn where
  lanes    : List Nat
  selfTest : Nat
  adopted  : List Nat
  noise    : List Bool := []
  again    : List Bool := []
  deriving DecidableEq, Repr

/-- What the unit of an uncorrectable HBM error belongs to (R29, R30): nothing an operation owns, a Névé slot, a cached map
page, a command's block being read, a stripe being built, a segment being restored, the copies of a peer context. -/
inductive HbmHit where
  | none
  | neve (idx : Nat)
  | page (ns p : Nat)
  | read (cmd block : Nat)
  | stripe (n : Nat)
  | restore (seg : Nat)
  | peer (localEid peerEid : Eid)
  deriving DecidableEq, Repr

/-- What the sensors of PWR read in a second (R447, R449): bus in mV and 0.1 A, of each feed RMS in 0.1 V, frequency in 0.1 Hz and power
in W, temperatures in °C of die, inlet, store and front ends, the string voltage in mV. -/
structure PwrRead where
  vbus   : Nat
  ibus   : Nat
  feedA  : Nat × Nat × Nat
  feedB  : Nat × Nat × Nat
  die    : Nat
  inlet  : Nat
  store  : Nat
  feA    : Nat
  feB    : Nat
  vstore : Nat
  deriving DecidableEq, Repr

/-! ## What members and flash hold -/

/-- A map page (R211): where its written copy lies (none: never written), whether it is cached, dirty, used since the
CLOCK hand last passed, being read, whether compaction has copied it and nothing has changed it since (R224), the
base_seq of its directory entry, and the seq of the last map record applied to it (R321). -/
structure MapPage where
  loc     : Option (Nat × Nat) := none
  cached  : Bool := true
  dirty   : Bool := false
  used    : Bool := true
  reading : Bool := false
  copied  : Bool := false
  baseSeq : Nat := 0
  last    : Nat := 0
  deriving DecidableEq, Repr

/-- A checkpoint (R224): the seq of its record, replay_start, and what the pages named by its root blocks hold: the segment
table and the page directories, where the metadata blocks they are read from lie, and the namespace table, management
sequence with the deletes accepted (R142) and tenant values (R154) its Firn records had built. -/
structure Checkpoint where
  seq         : Nat
  replayStart : Nat
  segs        : Table Nat Seg
  ns          : Table Nat Ns
  mgmt        : Nat × Nat × Option MgmtOutcome
  dirs        : Table (Nat × Nat) MapPage
  named       : List (MetaBlk × Nat × Nat) := []
  tenants     : Table Nat (Nat × Nat × Nat) := []
  dels        : List (Word32 × List Nat) := []
  deriving DecidableEq, Repr

/-- What the members hold of the pool's metadata as the module wrote it (assumption log 13): the label, the newest
checkpoint, the one before it while a label that names it may still be the newest (R224), map page copies by page, Firn records
on members, Firn blocks that cannot be read any more, and of each segment the stripes done and the blocks in them. -/
structure Media where
  label : Option DriveLabel := none
  ckpt  : Option Checkpoint := none
  prev  : Option Checkpoint := none
  pages : Table (Nat × Nat) (Nat × List (Nat × MapEnt)) := []
  firn  : List FirnRec := []
  bad   : List (Nat × Nat) := []
  held  : Table Nat (Nat × Table Nat SegBlk) := []
  deriving DecidableEq, Repr

/-- A bank of the configuration flash (R468): generation, state (0 empty, 1 stored, 2 pending, 3 confirmed, 4 bad), boots
tried while pending, the record's hash of the image, the image. -/
structure Bank where
  gen   : Nat := 0
  state : Nat := 0
  tries : Nat := 0
  hash  : BitVec 384 := 0
  image : List Byte := []
  deriving DecidableEq, Repr

end Sys2Proof
end

