-- ==== Sys2Proof/Syntax.lean ====
section
/-! DEFINITION. The commands of the block: one constructor for each row of spec/opcode_table.json, with the operands that
the row's rule names.  The table gives no bits, so a command has no word; the rule of each row stands in its comment. -/

namespace Sys2Proof

/-- A command: what a host, a peer, the partner, a drive, a timer, a sensor or a control core brings to the module. -/
inductive Instr where
  /-- R14: A write to a register that has no row of its own stores or ignores each field according to its access code. -/
  | registerWrite (path : AccessPath) (a : Nat) (width : Nat) (v : Nat)
  /-- R364: Reading min_free returns the lowest free cell count and reloads it with the current count. -/
  | swcBufStatusRead
  /-- R449: Reading vbus_min returns the lowest bus voltage and reloads it with vbus. -/
  | pwrBusStatusRead
  /-- R467: Reading p_max_dw returns the highest 1 ms power average and reloads it with p_dw. -/
  | sltChAvgRead (x : Nat)
  /-- R15: Loss and return of module power resets the whole module and starts the boot. -/
  | coldReset (straps : Nat) (feed : Nat) (banks : List (Nat × Bank)) (b : BootIn)
  /-- R15: A module reset by GLB control, the service button or firmware resets everything except RS registers, the vault and the Rime log. -/
  | warmReset (cause : Nat) (b : BootIn)
  /-- R22: A control core access to a data area ends in a bus error and raises EV_GLB_CORE_DATA_ACCESS without changing data. -/
  | coreDataAccess (core : Nat)
  /-- R26: The reference absent or more than 200 ppm off for 10 µs puts the PLL in holdover, raises EV_CLK_REF_LOST and starts the journal dump. -/
  | refLost (ppm : Nat)
  /-- R30: An uncorrectable HBM error raises EV_HBM_UE and is handled according to its area. -/
  | hbmUe (area : Nat) (off : Nat) (hit : HbmHit)
  /-- R536: A SEND to service 0x0002 executes its register access entries in order and sends one reply. -/
  | mgmtRegisterAccess
  /-- R59: A received WRITE packet is checked, placed at its region offset and acknowledged. -/
  | hktWriteRx (h : HktHdr) (x : WriteExt) (g : Ingress)
  /-- R60: A received READ_REQ is checked and executed once, answered with READ_RESP packets. -/
  | hktReadReqRx (h : HktHdr) (x : ReadReqExt) (g : Ingress)
  /-- R59: A received READ_RESP is checked against its outstanding read and placed by resp_offset. -/
  | hktReadRespRx (h : HktHdr) (x : ReadRespExt) (g : Ingress)
  /-- R53: A received SEND packet is placed in its message and delivered to its service when complete. -/
  | hktSendRx (h : HktHdr) (x : SendExt) (g : Ingress)
  /-- R110: A received DOORBELL packet is applied in PSN order to the named queue's SQ tail or CQ head. -/
  | hktDoorbellRx (h : HktHdr) (x : DoorbellExt) (g : Ingress)
  /-- R62: A received ACK releases kept copies, advances snd_una, updates peer_rwnd and takes an RTT sample. -/
  | hktAckRx (h : HktHdr) (x : AckExt) (g : Ingress)
  /-- R62: A received NAK acknowledges up to ack_psn and goes back, waits or fails the message by its code. -/
  | hktNakRx (h : HktHdr) (x : NakExt) (g : Ingress)
  /-- R49: A PROBE request is answered at once with a reply on the same path; a reply updates the path RTT. -/
  | hktProbeRx (h : HktHdr) (x : ProbeExt) (g : Ingress)
  /-- R59: The ACK delay timer expires and the receiver sends an ACK. -/
  | ackDelayExpiry (loc : Eid) (peer : Eid)
  /-- R59: The gap timer expires and the receiver sends NAK SEQ_GAP for rcv_nxt and restarts the timer. -/
  | gapTimerExpiry (loc : Eid) (peer : Eid)
  /-- R62: The retransmit timer expires: backoff, cwnd cut and go-back-N, or context failure at the limit. -/
  | rtoExpiry (loc : Eid) (peer : Eid)
  /-- R62: The RNR wait of info µs ends and the sender goes back to nak_psn. -/
  | rnrWaitExpiry (loc : Eid) (peer : Eid)
  /-- R75: With rwnd 0 and nothing outstanding, a window probe is sent after each retransmit timeout. -/
  | windowProbeDue (loc : Eid) (peer : Eid)
  /-- R64: Each probe interval a PROBE request is sent on each slow path. -/
  | pathProbeInterval (loc : Eid) (peer : Eid)
  /-- R173: After the PSN cap or age limit and once snd_una equals snd_nxt, the sender moves to the next epoch at PSN 0. -/
  | epochAdvance (loc : Eid) (peer : Eid)
  /-- R54: A send waiting for context space proceeds once spill space returns. -/
  | spillSendResume
  /-- R68: Once packets past the key check complete, a REVOKING region becomes FREE with its tag incremented. -/
  | regionRevokeDone (i : Nat)
  /-- R93: A calendar slot comes round and its shapers, paced sends and held commands are served in insertion order. -/
  | calendarSlot (slot : Nat)
  /-- R97: A held command that waited 100 ms completes with ST_TENANT_POLICED. -/
  | policeHoldTimeout (c : Nat)
  /-- R98: Each sample period the TMS reads depth and head delay of every egress queue. -/
  | tmsQueueSample
  /-- R88: A root picks its next item by strict class, class DRR, tenant DRR and colour. -/
  | schedulerPick (root : Nat)
  /-- R83: The PFC frame of a paused priority is refreshed every 0xFFFF × 256 bit times. -/
  | pfcRefresh (p : Nat) (tc : Nat)
  /-- R84: A received PFC frame pauses or releases a priority on the port within 0.2 µs. -/
  | pfcFrameRx (p : Nat) (l : List (Nat × Nat))
  /-- R84: The pause time of a priority runs out and the priority resumes. -/
  | pfcPauseExpiry (p : Nat) (tc : Nat)
  /-- R85: A queue paused with frames waiting for storm_ms disables PFC on that priority and raises EV_MAC_PFC_STORM. -/
  | pfcStormTrip (p : Nat) (tc : Nat)
  /-- R85: No PFC frame for storm_restore × 10 ms restores PFC and raises EV_MAC_PFC_RESTORED. -/
  | pfcStormRestore (p : Nat) (tc : Nat)
  /-- R105: A queue setup CREATE allocates a QPN and two ring regions and replies with their keys. -/
  | queueCreate (src : Eid) (dst : Eid) (m : QSetup)
  /-- R106: A queue setup DELETE puts the queue pair in DELETING and drains its commands. -/
  | queueDelete (src : Eid) (dst : Eid) (m : QSetup)
  /-- R107: A queue setup QUERY returns the queue pair's current state. -/
  | queueQuery (src : Eid) (dst : Eid) (m : QSetup)
  /-- R106: A queue setup RESET applies DELETE to every queue pair of the requesting EID. -/
  | queueReset (src : Eid) (dst : Eid) (m : QSetup)
  /-- R106: Once no command remains, ring regions are revoked, the QPN is freed and the reply is sent. -/
  | queueDeletionDone (q : Nat)
  /-- R108: Create I/O Completion Queue creates a local CQ. -/
  | createIoCq (c : Nat)
  /-- R108: Create I/O Submission Queue creates a local SQ on an unused CQ. -/
  | createIoSq (c : Nat)
  /-- R108: Delete I/O Submission Queue deletes a local SQ as R106 gives. -/
  | deleteIoSq (c : Nat)
  /-- R108: Delete I/O Completion Queue deletes a local CQ. -/
  | deleteIoCq (c : Nat)
  /-- R109: A 32-bit write to a BAR2 doorbell sets an SQ tail or CQ head of a local queue. -/
  | localDoorbellWrite (o : QOwner) (offset : Nat) (width : Nat) (value : Nat)
  /-- R113: Fetch of a paused queue resumes by itself once no pause condition holds. -/
  | fetchResume
  /-- R112: A fetch completes, its entries are accepted and sq_head passes them. -/
  | sqeFetchComplete (q : Nat)
  /-- R112: Completions of a local host port memory read return SQEs or data. -/
  | localDmaCompletion (j : Nat) (d : List Byte)
  /-- R400: A completion timeout or Completer Abort on a module read fails the command or puts the queue in ERROR. -/
  | dmaCompletionTimeout (j : Nat) (abort : Bool)
  /-- R120: An admitted command with no ordering hold starts its transfers and drive commands. -/
  | commandStart (c : Nat)
  /-- R118: A completed command's CQE is written into a freed CQ slot with cq_seq and phase. -/
  | cqePost (q : Nat)
  /-- R119: The merge wait of a CQE expires and its completion WRITE is sent. -/
  | mergeWaitExpiry (q : Nat)
  /-- R119: notify_time passes with no completion WRITE due and a WRITE with flags.n is sent. -/
  | notifyTimeExpiry (q : Nat)
  /-- R393: The coalescing time of a local vector expires and its interrupt message is sent. -/
  | intCoalesceExpiry (o : QOwner) (v : Nat)
  /-- R122: Flush covers every earlier accepted write to its namespace or namespaces. -/
  | flush (c : Nat)
  /-- R122: A Flush completes once every covered write has reached its required point. -/
  | flushDone (c : Nat)
  /-- R114: Write reserves Névé slots, pulls and encrypts data, commits it and acknowledges under the durability mode. -/
  | write (c : Nat)
  /-- R114: Read looks up the map, reads members or Névé, decrypts and transfers the data. -/
  | read (c : Nat)
  /-- R214: Write Zeroes sets entries unmapped and appends MAP_CLEAR records. -/
  | writeZeroes (c : Nat)
  /-- R215: Dataset Management deallocates its ranges when the Deallocate attribute is set. -/
  | datasetManagement (c : Nat)
  /-- R216: Copy reads all source blocks and then writes them re-encrypted at the destination. -/
  | copy (c : Nat)
  /-- R123: WAIT holds later commands of its SQ until a target queue's cmpl_count reaches a value. -/
  | wait (c : Nat)
  /-- R125: A WAIT reaching its timeout completes with ST_HELD_TIMEOUT. -/
  | waitTimeout (c : Nat)
  /-- R126: Abort decides a named command against its state in one step. -/
  | abort (c : Nat)
  /-- R133: An admin command held by an activation window past admin_hold_ms completes with ST_HELD_TIMEOUT reason 2. -/
  | adminHoldTimeout (c : Nat)
  /-- R133: A command held by an ownership change past owner_hold_ms completes with ST_HELD_TIMEOUT reason 3. -/
  | ownerHoldTimeout (c : Nat)
  /-- R159: Get Log Page returns a supported log page. -/
  | getLogPage (c : Nat)
  /-- R144: Identify returns the namespace, controller or list structure of the CNS. -/
  | identify (c : Nat)
  /-- R157: Set Features sets a standard supported feature. -/
  | setFeatures (c : Nat)
  /-- R154: Set Features C0h writes a tenant's three TMS registers. -/
  | setFeaturesTenant (c : Nat)
  /-- R153: Set Features C1h changes a namespace's durability mode or tenant. -/
  | setFeaturesNsService (c : Nat)
  /-- R153: Set Features C1h completes once earlier early-ack writes are committed locally. -/
  | nsServiceDone
  /-- R157: Get Features returns the current value of a supported feature. -/
  | getFeatures (c : Nat)
  /-- R158: An Asynchronous Event Request is kept outstanding or completed with a kept event. -/
  | asyncEventRequest (c : Nat)
  /-- R146: Namespace Management create makes an ACTIVE namespace and returns its NSID. -/
  | nsCreate (c : Nat)
  /-- R149: Namespace Management delete puts the namespace in DELETING and fails unstarted commands. -/
  | nsDelete (c : Nat)
  /-- R149: Once no started command remains, Névé entries and map pages are dropped and the namespace becomes FREE. -/
  | nsDeleteDrained (i : Nat)
  /-- R147: Namespace Attachment attach adds or replaces attachment entries. -/
  | nsAttach (c : Nat)
  /-- R147: Namespace Attachment detach removes attachment entries. -/
  | nsDetach (c : Nat)
  /-- R156: REGION_REGISTER enters a kind 1 host region and returns its key. -/
  | regionRegister (c : Nat)
  /-- R69: REGION_REVOKE puts a kind 1 region into REVOKING and completes when its packets are settled. -/
  | regionRevoke (c : Nat)
  /-- R482: Firmware Image Download places image bytes in the download buffer. -/
  | firmwareImageDownload (c : Nat)
  /-- R482: The download buffer is emptied after 10 minutes without a download. -/
  | downloadBufferExpiry
  /-- R482: Commit CA 000b verifies the buffer and writes it to the bank as stored. -/
  | firmwareCommitStore (c : Nat)
  /-- R482: Commit CA 001b writes the buffer to the bank as pending for the next reset. -/
  | firmwareCommitPending (c : Nat)
  /-- R482: Commit CA 010b verifies the bank's image and marks it pending. -/
  | firmwareCommitActivateSlot (c : Nat)
  /-- R483: Commit CA 011b writes the buffer and activates a CORE-only change at once. -/
  | firmwareCommitActivateNow (c : Nat)
  /-- R484: The old firmware writes its hand-over state and the cores are reset into the new CORE. -/
  | actHandoverDone
  /-- R484: The new firmware takes the hand-over state, the activation record is appended and the window closes. -/
  | actFirmwareReady (pkgs : Nat)
  /-- R485: New firmware not at step 4 by 180 ms: cores return to the old CORE and the bank is marked bad. -/
  | actTimeout
  /-- R246: A 4 KiB unit leaves the cipher and, for a write, is written to its Névé slot and committed. -/
  | cipherUnitDone (lane : Nat)
  /-- R251: A waiting write reserves its slots in fetch order once slots are free. -/
  | neveReserve
  /-- R181: KEY_CMD KEK_AGREE performs ECDH and places a derived KEK in the slot with a signed response. -/
  | kekAgree (slot : Nat) (persist : Bool)
  /-- R182: KEY_CMD IMPORT unwraps a key into a slot. -/
  | keyImport (slot : Nat) (aux : Nat) (kind : Nat) (assured : Bool) (persist : Bool)
  /-- R187: KEY_CMD ZEROISE erases a slot's key everywhere. -/
  | zeroise (slot : Nat)
  /-- R188: KEY_CMD ROTATE_NS binds a new slot to a namespace and starts the sweep. -/
  | rotateNs (slot : Nat) (i : Nat) (zap : Bool)
  /-- R187: KEY_CMD ZEROISE_ALL zeroises every slot and vault key record. -/
  | zeroiseAll
  /-- R188: The background sweep re-encrypts blocks of the old kgen into new stripes. -/
  | rotationSweep (i : Nat)
  /-- R174: A write of a KEY_EP_PROT entry keeps the old slot as previous slot. -/
  | keyEpProtWrite (e : Nat) (eid : Nat) (len : Nat) (slot : Nat)
  /-- R174: The previous slot of an entry is dropped after 2,048 s. -/
  | prevSlotExpiry (e : Nat)
  /-- R190: The DRBG reseeds after 2^16 requests or 1 s. -/
  | drbgReseed
  /-- R194: A noise test failure repeats the startup tests and may put the KEY block in state failed. -/
  | noiseTestFail (l : NoiseRun)
  /-- R184: A KEY pair frame applies a key command on the partner. -/
  | keyFrameRx (h : PairHdr) (f : KeyFrame)
  /-- R248: A host head places the next committed block into the open stripe. -/
  | headPlaceBlock (g : Nat)
  /-- R206: A stripe's fill timer expires and it is written padded. -/
  | fillTimerExpiry (n : Nat)
  /-- R207: A member completes a chunk write; when all are done the stripe is on members. -/
  | chunkWriteDone (x : Nat) (tag : Nat)
  /-- R222: flush_us passes and a partly filled Firn stripe is written padded. -/
  | firnFlushExpiry
  /-- R224: Firn compaction starts when replay size or dirty pages exceed their triggers. -/
  | compactionStart
  /-- R211: A map page read completes and every waiting lookup is served. -/
  | mapPageReadDone (ns : Nat) (p : Nat)
  /-- R228: Calving chooses a victim and relocates its live blocks to the cold head. -/
  | calvingVictim
  /-- R230: A RELEASING segment becomes FREE once its earlier member reads have completed. -/
  | segmentReleaseDone (seg : Nat)
  /-- R227: After NS_DELETE a background walk decrements live counts of the former map. -/
  | nsLiveWalk
  /-- R233: At each adaptation window end a group's k_target is set from its padded share. -/
  | adaptWindowEnd (g : Nat)
  /-- R237: Every 10 ms each member's prediction is read and slowness is set or cleared. -/
  | hedgeWindowEnd
  /-- R240: A read still outstanding after T is hedged late. -/
  | lateHedgeExpiry (r : LateRead)
  /-- R254: A NEVE_PUT is written into the mirror part and committed, with a MIRROR_ACK sent. -/
  | nevePutRx (h : PairHdr) (idx : Nat) (d : NeveDesc) (b : Block)
  /-- R254: A FIRN_PUT places Firn records in the receiver's tail. -/
  | firnPutRx (h : PairHdr) (l : FirnPut)
  /-- R254: A MIRROR_ACK acknowledges mirrored writes and commits Firn records below firn_acked. -/
  | mirrorAckRx (h : PairHdr) (a : Nat) (f : Nat)
  /-- R255: A NEVE_RETIRE frees the named mirror slots. -/
  | neveRetireRx (h : PairHdr) (l : List Nat)
  /-- R256: A NEVE_FETCH is answered with a NEVE_PUT of the named slot. -/
  | neveFetchRx (h : PairHdr) (idx : Nat)
  /-- R261: The ride-through window ends with no feed and the journal dump starts. -/
  | dumpStart
  /-- R262: The mirror flush wait ends and ports are stopped and dump writing begins. -/
  | mirrorFlushEnd
  /-- R262: The dump writing finishes, the trailer seals it and the shutdown outcome is written. -/
  | dumpSeal (sealed : List Nat) (torn : List Nat) (power : Bool) (b : BootIn)
  /-- R269: Névé and the Firn tail drained, an empty dump of cause 0x3 is written. -/
  | orderlyStopDrained (b : BootIn)
  /-- R269: A stop not finished in 10 s writes a full dump of cause 0x3. -/
  | orderlyStopTimeout
  /-- R271: A member link down for link_loss_ms fails the member with cause 0x3. -/
  | linkLossTimeout (x : Nat)
  /-- R278: The rebuild engine takes the next segment from the queue to restore or evacuate. -/
  | rebuildSegmentStart
  /-- R281: Restored chunk writes complete; after the last stripe the SEG_STATE record is appended. -/
  | rebuildStripeDone (seg : Nat)
  /-- R284: Every 100 ms firmware sets the rebuild floor and weight. -/
  | rebuildRateUpdate
  /-- R291: Changes to the Crevasse list are written to the vault within 1 s. -/
  | crevassePersist
  /-- R291: Without a valid image the list is rebuilt by walking every map page. -/
  | crevasseWalk
  /-- R291: A CREVASSE pair frame applies a list change on the partner. -/
  | crevasseFrameRx (h : PairHdr) (f : CrevFrame)
  /-- R298: REB_CMD FAIL declares a member failed with cause 0x8. -/
  | rebFail (x : Nat)
  /-- R298: REB_CMD ADOPT adopts a CANDIDATE slot. -/
  | rebAdopt (x : Nat)
  /-- R298: REB_CMD PAUSE pauses rebuild. -/
  | rebPause
  /-- R298: REB_CMD RESUME ends the paused state. -/
  | rebResume
  /-- R299: REB_CMD CREATE_POOL creates a pool on the CANDIDATE drives. -/
  | createPool
  /-- R295: A candidate drive is deallocated, labelled and made LIVE. -/
  | adoption (x : Nat)
  /-- R296: With rewiden_en, live blocks of narrow segments are relocated. -/
  | rewiden
  /-- R297: A MEMBER pair frame applies a member declaration or adoption on the partner. -/
  | memberFrameRx (h : PairHdr) (f : MemberFrame)
  /-- R303: After PERST# release a drive is trained, initialised, checked and given queues. -/
  | driveBringup (x : Nat) (f : DriveFacts)
  /-- R303: A drive not in L0 or not ready within its limit is refused. -/
  | driveBringupTimeout (x : Nat) (trained : Bool)
  /-- R306: A drive CQE completes a command, frees its tag and ends its drive interval. -/
  | driveCqe (x : Nat) (tag : Nat) (st : Nat) (d : List Block)
  /-- R271: A drive asynchronous event with critical warning bits 3 or 4 fails the member. -/
  | driveAsyncEvent (x : Nat) (w : Nat)
  /-- R311: CSTS.CFS reading 1 starts the ladder at controller reset. -/
  | driveCfs (x : Nat)
  /-- R311: A drive link loss withdraws commands and retrains the link. -/
  | driveLinkLoss (x : Nat)
  /-- R311: A correctable AER report is counted. -/
  | aerCorrectable (x : Nat)
  /-- R312: A drive command without CQE after timeout_s starts the escalation ladder. -/
  | driveCommandTimeout (x : Nat) (tag : Nat)
  /-- R312: A ladder rung fails within its limit and the next rung runs. -/
  | ladderRungTimeout (x : Nat)
  /-- R306: Every health_ms the drive's SMART log is read. -/
  | healthPoll (x : Nat) (w : Option (Nat × Nat))
  /-- R315: A DRIVE pair frame reports a refusal or a power cycle request from the partner. -/
  | driveFrameRx (h : PairHdr) (f : DriveFrame)
  /-- R327: Each 100 µs a HEARTBEAT is sent and a period without partner heartbeat is counted missed. -/
  | heartbeatPeriod
  /-- R327: A partner HEARTBEAT is received. -/
  | heartbeatRx (link : Nat) (h : Heartbeat)
  /-- R329: The partner's alive line changes after qualification. -/
  | aliveLineChange (high : Bool)
  /-- R332: 10 s after takeover, segments closed at step 4 may enter RELEASING. -/
  | takeoverReleaseHold
  /-- R335: split_yield_s passes in a split and the non-master yields. -/
  | splitYieldExpiry
  /-- R326: A LINK_ACK releases acknowledged pair frames. -/
  | linkAckRx (link : Nat) (ack : Nat) (formation : Nat)
  /-- R326: 1 µs after the first unacknowledged delivery a LINK_ACK is sent. -/
  | pairAckDelay
  /-- R326: 20 µs without ack progress resends every kept pair frame. -/
  | pairRetransmitTimeout
  /-- R326: Nothing received on a pair link for 300 µs marks it down. -/
  | pairLinkSilence (link : Nat)
  /-- R320: The pool master appends a FIRN_REQ record with the next seq. -/
  | firnReqRx (h : PairHdr) (origin : Nat) (b : FirnBody)
  /-- R336: An OWNER frame passes a namespace to the partner. -/
  | ownerRx (h : PairHdr) (i : Nat) (gen : Nat)
  /-- R322: A SEG_GRANT frame requests or grants segments. -/
  | segGrantRx (h : PairHdr) (g : GrantFrame)
  /-- R337: The owner receives a forwarded command. -/
  | fwdCmdRx (h : PairHdr) (f : FwdCmd)
  /-- R337: Forwarded ciphertext blocks arrive at the owner or the fetching module. -/
  | fwdDataRx (h : PairHdr) (id : Nat) (block : Nat) (d : FwdBlock)
  /-- R337: FWD_DONE lets the fetching module post the CQE. -/
  | fwdDoneRx (h : PairHdr) (id : Nat) (st : Status) (d0 : Word32) (d1 : Word32)
  /-- R465: A SLOT RELEASE lets the receiver load the channel state and become owner. -/
  | slotReleaseRx (h : PairHdr) (slot : Nat) (c : ChanState)
  /-- R465: A SLOT TAKEN lets the releasing module cease ownership. -/
  | slotTakenRx (h : PairHdr) (slot : Nat)
  /-- R464: SLOT frames report channel state or forward an SLT_CMD to the owner. -/
  | slotStateRx (h : PairHdr) (f : SlotFrame)
  /-- R336: PAIR_CMD MOVE_NS moves a namespace to the partner. -/
  | moveNs (i : Nat)
  /-- R344: PAIR_CMD RETURN_ALL moves every namespace created by the partner back to it. -/
  | returnAll
  /-- R335: PAIR_CMD YIELD makes the module yield with an orderly stop. -/
  | yield
  /-- R335: PAIR_CMD TAKEOVER starts takeover in a split. -/
  | takeoverCmd
  /-- R342: Location records update the namespace location table and are re-sent. -/
  | learnLocationRx (p : HktPkt) (hop : Nat) (seq : Word32) (l : List LocRec)
  /-- R342: Every refresh_s the owner resends its location records. -/
  | locationRefresh
  /-- R343: Queued location records are sent within the learn rate. -/
  | locationQueueSend (port : Nat)
  /-- R479: form_wait_ms after boot the pair forms or a takeover is decided. -/
  | formWaitExpiry
  /-- R349: A frame's head is looked up, reserved cells, admitted and possibly cut through. -/
  | frameHeadArrival (f : Frame)
  /-- R353: A frame's tail arrives and a bad frame is discarded or stomped. -/
  | frameTailArrival (id : Nat) (t : FrameTail) (len : Nat)
  /-- R360: Every audit_ms Moraine sweeps the cell and staging free lists. -/
  | moraineSweep
  /-- R362: A pair link or CPU port going down flushes its egress queues. -/
  | privilegedPortDown (p : Nat)
  /-- R363: A front port going down discards frames as they reach the head. -/
  | frontPortDown (p : Nat)
  /-- R363: A port's link comes up and sending resumes. -/
  | portLinkUp (p : Nat)
  /-- R379: The update pipeline learns or moves a source entry. -/
  | learnMessage
  /-- R382: A hit message sets an entry's age to 0. -/
  | hitMessage (pipe : Nat)
  /-- R380: Module reachability records install, refresh or withdraw module entries. -/
  | learnModuleRx (h : HktHdr) (g : Ingress) (mac : Nat) (hop : Nat) (seq : Word32) (l : List ModRec)
  /-- R380: Every mod_refresh_s the module sends its own record. -/
  | moduleRecordRefresh
  /-- R381: Each sweep ages entries and removes expired ones. -/
  | agerSweep
  /-- R375: The rehash walk reinserts every old-bank entry under the new bank. -/
  | rehashWalk (t : Nat)
  /-- R375: A stalled walk retries its entry every 1 ms. -/
  | rehashRetry (t : Nat)
  /-- R383: FWD_CMD INSERT inserts an entry. -/
  | fwdInsert (t : Nat)
  /-- R383: FWD_CMD DELETE removes an entry by key. -/
  | fwdDelete (t : Nat)
  /-- R383: FWD_CMD LOOKUP returns the entry of a key. -/
  | fwdLookup (t : Nat)
  /-- R383: FWD_CMD FLUSH_PORT removes learned entries naming a port. -/
  | fwdFlushPort (t : Nat) (p : Nat)
  /-- R383: FWD_CMD REHASH starts the rehash walk. -/
  | fwdRehash (t : Nat)
  /-- R392: Writing en = 1 brings up the local admin queue. -/
  | hifCtrlEnable
  /-- R392: Writing en = 0 is a controller reset of the local function. -/
  | hifCtrlDisable
  /-- R396: Clearing Bus Master Enable stops requests to host memory and starts a grace period. -/
  | bmeClear (e : Nat)
  /-- R397: Setting BME again restarts transfers and posts held CQEs. -/
  | bmeSet (e : Nat)
  /-- R397: The 100 ms grace ends and interrupted commands are decided as ST_HOST_DMA_ABORTED. -/
  | bmeGraceExpiry (g : Nat)
  /-- R398: FLR, D3hot exit, PERST#, hot reset or link disable resets the function and its slices. -/
  | functionReset (e : Nat) (kind : Nat)
  /-- R398: Transfers stopped, reset-done is set and configuration requests complete again. -/
  | functionResetDone (e : Nat)
  /-- R400: A local link going DL_Down resets its endpoints. -/
  | hifLinkDown (l : Nat)
  /-- R386: A local link trains and the endpoint is enumerated as new. -/
  | hifLinkUp (e : Nat) (c : EpConfig)
  /-- R401: A request to BAR4 is mapped through a window to a region or rejected. -/
  | peerWindowAccess (write : Bool) (off : Nat) (len : Nat) (d : List Byte)
  /-- R402: HIF_PEER_COMMIT copies the window shadows into the active set at a TLP boundary. -/
  | peerCommit
  /-- R395: An Invalidate Request removes matching translations. -/
  | atsInvalidate (e : Nat) (tag : Nat) (pasid : Option Nat) (page : Nat) (pages : Nat)
  /-- R395: Reads under removed entries finished, the Invalidate Completion is sent. -/
  | atsInvalidateDone (e : Nat) (tag : Nat)
  /-- R394: A translation completion fills the cache or leads to untranslated requests. -/
  | atsTranslationCompletion (e : Nat) (pasid : Option Nat) (page : Nat) (r : Option (Nat × Nat))
  /-- R393: Unmasking a vector with its pending bit set sends its message. -/
  | msixUnmask (e : Nat) (v : Nat)
  /-- R499: SPDM GET_VERSION returns version 1.2. -/
  | spdmGetVersion (e : Nat) (req : List Byte)
  /-- R499: SPDM GET_CAPABILITIES returns the supported capabilities. -/
  | spdmGetCapabilities (e : Nat) (req : List Byte)
  /-- R499: SPDM NEGOTIATE_ALGORITHMS accepts P-384 and SHA-384 only. -/
  | spdmNegotiateAlgorithms (e : Nat) (req : List Byte)
  /-- R499: SPDM GET_DIGESTS returns the slot 0 chain digest. -/
  | spdmGetDigests (e : Nat) (req : List Byte)
  /-- R499: SPDM GET_CERTIFICATE returns the certificate chain blob. -/
  | spdmGetCertificate (e : Nat) (req : List Byte)
  /-- R499: SPDM CHALLENGE returns a signed measurement summary. -/
  | spdmChallenge (e : Nat) (req : List Byte)
  /-- R499: SPDM GET_MEASUREMENTS returns measurement blocks, signed on request. -/
  | spdmGetMeasurements (e : Nat) (req : List Byte)
  /-- R499: Other SPDM requests receive ERROR UnsupportedRequest. -/
  | spdmUnsupported (e : Nat) (req : List Byte)
  /-- R406: SLC_CMD CREATE configures a FREE slice. -/
  | slcCreate (n : Nat) (paused : Bool)
  /-- R414: SLC_CMD DESTROY squashes a slice and returns it to FREE. -/
  | slcDestroy (n : Nat)
  /-- R412: SLC_CMD RESIZE applies a new configuration to an ACTIVE slice. -/
  | slcResize (n : Nat)
  /-- R414: SLC_CMD RESET with mode 0 drains the slice's queues. -/
  | slcResetDrain (n : Nat)
  /-- R414: SLC_CMD RESET with mode 1 squashes the slice's transfers. -/
  | slcResetSquash (n : Nat)
  /-- R414: A drain past drain_ms continues as a squash. -/
  | slcDrainTimeout (n : Nat)
  /-- R415: Transfers stopped, the slice leaves RESETTING and its command completes. -/
  | slcResetDone (n : Nat)
  /-- R418: SLC_CMD PAUSE stops fetch on every queue of the slice. -/
  | slcPause (n : Nat)
  /-- R418: In-flight commands reach 0 and PAUSE completes with paused set. -/
  | slcPauseQuiesced
  /-- R418: PAUSE not quiesced after pause_ms completes with result 0x5. -/
  | slcPauseTimeout
  /-- R418: SLC_CMD RESUME restarts fetch from each queue's sq_head. -/
  | slcResume (n : Nat)
  /-- R421: SLC_CMD LOG_START starts dirty-page logging into buffer A. -/
  | slcLogStart (n : Nat)
  /-- R423: SLC_CMD LOG_STOP makes a final sync and frees the logging slot. -/
  | slcLogStop (n : Nat)
  /-- R423: SLC_CMD LOG_SYNC swaps buffers and writes the cached marks of the old one. -/
  | slcLogSync (n : Nat)
  /-- R419: SLC_CMD SAVE_QP returns a paused slice's queue pair state. -/
  | slcSaveQp (n : Nat)
  /-- R419: SLC_CMD RESTORE_QP recreates a queue pair from saved state. -/
  | slcRestoreQp (n : Nat)
  /-- R409: Writing a slice's SLC_CTRL.en = 1 brings up its admin queue. -/
  | slcCtrlEnable (n : Nat)
  /-- R409: Writing a slice's SLC_CTRL.en = 0 starts a drain reset. -/
  | slcCtrlDisable (n : Nat)
  /-- R417: Clearing or setting E0's PASID Enable applies the bus-master rules to PASID slices. -/
  | pasidEnableClear (on : Bool)
  /-- R428: Both presence contacts low for 1 ms seat the module and straps are read. -/
  | moduleSeated (straps : Nat) (b : BootIn)
  /-- R428: Both presence contacts high for 1 ms start an orderly stop with a full dump. -/
  | moduleUnseated
  /-- R428: One presence contact high for 10 ms raises EV_GLB_SEAT_PARTIAL. -/
  | seatPartial
  /-- R430: Releasing the service button acts on the length of the press. -/
  | buttonRelease (ms : Nat) (b : BootIn)
  /-- R430: The button held for 10 s performs ZEROISE_ALL. -/
  | buttonZeroise
  /-- R437: A feed is declared absent by dropout, RMS, frequency, fault or bulk level. -/
  | feedAbsent (f : Nat) (cause : Nat)
  /-- R437: An absent feed shows valid input over a full cycle. -/
  | feedQualifying (f : Nat) (b : BootIn)
  /-- R437: A qualifying feed stays valid for qual_ms and becomes good. -/
  | feedGood (f : Nat)
  /-- R438: The preferred standby feed good for revert_s becomes active again. -/
  | feedRevert
  /-- R439: The dead time ends and the other ORing switch closes. -/
  | oringMake
  /-- R441: Bus voltage out of range for 10 µs raises EV_PWR_BUS_FAULT and starts a dump or store support. -/
  | busFault (mv : Nat)
  /-- R445: Every test_h hours the store is tested under load. -/
  | storeTestStart
  /-- R445: The 500 ms draw ends and capacitance and ESR are computed. -/
  | storeTestEnd (mv : Nat) (step : Nat) (cells : Nat) (broken : Bool)
  /-- R444: Usable energy crossing 105.3 J or 40.85 J changes the dump budget and indications. -/
  | storeEnergyThreshold (mv : Nat)
  /-- R448: Inlet above 45 °C for 10 s raises EV_PWR_INLET_HOT. -/
  | inletHot (c : Nat)
  /-- R448: Die above 95 °C raises EV_PWR_DIE_WARN. -/
  | dieWarn (c : Nat)
  /-- R448: Die above 110 °C for 1 s starts an orderly stop with a full dump. -/
  | dieCrit (c : Nat)
  /-- R447: Every 1 s heat and required airflow are reported to the shelf manager. -/
  | sensorReport (m : PwrRead)
  /-- R452: PRSNT# low for the qualification time makes the slot present. -/
  | slotPresent (x : Nat) (ifdetHigh : Bool)
  /-- R452: PRSNT# high for 50 µs removes the slot's supply at once. -/
  | slotAbsent (x : Nat)
  /-- R454: The channel decides to power the slot and enables aux. -/
  | slotPowerOn (x : Nat)
  /-- R454: At 5 ms the aux voltage is checked and the 12 V ramp starts or the channel trips. -/
  | auxCheck (x : Nat) (m : SlotSense)
  /-- R454: After ramp_ms the gate is driven to full enhancement. -/
  | rampEnd (x : Nat) (m : SlotSense)
  /-- R455: 1 ms of good output with the fault timer idle asserts PG. -/
  | pgQualify (x : Nat) (m : SlotSense)
  /-- R454: pg_perst_ms after PG, DRV_PERST# is released. -/
  | perstRelease (x : Nat)
  /-- R455: A low output or aux for 100 µs withdraws PG and drives PERST# low. -/
  | pgWithdraw (x : Nat) (m : SlotSense)
  /-- R457: Current crossing twice I_lim pulls the gate down within 250 ns. -/
  | fastTrip (x : Nat) (m : SlotSense)
  /-- R457: The fault timer reaching fault_ms trips the channel. -/
  | faultTimerTrip (x : Nat) (m : SlotSense)
  /-- R458: The estimated junction temperature reaching tj_max trips the channel. -/
  | thermalTrip (x : Nat) (m : SlotSense)
  /-- R460: The estimate above tj_warn raises EV_SLT_TJ_WARN. -/
  | tjWarn (x : Nat) (m : SlotSense)
  /-- R461: An NTC open, short or out of range sets ntc_fault. -/
  | ntcFault (x : Nat) (m : SlotSense)
  /-- R459: The 1 s retry wait ends and power-up restarts or the channel latches. -/
  | retryWaitExpiry (x : Nat)
  /-- R459: PG held for 60 s reloads retries_left. -/
  | retryReload (x : Nat)
  /-- R459: The shelf supply below 10.8 V for 1 ms raises EV_SLT_SUPPLY_LOW. -/
  | supplyLow (mv : Nat)
  /-- R459: The supply at 11.4 V or more for 100 ms lets undervoltage retries proceed. -/
  | supplyRestored (mv : Nat)
  /-- R456: The 1 s average power above p_lim raises EV_SLT_OVER_POWER. -/
  | overPower (x : Nat) (avg : Nat)
  /-- R453: SLT_CMD ON powers a slot and clears a latch. -/
  | sltOn (x : Nat)
  /-- R463: SLT_CMD OFF turns a slot off in order. -/
  | sltOff (x : Nat)
  /-- R463: SLT_CMD CYCLE turns a slot off and on again after 1 s. -/
  | sltCycle (x : Nat)
  /-- R463: SLT_CMD LOCATE_ON sets the slot locator. -/
  | sltLocateOn (x : Nat)
  /-- R463: SLT_CMD LOCATE_OFF clears the slot locator. -/
  | sltLocateOff (x : Nat)
  /-- R463: Aux is turned off once 12 V is below 1 V or at 100 ms. -/
  | turnoffAux (x : Nat)
  /-- R463: The 1 s off period of a cycle ends and power-up starts. -/
  | cycleWaitExpiry (x : Nat)
  /-- R470: A boot not serving within 120 s enters warm reset. -/
  | bootWatchdog (b : BootIn)
  /-- R479: Drives are brought up and the map rebuild starts. -/
  | bootDrivesUp
  /-- R226: The map rebuild from checkpoint and Firn ends and Névé replay starts. -/
  | mapRebuildDone (found : Option Media) (readable : Bool)
  /-- R266: Névé replay ends and the Rime record is appended. -/
  | replayDone (noDesc : List Nat) (noData : List Nat) (torn : Bool) (pkgs : Nat)
  /-- R479: Ports are up and the module serves; the pending bank is confirmed. -/
  | bootServing
  /-- R481: BOOT_CMD STOP performs an orderly stop and holds in reset. -/
  | bootStop
  /-- R481: BOOT_CMD RESTART performs an orderly stop and a warm reset. -/
  | bootRestart
  /-- R541: GLB_CTRL warm with key 0xA5 dumps and enters warm reset. -/
  | glbWarm
  /-- R542: GLB_CTRL core_reset with key 0xA5 resets the control cores into the running CORE. -/
  | glbCoreReset
  /-- R506: A report enters the EVT block and becomes a buffered record or is coalesced or dropped. -/
  | eventReport (p : Report)
  /-- R514: The shelf manager acknowledges a PLDM event message. -/
  | pldmAck (seq : Nat)
  /-- R507: A coalescing window ends and one record with the count is made. -/
  | coalesceWindowExpiry (code : Nat) (key : Nat)
  /-- R508: When buffer space returns an EV_LOST covering dropped numbers is recorded. -/
  | lostRecordEmit
  /-- R510: A buffered record is written to a ring with room. -/
  | ringDeliver (r : Nat)
  /-- R510: 10 µs after the first unnotified record the ring owner is notified. -/
  | ringNotifyExpiry (r : Nat)
  /-- R512: A ring full for stall_10ms × 10 ms becomes stalled. -/
  | ringStall (r : Nat)
  /-- R512: Writing 1 to stalled resumes the ring with a ring-local EV_LOST. -/
  | ringStallResume (r : Nat)
  /-- R510: Writing a ring's head frees its entries. -/
  | ringHeadWrite (r : Nat) (head : Nat)
  /-- R511: Enabling a ring resets its tail and delivers buffered records it passes. -/
  | ringEnable (r : Nat) (v : Nat)
  /-- R517: A counter reaching its maximum saturates or wraps and sets ovf. -/
  | counterSaturate (i : Nat)
  /-- R517: A write to CTR_VAL sets the counter plus same-cycle increments. -/
  | ctrValWrite (i : Nat) (v : Nat) (inc : Nat)
  /-- R519: A write to CTR_ESEL selects what the counter counts and clears it. -/
  | ctrEselWrite (k : Nat) (v : Nat)
  /-- R520: At each period tick all counters are captured into snapshot targets. -/
  | snapshotTick
  /-- R521: Writing a target's head frees its slots. -/
  | snapshotHeadWrite (j : Nat) (v : Nat)
  /-- R526: TEL_CMD captures a unit into TEL_RD and optionally clears it. -/
  | telCapture (k : Nat) (clear : Bool)
  /-- R525: A write to TEL_UNIT_CFG attaches the unit to a source and clears it. -/
  | telUnitCfgWrite (k : Nat) (v : Nat)
  /-- R26: The module reference returns within 200 ppm, ending holdover and setting ref_ok again. -/
  | refReturn (ppm : Nat)
  /-- R311: A retrained drive link returns within link_loss_ms and the controller is reinitialised as at the controller reset rung. -/
  | driveLinkReturn (x : Nat) (f : DriveFacts)
  /-- R354: Once per cell slot the crossbar matches inputs to outputs, crosses cells and a frame whose first cell crosses enters its egress queue. -/
  | cellSlot
  /-- R392: After en is written 0, HIF_CTRL_STATUS.rdy becomes 0 once every transfer of the local function's commands toward host memory has stopped. -/
  | controllerResetDone
  /-- R396: Entry of an endpoint into D3hot with BME set applies the bus-master-clear rules and starts the grace period. -/
  | d3hotEntry (e : Nat)
  /-- R482: The write of an image into a configuration flash bank finishes, its record is written and the Commit completes or the activation window opens. -/
  | bankWriteDone
  /-- R444: The store temperature crosses 55 °C or 65 °C and charging is limited to 18.0 V or stopped. -/
  | storeHot (c : Nat)
  /-- R458: After a thermal trip, the junction estimate falls below tj_warn and the retry of the channel may proceed. -/
  | tjBelowWarn (x : Nat)
  /-- R549: An optical module is seated in an OSFP cage and, if its power class exceeds 16 W, is held in low-power mode with its port held down. -/
  | opticalModuleInserted (cage : Nat) (watts : Nat)
  deriving DecidableEq, Repr

end Sys2Proof
end

