-- ==== Sys2Proof/Machine/Table.lean ====
section
/-! DEFINITION. Tables as lists of pairs: read, write, remove, change.  A write replaces the first pair of its key in
place or appends a pair, so reading after writing depends on the key alone. -/

namespace Sys2Proof.Machine

/-- The value of key `k`, if the table lists one. -/
def tget {κ α : Type} [DecidableEq κ] : Table κ α → κ → Option α
  | [], _ => none
  | (k', v) :: t, k => if k' = k then some v else tget t k

/-- The table with key `k` set to `v`. -/
def tput {κ α : Type} [DecidableEq κ] : Table κ α → κ → α → Table κ α
  | [], k, v => [(k, v)]
  | (k', v') :: t, k, v => if k' = k then (k, v) :: t else (k', v') :: tput t k v

/-- The table without key `k`. -/
def tdel {κ α : Type} [DecidableEq κ] : Table κ α → κ → Table κ α
  | [], _ => []
  | (k', v') :: t, k => if k' = k then tdel t k else (k', v') :: tdel t k

/-- The table with the value of key `k` changed by `f`, unchanged where `k` is not listed. -/
def tmod {κ α : Type} [DecidableEq κ] (m : Table κ α) (k : κ) (f : α → α) : Table κ α :=
  match tget m k with
  | some v => tput m k (f v)
  | none => m

/-- The value of key `k`, or `d` where the table lists none. -/
def tgetD {κ α : Type} [DecidableEq κ] (m : Table κ α) (k : κ) (d : α) : α := (tget m k).getD d

/-- The element at index `i` of a list replaced by `f` of it. -/
def lmod {α : Type} (l : List α) (i : Nat) (f : α → α) : List α :=
  l.mapIdx fun j x => if j = i then f x else x

/-- A list sorted by insertion under a key. -/
def sortOn {α : Type} (key : α → Nat) (l : List α) : List α :=
  l.foldl (fun acc c => (acc.takeWhile fun d => decide (key d ≤ key c)) ++ c :: acc.dropWhile fun d => decide (key d ≤ key c)) []

end Sys2Proof.Machine
end

