-- ==== Sys2Proof/Machine/Gf.lean ====
section
/-! DEFINITION. The parity arithmetic of R198: GF(2^8) with the polynomial 0x11D, the scaled Cauchy coefficients, parity of
a row of data blocks, and the decode of a row from any k of its chunks. -/

namespace Sys2Proof.Machine

/-- A byte times x in GF(2^8) modulo 0x11D (R198). -/
def gfDouble (a : Byte) : Byte := if a.msb then (a <<< 1) ^^^ 0x1D else a <<< 1

/-- The product of two bytes (R198). -/
def gfMul (a b : Byte) : Byte :=
  ((List.range 8).foldl (fun (p : Byte × Byte) i => (if b.getLsbD i then p.1 ^^^ p.2 else p.1, gfDouble p.2)) (0, a)).1

/-- The inverse of a byte: its 254th power. -/
def gfInv (a : Byte) : Byte := (List.range 253).foldl (fun p _ => gfMul p a) a

/-- The coefficient a(j, i) of data chunk i in parity chunk j (R198). -/
def gfCoef (j i : Nat) : Byte :=
  let y : Byte := BitVec.ofNat 8 (i + 3)
  gfMul y (gfInv (y ^^^ BitVec.ofNat 8 j))

/-- 1 in every byte of a block. -/
def blockOnes : Block := BitVec.ofNat 32768 ((2 ^ 32768 - 1) / 255)

/-- Every byte of a block times x. -/
def blockDouble (b : Block) : Block :=
  let hi := (b >>> 7) &&& blockOnes
  ((b &&& (blockOnes * 127)) <<< 1) ^^^ hi ^^^ (hi <<< 2) ^^^ (hi <<< 3) ^^^ (hi <<< 4)

/-- Every byte of a block times a byte. -/
def blockScale (a : Byte) (b : Block) : Block :=
  ((List.range 8).foldl (fun (p : Block × Block) i => (if a.getLsbD i then p.1 ^^^ p.2 else p.1, blockDouble p.2)) (0, b)).1

/-- Parity block j of a row of data blocks (R198). -/
def parityBlock (j : Nat) (d : List Block) : Block :=
  (d.zipIdx.map fun (b, i) => blockScale (gfCoef j i) b).foldl (· ^^^ ·) 0

/-- One equation of a row: coefficients of the data blocks and their sum. -/
structure GfRow where
  coef : List Byte
  val  : Block
  deriving DecidableEq, Repr

/-- What chunk `c` says of the k data blocks of its row. -/
def gfRow (k c : Nat) (b : Block) : GfRow :=
  ⟨(List.range k).map fun i => if c < k then (if i = c then 1 else 0) else gfCoef (c - k) i, b⟩

/-- An equation times a byte. -/
def GfRow.scale (a : Byte) (r : GfRow) : GfRow := ⟨r.coef.map (gfMul a), blockScale a r.val⟩

/-- The sum of two equations. -/
def GfRow.add (r q : GfRow) : GfRow := ⟨List.zipWith (· ^^^ ·) r.coef q.coef, r.val ^^^ q.val⟩

/-- One column of Gauss-Jordan elimination: solved equations in column order and the ones left. -/
def gfColumn (p : Option (List GfRow × List GfRow)) (col : Nat) : Option (List GfRow × List GfRow) :=
  match p with
  | none => none
  | some (solved, rest) =>
    match rest.find? fun r => r.coef.getD col 0 != 0 with
    | none => none
    | some r =>
      let r' := r.scale (gfInv (r.coef.getD col 0))
      let clear (q : GfRow) : GfRow := if q.coef.getD col 0 = 0 then q else q.add (r'.scale (q.coef.getD col 0))
      some (solved.map clear ++ [r'], (rest.filter (· != r)).map clear)

/-- The k data blocks of a row from k of its chunks (R198: any k of the w chunks reconstruct the rest). -/
def gfSolve (k : Nat) (got : Table Nat Block) : Option (List Block) :=
  ((List.range k).foldl gfColumn (some ([], (got.take k).map fun (c, b) => gfRow k c b))).map fun p => p.1.map (·.val)

/-- Chunk `c` of a row from k of its chunks. -/
def gfChunk (k c : Nat) (got : Table Nat Block) : Block :=
  match gfSolve k got with
  | none => 0
  | some d => if c < k then d.getD c 0 else parityBlock (c - k) d

end Sys2Proof.Machine
end

