-- ==== Sys2Proof/Config.lean ====
section
/-! DEFINITION. What the spec leaves open: free values and uninterpreted functions, opaque constants with no body that
nothing in Lean can evaluate (assumption log 2 and 10).  A free value is applied to the counter of State that each use
advances, or to the operands it depends on. -/

namespace Sys2Proof.Config

/-- A fresh 64-bit value nothing in the spec fixes: chosen identifiers. -/
opaque freeWord : Nat → BitVec 64

/-- The private value of the device attestation key, in the die (R181, R489). -/
opaque attestationKey : BitVec 512

/-- The secret number of the attestation key's signature over a digest, which ECDSA leaves to the signer. -/
opaque signNonce : BitVec 384 → BitVec 512

/-- A fresh 512-bit value: the masks of key shares (R179). -/
opaque freeWide : Nat → BitVec 512

/-- The first of the 64 MAC addresses assigned at manufacture, the management port's (R559). -/
opaque macBase : Nat

/-- The device storage key of the vault's key records, derived from a die secret that no register returns (R183). -/
opaque storageKey : BitVec 256

/-- The UDP checksum of a packet over IPv6 on a port (R43): it covers the IP addresses, which the spec does not give. -/
opaque udpSum6 : Nat → HktPkt → BitVec 16

/-- The bytes of an NS_META image (R220), whose layout the spec does not give. -/
opaque nsImage : NsImage → List Byte

/-- A row of a placement table (R202), from the live members, the width and the row: firmware builds the tables, and
the spec fixes only their balance. -/
opaque placementRow : List Nat → Nat → Nat → List Nat

/-- The public key of the Tamlan firmware key, X then Y, which the die ROM holds (R473). -/
opaque vendorKey : List Byte

/-- The SHA-384 hash of Tamlan's default configuration key, with which a module ships in owner slot 0 (R476). -/
opaque defaultOwner : BitVec 384

/-- The three certificates stored at manufacture, in DER and in position order (R489). -/
opaque certs : List (List Byte)

/-- The SHA-384 of the die ROM (R490). -/
opaque romDigest : BitVec 384

/-- The NGUID of a namespace (R144), formed from the pool ID and the NSID; the spec does not give the form. -/
opaque nguid : Nat → Nat → BitVec 128

end Sys2Proof.Config
end

