-- ==== Sys2Proof/Machine/Events.lean ====
section
/-! DEFINITION. The event types the hardware raises, with code and severity (R18, R502). -/

namespace Sys2Proof.Machine

/-- An event type: its code and its severity, 0 info, 1 notice, 2 warning, 3 error, 4 fatal (R18, R502). -/
structure EvType where
  code : Nat
  sev  : Nat
  deriving DecidableEq, Repr

def EV_GLB_CORE_DATA_ACCESS : EvType := ⟨0x0001, 3⟩
def EV_GLB_SEAT_PARTIAL : EvType := ⟨0x0002, 3⟩
def EV_GLB_STRAP_FAULT : EvType := ⟨0x0003, 4⟩
def EV_HBM_UE : EvType := ⟨0x0004, 3⟩
def EV_CLK_REF_LOST : EvType := ⟨0x0401, 4⟩
def EV_LOST : EvType := ⟨0x0801, 2⟩
def EV_EVT_RING_STALLED : EvType := ⟨0x0802, 2⟩
def EV_CTR_SATURATED : EvType := ⟨0x0C01, 1⟩
def EV_CTR_SNAP_OVERRUN : EvType := ⟨0x0C02, 2⟩
def EV_PWR_FEED_LOST : EvType := ⟨0x1401, 2⟩
def EV_PWR_FEED_GOOD : EvType := ⟨0x1402, 1⟩
def EV_PWR_FEED_SWITCH : EvType := ⟨0x1403, 1⟩
def EV_PWR_BUS_FAULT : EvType := ⟨0x1404, 4⟩
def EV_PWR_STORE_LOW : EvType := ⟨0x1405, 2⟩
def EV_PWR_STORE_EOL : EvType := ⟨0x1406, 2⟩
def EV_PWR_STORE_FAIL : EvType := ⟨0x1407, 3⟩
def EV_PWR_INLET_HOT : EvType := ⟨0x1408, 2⟩
def EV_PWR_DIE_WARN : EvType := ⟨0x1409, 2⟩
def EV_PWR_DIE_CRIT : EvType := ⟨0x140A, 3⟩
def EV_SLT_SEATED : EvType := ⟨0x1801, 0⟩
def EV_SLT_REMOVED : EvType := ⟨0x1802, 1⟩
def EV_SLT_IF_REFUSED : EvType := ⟨0x1803, 2⟩
def EV_SLT_TRIP : EvType := ⟨0x1804, 2⟩
def EV_SLT_LATCHED : EvType := ⟨0x1805, 3⟩
def EV_SLT_OVER_POWER : EvType := ⟨0x1806, 2⟩
def EV_SLT_TJ_WARN : EvType := ⟨0x1807, 2⟩
def EV_SLT_NTC_FAULT : EvType := ⟨0x1808, 2⟩
def EV_SLT_SUPPLY_LOW : EvType := ⟨0x1809, 3⟩
def EV_SLT_HANDOVER : EvType := ⟨0x180A, 0⟩
def EV_BOOT_SERVING : EvType := ⟨0x1C01, 0⟩
def EV_BOOT_BANK_FALLBACK : EvType := ⟨0x1C02, 2⟩
def EV_BOOT_OWNER_REFUSED : EvType := ⟨0x1C03, 2⟩
def EV_CFG_BAD_ENTRY : EvType := ⟨0x1C04, 2⟩
def EV_CFG_PORT_ABSENT : EvType := ⟨0x1C05, 2⟩
def EV_BOOT_ACT_START : EvType := ⟨0x1C06, 1⟩
def EV_BOOT_ACT_DONE : EvType := ⟨0x1C07, 1⟩
def EV_BOOT_ACT_ABORT : EvType := ⟨0x1C08, 2⟩
def EV_BOOT_RIME_DEGRADED : EvType := ⟨0x1C09, 2⟩
def EV_BOOT_RIME_TORN : EvType := ⟨0x1C0A, 2⟩
def EV_BOOT_RIME_FAIL : EvType := ⟨0x1C0B, 4⟩
def EV_KEY_SLOT_MISSING : EvType := ⟨0x2001, 2⟩
def EV_KEY_EP_SLOT_KIND : EvType := ⟨0x2002, 2⟩
def EV_KEY_ZEROISED : EvType := ⟨0x2003, 1⟩
def EV_KEY_ROTATE_DONE : EvType := ⟨0x2004, 0⟩
def EV_KEY_PAIR_CONFLICT : EvType := ⟨0x2005, 3⟩
def EV_KEY_DRBG_FAIL : EvType := ⟨0x2006, 4⟩
def EV_KEY_SELFTEST_FAIL : EvType := ⟨0x2007, 4⟩
def EV_CIP_LANE_FAILED : EvType := ⟨0x2401, 3⟩
def EV_MAC_PFC_STORM : EvType := ⟨0x2801, 3⟩
def EV_MAC_PFC_RESTORED : EvType := ⟨0x2802, 1⟩
def EV_SWC_MORAINE_REPAIR : EvType := ⟨0x2C01, 2⟩
def EV_SWC_MORAINE_CONFLICT : EvType := ⟨0x2C02, 3⟩
def EV_SWC_PORT_FLUSH : EvType := ⟨0x2C03, 1⟩
def EV_FWD_REHASH_REQ : EvType := ⟨0x3001, 1⟩
def EV_FWD_REHASH_DONE : EvType := ⟨0x3002, 0⟩
def EV_FWD_REHASH_STALL : EvType := ⟨0x3003, 2⟩
def EV_TMS_DELAY_SAMPLE_STALE : EvType := ⟨0x3401, 2⟩
def EV_HKT_SPILL_FULL : EvType := ⟨0x3801, 3⟩
def EV_HKT_PEER_UNREACHABLE : EvType := ⟨0x3802, 3⟩
def EV_HKT_PATH_RETIRED : EvType := ⟨0x3803, 1⟩
def EV_HKT_AUTH_FAIL : EvType := ⟨0x3804, 2⟩
def EV_QPE_DOORBELL_INVALID : EvType := ⟨0x3C01, 2⟩
def EV_QPE_CQ_FULL : EvType := ⟨0x3C02, 1⟩
def EV_QPE_QUEUE_ERROR : EvType := ⟨0x3C03, 3⟩
def EV_STR_STRIPE_REWRITE : EvType := ⟨0x4401, 2⟩
def EV_STR_WIDTH_CHANGED : EvType := ⟨0x4402, 0⟩
def EV_STR_CALVE_URGENT : EvType := ⟨0x4403, 2⟩
def EV_STR_CALVE_STOP : EvType := ⟨0x4404, 3⟩
def EV_STR_GROUP_BLOCKED : EvType := ⟨0x4405, 3⟩
def EV_NEVE_HIGH_WATER : EvType := ⟨0x4801, 1⟩
def EV_NEVE_SINGLE : EvType := ⟨0x4802, 2⟩
def EV_NEVE_PAIRED : EvType := ⟨0x4803, 1⟩
def EV_JNL_FIRN_TAIL_FULL : EvType := ⟨0x4804, 2⟩
def EV_JNL_DUMP_TORN : EvType := ⟨0x4805, 3⟩
def EV_JNL_REPLAY_LOSS : EvType := ⟨0x4806, 3⟩
def EV_JNL_REPLAY_DONE : EvType := ⟨0x4807, 0⟩
def EV_DRV_LINK_DEGRADED : EvType := ⟨0x4C01, 2⟩
def EV_DRV_REFUSED : EvType := ⟨0x4C02, 2⟩
def EV_DRV_LINK_DOWN : EvType := ⟨0x4C03, 2⟩
def EV_DRV_ESCALATE : EvType := ⟨0x4C04, 2⟩
def EV_REB_MEMBER_FAILED : EvType := ⟨0x5001, 3⟩
def EV_REB_MEMBER_DEGRADED : EvType := ⟨0x5002, 2⟩
def EV_REB_CHUNK_UNREADABLE : EvType := ⟨0x5003, 2⟩
def EV_REB_ZERO_MARGIN : EvType := ⟨0x5004, 3⟩
def EV_REB_BLOCKS_LOST : EvType := ⟨0x5005, 3⟩
def EV_REB_SPARE_EXHAUSTED : EvType := ⟨0x5006, 2⟩
def EV_REB_REBUILD_DONE : EvType := ⟨0x5007, 1⟩
def EV_REB_CREVASSE_FULL : EvType := ⟨0x5008, 3⟩
def EV_REB_POOL_UNREADABLE : EvType := ⟨0x5009, 4⟩
def EV_REB_ADOPT_REFUSED : EvType := ⟨0x500A, 2⟩
def EV_REB_ADOPT_FAILED : EvType := ⟨0x500B, 2⟩
def EV_REB_MEMBER_JOINED : EvType := ⟨0x500C, 1⟩
def EV_REB_POOL_CREATED : EvType := ⟨0x500D, 1⟩
def EV_HIF_FLR : EvType := ⟨0x5401, 0⟩
def EV_HIF_BME_CLEAR : EvType := ⟨0x5402, 1⟩
def EV_HIF_DMA_ABORTED : EvType := ⟨0x5403, 2⟩
def EV_HIF_LINK_DOWN : EvType := ⟨0x5404, 2⟩
def EV_HIF_PEER_REJECT : EvType := ⟨0x5405, 2⟩
def EV_SLC_RESET_DONE : EvType := ⟨0x5801, 0⟩
def EV_SLC_PAUSE_TIMEOUT : EvType := ⟨0x5802, 2⟩
def EV_SLC_LOG_SPAN : EvType := ⟨0x5803, 2⟩
def EV_PAIR_BAY_CONFLICT : EvType := ⟨0x5C01, 4⟩
def EV_PAIR_VERSION_MISMATCH : EvType := ⟨0x5C02, 3⟩
def EV_PAIR_FORMED : EvType := ⟨0x5C03, 1⟩
def EV_PAIR_LINK_DEGRADED : EvType := ⟨0x5C04, 2⟩
def EV_PAIR_ALIVE_FAULT : EvType := ⟨0x5C05, 2⟩
def EV_PAIR_TAKEOVER : EvType := ⟨0x5C06, 3⟩
def EV_PAIR_TAKEOVER_DONE : EvType := ⟨0x5C07, 1⟩
def EV_PAIR_SPLIT : EvType := ⟨0x5C08, 3⟩
def EV_PAIR_YIELD : EvType := ⟨0x5C09, 1⟩
def EV_PAIR_MOVED : EvType := ⟨0x5C0A, 0⟩
def EV_PAIR_LOC_FULL : EvType := ⟨0x5C0B, 2⟩

end Sys2Proof.Machine
end

