-- ==== Sys2Proof/Machine/RegMap.lean ====
section
/-! DEFINITION. The register map: every field of every register the spec gives, with its place, its access code,
its reset value and the reset kinds that act on it (R12 to R17, R531, R532 and the register tables of each chapter),
and the table that finds a register by its address.  A field's reset value that the spec takes from fuses, flash,
straps or the configuration image stands here as the value before those are read (assumption log 5, 6, 10). -/

namespace Sys2Proof.Machine

/-- The access codes of R14; rw1cAll is the counter form of R561, fw a field marked firmware-written (R533). -/
inductive Access where
  | ro | rw | rw1c | rw1cAll | rc | wo | rwl | rs | fw
  deriving DecidableEq, Repr

/-- One field of a register: the address of the register's first element, the field's lowest bit and width, its
access code, its reset value, and the reset kinds that act on it (bit 0 cold, 1 warm, 2 function, 3 slice; R15). -/
structure Fld where
  reg   : Nat
  lo    : Nat
  w     : Nat
  acc   : Access
  rst   : Nat
  kinds : Nat
  deriving DecidableEq, Repr

/-- A register or an array of registers (R532): address, strides, counts, width in bits and fields. -/
structure RegDef where
  base   : Nat
  s0     : Nat
  n0     : Nat
  s1     : Nat
  n1     : Nat
  width  : Nat
  fields : List Fld
  deriving DecidableEq, Repr

namespace F
-- GLB_IDENT: R540
def GLB_IDENT_variant : Fld := ⟨0, 52, 4, .ro, 1, 3⟩
def GLB_IDENT_die_rev : Fld := ⟨0, 48, 4, .ro, 0, 3⟩
def GLB_IDENT_part : Fld := ⟨0, 32, 16, .ro, 0x9632, 3⟩
def GLB_IDENT_module_id : Fld := ⟨0, 16, 14, .ro, 0, 3⟩
def GLB_IDENT_bay : Fld := ⟨0, 15, 1, .ro, 0, 3⟩
def GLB_IDENT_pair_shelf : Fld := ⟨0, 14, 1, .ro, 0, 3⟩
-- GLB_SERIAL: R540
def GLB_SERIAL_serial : Fld := ⟨8, 0, 64, .ro, 0, 3⟩
-- GLB_MGMT_SEQ: R540
def GLB_MGMT_SEQ_last_completed : Fld := ⟨0x10, 32, 32, .ro, 0, 3⟩
def GLB_MGMT_SEQ_last_accepted : Fld := ⟨0x10, 0, 32, .ro, 0, 3⟩
-- GLB_CTRL: R540
def GLB_CTRL_key : Fld := ⟨0x18, 8, 8, .wo, 0, 3⟩
def GLB_CTRL_locate : Fld := ⟨0x18, 2, 1, .rw, 0, 1⟩
def GLB_CTRL_core_reset : Fld := ⟨0x18, 1, 1, .wo, 0, 3⟩
def GLB_CTRL_warm : Fld := ⟨0x18, 0, 1, .wo, 0, 3⟩
-- GLB_STATUS: R542
def GLB_STATUS_cfg_lock : Fld := ⟨0x20, 63, 1, .ro, 0, 3⟩
def GLB_STATUS_rwl_ignored : Fld := ⟨0x20, 32, 16, .rw1cAll, 0, 3⟩
def GLB_STATUS_mgmt_denied : Fld := ⟨0x20, 16, 16, .rw1cAll, 0, 3⟩
-- GLB_CORE_STATUS: R542
def GLB_CORE_STATUS_state : Fld := ⟨0x80, 62, 2, .ro, 0, 3⟩
def GLB_CORE_STATUS_beat : Fld := ⟨0x80, 0, 32, .fw, 0, 3⟩
-- GLB_SCRATCH: R542
def GLB_SCRATCH_data : Fld := ⟨0x100, 0, 64, .rw, 0, 1⟩
-- CLK_STATUS: R543
def CLK_STATUS_pll_lock : Fld := ⟨0x100000, 31, 1, .ro, 0, 3⟩
def CLK_STATUS_holdover : Fld := ⟨0x100000, 30, 1, .ro, 0, 3⟩
def CLK_STATUS_ref_ok : Fld := ⟨0x100000, 29, 1, .ro, 0, 3⟩
def CLK_STATUS_ref_ppm : Fld := ⟨0x100000, 0, 16, .ro, 0, 3⟩
-- CLK_DTC: R543
def CLK_DTC_dtc : Fld := ⟨0x100008, 0, 64, .ro, 0, 1⟩
-- CLK_RESET_CAUSE: R543
def CLK_RESET_CAUSE_kind : Fld := ⟨0x100010, 4, 4, .ro, 0, 1⟩
def CLK_RESET_CAUSE_cause : Fld := ⟨0x100010, 0, 4, .ro, 0, 1⟩
-- EVT_CFG: R528
def EVT_CFG_coal_ms : Fld := ⟨0x200000, 16, 16, .rw, 0x3E8, 3⟩
def EVT_CFG_stall_10ms : Fld := ⟨0x200000, 8, 8, .rw, 0xA, 3⟩
def EVT_CFG_pldm_sev : Fld := ⟨0x200000, 0, 3, .rw, 3, 3⟩
-- EVT_STATUS: R528
def EVT_STATUS_buffered : Fld := ⟨0x200008, 32, 13, .ro, 0, 3⟩
def EVT_STATUS_stalled : Fld := ⟨0x200008, 16, 16, .ro, 0, 3⟩
-- EVT_SEQ: R528
def EVT_SEQ_next_seq : Fld := ⟨0x200010, 0, 64, .ro, 0, 3⟩
-- EVT_LAST_FATAL: R528
def EVT_LAST_FATAL_code : Fld := ⟨0x200018, 48, 16, .rs, 0, 1⟩
def EVT_LAST_FATAL_seq : Fld := ⟨0x200018, 0, 48, .rs, 0, 1⟩
-- EVT_RING_CFG: R528
def EVT_RING_CFG_en : Fld := ⟨0x201000, 63, 1, .rw, 0, 3⟩
def EVT_RING_CFG_target : Fld := ⟨0x201000, 61, 2, .rw, 0, 3⟩
def EVT_RING_CFG_fmt : Fld := ⟨0x201000, 60, 1, .rw, 0, 3⟩
def EVT_RING_CFG_log2_size : Fld := ⟨0x201000, 55, 5, .rw, 0xA, 3⟩
def EVT_RING_CFG_min_sev : Fld := ⟨0x201000, 52, 3, .rw, 0, 3⟩
def EVT_RING_CFG_vector : Fld := ⟨0x201000, 40, 11, .rw, 0, 3⟩
def EVT_RING_CFG_notify_count : Fld := ⟨0x201000, 32, 8, .rw, 0x10, 3⟩
def EVT_RING_CFG_block_mask : Fld := ⟨0x201000, 0, 24, .rw, 0xFFFFFF, 3⟩
-- EVT_RING_BASE: R528
def EVT_RING_BASE_base : Fld := ⟨0x201008, 12, 52, .rw, 0, 3⟩
-- EVT_RING_DEST: R528
def EVT_RING_DEST_eid : Fld := ⟨0x201010, 32, 32, .rw, 0, 3⟩
def EVT_RING_DEST_region_key : Fld := ⟨0x201010, 0, 32, .rw, 0, 3⟩
-- EVT_RING_PTR: R528
def EVT_RING_PTR_stalled : Fld := ⟨0x201018, 63, 1, .rw1c, 0, 3⟩
def EVT_RING_PTR_phase : Fld := ⟨0x201018, 48, 1, .ro, 0, 3⟩
def EVT_RING_PTR_tail : Fld := ⟨0x201018, 32, 16, .ro, 0, 3⟩
def EVT_RING_PTR_head : Fld := ⟨0x201018, 0, 16, .rw, 0, 3⟩
-- CTR_SNAP_CFG: R529
def CTR_SNAP_CFG_period_ms : Fld := ⟨0x300000, 0, 14, .rw, 0x3E8, 3⟩
-- CTR_SNAP_STATUS: R529
def CTR_SNAP_STATUS_snap_seq : Fld := ⟨0x300008, 0, 64, .ro, 0, 3⟩
-- CTR_COMPAT_CFG: R529
def CTR_COMPAT_CFG_eid : Fld := ⟨0x300010, 32, 32, .rwl, 0, 3⟩
def CTR_COMPAT_CFG_prefix_len : Fld := ⟨0x300010, 26, 6, .rwl, 0, 3⟩
def CTR_COMPAT_CFG_en : Fld := ⟨0x300010, 0, 1, .rwl, 0, 3⟩
-- CTR_TGT_CFG: R529
def CTR_TGT_CFG_en : Fld := ⟨0x300100, 63, 1, .rw, 0, 3⟩
def CTR_TGT_CFG_target : Fld := ⟨0x300100, 61, 2, .rw, 0, 3⟩
def CTR_TGT_CFG_log2_slots : Fld := ⟨0x300100, 58, 3, .rw, 1, 3⟩
def CTR_TGT_CFG_count : Fld := ⟨0x300100, 32, 13, .rw, 0x1900, 3⟩
def CTR_TGT_CFG_first : Fld := ⟨0x300100, 0, 13, .rw, 0, 3⟩
-- CTR_TGT_BASE: R529
def CTR_TGT_BASE_base : Fld := ⟨0x300108, 12, 52, .rw, 0, 3⟩
-- CTR_TGT_DEST: R529
def CTR_TGT_DEST_eid : Fld := ⟨0x300110, 32, 32, .rw, 0, 3⟩
def CTR_TGT_DEST_region_key : Fld := ⟨0x300110, 0, 32, .rw, 0, 3⟩
-- CTR_TGT_PTR: R529
def CTR_TGT_PTR_skipped : Fld := ⟨0x300118, 48, 16, .ro, 0, 3⟩
def CTR_TGT_PTR_tail : Fld := ⟨0x300118, 32, 8, .ro, 0, 3⟩
def CTR_TGT_PTR_head : Fld := ⟨0x300118, 0, 8, .rw, 0, 3⟩
-- CTR_VAL: R529
def CTR_VAL_ovf : Fld := ⟨0x310000, 63, 1, .rw1c, 0, 3⟩
def CTR_VAL_value : Fld := ⟨0x310000, 0, 48, .rw, 0, 3⟩
-- CTR_CTL: R529
def CTR_CTL_wrap : Fld := ⟨0x330000, 1, 1, .rw, 0, 3⟩
def CTR_CTL_level : Fld := ⟨0x330000, 0, 1, .rw, 0, 3⟩
-- CTR_ESEL: R529
def CTR_ESEL_en : Fld := ⟨0x340000, 63, 1, .rw, 0, 3⟩
def CTR_ESEL_kind : Fld := ⟨0x340000, 60, 3, .rw, 0, 3⟩
def CTR_ESEL_sel : Fld := ⟨0x340000, 44, 16, .rw, 0, 3⟩
def CTR_ESEL_src_en : Fld := ⟨0x340000, 43, 1, .rw, 0, 3⟩
def CTR_ESEL_instance : Fld := ⟨0x340000, 0, 32, .rw, 0, 3⟩
-- TEL_CMD: R530
def TEL_CMD_busy : Fld := ⟨0x400000, 31, 1, .ro, 0, 3⟩
def TEL_CMD_clear : Fld := ⟨0x400000, 16, 1, .wo, 0, 3⟩
def TEL_CMD_unit : Fld := ⟨0x400000, 0, 10, .wo, 0, 3⟩
-- TEL_RD: R530
def TEL_RD_data : Fld := ⟨0x400100, 0, 64, .ro, 0, 3⟩
-- TEL_UNIT_CFG: R530
def TEL_UNIT_CFG_src : Fld := ⟨0x410000, 60, 4, .rw, 0, 3⟩
def TEL_UNIT_CFG_unit : Fld := ⟨0x410000, 58, 2, .rw, 0, 3⟩
def TEL_UNIT_CFG_op : Fld := ⟨0x410000, 56, 2, .rw, 0, 3⟩
def TEL_UNIT_CFG_shift : Fld := ⟨0x410000, 51, 5, .rw, 0, 3⟩
def TEL_UNIT_CFG_instance : Fld := ⟨0x410000, 0, 16, .rw, 0, 3⟩
-- PWR_FEED_CFG: R449
def PWR_FEED_CFG_revert_s : Fld := ⟨0x500000, 24, 8, .rwl, 0xA, 3⟩
def PWR_FEED_CFG_dead_us : Fld := ⟨0x500000, 16, 8, .rwl, 0x32, 3⟩
def PWR_FEED_CFG_prefer : Fld := ⟨0x500000, 14, 2, .rwl, 0, 3⟩
def PWR_FEED_CFG_qual_ms : Fld := ⟨0x500000, 0, 14, .rwl, 0x3E8, 3⟩
-- PWR_HOLD_CFG: R449
def PWR_HOLD_CFG_ride_ms : Fld := ⟨0x500004, 0, 8, .rwl, 0xA, 3⟩
-- PWR_STORE_CFG: R449
def PWR_STORE_CFG_test_h : Fld := ⟨0x500008, 16, 16, .rwl, 0x18, 3⟩
def PWR_STORE_CFG_chg_a : Fld := ⟨0x500008, 0, 3, .rwl, 4, 3⟩
-- PWR_FEED_STATUS: R449
def PWR_FEED_STATUS_state : Fld := ⟨0x500010, 62, 2, .ro, 0, 1⟩
def PWR_FEED_STATUS_active : Fld := ⟨0x500010, 61, 1, .ro, 0, 1⟩
def PWR_FEED_STATUS_cause : Fld := ⟨0x500010, 58, 3, .ro, 0, 1⟩
def PWR_FEED_STATUS_vrms : Fld := ⟨0x500010, 36, 12, .ro, 0, 1⟩
def PWR_FEED_STATUS_freq : Fld := ⟨0x500010, 24, 12, .ro, 0, 1⟩
def PWR_FEED_STATUS_pin_w : Fld := ⟨0x500010, 12, 12, .ro, 0, 1⟩
def PWR_FEED_STATUS_losses : Fld := ⟨0x500010, 0, 12, .ro, 0, 1⟩
-- PWR_BUS_STATUS: R449
def PWR_BUS_STATUS_vbus : Fld := ⟨0x500020, 48, 16, .ro, 0, 1⟩
def PWR_BUS_STATUS_ibus : Fld := ⟨0x500020, 32, 16, .ro, 0, 1⟩
def PWR_BUS_STATUS_vbus_min : Fld := ⟨0x500020, 16, 16, .rc, 0xFFFF, 1⟩
def PWR_BUS_STATUS_source : Fld := ⟨0x500020, 0, 2, .ro, 3, 1⟩
-- PWR_STORE_STATUS: R449
def PWR_STORE_STATUS_vstore : Fld := ⟨0x500028, 48, 16, .ro, 0, 1⟩
def PWR_STORE_STATUS_cap_mf : Fld := ⟨0x500028, 32, 16, .ro, 0xA41, 1⟩
def PWR_STORE_STATUS_e_j : Fld := ⟨0x500028, 22, 10, .ro, 0, 1⟩
def PWR_STORE_STATUS_temp_c : Fld := ⟨0x500028, 14, 8, .ro, 0, 1⟩
def PWR_STORE_STATUS_state : Fld := ⟨0x500028, 11, 3, .ro, 0, 1⟩
def PWR_STORE_STATUS_eol : Fld := ⟨0x500028, 10, 1, .ro, 0, 1⟩
def PWR_STORE_STATUS_esr : Fld := ⟨0x500028, 0, 10, .ro, 0, 1⟩
-- PWR_SEQ_STATUS: R449
def PWR_SEQ_STATUS_seq : Fld := ⟨0x500030, 62, 2, .ro, 0, 1⟩
def PWR_SEQ_STATUS_rides : Fld := ⟨0x500030, 32, 16, .ro, 0, 1⟩
def PWR_SEQ_STATUS_dumps : Fld := ⟨0x500030, 16, 16, .ro, 0, 1⟩
def PWR_SEQ_STATUS_elapsed : Fld := ⟨0x500030, 0, 16, .ro, 0, 1⟩
-- PWR_THERM_STATUS: R449
def PWR_THERM_STATUS_die_c : Fld := ⟨0x500038, 56, 8, .ro, 0, 1⟩
def PWR_THERM_STATUS_inlet_c : Fld := ⟨0x500038, 48, 8, .ro, 0, 1⟩
def PWR_THERM_STATUS_store_c : Fld := ⟨0x500038, 40, 8, .ro, 0, 1⟩
def PWR_THERM_STATUS_fe_a_c : Fld := ⟨0x500038, 32, 8, .ro, 0, 1⟩
def PWR_THERM_STATUS_fe_b_c : Fld := ⟨0x500038, 24, 8, .ro, 0, 1⟩
def PWR_THERM_STATUS_heat_w : Fld := ⟨0x500038, 12, 12, .ro, 0, 1⟩
-- SLT_GLOBAL_CFG: R467
def SLT_GLOBAL_CFG_present_10ms : Fld := ⟨0x600000, 24, 8, .rwl, 0x32, 3⟩
def SLT_GLOBAL_CFG_pg_perst_ms : Fld := ⟨0x600000, 16, 8, .rwl, 0x64, 3⟩
def SLT_GLOBAL_CFG_ramp_ms : Fld := ⟨0x600000, 8, 8, .rwl, 0x14, 3⟩
def SLT_GLOBAL_CFG_fault_ms : Fld := ⟨0x600000, 0, 8, .rwl, 5, 3⟩
-- SLT_CMD: R467
def SLT_CMD_busy : Fld := ⟨0x600010, 31, 1, .ro, 0, 3⟩
def SLT_CMD_result : Fld := ⟨0x600010, 24, 4, .ro, 0, 3⟩
def SLT_CMD_op : Fld := ⟨0x600010, 16, 8, .wo, 0, 3⟩
def SLT_CMD_slot : Fld := ⟨0x600010, 0, 5, .wo, 0, 3⟩
-- SLT_SUPPLY_STATUS: R467
def SLT_SUPPLY_STATUS_low : Fld := ⟨0x600018, 31, 1, .ro, 0, 3⟩
def SLT_SUPPLY_STATUS_v_mv : Fld := ⟨0x600018, 0, 16, .ro, 0, 3⟩
-- SLT_CH_CFG: R467
def SLT_CH_CFG_auto_on : Fld := ⟨0x600100, 15, 1, .rw, 1, 3⟩
def SLT_CH_CFG_retries : Fld := ⟨0x600100, 12, 3, .rw, 0, 3⟩
def SLT_CH_CFG_p_lim_w : Fld := ⟨0x600100, 0, 6, .rw, 0x19, 3⟩
-- SLT_CH_STATUS: R467
def SLT_CH_STATUS_state : Fld := ⟨0x600200, 61, 3, .ro, 0, 3⟩
def SLT_CH_STATUS_owner : Fld := ⟨0x600200, 60, 1, .ro, 0, 3⟩
def SLT_CH_STATUS_present : Fld := ⟨0x600200, 59, 1, .ro, 0, 3⟩
def SLT_CH_STATUS_pg : Fld := ⟨0x600200, 58, 1, .ro, 0, 3⟩
def SLT_CH_STATUS_perst_rel : Fld := ⟨0x600200, 57, 1, .ro, 0, 3⟩
def SLT_CH_STATUS_cause : Fld := ⟨0x600200, 53, 4, .ro, 0, 3⟩
def SLT_CH_STATUS_retries_left : Fld := ⟨0x600200, 50, 3, .ro, 0, 3⟩
def SLT_CH_STATUS_ntc_fault : Fld := ⟨0x600200, 49, 1, .ro, 0, 3⟩
def SLT_CH_STATUS_locate : Fld := ⟨0x600200, 48, 1, .ro, 0, 3⟩
def SLT_CH_STATUS_trips : Fld := ⟨0x600200, 0, 16, .rw1cAll, 0, 1⟩
-- SLT_CH_MEAS: R467
def SLT_CH_MEAS_v12_mv : Fld := ⟨0x600300, 48, 16, .ro, 0, 3⟩
def SLT_CH_MEAS_i_ma : Fld := ⟨0x600300, 32, 16, .ro, 0, 3⟩
def SLT_CH_MEAS_v3_10mv : Fld := ⟨0x600300, 20, 12, .ro, 0, 3⟩
def SLT_CH_MEAS_p_dw : Fld := ⟨0x600300, 8, 12, .ro, 0, 3⟩
def SLT_CH_MEAS_tj_c : Fld := ⟨0x600300, 0, 8, .ro, 0, 3⟩
-- SLT_CH_AVG: R467
def SLT_CH_AVG_p_avg_dw : Fld := ⟨0x600400, 52, 12, .ro, 0, 3⟩
def SLT_CH_AVG_p_max_dw : Fld := ⟨0x600400, 40, 12, .rc, 0, 3⟩
def SLT_CH_AVG_tntc_c : Fld := ⟨0x600400, 32, 8, .ro, 0, 3⟩
-- SLT_CH_ENERGY: R467
def SLT_CH_ENERGY_energy_uj : Fld := ⟨0x600500, 0, 64, .ro, 0, 1⟩
-- SLT_THERM_CFG: R467
def SLT_THERM_CFG_tj_max_c : Fld := ⟨0x600600, 56, 8, .rwl, 0x96, 3⟩
def SLT_THERM_CFG_tj_warn_c : Fld := ⟨0x600600, 48, 8, .rwl, 0x7D, 3⟩
def SLT_THERM_CFG_rth_jc : Fld := ⟨0x600600, 40, 8, .rwl, 0xC, 3⟩
def SLT_THERM_CFG_tau_jc_ms : Fld := ⟨0x600600, 32, 8, .rwl, 5, 3⟩
def SLT_THERM_CFG_rth_ca : Fld := ⟨0x600600, 22, 10, .rwl, 0xFA, 3⟩
def SLT_THERM_CFG_tau_ca : Fld := ⟨0x600600, 12, 10, .rwl, 0xC8, 3⟩
def SLT_THERM_CFG_tau_s : Fld := ⟨0x600600, 6, 6, .rwl, 0xA, 3⟩
def SLT_THERM_CFG_ron : Fld := ⟨0x600600, 0, 6, .rwl, 0x1E, 3⟩
-- BOOT_STATUS: R486
def BOOT_STATUS_stage : Fld := ⟨0x700000, 60, 4, .ro, 0, 3⟩
def BOOT_STATUS_running_bank : Fld := ⟨0x700000, 59, 1, .ro, 0, 3⟩
def BOOT_STATUS_locked : Fld := ⟨0x700000, 58, 1, .ro, 0, 3⟩
def BOOT_STATUS_state_a : Fld := ⟨0x700000, 55, 3, .ro, 0, 3⟩
def BOOT_STATUS_state_b : Fld := ⟨0x700000, 52, 3, .ro, 0, 3⟩
def BOOT_STATUS_owner_slots : Fld := ⟨0x700000, 48, 4, .ro, 0, 3⟩
def BOOT_STATUS_fw_svn_min : Fld := ⟨0x700000, 40, 8, .ro, 0, 3⟩
def BOOT_STATUS_cfg_svn_min : Fld := ⟨0x700000, 32, 8, .ro, 0, 3⟩
def BOOT_STATUS_boot_ms : Fld := ⟨0x700000, 0, 32, .ro, 0, 3⟩
-- BOOT_CMD: R486
def BOOT_CMD_busy : Fld := ⟨0x700008, 31, 1, .ro, 0, 3⟩
def BOOT_CMD_result : Fld := ⟨0x700008, 24, 4, .ro, 0, 3⟩
def BOOT_CMD_op : Fld := ⟨0x700008, 16, 8, .wo, 0, 3⟩
-- BOOT_FW_STATUS: R486
def BOOT_FW_STATUS_act_state : Fld := ⟨0x700010, 62, 2, .ro, 0, 3⟩
def BOOT_FW_STATUS_act_count : Fld := ⟨0x700010, 40, 8, .ro, 0, 3⟩
def BOOT_FW_STATUS_last_act_ms : Fld := ⟨0x700010, 32, 8, .ro, 0, 3⟩
def BOOT_FW_STATUS_fw_version : Fld := ⟨0x700010, 0, 32, .ro, 0, 3⟩
-- BOOT_RIME_STATUS: R501
def BOOT_RIME_STATUS_state : Fld := ⟨0x700018, 62, 2, .ro, 0, 3⟩
def BOOT_RIME_STATUS_prior_torn : Fld := ⟨0x700018, 61, 1, .ro, 0, 3⟩
def BOOT_RIME_STATUS_record_count : Fld := ⟨0x700018, 32, 17, .ro, 0, 3⟩
def BOOT_RIME_STATUS_boot_count : Fld := ⟨0x700018, 0, 32, .ro, 0, 3⟩
-- BOOT_RIME_SEQ: R501
def BOOT_RIME_SEQ_last_seq : Fld := ⟨0x700020, 0, 64, .ro, 0, 3⟩
-- BOOT_MEAS: R501
def BOOT_MEAS_data : Fld := ⟨0x700100, 0, 64, .ro, 0, 3⟩
-- KEY_STATUS: R195
def KEY_STATUS_busy : Fld := ⟨0x800000, 31, 1, .ro, 0, 3⟩
def KEY_STATUS_state : Fld := ⟨0x800000, 28, 3, .ro, 0, 3⟩
def KEY_STATUS_result : Fld := ⟨0x800000, 16, 8, .ro, 0, 3⟩
def KEY_STATUS_done_count : Fld := ⟨0x800000, 0, 16, .ro, 0, 3⟩
-- KEY_CMD: R195
def KEY_CMD_op : Fld := ⟨0x800008, 48, 8, .wo, 0, 3⟩
def KEY_CMD_aux : Fld := ⟨0x800008, 32, 16, .wo, 0, 3⟩
def KEY_CMD_slot : Fld := ⟨0x800008, 16, 16, .wo, 0, 3⟩
def KEY_CMD_kind : Fld := ⟨0x800008, 10, 2, .wo, 0, 3⟩
def KEY_CMD_persist : Fld := ⟨0x800008, 9, 1, .wo, 0, 3⟩
def KEY_CMD_class : Fld := ⟨0x800008, 8, 1, .wo, 0, 3⟩
def KEY_CMD_zap_old : Fld := ⟨0x800008, 0, 1, .wo, 0, 3⟩
-- KEY_DATA: R195
def KEY_DATA_data : Fld := ⟨0x801000, 0, 64, .rw, 0, 3⟩
-- KEY_EP_PROT: R195
def KEY_EP_PROT_eid : Fld := ⟨0x810000, 32, 32, .rw, 0, 3⟩
def KEY_EP_PROT_prefix_len : Fld := ⟨0x810000, 26, 6, .rw, 0, 3⟩
def KEY_EP_PROT_slot : Fld := ⟨0x810000, 0, 16, .rw, 0, 3⟩
-- KEY_NS_GEN: R195
def KEY_NS_GEN_sweeping : Fld := ⟨0x820000, 63, 1, .ro, 0, 3⟩
def KEY_NS_GEN_kgen : Fld := ⟨0x820000, 62, 1, .ro, 0, 3⟩
def KEY_NS_GEN_zap_old : Fld := ⟨0x820000, 61, 1, .ro, 0, 3⟩
def KEY_NS_GEN_old_slot : Fld := ⟨0x820000, 40, 16, .ro, 0, 3⟩
def KEY_NS_GEN_remaining : Fld := ⟨0x820000, 0, 40, .ro, 0, 3⟩
-- KEY_SLOT_INFO: R195
def KEY_SLOT_INFO_kind : Fld := ⟨0x840000, 59, 2, .ro, 0, 3⟩
def KEY_SLOT_INFO_state : Fld := ⟨0x840000, 57, 2, .ro, 0, 3⟩
def KEY_SLOT_INFO_class : Fld := ⟨0x840000, 56, 1, .ro, 0, 3⟩
def KEY_SLOT_INFO_persist : Fld := ⟨0x840000, 55, 1, .ro, 0, 3⟩
def KEY_SLOT_INFO_bind : Fld := ⟨0x840000, 53, 2, .ro, 0, 3⟩
def KEY_SLOT_INFO_bound : Fld := ⟨0x840000, 0, 32, .ro, 0, 3⟩
-- CIP_LANE_STATUS: R545
def CIP_LANE_STATUS_bulk_live : Fld := ⟨0x900000, 56, 8, .ro, 0, 3⟩
def CIP_LANE_STATUS_assured_live : Fld := ⟨0x900000, 52, 4, .ro, 0, 3⟩
def CIP_LANE_STATUS_failed : Fld := ⟨0x900000, 0, 48, .ro, 0, 3⟩
-- MAC_CAGE_CFG: R544
def MAC_CAGE_CFG_mode : Fld := ⟨0xA00000, 0, 2, .rwl, 0, 3⟩
-- MAC_PORT_CFG: R544
def MAC_PORT_CFG_en : Fld := ⟨0xA00100, 60, 1, .rwl, 0, 3⟩
def MAC_PORT_CFG_vlan : Fld := ⟨0xA00100, 48, 12, .rwl, 0, 3⟩
def MAC_PORT_CFG_mac : Fld := ⟨0xA00100, 0, 48, .rwl, 0, 3⟩
-- MAC_PORT_STATUS: R544
def MAC_PORT_STATUS_up : Fld := ⟨0xA00300, 63, 1, .ro, 0, 3⟩
def MAC_PORT_STATUS_speed : Fld := ⟨0xA00300, 60, 3, .ro, 0, 3⟩
def MAC_PORT_STATUS_fec_lock : Fld := ⟨0xA00300, 59, 1, .ro, 0, 3⟩
def MAC_PORT_STATUS_held : Fld := ⟨0xA00300, 58, 1, .ro, 0, 3⟩
def MAC_PORT_STATUS_flaps : Fld := ⟨0xA00300, 32, 16, .ro, 0, 3⟩
-- MAC_PFC_CFG: R85
def MAC_PFC_CFG_headroom_cells : Fld := ⟨0xA80000, 48, 16, .rwl, 0x400, 3⟩
def MAC_PFC_CFG_xoff_cells : Fld := ⟨0xA80000, 32, 16, .rwl, 0x800, 3⟩
def MAC_PFC_CFG_storm_restore : Fld := ⟨0xA80000, 24, 8, .rwl, 0x14, 3⟩
def MAC_PFC_CFG_storm_ms : Fld := ⟨0xA80000, 16, 8, .rwl, 0x14, 3⟩
def MAC_PFC_CFG_pfc_en : Fld := ⟨0xA80000, 0, 8, .rwl, 0, 3⟩
-- SWC_CT_EN: R364
def SWC_CT_EN_ct_en : Fld := ⟨0xB00000, 0, 34, .rwl, 0x3FFFFFFFF, 3⟩
-- SWC_BUF_CFG: R364
def SWC_BUF_CFG_reserve_cpu : Fld := ⟨0xB00008, 16, 16, .rwl, 0x200, 3⟩
def SWC_BUF_CFG_reserve_pl : Fld := ⟨0xB00008, 0, 16, .rwl, 0x1000, 3⟩
-- SWC_QLIMIT: R364
def SWC_QLIMIT_alpha : Fld := ⟨0xB00010, 0, 64, .rw, 0x808080808080808, 3⟩
-- SWC_BUF_STATUS: R364
def SWC_BUF_STATUS_min_free : Fld := ⟨0xB00018, 32, 19, .rc, 0x40000, 3⟩
def SWC_BUF_STATUS_free_cells : Fld := ⟨0xB00018, 0, 19, .ro, 0x40000, 3⟩
-- SWC_MORAINE_CFG: R364
def SWC_MORAINE_CFG_repair_en : Fld := ⟨0xB00020, 16, 1, .rw, 1, 3⟩
def SWC_MORAINE_CFG_audit_ms : Fld := ⟨0xB00020, 0, 16, .rw, 0x64, 3⟩
-- SWC_MORAINE_STATUS: R364
def SWC_MORAINE_STATUS_sweeps : Fld := ⟨0xB00028, 48, 16, .ro, 0, 3⟩
def SWC_MORAINE_STATUS_conflicts : Fld := ⟨0xB00028, 32, 16, .rw1cAll, 0, 3⟩
def SWC_MORAINE_STATUS_leaked_staging : Fld := ⟨0xB00028, 16, 16, .rw1cAll, 0, 3⟩
def SWC_MORAINE_STATUS_leaked_cells : Fld := ⟨0xB00028, 0, 16, .rw1cAll, 0, 3⟩
-- SWC_MIRROR: R364
def SWC_MIRROR_en : Fld := ⟨0xB10000, 63, 1, .rw, 0, 3⟩
def SWC_MIRROR_dir : Fld := ⟨0xB10000, 61, 2, .rw, 0, 3⟩
def SWC_MIRROR_flow : Fld := ⟨0xB10000, 60, 1, .rw, 0, 3⟩
def SWC_MIRROR_src_port : Fld := ⟨0xB10000, 54, 6, .rw, 0x3F, 3⟩
def SWC_MIRROR_dst_port : Fld := ⟨0xB10000, 48, 6, .rw, 0x3F, 3⟩
def SWC_MIRROR_vlan : Fld := ⟨0xB10000, 36, 12, .rw, 0, 3⟩
def SWC_MIRROR_tc : Fld := ⟨0xB10000, 33, 3, .rw, 0, 3⟩
def SWC_MIRROR_trunc : Fld := ⟨0xB10000, 24, 8, .rw, 0, 3⟩
def SWC_MIRROR_sample : Fld := ⟨0xB10000, 0, 16, .rw, 1, 3⟩
-- SWC_MIRROR_FLOW: R364
def SWC_MIRROR_FLOW_eid : Fld := ⟨0xB10008, 32, 32, .rw, 0, 3⟩
def SWC_MIRROR_FLOW_prefix_len : Fld := ⟨0xB10008, 26, 6, .rw, 0, 3⟩
def SWC_MIRROR_FLOW_match_dst : Fld := ⟨0xB10008, 25, 1, .rw, 0, 3⟩
def SWC_MIRROR_FLOW_opcode : Fld := ⟨0xB10008, 12, 4, .rw, 0, 3⟩
def SWC_MIRROR_FLOW_op_any : Fld := ⟨0xB10008, 11, 1, .rw, 1, 3⟩
-- FWD_AGE_CFG: R385
def FWD_AGE_CFG_sweep_s : Fld := ⟨0xC00000, 0, 16, .rw, 0x4B, 3⟩
-- FWD_LEARN_CFG: R385
def FWD_LEARN_CFG_stash_hi : Fld := ⟨0xC00004, 16, 8, .rwl, 0x30, 3⟩
def FWD_LEARN_CFG_mod_refresh_s : Fld := ⟨0xC00004, 8, 8, .rwl, 0xA, 3⟩
def FWD_LEARN_CFG_learn_mod_en : Fld := ⟨0xC00004, 0, 1, .rwl, 1, 3⟩
-- FWD_CMD: R385
def FWD_CMD_busy : Fld := ⟨0xC00008, 31, 1, .ro, 0, 3⟩
def FWD_CMD_result : Fld := ⟨0xC00008, 24, 4, .ro, 0, 3⟩
def FWD_CMD_op : Fld := ⟨0xC00008, 16, 8, .wo, 0, 3⟩
def FWD_CMD_table : Fld := ⟨0xC00008, 6, 1, .wo, 0, 3⟩
def FWD_CMD_port : Fld := ⟨0xC00008, 0, 6, .wo, 0, 3⟩
-- FWD_CMD_DATA: R385
def FWD_CMD_DATA_data : Fld := ⟨0xC00010, 0, 64, .rw, 0, 3⟩
-- FWD_EPOCH: R385
def FWD_EPOCH_current : Fld := ⟨0xC00020, 0, 32, .ro, 0, 3⟩
-- FWD_EPOCH_DRAINED: R385
def FWD_EPOCH_DRAINED_drained : Fld := ⟨0xC00024, 0, 32, .ro, 0, 3⟩
-- FWD_TABLE: R385
def FWD_TABLE_state : Fld := ⟨0xC00040, 62, 2, .ro, 0, 3⟩
def FWD_TABLE_active : Fld := ⟨0xC00040, 61, 1, .ro, 0, 3⟩
def FWD_TABLE_req : Fld := ⟨0xC00040, 60, 1, .ro, 0, 3⟩
def FWD_TABLE_stash_used : Fld := ⟨0xC00040, 32, 7, .ro, 0, 3⟩
def FWD_TABLE_entries : Fld := ⟨0xC00040, 0, 21, .ro, 0, 3⟩
-- FWD_SEED: R385
def FWD_SEED_seed1 : Fld := ⟨0xC00080, 32, 32, .rw, 0, 3⟩
def FWD_SEED_seed2 : Fld := ⟨0xC00080, 0, 32, .rw, 0, 3⟩
-- FWD_PORT_CFG: R385
def FWD_PORT_CFG_learned : Fld := ⟨0xC10000, 32, 16, .ro, 0, 3⟩
def FWD_PORT_CFG_learn_limit : Fld := ⟨0xC10000, 16, 16, .rwl, 0x400, 3⟩
def FWD_PORT_CFG_flush_down : Fld := ⟨0xC10000, 4, 1, .rwl, 1, 3⟩
def FWD_PORT_CFG_cluster : Fld := ⟨0xC10000, 3, 1, .rwl, 0, 3⟩
def FWD_PORT_CFG_flood_en : Fld := ⟨0xC10000, 2, 1, .rwl, 0, 3⟩
def FWD_PORT_CFG_limit_action : Fld := ⟨0xC10000, 1, 1, .rwl, 0, 3⟩
def FWD_PORT_CFG_learn_en : Fld := ⟨0xC10000, 0, 1, .rwl, 1, 3⟩
-- FWD_PORT_GROUP: R385
def FWD_PORT_GROUP_en : Fld := ⟨0xC20000, 63, 1, .rwl, 0, 3⟩
def FWD_PORT_GROUP_cluster : Fld := ⟨0xC20000, 62, 1, .rwl, 0, 3⟩
def FWD_PORT_GROUP_members : Fld := ⟨0xC20000, 0, 34, .rwl, 0, 3⟩
-- TMS_DSCP_MAP: R99
def TMS_DSCP_MAP_dscp : Fld := ⟨0xD00000, 0, 48, .rwl, 0xE30A20610200, 3⟩
-- TMS_SAMPLE_CFG: R99
def TMS_SAMPLE_CFG_stale_periods : Fld := ⟨0xD00010, 16, 8, .rwl, 0x10, 3⟩
def TMS_SAMPLE_CFG_period : Fld := ⟨0xD00010, 0, 16, .rwl, 0xA, 3⟩
-- TMS_POLICE_CFG: R99
def TMS_POLICE_CFG_cmd_cost : Fld := ⟨0xD00014, 0, 16, .rw, 0x200, 3⟩
-- TMS_REBUILD_FLOOR: R99
def TMS_REBUILD_FLOOR_floor : Fld := ⟨0xD00018, 0, 23, .rw, 0, 3⟩
-- TMS_TENANT_CFG: R99
def TMS_TENANT_CFG_max_rate : Fld := ⟨0xD10000, 41, 23, .rw, 0, 3⟩
def TMS_TENANT_CFG_max_burst : Fld := ⟨0xD10000, 25, 16, .rw, 0x100, 3⟩
def TMS_TENANT_CFG_weight : Fld := ⟨0xD10000, 13, 12, .rw, 1, 3⟩
def TMS_TENANT_CFG_red_action : Fld := ⟨0xD10000, 11, 2, .rw, 0, 3⟩
def TMS_TENANT_CFG_colour_aware : Fld := ⟨0xD10000, 10, 1, .rw, 0, 3⟩
def TMS_TENANT_CFG_police_en : Fld := ⟨0xD10000, 9, 1, .rw, 0, 3⟩
def TMS_TENANT_CFG_class : Fld := ⟨0xD10000, 0, 3, .rw, 0, 3⟩
-- TMS_POL_RATE: R99
def TMS_POL_RATE_eir : Fld := ⟨0xD20000, 32, 23, .rw, 0, 3⟩
def TMS_POL_RATE_cir : Fld := ⟨0xD20000, 0, 23, .rw, 0, 3⟩
-- TMS_POL_BURST: R99
def TMS_POL_BURST_ebs : Fld := ⟨0xD30000, 32, 32, .rw, 0, 3⟩
def TMS_POL_BURST_cbs : Fld := ⟨0xD30000, 0, 32, .rw, 0, 3⟩
-- TMS_CLASS_CFG: R99
def TMS_CLASS_CFG_strict : Fld := ⟨0xD40000, 31, 1, .rw, 1, 3⟩
def TMS_CLASS_CFG_weight : Fld := ⟨0xD40000, 23, 8, .rw, 1, 3⟩
def TMS_CLASS_CFG_max_rate : Fld := ⟨0xD40000, 0, 23, .rw, 0, 3⟩
-- TMS_PORT_SHAPE: R99
def TMS_PORT_SHAPE_overhead : Fld := ⟨0xD50000, 24, 8, .rw, 0x14, 3⟩
def TMS_PORT_SHAPE_max_rate : Fld := ⟨0xD50000, 0, 23, .rw, 0, 3⟩
-- TMS_QSAMPLE: R99
def TMS_QSAMPLE_head_delay : Fld := ⟨0xD60000, 32, 32, .ro, 0, 3⟩
def TMS_QSAMPLE_depth : Fld := ⟨0xD60000, 0, 19, .ro, 0, 3⟩
-- HKT_UDP_PORT: R72
def HKT_UDP_PORT_udp_port : Fld := ⟨0xE00000, 0, 16, .rwl, 0xB9A0, 3⟩
-- HKT_TIMER_CFG: R72
def HKT_TIMER_CFG_rto_min : Fld := ⟨0xE00010, 24, 8, .rwl, 8, 3⟩
def HKT_TIMER_CFG_gap_timeout : Fld := ⟨0xE00010, 16, 8, .rwl, 0x3C, 3⟩
def HKT_TIMER_CFG_ack_count : Fld := ⟨0xE00010, 8, 8, .rwl, 0x10, 3⟩
def HKT_TIMER_CFG_ack_delay : Fld := ⟨0xE00010, 0, 8, .rwl, 0xA, 3⟩
-- HKT_RETRY_CFG: R72
def HKT_RETRY_CFG_rto_max_exp : Fld := ⟨0xE00014, 4, 4, .rwl, 7, 3⟩
def HKT_RETRY_CFG_rto_limit : Fld := ⟨0xE00014, 0, 4, .rwl, 8, 3⟩
-- HKT_PATH_CFG: R72
def HKT_PATH_CFG_loss_retire : Fld := ⟨0xE00018, 16, 4, .rwl, 3, 3⟩
def HKT_PATH_CFG_probe_interval : Fld := ⟨0xE00018, 8, 8, .rwl, 0x32, 3⟩
def HKT_PATH_CFG_paths : Fld := ⟨0xE00018, 0, 5, .rwl, 8, 3⟩
-- HKT_MPL: R72
def HKT_MPL_mpl_us : Fld := ⟨0xE0001C, 0, 16, .rwl, 0x3E8, 3⟩
-- HKT_CC_CFG: R81
def HKT_CC_CFG_delay_target : Fld := ⟨0xE00020, 48, 16, .rwl, 0x78, 3⟩
def HKT_CC_CFG_local_target : Fld := ⟨0xE00020, 40, 8, .rwl, 0x1E, 3⟩
def HKT_CC_CFG_ai : Fld := ⟨0xE00020, 32, 8, .rwl, 0x10, 3⟩
def HKT_CC_CFG_dec_step : Fld := ⟨0xE00020, 24, 8, .rwl, 0x20, 3⟩
def HKT_CC_CFG_max_mdf : Fld := ⟨0xE00020, 16, 8, .rwl, 0x80, 3⟩
def HKT_CC_CFG_cwnd_init : Fld := ⟨0xE00020, 5, 11, .rwl, 0x20, 3⟩
def HKT_CC_CFG_min_depth : Fld := ⟨0xE00020, 0, 4, .rwl, 4, 3⟩
-- HKT_CTX_STATUS: R72
def HKT_CTX_STATUS_spilled : Fld := ⟨0xE00040, 32, 23, .ro, 0, 3⟩
def HKT_CTX_STATUS_cached : Fld := ⟨0xE00040, 0, 15, .ro, 0, 3⟩
-- QPE_FETCH_CFG: R138
def QPE_FETCH_CFG_merge_wait : Fld := ⟨0xF00000, 16, 8, .rwl, 0xA, 3⟩
def QPE_FETCH_CFG_cqe_merge : Fld := ⟨0xF00000, 8, 8, .rwl, 0x10, 3⟩
def QPE_FETCH_CFG_batch : Fld := ⟨0xF00000, 0, 8, .rwl, 0x20, 3⟩
-- QPE_HOLD_CFG: R138
def QPE_HOLD_CFG_admin_hold_ms : Fld := ⟨0xF00004, 16, 16, .rwl, 0x3E8, 3⟩
def QPE_HOLD_CFG_owner_hold_ms : Fld := ⟨0xF00004, 0, 16, .rwl, 0x64, 3⟩
-- QPE_STATUS: R138
def QPE_STATUS_cmds_in_flight : Fld := ⟨0xF00010, 32, 17, .ro, 0, 3⟩
def QPE_STATUS_qps_in_use : Fld := ⟨0xF00010, 0, 17, .ro, 0, 3⟩
-- QPE_QP_SEL: R138
def QPE_QP_SEL_qpn : Fld := ⟨0xF00020, 0, 16, .rw, 0, 3⟩
-- QPE_QP_COUNT: R138
def QPE_QP_COUNT_cq_seq : Fld := ⟨0xF00028, 48, 16, .ro, 0, 15⟩
def QPE_QP_COUNT_cq_phase : Fld := ⟨0xF00028, 47, 1, .ro, 0, 15⟩
def QPE_QP_COUNT_cmpl_count : Fld := ⟨0xF00028, 0, 32, .ro, 0, 15⟩
-- QPE_QP_STATE: R138
def QPE_QP_STATE_state : Fld := ⟨0xF40000, 61, 3, .ro, 0, 15⟩
def QPE_QP_STATE_admin : Fld := ⟨0xF40000, 60, 1, .ro, 0, 15⟩
def QPE_QP_STATE_local : Fld := ⟨0xF40000, 59, 1, .ro, 0, 15⟩
def QPE_QP_STATE_inflight : Fld := ⟨0xF40000, 48, 11, .ro, 0, 15⟩
def QPE_QP_STATE_sq_head : Fld := ⟨0xF40000, 36, 12, .ro, 0, 15⟩
def QPE_QP_STATE_sq_tail : Fld := ⟨0xF40000, 24, 12, .ro, 0, 15⟩
def QPE_QP_STATE_cq_tail : Fld := ⟨0xF40000, 12, 12, .ro, 0, 15⟩
def QPE_QP_STATE_cq_head : Fld := ⟨0xF40000, 0, 12, .ro, 0, 15⟩
-- NSM_NS_CFG: R165
def NSM_NS_CFG_state : Fld := ⟨0x1010000, 62, 2, .ro, 0, 3⟩
def NSM_NS_CFG_mode : Fld := ⟨0x1010000, 60, 2, .ro, 0, 3⟩
def NSM_NS_CFG_eff_mode : Fld := ⟨0x1010000, 58, 2, .ro, 0, 3⟩
def NSM_NS_CFG_prot_class : Fld := ⟨0x1010000, 57, 1, .ro, 0, 3⟩
def NSM_NS_CFG_owned : Fld := ⟨0x1010000, 56, 1, .ro, 0, 3⟩
def NSM_NS_CFG_group : Fld := ⟨0x1010000, 52, 4, .ro, 0, 3⟩
def NSM_NS_CFG_key_slot : Fld := ⟨0x1010000, 32, 16, .ro, 0, 3⟩
def NSM_NS_CFG_tenant : Fld := ⟨0x1010000, 16, 12, .ro, 0, 3⟩
def NSM_NS_CFG_creator : Fld := ⟨0x1010000, 0, 16, .ro, 0, 3⟩
-- STR_POOL_CFG: R241
def STR_POOL_CFG_chunk_128 : Fld := ⟨0x1100000, 16, 1, .rwl, 0, 3⟩
def STR_POOL_CFG_spare_members : Fld := ⟨0x1100000, 8, 2, .rwl, 1, 3⟩
def STR_POOL_CFG_op_pct : Fld := ⟨0x1100000, 0, 8, .rwl, 0xC, 3⟩
-- STR_ADAPT_CFG: R241
def STR_ADAPT_CFG_window_ms : Fld := ⟨0x1100004, 16, 16, .rwl, 0x3E8, 3⟩
def STR_ADAPT_CFG_step : Fld := ⟨0x1100004, 12, 4, .rwl, 4, 3⟩
def STR_ADAPT_CFG_pad_hi_pct : Fld := ⟨0x1100004, 4, 4, .rwl, 0xA, 3⟩
def STR_ADAPT_CFG_pad_lo_pct : Fld := ⟨0x1100004, 0, 4, .rwl, 1, 3⟩
-- STR_CALVE_CFG: R241
def STR_CALVE_CFG_start : Fld := ⟨0x1100008, 16, 8, .rwl, 0x3C, 3⟩
def STR_CALVE_CFG_urgent : Fld := ⟨0x1100008, 8, 8, .rwl, 0x1E, 3⟩
def STR_CALVE_CFG_stop : Fld := ⟨0x1100008, 0, 8, .rwl, 0xA, 3⟩
-- STR_HEDGE_CFG: R241
def STR_HEDGE_CFG_floor_us : Fld := ⟨0x1100010, 48, 16, .rwl, 0x64, 3⟩
def STR_HEDGE_CFG_mult : Fld := ⟨0x1100010, 40, 8, .rwl, 0xC, 3⟩
def STR_HEDGE_CFG_late_en : Fld := ⟨0x1100010, 34, 1, .rwl, 1, 3⟩
def STR_HEDGE_CFG_quantile_pm : Fld := ⟨0x1100010, 24, 10, .rwl, 0x3DE, 3⟩
def STR_HEDGE_CFG_budget_pct : Fld := ⟨0x1100010, 16, 8, .rwl, 5, 3⟩
def STR_HEDGE_CFG_min_samples : Fld := ⟨0x1100010, 0, 16, .rwl, 0x40, 3⟩
-- STR_POOL_STATUS: R241
def STR_POOL_STATUS_free_pm : Fld := ⟨0x1100020, 54, 10, .ro, 0, 3⟩
def STR_POOL_STATUS_fill_pm : Fld := ⟨0x1100020, 44, 10, .ro, 0, 3⟩
def STR_POOL_STATUS_calve_level : Fld := ⟨0x1100020, 42, 2, .ro, 0, 3⟩
def STR_POOL_STATUS_live_members : Fld := ⟨0x1100020, 32, 6, .ro, 0, 3⟩
def STR_POOL_STATUS_chunk_128 : Fld := ⟨0x1100020, 31, 1, .ro, 0, 3⟩
def STR_POOL_STATUS_segments_used : Fld := ⟨0x1100020, 0, 24, .ro, 0, 3⟩
-- STR_GROUP_CFG: R241
def STR_GROUP_CFG_fill_timeout : Fld := ⟨0x1100100, 48, 16, .rwl, 0xC8, 3⟩
def STR_GROUP_CFG_adapt_en : Fld := ⟨0x1100100, 32, 1, .rwl, 1, 3⟩
def STR_GROUP_CFG_k_max : Fld := ⟨0x1100100, 16, 5, .rwl, 0x18, 3⟩
def STR_GROUP_CFG_k_min : Fld := ⟨0x1100100, 8, 5, .rwl, 8, 3⟩
def STR_GROUP_CFG_m : Fld := ⟨0x1100100, 0, 2, .rwl, 2, 3⟩
-- STR_GROUP_STATUS: R241
def STR_GROUP_STATUS_open_seg : Fld := ⟨0x1100200, 40, 24, .ro, 0xFFFFFF, 3⟩
def STR_GROUP_STATUS_pad_pm : Fld := ⟨0x1100200, 30, 10, .ro, 0, 3⟩
def STR_GROUP_STATUS_blocked : Fld := ⟨0x1100200, 24, 1, .ro, 0, 3⟩
def STR_GROUP_STATUS_k_cap : Fld := ⟨0x1100200, 8, 5, .ro, 0, 3⟩
def STR_GROUP_STATUS_k_cur : Fld := ⟨0x1100200, 0, 5, .ro, 0, 3⟩
-- STR_MEMBER_STATUS: R241
def STR_MEMBER_STATUS_live : Fld := ⟨0x1100400, 63, 1, .ro, 0, 3⟩
def STR_MEMBER_STATUS_slow : Fld := ⟨0x1100400, 62, 1, .ro, 0, 3⟩
def STR_MEMBER_STATUS_few_samples : Fld := ⟨0x1100400, 61, 1, .ro, 1, 3⟩
def STR_MEMBER_STATUS_free_granules : Fld := ⟨0x1100400, 32, 27, .ro, 0, 3⟩
def STR_MEMBER_STATUS_pred : Fld := ⟨0x1100400, 0, 32, .ro, 0, 3⟩
-- JNL_NEVE_CFG: R270
def JNL_NEVE_CFG_own_share_pct : Fld := ⟨0x1200000, 16, 8, .rwl, 0x32, 3⟩
def JNL_NEVE_CFG_high_pct : Fld := ⟨0x1200000, 8, 8, .rwl, 0x5A, 3⟩
def JNL_NEVE_CFG_low_pct : Fld := ⟨0x1200000, 0, 8, .rwl, 0x50, 3⟩
-- JNL_MIRROR_CFG: R270
def JNL_MIRROR_CFG_mirror_flush : Fld := ⟨0x1200004, 8, 8, .rwl, 0xA, 3⟩
def JNL_MIRROR_CFG_window_mib : Fld := ⟨0x1200004, 0, 8, .rwl, 0x40, 3⟩
-- JNL_NEVE_STATUS: R270
def JNL_NEVE_STATUS_pair_state : Fld := ⟨0x1200008, 62, 2, .ro, 0, 3⟩
def JNL_NEVE_STATUS_high_water : Fld := ⟨0x1200008, 61, 1, .ro, 0, 3⟩
def JNL_NEVE_STATUS_budget_slots : Fld := ⟨0x1200008, 38, 19, .ro, 0, 3⟩
def JNL_NEVE_STATUS_own_used : Fld := ⟨0x1200008, 19, 19, .ro, 0, 3⟩
def JNL_NEVE_STATUS_mirror_used : Fld := ⟨0x1200008, 0, 19, .ro, 0, 3⟩
-- JNL_NEVE_SEQ: R270
def JNL_NEVE_SEQ_next_seq : Fld := ⟨0x1200010, 0, 64, .ro, 0, 3⟩
-- JNL_MIRROR_STATUS: R270
def JNL_MIRROR_STATUS_acked_seq : Fld := ⟨0x1200018, 0, 64, .ro, 0, 3⟩
-- JNL_DUMP_STATUS: R270
def JNL_DUMP_STATUS_dump_seq_lo : Fld := ⟨0x1200020, 32, 32, .ro, 0, 3⟩
def JNL_DUMP_STATUS_outcome : Fld := ⟨0x1200020, 24, 8, .ro, 0, 3⟩
def JNL_DUMP_STATUS_cause : Fld := ⟨0x1200020, 20, 4, .ro, 0, 3⟩
def JNL_DUMP_STATUS_sealed : Fld := ⟨0x1200020, 16, 4, .ro, 0, 3⟩
def JNL_DUMP_STATUS_dump_ms : Fld := ⟨0x1200020, 0, 16, .ro, 0, 3⟩
-- JNL_REPLAY_STATUS: R270
def JNL_REPLAY_STATUS_restored : Fld := ⟨0x1200028, 40, 20, .ro, 0, 3⟩
def JNL_REPLAY_STATUS_deferred : Fld := ⟨0x1200028, 20, 20, .ro, 0, 3⟩
def JNL_REPLAY_STATUS_unknown_lost : Fld := ⟨0x1200028, 0, 20, .ro, 0, 3⟩
-- JNL_FIRN_CFG: R241
def JNL_FIRN_CFG_dirty_pct : Fld := ⟨0x1280000, 24, 8, .rwl, 0x19, 3⟩
def JNL_FIRN_CFG_replay_limit_gib : Fld := ⟨0x1280000, 16, 8, .rwl, 8, 3⟩
def JNL_FIRN_CFG_flush_us : Fld := ⟨0x1280000, 0, 16, .rwl, 0x1F4, 3⟩
-- JNL_FIRN_STATUS: R241
def JNL_FIRN_STATUS_tail_blocks : Fld := ⟨0x1280008, 32, 19, .ro, 0, 3⟩
def JNL_FIRN_STATUS_replay_mib : Fld := ⟨0x1280008, 0, 32, .ro, 0, 3⟩
-- JNL_FIRN_SEQ: R241
def JNL_FIRN_SEQ_next_seq : Fld := ⟨0x1280010, 0, 64, .ro, 0, 3⟩
-- DRV_CFG: R316
def DRV_CFG_pair_shelf : Fld := ⟨0x1300000, 1, 1, .ro, 0, 3⟩
def DRV_CFG_bay : Fld := ⟨0x1300000, 0, 1, .ro, 0, 3⟩
-- DRV_ESC_CFG: R316
def DRV_ESC_CFG_ladder_window_s : Fld := ⟨0x1300004, 16, 16, .rwl, 0x258, 3⟩
def DRV_ESC_CFG_health_ms : Fld := ⟨0x1300004, 8, 8, .rwl, 0x64, 3⟩
def DRV_ESC_CFG_timeout_s : Fld := ⟨0x1300004, 0, 8, .rwl, 8, 3⟩
-- DRV_PORT_STATUS: R316
def DRV_PORT_STATUS_state : Fld := ⟨0x1300100, 61, 3, .ro, 0, 3⟩
def DRV_PORT_STATUS_refuse : Fld := ⟨0x1300100, 57, 4, .ro, 0, 3⟩
def DRV_PORT_STATUS_rung : Fld := ⟨0x1300100, 54, 3, .ro, 0, 3⟩
def DRV_PORT_STATUS_speed : Fld := ⟨0x1300100, 51, 3, .ro, 0, 3⟩
def DRV_PORT_STATUS_width : Fld := ⟨0x1300100, 48, 3, .ro, 0, 3⟩
def DRV_PORT_STATUS_flit : Fld := ⟨0x1300100, 47, 1, .ro, 0, 3⟩
def DRV_PORT_STATUS_n_q : Fld := ⟨0x1300100, 36, 7, .ro, 0, 3⟩
def DRV_PORT_STATUS_tags_used : Fld := ⟨0x1300100, 16, 10, .ro, 0, 3⟩
def DRV_PORT_STATUS_cntlid : Fld := ⟨0x1300100, 0, 16, .ro, 0, 3⟩
-- DRV_PORT_ERR: R316
def DRV_PORT_ERR_timeouts : Fld := ⟨0x1300200, 48, 16, .rw1cAll, 0, 1⟩
def DRV_PORT_ERR_cmd_errors : Fld := ⟨0x1300200, 32, 16, .rw1cAll, 0, 1⟩
def DRV_PORT_ERR_link_losses : Fld := ⟨0x1300200, 16, 16, .rw1cAll, 0, 1⟩
def DRV_PORT_ERR_aer_corr : Fld := ⟨0x1300200, 0, 16, .rw1cAll, 0, 1⟩
-- REB_CFG: R300
def REB_CFG_evac_pct : Fld := ⟨0x1400000, 16, 8, .rwl, 0x19, 3⟩
def REB_CFG_parallel : Fld := ⟨0x1400000, 8, 8, .rwl, 0x10, 3⟩
def REB_CFG_rewiden_en : Fld := ⟨0x1400000, 1, 1, .rwl, 0, 3⟩
def REB_CFG_auto_adopt : Fld := ⟨0x1400000, 0, 1, .rwl, 1, 3⟩
-- REB_DETECT_CFG: R300
def REB_DETECT_CFG_link_loss_ms : Fld := ⟨0x1400004, 16, 16, .rwl, 0x7D0, 3⟩
def REB_DETECT_CFG_media_window_min : Fld := ⟨0x1400004, 8, 8, .rwl, 0x3C, 3⟩
def REB_DETECT_CFG_media_limit : Fld := ⟨0x1400004, 0, 8, .rwl, 0x40, 3⟩
-- REB_RATE_CFG: R300
def REB_RATE_CFG_floor_r0 : Fld := ⟨0x1400008, 48, 16, .rwl, 0xC80, 3⟩
def REB_RATE_CFG_floor_r1 : Fld := ⟨0x1400008, 32, 16, .rwl, 0x7D0, 3⟩
def REB_RATE_CFG_floor_r2 : Fld := ⟨0x1400008, 16, 16, .rwl, 0x320, 3⟩
def REB_RATE_CFG_lat_target_us : Fld := ⟨0x1400008, 0, 16, .rwl, 0x190, 3⟩
-- REB_WEIGHT_CFG: R300
def REB_WEIGHT_CFG_w_step : Fld := ⟨0x1400010, 24, 8, .rwl, 0x10, 3⟩
def REB_WEIGHT_CFG_w_max : Fld := ⟨0x1400010, 12, 12, .rwl, 0x400, 3⟩
def REB_WEIGHT_CFG_w_min : Fld := ⟨0x1400010, 0, 12, .rwl, 1, 3⟩
-- REB_CMD: R300
def REB_CMD_op : Fld := ⟨0x1400018, 8, 8, .wo, 0, 3⟩
def REB_CMD_member : Fld := ⟨0x1400018, 0, 5, .wo, 0, 3⟩
-- REB_STATUS: R300
def REB_STATUS_state : Fld := ⟨0x1400020, 62, 2, .ro, 0, 3⟩
def REB_STATUS_min_r : Fld := ⟨0x1400020, 59, 3, .ro, 7, 3⟩
def REB_STATUS_cmd_result : Fld := ⟨0x1400020, 56, 3, .ro, 0, 3⟩
def REB_STATUS_seg_queued : Fld := ⟨0x1400020, 24, 24, .ro, 0, 3⟩
def REB_STATUS_seg_done : Fld := ⟨0x1400020, 0, 24, .ro, 0, 3⟩
-- REB_PROGRESS: R300
def REB_PROGRESS_done_mib : Fld := ⟨0x1400028, 32, 32, .ro, 0, 3⟩
def REB_PROGRESS_left_mib : Fld := ⟨0x1400028, 0, 32, .ro, 0, 3⟩
-- REB_CREV_STATUS: R300
def REB_CREV_STATUS_scanning : Fld := ⟨0x1400030, 63, 1, .ro, 0, 3⟩
def REB_CREV_STATUS_entries : Fld := ⟨0x1400030, 32, 21, .ro, 0, 3⟩
def REB_CREV_STATUS_generation : Fld := ⟨0x1400030, 0, 32, .ro, 0, 3⟩
-- REB_CREV_COUNT: R300
def REB_CREV_COUNT_overflow : Fld := ⟨0x1400038, 40, 24, .ro, 0, 3⟩
def REB_CREV_COUNT_lost_blocks : Fld := ⟨0x1400038, 0, 40, .ro, 0, 3⟩
-- REB_CREV_INDEX: R300
def REB_CREV_INDEX_index : Fld := ⟨0x1400040, 0, 20, .rw, 0, 3⟩
-- REB_CREV_ENTRY: R300
def REB_CREV_ENTRY_data : Fld := ⟨0x1400048, 0, 64, .ro, 0, 3⟩
-- REB_MEMBER: R300
def REB_MEMBER_state : Fld := ⟨0x1400100, 61, 3, .ro, 0, 3⟩
def REB_MEMBER_cause : Fld := ⟨0x1400100, 57, 4, .ro, 0, 3⟩
def REB_MEMBER_media_errs : Fld := ⟨0x1400100, 40, 12, .ro, 0, 3⟩
def REB_MEMBER_fail_time : Fld := ⟨0x1400100, 0, 40, .ro, 0, 3⟩
-- HIF_ALIVE: R403
def HIF_ALIVE_value : Fld := ⟨0x1500000, 0, 32, .ro, 0x4B48, 7⟩
-- HIF_LINK_STATUS: R403
def HIF_LINK_STATUS_present : Fld := ⟨0x1500008, 15, 1, .ro, 0, 3⟩
def HIF_LINK_STATUS_up : Fld := ⟨0x1500008, 14, 1, .ro, 0, 7⟩
def HIF_LINK_STATUS_flit : Fld := ⟨0x1500008, 13, 1, .ro, 0, 7⟩
def HIF_LINK_STATUS_speed : Fld := ⟨0x1500008, 10, 3, .ro, 0, 7⟩
def HIF_LINK_STATUS_width : Fld := ⟨0x1500008, 5, 5, .ro, 0, 7⟩
def HIF_LINK_STATUS_bme : Fld := ⟨0x1500008, 4, 1, .ro, 0, 7⟩
def HIF_LINK_STATUS_grace : Fld := ⟨0x1500008, 3, 1, .ro, 0, 7⟩
def HIF_LINK_STATUS_d3 : Fld := ⟨0x1500008, 2, 1, .ro, 0, 7⟩
def HIF_LINK_STATUS_int_mode : Fld := ⟨0x1500008, 0, 2, .ro, 0, 7⟩
-- HIF_CTRL: R403
def HIF_CTRL_en : Fld := ⟨0x1500020, 0, 1, .rw, 0, 7⟩
-- HIF_CTRL_STATUS: R403
def HIF_CTRL_STATUS_cfs : Fld := ⟨0x1500024, 1, 1, .ro, 0, 7⟩
def HIF_CTRL_STATUS_rdy : Fld := ⟨0x1500024, 0, 1, .ro, 0, 7⟩
-- HIF_AQA: R403
def HIF_AQA_acqs : Fld := ⟨0x1500028, 16, 12, .rw, 0, 7⟩
def HIF_AQA_asqs : Fld := ⟨0x1500028, 0, 12, .rw, 0, 7⟩
-- HIF_ASQ: R403
def HIF_ASQ_base : Fld := ⟨0x1500030, 12, 52, .rw, 0, 7⟩
-- HIF_ACQ: R403
def HIF_ACQ_base : Fld := ⟨0x1500038, 12, 52, .rw, 0, 7⟩
-- HIF_INT_MASK: R403
def HIF_INT_MASK_mask : Fld := ⟨0x1500040, 0, 32, .rw, 0, 7⟩
-- HIF_ATS_STATUS: R403
def HIF_ATS_STATUS_invalidations : Fld := ⟨0x1500048, 32, 32, .ro, 0, 7⟩
def HIF_ATS_STATUS_entries : Fld := ⟨0x1500048, 0, 14, .ro, 0, 7⟩
-- HIF_PEER_COMMIT: R403
def HIF_PEER_COMMIT_pending : Fld := ⟨0x1500050, 31, 1, .ro, 0, 7⟩
def HIF_PEER_COMMIT_gen : Fld := ⟨0x1500050, 1, 15, .ro, 0, 7⟩
def HIF_PEER_COMMIT_commit : Fld := ⟨0x1500050, 0, 1, .wo, 0, 7⟩
-- HIF_PEER_WIN: R403
def HIF_PEER_WIN_en : Fld := ⟨0x1510000, 63, 1, .rw, 0, 7⟩
def HIF_PEER_WIN_rd : Fld := ⟨0x1510000, 62, 1, .rw, 0, 7⟩
def HIF_PEER_WIN_wr : Fld := ⟨0x1510000, 61, 1, .rw, 0, 7⟩
def HIF_PEER_WIN_size_mib : Fld := ⟨0x1510000, 32, 16, .rw, 0, 7⟩
def HIF_PEER_WIN_base_mib : Fld := ⟨0x1510000, 0, 16, .rw, 0, 7⟩
-- HIF_PEER_TGT: R403
def HIF_PEER_TGT_region_key : Fld := ⟨0x1510008, 32, 32, .rw, 0, 7⟩
def HIF_PEER_TGT_region_page : Fld := ⟨0x1510008, 0, 32, .rw, 0, 7⟩
-- SLC_CMD: R424
def SLC_CMD_busy : Fld := ⟨0x1600000, 31, 1, .ro, 0, 7⟩
def SLC_CMD_result : Fld := ⟨0x1600000, 24, 4, .ro, 0, 7⟩
def SLC_CMD_op : Fld := ⟨0x1600000, 16, 8, .wo, 0, 7⟩
def SLC_CMD_mode : Fld := ⟨0x1600000, 15, 1, .wo, 0, 7⟩
def SLC_CMD_pause_at_create : Fld := ⟨0x1600000, 14, 1, .wo, 0, 7⟩
def SLC_CMD_slice : Fld := ⟨0x1600000, 0, 10, .wo, 0, 7⟩
-- SLC_GLOBAL_CFG: R424
def SLC_GLOBAL_CFG_drain_ms : Fld := ⟨0x1600004, 16, 16, .rw, 0x3E8, 3⟩
def SLC_GLOBAL_CFG_pause_ms : Fld := ⟨0x1600004, 0, 16, .rw, 0x3E8, 3⟩
-- SLC_CMD_DATA: R424
def SLC_CMD_DATA_data : Fld := ⟨0x1600010, 0, 64, .rw, 0, 7⟩
-- SLC_CFG: R424
def SLC_CFG_pasid_vld : Fld := ⟨0x1610000, 63, 1, .ro, 0, 7⟩
def SLC_CFG_pasid : Fld := ⟨0x1610000, 43, 20, .ro, 0, 7⟩
def SLC_CFG_max_qp : Fld := ⟨0x1610000, 31, 9, .ro, 0, 7⟩
def SLC_CFG_vec_base : Fld := ⟨0x1610000, 18, 11, .ro, 0, 7⟩
def SLC_CFG_vec_count : Fld := ⟨0x1610000, 9, 9, .ro, 0, 7⟩
-- SLC_SHAPE: R424
def SLC_SHAPE_max_rate : Fld := ⟨0x1620000, 41, 23, .rw, 0, 7⟩
def SLC_SHAPE_max_kiops : Fld := ⟨0x1620000, 25, 16, .rw, 0, 7⟩
def SLC_SHAPE_burst_16k : Fld := ⟨0x1620000, 12, 13, .rw, 0x100, 7⟩
def SLC_SHAPE_burst_cmds : Fld := ⟨0x1620000, 0, 12, .rw, 0x100, 7⟩
-- SLC_STATUS: R424
def SLC_STATUS_state : Fld := ⟨0x1630000, 62, 2, .ro, 0, 7⟩
def SLC_STATUS_paused : Fld := ⟨0x1630000, 61, 1, .ro, 0, 7⟩
def SLC_STATUS_over_quota : Fld := ⟨0x1630000, 60, 1, .ro, 0, 7⟩
def SLC_STATUS_bme_held : Fld := ⟨0x1630000, 59, 1, .ro, 0, 7⟩
def SLC_STATUS_qps : Fld := ⟨0x1630000, 32, 10, .ro, 0, 7⟩
def SLC_STATUS_inflight : Fld := ⟨0x1630000, 0, 17, .ro, 0, 7⟩
-- SLC_LOG_STATUS: R424
def SLC_LOG_STATUS_on : Fld := ⟨0x1640000, 63, 1, .ro, 0, 7⟩
def SLC_LOG_STATUS_active : Fld := ⟨0x1640000, 62, 1, .ro, 0, 7⟩
def SLC_LOG_STATUS_out_span : Fld := ⟨0x1640000, 61, 1, .rw1c, 0, 7⟩
def SLC_LOG_STATUS_syncs : Fld := ⟨0x1640000, 0, 32, .ro, 0, 7⟩
-- SLC_CTRL: R425
def SLC_CTRL_en : Fld := ⟨0x1680000, 0, 1, .rw, 0, 15⟩
-- SLC_CTRL_STATUS: R425
def SLC_CTRL_STATUS_cfs : Fld := ⟨0x1680004, 1, 1, .ro, 0, 15⟩
def SLC_CTRL_STATUS_rdy : Fld := ⟨0x1680004, 0, 1, .ro, 0, 15⟩
-- SLC_AQA: R425
def SLC_AQA_acqs : Fld := ⟨0x1680008, 16, 12, .rw, 0, 15⟩
def SLC_AQA_asqs : Fld := ⟨0x1680008, 0, 12, .rw, 0, 15⟩
-- SLC_ASQ: R425
def SLC_ASQ_base : Fld := ⟨0x1680010, 12, 52, .rw, 0, 15⟩
-- SLC_ACQ: R425
def SLC_ACQ_base : Fld := ⟨0x1680018, 12, 52, .rw, 0, 15⟩
-- PAIR_CFG: R344
def PAIR_CFG_split_yield_s : Fld := ⟨0x1700000, 48, 16, .rwl, 0, 3⟩
def PAIR_CFG_form_wait_ms : Fld := ⟨0x1700000, 32, 16, .rwl, 0x7D0, 3⟩
def PAIR_CFG_fwd_max : Fld := ⟨0x1700000, 16, 16, .rwl, 0x2000, 3⟩
def PAIR_CFG_auto_return : Fld := ⟨0x1700000, 1, 1, .rwl, 1, 3⟩
def PAIR_CFG_fwd_en : Fld := ⟨0x1700000, 0, 1, .rwl, 1, 3⟩
-- PAIR_LOC_CFG: R344
def PAIR_LOC_CFG_ns_loc_max : Fld := ⟨0x1700008, 24, 20, .rwl, 0x40000, 3⟩
def PAIR_LOC_CFG_hop_limit : Fld := ⟨0x1700008, 16, 8, .rwl, 8, 3⟩
def PAIR_LOC_CFG_refresh_s : Fld := ⟨0x1700008, 8, 8, .rwl, 0x3C, 3⟩
def PAIR_LOC_CFG_learn_krate : Fld := ⟨0x1700008, 0, 8, .rwl, 0x14, 3⟩
-- PAIR_CMD: R344
def PAIR_CMD_op : Fld := ⟨0x1700010, 16, 8, .wo, 0, 3⟩
def PAIR_CMD_ns_index : Fld := ⟨0x1700010, 0, 12, .wo, 0, 3⟩
-- PAIR_STATUS: R344
def PAIR_STATUS_state : Fld := ⟨0x1700018, 61, 3, .ro, 0, 3⟩
def PAIR_STATUS_master : Fld := ⟨0x1700018, 60, 1, .ro, 0, 3⟩
def PAIR_STATUS_partner_alive : Fld := ⟨0x1700018, 59, 1, .ro, 0, 3⟩
def PAIR_STATUS_links : Fld := ⟨0x1700018, 57, 2, .ro, 0, 3⟩
def PAIR_STATUS_cmd_result : Fld := ⟨0x1700018, 54, 3, .ro, 0, 3⟩
def PAIR_STATUS_missed : Fld := ⟨0x1700018, 48, 4, .ro, 0, 3⟩
def PAIR_STATUS_partner_id : Fld := ⟨0x1700018, 34, 14, .ro, 0, 3⟩
def PAIR_STATUS_takeovers : Fld := ⟨0x1700018, 16, 16, .ro, 0, 1⟩
def PAIR_STATUS_fwd_inflight : Fld := ⟨0x1700018, 0, 16, .ro, 0, 3⟩
-- PAIR_TAKEOVER_STATUS: R344
def PAIR_TAKEOVER_STATUS_start : Fld := ⟨0x1700020, 24, 40, .ro, 0, 1⟩
def PAIR_TAKEOVER_STATUS_duration : Fld := ⟨0x1700020, 0, 16, .ro, 0, 1⟩
end F

open F

def regTable0 : List RegDef := [
  ⟨0, 0, 1, 0, 1, 64, [GLB_IDENT_variant, GLB_IDENT_die_rev, GLB_IDENT_part, GLB_IDENT_module_id, GLB_IDENT_bay, GLB_IDENT_pair_shelf]⟩,
  ⟨8, 0, 1, 0, 1, 64, [GLB_SERIAL_serial]⟩,
  ⟨0x10, 0, 1, 0, 1, 64, [GLB_MGMT_SEQ_last_completed, GLB_MGMT_SEQ_last_accepted]⟩,
  ⟨0x18, 0, 1, 0, 1, 32, [GLB_CTRL_key, GLB_CTRL_locate, GLB_CTRL_core_reset, GLB_CTRL_warm]⟩,
  ⟨0x20, 0, 1, 0, 1, 64, [GLB_STATUS_cfg_lock, GLB_STATUS_rwl_ignored, GLB_STATUS_mgmt_denied]⟩,
  ⟨0x80, 8, 16, 0, 1, 64, [GLB_CORE_STATUS_state, GLB_CORE_STATUS_beat]⟩,
  ⟨0x100, 8, 16, 0, 1, 64, [GLB_SCRATCH_data]⟩,
  ⟨0x100000, 0, 1, 0, 1, 32, [CLK_STATUS_pll_lock, CLK_STATUS_holdover, CLK_STATUS_ref_ok, CLK_STATUS_ref_ppm]⟩,
  ⟨0x100008, 0, 1, 0, 1, 64, [CLK_DTC_dtc]⟩,
  ⟨0x100010, 0, 1, 0, 1, 32, [CLK_RESET_CAUSE_kind, CLK_RESET_CAUSE_cause]⟩,
  ⟨0x200000, 0, 1, 0, 1, 32, [EVT_CFG_coal_ms, EVT_CFG_stall_10ms, EVT_CFG_pldm_sev]⟩,
  ⟨0x200008, 0, 1, 0, 1, 64, [EVT_STATUS_buffered, EVT_STATUS_stalled]⟩,
  ⟨0x200010, 0, 1, 0, 1, 64, [EVT_SEQ_next_seq]⟩,
  ⟨0x200018, 0, 1, 0, 1, 64, [EVT_LAST_FATAL_code, EVT_LAST_FATAL_seq]⟩,
  ⟨0x201000, 0x20, 16, 0, 1, 64, [EVT_RING_CFG_en, EVT_RING_CFG_target, EVT_RING_CFG_fmt, EVT_RING_CFG_log2_size, EVT_RING_CFG_min_sev, EVT_RING_CFG_vector, EVT_RING_CFG_notify_count, EVT_RING_CFG_block_mask]⟩,
  ⟨0x201008, 0x20, 16, 0, 1, 64, [EVT_RING_BASE_base]⟩,
  ⟨0x201010, 0x20, 16, 0, 1, 64, [EVT_RING_DEST_eid, EVT_RING_DEST_region_key]⟩,
  ⟨0x201018, 0x20, 16, 0, 1, 64, [EVT_RING_PTR_stalled, EVT_RING_PTR_phase, EVT_RING_PTR_tail, EVT_RING_PTR_head]⟩,
  ⟨0x300000, 0, 1, 0, 1, 32, [CTR_SNAP_CFG_period_ms]⟩,
  ⟨0x300008, 0, 1, 0, 1, 64, [CTR_SNAP_STATUS_snap_seq]⟩]

def regTable1 : List RegDef := [
  ⟨0x300010, 0, 1, 0, 1, 64, [CTR_COMPAT_CFG_eid, CTR_COMPAT_CFG_prefix_len, CTR_COMPAT_CFG_en]⟩,
  ⟨0x300100, 0x20, 4, 0, 1, 64, [CTR_TGT_CFG_en, CTR_TGT_CFG_target, CTR_TGT_CFG_log2_slots, CTR_TGT_CFG_count, CTR_TGT_CFG_first]⟩,
  ⟨0x300108, 0x20, 4, 0, 1, 64, [CTR_TGT_BASE_base]⟩,
  ⟨0x300110, 0x20, 4, 0, 1, 64, [CTR_TGT_DEST_eid, CTR_TGT_DEST_region_key]⟩,
  ⟨0x300118, 0x20, 4, 0, 1, 64, [CTR_TGT_PTR_skipped, CTR_TGT_PTR_tail, CTR_TGT_PTR_head]⟩,
  ⟨0x310000, 8, 6400, 0, 1, 64, [CTR_VAL_ovf, CTR_VAL_value]⟩,
  ⟨0x330000, 4, 6400, 0, 1, 32, [CTR_CTL_wrap, CTR_CTL_level]⟩,
  ⟨0x340000, 8, 256, 0, 1, 64, [CTR_ESEL_en, CTR_ESEL_kind, CTR_ESEL_sel, CTR_ESEL_src_en, CTR_ESEL_instance]⟩,
  ⟨0x400000, 0, 1, 0, 1, 32, [TEL_CMD_busy, TEL_CMD_clear, TEL_CMD_unit]⟩,
  ⟨0x400100, 8, 20, 0, 1, 64, [TEL_RD_data]⟩,
  ⟨0x410000, 8, 1024, 0, 1, 64, [TEL_UNIT_CFG_src, TEL_UNIT_CFG_unit, TEL_UNIT_CFG_op, TEL_UNIT_CFG_shift, TEL_UNIT_CFG_instance]⟩,
  ⟨0x500000, 0, 1, 0, 1, 32, [PWR_FEED_CFG_revert_s, PWR_FEED_CFG_dead_us, PWR_FEED_CFG_prefer, PWR_FEED_CFG_qual_ms]⟩,
  ⟨0x500004, 0, 1, 0, 1, 32, [PWR_HOLD_CFG_ride_ms]⟩,
  ⟨0x500008, 0, 1, 0, 1, 32, [PWR_STORE_CFG_test_h, PWR_STORE_CFG_chg_a]⟩,
  ⟨0x500010, 8, 2, 0, 1, 64, [PWR_FEED_STATUS_state, PWR_FEED_STATUS_active, PWR_FEED_STATUS_cause, PWR_FEED_STATUS_vrms, PWR_FEED_STATUS_freq, PWR_FEED_STATUS_pin_w, PWR_FEED_STATUS_losses]⟩,
  ⟨0x500020, 0, 1, 0, 1, 64, [PWR_BUS_STATUS_vbus, PWR_BUS_STATUS_ibus, PWR_BUS_STATUS_vbus_min, PWR_BUS_STATUS_source]⟩,
  ⟨0x500028, 0, 1, 0, 1, 64, [PWR_STORE_STATUS_vstore, PWR_STORE_STATUS_cap_mf, PWR_STORE_STATUS_e_j, PWR_STORE_STATUS_temp_c, PWR_STORE_STATUS_state, PWR_STORE_STATUS_eol, PWR_STORE_STATUS_esr]⟩,
  ⟨0x500030, 0, 1, 0, 1, 64, [PWR_SEQ_STATUS_seq, PWR_SEQ_STATUS_rides, PWR_SEQ_STATUS_dumps, PWR_SEQ_STATUS_elapsed]⟩,
  ⟨0x500038, 0, 1, 0, 1, 64, [PWR_THERM_STATUS_die_c, PWR_THERM_STATUS_inlet_c, PWR_THERM_STATUS_store_c, PWR_THERM_STATUS_fe_a_c, PWR_THERM_STATUS_fe_b_c, PWR_THERM_STATUS_heat_w]⟩,
  ⟨0x600000, 0, 1, 0, 1, 32, [SLT_GLOBAL_CFG_present_10ms, SLT_GLOBAL_CFG_pg_perst_ms, SLT_GLOBAL_CFG_ramp_ms, SLT_GLOBAL_CFG_fault_ms]⟩]

def regTable2 : List RegDef := [
  ⟨0x600010, 0, 1, 0, 1, 32, [SLT_CMD_busy, SLT_CMD_result, SLT_CMD_op, SLT_CMD_slot]⟩,
  ⟨0x600018, 0, 1, 0, 1, 32, [SLT_SUPPLY_STATUS_low, SLT_SUPPLY_STATUS_v_mv]⟩,
  ⟨0x600100, 8, 32, 0, 1, 64, [SLT_CH_CFG_auto_on, SLT_CH_CFG_retries, SLT_CH_CFG_p_lim_w]⟩,
  ⟨0x600200, 8, 32, 0, 1, 64, [SLT_CH_STATUS_state, SLT_CH_STATUS_owner, SLT_CH_STATUS_present, SLT_CH_STATUS_pg, SLT_CH_STATUS_perst_rel, SLT_CH_STATUS_cause, SLT_CH_STATUS_retries_left, SLT_CH_STATUS_ntc_fault, SLT_CH_STATUS_locate, SLT_CH_STATUS_trips]⟩,
  ⟨0x600300, 8, 32, 0, 1, 64, [SLT_CH_MEAS_v12_mv, SLT_CH_MEAS_i_ma, SLT_CH_MEAS_v3_10mv, SLT_CH_MEAS_p_dw, SLT_CH_MEAS_tj_c]⟩,
  ⟨0x600400, 8, 32, 0, 1, 64, [SLT_CH_AVG_p_avg_dw, SLT_CH_AVG_p_max_dw, SLT_CH_AVG_tntc_c]⟩,
  ⟨0x600500, 8, 32, 0, 1, 64, [SLT_CH_ENERGY_energy_uj]⟩,
  ⟨0x600600, 8, 32, 0, 1, 64, [SLT_THERM_CFG_tj_max_c, SLT_THERM_CFG_tj_warn_c, SLT_THERM_CFG_rth_jc, SLT_THERM_CFG_tau_jc_ms, SLT_THERM_CFG_rth_ca, SLT_THERM_CFG_tau_ca, SLT_THERM_CFG_tau_s, SLT_THERM_CFG_ron]⟩,
  ⟨0x700000, 0, 1, 0, 1, 64, [BOOT_STATUS_stage, BOOT_STATUS_running_bank, BOOT_STATUS_locked, BOOT_STATUS_state_a, BOOT_STATUS_state_b, BOOT_STATUS_owner_slots, BOOT_STATUS_fw_svn_min, BOOT_STATUS_cfg_svn_min, BOOT_STATUS_boot_ms]⟩,
  ⟨0x700008, 0, 1, 0, 1, 32, [BOOT_CMD_busy, BOOT_CMD_result, BOOT_CMD_op]⟩,
  ⟨0x700010, 0, 1, 0, 1, 64, [BOOT_FW_STATUS_act_state, BOOT_FW_STATUS_act_count, BOOT_FW_STATUS_last_act_ms, BOOT_FW_STATUS_fw_version]⟩,
  ⟨0x700018, 0, 1, 0, 1, 64, [BOOT_RIME_STATUS_state, BOOT_RIME_STATUS_prior_torn, BOOT_RIME_STATUS_record_count, BOOT_RIME_STATUS_boot_count]⟩,
  ⟨0x700020, 0, 1, 0, 1, 64, [BOOT_RIME_SEQ_last_seq]⟩,
  ⟨0x700100, 0x40, 8, 8, 6, 64, [BOOT_MEAS_data]⟩,
  ⟨0x800000, 0, 1, 0, 1, 32, [KEY_STATUS_busy, KEY_STATUS_state, KEY_STATUS_result, KEY_STATUS_done_count]⟩,
  ⟨0x800008, 0, 1, 0, 1, 64, [KEY_CMD_op, KEY_CMD_aux, KEY_CMD_slot, KEY_CMD_kind, KEY_CMD_persist, KEY_CMD_class, KEY_CMD_zap_old]⟩,
  ⟨0x801000, 8, 64, 0, 1, 64, [KEY_DATA_data]⟩,
  ⟨0x810000, 8, 4096, 0, 1, 64, [KEY_EP_PROT_eid, KEY_EP_PROT_prefix_len, KEY_EP_PROT_slot]⟩,
  ⟨0x820000, 8, 4096, 0, 1, 64, [KEY_NS_GEN_sweeping, KEY_NS_GEN_kgen, KEY_NS_GEN_zap_old, KEY_NS_GEN_old_slot, KEY_NS_GEN_remaining]⟩,
  ⟨0x840000, 8, 65536, 0, 1, 64, [KEY_SLOT_INFO_kind, KEY_SLOT_INFO_state, KEY_SLOT_INFO_class, KEY_SLOT_INFO_persist, KEY_SLOT_INFO_bind, KEY_SLOT_INFO_bound]⟩]

def regTable3 : List RegDef := [
  ⟨0x900000, 0, 1, 0, 1, 64, [CIP_LANE_STATUS_bulk_live, CIP_LANE_STATUS_assured_live, CIP_LANE_STATUS_failed]⟩,
  ⟨0xA00000, 8, 8, 0, 1, 64, [MAC_CAGE_CFG_mode]⟩,
  ⟨0xA00100, 8, 34, 0, 1, 64, [MAC_PORT_CFG_en, MAC_PORT_CFG_vlan, MAC_PORT_CFG_mac]⟩,
  ⟨0xA00300, 8, 34, 0, 1, 64, [MAC_PORT_STATUS_up, MAC_PORT_STATUS_speed, MAC_PORT_STATUS_fec_lock, MAC_PORT_STATUS_held, MAC_PORT_STATUS_flaps]⟩,
  ⟨0xA80000, 8, 34, 0, 1, 64, [MAC_PFC_CFG_headroom_cells, MAC_PFC_CFG_xoff_cells, MAC_PFC_CFG_storm_restore, MAC_PFC_CFG_storm_ms, MAC_PFC_CFG_pfc_en]⟩,
  ⟨0xB00000, 0, 1, 0, 1, 64, [SWC_CT_EN_ct_en]⟩,
  ⟨0xB00008, 0, 1, 0, 1, 32, [SWC_BUF_CFG_reserve_cpu, SWC_BUF_CFG_reserve_pl]⟩,
  ⟨0xB00010, 0, 1, 0, 1, 64, [SWC_QLIMIT_alpha]⟩,
  ⟨0xB00018, 0, 1, 0, 1, 64, [SWC_BUF_STATUS_min_free, SWC_BUF_STATUS_free_cells]⟩,
  ⟨0xB00020, 0, 1, 0, 1, 32, [SWC_MORAINE_CFG_repair_en, SWC_MORAINE_CFG_audit_ms]⟩,
  ⟨0xB00028, 0, 1, 0, 1, 64, [SWC_MORAINE_STATUS_sweeps, SWC_MORAINE_STATUS_conflicts, SWC_MORAINE_STATUS_leaked_staging, SWC_MORAINE_STATUS_leaked_cells]⟩,
  ⟨0xB10000, 0x10, 4, 0, 1, 64, [SWC_MIRROR_en, SWC_MIRROR_dir, SWC_MIRROR_flow, SWC_MIRROR_src_port, SWC_MIRROR_dst_port, SWC_MIRROR_vlan, SWC_MIRROR_tc, SWC_MIRROR_trunc, SWC_MIRROR_sample]⟩,
  ⟨0xB10008, 0x10, 4, 0, 1, 64, [SWC_MIRROR_FLOW_eid, SWC_MIRROR_FLOW_prefix_len, SWC_MIRROR_FLOW_match_dst, SWC_MIRROR_FLOW_opcode, SWC_MIRROR_FLOW_op_any]⟩,
  ⟨0xC00000, 0, 1, 0, 1, 32, [FWD_AGE_CFG_sweep_s]⟩,
  ⟨0xC00004, 0, 1, 0, 1, 32, [FWD_LEARN_CFG_stash_hi, FWD_LEARN_CFG_mod_refresh_s, FWD_LEARN_CFG_learn_mod_en]⟩,
  ⟨0xC00008, 0, 1, 0, 1, 32, [FWD_CMD_busy, FWD_CMD_result, FWD_CMD_op, FWD_CMD_table, FWD_CMD_port]⟩,
  ⟨0xC00010, 8, 2, 0, 1, 64, [FWD_CMD_DATA_data]⟩,
  ⟨0xC00020, 0, 1, 0, 1, 32, [FWD_EPOCH_current]⟩,
  ⟨0xC00024, 0, 1, 0, 1, 32, [FWD_EPOCH_DRAINED_drained]⟩,
  ⟨0xC00040, 8, 2, 0, 1, 64, [FWD_TABLE_state, FWD_TABLE_active, FWD_TABLE_req, FWD_TABLE_stash_used, FWD_TABLE_entries]⟩]

def regTable4 : List RegDef := [
  ⟨0xC00080, 0x10, 2, 8, 2, 64, [FWD_SEED_seed1, FWD_SEED_seed2]⟩,
  ⟨0xC10000, 8, 34, 0, 1, 64, [FWD_PORT_CFG_learned, FWD_PORT_CFG_learn_limit, FWD_PORT_CFG_flush_down, FWD_PORT_CFG_cluster, FWD_PORT_CFG_flood_en, FWD_PORT_CFG_limit_action, FWD_PORT_CFG_learn_en]⟩,
  ⟨0xC20000, 8, 64, 0, 1, 64, [FWD_PORT_GROUP_en, FWD_PORT_GROUP_cluster, FWD_PORT_GROUP_members]⟩,
  ⟨0xD00000, 0, 1, 0, 1, 64, [TMS_DSCP_MAP_dscp]⟩,
  ⟨0xD00010, 0, 1, 0, 1, 32, [TMS_SAMPLE_CFG_stale_periods, TMS_SAMPLE_CFG_period]⟩,
  ⟨0xD00014, 0, 1, 0, 1, 32, [TMS_POLICE_CFG_cmd_cost]⟩,
  ⟨0xD00018, 0, 1, 0, 1, 32, [TMS_REBUILD_FLOOR_floor]⟩,
  ⟨0xD10000, 8, 4096, 0, 1, 64, [TMS_TENANT_CFG_max_rate, TMS_TENANT_CFG_max_burst, TMS_TENANT_CFG_weight, TMS_TENANT_CFG_red_action, TMS_TENANT_CFG_colour_aware, TMS_TENANT_CFG_police_en, TMS_TENANT_CFG_class]⟩,
  ⟨0xD20000, 8, 4093, 0, 1, 64, [TMS_POL_RATE_eir, TMS_POL_RATE_cir]⟩,
  ⟨0xD30000, 8, 4093, 0, 1, 64, [TMS_POL_BURST_ebs, TMS_POL_BURST_cbs]⟩,
  ⟨0xD40000, 0x20, 35, 4, 8, 32, [TMS_CLASS_CFG_strict, TMS_CLASS_CFG_weight, TMS_CLASS_CFG_max_rate]⟩,
  ⟨0xD50000, 4, 35, 0, 1, 32, [TMS_PORT_SHAPE_overhead, TMS_PORT_SHAPE_max_rate]⟩,
  ⟨0xD60000, 0x40, 34, 8, 8, 64, [TMS_QSAMPLE_head_delay, TMS_QSAMPLE_depth]⟩,
  ⟨0xE00000, 0, 1, 0, 1, 32, [HKT_UDP_PORT_udp_port]⟩,
  ⟨0xE00010, 0, 1, 0, 1, 32, [HKT_TIMER_CFG_rto_min, HKT_TIMER_CFG_gap_timeout, HKT_TIMER_CFG_ack_count, HKT_TIMER_CFG_ack_delay]⟩,
  ⟨0xE00014, 0, 1, 0, 1, 32, [HKT_RETRY_CFG_rto_max_exp, HKT_RETRY_CFG_rto_limit]⟩,
  ⟨0xE00018, 0, 1, 0, 1, 32, [HKT_PATH_CFG_loss_retire, HKT_PATH_CFG_probe_interval, HKT_PATH_CFG_paths]⟩,
  ⟨0xE0001C, 0, 1, 0, 1, 32, [HKT_MPL_mpl_us]⟩,
  ⟨0xE00020, 0, 1, 0, 1, 64, [HKT_CC_CFG_delay_target, HKT_CC_CFG_local_target, HKT_CC_CFG_ai, HKT_CC_CFG_dec_step, HKT_CC_CFG_max_mdf, HKT_CC_CFG_cwnd_init, HKT_CC_CFG_min_depth]⟩,
  ⟨0xE00040, 0, 1, 0, 1, 64, [HKT_CTX_STATUS_spilled, HKT_CTX_STATUS_cached]⟩]

def regTable5 : List RegDef := [
  ⟨0xF00000, 0, 1, 0, 1, 32, [QPE_FETCH_CFG_merge_wait, QPE_FETCH_CFG_cqe_merge, QPE_FETCH_CFG_batch]⟩,
  ⟨0xF00004, 0, 1, 0, 1, 32, [QPE_HOLD_CFG_admin_hold_ms, QPE_HOLD_CFG_owner_hold_ms]⟩,
  ⟨0xF00010, 0, 1, 0, 1, 64, [QPE_STATUS_cmds_in_flight, QPE_STATUS_qps_in_use]⟩,
  ⟨0xF00020, 0, 1, 0, 1, 32, [QPE_QP_SEL_qpn]⟩,
  ⟨0xF00028, 0, 1, 0, 1, 64, [QPE_QP_COUNT_cq_seq, QPE_QP_COUNT_cq_phase, QPE_QP_COUNT_cmpl_count]⟩,
  ⟨0xF40000, 8, 65536, 0, 1, 64, [QPE_QP_STATE_state, QPE_QP_STATE_admin, QPE_QP_STATE_local, QPE_QP_STATE_inflight, QPE_QP_STATE_sq_head, QPE_QP_STATE_sq_tail, QPE_QP_STATE_cq_tail, QPE_QP_STATE_cq_head]⟩,
  ⟨0x1010000, 8, 4096, 0, 1, 64, [NSM_NS_CFG_state, NSM_NS_CFG_mode, NSM_NS_CFG_eff_mode, NSM_NS_CFG_prot_class, NSM_NS_CFG_owned, NSM_NS_CFG_group, NSM_NS_CFG_key_slot, NSM_NS_CFG_tenant, NSM_NS_CFG_creator]⟩,
  ⟨0x1100000, 0, 1, 0, 1, 32, [STR_POOL_CFG_chunk_128, STR_POOL_CFG_spare_members, STR_POOL_CFG_op_pct]⟩,
  ⟨0x1100004, 0, 1, 0, 1, 32, [STR_ADAPT_CFG_window_ms, STR_ADAPT_CFG_step, STR_ADAPT_CFG_pad_hi_pct, STR_ADAPT_CFG_pad_lo_pct]⟩,
  ⟨0x1100008, 0, 1, 0, 1, 32, [STR_CALVE_CFG_start, STR_CALVE_CFG_urgent, STR_CALVE_CFG_stop]⟩,
  ⟨0x1100010, 0, 1, 0, 1, 64, [STR_HEDGE_CFG_floor_us, STR_HEDGE_CFG_mult, STR_HEDGE_CFG_late_en, STR_HEDGE_CFG_quantile_pm, STR_HEDGE_CFG_budget_pct, STR_HEDGE_CFG_min_samples]⟩,
  ⟨0x1100020, 0, 1, 0, 1, 64, [STR_POOL_STATUS_free_pm, STR_POOL_STATUS_fill_pm, STR_POOL_STATUS_calve_level, STR_POOL_STATUS_live_members, STR_POOL_STATUS_chunk_128, STR_POOL_STATUS_segments_used]⟩,
  ⟨0x1100100, 8, 16, 0, 1, 64, [STR_GROUP_CFG_fill_timeout, STR_GROUP_CFG_adapt_en, STR_GROUP_CFG_k_max, STR_GROUP_CFG_k_min, STR_GROUP_CFG_m]⟩,
  ⟨0x1100200, 8, 16, 0, 1, 64, [STR_GROUP_STATUS_open_seg, STR_GROUP_STATUS_pad_pm, STR_GROUP_STATUS_blocked, STR_GROUP_STATUS_k_cap, STR_GROUP_STATUS_k_cur]⟩,
  ⟨0x1100400, 8, 32, 0, 1, 64, [STR_MEMBER_STATUS_live, STR_MEMBER_STATUS_slow, STR_MEMBER_STATUS_few_samples, STR_MEMBER_STATUS_free_granules, STR_MEMBER_STATUS_pred]⟩,
  ⟨0x1200000, 0, 1, 0, 1, 32, [JNL_NEVE_CFG_own_share_pct, JNL_NEVE_CFG_high_pct, JNL_NEVE_CFG_low_pct]⟩,
  ⟨0x1200004, 0, 1, 0, 1, 32, [JNL_MIRROR_CFG_mirror_flush, JNL_MIRROR_CFG_window_mib]⟩,
  ⟨0x1200008, 0, 1, 0, 1, 64, [JNL_NEVE_STATUS_pair_state, JNL_NEVE_STATUS_high_water, JNL_NEVE_STATUS_budget_slots, JNL_NEVE_STATUS_own_used, JNL_NEVE_STATUS_mirror_used]⟩,
  ⟨0x1200010, 0, 1, 0, 1, 64, [JNL_NEVE_SEQ_next_seq]⟩,
  ⟨0x1200018, 0, 1, 0, 1, 64, [JNL_MIRROR_STATUS_acked_seq]⟩]

def regTable6 : List RegDef := [
  ⟨0x1200020, 0, 1, 0, 1, 64, [JNL_DUMP_STATUS_dump_seq_lo, JNL_DUMP_STATUS_outcome, JNL_DUMP_STATUS_cause, JNL_DUMP_STATUS_sealed, JNL_DUMP_STATUS_dump_ms]⟩,
  ⟨0x1200028, 0, 1, 0, 1, 64, [JNL_REPLAY_STATUS_restored, JNL_REPLAY_STATUS_deferred, JNL_REPLAY_STATUS_unknown_lost]⟩,
  ⟨0x1280000, 0, 1, 0, 1, 32, [JNL_FIRN_CFG_dirty_pct, JNL_FIRN_CFG_replay_limit_gib, JNL_FIRN_CFG_flush_us]⟩,
  ⟨0x1280008, 0, 1, 0, 1, 64, [JNL_FIRN_STATUS_tail_blocks, JNL_FIRN_STATUS_replay_mib]⟩,
  ⟨0x1280010, 0, 1, 0, 1, 64, [JNL_FIRN_SEQ_next_seq]⟩,
  ⟨0x1300000, 0, 1, 0, 1, 32, [DRV_CFG_pair_shelf, DRV_CFG_bay]⟩,
  ⟨0x1300004, 0, 1, 0, 1, 32, [DRV_ESC_CFG_ladder_window_s, DRV_ESC_CFG_health_ms, DRV_ESC_CFG_timeout_s]⟩,
  ⟨0x1300100, 8, 32, 0, 1, 64, [DRV_PORT_STATUS_state, DRV_PORT_STATUS_refuse, DRV_PORT_STATUS_rung, DRV_PORT_STATUS_speed, DRV_PORT_STATUS_width, DRV_PORT_STATUS_flit, DRV_PORT_STATUS_n_q, DRV_PORT_STATUS_tags_used, DRV_PORT_STATUS_cntlid]⟩,
  ⟨0x1300200, 8, 32, 0, 1, 64, [DRV_PORT_ERR_timeouts, DRV_PORT_ERR_cmd_errors, DRV_PORT_ERR_link_losses, DRV_PORT_ERR_aer_corr]⟩,
  ⟨0x1400000, 0, 1, 0, 1, 32, [REB_CFG_evac_pct, REB_CFG_parallel, REB_CFG_rewiden_en, REB_CFG_auto_adopt]⟩,
  ⟨0x1400004, 0, 1, 0, 1, 32, [REB_DETECT_CFG_link_loss_ms, REB_DETECT_CFG_media_window_min, REB_DETECT_CFG_media_limit]⟩,
  ⟨0x1400008, 0, 1, 0, 1, 64, [REB_RATE_CFG_floor_r0, REB_RATE_CFG_floor_r1, REB_RATE_CFG_floor_r2, REB_RATE_CFG_lat_target_us]⟩,
  ⟨0x1400010, 0, 1, 0, 1, 32, [REB_WEIGHT_CFG_w_step, REB_WEIGHT_CFG_w_max, REB_WEIGHT_CFG_w_min]⟩,
  ⟨0x1400018, 0, 1, 0, 1, 32, [REB_CMD_op, REB_CMD_member]⟩,
  ⟨0x1400020, 0, 1, 0, 1, 64, [REB_STATUS_state, REB_STATUS_min_r, REB_STATUS_cmd_result, REB_STATUS_seg_queued, REB_STATUS_seg_done]⟩,
  ⟨0x1400028, 0, 1, 0, 1, 64, [REB_PROGRESS_done_mib, REB_PROGRESS_left_mib]⟩,
  ⟨0x1400030, 0, 1, 0, 1, 64, [REB_CREV_STATUS_scanning, REB_CREV_STATUS_entries, REB_CREV_STATUS_generation]⟩,
  ⟨0x1400038, 0, 1, 0, 1, 64, [REB_CREV_COUNT_overflow, REB_CREV_COUNT_lost_blocks]⟩,
  ⟨0x1400040, 0, 1, 0, 1, 32, [REB_CREV_INDEX_index]⟩,
  ⟨0x1400048, 8, 4, 0, 1, 64, [REB_CREV_ENTRY_data]⟩]

def regTable7 : List RegDef := [
  ⟨0x1400100, 8, 32, 0, 1, 64, [REB_MEMBER_state, REB_MEMBER_cause, REB_MEMBER_media_errs, REB_MEMBER_fail_time]⟩,
  ⟨0x1500000, 0, 1, 0, 1, 32, [HIF_ALIVE_value]⟩,
  ⟨0x1500008, 8, 2, 0, 1, 64, [HIF_LINK_STATUS_present, HIF_LINK_STATUS_up, HIF_LINK_STATUS_flit, HIF_LINK_STATUS_speed, HIF_LINK_STATUS_width, HIF_LINK_STATUS_bme, HIF_LINK_STATUS_grace, HIF_LINK_STATUS_d3, HIF_LINK_STATUS_int_mode]⟩,
  ⟨0x1500020, 0, 1, 0, 1, 32, [HIF_CTRL_en]⟩,
  ⟨0x1500024, 0, 1, 0, 1, 32, [HIF_CTRL_STATUS_cfs, HIF_CTRL_STATUS_rdy]⟩,
  ⟨0x1500028, 0, 1, 0, 1, 32, [HIF_AQA_acqs, HIF_AQA_asqs]⟩,
  ⟨0x1500030, 0, 1, 0, 1, 64, [HIF_ASQ_base]⟩,
  ⟨0x1500038, 0, 1, 0, 1, 64, [HIF_ACQ_base]⟩,
  ⟨0x1500040, 0, 1, 0, 1, 32, [HIF_INT_MASK_mask]⟩,
  ⟨0x1500048, 0, 1, 0, 1, 64, [HIF_ATS_STATUS_invalidations, HIF_ATS_STATUS_entries]⟩,
  ⟨0x1500050, 0, 1, 0, 1, 32, [HIF_PEER_COMMIT_pending, HIF_PEER_COMMIT_gen, HIF_PEER_COMMIT_commit]⟩,
  ⟨0x1510000, 0x10, 64, 0, 1, 64, [HIF_PEER_WIN_en, HIF_PEER_WIN_rd, HIF_PEER_WIN_wr, HIF_PEER_WIN_size_mib, HIF_PEER_WIN_base_mib]⟩,
  ⟨0x1510008, 0x10, 64, 0, 1, 64, [HIF_PEER_TGT_region_key, HIF_PEER_TGT_region_page]⟩,
  ⟨0x1600000, 0, 1, 0, 1, 32, [SLC_CMD_busy, SLC_CMD_result, SLC_CMD_op, SLC_CMD_mode, SLC_CMD_pause_at_create, SLC_CMD_slice]⟩,
  ⟨0x1600004, 0, 1, 0, 1, 32, [SLC_GLOBAL_CFG_drain_ms, SLC_GLOBAL_CFG_pause_ms]⟩,
  ⟨0x1600010, 8, 4, 0, 1, 64, [SLC_CMD_DATA_data]⟩,
  ⟨0x1610000, 8, 1024, 0, 1, 64, [SLC_CFG_pasid_vld, SLC_CFG_pasid, SLC_CFG_max_qp, SLC_CFG_vec_base, SLC_CFG_vec_count]⟩,
  ⟨0x1620000, 8, 1024, 0, 1, 64, [SLC_SHAPE_max_rate, SLC_SHAPE_max_kiops, SLC_SHAPE_burst_16k, SLC_SHAPE_burst_cmds]⟩,
  ⟨0x1630000, 8, 1024, 0, 1, 64, [SLC_STATUS_state, SLC_STATUS_paused, SLC_STATUS_over_quota, SLC_STATUS_bme_held, SLC_STATUS_qps, SLC_STATUS_inflight]⟩,
  ⟨0x1640000, 8, 1024, 0, 1, 64, [SLC_LOG_STATUS_on, SLC_LOG_STATUS_active, SLC_LOG_STATUS_out_span, SLC_LOG_STATUS_syncs]⟩]

def regTable8 : List RegDef := [
  ⟨0x1680000, 0x20, 1024, 0, 1, 32, [SLC_CTRL_en]⟩,
  ⟨0x1680004, 0x20, 1024, 0, 1, 32, [SLC_CTRL_STATUS_cfs, SLC_CTRL_STATUS_rdy]⟩,
  ⟨0x1680008, 0x20, 1024, 0, 1, 32, [SLC_AQA_acqs, SLC_AQA_asqs]⟩,
  ⟨0x1680010, 0x20, 1024, 0, 1, 64, [SLC_ASQ_base]⟩,
  ⟨0x1680018, 0x20, 1024, 0, 1, 64, [SLC_ACQ_base]⟩,
  ⟨0x1700000, 0, 1, 0, 1, 64, [PAIR_CFG_split_yield_s, PAIR_CFG_form_wait_ms, PAIR_CFG_fwd_max, PAIR_CFG_auto_return, PAIR_CFG_fwd_en]⟩,
  ⟨0x1700008, 0, 1, 0, 1, 64, [PAIR_LOC_CFG_ns_loc_max, PAIR_LOC_CFG_hop_limit, PAIR_LOC_CFG_refresh_s, PAIR_LOC_CFG_learn_krate]⟩,
  ⟨0x1700010, 0, 1, 0, 1, 32, [PAIR_CMD_op, PAIR_CMD_ns_index]⟩,
  ⟨0x1700018, 0, 1, 0, 1, 64, [PAIR_STATUS_state, PAIR_STATUS_master, PAIR_STATUS_partner_alive, PAIR_STATUS_links, PAIR_STATUS_cmd_result, PAIR_STATUS_missed, PAIR_STATUS_partner_id, PAIR_STATUS_takeovers, PAIR_STATUS_fwd_inflight]⟩,
  ⟨0x1700020, 0, 1, 0, 1, 64, [PAIR_TAKEOVER_STATUS_start, PAIR_TAKEOVER_STATUS_duration]⟩]

/-- Every register of the module, in address order (R531). -/
def regTable : List RegDef := regTable0 ++ regTable1 ++ regTable2 ++ regTable3 ++ regTable4 ++ regTable5 ++ regTable6 ++ regTable7 ++ regTable8

end Sys2Proof.Machine
end

