-- ==== Sys2Proof/Machine/State.lean ====
section
/-! DEFINITION. The state of the module as plain data: one structure for each block of R21 that holds state beyond its
registers, the register file, and the model's own fields (the queue of waiting commands, the outbox, the counter of the
free values).  Every register field the spec gives lies in State.regs; what a list, table or engine holds lies in its
block's structure.  State.reset is the module at cold reset before its boot. -/

namespace Sys2Proof.Machine

/-- The place of one register field: register, element and lowest bit. -/
structure RKey where
  reg : Nat
  idx : Nat
  bit : Nat
  deriving DecidableEq, Repr

/-! ## HKT (chapters 02 and 03) -/

/-- The state of a path (R64): active or slow; a retired path is given a new generation and is active again. -/
inductive PathState where
  | active | slow
  deriving DecidableEq, Repr

/-- One of the 16 paths of a context (R64): state, generation, smoothed RTT in 640 ns units (none before a sample), packets
sent on it, and how many had been sent at each loss charged to it. -/
structure HktPath where
  state  : PathState := .active
  gen    : Nat := 0
  rtt    : Option Rat := none
  losses : List Nat := []
  sent   : Nat := 0
  deriving DecidableEq, Repr

/-- What a message the module sends belongs to: the command or engine that hears of its completion or failure. -/
inductive Purpose where
  | none
  | sqeFetch (qpn : Nat)
  | cmdData (cmd block : Nat)
  | cqe (qpn : Nat)
  | mgmtReply
  | queueReply
  | evtRing (r : Nat)
  | snapTarget (j : Nat)
  | readAnswer
  | learn
  deriving DecidableEq, Repr

/-- The body of a message the module sends. -/
inductive MsgBody where
  | write (key : Word32) (offset : Nat) (data : List Byte)
  | readReq (key : Word32) (offset len : Nat)
  | readResp (reqMsg : Word32) (data : List Byte)
  | send (service : Nat) (data : List Byte)
  deriving DecidableEq, Repr

/-- A message queued toward a peer: not all its packets have a PSN yet; sent counts those that have. -/
structure TxMsg where
  msgId   : Word32
  body    : MsgBody
  fence   : Bool
  notify  : Bool
  svc     : Nat
  purpose : Purpose
  tenant  : Nat := 4093
  yellow  : Bool := false
  sent    : Nat := 0
  deriving DecidableEq, Repr

/-- A kept copy of an unacknowledged packet (R63): its path, the message it belongs to with its owner, tenant and colour. -/
structure TxCopy where
  pkt     : HktPkt
  path    : Nat
  purpose : Purpose
  msg     : Word32
  tenant  : Nat := 4093
  yellow  : Bool := false
  deriving DecidableEq, Repr

/-- A message being received (R59, R60, R563): the properties every packet of it shares, the packets placed, whether one carried
flags.n, and the parts of a message that is delivered whole. -/
structure RxMsg where
  msgId    : Word32
  opcode   : Nat
  service  : Nat
  msgLen   : Nat
  pktCount : Nat
  placed   : Nat := 0
  notify   : Bool := false
  parts    : Table Nat (List Byte) := []
  deriving DecidableEq, Repr

/-- A READ_REQ the module sent that still awaits its response (R54, R57), and whether it has left a port and its response has begun to
arrive (R32). -/
structure OutRead where
  msgId   : Word32
  len     : Nat
  got     : Table Nat (List Byte) := []
  key     : Word32
  purpose : Purpose
  left    : Bool := false
  back    : Bool := false
  deriving DecidableEq, Repr

/-- The packet an ACK or NAK of no single arrival answers (R44). -/
structure Answered where
  srcPort : Nat
  sendTs  : Word32
  path    : Nat
  svc     : Nat
  deriving DecidableEq, Repr

/-- One window and its epoch (R77): the window in 1/256 packet, whether an epoch is open, since when, the lowest delay
in ticks of 640 ns, the packets acknowledged in it, and ep_cut. -/
structure CcWin where
  win   : Nat
  isOpen : Bool := false
  start : Word64 := 0
  min   : Rat := 0
  acked : Nat := 0
  cut   : Bool := false
  deriving DecidableEq, Repr

/-- A peer context (R52 and its table): both directions, the window of R75 to R79, and what is held for it; the msg_ids that took a
consuming NAK (R50). -/
structure HktCtx where
  localEid  : Eid
  peerEid   : Eid
  spilled   : Bool := false
  sndEpoch  : BitVec 16
  sndUna    : Psn := 0
  sndNxt    : Psn := 0
  rtxNxt    : Psn := 0
  srtt      : Option Rat := none
  samples   : List Nat := []
  backoff   : Nat := 0
  rto       : Rat
  rtoOn     : Bool := false
  peerRwnd  : Nat := 1024
  paths     : List HktPath
  nextPath  : Nat := 0
  rcvEpoch  : Option (BitVec 16) := none
  rcvNxt    : Psn := 0
  bitmap    : BitVec 1024 := 0
  msgs      : List RxMsg := []
  nakked    : List Word32 := []
  fences    : List HktPkt := []
  lastRx    : Word64 := 0
  lastTx    : Word64 := 0
  copies    : List TxCopy := []
  ackPend   : Bool := false
  ackTimer  : Bool := false
  gapTimer  : Bool := false
  sinceAck  : Nat := 0
  answered  : Option Answered := none
  reads     : List OutRead := []
  answering : List Word32 := []
  unsent    : List TxMsg := []
  rnrWait   : Option Psn := none
  cwnd      : CcWin
  lcwnd     : CcWin
  lastQueue : Option (Nat × Nat) := none
  capped    : Bool := false
  epochAt   : Word64 := 0
  deriving DecidableEq, Repr

/-- The state of a region table entry (R66). -/
inductive RegionState where
  | free | valid | revoking
  deriving DecidableEq, Repr

/-- A region table entry (R66), with what a pending revocation answers when it is done (R68, R69) and the owner that
registered it by REGION_REGISTER (R156). -/
structure Region where
  state    : RegionState := .free
  rd       : Bool := false
  wr       : Bool := false
  protReq  : Bool := false
  host     : Bool := false
  scopeLen : Nat := 0
  tag      : Nat := 0
  scopeEid : Eid := 0
  basePage : Nat := 0
  lenPages : Nat := 0
  revCmd   : Option Nat := none
  regBy    : Option Eid := none
  deriving DecidableEq, Repr

/-- How a peer is reached (R42, R43): over IPv6, and the VLAN of its frames, 0 for none. -/
structure PeerNet where
  v6   : Bool := false
  vlan : Nat := 0
  deriving DecidableEq, Repr

/-- The HKT block: contexts in least-recently-used order, most recent first (R54); epoch counters (R56); the region
table (R65); jumbo EID ranges (R45); further EIDs served; sends waiting for context space (R54); the next message ID; when
EV_HKT_SPILL_FULL was last raised; register access messages delivered and not yet executed (R536); how peers are reached; the send_ts
of the last protected packet by source, destination and nkind (R173); partial messages and held fences dropped by new epochs (R57). -/
structure Hkt where
  ctxs      : List HktCtx := []
  epochs    : Table Eid (BitVec 16) := []
  regions   : Table Nat Region := []
  jumbo     : List (Eid × Eid) := []
  served    : List Eid := []
  waiting   : List (Eid × Eid × TxMsg) := []
  nextMsg   : Word32 := 1
  spillFull : Option Word64 := none
  mgmt      : List (Eid × Eid × List Byte) := []
  nets      : Table Eid PeerNet := []
  stamps    : Table (Eid × Eid × Nat) Word32 := []
  abandoned : Nat := 0
  mgmtOut   : List HktPkt := []
  mgmtDrops : Nat := 0
  deriving DecidableEq, Repr

/-! ## TMS and MAC (chapter 03) -/

/-- What a command to a drive is for (R306): chunk `c` of a stripe, chunk `c` of a row read, chunk `c` of a stripe being
restored or its rebuilt chunk, a label, a deallocation, the SMART log. -/
inductive DriveUse where
  | chunk (stripe c : Nat)
  | row (read c : Nat)
  | source (seg stripe c : Nat)
  | restored (seg stripe pos : Nat)
  | label (l : DriveLabel)
  | dealloc (first : Nat)
  | health
  deriving DecidableEq, Repr

/-- A command to a drive: member, use, member LBA and length in 4 KiB blocks. -/
structure DriveCmd where
  member : Nat
  use    : DriveUse
  lba    : Nat
  len    : Nat
  deriving DecidableEq, Repr

/-- What an item is: a packet the module sends, a frame held by the switch, a drive command. -/
inductive TmsWork where
  | pkt (p : HktPkt)
  | frame (id : Nat)
  | drive (c : DriveCmd)
  deriving DecidableEq, Repr

/-- An item waiting in a tenant leaf (R86, R88) with its charged length (R92), the switch cells it holds and when it
was queued (R98, R356). -/
structure TmsItem where
  work  : TmsWork
  len   : Int
  cells : List Nat := []
  stamp : Word64 := 0
  deriving DecidableEq, Repr

/-- A tenant leaf on a root in a class (R86): green items before yellow ones (R88). -/
structure TmsLeaf where
  root    : Nat
  cls     : Nat
  tenant  : Nat
  green   : List TmsItem := []
  yellow  : List TmsItem := []
  deficit : Int := 0
  deriving DecidableEq, Repr

/-- A shaper (R89): tokens in 1/65536 byte and when they were last updated. -/
structure Shaper where
  tokens : Int := 0
  last   : Word64 := 0
  deriving DecidableEq, Repr

/-- Which shaper: a tenant's one bucket, a class of a root, a root (R89). -/
inductive ShaperId where
  | tenant (t : Nat)
  | cls (root c : Nat)
  | root (r : Nat)
  deriving DecidableEq, Repr

/-- A policer (R95): committed and excess tokens in 1/65536 byte, and the time of their last update. -/
structure Bucket where
  tc   : Nat := 0
  te   : Nat := 0
  last : Word64 := 0
  deriving DecidableEq, Repr

/-- What waits on the calendar (R93): a shaped node, a paced context, a held command. -/
inductive CalEntity where
  | shaper (i : ShaperId)
  | paced (localEid peerEid : Eid)
  | held (cmd : Nat)
  | sliceShaper (s : Nat)
  deriving DecidableEq, Repr

/-- An entity on the calendar with its due time, the slot it lies in, and the due time before, from which the due time is computed
(R93, R94). -/
structure CalEntry where
  what : CalEntity
  due  : Word64
  slot : Nat
  base : Word64
  deriving DecidableEq, Repr

/-- The TMS block: the leaves; deficits, the node in turn and the quanta of the round under way of classes by root and of tenants by
root and class (R88, R91); shapers, policers, the calendar; what the rebuild subscriber was served (R90); queue samples (R98); the number
the next held command takes (R97). -/
structure Tms where
  leaves      : List TmsLeaf := []
  clsDeficit  : Table (Nat × Nat) Int := []
  clsTurn     : Table Nat Nat := []
  clsQuanta   : Table Nat (Table Nat Int) := []
  leafTurn    : Table (Nat × Nat) Nat := []
  leafQuanta  : Table (Nat × Nat) (Table Nat Int) := []
  shapers     : Table ShaperId Shaper := []
  buckets     : Table Nat Bucket := []
  calendar    : List CalEntry := []
  rebServed   : List (Word64 × Nat) := []
  sampledAt   : Table (Nat × Nat) Word64 := []
  stale       : List (Nat × Nat) := []
  nextHeld    : Nat := 0
  deriving DecidableEq, Repr

/-- PFC of one port and priority (R83 to R85): cells held, whether XOFF was sent, until when the priority is paused, when
it last sent or ceased to wait, and whether the storm watchdog has tripped. -/
structure Pfc where
  held     : Nat := 0
  xoff     : Bool := false
  paused   : Option Word64 := none
  stuck    : Option Word64 := none
  tripped  : Bool := false
  lastPfc  : Word64 := 0
  deriving DecidableEq, Repr

/-- An optical module in a cage (R549): its power class in watts and whether it is held in low-power mode. -/
structure Optic where
  watts    : Nat
  lowPower : Bool
  deriving DecidableEq, Repr

/-- The MAC block. -/
structure Mac where
  pfc    : Table (Nat × Nat) Pfc := []
  optics : Table Nat Optic := []
  deriving DecidableEq, Repr

/-! ## QPE (chapter 04) -/

/-- The states of R103; a FREE queue pair is one the table does not list. -/
inductive QpState where
  | active | error | deleting
  deriving DecidableEq, Repr

/-- An outstanding fetch (R112): first index, entries, the bytes once they have arrived, when its request left and when its response
began to arrive (R32). -/
structure Fetch where
  first : Nat
  count : Nat
  bytes : Option (List Byte) := none
  asked : Option Word64 := none
  back  : Option Word64 := none
  deriving DecidableEq, Repr

/-- What the added latency of a command is sampled from when its CQE leaves (R32, R525): when its doorbell arrived, the ticks excluded,
namespace, tenant and kind of command. -/
structure Lat where
  bell   : Word64
  excl   : Nat
  ns     : Option Nat
  tenant : Nat
  op     : Nat
  deriving DecidableEq, Repr

/-- A queue pair (R100 to R119), with the doorbells not yet fetched up to (R32), samples of CQEs gathered and under way, whether a ring
access failed while it was DELETING, its CQEs discarded (R129), and the Delete commands that its deletion completes (R108). -/
structure Qp where
  owner       : QOwner
  admin       : Bool
  qid         : Nat
  cqid        : Nat := 0
  servEid     : Eid := 0
  state       : QpState := .active
  sqEntries   : Nat
  cqEntries   : Nat
  sqBase      : Word64 := 0
  cqBase      : Word64 := 0
  sqKey       : Word32 := 0
  cqKey       : Word32 := 0
  sqHead      : Nat := 0
  sqTail      : Nat := 0
  cqHead      : Nat := 0
  cqTail      : Nat := 0
  cqPhase     : Bool := true
  cqSeq       : Nat := 0
  cmplCount   : Nat := 0
  errCount    : Nat := 0
  notifyCount : Nat := 1
  notifyTime  : Nat := 0
  precolour   : Bool := false
  vector      : Nat := 0
  ien         : Bool := false
  fetches     : List Fetch := []
  comp        : List Nat := []
  merging     : List Cqe := []
  mergeSvc    : Nat := 0
  mergeTen    : Nat := 4093
  unnotified  : Nat := 0
  firstUnnot  : Word64 := 0
  lastCqe     : Option Cqe := none
  fullRaised  : Bool := false
  replies     : List (Nat × Word32) := []
  paused      : Bool := false
  broken      : Nat := 0
  breaking    : Bool := false
  breakErr    : Word32 := 0
  bells       : List (Nat × Word64) := []
  mergeLats   : List Lat := []
  lats        : List (Nat × Lat) := []
  ringBad     : Bool := false
  discarded   : Nat := 0
  delCmds     : List Nat := []
  deriving DecidableEq, Repr

/-- The colour a policer gives (R96); red is held or failed (R97). -/
inductive Colour where
  | green | yellow | red
  deriving DecidableEq, Repr

/-- The phase of a fetched command: held or waiting to start, started, or completed with its CQE not yet written. -/
inductive CmdPhase where
  | fetched | started | done
  deriving DecidableEq, Repr

/-- A fetched command without a posted CQE (R113): its queue and slot, phase, colour (R96), holds (R97, R133; the number and the charged
length of its measurement), namespace
index, completion fields and times.  For an I/O command under way: the blocks a read or Copy has in hand and how many
are still to come (left), pieces of blocks arrived (bytes), the host addresses of a local command's data and whether a
list of them is still being read (R115), what a Flush waits for (covers), the Firn records a Write Zeroes or Deallocate waits for
(recs), the first lost LBA met (lost), the bytes moved to or from the host, whether its transfer failed; whether it is
forwarded to the partner and the partner is done with it, and for a command the partner forwarded here, its number there and the key generation of its ciphertext (R337);
the effective mode it was accepted under (R153), whether the list of ranges of a Copy or Dataset Management is still
being read, and those ranges (R215, R216), and for a Flush the partner's answers still awaited (R122, R337). -/
structure Cmd where
  qpn       : Nat
  slot      : Nat
  sqe       : Sqe
  phase     : CmdPhase := .fetched
  colour    : Colour := .green
  heldAt    : Option Word64 := none
  heldNo    : Nat := 0
  heldLen   : Nat := 0
  adminHold : Option Word64 := none
  ownerHold : Option Word64 := none
  ns        : Option Nat := none
  status    : Status := ⟨0, 0, false⟩
  dw0       : Word32 := 0
  dw1       : Word32 := 0
  bellAt    : Word64 := 0
  fetchedAt : Word64 := 0
  startAt   : Word64 := 0
  errMark   : Nat := 0
  begun     : Bool := false
  mode      : Nat := 0
  waitList  : Bool := false
  ranges    : List (Nat × Nat) := []
  fwdDone   : Bool := false
  fwdKgen   : Bool := false
  moved     : Nat := 0
  left      : Nat := 0
  data      : Table Nat Block := []
  bytes     : Table Nat (List Byte) := []
  addrs     : List (Nat × Nat) := []
  listing   : Bool := false
  covers    : List Nat := []
  recs      : List Nat := []
  lost      : Option Nat := none
  failed    : Option (Status × Word32) := none
  forwarded : Bool := false
  remote    : Option Nat := none
  issuer    : Option QOwner := none
  reserving : Bool := false
  away      : Nat := 0
  awayAt    : Word64 := 0
  excl      : Nat := 0
  fwdLeft   : Nat := 0
  deriving DecidableEq, Repr

/-- A local completion queue (R108), with where it stands while no submission queue uses it. -/
structure LocalCq where
  owner   : QOwner
  qid     : Nat
  entries : Nat
  base    : Word64
  vector  : Nat
  ien     : Bool
  head    : Nat := 0
  tail    : Nat := 0
  phase   : Bool := true
  seq     : Nat := 0
  deriving DecidableEq, Repr

/-- The QPE block: queue pairs by QPN, commands in fetch order by the model's number for them, local completion queues, and the rotation of R113, and the RESETs (R106) not yet answered. -/
structure Qpe where
  qps     : Table Nat Qp := []
  cmds    : Table Nat Cmd := []
  nextCmd : Nat := 0
  cqs     : List LocalCq := []
  rotor   : Nat := 0
  resets  : List (Eid × Eid × Word32) := []
  deriving DecidableEq, Repr

/-! ## NSM (chapter 05) -/

/-- What an owner of admin queues has (R157, R158): the notice configuration, interrupt coalescing, the outstanding event
requests, the kept events and the changed-namespace list. -/
structure OwnerFeat where
  aenMask  : Nat := 50332416
  coalTime : Nat := 0
  coalThr  : Nat := 0
  aers     : List Nat := []
  kept     : List (Nat × Nat × Nat) := []
  changed  : List Nat := []
  deriving DecidableEq, Repr

/-- A deferred error entry (R161). -/
structure DefErr where
  owner : QOwner
  nsid  : Nat
  slba  : Nat
  nlb   : Nat
  cause : Nat
  dtc   : Word64
  deriving DecidableEq, Repr

/-- Per owner, the generation and lost count of the Deferred Error page and whether it has
not yet read the latter with RAE cleared (R117, R161). -/
structure DefOwner where
  gen    : Nat := 0
  lost   : Nat := 0
  unread : Bool := false
  deriving DecidableEq, Repr

/-- An authorised management endpoint (R474): EID prefix and rights ([0] admin commands, [1] registers,
[2] commands). -/
structure MgmtAuth where
  eid    : Eid
  len    : Nat
  rights : Nat
  deriving DecidableEq, Repr

/-- The NSM block: namespaces by table index (R139), the management sequence's recorded outcome and running command
(R142), owners' features, deferred errors with those still pending a status (R130), authorised endpoints, the Set
Features C1h waiting for writes (R153), the SMART totals of R160, the tenant values of Set Features C0h (R154), the deletes accepted and
not completed with their namespaces (R142). -/
structure Nsm where
  ns        : Table Nat Ns := []
  recorded  : Option MgmtOutcome := none
  running   : Option Nat := none
  runSeq    : Option Word32 := none
  seqQueue  : List (Nat × Word32) := []
  feats     : Table QOwner OwnerFeat := []
  deferred  : List DefErr := []
  defOwners : Table QOwner DefOwner := []
  pending   : Table (QOwner × Nat) Nat := []
  auth      : List MgmtAuth := []
  service   : Option (Nat × Nat × List Nat) := none
  unitsRd   : Nat := 0
  unitsWr   : Nat := 0
  hostRd    : Nat := 0
  hostWr    : Nat := 0
  powerOn   : Nat := 0
  cycles    : Nat := 0
  unsafeSd  : Nat := 0
  tenants   : Table Nat (Nat × Nat × Nat) := []
  dels      : List (Word32 × List Nat) := []
  deriving DecidableEq, Repr

/-! ## KEY and CIP (chapter 06) -/

/-- A cached session key's origin (R170, R174): direction and epoch, and the slot fixed for it. -/
structure Session where
  src   : Eid
  dst   : Eid
  epoch : BitVec 16
  slot  : Nat
  deriving DecidableEq, Repr

/-- The KEY block: slots, the vault's wrapped key records by copy and slot (R183), what stays recorded of bound slots without their
keys (R179, R182), previous slots of KEY_EP_PROT entries with the time of the rewrite (R174), cached sessions, the DRBG's working
state, its generate requests since the last reseed and the time of that (R190), whether a noise test has failed and the startup tests
have not been repeated yet, whether they have been (R191, R194), the private value and the pair key of the agreement (R184), the
slot of a key command that awaits the partner. -/
structure Key where
  slots    : Table Nat KeySlot := []
  vault    : Table (Nat × Nat) (List Byte) := []
  kept     : Table Nat KeySlot := []
  prev     : Table Nat (Nat × Word64) := []
  sessions : List Session := []
  drbg     : List Byte × List Byte := (List.replicate 32 0, List.replicate 16 0)
  requests : Nat := 0
  seededAt : Word64 := 0
  noiseBad : Bool := false
  retried  : Bool := false
  pairPriv : Nat := 0
  pairKey  : Option (BitVec 256) := none
  awaitAck : Option Nat := none
  deriving DecidableEq, Repr

/-! ## CIP, STR, JNL, DRV, REB (chapters 06 to 10) -/

/-- What a unit in a cipher lane is for: a block of a command's data, or a block a rotation sweep decrypts under the old
slot and encrypts under the new one (R188), or a packet under line protection, whose bytes the transport holds (R176). -/
inductive CipUse where
  | cmd (c block : Nat)
  | line (bytes : Nat)
  | sweepIn (ns lba : Nat) (old : MapEnt)
  | sweepOut (ns lba : Nat) (old : MapEnt)
  deriving DecidableEq, Repr

/-- A 4 KiB unit in a cipher lane (R175, R176): its use, direction, key slot, LBA (the tweak) and data. -/
structure CipUnit where
  use     : CipUse
  encrypt : Bool
  slot    : Nat
  kgen    : Bool
  lba     : Nat
  data    : Block
  deriving DecidableEq, Repr

/-- A key that a lane caches (R178): its slot, and the key as it came over the key bus: two shares to an assured lane, one value (and a
share of 0) to a bulk lane. -/
structure LaneKey where
  slot : Nat
  key  : BitVec 512
  mask : BitVec 512
  deriving DecidableEq, Repr

/-- What a lane holds of itself (R175, R178): its expanded keys, most recently used first, the state of its keyed stream
generator, and the cipher blocks it has processed since the generator's reseed. -/
structure Lane where
  cache  : List LaneKey := []
  stream : List Byte := []
  blocks : Nat := 0
  deriving DecidableEq, Repr

/-- The CIP block: the units on each lane, oldest first, the work waiting in each class's four queues (received line work, sent line
work, encryption, decryption) with the queue each class serves next (R176), what lanes hold, and the lanes removed from their class
(R193). -/
structure Cip where
  lanes  : Table Nat (List CipUnit) := []
  queues : Table (Bool × Nat) (List CipUnit) := []
  turn   : Table Bool Nat := []
  held   : Table Nat Lane := []
  failed : List Nat := []
  deriving DecidableEq, Repr

/-- A block placed in a stripe: a committed Névé block, a block relocated from a segment and offset with the origin its
Firn record carries, a block re-encrypted by a rotation sweep, a metadata block, or padding. -/
inductive StripeBlk where
  | neve (idx ns lba : Nat) (kgen : Bool)
  | moved (ns lba : Nat) (kgen : Bool) (seg off origin : Nat)
  | swept (ns lba : Nat) (kgen : Bool) (old : MapEnt)
  | md (b : MetaBlk)
  | pad
  deriving DecidableEq, Repr

/-- A stripe being filled or written (R205 to R208): its head, segment and number, blocks with their data in offset
order, when its first block was placed, whether it is being written, the chunks whose writes are outstanding, whether it
was padded, and whether it is ready to be written but eight of its head's are being written (R207). -/
structure Stripe where
  head    : HeadId
  seg     : Nat
  idx     : Nat
  blocks  : List (StripeBlk × Block) := []
  since   : Word64
  writing : Bool := false
  waiting : List Nat := []
  padded  : Bool := false
  due     : Bool := false
  deriving DecidableEq, Repr

/-- What a member read is for: a block of a command, a map page, a block to relocate with its origin, a block to sweep. -/
inductive ReadUse where
  | cmd (c block : Nat) (kgen : Bool)
  | page (ns p : Nat)
  | reloc (seg off origin : Nat)
  | sweep (ns lba : Nat)
  deriving DecidableEq, Repr

/-- A block read in progress (R238 to R240, R275): use, segment and offset, chunks whose reads are outstanding, chunks
received, chunks that failed, whether other chunks are being read beside the wanted one, whether the wanted chunk can
no longer answer, whether it has been answered, and when it began. -/
structure RowRead where
  use    : ReadUse
  seg    : Nat
  off    : Nat
  out    : List Nat := []
  got    : Table Nat Block := []
  failed : List Nat := []
  hedged : Bool := false
  recon  : Bool := false
  done   : Bool := false
  at_    : Word64
  deriving DecidableEq, Repr

/-- Host-head stripes and padded ones of a group in the current adaptation window (R233). -/
structure GroupStat where
  stripes : Nat := 0
  padded  : Nat := 0
  deriving DecidableEq, Repr

/-- The STR block: the map (an entry not listed is unmapped), its pages, lookups waiting for a page (R211), segments,
heads' open segments, stripes, row reads, the placement row each head takes next (R202), whether the placement tables
name the live members (R202), groups' windows (R233), the threshold T and
the hedge reads of this interval and all reads of this and the last (R236 to R240), the pool (R196), namespaces
whose former map is still walked (R227), Calving victims (R228), the capacity of each member (R201), the page at which the hand of the page cache's CLOCK stands (R211), blocks of stripes on
members whose MAP_SET has not committed, by the first one's segment and offset (R35, R212), relocated and re-encrypted
blocks that wait for their cold head (R229), and of each segment being relocated its origin and the stripe it has reached
(R229). -/
structure Str where
  map      : Table (Nat × Nat) MapEnt := []
  pages    : Table (Nat × Nat) MapPage := []
  waiters  : List (Nat × Nat × Nat × Nat) := []
  segs     : Table Nat Seg := []
  heads    : Table HeadId Nat := []
  stripes  : Table Nat Stripe := []
  nextStr  : Nat := 0
  reads    : Table Nat RowRead := []
  nextRead : Nat := 0
  rotor    : Table HeadId Nat := []
  placed   : List Nat := []
  stats    : Table Nat GroupStat := []
  thr      : Option Nat := none
  hedged   : Nat := 0
  readsNow : Nat := 0
  readsWas : Nat := 0
  readsMs  : Nat := 0
  poolId   : Nat := 0
  chunk128 : Bool := false
  walks    : List (Nat × Table Nat MapEnt) := []
  victims  : List Nat := []
  capacity : Table Nat Nat := []
  hand     : Option (Nat × Nat) := none
  switches : Table (Nat × Nat) (List (StripeBlk × Nat)) := []
  cold     : List (HeadId × StripeBlk × Block) := []
  moving   : Table Nat (Nat × Nat) := []
  deriving DecidableEq, Repr

/-- The states of a Névé slot that is not FREE (R243). -/
inductive NeveState where
  | reserved | committed | placed
  deriving DecidableEq, Repr

/-- A Névé slot that is not FREE (R242 to R249): state, descriptor, whether it is a mirror copy, its ciphertext and whether
that is intact, whether it is being fetched from the partner (R256), and where the stripe on members put it while its
MAP_SET has not committed (R249). -/
structure NeveSlot where
  state    : NeveState
  desc     : Option NeveDesc := none
  mirror   : Bool := false
  data     : Block := 0
  dataOk   : Bool := true
  fetching : Bool := false
  dest     : Option (Nat × Nat) := none
  first    : Bool := false
  deriving DecidableEq, Repr

/-- A write (or the write part of a Copy) under way (R245 to R247): its namespace, first LBA, owner, effective mode, FUA,
key slot and generation fixed at its start (R188), the slot of each block, the blocks it writes (all, but for R397), blocks in staging, ciphertext that
waits for the command's last data byte, commit_seq and firn_mark of committed blocks, blocks whose MAP_SET or MAP_CLEAR
has committed, whether a Flush covers it, whether it is acknowledged. -/
structure WJob where
  ns      : Nat
  lba     : Nat
  owner   : QOwner
  mode    : Nat
  fua     : Bool
  keySlot : Nat
  kgen    : Bool
  slots   : List Nat
  blocks  : List Nat
  staged  : List Nat := []
  ready   : Table Nat Block := []
  done    : Table Nat (Nat × Nat) := []
  durable : List Nat := []
  flushed : Bool := false
  acked   : Bool := false
  deriving DecidableEq, Repr

/-- A dump image on the vault packages (R263): number, cause, bay, entries in slot order, Firn tail, the sequence numbers
of its header, the packages that hold it sealed and torn, and whether it is consumed. -/
structure Dump where
  seq      : Nat
  cause    : Nat
  poolId   : Nat
  bay      : Nat
  entries  : List (Nat × NeveSlot)
  tail     : List FirnRec
  neveNext : Nat
  firnNext : Nat
  minFirn  : Nat
  acked    : Nat
  startDtc : Word64
  endDtc   : Word64
  isSealed : List Nat
  torn     : List Nat
  consumed : Bool := false
  deriving DecidableEq, Repr

/-- Where a dump or an orderly stop stands (R261, R262, R269): in the ride-through, waiting for the mirror flush or writing
(with cause and start), stopping (restart after it, its start), or held in reset. -/
inductive DumpPhase where
  | idle
  | riding (since : Word64)
  | flushing (cause : Nat) (start : Word64)
  | writing (cause : Nat) (start : Word64)
  | stopping (restart : Bool) (start : Word64)
  | held
  deriving DecidableEq, Repr

/-- The JNL block: slots that are not FREE, writes under way, writes waiting to reserve in fetch order (R251), retires that
came before their NEVE_PUT (R255), the partner's acknowledgements, its streams received and the resync marks (R254, R259), the
Firn tail with the number of records taken into Firn blocks (R221, R222), records whose append waits, FIRN_REQs not
yet returned (R320), metadata blocks waiting for the metadata head, what members hold, the compaction under way (R224: its stage and
the blocks it waits for, whether it is due at once, where its blocks lie, the copies it made, its checkpoint), dumps on the vault and the dump's phase, the dump replayed last with the
slots it restored (R265), entries whose data the partner might hold (R480), mirror copies of before the pair formed
that the partner has not sent again, the members whose label write for the newest checkpoint is outstanding (R224), and JNL_NEVE_SEQ
and JNL_FIRN_SEQ as a dump began (R263). -/
structure Jnl where
  slots     : Table Nat NeveSlot := []
  writes    : Table Nat WJob := []
  waiting   : List Nat := []
  retired   : List Nat := []
  ackedFirn : Nat := 0
  rxNeve    : Nat := 0
  rxFirn    : Nat := 0
  resync    : Option (Nat × Nat) := none
  tail      : List FirnRec := []
  drained   : Nat := 0
  firnAt    : Option Word64 := none
  parked    : List (Nat × FirnBody) := []
  tailFull  : Bool := false
  reqs      : List (Nat × FirnBody) := []
  mdQueue   : List (MetaBlk × Block) := []
  media     : Media := {}
  compact   : Option (Nat × List MetaBlk) := none
  forced    : Bool := false
  named     : List (MetaBlk × Nat × Nat) := []
  copies    : Table (Nat × Nat) (Nat × List (Nat × MapEnt)) := []
  ckpt      : Option Checkpoint := none
  dumps     : List Dump := []
  phase     : DumpPhase := .idle
  restored  : List Nat := []
  awaiting  : Table Nat NeveDesc := []
  stale     : List Nat := []
  lastSeq   : Table (Nat × Nat) Nat := []
  nsSeq     : Table Nat Nat := []
  labels    : List Nat := []
  marks     : Nat × Nat := (0, 0)
  deriving DecidableEq, Repr

/-- A drive command that has its SQE written (R305): tag, when its drive interval began, whether it was withdrawn, so that
its CQE only frees the tag (R313, R239), whether it has timed out (R312). -/
structure DrvCmd where
  cmd  : DriveCmd
  tag  : Nat
  at_  : Word64
  gone : Bool := false
  late : Bool := false
  deriving DecidableEq, Repr

/-- A root port and its drive (R301 to R315): commands in flight, times of command errors, since when the link is down, the
ladder's last successes at rungs 2 and 3 (R312), times of media errors (R271), whether EV_REB_MEMBER_DEGRADED was
raised, whether it must be unseated before it is tried again (R303), what bring-up found, and the Percentage Used its SMART
log last gave (R160). -/
structure Port where
  cmds     : List DrvCmd := []
  errors   : List Word64 := []
  linkDown : Option Word64 := none
  okRung2  : Option Word64 := none
  okRung3  : Option Word64 := none
  media    : List Word64 := []
  degraded : Bool := false
  barred   : Bool := false
  facts    : Option DriveFacts := none
  used     : Nat := 0
  deriving DecidableEq, Repr

/-- A segment being restored (R280, R281): positions lost with their target member and base, the stripe it has reached, the
chunks of it asked for and read, the positions whose writes are outstanding, whether its reads are hedged (R238, R240), and whether it has
ended with a SEG_STATE record that has not committed yet. -/
structure Restore where
  targets : List (Nat × Nat × Nat)
  stripe  : Nat := 0
  asked   : List Nat := []
  got     : Table Nat (List Block) := []
  waiting : List Nat := []
  hedged  : Bool := false
  ended   : Bool := false
  deriving DecidableEq, Repr

/-- The image of the Crevasse list in the vault (R291): generation, pool, entries, and the counts of REB_CREV_COUNT. -/
structure CrevImage where
  gen      : Nat
  pool     : Nat
  list     : List Crev
  lost     : Nat := 0
  overflow : Nat := 0
  deriving DecidableEq, Repr

/-- The REB block: segments queued with an unreadable chunk or a lost row (R276, R286), restorations under way, segments
being evacuated, the Crevasse list (R288), whether it has changed since its image in the vault, that image (R291),
members being adopted with how far it has come (0 deallocating, 1 deallocated, 2 labels being written, 3 labelled), members a
pool creation still deallocates,
whether the list is full (R292), whether the queue has held something since it was last empty, KiB restored or
relocated since then (REB_PROGRESS), and what waits for the control cores while they are being replaced: segments whose restoration
restarts, the rate update (R484). -/
structure Reb where
  bad      : List Nat := []
  work     : Table Nat Restore := []
  evac     : List Nat := []
  crev     : List Crev := []
  changed  : Bool := false
  saved    : Option CrevImage := none
  joining  : Table Nat Nat := []
  creating : List Nat := []
  making   : List Nat := []
  full     : Bool := false
  running  : Bool := false
  doneKib  : Nat := 0
  stopped  : List Nat := []
  rateDue  : Bool := false
  deriving DecidableEq, Repr

/-! ## PAIR (chapter 11) -/

/-- A namespace being moved (R336): its index, whether the owner record has been appended, whether it has committed. -/
structure Move where
  ns       : Nat
  recorded : Bool := false
  done     : Bool := false
  deriving DecidableEq, Repr

/-- The PAIR block: the sequenced stream sent and received (R326), links marked down, heartbeats (R327), the formation and
the steps of forming done (R328), the alive line's fault (R329), the takeover's reference and the segments it closed
(R331, R332), when the last heartbeat came, whether the bays conflict (R317), namespaces to move (R336), segments granted (R322), the partner's last heartbeat. -/
structure Pair where
  txNext    : Nat := 0
  kept      : List (Nat × PairMsg) := []
  keptOn    : Table Nat Nat := []
  onPl1     : Bool := false
  rxNext    : Nat := 0
  held      : Table Nat PairMsg := []
  unacked   : Nat := 0
  down      : List Nat := []
  heard     : Bool := false
  sent      : Nat := 0
  partner   : Option Heartbeat := none
  formation : Nat := 0
  lastForm  : Nat := 0
  active    : Bool := false
  keyed     : Bool := false
  merged    : Bool := false
  aliveBad  : Bool := false
  takenAt   : Option Word64 := none
  takenSegs : List Nat := []
  lastHb    : Word64 := 0
  conflict  : Bool := false
  moves     : List Move := []
  returning : Bool := false
  grants    : Table HeadId (List (Nat × Seg)) := []
  deriving DecidableEq, Repr

/-! ## SWC and FWD (chapters 12 and 13) -/

/-- A unit of a free list Moraine audits (R360), a switch cell or a staging unit, that is not simply free: whether it
stands on the free list all the same, the references the module's queues and work hold, the reference count stored with
it, the sweep during which it was allocated, and whether the last sweep found it leaked. -/
structure CellUse where
  onFree : Bool := false
  refs   : Nat
  rc     : Nat
  sweep  : Nat
  leaked : Bool := false
  deriving DecidableEq, Repr

/-- One copy of a frame toward an egress port (R348, R352, R357): its class, the mirror session it belongs to, whether
it was started by cut-through, the cells still to cross, when it entered its egress queue, whether its head has left,
and the addresses rewritten by R369. -/
structure SwcCopy where
  dst     : Nat
  tc      : Nat
  mirror  : Option Nat := none
  trunc   : Nat := 0
  vlan    : Nat := 0
  ct      : Bool := false
  toCross : Nat := 0
  stamp   : Option Word64 := none
  left    : Bool := false
  newMac  : Option Nat := none
  deriving DecidableEq, Repr

/-- A frame in the switch: its cells, how many are charged to a privileged port's reserve (R351), its lookup epoch
(R371), whether its tail has arrived and proved good (R353). -/
structure SwcFrame where
  f       : Frame
  tc      : Nat
  cells   : List Nat
  reserve : Option (Nat × Nat) := none
  epoch   : Nat
  tail    : Option Bool := none
  copies  : List SwcCopy
  deriving DecidableEq, Repr

/-- A cell waiting in a virtual output queue (R354): its frame, and the copy by port and mirror session. -/
structure VoqCell where
  frame  : Nat
  dst    : Nat
  mirror : Option Nat
  deriving DecidableEq, Repr

/-- The SWC block: cells and staging units that are not simply free, the staging unit of each command's block, frames by
number, VOQs by input and output lane, the scheduler's pointers (R354), frames selected and copies discarded per mirror
session, whether the control cores' receive ring is enabled (R362), and the blocks of reads that lie in the read assembly area of HBM for
want of staging (R29). -/
structure Swc where
  cells     : Table Nat CellUse := []
  stage     : Table Nat CellUse := []
  stageOf   : Table (Nat × Nat) Nat := []
  frames    : Table Nat SwcFrame := []
  nextFrame : Nat := 0
  voq       : Table (Nat × Nat) (List VoqCell) := []
  gptr      : Table Nat Nat := []
  aptr      : Table Nat Nat := []
  selected  : Table Nat Nat := []
  mirDrops  : Table Nat Nat := []
  cpuUp     : Bool := true
  spill     : List (Nat × Nat) := []
  deriving DecidableEq, Repr

/-- One forwarding table (R365): entries by bucket and slot, the stash, the number of insertions, the rotation of each
bucket's slots (R373), and the bucket the rehash walk visits next (R375). -/
structure FwdTbl where
  slots   : Table (Nat × Nat) (BitVec 128) := []
  stash   : List (BitVec 128) := []
  inserts : Nat := 0
  rotor   : Table Nat Nat := []
  walk    : Nat := 0
  deriving DecidableEq, Repr

/-- A learn or move message (R379): the table and the entry to make. -/
structure LearnMsg where
  table : Nat
  entry : BitVec 128
  deriving DecidableEq, Repr

/-- A hit message (R382): table, key and the bank copy it was posted for. -/
structure HitMsg where
  table : Nat
  key   : BitVec 64
  bank  : Bool
  deriving DecidableEq, Repr

/-- A record waiting to be sent on a cluster port (R343, R380): port, hop limit, origin sequence number, record. -/
structure LearnOut where
  port : Nat
  hop  : Nat
  seq  : Word32
  loc  : Option LocRec := none
  mod  : Option ModRec := none
  deriving DecidableEq, Repr

/-- The FWD block: both tables, the message queues of the two pipelines (R379, R382), which pipeline's learn message is
served next (R372); for LEARN records the origin sequence number, the queue of R343 and when each cluster port last sent
one, when each namespace entry was last re-sent, withdraw records still to repeat, records not held for want of room and
when EV_PAIR_LOC_FULL was last raised (R342). -/
structure Fwd where
  tables : Table Nat FwdTbl := []
  learn  : Table Nat (List LearnMsg) := []
  hits   : Table Nat (List HitMsg) := []
  turn   : Nat := 0
  originSeq : Word32 := 0
  outQueue  : List LearnOut := []
  lastSent  : Table Nat Word64 := []
  resent    : Table Nat Word64 := []
  withdraws : Table Nat (LocRec × Nat) := []
  notHeld   : Nat := 0
  locFull   : Option Word64 := none
  deriving DecidableEq, Repr

/-! ## HIF and SLC (chapters 14 and 15) -/

/-- The PCIe identity table (R388) as the image in use gives it. -/
structure IdTable where
  portMode : Nat := 0
  sris     : Bool := false
  atsEn    : Bool := false
  pasidEn  : Bool := false
  doeEn    : Bool := false
  vid      : Nat := 0
  ssvid    : Nat := 0
  ssid     : Nat := 0
  rev      : Nat := 0
  didE0    : Nat := 0
  classE0  : Nat := 0
  didE1    : Nat := 0
  classE1  : Nat := 0
  maxSpeed : Nat := 6
  msixE0   : Nat := 1
  msixE1   : Nat := 1
  bar4Log2 : Nat := 0
  e1Slice  : Nat := 0
  deriving DecidableEq, Repr

/-- What the module does toward host memory (R109, R112, R393): a read, a write with the command whose data it is, a completion entry, a message of a vector
of an endpoint. -/
inductive HostOp where
  | read (use : DmaUse) (addr len : Nat)
  | write (addr : Nat) (data : List Byte) (cmd : Option Nat)
  | cqe (qpn : Nat) (e : Cqe)
  | msg (ep vector : Nat)
  deriving DecidableEq, Repr

/-- A request waiting to be issued, with its owner, the address it goes to, and whether it goes untranslated since a
translation of it failed (R394). -/
structure HostReq where
  owner : QOwner
  op    : HostOp
  plain : Bool := false
  deriving DecidableEq, Repr

/-- A read issued and not yet answered: its owner, use and length, and the translation it was issued under (R395). -/
structure HostRead where
  owner : QOwner
  use   : DmaUse
  addr  : Nat
  len   : Nat
  under : Option (Option Nat × Nat) := none
  deriving DecidableEq, Repr

/-- A translation cache entry (R394): PASID, untranslated page, pages covered, translated page. -/
structure AtsEntry where
  pasid : Option Nat
  page  : Nat
  pages : Nat
  base  : Nat
  deriving DecidableEq, Repr

/-- An Invalidate Request under way (R395): endpoint, tag, PASID and range whose reads must end first. -/
structure Inval where
  ep    : Nat
  tag   : Nat
  pasid : Option Nat
  page  : Nat
  pages : Nat
  deriving DecidableEq, Repr

/-- An active peer window (R402): bus address, length in bytes, reads and writes allowed, the endpoint whose peers may use
it, what it maps. -/
structure PeerWindow where
  base : Nat
  len  : Nat
  rd   : Bool
  wr   : Bool
  key  : Nat
  page : Nat
  deriving DecidableEq, Repr

/-- The HIF block: the identity table, requests waiting in order (R396, R397), reads outstanding, endpoints whose ATS or
PASID is enabled, the translation cache, translations asked for, invalidations (R394, R395), MSI messages allocated, MSI-X
vectors unmasked and vectors pending (R393), coalescing counts (R393), INTA#, the active peer windows (R402), per
endpoint, or 2 plus a slice (R417), the commands a clear interrupted (R397), endpoints in reset, what their links
stay trained to meanwhile (speed, width, FLIT mode), and whether the local controller's disable runs. -/
structure Hif where
  idt       : IdTable := {}
  queue     : List HostReq := []
  reads     : List HostRead := []
  ats       : List Nat := []
  pasid     : List Nat := []
  cache     : List AtsEntry := []
  asked     : List (Option Nat × Nat) := []
  invals    : List Inval := []
  msis      : Table Nat Nat := []
  unmasked  : List (Nat × Nat) := []
  pendVec   : List (Nat × Nat) := []
  coal      : Table (QOwner × Nat) (Nat × Word64) := []
  intx      : Bool := false
  windows   : Table Nat PeerWindow := []
  cutCmds   : Table Nat (List Nat) := []
  inReset   : List Nat := []
  link      : Table Nat (Nat × Nat × Nat) := []
  disabling : Bool := false
  deriving DecidableEq, Repr

/-- The two token buckets of a slice (R411): bytes in 1/65536, commands in 1/65536, and their last update. -/
structure SliceShape where
  bytes : Int
  cmds  : Int
  last  : Word64
  deriving DecidableEq, Repr

/-- A slice's dirty log (R420 to R423): buffers A and B, the span, marks kept by buffer and word, whether EV_SLC_LOG_SPAN
was raised in this interval. -/
structure SliceLog where
  bufA   : Nat
  bufB   : Nat
  lo     : Nat
  pages  : Nat
  marks  : Table (Nat × Nat) Nat := []
  raised : Bool := false
  deriving DecidableEq, Repr

/-- A slice reset under way (R414): whether it drains, whether it ends FREE, its start, whether a SLC_CMD waits on it. -/
structure SliceReset where
  drain  : Bool
  toFree : Bool
  start  : Word64
  cmd    : Bool
  deriving DecidableEq, Repr

/-- The SLC block: the slice that E1 presents (R388, R391), slices' token buckets, logs with the words each sync still
writes and whether it is the last (R423), resets, and the pause a command waits for (R418). -/
structure Slc where
  e1      : Option Nat := none
  shape   : Table Nat SliceShape := []
  logs    : Table Nat SliceLog := []
  syncing : Option (Nat × Nat × List Nat × Bool) := none
  folding : Table (Nat × Nat × Nat) Nat := []
  resets  : Table Nat SliceReset := []
  pausing : Option (Nat × Word64) := none
  stopped : List Nat := []
  deriving DecidableEq, Repr

/-! ## SLT (chapter 17) -/

/-- A slot power channel beyond its registers (R454 to R465): the outputs it drives (aux switch, gate, DRV_PWRDIS; the locator
and fault indication follow the registers), how far its power-up has come (0 not begun, 1 aux on, 2 ramp, 3 full
enhancement), the fault timer in 1/8 µs, whether a thermal retry waits for the switch to cool and an undervoltage retry
for the supply, whether its retry wait has ended meanwhile, whether the off period of a cycle runs, whether it stays off
until absent or ON (R463), whether this module has released it and waits for TAKEN (R465), the excursions reported, what
its sense lines show, the estimate's d1, c and cs in K (R460), the samples of this ms with the sums of mV, mA and µW,
the ms of this second with the sum of their averages in µW, and energy not yet a whole µJ, in pJ (R462). -/
structure Slot where
  aux      : Bool := false
  gate     : Bool := false
  pwrdis   : Bool := false
  step     : Nat := 0
  fault    : Nat := 0
  hot      : Bool := false
  lowWait  : Bool := false
  waited   : Bool := false
  cycling  : Bool := false
  barred   : Bool := false
  leaving  : Bool := false
  overRaised : Bool := false
  warned   : Bool := false
  sense    : SlotSense := {}
  d1       : Rat := 0
  c        : Rat := 0
  cs       : Rat := 0
  nUs      : Nat := 0
  sumV     : Nat := 0
  sumI     : Nat := 0
  sumP     : Nat := 0
  nMs      : Nat := 0
  sumMs    : Nat := 0
  pico     : Nat := 0
  deriving DecidableEq, Repr

/-- The SLT block: channels, whether the boot has enabled slot power (R453), and whether channels are held off by a
dump (R459). -/
structure Slt where
  slots   : Table Nat Slot := []
  enabled : Bool := false
  dumped  : Bool := false
  deriving DecidableEq, Repr

/-! ## Boot, Rime, module power (chapters 16, 18, 19) -/

/-- A Firmware Commit whose bank write runs (R482): its command, the bank, its action. -/
structure BankWrite where
  cmd  : Nat
  bank : Nat
  ca   : Nat
  deriving DecidableEq, Repr

/-- The boot and activation state: the flash banks, the fuses (owner key hashes, revoked slots, least security versions,
R476, R477), the state of the running bank when it was chosen
(R491), the image whose CORE runs and the one it replaced while a window is open (R484), the download buffer as the pieces
written with the time of the last (R482), the bank write under way, the Commit whose activation window is open, since
when and whether the cores have been reset into the new CORE, when the boot began (R470), whether the labels have been
taken at start (R274), whether the ROM fell back (R469) or raised the fuse minimums at the last confirmation (R491), the shutdown outcome
in the vault and how the run before this boot ended (R492), boots since manufacture, the pair protocol version (R473), whether the console is an authorised
endpoint (R474), whether the module is held in reset (R435), and what follows when the stop or dump under way is sealed
(0: held in reset; else warm reset with that CLK_RESET_CAUSE, 7 once a feed is there), whether the open window is that of a core reset (R542),
whether it holds because the boot or Rime failed. -/
structure Boot where
  banks    : Table Nat Bank := []
  owners   : Table Nat (BitVec 384) := []
  revoked  : List Nat := []
  fwMin    : Nat := 0
  cfgMin   : Nat := 0
  chosen   : Nat := 0
  core     : List Byte := []
  oldCore  : List Byte := []
  buffer   : List (Nat × List Byte) := []
  lastDl   : Word64 := 0
  writing  : Option BankWrite := none
  act      : Option Nat := none
  actAt    : Word64 := 0
  handed   : Bool := false
  startAt  : Word64 := 0
  drivesUp : Bool := false
  fallback : Bool := false
  raised   : Bool := false
  shutdown : Option Nat := none
  lastRun  : Nat := 0
  count    : Nat := 0
  proto    : Nat := 1
  console  : Bool := false
  held     : Bool := false
  after    : Nat := 0
  coreRst  : Bool := false
  failed   : Bool := false
  deriving DecidableEq, Repr

/-- An SPDM exchange on an endpoint's DOE mailbox (R399, R499): how far it has come (1 version, 2 capabilities, 3 algorithms) and
the transcript of requests and responses that signatures cover. -/
structure Spdm where
  stage : Nat
  log   : List Byte := []
  deriving DecidableEq, Repr

/-- The Rime log (R491 to R496): retained records oldest first, the anchor, the newest record's chain value, the next seq,
whether the last append reached one package only, the certificates stored at manufacture (R489), and the SPDM
exchanges by endpoint. -/
structure Rime where
  records : List (List Byte) := []
  anchor  : BitVec 384 := 0
  chain   : BitVec 384 := 0
  nextSeq : Nat := 0
  single  : Bool := false
  certs   : List (List Byte) := []
  spdm    : Table Nat Spdm := []
  deriving DecidableEq, Repr

/-- Module power and seating beyond the registers (chapter 16): the feed whose ORing switch is to close when the dead time
ends, the last active feed, when a switch was last made, since when each feed has been good, the string voltage at the
start of a store test, when the current ride-through window began, the store's charge limit in mV, levels announced and not yet cleared (store below the dump budget,
inlet hot, die warm, die critical), whether the module is seated and one contact open, the strap contacts as read
at seating (bits 0 and 1 STRAP_BAY open, 2 and 3 STRAP_PAIR open), whether the reference is out of range. -/
structure Pwr where
  target    : Option Nat := none
  last      : Option Nat := none
  switched  : Option Word64 := none
  goodAt    : Table Nat Word64 := []
  testFrom  : Option Nat := none
  rideFrom  : Word64 := 0
  chargeMv  : Nat := 20000
  storeLow  : Bool := false
  inletHot  : Bool := false
  dieWarm   : Bool := false
  dieCrit   : Bool := false
  seated    : Bool := false
  partSeat  : Bool := false
  straps    : Nat := 0
  refBad    : Bool := false
  deriving DecidableEq, Repr

/-! ## EVT, CTR, TEL (chapter 20) -/

/-- An event record (R504) in the internal buffer, with the rings that have taken it. -/
structure EvRec where
  seq       : Nat
  dtc       : Word64
  code      : Nat
  sev       : Nat
  window    : Bool
  coalesced : Bool
  srcKind   : Nat
  source    : Nat
  count     : Nat
  gap       : Nat
  lastTs    : Nat
  args      : List Nat
  taken     : List Nat
  deriving DecidableEq, Repr

/-- A coalescing window (R507): the reports it has counted since the first, when the first and the last of these came. -/
structure EvWindow where
  code    : Nat
  key     : Nat
  start   : Word64
  count   : Nat
  firstAt : Word64
  lastAt  : Word64
  proto   : Report
  deriving DecidableEq, Repr

/-- What EVT keeps for one ring besides its registers (R510 to R512): the seq of the ring's previous record, the
sequence numbers since then that its filter excluded, the records not yet notified and when the first of them was
written, since when the ring has been full, the ring-local EV_LOST it is owed (R512), and the last record's WRITE with its
offset. -/
structure EvRing where
  lastSeq    : Option Nat := none
  excluded   : List Nat := []
  unnotified : Nat := 0
  firstUnnot : Word64 := 0
  fullSince  : Option Word64 := none
  owed       : Option EvRec := none
  lastWrite  : Option (Nat × List Byte) := none
  deriving DecidableEq, Repr

/-- The EVT block: the next sequence number and the buffer (R506), the dropped range waiting for its EV_LOST (R508), the
windows (R507), the rings (R510), the last fatal event and the messages the shelf manager has not acknowledged (R514),
and what the vault holds (R509). -/
structure Evt where
  nextSeq   : Nat := 0
  buffer    : List EvRec := []
  lostCount : Nat := 0
  lostFirst : Nat := 0
  lostLast  : Nat := 0
  windows   : List EvWindow := []
  rings     : Table Nat EvRing := []
  lastFatal : Option (Nat × Nat) := none
  pldm      : List EvRec := []
  saved     : Option (Nat × Nat) := none
  ckpt      : Option Nat := none
  deriving DecidableEq, Repr

/-- The CTR block: value and overflow flag of each counter (R515, R517), the counters whose saturation is not yet
reported, when a watched state was entered (R516), the targets in a run of overruns (R521) and the counter page's
generation, time and words (R522). -/
structure Ctr where
  vals    : Table Nat (Nat × Bool) := []
  satPend : List Nat := []
  since   : Table Nat Word64 := []
  overrun : List Nat := []
  pageGen : Nat := 0
  pageDtc : Word64 := 0
  page    : List Nat := []
  deriving DecidableEq, Repr

/-- One Sastrugi unit (R524). -/
structure TelUnit where
  bins  : List Nat := List.replicate 32 0
  min   : Nat := 18446744073709551615
  max   : Nat := 0
  count : Nat := 0
  sum   : Nat := 0
  deriving DecidableEq, Repr

/-! ## The whole state -/

/-- The entry a drive command is built as (R304 to R306): the submission queue it is written to, its command identifier, opcode,
FUA, first member LBA, blocks less one, and the ranges of a Dataset Management. -/
structure DriveSqe where
  queue  : Nat
  cid    : Nat
  opcode : Nat
  fua    : Bool := false
  slba   : Nat := 0
  nlb    : Nat := 0
  ranges : List (Nat × Nat) := []
  deriving DecidableEq, Repr

/-- Something the module sends or drives, in the order it leaves (assumption log 3). -/
inductive Out where
  | hkt (p : HktPkt) (w : HktWire)
  | msgDone (loc peer : Eid) (msgId : Word32) (opcode : Nat) (notify : Bool)
  | dmaWrite (owner : QOwner) (addr : Nat) (data : List Byte)
  | cqeWrite (qpn : Nat) (e : Cqe)
  | msg (ep vector : Nat)
  | intx (on : Bool)
  | atsRequest (ep : Nat) (pasid : Option Nat) (page : Nat)
  | atsDone (ep tag : Nat)
  | tlpData (data : List Byte)
  | tlpUnsupported
  | ringWrite (r slot : Nat) (rec : EvRec)
  | ringNotify (r : Nat)
  | dmaRead (owner : QOwner) (use : DmaUse) (addr : Nat) (len : Nat)
  | frame (port : Nat) (f : Frame) (stomped : Bool)
  | pfc (port prio quanta : Nat)
  | drive (c : DriveCmd) (e : DriveSqe) (data : List Block)
  | driveAdmin (member op : Nat)
  | pair (link : Nat) (seq ack formation : Nat) (m : PairMsg)
  | linkAck (link ack formation : Nat)
  | heartbeat (link : Nat) (h : Heartbeat)
  | regValue (addr v : Nat)
  | spdm (ep : Nat) (data : List Byte)
  | oring (feed : Option Nat)
  | busError (core : Nat)
  | sensors (heatW : Nat) (airflow : Rat)
  deriving DecidableEq, Repr

/-- A stop the module has no successor state for: none of the spec's rows gives one, and no meaning raises one. -/
inductive Fault where
  /-- Raised by nothing; safe. -/
  | none
  deriving DecidableEq, Repr

/-- Why a command has no meaning. -/
inductive Refusal where
  /-- Raised by exec's arm for a row that is not modelled yet; safe, since it ends the run. -/
  | notModelled (mnemonic : String)
  deriving DecidableEq, Repr

/-- The module. -/
structure State where
  dtc     : Word64 := 0
  regs    : Table RKey Nat := []
  mem     : List Host.Cell := []
  evt     : Evt := {}
  ctr     : Ctr := {}
  tel     : Table Nat TelUnit := []
  hkt     : Hkt := {}
  tms     : Tms := {}
  mac     : Mac := {}
  swc     : Swc := {}
  fwd     : Fwd := {}
  qpe     : Qpe := {}
  nsm     : Nsm := {}
  key     : Key := {}
  cip     : Cip := {}
  hif     : Hif := {}
  slc     : Slc := {}
  str     : Str := {}
  jnl     : Jnl := {}
  drv     : Table Nat Port := []
  reb     : Reb := {}
  pair    : Pair := {}
  slt     : Slt := {}
  boot    : Boot := {}
  rime    : Rime := {}
  pwr     : Pwr := {}
  freeCtr : Nat := 0
  outbox  : List Out := []
  pending : List Instr := []
  deriving DecidableEq, Repr

/-- The module at cold reset, before its boot has run (R15, R469): owner slot 0 holds the hash of the default configuration
key (R476), the vault the certificate chain of manufacture (R489), both opaque (assumption log 10). -/
def State.reset : State := { boot := { owners := [(0, Config.defaultOwner)] }, rime := { certs := Config.certs } }

end Sys2Proof.Machine
end

