-- ==== Sys2Proof/Machine/Ops.lean ====
section
/-! DEFINITION. The named operations every family uses: reading and setting register fields, the device time counter,
free values, the outbox, module memory.  Counters, events and histograms stand in Machine/Report.lean. -/

namespace Sys2Proof.Machine

open F

/-! ## Register fields -/

/-- The reset value of element `i` of a field where the spec gives one that depends on the element (R99, R85, R385,
R424, R530), else the field's own. -/
def Fld.resetAt (f : Fld) (i : Nat) : Nat :=
  if f = TMS_TENANT_CFG_class then (if i = 4093 then 7 else 0)
  else if f = TMS_CLASS_CFG_strict then (if i % 8 = 7 then 1 else 0)
  else if f = TMS_PORT_SHAPE_overhead then (if i = 34 then 0 else 20)
  else if f = FWD_PORT_CFG_learn_limit then (if i < 32 then 1024 else 0)
  else if f = TEL_UNIT_CFG_src then (if i < 32 then 1 else 0)
  else if f = TEL_UNIT_CFG_unit then (if i < 32 then 2 else 0)
  else if f = TEL_UNIT_CFG_instance then (if i < 32 then i else 0)
  else f.rst

/-- Whether a reset kind (1 cold, 2 warm, 4 function, 8 slice) acts on element `i` of a field (R15); GLB_SCRATCH 8 to 15
are RS and keep their value through a warm reset. -/
def Fld.resetBy (f : Fld) (i kind : Nat) : Bool :=
  if f = GLB_SCRATCH_data then kind = 1 || (kind = 2 && decide (i < 8))
  else (f.kinds / kind) % 2 = 1

/-- The key under which a field of element `i` is kept. -/
def Fld.key (f : Fld) (i : Nat) : RKey := ⟨f.reg, i, f.lo⟩

/-- The value of a field in a register file; what no one has written reads as its reset value. -/
def regGet (r : Table RKey Nat) (f : Fld) (i : Nat) : Nat := (tget r (f.key i)).getD (f.resetAt i)

/-- A register file with a field set; the value is cut to the field's width. -/
def regSet (r : Table RKey Nat) (f : Fld) (i v : Nat) : Table RKey Nat := tput r (f.key i) (v % 2 ^ f.w)

/-- The value of a register field. -/
def State.get (s : State) (f : Fld) (i : Nat := 0) : Nat := regGet s.regs f i

/-- The state with a register field set. -/
def State.set (s : State) (f : Fld) (i v : Nat) : State := { s with regs := regSet s.regs f i v }

/-- Whether a one-bit field reads 1. -/
def State.flag (s : State) (f : Fld) (i : Nat := 0) : Bool := s.get f i = 1

/-- A Boolean as a bit. -/
def bit (b : Bool) : Nat := if b then 1 else 0

/-- The state with a field increased by `n`, held at its largest value (saturating). -/
def State.addSat (s : State) (f : Fld) (i n : Nat) : State := s.set f i (min (s.get f i + n) (2 ^ f.w - 1))

/-- The state with a field increased by 1 modulo its width. -/
def State.inc (s : State) (f : Fld) (i : Nat) : State := s.set f i (s.get f i + 1)

/-- The elements of a register that some write has left with a non-zero value in field `f`, in write order: for fields
whose reset value is 0 these are all elements where it is not 0. -/
def regNonzero (r : Table RKey Nat) (f : Fld) : List Nat :=
  r.filterMap fun (k, v) => if k.reg = f.reg && k.bit = f.lo && v != 0 then some k.idx else none

/-- The index of element [i][j] of a two-dimensional register whose last index runs over `n` values (R532). -/
def ix2 (n i j : Nat) : Nat := i * n + j

/-- A field that counts from 1: 0 acts as 1. -/
def atLeast1 (v : Nat) : Nat := if v = 0 then 1 else v

/-- A value brought into the range `lo` to `hi`: values outside act as the nearest bound. -/
def clampNat (lo hi v : Nat) : Nat := if v < lo then lo else if hi < v then hi else v

/-! ## Time (R9, R27): one tick of the DTC is 0.625 ns -/

/-- Ticks in `n` µs. -/
def usTicks (n : Nat) : Nat := 1600 * n

/-- Ticks in `n` ms. -/
def msTicks (n : Nat) : Nat := 1600000 * n

/-- Ticks in `n` s. -/
def secTicks (n : Nat) : Nat := 1600000000 * n

/-- Ticks from `t` to now. -/
def State.since (s : State) (t : Word64) : Nat := (s.dtc - t).toNat

/-- DTC bits [41:10], the 640 ns time of transport headers and records (R9). -/
def ts32 (dtc : Word64) : Word32 := dtc.extractLsb' 10 32

/-! ## Free values, the outbox -/

/-- A fresh free word (assumption log 2) and the state whose counter has passed it. -/
def State.fresh (s : State) : BitVec 64 × State := (Config.freeWord s.freeCtr, { s with freeCtr := s.freeCtr + 1 })

/-- A fresh free 512-bit value and the state whose counter has passed it. -/
def State.freshWide (s : State) : BitVec 512 × State := (Config.freeWide s.freeCtr, { s with freeCtr := s.freeCtr + 1 })

/-- The state after something leaves the module. -/
def State.send (s : State) (o : Out) : State := { s with outbox := s.outbox ++ [o] }

/-- A list of effects on the state, in order. -/
def State.each {α : Type} (s : State) (l : List α) (f : State → α → State) : State := l.foldl f s

/-- An effect that leaves module memory as it is in `s`. -/
def State.sameMem (s t : State) : State := { t with mem := s.mem }

/-! ## Module memory: cells in canonical form, an unlisted byte reads 0 (assumption log 4) -/

/-- The byte at an address. -/
def memRead (m : List Host.Cell) (a : Nat) : Byte :=
  match m with
  | [] => 0
  | (b, v) :: t => if b = a then v else memRead t a

/-- The memory with the byte at an address set; a zero byte is not listed. -/
def memWrite (m : List Host.Cell) (a : Nat) (v : Byte) : List Host.Cell :=
  match m with
  | [] => if v = 0 then [] else [(a, v)]
  | (b, w) :: t =>
    if a < b then (if v = 0 then (b, w) :: t else (a, v) :: (b, w) :: t)
    else if a = b then (if v = 0 then t else (a, v) :: t)
    else (b, w) :: memWrite t a v

/-- The canonical form: addresses strictly rising, no zero byte listed. -/
def memWf : List Host.Cell → Bool
  | [] => true
  | [(_, v)] => v != 0
  | (a, v) :: (b, w) :: t => v != 0 && decide (a < b) && memWf ((b, w) :: t)

/-- The memory with bytes written from an address on. -/
def memWriteBytes (m : List Host.Cell) (a : Nat) : List Byte → List Host.Cell
  | [] => m
  | v :: t => memWriteBytes (memWrite m a v) (a + 1) t

/-- `n` bytes of memory from an address on. -/
def memReadBytes (m : List Host.Cell) (a n : Nat) : List Byte := (List.range n).map fun j => memRead m (a + j)

/-! ## Bytes -/

/-- The `n` bytes of a number, least significant first (R10: registers and NVMe structures). -/
def leBytes (n v : Nat) : List Byte := (List.range n).map fun j => BitVec.ofNat 8 (v / 2 ^ (8 * j))

/-- The `n` bytes of a number in network byte order (R10). -/
def beBytes (n v : Nat) : List Byte := (leBytes n v).reverse

/-- The number that bytes spell, least significant first. -/
def leNat : List Byte → Nat
  | [] => 0
  | b :: t => b.toNat + 256 * leNat t

/-- The number that bytes spell in network byte order. -/
def beNat (l : List Byte) : Nat := leNat l.reverse

/-- `n` bytes of a list from an offset, as a number in network byte order. -/
def beAt (l : List Byte) (o n : Nat) : Nat := beNat ((l.drop o).take n)

/-- `n` bytes of a list from an offset, as a little-endian number. -/
def leAt (l : List Byte) (o n : Nat) : Nat := leNat ((l.drop o).take n)

/-- The bytes of a 4 KiB block, byte 0 first. -/
def blockBytes (b : Block) : List Byte := (List.range 4096).map fun j => b.extractLsb' (8 * j) 8

/-- The block that 4,096 bytes spell. -/
def bytesBlock (l : List Byte) : Block := BitVec.ofNat 32768 (leNat l)

/-- One step of the reflected Castagnoli CRC. -/
def crcStep (c : Word32) : Word32 := if c &&& 1 = 1 then (c >>> 1) ^^^ 0x82F63B78 else c >>> 1

/-- CRC-32C of bytes (R562): initial value and final XOR 0xFFFF_FFFF, reflected. -/
def crc32c (l : List Byte) : Word32 :=
  (l.foldl (fun c b => Nat.repeat crcStep 8 (c ^^^ b.zeroExtend 32)) 0xFFFFFFFF) ^^^ 0xFFFFFFFF

/-- The CRC-32C over EIDs, each as 4 bytes in network byte order (R562). -/
def crcEids (l : List Eid) : Word32 := crc32c (l.flatMap fun e => beBytes 4 e.toNat)

end Sys2Proof.Machine
end

