-- ==== Sys2Proof/Machine/Commit.lean ====
section
/-! DEFINITION. How a command ends: its effect is taken into the next state part by part.  Every command names what it
may write, the blocks' engines, tables and queues as parts of State and its register fields; anything else keeps the value
it had, and so does the queue of waiting commands, which is the step's alone. -/

namespace Sys2Proof.Machine

open F

/-- The parts of State beside the register file and the queue of commands. -/
inductive Part where
  | dtc | mem | evt | ctr | tel | hkt | tms | mac | swc | fwd | qpe | nsm | key | cip | hif | slc | str | jnl | drv | reb | pair
  | slt | boot | rime | pwr | freeCtr | outbox
  deriving DecidableEq, Repr

/-- What a command may write: parts of State, single register fields, and whole register blocks by their number in R531
(address bits [24:20]). -/
structure Writes where
  parts  : List Part := []
  fields : List Fld := []
  blocks : List Nat := []
  deriving DecidableEq, Repr

/-- Whether a part may be written. -/
def Writes.part (w : Writes) (p : Part) : Bool := w.parts.contains p

/-- Whether a register field may be written, by its key in the register file. -/
def Writes.field (w : Writes) (k : RKey) : Bool :=
  w.blocks.contains (k.reg / 0x100000) || w.fields.any fun f => f.reg = k.reg && f.lo = k.bit

/-- The register file after a command: its fields that may be written are those of the effect `b`, the others those of
the file before, `a`. -/
def keepRegs (w : Writes) (a b : Table RKey Nat) : Table RKey Nat :=
  if (b.filter fun e => !w.field e.1) = a.filter fun e => !w.field e.1 then b
  else (b.filter fun e => w.field e.1) ++ a.filter fun e => !w.field e.1

/-- The state after a command whose effect on `s` is `t`. -/
def State.only (s : State) (w : Writes) (t : State) : State where
  dtc     := if w.part .dtc then t.dtc else s.dtc
  regs    := keepRegs w s.regs t.regs
  mem     := if w.part .mem then t.mem else s.mem
  evt     := if w.part .evt then t.evt else s.evt
  ctr     := if w.part .ctr then t.ctr else s.ctr
  tel     := if w.part .tel then t.tel else s.tel
  hkt     := if w.part .hkt then t.hkt else s.hkt
  tms     := if w.part .tms then t.tms else s.tms
  mac     := if w.part .mac then t.mac else s.mac
  swc     := if w.part .swc then t.swc else s.swc
  fwd     := if w.part .fwd then t.fwd else s.fwd
  qpe     := if w.part .qpe then t.qpe else s.qpe
  nsm     := if w.part .nsm then t.nsm else s.nsm
  key     := if w.part .key then t.key else s.key
  cip     := if w.part .cip then t.cip else s.cip
  hif     := if w.part .hif then t.hif else s.hif
  slc     := if w.part .slc then t.slc else s.slc
  str     := if w.part .str then t.str else s.str
  jnl     := if w.part .jnl then t.jnl else s.jnl
  drv     := if w.part .drv then t.drv else s.drv
  reb     := if w.part .reb then t.reb else s.reb
  pair    := if w.part .pair then t.pair else s.pair
  slt     := if w.part .slt then t.slt else s.slt
  boot    := if w.part .boot then t.boot else s.boot
  rime    := if w.part .rime then t.rime else s.rime
  pwr     := if w.part .pwr then t.pwr else s.pwr
  freeCtr := if w.part .freeCtr then t.freeCtr else s.freeCtr
  outbox  := if w.part .outbox then t.outbox else s.outbox
  pending := s.pending

/-- A command's outcome: the next state. -/
def State.commit (s : State) (w : Writes) (t : State) : Host.Outcome State Fault Refusal := .next (s.only w t)

/-! ## What the engines of a block write of its registers, whatever the command -/

/-- Fields of GLB that commands and engines update. -/
def glbLive : List Fld := [
  GLB_MGMT_SEQ_last_accepted, GLB_MGMT_SEQ_last_completed, GLB_STATUS_mgmt_denied, GLB_CORE_STATUS_beat,
  GLB_CORE_STATUS_state]

/-- Fields of CLK that commands and engines update. -/
def clkLive : List Fld := [
  CLK_STATUS_holdover, CLK_STATUS_ref_ok, CLK_STATUS_ref_ppm]

/-- Fields of EVT that commands and engines update. -/
def evtLive : List Fld := [
  EVT_RING_PTR_head, EVT_RING_PTR_phase, EVT_RING_PTR_stalled, EVT_RING_PTR_tail]

/-- Fields of CTR that commands and engines update. -/
def ctrLive : List Fld := [
  CTR_SNAP_STATUS_snap_seq, CTR_TGT_PTR_head, CTR_TGT_PTR_skipped, CTR_TGT_PTR_tail]

/-- Fields of PWR that commands and engines update. -/
def pwrLive : List Fld := [
  PWR_FEED_STATUS_active, PWR_FEED_STATUS_cause, PWR_FEED_STATUS_freq, PWR_FEED_STATUS_losses, PWR_FEED_STATUS_pin_w,
  PWR_FEED_STATUS_state, PWR_FEED_STATUS_vrms, PWR_BUS_STATUS_ibus, PWR_BUS_STATUS_source, PWR_BUS_STATUS_vbus,
  PWR_BUS_STATUS_vbus_min, PWR_STORE_STATUS_cap_mf, PWR_STORE_STATUS_e_j, PWR_STORE_STATUS_eol, PWR_STORE_STATUS_esr,
  PWR_STORE_STATUS_state, PWR_STORE_STATUS_temp_c, PWR_STORE_STATUS_vstore, PWR_SEQ_STATUS_dumps,
  PWR_SEQ_STATUS_seq, PWR_THERM_STATUS_die_c, PWR_THERM_STATUS_fe_a_c, PWR_THERM_STATUS_fe_b_c, PWR_THERM_STATUS_heat_w,
  PWR_THERM_STATUS_inlet_c, PWR_THERM_STATUS_store_c]

/-- Fields of SLT that commands and engines update. -/
def sltLive : List Fld := [
  SLT_CMD_busy, SLT_CMD_result, SLT_SUPPLY_STATUS_low, SLT_SUPPLY_STATUS_v_mv, SLT_CH_STATUS_cause, SLT_CH_STATUS_locate,
  SLT_CH_STATUS_ntc_fault, SLT_CH_STATUS_owner, SLT_CH_STATUS_perst_rel, SLT_CH_STATUS_pg, SLT_CH_STATUS_present,
  SLT_CH_STATUS_retries_left, SLT_CH_STATUS_state, SLT_CH_STATUS_trips, SLT_CH_AVG_p_avg_dw, SLT_CH_AVG_p_max_dw]

/-- Fields of BOOT that commands and engines update. -/
def bootLive : List Fld := [
  BOOT_STATUS_boot_ms, BOOT_STATUS_cfg_svn_min, BOOT_STATUS_fw_svn_min, BOOT_STATUS_owner_slots, BOOT_STATUS_stage,
  BOOT_STATUS_state_a, BOOT_STATUS_state_b, BOOT_CMD_busy, BOOT_CMD_result, BOOT_FW_STATUS_act_count,
  BOOT_FW_STATUS_act_state, BOOT_FW_STATUS_fw_version, BOOT_FW_STATUS_last_act_ms, BOOT_RIME_STATUS_boot_count,
  BOOT_RIME_STATUS_prior_torn, BOOT_RIME_STATUS_record_count, BOOT_RIME_STATUS_state, BOOT_RIME_SEQ_last_seq, BOOT_MEAS_data]

/-- Fields of KEY that commands and engines update. -/
def keyLive : List Fld := [
  KEY_STATUS_busy, KEY_STATUS_done_count, KEY_STATUS_result, KEY_STATUS_state, KEY_DATA_data, KEY_EP_PROT_eid,
  KEY_EP_PROT_prefix_len, KEY_EP_PROT_slot]

/-- Fields of MAC that commands and engines update. -/
def macLive : List Fld := [
  MAC_PORT_STATUS_fec_lock, MAC_PORT_STATUS_flaps, MAC_PORT_STATUS_speed, MAC_PORT_STATUS_up]

/-- Fields of SWC that commands and engines update. -/
def swcLive : List Fld := [
  SWC_BUF_STATUS_free_cells, SWC_BUF_STATUS_min_free, SWC_MORAINE_STATUS_conflicts, SWC_MORAINE_STATUS_leaked_cells,
  SWC_MORAINE_STATUS_leaked_staging, SWC_MORAINE_STATUS_sweeps]

/-- Fields of FWD that commands and engines update. -/
def fwdLive : List Fld := [
  FWD_CMD_result, FWD_CMD_DATA_data, FWD_EPOCH_current, FWD_TABLE_active, FWD_TABLE_entries, FWD_TABLE_req,
  FWD_TABLE_stash_used, FWD_TABLE_state, FWD_PORT_CFG_learned]

/-- Fields of TMS that commands and engines update. -/
def tmsLive : List Fld := [
  TMS_REBUILD_FLOOR_floor, TMS_TENANT_CFG_class, TMS_TENANT_CFG_colour_aware, TMS_TENANT_CFG_max_burst,
  TMS_TENANT_CFG_max_rate, TMS_TENANT_CFG_police_en, TMS_TENANT_CFG_red_action, TMS_TENANT_CFG_weight, TMS_POL_RATE_cir,
  TMS_POL_RATE_eir, TMS_POL_BURST_cbs, TMS_POL_BURST_ebs, TMS_QSAMPLE_depth, TMS_QSAMPLE_head_delay]

/-- Fields of HKT that commands and engines update. -/
def hktLive : List Fld := [
  HKT_CTX_STATUS_cached, HKT_CTX_STATUS_spilled]

/-- Fields of QPE that commands and engines update. -/
def qpeLive : List Fld := [
  QPE_STATUS_cmds_in_flight, QPE_STATUS_qps_in_use]

/-- Fields of STR that commands and engines update. -/
def strLive : List Fld := [
  STR_POOL_STATUS_calve_level, STR_GROUP_STATUS_blocked, STR_GROUP_STATUS_k_cap, STR_GROUP_STATUS_k_cur,
  STR_GROUP_STATUS_open_seg, STR_GROUP_STATUS_pad_pm, STR_MEMBER_STATUS_few_samples, STR_MEMBER_STATUS_live,
  STR_MEMBER_STATUS_pred, STR_MEMBER_STATUS_slow]

/-- Fields of JNL that commands and engines update. -/
def jnlLive : List Fld := [
  JNL_NEVE_STATUS_budget_slots, JNL_NEVE_STATUS_high_water, JNL_NEVE_STATUS_pair_state, JNL_NEVE_SEQ_next_seq,
  JNL_MIRROR_STATUS_acked_seq, JNL_DUMP_STATUS_cause, JNL_DUMP_STATUS_dump_ms, JNL_DUMP_STATUS_dump_seq_lo,
  JNL_DUMP_STATUS_outcome, JNL_DUMP_STATUS_sealed, JNL_REPLAY_STATUS_deferred, JNL_REPLAY_STATUS_restored,
  JNL_REPLAY_STATUS_unknown_lost, JNL_FIRN_SEQ_next_seq]

/-- Fields of DRV that commands and engines update. -/
def drvLive : List Fld := [
  DRV_PORT_STATUS_cntlid, DRV_PORT_STATUS_flit, DRV_PORT_STATUS_n_q, DRV_PORT_STATUS_refuse, DRV_PORT_STATUS_rung,
  DRV_PORT_STATUS_speed, DRV_PORT_STATUS_state, DRV_PORT_STATUS_width, DRV_PORT_ERR_aer_corr, DRV_PORT_ERR_cmd_errors,
  DRV_PORT_ERR_link_losses, DRV_PORT_ERR_timeouts]

/-- Fields of REB that commands and engines update. -/
def rebLive : List Fld := [
  REB_STATUS_cmd_result, REB_STATUS_seg_done, REB_STATUS_state, REB_CREV_STATUS_entries, REB_CREV_STATUS_generation,
  REB_CREV_STATUS_scanning, REB_CREV_COUNT_lost_blocks, REB_CREV_COUNT_overflow, REB_MEMBER_cause, REB_MEMBER_fail_time,
  REB_MEMBER_media_errs, REB_MEMBER_state]

/-- Fields of HIF that commands and engines update. -/
def hifLive : List Fld := [
  HIF_LINK_STATUS_bme, HIF_LINK_STATUS_d3, HIF_LINK_STATUS_flit, HIF_LINK_STATUS_grace, HIF_LINK_STATUS_int_mode,
  HIF_LINK_STATUS_speed, HIF_LINK_STATUS_up, HIF_LINK_STATUS_width, HIF_CTRL_en, HIF_CTRL_STATUS_cfs, HIF_CTRL_STATUS_rdy,
  HIF_ATS_STATUS_invalidations, HIF_PEER_COMMIT_gen, HIF_PEER_COMMIT_pending]

/-- Fields of SLC that commands and engines update. -/
def slcLive : List Fld := [
  SLC_CMD_busy, SLC_CMD_result, SLC_CMD_DATA_data, SLC_CFG_max_qp, SLC_CFG_pasid, SLC_CFG_pasid_vld, SLC_CFG_vec_base,
  SLC_CFG_vec_count, SLC_STATUS_paused, SLC_STATUS_state, SLC_LOG_STATUS_active, SLC_LOG_STATUS_on, SLC_LOG_STATUS_out_span,
  SLC_LOG_STATUS_syncs, SLC_CTRL_en, SLC_CTRL_STATUS_cfs, SLC_CTRL_STATUS_rdy]

/-- Fields of PAIR that commands and engines update. -/
def pairLive : List Fld := [
  PAIR_STATUS_cmd_result, PAIR_STATUS_links, PAIR_STATUS_master, PAIR_STATUS_missed, PAIR_STATUS_partner_alive,
  PAIR_STATUS_partner_id, PAIR_STATUS_state, PAIR_STATUS_takeovers, PAIR_TAKEOVER_STATUS_duration, PAIR_TAKEOVER_STATUS_start]

/-- The switch's free cells. -/
def cells : List Fld := [SWC_BUF_STATUS_free_cells, SWC_BUF_STATUS_min_free]

/-- What an appended Firn record and a waiting Névé slot move. -/
def firnSeq : List Fld := [JNL_NEVE_STATUS_high_water, JNL_FIRN_SEQ_next_seq]

/-- The management sequence. -/
def mgmtSeq : List Fld := [GLB_MGMT_SEQ_last_accepted, GLB_MGMT_SEQ_last_completed]

/-- The power-fail sequence. -/
def stopSeq : List Fld := [PWR_SEQ_STATUS_dumps, PWR_SEQ_STATUS_seq]

/-- The contexts held and spilled. -/
def contexts : List Fld := [HKT_CTX_STATUS_cached, HKT_CTX_STATUS_spilled]

/-- What beginning and ending a stripe move of a group. -/
def openSeg : List Fld := [STR_POOL_STATUS_calve_level, STR_GROUP_STATUS_k_cap, STR_GROUP_STATUS_open_seg]

/-! ## The parts that commands of one shape write -/

/-- The parts written by a command for a drive port, a slot or a member. -/
def driveParts : List Part := [
  .evt, .ctr, .tms, .swc, .qpe, .nsm, .cip, .str, .jnl, .drv, .reb, .pair, .slt, .freeCtr, .outbox]

/-- The parts written by a command for a sequenced pair frame. -/
def pairFrameParts : List Part := [
  .evt, .ctr, .tel, .hkt, .tms, .swc, .fwd, .qpe, .nsm, .key, .cip, .hif, .slc, .str, .jnl, .drv, .reb, .pair, .slt,
  .freeCtr, .outbox]

/-- The parts written by a command that moves data. -/
def ioParts : List Part := [
  .evt, .ctr, .tel, .hkt, .tms, .swc, .qpe, .nsm, .key, .cip, .hif, .slc, .str, .jnl, .drv, .reb, .pair, .freeCtr,
  .outbox]

/-- The parts written by a command that can raise an interrupt. -/
def vectorParts : List Part := [
  .evt, .ctr, .hif, .slc, .outbox]

/-- The parts written by a command on firmware. -/
def firmwareParts : List Part := [
  .evt, .ctr, .qpe, .nsm, .jnl, .pair, .boot, .outbox]

/-- The parts written by a command for a packet that consumes a PSN. -/
def packetParts : List Part := [
  .mem, .evt, .ctr, .tel, .hkt, .tms, .swc, .qpe, .nsm, .key, .cip, .hif, .slc, .str, .jnl, .reb, .pair, .freeCtr,
  .outbox]

/-- The parts written by a command that erases keys. -/
def eraseParts : List Part := [
  .evt, .ctr, .tel, .hkt, .tms, .swc, .qpe, .nsm, .key, .cip, .hif, .slc, .str, .jnl, .reb, .pair, .freeCtr, .outbox]

/-- The parts written by a command that changes the map. -/
def mappingParts : List Part := [
  .evt, .ctr, .qpe, .str, .jnl, .reb, .pair, .outbox]

/-- The parts written by a command that changes the namespace table. -/
def tableParts : List Part := [
  .evt, .ctr, .qpe, .nsm, .jnl, .pair, .outbox]

/-- The parts written by a command that begins a stop for want of power or heat. -/
def haltParts : List Part := [
  .evt, .ctr, .tms, .mac, .swc, .qpe, .nsm, .jnl, .pair, .boot, .pwr, .outbox]

/-- The parts written by a command that begins a stop. -/
def stopParts : List Part := [
  .evt, .ctr, .tms, .mac, .swc, .qpe, .nsm, .jnl, .pair, .boot, .outbox]

/-- The parts written by a command that lets a queue fetch. -/
def fetchParts : List Part := [
  .evt, .ctr, .tel, .hkt, .tms, .swc, .qpe, .key, .hif, .slc, .freeCtr, .outbox]

/-- The parts written by a command that writes a ring or snapshot. -/
def ringParts : List Part := [
  .evt, .ctr, .tel, .hkt, .tms, .swc, .qpe, .key, .hif, .slc, .freeCtr, .outbox]

/-- The parts written by a command that fails or rebuilds segments. -/
def rebuildParts : List Part := [
  .evt, .ctr, .tms, .swc, .qpe, .nsm, .cip, .str, .jnl, .drv, .reb, .pair, .freeCtr, .outbox]

/-- The parts written by a command that can take the partner over. -/
def takeoverParts : List Part := [
  .evt, .ctr, .tms, .swc, .fwd, .qpe, .nsm, .key, .cip, .str, .jnl, .drv, .reb, .pair, .slt, .freeCtr, .outbox]

/-- Every part, for the commands that can reset the module. -/
def allParts : List Part := [
  .dtc, .mem, .evt, .ctr, .tel, .hkt, .tms, .mac, .swc, .fwd, .qpe, .nsm, .key, .cip, .hif, .slc, .str, .jnl, .drv, .reb,
  .pair, .slt, .boot, .rime, .pwr, .freeCtr, .outbox]

/-- Every register block. -/
def allBlocks : List Nat := List.range 24

end Sys2Proof.Machine
end

