-- ==== Sys2Proof/Machine/Report.lean ====
section
/-! DEFINITION. Counters (R515 to R519), event reports (R506 to R508, R514) and Sastrugi samples (R524, R525) as
operations every family uses.  Counting touches the CTR block alone, reporting the EVT and CTR blocks, sampling the
histogram units. -/

namespace Sys2Proof.Machine

open F

/-! ## Counters -/

/-- The largest counter value, 2^48 − 1 (R517). -/
def ctrMax : Nat := 281474976710655

/-- Counter `i` increased by `n` (R517): it saturates with ovf set, or wraps with CTR_CTL.wrap; a first saturation waits
to be reported by COUNTER_SATURATE. -/
def ctrAdd (r : Table RKey Nat) (c : Ctr) (i n : Nat) : Ctr :=
  let (v, o) := tgetD c.vals i (0, false)
  if regGet r CTR_CTL_wrap i = 1 then
    { c with vals := tput c.vals i ((v + n) % 2 ^ 48, o || decide (2 ^ 48 ≤ v + n)) }
  else if v + n < ctrMax then { c with vals := tput c.vals i (v + n, o) }
  else { c with vals := tput c.vals i (ctrMax, true), satPend := if o then c.satPend else c.satPend ++ [i] }

/-- Whether event-select counter `k` counts kind `kind`, selector `sel`, instance `inst` (R519). -/
def eselHit (r : Table RKey Nat) (kind sel inst k : Nat) : Bool :=
  regGet r CTR_ESEL_kind k = kind && regGet r CTR_ESEL_sel k = sel &&
    ((kind = 0 && regGet r CTR_ESEL_src_en k = 0) || regGet r CTR_ESEL_instance k = inst)

/-- Every enabled event-select counter that selects the given thing increased by `n` (R519). -/
def ctrEsel (r : Table RKey Nat) (c : Ctr) (kind sel inst n : Nat) : Ctr :=
  ((regNonzero r CTR_ESEL_en).filter (eselHit r kind sel inst)).foldl (fun c k => ctrAdd r c (6144 + k) n) c

/-- The state with counter `i` increased by `n`. -/
def State.bump (s : State) (i : Nat) (n : Nat := 1) : State := { s with ctr := ctrAdd s.regs s.ctr i n }

/-- The state with the event-select counters of a selection increased by `n`. -/
def State.esel (s : State) (kind sel inst : Nat) (n : Nat := 1) : State :=
  { s with ctr := ctrEsel s.regs s.ctr kind sel inst n }

/-- A watched state (R516, E/L counters) is entered: counted when CTR_CTL.level is 0, timed from now otherwise. -/
def State.enter (s : State) (i : Nat) : State :=
  match tget s.ctr.since i with
  | some _ => s
  | none =>
    let c := if s.get CTR_CTL_level i = 0 then ctrAdd s.regs s.ctr i 1 else s.ctr
    { s with ctr := { c with since := tput c.since i s.dtc } }

/-- A watched state is left: with CTR_CTL.level 1 its CLK_MGT cycles of 2.5 ns (4 ticks) are added (R516). -/
def State.leave (s : State) (i : Nat) : State :=
  match tget s.ctr.since i with
  | none => s
  | some t =>
    let c := if s.get CTR_CTL_level i = 1 then ctrAdd s.regs s.ctr i (s.since t / 4) else s.ctr
    { s with ctr := { c with since := tdel c.since i } }

/-! ## Counter indices (R518) -/

/-- MAC counter `c` of port `p`. -/
def ctrMac (p c : Nat) : Nat := 32 * p + c
/-- drop_frames (c = 0) and drop_bytes (c = 1) of egress queue (p, tc). -/
def ctrSwcQ (p tc c : Nat) : Nat := 1088 + 16 * p + 2 * tc + c
/-- CTR_STOMPED of port `p`. -/
def ctrStomped (p : Nat) : Nat := 1632 + p
/-- ingress_err of port `p`. -/
def ctrIngressErr (p : Nat) : Nat := 1666 + p
/-- cut_through of port `p`. -/
def ctrCutThrough (p : Nat) : Nat := 1700 + p
/-- Items sent (k = 0) and bytes charged (k = 1) of class `c` of root `r`. -/
def ctrTms (r c k : Nat) : Nat := 1734 + 16 * r + 2 * c + k
/-- HKT counter `c` of engine group `g`. -/
def ctrHkt (g c : Nat) : Nat := 2294 + 32 * g + c
/-- QPE counter `c` of engine `e`. -/
def ctrQpe (e c : Nat) : Nat := 2422 + 8 * e + c
/-- Units (c = 0) and busy (c = 1) of lane `l`. -/
def ctrCip (l c : Nat) : Nat := 2806 + 2 * l + c
/-- DRV counter `c` of member `x`. -/
def ctrDrv (x c : Nat) : Nat := 2902 + 16 * x + c
/-- SLT counter `c` of slot `x`. -/
def ctrSlt (x c : Nat) : Nat := 3414 + 4 * x + c
/-- STR counter `c` of group `g`. -/
def ctrStrG (g c : Nat) : Nat := 3542 + 8 * g + c
/-- STR counter `c` of member `x`. -/
def ctrStrM (x c : Nat) : Nat := 3670 + 4 * x + c
/-- JNL counter `c`. -/
def ctrJnl (c : Nat) : Nat := 3798 + c
/-- REB counter `c`. -/
def ctrReb (c : Nat) : Nat := 3830 + c
/-- FWD counter `c` of table `t`. -/
def ctrFwd (t c : Nat) : Nat := 3862 + 16 * t + c
/-- limit_drop (c = 0) and limit_flood (c = 1) of port `p`. -/
def ctrFwdPort (p c : Nat) : Nat := 3894 + 2 * p + c
/-- HIF counter `c` of endpoint `e`. -/
def ctrHif (e c : Nat) : Nat := 3962 + 32 * e + c
/-- Commands (c = 0) and bytes (c = 1) of slice `s`. -/
def ctrSlc (s c : Nat) : Nat := 4026 + 2 * s + c
/-- PAIR counter `c`. -/
def ctrPair (c : Nat) : Nat := 6074 + c
/-- EVT counter `c`. -/
def ctrEvt (c : Nat) : Nat := 6106 + c
/-- PWR counter `c`. -/
def ctrPwr (c : Nat) : Nat := 6122 + c
/-- GLB counter `c`. -/
def ctrGlb (c : Nat) : Nat := 6138 + c

/-! ## Event reports -/

/-- Severity and block pass a ring's filter (R511); EV_LOST of scope 0 and 2 passes every filter. -/
def ringPasses (r : Table RKey Nat) (k : Nat) (e : EvRec) : Bool :=
  (e.code = EV_LOST.code && (e.args.getD 4 0 != 1)) ||
    (decide (regGet r EVT_RING_CFG_min_sev k ≤ e.sev) &&
      decide ((regGet r EVT_RING_CFG_block_mask k / 2 ^ (e.code / 1024)) % 2 = 1))

/-- Whether ring `k` is enabled: en set and a target that does not act as disabled (R510, EVT_RING_CFG). -/
def ringEnabled (r : Table RKey Nat) (k : Nat) : Bool :=
  regGet r EVT_RING_CFG_en k = 1 && regGet r EVT_RING_CFG_target k != 3 &&
    (k = 0 || regGet r EVT_RING_CFG_target k != 0)

/-- A new record noted by every enabled ring whose filter excludes it (R504 gap, R512). -/
def noteExcluded (r : Table RKey Nat) (rings : Table Nat EvRing) (e : EvRec) : Table Nat EvRing :=
  ((regNonzero r EVT_RING_CFG_en).filter fun k => ringEnabled r k && !ringPasses r k e).foldl
    (fun t k => tput t k { tgetD t k {} with excluded := (tgetD t k {}).excluded ++ [e.seq] }) rings

/-- The severe event sent to the shelf manager: kept until acknowledged, at most 64 waiting, beyond that counted as
discarded (R514). -/
def pldmSend (r : Table RKey Nat) (ec : Evt × Ctr) (e : EvRec) : Evt × Ctr :=
  if decide (4 < regGet r EVT_CFG_pldm_sev 0) || decide (e.sev < regGet r EVT_CFG_pldm_sev 0) then ec
  else if ec.1.pldm.length < 64 then ({ ec.1 with pldm := ec.1.pldm ++ [e] }, ctrAdd r ec.2 (ctrEvt 5) 1)
  else (ec.1, ctrAdd r ec.2 (ctrEvt 6) 1)

/-- The record of a fatal event names it in EVT_LAST_FATAL (R514). -/
def noteFatal (ev : Evt) (e : EvRec) : Evt := if e.sev = 4 then { ev with lastFatal := some (e.code, e.seq % 2 ^ 48) } else ev

/-- The enabled rings. -/
def ringsOn (r : Table RKey Nat) : List Nat := (regNonzero r EVT_RING_CFG_en).filter (ringEnabled r)

/-- Whether an enabled, unstalled ring has yet to take a record that its filter passes (R511). -/
def ringWants (r : Table RKey Nat) (rings : Table Nat EvRing) (e : EvRec) (k : Nat) : Bool :=
  regGet r EVT_RING_PTR_stalled k = 0 && ringPasses r k e && !e.taken.contains k &&
    (match (tgetD rings k {}).lastSeq with | some q => decide (q < e.seq) | none => true)

/-- Whether a record stays in the buffer (R511): no ring is enabled, or some ring wants it. -/
def evKeeps (r : Table RKey Nat) (rings : Table Nat EvRing) (e : EvRec) : Bool :=
  (ringsOn r).isEmpty || (ringsOn r).any (ringWants r rings e)

/-- A record takes the next sequence number and enters the buffer (R506), to leave it at once where no ring wants it; every
65,536 records the number is checkpointed (R509). -/
def evPush (r : Table RKey Nat) (ec : Evt × Ctr) (e : EvRec) : Evt × Ctr :=
  let ev := ec.1
  let ev := { ev with buffer := if evKeeps r ev.rings e then ev.buffer ++ [e] else ev.buffer, nextSeq := ev.nextSeq + 1, rings := noteExcluded r ev.rings e }
  let ev := if ev.nextSeq % 65536 = 0 then { ev with ckpt := some ev.nextSeq } else ev
  (ev, ctrAdd r ec.2 (ctrEvt 1) 1)

/-- The EV_LOST record of the range dropped since the last one (R505, R508, scope 0). -/
def lostRec (dtc : Word64) (ev : Evt) : EvRec :=
  ⟨ev.nextSeq, dtc, EV_LOST.code, EV_LOST.sev, false, false, 0, 0, ev.lostCount, 0, (ts32 dtc).toNat,
    [ev.lostFirst % 2 ^ 32, ev.lostFirst / 2 ^ 32, ev.lostLast % 2 ^ 32, ev.lostLast / 2 ^ 32, 0, 0], []⟩

/-- Where records were dropped and the buffer has room again, EV_LOST enters first (R508 step 3). -/
def emitLost (r : Table RKey Nat) (dtc : Word64) (ec : Evt × Ctr) : Evt × Ctr :=
  if ec.1.lostCount = 0 || decide (4096 ≤ ec.1.buffer.length) then ec
  else
    let p := evPush r ec (lostRec dtc ec.1)
    ({ p.1 with lostCount := 0, lostFirst := 0, lostLast := 0 }, p.2)

/-- Whether a buffered record can absorb a report of this code and source: not EV_LOST, and taken by no ring (R508
step 1). -/
def absorbs (code source : Nat) (e : EvRec) : Bool := e.code = code && e.source = source && e.taken.isEmpty

/-- The first record that can absorb a report counts it. -/
def absorbInto (code source ts : Nat) : List EvRec → List EvRec
  | [] => []
  | e :: t =>
    if absorbs code source e then
      { e with count := min (e.count + 1) (2 ^ 32 - 1), coalesced := true, lastTs := ts } :: t
    else e :: absorbInto code source ts t

/-- The record of a report that takes the next sequence number. -/
def recOf (p : Report) (seq count : Nat) (window : Bool) (at_ now : Word64) : EvRec :=
  ⟨seq, at_, p.code, p.sev, window, false, p.srcKind, p.source, count, 0, (ts32 now).toNat, p.args, []⟩

/-- A report enters the buffer, is absorbed, or is dropped (R506, R508), with EVT_LAST_FATAL and the shelf manager's
message as R514 gives. -/
def evEnter (r : Table RKey Nat) (now : Word64) (ec : Evt × Ctr) (p : Report) (count : Nat) (window : Bool)
    (at_ last : Word64) : Evt × Ctr :=
  let ec := emitLost r now ec
  let e := recOf p ec.1.nextSeq count window at_ last
  if ec.1.buffer.length < 4096 then
    pldmSend r (let q := evPush r ec e; (noteFatal q.1 e, q.2)) e
  else if ec.1.buffer.any (absorbs p.code p.source) then
    pldmSend r ({ ec.1 with buffer := absorbInto p.code p.source (ts32 last).toNat ec.1.buffer },
      ctrAdd r ec.2 (ctrEvt 2) 1) e
  else
    let ev := { ec.1 with
      nextSeq := ec.1.nextSeq + 1
      lostFirst := if ec.1.lostCount = 0 then ec.1.nextSeq else ec.1.lostFirst
      lostLast := ec.1.nextSeq
      lostCount := ec.1.lostCount + 1 }
    pldmSend r (noteFatal ev e, ctrAdd r ec.2 (ctrEvt 3) 1) e

/-- A report to the EVT block (R506, R507): counted in a running window of its code and key, or recorded at once, a
keyed report starting its window. -/
def evReport (r : Table RKey Nat) (now : Word64) (ev : Evt) (c : Ctr) (p : Report) : Evt × Ctr :=
  let c := ctrEsel r (ctrAdd r c (ctrEvt 0) 1) 0 p.code p.source 1
  match p.key with
  | none => evEnter r now (ev, c) p 1 false now now
  | some k =>
    if ev.windows.any fun w => w.code = p.code && w.key = k then
      ({ ev with windows := ev.windows.map fun w =>
          if w.code = p.code && w.key = k then
            { w with count := w.count + 1, firstAt := if w.count = 0 then now else w.firstAt, lastAt := now, proto := p }
          else w }, c)
    else evEnter r now ({ ev with windows := ev.windows ++ [⟨p.code, k, now, 0, now, now, p⟩] }, c) p 1 false now now

/-- The state after a report. -/
def State.report (s : State) (p : Report) : State :=
  let q := evReport s.regs s.dtc s.evt s.ctr p
  { s with evt := q.1, ctr := q.2 }

/-- An event of a type is raised, with its source and args (R505). -/
def State.raise (s : State) (t : EvType) (srcKind source : Nat) (args : List Nat := []) : State :=
  s.report ⟨t.code, t.sev, srcKind, source, args, none⟩

/-- An event its chapter raises coalesced per a key (R507). -/
def State.raiseCo (s : State) (t : EvType) (key srcKind source : Nat) (args : List Nat := []) : State :=
  s.report ⟨t.code, t.sev, srcKind, source, args, some key⟩

/-! ## Sastrugi samples -/

/-- The bin of a value in a unit with shift `sh` (R524). -/
def telBin (sh v : Nat) : Nat := if v < 2 ^ sh then 0 else min (Nat.log2 v - sh + 1) 31

/-- A duration in ticks in a unit's measure (R524). -/
def telMeasure (unit ticks : Nat) : Nat :=
  if unit = 0 then ticks else if unit = 1 then ticks * 5 / 8 else if unit = 2 then ticks / 1600 else ticks / 1600000

/-- A value counted in a unit; bins are 32-bit, count 48-bit and sum 64-bit, all saturating (R524). -/
def TelUnit.add (u : TelUnit) (sh v : Nat) : TelUnit :=
  { bins := lmod u.bins (telBin sh v) fun n => Nat.min (n + 1) (2 ^ 32 - 1)
    min := Nat.min u.min v
    max := Nat.max u.max v
    count := Nat.min (u.count + 1) (2 ^ 48 - 1)
    sum := Nat.min (u.sum + v) (2 ^ 64 - 1) }

/-- The units attached to a source and instance (R525, R527): the fixed units 0 to 31 and those a write attached; for
the latency sources, op selects reads, writes or other commands. -/
def telUnits (r : Table RKey Nat) (src inst op : Nat) : List Nat :=
  ((if src = 1 && decide (inst < 32) then [inst] else []) ++ (regNonzero r TEL_UNIT_CFG_src).filter (32 ≤ ·)).filter
    fun k => regGet r TEL_UNIT_CFG_src k = src && regGet r TEL_UNIT_CFG_instance k = inst &&
      (regGet r TEL_UNIT_CFG_op k = 0 || decide (src < 6) || decide (8 < src) || regGet r TEL_UNIT_CFG_op k = op)

/-- A sample of a source taken by every unit attached to it; durations are converted (R524, R525). -/
def State.sample (s : State) (src inst v : Nat) (duration : Bool) (op : Nat := 0) : State :=
  { s with tel := (telUnits s.regs src inst op).foldl (fun t k =>
      tput t k ((tgetD t k {}).add (s.get TEL_UNIT_CFG_shift k)
        (if duration then telMeasure (s.get TEL_UNIT_CFG_unit k) v else v))) s.tel }

end Sys2Proof.Machine
end

