-- ==== Sys2Proof/Machine/HifCore.lean ====
section
/-! DEFINITION. What other blocks use of the local host port (chapter 14): which endpoint and PASID an owner uses, the bus
master rules (R396, R397, R417), requests toward host memory with their translation (R394), dirty marks (R420 to R422),
interrupts (R393). -/

namespace Sys2Proof.Machine

open F

/-- Whether the local host port functions are enabled (step 11 of R479, R41): the Rime record of the boot is appended, and the module is not
held. -/
def State.functionsOn (s : State) : Bool := decide (7 ≤ s.get BOOT_STATUS_stage) && s.get BOOT_STATUS_stage != 0xA

/-- The endpoint of a local owner (R386, R391). -/
def State.epOf (s : State) : QOwner → Nat
  | .slice n => if s.slc.e1 = some n then 1 else 0
  | _ => 0

/-- The PASID of an owner's requests (R404, R406). -/
def State.pasidOf (s : State) : QOwner → Option Nat
  | .slice n => if s.slc.e1 != some n && s.flag SLC_CFG_pasid_vld n then some (s.get SLC_CFG_pasid n) else none
  | _ => none

/-- Whether an owner may issue requests (R396, R398, R417): its link is up, bus master enabled and not in D3hot, no reset
runs, and PASID is enabled where its requests carry one. -/
def State.busOk (s : State) (o : QOwner) : Bool :=
  let e := s.epOf o
  s.flag HIF_LINK_STATUS_up e && s.flag HIF_LINK_STATUS_bme e && !s.flag HIF_LINK_STATUS_d3 e && !s.hif.inReset.contains e &&
    ((s.pasidOf o).isNone || s.hif.pasid.contains e)

/-! ## Dirty marks (R420 to R422) -/

/-- A word of marks to be folded into its host buffer: the word is read first (R422); marks of a word being folded join
it. -/
def State.foldMark (s : State) (n buf w v : Nat) (l : SliceLog) : State :=
  let a := (if buf = 0 then l.bufA else l.bufB) + 8 * w
  match tget s.slc.folding (n, buf, w) with
  | some u => { s with slc := { s.slc with folding := tput s.slc.folding (n, buf, w) (u ||| v) } }
  | none =>
  { s with
    slc := { s.slc with folding := tput s.slc.folding (n, buf, w) v }
    hif := { s.hif with queue := s.hif.queue ++ [({ owner := .fn, op := .read (.mark n buf w) a 8 } : HostReq)] } }

/-- The page of a write of a logging slice marked in the active buffer (R421, R422); one outside the span sets out_span. -/
def State.markPage (s : State) (n a : Nat) : State :=
  match tget s.slc.logs n with
  | none => s
  | some l =>
    let p := a / 4096 - l.lo / 4096
    if a < l.lo || l.lo + 4096 * l.pages ≤ a then
      let s := s.set SLC_LOG_STATUS_out_span n 1
      if l.raised then s
      else ({ s with slc := { s.slc with logs := tput s.slc.logs n { l with raised := true } } } : State).raise EV_SLC_LOG_SPAN 9 n
    else
      let buf := s.get SLC_LOG_STATUS_active n
      let w := p / 64
      let old := tget l.marks (buf, w)
      let total := (s.slc.logs.map fun (y : Nat × SliceLog) => y.2.marks.length).sum
      let s := match old with
        | some _ => s
        | none => if total < 4096 then s
          else match s.slc.logs.find? (fun (y : Nat × SliceLog) => !y.2.marks.isEmpty) with
            | some (m, x) => match x.marks with
              | ((b, y), v) :: rest => { s with slc := { s.slc with logs := tput s.slc.logs m { x with marks := rest } } }.foldMark m b y v x
              | [] => s
            | none => s
      let l := (tget s.slc.logs n).getD l
      let l := { l with marks := tput l.marks (buf, w) ((old.getD 0) ||| 2 ^ (p % 64)) }
      { s with slc := { s.slc with logs := tput s.slc.logs n l } }

/-- Every page of a write of a slice marked. -/
def State.markWrite (s : State) (o : QOwner) (a len : Nat) : State :=
  match o with
  | .slice n => s.each ((List.range ((a + len + 4095) / 4096 - a / 4096)).map fun j => max a ((a / 4096 + j) * 4096)) fun s b => s.markPage n b
  | _ => s

/-! ## Added latency (R32, R525) -/

/-- Added latency sampled as CQEs leave, by tenant, namespace and queue: those noted under `key` on a queue. -/
def State.sampleLats (s : State) (q key : Nat) : State :=
  match tget s.qpe.qps q with
  | none => s
  | some x =>
    let due := (x.lats.filter fun (k, _) => k = key).map (·.2)
    let s := { s with qpe := { s.qpe with qps := tput s.qpe.qps q { x with lats := x.lats.filter fun (k, _) => k != key } } }
    s.each due fun s l =>
      let v := s.since l.bell - l.excl
      let s := (s.sample 6 l.tenant v true l.op).sample 8 q v true l.op
      match l.ns with | some i => s.sample 7 i v true l.op | none => s

/-! ## Requests toward host memory -/

/-- The address a request goes to. -/
def HostOp.addr (qps : Table Nat Qp) : HostOp → Option Nat
  | .read _ a _ => some a
  | .write a _ _ => some a
  | .cqe q e => (tget qps q).map fun x => x.cqBase.toNat + 16 * e.slot
  | .msg _ _ => none

/-- What the translation cache keys an owner's requests by beside the page (R394): the PASID; requests of E1, which serves
another host, under a key of their own (DEDUCED). -/
def State.atsKey (s : State) (o : QOwner) : Option Nat := if s.epOf o = 1 then some 1048576 else s.pasidOf o

/-- The cache entry that translates a page of a PASID (R394). -/
def atsHit (l : List AtsEntry) (pasid : Option Nat) (page : Nat) : Option AtsEntry :=
  l.find? fun e => e.pasid = pasid && decide (e.page ≤ page) && decide (page < e.page + e.pages)

/-- Whether ATS is in use for an owner. -/
def State.atsOn (s : State) (o : QOwner) : Bool := s.hif.ats.contains (s.epOf o)

/-- Whether a request can be issued: its owner may, and it needs no translation that is still missing (R394, R396). -/
def State.reqReady (s : State) (r : HostReq) : Bool :=
  s.busOk r.owner && (!s.atsOn r.owner || r.plain ||
    match r.op.addr s.qpe.qps with
    | some a => (atsHit s.hif.cache (s.atsKey r.owner) (a / 4096)).isSome
    | none => true)

/-- Whether an operation is posted: such ones of one owner keep their order (R34, R393). -/
def HostOp.posted : HostOp → Bool
  | .read .. => false
  | _ => true

/-- A request issued (R394, R396): a translated address where its page has one; reads become outstanding; marks and counters
follow. -/
def State.issueReq (s : State) (r : HostReq) : State :=
  let e := s.epOf r.owner
  let pa := s.atsKey r.owner
  let tr (a : Nat) : Nat := if s.atsOn r.owner && !r.plain then
      (match atsHit s.hif.cache pa (a / 4096) with | some x => a + 4096 * x.base - 4096 * x.page | none => a) else a
  match r.op with
  | .read u a n =>
    let under := if s.atsOn r.owner && !r.plain then some (pa, a / 4096) else none
    let s := if under.isSome then s.bump (ctrHif e 8) else s
    let s := { s with hif := { s.hif with reads := s.hif.reads ++ [({ owner := r.owner, use := u, addr := a, len := n, under := under } : HostRead)] } }
    (((s.send (.dmaRead r.owner u (tr a) n)).bump (ctrHif e 0)).bump (ctrHif e 2) n)
  | .write a d _ => ((((s.markWrite r.owner a d.length).send (.dmaWrite r.owner (tr a) d)).bump (ctrHif e 1)).bump (ctrHif e 3) d.length)
  | .cqe q c =>
    let a := (r.op.addr s.qpe.qps).getD 0
    ((((s.markWrite r.owner a 16).send (.cqeWrite q c)).bump (ctrHif e 1)).bump (ctrHif e 3) 16).sampleLats q c.slot
  | .msg p v => (s.send (.msg p v)).bump (ctrHif p 4)

/-- Whether a waiting request may go now: posted ones wait for the owner's earlier posted ones. -/
def firstReady (s : State) : List HostReq → List HostReq → Option (HostReq × List HostReq)
  | _, [] => none
  | seen, r :: t =>
    if s.reqReady r && !(r.op.posted && seen.any fun q => q.owner = r.owner && q.op.posted) then some (r, seen ++ t)
    else firstReady s (seen ++ [r]) t

/-- Requests issued in order while any can be (R396, R397); a missing translation is asked for once (R394). -/
def State.hifPump (s : State) : Nat → State
  | 0 => s
  | fuel + 1 =>
    match firstReady s [] s.hif.queue with
    | some (r, rest) => ({ s with hif := { s.hif with queue := rest } }.issueReq r).hifPump fuel
    | none =>
      s.each s.hif.queue fun s r =>
        match r.op.addr s.qpe.qps with
        | some a =>
          let k := (s.atsKey r.owner, a / 4096)
          if s.busOk r.owner && s.atsOn r.owner && !r.plain && (atsHit s.hif.cache k.1 k.2).isNone && !s.hif.asked.contains k then
            ({ s with hif := { s.hif with asked := s.hif.asked ++ [k] } }.send (.atsRequest (s.epOf r.owner) (s.pasidOf r.owner) (a / 4096 ))).bump (ctrHif (s.epOf r.owner) 7)
          else s
        | none => s

/-- Waiting requests issued as far as they can be. -/
def State.hifGo (s : State) : State := s.hifPump (s.hif.queue.length + 1)

/-- A request toward host memory: issued, or held in order (R396). -/
def State.hostOp (s : State) (o : QOwner) (op : HostOp) : State :=
  { s with hif := { s.hif with queue := s.hif.queue ++ [({ owner := o, op := op } : HostReq)] } }.hifGo

/-! ## Interrupts (R393, R408) -/

/-- The endpoint's interrupt mode. -/
def State.intMode (s : State) (e : Nat) : Nat := s.get HIF_LINK_STATUS_int_mode e

/-- INTA# follows the CQs of the local function (R393). -/
def State.intxUpdate (s : State) : State :=
  let on := s.intMode 0 = 0 && s.qpe.qps.any fun (_, q) => q.owner = .fn && q.ien && q.cqHead != q.cqTail &&
    (s.get HIF_INT_MASK_mask 0 / 2 ^ (q.vector % 32)) % 2 = 0
  if on = s.hif.intx then s else { s with hif := { s.hif with intx := on } }.send (.intx on)

/-- A message of a vector of an endpoint: sent, or pending where the vector is masked (R393). -/
def State.message (s : State) (o : QOwner) (e v : Nat) : State :=
  let mode := s.intMode e
  if mode = 0 then s.intxUpdate
  else
    let masked := if mode = 2 then !s.hif.unmasked.contains (e, v) else (s.get HIF_INT_MASK_mask 0 / 2 ^ (v % 32)) % 2 = 1
    let out := if mode = 2 then v else v % max (tgetD s.hif.msis e 1) 1
    if masked then { s with hif := { s.hif with pendVec := if s.hif.pendVec.contains (e, v) then s.hif.pendVec else s.hif.pendVec ++ [(e, v)] } }
    else s.hostOp o (.msg e out)

/-- The endpoint vector of an owner's vector (R408). -/
def State.vectorOf (s : State) (o : QOwner) (v : Nat) : Nat :=
  match o with
  | .slice n => if s.slc.e1 = some n then v else s.get SLC_CFG_vec_base n + v
  | _ => v

/-- The interrupt that announces a CQE (R119, R393): coalesced by the owner's threshold and time except on the admin CQ's
vector. -/
def State.interrupt (s : State) (o : QOwner) (v : Nat) (admin : Bool) : State :=
  let f := tgetD s.nsm.feats o {}
  let go (s : State) : State := s.message o (s.epOf o) (s.vectorOf o v)
  if admin || f.coalTime = 0 || f.coalThr = 0 || s.intMode (s.epOf o) = 0 then go s
  else
    let (n, t) := tgetD s.hif.coal (o, v) (0, s.dtc)
    if f.coalThr < n + 1 then go { s with hif := { s.hif with coal := tdel s.hif.coal (o, v) } }
    else { s with hif := { s.hif with coal := tput s.hif.coal (o, v) (n + 1, t) } }

end Sys2Proof.Machine
end

