-- ==== Sys2Proof/Machine/Crypto.lean ====
section
/-! DEFINITION. The cryptographic functions the spec names, by the standards it names: AES-256 with XTS (R166), GCM (R70, R172) and key
unwrap (R181), SHA-384 and HMAC (R170, R182), ECDH and ECDSA on P-384 (R181, R184, R475), CTR_DRBG (R190) and the tests of
its noise source (R191).  Byte strings are lists; a number of bytes stands for them in network byte order. -/

namespace Sys2Proof.Machine

/-! ## AES-256 -/

/-- The exclusive or of byte strings. -/
def xorBytes (a b : List Byte) : List Byte := List.zipWith (· ^^^ ·) a b

/-- The substitution table, entry `x` in byte `x`. -/
def aesTable : Nat := 0x16bb54b00f2d99416842e6bf0d89a18cdf2855cee9871e9b948ed9691198f8e19e1dc186b95735610ef6034866b53e708a8bbd4b1f74dde8c6b4a61c2e2578ba08ae7a65eaf4566ca94ed58d6d37c8e779e4959162acd3c25c2406490a3a32e0db0b5ede14b8ee4688902a22dc4f816073195d643d7ea7c41744975fec130ccdd2f3ff1021dab6bcf5389d928f40a351a89f3c507f02f94585334d43fbaaefd0cf584c4a39becb6a5bb1fc20ed00d153842fe329b3d63b52a05a6e1b1a2c830975b227ebe28012079a059618c323c7041531d871f1e5a534ccf73f362693fdb7c072a49cafa2d4adf04759fa7dc982ca76abd7fe2b670130c56f6bf27b777c63

/-- The inverse substitution table. -/
def aesInvTable : Nat := 0x7d0c2155631469e126d677ba7e042b17619953833cbbebc8b0f52aae4d3be0a0ef9cc9939f7ae52d0d4ab519a97f51605fec8027591012b131c7078833a8dd1ff45acd78fec0db9a2079d2c64b3e56fc1bbe18aa0e62b76f89c5291d711af1476edf751ce837f9e28535ade72274ac9673e6b4f0cecff297eadc674f4111913a6b8a130103bdafc1020f3fca8f1e2cd00645b3b80558e4f70ad3bc8c00abd890849d8da75746155edab9edfd5048706c92b6655dcc5ca4d41698688664f6f87225d18b6d49a25b76b224d92866a12e084ec3fa420b954cee3d23c2a632947b54cbe9dec444438e3487ff2f9b8239e37cfbd7f3819ea340bf38a53630d56a0952

/-- A byte substituted by a table. -/
def aesSub (t : Nat) (b : Byte) : Byte := BitVec.ofNat 8 (t >>> (8 * b.toNat))

/-- Multiplication by x in the field of AES. -/
def aesDouble (b : Byte) : Byte := (b <<< 1) ^^^ (if b.msb then 0x1B else 0)

/-- A product in the field of AES by one of the small factors that the columns use. -/
def aesTimes (k : Nat) (b : Byte) : Byte :=
  (if k % 2 = 1 then b else 0) ^^^ (if k / 2 % 2 = 1 then aesDouble b else 0) ^^^
    (if k / 4 % 2 = 1 then aesDouble (aesDouble b) else 0) ^^^ (if k / 8 % 2 = 1 then aesDouble (aesDouble (aesDouble b)) else 0)

/-- The next four bytes of the expanded key, from the bytes so far with the latest word first: word `i` of 60. -/
def aesWord (i : Nat) (ws : List (List Byte)) : List Byte :=
  let last := ws.headD []
  let mixed :=
    if i % 8 = 0 then
      xorBytes ((last.drop 1 ++ last.take 1).map (aesSub aesTable)) [BitVec.ofNat 8 (2 ^ (i / 8 - 1)), 0, 0, 0]
    else if i % 8 = 4 then last.map (aesSub aesTable)
    else last
  xorBytes (ws.getD 7 []) mixed

/-- The 15 round keys of a 32 B key. -/
def aesKeys (key : List Byte) : List (List Byte) :=
  let first := (List.range 8).map fun j => (key.drop (4 * j)).take 4
  let ws := ((List.range 52).foldl (fun ws j => aesWord (j + 8) ws :: ws) first.reverse).reverse
  (List.range 15).map fun r => ((ws.drop (4 * r)).take 4).flatten

/-- The bytes of a state, each taken from a place of another. -/
def aesMove (l : List Byte) (f : Nat → Nat) : List Byte := (List.range 16).map fun i => l.getD (f i) 0

/-- Every column of a state multiplied by the circulant of the factors. -/
def aesColumns (a b c d : Nat) (l : List Byte) : List Byte :=
  (List.range 16).map fun i =>
    let at_ (r : Nat) : Byte := l.getD (i / 4 * 4 + (i + r) % 4) 0
    aesTimes a (at_ 0) ^^^ aesTimes b (at_ 1) ^^^ aesTimes c (at_ 2) ^^^ aesTimes d (at_ 3)

/-- One block encrypted under expanded keys: each round substitutes, shifts rows, mixes columns but in the last, adds its key. -/
def aesEncrypt (keys : List (List Byte)) (block : List Byte) : List Byte :=
  let start := xorBytes block (keys.headD [])
  (List.range 14).foldl (fun s r =>
    let t := aesMove (s.map (aesSub aesTable)) fun i => (i + 4 * (i % 4)) % 16
    xorBytes (if r = 13 then t else aesColumns 2 3 1 1 t) (keys.getD (r + 1) [])) start

/-- One block decrypted under expanded keys. -/
def aesDecrypt (keys : List (List Byte)) (block : List Byte) : List Byte :=
  (List.range 14).foldl (fun s r =>
    let t := xorBytes s (keys.getD (14 - r) [])
    let u := if r = 0 then t else aesColumns 14 11 13 9 t
    (aesMove u fun i => (i + 12 * (i % 4)) % 16).map (aesSub aesInvTable)) block |> fun s => xorBytes s (keys.headD [])

/-! ## XTS (R166) -/

/-- A tweak multiplied by α: one bit up as a little-endian number, with the field's polynomial where a bit leaves. -/
def xtsAlpha (t : Nat) : Nat := (2 * t) % 2 ^ 128 ^^^ (if 2 ^ 127 ≤ t then 0x87 else 0)

/-- The blocks of a unit, each between two additions of its tweak. -/
def xtsBlocks (f : List Byte → List Byte) : Nat → Nat → List Byte → List Byte
  | 0, _, _ => []
  | n + 1, t, l => xorBytes (f (xorBytes (l.take 16) (leBytes 16 t))) (leBytes 16 t) ++ xtsBlocks f n (xtsAlpha t) (l.drop 16)

/-- A 4 KiB unit under a 64 B key: key 1 enciphers the blocks, key 2 the tweak, which is the LBA as a 128-bit little-endian number. -/
def xtsUnit (enc : Bool) (key : BitVec 512) (lba : Nat) (d : Block) : Block :=
  let k := beBytes 64 key.toNat
  let k1 := aesKeys (k.take 32)
  let t := leNat (aesEncrypt (aesKeys (k.drop 32)) (leBytes 16 (lba % 2 ^ 64)))
  bytesBlock (xtsBlocks (if enc then aesEncrypt k1 else aesDecrypt k1) 256 t (blockBytes d))

/-- AES-256-XTS encryption of one unit (R166). -/
@[irreducible] def xtsEncrypt (key : BitVec 512) (lba : Nat) (d : Block) : Block := xtsUnit true key lba d

/-- AES-256-XTS decryption of one unit (R166). -/
@[irreducible] def xtsDecrypt (key : BitVec 512) (lba : Nat) (d : Block) : Block := xtsUnit false key lba d

/-! ## GCM (R70, R171, R172) -/

/-- A product in the field of GHASH, whose bit 0 is the most significant of a block. -/
def ghashMul (x y : Nat) : Nat :=
  ((List.range 128).foldl (fun (a : Nat × Nat) i =>
    (if x.testBit (127 - i) then a.1 ^^^ a.2 else a.1, a.2 / 2 ^^^ (if a.2 % 2 = 1 then 0xE1 <<< 120 else 0))) (0, y)).1

/-- Bytes filled up to whole blocks with zeros. -/
def padBlocks (l : List Byte) : List Byte := l ++ List.replicate ((16 - l.length % 16) % 16) 0

/-- The GHASH of whole blocks under a hash key. -/
def ghash (h : Nat) (l : List Byte) : Nat :=
  (List.range (l.length / 16)).foldl (fun y j => ghashMul (y ^^^ beAt l (16 * j) 16) h) 0

/-- The key stream of GCM over bytes: blocks of the counter from 2 on. -/
def gcmStream (keys : List (List Byte)) (nonce l : List Byte) : List Byte :=
  xorBytes l ((List.range ((l.length + 15) / 16)).flatMap fun j => aesEncrypt keys (nonce ++ beBytes 4 (j + 2)))

/-- The tag over authenticated data and ciphertext. -/
def gcmTagOf (keys : List (List Byte)) (nonce aad c : List Byte) : BitVec 128 :=
  let h := beNat (aesEncrypt keys (List.replicate 16 0))
  BitVec.ofNat 128 (ghash h (padBlocks aad ++ padBlocks c ++ beBytes 8 (8 * aad.length) ++ beBytes 8 (8 * c.length)) ^^^
    beNat (aesEncrypt keys (nonce ++ beBytes 4 1)))

/-- AES-256-GCM encryption: ciphertext and tag. -/
@[irreducible] def gcmSeal (key : BitVec 256) (nonce aad pt : List Byte) : List Byte × BitVec 128 :=
  let keys := aesKeys (beBytes 32 key.toNat)
  let c := gcmStream keys nonce pt
  (c, gcmTagOf keys nonce aad c)

/-- AES-256-GCM decryption: the plaintext, none where the tag does not verify. -/
@[irreducible] def gcmOpen (key : BitVec 256) (nonce aad ct : List Byte) (tag : BitVec 128) : Option (List Byte) :=
  let keys := aesKeys (beBytes 32 key.toNat)
  if gcmTagOf keys nonce aad ct = tag then some (gcmStream keys nonce ct) else none

/-! ## Key unwrap (RFC 3394, R181) -/

/-- One unwrapping step `t` on A and the n registers, counted from the last. -/
def unwrapStep (keys : List (List Byte)) (n : Nat) (a : List Byte × List (List Byte)) (t : Nat) : List Byte × List (List Byte) :=
  let i := (t - 1) % n
  let b := aesDecrypt keys (xorBytes a.1 (beBytes 8 t) ++ a.2.getD i [])
  (b.take 8, a.2.mapIdx fun j r => if j = i then b.drop 8 else r)

/-- AES key unwrap under a 32 B KEK, default initial value: the key, or none where the integrity check fails. -/
@[irreducible] def keyUnwrap (kek : BitVec 256) (w : List Byte) : Option (List Byte) :=
  let n := w.length / 8 - 1
  let keys := aesKeys (beBytes 32 kek.toNat)
  let r := ((List.range (6 * n)).reverse.map (· + 1)).foldl (unwrapStep keys n)
    (w.take 8, (List.range n).map fun j => (w.drop (8 * j + 8)).take 8)
  if r.1 = List.replicate 8 0xA6 then some r.2.flatten else none

/-- One wrapping step. -/
def wrapStep (keys : List (List Byte)) (n : Nat) (a : List Byte × List (List Byte)) (t : Nat) : List Byte × List (List Byte) :=
  let i := (t - 1) % n
  let b := aesEncrypt keys (a.1 ++ a.2.getD i [])
  (xorBytes (b.take 8) (beBytes 8 t), a.2.mapIdx fun j r => if j = i then b.drop 8 else r)

/-- AES key wrap under a 32 B KEK: slots carried to the partner or kept in the vault (R183, R184). -/
@[irreducible] def keyWrap (kek : BitVec 256) (k : List Byte) : List Byte :=
  let n := k.length / 8
  let keys := aesKeys (beBytes 32 kek.toNat)
  let r := ((List.range (6 * n)).map (· + 1)).foldl (wrapStep keys n)
    (List.replicate 8 0xA6, (List.range n).map fun j => (k.drop (8 * j)).take 8)
  r.1 ++ r.2.flatten

/-! ## SHA-384 and HMAC (R170, R181, R182) -/

/-- The first 40 round constants of SHA-384. -/
def shaRound1 : List Word64 := [
  0x428a2f98d728ae22, 0x7137449123ef65cd, 0xb5c0fbcfec4d3b2f, 0xe9b5dba58189dbbc, 0x3956c25bf348b538,
  0x59f111f1b605d019, 0x923f82a4af194f9b, 0xab1c5ed5da6d8118, 0xd807aa98a3030242, 0x12835b0145706fbe,
  0x243185be4ee4b28c, 0x550c7dc3d5ffb4e2, 0x72be5d74f27b896f, 0x80deb1fe3b1696b1, 0x9bdc06a725c71235,
  0xc19bf174cf692694, 0xe49b69c19ef14ad2, 0xefbe4786384f25e3, 0x0fc19dc68b8cd5b5, 0x240ca1cc77ac9c65,
  0x2de92c6f592b0275, 0x4a7484aa6ea6e483, 0x5cb0a9dcbd41fbd4, 0x76f988da831153b5, 0x983e5152ee66dfab,
  0xa831c66d2db43210, 0xb00327c898fb213f, 0xbf597fc7beef0ee4, 0xc6e00bf33da88fc2, 0xd5a79147930aa725,
  0x06ca6351e003826f, 0x142929670a0e6e70, 0x27b70a8546d22ffc, 0x2e1b21385c26c926, 0x4d2c6dfc5ac42aed,
  0x53380d139d95b3df, 0x650a73548baf63de, 0x766a0abb3c77b2a8, 0x81c2c92e47edaee6, 0x92722c851482353b]

/-- The last 40 round constants of SHA-384. -/
def shaRound2 : List Word64 := [
  0xa2bfe8a14cf10364, 0xa81a664bbc423001, 0xc24b8b70d0f89791, 0xc76c51a30654be30, 0xd192e819d6ef5218,
  0xd69906245565a910, 0xf40e35855771202a, 0x106aa07032bbd1b8, 0x19a4c116b8d2d0c8, 0x1e376c085141ab53,
  0x2748774cdf8eeb99, 0x34b0bcb5e19b48a8, 0x391c0cb3c5c95a63, 0x4ed8aa4ae3418acb, 0x5b9cca4f7763e373,
  0x682e6ff3d6b2b8a3, 0x748f82ee5defb2fc, 0x78a5636f43172f60, 0x84c87814a1f0ab72, 0x8cc702081a6439ec,
  0x90befffa23631e28, 0xa4506cebde82bde9, 0xbef9a3f7b2c67915, 0xc67178f2e372532b, 0xca273eceea26619c,
  0xd186b8c721c0c207, 0xeada7dd6cde0eb1e, 0xf57d4f7fee6ed178, 0x06f067aa72176fba, 0x0a637dc5a2c898a6,
  0x113f9804bef90dae, 0x1b710b35131c471b, 0x28db77f523047d84, 0x32caab7b40c72493, 0x3c9ebe0a15c9bebc,
  0x431d67c49c100d4c, 0x4cc5d4becb3e42b6, 0x597f299cfc657e2a, 0x5fcb6fab3ad6faec, 0x6c44198c4a475817]

/-- The initial hash value of SHA-384. -/
def shaInit : List Word64 := [
  0xcbbb9d5dc1059ed8, 0x629a292a367cd507, 0x9159015a3070dd17, 0x152fecd8f70e5939, 0x67332667ffc00b31,
  0x8eb44a8768581511, 0xdb0c2e0d64f98fa7, 0x47b5481dbefa4fa4]

/-- The message schedule: 80 words from the 16 of a block; the list holds the latest first. -/
def shaSchedule (w : List Word64) : List Word64 :=
  ((List.range 64).foldl (fun (l : List Word64) _ =>
    let a := l.getD 14 0
    let b := l.getD 1 0
    (((b.rotateRight 19) ^^^ (b.rotateRight 61) ^^^ (b >>> 6)) + l.getD 6 0 +
      ((a.rotateRight 1) ^^^ (a.rotateRight 8) ^^^ (a >>> 7)) + l.getD 15 0) :: l) w.reverse).reverse

/-- The eight working variables. -/
structure ShaVars where
  a : Word64
  b : Word64
  c : Word64
  d : Word64
  e : Word64
  f : Word64
  g : Word64
  h : Word64
  deriving DecidableEq, Repr

/-- One round with its constant and schedule word. -/
def shaRound (v : ShaVars) (kw : Word64 × Word64) : ShaVars :=
  let t1 := v.h + ((v.e.rotateRight 14) ^^^ (v.e.rotateRight 18) ^^^ (v.e.rotateRight 41)) +
    ((v.e &&& v.f) ^^^ (~~~v.e &&& v.g)) + kw.1 + kw.2
  let t2 := ((v.a.rotateRight 28) ^^^ (v.a.rotateRight 34) ^^^ (v.a.rotateRight 39)) +
    ((v.a &&& v.b) ^^^ (v.a &&& v.c) ^^^ (v.b &&& v.c))
  ⟨t1 + t2, v.a, v.b, v.c, v.d + t1, v.e, v.f, v.g⟩

/-- One 128 B block compressed into the hash value. -/
def shaBlock (v : ShaVars) (l : List Byte) : ShaVars :=
  let w := shaSchedule ((List.range 16).map fun j => BitVec.ofNat 64 (beAt l (8 * j) 8))
  let u := ((shaRound1 ++ shaRound2).zip w).foldl shaRound v
  ⟨v.a + u.a, v.b + u.b, v.c + u.c, v.d + u.d, v.e + u.e, v.f + u.f, v.g + u.g, v.h + u.h⟩

/-- A message with its padding: a one bit, zeros, its length in bits. -/
def shaPad (l : List Byte) : List Byte :=
  l ++ [0x80] ++ List.replicate ((239 - l.length % 128) % 128) 0 ++ beBytes 16 (8 * l.length)

/-- SHA-384, the first byte of the digest in the highest bits. -/
@[irreducible] def sha384 (l : List Byte) : BitVec 384 :=
  let m := shaPad l
  let i (j : Nat) : Word64 := shaInit.getD j 0
  let v := (List.range (m.length / 128)).foldl (fun v j => shaBlock v ((m.drop (128 * j)).take 128))
    ⟨i 0, i 1, i 2, i 3, i 4, i 5, i 6, i 7⟩
  v.a ++ v.b ++ v.c ++ v.d ++ v.e ++ v.f

/-- The 48 bytes of a digest. -/
def digestBytes (d : BitVec 384) : List Byte := beBytes 48 d.toNat

/-- HMAC-SHA-384. -/
@[irreducible] def hmacSha384 (key m : List Byte) : BitVec 384 :=
  let k := (if 128 < key.length then digestBytes (sha384 key) else key)
  let k := k ++ List.replicate (128 - k.length) 0
  sha384 (k.map (· ^^^ 0x5C) ++ digestBytes (sha384 (k.map (· ^^^ 0x36) ++ m)))

/-! ## P-384 (R181, R184, R475) -/

/-- The prime of the field. -/
def p384P : Nat := 2 ^ 384 - 2 ^ 128 - 2 ^ 96 + 2 ^ 32 - 1

/-- The order of the group. -/
def p384N : Nat := 0xffffffffffffffffffffffffffffffffffffffffffffffffc7634d81f4372ddf581a0db248b0a77aecec196accc52973

/-- The constant term of the curve y² = x³ − 3x + b. -/
def p384B : Nat := 0xb3312fa7e23ee7e4988e056be3f82d19181d9c6efe8141120314088f5013875ac656398d8a2ed19d2a85c8edd3ec2aef

/-- The base point. -/
def p384G : Nat × Nat :=
  (0xaa87ca22be8b05378eb1c71ef320ad746e1d3b628ba79b9859f741e082542a385502f25dbf55296c3a545e3872760ab7,
   0x3617de4a96262c6f5d9e98bf9292dc29f8f41dbd289a147ce9da3113b5f0b8c00a60b1ce1d7e819d7a431d7c90ea0e5f)

/-- A power modulo `m`, over the lowest `fuel` bits of the exponent. -/
def powMod (m : Nat) : Nat → Nat → Nat → Nat
  | 0, _, _ => 1
  | fuel + 1, b, e => (if e % 2 = 1 then b else 1) * powMod m fuel (b * b % m) (e / 2) % m

/-- The inverse modulo a 384-bit prime. -/
def invMod (m a : Nat) : Nat := powMod m 384 (a % m) (m - 2)

/-- The line through two points of the curve gives their sum; none stands for the point at infinity. -/
def ecAdd : Option (Nat × Nat) → Option (Nat × Nat) → Option (Nat × Nat)
  | none, q => q
  | p, none => p
  | some (x, y), some (u, v) =>
    let p := p384P
    if x = u && (y + v) % p = 0 then none
    else
      let l := if x = u then (3 * x * x + p - 3) * invMod p (2 * y) % p else (v + p - y) * invMod p (u + p - x) % p
      let w := (l * l + 2 * p - x - u) % p
      some (w, (l * (x + p - w) + p - y) % p)

/-- A multiple of a point, over the lowest `fuel` bits of the factor. -/
def ecMul : Nat → Nat → Option (Nat × Nat) → Option (Nat × Nat)
  | 0, _, _ => none
  | fuel + 1, k, q => ecAdd (if k % 2 = 1 then q else none) (ecMul fuel (k / 2) (ecAdd q q))

/-- A point as X then Y, 96 B (R181). -/
def ecBytes (q : Option (Nat × Nat)) : List Byte := match q with | some (x, y) => beBytes 48 x ++ beBytes 48 y | none => List.replicate 96 0

/-- The point that 96 B name. -/
def ecPoint (l : List Byte) : Nat × Nat := (beAt l 0 48, beAt l 48 48)

/-- Whether 96 bytes are a point on P-384 (R180, result 0x09). -/
@[irreducible] def onP384 (l : List Byte) : Bool :=
  let (x, y) := ecPoint l
  l.length = 96 && decide (x < p384P) && decide (y < p384P) && (y * y) % p384P = (x * x * x + 3 * (p384P - x) + p384B) % p384P

/-- A private value from 512 random bits, within 1 to the order less 1. -/
def ecPrivate (r : BitVec 512) : Nat := r.toNat % (p384N - 1) + 1

/-- The public key of a private value. -/
@[irreducible] def ecPublic (d : Nat) : List Byte := ecBytes (ecMul 384 d (some p384G))

/-- ECDH: the x coordinate of the shared point. -/
@[irreducible] def ecdhSecret (d : Nat) (pub : List Byte) : BitVec 384 :=
  match ecMul 384 d (some (ecPoint pub)) with
  | some (x, _) => BitVec.ofNat 384 x
  | none => 0

/-- ECDSA: r then s over a digest, under a private value and the signature's own secret number. -/
@[irreducible] def ecdsaSignWith (d k : Nat) (digest : BitVec 384) : List Byte :=
  let r := ((ecMul 384 k (some p384G)).elim 0 (·.1)) % p384N
  beBytes 48 r ++ beBytes 48 (invMod p384N k * ((digest.toNat + r * d) % p384N) % p384N)

/-- The signature by the device attestation key (R181, R492, R499): the key is in the die, its secret numbers are free values. -/
def ecdsaSign (digest : BitVec 384) : List Byte := ecdsaSignWith (ecPrivate Config.attestationKey) (ecPrivate (Config.signNonce digest)) digest

/-- ECDSA verification of r then s under a public key. -/
@[irreducible] def ecdsaVerify (pub : List Byte) (digest : BitVec 384) (sig : List Byte) : Bool :=
  let r := beAt sig 0 48
  let s := beAt sig 48 48
  let w := invMod p384N s
  onP384 pub && sig.length = 96 && decide (1 ≤ r) && decide (r < p384N) && decide (1 ≤ s) && decide (s < p384N) &&
    (match ecAdd (ecMul 384 (digest.toNat * w % p384N) (some p384G)) (ecMul 384 (r * w % p384N) (some (ecPoint pub))) with
     | some (x, _) => x % p384N = r
     | none => false)

/-! ## CTR_DRBG (R190) -/

/-- The working state of the generator: key and counter block, each a byte string. -/
abbrev drbgState := List Byte × List Byte

/-- Blocks chained under a key from a zero block: the compression of the derivation function. -/
def drbgChain (keys : List (List Byte)) (l : List Byte) : List Byte :=
  (List.range (l.length / 16)).foldl (fun c j => aesEncrypt keys (xorBytes c ((l.drop (16 * j)).take 16))) (List.replicate 16 0)

/-- The derivation function: 48 B from an input. -/
def drbgDf (l : List Byte) : List Byte :=
  let s := padBlocks (beBytes 4 l.length ++ beBytes 4 48 ++ l ++ [0x80])
  let keys := aesKeys ((List.range 32).map (BitVec.ofNat 8))
  let t := (List.range 3).flatMap fun i => drbgChain keys (beBytes 4 i ++ List.replicate 12 0 ++ s)
  let k := aesKeys (t.take 32)
  let x := aesEncrypt k (t.drop 32)
  let y := aesEncrypt k x
  x ++ y ++ aesEncrypt k y

/-- The `j`-th counter block after one. -/
def drbgCount (v : List Byte) (j : Nat) : List Byte := beBytes 16 ((beNat v + j) % 2 ^ 128)

/-- The state updated with 48 B of data. -/
def drbgUpdate (x : drbgState) (d : List Byte) : drbgState :=
  let keys := aesKeys x.1
  let t := xorBytes ((List.range 3).flatMap fun j => aesEncrypt keys (drbgCount x.2 (j + 1))) d
  (t.take 32, t.drop 32)

/-- The state seeded, or seeded again, from entropy. -/
@[irreducible] def drbgSeed (x : drbgState) (entropy : List Byte) : drbgState := drbgUpdate x (drbgDf entropy)

/-- The state before its first seed. -/
def drbgZero : drbgState := (List.replicate 32 0, List.replicate 16 0)

/-- One generate request of `n` blocks: the bytes and the state after it. -/
@[irreducible] def drbgGenerate (x : drbgState) (n : Nat) : List Byte × drbgState :=
  let keys := aesKeys x.1
  ((List.range n).flatMap fun j => aesEncrypt keys (drbgCount x.2 (j + 1)),
    drbgUpdate (x.1, drbgCount x.2 n) (List.replicate 48 0))

/-! ## The noise source's tests (R191) -/

/-- The repetition count test: some 41 consecutive samples are equal. -/
def repetitionFails (l : List Bool) : Bool :=
  (l.foldl (fun (a : Option Bool × Nat × Bool) b =>
    let n := if a.1 = some b then a.2.1 + 1 else 1
    (some b, n, a.2.2 || decide (41 ≤ n))) (none, 0, false)).2.2

/-- The adaptive proportion test on each whole window of 1,024 samples: the first sample occurs 795 or more times. -/
def proportionFails : Nat → List Bool → Bool
  | 0, _ => false
  | n + 1, l =>
    let w := l.take 1024
    (w.length = 1024 && decide (795 ≤ (w.filter fun b => some b = w.head?).length)) || proportionFails n (l.drop 1024)

/-- Whether samples fail a test. -/
def noiseFails (l : List Bool) : Bool := repetitionFails l || proportionFails (l.length / 1024) l

/-- The samples that bytes stand for, eight of a byte, the lowest bit first. -/
def noiseBits (l : List Byte) : List Bool := l.flatMap fun b => (List.range 8).map fun j => b.getLsbD j

/-- The bytes that samples spell, eight to a byte, the first in the lowest bit. -/
def noiseBytes (l : List Bool) : List Byte :=
  (List.range (l.length / 8)).map fun j => BitVec.ofNat 8 (((l.drop (8 * j)).take 8).foldr (fun b n => 2 * n + bit b) 0)

end Sys2Proof.Machine
end

