-- ==== Sys2Proof/Machine/Drbg.lean ====
section
/-! DEFINITION. The random bit generator of the KEY block (R190): its seeds and reseeds, and generate requests. -/

namespace Sys2Proof.Machine

/-- The generator seeded, or seeded again, from the bytes of 1,024 noise samples (R190). -/
def State.reseed (s : State) (noise : List Byte) : State :=
  { s with key := { s.key with drbg := drbgSeed s.key.drbg noise, requests := 0, seededAt := s.dtc } }

/-- 1,024 samples of the noise source, which nothing outside gave: free values. -/
def State.freeNoise (s : State) : List Byte × State :=
  let (a, s) := s.freshWide
  let (b, s) := s.freshWide
  (beBytes 64 a.toNat ++ beBytes 64 b.toNat, s)

/-- Whether a reseed is due (R190): after 2^16 generate requests or 1 s. -/
def State.reseedDue (s : State) : Bool := decide (65536 ≤ s.key.requests) || decide (secTicks 1 ≤ s.since s.key.seededAt)

/-- One generate request of `n` blocks of 16 B (R190), after the reseed that is due. -/
def State.drbg (s : State) (n : Nat) : List Byte × State :=
  let s := if s.reseedDue then let (b, s) := s.freeNoise; s.reseed b else s
  let r := drbgGenerate s.key.drbg n
  (r.1, { s with key := { s.key with drbg := r.2, requests := s.key.requests + 1 } })

/-- A private value of P-384 from the generator (R181, R184). -/
def State.drbgPrivate (s : State) : Nat × State :=
  let (b, s) := s.drbg 4
  (ecPrivate (BitVec.ofNat 512 (beNat b)), s)

end Sys2Proof.Machine
end

