-- ==== Sys2Proof/Machine/FwdCore.lean ====
section
/-! DEFINITION. Forwarding lookups and table changes that other blocks use (chapter 13): entries (R366), hashing (R367),
lookup (R368, R371), port groups (R370), insertion (R373) and removal, ports' learned counts (R378). -/

namespace Sys2Proof.Machine

open F

/-! ## Entries (R366) -/

/-- Bits `hi` down to `lo` of an entry. -/
def eBits (e : BitVec 128) (hi lo : Nat) : Nat := e.toNat / 2 ^ lo % 2 ^ (hi + 1 - lo)

/-- The kind of an entry: 1 EID, 2 module, 3 namespace, 4 MAC. -/
def eKind (e : BitVec 128) : Nat := eBits e 127 124
/-- Whether an entry is static. -/
def eStatic (e : BitVec 128) : Bool := eBits e 123 123 = 1
/-- The age of an entry. -/
def eAge (e : BitVec 128) : Nat := eBits e 122 121
/-- The seed bank an entry's buckets are computed under. -/
def eBank (e : BitVec 128) : Nat := eBits e 120 120

/-- An entry with bits `hi` down to `lo` set to `v`. -/
def eSet (e : BitVec 128) (hi lo v : Nat) : BitVec 128 :=
  BitVec.ofNat 128 (e.toNat - eBits e hi lo * 2 ^ lo + (v % 2 ^ (hi + 1 - lo)) * 2 ^ lo)

/-- The port or port group an entry names, with its grp bit; none for a namespace entry. -/
def ePort (e : BitVec 128) : Option (Nat × Bool) :=
  match eKind e with
  | 1 => some (eBits e 87 82, eBits e 81 81 = 1)
  | 2 => some (eBits e 105 100, eBits e 99 99 = 1)
  | 4 => some (eBits e 59 54, eBits e 53 53 = 1)
  | _ => none

/-- The next-hop MAC address of an EID or module entry. -/
def eMac (e : BitVec 128) : Nat := if eKind e = 1 then eBits e 80 33 else eBits e 94 47

/-- The hash key of an EID. -/
def keyEid (x : Eid) : BitVec 64 := BitVec.ofNat 64 (2 ^ 60 + x.toNat * 2 ^ 28)
/-- The hash key of a module ID. -/
def keyModule (m : Nat) : BitVec 64 := BitVec.ofNat 64 (2 * 2 ^ 60 + m * 2 ^ 46)
/-- The hash key of a namespace. -/
def keyNs (n : Nat) : BitVec 64 := BitVec.ofNat 64 (3 * 2 ^ 60 + n * 2 ^ 28)
/-- The hash key of a MAC address and VLAN. -/
def keyMac (mac vlan : Nat) : BitVec 64 := BitVec.ofNat 64 (4 * 2 ^ 60 + mac * 2 ^ 12 + vlan)

/-- The hash key of an entry (R367). -/
def eKey (e : BitVec 128) : BitVec 64 :=
  match eKind e with
  | 1 => keyEid (BitVec.ofNat 32 (eBits e 119 88))
  | 2 => keyModule (eBits e 119 106)
  | 3 => keyNs (eBits e 119 88)
  | 4 => keyMac (eBits e 119 72) (eBits e 71 60)
  | _ => 0

/-- A learned EID entry (R377). -/
def mkEid (x : Eid) (port mac : Nat) : BitVec 128 :=
  BitVec.ofNat 128 (2 ^ 124 + x.toNat * 2 ^ 88 + port * 2 ^ 82 + mac * 2 ^ 33)
/-- A module entry (R380). -/
def mkModule (m port : Nat) (grp : Bool) (hops mac : Nat) : BitVec 128 :=
  BitVec.ofNat 128 (2 * 2 ^ 124 + m * 2 ^ 106 + port * 2 ^ 100 + bit grp * 2 ^ 99 + hops * 2 ^ 95 + mac * 2 ^ 47)
/-- A namespace entry (R341, R342). -/
def mkNs (n owner : Nat) (gen : Word32) (expiry : Nat) : BitVec 128 :=
  BitVec.ofNat 128 (3 * 2 ^ 124 + n * 2 ^ 88 + owner * 2 ^ 74 + gen.toNat * 2 ^ 42 + (expiry % 65536) * 2 ^ 26)
/-- A learned MAC entry (R377). -/
def mkMac (mac vlan port : Nat) : BitVec 128 :=
  BitVec.ofNat 128 (4 * 2 ^ 124 + mac * 2 ^ 72 + vlan * 2 ^ 60 + port * 2 ^ 54)

/-! ## Buckets (R365, R367) -/

/-- The number of buckets of a table: 262,144 of the EPT, 131,072 of the L2 table. -/
def fwdBuckets (t : Nat) : Nat := if t = 0 then 262144 else 131072

/-- CRC-32C of the 8 key bytes with a seed as initial value (R367). -/
def seedHash (seed : Nat) (k : BitVec 64) : Nat :=
  (((leBytes 8 k.toNat).foldl (fun c b => Nat.repeat crcStep 8 (c ^^^ b.zeroExtend 32)) (BitVec.ofNat 32 seed)) ^^^
    0xFFFFFFFF).toNat

/-- The two candidate buckets of a key under a seed bank (R367). -/
def State.bucketsOf (s : State) (t bank : Nat) (k : BitVec 64) : Nat × Nat :=
  let b1 := seedHash (s.get FWD_SEED_seed1 (ix2 2 t bank)) k % fwdBuckets t
  let b2 := seedHash (s.get FWD_SEED_seed2 (ix2 2 t bank)) k % fwdBuckets t
  (b1, if b1 = b2 then b1 ^^^ 1 else b2)

/-- The forwarding table of a number. -/
def State.ftab (s : State) (t : Nat) : FwdTbl := tgetD s.fwd.tables t {}

/-- The entries of a table, the stash after the buckets. -/
def FwdTbl.all (x : FwdTbl) : List (BitVec 128) := x.slots.map (·.2) ++ x.stash

/-- The four slots of a bucket. -/
def FwdTbl.bucket (x : FwdTbl) (b : Nat) : List (Option (BitVec 128)) := (List.range 4).map fun j => tget x.slots (b, j)

/-- Whether a rehash of a table runs (R375): migrating or stalled. -/
def State.rehashing (s : State) (t : Nat) : Bool := s.get FWD_TABLE_state t = 1 || s.get FWD_TABLE_state t = 2

/-- Where a lookup of a key looks: the candidate buckets of the active bank, of both banks during a rehash (R371). -/
def State.lookBuckets (s : State) (t : Nat) (k : BitVec 64) : List Nat :=
  let a := s.get FWD_TABLE_active t
  let p := s.bucketsOf t a k
  if s.rehashing t then let q := s.bucketsOf t (1 - a) k; [p.1, p.2, q.1, q.2] else [p.1, p.2]

/-- The slot that holds a key among its candidate buckets. -/
def State.slotOf (s : State) (t : Nat) (k : BitVec 64) : Option (Nat × Nat) :=
  let x := s.ftab t
  ((s.lookBuckets t k).flatMap fun b => (List.range 4).map fun j => (b, j)).find? fun p =>
    match tget x.slots p with
    | some e => eKey e = k
    | none => false

/-- The entry of a key: the first match in its candidate buckets, then in the stash (R371). -/
def State.fwdFind (s : State) (t : Nat) (k : BitVec 64) : Option (BitVec 128) :=
  match s.slotOf t k with
  | some p => tget (s.ftab t).slots p
  | none => (s.ftab t).stash.find? fun e => eKey e = k

/-! ## Table changes -/

/-- The learned entries of both tables that name a port (R378). -/
def State.learnedOf (s : State) (p : Nat) : Nat :=
  (((s.ftab 0).all ++ (s.ftab 1).all).filter fun e =>
    !eStatic e && (eKind e = 1 || eKind e = 4) && ePort e = some (p, false)).length

/-- The learned count of a port follows the tables; it saturates at 16 bits. -/
def State.relearn (s : State) (p : Nat) : State :=
  if p < 34 then s.set FWD_PORT_CFG_learned p (min (s.learnedOf p) 65535) else s

/-- The learned counts of the ports that entries name follow the tables. -/
def State.relearnAll (s : State) (l : List (BitVec 128)) : State :=
  s.each l fun s e => match ePort e with
    | some (p, false) => s.relearn p
    | _ => s

/-- A table changed by `n` writes: FWD_EPOCH.current advances (R372), FWD_TABLE follows, and a stash at stash_hi
requests a rehash once (R374). -/
def State.fwdPut (s : State) (t n : Nat) (x : FwdTbl) : State :=
  let s := { s with fwd := { s.fwd with tables := tput s.fwd.tables t x } }
  let s := s.set FWD_EPOCH_current 0 (s.get FWD_EPOCH_current + n)
  (s.set FWD_TABLE_entries t (x.slots.length + x.stash.length)).set FWD_TABLE_stash_used t x.stash.length

/-- A rehash is requested (R374): req is set and EV_FWD_REHASH_REQ raised once. -/
def State.rehashReq (s : State) (t : Nat) : State :=
  if s.flag FWD_TABLE_req t then s else (s.set FWD_TABLE_req t 1).raise EV_FWD_REHASH_REQ 0 t

/-- A move of the relocation search of R373: the bucket and slot of the victim and the victim's other bucket. -/
structure FwdMove where
  b : Nat
  s : Nat
  a : Nat
  deriving DecidableEq, Repr

/-- The relocation search of R373 from a bucket, at most `fuel` victims; the rotation of the buckets' slots with it. -/
def fwdSearch (other : BitVec 128 → Nat → Nat) : Nat → FwdTbl → Nat → List FwdMove → FwdTbl × Option (List FwdMove × Nat)
  | 0, x, _, _ => (x, none)
  | fuel + 1, x, b, path =>
    let order := (List.range 4).map fun j => (tgetD x.rotor b 0 + j) % 4
    match order.find? fun j => !(path.any fun m => m.b = b && m.s = j) with
    | none => (x, none)
    | some j =>
      let x := { x with rotor := tput x.rotor b ((j + 1) % 4) }
      match tget x.slots (b, j) with
      | none => (x, none)
      | some v =>
        let a := other v b
        let path := path ++ [⟨b, j, a⟩]
        match (List.range 4).find? fun f => (tget x.slots (a, f)).isNone with
        | some f => (x, some (path, f))
        | none => fwdSearch other fuel x a path

/-- The victims of a path moved, the last into its free slot first (R373). -/
def fwdShift (x : FwdTbl) : List FwdMove → Nat → FwdTbl
  | [], _ => x
  | [m], f => match tget x.slots (m.b, m.s) with
    | some v => { x with slots := tput x.slots (m.a, f) v }
    | none => x
  | m :: m' :: rest, f =>
    let x := fwdShift x (m' :: rest) f
    match tget x.slots (m.b, m.s) with
    | some v => { x with slots := tput x.slots (m'.b, m'.s) v }
    | none => x

/-- The result of an insertion (R373, R383): done, stashed or full. -/
inductive FwdIns where
  | done | stashed | full
  deriving DecidableEq, Repr

/-- The other candidate bucket of a victim under its own seed bank (R373). -/
def State.otherBucket (s : State) (t : Nat) (v : BitVec 128) (b : Nat) : Nat :=
  let p := s.bucketsOf t (eBank v) (eKey v)
  if b = p.1 then p.2 else p.1

/-- What placing a new key did: the table, the result, the entry writes and the relocations. -/
structure FwdPlaced where
  tbl    : FwdTbl
  res    : FwdIns
  writes : Nat
  moves  : Nat

/-- A key that the table does not hold placed under a bank: a free slot of its buckets, relocation, or the stash
(R373). The placements of a table are numbered from 1 (assumption log 115). -/
def State.fwdPlace (s : State) (t : Nat) (x : FwdTbl) (e : BitVec 128) : FwdPlaced :=
  let p := s.bucketsOf t (eBank e) (eKey e)
  let x := { x with inserts := x.inserts + 1 }
  match ([(p.1, 0), (p.1, 1), (p.1, 2), (p.1, 3), (p.2, 0), (p.2, 1), (p.2, 2), (p.2, 3)]).find? fun q =>
      (tget x.slots q).isNone with
  | some q => ⟨{ x with slots := tput x.slots q e }, .done, 1, 0⟩
  | none =>
    match fwdSearch (s.otherBucket t) 8 x (if x.inserts % 2 = 0 then p.1 else p.2) [] with
    | (x, some (m :: path, f)) =>
      let x := fwdShift x (m :: path) f
      ⟨{ x with slots := tput x.slots (m.b, m.s) e }, .done, path.length + 2, path.length + 1⟩
    | (x, _) =>
      if x.stash.length < 64 then ⟨{ x with stash := x.stash ++ [e] }, .stashed, 1, 0⟩ else ⟨x, .full, 0, 0⟩

/-- A placement entered in the state: counters, epoch, and a rehash requested by a full insertion or a stash at stash_hi
(R374). -/
def State.fwdPlacedAt (s : State) (t : Nat) (e : BitVec 128) (r : FwdPlaced) : State :=
  let s := if r.moves = 0 then s else s.bump (ctrFwd t 4) r.moves
  let s := (s.fwdPut t r.writes r.tbl).relearnAll [e]
  match r.res with
  | .done => s
  | .stashed =>
    let s := s.bump (ctrFwd t 5)
    if min (s.get FWD_LEARN_CFG_stash_hi) 64 ≤ r.tbl.stash.length then s.rehashReq t else s
  | .full => (s.bump (ctrFwd t 6)).rehashReq t

/-- The bank insertions use: the active one, the new one while a rehash runs (R373). -/
def State.insertBank (s : State) (t : Nat) : Nat :=
  if s.rehashing t then 1 - s.get FWD_TABLE_active t else s.get FWD_TABLE_active t

/-- An entry inserted (R373, R376): overwritten where its key stands, else placed under the insert bank. -/
def State.fwdInsert (s : State) (t : Nat) (e : BitVec 128) : State × FwdIns :=
  let x := s.ftab t
  let k := eKey e
  let s := s.bump (ctrFwd t 3)
  match s.slotOf t k with
  | some p => match tget x.slots p with
    | some old => ((s.fwdPut t 1 { x with slots := tput x.slots p (eSet e 120 120 (eBank old)) }).relearnAll [old, e], .done)
    | none => (s, .done)
  | none =>
    if x.stash.any fun o => eKey o = k then
      let old := x.stash.filter fun o => eKey o = k
      ((s.fwdPut t 1 { x with stash := x.stash.map fun o => if eKey o = k then eSet e 120 120 (eBank o) else o }).relearnAll
        (old ++ [e]), .done)
    else
      let e := eSet e 120 120 (s.insertBank t)
      let r := s.fwdPlace t x e
      (s.fwdPlacedAt t e r, r.res)

/-- Entries that satisfy a test removed from a table: each removal advances the epoch by 1. -/
def State.fwdRemove (s : State) (t : Nat) (p : BitVec 128 → Bool) : State :=
  let x := s.ftab t
  let gone := x.all.filter p
  if gone.isEmpty then s
  else
    (s.fwdPut t gone.length { x with slots := x.slots.filter fun (_, e) => !p e, stash := x.stash.filter fun e => !p e }).relearnAll
      gone

/-! ## Choosing a port (R368, R370, R378) -/

/-- Whether a port is up: front ports and pair links by MAC_PORT_STATUS, a pair link on which nothing has arrived for 300 µs excepted
(R326, R362), engine ports always, the CPU port while the receive ring is enabled (R362). -/
def State.portUp (s : State) (p : Nat) : Bool :=
  if p < 34 then s.flag MAC_PORT_STATUS_up p && !(decide (32 ≤ p) && s.pair.down.contains (p - 32)) else if p = 48 then s.swc.cpuUp else decide (36 ≤ p) && decide (p ≤ 39)

/-- A bit of a register field. -/
def fbit (v i : Nat) : Bool := v / 2 ^ i % 2 = 1

/-- The members of a port group that are up, ascending; a disabled group has none (R370). -/
def State.groupPorts (s : State) (g : Nat) : List Nat :=
  if s.flag FWD_PORT_GROUP_en g then
    (List.range 34).filter fun p => fbit (s.get FWD_PORT_GROUP_members g) p && s.portUp p
  else []

/-- The port an entry leads to, a group's member chosen by a hash; none is the null port (R19, R370). -/
def State.entryPort (s : State) (e : BitVec 128) (hash : Nat) : Option Nat :=
  match ePort e with
  | none => none
  | some (p, false) => if p < 34 || p = 48 || (36 ≤ p && p ≤ 39) then some p else none
  | some (g, true) =>
    let l := s.groupPorts g
    if l.isEmpty then none else l[hash % l.length]?

/-- The hash that chooses a group's member for an HKT frame (R370). -/
def hktHash (path : Nat) (src dst : Eid) : Nat := path % 16 + (crcEids [src, dst]).toNat % 16

/-- The ports a frame that misses is flooded to (R378). -/
def State.floodPorts (s : State) (ingress : Nat) : List Nat :=
  (List.range 34).filter fun p => s.flag FWD_PORT_CFG_flood_en p && s.portUp p && p != ingress

/-- The entry that forwards an EID: its own, else its module's (R368). -/
def State.eidEntry (s : State) (dst : Eid) : Option (BitVec 128) :=
  match s.fwdFind 0 (keyEid dst) with
  | some e => some e
  | none => s.fwdFind 0 (keyModule (dst.toNat / 2 ^ 18))

/-- The ports an HKT packet leaves by (R368): its entry's, the flood ports on a miss, none where it is discarded. -/
def State.hktPorts (s : State) (src dst : Eid) (path ingress : Nat) : List Nat :=
  match s.eidEntry dst with
  | some e => match s.entryPort e (hktHash path src dst) with
    | some p => if p = ingress then [] else [p]
    | none => []
  | none => s.floodPorts ingress

/-- The first egress port of a packet the module sends, for R78. -/
def egressRoot (s : State) (src dst : Eid) (path : Nat) : Option Nat := (s.hktPorts src dst path 64).head?

end Sys2Proof.Machine
end

