-- ==== Sys2Proof/Machine/Wire.lean ====
section
/-! DEFINITION. The bytes of Hokutra packets as they stand on the wire: base header (R46), extension headers (R49), payloads, LEARN
records among them (R341, R380), what line protection authenticates and encrypts (R70, R171, R172), and a packet's length (R42). -/

namespace Sys2Proof.Machine

/-- The flags byte (R46). -/
def flagBits (f : HktFlags) : Nat := 128 * bit f.g + 64 * bit f.f + 32 * bit f.a + 16 * bit f.t + 8 * bit f.n

/-- The 32 B base header (R46). -/
def hdrBytes (h : HktHdr) : List Byte :=
  beBytes 1 (16 * h.version + h.opcode) ++ beBytes 1 (flagBits h.flags) ++ beBytes 1 (128 * bit h.rsvSvc + 16 * h.svc + h.path) ++
    beBytes 1 h.extLen ++ beBytes 4 h.dst.toNat ++ beBytes 4 h.src.toNat ++ beBytes 4 h.psn.toNat ++ beBytes 4 h.msgId.toNat ++
    beBytes 4 h.sendTs.toNat ++ beBytes 4 h.echoTs.toNat ++ beBytes 2 h.epoch.toNat ++ beBytes 2 h.unaDelta

/-- The extension header (R49), reserved fields 0. -/
def extBytes : HktExt → List Byte
  | .write x => beBytes 4 x.key.toNat ++ beBytes 8 x.offset ++ beBytes 4 x.msgLen ++ beBytes 2 x.pktIndex ++ beBytes 2 x.pktCount
  | .readReq x => beBytes 4 x.key.toNat ++ beBytes 8 x.offset ++ beBytes 4 x.readLen
  | .readResp x => beBytes 4 x.offset ++ beBytes 2 x.pktIndex ++ beBytes 2 x.pktCount
  | .send x => beBytes 2 x.service ++ beBytes 2 0 ++ beBytes 4 x.msgLen ++ beBytes 4 x.offset ++ beBytes 2 x.pktIndex ++
      beBytes 2 x.pktCount
  | .doorbell x => beBytes 2 x.qpn ++ beBytes 1 x.ring ++ beBytes 1 0 ++ beBytes 4 x.value
  | .ack x => beBytes 4 x.ackPsn.toNat ++ beBytes 2 x.rwnd ++ beBytes 1 x.echoPath ++ beBytes 1 0
  | .nak x => beBytes 4 x.nakPsn.toNat ++ beBytes 4 x.ackPsn.toNat ++ beBytes 1 x.code ++ beBytes 1 x.echoPath ++ beBytes 2 x.info
  | .probe x => beBytes 4 x.id.toNat ++ beBytes 1 x.kind ++ beBytes 1 x.path ++ beBytes 2 0
  | .learnLoc hop seq l => beBytes 2 l.length ++ beBytes 1 0x10 ++ beBytes 1 hop ++ beBytes 4 seq.toNat
  | .learnMod hop seq l => beBytes 2 l.length ++ beBytes 1 0x01 ++ beBytes 1 hop ++ beBytes 4 seq.toNat

/-- A location record's 16 B (R341). -/
def locBytes (r : LocRec) : List Byte :=
  beBytes 4 r.nsid ++ beBytes 2 (r.ownerId % 16384) ++ beBytes 1 (bit r.withdraw) ++ beBytes 1 0 ++ beBytes 4 r.ownerGen.toNat ++
    beBytes 2 r.ttl ++ beBytes 2 0

/-- A module record's 8 B (R380). -/
def modBytes (r : ModRec) : List Byte :=
  beBytes 2 (r.moduleId % 16384) ++ beBytes 1 r.hops ++ beBytes 1 (bit r.withdraw) ++ beBytes 4 0

/-- The location record that 16 B spell. -/
def locParse (l : List Byte) : LocRec :=
  ⟨beAt l 0 4, beAt l 4 2 % 16384, beAt l 6 1 % 2 = 1, BitVec.ofNat 32 (beAt l 8 4), beAt l 12 2⟩

/-- The module record that 8 B spell. -/
def modParse (l : List Byte) : ModRec := ⟨beAt l 0 2 % 16384, beAt l 2 1, beAt l 3 1 % 2 = 1⟩

/-- A packet's payload (R47). -/
def payloadOf : HktExt → List Byte
  | .write x => x.payload
  | .readResp x => x.payload
  | .send x => x.payload
  | .learnLoc _ _ l => l.flatMap locBytes
  | .learnMod _ _ l => l.flatMap modBytes
  | _ => []

/-- A packet's extension with another payload. -/
def withPayload (x : HktExt) (l : List Byte) : HktExt :=
  match x with
  | .write x => .write { x with payload := l }
  | .readResp x => .readResp { x with payload := l }
  | .send x => .send { x with payload := l }
  | .learnLoc h q r => .learnLoc h q ((List.range r.length).map fun j => locParse (l.drop (16 * j)))
  | .learnMod h q r => .learnMod h q ((List.range r.length).map fun j => modParse (l.drop (8 * j)))
  | x => x

/-- The bytes of a packet's payload as it stands on the wire: encrypted where it has been (R70). -/
def carried (p : HktPkt) : Nat := if p.ing.body.isEmpty then (payloadOf p.ext).length else p.ing.body.length

/-- Bytes of a packet on the wire: Ethernet header and tag, IP header of either version, UDP, base and extension headers, payload, GCM
tag, FCS (R42). -/
def pktBytes (v6 tagged : Bool) (p : HktPkt) : Nat :=
  14 + (if tagged then 4 else 0) + (if v6 then 40 else 20) + 8 + 32 + 4 * p.hdr.extLen + carried p + (if p.hdr.flags.g then 16 else 0) + 4

/-- The headers as line protection authenticates them (R172): with send_ts, echo_ts, the path, flags.t and una_delta 0 for the
PSN-consuming opcodes, unchanged for the others. -/
def authHdr (h : HktHdr) : HktHdr :=
  if h.opcode ≤ 5 then { h with sendTs := 0, echoTs := 0, path := 0, unaDelta := 0, flags := { h.flags with t := false } } else h

/-- The authenticated data of a packet (R70, R172). -/
def authData (p : HktPkt) : List Byte := hdrBytes (authHdr p.hdr) ++ extBytes p.ext

/-- The nonce's nkind (R171). -/
def nonceKind (p : HktPkt) : Nat :=
  if p.hdr.opcode ≤ 5 then 0 else match p.ext with | .probe x => if x.kind = 1 then 0xCA else 0x8A | _ => 0x80 + p.hdr.opcode

/-- The 96-bit nonce (R171): nkind, zero, stamp, seq. -/
def gcmNonce (p : HktPkt) : List Byte :=
  beBytes 1 (nonceKind p) ++ beBytes 3 0 ++ beBytes 4 (if p.hdr.opcode ≤ 5 then 0 else p.hdr.sendTs.toNat) ++ beBytes 4 p.hdr.psn.toNat

end Sys2Proof.Machine
end

