-- ==== Sys2Proof/Machine/SwcCore.lean ====
section
/-! DEFINITION. The switch buffer as every block that queues frames uses it (chapter 12): cells and staging units, depth,
admission (R350, R351), PFC (R83), scheduler leaves (R86 to R92). -/

namespace Sys2Proof.Machine

open F

/-! ## Units of a free list -/

/-- Whether a unit is off the free list. -/
def CellUse.taken (u : CellUse) : Bool := !u.onFree

/-- The units of a list that are off the free list. -/
def takenCount (t : Table Nat CellUse) : Nat := (t.filter fun (_, u) => u.taken).length

/-- The lowest `n` units from `i` on that are on the free list and not listed, within `fuel` tries. -/
def freeUnits (t : Table Nat CellUse) (size : Nat) : Nat → Nat → Nat → List Nat
  | 0, _, _ => []
  | _, 0, _ => []
  | fuel + 1, n + 1, i =>
    if size ≤ i then []
    else if (tget t i).isSome then freeUnits t size fuel (n + 1) (i + 1)
    else i :: freeUnits t size fuel n (i + 1)

/-- Units allocated with `rc` references each. -/
def takeUnits (t : Table Nat CellUse) (l : List Nat) (rc sweep : Nat) : Table Nat CellUse :=
  l.foldl (fun t i => tput t i { refs := rc, rc := rc, sweep := sweep }) t

/-- One reference to each unit given up; a unit returns to the free list with its last (R348). -/
def dropUnits (t : Table Nat CellUse) (l : List Nat) : Table Nat CellUse :=
  l.foldl (fun t i => match tget t i with
    | some u => if u.rc ≤ 1 then tdel t i else tput t i { u with rc := u.rc - 1, refs := u.refs - 1 }
    | none => t) t

/-- One more reference to each unit. -/
def shareUnits (t : Table Nat CellUse) (l : List Nat) : Table Nat CellUse :=
  l.foldl (fun t i => tmod t i fun u => { u with rc := u.rc + 1, refs := u.refs + 1 }) t

/-- The free cell count (R364). -/
def State.freeCells (s : State) : Nat := 262144 - takenCount s.swc.cells

/-- SWC_BUF_STATUS follows the free list; min_free keeps the lowest count. -/
def State.bufStatus (s : State) : State :=
  let n := s.freeCells
  (s.set SWC_BUF_STATUS_free_cells 0 n).set SWC_BUF_STATUS_min_free 0 (min n (s.get SWC_BUF_STATUS_min_free))

/-- Cells in 256 B units (R348). -/
def cellsOf (bytes : Nat) : Nat := (bytes + 255) / 256

/-- Cells allocated for `rc` references; the lowest free numbers are taken (DESIGN CHOICE, assumption log 12). -/
def State.takeCells (s : State) (n rc : Nat) : List Nat × State :=
  let l := freeUnits s.swc.cells 262144 (s.swc.cells.length + n + 1) n 0
  (l, { s with swc := { s.swc with
      cells := takeUnits s.swc.cells l rc (s.get SWC_MORAINE_STATUS_sweeps) } }.bufStatus)

/-- A reference to cells given up. -/
def State.dropCells (s : State) (l : List Nat) : State :=
  { s with swc := { s.swc with cells := dropUnits s.swc.cells l } }.bufStatus

/-! ## Staging (R28, R80) -/

/-- Payload bytes kept for retransmission on all contexts (R63). -/
def State.keptBytes (s : State) : Nat :=
  s.hkt.ctxs.foldl (fun n c => c.copies.foldl (fun n x => n + (payloadOf x.pkt.ext).length) n) 0

/-- The staging units that kept copies take: those of the bytes beyond the 512 MiB payload part of the transport spill area (R54, R63). -/
def State.copyUnits (s : State) : Nat := (s.keptBytes - 536870912 + 4095) / 4096

/-- The staging units in use. -/
def State.stageUsed (s : State) : Nat := takenCount s.swc.stage + s.copyUnits

/-- Whether staging has no unit left (R80). -/
def State.stageFull (s : State) : Bool := decide (24576 ≤ s.stageUsed)

/-- A staging unit for a block of a command; none where none is free, unchanged where the block has one. -/
def State.takeStage (s : State) (cmd block : Nat) : Option State :=
  if (tget s.swc.stageOf (cmd, block)).isSome then some s
  else if s.stageFull then none
  else match freeUnits s.swc.stage 24576 (s.swc.stage.length + 1) 1 0 with
    | i :: _ => some { s with swc := { s.swc with
        stage := takeUnits s.swc.stage [i] 1 (s.get SWC_MORAINE_STATUS_sweeps)
        stageOf := tput s.swc.stageOf (cmd, block) i } }
    | [] => none

/-- Where a block of a read lies: a staging unit, else a unit of the 8 GiB read assembly area (R28, R29); none where neither is free. -/
def State.takeReadUnit (s : State) (cmd block : Nat) : Option State :=
  match s.takeStage cmd block with
  | some s => some s
  | none =>
    if s.swc.spill.contains (cmd, block) then some s
    else if 2097152 ≤ s.swc.spill.length then none
    else some { s with swc := { s.swc with spill := s.swc.spill ++ [(cmd, block)] } }

/-- The unit of a command's block freed. -/
def State.dropStage (s : State) (cmd block : Nat) : State :=
  let s := { s with swc := { s.swc with spill := s.swc.spill.erase (cmd, block) } }
  match tget s.swc.stageOf (cmd, block) with
  | some i => { s with swc := { s.swc with stage := dropUnits s.swc.stage [i], stageOf := tdel s.swc.stageOf (cmd, block) } }
  | none => s

/-- Every unit of a command freed. -/
def State.dropStages (s : State) (cmd : Nat) : State :=
  let s := { s with swc := { s.swc with spill := s.swc.spill.filter fun x => x.1 != cmd } }
  s.each ((s.swc.stageOf.filter fun (k, _) => k.1 = cmd).map (·.1.2)) fun s b => s.dropStage cmd b

/-! ## Egress queues -/

/-- The cells an item of the scheduler holds. -/
def TmsItem.cellCount (i : TmsItem) : Nat := i.cells.length

/-- The items waiting on a root in a class. -/
def State.itemsOn (s : State) (root cls : Nat) : List TmsItem :=
  (s.tms.leaves.filter fun x => x.root = root && x.cls = cls).flatMap fun x => x.green ++ x.yellow

/-- The copies of frames that stand in the egress queue of an engine port or the CPU port. -/
def State.queuedTo (s : State) (p tc : Nat) : List SwcFrame :=
  (s.swc.frames.map (·.2)).filter fun x => x.copies.any fun c => c.dst = p && c.tc = tc && c.stamp.isSome

/-- The depth of an egress queue in cells (R98, R355). -/
def State.depth (s : State) (p tc : Nat) : Nat :=
  if p < 34 then (s.itemsOn p tc).foldl (fun n i => n + i.cellCount) 0
  else (s.queuedTo p tc).foldl (fun n x => n + x.cells.length) 0

/-- The head delay of an egress queue: now minus the oldest stamp, 0 when it is empty (R98). -/
def State.headDelay (s : State) (p tc : Nat) : Nat :=
  (s.itemsOn p tc).foldl (fun n i => max n (s.since i.stamp)) 0

/-! ## Admission (R350, R351) -/

/-- A privileged port: a pair link or the CPU port. -/
def privileged (p : Nat) : Bool := p = 32 || p = 33 || p = 48

/-- The reserve of a privileged port in cells. -/
def State.reserveOf (s : State) (p : Nat) : Nat :=
  if p = 32 || p = 33 then s.get SWC_BUF_CFG_reserve_pl else if p = 48 then s.get SWC_BUF_CFG_reserve_cpu else 0

/-- The cells charged to a privileged port's reserve. -/
def State.reserveUsed (s : State) (p : Nat) : Nat :=
  s.swc.frames.foldl (fun n (_, x) => match x.reserve with
    | some (q, k) => if q = p then n + k else n
    | none => n) 0

/-- The cells left in a privileged port's reserve. -/
def State.reserveLeft (s : State) (p : Nat) : Nat := s.reserveOf p - s.reserveUsed p

/-- The free cells of the shared pool, outside every reserve. -/
def State.poolFree (s : State) : Nat := s.freeCells - (s.reserveLeft 32 + s.reserveLeft 33 + s.reserveLeft 48)

/-- alpha of a class in 1/8 units (SWC_QLIMIT). -/
def State.alpha (s : State) (tc : Nat) : Nat := s.get SWC_QLIMIT_alpha / 2 ^ (8 * tc) % 256

/-- The alpha limit of an egress queue: alpha 0 admits only into an empty queue (R350, SWC_QLIMIT). -/
def State.alphaOk (s : State) (p tc n : Nat) : Bool :=
  if s.alpha tc = 0 then s.depth p tc = 0 else decide (8 * (s.depth p tc + n) ≤ s.alpha tc * s.poolFree)

/-- Whether cells for a destination are free: a privileged port's reserve first, then the pool (R350, R351). -/
def State.cellsOk (s : State) (p n : Nat) : Bool := decide (n - s.reserveLeft p ≤ s.poolFree)

/-! ## PFC (R82 to R85) -/

/-- The PFC state of a port and priority. -/
def State.pfc (s : State) (p tc : Nat) : Pfc := tgetD s.mac.pfc (p, tc) {}

/-- The state with the PFC state of a port and priority set. -/
def State.putPfc (s : State) (p tc : Nat) (x : Pfc) : State := { s with mac := { s.mac with pfc := tput s.mac.pfc (p, tc) x } }

/-- Whether a priority of a port has PFC enabled (R82). -/
def State.pfcOn (s : State) (p tc : Nat) : Bool := decide (p < 34) && fbit (s.get MAC_PFC_CFG_pfc_en p) tc

/-- The XOFF threshold of a port in cells. -/
def State.xoffCells (s : State) (p : Nat) : Nat := max (s.get MAC_PFC_CFG_xoff_cells p) 0x400

/-- The cells held for frames that arrived on a port with a priority (R83); a mirror copy alone is none of them (R359). -/
def State.heldCells (s : State) (p tc : Nat) : Nat :=
  s.swc.frames.foldl (fun n (_, x) =>
    if x.f.port = p && x.tc = tc && x.copies.any (·.mirror.isNone) then n + x.cells.length else n) 0

/-- The ingress test of a lossless frame (R83): within xoff_cells + headroom_cells, after a storm within xoff_cells
(R85). -/
def State.pfcAdmits (s : State) (p tc n : Nat) : Bool :=
  decide (s.heldCells p tc + n ≤ s.xoffCells p + (if (s.pfc p tc).tripped then 0 else s.get MAC_PFC_CFG_headroom_cells p))

/-- A PFC frame sent for a priority (R83). -/
def State.sendPfc (s : State) (p tc quanta : Nat) : State := (s.send (.pfc p tc quanta)).bump (ctrMac p (20 + tc))

/-- PFC_XOFF and PFC_XON (R83): at the threshold quanta 0xFFFF is sent, below it by 512 cells quanta 0. -/
def State.pfcWatch (s : State) (p tc : Nat) : State :=
  if !s.pfcOn p tc || (s.pfc p tc).tripped then s
  else
    let x := s.pfc p tc
    let n := s.heldCells p tc
    if !x.xoff && decide (s.xoffCells p ≤ n) then (s.putPfc p tc { x with xoff := true }).sendPfc p tc 0xFFFF
    else if x.xoff && decide (n < s.xoffCells p - 512) then (s.putPfc p tc { x with xoff := false }).sendPfc p tc 0
    else s

/-- Whether a port may start no new frame of a priority (R84); a tripped priority ignores PFC (R85). -/
def State.pausedAt (s : State) (p tc : Nat) : Bool := (s.pfc p tc).paused.isSome && !(s.pfc p tc).tripped

/-! ## Scheduler leaves (R86, R88, R92) -/

/-- The charged length of an item on a root: its bytes plus the root's signed overhead (R92). -/
def State.chargedLen (s : State) (root bytes : Nat) : Int :=
  (bytes : Int) + (BitVec.ofNat 8 (s.get TMS_PORT_SHAPE_overhead root)).toInt

/-- An item appended to the leaf of its root, class and tenant, green before yellow (R86, R88). -/
def tmsPut (l : List TmsLeaf) (root cls tenant : Nat) (yellow : Bool) (i : TmsItem) : List TmsLeaf :=
  if l.any fun x => x.root = root && x.cls = cls && x.tenant = tenant then
    l.map fun x =>
      if x.root = root && x.cls = cls && x.tenant = tenant then
        if yellow then { x with yellow := x.yellow ++ [i] } else { x with green := x.green ++ [i] }
      else x
  else l ++ [{ root := root, cls := cls, tenant := tenant, green := if yellow then [] else [i],
               yellow := if yellow then [i] else [] }]

/-- The state with an item waiting on a root. -/
def State.queueItem (s : State) (root cls tenant : Nat) (yellow : Bool) (w : TmsWork) (bytes : Nat) (cells : List Nat := []) :
    State :=
  { s with tms := { s.tms with
      leaves := tmsPut s.tms.leaves root cls tenant yellow ⟨w, s.chargedLen root bytes, cells, s.dtc⟩ } }

/-- A discard at admission counted for its egress queue (R350). -/
def State.dropAtQueue (s : State) (p tc bytes : Nat) : State :=
  if p < 34 then (s.bump (ctrSwcQ p tc 0)).bump (ctrSwcQ p tc 1) bytes else s

end Sys2Proof.Machine
end

