-- ==== Sys2Proof/Machine/HktCore.lean ====
section
/-! DEFINITION. The sending side of Hokutra transport, shared by every block that sends: EIDs and configuration, line
protection (R169 to R174), peer contexts and their space (R54, R56), paths (R44, R64), the window (R75), message
queueing and packet assignment (R52, R58, R62, R63). -/

namespace Sys2Proof.Machine

open F

/-! ## Identities and configuration -/

/-- The module ID (R317). -/
def State.moduleId (s : State) : Nat := s.get GLB_IDENT_module_id

/-- The module EID: module ID × 2^18 (R318). -/
def State.moduleEid (s : State) : Eid := BitVec.ofNat 32 (s.moduleId * 2 ^ 18)

/-- The management port EID (R427). -/
def State.mgmtEid (s : State) : Eid := s.moduleEid + 1

/-- Whether an EID is one of the module's (R48): its own two, and those it serves after a takeover. -/
def State.isLocal (s : State) (e : Eid) : Bool := e = s.moduleEid || e = s.mgmtEid || s.hkt.served.contains e

/-- Whether the top `n` bits of two EIDs agree. -/
def prefixEq (n : Nat) (a b : Eid) : Bool := a >>> (32 - min n 32) = b >>> (32 - min n 32)

/-- The engine group that serves a peer EID (R23). -/
def groupOf (e : Eid) : Nat := (crcEids [e]).toNat % 4

/-- The largest payload of one packet toward a peer (R45). -/
def payloadMax (h : Hkt) (peer : Eid) : Nat :=
  if h.jumbo.any fun (a, b) => decide (a.toNat ≤ peer.toNat) && decide (peer.toNat ≤ b.toNat) then 8192 else 4096

/-- The number of paths in use (HKT_PATH_CFG.paths, R64, R72). -/
def State.pathCount (s : State) : Nat :=
  let p := s.get HKT_PATH_CFG_paths
  if p = 0 || decide (16 < p) then 16 else p

/-- The minimum retransmit timeout in 640 ns units (R58, R72); 1 µs is 25/16 of a unit. -/
def State.rtoMin (s : State) : Rat := (atLeast1 (s.get HKT_TIMER_CFG_rto_min) : Rat) * 25 / 16

/-- The initial window in 1/256 packet (R75, R81). -/
def State.cwndInit (s : State) : Nat := 256 * min (atLeast1 (s.get HKT_CC_CFG_cwnd_init)) 1024

/-- The rwnd the module advertises (R80): 1,024 up to 75 % staging occupancy, falling to at least 16; staging is
counted in 4 KiB units of the 96 MiB. -/
def State.rwnd (s : State) : Nat :=
  let u := s.stageUsed
  if u * 4 ≤ 24576 * 3 then 1024 else max (1024 * (24576 - u) * 4 / 24576) 16

/-! ## Line protection -/

/-- The lowest-numbered enabled KEY_EP_PROT entry that matches a peer (R169). -/
def State.protEntry (s : State) (peer : Eid) : Option Nat :=
  ((regNonzero s.regs KEY_EP_PROT_prefix_len).filter fun e =>
    s.get KEY_EP_PROT_prefix_len e != 0 &&
      prefixEq (s.get KEY_EP_PROT_prefix_len e) (BitVec.ofNat 32 (s.get KEY_EP_PROT_eid e)) peer).min?

/-- The lanes of a class that are in service (R175, R193). -/
def State.lanesOf (s : State) (assured : Bool) : List Nat :=
  (if assured then (List.range 8).map (40 + ·) else List.range 40).filter fun l => !s.cip.failed.contains l

/-- Whether a class does no cipher work: the KEY block failed (R194), or every lane of the class did (R193). -/
def State.classDown (s : State) (assured : Bool) : Bool := s.get KEY_STATUS_state = 2 || (s.lanesOf assured).isEmpty

/-- The key of a slot that holds a loaded GCM key, where its class does cipher work (R169, R193, R194). -/
def State.gcmKey (s : State) (slot : Nat) : Option (BitVec 256) :=
  match tget s.key.slots slot with
  | some k => if k.kind = .gcm && k.state = .loaded && !s.classDown k.assured then some (k.value.truncate 256) else none
  | none => none

/-- The input of the session key derivation (R170). -/
def sessionInput (src dst : Eid) (epoch : BitVec 16) : List Byte :=
  beBytes 4 1 ++ beBytes 4 0x484B5453 ++ [0] ++ beBytes 4 src.toNat ++ beBytes 4 dst.toNat ++ beBytes 2 epoch.toNat ++
    beBytes 4 256

/-- The session key of a direction and epoch under a slot key: the first 256 bits of the HMAC (R170). -/
def sessionKey (k : BitVec 256) (src dst : Eid) (epoch : BitVec 16) : BitVec 256 :=
  (hmacSha384 (beBytes 32 k.toNat) (sessionInput src dst epoch)).extractLsb' 128 256

/-- The slot a cached session is fixed to (R174). -/
def sessionSlot (k : Key) (src dst : Eid) (epoch : BitVec 16) : Option Nat :=
  (k.sessions.find? fun x => x.src = src && x.dst = dst && x.epoch = epoch).map (·.slot)

/-- A session entered in the cache of 16,384 entries, the oldest leaving a full one (R170). -/
def Key.addSession (k : Key) (x : Session) : Key := { k with sessions := (x :: k.sessions).take 16384 }

/-- A session entered where none is cached for the packet's direction and epoch. -/
def State.noteSession (s : State) (h : HktHdr) (slot : Nat) : State :=
  if (sessionSlot s.key h.src h.dst h.epoch).isSome then s
  else { s with key := s.key.addSession ⟨h.src, h.dst, h.epoch, slot⟩ }

/-- A packet encrypted under a slot key (R70 to R72, R170): the ciphertext in place of the payload, and the tag. -/
def encryptPkt (k : BitVec 256) (p : HktPkt) : HktPkt :=
  let r := gcmSeal (sessionKey k p.hdr.src p.hdr.dst p.hdr.epoch) (gcmNonce p) (authData p) (payloadOf p.ext)
  { p with ext := withPayload p.ext [], ing := { p.ing with body := r.1, tag := r.2 } }

/-- A received packet with its payload decrypted under a slot key, where its tag verifies (R70 to R72, R170). -/
def decryptPkt (k : BitVec 256) (p : HktPkt) : Option HktPkt :=
  (gcmOpen (sessionKey k p.hdr.src p.hdr.dst p.hdr.epoch) (gcmNonce p) (authData p) p.ing.body p.ing.tag).map fun l =>
    { p with ext := withPayload p.ext l }

/-- A packet made ready to leave: send_ts is the current time (R46); toward a protected peer it is encrypted under the session of its
epoch, which is cached (R70), and its send_ts noted for its nkind (R173); none where no usable key is there, so that it fails and
never leaves in clear (R169). -/
def State.seal (s : State) (p : HktPkt) : Option (HktPkt × State) :=
  let p := { p with hdr := { p.hdr with sendTs := ts32 s.dtc } }
  match s.protEntry p.hdr.dst with
  | none => some ({ p with hdr := { p.hdr with flags := { p.hdr.flags with g := false } } }, s)
  | some e =>
    let slot := (sessionSlot s.key p.hdr.src p.hdr.dst p.hdr.epoch).getD (s.get KEY_EP_PROT_slot e)
    (s.gcmKey slot).map fun k =>
      let p := { p with hdr := { p.hdr with flags := { p.hdr.flags with g := true } } }
      let s := { s with hkt := { s.hkt with stamps := tput s.hkt.stamps (p.hdr.src, p.hdr.dst, nonceKind p) p.hdr.sendTs } }
      (encryptPkt k p, s.noteSession p.hdr slot)

/-- Whether a packet must wait for the next 640 ns tick: one of its nkind has already left toward its protected peer with the present
send_ts (R173). -/
def State.stampTaken (s : State) (p : HktPkt) : Bool :=
  (s.protEntry p.hdr.dst).isSome && tget s.hkt.stamps (p.hdr.src, p.hdr.dst, nonceKind p) = some (ts32 s.dtc)

/-- Whether messages toward a peer can be sent: it is unprotected, or its entry names a usable GCM key (R169). -/
def State.peerUsable (s : State) (peer : Eid) : Bool :=
  match s.protEntry peer with
  | none => true
  | some e => (s.gcmKey (s.get KEY_EP_PROT_slot e)).isSome

/-! ## Sending a packet -/

/-- How a peer is reached (R42): as the last packet taken from it came, over IPv4 without a VLAN before one (assumption log 85). -/
def State.netOf (s : State) (peer : Eid) : PeerNet := tgetD s.hkt.nets peer {}

/-- The VLAN of a packet toward a peer on a port: the peer's, else the port's (R42). -/
def State.vlanTo (s : State) (port : Nat) (peer : Eid) : Nat :=
  if (s.netOf peer).vlan = 0 then s.get MAC_PORT_CFG_vlan port else (s.netOf peer).vlan

/-- The bytes of a packet on a port (R42). -/
def State.wireBytes (s : State) (port : Nat) (p : HktPkt) : Nat :=
  pktBytes (s.netOf p.hdr.dst).v6 (s.vlanTo port p.hdr.dst != 0) p

/-- The number the model gives the management port, which is no switch port (R427, assumption log 117). -/
def mgmtPort : Nat := 64

/-- What a packet carries outside its HKT headers on a port (R42, R43, R74, R369): DF over IPv4, a TTL or hop limit of 64, Not-ECT, the
UDP checksum 0 over IPv4 and computed over IPv6. -/
def State.wireOf (s : State) (port : Nat) (p : HktPkt) : HktWire :=
  let v6 := (s.netOf p.hdr.dst).v6
  let vlan := s.vlanTo port p.hdr.dst
  { port := port, dstMac := (s.eidEntry p.hdr.dst).map eMac
    srcMac := if port = mgmtPort then Config.macBase else s.get MAC_PORT_CFG_mac port
    tag := if vlan = 0 then none else some (vlan, p.hdr.svc)
    v6 := v6, df := !v6, ttl := 64, ecn := 0
    dscp := s.get TMS_DSCP_MAP_dscp / 2 ^ (6 * p.hdr.svc) % 64, udpPort := s.get HKT_UDP_PORT_udp_port
    udpSum := if v6 then Config.udpSum6 port p else 0 }

/-- A packet queued on one port: admitted to its egress queue as any frame (R350), whole, in its service class under a
tenant; else discarded and counted. -/
def State.sendOn (s : State) (p : HktPkt) (tenant : Nat) (yellow : Bool) (port : Nat) : State :=
  let n := cellsOf (s.wireBytes port p)
  if s.portUp port && s.cellsOk port n && s.alphaOk port p.hdr.svc n then
    let (l, s) := s.takeCells n 1
    s.queueItem port p.hdr.svc tenant yellow (.pkt p) (s.wireBytes port p) l
  else s.dropAtQueue port p.hdr.svc (s.wireBytes port p)

/-- A packet with flags.g as its destination's protection asks (R70). -/
def State.marked (s : State) (p : HktPkt) : HktPkt :=
  { p with hdr := { p.hdr with flags := { p.hdr.flags with g := (s.protEntry p.hdr.dst).isSome } } }

/-- A packet queued for transmission on the ports its destination and path select (R368), in its service class under a
tenant, flags.g set toward a protected peer (R70); one with no port is discarded and counted; one of the management port's EID waits
for that port (R427, assumption log 117). -/
def State.sendPkt (s : State) (p : HktPkt) (tenant : Nat) (yellow : Bool) : State :=
  let p := s.marked p
  if p.hdr.src = s.mgmtEid then { s with hkt := { s.hkt with mgmtOut := s.hkt.mgmtOut ++ [p] } }
  else
    let s := s.bump (ctrFwd 0 0)
    let s := match s.eidEntry p.hdr.dst with
      | some _ => s.bump (ctrFwd 0 1)
      | none => s.bump (ctrFwd 0 2)
    match s.hktPorts p.hdr.src p.hdr.dst p.hdr.path (36 + groupOf p.hdr.dst) with
    | [] => s.bump (ctrFwd 0 14)
    | l => s.each l fun s port => s.sendOn p tenant yellow port

/-! ## Contexts -/

/-- A context is quiescent (R54). -/
def HktCtx.quiescent (c : HktCtx) (now : Word64) (mpl : Nat) : Bool :=
  c.sndUna = c.sndNxt && c.unsent.isEmpty && c.reads.isEmpty && c.answering.isEmpty &&
    c.msgs.all (fun m => m.placed = 0) && c.fences.isEmpty && c.bitmap = 0 && !c.ackPend &&
    decide (mpl ≤ (now - c.lastRx).toNat) && decide (mpl ≤ (now - c.lastTx).toNat)

/-- rx_quiescent(ctx) of R57, which the spec names and defines nowhere: the receiving half of R54's conditions holds, nothing partly
placed, held or pending, no READ_REQ still being answered (DESIGN CHOICE, assumption log 86). -/
def HktCtx.rxQuiescent (c : HktCtx) : Bool :=
  c.msgs.all (fun m => m.placed = 0) && c.fences.isEmpty && c.bitmap = 0 && !c.ackPend && c.answering.isEmpty

/-- The maximum packet lifetime in ticks (R58, R72). -/
def State.mpl (s : State) : Nat := usTicks (max (s.get HKT_MPL_mpl_us) 100)

/-- The context of a local and a peer EID. -/
def ctxFind (l : List HktCtx) (loc peer : Eid) : Option HktCtx := l.find? fun c => c.localEid = loc && c.peerEid = peer

/-- The list without the context of a pair of EIDs. -/
def ctxDrop (l : List HktCtx) (loc peer : Eid) : List HktCtx := l.filter fun c => !(c.localEid = loc && c.peerEid = peer)

/-- The list with a context put in front, as the most recently used. -/
def ctxUse (l : List HktCtx) (c : HktCtx) : List HktCtx := c :: ctxDrop l c.localEid c.peerEid

/-- The list with a context changed in place. -/
def ctxSet (l : List HktCtx) (c : HktCtx) : List HktCtx :=
  l.map fun d => if d.localEid = c.localEid && d.peerEid = c.peerEid then c else d

/-- The contexts in the SRAM cache. -/
def ctxCached (l : List HktCtx) : Nat := (l.filter fun c => !c.spilled).length

/-- The contexts in the spill area. -/
def ctxSpilled (l : List HktCtx) : Nat := (l.filter fun c => c.spilled).length

/-- Room made in the cache for one more context (R54): a full cache lets its least recently used context go, discarded when quiescent,
else spilled; with the spill area full the least recently used quiescent one is discarded; none where there is none. -/
def ctxRoom (l : List HktCtx) (now : Word64) (mpl : Nat) : Option (List HktCtx) :=
  if ctxCached l < 16384 then some l
  else
    let cached := l.filter fun c => !c.spilled
    match cached.getLast? with
    | none => some l
    | some v =>
      if v.quiescent now mpl then some (ctxDrop l v.localEid v.peerEid)
      else if ctxSpilled l < 2097152 then some (ctxSet l { v with spilled := true })
      else (cached.filter fun c => c.quiescent now mpl).getLast?.map fun c => ctxDrop l c.localEid c.peerEid

/-- HKT_CTX_STATUS follows the contexts (R72). -/
def State.ctxStatus (s : State) : State :=
  (s.set HKT_CTX_STATUS_cached 0 (ctxCached s.hkt.ctxs)).set HKT_CTX_STATUS_spilled 0 (ctxSpilled s.hkt.ctxs)

/-- EV_HKT_SPILL_FULL, at most once per second (R54). -/
def State.spillFull (s : State) : State :=
  if (match s.hkt.spillFull with | some t => decide (s.since t < secTicks 1) | none => false) then s
  else { s.raise EV_HKT_SPILL_FULL 0 0 with hkt := { s.hkt with spillFull := some s.dtc } }

/-- The epoch a local EID gives its next context; its counter, first taken from the DRBG (R190), is then incremented (R56). -/
def State.nextEpoch (s : State) (loc : Eid) : BitVec 16 × State :=
  let (e, s) := match tget s.hkt.epochs loc with
    | some e => (e, s)
    | none => let (b, s) := s.drbg 1; (BitVec.ofNat 16 (beNat (b.take 2)), s)
  (e, { s with hkt := { s.hkt with epochs := tput s.hkt.epochs loc (e + 1) } })

/-- A new context for a pair of EIDs (R56, R75). -/
def State.freshCtx (s : State) (loc peer : Eid) (epoch : BitVec 16) : HktCtx :=
  { localEid := loc, peerEid := peer, sndEpoch := epoch, rto := s.rtoMin
    paths := List.replicate 16 {}, cwnd := { win := s.cwndInit }, lcwnd := { win := 262144 }
    lastRx := s.dtc, lastTx := s.dtc, epochAt := s.dtc }

/-- The context of a pair of EIDs brought into the cache, created where there is none; none where no room can be made
(R54, R56). -/
def State.needCtx (s : State) (loc peer : Eid) : Option (HktCtx × State) :=
  match ctxFind s.hkt.ctxs loc peer with
  | some c =>
    if c.spilled then
      match ctxRoom (ctxDrop s.hkt.ctxs loc peer) s.dtc s.mpl with
      | none => some (c, s)
      | some l =>
        let c := { c with spilled := false }
        let s := s.bump (ctrHkt (groupOf peer) 26)
        some (c, { s with hkt := { s.hkt with ctxs := c :: l } }.ctxStatus)
    else some (c, { s with hkt := { s.hkt with ctxs := ctxUse s.hkt.ctxs c } })
  | none =>
    match ctxRoom s.hkt.ctxs s.dtc s.mpl with
    | none => none
    | some l =>
      let (e, s) := s.nextEpoch loc
      let c := s.freshCtx loc peer e
      some (c, { s with hkt := { s.hkt with ctxs := c :: l } }.ctxStatus)

/-- The context of a received packet, where there is one, brought into the cache (R54). -/
def State.touchCtx (s : State) (loc peer : Eid) : State :=
  if (ctxFind s.hkt.ctxs loc peer).isSome then (match s.needCtx loc peer with | some (_, s) => s | none => s) else s

/-- The state with a context changed. -/
def State.putCtx (s : State) (c : HktCtx) : State := { s with hkt := { s.hkt with ctxs := ctxSet s.hkt.ctxs c } }

/-! ## Paths (R44, R64) -/

/-- The UDP source port that names a path (R44). -/
def pathPort (src dst : Eid) (gen path : Nat) : Nat :=
  let salt := (crcEids [src, dst]).toNat % 1024
  0xC000 + ((salt + 61 * gen) % 1024) * 16 + path

/-- The generation of a path. -/
def HktCtx.gen (c : HktCtx) (p : Nat) : Nat := match c.paths[p]? with | some x => x.gen | none => 0

/-- The lowest path RTT of a context. -/
def HktCtx.minRtt (c : HktCtx) (n : Nat) : Option Rat :=
  (c.paths.take n).foldl (fun m p => match m, p.rtt with
    | none, r => r
    | m, none => m
    | some a, some b => some (min a b)) none

/-- Whether a path may carry new packets: active, or every path slow and this one of the lowest RTT (R64). -/
def HktCtx.pathUsable (c : HktCtx) (n p : Nat) : Bool :=
  match c.paths[p]? with
  | none => false
  | some x => x.state = .active ||
      ((c.paths.take n).all (fun y => y.state = .slow) && x.rtt = c.minRtt n)

/-- The next path in rotation from `c.nextPath`, other than `avoid` while another is usable (R64). -/
def HktCtx.pickPath (c : HktCtx) (n : Nat) (avoid : Option Nat) : Nat :=
  let order := (List.range n).map fun j => (c.nextPath + j) % n
  match (order.filter fun p => c.pathUsable n p && some p != avoid) with
  | p :: _ => p
  | [] => match (order.filter fun p => c.pathUsable n p) with
    | p :: _ => p
    | [] => c.nextPath % n

/-! ## Window and sending -/

/-- The packets outstanding on a context. -/
def HktCtx.outstanding (c : HktCtx) : Nat := (c.sndNxt - c.sndUna).toNat

/-- The window w of R75 in 1/256 packet. -/
def HktCtx.w256 (c : HktCtx) : Nat := min (min c.cwnd.win c.lcwnd.win) (min (256 * c.peerRwnd) 262144)

/-- The bytes of READ_RESP a context still awaits (R80). -/
def HktCtx.readsDue (c : HktCtx) : Nat := c.reads.foldl (fun n r => n + r.len) 0

/-- Bytes a message carries in its packets. -/
def MsgBody.bytes : MsgBody → List Byte
  | .write _ _ d => d
  | .readReq _ _ _ => []
  | .readResp _ d => d
  | .send _ d => d

/-- The opcode of a message's packets (R47). -/
def MsgBody.opcode : MsgBody → Nat
  | .write .. => 1
  | .readReq .. => 2
  | .readResp .. => 3
  | .send .. => 4

/-- The extension length of an opcode in 4 B units (R46, R47); none for an unassigned one. -/
def extLenOf (op : Nat) : Option Nat :=
  if op = 1 then some 5 else if op = 2 then some 4 else if op = 3 then some 2 else if op = 4 then some 4
  else if op = 5 then some 2 else if op = 8 then some 2 else if op = 9 then some 3 else if op = 10 then some 2
  else if op = 11 then some 2 else none

/-- The number of packets of a message: every packet but the last carries the full payload size (R45). -/
def TxMsg.packets (m : TxMsg) (pay : Nat) : Nat := max ((m.body.bytes.length + pay - 1) / pay) 1

/-- Packet `k` of a message: its extension. -/
def TxMsg.extAt (m : TxMsg) (pay k : Nat) : HktExt :=
  let part := (m.body.bytes.drop (pay * k)).take pay
  match m.body with
  | .write key off d => .write ⟨key, off + pay * k, d.length, k, m.packets pay, part⟩
  | .readReq key off len => .readReq ⟨key, off, len⟩
  | .readResp _ _ => .readResp ⟨pay * k, k, m.packets pay, part⟩
  | .send svc d => .send ⟨svc, d.length, pay * k, k, m.packets pay, part⟩

/-- The msg_id packets of a message carry: in READ_RESP that of the READ_REQ (R46). -/
def TxMsg.wireId (m : TxMsg) : Word32 := match m.body with | .readResp r _ => r | _ => m.msgId

/-- Packet `k` of a message with the context's next PSN on a path (R62 on_send). -/
def buildPkt (c : HktCtx) (m : TxMsg) (pay k path : Nat) : HktPkt :=
  { hdr := { opcode := m.body.opcode, svc := m.svc, path := path, extLen := (extLenOf m.body.opcode).getD 0
             flags := { f := m.fence && m.packets pay = 1, n := m.notify && k + 1 = m.packets pay }
             dst := c.peerEid, src := c.localEid, psn := c.sndNxt, msgId := m.wireId, sendTs := 0, echoTs := 0
             epoch := c.sndEpoch, unaDelta := (c.sndNxt - c.sndUna).toNat }
    ext := m.extAt pay k
    ing := { port := 0, srcPort := pathPort c.localEid c.peerEid (c.gen path) path } }

/-- Room for a further kept copy: in the 512 MiB payload part of the spill area or in staging (R54, R63). -/
def State.copyRoom (s : State) : Bool :=
  decide (s.keptBytes + 8192 ≤ 536870912) || decide (s.stageUsed + 2 ≤ 24576)

/-- Whether the first queued message may have its next packet sent now: within the window and the limit of R52, copies
have room (R63), at most 32 fenced packets outstanding (R61), reads within R80, the epoch not at its end (R173). -/
def State.maySend (s : State) (c : HktCtx) (m : TxMsg) (limit : Nat) : Bool :=
  s.peerUsable c.peerEid && decide (c.outstanding < limit) && decide (c.outstanding < 1024) && s.copyRoom && !c.capped &&
    (!(s.protEntry c.peerEid).isSome || decide (s.since c.epochAt < secTicks 2048)) &&
    (!m.fence || decide ((c.copies.filter fun x => x.pkt.hdr.flags.f).length < 32)) &&
    (match m.body with
     | .readReq _ _ len => decide (c.readsDue + len ≤ c.w256 * payloadMax s.hkt c.peerEid / 256)
     | _ => true)

/-- One packet of the first queued message assigned the next PSN, kept, and queued for transmission (R62). -/
def State.sendOne (s : State) (c : HktCtx) (m : TxMsg) (rest : List TxMsg) : State × HktCtx :=
  let pay := payloadMax s.hkt c.peerEid
  let path := c.pickPath s.pathCount none
  let p := buildPkt c m pay m.sent path
  let m' := { m with sent := m.sent + 1 }
  let c' := { c with
    sndNxt := c.sndNxt + 1
    capped := c.capped || (c.sndNxt = 0xFFFFFFFF && (s.protEntry c.peerEid).isSome)
    rtoOn := true
    nextPath := (path + 1) % s.pathCount
    paths := lmod c.paths path fun x => { x with sent := x.sent + 1 }
    copies := c.copies ++ [⟨p, path, m.purpose, m.msgId, m.tenant, m.yellow⟩]
    unsent := if m'.sent < m.packets pay then m' :: rest else rest
    reads := match m.body with | .readReq key _ len => c.reads ++ [{ msgId := m.msgId, len := len, key := key, purpose := m.purpose }]
                               | _ => c.reads
    answering := match m.body with
      | .readResp r _ => if m'.sent < m.packets pay then c.answering else c.answering.erase r
      | _ => c.answering
    lastQueue := some ((egressRoot s c.localEid c.peerEid path).getD 63, m.svc)
    lastTx := s.dtc }
  let s := s.sendPkt p m.tenant m.yellow
  let s := s.bump (ctrHkt (groupOf c.peerEid) 0)
  let s := s.bump (ctrHkt (groupOf c.peerEid) 2) (s.wireBytes 0 p)
  (s.putCtx c', c')

/-- Packets sent from a context while its window allows, at most `fuel` (R75, R79 for w of 1 or more). -/
def State.pumpCtx : Nat → State → HktCtx → State
  | 0, s, _ => s
  | fuel + 1, s, c =>
    match c.unsent with
    | [] => s
    | m :: rest =>
      if s.maySend c m (c.w256 / 256) then let (s, c) := s.sendOne c m rest; State.pumpCtx fuel s c else s

/-- An entity placed on the calendar (R93) with the due time before this one: in the slot of its due time, or the last slot of the
horizon when that lies beyond it; one that waits already stays as it is. -/
def State.calPut (s : State) (w : CalEntity) (base due : Word64) : State :=
  let far := decide (16384 * 64 ≤ (due - s.dtc).toNat) && decide ((due - s.dtc).toNat < 2 ^ 63)
  let slot := if far then (s.dtc.toNat / 64 + 16383) % 16384 else due.toNat / 64 % 16384
  if s.tms.calendar.any fun e => e.what = w then s
  else { s with tms := { s.tms with calendar := s.tms.calendar ++ [⟨w, due, slot, base⟩] } }

/-- An entity taken off the calendar. -/
def State.calDrop (s : State) (w : CalEntity) : State :=
  { s with tms := { s.tms with calendar := s.tms.calendar.filter fun e => e.what != w } }

/-- The smoothed RTT a context uses, rto_min before the first sample (R76). -/
def State.srttOf (s : State) (c : HktCtx) : Rat := c.srtt.getD s.rtoMin

/-- The pacing interval srtt ÷ w in ticks (R79), w in 1/256 packet; a tick is 1/1024 of the RTT unit. -/
def State.paceTicks (s : State) (c : HktCtx) : Nat := (s.srttOf c * 1024 * 256 / (max c.w256 1 : Nat)).floor.toNat

/-- A context sends what it may: with w of 1 or more at once, below 1 paced on the calendar (R79). -/
def State.pump (s : State) (loc peer : Eid) : State :=
  match ctxFind s.hkt.ctxs loc peer with
  | none => s
  | some c =>
    if 256 ≤ c.w256 then s.pumpCtx 1024 c
    else if c.unsent.isEmpty || c.w256 = 0 then s
    else s.calPut (.paced loc peer) s.dtc (s.dtc + BitVec.ofNat 64 (s.paceTicks c))

/-- The key a message names; 0, which is never valid (R65), where it names none. -/
def MsgBody.key : MsgBody → Word32
  | .write k _ _ => k
  | .readReq k _ _ => k
  | _ => 0

/-- The table index of a region key (R65). -/
def keyIndex (k : Word32) : Nat := k.toNat % 2 ^ 18

/-- The tag of a region key (R65). -/
def keyTag (k : Word32) : Nat := k.toNat / 2 ^ 18

/-- Whether a key names a region in state REVOKING, so that no new packet naming it is built (R69). -/
def State.keyRevoking (s : State) (k : Word32) : Bool :=
  let r := tgetD s.hkt.regions (keyIndex k) {}
  r.state = .revoking && r.tag = keyTag k && k != 0

/-- A message queued toward a peer and sent as the window allows; without room for a context it waits (R54); one that names a region
being revoked is not built (R69). -/
def State.sendMsg (s : State) (loc peer : Eid) (body : MsgBody) (fence notify : Bool) (svc : Nat) (purpose : Purpose)
    (tenant : Nat := 4093) (yellow : Bool := false) : State :=
  let m : TxMsg := { msgId := s.hkt.nextMsg, body := body, fence := fence, notify := notify, svc := svc, purpose := purpose
                     tenant := tenant, yellow := yellow }
  if s.keyRevoking body.key then s
  else
    let s := { s with hkt := { s.hkt with nextMsg := s.hkt.nextMsg + 1 } }
    match s.needCtx loc peer with
    | none => { s.spillFull with hkt := { s.spillFull.hkt with waiting := s.spillFull.hkt.waiting ++ [(loc, peer, m)] } }
    | some (c, s) => (s.putCtx { c with unsent := c.unsent ++ [m] }).pump loc peer

end Sys2Proof.Machine
end

