-- ==== Sys2Proof/Machine/PairCore.lean ====
section
/-! DEFINITION. What every block uses of the pair (chapter 11): whether the shelf is a pair shelf and who is pool master
(R319), and sending a sequenced pair frame (R324, R326). -/

namespace Sys2Proof.Machine

open F

/-- Whether the module sits in a pair shelf (R301). -/
def State.pairShelf (s : State) : Bool := s.flag DRV_CFG_pair_shelf

/-- Whether the module sits in bay B (R317). -/
def State.bayB (s : State) : Bool := s.flag DRV_CFG_bay

/-- Whether the module is pool master (R319): a module without a pair shelf has every duty. -/
def State.isMaster (s : State) : Bool := !s.pairShelf || s.flag PAIR_STATUS_master

/-- Whether a pair link is up (R326). -/
def State.plUp (s : State) (l : Nat) : Bool := (s.get PAIR_STATUS_links / 2 ^ l) % 2 = 1

/-- The pair link the next sequenced frame takes (R326): alternately while both are up. -/
def State.nextLink (s : State) : Nat := if s.plUp 0 && s.plUp 1 then bit s.pair.onPl1 else if s.plUp 1 then 1 else 0

/-- A sequenced frame sent to the partner and kept until acknowledged (R326); nothing where no formation is active. -/
def State.pairSend (s : State) (m : PairMsg) : State :=
  if !s.pair.active then s
  else
    let s := (s.send (.pair s.nextLink s.pair.txNext s.pair.rxNext s.pair.formation m)).bump (ctrPair 0)
    { s with pair := { s.pair with
        kept := s.pair.kept ++ [(s.pair.txNext, m)], keptOn := tput s.pair.keptOn s.pair.txNext s.nextLink, txNext := (s.pair.txNext + 1) % 2 ^ 32, onPl1 := !s.pair.onPl1 } }

/-- The type of a sequenced pair frame (R325). -/
def pairType : PairMsg → Nat
  | .nevePut _ _ _ => 0x10
  | .firnPut _ _ => 0x11
  | .mirrorAck _ _ => 0x12
  | .neveRetire _ => 0x13
  | .neveFetch _ => 0x14
  | .firnReq _ _ => 0x15
  | .owner _ _ => 0x20
  | .segGrant _ => 0x21
  | .fwdCmd _ => 0x22
  | .fwdData _ _ _ => 0x23
  | .fwdDone _ _ _ _ => 0x24
  | .key _ => 0x30
  | .member _ => 0x31
  | .crevasse _ => 0x32
  | .slotRelease _ _ => 0x33
  | .slotTaken _ => 0x33
  | .slot _ => 0x33
  | .drive _ => 0x34

/-- The 16 B header of a pair frame sent on a link (R324), in network byte order (R10); a HEARTBEAT is type 0x01 and a LINK_ACK 0x02,
both with seq 0 (R325). -/
def pairHdrBytes (type link len seq ack formation : Nat) : List Byte :=
  beBytes 1 type ++ beBytes 1 (link % 2) ++ beBytes 2 len ++ beBytes 4 seq ++ beBytes 4 ack ++ beBytes 2 formation ++ beBytes 2 0

/-- The 32 B payload of a HEARTBEAT (R327). -/
def heartbeatBytes (h : Heartbeat) : List Byte :=
  beBytes 2 (h.moduleId % 16384) ++ beBytes 1 (128 * bit h.bayB + 16 * (h.state % 8) + 8 * bit h.master + 4 * bit h.dumping) ++
    beBytes 1 h.proto ++ beBytes 4 h.poolId ++ beBytes 4 h.count ++ beBytes 2 h.formation ++ beBytes 2 0 ++ beBytes 4 h.version ++
    beBytes 12 0

/-- The HEARTBEAT that 32 B spell (R327). -/
def heartbeatParse (l : List Byte) : Heartbeat :=
  { moduleId := beAt l 0 2 % 16384, bayB := 128 ≤ beAt l 2 1, state := beAt l 2 1 / 16 % 8, master := beAt l 2 1 / 8 % 2 = 1
    dumping := beAt l 2 1 / 4 % 2 = 1, proto := beAt l 3 1, poolId := beAt l 4 4, count := beAt l 8 4, formation := beAt l 12 2
    version := beAt l 16 4 }

/-- Whether commits are mirrored to the partner (R253, R257, R259): the pair is mirrored or resyncing. -/
def State.mirroring (s : State) : Bool :=
  s.get JNL_NEVE_STATUS_pair_state = 1 || s.get JNL_NEVE_STATUS_pair_state = 3

/-- Whether the pair is mirrored (R151). -/
def State.mirrored (s : State) : Bool := s.get JNL_NEVE_STATUS_pair_state = 1

/-- The effective durability mode of a namespace (R151). -/
def State.effMode (s : State) (n : Ns) : Nat := if n.mode = 0 && !s.mirrored then 2 else n.mode

/-- The namespace of a table index. -/
def State.ns (s : State) (i : Nat) : Option Ns := tget s.nsm.ns i

end Sys2Proof.Machine
end

