-- ==== Sys2Proof/Machine/QueueCore.lean ====
section
/-! DEFINITION. Queue pairs and commands as every block uses them (chapter 04): statuses, lookups, region allocation,
completing a command (R117, R125, R129), breaking chains (R125), failing a queue (R129), deleting one (R106), issuing a
fetch (R112, R113), applying a doorbell (R111). -/

namespace Sys2Proof.Machine

open F

/-! ## Statuses -/

namespace St
def ok : Status := ⟨0, 0, false⟩
def invalidOpcode : Status := ⟨0, 1, false⟩
def invalidField : Status := ⟨0, 2, false⟩
def cidConflict : Status := ⟨0, 3, false⟩
def dataTransfer : Status := ⟨0, 4, true⟩
def abortRequested : Status := ⟨0, 7, false⟩
def sqDeletion : Status := ⟨0, 8, false⟩
def invalidNs : Status := ⟨0, 0xB, false⟩
def prpOffset : Status := ⟨0, 0x13, false⟩
def sequenceError : Status := ⟨0, 0xC, true⟩
def sglLength : Status := ⟨0, 0xF, false⟩
def sglType : Status := ⟨0, 0x11, false⟩
def writeProtected : Status := ⟨0, 0x20, false⟩
def transient : Status := ⟨0, 0x22, false⟩
def cqInvalid : Status := ⟨1, 0, false⟩
def qidInvalid : Status := ⟨1, 1, false⟩
def qsizeInvalid : Status := ⟨1, 2, false⟩
def qDeletion : Status := ⟨1, 0xC, false⟩
def invalidVector : Status := ⟨1, 8, false⟩
def abortLimit : Status := ⟨1, 3, false⟩
def aerLimit : Status := ⟨1, 5, false⟩
def accessDenied : Status := ⟨2, 0x86, true⟩
def deferredWrite : Status := ⟨7, 0, false⟩
def nsMoved : Status := ⟨7, 1, true⟩
def regionRevoked : Status := ⟨7, 2, true⟩
def dmaAborted : Status := ⟨7, 3, false⟩
def heldTimeout : Status := ⟨7, 4, false⟩
def policed : Status := ⟨7, 5, false⟩
def chainBroken : Status := ⟨7, 6, true⟩
/-- Namespace Not Ready (SCT 0h, SC 82h), DNR as the cause gives (R155, R183, R194). -/
def notReady (dnr : Bool) : Status := ⟨0, 0x82, dnr⟩
end St

/-! ## Lookups -/

/-- The queue pair of a QPN. -/
def State.qp (s : State) (q : Nat) : Option Qp := tget s.qpe.qps q

/-- The command of a number. -/
def State.cmd (s : State) (c : Nat) : Option Cmd := tget s.qpe.cmds c

/-- The state with a queue pair set. -/
def State.putQp (s : State) (q : Nat) (x : Qp) : State := { s with qpe := { s.qpe with qps := tput s.qpe.qps q x } }

/-- The state with a queue pair changed where it exists. -/
def State.modQp (s : State) (q : Nat) (f : Qp → Qp) : State := { s with qpe := { s.qpe with qps := tmod s.qpe.qps q f } }

/-- The state with a command changed where it exists. -/
def State.modCmd (s : State) (c : Nat) (f : Cmd → Cmd) : State := { s with qpe := { s.qpe with cmds := tmod s.qpe.cmds c f } }

/-- The state without a command: it holds no slot of R113 any more. -/
def State.dropCmd (s : State) (c : Nat) : State := { s with qpe := { s.qpe with cmds := tdel s.qpe.cmds c } }

/-- The numbers of the commands of a queue, in fetch order. -/
def State.cmdsOf (s : State) (q : Nat) : List Nat := (s.qpe.cmds.filter fun (_, c) => c.qpn = q).map (·.1)

/-- The fetched commands of a queue without a posted CQE (R113). -/
def State.inflight (s : State) (q : Nat) : Nat := (s.cmdsOf q).length

/-- The queue pair an owner names by QPN; one of another owner is absent (R101). -/
def State.ownQp (s : State) (o : QOwner) (q : Nat) : Option Qp :=
  match s.qp q with
  | some x => if x.owner = o then some x else none
  | none => none

/-- The QPN of an owner's queue identifier. -/
def State.qpnOf (s : State) (o : QOwner) (qid : Nat) : Option Nat :=
  (s.qpe.qps.find? fun (_, x) => x.owner = o && x.qid = qid).map (·.1)

/-- The owner's admin queue pair. -/
def State.adminQp (s : State) (o : QOwner) : Option Nat :=
  (s.qpe.qps.find? fun (_, x) => x.owner = o && x.admin).map (·.1)

/-- The engine that serves a queue pair (R23): of the peer's group, QPN modulo 12; local queues lie in group 0. -/
def engineOf (x : Qp) (q : Nat) : Nat :=
  (match x.owner with | .net e => groupOf e | _ => 0) * 12 + q % 12

/-- The lowest number from `i` on that a table does not list, within `fuel` tries. -/
def firstFree {α : Type} (t : Table Nat α) : Nat → Nat → Option Nat
  | 0, _ => none
  | fuel + 1, i => match tget t i with
    | none => some i
    | some _ => firstFree t fuel (i + 1)

/-! ## Regions (R65, R105, R156) -/

/-- A region entry that is not FREE. -/
def Region.used (r : Region) : Bool := r.state != .free

/-- The lowest FREE region index from 3 on (R65): the module never assigns entries 0 to 2. -/
def freeRegion (t : Table Nat Region) : Nat → Nat → Option Nat
  | 0, _ => none
  | fuel + 1, i =>
    if 262144 ≤ i then none
    else if (tgetD t i {}).used then freeRegion t fuel (i + 1) else some i

/-- The key of a region index and its tag (R65). -/
def regionKey (i tag : Nat) : Word32 := BitVec.ofNat 32 (tag * 262144 + i)

/-- A region allocated (R105, R156): its key and the state; none when the table is full. -/
def State.allocRegion (s : State) (r : Region) : Option (Word32 × State) :=
  match freeRegion s.hkt.regions (s.hkt.regions.length + 1) 3 with
  | none => none
  | some i =>
    let tag := (tgetD s.hkt.regions i {}).tag
    some (regionKey i tag, { s with hkt := { s.hkt with
      regions := tput s.hkt.regions i { r with state := .valid, tag := tag } } })

/-- A region that a key names freed, its tag incremented mod 2^14 (R68); a key of an entry since freed names nothing. -/
def State.freeRegion (s : State) (k : Word32) : State :=
  let f (r : Region) : Region := if r.tag = keyTag k && r.used then { state := .free, tag := (r.tag + 1) % 16384 } else r
  { s with hkt := { s.hkt with regions := tmod s.hkt.regions (keyIndex k) f } }

/-- A region that a key names put into REVOKING (R68, R69). -/
def State.revokeRegion (s : State) (k : Word32) (cmd : Option Nat) : State :=
  let f (r : Region) : Region := if r.tag = keyTag k && r.used then { r with state := .revoking, revCmd := cmd } else r
  { s with hkt := { s.hkt with regions := tmod s.hkt.regions (keyIndex k) f } }

/-- The key a packet names; 0 where it names none. -/
def pktKey (p : HktPkt) : Word32 := match p.ext with | .write x => x.key | .readReq x => x.key | _ => 0

/-- A context without the unsent packets, the read and the answer of one of its own messages. -/
def HktCtx.dropOwn (c : HktCtx) (id : Word32) : HktCtx :=
  let gone := c.unsent.filter fun m => m.msgId = id
  { c with
    unsent := c.unsent.filter fun m => m.msgId != id
    reads := c.reads.filter fun r => r.msgId != id
    answering := gone.foldl (fun l m => match m.body with | .readResp r _ => l.erase r | _ => l) c.answering }

/-- The messages that name a key and still have packets to be sent, with their EIDs. -/
def State.queuedWith (s : State) (k : Word32) : List (Eid × Eid × TxMsg) :=
  (s.hkt.ctxs.flatMap fun c => (c.unsent.filter fun m => m.body.key = k).map fun m => (c.localEid, c.peerEid, m)) ++
    s.hkt.waiting.filter fun (_, _, m) => m.body.key = k

/-- Whether a message that names a key still has packets to be sent. -/
def State.keyQueued (s : State) (k : Word32) : Bool := !(s.queuedWith k).isEmpty

/-- The messages that name a key dropped, as far as their packets have not been sent (R69). -/
def State.dropQueued (s : State) (k : Word32) : State :=
  let drop (c : HktCtx) : HktCtx := (c.unsent.filter fun m => m.body.key = k).foldl (fun c m => c.dropOwn m.msgId) c
  { s with hkt := { s.hkt with ctxs := s.hkt.ctxs.map drop, waiting := s.hkt.waiting.filter fun (_, _, m) => m.body.key != k } }

/-- Whether a packet that names a key is not yet sent, or sent and not acknowledged (R69). -/
def State.keyInFlight (s : State) (k : Word32) : Bool :=
  s.keyQueued k || s.hkt.ctxs.any fun c => c.copies.any fun x => pktKey x.pkt = k

/-- Reads that name a key abandoned: their responses find no read any more (R563). -/
def State.dropReads (s : State) (k : Word32) : State :=
  { s with hkt := { s.hkt with ctxs := s.hkt.ctxs.map fun c => { c with reads := c.reads.filter fun r => r.key != k } } }

/-! ## Tenant and class of a command (R73, R87) -/

/-- The tenant of a command: its namespace's, or the system tenant. -/
def State.cmdTenant (s : State) (x : Cmd) : Nat :=
  match x.ns with
  | some i => match tget s.nsm.ns i with | some n => n.tenant | none => 4093
  | none => 4093

/-- The service class of what is queued for a command now: that of its namespace's tenant (R73, R91), else class 7. -/
def State.cmdClass (s : State) (x : Cmd) : Nat :=
  match x.ns.bind fun i => tget s.nsm.ns i with
  | some n => s.get TMS_TENANT_CFG_class n.tenant
  | none => 7

/-! ## Completing commands -/

/-- The fetched commands of the module without a posted CQE (R113, R138); one the partner forwarded is the partner's. -/
def State.cmdsHere (s : State) : Nat := (s.qpe.cmds.filter fun (_, x) => x.remote.isNone).length

/-- QPE_STATUS follows the commands and queue pairs (R138). -/
def State.qpeStatus (s : State) : State :=
  (s.set QPE_STATUS_cmds_in_flight 0 s.cmdsHere).set QPE_STATUS_qps_in_use 0 s.qpe.qps.length

/-- A completion of a queue that takes no CQEs is discarded and counted (R106, R129). -/
def State.discardCqe (s : State) (q c : Nat) : State :=
  ((s.dropCmd c).modQp q fun x => { x with discarded := x.discarded + 1 }).qpeStatus

/-- A command completes with a status: it waits for its CQE slot in order of completion (R118); on a queue in ERROR, or DELETING with a
failed ring, its CQE is discarded (R129); one the partner forwarded here is answered with FWD_DONE (R337). -/
def State.complete (s : State) (c : Nat) (st : Status) (dw0 : Word32 := 0) (dw1 : Word32 := 0) : State :=
  match s.cmd c with
  | none => s
  | some x =>
    if x.phase = .done then s
    else
      match x.remote with
      | some id => (s.dropCmd c).pairSend (.fwdDone id st dw0 dw1)
      | none =>
      match s.qp x.qpn with
      | none => (s.dropCmd c).qpeStatus
      | some q =>
        if q.state = .error || q.ringBad then s.discardCqe x.qpn c
        else
          (s.modCmd c fun x => { x with phase := .done, status := st, dw0 := dw0, dw1 := dw1 }).modQp x.qpn
            fun q => { q with comp := q.comp ++ [c] }

/-- Commands of a list completed with one status, in order. -/
def State.completeAll (s : State) (l : List Nat) (st : Status) (dw0 : Word32 := 0) (dw1 : Word32 := 0) : State :=
  s.each l fun s c => s.complete c st dw0 dw1

/-- Whether a command is a WAIT not yet complete that targets a queue (R123). -/
def Cmd.waitsOn (x : Cmd) (q : Nat) : Bool :=
  x.sqe.opcode = 0x80 && x.phase != .done && (x.sqe.cdw10.toNat % 65536 = q)

/-- The position of a ring slot counted from the queue's oldest, in ring order. -/
def ringPos (head slot n : Nat) : Nat := (slot + n - head) % n

/-- A WAIT's chain breaks (R125): the WAIT and every not-started entry after it in ring order before the known tail
complete with ST_CHAIN_BROKEN; unfetched entries are passed by. -/
def State.breakChain (s : State) (w target : Nat) : State :=
  match s.cmd w with
  | none => s
  | some x =>
    let err := match s.qp target with | some t => BitVec.ofNat 32 t.errCount | none => 0
    let s1 := s.complete w St.chainBroken (BitVec.ofNat 32 target) err
    let later := ((s.qpe.cmds.dropWhile fun (k, _) => k != w).drop 1).filter fun (_, y) =>
      y.qpn = x.qpn && y.phase = .fetched
    let s2 := s1.completeAll (later.map (·.1)) St.chainBroken 0xFFFFFFFF err
    s2.modQp x.qpn fun q => { q with broken := q.sqTail, breaking := q.sqHead != q.sqTail, breakErr := err }

/-- Every held WAIT on a queue that enters ERROR or DELETING completes with ST_CHAIN_BROKEN (R106, R125). -/
def State.breakWaitsOn (s : State) (q : Nat) : State :=
  s.each ((s.qpe.cmds.filter fun (_, x) => x.waitsOn q).map (·.1)) fun s w => s.breakChain w q

/-- The outstanding Asynchronous Event Requests of an owner whose admin queue goes: they wait for an event, and complete as
commands that have not started (DEDUCED, R106, R398). -/
def State.dropAers (s : State) (o : QOwner) : State :=
  let f := tgetD s.nsm.feats o {}
  if f.aers.isEmpty then s
  else { s with nsm := { s.nsm with feats := tput s.nsm.feats o { f with aers := [] } } }.completeAll f.aers St.sqDeletion

/-- Not-started commands of a queue complete with Command Aborted due to SQ Deletion (R106, R129, R134). -/
def State.abortUnstarted (s : State) (q : Nat) : State :=
  let s := match s.qp q with | some x => if x.admin then s.dropAers x.owner else s | none => s
  s.completeAll ((s.qpe.cmds.filter fun (_, x) => x.qpn = q && x.phase = .fetched).map (·.1)) St.sqDeletion

/-- The queue pair enters DELETING (R106): unfetched entries are discarded, not-started commands complete, WAITs on it
break. -/
def State.beginDelete (s : State) (q : Nat) : State :=
  match s.qp q with
  | none => s
  | some x =>
    if x.state = .deleting then s
    else
      let s := s.modQp q fun x => { x with state := .deleting, sqTail := x.sqHead, fetches := [], bells := [] }
      (s.abortUnstarted q).breakWaitsOn q

/-- A ring access failed (R129): the queue pair enters ERROR, its CQEs are discarded and counted, its not-started commands complete
and are discarded with the rest; a queue in DELETING stays there and loses every CQE not yet written. -/
def State.queueError (s : State) (q : Nat) : State :=
  match s.qp q with
  | none => s
  | some x =>
    if x.state = .error || x.ringBad then s
    else
      let s := s.each x.comp fun s c => s.discardCqe q c
      let s := s.modQp q fun y => { y with comp := [], merging := [], mergeLats := [], discarded := y.discarded + x.merging.length }
      if x.state = .deleting then s.modQp q fun x => { x with ringBad := true }
      else
        let s := s.modQp q fun x => { x with state := .error, fetches := [], sqTail := x.sqHead, bells := [] }
        let s := (s.abortUnstarted q).raise EV_QPE_QUEUE_ERROR 3 q
        ((s.bump (ctrQpe (engineOf x q) 7)).breakWaitsOn q).qpeStatus

/-! ## Fetch (R112, R113) -/

/-- The oldest fetched command of a queue that has not started (R113). -/
def State.nextToStart (s : State) (q : Nat) : Option Cmd :=
  (s.qpe.cmds.find? fun (_, x) => x.qpn = q && x.phase = .fetched).map (·.2)

/-- The token buckets of a slice refilled to now (R95, R411); a slice without any yet has them full. A rate of 0 leaves a
bucket unlimited. -/
def State.sliceShape (s : State) (n : Nat) : SliceShape :=
  let bb : Int := atLeast1 (s.get SLC_SHAPE_burst_16k n) * 16384 * 65536
  let bc : Int := atLeast1 (s.get SLC_SHAPE_burst_cmds n) * 65536
  match tget s.slc.shape n with
  | none => ⟨bb, bc, s.dtc⟩
  | some x =>
    let dt : Int := s.since x.last
    ⟨min bb (x.bytes + s.get SLC_SHAPE_max_rate n * 512 * dt / 100), min bc (x.cmds + s.get SLC_SHAPE_max_kiops n * 65536 * dt / 1600000),
      s.dtc⟩

/-- Whether a slice's shaper pauses its fetch (R411): a limited bucket is negative. -/
def State.sliceShaped (s : State) (n : Nat) : Bool :=
  let x := s.sliceShape n
  (s.get SLC_SHAPE_max_rate n != 0 && decide (x.bytes < 0)) || (s.get SLC_SHAPE_max_kiops n != 0 && decide (x.cmds < 0))

/-- The entries that outstanding fetches have been promised command slots for (R112). -/
def State.promised (s : State) : Nat := s.qpe.qps.foldl (fun n (_, x) => x.fetches.foldl (fun n f => n + f.count) n) 0

/-- The command slots of the module still free for a fetch (R112, R113). -/
def State.freeSlots (s : State) : Nat := 65536 - (s.cmdsHere + s.promised)

/-- Fetch of a queue stops (R113): slots of the queue or the module used up, Névé at high water with the next entry to
start a write that waits to reserve, or the queue not ACTIVE; a paused slice, the bus master off or its shaper hold it
too (R396, R411, R418). -/
def State.fetchStopped (s : State) (q : Nat) (x : Qp) : Bool :=
  decide (1024 ≤ s.inflight q) || s.freeSlots = 0 || x.state != .active || x.paused ||
    (match x.owner with | .net _ => false | o => !s.busOk o) ||
    (match x.owner with | .slice n => s.sliceShaped n || s.slc.stopped.contains n | _ => false) ||
    (s.flag JNL_NEVE_STATUS_high_water &&
      (match s.nextToStart q with
       | some c => (c.sqe.opcode = 1 || c.sqe.opcode = 0x19) && c.reserving
       | none => false))

/-- One fetch issued where entries are pending and nothing stops it (R112): at most batch entries, within the free
slots, not crossing the ring's end. -/
def State.fetchIssue (s : State) (q : Nat) : State :=
  match s.qp q with
  | none => s
  | some x =>
    let pend := (x.sqTail + x.sqEntries - x.sqHead) % x.sqEntries
    if pend = 0 || !x.fetches.isEmpty || s.fetchStopped q x then s
    else
      let n := min (min pend (clampNat 1 64 (s.get QPE_FETCH_CFG_batch)))
        (min (min (1024 - s.inflight q) s.freeSlots) (x.sqEntries - x.sqHead))
      let s := s.modQp q fun x => { x with fetches := [{ first := x.sqHead, count := n, asked := match x.owner with | .net _ => none | _ => some s.dtc }] }
      match x.owner with
      | .net e => s.sendMsg x.servEid e (.readReq x.sqKey (64 * x.sqHead) (64 * n)) false false 7 (.sqeFetch q)
      | o => s.hostOp o (.read (.sqe q) (x.sqBase.toNat + 64 * x.sqHead) (64 * n))

/-- Fetch once command slots of the module are free again (R113): queues with pending entries in rotation by QPN. -/
def State.fetchResume (s : State) : State :=
  let l := sortOn (fun q => (q + 65536 - s.qpe.rotor) % 65536) (s.qpe.qps.map (·.1))
  let t := s.each l State.fetchIssue
  let served := l.filter fun q => decide ((s.qp q).map (·.fetches) ≠ (t.qp q).map (·.fetches))
  { t with qpe := { t.qpe with rotor := (match served.getLast? with | some a => a + 1 | none => s.qpe.rotor) % 65536 } }

/-- A doorbell applied or ignored (R111, DOORBELL_CHECK). -/
def State.doorbell (s : State) (q ring value : Nat) : State :=
  match s.qp q with
  | none => s
  | some x =>
    let s := s.bump (ctrQpe (engineOf x q) 0)
    let bad := (s.bump (ctrQpe (engineOf x q) 1)).raise EV_QPE_DOORBELL_INVALID 3 q
    if x.state != .active then s.bump (ctrQpe (engineOf x q) 1)
    else if ring = 0 then
      if x.sqEntries ≤ value then bad
      else if value = x.sqTail then s
      else (s.modQp q fun x => { x with sqTail := value, bells := x.bells ++ [(value, s.dtc)] }).fetchIssue q
    else if ring = 1 then
      if decide (x.cqEntries ≤ value) ||
          decide (ringPos x.cqHead x.cqTail x.cqEntries < ringPos x.cqHead value x.cqEntries) then bad
      else s.modQp q fun x => { x with cqHead := value, fullRaised := x.fullRaised && value = x.cqHead }
    else bad

end Sys2Proof.Machine
end

