-- ==== Sys2Proof/Machine/StrCore.lean ====
section
/-! DEFINITION. The geometry of the pool (R196 to R202, R223, R231 to R235): members and granules, chunk places, k_cap,
extents, placement rows, the free fraction, and drive commands put on the drive root (R86, R305, R306). -/

namespace Sys2Proof.Machine

open F

/-! ## Members -/

/-- Whether a member is LIVE (R272). -/
def State.live (s : State) (x : Nat) : Bool := s.get REB_MEMBER_state x = 3

/-- The live members. -/
def State.liveMembers (s : State) : List Nat := (List.range 32).filter s.live

/-- N_live. -/
def State.nLive (s : State) : Nat := s.liveMembers.length

/-- Whether a boot is between step 5 and step 11 of R479: nothing is written to members then, and only replay reads them (R480). -/
def State.booting (s : State) : Bool := decide (3 ≤ s.get BOOT_STATUS_stage) && decide (s.get BOOT_STATUS_stage < 7)

/-- Whether reads can be issued to a member (R275, R312): it is live and its port is ready. -/
def State.readable (s : State) (x : Nat) : Bool := s.live x && s.get DRV_PORT_STATUS_state x = 3

/-- The granules of a member (R201): its capacity in MiB. -/
def State.granules (s : State) (x : Nat) : Nat := tgetD s.str.capacity x 0 / 256

/-- Granules of a member after its 16 label granules (R201, R232). -/
def State.useGranules (s : State) (x : Nat) : Nat := s.granules x - 16

/-- The spare reserve of a live member (R201). -/
def State.reserve (s : State) (x : Nat) : Nat :=
  if s.nLive = 0 then 0 else s.useGranules x * s.get STR_POOL_CFG_spare_members / s.nLive

/-- Records asked for that have not been appended yet: those parked, and those the pool master has been sent. -/
def State.coming (s : State) : List FirnBody := (s.jnl.parked ++ s.jnl.reqs).map (·.2)

/-- Whether a change of a segment's state waits for its record (R203), that of a restoration for its commit (R281). -/
def State.segPending (s : State) (i : Nat) : Bool :=
  (s.coming.any fun b => match b with | .segState j _ => j = i | _ => false) || (tget s.reb.work i).any (·.ended)

/-- The segments whose opening waits for its record. -/
def State.openingSegs (s : State) : List (Nat × Seg) :=
  s.coming.filterMap fun b => match b with
    | .segState i (some g) => if (tget s.str.segs i).isNone then some (i, g) else none
    | _ => none

/-- The extents taken on a member: base and length in granules, of segments, of those being opened, of restorations under way and of
segments granted. -/
def State.extents (s : State) (x : Nat) : List (Nat × Nat) :=
  ((s.str.segs ++ s.openingSegs).flatMap fun (_, g) =>
    (g.members.zip g.base).filterMap fun (y, b) => if y = x then some (b, g.e) else none) ++
  (s.reb.work.flatMap fun (seg, r) =>
    match tget s.str.segs seg with
    | none => []
    | some g => r.targets.filterMap fun (_, y, b) => if y = x then some (b, g.e) else none) ++
  (s.pair.grants.flatMap fun (_, l) => l.flatMap fun (_, g) =>
    (g.members.zip g.base).filterMap fun (y, b) => if y = x then some (b, g.e) else none)

/-- The first-fit base of `e` granules from `lo` on and below `hi`, given the taken extents (R201): the lowest start
that no extent overlaps; only starts at `lo` or after an extent need be tried. -/
def firstFit (taken : List (Nat × Nat)) (lo hi e : Nat) : Option Nat :=
  ((lo :: (taken.map fun (b, n) => b + n)).filter fun a =>
    decide (lo ≤ a) && decide (a + e ≤ hi) &&
      taken.all fun (b, n) => decide (a + e ≤ b) || decide (b + n ≤ a)).min?

/-- Where a new segment's extent would lie on a member: outside the labels and the spare reserve, which is the top of the
member (R201). -/
def State.newExtent (s : State) (x e : Nat) : Option Nat :=
  firstFit (s.extents x) 16 (s.granules x - s.reserve x) e

/-- Granules of a list of extents within a range. -/
def takenIn (l : List (Nat × Nat)) (a b : Nat) : Nat := l.foldl (fun n (x, e) => n + (min (x + e) b - max x a)) 0

/-- Free granules of a member outside labels and reserve (R231). -/
def State.freeGranules (s : State) (x : Nat) : Nat :=
  let top := s.granules x - s.reserve x
  (top - 16) - takenIn (s.extents x) 16 top

/-- Free granules of a member's reserve (R280). -/
def State.freeReserve (s : State) (x : Nat) : Nat :=
  s.reserve x - takenIn (s.extents x) (s.granules x - s.reserve x) (s.granules x)

/-- The granules of all live members less labels and reserves: G_u (R232). -/
def State.gu (s : State) : Nat := (s.liveMembers.map fun x => s.useGranules x - s.reserve x).sum

/-- The free fraction in 0.1 % (R231). -/
def State.freePm (s : State) : Nat := if s.gu = 0 then 0 else (s.liveMembers.map s.freeGranules).sum * 1000 / s.gu

/-! ## Groups -/

/-- m of a group (STR_GROUP_CFG). -/
def State.groupM (s : State) (g : Nat) : Nat := if s.get STR_GROUP_CFG_m g = 3 then 3 else 2

/-- k_max of a group. -/
def State.groupKmax (s : State) (g : Nat) : Nat := clampNat 4 28 (s.get STR_GROUP_CFG_k_max g)

/-- k_min of a group. -/
def State.groupKmin (s : State) (g : Nat) : Nat := min (clampNat 4 28 (s.get STR_GROUP_CFG_k_min g)) (s.groupKmax g)

/-- k_cap of a group (R233, R234): the largest k that its k_max and the live members allow. -/
def State.kCap (s : State) (g : Nat) : Nat := min (s.groupKmax g) (min 31 (s.nLive - 1) - s.groupM g)

/-- Whether a group is blocked (R235). -/
def State.groupBlocked (s : State) (g : Nat) : Bool := decide (s.kCap g < 4)

/-- The k that the host head of a group takes next: k_cur, which starts at k_min, held to k_cap (R233, R234). -/
def State.kCur (s : State) (g : Nat) : Nat :=
  let k := s.get STR_GROUP_STATUS_k_cur g
  min (if k = 0 then s.groupKmin g else k) (s.kCap g)

/-- m_meta: the largest m of the 16 groups (R223). -/
def State.mMeta (s : State) : Nat := ((List.range 16).map s.groupM).foldl max 2

/-- k of metadata segments (R223). -/
def State.kMeta (s : State) : Nat := min 8 (min 31 (s.nLive - 1) - s.mMeta)

/-- The group of a head; the metadata head has none. -/
def headGroup : HeadId → Option Nat
  | .host g => some g
  | .cold g => some g
  | .meta_ => none

/-- k and m of the next segment of a head (R197, R223, R233). -/
def State.headWidth (s : State) : HeadId → Nat × Nat
  | .host g => (s.kCur g, s.groupM g)
  | .cold g => (s.kCap g, s.groupM g)
  | .meta_ => (s.kMeta, s.mMeta)

/-! ## Places of blocks (R199, R200) -/

/-- Blocks of 4 KiB per chunk. -/
def State.chunkBlocks (s : State) : Nat := if s.str.chunk128 then 32 else 16

/-- Stripes of a segment: S (R200). -/
def State.segStripes (s : State) (g : Seg) : Nat := g.e * (if s.str.chunk128 then 8 else 16)

/-- Data blocks of a segment (R200). -/
def segBlocks (g : Seg) : Nat := g.k * g.e * 256

/-- The width of a segment. -/
def segW (g : Seg) : Nat := g.k + g.m

/-- Stripe, data chunk and row of a data block offset (R200). -/
def State.place (s : State) (g : Seg) (off : Nat) : Nat × Nat × Nat :=
  (off / (g.k * s.chunkBlocks), (off / s.chunkBlocks) % g.k, off % s.chunkBlocks)

/-- The data block offset of a stripe, data chunk and row (R200). -/
def State.offOf (s : State) (g : Seg) (st c row : Nat) : Nat := (st * g.k + c) * s.chunkBlocks + row

/-- The member that holds a chunk of a stripe (R199). -/
def chunkMember (g : Seg) (st c : Nat) : Nat := g.members.getD ((c + st) % segW g) 0xFF

/-- The member LBA of a row of a chunk of a stripe (R199, R306). -/
def State.chunkLba (s : State) (g : Seg) (st c row : Nat) : Nat :=
  g.base.getD ((c + st) % segW g) 0 * 256 + st * s.chunkBlocks + row

/-- The segment of a number. -/
def State.seg (s : State) (i : Nat) : Option Seg := tget s.str.segs i

/-- The state with a segment set. -/
def State.putSeg (s : State) (i : Nat) (g : Seg) : State := { s with str := { s.str with segs := tput s.str.segs i g } }

/-! ## Drive commands -/

/-- The class of a tenant's items on the drive root (R87). -/
def State.tenantClass (s : State) (t : Nat) : Nat := s.get TMS_TENANT_CFG_class t

/-- A drive command put on the drive root under a tenant (R86, R92); a map page read goes to the head of its leaf
(R211). -/
def State.driveQueue (s : State) (c : DriveCmd) (tenant : Nat) (front yellow : Bool := false) : State :=
  let cls := s.tenantClass tenant
  if front then
    let i : TmsItem := ⟨.drive c, s.chargedLen 34 (4096 * c.len), [], s.dtc⟩
    if s.tms.leaves.any fun x => x.root = 34 && x.cls = cls && x.tenant = tenant then
      { s with tms := { s.tms with leaves := s.tms.leaves.map fun x =>
          if x.root = 34 && x.cls = cls && x.tenant = tenant then { x with green := i :: x.green } else x } }
    else s.queueItem 34 cls tenant false (.drive c) (4096 * c.len)
  else s.queueItem 34 cls tenant yellow (.drive c) (4096 * c.len)

/-- Drive commands still waiting on the drive root that a test selects are withdrawn (R239, R313). -/
def State.unqueue (s : State) (p : DriveCmd → Bool) : State :=
  let keep (i : TmsItem) : Bool := match i.work with | .drive c => !p c | _ => true
  { s with tms := { s.tms with
      leaves := (s.tms.leaves.map fun x => if x.root = 34 then
        { x with green := x.green.filter keep, yellow := x.yellow.filter keep } else x).filter fun x => !(x.green.isEmpty && x.yellow.isEmpty) } }

/-- Whether a drive command waiting on the drive root satisfies a test. -/
def State.queuedAny (s : State) (p : DriveCmd → Bool) : Bool :=
  s.tms.leaves.any fun x => x.root = 34 && (x.green ++ x.yellow).any fun i => match i.work with | .drive c => p c | _ => false

/-- Commands placed at members that a test selects: their data will be discarded, their tags stay in use (R239, R313). -/
def State.disown (s : State) (p : DriveCmd → Bool) : State :=
  { s with drv := s.drv.map fun (x, q) => (x, { q with cmds := q.cmds.map fun (d : DrvCmd) => if p d.cmd then { d with gone := true } else d }) }

end Sys2Proof.Machine
end

