-- ==== Sys2Proof/Machine/Jnl.lean ====
section
/-! DEFINITION. Névé and Firn as every block uses them (chapters 07, 08): parts and high water (R244, R250), Firn records
appended and committed (R219 to R222, R320), slots freed (R249, R255), writes acknowledged (R247). -/

namespace Sys2Proof.Machine

open F

/-! ## Parts and high water (R244, R250, R252) -/

/-- The slots of Névé (R242). -/
def neveSlots : Nat := 519168

/-- Where a slot's descriptor, its data CRC and its block lie in the Névé area (R242). -/
def neveDescAt (i : Nat) : Nat := 32 * i
def neveCrcAt (i : Nat) : Nat := 0x1000000 + 4 * i
def neveDataAt (i : Nat) : Nat := 0x1400000 + 4096 * i

/-- Whether the 64 B unit at a byte offset of the Névé area holds something of a slot (R30, R242). -/
def neveInUnit (off i : Nat) : Bool :=
  decide (i < neveSlots) &&
    (neveDescAt i / 64 = off / 64 || neveCrcAt i / 64 = off / 64 || (decide (neveDataAt i ≤ off) && decide (off < neveDataAt (i + 1))))

/-- The first P slots (R244). -/
def State.partP (s : State) : Nat := neveSlots * clampNat 10 90 (s.get JNL_NEVE_CFG_own_share_pct) / 100

/-- The module's own part as first slot and end (R244). -/
def State.ownPart (s : State) : Nat × Nat :=
  if !s.pairShelf then (0, neveSlots) else if s.bayB then (s.partP, neveSlots) else (0, s.partP)

/-- Whether a slot is of the own part. -/
def State.isOwn (s : State) (i : Nat) : Bool := decide (s.ownPart.1 ≤ i) && decide (i < s.ownPart.2)

/-- Own slots not FREE. -/
def State.ownUsed (s : State) : Nat := (s.jnl.slots.filter fun (i, _) => s.isOwn i).length

/-- Mirror slots not FREE. -/
def State.mirrorUsed (s : State) : Nat := (s.jnl.slots.filter fun (i, _) => !s.isOwn i).length

/-- The budget test (R250). -/
def State.overBudget (s : State) : Bool := decide (s.get JNL_NEVE_STATUS_budget_slots ≤ s.jnl.slots.length)

/-- HIGH_WATER (R250): entered and left by the own part's use and the budget, with its event once per period. -/
def State.waterCheck (s : State) : State :=
  let own := s.ownPart.2 - s.ownPart.1
  let high := clampNat 50 99 (s.get JNL_NEVE_CFG_high_pct)
  let low := min (s.get JNL_NEVE_CFG_low_pct) (high - 1)
  if !s.flag JNL_NEVE_STATUS_high_water then
    if decide (own * high ≤ s.ownUsed * 100) || s.overBudget then
      ((s.set JNL_NEVE_STATUS_high_water 0 1).raise EV_NEVE_HIGH_WATER 0 0).enter (ctrJnl 3)
    else s
  else if decide (s.ownUsed * 100 < own * low) && !s.overBudget then
    (s.set JNL_NEVE_STATUS_high_water 0 0).leave (ctrJnl 3)
  else s

/-- The lowest `n` free own slots; none where fewer are free (R245). -/
def State.freeOwn (s : State) (n : Nat) : Option (List Nat) :=
  let (a, b) := s.ownPart
  let l := ((List.range (min (b - a) (s.jnl.slots.length + n))).map (a + ·)).filter fun i => (tget s.jnl.slots i).isNone
  if n ≤ l.length then some (l.take n) else none

/-- The state with a slot changed. -/
def State.modSlot (s : State) (i : Nat) (f : NeveSlot → NeveSlot) : State :=
  { s with jnl := { s.jnl with slots := tmod s.jnl.slots i f } }

/-- A slot returned to FREE (R249): the partner's copy is retired, a replayed dump is consumed once the last of its
entries is freed (R265), high water follows. -/
def State.slotFree (s : State) (i : Nat) : State :=
  match tget s.jnl.slots i with
  | none => s
  | some x =>
    let had := x.state != .reserved && !x.mirror
    let s := { s with jnl := { s.jnl with slots := tdel s.jnl.slots i } }
    let s := if had then s.bump (ctrJnl 2) else s
    let s := if had && s.mirroring then s.pairSend (.neveRetire [i]) else s
    let s := if s.jnl.restored.contains i then
        let l := s.jnl.restored.filter (· != i)
        { s with jnl := { s.jnl with
            restored := l
            dumps := if l.isEmpty then s.jnl.dumps.map fun (d : Dump) => { d with consumed := true } else s.jnl.dumps } }
      else s
    s.waterCheck

/-! ## Writes acknowledged (R247) -/

/-- Whether a write has met its mode's acknowledgement point (R247, R150). -/
def State.writeMet (s : State) (w : WJob) : Bool :=
  let n := w.blocks.length
  if w.mode = 3 && !w.fua then w.staged.length = n
  else if w.mode = 0 then w.done.length = n && w.done.all fun (_, q, _) => decide (q < s.get JNL_MIRROR_STATUS_acked_seq)
  else if w.mode = 2 then w.durable.length = n
  else w.done.length = n

/-- A write looked at: acknowledged once its point is met, forgotten once all of its blocks have committed too. -/
def State.writeCheck (s : State) (c : Nat) : State :=
  match tget s.jnl.writes c with
  | none => s
  | some w =>
    let (w, s) := if !w.acked && s.writeMet w then ({ w with acked := true }, s.complete c St.ok) else (w, s)
    { s with jnl := { s.jnl with
        writes := if w.acked && w.done.length = w.blocks.length then tdel s.jnl.writes c else tput s.jnl.writes c w } }

/-- Every write looked at. -/
def State.writesCheck (s : State) : State := s.each (s.jnl.writes.map (·.1)) State.writeCheck

/-- A MAP_SET or MAP_CLEAR of these blocks has committed (R247): write-through blocks committed before it are durable. -/
def State.mapRecorded (s : State) (ns lba n seq : Nat) : State :=
  let upd (w : WJob) : WJob :=
    if w.ns != ns then w
    else { w with durable := w.durable ++ (w.done.filterMap fun (b, _, mark) =>
      if decide (lba ≤ w.lba + b) && decide (w.lba + b < lba + n) && decide (mark ≤ seq) && !w.durable.contains b then some b else none) }
  { s with jnl := { s.jnl with writes := s.jnl.writes.map fun (c, w) => (c, upd w) } }.writesCheck

/-! ## Firn (R218 to R222) -/

/-- Sequence numbers an image takes as continuation records of 24 B (R219, R220): the namespace entry's image is taken as
128 B, an attachment's as 16 B an entry, the management sequence's as 24 B, the others' as 24 B (assumption log 14). -/
def imageRecs : NsImage → Nat
  | .entry _ _ => 6
  | .attach _ l => (16 * l.length + 23) / 24
  | _ => 1

/-- The sequence numbers a record takes, its continuation records included (R219, R220). -/
def firnSpan : FirnBody → Nat
  | .segState _ _ => 9
  | .pagePut .. => 2
  | .nsMeta i => 1 + imageRecs i
  | .nsGroup l => (l.map fun i => 1 + imageRecs i).sum
  | _ => 1

/-- Firn blocks on members that hold a record at or above a sequence number (R224, R228). -/
def State.firnBlocksFrom (s : State) (q : Nat) : Nat :=
  (s.str.segs.map fun (_, g) => (g.blocks.filter fun (_, b) => match b with
    | .md (.firn f n) => decide (q < f + n)
    | _ => false).length).sum

/-- replay_start of the checkpoint members hold (R224). -/
def State.replayStart (s : State) : Nat := match s.jnl.media.ckpt with | some c => c.replayStart | none => 0

/-- Bytes of Firn on members at or above replay_start (R224). -/
def State.replayBytes (s : State) : Nat := 4096 * s.firnBlocksFrom s.replayStart

/-- JNL_FIRN_CFG.replay_limit_gib in bytes. -/
def State.replayLimit (s : State) : Nat := atLeast1 (s.get JNL_FIRN_CFG_replay_limit_gib) * 2 ^ 30

/-- Blocks of the tail (JNL_FIRN_STATUS.tail_blocks): 127 records each (R218). -/
def State.tailBlocks (s : State) : Nat := ((s.jnl.tail.map fun r => firnSpan r.body).sum + 126) / 127

/-- Whether the tail is full (R222). -/
def State.tailFull (s : State) : Bool := decide (262144 ≤ s.tailBlocks)

/-- Whether a record is the metadata head's own SEG_STATE, without which the tail could not drain (assumption log 97). -/
def State.headRec (s : State) : FirnBody → Bool
  | .segState _ (some g) => g.head = .meta_
  | .segState i none => (tget s.str.segs i).any fun g => g.head = .meta_
  | _ => false

/-- Whether a record is compaction's own (R224). -/
def State.compactionRec (s : State) (b : FirnBody) : Bool :=
  s.headRec b || (match b with
    | .pagePut .. => true
    | .checkpoint .. => true
    | .summaryPut i _ _ => (tget s.str.segs i).any fun g => g.head = .meta_
    | _ => false)

/-- Whether an append waits (R222, R224): the tail is full, the Firn to replay is at its bound and the append is not
compaction's, or earlier appends wait. -/
def State.appendWaits (s : State) (b : FirnBody) : Bool :=
  !s.headRec b && (s.tailFull || (!s.compactionRec b && (decide (2 * s.replayLimit ≤ s.replayBytes) || !s.jnl.parked.isEmpty)))

/-- Whether a command's Write Zeroes or Deallocate waits for its records to be on members (R214). -/
def State.waitsMembers (s : State) (x : Cmd) : Bool :=
  match x.ns with
  | some i => match s.ns i with | some n => s.effMode n = 2 | none => false
  | none => false

/-- A MAP_CLEAR a command waits for is settled (R214), the command named by the LBA its run begins at, the oldest such
first: with the last of its runs the command completes. -/
def State.recSettled (s : State) (ns lba : Nat) (members : Bool) : State :=
  match s.qpe.cmds.find? fun (_, x) => x.ns = some ns && x.recs.contains lba && s.waitsMembers x = members with
  | none => s
  | some (c, x) =>
    let l := x.recs.filter (· != lba)
    let s := s.modCmd c fun x => { x with recs := l }
    if l.isEmpty then s.complete c St.ok else s

/-- Slots whose block a MAP_SET names at the place their stripe put it (R249). -/
def State.slotsAt (s : State) (ns lba n seg off : Nat) : List Nat :=
  (s.jnl.slots.filter fun (_, x) => match x.dest, x.desc with
    | some (g, o), some d => d.ns = ns && g = seg && decide (off ≤ o) && decide (o < off + n) && o - off = d.lba - lba && decide (lba ≤ d.lba)
    | _, _ => false).map (·.1)

/-- A committed record's effect outside the map (R221): the owner record of a move is done (R336). -/
def State.firnSettle (s : State) (r : FirnRec) : State :=
  match r.body with
  | .nsMeta (.entry i n) =>
    { s with pair := { s.pair with moves := s.pair.moves.map fun (m : Move) => if m.ns = i && m.recorded && n.ownerId != s.moduleId then { m with done := true } else m } }
  | _ => s

/-- The seq below which every record is on members: that of the tail's first record (R222). -/
def State.firnFloor (s : State) : Nat := match s.jnl.tail with | r :: _ => r.seq | [] => s.get JNL_FIRN_SEQ_next_seq

/-- A record as it is appended with a seq: the SEG_STATE that seals a segment names its own (R204). -/
def stampSeal (q : Nat) : FirnBody → FirnBody
  | .segState i (some g) => .segState i (some (if g.state = .isSealed && g.sealSeq = 0 then { g with sealSeq := q } else g))
  | b => b

/-- A record placed in the tail with the next seq (R219, R221): mirrored to the partner while the pair mirrors; it takes effect by
`enter` in the same step and by `commit` when it commits, at once unless the pair is mirrored. -/
def State.firnPushWith (enter commit : State → FirnRec → State) (s : State) (origin : Nat) (b : FirnBody) : State :=
  let q := s.get JNL_FIRN_SEQ_next_seq
  let r : FirnRec := ⟨q, origin, stampSeal q b⟩
  let s := (s.set JNL_FIRN_SEQ_next_seq 0 (q + firnSpan b)).bump (ctrJnl 7) (firnSpan b)
  let s := { s with jnl := { s.jnl with tail := s.jnl.tail ++ [r], firnAt := some (s.jnl.firnAt.getD s.dtc) } }
  let s := if s.mirroring then s.pairSend (.firnPut [r] s.firnFloor) else s
  let s := enter s r
  if s.mirrored then s else commit s r

/-- FIRN_APPEND (R221, R222, R320): a record appended by the pool master, or sent to it, or kept waiting where appends wait or no
Firn sequence is reached (R334). -/
def State.firnAppendWith (enter commit : State → FirnRec → State) (s : State) (origin : Nat) (b : FirnBody) : State :=
  if !s.isMaster then
    if s.pair.active then
      { s with jnl := { s.jnl with reqs := s.jnl.reqs ++ [(origin, b)] } }.pairSend (.firnReq origin b)
    else { s with jnl := { s.jnl with parked := s.jnl.parked ++ [(origin, b)] } }
  else if s.appendWaits b then
    let s := { s with jnl := { s.jnl with parked := s.jnl.parked ++ [(origin, b)] } }
    if s.tailFull && !s.jnl.tailFull then
      ({ s with jnl := { s.jnl with tailFull := true } }.raise EV_JNL_FIRN_TAIL_FULL 0 0).enter (ctrJnl 9)
    else s
  else s.firnPushWith enter commit origin b

/-- A SEG_STATE record takes effect (R203): what the module itself has counted in the segment stands. -/
def State.enterSegState (s : State) (i : Nat) (g : Option Seg) : State :=
  match g with
  | some g =>
    let g := match tget s.str.segs i with
      | some h => { g with live := h.live, blocks := h.blocks, done := h.done, begun := h.begun, closed := h.closed || g.closed }
      | none => g
    { s with str := { s.str with segs := tput s.str.segs i g } }
  | none => { s with str := { s.str with segs := tdel s.str.segs i } }

/-- What a SEG_STATE record changes as it is appended. -/
def State.segEnter (s : State) (r : FirnRec) : State :=
  match r.body with
  | .segState i g => s.enterSegState i g
  | _ => s

/-- A record appended that changes neither the map nor a segment: of pool metadata, a checkpoint. -/
def State.metaAppend (s : State) (origin : Nat) (b : FirnBody) : State :=
  s.firnAppendWith (fun s _ => s) State.firnSettle origin b

/-- A SEG_STATE record appended (R203). -/
def State.segAppend (s : State) (origin i : Nat) (g : Option Seg) : State :=
  s.firnAppendWith State.segEnter State.firnSettle origin (.segState i g)

end Sys2Proof.Machine
end

