-- ==== Sys2Proof/Machine/Crev.lean ====
section
/-! DEFINITION. The notices of R158, the Deferred Error store (R130, R161, R162), the Crevasse list (R288 to R294) and map
changes, which heal lost blocks and move live counts (R212, R290). -/

namespace Sys2Proof.Machine

open F

/-! ## Notices (R158) -/

/-- An owner's features, with what its admin queue's creation set (R158). -/
def State.feat (s : State) (o : QOwner) : OwnerFeat := tgetD s.nsm.feats o {}

/-- The state with an owner's features set. -/
def State.putFeat (s : State) (o : QOwner) (f : OwnerFeat) : State :=
  { s with nsm := { s.nsm with feats := tput s.nsm.feats o f } }

/-- DW0 of an asynchronous event: type, information, log page. -/
def aenDw0 (e : Nat × Nat × Nat) : Word32 := BitVec.ofNat 32 (e.1 + 256 * e.2.1 + 65536 * e.2.2)

/-- AEN_DELIVER (R158): an event enabled for an owner completes an outstanding request or is kept, one per type and
information. -/
def State.notice (s : State) (o : QOwner) (enable type info page : Nat) : State :=
  let f := s.feat o
  if (f.aenMask / 2 ^ enable) % 2 = 0 then s
  else
    match f.aers with
    | c :: rest => (s.putFeat o { f with aers := rest }).complete c St.ok (aenDw0 (type, info, page))
    | [] => if f.kept.any fun e => e.1 = type && e.2.1 = info then s else s.putFeat o { f with kept := f.kept ++ [(type, info, page)] }

/-! ## Deferred errors (R130, R161, R162) -/

/-- Whether two block ranges overlap or adjoin. -/
def rangesMeet (a n b m : Nat) : Bool := decide (a ≤ b + m) && decide (b ≤ a + n)

/-- Whether two ranges share an element. -/
def rangesCross (a n b m : Nat) : Bool := decide (a < b + m) && decide (b < a + n)

/-- A range entered in the Deferred Error store for an owner (R162), with the pending status of R130, the M bit and, where it
is not only counted as lost, the notice of R158. -/
def State.deferError (s : State) (o : QOwner) (i nsid lba n cause : Nat) : State :=
  let hit (e : DefErr) : Bool := e.owner = o && e.nsid = nsid && e.cause = cause && rangesMeet lba n e.slba e.nlb
  let old := s.nsm.deferred.filter hit
  let a := (old.map (·.slba)).foldl min lba
  let b := (old.map fun e => e.slba + e.nlb).foldl max (lba + n)
  let rest := s.nsm.deferred.filter fun e => !hit e
  let w := tgetD s.nsm.defOwners o {}
  let lost := old.isEmpty && decide (16384 ≤ s.nsm.deferred.length)
  let s := { s with nsm := { s.nsm with
      deferred := if lost then s.nsm.deferred else rest ++ [({ owner := o, nsid := nsid, slba := a, nlb := b - a, cause := cause, dtc := s.dtc } : DefErr)]
      defOwners := tput s.nsm.defOwners o { w with gen := w.gen + 1, unread := true, lost := if lost then w.lost + 1 else w.lost }
      pending := tput s.nsm.pending (o, i) (tgetD s.nsm.pending (o, i) 0 + 1) } }
  if lost then s else s.notice o 24 7 0 0xC0

/-- The single owners with write rights that a namespace's attachments name (R294). -/
def writeOwners (n : Ns) : List QOwner :=
  n.attach.filterMap fun a => if !a.wr then none else match a.key with
    | .cntlid c => some (if c = 1 then .fn else .slice (c - 2))
    | .eid e l => if l = 32 then some (.net e) else none

/-- Deferred errors of a lost range for every owner R294 names. -/
def State.deferAll (s : State) (i nsid lba n cause : Nat) : State :=
  match s.ns i with
  | none => s
  | some x => s.each (writeOwners x) fun s o => s.deferError o i nsid lba n cause

/-! ## The Crevasse list (R288 to R292) -/

/-- The NSID of a namespace: creator × 4,096 + index + 1 (R139). -/
def nsidOf (i : Nat) (n : Ns) : Nat := n.creator * 4096 + i + 1

/-- The order of the list (R288). -/
def crevLt (a b : Crev) : Bool := decide (a.nsid < b.nsid) || (a.nsid = b.nsid && decide (a.slba < b.slba))

/-- An entry put in its place. -/
def crevInsert (c : Crev) : List Crev → List Crev
  | [] => [c]
  | d :: t => if crevLt c d then c :: d :: t else d :: crevInsert c t

/-- What is left of a range after an entry's blocks are taken out. -/
def cutRange (a n b m : Nat) : List (Nat × Nat) :=
  if a + n ≤ b || b + m ≤ a then [(a, n)]
  else (if a < b then [(a, b - a)] else []) ++ (if b + m < a + n then [(b + m, a + n - (b + m))] else [])

/-- The parts of a range that no entry of the namespace covers (R288). -/
def uncovered (l : List Crev) (nsid a n : Nat) : List (Nat × Nat) :=
  (l.filter fun c => c.nsid = nsid).foldl (fun p c => p.flatMap fun (x, m) => cutRange x m c.slba c.nlb) [(a, n)]

/-- The list has changed (R291, R300): its generation moves and its image is due. -/
def State.crevChanged (s : State) : State :=
  let s := (s.inc REB_CREV_STATUS_generation 0).set REB_CREV_STATUS_entries 0 s.reb.crev.length
  { s with reb := { s.reb with changed := true, full := s.reb.full && decide (1048576 ≤ s.reb.crev.length) } }

/-- One uncovered run entered (R288, R292). -/
def State.crevRun (s : State) (c : Crev) : State :=
  let hit (e : Crev) : Bool := e.nsid = c.nsid && e.cause = c.cause && rangesMeet c.slba c.nlb e.slba e.nlb
  let old := s.reb.crev.filter hit
  let s := s.addSat REB_CREV_COUNT_lost_blocks 0 c.nlb
  if old.isEmpty && decide (1048576 ≤ s.reb.crev.length) then
    let s := s.addSat REB_CREV_COUNT_overflow 0 1
    if s.reb.full then s else { s with reb := { s.reb with full := true } }.raise EV_REB_CREVASSE_FULL 0 0
  else
    let first := old.foldl (fun (m : Crev) e => if e.dtc.toNat < m.dtc.toNat then e else m) c
    let a := (old.map (·.slba)).foldl min c.slba
    let b := (old.map fun e => e.slba + e.nlb).foldl max (c.slba + c.nlb)
    { s with reb := { s.reb with
        crev := crevInsert { first with slba := a, nlb := b - a, cause := c.cause } (s.reb.crev.filter fun e => !hit e) } }.crevChanged

/-- Lost blocks entered in the list where no entry covers them yet (R288), and sent to the partner (R291). -/
def State.crevAdd (s : State) (c : Crev) : State :=
  (s.each (uncovered s.reb.crev c.nsid c.slba c.nlb) fun s (a, n) => s.crevRun { c with slba := a, nlb := n }).pairSend (.crevasse (.add c))

/-- Whether an entry of a namespace covers some of a range. -/
def crevHits (nsid a n : Nat) (c : Crev) : Bool := c.nsid = nsid && decide (a < c.slba + c.nlb) && decide (c.slba < a + n)

/-- Healed blocks taken out of the list (R290); an entry that a full list cannot split is removed whole and its rest counted
as overflow (R292). -/
def State.crevTake (s : State) (nsid a n : Nat) : State :=
  (s.each (s.reb.crev.filter (crevHits nsid a n)) fun s c =>
    let parts := cutRange c.slba c.nlb a n
    let l := s.reb.crev.filter (· != c)
    let s := s.bump (ctrReb 5) (c.nlb - (parts.map (·.2)).sum)
    if decide (1048576 < l.length + parts.length) then { s with reb := { s.reb with crev := l } }.addSat REB_CREV_COUNT_overflow 0 1
    else { s with reb := { s.reb with crev := parts.foldl (fun l (b, m) => crevInsert { c with slba := b, nlb := m } l) l } }).crevChanged

/-- Blocks taken out of the list as the map heals them (R290), and the partner told (R291). -/
def State.crevHeal (s : State) (nsid a n : Nat) : State :=
  if s.reb.crev.any (crevHits nsid a n) then (s.crevTake nsid a n).pairSend (.crevasse (.heal nsid a n)) else s

/-- A namespace's entries removed from the list. -/
def State.crevErase (s : State) (nsid : Nat) : State :=
  { s with reb := { s.reb with crev := s.reb.crev.filter fun c => c.nsid != nsid } }.crevChanged

/-- A deleted namespace's entries are removed (R290). -/
def State.crevDrop (s : State) (nsid : Nat) : State :=
  if s.reb.crev.any fun c => c.nsid = nsid then (s.crevErase nsid).pairSend (.crevasse (.drop nsid)) else s

/-- Runs of an entry that the list does not cover yet are entered. -/
def State.crevEnter (s : State) (c : Crev) : State :=
  s.each (uncovered s.reb.crev c.nsid c.slba c.nlb) fun s (a, n) => s.crevRun { c with slba := a, nlb := n }

/-! ## The map (R210 to R213) -/

/-- The map entry of a block. -/
def State.lookup (s : State) (ns lba : Nat) : MapEnt := tgetD s.str.map (ns, lba) .unmapped

/-- The page of an LBA (R211). -/
def pageOf (lba : Nat) : Nat := lba / 512

/-- Pages the map page cache holds: 72 GiB at 4 KiB grain (R29). -/
def cachePages : Nat := 18874368

/-- Pages of that area pinned under the segment table: 16,777,215 entries of 192 B (R204). -/
def segTablePages : Nat := (192 * 16777215 + 4095) / 4096

/-- Pages pinned under a namespace's page directory: 8 B for each of its map pages (R211). -/
def dirPages (nsze : Nat) : Nat := (8 * ((nsze + 511) / 512) + 4095) / 4096

/-- Map pages that fit in the rest of the area (R204, R211). -/
def State.pageRoom (s : State) : Nat := cachePages - segTablePages - s.nsm.ns.foldl (fun n (_, x) => n + dirPages x.nsze) 0

/-- A page marked changed, and in the cache with it (R211). -/
def State.pageDirty (s : State) (ns p : Nat) : State :=
  let x := tgetD s.str.pages (ns, p) {}
  { s with str := { s.str with pages := tput s.str.pages (ns, p) { x with dirty := true, cached := true, used := true, copied := false } } }

/-- Whether a segment is this module's to release, relocate and evacuate (R319): in a formed pair the pool master's are the even
ones. -/
def State.segMine (s : State) (i : Nat) : Bool := !s.pair.active || (i % 2 = 0) = s.isMaster

/-! ## The rebuild queue (R277) -/

/-- Members of a segment's list that are not LIVE: u (R277). -/
def State.segLost (s : State) (g : Seg) : Nat := (g.members.filter fun x => !s.live x).length

/-- Whether a segment needs rebuild and is of a state the queue holds (R277). -/
def State.needsRebuild (s : State) (i : Nat) (g : Seg) : Bool :=
  (s.segLost g != 0 || s.reb.bad.contains i) && !s.segPending i &&
    (g.state = .isSealed || g.state = .calving || (g.state = .isOpen && g.closed))

/-- The rebuild queue. -/
def State.rebQueue (s : State) : List (Nat × Seg) := s.str.segs.filter fun (i, g) => s.needsRebuild i g

/-- The queue looked at after a change (R281, R298): EV_REB_REBUILD_DONE when it has emptied, REB_STATUS.state, and the counts
that start anew with a queue that was empty. -/
def State.rebCheck (s : State) : State :=
  if s.rebQueue.isEmpty then
    let s := s.set REB_STATUS_state 0 0
    if s.reb.running then
      ({ s with reb := { s.reb with running := false } }.raise EV_REB_REBUILD_DONE 0 0).leave (ctrReb 8) |>.leave (ctrReb 9)
    else s
  else if s.reb.running then s
  else
    (({ s with reb := { s.reb with running := true, doneKib := 0 } }.set REB_STATUS_state 0 1).set REB_STATUS_seg_done 0 0).enter (ctrReb 8)

/-! ## Live counts (R203, R212) -/

/-- A segment enters RELEASING (R203, R230), and leaves the rebuild queue (R277): its record is appended first. -/
def State.releaseSeg (s : State) (i : Nat) : State :=
  match s.seg i with
  | none => s
  | some g =>
    if g.state = .releasing || !s.segMine i || s.segPending i then s
    else
      let s := s.segAppend 1 i (some { g with state := .releasing })
      let s := if s.reb.evac.contains i then (s.bump (ctrReb 1)).inc REB_STATUS_seg_done 0 else s
      ({ s with str := { s.str with victims := s.str.victims.filter (· != i), moving := tdel s.str.moving i }
                reb := { s.reb with bad := s.reb.bad.filter (· != i), work := tdel s.reb.work i, evac := s.reb.evac.filter (· != i) } }).rebCheck

/-- Whether blocks of a segment wait for their MAP_SET (R35). -/
def State.switching (s : State) (seg : Nat) : Bool := s.str.switches.any fun ((g, _), _) => g = seg

/-- A SEALED or CALVING segment without a live block is released at once (R203, R228), unless a takeover holds it (R332). -/
def State.releaseIdle (s : State) (i : Nat) : State :=
  match s.seg i with
  | none => s
  | some g =>
    if g.live = 0 && (g.state = .isSealed || g.state = .calving) && !s.switching i && !s.pair.takenSegs.contains i then s.releaseSeg i else s

/-- A segment's live count falls by one; a SEALED or CALVING one whose count reaches 0 is released at once (R203, R228). -/
def State.liveDown (s : State) (i : Nat) : State :=
  match s.seg i with
  | none => s
  | some g =>
    let s := s.putSeg i { g with live := g.live - 1 }
    if g.live = 1 then s.releaseIdle i else s

/-- A segment's live count rises by one. -/
def State.liveUp (s : State) (i : Nat) : State :=
  match s.seg i with
  | none => s
  | some g => s.putSeg i { g with live := g.live + 1 }

/-- A map entry changed (R212, R213): the old place loses the block from its live count, a lost block heals (R290), the
new place gains it, and the page is dirty. -/
def State.mapPut (s : State) (ns lba : Nat) (e : MapEnt) : State :=
  let old := s.lookup ns lba
  let s := { s with str := { s.str with map := match e with
      | .unmapped => tdel s.str.map (ns, lba)
      | _ => tput s.str.map (ns, lba) e } }.pageDirty ns (pageOf lba)
  let s := match e with | .member _ g _ => s.liveUp g | _ => s
  match old with
  | .member _ g _ => s.liveDown g
  | .lost _ _ => match e, s.ns ns with
    | .lost _ _, _ => s
    | _, some n => s.crevHeal (nsidOf ns n) lba 1
    | _, none => s
  | _ => s

/-- The runs of blocks lba to lba + n − 1 that each lie in one map page (R220). -/
def pageRuns (lba n : Nat) : List (Nat × Nat) :=
  (List.range ((n + 511) / 512 + 1)).filterMap fun j =>
    let a := if j = 0 then lba else (pageOf lba + j) * 512
    let b := min (lba + n) ((pageOf lba + j + 1) * 512)
    if a < b then some (a, b - a) else none

/-! ## Records that change the map (R212, R214, R221) -/

/-- Every listed entry of a range set to unmapped (R214). -/
def State.mapUnmap (s : State) (ns lba n : Nat) : State :=
  s.each (s.str.map.filterMap fun ((i, l), _) => if i = ns && decide (lba ≤ l) && decide (l < lba + n) then some l else none)
    fun s l => s.mapPut ns l .unmapped

/-- One block of a stripe on members switched as its MAP_SET commits (R35, R212, R229, R189): its map entry where it still names
what the stripe was made from. -/
def State.switchBlock (s : State) (seg off : Nat) (b : StripeBlk) : State :=
  let swap (s : State) (ns lba : Nat) (k : Bool) (from_ : MapEnt) (ctr : Nat → Nat) : State :=
    if s.lookup ns lba = from_ then
      let s := s.mapPut ns lba (.member k seg off)
      match (s.seg seg).bind fun g => headGroup g.head with | some gr => s.bump (ctr gr) | none => s
    else s
  match b with
  | .neve i ns lba k => swap s ns lba k (.neve k i) fun gr => ctrStrG gr 3
  | .moved ns lba k g o _ => swap s ns lba k (.member k g o) fun gr => ctrStrG gr 5
  | .swept ns lba k old => swap s ns lba k old fun gr => ctrStrG gr 5
  | _ => s

/-- The blocks that waited for the MAP_SET at a place switch (R35, R212). -/
def State.switchDone (s : State) (seg off : Nat) : State :=
  match tget s.str.switches (seg, off) with
  | none => s
  | some l =>
    let s := { s with str := { s.str with switches := tdel s.str.switches (seg, off) } }
    (s.each l fun s (b, o) => s.switchBlock seg o b).releaseIdle seg

/-- Whether a SEG_STATE record names other members than the segment has: it ends a restoration (R281). -/
def State.renames (s : State) (i : Nat) (g : Option Seg) : Bool :=
  match g, s.seg i with
  | some g, some h => g.members != h.members
  | _, _ => false

/-- A restoration's SEG_STATE commits (R281): the targets are the segment's members from now on. -/
def State.restored (s : State) (i : Nat) (g : Seg) : State :=
  match s.seg i with
  | none => s
  | some h =>
    let n := ((tget s.reb.work i).map fun r => r.targets.length).getD 0
    let s := { s.putSeg i { h with members := g.members, base := g.base } with reb := { s.reb with work := tdel s.reb.work i } }
    ((((s.bump (ctrReb 0)).bump (ctrReb 2) (g.e * n)).inc REB_STATUS_seg_done 0).releaseIdle i).rebCheck

/-- What a record changes in the step that appends it (R203, R212, R214). -/
def State.firnEnter (s : State) (r : FirnRec) : State :=
  match r.body with
  | .mapClear ns lba n => s.mapUnmap ns lba n
  | .segState i g => if s.renames i g then s else (s.segEnter r).releaseIdle i
  | _ => s

/-- The last map record applied to a page noted (R321). -/
def State.pageSeq (s : State) (ns lba q : Nat) : State :=
  { s with str := { s.str with pages := tmod s.str.pages (ns, pageOf lba) fun x => { x with last := q } } }

/-- A record commits (R221): its blocks switch (R35) and their slots are freed (R249), write-through blocks become durable,
commands that wait for it go on. -/
def State.firnCommit (s : State) (r : FirnRec) : State :=
  match r.body with
  | .mapSet ns lba n seg off _ =>
    let s := s.switchDone seg off
    ((s.each (s.slotsAt ns lba n seg off) State.slotFree).pageSeq ns lba r.seq).mapRecorded ns lba n r.seq
  | .mapClear ns lba n => ((s.pageSeq ns lba r.seq).mapRecorded ns lba n r.seq).recSettled ns lba false
  | .segState i (some g) => if s.renames i (some g) then s.restored i g else s
  | _ => s.firnSettle r

/-- FIRN_APPEND (R221, R320) of any record. -/
def State.firnAppend (s : State) (origin : Nat) (b : FirnBody) : State :=
  s.firnAppendWith State.firnEnter State.firnCommit origin b

/-- Appends that waited go on while nothing stops them (R222, R224). -/
def State.unpark (s : State) : State :=
  let l := s.jnl.parked
  let s := { s with jnl := { s.jnl with parked := [] } }
  let s := if s.jnl.tailFull && !s.tailFull then { s with jnl := { s.jnl with tailFull := false } }.leave (ctrJnl 9) else s
  s.each l fun s (o, b) => s.firnAppend o b

/-- Blocks set to unmapped by MAP_CLEAR records, each with the step that appends it (R214, R220). -/
def State.mapClear (s : State) (ns lba n origin : Nat) : State :=
  s.each (pageRuns lba n) fun s (a, m) => s.firnAppend origin (.mapClear ns a m)

/-- A live block that can no longer be read becomes lost (R286, R30, R266): its entry, its record with segment
0xFF_FFFF, its Crevasse entry. -/
def State.loseBlock (s : State) (ns lba cause member seg origin : Nat) : State :=
  match s.ns ns with
  | none => s
  | some n =>
    let s := s.mapPut ns lba (.lost 0xFFFFFF 0)
    let s := s.crevAdd ⟨nsidOf ns n, lba, 1, cause, member, seg, s.dtc⟩
    s.firnAppend origin (.mapSet ns lba 1 0xFFFFFF 0 n.kgen)

end Sys2Proof.Machine
end

