-- ==== Sys2Proof/Machine/Police.lean ====
section
/-! DEFINITION. Policing of commands (R95 to R97): measurement, holds, their end. -/

namespace Sys2Proof.Machine

open F

/-- Tokens in 1/65536 byte that a rate in Mb/s gives in some ticks of 0.625 ns: rate ÷ 12,800 bytes per tick. -/
def rateTokens (rate ticks : Nat) : Nat := rate * 512 * ticks / 100

/-- A tenant's buckets refilled to now (R95); a policer not yet measured has them full. -/
def State.bucketNow (s : State) (t : Nat) : Bucket :=
  let cbs := 65536 * s.get TMS_POL_BURST_cbs t
  let ebs := 65536 * s.get TMS_POL_BURST_ebs t
  match tget s.tms.buckets t with
  | none => ⟨cbs, ebs, s.dtc⟩
  | some b =>
    ⟨min cbs (b.tc + rateTokens (s.get TMS_POL_RATE_cir t) (s.since b.last)),
     min ebs (b.te + rateTokens (s.get TMS_POL_RATE_eir t) (s.since b.last)), s.dtc⟩

/-- Whether a tenant is policed: host tenants with police_en (R95, TMS_TENANT_CFG). -/
def State.policed (s : State) (t : Nat) : Bool := decide (t < 4093) && s.flag TMS_TENANT_CFG_police_en t

/-- A command admitted with a colour: its colour and its charged bytes counted for the tenant (R96, R526). -/
def State.admitCount (s : State) (t len : Nat) (col : Colour) : State :=
  (s.esel 1 (if col = .green then 0 else 1) t).esel 1 4 t len

/-- The colour a bucket gives a length, with the bucket charged (R96): precoloured yellow under colour_aware is measured against te
alone. -/
def Bucket.colour (b : Bucket) (len : Nat) (onlyExcess : Bool) : Bucket × Colour :=
  let n := 65536 * len
  if !onlyExcess && decide (n ≤ b.tc) then ({ b with tc := b.tc - n }, .green)
  else if n ≤ b.te then ({ b with te := b.te - n }, .yellow)
  else (b, .red)

/-- Whether a measurement of a tenant's command looks at the excess bucket alone (R96). -/
def State.excessOnly (s : State) (t : Nat) (precolour : Bool) : Bool := s.flag TMS_TENANT_CFG_colour_aware t && precolour

/-- POLICER_MEASURE (R96): a command of `len` charged bytes coloured. -/
def State.measure (s : State) (t len : Nat) (precolour : Bool) : State × Colour :=
  if !s.policed t then (s.admitCount t len .green, .green)
  else
    let (b, col) := (s.bucketNow t).colour len (s.excessOnly t precolour)
    let s := { s with tms := { s.tms with buckets := tput s.tms.buckets t b } }
    (if col = .red then s.esel 1 2 t else s.admitCount t len col, col)

/-- The ticks until a bucket holds a length; none where it never does. -/
def ticksTo (have_ need burst rate : Nat) : Option Nat :=
  if need ≤ have_ then some 0
  else if burst < need || rate = 0 then none
  else some (((need - have_) * 100 + rate * 512 - 1) / (rate * 512))

/-- When a held command is measured again (R97): once a bucket its colour mode allows can hold its length, at once where its tenant is no
longer policed; at the latest after 100 ms. -/
def State.heldDue (s : State) (t len : Nat) (precolour : Bool) : Word64 :=
  let b := s.bucketNow t
  let n := 65536 * len
  let e := ticksTo b.te n (65536 * s.get TMS_POL_BURST_ebs t) (s.get TMS_POL_RATE_eir t)
  let c := if s.excessOnly t precolour then none
    else ticksTo b.tc n (65536 * s.get TMS_POL_BURST_cbs t) (s.get TMS_POL_RATE_cir t)
  let w := match c, e with
    | some a, some b => min a b
    | some a, none => a
    | none, some b => b
    | none, none => msTicks 100
  if s.policed t then s.dtc + BitVec.ofNat 64 (min w (msTicks 100)) else s.dtc

/-- Whether a command is held red (R97). -/
def Cmd.heldRed (x : Cmd) : Bool := x.colour = .red && x.phase = .fetched && x.heldAt.isSome

/-- Whether a queue precolours its commands yellow (R96). -/
def State.precolour (s : State) (q : Nat) : Bool := match s.qp q with | some x => x.precolour | none => false

/-- A held command put on the calendar for its next measurement (R93, R97). -/
def State.calHeld (s : State) (c : Nat) (x : Cmd) : State :=
  (s.calDrop (.held c)).calPut (.held c) s.dtc (s.heldDue (s.cmdTenant x) x.heldLen (s.precolour x.qpn))

/-- A policer after its tenant's registers changed from those of `old` (R95, R91): full where police_en went from 0 to 1,
otherwise its tokens clipped to the bursts; the due times of the tenant's held commands follow the new rates (R93, R97). -/
def State.policerSet (s old : State) (t : Nat) : State :=
  let cbs := 65536 * s.get TMS_POL_BURST_cbs t
  let ebs := 65536 * s.get TMS_POL_BURST_ebs t
  let b : Bucket := if s.flag TMS_TENANT_CFG_police_en t && !old.flag TMS_TENANT_CFG_police_en t then ⟨cbs, ebs, s.dtc⟩
    else
      let x := old.bucketNow t
      ⟨min x.tc cbs, min x.te ebs, s.dtc⟩
  let s := { s with tms := { s.tms with buckets := tput s.tms.buckets t b } }
  s.each (s.qpe.cmds.filter fun (_, x) => x.heldRed && s.cmdTenant x = t) fun s (c, x) => s.calHeld c x

/-- The fields of a register set from an image of it. -/
def State.setImage (s : State) (l : List Fld) (i v : Nat) : State := l.foldl (fun s f => s.set f i (v / 2 ^ f.lo)) s

/-- The three TMS registers of a tenant set from their images, which the next checkpoint holds (R154). -/
def State.tenantSet (s : State) (t a b c : Nat) : State :=
  let n := s.setImage [TMS_TENANT_CFG_max_rate, TMS_TENANT_CFG_max_burst, TMS_TENANT_CFG_weight, TMS_TENANT_CFG_red_action,
    TMS_TENANT_CFG_colour_aware, TMS_TENANT_CFG_police_en, TMS_TENANT_CFG_class] t a
  let n := n.setImage [TMS_POL_RATE_eir, TMS_POL_RATE_cir] t b
  let n := n.setImage [TMS_POL_BURST_ebs, TMS_POL_BURST_cbs] t c
  { n with nsm := { n.nsm with tenants := tput n.nsm.tenants t (a, b, c) } }.policerSet s t

/-- A command fails with ST_TENANT_POLICED (R97, R132): DW0 the tenant. -/
def State.policeFail (s : State) (c : Nat) : State :=
  match s.cmd c with
  | none => s
  | some x => (s.esel 1 3 (s.cmdTenant x)).complete c St.policed (BitVec.ofNat 32 (s.cmdTenant x))

/-- A fetched command measured (R96, R97): green and yellow admitted, red held on the calendar in measurement order or failed. -/
def State.police (s : State) (c len : Nat) : State :=
  match s.cmd c with
  | none => s
  | some x =>
    let t := s.cmdTenant x
    let (s, col) := s.measure t len (s.precolour x.qpn)
    let no := s.tms.nextHeld
    let s := s.modCmd c fun x => { x with colour := col, heldLen := len, heldNo := no }
    if col != .red then s
    else if s.get TMS_TENANT_CFG_red_action t = 1 then s.policeFail c
    else
      let s := { s with tms := { s.tms with nextHeld := no + 1 } }
      (s.modCmd c fun x => { x with heldAt := some s.dtc }).calHeld c { x with heldLen := len }

/-- HELD_REMEASURE (R97): in measurement order, a held command whose bucket can hold it is admitted. -/
def State.remeasure (s : State) (c : Nat) : State :=
  match s.cmd c with
  | none => s
  | some x =>
    if !x.heldRed then s
    else
      let t := s.cmdTenant x
      let first := !(s.qpe.cmds.any fun (_, y) => y.heldRed && decide (y.heldNo < x.heldNo) && s.cmdTenant y = t)
      let (b, col) := if s.policed t then (s.bucketNow t).colour x.heldLen (s.excessOnly t (s.precolour x.qpn)) else (s.bucketNow t, .green)
      if first && col != .red then
        let s := { s with tms := { s.tms with buckets := tput s.tms.buckets t b } }.admitCount t x.heldLen col
        s.modCmd c fun x => { x with colour := col, heldAt := none }
      else s.calHeld c x

/-- POLICE_HOLD_TIMEOUT (R97): a command still held completes with ST_TENANT_POLICED. -/
def State.policeTimeout (s : State) (c : Nat) : State :=
  match s.cmd c with
  | none => s
  | some x => if x.heldRed then s.policeFail c else s

end Sys2Proof.Machine
end

