-- ==== Sys2Proof/Machine/Queue.lean ====
section
/-! DEFINITION. Queue pairs: the queue setup messages (R104 to R107), local queue creation and deletion (R108), local
doorbells (R109), fetch (R113), completion entries and their WRITEs (R117 to R119), WAIT and Abort (R123 to R127), holds
(R133). -/

namespace Sys2Proof.Machine

open F

/-! ## Queue setup over the network -/

/-- The 64 bytes of a queue setup reply, in network byte order (R104). -/
def queueReplyBytes (r : QReply) : List Byte :=
  beBytes 1 r.op ++ beBytes 1 r.status ++ beBytes 2 0 ++ beBytes 4 r.reqId.toNat ++ beBytes 2 r.qpn ++
  beBytes 1 r.state ++ beBytes 1 r.cqPhase ++ beBytes 4 r.sqKey.toNat ++ beBytes 4 r.cqKey.toNat ++
  beBytes 2 r.sqHead ++ beBytes 2 r.sqTail ++ beBytes 2 r.cqHead ++ beBytes 2 r.cqTail ++ beBytes 2 r.cqSeq ++
  beBytes 2 r.inflight ++ beBytes 4 r.cmplCount ++ beBytes 4 r.errCount ++ List.replicate 24 0

/-- The request that a queue setup message spells; a message too short for op or req_id has them 0 (R104). -/
def queueParse (l : List Byte) : QSetup :=
  { len := l.length, op := if l.length = 0 then 0 else beAt l 0 1
    precolour := (beAt l 1 1 / 2) % 2 = 1, admin := beAt l 1 1 % 2 = 1
    reqId := if l.length < 8 then 0 else BitVec.ofNat 32 (beAt l 4 4)
    qpn := beAt l 8 2, sqEntries := beAt l 10 2, cqEntries := beAt l 12 2, notifyCount := beAt l 14 1
    notifyTime := beAt l 15 1, sqAddr := BitVec.ofNat 64 (beAt l 16 8), cqAddr := BitVec.ofNat 64 (beAt l 24 8) }

/-- The code of a queue pair's state in replies and QPE_QP_STATE (R103, R104). -/
def QpState.code : QpState → Nat
  | .active => 1
  | .error => 2
  | .deleting => 3

/-- A reply sent to the requester as one SEND to service 0x0001, in class 7 (R73, R104). -/
def State.queueReply (s : State) (src dst : Eid) (r : QReply) : State :=
  s.sendMsg dst src (.send 1 (queueReplyBytes r)) false false 7 .queueReply

/-- A reply that carries only a failure status (R104). -/
def State.queueFail (s : State) (src dst : Eid) (m : QSetup) (status : Nat) : State :=
  s.queueReply src dst { op := m.op + 0x80, status := status, reqId := m.reqId }

/-- The reply that describes a queue pair's current state (R104, R107). -/
def State.queueView (s : State) (op : Nat) (reqId : Word32) (q : Nat) (x : Qp) : QReply :=
  { op := op + 0x80, status := 0, reqId := reqId, qpn := q, state := x.state.code, cqPhase := bit x.cqPhase
    sqKey := x.sqKey, cqKey := x.cqKey, sqHead := x.sqHead, sqTail := x.sqTail, cqHead := x.cqHead, cqTail := x.cqTail
    cqSeq := x.cqSeq, inflight := s.inflight q, cmplCount := x.cmplCount, errCount := x.errCount }

/-- Whether a CREATE's fields are in range (R102, R104 status 0x01). -/
def queueCreateOk (m : QSetup) : Bool :=
  m.len = 64 && decide (2 ≤ m.sqEntries) && decide (m.sqEntries ≤ 4096) && decide (2 ≤ m.cqEntries) &&
    decide (m.cqEntries ≤ 4096) && m.sqAddr.toNat % 4096 = 0 && m.cqAddr.toNat % 4096 = 0

/-- Pages of 4 KiB that `n` bytes take. -/
def pagesOf (n : Nat) : Nat := (n + 4095) / 4096

/-- The region of a ring (R105): kind 1, scope the serving module EID. -/
def ringRegion (serv : Eid) (base : Word64) (bytes : Nat) (rd : Bool) : Region :=
  { rd := rd, wr := !rd, host := true, scopeLen := 32, scopeEid := serv, basePage := base.toNat / 4096
    lenPages := pagesOf bytes }

/-- CREATE (R105): over the management port for an admin queue pair only (R427); two region entries and a QPN, the status being the first that applies (R104). -/
def State.queueCreate (s : State) (src dst : Eid) (m : QSetup) : State :=
  if !queueCreateOk m || (dst = s.mgmtEid && !m.admin) then s.queueFail src dst m 1
  else if m.admin && (s.adminQp (.net src)).isSome then s.queueFail src dst m 5
  else if 65536 ≤ s.qpe.qps.length then s.queueFail src dst m 3
  else
    match firstFree s.qpe.qps (s.qpe.qps.length + 1) 0 with
    | none => s.queueFail src dst m 3
    | some q =>
      match s.allocRegion (ringRegion dst m.sqAddr (64 * m.sqEntries) true) with
      | none => s.queueFail src dst m 4
      | some (k1, s1) =>
        match s1.allocRegion (ringRegion dst m.cqAddr (16 * m.cqEntries) false) with
        | none => s.queueFail src dst m 4
        | some (k2, s2) =>
          let x : Qp :=
            { owner := .net src, admin := m.admin, qid := 0, servEid := dst, sqEntries := m.sqEntries
              cqEntries := m.cqEntries, sqBase := m.sqAddr, cqBase := m.cqAddr, sqKey := k1, cqKey := k2
              notifyCount := atLeast1 m.notifyCount, notifyTime := m.notifyTime, precolour := m.precolour }
          let s3 := (s2.putQp q x).qpeStatus
          let s3 := if m.admin then
              let f := { tgetD s3.nsm.feats (.net src) {} with aenMask := 50332416, aers := [] }
              { s3 with nsm := { s3.nsm with feats := tput s3.nsm.feats (.net src) f } } else s3
          s3.queueReply src dst (s3.queueView 1 m.reqId q x)

/-- DELETE (R106): the queue pair enters DELETING; the reply waits for its deletion. -/
def State.queueDelete (s : State) (src dst : Eid) (m : QSetup) : State :=
  if m.len != 64 then s.queueFail src dst m 1
  else
    match s.ownQp (.net src) m.qpn with
    | none => s.queueFail src dst m 2
    | some _ => (s.modQp m.qpn fun x => { x with replies := x.replies ++ [(2, m.reqId)] }).beginDelete m.qpn

/-- QUERY (R107): the queue pair's current state, changing nothing else. -/
def State.queueQuery (s : State) (src dst : Eid) (m : QSetup) : State :=
  if m.len != 64 then s.queueFail src dst m 1
  else
    match s.ownQp (.net src) m.qpn with
    | none => s.queueFail src dst m 2
    | some x => s.queueReply src dst (s.queueView 3 m.reqId m.qpn x)

/-- The reply to a DELETE or RESET whose queue pair is FREE (R104, R106): what a queue pair no longer there would report is a free value
(assumption log 20). -/
def State.freeReply (s : State) (op : Nat) (reqId : Word32) (qpn : Nat) : QReply × State :=
  let (w, s) := s.freshWide
  let part (o n : Nat) : Nat := w.toNat / 2 ^ o % 2 ^ n
  ({ op := op + 0x80, status := 0, reqId := reqId, qpn := qpn, state := 0, cqPhase := part 0 1, sqKey := BitVec.ofNat 32 (part 32 32)
     cqKey := BitVec.ofNat 32 (part 64 32), sqHead := part 96 16, sqTail := part 112 16, cqHead := part 128 16, cqTail := part 144 16
     cqSeq := part 160 16, inflight := 0, cmplCount := part 192 32, errCount := part 224 32 }, s)

/-- The answer to a DELETE or RESET sent once its queue pair is FREE. -/
def State.answerFree (s : State) (src dst : Eid) (op : Nat) (reqId : Word32) (qpn : Nat) : State :=
  let (r, s) := s.freeReply op reqId qpn
  s.queueReply src dst r

/-- The QPNs of an owner. -/
def State.qpsOf (s : State) (o : QOwner) : List Nat := (s.qpe.qps.filter fun (_, x) => x.owner = o).map (·.1)

/-- DELETE applied to every queue pair of an owner (R106, R134). -/
def State.deleteAllOf (s : State) (o : QOwner) : State := s.each (s.qpsOf o) State.beginDelete

/-- RESET (R106): answered once every queue pair of the EID is FREE. -/
def State.queueReset (s : State) (src dst : Eid) (m : QSetup) : State :=
  if m.len != 64 then s.queueFail src dst m 1
  else
    let s := s.deleteAllOf (.net src)
    if (s.qpsOf (.net src)).isEmpty then s.answerFree src dst 4 m.reqId 0
    else { s with qpe := { s.qpe with resets := s.qpe.resets ++ [(src, dst, m.reqId)] } }

/-- A queue setup message handled by its op; a reserved op has status 0x01 (R104). -/
def State.queueSetup (s : State) (src dst : Eid) (m : QSetup) : State :=
  if m.op = 1 then s.queueCreate src dst m
  else if m.op = 2 then s.queueDelete src dst m
  else if m.op = 3 then s.queueQuery src dst m
  else if m.op = 4 then s.queueReset src dst m
  else s.queueFail src dst m 1

/-- The RESETs of an EID that has no queue pair left are answered (R106). -/
def State.answerResets (s : State) (e : Eid) : State :=
  if !(s.qpsOf (.net e)).isEmpty then s
  else
    let due := s.qpe.resets.filter fun (a, _, _) => a = e
    let s := { s with qpe := { s.qpe with resets := s.qpe.resets.filter fun (a, _, _) => a != e } }
    s.each due fun s (a, b, r) => s.answerFree a b 4 r 0

/-- A queue pair freed (R106): its QPN, the Delete commands that asked for it (R108), and of a local one the completion queue, which
keeps its place in its ring. -/
def State.freeQp (s : State) (q : Nat) (x : Qp) : State :=
  let keep (c : LocalCq) : LocalCq :=
    if c.owner = x.owner && c.qid = x.cqid && !x.admin then { c with head := x.cqHead, tail := x.cqTail, phase := x.cqPhase, seq := x.cqSeq }
    else c
  let s := { s with qpe := { s.qpe with qps := tdel s.qpe.qps q, cqs := s.qpe.cqs.map keep } }
  s.qpeStatus.completeAll x.delCmds St.ok

/-- Whether an owner is on the local host port. -/
def ownerLocal : QOwner → Bool
  | .net _ => false
  | _ => true

/-- The deletion of a queue pair completes (R106, R129): no command remains and its completion WRITEs have been sent; the ring regions
are revoked under R69, and once no packet names them the QPN is freed and the DELETEs answered. -/
def State.queueDeletionDone (s : State) (q : Nat) : State :=
  match s.qp q with
  | none => s
  | some x =>
    if x.state = .active || s.inflight q != 0 || !x.merging.isEmpty || (!ownerLocal x.owner && s.keyQueued x.cqKey) then s
    else
      match x.owner with
      | .net e =>
        let s := ((s.revokeRegion x.sqKey none).revokeRegion x.cqKey none).dropQueued x.sqKey
        if s.keyInFlight x.sqKey || s.keyInFlight x.cqKey then s
        else
          let s := ((s.freeRegion x.sqKey).freeRegion x.cqKey).dropReads x.sqKey
          let s := s.freeQp q x
          (s.each x.replies fun s (op, r) => s.answerFree e x.servEid op r q).answerResets e
      | _ => s.freeQp q x

/-! ## Completion -/

/-- The 16 bytes of a CQE (R117). -/
def cqeBytes (e : Cqe) : List Byte :=
  leBytes 4 e.dw0.toNat ++ leBytes 4 e.dw1.toNat ++ leBytes 2 e.sqhd ++ leBytes 2 e.cqSeq ++ leBytes 2 e.cid ++
    leBytes 2 (bit e.phase + 2 * e.status.sc + 512 * e.status.sct + 16384 * bit e.more + 32768 * bit e.status.dnr)

/-- A completion WRITE of the merged CQEs (R119): fenced, with flags.n when the CQEs since the last notified WRITE
reach notify_count or notify_time has passed; under the tenant of the first command whose CQE it carries (R73, assumption log 88). -/
def State.completionWrite (s : State) (q : Nat) : State :=
  match s.qp q with
  | none => s
  | some x =>
    match x.owner, x.merging with
    | .net e, c0 :: rest =>
      let n := decide (x.notifyCount ≤ x.unnotified) || decide (usTicks x.notifyTime ≤ s.since x.firstUnnot)
      let id := s.hkt.nextMsg.toNat
      let s := s.modQp q fun x => { x with
        merging := [], unnotified := if n then 0 else x.unnotified, mergeLats := [], lats := x.lats ++ x.mergeLats.map fun l => (id, l) }
      s.sendMsg x.servEid e (.write x.cqKey (16 * c0.slot) ((c0 :: rest).flatMap cqeBytes)) true n x.mergeSvc (.cqe q) x.mergeTen
    | _, _ => s

/-- Whether a WAIT is satisfied by a count (R124). -/
def waitSatisfied (cmpl value : Nat) : Bool := decide ((cmpl + 2 ^ 32 - value) % 2 ^ 32 < 2 ^ 31)

/-- A WAIT looked at after its target posted a CQE: a failed CQE breaks it when it asks for that, before the test of
R124 (R125). -/
def State.waitAfter (s : State) (w q : Nat) (failed : Bool) : State :=
  match s.cmd w, s.qp q with
  | some x, some t =>
    if failed && (x.sqe.cdw10.toNat / 65536) % 2 = 1 then s.breakChain w q
    else if x.begun && waitSatisfied t.cmplCount x.sqe.cdw11.toNat then s.complete w St.ok (BitVec.ofNat 32 t.cmplCount)
    else s
  | _, _ => s

/-- The M bit for an owner (R117): its Deferred Error page holds entries, or a lost_count above 0, that it has not read with RAE
cleared. -/
def State.moreBit (s : State) (o : QOwner) : Bool :=
  (s.nsm.deferred.any fun e => e.owner = o) ||
    (let d := tgetD s.nsm.defOwners o {}; d.unread && d.lost != 0)

/-- The op code that Sastrugi sources select by (R525): 1 reads, 2 writes, 3 other commands. -/
def latencyOp (admin : Bool) (opcode : Nat) : Nat := if admin then 3 else if opcode = 2 then 1 else if opcode = 1 then 2 else 3

/-- What the added latency of a command is sampled from (R32, R525). -/
def State.latOf (s : State) (x : Cmd) (admin : Bool) : Lat := ⟨x.bellAt, x.excl, x.ns, s.cmdTenant x, latencyOp admin x.sqe.opcode⟩

/-- The SMART totals after a Read or Write that succeeded (R160): data units in 512 B. -/
def State.countIo (s : State) (x : Cmd) (admin : Bool) : State :=
  if admin || x.status.sct != 0 || x.status.sc != 0 then s
  else if x.sqe.opcode = 2 then { s with nsm := { s.nsm with hostRd := s.nsm.hostRd + 1, unitsRd := s.nsm.unitsRd + 8 * (x.sqe.cdw12.toNat % 65536 + 1) } }
  else if x.sqe.opcode = 1 then { s with nsm := { s.nsm with hostWr := s.nsm.hostWr + 1, unitsWr := s.nsm.unitsWr + 8 * (x.sqe.cdw12.toNat % 65536 + 1) } }
  else s

/-- A CQE on its way to a local owner (R119): one posted write, then the interrupt. -/
def State.localCqe (s : State) (q : Nat) (x : Qp) (e : Cqe) (l : Lat) : State :=
  let s := match x.owner with | .slice n => s.bump (ctrSlc n 0) | _ => s
  let s := (s.modQp q fun x => { x with lats := x.lats ++ [(e.slot, l)] }).hostOp x.owner (.cqe q e)
  if x.ien then s.interrupt x.owner x.vector x.admin else s

/-- A gathered CQE goes out at once where nothing else of its queue is in flight, nothing may wait, the WRITE is full or the ring ends
(R119). -/
def State.mergeSend (s : State) (q : Nat) (atEnd : Bool) : State :=
  let merge := clampNat 1 64 (s.get QPE_FETCH_CFG_cqe_merge)
  let count := match s.qp q with | some y => y.merging.length | none => 0
  if s.inflight q = 0 || s.get QPE_FETCH_CFG_merge_wait = 0 || decide (merge ≤ count) || atEnd then s.completionWrite q else s

/-- A queue pair after a CQE took its next slot (R118). -/
def Qp.posted (x : Qp) (rest : List Nat) (failed : Bool) (now : Word64) (e : Cqe) : Qp :=
  { x with
    comp := rest
    cqTail := (x.cqTail + 1) % x.cqEntries
    cqPhase := if x.cqTail + 1 = x.cqEntries then !x.cqPhase else x.cqPhase
    cqSeq := (x.cqSeq + 1) % 65536
    cmplCount := (x.cmplCount + 1) % 2 ^ 32
    errCount := if failed then (x.errCount + 1) % 2 ^ 32 else x.errCount
    firstUnnot := if x.unnotified = 0 then now else x.firstUnnot
    unnotified := x.unnotified + 1
    lastCqe := some e }

/-- The oldest completed command of a queue gets its CQE (R118): slot, cq_seq, phase, counts; the CQE goes out merged with those of
its class (R119) or by PCIe, WAITs on the queue are looked at (R124), and fetch goes on, in rotation where the module's command slots
had run out (R113). -/
def State.cqePost (s : State) (q : Nat) : State :=
  match s.qp q with
  | none => s
  | some x =>
    match x.comp with
    | [] => s
    | c :: rest =>
      match s.cmd c with
      | none => s.modQp q fun x => { x with comp := rest }
      | some d =>
        if (x.cqTail + 1) % x.cqEntries = x.cqHead then
          if x.state = .deleting then (s.modQp q fun x => { x with comp := rest }).discardCqe q c
          else if x.fullRaised then s
          else ((s.modQp q fun x => { x with fullRaised := true }).raise EV_QPE_CQ_FULL 3 q).enter (ctrQpe (engineOf x q) 5)
        else
          let full := s.freeSlots = 0
          let failed := d.status.sct != 0 || d.status.sc != 0
          let cls := s.cmdClass d
          let lat := s.latOf d x.admin
          let e : Cqe := ⟨x.cqTail, d.dw0, d.dw1, x.sqHead, x.cqSeq, d.sqe.cid, x.cqPhase, d.status, s.moreBit x.owner⟩
          let s := if !x.merging.isEmpty && x.mergeSvc != cls then s.completionWrite q else s
          let s := ((s.dropCmd c).modQp q fun x => x.posted rest failed s.dtc e).qpeStatus
          let s := (s.bump (ctrQpe (engineOf x q) 3)).leave (ctrQpe (engineOf x q) 5)
          let s := if failed then (s.bump (ctrQpe (engineOf x q) 4)).esel 3 1 q else s
          let s := (s.esel 3 0 q).countIo d x.admin
          let s := match x.owner with
            | .net _ =>
              (s.modQp q fun x => { x with
                merging := x.merging ++ [e], mergeSvc := cls, mergeTen := if x.merging.isEmpty then lat.tenant else x.mergeTen
                mergeLats := x.mergeLats ++ [lat] }).mergeSend q (x.cqTail + 1 = x.cqEntries)
            | _ => s.localCqe q x e lat
          let waits := (s.qpe.cmds.filter fun (_, y) => y.waitsOn q).map (·.1)
          let s := s.each waits fun s w => s.waitAfter w q failed
          if full then s.fetchResume else s.fetchIssue q

/-- The merge wait ends and what has gathered is sent (R119). -/
def State.mergeExpiry (s : State) (q : Nat) : State := s.completionWrite q

/-- notify_time passes with nothing due (R119): the last CQE is sent again, unchanged, with flags.n. -/
def State.notifyExpiry (s : State) (q : Nat) : State :=
  match s.qp q with
  | none => s
  | some x =>
    match x.owner, x.lastCqe with
    | .net e, some l =>
      if x.unnotified = 0 then s
      else if !x.merging.isEmpty then
        (s.modQp q fun x => { x with unnotified := max x.unnotified x.notifyCount }).completionWrite q
      else
        (s.modQp q fun x => { x with unnotified := 0 }).sendMsg x.servEid e
          (.write x.cqKey (16 * l.slot) (cqeBytes l)) true true x.mergeSvc (.cqe q) x.mergeTen
    | _, _ => s

/-! ## Starting, WAIT, Abort, holds -/

/-- The ordered flag of an I/O command (R114). -/
def Cmd.ordered (x : Cmd) : Bool := x.sqe.cdw13.toNat / 2 ^ 31 = 1

/-- Whether a queue is an admin queue. -/
def State.isAdmin (s : State) (q : Nat) : Bool := match s.qp q with | some x => x.admin | none => false

/-- No ordering hold applies to a fetched command (R120, R121, R124). -/
def State.orderFree (s : State) (c : Nat) (x : Cmd) : Bool :=
  let earlier := (s.qpe.cmds.takeWhile fun (k, _) => k != c).filter fun (_, y) => y.qpn = x.qpn
  s.isAdmin x.qpn ||
    ((!x.ordered || earlier.isEmpty) &&
      earlier.all fun (_, y) => !y.ordered && !(y.sqe.opcode = 0x80 && y.phase != .done))

/-- Nothing holds a fetched command (R120, R133). -/
def State.startable (s : State) (c : Nat) (x : Cmd) : Bool :=
  x.phase = .fetched && !x.waitList && x.colour != .red && x.adminHold.isNone && x.ownerHold.isNone && s.orderFree c x

/-- WAIT is checked at its start (R123 to R125). -/
def State.waitCheck (s : State) (c : Nat) : State :=
  match s.cmd c with
  | none => s
  | some x =>
    if x.sqe.opcode != 0x80 || x.phase != .started || x.begun then s
    else
      let t := x.sqe.cdw10.toNat % 65536
      match s.qp t with
      | none => s.breakChain c t
      | some y =>
        if y.state != .active then s.breakChain c t
        else if (x.sqe.cdw10.toNat / 65536) % 2 = 1 && y.errCount != x.errMark then s.breakChain c t
        else if waitSatisfied y.cmplCount x.sqe.cdw11.toNat then s.complete c St.ok (BitVec.ofNat 32 y.cmplCount)
        else s.modCmd c fun x => { x with begun := true }

/-- A WAIT reaches its timeout (R125, R132, R133): ST_HELD_TIMEOUT, reason 1. -/
def State.waitTimeout (s : State) (c : Nat) : State :=
  match s.cmd c with
  | none => s
  | some x =>
    let ms := x.sqe.cdw12.toNat % 65536
    if x.sqe.opcode = 0x80 && x.begun && x.phase = .started && ms != 0 then
      s.complete c St.heldTimeout 1 (BitVec.ofNat 32 ms) else s

/-- An admin command held by an activation window reaches its limit (R133): reason 2. -/
def State.adminHoldTimeout (s : State) (c : Nat) : State :=
  match s.cmd c with
  | none => s
  | some x =>
    if x.adminHold.isSome && x.phase = .fetched then
      s.complete c St.heldTimeout 2 (BitVec.ofNat 32 (max (s.get QPE_HOLD_CFG_admin_hold_ms) 200)) else s

/-- A command held by an ownership change reaches its limit (R133): reason 3. -/
def State.ownerHoldTimeout (s : State) (c : Nat) : State :=
  match s.cmd c with
  | none => s
  | some x =>
    if x.ownerHold.isSome && x.phase != .done then
      s.complete c St.heldTimeout 3 (BitVec.ofNat 32 (max (s.get QPE_HOLD_CFG_owner_hold_ms) 50)) else s

/-- The owner of a command's queue. -/
def State.ownerOf (s : State) (x : Cmd) : Option QOwner := (s.qp x.qpn).map (·.owner)

/-- Abort decides the named command against its state in one step (R126, R127). -/
def State.abort (s : State) (c : Nat) : State :=
  match s.cmd c with
  | none => s
  | some x =>
    if x.phase = .done || !s.isAdmin x.qpn || x.sqe.opcode != 8 || x.adminHold.isSome then s
    else
      match s.ownerOf x with
      | none => s
      | some o =>
        let before := (s.qpe.cmds.takeWhile fun (k, _) => k != c).filter fun (_, y) =>
          s.ownerOf y = some o && s.isAdmin y.qpn && y.sqe.opcode = 8 && y.phase != .done
        if 64 ≤ before.length then s.complete c St.abortLimit
        else
          let q := x.sqe.cdw10.toNat % 65536
          let cid := x.sqe.cdw10.toNat / 65536
          let hit := if (s.ownQp o q).isSome then
              s.qpe.cmds.find? fun (k, y) => k != c && y.qpn = q && y.sqe.cid = cid && y.phase = .fetched ||
                (k != c && y.qpn = q && y.sqe.cid = cid && y.sqe.opcode = 0x80 && y.phase = .started)
            else none
          match hit with
          | some (k, _) => (s.complete k St.abortRequested).complete c St.ok 0
          | none => s.complete c St.ok 1

/-! ## Queues on the local host port (R108, R109) -/

/-- A local owner's admin command with an opcode, not yet complete. -/
def State.adminCmd (s : State) (c opcode : Nat) : Option (Cmd × QOwner) :=
  match s.cmd c with
  | none => none
  | some x =>
    if x.phase != .done && s.isAdmin x.qpn && x.sqe.opcode = opcode && x.adminHold.isNone then
      (s.ownerOf x).map fun o => (x, o)
    else none

/-- The most I/O queue identifiers an owner may use (R108, R137): a slice is further held to its own limit (R406). -/
def State.maxQid (s : State) (o : QOwner) : Nat :=
  match o with
  | .slice n => min 511 (s.get SLC_CFG_max_qp n)
  | _ => 511

/-- The vectors of an ACTIVE slice on E0 (R406, R408). -/
def State.sliceVectors (s : State) (n v : Nat) : Bool :=
  s.slc.e1 != some n && s.get SLC_STATUS_state n = 1 && decide (s.get SLC_CFG_vec_base n ≤ v) &&
    decide (v < s.get SLC_CFG_vec_base n + s.get SLC_CFG_vec_count n)

/-- The slices that are not FREE. -/
def State.slicesUsed (s : State) : List Nat := regNonzero s.regs SLC_STATUS_state

/-- Whether a CQ may name a vector (R393, R408): one of the function's own, outside every slice's range; one of the slice's,
which with no vector takes only CQs without interrupts. -/
def State.vectorOk (s : State) (o : QOwner) (v : Nat) (ien : Bool) : Bool :=
  match o with
  | .slice n =>
    let count := if s.slc.e1 = some n then s.hif.idt.msixE1 else s.get SLC_CFG_vec_count n
    if count = 0 then !ien else decide (v < count)
  | _ => decide (v < s.hif.idt.msixE0) && !(s.slicesUsed.any fun n => s.sliceVectors n v)

/-- The I/O queue pairs an owner has. -/
def State.ioQueues (s : State) (o : QOwner) : Nat := (s.qpe.qps.filter fun (_, x) => x.owner = o && !x.admin).length

/-- What Create I/O Completion and Submission Queue check alike (R102, R108): the size, PC, and a ring base aligned to 4 KiB, which
fails as PRP Offset Invalid (PRESUMED, assumption log 89). -/
def ringFails (e : Sqe) : Option Status :=
  let size := e.cdw10.toNat / 65536 + 1
  if size < 2 || decide (4096 < size) then some St.qsizeInvalid
  else if e.cdw11.toNat % 2 = 0 then some St.invalidField
  else if e.dptr0.toNat % 4096 != 0 then some St.prpOffset
  else none

/-- Create I/O Completion Queue (R108). -/
def State.createIoCq (s : State) (c : Nat) : State :=
  match s.adminCmd c 5 with
  | none => s
  | some (x, o) =>
    let qid := x.sqe.cdw10.toNat % 65536
    let ien := (x.sqe.cdw11.toNat / 2) % 2 = 1
    if !ownerLocal o then s.complete c St.invalidOpcode
    else if qid = 0 || decide (s.maxQid o < qid) || s.qpe.cqs.any fun q => q.owner = o && q.qid = qid then s.complete c St.qidInvalid
    else
      match ringFails x.sqe with
      | some st => s.complete c st
      | none =>
        if !s.vectorOk o (x.sqe.cdw11.toNat / 65536) ien then s.complete c St.invalidVector
        else
          let q : LocalCq := { owner := o, qid := qid, entries := x.sqe.cdw10.toNat / 65536 + 1, base := x.sqe.dptr0
                               vector := x.sqe.cdw11.toNat / 65536, ien := ien }
          { s with qpe := { s.qpe with cqs := s.qpe.cqs ++ [q] } }.complete c St.ok

/-- Whether a local CQ serves an SQ. -/
def State.cqServes (s : State) (o : QOwner) (cqid : Nat) : Bool := s.qpe.qps.any fun (_, q) => q.owner = o && q.cqid = cqid && !q.admin

/-- Create I/O Submission Queue (R108): on a CQ that serves no other SQ. -/
def State.createIoSq (s : State) (c : Nat) : State :=
  match s.adminCmd c 1 with
  | none => s
  | some (x, o) =>
    let qid := x.sqe.cdw10.toNat % 65536
    let cqid := x.sqe.cdw11.toNat / 65536
    if !ownerLocal o then s.complete c St.invalidOpcode
    else if qid = 0 || decide (s.maxQid o < qid) || (s.qpnOf o qid).isSome || decide (s.maxQid o ≤ s.ioQueues o) ||
        decide (65536 ≤ s.qpe.qps.length) then
      s.complete c St.qidInvalid
    else
      match ringFails x.sqe with
      | some st => s.complete c st
      | none =>
        match s.qpe.cqs.find? fun q => q.owner = o && q.qid = cqid, firstFree s.qpe.qps (s.qpe.qps.length + 1) 0 with
        | some q, some n =>
          if s.cqServes o cqid then s.complete c St.cqInvalid
          else
            let qp : Qp := { owner := o, admin := false, qid := qid, cqid := cqid, sqEntries := x.sqe.cdw10.toNat / 65536 + 1
                             cqEntries := q.entries, sqBase := x.sqe.dptr0, cqBase := q.base, vector := q.vector, ien := q.ien
                             cqHead := q.head, cqTail := q.tail, cqPhase := q.phase, cqSeq := q.seq }
            ((s.putQp n qp).qpeStatus).complete c St.ok
        | _, _ => s.complete c St.cqInvalid

/-- Delete I/O Submission Queue (R108): as R106; its command completes once the deletion has ended. -/
def State.deleteIoSq (s : State) (c : Nat) : State :=
  match s.adminCmd c 0 with
  | none => s
  | some (x, o) =>
    let qid := x.sqe.cdw10.toNat % 65536
    if !ownerLocal o then s.complete c St.invalidOpcode
    else
      match s.qpnOf o qid with
      | some q =>
        if qid = 0 then s.complete c St.qidInvalid
        else if x.phase != .fetched then s
        else ((s.modCmd c fun x => { x with phase := .started }).modQp q fun x => { x with delCmds := x.delCmds ++ [c] }).beginDelete q
      | none => s.complete c St.qidInvalid

/-- Delete I/O Completion Queue (R108): the CQ must serve no SQ. -/
def State.deleteIoCq (s : State) (c : Nat) : State :=
  match s.adminCmd c 4 with
  | none => s
  | some (x, o) =>
    let qid := x.sqe.cdw10.toNat % 65536
    if !ownerLocal o then s.complete c St.invalidOpcode
    else
      match s.qpe.cqs.find? fun q => q.owner = o && q.qid = qid with
      | some q =>
        if s.cqServes o qid then s.complete c St.qDeletion
        else { s with qpe := { s.qpe with cqs := s.qpe.cqs.filter (· != q) } }.complete c St.ok
      | none => s.complete c St.qidInvalid

/-- The QPN whose completion queue an owner's queue identifier names. -/
def State.cqOf (s : State) (o : QOwner) (cqid : Nat) : Option Nat :=
  (s.qpe.qps.find? fun (_, x) => x.owner = o && x.cqid = cqid).map (·.1)

/-- A write to a doorbell page in BAR2 (R109): 32-bit writes act, others are ignored and counted; a submission queue's doorbell goes
by its identifier, a completion queue's by its own. -/
def State.localDoorbell (s : State) (o : QOwner) (offset width value : Nat) : State :=
  if match o with | .slice n => s.get SLC_STATUS_state n != 1 | _ => false then s
  else if width != 4 || offset % 4 != 0 then
    s.bump (ctrHif (match o with | .slice n => if s.slc.e1 = some n then 1 else 0 | _ => 0) 13)
  else
    let ring := offset / 4 % 2
    match if ring = 0 then s.qpnOf o (offset / 8) else s.cqOf o (offset / 8) with
    | some q => (s.doorbell q ring (value % 65536)).intxUpdate
    | none => s

end Sys2Proof.Machine
end

