-- ==== Sys2Proof/Machine/IoCheck.lean ====
section
/-! DEFINITION. What a fetched command asks for and whether it may run (chapters 04, 05, 11): its fields (R114), data length
and data pointer (R115), the order of checks of R564, rights (R148), redirection (R338), policing lengths (R96). -/

namespace Sys2Proof.Machine

open F

/-! ## Fields (R114 to R116) -/

/-- Starting LBA. -/
def slbaOf (e : Sqe) : Nat := e.cdw10.toNat + 2 ^ 32 * e.cdw11.toNat

/-- Number of blocks. -/
def nlbOf (e : Sqe) : Nat := e.cdw12.toNat % 65536 + 1

/-- Force unit access. -/
def fuaOf (e : Sqe) : Bool := (e.cdw12.toNat / 2 ^ 30) % 2 = 1

/-- The submission entry that 64 bytes spell (R114). -/
def sqeParse (l : List Byte) : Sqe :=
  let d (i : Nat) : Word32 := BitVec.ofNat 32 (leAt l (4 * i) 4)
  let d0 := leAt l 0 4
  { opcode := d0 % 256, fuse := d0 / 2 ^ 8 % 4, psdt := d0 / 2 ^ 14 % 4, cid := d0 / 2 ^ 16
    nsid := d 1, cdw2 := d 2, dptr0 := BitVec.ofNat 64 (leAt l 24 8), dptr1 := BitVec.ofNat 64 (leAt l 32 8)
    cdw10 := d 10, cdw11 := d 11, cdw12 := d 12, cdw13 := d 13, cdw14 := d 14, cdw15 := d 15 }

/-- Whether an I/O opcode is one of R116. -/
def ioOpcode (o : Nat) : Bool := [0x00, 0x01, 0x02, 0x08, 0x09, 0x19, 0x80].contains o

/-- Whether an admin opcode is one of R143. -/
def adminOpcode (o : Nat) : Bool :=
  [0x00, 0x01, 0x02, 0x04, 0x05, 0x06, 0x08, 0x09, 0x0A, 0x0C, 0x0D, 0x10, 0x11, 0x15, 0xC1, 0xC2].contains o

/-- The bytes an admin command takes from the host (R115, R145, R147, R154, R482). -/
def adminIn (e : Sqe) : Nat :=
  if e.opcode = 0x0D then (if e.cdw10.toNat % 16 = 0 then 4096 else 0)
  else if e.opcode = 0x15 then 4096
  else if e.opcode = 0x09 then (if e.cdw10.toNat % 256 = 0xC0 then 32 else 0)
  else if e.opcode = 0x11 then 4 * (e.cdw10.toNat + 1)
  else 0

/-- The bytes an admin command gives to the host (R115, R144, R154, R159). -/
def adminOut (e : Sqe) : Nat :=
  if e.opcode = 0x06 then 4096
  else if e.opcode = 0x02 then 4 * (e.cdw10.toNat / 65536 + 65536 * (e.cdw11.toNat % 65536) + 1)
  else if e.opcode = 0x0A then (if e.cdw10.toNat % 256 = 0xC0 then 32 else 0)
  else 0

/-- The data length of a command (R115). -/
def dataLen (admin : Bool) (e : Sqe) : Nat :=
  if admin then adminIn e + adminOut e
  else if e.opcode = 1 || e.opcode = 2 then 4096 * (nlbOf e)
  else if e.opcode = 9 then 16 * (e.cdw10.toNat % 256 + 1)
  else if e.opcode = 0x19 then 32 * (e.cdw12.toNat % 256 + 1)
  else 0

/-- The type of the first SGL descriptor. -/
def sglTypeOf (e : Sqe) : Nat := e.dptr1.toNat / 2 ^ 60

/-- The region key of a keyed descriptor. -/
def sglKeyOf (e : Sqe) : Word32 := BitVec.ofNat 32 (e.dptr1.toNat / 2 ^ 24)

/-- The length of the first descriptor: 24 bits in a keyed one, 32 otherwise. -/
def sglLenOf (e : Sqe) : Nat := if (sglTypeOf e) = 4 then e.dptr1.toNat % 2 ^ 24 else e.dptr1.toNat % 2 ^ 32

/-! ## Checks that need no namespace (R564 steps 1 to 5) -/

/-- The data pointer's descriptor type (R115): keyed for a network owner; PRPs, a data block or a segment locally. -/
def pointerType (o : QOwner) (e : Sqe) : Option Status :=
  match o with
  | .net _ => if (sglTypeOf e) = 4 then none else some St.sglType
  | _ => if e.psdt = 0 || (sglTypeOf e) = 0 || (sglTypeOf e) = 2 || (sglTypeOf e) = 3 then none else some St.sglType

/-- Whether the first descriptor gives the whole of the data: then its length is checked at once (R115). -/
def wholePointer (o : QOwner) (e : Sqe) : Bool :=
  match o with
  | .net _ => true
  | _ => e.psdt = 1 && (sglTypeOf e) = 0

/-- Steps 3 to 5 of R564 for a command that moves data. -/
def pointerCheck (o : QOwner) (admin : Bool) (e : Sqe) : Option Status :=
  let n := dataLen admin e
  if n = 0 then none
  else
    match pointerType o e with
    | some st => some st
    | none =>
      if 2 ^ 21 < n then some St.invalidField
      else if wholePointer o e && (sglLenOf e) != n then some St.sglLength
      else none

/-- FUSE and PSDT (R114). -/
def psdtCheck (o : QOwner) (e : Sqe) : Option Status :=
  if e.fuse != 0 || decide (1 < e.psdt) || (!ownerLocal o && e.psdt = 0) then some St.invalidField else none

/-- The opcode's own fields (R114, R123, R215, R216). -/
def State.fieldCheck (s : State) (o : QOwner) (e : Sqe) : Option Status :=
  let bad :=
    if e.opcode = 1 || e.opcode = 2 then decide (e.cdw12.toNat / 2 ^ 26 % 16 != 0) || decide (e.cdw12.toNat / 2 ^ 20 % 16 != 0)
    else if e.opcode = 0x19 then decide (e.cdw12.toNat / 2 ^ 8 % 16 != 0) || decide (127 < e.cdw12.toNat % 256)
    else if e.opcode = 0x80 then decide (e.cdw10.toNat / 2 ^ 17 != 0) || decide (e.cdw12.toNat / 2 ^ 16 != 0) ||
      (s.ownQp o (e.cdw10.toNat % 65536)).isNone
    else false
  if bad then some St.invalidField else none

/-- Whether a command of the queue without a posted CQE has a CID (R116). -/
def State.cidBusy (s : State) (q c cid : Nat) : Bool :=
  s.qpe.cmds.any fun (k, x) => k != c && x.qpn = q && x.sqe.cid = cid && x.remote.isNone

/-! ## Namespaces (R131, R148, R338) -/

/-- Whether a module ID is of this pool: the module's own or its partner's (R317, R338). -/
def State.poolModule (s : State) (m : Nat) : Bool := m = s.moduleId || (s.pairShelf && m = s.moduleId ^^^ 1)

/-- The table index that an NSID names. -/
def State.nsIndex (s : State) (nsid : Nat) : Option Nat :=
  (s.nsm.ns.find? fun (i, n) => nsidOf i n = nsid).map (·.1)

/-- Whether this module owns a namespace (R319). -/
def State.owned (s : State) (n : Ns) : Bool := n.ownerId = s.moduleId

/-- The status of a command for a namespace another module owns (R132, R338): the owner's EID and bay. -/
def movedTo (m : Nat) : Status × Word32 × Word32 := (St.nsMoved, BitVec.ofNat 32 (m * 2 ^ 18), BitVec.ofNat 32 (m % 2))

/-- What an NSID absent from the pool completes with (R338): the owner of its location entry, else its creator; Invalid
Namespace or Format for one that this pool created or no module could have. -/
def State.absentNs (s : State) (nsid : Nat) : Status × Word32 × Word32 :=
  let m := (nsid - 1) / 4096
  if nsid = 0 || decide (16384 ≤ m) || s.poolModule m then ({ St.invalidNs with dnr := true }, 0, 0)
  else
    match s.fwdFind 0 (keyNs nsid) with
    | some e => movedTo (eBits e 87 74)
    | none => movedTo m

/-- Whether an attachment entry admits an owner (R147, R410). -/
def admitsKey (o : QOwner) : AttachKey → Bool
  | .cntlid c => match o with | .fn => c = 1 | .slice n => c = n + 2 | .net _ => false
  | .eid e l => match o with | .net x => prefixEq l e x | _ => false

/-- The union of the rights that a namespace's entries give an owner: admitted, read, write (R148). -/
def rightsOf (n : Ns) (o : QOwner) : Bool × Bool × Bool :=
  let l := n.attach.filter fun a => admitsKey o a.key
  (!l.isEmpty, l.any (·.rd), l.any (·.wr))

/-- Whether an I/O opcode changes blocks of its namespace. -/
def changes (e : Sqe) : Bool :=
  e.opcode = 1 || e.opcode = 8 || e.opcode = 0x19 || (e.opcode = 9 && (e.cdw11.toNat / 4) % 2 = 1)

/-- Whether a command names no single namespace. -/
def noNs (e : Sqe) : Bool := e.opcode = 0x80 || (e.opcode = 0 && e.nsid = 0xFFFFFFFF)

/-- Whether the pair forwards commands for the partner's namespaces (R337). -/
def State.forwards (s : State) : Bool := s.flag PAIR_CFG_fwd_en && s.get PAIR_STATUS_state = 2

/-- Whether a command is held for an ownership change (R133): its namespace is being moved (R336), or it touches an LBA whose
data the partner might hold (R480). -/
def State.ownerHeld (s : State) (x : Cmd) : Bool :=
  match x.ns with
  | none => false
  | some i => (s.pair.moves.head?.any fun m => m.ns = i) ||
      (s.jnl.awaiting.any fun (_, d) => d.ns = i &&
        (rangesCross (slbaOf x.sqe) (nlbOf x.sqe) d.lba 1 || x.ranges.any fun (a, n) => rangesCross a n d.lba 1))

/-- Step 6 of R564: the namespace, whether the command is forwarded, or the status it fails with. -/
def State.nsCheck (s : State) (o : QOwner) (e : Sqe) : Sum (Nat × Bool) (Status × Word32 × Word32) :=
  match s.nsIndex e.nsid.toNat with
  | none => .inr (s.absentNs e.nsid.toNat)
  | some i =>
    match s.ns i with
    | none => .inr (s.absentNs e.nsid.toNat)
    | some n =>
      if !s.owned n && !s.forwards then .inr (movedTo n.ownerId)
      else if n.state = .deleting then .inr (St.invalidNs, 0, 0)
      else
        let (adm, rd, wr) := rightsOf n o
        if !adm then .inr (St.invalidNs, 0, 0)
        else if changes e && !wr then .inr (St.writeProtected, 0, 0)
        else if e.opcode = 2 && !rd then .inr (St.invalidNs, 0, 0)
        else .inl (i, !s.owned n)

/-! ## Steps 7 to 9 -/

/-- The blocks a list of ranges takes. -/
def rangesLen (l : List (Nat × Nat)) : Nat := (l.map (·.2)).sum

/-- LBA Out of Range (R217). -/
def lbaOutOfRange : Status := ⟨0, 0x80, false⟩

/-- Step 7 (R217) of a command of a namespace with its ranges read. -/
def rangeCheck (n : Ns) (e : Sqe) (ranges : List (Nat × Nat)) : Option Status :=
  let out (a m : Nat) : Bool := decide (n.nsze < a + m)
  let bad :=
    if e.opcode = 1 || e.opcode = 2 || e.opcode = 8 then out (slbaOf e) (nlbOf e)
    else if e.opcode = 0x19 then out (slbaOf e) (rangesLen ranges) || ranges.any fun (a, m) => out a m
    else if e.opcode = 9 then (e.cdw11.toNat / 4) % 2 = 1 && ranges.any fun (a, m) => out a m
    else false
  if bad then some lbaOutOfRange else none

/-- The namespaces attached to an owner that a Flush of NSID FFFFFFFF covers (R122): those of this module, and, where it forwards, those
of its partner. -/
def State.flushed (s : State) (o : QOwner) : List Nat :=
  (s.nsm.ns.filter fun (_, n) => (s.owned n || s.forwards) && n.state = .active && (rightsOf n o).1).map (·.1)

/-- The namespaces that a command's deferred errors would concern (R130). -/
def State.deferNs (s : State) (o : QOwner) (e : Sqe) (i : Option Nat) : List Nat :=
  match i with
  | some i => [i]
  | none => if e.opcode = 0 then s.flushed o else []

/-- Whether admin commands are held by an activation window (R133, R484). -/
def State.actHolds (s : State) : Bool := s.boot.act.isSome

/-- Step 9 (R155, R183, R194, R235): keys for reads and writes, a blocked group for writes. -/
def State.readyCheck (s : State) (n : Ns) (e : Sqe) : Option Status :=
  let io := e.opcode = 1 || e.opcode = 2 || e.opcode = 0x19
  let wr := e.opcode = 1 || e.opcode = 0x19
  if !io then none
  else
    match tget s.key.slots n.keySlot with
    | none => some (St.notReady true)
    | some k =>
      if k.state = .zeroised then some (St.notReady true)
      else if k.state = .awaiting || s.classDown n.assured then some (St.notReady false)
      else if wr && s.groupBlocked n.group then some (St.notReady false)
      else none

/-- The length a policer charges (R96). -/
def State.cmdLen (s : State) (x : Cmd) : Nat :=
  let cost := s.get TMS_POLICE_CFG_cmd_cost
  if s.isAdmin x.qpn then dataLen true x.sqe + cost
  else if x.sqe.opcode = 1 || x.sqe.opcode = 2 then 4096 * (nlbOf x.sqe) + cost
  else if x.sqe.opcode = 0x19 then 4096 * rangesLen x.ranges + cost
  else cost

/-- A slice's buckets charged for a parsed command (R411). -/
def State.sliceCharge (s : State) (o : QOwner) (len : Nat) : State :=
  match o with
  | .slice n =>
    let x := s.sliceShape n
    { s with slc := { s.slc with shape := tput s.slc.shape n ⟨x.bytes - 65536 * len, x.cmds - 65536, s.dtc⟩ } }
  | _ => s

/-- Steps 7 to 9 of R564 on a command whose ranges are known, then the policer (R96) and the slice's buckets (R411). -/
def State.lateCheck (s : State) (o : QOwner) (c : Nat) : State :=
  match s.cmd c with
  | none => s
  | some x =>
    let n := x.ns.bind s.ns
    match n.bind fun n => rangeCheck n x.sqe x.ranges with
    | some st => s.complete c st
    | none =>
      let l := (s.deferNs o x.sqe x.ns).filter fun i => tgetD s.nsm.pending (o, i) 0 != 0
      if !l.isEmpty then
        let total := (l.map fun i => tgetD s.nsm.pending (o, i) 0).sum
        let s := { s with nsm := { s.nsm with pending := s.nsm.pending.filter fun (k, _) => !(k.1 = o && l.contains k.2) } }
        s.complete c St.deferredWrite (BitVec.ofNat 32 total)
      else
        match n.bind fun n => s.readyCheck n x.sqe with
        | some st => s.complete c st
        | none =>
          let s := (s.police c (s.cmdLen x)).sliceCharge o (s.cmdLen x)
          if s.ownerHeld x then s.modCmd c fun x => { x with ownerHold := some s.dtc } else s

/-- Steps 6 to 9 of R564: the namespace, then the rest for a command that is admitted or forwarded. -/
def State.nsStep (s : State) (o : QOwner) (c : Nat) : State :=
  match s.cmd c with
  | none => s
  | some x =>
    match s.nsCheck o x.sqe with
    | .inr (st, d0, d1) => s.complete c st d0 d1
    | .inl (i, fwd) =>
      let mode := (s.ns i).elim 2 s.effMode
      (s.modCmd c fun x => { x with ns := some i, forwarded := fwd, mode := mode }).lateCheck o c

/-- The data pointer's list must be read before its type and length are known (R115): a segment of SGL descriptors. -/
def listPointer (o : QOwner) (e : Sqe) : Bool := ownerLocal o && e.psdt = 1 && (sglTypeOf e = 2 || sglTypeOf e = 3)

/-- What must be read before step 6 of R564 can be taken: a list of descriptors (steps 3 and 5), or the ranges of a Copy or Dataset
Management (steps 2 and 7). -/
def readsFirst (o : QOwner) (e : Sqe) : Bool := e.opcode = 9 || e.opcode = 0x19 || ((e.opcode = 1 || e.opcode = 2) && listPointer o e)

end Sys2Proof.Machine
end

