-- ==== Sys2Proof/Machine/Lanes.lean ====
section
/-! DEFINITION. The cipher lanes (R175 to R178): the four queues of a class, the lane a unit takes, what a lane holds of keys and of
its stream generator, line packets on lanes. -/

namespace Sys2Proof.Machine

open F

/-! ## Work waiting and on lanes (R176) -/

/-- The cipher blocks of 16 B that a unit takes a lane for. -/
def CipUnit.blocks (u : CipUnit) : Nat := match u.use with | .line n => max ((n + 15) / 16) 1 | _ => 256

/-- The queue of its class that a unit waits in: received line work, sent line work, encryption, decryption. -/
def CipUnit.queue (u : CipUnit) : Nat :=
  match u.use, u.encrypt with
  | .line _, false => 0
  | .line _, true => 1
  | _, true => 2
  | _, false => 3

/-- The blocks queued on a lane. -/
def State.laneBlocks (s : State) (l : Nat) : Nat := (tgetD s.cip.lanes l []).foldl (fun n u => n + u.blocks) 0

/-- The lane of a class with the fewest blocks queued, the lowest on a tie. -/
def State.laneFor (s : State) (assured : Bool) : Option Nat :=
  (s.lanesOf assured).foldl (fun (m : Option Nat) l => match m with
    | none => some l
    | some k => if s.laneBlocks l < s.laneBlocks k then some l else m) none

/-- The queue of a class that is served next, in rotation among those that hold work. -/
def State.queueTurn (s : State) (assured : Bool) : Option Nat :=
  ((List.range 4).map fun j => (tgetD s.cip.turn assured 0 + j) % 4).find? fun k => !(tgetD s.cip.queues (assured, k) []).isEmpty

/-- The key in a slot, from its shares (R179). -/
def State.slotKey (s : State) (i : Nat) : Option (BitVec 512) :=
  match tget s.key.slots i with
  | some k => if k.state = .loaded then some k.value else none
  | none => none

/-- The key that a lane's cache holds of a slot (R178). -/
def State.laneKey (s : State) (l slot : Nat) : Option (BitVec 512) :=
  ((tgetD s.cip.held l {}).cache.find? fun (k : LaneKey) => k.slot = slot).map fun k => k.key ^^^ k.mask

/-- A slot's key as a lane holds it: shares newly masked for each unit on an assured lane, one value on a bulk lane (R175, R178). -/
def State.laneShares (s : State) (l slot : Nat) (v : BitVec 512) : LaneKey × State :=
  if 40 ≤ l then
    let (m, s) := s.freshWide
    (⟨slot, v ^^^ m, m⟩, s)
  else (⟨slot, v, 0⟩, s)

/-- A slot's key used on a lane: from its cache of 16 expanded keys, over the key bus where it is not there (R178). -/
def State.laneLoad (s : State) (l slot : Nat) : State :=
  match (s.laneKey l slot).or (s.slotKey slot) with
  | none => s
  | some v =>
    let (k, s) := s.laneShares l slot v
    let h := tgetD s.cip.held l {}
    let h := { h with cache := (k :: h.cache.filter fun (k : LaneKey) => k.slot != slot).take 16 }
    { s with cip := { s.cip with held := tput s.cip.held l h } }

/-- A unit put on a lane. -/
def State.laneTake (s : State) (l : Nat) (u : CipUnit) : State :=
  let q := tgetD s.cip.lanes l []
  let s := (if q.isEmpty then s.enter (ctrCip l 1) else s).laneLoad l u.slot
  { s with cip := { s.cip with lanes := tput s.cip.lanes l (q ++ [u]) } }

/-- Units of a class given to lanes, at most `fuel`: the queue in turn gives its oldest to the lane chosen, unless that holds two already
and so the class is saturated (assumption log 90). -/
def State.cipDispatch (assured : Bool) : Nat → State → State
  | 0, s => s
  | fuel + 1, s =>
    match s.queueTurn assured, s.laneFor assured with
    | some k, some l =>
      if 2 ≤ (tgetD s.cip.lanes l []).length then s
      else
        match tgetD s.cip.queues (assured, k) [] with
        | [] => s
        | u :: rest =>
          let s := { s with cip := { s.cip with queues := tput s.cip.queues (assured, k) rest, turn := tput s.cip.turn assured ((k + 1) % 4) } }
          State.cipDispatch assured fuel (s.laneTake l u)
    | _, _ => s

/-- A unit handed to its class; a class that does no cipher work takes none (R193, R194). -/
def State.cipPush (s : State) (assured : Bool) (u : CipUnit) : State :=
  if s.classDown assured then s
  else
    let q := tgetD s.cip.queues (assured, u.queue) []
    State.cipDispatch assured 1 { s with cip := { s.cip with queues := tput s.cip.queues (assured, u.queue) (q ++ [u]) } }

/-- Every unit on a lane or waiting. -/
def Cip.units (c : Cip) : List CipUnit := (c.lanes.flatMap (·.2)) ++ c.queues.flatMap (·.2)

/-- The units that wait, past the one each lane is running. -/
def Cip.waiting (c : Cip) : List CipUnit := (c.lanes.flatMap fun (_, l) => l.drop 1) ++ c.queues.flatMap (·.2)

/-- The block without the waiting units that fail a test; what the lanes are running stays. -/
def Cip.keepWaiting (c : Cip) (p : CipUnit → Bool) : Cip :=
  { c with lanes := c.lanes.map fun (i, (l : List CipUnit)) => (i, l.take 1 ++ (l.drop 1).filter p), queues := c.queues.map fun (i, (l : List CipUnit)) => (i, l.filter p) }

/-- The block without the units that fail a test. -/
def Cip.keep (c : Cip) (p : CipUnit → Bool) : Cip :=
  { c with lanes := c.lanes.map fun (i, (l : List CipUnit)) => (i, l.filter p), queues := c.queues.map fun (i, (l : List CipUnit)) => (i, l.filter p) }

/-! ## What a lane holds (R175, R178, R187) -/

/-- A lane that has processed blocks: its stream generator is reseeded by the DRBG before its first block and every 2^16 (R175). -/
def State.laneRan (s : State) (l n : Nat) : State :=
  let h := tgetD s.cip.held l {}
  let (h, s) := if h.stream.isEmpty || decide (65536 ≤ h.blocks + n) then
      let (b, s) := s.drbg 3
      ({ h with stream := b, blocks := 0 }, s)
    else ({ h with blocks := h.blocks + n }, s)
  { s with cip := { s.cip with held := tput s.cip.held l h } }

/-- A slot's key evicted from every lane's cache (R187). -/
def Cip.evict (c : Cip) (slot : Nat) : Cip := { c with held := c.held.map fun (i, (h : Lane)) => (i, { h with cache := h.cache.filter fun (k : LaneKey) => k.slot != slot }) }

/-- The oldest unit of a lane leaves it, and the class gives it the next (R176). -/
def State.lanePop (s : State) (l : Nat) : Option (CipUnit × State) :=
  match tgetD s.cip.lanes l [] with
  | [] => none
  | u :: rest =>
    let s := { s with cip := { s.cip with lanes := tput s.cip.lanes l rest } }.bump (ctrCip l 0)
    let s := (if rest.isEmpty then s.leave (ctrCip l 1) else s).laneRan l u.blocks
    some (u, State.cipDispatch (decide (40 ≤ l)) 1 s)

/-! ## Line packets on lanes (R176) -/

/-- Whether a slot is of the assured class. -/
def State.slotAssured (s : State) (slot : Nat) : Bool := (tget s.key.slots slot).any (·.assured)

/-- A packet under a slot's key takes a lane of the slot's class for its bytes; it is encrypted or decrypted at once, its unit accounts
for the lane's time (assumption log 91). -/
def State.linePush (s : State) (slot bytes : Nat) (sent : Bool) : State :=
  s.cipPush (s.slotAssured slot) { use := .line bytes, encrypt := sent, slot := slot, kgen := false, lba := 0, data := 0 }

end Sys2Proof.Machine
end

