-- ==== Sys2Proof/Machine/Serial.lean ====
section
/-! DEFINITION. The bytes of the metadata blocks and labels the module writes to members: Firn blocks (R218 to R220), map
pages (R210, R211), summaries (R227), segment table pages (R204), directory pages, root blocks, pool labels (R225). -/

namespace Sys2Proof.Machine

open F

/-- Bytes padded with zeroes to a length. -/
def padTo (n : Nat) (l : List Byte) : List Byte := (l ++ List.replicate (n - l.length) 0).take n

/-- A location: segment and offset as bits [39:0] of a member entry (R210). -/
def locNat (seg off : Nat) : Nat := seg * 65536 + off

/-- The 64 bits of a map entry (R210). -/
def entNat : MapEnt → Nat
  | .unmapped => 0
  | .member k g o => 2 ^ 62 + bit k * 2 ^ 61 + locNat g o
  | .neve k i => 2 ^ 63 + bit k * 2 ^ 61 + i
  | .lost g o => 2 ^ 63 + 2 ^ 62 + locNat g o

/-- The state code of a segment (R204). -/
def segStateCode : SegState → Nat
  | .isOpen => 1
  | .isSealed => 2
  | .calving => 3
  | .releasing => 4

/-- The head code of a segment (R204). -/
def headCode : HeadId → Nat
  | .host _ => 0
  | .cold _ => 1
  | .meta_ => 2

/-- A segment table entry of 192 B (R204). -/
def segBytes (g : Option Seg) : List Byte :=
  match g with
  | none => List.replicate 192 0
  | some g =>
    leBytes 1 (segStateCode g.state + 8 * headCode g.head) ++ leBytes 1 ((headGroup g.head).getD 0) ++ leBytes 1 g.k ++
    leBytes 1 g.m ++ leBytes 2 g.e ++ leBytes 2 g.done ++ leBytes 4 g.live ++ leBytes 4 0 ++ leBytes 8 g.sealSeq ++
    (g.members.map (BitVec.ofNat 8) ++ List.replicate 32 (0xFF : Byte)).take 31 ++ leBytes 1 0 ++
    padTo 124 (g.base.flatMap fun b => leBytes 4 b) ++
    leBytes 8 (match g.summary with | some (a, b) => locNat a b | none => 0) ++ leBytes 4 0

/-- rtype, ns_index, count, arg and loc of a record (R220). -/
def firnFields : FirnBody → Nat × Nat × Nat × Nat × Nat
  | .mapSet ns lba n g o _ => (1, ns, n, lba, locNat g o)
  | .mapClear ns lba n => (2, ns, n, lba, 0)
  | .segState i _ => (3, 0, 8, i, 0)
  | .pagePut ns p g o _ _ => (4, ns, 1, p, locNat g o)
  | .nsMeta im => (5, match im with | .entry i _ => i | .attach i _ => i | .service i _ _ => i | .keyGen i .. => i | _ => 0, imageRecs im,
      match im with | .entry _ _ => 1 | .attach _ _ => 2 | .mgmtSeq .. => 3 | .tenant _ _ _ _ => 4 | .service _ _ _ => 4 | .keyGen .. => 5, 0)
  | .nsGroup _ => (5, 0, 0, 0, 0)
  | .checkpoint r g o => (6, 0, 0, r, locNat g o)
  | .summaryPut i g o => (7, 0, 0, i, locNat g o)
  | .nsDelete ns nsid => (8, ns, 0, nsid, 0)

/-- The kgen flag of a record (R219). -/
def firnKgen : FirnBody → Bool
  | .mapSet _ _ _ _ _ k => k
  | _ => false

/-- The payload of a record's continuation records (R220). -/
def firnPayload : FirnBody → List Byte
  | .segState _ g => segBytes g
  | .pagePut _ _ _ _ b c => leBytes 8 b ++ leBytes 4 c
  | .nsMeta i => Config.nsImage i
  | _ => []

/-- The single records of a group (R142, R220). -/
def firnParts : FirnBody → List FirnBody
  | .nsGroup l => l.map .nsMeta
  | b => [b]

/-- The record of a group that a slot counted from its first belongs to, and the slot counted from that record's. -/
def firnPart : List FirnBody → Nat → FirnBody × Nat
  | [], j => (.nsGroup [], j)
  | b :: t, j => if j < firnSpan b then (b, j) else firnPart t (j - firnSpan b)

/-- The 32 B of one sequence number that a record takes: the record itself, or its j-th continuation record (R219, R220). -/
def firnSlot (r : FirnRec) (j : Nat) : List Byte :=
  match firnPart (firnParts r.body) j with
  | (b, 0) =>
    let (t, ns, n, arg, loc) := firnFields b
    leBytes 8 (r.seq + j) ++ leBytes 1 t ++ leBytes 1 (bit (firnKgen b) + 2 * r.origin) ++ leBytes 2 ns ++ leBytes 4 n ++
      leBytes 8 arg ++ leBytes 8 loc
  | (b, k + 1) => leBytes 8 (r.seq + j) ++ padTo 24 ((firnPayload b).drop (24 * k))

/-- The bytes of the sequence numbers from `a` on and below `b` that a record takes. -/
def firnBytes (r : FirnRec) (a b : Nat) : List Byte :=
  ((List.range (firnSpan r.body)).filter fun j => decide (a ≤ r.seq + j) && decide (r.seq + j < b)).flatMap (firnSlot r)

/-- Bytes 0 to 7 of a block that carries a CRC-32C of what follows them (R218, R225): magic and CRC. -/
def withCrc (magic : Nat) (rest : List Byte) : List Byte := leBytes 4 magic ++ leBytes 4 (crc32c rest).toNat ++ rest

/-- A Firn block of 4 KiB (R218): the sequence numbers from `first` on, `count` of them, of the records that take them. -/
def firnBlock (pool first count : Nat) (l : List FirnRec) : Block :=
  bytesBlock (withCrc 0x4E524946 (padTo 4088 (leBytes 8 first ++ leBytes 2 count ++ leBytes 2 0 ++ leBytes 4 pool ++ leBytes 8 0 ++
    l.flatMap fun r => firnBytes r first (first + count))))

/-- A map page (R210, R211). -/
def State.pageBlock (s : State) (ns p : Nat) : Block :=
  bytesBlock ((List.range 512).flatMap fun j => leBytes 8 (entNat (s.lookup ns (512 * p + j))))

/-- One 4 KiB part of a segment summary (R227). -/
def summaryBlock (g : Seg) (part : Nat) : Block :=
  bytesBlock ((List.range 512).flatMap fun j => leBytes 8 (match tget g.blocks (512 * part + j) with
    | some (.data ns lba k) => ns * 2 ^ 52 + bit k * 2 ^ 51 + 2 ^ 50 + lba
    | some (.md _) => 2 ^ 50
    | none => 0))

/-- The parts of a segment's summary: 512 entries each. -/
def summaryParts (g : Seg) : Nat := (segBlocks g + 511) / 512

/-- A segment table page: 21 entries. -/
def State.segPageBlock (s : State) (n : Nat) : Block :=
  bytesBlock (padTo 4096 ((List.range 21).flatMap fun j => segBytes (s.seg (21 * n + j))))

/-- A directory page: the entries of 512 map pages, bit 62 set where a page was never written (R211). -/
def State.dirPageBlock (s : State) (ns n : Nat) : Block :=
  bytesBlock ((List.range 512).flatMap fun j => leBytes 8 (match tget s.str.pages (ns, 512 * n + j) with
    | some x => (match x.loc with | some (a, b) => locNat a b | none => 2 ^ 62)
    | none => 2 ^ 62))

/-- The first root block (R220): the two counts and the locations, or as many as leave room for the next root block's location. -/
def rootFirst (counts : List Byte) (locs : List Nat) (next : Nat) : Block :=
  if locs.length ≤ 511 then bytesBlock (padTo 4096 (counts ++ locs.flatMap fun l => leBytes 8 l))
  else bytesBlock (padTo 4088 (counts ++ (locs.take 510).flatMap fun l => leBytes 8 l) ++ leBytes 8 next)

/-- A further root block (assumption log 98): locations only, up to 512, or 511 and the next root block's. -/
def rootMore (locs : List Nat) (next : Nat) : Block :=
  if locs.length ≤ 512 then bytesBlock (padTo 4096 (locs.flatMap fun l => leBytes 8 l))
  else bytesBlock (((locs.take 511).flatMap fun l => leBytes 8 l) ++ leBytes 8 next)

/-- Root blocks that a number of locations needs (R220). -/
def rootCount (n : Nat) : Nat := if n ≤ 511 then 1 else 1 + (if n - 510 ≤ 512 then 1 else 1 + (n - 510 - 512 + 510) / 511)

/-- Root block `j` of the chain, the next one's location given (R220). -/
def rootBlock (counts : List Byte) (locs : List Nat) (j next : Nat) : Block :=
  if j = 0 then rootFirst counts locs next else rootMore (locs.drop (510 + 511 * (j - 1))) next

/-- A pool label, in the 4 KiB that a label write covers (R225, R306). -/
def labelBlock (l : DriveLabel) : Block :=
  bytesBlock (padTo 4096 (withCrc 0x4C504B48 (leBytes 8 l.seq ++ leBytes 4 l.poolId ++ leBytes 1 l.member ++
    leBytes 1 (bit l.chunk128) ++ leBytes 2 0 ++ leBytes 8 l.ckptLoc ++ leBytes 8 l.ckptSeq ++ List.replicate 24 0)))

/-! ## Névé descriptors (R243, R263, R267) -/

/-- The CNTLID of an owner (R144). -/
def cntlidOf : QOwner → Nat
  | .fn => 1
  | .slice n => n + 2
  | .net _ => 0xFFF0

/-- The state code of a Névé slot (R243). -/
def neveStateCode : NeveState → Nat
  | .reserved => 1
  | .committed => 2
  | .placed => 3

/-- A descriptor of 32 B (R243): its last 4 B are the CRC of the others. -/
def neveDescBytes (x : NeveSlot) (d : NeveDesc) : List Byte :=
  let (kind, own) : Nat × Nat := match d.owner with | .net e => (0, e.toNat) | o => (1, cntlidOf o)
  let l := leBytes 1 (neveStateCode x.state) ++
    leBytes 1 (32 * bit x.mirror + 16 * kind + 8 * bit d.early + 4 * bit d.fua + 2 * bit x.dataOk + bit d.kgen) ++ leBytes 2 d.ns ++
    leBytes 4 own ++ leBytes 6 d.lba ++ leBytes 2 0 ++ leBytes 8 d.seq ++ leBytes 4 d.firnMark
  l ++ leBytes 4 (crc32c l).toNat

/-- The data CRC of a slot (R243). -/
def neveCrc (x : NeveSlot) : Nat := (crc32c (blockBytes x.data)).toNat

/-- The full sequence number of a firn_mark: the one at or above `low` with these low 32 bits (R267). -/
def fullMark (low mark : Nat) : Nat := low + (mark + 2 ^ 32 - low % 2 ^ 32) % 2 ^ 32

/-- The full sequence number of a firn_mark taken when the next one was `next` or below (R263). -/
def fullBelow (next mark : Nat) : Nat := next - (next % 2 ^ 32 + 2 ^ 32 - mark) % 2 ^ 32

end Sys2Proof.Machine
end

