-- ==== Sys2Proof/Machine/StrHeads.lean ====
section
/-! DEFINITION. Segments and stripes (R202 to R212, R222 to R231): opening, filling, writing, abandoning and closing, the map
switch of a stripe on members, sealing and release, Firn blocks and compaction's blocks on the metadata head, the Calving
level. -/

namespace Sys2Proof.Machine

open F

/-! ## Segments opened (R202, R203, R319, R322) -/

/-- A table of placement rows as R202 demands it: 1,024 rows of w distinct live members; each member in floor(1,024 × w ÷ N_live) of
them or one more; the numbers of rows that two members share within 1 of each other. -/
def balanced (live : List Nat) (w : Nat) (t : List (List Nat)) : Bool :=
  let times (p : List Nat → Bool) : Nat := (t.filter p).length
  let each := live.map fun x => times fun l => l.contains x
  let pairs := live.flatMap fun x => (live.filter fun y => decide (x < y)).map fun y => times fun l => l.contains x && l.contains y
  t.all (fun l => l.length = w && decide l.Nodup && l.all live.contains) &&
    each.all (fun n => n = 1024 * w / live.length || n = 1024 * w / live.length + 1) &&
    pairs.all fun n => pairs.all fun m => decide (n ≤ m + 1)

/-- A row of the placement table of a width (R202), none where the firmware's table is not as R202 demands it (assumption log 38). -/
def placeRow (live : List Nat) (w r : Nat) : List Nat :=
  if balanced live w ((List.range 1024).map (Config.placementRow live w)) then Config.placementRow live w r else []

/-- Whether the control cores are in reset within an activation window, so that work which needs them waits (R484). -/
def State.coresAway (s : State) : Bool := s.boot.act.isSome && s.boot.handed

/-- The placement tables rebuilt for the members that are live now (R202), by the control cores (R484). -/
def State.rebuildTables (s : State) : State := if s.coresAway then s else { s with str := { s.str with placed := s.liveMembers } }

/-- The bases of a row for extents of e granules; none where a member is not live or lacks the space (R202). -/
def State.rowBases (s : State) (l : List Nat) (e : Nat) : Option (List Nat) :=
  if l.isEmpty || !l.all s.live then none else l.mapM fun x => s.newExtent x e

/-- The first usable row from row `r` on, among `fuel` rows in rotation, with its number and bases. -/
def State.findRow (s : State) (w e : Nat) : Nat → Nat → Option (Nat × List Nat × List Nat)
  | 0, _ => none
  | fuel + 1, r =>
    let l := placeRow s.str.placed w (r % 1024)
    match s.rowBases l e with
    | some b => some (r % 1024, l, b)
    | none => s.findRow w e fuel (r + 1)

/-- The lowest free segment ID of the parity the module takes, at most 16,777,214 (R204, R319). -/
def State.freeSegId (s : State) (odd : Bool) : Option Nat :=
  let pair := s.pairShelf
  (List.range (min 16777215 (2 * (s.str.segs.length + s.openingSegs.length) + 4))).find? fun i =>
    (s.seg i).isNone && (!pair || (i % 2 = 1) = odd) && !(s.openingSegs.any fun (j, _) => j = i) &&
    !(s.pair.grants.any fun (_, l) => l.any fun (j, _) => j = i)

/-- The segment a head would open (R200, R202): its ID, entry and the row taken. -/
def State.drawSeg (s : State) (h : HeadId) (odd : Bool) : Option (Nat × Seg × Nat) :=
  let (k, m) := s.headWidth h
  if k < 4 then none
  else
    match s.findRow (k + m) (256 / k) 1024 (tgetD s.str.rotor h 0), s.freeSegId odd with
    | some (r, l, b), some i => some (i, { head := h, k := k, m := m, e := 256 / k, members := l, base := b }, r)
    | _, _ => none

/-- CALVE_LEVEL_CHANGE (R231): the level follows the free fraction, each level ending 0.5 % above its threshold. -/
def State.calveCheck (s : State) : State :=
  let start := s.get STR_CALVE_CFG_start
  let urgent := min (s.get STR_CALVE_CFG_urgent) start
  let stop := min (s.get STR_CALVE_CFG_stop) urgent
  let f := s.freePm
  let cur := s.get STR_POOL_STATUS_calve_level
  let thr (l : Nat) : Nat := if l = 3 then stop else if l = 2 then urgent else start
  let stays (l : Nat) : Bool := decide (f < thr l + (if l ≤ cur then 5 else 0))
  let lev := if stays 3 then 3 else if stays 2 then 2 else if stays 1 then 1 else 0
  let s := s.set STR_POOL_STATUS_calve_level 0 lev
  let s := if decide (2 ≤ lev) && decide (cur < 2) then s.raise EV_STR_CALVE_URGENT 0 0 else s
  if lev = 3 && cur != 3 then s.raise EV_STR_CALVE_STOP 0 0 else s

/-- A segment made the open one of a head once its SEG_STATE is appended (R203); the Calving level follows what it takes (R231). -/
def State.enterSeg (s : State) (h : HeadId) (i : Nat) (g : Seg) : State :=
  let s := { s with str := { s.str with heads := tput s.str.heads h i } }.firnAppend 0 (.segState i (some g))
  let s := match h with
    | .host n => (s.set STR_GROUP_STATUS_open_seg n i).set STR_GROUP_STATUS_k_cap n (s.kCap n)
    | _ => s
  s.calveCheck

/-- Whether a granted segment is no wider than its head may open now, on live members (R234). -/
def State.grantFits (s : State) (h : HeadId) (g : Seg) : Bool := decide (g.k ≤ (s.headWidth h).1) && g.members.all s.live

/-- SEGMENT_OPEN (R202, R231, R322): the pool master draws a row, the other module takes a grant; at the Calving stop
level host heads open none. -/
def State.openSeg (s : State) (h : HeadId) : Option State :=
  if (match h with | .host _ => true | _ => false) && s.get STR_POOL_STATUS_calve_level = 3 then none
  else if s.isMaster then
    match s.drawSeg h false with
    | none => none
    | some (i, g, r) => some ({ s with str := { s.str with rotor := tput s.str.rotor h (r + 1) } }.enterSeg h i g)
  else
    match (tgetD s.pair.grants h []).dropWhile fun (_, g) => !s.grantFits h g with
    | (i, g) :: rest =>
      some (({ s with pair := { s.pair with grants := tput s.pair.grants h rest } }.enterSeg h i g).pairSend (.segGrant (.request h)))
    | [] => none

/-! ## Stripes (R205 to R208) -/

/-- Stripes of a head being written (R207). -/
def State.writingOf (s : State) (h : HeadId) : Nat := (s.str.stripes.filter fun (_, x) => x.head = h && x.writing).length

/-- A head's open segment, where a stripe can begin in it. -/
def State.headSeg (s : State) (h : HeadId) : Option (Nat × Seg) :=
  match tget s.str.heads h with
  | some i => match s.seg i with
    | some g => if g.state = .isOpen && !g.closed && decide (g.begun < s.segStripes g) then some (i, g) else none
    | none => none
  | none => none

/-- Whether a head's next segment waits for its SEG_STATE (R203). -/
def State.headOpening (s : State) (h : HeadId) : Bool := match tget s.str.heads h with | some i => (s.seg i).isNone | none => false

/-- A head that has no segment to begin a stripe in opens one, where it can (R202, R209). -/
def State.ensureSeg (s : State) (h : HeadId) : State :=
  if (s.headSeg h).isSome || s.headOpening h then s else (s.openSeg h).getD s

/-- A new stripe of a head in its open segment; none where it has none (R207). -/
def State.newStripe (s : State) (h : HeadId) : Option (Nat × State) :=
  (s.headSeg h).map fun (i, g) =>
    let n := s.str.nextStr
    let s := s.putSeg i { g with begun := g.begun + 1 }
    (n, { s with str := { s.str with
        stripes := tput s.str.stripes n { head := h, seg := i, idx := g.begun, since := s.dtc }, nextStr := n + 1 } })

/-- The stripe a head is filling, or a new one; none while a stripe of the head waits for one of the eight being written (R207). -/
def State.headStripe (s : State) (h : HeadId) : Option (Nat × State) :=
  match s.str.stripes.find? fun (_, x) => x.head = h && !x.writing with
  | some (n, x) => if x.due then none else some (n, s)
  | none => s.newStripe h

/-- The data of a chunk of a stripe (R198, R200): blocks of a data chunk, or parity. -/
def State.chunkData (s : State) (x : Stripe) (g : Seg) (c : Nat) : List Block :=
  let b := s.chunkBlocks
  let at_ (i row : Nat) : Block := (x.blocks.getD (i * b + row) (.pad, 0)).2
  (List.range b).map fun row =>
    if c < g.k then at_ c row else parityBlock (c - g.k) ((List.range g.k).map fun i => at_ i row)

/-- Whether a block of a stripe is one of Firn compaction (R224): a map page, a page of a directory, a root block. -/
def compactionBlk : StripeBlk → Bool
  | .md (.page _ _) => true
  | .md (.segPage _) => true
  | .md (.dirPage _ _) => true
  | .md (.root _) => true
  | _ => false

/-- Whether a block of a stripe holds Firn records. -/
def firnBlk : StripeBlk → Bool
  | .md (.firn _ _) => true
  | _ => false

/-- The tenant a stripe's chunk writes are charged to (R87, R207, R229, R279): 4,095 for what is rebuilt, 4,094 for Calving and, on the
metadata head, for compaction where the stripe carries no Firn append (assumption log 80), else 4,093. -/
def stripeTenant (x : Stripe) : Nat :=
  match x.head with
  | .cold _ => if x.blocks.any fun (b, _) => match b with | .moved _ _ _ _ _ o => o = 3 | _ => false then 4095 else 4094
  | .meta_ => if (x.blocks.any fun (b, _) => compactionBlk b) && !(x.blocks.any fun (b, _) => firnBlk b) then 4094 else 4093
  | _ => 4093

/-- STRIPE_WRITE (R205 to R207): a stripe padded where it is not full, its chunk writes put on the drive root; while eight stripes of
its head are being written it waits. -/
def State.stripeWrite (s : State) (n : Nat) : State :=
  match tget s.str.stripes n with
  | none => s
  | some x =>
    match s.seg x.seg with
    | none => s
    | some g =>
      if x.writing then s
      else if 8 ≤ s.writingOf x.head then { s with str := { s.str with stripes := tput s.str.stripes n { x with due := true } } }
      else
      let cap := g.k * s.chunkBlocks
      let padded := decide (x.blocks.length < cap)
      let x := { x with blocks := x.blocks ++ List.replicate (cap - x.blocks.length) (.pad, 0)
                        writing := true, due := false, padded := padded, waiting := List.range (segW g) }
      let s := { s with str := { s.str with stripes := tput s.str.stripes n x } }
      let s := match headGroup x.head with
        | some gr =>
          let s := s.bump (ctrStrG gr 0)
          let s := if padded then s.bump (ctrStrG gr 1) else s
          match x.head with
          | .host _ =>
            let t := tgetD s.str.stats gr {}
            { s with str := { s.str with stats := tput s.str.stats gr ⟨t.stripes + 1, t.padded + bit padded⟩ } }
          | _ => s
        | none => s
      s.each (List.range (segW g)) fun s c =>
        s.driveQueue ⟨chunkMember g x.idx c, .chunk n c, s.chunkLba g x.idx c 0, s.chunkBlocks⟩ (stripeTenant x)

/-- A block placed at the next offset of a stripe; a full stripe is written at once (R205, R206). -/
def State.stripePut (s : State) (n : Nat) (b : StripeBlk) (d : Block) : State :=
  match tget s.str.stripes n with
  | none => s
  | some x =>
    match s.seg x.seg with
    | none => s
    | some g =>
      let x := { x with blocks := x.blocks ++ [(b, d)], since := if x.blocks.isEmpty then s.dtc else x.since }
      let s := { s with str := { s.str with stripes := tput s.str.stripes n x } }
      if x.blocks.length = g.k * s.chunkBlocks then s.stripeWrite n else s

/-- A block placed by a head (R205, R229, R223), and whether the head could take it; no head takes one before step 11 of a boot (R480). -/
def State.headPut (s : State) (h : HeadId) (b : StripeBlk) (d : Block) : State × Bool :=
  if s.booting then (s, false)
  else
    let s := s.ensureSeg h
    match s.headStripe h with
    | some (n, s) => (s.stripePut n b d, true)
    | none => (s, false)

/-- The next of a head's stripes that wait to be written (R207). -/
def State.writeDue (s : State) (h : HeadId) : State :=
  s.each ((s.str.stripes.filter fun (_, x) => x.head = h && x.due).map (·.1)) State.stripeWrite

/-- A relocated or re-encrypted block placed by its cold head, or kept until the head can take it (R229, R188). -/
def State.coldPut (s : State) (h : HeadId) (b : StripeBlk) (d : Block) : State :=
  let (s, ok) := s.headPut h b d
  if ok then s else { s with str := { s.str with cold := s.str.cold ++ [(h, b, d)] } }

/-- Blocks that wait for their cold head are given to it again. -/
def State.coldDrain (s : State) : State :=
  let l := s.str.cold
  { s with str := { s.str with cold := [] } }.each l fun s (h, b, d) => s.coldPut h b d

/-- The segment and offset at which block `j` of a stripe lies (R200). -/
def State.blockOff (s : State) (x : Stripe) (g : Seg) (j : Nat) : Nat := x.idx * g.k * s.chunkBlocks + j

/-! ## Metadata blocks (R222 to R224) -/

/-- Metadata blocks that wait are placed by the metadata head while it can take them (R223). -/
def State.mdDrain (s : State) : Nat → State
  | 0 => s
  | fuel + 1 =>
    match s.jnl.mdQueue with
    | [] => s
    | (b, d) :: rest =>
      let (t, ok) := s.headPut .meta_ (.md b) d
      if ok then { t with jnl := { t.jnl with mdQueue := rest } }.mdDrain fuel else t

/-- A metadata block given to the metadata head. -/
def State.mdPlace (s : State) (b : MetaBlk) (d : Block) : State :=
  let s := { s with jnl := { s.jnl with mdQueue := s.jnl.mdQueue ++ [(b, d)] } }
  s.mdDrain s.jnl.mdQueue.length

/-- How many sequence numbers from `q` on, at most `room`, consecutive records take. -/
def firnCut (q room : Nat) : List FirnRec → Nat
  | [] => 0
  | r :: t =>
    if q < r.seq then 0
    else
      let n := min room (r.seq + firnSpan r.body - q)
      n + firnCut (q + n) (room - n) t

/-- Sequence numbers of the tail taken into Firn blocks in order, a record's continuation records into the next block where they do
not fit (R218, R222): whole blocks, or the rest as well when `part`. -/
def State.firnFill (s : State) (part : Bool) : Nat → State
  | 0 => s
  | fuel + 1 =>
    if !s.isMaster then s
    else
      let rest := s.jnl.tail.filter fun r => decide (s.jnl.drained < r.seq + firnSpan r.body)
      match rest with
      | [] => s
      | r :: _ =>
        let q := max s.jnl.drained r.seq
        let n := firnCut q 127 rest
        if !part && decide (n < 127) then s
        else
          let s := { s with jnl := { s.jnl with drained := q + n } }
          (s.mdPlace (.firn q n) (firnBlock s.str.poolId q n (rest.filter fun r => decide (r.seq < q + n)))).firnFill part fuel

/-- The blocks that the tail could fill, and one. -/
def State.fillFuel (s : State) : Nat := s.tailBlocks + s.jnl.tail.length + 1

/-- Whole Firn blocks formed from what the tail holds. -/
def State.firnDrain (s : State) : State := s.firnFill false s.fillFuel

/-- Whether Firn blocks on members hold `n` sequence numbers from `a` on. -/
def State.firnOn (s : State) (a n : Nat) : Bool :=
  let l := s.str.segs.flatMap fun (_, g) => g.blocks.filterMap fun (_, b) => match b with | .md (.firn f c) => some (f, c) | _ => none
  (l.foldl (fun p (f, c) => p.flatMap fun (x, m) => cutRange x m f c) [(a, n)]).isEmpty

/-- Blocks of metadata segments that a test selects are dead (R224, R227): they leave their segments' live counts. -/
def State.mdKill (s : State) (p : Nat → Nat → MetaBlk → Bool) : State :=
  let dead (i : Nat) (g : Seg) : List (Nat × SegBlk) := g.blocks.filter fun (o, b) => match b with | .md m => p i o m | _ => false
  s.each (s.str.segs.filter fun (i, g) => !(dead i g).isEmpty) fun s (i, g) =>
    let l := dead i g
    (s.putSeg i { g with blocks := g.blocks.filter fun x => !l.contains x, live := g.live - l.length }).releaseIdle i

/-! ## Sealing (R203, R227) -/

/-- Whether every stripe begun in a segment has ended. -/
def State.segIdle (s : State) (i : Nat) : Bool := !(s.str.stripes.any fun (_, x) => x.seg = i)

/-- A segment's summary given to the metadata head, whose SEG_STATE follows once it is on members (R203, R227). -/
def State.sealStart (s : State) (i : Nat) : State :=
  match s.seg i with
  | none => s
  | some g =>
    if !g.summary.isNone || (s.jnl.mdQueue.any fun (b, _) => match b with | .summary j _ => j = i | _ => false) ||
        (s.str.stripes.any fun (_, x) => x.blocks.any fun (b, _) => match b with | .md (.summary j _) => j = i | _ => false) then s
    else s.each (List.range (summaryParts g)) fun s p => s.mdPlace (.summary i p) (summaryBlock g p)

/-- STR_GROUP_STATUS.open_seg as a host head leaves its segment (R241). -/
def State.headLeaves (s : State) (i : Nat) (g : Seg) : State :=
  match g.head with
  | .host n => if tget s.str.heads g.head = some i then s.set STR_GROUP_STATUS_open_seg n 0xFFFFFF else s
  | _ => s

/-- SEGMENT_SEAL (R203): when the last stripe of an OPEN segment is on members, or a closed one has none left, its head leaves it and
it is sealed: by the metadata head where this module has it, else on request by the pool master (R319, R320). -/
def State.sealCheck (s : State) (i : Nat) : State :=
  match s.seg i with
  | none => s
  | some g =>
    if g.state = .isOpen && (g.closed || g.begun = s.segStripes g) && s.segIdle i && s.segMine i && !s.segPending i then
      let s := s.headLeaves i g
      let s := { s with str := { s.str with heads := s.str.heads.filter fun (_, j) => j != i } }
      if s.isMaster then s.sealStart i else s.firnAppend 0 (.segState i (some { g with state := .isSealed }))
    else s

/-- The other module asks for a segment of its own to be sealed (R319, R320). -/
def State.sealAsked (s : State) (i : Nat) : State :=
  match s.seg i with
  | none => s
  | some g => if g.state = .isOpen then (s.putSeg i { g with closed := true }).sealStart i else s

/-- Whether every part of a segment's summary is on members. -/
def State.summaryDone (s : State) (i : Nat) (g : Seg) : Bool :=
  (List.range (summaryParts g)).all fun p => s.str.segs.any fun (_, h) => h.blocks.any fun (_, b) => b = .md (.summary i p)

/-- A segment's summary is on members: SUMMARY_PUT and then its SEG_STATE are appended, and it is SEALED; with no live
block it is released at once (R203, R220, R228). -/
def State.sealed (s : State) (i : Nat) : State :=
  match s.seg i with
  | none => s
  | some g =>
    if !s.summaryDone i g then s
    else
      let loc := s.str.segs.findSome? fun (j, h) => (h.blocks.find? fun (_, b) => b = .md (.summary i 0)).map fun (o, _) => (j, o)
      let s := s.firnAppend 0 (.summaryPut i (loc.getD (0, 0)).1 (loc.getD (0, 0)).2)
      let s := s.putSeg i { g with summary := loc }
      if g.state != .isOpen then s else s.firnAppend 0 (.segState i (some { g with state := .isSealed, summary := loc, sealSeq := 0 }))

/-! ## Stripe ends -/

/-- Consecutive switched blocks share a record within a map page (R212, R219, R220): blocks as (namespace, LBA, kgen,
offset, origin), runs as (namespace, LBA, count, offset, kgen, origin). -/
def switchRuns : List (Nat × Nat × Bool × Nat × Nat) → List (Nat × Nat × Nat × Nat × Bool × Nat)
  | [] => []
  | (ns, lba, k, off, o) :: t =>
    match switchRuns t with
    | (ns', lba', n, off', k', o') :: r =>
      if ns' = ns && lba' = lba + 1 && off' = off + 1 && k' = k && o' = o && lba' % 512 != 0 then (ns, lba, n + 1, off, k, o) :: r
      else (ns, lba, 1, off, k, o) :: (ns', lba', n, off', k', o') :: r
    | [] => [(ns, lba, 1, off, k, o)]

/-- What the MAP_SET of a block of a stripe on members says (R212, R229, R189), where its map entry still names what the stripe was
made from: namespace, LBA, kgen, origin. -/
def State.switchable (s : State) : StripeBlk → Option (Nat × Nat × Bool × Nat)
  | .neve i ns lba k => if s.lookup ns lba = .neve k i then some (ns, lba, k, 0) else none
  | .moved ns lba k g o org => if s.lookup ns lba = .member k g o then some (ns, lba, k, org) else none
  | .swept ns lba k old => if s.lookup ns lba = old then some (ns, lba, k, 2) else none
  | _ => none

/-- MAP_SWITCH (R212): the blocks of a stripe on members in offset order, with their records, on whose commit they switch (R35); a
Névé block replaced meanwhile is freed. -/
def State.switchStripe (s : State) (x : Stripe) (g : Seg) : State :=
  let all := x.blocks.zipIdx.map fun (b, j) => (b.1, s.blockOff x g j)
  let l := all.filterMap fun (b, o) => (s.switchable b).map fun (ns, lba, k, org) => (b, (ns, lba, k, o, org))
  let s := s.each all fun s (b, o) => match b with
    | .neve i _ _ _ => if (s.switchable b).isSome then s.modSlot i fun y => { y with dest := some (x.seg, o) } else s.slotFree i
    | _ => s
  s.each (switchRuns (l.map (·.2))) fun s (ns, lba, n, off, k, o) =>
    let part := l.filterMap fun (b, (_, _, _, p, _)) => if decide (off ≤ p) && decide (p < off + n) then some (b, p) else none
    { s with str := { s.str with switches := tput s.str.switches (x.seg, off) part } }.firnAppend o (.mapSet ns lba n x.seg off k)

/-- The summary entries of a stripe's valid blocks (R206, R227). -/
def State.stripeEntries (s : State) (x : Stripe) (g : Seg) : List (Nat × SegBlk) :=
  x.blocks.zipIdx.filterMap fun (b, j) => match b.1 with
    | .neve _ ns lba k => some (s.blockOff x g j, .data ns lba k)
    | .moved ns lba k _ _ _ => some (s.blockOff x g j, .data ns lba k)
    | .swept ns lba k _ => some (s.blockOff x g j, .data ns lba k)
    | .md m => some (s.blockOff x g j, .md m)
    | .pad => none

/-- A stripe and the label of the members: the label the pool's members carry next (R225). -/
def State.nextLabel (s : State) : DriveLabel :=
  match s.jnl.media.label with
  | some l => { l with seq := l.seq + 1 }
  | none => ⟨1, s.str.poolId, 0, s.str.chunk128, 0, 0⟩

/-- The pool label written to every live member (R224, R225, R273): at offset 0 and 8 MiB in turn. -/
def State.writeLabels (s : State) (l : DriveLabel) : State :=
  let s := { s with jnl := { s.jnl with media := { s.jnl.media with label := some l } } }
  s.each s.liveMembers fun s x =>
    (s.driveQueue ⟨x, .label { l with member := x }, if l.seq % 2 = 1 then 0 else 2048, 1⟩ 4093).bump (ctrDrv x 14)

/-- The label write of the newest checkpoint has completed (R224): what only an older one named is dead, Firn below replay_start too. -/
def State.checkpointKill (s : State) : State :=
  match s.jnl.media.ckpt with
  | none => s
  | some c =>
    let old (f n : Nat) : Bool := decide (f + n ≤ c.replayStart)
    let s := { s with jnl := { s.jnl with media := { s.jnl.media with
        prev := none, firn := s.jnl.media.firn.filter fun r => !old r.seq (firnSpan r.body)
        bad := s.jnl.media.bad.filter fun (f, n) => !old f n } } }
    s.mdKill fun i o m => match m with
      | .firn f n => old f n
      | .segPage _ => !c.named.contains (m, i, o)
      | .dirPage _ _ => !c.named.contains (m, i, o)
      | .root _ => !c.named.contains (m, i, o)
      | _ => false

/-- A member's write of the newest checkpoint's label has ended; the last of them completes the label write (R224). -/
def State.labelEnded (s : State) (x : Nat) : State :=
  if !s.jnl.labels.contains x then s
  else
    let l := s.jnl.labels.filter (· != x)
    let s := { s with jnl := { s.jnl with labels := l } }
    if l.isEmpty then s.checkpointKill else s

/-- CHECKPOINT_LABEL_WRITE (R224): the CHECKPOINT's Firn stripe is on members; the label names it, replay_start moves and waiting
appends go on. -/
def State.checkpointDone (s : State) (seg off : Nat) : State :=
  match s.jnl.ckpt with
  | none => s
  | some c =>
    let l := { s.nextLabel with ckptLoc := locNat seg off, ckptSeq := c.seq }
    let s := { s with jnl := { s.jnl with
        compact := none, ckpt := none, labels := s.liveMembers
        media := { s.jnl.media with ckpt := some c, prev := s.jnl.media.ckpt } } }
    let s := s.writeLabels l
    let s := if s.jnl.labels.isEmpty then s.checkpointKill else s
    let s := if c.seq = 0 then s.raise EV_REB_POOL_CREATED 0 0 else s
    s.unpark

/-- Where members hold a metadata block of the checkpoint's tables. -/
def State.namedLoc (s : State) (m : MetaBlk) : Option (Nat × Nat) := (s.jnl.named.find? fun (b, _) => b = m).map fun (_, i, o) => (i, o)

/-- The location of a table page as a root block gives it; bit 62 for one never written (R211, assumption log 98). -/
def State.pageLoc (s : State) (m : MetaBlk) : Nat := match s.namedLoc m with | some (i, o) => locNat i o | none => 2 ^ 62

/-- The segment table pages and the directory pages of the namespaces in index order, whose locations the root blocks give (R220). -/
def State.tablePages (s : State) : List MetaBlk × List MetaBlk :=
  let top := s.str.segs.foldl (fun m (i, _) => max m (i / 21 + 1)) 0
  let ns := sortOn id (s.nsm.ns.map (·.1))
  ((List.range top).map .segPage,
    ns.flatMap fun i => (List.range (match s.ns i with | some n => dirPages n.nsze | none => 0)).map (.dirPage i))

/-- Whether members hold a table page that must not stay where it is: in a segment being relocated or with a lost row (R229, R287). -/
def State.pageLeaves (s : State) (m : MetaBlk) : Bool :=
  match s.namedLoc m with
  | some (i, _) => s.reb.bad.contains i || (s.seg i).any fun g => g.state = .calving
  | none => false

/-- Whether a table page differs from what the last checkpoint holds of it (R224). -/
def State.tableDirty (s : State) (m : MetaBlk) : Bool :=
  let segs := match s.jnl.media.ckpt with | some c => c.segs | none => []
  let dirs := match s.jnl.media.ckpt with | some c => c.dirs | none => []
  s.pageLeaves m || (match m with
    | .segPage n => (s.namedLoc m).isNone || (List.range 21).any fun j => segBytes (s.seg (21 * n + j)) != segBytes (tget segs (21 * n + j))
    | .dirPage ns n => (List.range 512).any fun j =>
        let at_ (t : Table (Nat × Nat) MapPage) : Option (Nat × Nat) := (tget t (ns, 512 * n + j)).bind (·.loc)
        at_ s.str.pages != at_ dirs
    | _ => false)

/-- The third stage of compaction (R220, R224): root block `j`, the last of the chain first, since each names the next. -/
def State.compactRoot (s : State) (j : Nat) : State :=
  let (segs, dirs) := s.tablePages
  let counts := leBytes 4 segs.length ++ leBytes 4 dirs.length
  let s := { s with jnl := { s.jnl with compact := some (3, [.root j]) } }
  s.mdPlace (.root j) (rootBlock counts ((segs ++ dirs).map s.pageLoc) j (s.pageLoc (.root (j + 1))))

/-- The third stage begun with the last root block. -/
def State.compactRoots (s : State) : State :=
  let (segs, dirs) := s.tablePages
  s.compactRoot (rootCount (segs.length + dirs.length) - 1)

/-- A table page as it is written. -/
def State.tableBlock (s : State) : MetaBlk → Block
  | .segPage n => s.segPageBlock n
  | .dirPage ns n => s.dirPageBlock ns n
  | _ => 0

/-- The second stage of compaction: the dirty segment table and directory pages (R224). -/
def State.compactPages (s : State) : State :=
  let (segs, dirs) := s.tablePages
  let l := (segs ++ dirs).filter s.tableDirty
  if l.isEmpty then s.compactRoots
  else { s with jnl := { s.jnl with compact := some (2, l) } }.each l fun s m => s.mdPlace m (s.tableBlock m)

/-- What the tables hold for a checkpoint of a seq and a replay_start. -/
def State.checkpointOf (s : State) (q start : Nat) : Checkpoint :=
  { seq := q, replayStart := start, segs := s.str.segs, ns := s.nsm.ns, dirs := s.str.pages, named := s.jnl.named, tenants := s.nsm.tenants
    mgmt := (s.get GLB_MGMT_SEQ_last_accepted, s.get GLB_MGMT_SEQ_last_completed, s.nsm.recorded), dels := s.nsm.dels }

/-- The last stage of compaction: CHECKPOINT with replay_start the lowest base_seq of a page still dirty, or its own
sequence number (R224). -/
def State.compactRecord (s : State) : State :=
  let q := s.get JNL_FIRN_SEQ_next_seq
  let start := (s.str.pages.filterMap fun (_, x) => if x.dirty then some x.baseSeq else none).foldl min q
  let (rs, ro) := (s.namedLoc (.root 0)).getD (0, 0)
  let s := { s with jnl := { s.jnl with
      compact := some (4, [])
      ckpt := some (s.checkpointOf q start) } }
  let s := s.firnAppend 1 (.checkpoint start rs ro)
  s.firnFill true s.fillFuel

/-- The stages of compaction (R224): 1 page copies, 2 segment table and directory pages, 3 root blocks, 4 CHECKPOINT.
The next stage begins once the blocks of the one before are on members. -/
def State.compactNext (s : State) (stage : Nat) : State :=
  if stage = 2 then s.compactPages else if stage = 3 then s.compactRoots else s.compactRecord

/-- A block of a compaction stage is on members (R224). -/
def State.compactBlock (s : State) (seg off : Nat) (m : MetaBlk) : State :=
  let s := { s with jnl := { s.jnl with named := (m, seg, off) :: s.jnl.named.filter fun (b, _) => b != m } }
  match s.jnl.compact with
  | some (st, l) =>
    if !l.contains m then s
    else
      let l := l.filter (· != m)
      let s := { s with jnl := { s.jnl with compact := some (st, l) } }
      match m with
      | .root (j + 1) => s.compactRoot j
      | _ => if l.isEmpty then s.compactNext (st + 1) else s
  | none => s

/-- The written entries of a map page. -/
def State.pageEnts (s : State) (ns p : Nat) : List (Nat × MapEnt) :=
  s.str.map.filterMap fun ((i, lba), e) => if i = ns && pageOf lba = p then some (lba, e) else none

/-- A page copied with its base_seq and given to the metadata head (R224 step 1, R229): an update after the copy makes it dirty again;
one whose copy is on its way is not copied twice. -/
def State.copyPage (s : State) (ns p : Nat) : State :=
  if (tget s.jnl.copies (ns, p)).isSome then s
  else
    let s := { s with
      jnl := { s.jnl with copies := tput s.jnl.copies (ns, p) (s.get JNL_FIRN_SEQ_next_seq, s.pageEnts ns p) }
      str := { s.str with pages := tmod s.str.pages (ns, p) fun x => { x with copied := true } } }
    s.mdPlace (.page ns p) (s.pageBlock ns p)

/-- A Firn block is on members (R222): the records whose sequence numbers members now hold leave the tail, which the partner is told. -/
def State.firnBlockDone (s : State) (seg off f n : Nat) : State :=
  let mine (r : FirnRec) : Bool := decide (r.seq < f + n) && decide (f < r.seq + firnSpan r.body) &&
    ((decide (f ≤ r.seq) && decide (r.seq + firnSpan r.body ≤ f + n)) || s.firnOn r.seq (firnSpan r.body))
  let l := s.jnl.tail.filter mine
  let s := { s with jnl := { s.jnl with
      tail := s.jnl.tail.filter fun r => !mine r
      media := { s.jnl.media with firn := s.jnl.media.firn ++ l }
      firnAt := if decide (s.jnl.tail.length ≤ l.length) then none else some s.dtc } }
  let s := if s.mirroring && !l.isEmpty then s.pairSend (.firnPut [] s.firnFloor) else s
  let s := (s.bump (ctrJnl 8)).each l fun s r => match r.body with
    | .mapClear ns lba _ => s.recSettled ns lba true
    | .checkpoint .. => s.checkpointDone seg off
    | _ => s
  s.unpark

/-- A metadata block is on members (R220 to R224). -/
def State.mdDone (s : State) (seg off : Nat) (m : MetaBlk) (d : Block) : State :=
  match m with
  | .firn f n => s.firnBlockDone seg off f n
  | .page ns p =>
    let x := tgetD s.str.pages (ns, p) {}
    let (base, ents) := (tget s.jnl.copies (ns, p)).getD (tgetD s.jnl.media.pages (ns, p) (x.baseSeq, []))
    let s := s.mdKill fun i o b => b = .page ns p && !(i = seg && o = off)
    let s := (s.firnAppend 1 (.pagePut ns p seg off base (crc32c (blockBytes d)).toNat)).bump (ctrJnl 11)
    let s := { s with
      str := { s.str with pages := tmod s.str.pages (ns, p) fun x =>
        { x with loc := some (seg, off), baseSeq := base, dirty := x.dirty && !x.copied, copied := false } }
      jnl := { s.jnl with copies := tdel s.jnl.copies (ns, p)
                          media := { s.jnl.media with pages := tput s.jnl.media.pages (ns, p) (base, ents) } } }
    s.compactBlock seg off m
  | .summary i _ =>
    let s := s.mdKill fun j o b => b = m && !(j = seg && o = off)
    s.sealed i
  | _ => s.compactBlock seg off m

/-- Whether map switches wait with Firn appends (R222, R224, R334). -/
def State.switchWaits (s : State) : Bool :=
  if s.isMaster then s.tailFull || decide (2 * s.replayLimit ≤ s.replayBytes) || !s.jnl.parked.isEmpty else !s.pair.active

/-- A stripe is on members (R207, R212): its blocks enter the segment and switch; metadata blocks take effect; the
segment may seal. A stripe of data waits while appends wait. -/
def State.stripeDone (s : State) (n : Nat) : State :=
  match tget s.str.stripes n with
  | none => s
  | some x =>
    match s.seg x.seg with
    | none => s
    | some g =>
      if x.head != .meta_ && s.switchWaits then s
      else
        let ents := s.stripeEntries x g
        let g' := { g with done := g.done + 1, blocks := g.blocks ++ ents
                           live := if x.head = .meta_ then g.live + ents.length else g.live }
        let s := { s.putSeg x.seg g' with str := { (s.putSeg x.seg g').str with stripes := tdel s.str.stripes n } }
        let s := if x.head = .meta_ then
            s.each x.blocks.zipIdx fun s (b, j) => match b.1 with
              | .md m => s.mdDone x.seg (s.blockOff x g j) m b.2
              | _ => s
          else s.switchStripe x g
        let s := (s.sealCheck x.seg).writeDue x.head
        (s.mdDrain s.jnl.mdQueue.length).firnDrain.coldDrain

/-- Data stripes whose switch waited go on once appends do. -/
def State.switchResume (s : State) : State :=
  s.each (s.str.stripes.filter fun (_, x) => x.writing && x.waiting.isEmpty && x.head != .meta_).reverse fun s (n, _) => s.stripeDone n

/-- The blocks of an abandoned stripe that no head can take now: Névé blocks are COMMITTED again (R248), metadata blocks, relocated
and re-encrypted ones wait for their head (R208). -/
def State.requeueBlocks (s : State) (h : HeadId) (l : List (StripeBlk × Block)) : State :=
  s.each l fun s (b, d) => match b with
    | .neve i _ _ _ => s.modSlot i fun x => { x with state := .committed, first := true }
    | .md m => { s with jnl := { s.jnl with mdQueue := s.jnl.mdQueue ++ [(m, d)] } }
    | .pad => s
    | b => { s with str := { s.str with cold := s.str.cold ++ [(h, b, d)] } }

/-- Blocks written again as stripes of a head, the last padded (R208). -/
def State.rewrite (s : State) (h : HeadId) (l : List (StripeBlk × Block)) : Nat → State
  | 0 => s.requeueBlocks h l
  | fuel + 1 =>
    if l.isEmpty then s
    else
      let s := s.ensureSeg h
      match s.newStripe h with
      | none => s.requeueBlocks h l
      | some (n, s) =>
        match (tget s.str.stripes n).bind fun x => s.seg x.seg with
        | none => s
        | some g =>
          let cap := g.k * s.chunkBlocks
          let s := s.each (l.take cap) fun s (b, d) => s.stripePut n b d
          let s := if l.length < cap then s.stripeWrite n else s
          s.rewrite h (l.drop cap) fuel

/-- STRIPE_ABANDON (R208, R313): the stripe's outstanding chunk writes are withdrawn, its blocks are dead in its segment
and are written again as the next stripe of its head. -/
def State.abandon (s : State) (n : Nat) : State :=
  match tget s.str.stripes n with
  | none => s
  | some x =>
    let mine (c : DriveCmd) : Bool := match c.use with | .chunk m _ => m = n | _ => false
    let s := ((s.unqueue mine).disown mine).raise EV_STR_STRIPE_REWRITE 6 x.seg
    let s := match headGroup x.head with | some g => s.bump (ctrStrG g 2) | none => s
    let s := { s with str := { s.str with stripes := tdel s.str.stripes n } }
    let l := x.blocks.filter fun (b, _) => b != .pad
    ((s.rewrite x.head l (l.length + 1)).sealCheck x.seg).writeDue x.head

/-- An OPEN segment closed (R209): its stripes in flight and in filling are rewritten in the head's next segment. -/
def State.closeSeg (s : State) (i : Nat) : State :=
  match s.seg i with
  | none => s
  | some g =>
    if g.state != .isOpen || g.closed then s
    else
      let s := s.putSeg i { g with closed := true }
      let s := s.headLeaves i g
      let s := { s with str := { s.str with heads := s.str.heads.filter fun (_, j) => j != i } }
      let l := (s.str.stripes.filter fun (_, x) => x.seg = i && !(x.writing && x.waiting.isEmpty)).map (·.1)
      (s.each l State.abandon).sealCheck i

/-! ## Release (R230) -/

/-- Whether a drive command that still holds a tag could touch a segment's granules (R230, R313). -/
def State.segTagged (s : State) (g : Seg) : Bool :=
  (g.members.zip g.base).any fun (x, b) => (tgetD s.drv x {}).cmds.any fun d =>
    decide (d.cmd.lba < (b + g.e) * 256) && decide (b * 256 < d.cmd.lba + d.cmd.len)

/-- SEGMENT_RELEASE_DONE (R230): a RELEASING segment whose reads have ended and whose granules no drive command can reach
becomes FREE once its record is appended (R203). -/
def State.segFree (s : State) (i : Nat) : State :=
  match s.seg i with
  | none => s
  | some g =>
    if g.state != .releasing || s.segPending i || s.segTagged g || s.str.reads.any (fun (_, r) => r.seg = i && !r.done) ||
        s.queuedAny (fun c => match c.use with | .row r _ => (match tget s.str.reads r with | some x => x.seg = i | none => false) | _ => false) ||
        s.pair.takenSegs.contains i then s
    else
      let s := s.firnAppend 1 (.segState i none)
      (s.mdKill fun _ _ m => match m with | .summary j _ => j = i | _ => false).calveCheck.coldDrain

end Sys2Proof.Machine
end

