-- ==== Sys2Proof/Machine/Rows.lean ====
section
/-! DEFINITION. Member reads (R236 to R240, R275, R276, R286): the choice of chunks, predictive and late hedges, what an
arriving or failing chunk read decides, rows that are lost. -/

namespace Sys2Proof.Machine

open F

/-! ## Keys of a namespace -/

/-- The slot that holds the key of a generation of a namespace (R188). -/
def keySlotOf (n : Ns) (kgen : Bool) : Nat := if kgen = n.kgen then n.keySlot else n.oldSlot.getD n.keySlot

/-! ## The choice of chunks (R237, R238) -/

/-- Whether a member is slow (R237). -/
def State.slow (s : State) (x : Nat) : Bool := s.flag STR_MEMBER_STATUS_slow x

/-- A member's prediction for ordering: one without a prediction counts as not slow (R238) and goes first. -/
def State.pred (s : State) (x : Nat) : Nat := if s.flag STR_MEMBER_STATUS_few_samples x then 0 else s.get STR_MEMBER_STATUS_pred x

/-- The kind of a chunk in the order of R238: data, parity 0, parity 1 and 2. -/
def chunkKind (k c : Nat) : Nat := if c < k then 0 else if c = k then 1 else 2

/-- The chunks of a stripe in the order in which R238 takes them, those on readable members only. -/
def State.chunkOrder (s : State) (g : Seg) (st : Nat) : List Nat :=
  let ok := (List.range (segW g)).filter fun c => s.readable (chunkMember g st c)
  (List.range 3).flatMap fun kind => sortOn (fun c => s.pred (chunkMember g st c)) (ok.filter fun c => chunkKind g.k c = kind)

/-! ## Reads issued -/

/-- The reads counted of the current 1 ms interval, a new interval begun where one has (R240). -/
def State.readsTick (s : State) : State :=
  let ms := s.dtc.toNat / 1600000
  if ms = s.str.readsMs then s
  else { s with str := { s.str with
      readsWas := if ms = s.str.readsMs + 1 then s.str.readsNow else 0, readsNow := 0, hedged := 0, readsMs := ms } }

/-- Whether `n` hedge reads fit the budget (R240). -/
def State.hedgeBudget (s : State) (n : Nat) : Bool :=
  let pct := s.get STR_HEDGE_CFG_budget_pct
  s.get STR_HEDGE_CFG_mult != 0 && pct != 0 && decide ((s.str.hedged + n) * 100 ≤ s.str.readsWas * pct)

/-- The tenant a read is charged to (R86, R211, R229, R279). -/
def State.readTenant (s : State) (u : ReadUse) : Nat :=
  match u with
  | .cmd c _ _ => match (s.cmd c).bind fun x => x.ns.bind s.ns with | some n => n.tenant | none => 4093
  | .reloc _ _ o => if o = 3 then 4095 else 4094
  | _ => 4094

/-- Whether a read belongs to a command that policing coloured yellow (R88, R96). -/
def State.readYellow (s : State) (u : ReadUse) : Bool :=
  match u with
  | .cmd c _ _ => (s.cmd c).any fun x => x.colour = .yellow
  | _ => false

/-- The read of one chunk's row put on the drive root, counted in its 1 ms interval (R240). -/
def State.readChunk (s : State) (r : Nat) (x : RowRead) (g : Seg) (c : Nat) : State :=
  let (st, _, row) := s.place g x.off
  let s := s.readsTick
  let s := { s with str := { s.str with
      reads := tmod s.str.reads r fun y => { y with out := y.out ++ [c] }, readsNow := s.str.readsNow + 1 } }
  s.driveQueue ⟨chunkMember g st c, .row r c, s.chunkLba g st c row, 1⟩ (s.readTenant x.use)
    (match x.use with | .page _ _ => true | _ => false) (s.readYellow x.use)

/-- Chunks of a read's row that could still be asked: readable, not wanted itself, not asked or failed. -/
def State.spare (s : State) (x : RowRead) (g : Seg) : List Nat :=
  let (st, c, _) := s.place g x.off
  (s.chunkOrder g st).filter fun d => d != c && !x.out.contains d && (tget x.got d).isNone && !x.failed.contains d

/-- A predictive or late hedge (R238, R240): k other chunks on members that are not slow, within budget. -/
def State.hedge (s : State) (r : Nat) : State :=
  let s := s.readsTick
  match tget s.str.reads r with
  | none => s
  | some x =>
    match s.seg x.seg with
    | none => s
    | some g =>
      let (st, c, _) := s.place g x.off
      let l := (s.spare x g).filter fun d => !s.slow (chunkMember g st d)
      if x.hedged || x.recon || x.done || decide (l.length < g.k) || !s.hedgeBudget g.k then s
      else
        let s := { s with str := { s.str with
            reads := tput s.str.reads r { x with hedged := true }, hedged := s.str.hedged + g.k } }
        (s.bump (ctrStrM (chunkMember g st c) 0)).each (l.take g.k) fun s d => s.readChunk r x g d

/-! ## Rows that are lost (R286, R287, R289) -/

/-- A segment queued for evacuation (R276, R286). -/
def State.segBad (s : State) (i : Nat) : State :=
  if s.reb.bad.contains i || (s.seg i).isNone then s
  else { s with reb := { s.reb with bad := s.reb.bad ++ [i], work := s.reb.work.filter fun (j, r) => j != i || r.ended } }

/-- The blocks of a map page that is not cached become lost (R287), and how many; a cached page is written again by an immediate
compaction. -/
def State.losePage (s : State) (ns p member seg : Nat) : Nat × State :=
  if (tget s.str.pages (ns, p)).any fun x => x.cached then
    (0, { s with str := { s.str with pages := tmod s.str.pages (ns, p) fun x => { x with dirty := true } }, jnl := { s.jnl with forced := true } })
  else
    let l := s.str.map.filterMap fun ((i, lba), e) => if i = ns && pageOf lba = p && e != .unmapped then
        (match e with | .neve _ _ => none | _ => some lba) else none
    let s := s.each l fun s lba => (s.loseBlock ns lba 4 member seg 3).deferAll ns (match s.ns ns with | some n => nsidOf ns n | none => 0) lba 1 4
    (l.length, { s with str := { s.str with pages := tmod s.str.pages (ns, p) fun x => { x with cached := true, reading := true } } })

/-- A lost summary (R287): the segment has no reverse mapping any more and is evacuated. -/
def State.loseSummary (s : State) (i : Nat) : State :=
  { s with str := { s.str with segs := tmod s.str.segs i fun g => { g with summary := none } } }.segBad i

/-- ROW_LOST (R286, R287): the live blocks of a row on chunks that cannot be read become lost; the segment is evacuated. -/
def State.rowLost (s : State) (x : RowRead) (g : Seg) : State :=
  let (st, _, row) := s.place g x.off
  let gone := (List.range g.k).filter fun c =>
    (tget x.got c).isNone && (x.failed.contains c || !s.readable (chunkMember g st c))
  let first := chunkMember g st (gone.headD 0)
  let hit := gone.filterMap fun c => (tget g.blocks (s.offOf g st c row)).map fun b => (s.offOf g st c row, b)
  let liveHit := hit.filter fun (o, b) => match b with
    | .data ns lba k => s.lookup ns lba = .member k x.seg o
    | .md _ => true
  let (lost, s) := liveHit.foldl (fun ((n, s) : Nat × State) (_, b) => match b with
    | .data ns lba _ => (n + 1, (s.loseBlock ns lba 1 first x.seg 3).deferAll ns (match s.ns ns with | some n => nsidOf ns n | none => 0) lba 1 1)
    | .md (.page ns p) => let (m, s) := s.losePage ns p first x.seg; (n + m, s)
    | .md (.summary i _) => (n, s.loseSummary i)
    | .md (.firn f m) => (n, { s with jnl := { s.jnl with forced := true, media := { s.jnl.media with bad := s.jnl.media.bad ++ [(f, m)] } } })
    | .md _ => (n, { s with jnl := { s.jnl with forced := true } })) (0, s)
  let s := s.segBad x.seg
  if lost = 0 then s
  else (s.raise EV_REB_BLOCKS_LOST 6 x.seg [lost]).bump (ctrReb 4) lost

/-! ## Answers (R239, R275) -/

/-- The losers of a read (R239): those not placed are withdrawn, the others' data will be discarded. -/
def State.dropLosers (s : State) (r : Nat) : State :=
  let mine (c : DriveCmd) : Bool := match c.use with | .row q _ => q = r | _ => false
  (s.unqueue mine).disown mine

/-- What a read decides from the chunks it has: the wanted block, from itself or decoded; still waiting; or lost. -/
inductive RowAnswer where
  | block (b : Block)
  | wait
  | ask (l : List Nat)
  | lost
  deriving DecidableEq, Repr

/-- The decision of R239 and R275: the wanted chunk or any k others answer; a reconstruction asks for as many chunks as
are missing; with too few readable chunks the row is lost. -/
def State.rowDecide (s : State) (x : RowRead) (g : Seg) : RowAnswer :=
  let (_, c, _) := s.place g x.off
  match tget x.got c with
  | some b => .block b
  | none =>
    let others := x.got.filter fun (d, _) => d != c
    let coming := (x.out.filter (· != c)).length
    if g.k ≤ others.length then .block (gfChunk g.k c others)
    else if x.out.contains c && !x.recon then .wait
    else if g.k ≤ others.length + coming then .wait
    else
      let need := g.k - (others.length + coming)
      let l := s.spare x g
      if need ≤ l.length then .ask (l.take need) else .lost

/-- Rows that need reconstruction ask for their chunks; a decided read leaves with its block or is lost; the result goes
to `k` with the read and, where it is not lost, its block. -/
def State.rowStep (s : State) (r : Nat) (k : State → RowRead → Option Block → State) : State :=
  match tget s.str.reads r with
  | none => s
  | some x =>
    if x.done then s
    else
      match s.seg x.seg with
      | none => s
      | some g =>
        match s.rowDecide x g with
        | .wait => s
        | .ask l =>
          let s := { s with str := { s.str with reads := tput s.str.reads r { x with recon := true } } }
          s.each l fun s d => s.readChunk r x g d
        | .block b =>
          let (st, c, _) := s.place g x.off
          let s := { (s.dropLosers r) with str := { (s.dropLosers r).str with reads := tdel s.str.reads r } }
          let s := if (tget x.got c).isNone then
              (if x.hedged && !x.recon then s.bump (ctrStrM (chunkMember g st c) 1) else s.bump (ctrStrM (chunkMember g st c) 2))
            else s
          k s x (some b)
        | .lost =>
          let s := { (s.dropLosers r) with str := { (s.dropLosers r).str with reads := tdel s.str.reads r } }
          k (s.rowLost x g) x none

/-- A member read begun (R238, R275): the wanted chunk with a predictive hedge where its member is slow, or its
reconstruction where its member cannot be read. -/
def State.rowStart (s : State) (u : ReadUse) (seg off : Nat) (k : State → RowRead → Option Block → State) : State :=
  match s.seg seg with
  | none => k s ⟨u, seg, off, [], [], [], false, true, false, s.dtc⟩ none
  | some g =>
    let s := s.readsTick
    let r := s.str.nextRead
    let (st, c, _) := s.place g off
    let m := chunkMember g st c
    let x : RowRead := { use := u, seg := seg, off := off, recon := !s.readable m, at_ := s.dtc }
    let s := { s with str := { s.str with reads := tput s.str.reads r x, nextRead := r + 1 } }
    if x.recon then s.rowStep r k
    else
      let s := s.readChunk r x g c
      if s.slow m then s.hedge r else s

/-- A chunk of a read arrives, or fails. -/
def State.rowChunk (s : State) (r c : Nat) (d : Option Block) (k : State → RowRead → Option Block → State) : State :=
  let s := { s with str := { s.str with reads := tmod s.str.reads r fun x =>
      { x with out := x.out.filter (· != c)
               got := match d with | some b => tput x.got c b | none => x.got
               failed := if d.isNone then x.failed ++ [c] else x.failed } } }
  s.rowStep r k

end Sys2Proof.Machine
end

