-- ==== Sys2Proof/Machine/IoCore.lean ====
section
/-! DEFINITION. What I/O commands do (chapters 04, 06 to 09, 11): data to and from the host (R115, R128), Névé reservation and
commit (R245 to R247, R251), reads through the map (R210, R211), cipher units (R166, R176), Copy (R216), commands done
for the partner (R337). -/

namespace Sys2Proof.Machine

open F

/-! ## Where a command's data lies at the host (R115) -/

/-- The parts of a run of bytes of a command's data in the host's address pieces: address, length, offset from the run's
start. -/
def cutPieces : List (Nat × Nat) → Nat → Nat → Nat → List (Nat × Nat × Nat)
  | [], _, _, _ => []
  | (a, n) :: t, lo, len, off =>
    if len = 0 then []
    else if n ≤ lo then cutPieces t (lo - n) len off
    else
      let m := min (n - lo) len
      (a + lo, m, off) :: cutPieces t 0 (len - m) (off + m)

/-- Bytes that address pieces give. -/
def piecesLen (l : List (Nat × Nat)) : Nat := (l.map (·.2)).sum

/-- Whether a command is an admin command. -/
def State.cmdAdmin (s : State) (x : Cmd) : Bool := s.isAdmin x.qpn

/-- The data length of a command (R115). -/
def State.cmdData (s : State) (x : Cmd) : Nat := dataLen (s.cmdAdmin x) x.sqe

/-- The pieces and the list still to be read that a command's data pointer gives at once (R115): PRP1 to its page's end and
PRP2 as a second page or a list; an SGL data block or a segment. -/
def pointerStart (o : QOwner) (e : Sqe) (n : Nat) : List (Nat × Nat) × Option (Nat × Nat) :=
  match o with
  | .net _ => ([(e.dptr0.toNat, n)], none)
  | _ =>
    if e.psdt = 0 then
      let a := e.dptr0.toNat
      let m := min n (4096 - a % 4096)
      if n ≤ m then ([(a, n)], none)
      else if n - m ≤ 4096 then ([(a, m), (e.dptr1.toNat, n - m)], none)
      else
        let b := e.dptr1.toNat
        ([(a, m)], some (b, min (4096 - b % 4096) (8 * ((n - m + 4095) / 4096))))
    else if sglTypeOf e = 0 then ([(e.dptr0.toNat, n)], none)
    else ([], some (e.dptr0.toNat, sglLenOf e))

/-- Entries of a PRP list page taken in order: pieces added, and the next list page where entries remain. -/
def prpList (n : Nat) : List Nat → List (Nat × Nat) → List (Nat × Nat) × Option (Nat × Nat)
  | [], l => (l, none)
  | [p], l =>
    let r := n - piecesLen l
    if r ≤ 4096 then (l ++ [(p, r)], none) else (l, some (p, min (4096 - p % 4096) (8 * ((r + 4095) / 4096))))
  | p :: t, l => if piecesLen l = n then (l, none) else prpList n t (l ++ [(p, min 4096 (n - piecesLen l))])

/-- Descriptors of an SGL segment taken in order: pieces added, the next segment, or the status of a type that is not
supported. -/
def sglList : List (List Byte) → List (Nat × Nat) → Sum (List (Nat × Nat) × Option (Nat × Nat)) Status
  | [], l => .inl (l, none)
  | d :: t, l =>
    let ty := leAt d 15 1 / 16
    let a := leAt d 0 8
    let n := leAt d 8 4
    if ty = 0 then sglList t (l ++ [(a, n)])
    else if (ty = 2 || ty = 3) && t.isEmpty then .inl (l, some (a, n))
    else .inr St.sglType

/-- Bytes in groups of a size. -/
def chunksOf (n : Nat) (l : List Byte) : List (List Byte) :=
  (List.range (l.length / n)).map fun j => (l.drop (n * j)).take n

/-! ## Host data -/

/-- Blocks of 4 KiB that a command's data takes, the last one perhaps shorter. -/
def State.dataBlocks (s : State) (x : Cmd) : Nat := (s.cmdData x + 4095) / 4096

/-- Bytes of a block of a command's data. -/
def State.blockLen (s : State) (x : Cmd) (b : Nat) : Nat := min 4096 (s.cmdData x - 4096 * b)

/-- The tenant and colour a command's packets are queued under (R73, R87). -/
def State.cmdQueue (s : State) (x : Cmd) : Nat × Bool := (s.cmdTenant x, x.colour = .yellow)

/-- A request of a command leaves for the host or a drive: the interval up to its answer is no added latency (R32). -/
def State.awayOn (s : State) (c : Nat) : State :=
  s.modCmd c fun x => { x with away := x.away + 1, awayAt := if x.away = 0 then s.dtc else x.awayAt }

/-- The answer to a request of a command has come (R32). -/
def State.awayOff (s : State) (c : Nat) : State :=
  s.modCmd c fun x =>
    if x.away = 1 then { x with away := 0, excl := x.excl + s.since x.awayAt } else { x with away := x.away - 1 }

/-- A write's reserved slots freed and the write forgotten (R245). -/
def State.dropWrite (s : State) (c : Nat) : State :=
  match tget s.jnl.writes c with
  | none => s
  | some w =>
    let s := s.each w.slots fun s i => match tget s.jnl.slots i with
      | some x => if x.state = .reserved then s.slotFree i else s
      | none => s
    { s with jnl := { s.jnl with writes := tdel s.jnl.writes c } }

/-- A command's transfer fails (R128): a write changes no block, its reservations are freed; the bytes moved are reported where the status
asks for them (R132). -/
def State.failData (s : State) (c : Nat) (st : Status) (dw0 : Word32) : State :=
  match s.cmd c with
  | none => s
  | some x =>
    if x.phase = .done then s
    else if (tget s.jnl.writes c).any fun w => w.staged.length = w.blocks.length then s
    else
      let dw1 : Word32 := if st = St.regionRevoked || st = St.dmaAborted then BitVec.ofNat 32 x.moved else 0
      ((s.dropWrite c).dropStages c).complete c st dw0 dw1

/-- A block of a command's data asked of the host; with its region being revoked no packet is built and the command fails (R69). -/
def State.pullBlock (s : State) (c b : Nat) : State :=
  match s.cmd c with
  | none => s
  | some x =>
    match s.qp x.qpn with
    | none => s
    | some q =>
      if !ownerLocal q.owner && s.keyRevoking (sglKeyOf x.sqe) then s.failData c St.regionRevoked (sglKeyOf x.sqe)
      else
        s.each (cutPieces x.addrs (4096 * b) (s.blockLen x b) 0) fun s (a, n, o) =>
          match q.owner with
          | .net e => s.sendMsg q.servEid e (.readReq (sglKeyOf x.sqe) a n) false false (s.cmdClass x) (.cmdData c b) (s.cmdQueue x).1 (s.cmdQueue x).2
          | w => (s.awayOn c).hostOp w (.read (.data c b o) a n)

/-- A block of a command's data written to the host; a network host's bytes count as moved once acknowledged (R128, R132). -/
def State.pushBlock (s : State) (c b : Nat) (d : List Byte) : State :=
  match s.cmd c with
  | none => s
  | some x =>
    match s.qp x.qpn with
    | none => s
    | some q =>
      if !ownerLocal q.owner && s.keyRevoking (sglKeyOf x.sqe) then s.failData c St.regionRevoked (sglKeyOf x.sqe)
      else
        let s := match q.owner with | .slice n => s.bump (ctrSlc n 1) d.length | _ => s
        let s := if ownerLocal q.owner then s.modCmd c fun x => { x with moved := x.moved + d.length } else s
        s.each (cutPieces x.addrs (4096 * b) d.length 0) fun s (a, n, o) =>
          match q.owner with
          | .net e => s.sendMsg q.servEid e (.write (sglKeyOf x.sqe) a ((d.drop o).take n)) false false (s.cmdClass x) (.cmdData c b)
              (s.cmdQueue x).1 (s.cmdQueue x).2
          | w => s.hostOp w (.write a ((d.drop o).take n) (some c))

/-- Every block of a command's data asked of the host. -/
def State.pullAll (s : State) (c : Nat) : State :=
  match s.cmd c with
  | none => s
  | some x => s.each (List.range (s.dataBlocks x)) fun s b => s.pullBlock c b

/-! ## Névé reservation (R245, R251) -/

/-- Whether commands are admitted: no dump and no orderly stop runs (R262, R269). -/
def State.admission (s : State) : Bool := match s.jnl.phase with | .idle => true | .riding _ => true | _ => false

/-- The blocks a write or Copy takes in Névé. -/
def Cmd.neveNeed (x : Cmd) : Nat := if x.sqe.opcode = 0x19 then rangesLen x.ranges else nlbOf x.sqe

/-- Slots reserved for a command and its write begun (R245): the key slot and generation are those of now (R188); a
mirror-required write not accepted under a mirrored pair acts as write-through; a write-through write of the module that a
split keeps from the Firn sequence is held (R334). -/
def State.reserveFor (s : State) (c : Nat) (x : Cmd) (i : Nat) (n : Ns) (l : List Nat) : State :=
  let o := match x.issuer with | some o => o | none => (s.ownerOf x).getD .fn
  let w : WJob := { ns := i, lba := slbaOf x.sqe, owner := o, mode := if x.mode = 0 && !s.mirrored then 2 else x.mode
                    fua := fuaOf x.sqe && x.sqe.opcode = 1, keySlot := n.keySlot, kgen := n.kgen, slots := l
                    blocks := List.range x.neveNeed }
  let s := { s with jnl := { s.jnl with
      slots := l.foldl (fun t j => tput t j { state := .reserved }) s.jnl.slots
      writes := tput s.jnl.writes c w, waiting := s.jnl.waiting.filter (· != c) } }
  let stuck := s.get PAIR_STATUS_state = 4 && !s.isMaster && w.mode = 2
  (s.modCmd c fun x => { x with reserving := false, phase := .started, startAt := s.dtc
                                ownerHold := if stuck then some s.dtc else none }).waterCheck

/-- A write or Copy reserves its blocks, or waits in the order of fetch (R251); at high water none is admitted (R250, R444). -/
def State.tryReserve (s : State) (c : Nat) : State :=
  match s.cmd c with
  | none => s
  | some x =>
    match x.ns with
    | none => s
    | some i =>
      match s.ns i, s.freeOwn x.neveNeed with
      | some n, some l =>
        if s.flag JNL_NEVE_STATUS_high_water || s.jnl.waiting.any fun k => decide (k < c) then
          { s with jnl := { s.jnl with waiting := (s.jnl.waiting.filter fun k => decide (k < c)) ++ c :: (s.jnl.waiting.filter fun k => decide (c < k)) } }.modCmd c
            fun x => { x with reserving := true }
        else s.reserveFor c x i n l
      | _, _ =>
        { s with jnl := { s.jnl with waiting := (s.jnl.waiting.filter fun k => decide (k < c)) ++ c :: (s.jnl.waiting.filter fun k => decide (c < k)) } }.modCmd c
          fun x => { x with reserving := true }

/-! ## Commit (R246, R254) -/

/-- NEVE_PUT data not yet acknowledged that may be outstanding, in bytes (R254). -/
def State.mirrorWindow (s : State) : Nat := 2 ^ 20 * max (s.get JNL_MIRROR_CFG_window_mib) 8

/-- Whether a commit fits the mirror window (R254). -/
def State.windowOk (s : State) : Bool :=
  !s.mirroring || decide (4096 * (s.get JNL_NEVE_SEQ_next_seq - s.get JNL_MIRROR_STATUS_acked_seq) < s.mirrorWindow)

/-- NEVE_COMMIT (R246): a block's slot, descriptor and map entry, with its NEVE_PUT while the pair mirrors (R253). -/
def State.neveCommit (s : State) (c b : Nat) (kgen : Bool) (d : Block) : State :=
  match tget s.jnl.writes c with
  | none => s
  | some w =>
    let i := w.slots.getD b 0
    let q := s.get JNL_NEVE_SEQ_next_seq
    let mark := s.get JNL_FIRN_SEQ_next_seq
    let desc : NeveDesc := { ns := w.ns, owner := w.owner, lba := w.lba + b, seq := q, firnMark := mark % 2 ^ 32, early := w.mode = 3, fua := w.fua, kgen := kgen }
    let s := (s.set JNL_NEVE_SEQ_next_seq 0 (q + 1)).bump (ctrJnl 0)
    let s := { s with jnl := { s.jnl with
        slots := tput s.jnl.slots i { state := .committed, desc := some desc, data := d }
        writes := tput s.jnl.writes c { w with done := tput w.done b (q, mark), ready := tdel w.ready b } } }
    let s := s.mapPut w.ns (w.lba + b) (.neve kgen i)
    if s.mirroring then (s.pairSend (.nevePut i desc d)).bump (ctrJnl 4) else s

/-- Ciphertext of a write leaves the cipher for its reserved slot (R37, R246); its staging unit is free. -/
def State.neveFill (s : State) (c b : Nat) (d : Block) : State :=
  match tget s.jnl.writes c with
  | none => s
  | some w =>
    ({ s with jnl := { s.jnl with
        slots := tmod s.jnl.slots (w.slots.getD b 0) fun x => { x with data := d }
        writes := tput s.jnl.writes c { w with ready := tput w.ready b d } } }).dropStage c b

/-- The blocks of a write that lie in their slots commit once every block of the command has arrived, so that a write whose transfer
fails changes no block (R128, R246, assumption log 76), and the mirror window has room (R254). -/
def State.commitReady (s : State) (c : Nat) : State :=
  match tget s.jnl.writes c with
  | none => s
  | some w =>
    if w.staged.length != w.blocks.length then s
    else
      let s := s.each (sortOn id (w.ready.map (·.1))) fun s b =>
        match (tget s.jnl.writes c).bind fun w => tget w.ready b with
        | some d => if s.windowOk then (s.leave (ctrJnl 6)).neveCommit c b w.kgen d else s.enter (ctrJnl 6)
        | none => s
      s.writeCheck c

/-- Every write's waiting blocks looked at again, as the mirror window has moved. -/
def State.commitAll (s : State) : State := s.each (s.jnl.writes.map (·.1)) State.commitReady

/-! ## Failures (R128) -/

/-- A command whose cipher work cannot be done (R187, R193, R194): it completes with Namespace Not Ready; the blocks of an
acknowledged write that have not committed become deferred errors of its owner (R130), whose cause the spec does not
give: a free value. -/
def State.keyLoss (s : State) (c : Nat) (dnr : Bool) : State :=
  let s := match tget s.jnl.writes c with
    | some w =>
      if w.acked then
        let nsid := match s.ns w.ns with | some n => nsidOf w.ns n | none => 0
        s.each (w.blocks.filter fun b => (tget w.done b).isNone) fun s b =>
          let (v, s) := s.fresh
          s.deferError w.owner w.ns nsid (w.lba + b) 1 (v.toNat % 256)
      else s
    | none => s
  ((s.dropWrite c).dropStages c).complete c (St.notReady dnr)

/-! ## Reads through the map (R210, R211, R275) -/

/-- The LBA that block `b` of a command reads: in a Copy, in the ranges in turn. -/
def srcLba : List (Nat × Nat) → Nat → Nat
  | [], b => b
  | (a, n) :: t, b => if b < n then a + b else srcLba t (b - n)

/-- The LBA of a block a command reads. -/
def Cmd.readLba (x : Cmd) (b : Nat) : Nat := if x.sqe.opcode = 0x19 then srcLba x.ranges b else slbaOf x.sqe + b

/-- A command's last block is in: a Read completes, with the first lost LBA where there is one (R289); a Copy without loss
is encrypted for its destination (R216). -/
def State.readEnd (s : State) (c : Nat) : State :=
  match s.cmd c with
  | none => s
  | some x =>
    let held := (s.hif.queue.any fun r => match r.op with | .write _ _ (some k) => k = c | _ => false) &&
      (match s.ownerOf x with | some o => !s.busOk o | none => false)
    if x.left != 0 || x.phase != .started || held then s
    else
      match x.lost with
      | some l => (((s.dropWrite c).dropStages c).complete c ⟨2, 0x81, true⟩ (BitVec.ofNat 32 l) (BitVec.ofNat 32 (l / 2 ^ 32)))
      | none =>
        if x.sqe.opcode = 0x19 then
          match x.ns.bind s.ns, tget s.jnl.writes c with
          | some n, some w =>
            let s := { s with jnl := { s.jnl with writes := tput s.jnl.writes c { w with staged := w.blocks } } }
            (s.each w.blocks fun s b => s.cipPush (s.slotAssured n.keySlot)
              { use := .cmd c b, encrypt := true, slot := w.keySlot, kgen := w.kgen, lba := w.lba + b, data := tgetD x.data b 0 }).writeCheck c
          | _, _ => s
        else if x.forwarded && !x.fwdDone then s
        else (s.dropStages c).complete c St.ok

/-- One block fewer to come. -/
def State.countDown (s : State) (c : Nat) : State := (s.modCmd c fun x => { x with left := x.left - 1 }).readEnd c

/-- A plaintext block of a Read goes to the host; of a Copy it is kept. -/
def State.blockOut (s : State) (c b : Nat) (d : Block) : State :=
  match s.cmd c with
  | none => s
  | some x =>
    if x.phase != .started then s
    else if x.sqe.opcode = 0x19 then (s.modCmd c fun x => { x with data := tput x.data b d }).countDown c
    else (((s.pushBlock c b (blockBytes d)).dropStage c b)).countDown c

/-- A block of a command cannot be read (R289). -/
def State.blockLost (s : State) (c b : Nat) : State :=
  match s.cmd c with
  | none => s
  | some x =>
    let s := match x.remote with | some id => if x.sqe.opcode = 2 then s.pairSend (.fwdData id b .lost) else s | none => s
    (s.modCmd c fun x => { x with lost := some (min (x.lost.getD (x.readLba b)) (x.readLba b)) }).countDown c

/-- A block of ciphertext read for a command: to its cipher lane, or to the partner that forwarded the command (R337). -/
def State.cipherIn (s : State) (c b : Nat) (kgen : Bool) (d : Block) : State :=
  match s.cmd c with
  | none => s
  | some x =>
    match x.remote, x.ns.bind s.ns with
    | some id, some n =>
      if x.sqe.opcode = 2 then (s.pairSend (.fwdData id b (.cipher kgen d))).countDown c
      else s.cipPush (s.slotAssured n.keySlot)
        { use := .cmd c b, encrypt := false, slot := keySlotOf n kgen, kgen := kgen, lba := x.readLba b, data := d }
    | none, some n => s.cipPush (s.slotAssured n.keySlot)
        { use := .cmd c b, encrypt := false, slot := keySlotOf n kgen, kgen := kgen, lba := x.readLba b, data := d }
    | _, none => s

/-- Whether a block of a segment is still what a Calving or evacuation read was for (R229). -/
def State.stillThere (s : State) (seg off : Nat) : SegBlk → Bool
  | .data ns lba k => s.lookup ns lba = .member k seg off
  | .md _ => true

/-- A block read for relocation goes to the cold head of its group; a map page is written anew, a summary rewritten, by the metadata head;
other metadata waits for a CHECKPOINT (R229). -/
def State.relocate (s : State) (seg off origin : Nat) (d : Block) : State :=
  match s.seg seg with
  | none => s
  | some g =>
    let s := if origin = 3 then { s.bump (ctrReb 3) with reb := { s.reb with doneKib := s.reb.doneKib + 4 } } else s
    match tget g.blocks off with
    | some (.data ns lba k) =>
      if s.lookup ns lba = .member k seg off then
        let gr := match s.ns ns with | some n => n.group | none => (headGroup g.head).getD 0
        s.coldPut (.cold gr) (.moved ns lba k seg off origin) d
      else s
    | some (.md (.page ns p)) => s.copyPage ns p
    | some (.md (.summary j p)) => s.mdPlace (.summary j p) d
    | some (.md _) => { s with jnl := { s.jnl with forced := true } }
    | none => s

/-- What a finished member read is given to: a command, a map page miss, relocation, a rotation sweep. -/
def State.rowGot (s : State) (x : RowRead) (d : Option Block) : State :=
  match x.use, d with
  | .cmd c b k, some v => (s.awayOff c).cipherIn c b k v
  | .cmd c b _, none => (s.awayOff c).blockLost c b
  | .page ns p, some _ => { s with str := { s.str with pages := tmod s.str.pages (ns, p) fun y => { y with cached := true, used := true } } }
  | .page _ _, none => s
  | .reloc seg off o, some v => s.relocate seg off o v
  | .reloc _ _ _, none => s
  | .sweep ns lba, some v =>
    match s.ns ns, s.lookup ns lba with
    | some n, .member k g o =>
      if g = x.seg && o = x.off then
        s.cipPush (s.slotAssured n.keySlot)
          { use := .sweepIn ns lba (.member k g o), encrypt := false, slot := keySlotOf n k, kgen := k, lba := lba, data := v }
      else s
    | _, _ => s
  | .sweep _ _, none => s

/-- A member read begun (R275). -/
def State.readMember (s : State) (u : ReadUse) (seg off : Nat) : State := s.rowStart u seg off State.rowGot

/-- Whether blocks of a segment's stripe are on their way to where they are relocated to. -/
def State.relocating (s : State) (i : Nat) : Bool :=
  (s.str.reads.any fun (_, r) => match r.use with | .reloc j _ _ => j = i | _ => false) ||
    s.str.cold.any fun (_, b, _) => match b with | .moved _ _ _ j _ _ => j = i | _ => false

/-- The blocks of the next stripe of a segment that hold live data, read to be relocated (R229, R279), once those of the stripe before have
been placed. -/
def State.relocNext (s : State) (i : Nat) : Nat → State
  | 0 => s
  | fuel + 1 =>
    match tget s.str.moving i, s.seg i with
    | some (origin, st), some g =>
      if s.relocating i then s
      else
        let n := g.k * s.chunkBlocks
        let l := sortOn (·.1) (g.blocks.filter fun (o, b) => decide (st * n ≤ o) && s.stillThere i o b)
        match l with
        | [] => { s with str := { s.str with moving := tdel s.str.moving i } }
        | (o, _) :: _ =>
          let st' := o / max n 1
          let s := { s with str := { s.str with moving := tput s.str.moving i (origin, st' + 1) } }
          (s.each (l.filter fun (o, _) => o / max n 1 = st') fun s (o, _) => s.readMember (.reloc i o origin) i o).relocNext i fuel
    | _, _ => { s with str := { s.str with moving := tdel s.str.moving i } }

/-- Relocations under way go on where their stripe has been placed. -/
def State.relocSteps (s : State) : State := s.each (s.str.moving.map (·.1)) fun s i => s.relocNext i 1024

/-- The live blocks of a segment relocated stripe by stripe, with an origin (R229, R279). -/
def State.relocateAll (s : State) (i origin : Nat) : State :=
  { s with str := { s.str with moving := tput s.str.moving i (origin, 0) } }.relocNext i 1024

/-- MAP_PAGE_MISS (R211): one read of a page from its location. -/
def State.pageMiss (s : State) (ns p : Nat) : State :=
  let x := tgetD s.str.pages (ns, p) {}
  if x.reading then s
  else
    let s := { s with str := { s.str with pages := tput s.str.pages (ns, p) { x with reading := true } } }.bump (ctrJnl 12)
    match x.loc with
    | some (g, o) => s.readMember (.page ns p) g o
    | none => { s with str := { s.str with pages := tput s.str.pages (ns, p) { x with reading := true, cached := true } } }

/-- One block of a command read as the map says (R168, R210); a page not cached is waited for (R211). -/
def State.readBlock (s : State) (c b : Nat) : State :=
  match s.cmd c with
  | none => s
  | some x =>
    match x.ns with
    | none => s
    | some i =>
      let lba := x.readLba b
      let pg := tgetD s.str.pages (i, pageOf lba) {}
      let wait (s : State) : State := { s with str := { s.str with waiters := s.str.waiters ++ [(i, pageOf lba, c, b)] } }
      if !pg.cached || pg.reading then (wait s).pageMiss i (pageOf lba)
      else
        let s := { s with str := { s.str with pages := tmod s.str.pages (i, pageOf lba) fun y => { y with used := true } } }
        match s.lookup i lba with
        | .unmapped =>
          match x.remote with
          | some id => if x.sqe.opcode = 2 then (s.pairSend (.fwdData id b .zero)).countDown c else s.blockOut c b 0
          | none => s.blockOut c b 0
        | .lost _ _ => s.blockLost c b
        | .neve k j =>
          match tget s.jnl.slots j with
          | some v => if v.dataOk then s.cipherIn c b k v.data else wait s
          | none => s.blockOut c b 0
        | .member k g o => (s.awayOn c).readMember (.cmd c b k) g o

/-- The reads that waited for a page of a namespace are served (R211). -/
def State.serveWaiters (s : State) (ns p : Nat) : State :=
  let l := s.str.waiters.filter fun (i, q, _, _) => i = ns && q = p
  let s := { s with str := { s.str with waiters := s.str.waiters.filter fun (i, q, _, _) => !(i = ns && q = p) } }
  s.each l fun s (_, _, c, b) => s.readBlock c b

/-- Whether a cached page may be evicted: clean, written at some location, and not being read (R211). -/
def pageEvictable (x : MapPage) : Bool := x.cached && !x.dirty && !x.reading && x.loc.isSome

/-- The CLOCK's walk over pages in the order of its hand (R211): the pages passed that lose their use mark, and the first evictable page
not used since the hand last passed. -/
def clockSweep : List ((Nat × Nat) × MapPage) → List (Nat × Nat) × Option (Nat × Nat)
  | [] => ([], none)
  | (k, x) :: t =>
    if pageEvictable x && !x.used then ([], some k)
    else let r := clockSweep t; (if pageEvictable x then k :: r.1 else r.1, r.2)

/-- The pages in the order in which the hand passes them. -/
def Str.clockOrder (x : Str) : List ((Nat × Nat) × MapPage) :=
  match x.hand with
  | none => x.pages
  | some h => (x.pages.dropWhile fun (k, _) => k != h).drop 1 ++ (x.pages.takeWhile fun (k, _) => k != h) ++ x.pages.filter fun (k, _) => k = h

/-- One page evicted (R211), in the second round one that lost its mark in the first; none where no cached page is clean. -/
def State.pageEvict (s : State) : Option State :=
  let r := clockSweep s.str.clockOrder
  (r.2.orElse fun _ => r.1.head?).map fun v =>
    let pages := s.str.pages.map fun (k, (x : MapPage)) => (k, if k = v then { x with cached := false } else if r.1.contains k then { x with used := false } else x)
    ({ s with str := { s.str with pages := pages, hand := some v } }).bump (ctrJnl 13)

/-- The pages that lie in the cache, beside those still being brought in. -/
def State.pagesIn (s : State) : Nat := (s.str.pages.filter fun (_, x) => x.cached && !x.reading).length

/-- A page that has been read takes its place, an evicted page's where the cache is full, and every lookup that waited for it is served;
with no clean page to evict it waits for compaction to clean one (R211). -/
def State.pageSettle (s : State) (ns p : Nat) : State :=
  match tget s.str.pages (ns, p) with
  | none => s
  | some x =>
    if !(x.cached && x.reading) then s
    else
      match if s.pagesIn < s.pageRoom then some s else s.pageEvict with
      | none => s
      | some s => { s with str := { s.str with pages := tmod s.str.pages (ns, p) fun x => { x with reading := false } } }.serveWaiters ns p

/-- MAP_PAGE_READ_DONE (R211). -/
def State.pageReadDone (s : State) (ns p : Nat) : State := s.pageSettle ns p

/-- The pages that wait for a place, once compaction has cleaned one (R211). -/
def State.pagesSettle (s : State) : State :=
  s.each ((s.str.pages.filter fun (_, x) => x.cached && x.reading).map (·.1)) fun s k => s.pageSettle k.1 k.2

/-! ## Forwarding (R337) -/

/-- A command handed to the partner (R337). -/
def State.fwdOut (s : State) (c : Nat) : State :=
  match s.cmd c with
  | none => s
  | some x =>
    match x.ns with
    | none => s
    | some i =>
      let f : FwdCmd := { id := c, opcode := x.sqe.opcode, ns := i, lba := slbaOf x.sqe, nlb := x.neveNeed, fua := fuaOf x.sqe,
                          owner := (s.ownerOf x).getD .fn, kgen := (s.ns i).any (·.kgen), ranges := x.ranges }
      ((s.pairSend (.fwdCmd f)).bump (ctrPair 6))

/-! ## Data in from the host -/

/-- A block of a write's plaintext is in staging: it goes to its lane, an early-ack write may be acknowledged (R247). -/
def State.writeIn (s : State) (c b : Nat) (x : Cmd) (d : Block) : State :=
  match x.ns.bind s.ns with
  | none => s
  | some n =>
    let assured := s.slotAssured n.keySlot
    if x.forwarded then
      (s.modCmd c fun x => { x with left := x.left - 1 }).cipPush assured
        { use := .cmd c b, encrypt := true, slot := n.keySlot, kgen := n.kgen, lba := slbaOf x.sqe + b, data := d }
    else
      match tget s.jnl.writes c with
      | none => s
      | some w =>
        let w := { w with staged := if w.staged.contains b then w.staged else w.staged ++ [b] }
        let s := { s with jnl := { s.jnl with writes := tput s.jnl.writes c w } }
        let s := s.cipPush assured { use := .cmd c b, encrypt := true, slot := w.keySlot, kgen := w.kgen, lba := w.lba + b, data := d }
        (s.commitReady c).writeCheck c

/-- The ranges that a Copy's or Dataset Management's list spells (R215, R216). -/
def rangeList (e : Sqe) (l : List Byte) : List (Nat × Nat) :=
  if e.opcode = 9 then (chunksOf 16 (l.take (16 * (e.cdw10.toNat % 256 + 1)))).map fun d => (leAt d 8 8, leAt d 4 4)
  else (chunksOf 32 (l.take (32 * (e.cdw12.toNat % 256 + 1)))).map fun d => (leAt d 8 8, leAt d 16 2 + 1)

/-- The list of a Copy or Dataset Management is in: more than 512 blocks fail a Copy in step 2 (R216); the rest of R564 follows. -/
def State.listReady (s : State) (c : Nat) (x : Cmd) (d : List Byte) : State :=
  let l := rangeList x.sqe d
  let s := s.modCmd c fun x => { x with ranges := l, waitList := false }
  if x.sqe.opcode = 0x19 && decide (512 < rangesLen l) then s.complete c St.invalidField
  else
    match s.ownerOf x with
    | some o => s.nsStep o c
    | none => s

/-- The bytes of a command's data in, once it has all arrived. -/
def State.cmdBytes (s : State) (x : Cmd) : List Byte :=
  ((List.range (s.dataBlocks x)).flatMap fun b => blockBytes (tgetD x.data b 0)).take (s.cmdData x)

/-- A whole block of a command's data has arrived. -/
def State.blockIn (s : State) (c b : Nat) (d : List Byte) : State :=
  match s.cmd c with
  | none => s
  | some x =>
    let s := s.modCmd c fun x => { x with moved := x.moved + d.length, bytes := x.bytes.filter fun (k, _) => k / 4096 != b }
    if x.waitList && x.phase = .fetched then
      let y := { x with data := tput x.data b (bytesBlock d) }
      let s := s.modCmd c fun z => { z with data := y.data }
      if y.data.length < s.dataBlocks x then s else s.listReady c x (s.cmdBytes y)
    else if x.phase != .started then s
    else if x.sqe.opcode = 1 && !s.cmdAdmin x then s.writeIn c b x (bytesBlock d)
    else s.modCmd c fun x => { x with data := tput x.data b (bytesBlock d), left := x.left - 1 }

/-- Bytes of a block that pieces at offsets within it spell. -/
def joinPieces (b : Nat) (l : Table Nat (List Byte)) : List Byte :=
  (sortOn id ((l.map (·.1)).filter fun k => k / 4096 = b)).flatMap fun k => tgetD l k []

/-- A piece of a block of a command's data has arrived from the host: the block is taken once it is whole. -/
def State.pieceIn (s : State) (c b off : Nat) (d : List Byte) : State :=
  match s.cmd c with
  | none => s
  | some x =>
    if x.phase = .done then s
    else
      let s := if (s.ownerOf x).any ownerLocal then s.awayOff c else s
      let l := tput x.bytes (4096 * b + off) d
      let all := joinPieces b l
      let s := match s.ownerOf x with | some (.slice n) => s.bump (ctrSlc n 1) d.length | _ => s
      if all.length = s.blockLen x b then s.blockIn c b all
      else s.modCmd c fun x => { x with bytes := l }

/-- Staging units for the blocks of a command; none where too few are free (R28). -/
def State.takeStages (s : State) (c n : Nat) : Option State :=
  (List.range n).foldlM (fun s b => State.takeStage s c b) s

/-- Units for the blocks of a command that reads: staging, then the read assembly area (R28, R29). -/
def State.takeReadUnits (s : State) (c n : Nat) : Option State :=
  (List.range n).foldlM (fun s b => State.takeReadUnit s c b) s

/-! ## A command's own work, once its data pointer is known -/

/-- What a started command does first: its data asked for, or its blocks looked up, or the command forwarded. -/
def State.ioGo (s : State) (c : Nat) : State :=
  match s.cmd c with
  | none => s
  | some x =>
    if s.cmdAdmin x then (if adminIn x.sqe = 0 then s else s.pullAll c)
    else if x.waitList then s.pullAll c
    else if x.sqe.opcode = 1 then s.pullAll c
    else if x.forwarded then s.fwdOut c
    else s.each (List.range x.neveNeed) fun s b => s.readBlock c b

/-- A command's data pointer followed: the pieces it gives at once, and where it names a list that list's read first
(R115); one followed already is not read again. -/
def State.ioBegin (s : State) (c : Nat) : State :=
  match s.cmd c with
  | none => s
  | some x =>
    match s.ownerOf x with
    | none => s.ioGo c
    | some o =>
      let n := s.cmdData x
      if n = 0 || !x.addrs.isEmpty then s.ioGo c
      else
        match pointerStart o x.sqe n with
        | (l, none) => (s.modCmd c fun x => { x with addrs := l }).ioGo c
        | (l, some (a, m)) => ((s.modCmd c fun x => { x with addrs := l, listing := true }).awayOn c).hostOp o (.read (.list c) a m)

/-- A list of pointers has been read (R115): the next one is read, or the command goes on, a Read or Write not yet admitted with step 6
of R564; an SGL of another total length fails. -/
def State.listIn (s : State) (c : Nat) (d : List Byte) : State :=
  match s.cmd c with
  | none => s
  | some x =>
    if !x.listing || x.phase = .done then s
    else
      match s.ownerOf x with
      | none => s
      | some o =>
        let n := s.cmdData x
        let s := s.awayOff c
        let r : Sum (List (Nat × Nat) × Option (Nat × Nat)) Status :=
          if x.sqe.psdt = 0 then .inl (prpList n ((chunksOf 8 d).map leNat) x.addrs) else sglList (chunksOf 16 d) x.addrs
        match r with
        | .inr st => ((s.dropWrite c).dropStages c).complete c st
        | .inl (l, some (a, m)) => ((s.modCmd c fun x => { x with addrs := l }).awayOn c).hostOp o (.read (.list c) a m)
        | .inl (l, none) =>
          if piecesLen l != n then ((s.dropWrite c).dropStages c).complete c St.sglLength
          else
            let s := s.modCmd c fun x => { x with addrs := l, listing := false }
            if x.waitList && (x.sqe.opcode = 1 || x.sqe.opcode = 2) && !s.cmdAdmin x then (s.modCmd c fun x => { x with waitList := false }).nsStep o c
            else s.ioGo c

/-- Data given to the host by a command that completes with it: an admin command's structure (R36, R144, R159). -/
def State.giveData (s : State) (c : Nat) (d : List Byte) : State :=
  match s.cmd c with
  | none => s
  | some x =>
    let n := s.cmdData x
    s.each (List.range (s.dataBlocks x)) fun s b =>
      s.pushBlock c b (((d ++ List.replicate (n - d.length) 0).drop (4096 * b)).take (s.blockLen x b))

end Sys2Proof.Machine
end

