-- ==== Sys2Proof/Machine/Io.lean ====
section
/-! DEFINITION. The commands on I/O commands (chapters 04, 06, 08, 14): accepting fetched entries (R112, R564), starting
(R120), Write, Read, Write Zeroes, Dataset Management, Copy, Flush (R114, R122, R214 to R216), cipher units (R246), Névé
reservation (R251), reads of host memory that end (R112, R400). -/

namespace Sys2Proof.Machine

open F

/-! ## Fetch (R112, R564) -/

/-- Steps 1 to 5 of R564 for an I/O command. -/
def State.earlyCheck (s : State) (o : QOwner) (q c : Nat) (e : Sqe) : Option Status :=
  if s.cidBusy q c e.cid then some St.cidConflict
  else if !ioOpcode e.opcode then some St.invalidOpcode
  else match psdtCheck o e with
    | some st => some st
    | none => match s.fieldCheck o e with
      | some st => some st
      | none => pointerCheck o false e

/-- The checks of R114 to R116 and R143 on an admin command. -/
def State.adminCheck (s : State) (o : QOwner) (q c : Nat) (e : Sqe) : Option Status :=
  if s.cidBusy q c e.cid then some St.cidConflict
  else if !adminOpcode e.opcode then some St.invalidOpcode
  else match psdtCheck o e with
    | some st => some st
    | none => pointerCheck o true e

/-- COMMAND_CHECK (R564): a fetched command fails with the first check it does not pass; what the checks before step 6 need is read first,
under the tenant of its namespace where that admits the owner. -/
def State.commandCheck (s : State) (o : QOwner) (q c : Nat) (e : Sqe) : State :=
  if s.isAdmin q then
    match s.adminCheck o q c e with
    | some st => s.complete c st
    | none =>
      let len := dataLen true e + s.get TMS_POLICE_CFG_cmd_cost
      (s.police c len).sliceCharge o len
  else
    match s.earlyCheck o q c e with
    | some st => s.complete c st
    | none =>
      if noNs e then s.lateCheck o c
      else if readsFirst o e then
        let i := match s.nsCheck o e with | .inl (i, _) => some i | .inr _ => none
        (s.modCmd c fun x => { x with ns := i, waitList := true }).ioBegin c
      else s.nsStep o c

/-- The doorbell behind a ring slot (R32): the first one not yet spent, spent once its last entry is fetched. -/
def State.bellFor (s : State) (q slot : Nat) : Word64 × State :=
  match s.qp q with
  | none => (s.dtc, s)
  | some x =>
    match x.bells with
    | [] => (s.dtc, s)
    | (tail, at_) :: rest =>
      (at_, if (slot + 1) % x.sqEntries = tail then s.modQp q fun x => { x with bells := rest } else s)

/-- One fetched entry accepted (R112): a command of the queue, its fetch having been away for `away` ticks (R32); behind a broken chain it
completes at once (R125). -/
def State.acceptEntry (s : State) (q : Nat) (away : Nat) (d : List Byte) : State :=
  match s.qp q with
  | none => s
  | some x =>
    let (bell, s) := s.bellFor q x.sqHead
    let e := sqeParse d
    let c := s.qpe.nextCmd
    let errMark := match s.qp (e.cdw10.toNat % 65536) with | some t => if e.opcode = 0x80 then t.errCount else 0 | none => 0
    let held := x.admin && s.actHolds
    let cmd : Cmd := { qpn := q, slot := x.sqHead, sqe := e, fetchedAt := s.dtc, errMark := errMark, bellAt := bell, excl := away,
                       adminHold := if held then some s.dtc else none }
    let s := { s with qpe := { s.qpe with cmds := s.qpe.cmds ++ [(c, cmd)], nextCmd := c + 1 } }
    let s := (s.modQp q fun x => { x with sqHead := (x.sqHead + 1) % x.sqEntries }).bump (ctrQpe (engineOf x q) 2)
    let s := s.qpeStatus
    if x.breaking && x.sqHead != x.broken then
      let s := if (x.sqHead + 1) % x.sqEntries = x.broken then s.modQp q fun x => { x with breaking := false } else s
      s.complete c St.chainBroken 0xFFFFFFFF x.breakErr
    else s.commandCheck x.owner q c e

/-- SQE_FETCH_COMPLETE (R112): the entries of the oldest fetch of a queue, read in full, are accepted in ring order, and
fetch goes on. -/
def State.fetchComplete (s : State) (q : Nat) : State :=
  match s.qp q with
  | none => s
  | some x =>
    match x.fetches with
    | [] => s
    | f :: rest =>
      match f.bytes with
      | none => s
      | some d =>
        let s := s.modQp q fun x => { x with fetches := rest }
        let away := match f.asked, f.back with | some a, some b => (b - a).toNat | some a, none => s.since a | none, _ => 0
        (s.each ((List.range f.count).map fun j => (d.drop (64 * j)).take 64) fun s e => s.acceptEntry q away e).fetchIssue q

/-! ## Start (R120) -/

/-- Forwarded commands started and not done (PAIR_STATUS.fwd_inflight, R337). -/
def State.fwdInflight (s : State) : Nat := (s.qpe.cmds.filter fun (_, x) => x.forwarded && x.phase = .started).length

/-- Whether a command needs host memory that its owner may not reach (R396). -/
def State.busHolds (s : State) (x : Cmd) : Bool :=
  s.cmdData x != 0 && match s.ownerOf x with
    | some (.net _) => false
    | some o => !s.busOk o
    | none => false

/-- COMMAND_START (R120, R245): an admitted command with no hold on it starts; a write or Copy of this module's namespaces
once its blocks are reserved. -/
def State.commandStart (s : State) (c : Nat) : State :=
  match s.cmd c with
  | none => s
  | some x =>
    if !s.startable c x || !s.admission || s.busHolds x then s
    else
      let go (s : State) : State := s.modCmd c fun x => { x with phase := .started, startAt := s.dtc }
      if s.cmdAdmin x then
        let s := (go s).modCmd c fun x => { x with left := (adminIn x.sqe + 4095) / 4096 }
        s.ioBegin c
      else if x.forwarded then (if s.get PAIR_CFG_fwd_max ≤ s.fwdInflight then s else go s)
      else if x.sqe.opcode = 1 || x.sqe.opcode = 0x19 then s.tryReserve c
      else go s

/-- NEVE_RESERVE (R251): the oldest waiting write reserves its blocks where they are free; a write that no longer waits is
passed by. -/
def State.neveReserve (s : State) : State :=
  match s.jnl.waiting with
  | [] => s
  | c :: rest =>
    let gone := { s with jnl := { s.jnl with waiting := rest } }
    match s.cmd c with
    | none => gone
    | some x =>
      if x.phase != .fetched then gone
      else if !s.startable c x || !s.admission || s.flag JNL_NEVE_STATUS_high_water then s
      else
        match x.ns with
        | none => gone
        | some i =>
          match s.ns i, s.freeOwn x.neveNeed with
          | some n, some l => s.reserveFor c x i n l
          | _, _ => s

/-- A started I/O command of an opcode that has not begun. -/
def State.ready (s : State) (c op : Nat) : Option Cmd :=
  match s.cmd c with
  | none => none
  | some x => if x.phase = .started && x.sqe.opcode = op && !x.begun && !s.cmdAdmin x then some x else none

/-! ## Write, Read, Copy -/

/-- Ciphertext blocks of a write the partner forwarded enter its job (R337). -/
def State.remoteIn (s : State) (c : Nat) : State :=
  match s.cmd c, tget s.jnl.writes c with
  | some x, some w =>
    let l := x.data.filter fun (b, _) => !w.staged.contains b
    let w := { w with kgen := x.fwdKgen, staged := w.staged ++ l.map (·.1), ready := w.ready ++ l }
    { s with jnl := { s.jnl with writes := tput s.jnl.writes c w } }.commitReady c
  | _, _ => s

/-- WRITE (R114, R245): staging taken, the data asked of the host. -/
def State.write (s : State) (c : Nat) : State :=
  match s.ready c 1 with
  | none => s
  | some x =>
    match s.takeStages c x.neveNeed with
    | none => s
    | some s =>
      let s := s.modCmd c fun x => { x with begun := true, left := x.neveNeed }
      if x.remote.isSome then s.remoteIn c else s.ioBegin c

/-- READ (R114): staging taken, or the overflow of the read assembly area (R29), each block looked up and read, or the command forwarded. -/
def State.read (s : State) (c : Nat) : State :=
  match s.ready c 2 with
  | none => s
  | some x =>
    match s.takeReadUnits c x.neveNeed with
    | none => s
    | some s => (s.modCmd c fun x => { x with begun := true, left := x.neveNeed }).ioBegin c

/-- COPY (R216): every source block is read before any is written; with no block there is nothing to do. -/
def State.copy (s : State) (c : Nat) : State :=
  match s.ready c 0x19 with
  | none => s
  | some x =>
    if x.forwarded then (s.modCmd c fun x => { x with begun := true }).fwdOut c
    else
      match s.takeReadUnits c x.neveNeed with
      | none => s
      | some s => (s.modCmd c fun x => { x with begun := true, left := x.neveNeed, data := [] }).ioGo c

/-! ## Write Zeroes, Dataset Management -/

/-- Ranges of a command set to unmapped (R214): the command waits for the record of each run. -/
def State.deallocate (s : State) (c i : Nat) (l : List (Nat × Nat)) : State :=
  let runs := l.flatMap fun (a, n) => pageRuns a n
  if runs.isEmpty then s.complete c St.ok
  else
    let s := s.modCmd c fun x => { x with recs := runs.map (·.1) }
    s.each l fun s (a, n) => s.mapClear i a n 0

/-- WRITE_ZEROES (R214). -/
def State.writeZeroes (s : State) (c : Nat) : State :=
  match s.ready c 8 with
  | none => s
  | some x =>
    let s := s.modCmd c fun x => { x with begun := true }
    match x.ns with
    | none => s
    | some i => if x.forwarded then s.fwdOut c else s.deallocate c i [(slbaOf x.sqe, nlbOf x.sqe)]

/-- DATASET_MANAGEMENT (R215): without the Deallocate attribute it has no effect. -/
def State.datasetManagement (s : State) (c : Nat) : State :=
  match s.ready c 9 with
  | none => s
  | some x =>
    let s := s.modCmd c fun x => { x with begun := true }
    match x.ns with
    | none => s
    | some i =>
      if (x.sqe.cdw11.toNat / 4) % 2 = 0 then s.complete c St.ok
      else if x.forwarded then s.fwdOut c
      else s.deallocate c i x.ranges

/-! ## Flush (R122) -/

/-- The namespaces a Flush covers. -/
def State.flushNs (s : State) (x : Cmd) : List Nat :=
  match x.ns with
  | some i => [i]
  | none => (s.ownerOf x).elim [] s.flushed

/-- A Flush handed to the partner for each of its namespaces that it covers (R122, R337). -/
def State.flushOut (s : State) (c : Nat) (l : List Nat) : State :=
  match s.cmd c with
  | none => s
  | some x =>
    let theirs := l.filter fun i => (s.ns i).any fun n => !s.owned n
    s.each theirs fun s i =>
      let f : FwdCmd := { id := c, opcode := 0, ns := i, lba := 0, nlb := 0, fua := false, owner := (s.ownerOf x).getD .fn
                          kgen := (s.ns i).any (·.kgen), ranges := [] }
      ((s.modCmd c fun x => { x with fwdLeft := x.fwdLeft + 1 }).pairSend (.fwdCmd f)).bump (ctrPair 6)

/-- FLUSH (R122, R206): it covers the writes accepted before it, of the partner's namespaces by a Flush forwarded to it; a stripe in
filling that holds a covered write-through block is padded and written. -/
def State.flush (s : State) (c : Nat) : State :=
  match s.ready c 0 with
  | none => s
  | some x =>
    if x.forwarded then (s.modCmd c fun x => { x with begun := true }).fwdOut c
    else
      let l := s.flushNs x
      let cmds := (s.qpe.cmds.filter fun (k, y) => decide (k < c) && changes y.sqe && !s.cmdAdmin y && y.phase != .done &&
        (match y.ns with | some i => l.contains i | none => false)).map (·.1)
      let jobs := (s.jnl.writes.filter fun (k, w) => decide (k < c) && l.contains w.ns).map (·.1)
      let s := s.modCmd c fun x => { x with begun := true, covers := (cmds ++ jobs).dedup, fwdLeft := 0 }
      let s := { s with jnl := { s.jnl with writes := s.jnl.writes.map fun (k, (w : WJob)) => (k, if jobs.contains k then { w with flushed := true } else w) } }
      let through (i : Nat) : Bool := s.jnl.writes.any fun (k, w) => jobs.contains k && w.mode = 2 && !w.acked && w.slots.contains i
      let due := (s.str.stripes.filter fun (_, y) => !y.writing && y.blocks.any fun (b, _) => match b with | .neve i _ _ _ => through i | _ => false).map (·.1)
      (s.each due State.stripeWrite).flushOut c (if x.ns.isNone then l else [])

/-- Whether a write a Flush covers has met its point: acknowledged, and committed in Névé (R122). -/
def State.coveredDone (s : State) (k : Nat) : Bool :=
  (tget s.jnl.writes k).isNone && (match s.cmd k with | some y => y.phase = .done | none => true)

/-- FLUSH_DONE (R122): a Flush completes once every covered write has reached its point and the partner has answered, with the deferred
errors that the partner's answers bring (R130). -/
def State.flushDone (s : State) (c : Nat) : State :=
  match s.cmd c with
  | none => s
  | some x =>
    if x.sqe.opcode = 0 && x.begun && x.phase = .started && !x.forwarded && !s.cmdAdmin x && x.covers.all s.coveredDone && x.fwdLeft = 0 then
      match x.failed with
      | some (st, d) => s.complete c st d
      | none => s.complete c St.ok
    else s

/-! ## Cipher units (R166, R175, R176, R246) -/

/-- A block of a forwarded write that left the cipher: once all have, the command and its ciphertext go to the partner (R337). -/
def State.fwdUnit (s : State) (c b : Nat) (kgen : Bool) (d : Block) : State :=
  match s.cmd c with
  | none => s
  | some x =>
    if !x.forwarded || x.phase != .started then s
    else
      let s := s.modCmd c fun x => { x with data := tput x.data b d, fwdKgen := kgen }
      match s.cmd c with
      | none => s
      | some y =>
        if y.data.length != y.neveNeed then s
        else
          let s := s.fwdOut c
          let s := s.each (List.range y.neveNeed) fun s j =>
            (s.pairSend (.fwdData c j (.cipher kgen (tgetD y.data j 0)))).bump (ctrPair 7) 4096
          s.dropStages c

/-- A block of a command leaves the cipher: a write's ciphertext for its slot and commit (R246) or the partner, a read's plaintext. -/
def State.cmdUnit (s : State) (u : CipUnit) (c b : Nat) (k : BitVec 512) : State :=
  if !u.encrypt then s.blockOut c b (xtsDecrypt k u.lba u.data)
  else if (tget s.jnl.writes c).isSome then (s.neveFill c b (xtsEncrypt k u.lba u.data)).commitReady c
  else s.fwdUnit c b u.kgen (xtsEncrypt k u.lba u.data)

/-- A swept block that left the cipher under its old key goes in again under the new one, and then to its head (R188). -/
def State.sweepUnit (s : State) (u : CipUnit) (k : BitVec 512) (i lba : Nat) (old : MapEnt) (out : Bool) : State :=
  match s.ns i with
  | none => s
  | some n =>
    if out then s.coldPut (.cold n.group) (.swept i lba u.kgen old) (xtsEncrypt k lba u.data)
    else s.cipPush (s.slotAssured n.keySlot)
      { use := .sweepOut i lba old, encrypt := true, slot := n.keySlot, kgen := n.kgen, lba := lba, data := xtsDecrypt k lba u.data }

/-- CIPHER_UNIT_DONE (R246): the oldest unit of a lane leaves it: a block of a write to its slot and commit, a block of a
read to the host, a swept block to its new key or its head; a line packet's time on the lane ends. -/
def State.unitDone (s : State) (lane : Nat) : State :=
  match s.lanePop lane with
  | none => s
  | some (u, t) =>
    let key := s.laneKey lane u.slot
    let s := t
    match u.use, key with
    | .line _, _ => s
    | .cmd c _, none => s.keyLoss c true
    | _, none => s
    | .cmd c b, some k => s.cmdUnit u c b k
    | .sweepIn i lba old, some k => s.sweepUnit u k i lba old false
    | .sweepOut i lba old, some k => s.sweepUnit u k i lba old true

/-! ## Reads of host memory end (R112, R115, R400, R422) -/

/-- A word of a slice's dirty bitmap has been read: the marks are added and it is written back (R422). -/
def State.markIn (s : State) (n buf w : Nat) (a : Nat) (d : List Byte) : State :=
  match tget s.slc.folding (n, buf, w) with
  | none => s
  | some v => { s with slc := { s.slc with folding := tdel s.slc.folding (n, buf, w) } }.hostOp .fn (.write a (leBytes 8 ((leNat d) ||| v)) none)

/-- The outstanding read of a number, taken from the list. -/
def State.takeRead (s : State) (j : Nat) : Option (HostRead × State) :=
  match s.hif.reads[j]? with
  | none => none
  | some r => some (r, { s with hif := { s.hif with reads := s.hif.reads.eraseIdx j } })

/-- LOCAL_DMA_COMPLETION (R112, R115): the completion of an outstanding read of host memory brings its bytes. -/
def State.dmaCompletion (s : State) (j : Nat) (d : List Byte) : State :=
  match s.takeRead j with
  | none => s
  | some (r, s') =>
    if d.length != r.len then s
    else
      let s := s'
      match r.use with
      | .sqe q => s.modQp q fun x => { x with fetches := match x.fetches with
          | f :: t => { f with bytes := some d } :: t
          | [] => [] }
      | .data c b o => s.pieceIn c b o d
      | .list c => s.listIn c d
      | .mark n buf w => s.markIn n buf w r.addr d

/-- DMA_COMPLETION_TIMEOUT (R400): a read times out or is aborted by its completer: its command fails, a fetch puts its
queue in ERROR (R129). -/
def State.dmaTimeout (s : State) (j : Nat) (abort : Bool) : State :=
  match s.takeRead j with
  | none => s
  | some (r, s) =>
    let s := if abort then s else s.bump (ctrHif (s.epOf r.owner) 12)
    match r.use with
    | .sqe q => s.queueError q
    | .data c _ _ => s.failData c St.dataTransfer 0
    | .list c => s.failData c St.dataTransfer 0
    | .mark n buf w => { s with slc := { s.slc with folding := tdel s.slc.folding (n, buf, w) } }.set SLC_LOG_STATUS_out_span n 1

end Sys2Proof.Machine
end

