-- ==== Sys2Proof/Machine/DrvCore.lean ====
section
/-! DEFINITION. Drive commands that end (R275, R276, R281, R310, R313): what a failed or withdrawn command means for what it
was for, withdrawal of all commands of a member, a port whose power goes off. -/

namespace Sys2Proof.Machine

open F

/-- The drive port of a member. -/
def State.port (s : State) (x : Nat) : Port := tgetD s.drv x {}

/-- The state with a drive port set. -/
def State.putPort (s : State) (x : Nat) (p : Port) : State := { s with drv := tput s.drv x p }

/-- A restoration stopped: it leaves no trace, its target granules are free again, and the segment restarts from stripe 0
when it is next taken (R282), which the control cores do (R484). -/
def State.restoreStop (s : State) (seg : Nat) : State :=
  let mine (c : DriveCmd) : Bool := match c.use with
    | .source g _ _ => g = seg
    | .restored g _ _ => g = seg
    | _ => false
  if !(tget s.reb.work seg).any fun r => !r.ended then s
  else
    let s := (s.unqueue mine).disown mine
    { s with reb := { s.reb with work := tdel s.reb.work seg, stopped := if s.coresAway then s.reb.stopped ++ [seg] else s.reb.stopped } }

/-- Whether a use that writes writes a stripe's chunk (R525 source 2). -/
def useChunk (u : DriveUse) : Bool :=
  match u with
  | .chunk _ _ => true
  | .restored _ _ _ => true
  | _ => false

/-- A chunk of a restoration's stripe cannot be read (R239, R281): the others answer where they are enough, else it restarts. -/
def State.sourceFailed (s : State) (i st c : Nat) : State :=
  match tget s.reb.work i, s.seg i with
  | some r, some g =>
    let r := { r with asked := r.asked.filter (· != c) }
    if r.stripe != st then s
    else if r.got.length + r.asked.length < g.k then s.restoreStop i
    else { s with reb := { s.reb with work := tput s.reb.work i r } }
  | _, _ => s

/-- An adoption that cannot complete (R295): the slot returns to CANDIDATE. -/
def State.adoptFail (s : State) (x : Nat) : State :=
  if s.get REB_MEMBER_state x = 2 then
    ({ s with reb := { s.reb with joining := tdel s.reb.joining x } }.set REB_MEMBER_state x 1).raise EV_REB_ADOPT_FAILED 2 x
  else s

/-- What a drive command was for hears that it failed or was withdrawn (R310, R313): its stripe is abandoned, its row
reconstructed, its restoration stopped, its adoption ended. -/
def State.useFailed (s : State) (c : DriveCmd) : State :=
  match c.use with
  | .chunk n _ => s.abandon n
  | .row r k => (s.rowChunk r k none State.rowGot).relocSteps
  | .source seg st c => s.sourceFailed seg st c
  | .restored seg _ _ => s.restoreStop seg
  | .label _ => (s.labelEnded c.member).adoptFail c.member
  | .dealloc _ => s.adoptFail c.member
  | .health => s

/-- The commands of a member still waiting on the drive root. -/
def State.waitingOf (s : State) (x : Nat) : List DriveCmd :=
  (s.tms.leaves.filter fun l => l.root = 34).flatMap fun l => (l.green ++ l.yellow).filterMap fun i => match i.work with
    | .drive c => if c.member = x then some c else none
    | _ => none

/-- COMMAND_WITHDRAW (R313): every outstanding command of a member is withdrawn; tags stay in use. -/
def State.withdraw (s : State) (x : Nat) : State :=
  let p := s.port x
  let l := (p.cmds.filter fun d => !d.gone).map (·.cmd)
  let s := s.putPort x { p with cmds := p.cmds.map fun (d : DrvCmd) => { d with gone := true } }
  let w := s.waitingOf x
  let s := s.unqueue fun c => c.member = x
  s.each (l ++ w) State.useFailed

/-- A port whose slot has lost its power (R305): its commands are withdrawn, its tags are free, its link is gone. -/
def State.portOff (s : State) (x : Nat) : State :=
  let s := s.withdraw x
  let s := (s.putPort x { s.port x with cmds := [], linkDown := none, facts := none }).leave (ctrDrv x 13)
  let s := if s.get DRV_PORT_STATUS_state x = 4 then s else s.set DRV_PORT_STATUS_state x 0
  ((((s.set DRV_PORT_STATUS_speed x 0).set DRV_PORT_STATUS_width x 0).set DRV_PORT_STATUS_flit x 0).set DRV_PORT_STATUS_n_q x 0).set
    DRV_PORT_STATUS_cntlid x 0

/-- A command error counted (R310): the times of those in the last 60 s. -/
def State.noteError (s : State) (x : Nat) : State :=
  let p := s.port x
  let l := (p.errors.filter fun t => decide (s.since t < secTicks 60)) ++ [s.dtc]
  (s.putPort x { p with errors := l }).addSat DRV_PORT_ERR_cmd_errors x 1

/-- DRIVE_ERROR_BURST (R310): four command errors within 60 s. -/
def State.errorBurst (s : State) (x : Nat) : Bool := decide (4 ≤ (s.port x).errors.length)

end Sys2Proof.Machine
end

