-- ==== Sys2Proof/Machine/SltCore.lean ====
section
/-! DEFINITION. Slot power channels as other blocks use them (chapter 17): power-up begun, outputs cut, orderly turn-off,
the samples of a channel (R457, R460, R462). -/

namespace Sys2Proof.Machine

open F

/-- The channel of a slot. -/
def State.slot (s : State) (x : Nat) : Slot := tgetD s.slt.slots x {}

/-- The state with a channel set. -/
def State.putSlot (s : State) (x : Nat) (c : Slot) : State := { s with slt := { s.slt with slots := tput s.slt.slots x c } }

/-- The state of a channel (SLT_CH_STATUS.state). -/
def State.chState (s : State) (x : Nat) : Nat := s.get SLT_CH_STATUS_state x

/-- Whether this module is power owner of a slot (R464). -/
def State.slotOwner (s : State) (x : Nat) : Bool := s.flag SLT_CH_STATUS_owner x

/-- The channel as SLOT frames report it. -/
def State.chanState (s : State) (x : Nat) : ChanState := ⟨s.chState x, (s.slot x).fault / 8, s.get SLT_CH_STATUS_retries_left x⟩

/-- The channel's report to the partner (R464). -/
def State.slotReport (s : State) (x : Nat) : State :=
  if s.slotOwner x then s.pairSend (.slot (.report x (s.chanState x))) else s

/-- The channel of a slot set to a state. -/
def State.setCh (s : State) (x v : Nat) : State := (s.set SLT_CH_STATUS_state x v).slotReport x

/-- The power limit in W (SLT_CH_CFG.p_lim_w, R456). -/
def State.pLim (s : State) (x : Nat) : Nat := clampNat 1 40 (s.get SLT_CH_CFG_p_lim_w x)

/-- Whether a current reaches `n` × I_lim, I_lim = 1.25 × p_lim ÷ 12 V (R456). -/
def State.reachesLim (s : State) (x n cur : Nat) : Bool := decide (n * 1250 * s.pLim x ≤ 12 * cur)

/-- fault_ms in force (SLT_GLOBAL_CFG). -/
def State.faultMs (s : State) : Nat := clampNat 1 50 (s.get SLT_GLOBAL_CFG_fault_ms)

/-- Power-good asserted (R455). -/
def State.pgSet (s : State) (x : Nat) : State := (s.set SLT_CH_STATUS_pg x 1).enter (ctrSlt x 1)

/-- Power-good withdrawn, DRV_PERST# low (R455). -/
def State.pgClear (s : State) (x : Nat) : State :=
  ((s.set SLT_CH_STATUS_pg x 0).set SLT_CH_STATUS_perst_rel x 0).leave (ctrSlt x 1)

/-- Step 1 of R454: PERST# low, PWRDIS low, aux on, the fast trip armed. -/
def State.slotStep1 (s : State) (x : Nat) : State :=
  let s := s.putSlot x { s.slot x with
    aux := true, gate := false, pwrdis := false, step := 1, fault := 0, hot := false, lowWait := false, waited := false
    cycling := false, barred := false }
  (s.pgClear x).setCh x 3

/-- A power-up requested by presence or command (R453, R459): retries are loaded. -/
def State.slotStart (s : State) (x : Nat) : State :=
  (s.set SLT_CH_STATUS_retries_left x (s.get SLT_CH_CFG_retries x)).slotStep1 x

/-- The gate pulled down and PERST# low: the drive's port is off. -/
def State.slotCut (s : State) (x : Nat) : State :=
  let s := s.putSlot x { s.slot x with gate := false, step := 0, fault := 0, hot := false, lowWait := false, waited := false, leaving := false }
  (s.pgClear x).portOff x

/-- Whether a channel is powered or about to be: powering, on, or waiting to retry. -/
def State.chActive (s : State) (x : Nat) : Bool := s.chState x = 3 || s.chState x = 4 || s.chState x = 5

/-- An orderly turn-off (R463): PERST# low, then the gate down and PWRDIS high; aux follows (TURNOFF_AUX). -/
def State.slotTurnOff (s : State) (x cause : Nat) : State :=
  if !s.slotOwner x then s
  else if !s.chActive x then s.putSlot x { s.slot x with cycling := false, barred := (s.slot x).barred || cause = 8 }
  else
    let s := s.slotCut x
    let s := s.putSlot x { s.slot x with pwrdis := true, cycling := false, barred := cause = 8 }
    (s.set SLT_CH_STATUS_cause x cause).setCh x 2

/-! ## Samples (R457, R460, R462) -/

/-- The base temperature and cs of the estimate: the NTC, or with an NTC fault the inlet plus c, with cs held at 0 (R460,
R461). -/
def State.slotBase (s : State) (x : Nat) (c : Slot) : Rat × Rat :=
  if s.flag SLT_CH_STATUS_ntc_fault x then ((s.get PWR_THERM_STATUS_inlet_c : Rat) + c.c, 0)
  else (match c.sense.ntc with | some t => ((t : Int) : Rat) | none => 0, c.cs)

/-- The junction estimate (R460). -/
def State.slotTj (s : State) (x : Nat) : Rat :=
  let c := s.slot x
  let (t, cs) := s.slotBase x c
  t + c.d1 + (c.c - cs)

/-- tj_warn_c in force (SLT_THERM_CFG). -/
def State.tjWarn (s : State) (x : Nat) : Nat := min (s.get SLT_THERM_CFG_tj_warn_c x) (s.get SLT_THERM_CFG_tj_max_c x - 1)

/-- One 1 µs step of the estimate (R460): powers in W, resistances in K/W, time constants in µs. -/
def State.slotEstimate (s : State) (x : Nat) (c : Slot) : Slot :=
  let i : Rat := (c.sense.cur : Rat) / 1000
  let ron : Rat := (s.get SLT_THERM_CFG_ron x : Rat) / 10000
  let p : Rat := (((c.sense.supply : Int) - (c.sense.vOut : Int) : Int) : Rat) / 1000 * i + i * i * ron
  let jc : Rat := (s.get SLT_THERM_CFG_rth_jc x : Rat) / 10
  let ca : Rat := (s.get SLT_THERM_CFG_rth_ca x : Rat) / 10
  let d1 := c.d1 + (p * jc - c.d1) / (1000 * atLeast1 (s.get SLT_THERM_CFG_tau_jc_ms x) : Nat)
  let cc := c.c + (p * ca - c.c) / (10000 * atLeast1 (s.get SLT_THERM_CFG_tau_ca x) : Nat)
  let cs := c.cs + (cc - c.cs) / (100000 * atLeast1 (s.get SLT_THERM_CFG_tau_s x) : Nat)
  { c with d1 := d1, c := cc, cs := if s.flag SLT_CH_STATUS_ntc_fault x then 0 else cs }

/-- The averages of a ms written to SLT_CH_MEAS and sampled (R462, R525 source 0xA), and of a second to SLT_CH_AVG: 0.1 W, mV, mA. -/
def State.slotAverages (s : State) (x : Nat) (c : Slot) : State :=
  if c.nUs < 1000 then s.putSlot x c
  else
    let uw := c.sumP / 1000
    let p := uw / 100000
    let s := ((((s.set SLT_CH_MEAS_v12_mv x (c.sumV / 1000)).set SLT_CH_MEAS_i_ma x (c.sumI / 1000)).set SLT_CH_MEAS_v3_10mv x
      (c.sense.v3 / 10)).set SLT_CH_MEAS_p_dw x p).set SLT_CH_MEAS_tj_c x (s.slotTj x).floor.toNat
    let s := s.set SLT_CH_AVG_p_max_dw x (max (s.get SLT_CH_AVG_p_max_dw x) p)
    let s := s.set SLT_CH_AVG_tntc_c x (match c.sense.ntc with | some t => t.toNat | none => 0)
    let s := s.sample 0xA x p false
    let c := { c with nUs := 0, sumV := 0, sumI := 0, sumP := 0, nMs := c.nMs + 1, sumMs := c.sumMs + uw }
    if c.nMs < 1000 then s.putSlot x c
    else
      let avg := c.sumMs / 1000 / 100000
      (s.set SLT_CH_AVG_p_avg_dw x avg).putSlot x { c with
        nMs := 0, sumMs := 0, overRaised := c.overRaised && decide (10 * s.pLim x < avg) }

/-- One sample of a channel (R457, R460, R462): the fault timer rises by 1 µs at or above I_lim and falls by 1/8 µs below it,
the estimate takes its step, energy and averages are gathered; SLT_SUPPLY_SNS is shown. -/
def State.slotSample (s : State) (x : Nat) : State :=
  let c := s.slot x
  let c := { c with fault := if s.reachesLim x 1 c.sense.cur && c.gate then c.fault + 8 else c.fault - 1 }
  let c := s.slotEstimate x c
  let pw := c.sense.vOut * c.sense.cur
  let s := s.set SLT_SUPPLY_STATUS_v_mv 0 c.sense.supply
  let s := s.set SLT_CH_ENERGY_energy_uj x (s.get SLT_CH_ENERGY_energy_uj x + (c.pico + pw) / 1000000)
  let c := { c with pico := (c.pico + pw) % 1000000, nUs := c.nUs + 1, sumV := c.sumV + c.sense.vOut
                    sumI := c.sumI + c.sense.cur, sumP := c.sumP + pw }
  let s := s.slotAverages x c
  if decide (s.slotTj x ≤ (s.tjWarn x : Rat)) then s.putSlot x { s.slot x with warned := false } else s

/-- The samples of every channel that has one, once per µs. -/
def State.slotSamples (s : State) : State := s.each (s.slt.slots.map (·.1)) State.slotSample

end Sys2Proof.Machine
end

