-- ==== Sys2Proof/Machine/RebCore.lean ====
section
/-! DEFINITION. Member loss and the rebuild engine as other blocks use them (R271 to R273, R277 to R283, R285, R235): the
queue and its order, restorations, evacuations, a member declared failed. -/

namespace Sys2Proof.Machine

open F

/-! ## The queue (R277, R278) -/

/-- The remaining redundancy of a segment (R277). -/
def State.segR (s : State) (g : Seg) : Int :=
  if s.segLost g = 0 then (g.m : Int) - 1 else (g.m : Int) - (s.segLost g : Int)

/-- Whether a metadata segment holds a Firn block with a record at or above replay_start (R278). -/
def State.holdsFirn (s : State) (g : Seg) : Bool :=
  g.blocks.any fun (_, b) => match b with
    | .md (.firn f n) => decide (s.replayStart < f + n)
    | _ => false

/-- The order of the queue (R278): r, metadata first, of these the ones holding Firn, then live count, then segment ID. -/
def State.rebBefore (s : State) (a b : Nat × Seg) : Bool :=
  let kind (g : Seg) : Nat := if g.head = .meta_ then (if s.holdsFirn g then 0 else 1) else 2
  let ra := s.segR a.2
  let rb := s.segR b.2
  if ra != rb then decide (ra < rb)
  else if kind a.2 != kind b.2 then decide (kind a.2 < kind b.2)
  else if kind a.2 = 2 && a.2.live != b.2.live then decide (b.2.live < a.2.live)
  else decide (a.1 < b.1)

/-- The lowest r queued, none with an empty queue. -/
def State.lowestR (s : State) : Option Int := (s.rebQueue.map fun (_, g) => s.segR g).min?

/-- Whether this module runs the rebuild engine (R297): the module in bay A while both are present, a survivor, a single
module. -/
def State.rebuildHere (s : State) : Bool := !s.pairShelf || !s.bayB || !s.pair.active

/-- Whether a segment is being worked on. -/
def State.inWork (s : State) (i : Nat) : Bool := (tget s.reb.work i).isSome || s.reb.evac.contains i

/-- The next segment taken (R278, R284) among those a test admits: not one in work or waiting for the cores; while rebuild is paused only one with
r ≤ 0. -/
def State.nextRebuild (s : State) (p : Nat → Seg → Bool) : Option (Nat × Seg) :=
  (s.rebQueue.filter fun (i, g) => !s.inWork i && !s.reb.stopped.contains i && p i g && (s.get REB_STATUS_state != 2 || decide (s.segR g ≤ 0))).foldl
    (fun m a => match m with
      | none => some a
      | some b => if s.rebBefore a b then some a else some b) none

/-! ## Restoration (R280, R281) -/

/-- The positions of a segment whose members are not LIVE. -/
def State.lostPositions (s : State) (g : Seg) : List Nat :=
  (List.range (segW g)).filter fun j => !s.live (g.members.getD j 0xFF)

/-- Where `e` contiguous granules lie on a target (R280): first-fit in its spare reserve, else in its other free granules. -/
def State.targetBase (s : State) (x e : Nat) : Option Nat :=
  (firstFit (s.extents x) (s.granules x - s.reserve x) (s.granules x) e).orElse fun _ => s.newExtent x e

/-- The target of one lost extent among members not excluded (R280): the most free granules, spare reserve included, the
lowest index on a tie. -/
def State.target (s : State) (not_ : List Nat) (e : Nat) : Option (Nat × Nat) :=
  (s.liveMembers.filter fun x => !not_.contains x).foldl (fun m x => match s.targetBase x e with
    | none => m
    | some b => match m with
      | none => some (x, b)
      | some (y, _) => if s.freeGranules y + s.freeReserve y < s.freeGranules x + s.freeReserve x then some (x, b) else m) none

/-- Targets for every lost extent of a segment, or none where one has none (R280). -/
def State.targets (s : State) (g : Seg) : List Nat → List (Nat × Nat × Nat) → Option (List (Nat × Nat × Nat))
  | [], l => some l
  | j :: t, l => match s.target (g.members ++ l.map fun (_, x, _) => x) g.e with
    | none => none
    | some (x, b) => s.targets g t (l ++ [(j, x, b)])

/-- The chunk that lies at a position of a stripe (R199). -/
def chunkAt (g : Seg) (st pos : Nat) : Nat := (pos + segW g - st % segW g) % segW g

/-- The read of a whole chunk of a stripe being restored, counted as a member read (R240), under tenant 4,095. -/
def State.sourceRead (s : State) (i : Nat) (g : Seg) (st c : Nat) : State :=
  let s := s.readsTick
  { s with str := { s.str with readsNow := s.str.readsNow + 1 } }.driveQueue
    ⟨chunkMember g st c, .source i st c, s.chunkLba g st c 0, s.chunkBlocks⟩ 4095

/-- A hedge of a restoration's reads (R238, R240): the chunks not asked for yet of k others on members that are not slow, within
budget; `c` is the chunk whose read is hedged. -/
def State.sourceHedge (s : State) (i c : Nat) : State :=
  let s := s.readsTick
  match tget s.reb.work i, s.seg i with
  | some r, some g =>
    let l := ((s.chunkOrder g r.stripe).filter fun d => d != c && !s.slow (chunkMember g r.stripe d)).take g.k
    let more := l.filter fun d => !r.asked.contains d && (tget r.got d).isNone
    if r.hedged || decide (l.length < g.k) || more.isEmpty || !s.hedgeBudget more.length then s
    else
      let s := { s with reb := { s.reb with work := tput s.reb.work i { r with asked := r.asked ++ more, hedged := true } }
                        str := { s.str with hedged := s.str.hedged + more.length } }
      (s.bump (ctrStrM (chunkMember g r.stripe c) 0)).each more fun s d => s.sourceRead i g r.stripe d
  | _, _ => s

/-- The reads of a stripe being restored (R281): k readable chunks in the order of R238, whole, hedged where one is on a slow member;
with too few the rows are lost and the segment turns to evacuation (R286). -/
def State.restoreStripe (s : State) (i : Nat) (g : Seg) : State :=
  match tget s.reb.work i with
  | none => s
  | some r =>
    let l := (s.chunkOrder g r.stripe).take g.k
    if l.length < g.k then
      let rows := List.range s.chunkBlocks
      s.each rows fun s row =>
        let c := ((List.range g.k).find? fun c => !s.readable (chunkMember g r.stripe c)).getD 0
        s.rowLost { use := .reloc i (s.offOf g r.stripe c row) 3, seg := i, off := s.offOf g r.stripe c row, at_ := s.dtc } g
    else
      let s := { s with reb := { s.reb with work := tput s.reb.work i { r with asked := l, got := [], waiting := [], hedged := false } } }
      let s := s.each l fun s c => s.sourceRead i g r.stripe c
      match l.find? fun c => s.slow (chunkMember g r.stripe c) with
      | some c => s.sourceHedge i c
      | none => s

/-- The blocks of the chunk at a lost position, from the chunks read (R198). -/
def State.restoredChunk (s : State) (g : Seg) (r : Restore) (pos : Nat) : List Block :=
  let c := chunkAt g r.stripe pos
  (List.range s.chunkBlocks).map fun row =>
    gfChunk g.k c (r.got.map fun (d, l) => (d, l.getD row 0))

/-- A chunk of a stripe being restored has been read: with k of them the losers are dropped (R239), the lost chunks computed and written
to their targets (R281). -/
def State.sourceGot (s : State) (i st c : Nat) (d : List Block) : State :=
  match tget s.reb.work i, s.seg i with
  | some r, some g =>
    if r.stripe != st || !r.asked.contains c then s
    else
      let r := { r with asked := r.asked.filter (· != c), got := tput r.got c d }
      if decide (r.got.length < g.k) then { s with reb := { s.reb with work := tput s.reb.work i r } }
      else
        let mine (x : DriveCmd) : Bool := match x.use with | .source j q _ => j = i && q = st | _ => false
        let r := { r with asked := [], waiting := r.targets.map (·.1) }
        let s := { ((s.unqueue mine).disown mine) with reb := { s.reb with work := tput s.reb.work i r } }
        s.each r.targets fun s (p, x, b) =>
          s.driveQueue ⟨x, .restored i st p, b * 256 + st * s.chunkBlocks, s.chunkBlocks⟩ 4095
  | _, _ => s

/-- A restored chunk is durable on its target. -/
def State.restoredDone (s : State) (i st p : Nat) : State :=
  { s with reb := { s.reb with work := tmod s.reb.work i fun r => if r.stripe = st then { r with waiting := r.waiting.filter (· != p) } else r } }

/-! ## Evacuation (R279) -/

/-- The maps of a group's namespaces read (R287), as far as they are not cached: a segment without its summary has no reverse mapping. -/
def State.readMaps (s : State) (i : Nat) (g : Seg) : State :=
  match g.summary, headGroup g.head with
  | none, some n =>
    if g.state = .isOpen then s
    else s.each ((s.str.pages.filter fun ((j, _), x) => !x.cached && s.segMine i && (s.ns j).any fun y => y.group = n).map (·.1)) fun s (j, p) => s.pageMiss j p
  | _, _ => s

/-- An evacuation begun (R279): the segment enters CALVING if it is not in it. -/
def State.evacuate (s : State) (i : Nat) : State :=
  match s.seg i with
  | none => s
  | some g =>
    let s := { s with reb := { s.reb with evac := s.reb.evac ++ [i] } }.readMaps i g
    let s := if g.state = .calving then s else s.firnAppend 3 (.segState i (some { g with state := .calving }))
    (s.releaseIdle i).relocateAll i 3

/-! ## Groups (R234, R235) -/

/-- Whether a group is in use: some namespace is placed in it. -/
def State.groupUsed (s : State) (g : Nat) : Bool := s.nsm.ns.any fun (_, n) => n.group = g

/-- k_cap and blocking of every group looked at (R234, R235); the event is raised for a pool that exists. -/
def State.groupsCheck (s : State) : State :=
  s.each (List.range 16) fun s g =>
    let was := s.flag STR_GROUP_STATUS_blocked g
    let now_ := s.groupBlocked g
    let s := (s.set STR_GROUP_STATUS_k_cap g (s.kCap g)).set STR_GROUP_STATUS_k_cur g (s.kCur g)
    let s := s.set STR_GROUP_STATUS_blocked g (bit now_)
    if now_ && !was && s.str.poolId != 0 then (s.enter (ctrStrG g 6)).raise EV_STR_GROUP_BLOCKED 0 g
    else if now_ then s else s.leave (ctrStrG g 6)

/-- The member list changed (R202, R234): tables rebuilt, caps and blocks recomputed. -/
def State.membersChanged (s : State) : State := (s.rebuildTables.groupsCheck).calveCheck

/-! ## A member declared failed (R273, R285) -/

/-- The restorations that a failure stops (R282, R285): those whose new r is not the lowest queued, whose target is not LIVE,
or that read a chunk from a member that is not LIVE. -/
def State.reorder (s : State) : State :=
  s.each s.reb.work fun s (i, r) =>
    match s.seg i with
    | none => s.restoreStop i
    | some g =>
      if r.ended then s else
      let low := s.lowestR = some (s.segR g)
      let targets := r.targets.all fun (_, x, _) => s.live x
      let sources := r.asked.all fun c => s.live (chunkMember g r.stripe c)
      if low && targets && sources then s else s.restoreStop i

/-- Granted segments that are wider than R234 now allows, or name a member that is not live, are given up and others asked for (R322). -/
def State.grantsFit (s : State) : State :=
  if s.isMaster then s
  else
    let bad := s.pair.grants.filter fun (h, l) => l.any fun (_, g) => !s.grantFits h g
    let s := { s with pair := { s.pair with grants := s.pair.grants.map fun (h, (l : List (Nat × Seg))) => (h, l.filter fun (_, g) => s.grantFits h g) } }
    s.each bad fun s (h, _) => s.pairSend (.segGrant (.request h))

/-- MEMBER_FAIL (R273): a LIVE member declared failed with a cause; the partner is told where this module declares it
(R297). -/
def State.memberFail (s : State) (x cause : Nat) : State :=
  if !s.live x then s
  else
    let s := ((s.set STR_MEMBER_STATUS_live x 0).set REB_MEMBER_state x 4).set REB_MEMBER_cause x cause
    let s := s.set REB_MEMBER_fail_time x (s.dtc.toNat / 2 ^ 24)
    let s := s.each (s.str.segs.filter fun (_, g) => g.state = .isOpen && !g.closed && g.members.contains x) fun s (i, _) => s.closeSeg i
    let s := s.withdraw x
    let s := if s.isMaster then s.writeLabels s.nextLabel else s
    let s := s.slotTurnOff x 8
    let s := (s.raise EV_REB_MEMBER_FAILED 2 x [cause]).bump (ctrReb 6)
    let s := s.reorder
    let s := s.membersChanged
    let s := if s.rebQueue.any fun (_, g) => g.members.contains x && s.segR g = 0 then s.raiseCo EV_REB_ZERO_MARGIN x 6
        (((s.rebQueue.find? fun (_, g) => g.members.contains x && s.segR g = 0).map (·.1)).getD 0) else s
    let s := s.rebCheck
    let s := if cause = 9 then s else s.pairSend (.member (.failed x cause (match s.jnl.media.label with | some l => l.seq | none => 0)))
    s.grantsFit

end Sys2Proof.Machine
end

