-- ==== Sys2Proof/Machine/Drv.lean ====
section
/-! DEFINITION. Drive ports (chapter 10): commands placed and completed, bring-up and its checks, errors, link loss and the
escalation ladder; the pool's creation once its drives are deallocated (R299). -/

namespace Sys2Proof.Machine

open F

/-! ## Placing commands (R305, R306) -/

/-- The lowest free tag of a member (R305). -/
def State.freeTag (s : State) (x : Nat) : Option Nat :=
  (List.range 1024).find? fun t => !(s.port x).cmds.any fun d => d.tag = t

/-- The data a drive command writes (R306): a chunk of a stripe, a restored chunk, a label. -/
def State.driveData (s : State) (c : DriveCmd) : List Block :=
  match c.use with
  | .chunk n ch => match tget s.str.stripes n with
    | some x => match s.seg x.seg with | some g => s.chunkData x g ch | none => []
    | none => []
  | .restored i _ p => match tget s.reb.work i, s.seg i with
    | some r, some g => s.restoredChunk g r p
    | _, _ => []
  | .label l => [labelBlock l]
  | _ => []

/-- Whether a command reads, writes. -/
def useReads : DriveUse → Bool
  | .row _ _ => true
  | .source _ _ _ => true
  | _ => false

/-- Whether a command writes blocks. -/
def useWrites : DriveUse → Bool
  | .chunk _ _ => true
  | .restored _ _ _ => true
  | .label _ => true
  | _ => false

/-- The queue pairs in use (R304). -/
def nQ (f : DriveFacts) : Nat := min f.granted 64

/-- The entries of each I/O queue of a drive (R304). -/
def queueEntries (n : Nat) : Nat := (1024 + n - 1) / n + 1

/-- The ranges that deallocate a whole namespace (R306): each of at most 2^32 - 1 blocks. -/
def deallocRanges (capacity : Nat) : List (Nat × Nat) :=
  (List.range ((capacity + 0xFFFFFFFE) / 0xFFFFFFFF)).map fun i => (0xFFFFFFFF * i, min 0xFFFFFFFF (capacity - 0xFFFFFFFF * i))

/-- The entry of a drive command under a tag (R305, R306): tag t is the command identifier and goes to queue t mod n_q (pairs are
numbered from 1 on the drive); a chunk and a label are written with FUA. -/
def State.driveSqe (s : State) (c : DriveCmd) (t : Nat) : DriveSqe :=
  let q := t % s.get DRV_PORT_STATUS_n_q c.member + 1
  match c.use with
  | .dealloc _ => { queue := q, cid := t, opcode := 9, ranges := deallocRanges (tgetD s.str.capacity c.member 0) }
  | u => { queue := q, cid := t, opcode := if useWrites u then 1 else 2, fua := useWrites u, slba := c.lba, nlb := c.len - 1 }

/-- A drive command leaves the drive root: its SQE is written under the lowest free tag and its interval begins (R305,
R306); a member that cannot take it fails it (R312, R313). -/
def State.driveIssue (s : State) (c : DriveCmd) : State :=
  let x := c.member
  match s.freeTag x with
  | none => s.useFailed c
  | some t =>
    if s.get DRV_PORT_STATUS_state x != 3 || !(s.live x || s.get REB_MEMBER_state x = 2 || s.reb.making.contains x) then s.useFailed c
    else
      let d := s.driveData c
      let p := s.port x
      let s := s.putPort x { p with cmds := p.cmds ++ [({ cmd := c, tag := t, at_ := s.dtc } : DrvCmd)] }
      let s := if useReads c.use then (s.bump (ctrDrv x 0)).bump (ctrDrv x 2) (4096 * c.len)
        else if useWrites c.use then (s.bump (ctrDrv x 1)).bump (ctrDrv x 3) (4096 * c.len) else s
      let s := if (s.port x).cmds.length = 1024 then s.enter (ctrDrv x 13) else s
      s.send (.drive c (s.driveSqe c t) d)

/-! ## The ladder (R312, R315) -/

/-- The ladder at a rung: EV_DRV_ESCALATE, the port recovering. -/
def State.rung (s : State) (x n : Nat) : State :=
  ((s.set DRV_PORT_STATUS_rung x n).set DRV_PORT_STATUS_state x 5).raise EV_DRV_ESCALATE 2 x [n]

/-- Whether an earlier success at a rung is within ladder_window_s (R312). -/
def State.recent (s : State) (t : Option Word64) : Bool :=
  match t with
  | some a => decide (s.since a < secTicks (s.get DRV_ESC_CFG_ladder_window_s))
  | none => false

/-- The owner cycles a slot's power (R463): off now, on again after 1 s. -/
def State.cycleSlot (s : State) (x : Nat) : State :=
  let s := s.slotTurnOff x 7
  s.putSlot x { s.slot x with cycling := true }

/-- Rung 4 (R312): the member is failed with cause 0x1; a drive that is no member is refused no further. -/
def State.ladder4 (s : State) (x : Nat) : State := (s.set DRV_PORT_STATUS_rung x 0).memberFail x 1

/-- Rung 3 (R312, R315): the slot's power cycle, asked of the owner and told to the partner. -/
def State.ladder3 (s : State) (x : Nat) : State :=
  if s.recent (s.port x).okRung3 then s.ladder4 x
  else
    let s := (s.rung x 3).bump (ctrDrv x 10)
    let s := s.withdraw x
    let s := s.pairSend (.drive (.cycle x))
    if s.slotOwner x then s.cycleSlot x else s

/-- Rung 2 (R312): controller reset. -/
def State.ladder2 (s : State) (x : Nat) : State :=
  if s.recent (s.port x).okRung2 then s.ladder3 x
  else (((s.rung x 2).bump (ctrDrv x 9)).withdraw x)

/-- A command error of R310, with the ladder entered at the fourth within 60 s. -/
def State.cmdError (s : State) (x : Nat) (read : Bool) : State :=
  let s := (s.noteError x).bump (ctrDrv x (if read then 4 else 6))
  if s.errorBurst x && s.get DRV_PORT_STATUS_rung x = 0 then s.ladder2 x else s

/-! ## Media errors (R271, R276) -/

/-- An Unrecovered Read Error counted against the media limit (R271 cause 0x6). -/
def State.mediaError (s : State) (x : Nat) : State :=
  let p := s.port x
  let w := secTicks (60 * atLeast1 (s.get REB_DETECT_CFG_media_window_min))
  let l := (p.media.filter fun t => decide (s.since t < w)) ++ [s.dtc]
  let s := (s.putPort x { p with media := l }).set REB_MEMBER_media_errs x (min l.length 4095)
  let lim := s.get REB_DETECT_CFG_media_limit
  if lim != 0 && decide (lim ≤ l.length) then s.memberFail x 6 else s

/-- UNREADABLE_CHUNK (R276): the event, the segment queued for evacuation, the media limit. -/
def State.unreadable (s : State) (x seg : Nat) : State :=
  ((((s.bump (ctrDrv x 5)).raiseCo EV_REB_CHUNK_UNREADABLE x 2 x).segBad seg).rebCheck).mediaError x

/-! ## Pool creation and adoption (R295, R299) -/

/-- Steps 3 and 4 of R299, once every drive is deallocated: labels with label_seq 1, members LIVE, CHECKPOINT with seq 0 and
the first metadata blocks; step 5 follows the checkpoint. -/
def State.poolLabels (s : State) : State :=
  let l := s.reb.making
  let s := { s with reb := { s.reb with making := [] } }
  let s := s.each l fun s x => (s.set REB_MEMBER_state x 3).set STR_MEMBER_STATUS_live x 1
  let s := s.membersChanged
  let s := s.writeLabels ⟨1, s.str.poolId, 0, s.str.chunk128, 0, 0⟩
  let s := ((s.set JNL_FIRN_SEQ_next_seq 0 0).set GLB_MGMT_SEQ_last_accepted 0 0).set GLB_MGMT_SEQ_last_completed 0 0
  let s := { s with jnl := { s.jnl with compact := some (4, []), ckpt := some ⟨0, 0, [], [], (0, 0, none), [], [(.segPage 0, 0, 0), (.root 0, 0, 1)], [], []⟩, named := [(.segPage 0, 0, 0), (.root 0, 0, 1)] } }
  let s := s.metaAppend 1 (.checkpoint 0 0 1)
  let s := s.mdPlace (.segPage 0) (s.segPageBlock 0)
  let s := s.mdPlace (.root 0) (rootFirst (leBytes 4 1 ++ leBytes 4 0) [locNat 0 0] 0)
  let s := s.firnFill true s.fillFuel
  s.pairSend (.member (.pool s.str.poolId s.str.chunk128 l 1))

/-- A deallocation has ended: an adoption or a pool creation goes on. -/
def State.deallocDone (s : State) (x : Nat) : State :=
  let s := { s with reb := { s.reb with joining := tmod s.reb.joining x fun n => max n 1 } }
  if s.reb.creating.contains x then
    let l := s.reb.creating.filter (· != x)
    let s := { s with reb := { s.reb with creating := l } }
    if l.isEmpty then s.poolLabels else s
  else s

/-- A label write has ended: an adoption goes on (R295). -/
def State.labelDone (s : State) (x : Nat) : State :=
  { s with reb := { s.reb with joining := tmod s.reb.joining x fun n => if n = 2 then 3 else n } }

/-! ## Completions (R306, R310, R314) -/

/-- A drive command that succeeded (R275, R281, R307). -/
def State.driveOk (s : State) (c : DriveCmd) (d : List Block) : State :=
  match c.use with
  | .chunk n ch =>
    let s := { s with str := { s.str with stripes := tmod s.str.stripes n fun x => { x with waiting := x.waiting.filter (· != ch) } } }
    if (tget s.str.stripes n).any fun x => x.writing && x.waiting.isEmpty then (s.stripeDone n).switchResume.pagesSettle.relocSteps else s
  | .row r k => (s.rowChunk r k (some (d.headD 0)) State.rowGot).relocSteps
  | .source i st ch => s.sourceGot i st ch d
  | .restored i st p => s.restoredDone i st p
  | .label _ => (s.labelDone c.member).labelEnded c.member
  | .dealloc _ => s.deallocDone c.member
  | .health => s

/-- The segment a read command reads. -/
def State.useSeg (s : State) : DriveUse → Option Nat
  | .row r _ => (tget s.str.reads r).map (·.seg)
  | .source i _ _ => some i
  | _ => none

/-- DRIVE_CQE: status 0 success, 1 Unrecovered Read Error, 2 any other error; 3 and 4 the CQE of an Abort of the tag's
command, reporting it aborted or not (R314). -/
def State.driveCqe (s : State) (x tag st : Nat) (d : List Block) : State :=
  match (s.port x).cmds.find? fun e => e.tag = tag with
  | none => s
  | some e =>
    let s := if e.late && s.get DRV_PORT_STATUS_rung x = 1 then (s.set DRV_PORT_STATUS_rung x 0).set DRV_PORT_STATUS_state x 3 else s
    if 3 ≤ st then
      let p := s.port x
      let s := s.putPort x { p with cmds := p.cmds.map fun (y : DrvCmd) =>
        if y.tag = tag then { y with late := false, gone := y.gone || st = 3 } else y }
      if st = 3 && !e.gone then (s.useFailed e.cmd).cmdError x (useReads e.cmd.use) else s
    else
      let p := s.port x
      let s := (s.putPort x { p with cmds := p.cmds.filter fun y => y.tag != tag }).leave (ctrDrv x 13)
      let s := if useReads e.cmd.use then s.sample 1 x (s.since e.at_) true
        else if useChunk e.cmd.use then s.sample 2 x (s.since e.at_) true else s
      if e.gone then s
      else if st = 0 then s.driveOk e.cmd d
      else
        match s.useSeg e.cmd.use, st with
        | some i, 1 => (s.useFailed e.cmd).unreadable x i
        | _, _ => (s.useFailed e.cmd).cmdError x (useReads e.cmd.use)

/-! ## Bring-up (R302 to R304, R307, R308) -/

/-- The largest mandatory transfer: the pool's chunk, 128 KiB before a pool exists (R308). -/
def State.needMdts (s : State) : Nat := if s.str.poolId = 0 then 131072 else 4096 * s.chunkBlocks

/-- The first reason to refuse a drive, in the order of R302, R303 and R308. -/
def State.acceptCheck (s : State) (x : Nat) (f : DriveFacts) : Option Nat :=
  let full := if s.pairShelf then 2 else 4
  if !f.l0 || decide (f.rate < 32) || decide (2 * f.width < full) then some 1
  else if f.classCode != 0x010802 then some 2
  else if !f.ready then some 3
  else if f.active != 1 || f.lbads != 12 || f.metadata != 0 || decide (f.capacity < 20480) then some 4
  else if decide (f.mdts < s.needMdts) || nQ f = 0 || decide (f.mqes < (1024 + nQ f - 1) / nQ f) || decide (nQ f < 8) then some 5
  else if f.vwc && !f.vwcOff then some 6
  else if decide (s.pLim x < f.ps0) then some 7
  else if !f.dsm then some 8
  else if f.locked then some 9
  else if decide ((f.warning / 8) % 4 ≠ 0) then some 10
  else if s.pairShelf && !(f.shared && f.otherPort) then some 11
  else none

/-- A drive refused (R303): state and reason, the event, the slot off and barred; where a rung fails by it, and for a member, the
next rung runs instead (R312). -/
def State.refuse (s : State) (x reason : Nat) (tell : Bool) : State :=
  let rung := s.get DRV_PORT_STATUS_rung x
  if tell && (rung = 2 || s.live x && decide (rung < 3)) then s.ladder3 x
  else
    let s := ((s.set DRV_PORT_STATUS_state x 4).set DRV_PORT_STATUS_refuse x reason).raise EV_DRV_REFUSED 2 x [reason]
    let s := s.putPort x { s.port x with barred := true }
    let s := if s.live x then s.ladder4 x else if s.get REB_MEMBER_state x = 1 then s.set REB_MEMBER_state x 0 else s
    let s := s.slotTurnOff x 8
    if tell then s.pairSend (.drive (.refused x reason)) else s

/-- The newest valid label copy of a drive (R225). -/
def newestLabel (l : List DriveLabel) : Option DriveLabel :=
  l.foldl (fun m a => match m with
    | none => some a
    | some b => if b.seq < a.seq then some a else some b) none

/-- A label that names a pool: one whose ckpt_seq is 0 counts as none (R299). -/
def poolLabel (f : DriveFacts) : Option DriveLabel := (newestLabel f.labels).filter fun l => l.ckptSeq != 0 || l.ckptLoc != 0

/-- Whether a drive's label is the pool's current one (R274, R312). -/
def State.labelCurrent (s : State) (f : DriveFacts) : Bool :=
  match newestLabel f.labels, s.jnl.media.label with
  | some l, some p => l.poolId = p.poolId && l.seq = p.seq
  | _, _ => false

/-- An accepted drive's port is ready (R303 steps 2 to 8, R304): link outcome, queues, capacity, tags free. -/
def State.portReady (s : State) (x : Nat) (f : DriveFacts) : State :=
  let full := if s.pairShelf then 2 else 4
  let s := (((s.set DRV_PORT_STATUS_speed x (if f.rate = 32 then 5 else 6)).set DRV_PORT_STATUS_width x f.width).set DRV_PORT_STATUS_flit x
    (bit f.flit)).set DRV_PORT_STATUS_n_q x (nQ f)
  let s := ((s.set DRV_PORT_STATUS_cntlid x f.cntlid).set DRV_PORT_STATUS_state x 3).set DRV_PORT_STATUS_refuse x 0
  let s := s.putPort x { s.port x with cmds := [], linkDown := none, facts := some f }
  let s := { (s.leave (ctrDrv x 13)) with str := { (s.leave (ctrDrv x 13)).str with capacity := tput s.str.capacity x f.capacity } }
  if f.rate = 32 || decide (f.width < full) then s.raise EV_DRV_LINK_DEGRADED 2 x else s

/-- An admin command to a drive: opcode, then what it names (a feature, a queue, a log page) and its value. -/
def driveAdminOp (op what value : Nat) : Nat := op + 256 * what + 65536 * value

/-- The queues a drive is asked for before its checks (R304, R308): Set Features 07h for 64 pairs. -/
def State.askQueues (s : State) (x : Nat) : State := s.send (.driveAdmin x (driveAdminOp 9 7 0x003F003F))

/-- The configuration of an accepted drive (R308): volatile write cache off, APST off, PS0, SMART critical warnings reported, 4
Asynchronous Event Requests; then its I/O queue pairs, each completion queue with its own vector (R304). -/
def State.configureDrive (s : State) (x : Nat) (f : DriveFacts) : State :=
  let n := nQ f
  let size := queueEntries n - 1
  let ops := (if f.vwc then [driveAdminOp 9 6 0] else []) ++ [driveAdminOp 9 0xC 0, driveAdminOp 9 2 0, driveAdminOp 9 0xB 0xFF] ++
    List.replicate 4 0xC ++ (List.range n).flatMap fun q => [driveAdminOp 5 (q + 1) size, driveAdminOp 1 (q + 1) size]
  s.each ops fun s op => s.send (.driveAdmin x op)

/-- A rung's success (R312): its time is kept and the ladder is idle. -/
def State.rungOk (s : State) (x : Nat) : State :=
  let n := s.get DRV_PORT_STATUS_rung x
  let p := s.port x
  (s.putPort x { p with okRung2 := if n = 2 then some s.dtc else p.okRung2, okRung3 := if n = 3 then some s.dtc else p.okRung3 }).set
    DRV_PORT_STATUS_rung x 0

/-- A drive that is no member of the pool becomes CANDIDATE, adopted by command only if its label names a pool (R295). -/
def State.candidate (s : State) (x : Nat) (f : DriveFacts) : State :=
  let s := s.set REB_MEMBER_state x 1
  if (poolLabel f).isSome && s.str.poolId != 0 then s.raise EV_REB_ADOPT_REFUSED 2 x else s

/-- DRIVE_BRINGUP (R303, R308, R311, R312): a trained drive is checked and accepted or refused; a member stays one, at rung 3
only with its current label; before the labels are taken at start its state is left to LABEL_CHECK (R274). -/
def State.bringUp (s : State) (x : Nat) (f : DriveFacts) : State :=
  if s.get DRV_PORT_STATUS_state x = 0 || s.get DRV_PORT_STATUS_state x = 3 || s.get DRV_PORT_STATUS_state x = 4 then s
  else
    let s := if f.l0 && f.classCode = 0x010802 && f.ready then s.askQueues x else s
    match s.acceptCheck x f with
    | some r => s.refuse x r true
    | none =>
      let rung := s.get DRV_PORT_STATUS_rung x
      let s := (s.portReady x f).configureDrive x f
      if s.live x then (if rung = 3 && !s.labelCurrent f then s.ladder4 x else s.rungOk x)
      else if !s.boot.drivesUp then s
      else s.candidate x f

/-! ## Rows -/

/-- DRIVE_BRINGUP (R303). -/
def execDriveBringup (x : Nat) (f : DriveFacts) (s : State) : Host.Outcome State Fault Refusal :=
  s.commit { parts := driveParts, fields := sltLive ++ qpeLive ++ strLive ++ drvLive ++ rebLive ++ firnSeq }
    (if s.get DRV_PORT_STATUS_rung (x % 32) = 1 then s else s.bringUp (x % 32) f)

/-- DRIVE_BRINGUP_TIMEOUT (R303, R312): no L0 in time, or not ready in time; during rung 2 or 3 the rung fails. -/
def execDriveBringupTimeout (x : Nat) (trained : Bool) (s : State) : Host.Outcome State Fault Refusal :=
  let x := x % 32
  s.commit { parts := driveParts, fields := sltLive ++ qpeLive ++ strLive ++ drvLive ++ rebLive ++ firnSeq }
    (if s.get DRV_PORT_STATUS_state x = 0 || s.get DRV_PORT_STATUS_state x = 3 || s.get DRV_PORT_STATUS_state x = 4 then s
    else s.refuse x (if trained then 3 else 1) true)

/-- DRIVE_CQE (R306). -/
def execDriveCqe (x tag st : Nat) (d : List Block) (s : State) : Host.Outcome State Fault Refusal :=
  s.commit
    { parts := [.evt, .ctr, .tel, .hkt, .tms, .swc, .qpe, .nsm, .key, .cip, .hif, .slc, .str, .jnl, .drv, .reb, .pair,
        .slt, .freeCtr, .outbox], fields := sltLive ++ qpeLive ++ strLive ++ drvLive ++ rebLive ++ firnSeq ++ mgmtSeq
        ++ [HKT_CTX_STATUS_cached, HKT_CTX_STATUS_spilled, SLC_LOG_STATUS_out_span, SWC_BUF_STATUS_free_cells,
        SWC_BUF_STATUS_min_free] }
    (s.driveCqe (x % 32) tag st d)

/-- CHUNK_WRITE_DONE (R207): the successful completion of a chunk write. -/
def execChunkWriteDone (x tag : Nat) (s : State) : Host.Outcome State Fault Refusal :=
  s.commit
    { parts := [.evt, .ctr, .tel, .hkt, .tms, .swc, .qpe, .nsm, .key, .cip, .hif, .slc, .str, .jnl, .drv, .reb, .pair,
        .slt, .freeCtr, .outbox], fields := sltLive ++ qpeLive ++ strLive ++ drvLive ++ rebLive ++ firnSeq ++ mgmtSeq
        ++ [HKT_CTX_STATUS_cached, HKT_CTX_STATUS_spilled, SLC_LOG_STATUS_out_span, SWC_BUF_STATUS_free_cells,
        SWC_BUF_STATUS_min_free] }
    (if (s.port (x % 32)).cmds.any fun d => d.tag = tag && (match d.cmd.use with | .chunk _ _ => true | _ => false) then
    s.driveCqe (x % 32) tag 0 [] else s)

/-- The critical warning bits of a drive (R271): bits 3 and 4 fail the member, bit 2 is reported once. -/
def State.driveWarning (s : State) (x w : Nat) : State :=
  let p := s.port x
  let s := if w / 4 % 2 = 1 && !p.degraded && s.live x then
    (s.putPort x { p with degraded := true }).raise EV_REB_MEMBER_DEGRADED 2 x else s
  if w / 8 % 4 != 0 then s.memberFail x 5 else s

/-- DRIVE_ASYNC_EVENT (R271, R308): a SMART critical warning of a drive. -/
def execDriveAsyncEvent (x w : Nat) (s : State) : Host.Outcome State Fault Refusal :=
  s.commit { parts := driveParts, fields := sltLive ++ qpeLive ++ strLive ++ drvLive ++ rebLive ++ firnSeq }
    ((s.driveWarning (x % 32) w).send (.driveAdmin (x % 32) 0xC))

/-- HEALTH_POLL (R306, R271, R310): the Critical Warning and Percentage Used of a drive's SMART log, or none where the read
failed. -/
def execHealthPoll (x : Nat) (w : Option (Nat × Nat)) (s : State) : Host.Outcome State Fault Refusal :=
  let x := x % 32
  s.commit { parts := driveParts, fields := sltLive ++ qpeLive ++ strLive ++ drvLive ++ rebLive ++ firnSeq }
    (if s.get DRV_PORT_STATUS_state x != 3 then s
    else
      let s := s.send (.driveAdmin x 2)
      match w with
      | some (w, u) => (s.putPort x { s.port x with used := u }).driveWarning x w
      | none => s.cmdError x true)

/-- DRIVE_CFS (R311): the ladder starts at the controller reset rung. -/
def execDriveCfs (x : Nat) (s : State) : Host.Outcome State Fault Refusal :=
  let x := x % 32
  s.commit { parts := driveParts, fields := sltLive ++ qpeLive ++ strLive ++ drvLive ++ rebLive ++ firnSeq }
    (if s.get DRV_PORT_STATUS_state x = 3 || s.get DRV_PORT_STATUS_rung x = 1 then s.ladder2 x else s)

/-- DRIVE_LINK_LOSS (R311): commands withdrawn, the link retrains. -/
def execDriveLinkLoss (x : Nat) (s : State) : Host.Outcome State Fault Refusal :=
  let x := x % 32
  s.commit { parts := rebuildParts, fields := qpeLive ++ drvLive ++ rebLive ++ firnSeq ++ openSeg }
    (if s.get DRV_PORT_STATUS_speed x = 0 then s
    else
      let s := ((s.set DRV_PORT_STATUS_state x 5).set DRV_PORT_STATUS_speed x 0).set DRV_PORT_STATUS_width x 0
      let s := s.putPort x { s.port x with linkDown := some s.dtc }
      let s := ((s.addSat DRV_PORT_ERR_link_losses x 1).bump (ctrDrv x 11)).raise EV_DRV_LINK_DOWN 2 x
      s.withdraw x)

/-- DRIVE_LINK_RETURN (R311): the controller is reinitialised as at the controller reset rung. -/
def execDriveLinkReturn (x : Nat) (f : DriveFacts) (s : State) : Host.Outcome State Fault Refusal :=
  let x := x % 32
  s.commit { parts := driveParts, fields := sltLive ++ qpeLive ++ strLive ++ drvLive ++ rebLive ++ firnSeq }
    (if (s.port x).linkDown.isNone then s
    else (s.putPort x { s.port x with linkDown := none }).bringUp x f)

/-- LINK_LOSS_TIMEOUT (R271, R311): a LIVE member fails with cause 0x3; a drive that is none has no link. -/
def execLinkLossTimeout (x : Nat) (s : State) : Host.Outcome State Fault Refusal :=
  let x := x % 32
  s.commit { parts := driveParts, fields := sltLive ++ qpeLive ++ strLive ++ drvLive ++ rebLive ++ firnSeq }
    (if (s.port x).linkDown.isNone then s
    else if s.live x then s.memberFail x 3
    else ((s.putPort x { s.port x with linkDown := none }).adoptFail x).set DRV_PORT_STATUS_state x 0)

/-- AER_CORRECTABLE (R311). -/
def execAerCorrectable (x : Nat) (s : State) : Host.Outcome State Fault Refusal :=
  s.commit { parts := [.ctr], fields := [DRV_PORT_ERR_aer_corr] }
    ((s.addSat DRV_PORT_ERR_aer_corr (x % 32) 1).bump (ctrDrv (x % 32) 12))

/-- DRIVE_COMMAND_TIMEOUT (R312): rung 1, an Abort of the command. -/
def execDriveCommandTimeout (x tag : Nat) (s : State) : Host.Outcome State Fault Refusal :=
  let x := x % 32
  s.commit
    { parts := [.evt, .ctr, .drv, .outbox],
      fields := [DRV_PORT_STATUS_rung, DRV_PORT_STATUS_state, DRV_PORT_ERR_timeouts] }
    (if !(s.port x).cmds.any fun d => d.tag = tag && !d.late then s
    else
      let p := s.port x
      let s := s.putPort x { p with cmds := p.cmds.map fun (d : DrvCmd) => if d.tag = tag then { d with late := true } else d }
      let s := (s.addSat DRV_PORT_ERR_timeouts x 1).bump (ctrDrv x 7)
      if s.get DRV_PORT_STATUS_rung x != 0 then s
      else ((s.rung x 1).bump (ctrDrv x 8)).send (.driveAdmin x (8 + 256 * tag)))

/-- LADDER_RUNG_TIMEOUT (R312): the rung in progress has failed and the next runs. -/
def execLadderRungTimeout (x : Nat) (s : State) : Host.Outcome State Fault Refusal :=
  let x := x % 32
  let n := s.get DRV_PORT_STATUS_rung x
  s.commit { parts := driveParts, fields := sltLive ++ qpeLive ++ strLive ++ drvLive ++ rebLive ++ firnSeq }
    (if n = 1 then s.ladder2 x else if n = 2 then s.ladder3 x else if n = 3 then s.ladder4 x else s)

/-- DRIVE_FRAME_RX (R303, R315): the partner refused a drive, or asks for or announces a power cycle: this module's commands
are withdrawn, and the owner cycles the slot. -/
def State.driveFrame (s : State) (f : DriveFrame) : State :=
  match f with
  | .refused x r => if s.get DRV_PORT_STATUS_state x = 4 then s else s.refuse x r false
  | .cycle x =>
    let s := (s.withdraw x).set DRV_PORT_STATUS_state x 5
    if s.slotOwner x then s.cycleSlot x else s

end Sys2Proof.Machine
end

