-- ==== Sys2Proof/Machine/Reb.lean ====
section
/-! DEFINITION. Rows of the rebuild engine, the Crevasse list, adoption and pool creation (chapter 09). -/

namespace Sys2Proof.Machine

open F

/-! ## Rebuild (R278 to R284) -/

/-- Whether a segment is restored, not evacuated, and its targets (R279, R280). -/
def State.restorable (s : State) (i : Nat) (g : Seg) : Option (List (Nat × Nat × Nat)) :=
  let pct := min 100 (s.get REB_CFG_evac_pct)
  if g.state = .isSealed && !s.reb.bad.contains i && (g.head = .meta_ || decide (pct * segBlocks g < 100 * g.live)) then
    s.targets g (s.lostPositions g) []
  else none

/-- Whether some live member's spare reserve has room (R280). -/
def State.spareLeft (s : State) : Bool := s.liveMembers.any fun x => decide (0 < s.freeReserve x)

/-- REBUILD_SEGMENT_START (R278 to R280, R319): the engine takes the next segment of the queue to restore it; each module
evacuates its own. -/
def State.rebuildNext (s : State) : State :=
  let par := clampNat 1 64 (s.get REB_CFG_parallel)
  if s.booting || decide (par ≤ s.reb.work.length + s.reb.evac.length) then s
  else
    match s.nextRebuild fun i g => if (s.restorable i g).isSome then s.rebuildHere else s.segMine i with
    | none => s
    | some (i, g) =>
      match s.restorable i g with
      | none => s.evacuate i
      | some t =>
        let had := s.spareLeft
        let s := { s with reb := { s.reb with work := tput s.reb.work i { targets := t } } }
        let s := if had && !s.spareLeft then s.raise EV_REB_SPARE_EXHAUSTED 0 0 else s
        s.restoreStripe i g

/-- A segment restored whole (R281): its SEG_STATE names the targets in place of the lost members, and acts as it commits. -/
def State.restoreEnd (s : State) (i : Nat) (g : Seg) (r : Restore) : State :=
  let put (l : List Nat) (f : Nat × Nat × Nat → Nat) : List Nat := r.targets.foldl (fun l t => l.set t.1 (f t)) l
  let g' := { g with members := put g.members fun t => t.2.1, base := put g.base fun t => t.2.2 }
  { s with reb := { s.reb with work := tput s.reb.work i { r with got := [], ended := true } } }.firnAppend 3 (.segState i (some g'))

/-- REBUILD_STRIPE_DONE (R281): a stripe's restored chunks are durable; the next stripe, or the segment's end. -/
def State.rebuildStripe (s : State) (i : Nat) : State :=
  match tget s.reb.work i, s.seg i with
  | some r, some g =>
    if !r.asked.isEmpty || !r.waiting.isEmpty || r.got.isEmpty then s
    else
      let s := { s with reb := { s.reb with doneKib := s.reb.doneKib + 4 * s.chunkBlocks * r.targets.length } }
      if r.stripe + 1 < s.segStripes g then
        let s := { s with reb := { s.reb with work := tput s.reb.work i { r with stripe := r.stripe + 1, got := [] } } }
        s.restoreStripe i g
      else s.restoreEnd i g r
  | _, _ => s

/-- The median of a list of predictions, the lower of the middle two (R237, R284). -/
def median (l : List Nat) : Option Nat := (sortOn id l)[(l.length - 1) / 2]?

/-- Predictions of live members that have one. -/
def State.preds (s : State) : List Nat :=
  (s.liveMembers.filter fun x => !s.flag STR_MEMBER_STATUS_few_samples x).map fun x => s.get STR_MEMBER_STATUS_pred x

/-- The floor and weight of tenant 4,095 (R284). -/
def State.rebuildRate (s : State) : State :=
  let wmax := atLeast1 (s.get REB_WEIGHT_CFG_w_max)
  let wmin := min (atLeast1 (s.get REB_WEIGHT_CFG_w_min)) wmax
  match s.lowestR with
  | none => (s.set TMS_REBUILD_FLOOR_floor 0 0).set TMS_TENANT_CFG_weight 4095 wmin
  | some r =>
    let fl := if r ≤ 0 then s.get REB_RATE_CFG_floor_r0
      else if s.get REB_STATUS_state = 2 then 0
      else if r = 1 then s.get REB_RATE_CFG_floor_r1 else s.get REB_RATE_CFG_floor_r2
    let s := s.set TMS_REBUILD_FLOOR_floor 0 (fl * 1000)
    let w := s.get TMS_TENANT_CFG_weight 4095
    let t := usTicks (s.get REB_RATE_CFG_lat_target_us)
    match median s.preds with
    | none => s
    | some p =>
      if t < p then s.set TMS_TENANT_CFG_weight 4095 (max wmin (w / 2))
      else if 4 * p < 3 * t then s.set TMS_TENANT_CFG_weight 4095 (min wmax (w + atLeast1 (s.get REB_WEIGHT_CFG_w_step)))
      else s

/-- REBUILD_SEGMENT_START (R278). -/
def execRebuildSegmentStart (s : State) : Host.Outcome State Fault Refusal :=
  s.commit { parts := rebuildParts, fields := qpeLive ++ rebLive ++ firnSeq ++ openSeg }
    (s.rebuildNext)

/-- REBUILD_STRIPE_DONE (R281). -/
def execRebuildStripeDone (seg : Nat) (s : State) : Host.Outcome State Fault Refusal :=
  s.commit
    { parts := [.evt, .ctr, .tms, .qpe, .nsm, .str, .jnl, .reb, .pair, .outbox],
      fields := qpeLive ++ rebLive ++ firnSeq }
    (s.rebuildStripe seg)

/-- REBUILD_RATE_UPDATE (R284), which waits for the control cores (R484). -/
def execRebuildRateUpdate (s : State) : Host.Outcome State Fault Refusal :=
  s.commit { parts := [.reb], fields := [TMS_REBUILD_FLOOR_floor, TMS_TENANT_CFG_weight] }
    (if s.coresAway then { s with reb := { s.reb with rateDue := true } } else s.rebuildRate)

/-- What waited for the control cores runs with its last inputs (R484 step 4): the placement tables, rebuild restarts, the rate update. -/
def State.dutiesResume (s : State) : State :=
  let due := s.reb.rateDue
  let s := { s with reb := { s.reb with stopped := [], rateDue := false } }.rebuildTables
  if due then s.rebuildRate else s

/-! ## The Crevasse list (R291) -/

/-- CREVASSE_PERSIST (R291): the list's image is written to both vault packages. -/
def execCrevassePersist (s : State) : Host.Outcome State Fault Refusal :=
  s.commit { parts := [.reb] }
    (if s.reb.changed then
    { s with reb := { s.reb with changed := false, saved := some ⟨s.get REB_CREV_STATUS_generation, s.str.poolId, s.reb.crev, s.get REB_CREV_COUNT_lost_blocks, s.get REB_CREV_COUNT_overflow⟩ } } else s)

/-- CREVASSE_WALK (R291, R292): every block of kind lost enters the list; the cause of one that the map alone tells of is a
free value. -/
def State.crevWalk (s : State) : State :=
  if !s.flag REB_CREV_STATUS_scanning then s
  else
    let lost := s.str.map.filterMap fun ((i, lba), e) => match e with
      | .lost _ _ => (s.ns i).map fun n => (nsidOf i n, lba)
      | _ => none
    let s := s.each lost fun s (nsid, lba) =>
      let (v, s) := s.fresh
      s.crevEnter ⟨nsid, lba, 1, v.toNat % 4 + 1, 0x1F, 0xFFFFFF, s.dtc⟩
    s.set REB_CREV_STATUS_scanning 0 0

/-- CREVASSE_WALK (R291). -/
def execCrevasseWalk (s : State) : Host.Outcome State Fault Refusal :=
  s.commit
    { parts := [.evt, .ctr, .reb, .freeCtr],
      fields := [REB_CREV_STATUS_entries, REB_CREV_STATUS_generation, REB_CREV_STATUS_scanning, REB_CREV_COUNT_lost_blocks, REB_CREV_COUNT_overflow] }
    (s.crevWalk)

/-- A CREVASSE frame applied (R291, R328): a run entered, blocks healed, a namespace's entries dropped, or the partner's list
merged. -/
def State.crevFrame (s : State) (f : CrevFrame) : State :=
  match f with
  | .add c => s.crevEnter c
  | .heal nsid a n => if s.reb.crev.any (crevHits nsid a n) then s.crevTake nsid a n else s
  | .drop nsid => if s.reb.crev.any fun c => c.nsid = nsid then s.crevErase nsid else s
  | .list l => s.each l State.crevEnter

/-! ## Adoption, pool creation and REB_CMD (R295, R296, R298, R299) -/

/-- REB_STATUS.cmd_result (R298). -/
def State.rebResult (s : State) (r : Nat) : State := s.set REB_STATUS_cmd_result 0 r

/-- A drive's whole namespace deallocated (R295, R306). -/
def State.memberDealloc (s : State) (x : Nat) : State := s.driveQueue ⟨x, .dealloc 0, 0, 0⟩ 4094

/-- Adoption begun (R295 steps 1 and 2). -/
def State.adoptStart (s : State) (x : Nat) : State :=
  ({ s with reb := { s.reb with joining := tput s.reb.joining x 0 } }.set REB_MEMBER_state x 2).memberDealloc x

/-- Whether a drive is adopted automatically (R295): no valid label and auto_adopt, in a pool that exists. -/
def State.autoAdopts (s : State) (x : Nat) : Bool :=
  s.flag REB_CFG_auto_adopt && s.str.poolId != 0 && (match (s.port x).facts with | some f => (poolLabel f).isNone | none => false)

/-- The label written to a drive that joins and to every live member (R295 step 3). -/
def State.adoptLabels (s : State) (x : Nat) : State :=
  let l := s.nextLabel
  let s := { s with reb := { s.reb with joining := tput s.reb.joining x 2 } }
  (s.writeLabels l).driveQueue ⟨x, .label { l with member := x }, if l.seq % 2 = 1 then 0 else 2048, 1⟩ 4093

/-- A member joined (R295 step 4): LIVE, tables and reserves anew. -/
def State.joined (s : State) (x : Nat) : State :=
  let s := { s with reb := { s.reb with joining := tdel s.reb.joining x } }
  let s := ((s.set REB_MEMBER_state x 3).set STR_MEMBER_STATUS_live x 1)
  let s := { s with drv := tput s.drv x { s.port x with degraded := false, media := [] } }
  ((s.membersChanged).raise EV_REB_MEMBER_JOINED 2 x).bump (ctrReb 7)

/-- ADOPTION (R295): the next step of an adoption that is ready for it, or an automatic one begun, by the module that writes the pool labels
(R319). -/
def State.adoption (s : State) (x : Nat) : State :=
  let st := s.get REB_MEMBER_state x
  if st = 1 then (if s.autoAdopts x && s.isMaster then s.adoptStart x else s)
  else if st != 2 then s
  else
    match tget s.reb.joining x with
    | some 1 => s.adoptLabels x
    | some 3 => (s.joined x).pairSend (.member (.joined x (match s.jnl.media.label with | some l => l.seq | none => 0)))
    | _ => s

/-- ADOPTION (R295). -/
def execAdoption (x : Nat) (s : State) : Host.Outcome State Fault Refusal :=
  s.commit { parts := [.evt, .ctr, .tms, .str, .jnl, .drv, .reb, .pair, .outbox], fields := strLive ++ [REB_MEMBER_state] }
    (s.adoption (x % 32))

/-- REWIDEN (R296): the SEALED data segment of smallest seal_seq whose k is below its group's k_cur is relocated. -/
def State.rewiden (s : State) : State :=
  let ok (p : Nat × Seg) : Bool := p.2.state = .isSealed && !s.segPending p.1 && !s.switching p.1 && !s.needsRebuild p.1 p.2 && s.segMine p.1 && (match headGroup p.2.head with
    | some g => decide (p.2.k < s.kCur g)
    | none => false)
  if !s.flag REB_CFG_rewiden_en || s.booting then s
  else
    match (s.str.segs.filter ok).foldl (fun (m : Option (Nat × Seg)) p => match m with
        | none => some p
        | some q => if p.2.sealSeq < q.2.sealSeq then some p else m) none with
    | none => s
    | some (i, g) =>
      (s.firnAppend 1 (.segState i (some { g with state := .calving }))).relocateAll i 1

/-- REWIDEN (R296). -/
def execRewiden (s : State) : Host.Outcome State Fault Refusal :=
  s.commit { parts := rebuildParts, fields := qpeLive ++ rebLive ++ firnSeq ++ openSeg }
    (s.rewiden)

/-- What REB_FAIL does (R298): R273 with cause 0x8. -/
def State.rebFail (s : State) (x : Nat) : State :=
  if s.live (x % 32) then (s.memberFail (x % 32) 8).rebResult 0 else s.rebResult 1

/-- REB_FAIL (R298): R273 with cause 0x8. -/
def execRebFail (x : Nat) (s : State) : Host.Outcome State Fault Refusal :=
  s.commit { parts := driveParts, fields := sltLive ++ qpeLive ++ strLive ++ drvLive ++ rebLive ++ firnSeq }
    (s.rebFail x)

/-- What REB_ADOPT does (R298, R295). -/
def State.rebAdopt (s : State) (x : Nat) : State :=
  if s.get REB_MEMBER_state (x % 32) = 1 then (s.adoptStart (x % 32)).rebResult 0 else s.rebResult 1

/-- REB_ADOPT (R298, R295). -/
def execRebAdopt (x : Nat) (s : State) : Host.Outcome State Fault Refusal :=
  s.commit { parts := [.tms, .reb], fields := [REB_STATUS_cmd_result, REB_MEMBER_state] }
    (s.rebAdopt x)

/-- What REB_PAUSE does (R298, R284). -/
def State.rebPause (s : State) : State :=
  if s.rebQueue.isEmpty then s.rebResult 2 else ((s.set REB_STATUS_state 0 2).enter (ctrReb 9)).rebResult 0

/-- REB_PAUSE (R298, R284). -/
def execRebPause (s : State) : Host.Outcome State Fault Refusal :=
  s.commit { parts := [.ctr], fields := [REB_STATUS_cmd_result, REB_STATUS_state] }
    (s.rebPause)

/-- What REB_RESUME does (R298). -/
def State.rebResume (s : State) : State :=
  if s.get REB_STATUS_state = 2 then
    ((s.set REB_STATUS_state 0 (if s.rebQueue.isEmpty then 0 else 1)).leave (ctrReb 9)).rebResult 0
  else s.rebResult 2

/-- REB_RESUME (R298). -/
def execRebResume (s : State) : Host.Outcome State Fault Refusal :=
  s.commit { parts := [.ctr], fields := [REB_STATUS_cmd_result, REB_STATUS_state] }
    (s.rebResume)

/-- The CANDIDATE slots. -/
def State.candidates (s : State) : List Nat := (List.range 32).filter fun x => s.get REB_MEMBER_state x = 1

/-- Whether a drive carries a valid label of another pool with a non-zero ckpt_seq (R299). -/
def State.foreign (s : State) (x : Nat) : Bool := match (s.port x).facts with | some f => (poolLabel f).isSome | none => false

/-- The conditions of R299. -/
def State.poolAllowed (s : State) : Bool :=
  (s.nLive = 0) && !((List.range 32).any s.foreign) && s.reb.making.isEmpty &&
    (!s.pairShelf || (!s.bayB && (!s.pair.active || (match s.pair.partner with | some h => h.poolId = 0 | none => true)))) &&
    decide (s.mMeta + 5 ≤ s.candidates.length)

/-- A pool_id from the DRBG (R299): a draw of 0 is repeated; after 16 of them the value is free. -/
def State.poolDraw (s : State) : Nat → Nat × State
  | 0 => let (v, s) := s.fresh; (v.toNat % (2 ^ 32 - 1) + 1, s)
  | fuel + 1 =>
    let (b, s) := s.drbg 1
    if beAt b 0 4 = 0 then s.poolDraw fuel else (beAt b 0 4, s)

/-- CREATE_POOL steps 1 and 2 (R299): the pool_id drawn, every candidate deallocated. -/
def State.createPool (s : State) : State :=
  if !s.poolAllowed then s.rebResult 3
  else
    let l := s.candidates
    let (id, s) := s.poolDraw 16
    let s := { s with
      str := { s.str with poolId := id, chunk128 := s.flag STR_POOL_CFG_chunk_128 }
      reb := { s.reb with creating := l, making := l } }
    (s.each l State.memberDealloc).rebResult 0

/-- CREATE_POOL (R299). -/
def execCreatePool (s : State) : Host.Outcome State Fault Refusal :=
  s.commit { parts := [.tms, .str, .key, .reb, .freeCtr], fields := [REB_STATUS_cmd_result] }
    (s.createPool)

/-- The label sequence the partner's frame carries taken over (R297). -/
def State.labelSeq (s : State) (q : Nat) : State :=
  { s with jnl := { s.jnl with media := { s.jnl.media with label := s.jnl.media.label.map fun (l : DriveLabel) => { l with seq := max l.seq q } } } }

/-- A MEMBER frame applied (R297, R299): a declaration with cause 0x9, an adoption, a pool created. -/
def State.memberFrame (s : State) (f : MemberFrame) : State :=
  match f with
  | .failed x _ q => (s.memberFail (x % 32) 9).labelSeq q
  | .joined x q => if s.live (x % 32) then s else (s.joined (x % 32)).labelSeq q
  | .pool id c l q =>
    let s := { s with str := { s.str with poolId := id, chunk128 := c }
                      jnl := { s.jnl with media := { s.jnl.media with label := some ⟨q, id, 0, c, 0, 0⟩ } } }
    (s.each l fun s x => (s.set REB_MEMBER_state x 3).set STR_MEMBER_STATUS_live x 1).membersChanged

end Sys2Proof.Machine
end

