-- ==== Sys2Proof/Machine/Slt.lean ====
section
/-! DEFINITION. Slot power channels (chapter 17): seating, power-up, power-good, trips and retries, SLT_CMD, turning off,
ownership and handover. -/

namespace Sys2Proof.Machine

open F

/-! ## Samples that come with an event -/

/-- The channel's sense lines as an event's sample shows them. -/
def State.sensed (s : State) (x : Nat) (m : SlotSense) : State := s.putSlot x { s.slot x with sense := m }

/-! ## Seating (R452, R453) -/

/-- Whether a present slot may be powered without a command (R453). -/
def State.autoPower (s : State) (x : Nat) : Bool :=
  s.slotOwner x && s.flag SLT_CH_STATUS_present x && s.chState x = 2 && s.flag SLT_CH_CFG_auto_on x && s.slt.enabled &&
    !s.slt.dumped && !(s.slot x).barred && !(s.slot x).cycling

/-- SLOT_PRESENT (R452, R453): present; a slot whose DRV_IFDET# reads high is refused, another is powered at once where that
is allowed. -/
def State.slotPresent (s : State) (x : Nat) (ifdetHigh : Bool) : State :=
  if !s.slotOwner x || s.flag SLT_CH_STATUS_present x then s
  else
    let s := (s.set SLT_CH_STATUS_present x 1).raise EV_SLT_SEATED 2 x
    if ifdetHigh then (s.setCh x 7).raise EV_SLT_IF_REFUSED 2 x
    else
      let s := s.setCh x 2
      if s.autoPower x then s.slotStart x else s

/-- SLOT_ABSENT (R452, R459, R271): the gate and PERST# low at once; the channel is empty, latches and refusals end, a member
fails with cause 0x2. -/
def State.slotAbsent (s : State) (x : Nat) : State :=
  if !s.slotOwner x || !s.flag SLT_CH_STATUS_present x then s
  else
    let act := s.chActive x
    let s := (s.set SLT_CH_STATUS_present x 0).slotCut x
    let s := s.putSlot x { s.slot x with aux := false, pwrdis := false, cycling := false }
    let s := if act then s.set SLT_CH_STATUS_cause x 6 else s
    let s := (s.setCh x 0).raise EV_SLT_REMOVED 2 x
    let s := (s.putPort x { s.port x with barred := false }).set DRV_PORT_STATUS_state x 0
    let s := if s.live x then s.memberFail x 2 else s.adoptFail x
    let s := s.putSlot x { s.slot x with barred := false }
    if s.get REB_MEMBER_state x = 1 then s.set REB_MEMBER_state x 0 else s

/-- SLOT_PRESENT (R452). -/
def execSlotPresent (x : Nat) (ifdetHigh : Bool) (s : State) : Host.Outcome State Fault Refusal :=
  s.commit
    { parts := [.evt, .ctr, .pair, .slt, .outbox],
      fields := [SLT_CH_STATUS_perst_rel, SLT_CH_STATUS_pg, SLT_CH_STATUS_present, SLT_CH_STATUS_retries_left, SLT_CH_STATUS_state] }
    (s.slotPresent (x % 32) ifdetHigh)

/-- SLOT_ABSENT (R452). -/
def execSlotAbsent (x : Nat) (s : State) : Host.Outcome State Fault Refusal :=
  s.commit { parts := driveParts, fields := sltLive ++ qpeLive ++ strLive ++ drvLive ++ rebLive ++ firnSeq }
    (s.slotAbsent (x % 32))

/-! ## Trips (R458, R459) -/

/-- A trip (R458): outputs off in the sample of the trip; retried while retries are left, latched otherwise, and a latched
member fails with cause 0x4 (R271). -/
def State.slotTrip (s : State) (x cause : Nat) : State :=
  if !(s.chState x = 3 || s.chState x = 4) then s
  else
    let s := s.slotCut x
    let s := s.putSlot x { s.slot x with aux := false, pwrdis := true, hot := cause = 3, lowWait := cause = 4 && s.flag SLT_SUPPLY_STATUS_low }
    let s := ((s.set SLT_CH_STATUS_cause x cause).addSat SLT_CH_STATUS_trips x 1).bump (ctrSlt x 0)
    let s := s.raise EV_SLT_TRIP 2 x [cause]
    if 0 < s.get SLT_CH_STATUS_retries_left x then s.setCh x 5
    else
      let s := (s.setCh x 6).raise EV_SLT_LATCHED 2 x
      let s := s.adoptFail x
      s.memberFail x 4

/-- Whether a channel runs its power sequence here: it is owned and powering or on. -/
def State.chRuns (s : State) (x : Nat) : Bool := s.slotOwner x && (s.chState x = 3 || s.chState x = 4)

/-! ## Power-up (R454, R455) -/

/-- SLOT_POWER_ON (R453, R454): the channel's decision to power a present slot, where its presence alone allows it. -/
def execSlotPowerOn (x : Nat) (s : State) : Host.Outcome State Fault Refusal :=
  s.commit
    { parts := [.ctr, .pair, .slt, .outbox],
      fields := [SLT_CH_STATUS_perst_rel, SLT_CH_STATUS_pg, SLT_CH_STATUS_retries_left, SLT_CH_STATUS_state] }
    (if s.autoPower (x % 32) then s.slotStart (x % 32) else s)

/-- AUX_CHECK (R454 steps 2 and 3): 3.3 V below 3.0 V trips; otherwise the ramp starts. -/
def execAuxCheck (x : Nat) (m : SlotSense) (s : State) : Host.Outcome State Fault Refusal :=
  let x := x % 32
  s.commit { parts := driveParts, fields := sltLive ++ qpeLive ++ strLive ++ drvLive ++ rebLive ++ firnSeq }
    (if !(s.chRuns x && (s.slot x).step = 1) then s
    else
      let s := s.sensed x m
      if m.v3 < 3000 then s.slotTrip x 5 else s.putSlot x { s.slot x with gate := true, step := 2 })

/-- RAMP_END (R454 step 4): the gate at full enhancement. -/
def execRampEnd (x : Nat) (m : SlotSense) (s : State) : Host.Outcome State Fault Refusal :=
  let x := x % 32
  s.commit { parts := [.slt] }
    (if s.chRuns x && (s.slot x).step = 2 then
      let s := s.sensed x m
      s.putSlot x { s.slot x with step := 3 }
    else s)

/-- PG_QUALIFY (R455): 1 ms at 11.40 V or more with the fault timer idle. -/
def execPgQualify (x : Nat) (m : SlotSense) (s : State) : Host.Outcome State Fault Refusal :=
  let x := x % 32
  s.commit { parts := [.ctr, .pair, .slt, .outbox], fields := [SLT_CH_STATUS_pg, SLT_CH_STATUS_state] }
    (if s.chRuns x && decide (2 ≤ (s.slot x).step) && !s.flag SLT_CH_STATUS_pg x && decide (11400 ≤ m.vOut) && (s.slot x).fault = 0 then
      ((s.sensed x m).pgSet x).setCh x 4
    else s)

/-- PERST_RELEASE (R454 step 6): the drive's bring-up begins (R303). -/
def execPerstRelease (x : Nat) (s : State) : Host.Outcome State Fault Refusal :=
  let x := x % 32
  s.commit { fields := [SLT_CH_STATUS_perst_rel, DRV_PORT_STATUS_state] }
    (if s.flag SLT_CH_STATUS_pg x && !s.flag SLT_CH_STATUS_perst_rel x then
      (s.set SLT_CH_STATUS_perst_rel x 1).set DRV_PORT_STATUS_state x 1
    else s)

/-- PG_WITHDRAW (R455, R458): the output below 10.80 V or the aux below 3.0 V for 100 µs; the lower cause of the two is
recorded (R459). -/
def execPgWithdraw (x : Nat) (m : SlotSense) (s : State) : Host.Outcome State Fault Refusal :=
  let x := x % 32
  s.commit { parts := driveParts, fields := sltLive ++ qpeLive ++ strLive ++ drvLive ++ rebLive ++ firnSeq }
    (if !(s.chRuns x && s.flag SLT_CH_STATUS_pg x) then s
    else if m.vOut < 10800 then (s.sensed x m).slotTrip x 4
    else if m.v3 < 3000 then (s.sensed x m).slotTrip x 5
    else s)

/-! ## Causes of trips (R456 to R461) -/

/-- FAST_TRIP (R457): the current at 2 × I_lim or more. -/
def execFastTrip (x : Nat) (m : SlotSense) (s : State) : Host.Outcome State Fault Refusal :=
  let x := x % 32
  s.commit { parts := driveParts, fields := sltLive ++ qpeLive ++ strLive ++ drvLive ++ rebLive ++ firnSeq }
    (if (s.chRuns x || (s.slot x).leaving) && s.reachesLim x 2 m.cur then (s.sensed x m).slotTrip x 1 else s)

/-- FAULT_TIMER_TRIP (R457): the fault timer at fault_ms. -/
def execFaultTimerTrip (x : Nat) (m : SlotSense) (s : State) : Host.Outcome State Fault Refusal :=
  let x := x % 32
  s.commit { parts := driveParts, fields := sltLive ++ qpeLive ++ strLive ++ drvLive ++ rebLive ++ firnSeq }
    (if s.chRuns x && (s.slot x).gate then
      let s := s.sensed x m
      (s.putSlot x { s.slot x with fault := 8000 * s.faultMs }).slotTrip x 2
    else s)

/-- THERMAL_TRIP (R458, R460): the estimate at tj_max. -/
def execThermalTrip (x : Nat) (m : SlotSense) (s : State) : Host.Outcome State Fault Refusal :=
  let x := x % 32
  s.commit { parts := driveParts, fields := sltLive ++ qpeLive ++ strLive ++ drvLive ++ rebLive ++ firnSeq }
    (if s.chRuns x then (s.sensed x m).slotTrip x 3 else s)

/-- TJ_WARN (R460): once per excursion above tj_warn. -/
def execTjWarn (x : Nat) (m : SlotSense) (s : State) : Host.Outcome State Fault Refusal :=
  let x := x % 32
  s.commit { parts := [.evt, .ctr, .slt] }
    (if !s.slotOwner x || (s.slot x).warned then s
    else
      let s := s.sensed x m
      (s.putSlot x { s.slot x with warned := true }).raise EV_SLT_TJ_WARN 2 x)

/-- A retry whose wait has ended starts step 1 with one retry less (R459). -/
def State.slotRetry (s : State) (x : Nat) : State :=
  let n := s.get SLT_CH_STATUS_retries_left x
  ((s.set SLT_CH_STATUS_retries_left x (n - 1)).slotStep1 x).bump (ctrSlt x 2)

/-- TJ_BELOW_WARN (R458, R459): the estimate is below tj_warn and a thermal retry may proceed, at once where its wait has
ended. -/
def execTjBelowWarn (x : Nat) (s : State) : Host.Outcome State Fault Refusal :=
  let x := x % 32
  let c := s.slot x
  let t := s.putSlot x { c with hot := false, warned := false }
  s.commit
    { parts := [.ctr, .pair, .slt, .outbox],
      fields := [SLT_CH_STATUS_perst_rel, SLT_CH_STATUS_pg, SLT_CH_STATUS_retries_left, SLT_CH_STATUS_state] }
    (if c.hot && c.waited && s.chState x = 5 && !s.slt.dumped then t.slotRetry x else t)

/-- NTC_FAULT (R461): open, short, or outside −20 to 150 °C. -/
def execNtcFault (x : Nat) (m : SlotSense) (s : State) : Host.Outcome State Fault Refusal :=
  let x := x % 32
  let bad := match m.ntc with | some t => decide (t < -20) || decide (150 < t) | none => true
  s.commit { parts := [.evt, .ctr, .slt], fields := [SLT_CH_STATUS_ntc_fault] }
    (if bad && !s.flag SLT_CH_STATUS_ntc_fault x then
      let s := s.sensed x m
      let s := s.putSlot x { s.slot x with cs := 0 }
      (s.set SLT_CH_STATUS_ntc_fault x 1).raise EV_SLT_NTC_FAULT 2 x
    else s)

/-- OVER_POWER (R456): the 1 s average, in 0.1 W, above p_lim, once per excursion. -/
def execOverPower (x avg : Nat) (s : State) : Host.Outcome State Fault Refusal :=
  let x := x % 32
  s.commit { parts := [.evt, .ctr, .slt], fields := [SLT_CH_AVG_p_avg_dw] }
    (if decide (avg ≤ 10 * s.pLim x) || (s.slot x).overRaised then s
    else
      let s := (s.set SLT_CH_AVG_p_avg_dw x avg).putSlot x { s.slot x with overRaised := true }
      (s.raise EV_SLT_OVER_POWER 2 x).bump (ctrSlt x 3))

/-! ## Retries and the supply (R459) -/

/-- RETRY_WAIT_EXPIRY (R459): 1 s after a trip step 1 starts again, unless the switch is still hot or the supply still low. -/
def execRetryWaitExpiry (x : Nat) (s : State) : Host.Outcome State Fault Refusal :=
  let x := x % 32
  s.commit
    { parts := [.ctr, .pair, .slt, .outbox],
      fields := [SLT_CH_STATUS_perst_rel, SLT_CH_STATUS_pg, SLT_CH_STATUS_retries_left, SLT_CH_STATUS_state] }
    (if !s.slotOwner x || s.chState x != 5 || s.slt.dumped then s
    else if (s.slot x).hot || (s.slot x).lowWait then s.putSlot x { s.slot x with waited := true }
    else s.slotRetry x)

/-- RETRY_RELOAD (R459): PG has held for 60 s. -/
def execRetryReload (x : Nat) (s : State) : Host.Outcome State Fault Refusal :=
  let x := x % 32
  s.commit { fields := [SLT_CH_STATUS_retries_left] }
    (if s.slotOwner x && s.flag SLT_CH_STATUS_pg x then s.set SLT_CH_STATUS_retries_left x (s.get SLT_CH_CFG_retries x) else s)

/-- SUPPLY_LOW (R459): the shelf's supply below 10.8 V. -/
def execSupplyLow (mv : Nat) (s : State) : Host.Outcome State Fault Refusal :=
  s.commit { parts := [.evt, .ctr, .slt], fields := [SLT_SUPPLY_STATUS_low, SLT_SUPPLY_STATUS_v_mv] }
    (if 10800 ≤ mv || s.flag SLT_SUPPLY_STATUS_low then s
    else
      let s := (s.set SLT_SUPPLY_STATUS_v_mv 0 mv).set SLT_SUPPLY_STATUS_low 0 1
      let s := s.each (List.range 32) fun s x =>
        if s.chState x = 5 && s.get SLT_CH_STATUS_cause x = 4 then s.putSlot x { s.slot x with lowWait := true } else s
      s.raise EV_SLT_SUPPLY_LOW 0 0)

/-- SUPPLY_RESTORED (R459): 11.4 V or more for 100 ms; undervoltage retries proceed. -/
def execSupplyRestored (mv : Nat) (s : State) : Host.Outcome State Fault Refusal :=
  s.commit
    { parts := [.ctr, .pair, .slt, .outbox],
      fields := [SLT_SUPPLY_STATUS_low, SLT_SUPPLY_STATUS_v_mv, SLT_CH_STATUS_perst_rel, SLT_CH_STATUS_pg, SLT_CH_STATUS_retries_left, SLT_CH_STATUS_state] }
    (if mv < 11400 then s
    else
      let s := (s.set SLT_SUPPLY_STATUS_v_mv 0 mv).set SLT_SUPPLY_STATUS_low 0 0
      s.each (List.range 32) fun s x =>
        let c := s.slot x
        let s := if c.lowWait then s.putSlot x { c with lowWait := false } else s
        if c.lowWait && c.waited && s.chState x = 5 && !s.slt.dumped then s.slotRetry x else s)

/-! ## SLT_CMD (R453, R463, R464) -/

/-- One operation of SLT_CMD on a channel this module owns: 1 ON, 2 OFF, 3 CYCLE, 4 LOCATE_ON, 5 LOCATE_OFF; with its
result. -/
def State.sltOp (s : State) (x op : Nat) : State × Nat :=
  let st := s.chState x
  if op = 4 then (s.set SLT_CH_STATUS_locate x 1, 0)
  else if op = 5 then (s.set SLT_CH_STATUS_locate x 0, 0)
  else if st = 0 || st = 1 || st = 7 then (s, 1)
  else if op = 2 then (s.slotTurnOff x 7, 0)
  else if s.slt.dumped then (s, 3)
  else if op = 3 then
    let s := s.slotTurnOff x 7
    (s.putSlot x { s.slot x with cycling := true }, 0)
  else if st = 3 || st = 4 then (s, 0)
  else (s.slotStart x, 0)

/-- SLT_CMD (R464): carried out here by the owner, sent to the partner otherwise; with neither it is refused. -/
def State.sltCmd (s : State) (x op : Nat) : State :=
  if s.flag SLT_CMD_busy then s
  else if s.slotOwner x then
    let (s, r) := s.sltOp x op
    s.set SLT_CMD_result 0 r
  else if s.pair.active then (s.set SLT_CMD_busy 0 1).pairSend (.slot (.cmd x op))
  else s.set SLT_CMD_result 0 2

/-- SLT_ON (R453). -/
def execSltOn (x : Nat) (s : State) : Host.Outcome State Fault Refusal :=
  s.commit { parts := driveParts, fields := sltLive ++ qpeLive ++ drvLive ++ rebLive ++ firnSeq ++ openSeg }
    (s.sltCmd (x % 32) 1)

/-- SLT_OFF (R463). -/
def execSltOff (x : Nat) (s : State) : Host.Outcome State Fault Refusal :=
  s.commit { parts := driveParts, fields := sltLive ++ qpeLive ++ drvLive ++ rebLive ++ firnSeq ++ openSeg }
    (s.sltCmd (x % 32) 2)

/-- SLT_CYCLE (R463). -/
def execSltCycle (x : Nat) (s : State) : Host.Outcome State Fault Refusal :=
  s.commit { parts := driveParts, fields := sltLive ++ qpeLive ++ drvLive ++ rebLive ++ firnSeq ++ openSeg }
    (s.sltCmd (x % 32) 3)

/-- SLT_LOCATE_ON (R463). -/
def execSltLocateOn (x : Nat) (s : State) : Host.Outcome State Fault Refusal :=
  s.commit { parts := driveParts, fields := sltLive ++ qpeLive ++ drvLive ++ rebLive ++ firnSeq ++ openSeg }
    (s.sltCmd (x % 32) 4)

/-- SLT_LOCATE_OFF (R463). -/
def execSltLocateOff (x : Nat) (s : State) : Host.Outcome State Fault Refusal :=
  s.commit { parts := driveParts, fields := sltLive ++ qpeLive ++ drvLive ++ rebLive ++ firnSeq ++ openSeg }
    (s.sltCmd (x % 32) 5)

/-- TURNOFF_AUX (R463 step 3): the aux switch off behind an orderly turn-off. -/
def execTurnoffAux (x : Nat) (s : State) : Host.Outcome State Fault Refusal :=
  let x := x % 32
  s.commit { parts := [.slt] }
    (if s.slotOwner x && !s.chRuns x then s.putSlot x { s.slot x with aux := false } else s)

/-- CYCLE_WAIT_EXPIRY (R463): the off period of a cycle ends and the slot powers on. -/
def execCycleWaitExpiry (x : Nat) (s : State) : Host.Outcome State Fault Refusal :=
  let x := x % 32
  s.commit
    { parts := [.ctr, .pair, .slt, .outbox],
      fields := [SLT_CH_STATUS_perst_rel, SLT_CH_STATUS_pg, SLT_CH_STATUS_retries_left, SLT_CH_STATUS_state] }
    (if s.slotOwner x && (s.slot x).cycling && s.chState x = 2 && !s.slt.dumped then s.slotStart x else s)

/-! ## Ownership in a pair (R464 to R466) -/

/-- SLOT_HANDOVER_START (R465 step 1): the channel state goes to the partner with SLOT RELEASE. -/
def State.slotRelease (s : State) (x : Nat) : State :=
  if !s.slotOwner x then s
  else (s.putSlot x { s.slot x with leaving := true }).pairSend (.slotRelease x (s.chanState x))

/-- SLOT RELEASE received (R465 step 2): the state is loaded, the charge pump and fast trip armed, TAKEN sent. -/
def State.slotTake (s : State) (x : Nat) (c : ChanState) : State :=
  let on := c.state = 3 || c.state = 4
  let s := s.putSlot x { s.slot x with gate := on, aux := on, step := if on then 3 else 0, fault := 8 * c.timer, leaving := false }
  let s := ((s.set SLT_CH_STATUS_state x c.state).set SLT_CH_STATUS_retries_left x c.retries).set SLT_CH_STATUS_owner x 1
  let s := s.set SLT_CH_STATUS_present x (bit (c.state != 0 && c.state != 1))
  let s := if c.state = 4 then s.pgSet x else s
  (s.pairSend (.slotTaken x)).raise EV_SLT_HANDOVER 2 x

/-- SLOT TAKEN received (R465 step 3): outputs at high impedance, no longer owner. -/
def State.slotTaken (s : State) (x : Nat) : State :=
  if !(s.slot x).leaving then s
  else
    let s := s.putSlot x { s.slot x with gate := false, aux := false, pwrdis := false, leaving := false }
    (s.set SLT_CH_STATUS_owner x 0).raise EV_SLT_HANDOVER 2 x

/-- SLOT_ADOPT (R466): a slot of the partner adopted at takeover: with its output at 11.40 V or more it stays on and PG
qualifies while driving, otherwise a present slot that the partner had powered runs R454 from step 1. -/
def State.slotAdopt (s : State) (x : Nat) : State :=
  if s.slotOwner x then s
  else
    let st := s.chState x
    let s := (s.set SLT_CH_STATUS_owner x 1).set SLT_CH_STATUS_present x (bit (st != 0 && st != 1))
    if !(st = 3 || st = 4) then s
    else if 11400 ≤ (s.slot x).sense.vOut then
      (s.putSlot x { s.slot x with gate := true, aux := true, pwrdis := false, step := 3 }).setCh x 3
    else s.slotStep1 x

/-- A SLOT frame (R464): the owner's report, a forwarded command, a result. -/
def State.slotFrame (s : State) (f : SlotFrame) : State :=
  match f with
  | .report x c => if s.slotOwner x then s
    else (s.set SLT_CH_STATUS_state x c.state).set SLT_CH_STATUS_retries_left x c.retries
  | .cmd x op =>
    if s.slotOwner x then
      let (s, r) := s.sltOp x op
      s.pairSend (.slot (.result x r))
    else s.pairSend (.slot (.result x 2))
  | .result _ r => (s.set SLT_CMD_busy 0 0).set SLT_CMD_result 0 r

end Sys2Proof.Machine
end

