-- ==== Sys2Proof/Machine/Str.lean ====
section
/-! DEFINITION. Rows of the stripe engine, the map and Firn (chapter 07): host heads, fill and flush timers, compaction, map
pages, Calving, width adaptation, hedge windows. -/

namespace Sys2Proof.Machine

open F

/-! ## Host heads (R205, R206, R248) -/

/-- Whether one committed slot is placed before another (R248): a block of an abandoned stripe first, then commit_seq. -/
def slotBefore (a b : Nat × NeveSlot) : Bool :=
  let q (x : NeveSlot) : Nat := match x.desc with | some d => d.seq | none => 0
  if a.2.first != b.2.first then a.2.first else decide (q a.2 < q b.2)

/-- The committed own slots of a group's namespaces whose data is at hand. -/
def State.placeable (s : State) (g : Nat) : List (Nat × NeveSlot) :=
  s.jnl.slots.filter fun (_, x) => x.state = .committed && !x.mirror && x.dataOk && !x.fetching && (match x.desc with
    | some d => (s.ns d.ns).any fun n => n.group = g
    | none => false)

/-- The next committed slot a host head takes. -/
def State.nextPlaced (s : State) (g : Nat) : Option (Nat × NeveSlot) :=
  (s.placeable g).foldl (fun m a => match m with
    | none => some a
    | some b => if slotBefore a b then some a else some b) none

/-- Whether a Flush covers the write a slot belongs to (R206). -/
def State.slotFlushed (s : State) (i : Nat) : Bool := s.jnl.writes.any fun (_, w) => w.flushed && w.mode = 2 && w.slots.contains i

/-- The stripe a head is filling. -/
def State.filling (s : State) (h : HeadId) : Option Nat := (s.str.stripes.find? fun (_, x) => x.head = h && !x.writing && !x.due).map (·.1)

/-- HEAD_PLACE_BLOCK (R205, R206, R248): the next committed block of a group, replaced ones freed on the way without a
stripe or a record; a stripe holding a block that a Flush covers is written at once. -/
def State.headPlace (s : State) (g : Nat) : Nat → State
  | 0 => s
  | fuel + 1 =>
    match s.nextPlaced g with
    | none => s
    | some (i, x) =>
      match x.desc with
      | none => s
      | some d =>
        if s.lookup d.ns d.lba != .neve d.kgen i then (s.slotFree i).headPlace g fuel
        else
          match s.headPut (.host g) (.neve i d.ns d.lba d.kgen) x.data with
          | (s, false) => s
          | (s, true) =>
            let s := (s.modSlot i fun y => { y with state := .placed, first := false }).bump (ctrJnl 1)
            if s.slotFlushed i then match s.filling (.host g) with | some n => s.stripeWrite n | none => s else s

/-- HEAD_PLACE_BLOCK (R248). -/
def execHeadPlaceBlock (g : Nat) (s : State) : Host.Outcome State Fault Refusal :=
  s.commit { parts := [.evt, .ctr, .tms, .qpe, .str, .jnl, .reb, .pair, .outbox], fields := qpeLive ++ firnSeq ++
      openSeg ++ [REB_CREV_COUNT_overflow, REB_CREV_STATUS_entries, REB_CREV_STATUS_generation, REB_STATUS_seg_done,
      REB_STATUS_state] }
    (s.coldDrain.headPlace (g % 16) (s.jnl.slots.length + 1))

/-- FILL_TIMER_EXPIRY (R206): a stripe in filling is written padded. -/
def execFillTimerExpiry (n : Nat) (s : State) : Host.Outcome State Fault Refusal :=
  s.commit { parts := [.ctr, .tms, .str] }
    (match tget s.str.stripes n with
    | some x => if x.writing || x.blocks.isEmpty then s else s.stripeWrite n
    | none => s)

/-- FIRN_FLUSH_EXPIRY (R222): what the tail holds is given to the metadata head, whose stripe is written padded. -/
def execFirnFlushExpiry (s : State) : Host.Outcome State Fault Refusal :=
  let t := s.firnFill true s.fillFuel
  s.commit { parts := [.evt, .ctr, .tms, .qpe, .str, .jnl, .reb, .pair, .outbox], fields := qpeLive ++ firnSeq ++
      openSeg ++ [REB_CREV_COUNT_overflow, REB_CREV_STATUS_entries, REB_CREV_STATUS_generation, REB_STATUS_seg_done,
      REB_STATUS_state] }
    (match t.filling .meta_ with
    | some n => match tget t.str.stripes n with
      | some x => if x.blocks.isEmpty then t else t.stripeWrite n
      | none => t
    | none => t)

/-! ## Compaction (R224) -/

/-- The dirty pages. -/
def State.dirtyPages (s : State) : List (Nat × Nat) := (s.str.pages.filter fun (_, x) => x.dirty).map (·.1)

/-- Whether compaction is due (R224, R287). -/
def State.compactDue (s : State) : Bool :=
  s.jnl.forced || decide (s.replayLimit < s.replayBytes) ||
    decide (clampNat 1 90 (s.get JNL_FIRN_CFG_dirty_pct) * s.pageRoom < 100 * s.dirtyPages.length)

/-- COMPACTION_START (R224). -/
def State.compactStart (s : State) : State :=
  if !s.isMaster || s.booting || s.jnl.compact.isSome || !s.compactDue then s
  else
    let l := s.dirtyPages
    let s := ({ s with jnl := { s.jnl with forced := false } }.bump (ctrJnl 10))
    if l.isEmpty then { s with jnl := { s.jnl with compact := some (1, []) } }.compactPages
    else
      let s := { s with jnl := { s.jnl with compact := some (1, l.map fun (ns, p) => MetaBlk.page ns p) } }
      s.each l fun s (ns, p) => s.copyPage ns p

/-- COMPACTION_START (R224). -/
def execCompactionStart (s : State) : Host.Outcome State Fault Refusal :=
  s.commit { parts := [.evt, .ctr, .tms, .qpe, .str, .jnl, .reb, .pair, .outbox], fields := qpeLive ++ firnSeq ++
      openSeg ++ [REB_CREV_COUNT_overflow, REB_CREV_STATUS_entries, REB_CREV_STATUS_generation, REB_STATUS_seg_done,
      REB_STATUS_state] }
    (s.compactStart)

/-- MAP_PAGE_READ_DONE (R211). -/
def execMapPageReadDone (ns p : Nat) (s : State) : Host.Outcome State Fault Refusal :=
  s.commit
    { parts := ioParts,
      fields := qpeLive ++ rebLive ++ cells ++ firnSeq ++ contexts ++ openSeg ++ [SLC_LOG_STATUS_out_span] }
    (s.pageReadDone ns p)

/-! ## Calving (R228 to R231, R227) -/

/-- Whether a segment is a victim candidate (R228, R283). -/
def State.victimOk (s : State) (i : Nat) (g : Seg) : Bool :=
  g.state = .isSealed && s.segMine i && !s.segPending i && !s.switching i && !s.needsRebuild i g && !s.reb.evac.contains i && (g.head != .meta_ || !s.holdsFirn g)

/-- The bucket of a candidate by live fraction (R228). -/
def bucketOf (g : Seg) : Nat := min 63 (64 * g.live / segBlocks g)

/-- The next victim: the lowest bucket, the smallest seal_seq in it (R228). -/
def State.nextVictim (s : State) : Option (Nat × Seg) :=
  (s.str.segs.filter fun (i, g) => s.victimOk i g).foldl (fun m a => match m with
    | none => some a
    | some b => if bucketOf a.2 < bucketOf b.2 || (bucketOf a.2 = bucketOf b.2 && decide (a.2.sealSeq < b.2.sealSeq)) then some a else some b) none

/-- CALVING_VICTIM (R228, R229, R231): a victim chosen and its live blocks read to be relocated: one at a time at the
background level, up to four above it. -/
def State.calve (s : State) : State :=
  let s := s.calveCheck
  let lev := s.get STR_POOL_STATUS_calve_level
  let cap := if lev = 0 then 0 else if lev = 1 then 1 else 4
  if s.booting || decide (cap ≤ s.str.victims.length) then s
  else
    match s.nextVictim with
    | none => s
    | some (i, g) =>
      let s := { s with str := { s.str with victims := s.str.victims ++ [i] } }
      let s := s.firnAppend 1 (.segState i (some { g with state := .calving }))
      let s := match headGroup g.head with | some n => s.bump (ctrStrG n 4) | none => s
      let s := if g.blocks.any fun (_, b) => match b with | .md (.segPage _) => true | .md (.dirPage _ _) => true | .md (.root _) => true | _ => false then
        { s with jnl := { s.jnl with forced := true } } else s
      if g.live = 0 then s else s.relocateAll i 1

/-- CALVING_VICTIM (R228). -/
def execCalvingVictim (s : State) : Host.Outcome State Fault Refusal :=
  s.commit { parts := rebuildParts, fields := qpeLive ++ rebLive ++ firnSeq ++ openSeg ++ [STR_POOL_STATUS_calve_level] }
    (s.calve)

/-- SEGMENT_RELEASE_DONE (R230). -/
def execSegmentReleaseDone (seg : Nat) (s : State) : Host.Outcome State Fault Refusal :=
  s.commit
    { parts := mappingParts ++ [.tms], fields := qpeLive ++ firnSeq ++ [STR_POOL_STATUS_calve_level,
        REB_STATUS_seg_done, REB_STATUS_state, REB_CREV_COUNT_overflow, REB_CREV_STATUS_entries,
        REB_CREV_STATUS_generation, STR_GROUP_STATUS_k_cap, STR_GROUP_STATUS_open_seg] }
    ((s.segFree seg).rebCheck)

/-- NS_LIVE_WALK (R227): a deleted namespace's former map leaves the live counts. -/
def State.liveWalk (s : State) : State :=
  match s.str.walks with
  | [] => s
  | (_, m) :: rest =>
    { s with str := { s.str with walks := rest } }.each m fun s (_, e) => match e with
      | .member _ g _ => s.liveDown g
      | _ => s

/-- NS_LIVE_WALK (R227). -/
def execNsLiveWalk (s : State) : Host.Outcome State Fault Refusal :=
  s.commit { parts := mappingParts, fields := qpeLive ++ firnSeq ++ [REB_STATUS_seg_done, REB_STATUS_state] }
    (s.liveWalk)

/-! ## Width adaptation (R233) -/

/-- ADAPT_WINDOW_END (R233). -/
def State.adapt (s : State) (g : Nat) : State :=
  let t := tgetD s.str.stats g {}
  let cur := s.kCur g
  let step := atLeast1 (s.get STR_ADAPT_CFG_step)
  let k := if decide (s.get STR_ADAPT_CFG_pad_hi_pct * t.stripes < 100 * t.padded) then max (s.groupKmin g) (cur - step)
    else if decide (100 * t.padded < s.get STR_ADAPT_CFG_pad_lo_pct * t.stripes) && decide (1 ≤ t.stripes) then min (s.kCap g) (cur + step)
    else cur
  let s := { s with str := { s.str with stats := tdel s.str.stats g } }
  let s := s.set STR_GROUP_STATUS_pad_pm g (if t.stripes = 0 then 0 else t.padded * 1000 / t.stripes)
  if s.flag STR_GROUP_CFG_adapt_en g then
    let s := s.set STR_GROUP_STATUS_k_cur g k
    if k = cur then s else (s.raise EV_STR_WIDTH_CHANGED 0 g [k]).bump (ctrStrG g 7)
  else s

/-- ADAPT_WINDOW_END (R233). -/
def execAdaptWindowEnd (g : Nat) (s : State) : Host.Outcome State Fault Refusal :=
  s.commit { parts := [.evt, .ctr, .str], fields := [STR_GROUP_STATUS_k_cur, STR_GROUP_STATUS_pad_pm] }
    (s.adapt (g % 16))

/-! ## Hedge windows (R236, R237, R240) -/

/-- The first bin at which a cumulative count reaches a share in 0.1 % of the total (R236). -/
def quantileBin (pm total : Nat) : List Nat → Nat → Nat → Nat
  | [], _, j => j - 1
  | n :: t, cum, j => if pm * total ≤ 1000 * (cum + n) then j else quantileBin pm total t (cum + n) (j + 1)

/-- A member's prediction from its window (R236): the upper edge of the quantile's bin in ticks; none below min_samples. -/
def State.predOf (s : State) (x : Nat) : Option Nat :=
  let u := tgetD s.tel x {}
  let total := u.bins.sum
  if decide (total < s.get STR_HEDGE_CFG_min_samples) || total = 0 then none
  else
    let b := quantileBin (clampNat 1 1000 (s.get STR_HEDGE_CFG_quantile_pm)) total u.bins 0 0
    some (min (1600 * 2 ^ b) (2 ^ 32 - 1))

/-- HEDGE_WINDOW_END (R236, R237, R527): units captured and cleared, predictions, T, slowness. -/
def State.hedgeWindow (s : State) : State :=
  let s := s.each (List.range 32) fun s x =>
    let p := s.predOf x
    let s := (s.set STR_MEMBER_STATUS_few_samples x (bit p.isNone)).set STR_MEMBER_STATUS_pred x (p.getD 0)
    { s with tel := tdel s.tel x }
  let t := (median s.preds).map fun p => max (usTicks (s.get STR_HEDGE_CFG_floor_us)) (s.get STR_HEDGE_CFG_mult * p / 4)
  let s := { s with str := { s.str with thr := t } }
  s.each (List.range 32) fun s x =>
    let slow := match t with
      | some t => s.live x && !s.flag STR_MEMBER_STATUS_few_samples x && decide (t < s.get STR_MEMBER_STATUS_pred x)
      | none => false
    let s := s.set STR_MEMBER_STATUS_slow x (bit slow)
    if slow then s.enter (ctrStrM x 3) else s.leave (ctrStrM x 3)

/-- HEDGE_WINDOW_END (R237). -/
def execHedgeWindowEnd (s : State) : Host.Outcome State Fault Refusal :=
  s.commit
    { parts := [.ctr, .tel, .str],
      fields := [STR_MEMBER_STATUS_few_samples, STR_MEMBER_STATUS_pred, STR_MEMBER_STATUS_slow] }
    (s.hedgeWindow)

/-- Whether a read of a chunk's member may be hedged late (R236, R237, R240): late hedges are on, T is set, the member has a prediction
and is not slow. -/
def State.mayHedgeLate (s : State) (x : Nat) : Bool :=
  s.flag STR_HEDGE_CFG_late_en && s.str.thr.isSome && !s.slow x && !s.flag STR_MEMBER_STATUS_few_samples x

/-- LATE_HEDGE_EXPIRY (R240): a read outstanding after T on a member that is not slow is hedged late: a row read, or the read of a chunk by
the restoration of a segment. -/
def State.lateHedge (s : State) (r : Nat) (chunk : Option Nat) : State :=
  match chunk with
  | none =>
    match tget s.str.reads r with
    | none => s
    | some x => match s.seg x.seg with
      | none => s
      | some g =>
        let (st, c, _) := s.place g x.off
        if s.mayHedgeLate (chunkMember g st c) && x.out.contains c then s.hedge r else s
  | some c =>
    match tget s.reb.work r, s.seg r with
    | some w, some g => if s.mayHedgeLate (chunkMember g w.stripe c) && w.asked.contains c then s.sourceHedge r c else s
    | _, _ => s

/-- LATE_HEDGE_EXPIRY (R240). -/
def execLateHedgeExpiry (r : LateRead) (s : State) : Host.Outcome State Fault Refusal :=
  s.commit { parts := [.ctr, .tms, .str, .reb] } (s.lateHedge r.read r.chunk)

end Sys2Proof.Machine
end

