-- ==== Sys2Proof/Machine/Neve.lean ====
section
/-! DEFINITION. Mirroring of Névé and Firn between the modules of a pair (R253 to R260, R320, R321), Firn records applied to
the map and tables, the dump and the orderly stop as operations (R261 to R264, R269). -/

namespace Sys2Proof.Machine

open F

/-! ## Notices to the owners of a namespace (R151, R158) -/

/-- The owners that have an admin queue. -/
def State.adminOwners (s : State) : List QOwner := ((s.qpe.qps.filter fun (_, x) => x.admin).map fun (_, x) => x.owner).dedup

/-- A notice to every owner a namespace is attached to. -/
def State.noticeNs (s : State) (n : Ns) (enable type info page : Nat) : State :=
  s.each (s.adminOwners.filter fun o => (rightsOf n o).1) fun s o => s.notice o enable type info page

/-- The notice of a changed effective mode for every mirror-required namespace (R151, R158). -/
def State.modeNotices (s : State) : State :=
  s.each (s.nsm.ns.filter fun (_, n) => n.mode = 0) fun s (_, n) => s.noticeNs n 25 7 1 0

/-! ## Firn records applied (R212, R220, R226, R321) -/

/-- A block's map entry as a committed MAP_SET gives it; a newer Névé entry of a namespace owned here stands (R229). -/
def State.applySet (s : State) (ns lba seg off : Nat) (k : Bool) : State :=
  let newer := (match s.lookup ns lba with | .neve _ _ => true | _ => false) && (s.ns ns).any s.owned
  if newer then s
  else if seg = 0xFFFFFF then s.mapPut ns lba (.lost 0xFFFFFF 0)
  else s.mapPut ns lba (.member k seg off)

/-- A deleted namespace leaves the map (R149, R220): its entries go, its Crevasse entries are removed, and the live counts
are walked later (R227). -/
def State.dropMap (s : State) (i nsid : Nat) : State :=
  let here := (s.str.map.filter fun ((j, _), _) => j = i).map fun ((_, l), e) => (l, e)
  let s := { s with str := { s.str with
      map := s.str.map.filter fun ((j, _), _) => j != i
      pages := s.str.pages.filter fun ((j, _), _) => j != i
      walks := s.str.walks ++ [(i, here)] } }
  s.crevDrop nsid

/-- A slot whose binding to a namespace ended (R179, R185): a LOADED one stays, another returns to EMPTY. -/
def unbound (k : KeySlot) : Option KeySlot := if k.state = .loaded then some { k with bind := .none } else none

/-- The slots' bindings to a namespace made to follow its table entry (R155, R185, R188): its slot, and the retiring one. -/
def State.rebind (s : State) (i : Nat) : State :=
  let free := s.key.slots.filterMap fun (n, (k : KeySlot)) =>
    if k.bind = .ns i || k.bind = .retiring i then (unbound k).map fun k => (n, k) else some (n, k)
  let bindTo (t : Table Nat KeySlot) (n : Nat) (b : KeyBind) : Table Nat KeySlot :=
    match tget s.key.slots n with
    | some o => tput t n { o with bind := b }
    | none => t
  let t := match s.ns i with
    | none => free
    | some n =>
      let t := bindTo free n.keySlot (.ns i)
      match n.oldSlot with
      | some o => bindTo t o (.retiring i)
      | none => t
  { s with key := { s.key with slots := t } }

/-- An NS_META image applied (R220); a namespace of the partner passes to this module by its OWNER frame (R336). -/
def State.applyImage (s : State) (m : NsImage) : State :=
  match m with
  | .entry i n =>
    let n := match s.ns i with
      | some o => if s.pair.active && !s.owned o && s.owned n then { n with ownerId := o.ownerId, gen := o.gen } else n
      | none => n
    { s with nsm := { s.nsm with ns := tput s.nsm.ns i n } }.rebind i
  | .attach i l => { s with nsm := { s.nsm with ns := tmod s.nsm.ns i fun n => { n with attach := l } } }
  | .mgmtSeq a c r _ =>
    let s := (s.set GLB_MGMT_SEQ_last_accepted 0 a).set GLB_MGMT_SEQ_last_completed 0 c
    { s with nsm := { s.nsm with recorded := r } }
  | .tenant t a b c => s.tenantSet t a b c
  | .service i mode t => { s with nsm := { s.nsm with ns := tmod s.nsm.ns i fun n => { n with mode := mode, tenant := t } } }
  | .keyGen i k slot old zap check oldCheck =>
    { s with nsm := { s.nsm with ns := tmod s.nsm.ns i fun n =>
        { n with kgen := k, keySlot := slot, oldSlot := old, zapOld := zap, check := check, oldCheck := oldCheck } } }.rebind i

/-- A block that a MAP_SET puts into a segment of the other module, for the summary that this module writes when it is asked to seal
the segment (R203, R319). -/
def State.noteBlock (s : State) (seg off : Nat) (b : SegBlk) : State :=
  if s.segMine seg then s
  else { s with str := { s.str with segs := tmod s.str.segs seg fun g => { g with blocks := tput g.blocks off b } } }

/-- A Firn record applied to the map and the tables (R226, R321). -/
def State.firnApply (s : State) (b : FirnBody) : State :=
  match b with
  | .mapSet ns lba n seg off k => s.each (List.range n) fun s j =>
      (s.noteBlock seg (off + j) (.data ns (lba + j) k)).applySet ns (lba + j) seg (off + j) k
  | .mapClear ns lba n => s.mapUnmap ns lba n
  | .segState i g => (s.enterSegState i g).releaseIdle i
  | .pagePut ns p seg off base _ =>
    let x := tgetD s.str.pages (ns, p) {}
    let x := { x with loc := some (seg, off), baseSeq := base, dirty := x.dirty && decide (base ≤ x.last) }
    { s with
      str := { s.str with pages := tput s.str.pages (ns, p) x }
      jnl := { s.jnl with media := { s.jnl.media with pages := tput s.jnl.media.pages (ns, p) (base, s.pageEnts ns p) } } }
  | .nsMeta i => s.applyImage i
  | .nsGroup l => s.each l State.applyImage
  | .checkpoint .. => s
  | .summaryPut i seg off => { s with str := { s.str with segs := tmod s.str.segs i fun g => { g with summary := some (seg, off) } } }
  | .nsDelete i nsid => (({ s with nsm := { s.nsm with ns := tdel s.nsm.ns i } }).rebind i).dropMap i nsid

/-! ## Mirrored messages (R253 to R256, R320) -/

/-- MIRROR_ACK sent (R254): what has been committed here of both streams. -/
def State.ackMirror (s : State) : State := s.pairSend (.mirrorAck s.jnl.rxNeve s.jnl.rxFirn)

/-- An entry left without data (R30, R266): the map entry becomes lost, the Crevasse list and its owner's deferred errors take
it with a cause, its slot is freed. -/
def State.neveLose (s : State) (i : Nat) (d : NeveDesc) (cause : Nat) : State :=
  let nsid := match s.ns d.ns with | some n => nsidOf d.ns n | none => 0
  ((s.loseBlock d.ns d.lba cause 0x1F 0xFFFFFF 0).deferError d.owner d.ns nsid d.lba 1 cause).slotFree i

/-- A converted entry moved to a free own slot, since the partner's own entry takes the index it stands in. -/
def State.neveMove (s : State) (i : Nat) : State :=
  match tget s.jnl.slots i, s.freeOwn 1 with
  | some x, some (j :: _) =>
    let s := { s with jnl := { s.jnl with slots := tput (tdel s.jnl.slots i) j x } }
    let s := { s with str := { s.str with stripes := s.str.stripes.map fun (n, (y : Stripe)) =>
        (n, { y with blocks := y.blocks.map fun (b, d) => match b with
          | .neve k ns lba g => (.neve (if k = i then j else k) ns lba g, d)
          | b => (b, d) }) } }
    match x.desc with
    | some d => match s.lookup d.ns d.lba with
      | .neve g k => if k = i then s.mapPut d.ns d.lba (.neve g j) else s
      | _ => s
    | none => s
  | _, _ => s

/-- Commands held for an LBA range that waits for the partner's data, or for a namespace's owner, go on (R133, R480). -/
def State.unhold (s : State) (i : Nat) : State :=
  { s with qpe := { s.qpe with cmds := s.qpe.cmds.map fun (c, (x : Cmd)) => (c, if x.ns = some i then { x with ownerHold := none } else x) } }

/-- The partner's data for an entry that replay could not find (R480): the entry is restored. -/
def State.neveFetched (s : State) (i : Nat) (d : NeveDesc) (b : Block) : State :=
  let s := { s with jnl := { s.jnl with
      awaiting := tdel s.jnl.awaiting i
      slots := tput s.jnl.slots i { state := .committed, desc := some d, data := b }
      restored := i :: s.jnl.restored } }
  (s.mapPut d.ns d.lba (.neve d.kgen i)).unhold d.ns

/-- NEVE_PUT (R254 to R256): the partner's block enters the mirror part and commits; one that has been retired is not kept;
the answer to a NEVE_FETCH restores this module's entry. -/
def State.nevePutIn (s : State) (i : Nat) (d : NeveDesc) (b : Block) : State :=
  if s.isOwn i then
    match tget s.jnl.slots i with
    | some x =>
      if x.fetching && x.desc.any (fun e => e.seq = d.seq) then
        (s.modSlot i fun x => { x with data := b, dataOk := true, fetching := false }).serveWaiters d.ns (pageOf d.lba)
      else s
    | none => match tget s.jnl.awaiting i with
      | some e => if e.seq = d.seq then s.neveFetched i e b else s
      | none => s
  else
    let s := if (tget s.jnl.slots i).any fun x => !x.mirror then s.neveMove i else s
    let s := { s with jnl := { s.jnl with stale := s.jnl.stale.filter (· != i), rxNeve := max s.jnl.rxNeve (d.seq + 1) } }.bump (ctrJnl 5)
    let s := if s.jnl.retired.contains i then { s with jnl := { s.jnl with retired := s.jnl.retired.filter (· != i) } }
      else { s with jnl := { s.jnl with slots := tput s.jnl.slots i { state := .committed, desc := some d, mirror := true, data := b } } }.waterCheck
    s.ackMirror

/-- The records below a seq are on members (R222): they leave the tail of the module that is not pool master, too, and what waits for that
goes on. -/
def State.firnFloorIn (s : State) (q : Nat) : State :=
  let gone (r : FirnRec) : Bool := decide (r.seq + firnSpan r.body ≤ q)
  let l := s.jnl.tail.filter gone
  let s := { s with jnl := { s.jnl with tail := s.jnl.tail.filter fun r => !gone r, media := { s.jnl.media with firn := s.jnl.media.firn ++ l } } }
  s.each l fun s r => match r.body with
    | .mapClear ns lba _ => s.recSettled ns lba true
    | .checkpoint start _ _ =>
      let m := s.jnl.media
      { s with jnl := { s.jnl with
          ckpt := none
          media := { m with
            ckpt := s.jnl.ckpt.orElse fun _ => m.ckpt, prev := none, firn := m.firn.filter fun x => decide (start < x.seq + firnSpan x.body)
            label := m.label.map fun (l : DriveLabel) => { l with seq := l.seq + 1, ckptSeq := r.seq } } } }
    | _ => s

/-- What the tables hold as a CHECKPOINT of the pool master arrives (R224, R321). -/
def State.noteCheckpoint (s : State) (r : FirnRec) : State :=
  match r.body with
  | .checkpoint start _ _ => { s with jnl := { s.jnl with ckpt := some (s.checkpointOf r.seq start) } }
  | _ => s

/-- Whether a record answers a request of this module's to seal a segment (R320). -/
def sealsAsked (r : FirnRec) (q : Nat × FirnBody) : Bool :=
  match r.body, q.2 with
  | .segState i (some g), .segState j (some h) => i = j && g.state = .isSealed && h.state = .isSealed
  | _, _ => false

/-- FIRN_PUT (R254, R320, R321): the records enter the tail; the module's own requests take effect and commit, the partner's are applied;
the records below `floor` are on members (assumption log 99). -/
def State.firnPutIn (s : State) (l : List FirnRec) (floor : Nat) : State :=
  let s := s.each l fun s r =>
    if s.jnl.tail.any fun t => t.seq = r.seq then s
    else
      let s := s.set JNL_FIRN_SEQ_next_seq 0 (max (s.get JNL_FIRN_SEQ_next_seq) (r.seq + firnSpan r.body))
      let s := { s with jnl := { s.jnl with tail := s.jnl.tail ++ [r] } }
      if s.jnl.reqs.contains (r.origin, r.body) then
        ({ s with jnl := { s.jnl with reqs := s.jnl.reqs.erase (r.origin, r.body) } }.firnEnter r).firnCommit r
      else
        let s := { s with jnl := { s.jnl with reqs := s.jnl.reqs.filter fun q => !sealsAsked r q } }
        ((s.firnApply r.body).noteCheckpoint r).firnCommit r
  let last := l.foldl (fun m r => max m (r.seq + firnSpan r.body)) s.jnl.rxFirn
  let s := ({ s with jnl := { s.jnl with rxFirn := last } }.firnFloorIn floor).coldDrain
  if l.isEmpty then s else s.ackMirror

/-- MIRROR_ACK (R221, R247, R254): acknowledged writes complete, acknowledged records commit, waiting commits go on. -/
def State.mirrorAckIn (s : State) (a f : Nat) : State :=
  let s := s.set JNL_MIRROR_STATUS_acked_seq 0 (max a (s.get JNL_MIRROR_STATUS_acked_seq))
  let was := s.jnl.ackedFirn
  let s := { s with jnl := { s.jnl with ackedFirn := max was f } }
  let s := if s.mirrored then s.each (s.jnl.tail.filter fun r => decide (was ≤ r.seq) && decide (r.seq < f)) State.firnCommit else s
  s.writesCheck.commitAll

/-- An own entry whose data no module holds any more (R256, R266, R480). -/
def State.dataGone (s : State) (i : Nat) : State :=
  match tget s.jnl.awaiting i, tget s.jnl.slots i with
  | some d, _ => ({ s with jnl := { s.jnl with awaiting := tdel s.jnl.awaiting i } }.neveLose i d 3).unhold d.ns
  | none, some x => if x.fetching then (match x.desc with | some d => s.neveLose i d 2 | none => s) else s
  | none, none => s

/-- NEVE_RETIRE (R255): mirror copies freed; a retire ahead of its NEVE_PUT is kept; one that names an own slot says that the partner has no
copy to give (assumption log 113). -/
def State.neveRetireIn (s : State) (l : List Nat) : State :=
  (s.each l fun s i =>
    if s.isOwn i then s.dataGone i
    else match tget s.jnl.slots i with
      | some _ => { s with jnl := { s.jnl with slots := tdel s.jnl.slots i } }
      | none => { s with jnl := { s.jnl with retired := s.jnl.retired ++ [i] } }).waterCheck

/-- NEVE_FETCH (R256): answered with the slot's data where that is readable. An own entry that is not is lost (R30); a copy that is not there,
or not readable, is answered with NEVE_RETIRE (assumption log 113). -/
def State.neveFetchIn (s : State) (i : Nat) : State :=
  match tget s.jnl.slots i with
  | some x => match x.desc with
    | some d => if x.dataOk then s.pairSend (.nevePut i d x.data) else if x.mirror then s.pairSend (.neveRetire [i]) else s.neveLose i d 2
    | none => s
  | none => if s.isOwn i then s else s.pairSend (.neveRetire [i])

/-- FIRN_REQ (R320): the pool master applies the record and appends it with the next seq; asked to seal a segment, it writes the segment's
summary first (R203). -/
def State.firnReqIn (s : State) (origin : Nat) (b : FirnBody) : State :=
  if !s.isMaster then s
  else match b with
    | .segState i (some g) => if g.state = .isSealed && (s.seg i).any (fun h => h.state = .isOpen) then s.sealAsked i else s.firnAppend origin b
    | .segState i none => (s.firnAppend origin b).mdKill fun _ _ m => match m with | .summary j _ => j = i | _ => false
    | .mapClear .. => s.firnAppend origin b
    | _ => (s.firnApply b).firnAppend origin b

/-! ## Single copy and resync (R257 to R260) -/

/-- PAIR_SINGLE (R257, R258): mirroring stops, the tail commits alone, mirror-required writes that waited for the partner wait
as write-through ones. -/
def State.pairSingle (s : State) : State :=
  if s.get JNL_NEVE_STATUS_pair_state = 2 || !s.pairShelf then s
  else
    let was := s.mirrored
    let s := s.set JNL_NEVE_STATUS_pair_state 0 2
    let s := { s with jnl := { s.jnl with
        resync := none
        writes := s.jnl.writes.map fun (c, (w : WJob)) => (c, if w.mode = 0 && !w.acked then { w with mode := 2 } else w) } }
    let s := if was then s.each (s.jnl.tail.filter fun r => decide (s.jnl.ackedFirn ≤ r.seq)) State.firnCommit else s
    (((s.raise EV_NEVE_SINGLE 0 0).modeNotices).writesCheck).commitAll

/-- The own committed entries in commit_seq order. -/
def State.ownEntries (s : State) : List (Nat × NeveSlot) :=
  let l := s.jnl.slots.filter fun (i, x) => s.isOwn i && x.state != .reserved && x.dataOk && x.desc.isSome
  let q (x : NeveSlot) : Nat := match x.desc with | some d => d.seq | none => 0
  l.foldl (fun acc a => (acc.takeWhile fun b => decide (q b.2 ≤ q a.2)) ++ a :: acc.dropWhile fun b => decide (q b.2 ≤ q a.2)) []

/-- RESYNC_START (R259): every own entry and tail record is sent again, up to the marks of this moment. -/
def State.resyncStart (s : State) : State :=
  let old := (s.jnl.slots.filter fun (_, x) => x.mirror).map (·.1)
  let s := (s.set JNL_NEVE_STATUS_pair_state 0 3).set JNL_MIRROR_STATUS_acked_seq 0 0
  let s := { s with jnl := { s.jnl with
      resync := some (s.get JNL_NEVE_SEQ_next_seq, s.get JNL_FIRN_SEQ_next_seq), ackedFirn := 0, rxNeve := 0, rxFirn := 0, retired := []
      stale := old } }
  let s := s.each s.ownEntries fun s (i, x) => match x.desc with
    | some d => (s.pairSend (.nevePut i d x.data)).bump (ctrJnl 4)
    | none => s
  if s.isMaster then s.each s.jnl.tail fun s r => s.pairSend (.firnPut [r] s.firnFloor) else s

/-- Whether the marks of a resync are passed (R259); where nothing is left to send they are. -/
def State.resyncPassed (s : State) : Bool :=
  match s.jnl.resync with
  | none => false
  | some (q, f) => (decide (q ≤ s.get JNL_MIRROR_STATUS_acked_seq) || s.ownEntries.all fun (_, x) =>
        x.desc.all fun d => decide (d.seq < s.get JNL_MIRROR_STATUS_acked_seq)) &&
      (!s.isMaster || decide (f ≤ s.jnl.ackedFirn) || s.jnl.tail.all fun r => decide (r.seq < s.jnl.ackedFirn))

/-- RESYNC_DONE (R259): the pair is mirrored again. -/
def State.resyncDone (s : State) : State :=
  let s := s.set JNL_NEVE_STATUS_pair_state 0 1
  ({ s with jnl := { s.jnl with resync := none } }.raise EV_NEVE_PAIRED 0 0).modeNotices

/-- TAKEOVER_CONVERT (R260): mirror entries become own entries, mapped, to be placed ahead of later blocks. -/
def State.neveConvert (s : State) : State :=
  s.each (s.jnl.slots.filter fun (i, x) => !s.isOwn i && x.mirror && x.state != .reserved) fun s (i, x) =>
    match x.desc with
    | none => s
    | some d => (s.modSlot i fun x => { x with mirror := false, first := true, state := .committed }).mapPut d.ns d.lba (.neve d.kgen i)

/-! ## The dump (R261 to R264, R269) -/

/-- Budget of slots for a usable energy in mJ (R252). -/
def budgetSlots (mj : Nat) : Nat := min 519168 (((mj - 8640) * 6000000000 / 180000 - 1073754112) / 4137)

/-- DUMP_START (R261, R262 steps 3 and 4): admission and reservations stop, RESERVED slots are freed, what the partner has not
acknowledged is sent again. -/
def State.dumpStart (s : State) (cause : Nat) : State :=
  match s.jnl.phase with
  | .flushing _ _ => s
  | .writing _ _ => s
  | .held => s
  | _ =>
    let s := { s with jnl := { s.jnl with
        phase := .flushing cause s.dtc, waiting := [], marks := (s.get JNL_NEVE_SEQ_next_seq, s.get JNL_FIRN_SEQ_next_seq) } }
    let s := s.each ((s.jnl.slots.filter fun (_, x) => x.state = .reserved).map (·.1)) State.slotFree
    if s.pair.active then s.each s.pair.kept fun s (q, m) =>
      (s.send (.pair s.nextLink q s.pair.rxNext s.pair.formation m)).bump (ctrPair 2) else s

/-- MIRROR_FLUSH_END (R262 steps 5 and 6): ports and pair link stopped, drive commands withdrawn with no stripe written again, slots
off, writing begins. -/
def State.dumpWriting (s : State) : State :=
  match s.jnl.phase with
  | .flushing c t =>
    let s := { s with jnl := { s.jnl with phase := .writing c t }, slt := { s.slt with dumped := true } }
    let s := (s.unqueue fun _ => true).disown fun _ => true
    let s := s.each (List.range 32) fun s x => s.slotTurnOff x 9
    { s with pair := { s.pair with active := false }, tms := { s.tms with leaves := [], calendar := [] }, hif := { s.hif with queue := [] } }
  | _ => s

/-- The entries a dump writes (R263): COMMITTED and PLACED, own and mirror, in slot order. -/
def State.dumpEntries (s : State) : List (Nat × NeveSlot) :=
  let l := s.jnl.slots.filter fun (_, x) => x.state != .reserved
  (sortOn id (l.map (·.1))).filterMap fun i => (tget l i).map fun x => (i, x)

/-- The Firn blocks that a list of consecutive records fills: first sequence number and count of each (R218). -/
def firnBlocks (l : List FirnRec) : List (Nat × Nat) :=
  let lo := (l.head?.map (·.seq)).getD 0
  let hi := l.foldl (fun m r => max m (r.seq + firnSpan r.body)) lo
  (List.range ((hi - lo + 126) / 127)).map fun j => (lo + 127 * j, min 127 (hi - lo - 127 * j))

/-- The number of the next dump; the first is 1. -/
def State.nextDump (s : State) : Nat := (s.jnl.dumps.map fun d => d.seq + 1).foldl max 1

/-- The header of a dump (R263). -/
def dumpHeader (d : Dump) : Block :=
  bytesBlock (withCrc 0x504D444E (padTo 4088 (leBytes 8 d.seq ++ leBytes 4 d.poolId ++ leBytes 1 d.bay ++ leBytes 1 d.cause ++ leBytes 2 0 ++
    leBytes 4 d.entries.length ++ leBytes 4 (firnBlocks d.tail).length ++ leBytes 8 d.neveNext ++ leBytes 8 d.firnNext ++ leBytes 8 d.minFirn ++
    leBytes 8 d.acked ++ leBytes 8 d.startDtc.toNat)))

/-- The trailer of a dump (R263). -/
def dumpTrailer (d : Dump) : Block :=
  bytesBlock (withCrc 0x544D444E (padTo 4088 (leBytes 8 d.seq ++ leBytes 8 0 ++ leBytes 4 d.entries.length ++
    leBytes 4 (firnBlocks d.tail).length ++ leBytes 32 0 ++ leBytes 8 d.endDtc.toNat)))

/-- A descriptor block of a dump (R263): up to 102 entries. -/
def dumpDescBlock (l : List (Nat × NeveSlot)) : Block :=
  let b := padTo 4092 (l.flatMap fun (i, x) => match x.desc with
    | some d => leBytes 4 i ++ neveDescBytes x d ++ leBytes 4 (neveCrc x)
    | none => [])
  bytesBlock (b ++ leBytes 4 (crc32c b).toNat)

/-- The image of a dump (R263). -/
def dumpImage (d : Dump) : List Block :=
  dumpHeader d :: ((List.range ((d.entries.length + 101) / 102)).map fun j => dumpDescBlock ((d.entries.drop (102 * j)).take 102)) ++ d.entries.map (fun x => x.2.data) ++
    (firnBlocks d.tail).map (fun x => firnBlock d.poolId x.1 x.2 d.tail) ++ [dumpTrailer d]

/-- A dump written to slot d mod 2 of both packages, with the packages that hold it sealed and torn (R262 to R264). -/
def State.dumpPut (s : State) (cause : Nat) (entries : List (Nat × NeveSlot)) (start : Word64) (sealed torn : List Nat) (consumed : Bool) : State :=
  let q := s.nextDump
  let marks := entries.filterMap fun (_, x) => x.desc.map fun e => fullBelow s.jnl.marks.2 e.firnMark
  let d : Dump :=
    { seq := q, cause := cause, poolId := s.str.poolId, bay := bit s.bayB, entries := entries, tail := s.jnl.tail
      neveNext := s.jnl.marks.1, firnNext := s.jnl.marks.2, minFirn := marks.foldl min s.jnl.marks.2
      acked := if s.mirroring then s.get JNL_MIRROR_STATUS_acked_seq else 0
      startDtc := start, endDtc := s.dtc, isSealed := sealed, torn := torn, consumed := consumed }
  { s with jnl := { s.jnl with dumps := (s.jnl.dumps.filter fun (e : Dump) => e.seq % 2 != q % 2) ++ [d] } }.bump (ctrJnl 14)

/-- ORDERLY_STOP (R269 step 1): admission stops; the stop waits for Névé and the tail to drain. -/
def State.stopStart (s : State) (restart : Bool) : State :=
  match s.jnl.phase with
  | .idle => { s with jnl := { s.jnl with phase := .stopping restart s.dtc } }
  | .riding _ => { s with jnl := { s.jnl with phase := .stopping restart s.dtc } }
  | _ => s

/-- Whether an orderly stop has drained (R269 step 2). -/
def State.stopDrained (s : State) : Bool := (s.jnl.slots.all fun (_, x) => x.mirror) && s.jnl.tail.isEmpty

end Sys2Proof.Machine
end

