-- ==== Sys2Proof/Machine/Commands.lean ====
section
/-! DEFINITION. The commands of queue pairs and of the commands in them (chapters 04, 05, 08), each over the shared operations of Queue
and Io. -/

namespace Sys2Proof.Machine

open F

/-- A CREATE message on the queue setup service (R104, R105). -/
def execQueueCreate (src dst : Eid) (m : QSetup) (s : State) : Host.Outcome State Fault Refusal :=
  s.commit { parts := [.evt, .ctr, .hkt, .tms, .swc, .qpe, .nsm, .key, .freeCtr], fields := qpeLive ++ cells ++
      contexts }
    (s.queueCreate src dst m)

/-- A DELETE message on the queue setup service (R104, R106). -/
def execQueueDelete (src dst : Eid) (m : QSetup) (s : State) : Host.Outcome State Fault Refusal :=
  s.commit
    { parts := [.evt, .ctr, .hkt, .tms, .swc, .qpe, .nsm, .key, .pair, .freeCtr, .outbox], fields := qpeLive ++ cells
        ++ contexts }
    (s.queueDelete src dst m)

/-- A QUERY message on the queue setup service (R104, R107). -/
def execQueueQuery (src dst : Eid) (m : QSetup) (s : State) : Host.Outcome State Fault Refusal :=
  s.commit { parts := [.evt, .ctr, .hkt, .tms, .swc, .key, .freeCtr], fields := cells ++ contexts }
    (s.queueQuery src dst m)

/-- A RESET message on the queue setup service (R104, R106). -/
def execQueueReset (src dst : Eid) (m : QSetup) (s : State) : Host.Outcome State Fault Refusal :=
  s.commit
    { parts := [.evt, .ctr, .hkt, .tms, .swc, .qpe, .nsm, .key, .pair, .freeCtr, .outbox], fields := qpeLive ++ cells
        ++ contexts }
    (s.queueReset src dst m)

/-- No command of a deleted queue pair remains (R106). -/
def execQueueDeletionDone (q : Nat) (s : State) : Host.Outcome State Fault Refusal :=
  s.commit { parts := [.evt, .ctr, .hkt, .tms, .swc, .qpe, .key, .pair, .freeCtr, .outbox], fields := qpeLive ++ cells
      ++ contexts }
    (s.queueDeletionDone q)

/-- Create I/O Completion Queue (R108); `c` is the command's number in the admission window. -/
def execCreateIoCq (c : Nat) (s : State) : Host.Outcome State Fault Refusal :=
  s.commit { parts := [.ctr, .qpe, .pair, .outbox], fields := qpeLive }
    (s.createIoCq c)

/-- Create I/O Submission Queue (R108); `c` is the command's number in the admission window. -/
def execCreateIoSq (c : Nat) (s : State) : Host.Outcome State Fault Refusal :=
  s.commit { parts := [.ctr, .qpe, .pair, .outbox], fields := qpeLive }
    (s.createIoSq c)

/-- Delete I/O Submission Queue (R108); `c` is the command's number in the admission window. -/
def execDeleteIoSq (c : Nat) (s : State) : Host.Outcome State Fault Refusal :=
  s.commit { parts := [.ctr, .qpe, .nsm, .pair, .outbox], fields := qpeLive }
    (s.deleteIoSq c)

/-- Delete I/O Completion Queue (R108); `c` is the command's number in the admission window. -/
def execDeleteIoCq (c : Nat) (s : State) : Host.Outcome State Fault Refusal :=
  s.commit { parts := [.ctr, .qpe, .pair, .outbox], fields := qpeLive }
    (s.deleteIoCq c)

/-- A write to the doorbell page of the local function or a slice, at an offset in the page (R109). -/
def execLocalDoorbellWrite (o : QOwner) (offset width value : Nat) (s : State) : Host.Outcome State Fault Refusal :=
  s.commit { parts := fetchParts, fields := cells ++ contexts ++ [SLC_LOG_STATUS_out_span] }
    (s.localDoorbell o offset width value)

/-- Paused queues whose condition is gone fetch again (R113). -/
def execFetchResume (s : State) : Host.Outcome State Fault Refusal :=
  s.commit { parts := fetchParts, fields := cells ++ contexts ++ [SLC_LOG_STATUS_out_span] }
    (s.fetchResume)

/-- Entries fetched for a queue pair are accepted (R112). -/
def execSqeFetchComplete (q : Nat) (s : State) : Host.Outcome State Fault Refusal :=
  s.commit
    { parts := ioParts,
      fields := qpeLive ++ rebLive ++ cells ++ firnSeq ++ contexts ++ openSeg ++ [SLC_LOG_STATUS_out_span] }
    (s.fetchComplete q)

/-- An admitted command without a hold starts (R120). -/
def execCommandStart (c : Nat) (s : State) : Host.Outcome State Fault Refusal :=
  s.commit
    { parts := ioParts,
      fields := qpeLive ++ rebLive ++ cells ++ firnSeq ++ contexts ++ openSeg ++ [SLC_LOG_STATUS_out_span] }
    (s.commandStart c)

/-- Waiting completions of a queue pair take freed slots (R118). -/
def execCqePost (q : Nat) (s : State) : Host.Outcome State Fault Refusal :=
  s.commit
    { parts := [.evt, .ctr, .tel, .hkt, .tms, .swc, .qpe, .nsm, .key, .hif, .slc, .pair, .freeCtr, .outbox], fields :=
        qpeLive ++ cells ++ contexts ++ [SLC_LOG_STATUS_out_span] }
    (s.cqePost q)

/-- The merge wait of a queue pair ends (R119). -/
def execMergeWaitExpiry (q : Nat) (s : State) : Host.Outcome State Fault Refusal :=
  s.commit { parts := [.evt, .ctr, .hkt, .tms, .swc, .qpe, .key, .freeCtr], fields := cells ++ contexts }
    (s.mergeExpiry q)

/-- The notify time of a queue pair ends (R119). -/
def execNotifyTimeExpiry (q : Nat) (s : State) : Host.Outcome State Fault Refusal :=
  s.commit { parts := [.evt, .ctr, .hkt, .tms, .swc, .qpe, .key, .freeCtr], fields := cells ++ contexts }
    (s.notifyExpiry q)

/-- Flush (R122); `c` is the command's number. -/
def execFlush (c : Nat) (s : State) : Host.Outcome State Fault Refusal :=
  s.commit { parts := [.ctr, .tms, .qpe, .str, .jnl, .pair, .outbox] }
    (s.flush c)

/-- Every write a Flush covers has reached its point (R122); `c` is the command's number. -/
def execFlushDone (c : Nat) (s : State) : Host.Outcome State Fault Refusal :=
  s.commit { parts := [.ctr, .qpe, .pair, .outbox], fields := qpeLive }
    (s.flushDone c)

/-- Write (R114, R208); `c` is the command's number. -/
def execWrite (c : Nat) (s : State) : Host.Outcome State Fault Refusal :=
  s.commit
    { parts := ioParts,
      fields := qpeLive ++ rebLive ++ cells ++ firnSeq ++ contexts ++ openSeg ++ [JNL_NEVE_SEQ_next_seq, SLC_LOG_STATUS_out_span] }
    (s.write c)

/-- Read (R114, R213); `c` is the command's number. -/
def execRead (c : Nat) (s : State) : Host.Outcome State Fault Refusal :=
  s.commit
    { parts := ioParts,
      fields := qpeLive ++ rebLive ++ cells ++ firnSeq ++ contexts ++ openSeg ++ [SLC_LOG_STATUS_out_span] }
    (s.read c)

/-- Write Zeroes (R214); `c` is the command's number. -/
def execWriteZeroes (c : Nat) (s : State) : Host.Outcome State Fault Refusal :=
  s.commit { parts := mappingParts, fields := qpeLive ++ rebLive ++ firnSeq }
    (s.writeZeroes c)

/-- Dataset Management (R215); `c` is the command's number. -/
def execDatasetManagement (c : Nat) (s : State) : Host.Outcome State Fault Refusal :=
  s.commit { parts := mappingParts, fields := qpeLive ++ rebLive ++ firnSeq }
    (s.datasetManagement c)

/-- Copy (R216); `c` is the command's number. -/
def execCopy (c : Nat) (s : State) : Host.Outcome State Fault Refusal :=
  s.commit
    { parts := ioParts,
      fields := qpeLive ++ rebLive ++ cells ++ firnSeq ++ contexts ++ openSeg ++ [SLC_LOG_STATUS_out_span] }
    (s.copy c)

/-- WAIT (R123, R124); `c` is the command's number. -/
def execWait (c : Nat) (s : State) : Host.Outcome State Fault Refusal :=
  s.commit { parts := [.ctr, .qpe, .pair, .outbox], fields := qpeLive }
    (s.waitCheck c)

/-- A WAIT has reached its timeout (R125); `c` is the command's number. -/
def execWaitTimeout (c : Nat) (s : State) : Host.Outcome State Fault Refusal :=
  s.commit { parts := [.ctr, .qpe, .pair, .outbox], fields := qpeLive }
    (s.waitTimeout c)

/-- Abort (R126); `c` is the command's number. -/
def execAbort (c : Nat) (s : State) : Host.Outcome State Fault Refusal :=
  s.commit { parts := [.ctr, .qpe, .pair, .outbox], fields := qpeLive }
    (s.abort c)

/-- An admin command held past admin_hold_ms (R133); `c` is the command's number. -/
def execAdminHoldTimeout (c : Nat) (s : State) : Host.Outcome State Fault Refusal :=
  s.commit { parts := [.ctr, .qpe, .pair, .outbox], fields := qpeLive }
    (s.adminHoldTimeout c)

/-- A command held past owner_hold_ms (R133); `c` is the command's number. -/
def execOwnerHoldTimeout (c : Nat) (s : State) : Host.Outcome State Fault Refusal :=
  s.commit { parts := [.ctr, .qpe, .pair, .outbox], fields := qpeLive }
    (s.ownerHoldTimeout c)

/-- A unit leaves a cipher lane (R246). -/
def execCipherUnitDone (lane : Nat) (s : State) : Host.Outcome State Fault Refusal :=
  s.commit
    { parts := [.evt, .ctr, .tel, .hkt, .tms, .swc, .qpe, .nsm, .key, .cip, .hif, .slc, .str, .jnl, .reb, .pair,
        .freeCtr, .outbox], fields := qpeLive ++ rebLive ++ cells ++ firnSeq ++ contexts ++ openSeg ++
        [JNL_NEVE_SEQ_next_seq, SLC_LOG_STATUS_out_span] }
    (s.unitDone lane)

/-- Waiting writes reserve Névé slots in fetch order (R251). -/
def execNeveReserve (s : State) : Host.Outcome State Fault Refusal :=
  s.commit { parts := [.evt, .ctr, .qpe, .jnl], fields := [JNL_NEVE_STATUS_high_water] }
    (s.neveReserve)

end Sys2Proof.Machine
end

