-- ==== Sys2Proof/Machine/Key.lean ====
section
/-! DEFINITION. Key slots and their commands (chapter 06): agreement, import, zeroisation, rotation with its sweep (R180 to
R189), KEY_EP_PROT (R174, R186), the DRBG and its failure (R190 to R194), KEY pair frames (R184). -/

namespace Sys2Proof.Machine

open F

/-! ## The command buffer and the end of a command (R180, R195) -/

/-- The 512 bytes of KEY_DATA. -/
def State.keyBytes (s : State) : List Byte := (List.range 64).flatMap fun j => leBytes 8 (s.get KEY_DATA_data j)

/-- KEY_DATA set to bytes, zero beyond them. -/
def State.keyBuffer (s : State) (l : List Byte) : State :=
  s.each (List.range 64) fun s j => s.set KEY_DATA_data j (leAt l (8 * j) 8)

/-- A command ends with a result (R180). -/
def State.keyEnd (s : State) (r : Nat) : State :=
  ((s.set KEY_STATUS_busy 0 0).set KEY_STATUS_result 0 r).set KEY_STATUS_done_count 0 (s.get KEY_STATUS_done_count + 1)

/-- Whether key commands are applied on the partner too (R184). -/
def State.keyPaired (s : State) : Bool := s.pair.active && s.pair.keyed

/-- A command that succeeded here is applied on the partner and ends once that has answered, or at once without a partner
(R184). -/
def State.keyShare (s : State) (slot : Nat) (f : KeyFrame) : State :=
  if s.keyPaired then { (s.set KEY_STATUS_busy 0 1).pairSend (.key f) with key := { s.key with awaitAck := some slot } }
  else s.keyEnd 0

/-- The command that waits for the partner ends, since no partner is present any more (R184). -/
def State.keyAlone (s : State) : State :=
  match s.key.awaitAck with
  | some _ => { s with key := { s.key with awaitAck := none } }.keyEnd 0
  | none => s

/-- The bytes of a key of a kind: 64 of an XTS key, 32 of another (R179). -/
def keyBytesOf (kind : KeyKind) (v : BitVec 512) : List Byte := if kind = .xts then beBytes 64 v.toNat else beBytes 32 (v.toNat % 2 ^ 256)

/-- A key of its bytes. -/
def keyOfBytes (l : List Byte) : BitVec 512 := BitVec.ofNat 512 (beNat l)

/-- The key check value of a key (R182): the first 8 B of HMAC-SHA-384 of the label under it. -/
def keyCheck (kind : KeyKind) (v : BitVec 512) : Word64 :=
  (hmacSha384 (keyBytesOf kind v) [0x48, 0x4B, 0x43, 0x56]).extractLsb' 320 64

/-- The code of a kind (R195). -/
def kindCode : KeyKind → Nat
  | .xts => 1
  | .gcm => 2
  | .kek => 3

/-- The kind a code names (R195). -/
def kindOf (code : Nat) : Option KeyKind :=
  if code = 1 then some .xts else if code = 2 then some .gcm else if code = 3 then some .kek else none

/-- A slot's vault record (R183): kind, class, check value and key, wrapped under the device storage key (assumption log 100). -/
def vaultRecord (k : KeySlot) : List Byte :=
  keyWrap Config.storageKey ([BitVec.ofNat 8 (kindCode k.kind), BitVec.ofNat 8 (bit k.assured)] ++ List.replicate 6 0 ++ beBytes 8 k.check.toNat ++
    beBytes 64 k.value.toNat)

/-- The slot that a vault record holds, with its key as one value; none where it does not unwrap. -/
def vaultSlot (w : List Byte) : Option KeySlot :=
  match keyUnwrap Config.storageKey w with
  | none => none
  | some l => (kindOf (beAt l 0 1)).map fun kd =>
      { kind := kd, state := .loaded, assured := beAt l 1 1 = 1, persist := true, key := keyOfBytes ((l.drop 16).take 64)
        check := BitVec.ofNat 64 (beAt l 8 8) }

/-- A LOADED slot set to a key, kept as two Boolean shares (R179). -/
def State.putShares (s : State) (n : Nat) (k : KeySlot) (v : BitVec 512) : State :=
  let (m, s) := s.freshWide
  { s with key := { s.key with slots := tput s.key.slots n { k with key := v ^^^ m, mask := m } } }

/-- A LOADED slot set to a key, with its two vault records where it is persistent (R183). -/
def State.putKey (s : State) (n : Nat) (k : KeySlot) (v : BitVec 512) : State :=
  let s := s.putShares n k v
  let w := vaultRecord { k with key := v, mask := 0 }
  if k.persist then { s with key := { s.key with vault := tput (tput s.key.vault (0, n) w) (1, n) w } } else s

/-- A slot without a key set: AWAITING or ZEROISED. -/
def State.putBare (s : State) (n : Nat) (k : KeySlot) : State := { s with key := { s.key with slots := tput s.key.slots n k.bare } }

/-- A slot's key as it travels to the partner, wrapped under the pair key; nothing of a slot without one (R184). -/
def State.wrapped (s : State) (k : KeySlot) : List Byte :=
  match s.key.pairKey with
  | some p => if k.state = .loaded then keyWrap p (keyBytesOf k.kind k.value) else []
  | none => []

/-- The frame that carries a slot to the partner (R184). -/
def State.loadFrame (s : State) (n : Nat) : KeyFrame :=
  match tget s.key.slots n with
  | some k => .load n k.bare (s.wrapped k)
  | none => .zeroise n

/-- The enabled KEY_EP_PROT entries that name a slot (R195). -/
def State.epCount (s : State) (n : Nat) : Nat :=
  ((regNonzero s.regs KEY_EP_PROT_prefix_len).filter fun e =>
    s.get KEY_EP_PROT_prefix_len e != 0 && s.get KEY_EP_PROT_slot e = n).length

/-- Whether a slot is bound: to a namespace, as retiring, or, holding a GCM key, by KEY_EP_PROT entries (R179). -/
def State.keyBound (s : State) (n : Nat) (k : KeySlot) : Bool := k.bind != .none || (k.kind = .gcm && s.epCount n != 0)

/-- What stays recorded of bound slots at a reset: class, check value and whether they were zeroised, without their keys (R179, R182). -/
def State.keptSlots (s : State) : Table Nat KeySlot :=
  ((s.key.slots.filter fun (n, k) => s.keyBound n k).map fun (n, (k : KeySlot)) => (n, k.bare)) ++
    s.key.kept.filter fun (n, _) => (tget s.key.slots n).isNone

/-- The result of a command whose target slot must be EMPTY and is not: 0x06 where it is bound or ZEROISED, else 0x02. -/
def State.notEmpty (s : State) (n : Nat) (k : KeySlot) : Nat := if k.state = .loaded && !s.keyBound n k then 2 else 6

/-- A key command runs where none is running (R180): with the KEY block not ready it ends with 0x08, else as given. -/
def State.keyRun (s : State) (f : State → State) : State :=
  if s.flag KEY_STATUS_busy then s
  else if s.get KEY_STATUS_state != 1 then (s.keyBuffer []).keyEnd 8
  else f s

/-! ## KEK_AGREE and IMPORT (R181, R182) -/

/-- The KEK of an agreement (R181): the first 32 B of SHA-384 over counter, secret, label, slot and nonce. -/
def kekOf (z : BitVec 384) (slot : Nat) (nonce : List Byte) : BitVec 512 :=
  ((sha384 (beBytes 4 1 ++ beBytes 48 z.toNat ++ [0x48, 0x4B, 0x39, 0x36, 0x4B, 0x45, 0x4B] ++ beBytes 2 slot ++
    nonce)).extractLsb' 128 256).zeroExtend 512

/-- KEK_AGREE (R181). -/
def State.kekAgree (s : State) (slot : Nat) (persist : Bool) : State :=
  s.keyRun fun s =>
    match tget s.key.slots slot with
    | some k => (s.keyBuffer []).keyEnd (s.notEmpty slot k)
    | none =>
      let pub := s.keyBytes.take 96
      let nonce := (s.keyBytes.drop 96).take 32
      if !onP384 pub then (s.keyBuffer []).keyEnd 9
      else
        let (priv, s) := s.drbgPrivate
        let own := ecPublic priv
        let key := kekOf (ecdhSecret priv pub) slot nonce
        let k : KeySlot := { kind := .kek, state := .loaded, assured := false, persist := persist, key := 0, check := keyCheck .kek key }
        let sig := ecdsaSign (sha384 (pub ++ own ++ nonce ++ beBytes 2 slot ++ beBytes 4 s.moduleEid.toNat))
        let s := (s.putKey slot k key).keyBuffer (own ++ sig)
        s.keyShare slot (s.loadFrame slot)

/-- The slot that an import may fill (R182): an EMPTY one, or an AWAITING one of the same kind and class with what it fixes;
else a result. -/
def State.importTo (s : State) (slot : Nat) (kind : KeyKind) (assured persist : Bool) : Sum (Option KeySlot × KeySlot) Nat :=
  match tget s.key.slots slot with
  | none => .inl (none, { kind := kind, state := .loaded, assured := assured, persist := persist, key := 0, check := 0 })
  | some k =>
    if k.state != .awaiting then .inr (s.notEmpty slot k)
    else if k.kind != kind || (k.known && k.assured != assured) then .inr 1
    else .inl (some k, { k with state := .loaded, assured := assured, known := true })

/-- IMPORT (R182). -/
def State.keyImport (s : State) (slot aux kind : Nat) (assured persist : Bool) : State :=
  s.keyRun fun s =>
    let fail (r : Nat) : State := (s.keyBuffer []).keyEnd r
    match kindOf kind with
    | none => fail 1
    | some kd =>
      match s.importTo slot kd assured persist with
      | .inr r => fail r
      | .inl (old, new) =>
        match tget s.key.slots aux with
        | none => fail 4
        | some a =>
          if a.kind != .kek || a.state != .loaded then fail 4
          else
            match keyUnwrap (a.value.truncate 256) (s.keyBytes.take (if kd = .xts then 72 else 40)) with
            | none => fail 3
            | some l =>
              let key := keyOfBytes l
              let check := keyCheck kd key
              if kd = .xts && l.take 32 = l.drop 32 then fail 5
              else if old.any fun k => k.known && k.check != check then fail 10
              else
                let s := (s.putKey slot { new with check := check } key).keyBuffer []
                s.keyShare slot (s.loadFrame slot)

/-! ## Zeroisation (R187) -/

/-- The commands whose units are among these. -/
def unitCmds (l : List CipUnit) : List Nat := (l.filterMap fun u => match u.use with | .cmd c _ => some c | _ => none).dedup

/-- The lanes that are running a unit under a slot. -/
def Cip.running (c : Cip) (slot : Nat) : List Nat :=
  (c.lanes.filter fun (_, l) => match l with | u :: _ => u.slot = slot | [] => false).map (·.1)

/-- ZEROISE of one slot (R187): waiting work fails, running units finish, both shares are overwritten, the key leaves the slot, the lanes'
caches, the sessions derived from it and both vault records; a bound slot becomes ZEROISED, an unbound one EMPTY. -/
def State.zeroiseSlot (s : State) (n : Nat) : State :=
  let gone := unitCmds (s.cip.waiting.filter fun u => u.slot = n)
  let s := { s with cip := s.cip.keepWaiting fun u => u.slot != n }
  let s := s.each (s.cip.running n) State.unitDone
  let s := { s with cip := (s.cip.keep fun u => u.slot != n).evict n }
  let s := s.each gone fun s c => s.keyLoss c true
  let (_, s) := s.drbg 8
  let slots := match tget s.key.slots n with
    | some k => if s.keyBound n k then tput s.key.slots n { k.bare with state := .zeroised } else tdel s.key.slots n
    | none => s.key.slots
  let key := { s.key with
      slots := slots, vault := tdel (tdel s.key.vault (0, n)) (1, n), sessions := s.key.sessions.filter fun x => x.slot != n }
  { s with key := key }.raise EV_KEY_ZEROISED 0xD n

/-- ZEROISE of every slot and every vault key record (R187). -/
def State.zeroiseAllSlots (s : State) : State :=
  let s := s.each (s.key.slots.map (·.1)) State.zeroiseSlot
  { s with key := { s.key with vault := [] } }

/-- ZEROISE (R187). -/
def State.keyZeroise (s : State) (slot : Nat) : State :=
  s.keyRun fun s => ((s.zeroiseSlot slot).keyBuffer []).keyShare slot (.zeroise slot)

/-- ZEROISE_ALL (R187). -/
def State.keyZeroiseAll (s : State) : State :=
  s.keyRun fun s => (s.zeroiseAllSlots.keyBuffer []).keyShare 65536 .zeroiseAll

/-! ## Rotation (R188, R189) -/

/-- The check value of a slot's key, where a slot has one (R182). -/
def State.slotCheck (s : State) (n : Nat) : Option Word64 := (tget s.key.slots n).bind fun k => if k.known then some k.check else none

/-- The map entries of a namespace that carry a key generation (KEY_NS_GEN.remaining). -/
def State.underGen (s : State) (i : Nat) (k : Bool) : List (Nat × MapEnt) :=
  s.str.map.filterMap fun ((j, l), e) => if j != i then none else match e with
    | .member k' _ _ => if k' = k then some (l, e) else none
    | .neve k' _ => if k' = k then some (l, e) else none
    | _ => none

/-- Whether writes under way still bring blocks of a generation (R188): writes here, and forwarded ones. -/
def State.writesUnder (s : State) (i : Nat) (k : Bool) : Bool :=
  (s.jnl.writes.any fun (_, w) => w.ns = i && w.kgen = k && w.done.length != w.blocks.length) ||
  (s.qpe.cmds.any fun (_, x) => x.ns = some i && x.remote.isSome && x.fwdKgen = k && x.sqe.opcode = 1 && x.phase != .done)

/-- ROTATION_DONE (R188): no block of the old generation remains: the retiring slot is unbound and, if asked, zeroised. -/
def State.rotationDone (s : State) (i : Nat) : State :=
  match s.ns i with
  | none => s
  | some n =>
    match n.oldSlot with
    | none => s
    | some old =>
      if !(s.underGen i !n.kgen).isEmpty || s.writesUnder i !n.kgen then s
      else
        let s := { s with nsm := { s.nsm with ns := tput s.nsm.ns i { n with oldSlot := none, oldCheck := none, zapOld := false } } }.rebind i
        let s := (s.metaAppend 2 (.nsMeta (.keyGen i n.kgen n.keySlot none false n.check none))).raise EV_KEY_ROTATE_DONE 4 i
        if n.zapOld then
          let s := s.zeroiseSlot old
          if s.keyPaired then s.pairSend (.key (.zeroise old)) else s
        else s

/-- The result of a ROTATE_NS that fails (R180, R188), none where it may go on. -/
def State.rotateFails (s : State) (slot i : Nat) : Option Nat :=
  match s.ns i with
  | none => some 7
  | some n =>
    if n.state != .active || !s.owned n || n.oldSlot.isSome then some 7
    else match tget s.key.slots slot with
      | none => some 1
      | some k =>
        if k.kind != .xts || k.assured != n.assured then some 1
        else if k.state != .loaded || s.keyBound slot k then some 6
        else none

/-- A namespace whose key slot has been rotated (R188). -/
def rotated (n : Ns) (slot : Nat) (zap : Bool) (check : Option Word64) : Ns :=
  { n with kgen := !n.kgen, keySlot := slot, oldSlot := some n.keySlot, zapOld := zap, check := check, oldCheck := n.check }

/-- ROTATE_NS (R188): the new slot is bound, the old one retires, kgen inverts; the change is recorded with the pool
metadata. -/
def State.rotateNs (s : State) (slot i : Nat) (zap : Bool) : State :=
  s.keyRun fun s =>
    match s.rotateFails slot i, s.ns i with
    | some r, _ => (s.keyBuffer []).keyEnd r
    | none, none => s
    | none, some n =>
      let m := rotated n slot zap (s.slotCheck slot)
      let s := { s with nsm := { s.nsm with ns := tput s.nsm.ns i m } }.rebind i
      let s := s.metaAppend 2 (.nsMeta (.keyGen i m.kgen slot m.oldSlot zap m.check m.oldCheck))
      ((s.keyBuffer []).keyShare slot (.rotate i slot zap)).rotationDone i

/-- Whether a block is being swept: its read, its cipher work or its new stripe is under way. -/
def State.beingSwept (s : State) (i lba : Nat) : Bool :=
  (s.str.reads.any fun (_, r) => match r.use with | .sweep a b => a = i && b = lba | _ => false) ||
  (s.cip.units.any fun u => match u.use with
    | .sweepIn a b _ => a = i && b = lba
    | .sweepOut a b _ => a = i && b = lba
    | .cmd _ _ => false
    | .line _ => false) ||
  (s.str.stripes.any fun (_, x) => x.blocks.any fun (b, _) => match b with | .swept a l _ _ => a = i && l = lba | _ => false)

/-- The block a sweep reads next (R188): the lowest one on members that carries the old generation and is not under way. -/
def State.sweepNext (s : State) (i : Nat) (n : Ns) : Option (Nat × Nat × Nat) :=
  ((s.underGen i !n.kgen).filterMap fun (l, e) => match e with
    | .member _ g o => if s.beingSwept i l then none else some (l, g, o)
    | _ => none).foldl (fun (m : Option (Nat × Nat × Nat)) x => match m with
      | none => some x
      | some y => if x.1 < y.1 then some x else some y) none

/-- ROTATION_SWEEP (R188): one block of the old generation is read for re-encryption; with none left the rotation is done. -/
def State.rotationSweep (s : State) (i : Nat) : State :=
  match s.ns i with
  | none => s
  | some n =>
    if n.oldSlot.isNone || !s.owned n then s
    else match s.sweepNext i n with
      | some (l, g, o) => s.readMember (.sweep i l) g o
      | none => s.rotationDone i

/-! ## Endpoint entries (R174, R186) -/

/-- A slot that no KEY_EP_PROT entry names any more: a GCM slot that held no key was bound by entries alone and is EMPTY. -/
def State.epRelease (s : State) (n : Nat) : State :=
  match tget s.key.slots n with
  | some k => if k.kind = .gcm && k.state != .loaded && s.epCount n = 0 then { s with key := { s.key with slots := tdel s.key.slots n } } else s
  | none => s

/-- EV_KEY_EP_SLOT_KIND where a KEY_EP_PROT entry names a slot whose kind is not GCM (R186). -/
def State.epKindCheck (s : State) (e : Nat) : State :=
  let slot := s.get KEY_EP_PROT_slot e
  if (tget s.key.slots slot).any fun k => k.kind = .gcm then s else s.raise EV_KEY_EP_SLOT_KIND 0xD slot

/-- KEY_EP_PROT_WRITE (R174, R186): the old slot becomes the previous one; an entry that names a slot of another kind is kept
and reported, at boot once the slots are restored. -/
def State.epWrite (s : State) (e eid len slot : Nat) : State :=
  if 4096 ≤ e then s
  else
    let old := s.get KEY_EP_PROT_slot e
    let s := ((s.set KEY_EP_PROT_eid e eid).set KEY_EP_PROT_prefix_len e len).set KEY_EP_PROT_slot e slot
    let s := { s with key := { s.key with prev := tput s.key.prev e (old, s.dtc) } }.epRelease old
    if s.get KEY_STATUS_state = 0 then s else s.epKindCheck e

/-! ## The DRBG and its failure (R190 to R194) -/

/-- Whether a read or write still has cipher work here (R194): a write not wholly committed, a read or Copy not finished; a
command the partner forwarded brings or takes ciphertext. -/
def State.cipherLeft (s : State) (c : Nat) (x : Cmd) : Bool :=
  !s.cmdAdmin x &&
  (if x.sqe.opcode = 1 then x.remote.isNone &&
      (match tget s.jnl.writes c with | some w => w.done.length != w.blocks.length | none => x.phase != .done)
   else if x.sqe.opcode = 2 then x.remote.isNone && x.phase != .done
   else if x.sqe.opcode = 0x19 then
      (match tget s.jnl.writes c with | some w => w.done.length != w.blocks.length | none => x.phase != .done)
   else false)

/-- The KEY block enters state failed (R194): the event, lanes keep the unit they run, reads and writes with cipher work left
complete with Namespace Not Ready. -/
def State.keyFail (s : State) (t : EvType) : State :=
  let s := (s.set KEY_STATUS_state 0 2).raise t 0 0
  let s := { s with cip := s.cip.keepWaiting fun _ => false }
  s.each ((s.qpe.cmds.filter fun (c, x) => s.cipherLeft c x).map (·.1)) fun s c => s.keyLoss c false

/-- DRBG_RESEED (R190): the generator takes 1,024 samples of the noise source, free values (assumption log 70), which the tests watch:
samples that fail one are not used (R191). -/
def State.drbgReseed (s : State) : State :=
  if s.get KEY_STATUS_state = 2 then s
  else
    let (b, s) := s.freeNoise
    if noiseFails (noiseBits b) then { s with key := { s.key with noiseBad := true } } else s.reseed b

/-- NOISE_TEST_FAIL (R191, R194): where the samples seen fail a test, or a reseed's did, the startup tests are repeated once on 1,024
samples; passed, these seed the generator again, else the block fails. -/
def State.noiseFail (s : State) (l : NoiseRun) : State :=
  if s.get KEY_STATUS_state = 2 || !(s.key.noiseBad || noiseFails l.seen) then s
  else if noiseFails l.again then s.keyFail EV_KEY_DRBG_FAIL
  else
    let s := s.reseed (noiseBytes l.again)
    { s with key := { s.key with noiseBad := false, retried := true } }

/-! ## The rows -/

/-- KEK_AGREE. -/
def execKekAgree (slot : Nat) (persist : Bool) (s : State) : Host.Outcome State Fault Refusal :=
  s.commit { parts := [.ctr, .key, .pair, .freeCtr, .outbox], fields := keyLive }
    (s.kekAgree slot persist)

/-- KEY_IMPORT. -/
def execKeyImport (slot aux kind : Nat) (assured persist : Bool) (s : State) : Host.Outcome State Fault Refusal :=
  s.commit { parts := [.ctr, .key, .pair, .freeCtr, .outbox], fields := keyLive }
    (s.keyImport slot aux kind assured persist)

/-- ZEROISE. -/
def execZeroise (slot : Nat) (s : State) : Host.Outcome State Fault Refusal :=
  s.commit
    { parts := eraseParts,
      fields := keyLive ++ qpeLive ++ rebLive ++ cells ++ firnSeq ++ contexts ++ openSeg ++ [JNL_NEVE_SEQ_next_seq, SLC_LOG_STATUS_out_span] }
    (s.keyZeroise slot)

/-- ROTATE_NS. -/
def execRotateNs (slot i : Nat) (zap : Bool) (s : State) : Host.Outcome State Fault Refusal :=
  s.commit
    { parts := eraseParts,
      fields := keyLive ++ qpeLive ++ rebLive ++ cells ++ firnSeq ++ contexts ++ openSeg ++ [JNL_NEVE_SEQ_next_seq, SLC_LOG_STATUS_out_span] }
    (s.rotateNs slot i zap)

/-- ZEROISE_ALL. -/
def execZeroiseAll (s : State) : Host.Outcome State Fault Refusal :=
  s.commit
    { parts := eraseParts,
      fields := keyLive ++ qpeLive ++ rebLive ++ cells ++ firnSeq ++ contexts ++ openSeg ++ [JNL_NEVE_SEQ_next_seq, SLC_LOG_STATUS_out_span] }
    (s.keyZeroiseAll)

/-- ROTATION_SWEEP. -/
def execRotationSweep (i : Nat) (s : State) : Host.Outcome State Fault Refusal :=
  s.commit
    { parts := [.evt, .ctr, .tel, .hkt, .tms, .swc, .qpe, .nsm, .key, .cip, .hif, .slc, .str, .jnl, .drv, .reb, .pair,
        .freeCtr, .outbox], fields := qpeLive ++ rebLive ++ cells ++ firnSeq ++ contexts ++ openSeg ++
        [JNL_NEVE_SEQ_next_seq, SLC_LOG_STATUS_out_span] }
    (s.rotationSweep i)

/-- KEY_EP_PROT_WRITE. -/
def execKeyEpProtWrite (e eid len slot : Nat) (s : State) : Host.Outcome State Fault Refusal :=
  s.commit { parts := [.evt, .ctr, .key], fields := [KEY_EP_PROT_eid, KEY_EP_PROT_prefix_len, KEY_EP_PROT_slot] }
    (s.epWrite e eid len slot)

/-- PREV_SLOT_EXPIRY (R174): an entry's previous slot is dropped. -/
def execPrevSlotExpiry (e : Nat) (s : State) : Host.Outcome State Fault Refusal :=
  s.commit { parts := [.key] }
    ({ s with key := { s.key with prev := tdel s.key.prev e } } : State)

/-- DRBG_RESEED (R190). -/
def execDrbgReseed (s : State) : Host.Outcome State Fault Refusal :=
  s.commit { parts := [.key, .freeCtr] }
    (s.drbgReseed)

/-- NOISE_TEST_FAIL. -/
def execNoiseTestFail (l : NoiseRun) (s : State) : Host.Outcome State Fault Refusal :=
  s.commit
    { parts := [.evt, .ctr, .swc, .qpe, .nsm, .key, .cip, .jnl, .pair, .freeCtr, .outbox],
      fields := qpeLive ++ [KEY_STATUS_state, JNL_NEVE_STATUS_high_water] }
    (s.noiseFail l)

/-! ## KEY frames (R184) -/

/-- What each side of the pair key's agreement signs: its public key (R184, assumption log 101). -/
def agreeDigest (pub : List Byte) : BitVec 384 := sha384 pub

/-- The pair key's agreement begun at formation (R184): an ephemeral key of the DRBG, signed with the attestation key. -/
def State.keyAgreeSend (s : State) : State :=
  let (v, s) := s.drbgPrivate
  let pub := ecPublic v
  { s with key := { s.key with pairPriv := v, pairKey := none } }.pairSend
    (.key (.agree pub (ecdsaSign (agreeDigest pub)) (ecPublic (ecPrivate Config.attestationKey)) true))

/-- A slot that the partner sent, with its key unwrapped under the pair key; a key that does not unwrap is not taken. -/
def State.putWrapped (s : State) (n : Nat) (k : KeySlot) (w : List Byte) : State :=
  match s.key.pairKey.bind fun p => keyUnwrap p w with
  | some l => s.putKey n k (keyOfBytes l)
  | none => s

/-- One slot of the partner's store merged (R184). -/
def State.mergeSlot (s : State) (n : Nat) (k : KeySlot) (w : List Byte) : State :=
  match tget s.key.slots n with
  | none => if k.state = .loaded then s.putWrapped n k w else s.putBare n k
  | some o =>
    if o.state = .zeroised then s
    else if k.state = .zeroised then s.zeroiseSlot n
    else if k.state = .awaiting then s
    else if o.state = .awaiting then s.putWrapped n { k with bind := o.bind } w
    else if o.check != k.check then (s.zeroiseSlot n).raise EV_KEY_PAIR_CONFLICT 0xD n
    else s

/-- The partner applied the command it was sent. -/
def State.keyApplied (s : State) (slot : Nat) : State :=
  if s.key.awaitAck = some slot then s.keyAlone else s

/-- KEY_FRAME_RX (R184): the pair key agreed and the stores exchanged, a store merged, a command applied and acknowledged, or
the end of this module's own command. -/
def State.keyFrame (s : State) (f : KeyFrame) : State :=
  match f with
  | .agree pub sig cert chainOk =>
    if !(chainOk && onP384 pub && ecdsaVerify cert (agreeDigest pub) sig) then s
    else
      let k := (ecdhSecret s.key.pairPriv pub).extractLsb' 128 256
      let s := { s with key := { s.key with pairKey := some k }, pair := { s.pair with keyed := true } }
      s.pairSend (.key (.store (s.key.slots.map fun (n, (k : KeySlot)) => (n, k.bare, s.wrapped k))))
  | .load n k w =>
    let b := match tget s.key.slots n with | some o => o.bind | none => .none
    (s.putWrapped n { k with bind := b } w).pairSend (.key (.applied n))
  | .zeroise n => (s.zeroiseSlot n).pairSend (.key (.applied n))
  | .zeroiseAll => s.zeroiseAllSlots.pairSend (.key (.applied 65536))
  | .rotate i n zap =>
    let s := match s.ns i with
      | some x => if x.keySlot = n then s
          else { s with nsm := { s.nsm with ns := tput s.nsm.ns i (rotated x n zap (s.slotCheck n)) } }.rebind i
      | none => s
    s.pairSend (.key (.applied n))
  | .applied n => s.keyApplied n
  | .store l =>
    let s := s.each l fun s (n, k, w) => s.mergeSlot n k w
    { s with pair := { s.pair with merged := true } }

end Sys2Proof.Machine
end

