-- ==== Sys2Proof/Machine/WinCore.lean ====
section
/-! DEFINITION. Who may use the register access service (R533, R536) and what the module's windows hold (R65). -/

namespace Sys2Proof.Machine

open F

/-- The rights an EID holds as a management endpoint (R474): the union over matching entries. -/
def State.mgmtRights (s : State) (e : Eid) : Nat :=
  (s.nsm.auth.filter fun a => prefixEq a.len a.eid e).foldl (fun r a => r ||| a.rights) 0

/-- The event rings whose records go to an EID (R510, R533). -/
def State.ringsOf (s : State) (e : Eid) : List Nat :=
  (regNonzero s.regs EVT_RING_DEST_eid).filter fun r => s.get EVT_RING_DEST_eid r = e.toNat && s.get EVT_RING_CFG_target r = 2

/-- The snapshot targets that go to an EID (R521, R533). -/
def State.targetsOf (s : State) (e : Eid) : List Nat :=
  (regNonzero s.regs CTR_TGT_DEST_eid).filter fun j => s.get CTR_TGT_DEST_eid j = e.toNat

/-- Whether a SEND to service 0x0002 from an EID is taken (R536). -/
def State.mgmtAllowed (s : State) (e : Eid) : Bool :=
  (s.mgmtRights e / 2) % 4 != 0 || !(s.ringsOf e).isEmpty || !(s.targetsOf e).isEmpty

/-- Bytes of a range of a window whose named parts lie at offsets; bytes not named read 0. -/
def windowRead (parts : List (Nat × List Byte)) (off len : Nat) : List Byte :=
  (List.range len).map fun j =>
    (parts.findSome? fun (a, l) => if a ≤ off + j then l[off + j - a]? else none).getD 0

/-- The 96 B header of the Rime page and window (R163, R497). -/
def State.rimeHeader (s : State) : List Byte :=
  let n := s.rime.records.length
  leBytes 8 (s.rime.nextSeq - n) ++ leBytes 8 (s.rime.nextSeq - 1) ++ leBytes 4 n ++ leBytes 4 576 ++ List.replicate 24 0 ++
    digestBytes s.rime.anchor

/-- The certificate chain as one blob (R489): its length, 2 B reserved, the SHA-384 of the root certificate, the certificates. -/
def State.certBlob (s : State) : List Byte :=
  let l := s.rime.certs.flatten
  leBytes 2 (52 + l.length) ++ leBytes 2 0 ++ digestBytes (sha384 (s.rime.certs.headD [])) ++ l

/-- Bytes of the Rime log window (R497): header, records, certificate chain. -/
def State.rimeWindow (s : State) (off len : Nat) : List Byte :=
  windowRead ((0, s.rimeHeader) :: ((s.rime.records.zipIdx.map fun (r, i) => (96 + 576 * i, r)) ++ [(0x4000000, s.certBlob)])) off len

/-- The 4 KiB user counter page (R522). -/
def State.compatPage (s : State) : List Byte :=
  leBytes 4 0x43343755 ++ leBytes 4 s.ctr.pageGen ++ leBytes 8 (s.ctr.pageDtc.toNat / 1600) ++ leBytes 2 32 ++ leBytes 2 32 ++
    List.replicate 44 0 ++ s.ctr.page.flatMap (leBytes 8)

/-- A region table entry (R65): entry 1 is the Rime log window (R497), entry 2 the user counter page while CTR_COMPAT_CFG.en = 1 (R522),
the others as assigned. -/
def State.region (s : State) (i : Nat) : Region :=
  if i = 1 then { state := .valid, rd := true, lenPages := 16385 }
  else if i = 2 then
    if s.flag F.CTR_COMPAT_CFG_en then
      { state := .valid, rd := true, scopeLen := min 32 (s.get F.CTR_COMPAT_CFG_prefix_len)
        scopeEid := BitVec.ofNat 32 (s.get F.CTR_COMPAT_CFG_eid), lenPages := 1 }
    else {}
  else tgetD s.hkt.regions i {}

/-- Bytes of a window of the module's own (R65): index 1 the Rime log, index 2 the user counter page. -/
def State.windowBytes (s : State) (idx off len : Nat) : List Byte :=
  if idx = 1 then s.rimeWindow off len else if idx = 2 then windowRead [(0, s.compatPage)] off len else List.replicate len 0

end Sys2Proof.Machine
end

