-- ==== Sys2Proof/Machine/Hif.lean ====
section
/-! DEFINITION. The local host port's own commands (chapter 14): controller enable and disable (R392), bus master (R396,
R397, R417), function reset and links (R386, R398, R400), the peer window (R401, R402), translations (R394, R395), MSI-X
(R393). -/

namespace Sys2Proof.Machine

open F

/-! ## Register resets (R15) -/

/-- The field that a key of the register file names. -/
def fldOf (k : RKey) : Option Fld :=
  regTable.findSome? fun d => if d.base = k.reg then d.fields.find? fun f => f.lo = k.bit else none

/-- A reset of a kind (R15: 1 cold, 2 warm, 4 function, 8 slice) of the registers a predicate picks: what it acts on takes its
reset value. -/
def regReset (r : Table RKey Nat) (kind : Nat) (p : RKey → Bool) : Table RKey Nat :=
  r.filter fun (k, _) => !(p k && (match fldOf k with | some f => f.resetBy k.idx kind | none => false))

/-! ## Admin queues (R392, R409) -/

/-- An admin queue pair brought up for a local owner from its registers (R392): sizes are 0-based; the owner's requests and
notice configuration start anew (R158). -/
def State.adminUp (s : State) (o : QOwner) (asqs acqs asq acq : Nat) : Option State :=
  if asqs = 0 || acqs = 0 then none
  else
    match firstFree s.qpe.qps (s.qpe.qps.length + 1) 0 with
    | none => none
    | some q =>
      let x : Qp := { owner := o, admin := true, qid := 0, sqEntries := asqs + 1, cqEntries := acqs + 1
                      sqBase := BitVec.ofNat 64 (4096 * asq), cqBase := BitVec.ofNat 64 (4096 * acq), vector := 0
                      ien := s.vectorOk o 0 true }
      let f := { tgetD s.nsm.feats o {} with aenMask := 50332416, aers := [] }
      let s := (s.putQp q x).qpeStatus
      some { s with nsm := { s.nsm with feats := tput s.nsm.feats o f } }

/-- The admin queue of the local function comes up (R392): rdy, or cfs where it cannot. -/
def State.hifAdmin (s : State) : State :=
  match s.adminUp .fn (s.get HIF_AQA_asqs) (s.get HIF_AQA_acqs) (s.get HIF_ASQ_base) (s.get HIF_ACQ_base) with
  | some s => s.set HIF_CTRL_STATUS_rdy 0 1
  | none => s.set HIF_CTRL_STATUS_cfs 0 1

/-- HIF_CTRL_ENABLE (R392); before step 11 of the boot the function is not enabled, and en waits (R41). -/
def State.hifEnable (s : State) : State :=
  if s.flag HIF_CTRL_en then s
  else
    let rdy := s.flag HIF_CTRL_STATUS_rdy
    let s := s.set HIF_CTRL_en 0 1
    if rdy then s.set HIF_CTRL_STATUS_cfs 0 1 else if s.functionsOn then s.hifAdmin else s

/-- Step 11 of R479: the local host port functions are enabled; an en that was waiting acts. -/
def State.hifStart (s : State) : State :=
  if s.flag HIF_CTRL_en && !s.flag HIF_CTRL_STATUS_rdy && !s.flag HIF_CTRL_STATUS_cfs then s.hifAdmin else s

/-- Whether nothing of an owner's commands toward host memory remains: no queue pair, request or read (R392, R415). -/
def State.ownerQuiet (s : State) (o : QOwner) : Bool :=
  (s.qpsOf o).isEmpty && !(s.hif.queue.any fun r => r.owner = o) && !(s.hif.reads.any fun r => r.owner = o)

/-- CONTROLLER_RESET_DONE (R392): after en is written 0, rdy falls once every transfer has stopped. -/
def State.controllerDone (s : State) : State :=
  if s.hif.disabling && s.ownerQuiet .fn then { s.set HIF_CTRL_STATUS_rdy 0 0 with hif := { s.hif with disabling := false } } else s

/-- HIF_CTRL_DISABLE (R134, R392). -/
def State.hifDisable (s : State) : State :=
  if !s.flag HIF_CTRL_en then s
  else
    let s := (s.set HIF_CTRL_en 0 0).set HIF_CTRL_STATUS_cfs 0 0
    let s := s.deleteAllOf .fn
    ({ s with
      qpe := { s.qpe with cqs := s.qpe.cqs.filter fun (q : LocalCq) => q.owner != QOwner.fn }
      hif := { s.hif with disabling := true } }).intxUpdate

/-! ## Bus master (R396, R397, R417) -/

/-- Whether an owner is in a group of the bus master rules: 0 and 1 an endpoint, 2 + n slice n alone (R417). -/
def State.inGroup (s : State) (g : Nat) (o : QOwner) : Bool :=
  ownerLocal o && (if g < 2 then s.epOf o = g else o = .slice (g - 2))

/-- Whether a block of a command's data has been received whole. -/
def State.haveBlock (s : State) (c : Nat) (x : Cmd) (b : Nat) : Bool :=
  match tget s.jnl.writes c with
  | some w => w.staged.contains b
  | none => (tget x.data b).isSome ||
      s.cip.units.any fun u => u.use = .cmd c b

/-- Whether a command's transfer with host memory is under way (R396). -/
def State.transferring (s : State) (c : Nat) (x : Cmd) : Bool :=
  x.phase = .started && s.cmdData x != 0 &&
    (x.listing ||
      (if s.cmdAdmin x then decide (0 < adminIn x.sqe) && x.left != 0
       else if x.sqe.opcode = 1 then x.begun && (List.range (s.dataBlocks x)).any fun b => !s.haveBlock c x b
       else x.sqe.opcode = 2 && x.begun))

/-- The bus master of a group is withdrawn (R396): its fetches and the reads of its data are abandoned, the commands whose
transfer was under way noted; what is still to be written waits in order; a dirty mark's word is read again. -/
def State.bmeCut (s : State) (g : Nat) : State :=
  let cut := (s.qpe.cmds.filter fun (c, (x : Cmd)) => (match s.ownerOf x with | some o => s.inGroup g o | none => false) && s.transferring c x).map (·.1)
  let marks := (s.hif.reads.filter fun r => s.inGroup g r.owner).filterMap fun (r : HostRead) => match r.use with
    | .mark _ _ _ => some ({ owner := r.owner, op := .read r.use r.addr r.len } : HostReq)
    | _ => none
  let keep := s.hif.queue.filter fun (r : HostReq) => !s.inGroup g r.owner || match r.op with
    | .read (.mark _ _ _) _ _ => true
    | .read _ _ _ => false
    | _ => true
  let reads := s.hif.reads.map fun (r : HostRead) => if s.inGroup g r.owner then { r with use := .sqe 65536 } else r
  let qps := s.qpe.qps.map fun (q, (x : Qp)) => (q, if s.inGroup g x.owner then { x with fetches := [] } else x)
  let s := { s with
    hif := { s.hif with queue := keep ++ marks, reads := reads, cutCmds := tput s.hif.cutCmds g cut }
    qpe := { s.qpe with qps := qps } }
  let s := s.each cut fun s c => s.modCmd c fun x => { x with bytes := [] }
  if g < 2 then ((s.set HIF_LINK_STATUS_grace g 1).raise EV_HIF_BME_CLEAR 0 g).enter (ctrHif g 5)
  else s.raise EV_HIF_BME_CLEAR 9 (g - 2)

/-- A command goes on where its transfer stopped (R397): its list is read anew, the blocks not received whole are asked
for; one whose reads still wait or run needs nothing. -/
def State.resumeCmd (s : State) (c : Nat) : State :=
  match s.cmd c with
  | none => s
  | some x =>
    let mine (u : DmaUse) : Bool := match u with | .data k _ _ => k = c | .list k => k = c | _ => false
    if (s.hif.queue.any fun r => match r.op with | .read u _ _ => mine u | _ => false) || (s.hif.reads.any fun r => mine r.use) then s
    else if x.listing then (s.modCmd c fun x => { x with listing := false }).ioBegin c
    else if (x.waitList && x.phase = .fetched) || (s.transferring c x && (s.cmdAdmin x || x.sqe.opcode = 1)) then
      s.each ((List.range (s.dataBlocks x)).filter fun b => !s.haveBlock c x b) fun s b => s.pullBlock c b
    else if x.sqe.opcode = 2 && !s.cmdAdmin x then s.readEnd c
    else s

/-- The bus master of a group is given back (R397): what was held goes out in order, interrupted commands go on, fetch
resumes. -/
def State.bmeBack (s : State) (g : Nat) : State :=
  let s := { s with hif := { s.hif with cutCmds := tdel s.hif.cutCmds g } }.hifGo
  let cs := (s.qpe.cmds.filter fun (_, (x : Cmd)) => match s.ownerOf x with | some o => s.inGroup g o && x.phase != .done | none => false).map (·.1)
  let s := s.each cs State.resumeCmd
  s.each ((s.qpe.qps.filter fun (_, (x : Qp)) => s.inGroup g x.owner).map (·.1)) State.fetchIssue

/-- BME_CLEAR (R396). -/
def State.bmeClear (s : State) (e : Nat) : State :=
  if s.flag HIF_LINK_STATUS_bme e then
    let s := s.set HIF_LINK_STATUS_bme e 0
    if s.flag HIF_LINK_STATUS_d3 e then s else s.bmeCut e
  else s

/-- BME_SET (R397): in D3hot the rules stay in force; before step 11 of the boot the function is not enabled (R41). -/
def State.bmeSet (s : State) (e : Nat) : State :=
  if !s.functionsOn || s.flag HIF_LINK_STATUS_bme e || !s.flag HIF_LINK_STATUS_up e || s.hif.inReset.contains e then s
  else
    let s := s.set HIF_LINK_STATUS_bme e 1
    if s.flag HIF_LINK_STATUS_d3 e then s
    else ((s.set HIF_LINK_STATUS_grace e 0).leave (ctrHif e 5)).bmeBack e

/-- D3HOT_ENTRY (R396). -/
def State.d3Entry (s : State) (e : Nat) : State :=
  if s.flag HIF_LINK_STATUS_d3 e || !s.flag HIF_LINK_STATUS_up e || s.hif.inReset.contains e then s
  else
    let s := s.set HIF_LINK_STATUS_d3 e 1
    if s.flag HIF_LINK_STATUS_bme e then s.bmeCut e else s

/-- Bytes of a command's data that still wait to be written to the host. -/
def State.heldBytes (s : State) (c : Nat) : Nat :=
  (s.hif.queue.map fun (r : HostReq) => match r.op with | .write _ d (some k) => if k = c then d.length else 0 | _ => 0).sum

/-- A command the clear interrupted is decided (R397): its CQE carries the bytes moved; a write keeps the blocks received
and frees the slots of the others. -/
def State.dmaAbort (s : State) (c : Nat) : State :=
  match s.cmd c with
  | none => s
  | some x =>
    let dw1 := BitVec.ofNat 32 (x.moved - s.heldBytes c)
    let mine (r : HostReq) : Bool := match r.op with
      | .write _ _ (some k) => k = c
      | .read (.data k _ _) _ _ => k = c
      | .read (.list k) _ _ => k = c
      | _ => false
    let s := { s with hif := { s.hif with queue := s.hif.queue.filter fun r => !mine r } }
    match tget s.jnl.writes c with
    | some w =>
      if w.staged.isEmpty then ((s.dropWrite c).dropStages c).complete c St.dmaAborted 0 dw1
      else
        let rest := w.blocks.filter fun b => !w.staged.contains b
        let s := s.complete c St.dmaAborted 0 dw1
        let s := s.each rest fun s b => (s.slotFree (w.slots.getD b 0)).dropStage c b
        ({ s with jnl := { s.jnl with writes := tput s.jnl.writes c { w with blocks := w.staged } } } : State).commitReady c
    | none => (s.dropStages c).complete c St.dmaAborted 0 dw1

/-- BME_GRACE_EXPIRY (R397): the interrupted commands of the group that are still under way are decided. -/
def State.graceExpiry (s : State) (g : Nat) : State :=
  match tget s.hif.cutCmds g with
  | none => s
  | some l =>
    let due := l.filter fun c => match s.cmd c with | some x => s.transferring c x | none => false
    let s := { s with hif := { s.hif with cutCmds := tdel s.hif.cutCmds g } }
    let s := if g < 2 then s.set HIF_LINK_STATUS_grace g 0 else s
    let s := s.each due State.dmaAbort
    if due.isEmpty then s else if g < 2 then s.raise EV_HIF_DMA_ABORTED 0 g else s.raise EV_HIF_DMA_ABORTED 9 (g - 2)

/-! ## Squashing an owner (R398 steps 1 to 5, R414) -/

/-- A command discarded with its transfer: an acknowledged write goes on, any other changes no further block (R398). -/
def State.squashCmd (s : State) (c : Nat) : State :=
  let s := match tget s.jnl.writes c with
    | some w => if w.acked then s else (s.dropWrite c).dropStages c
    | none => s.dropStages c
  let s := { s with
    jnl := { s.jnl with waiting := s.jnl.waiting.filter (· != c) }
    str := { s.str with waiters := s.str.waiters.filter fun (_, _, k, _) => k != c } }
  s.dropCmd c

/-- The vectors of an owner, as endpoint and vector (R393, R408). -/
def State.ownsVector (s : State) (o : QOwner) (e v : Nat) : Bool :=
  match o with
  | .slice n => if s.slc.e1 = some n then e = 1 else e = 0 && s.sliceVectors n v
  | _ => e = 0 && !(s.slicesUsed.any fun n => s.sliceVectors n v)

/-- Every command, request, queue pair and message of an owner discarded; its reads bring nothing any more (R398). -/
def State.squashOwner (s : State) (o : QOwner) : State :=
  let qs := s.qpsOf o
  let cs := (s.qpe.cmds.filter fun (_, (x : Cmd)) => s.ownerOf x = some o).map (·.1)
  let s := s.each cs State.squashCmd
  let s := s.each qs State.breakWaitsOn
  let f := { tgetD s.nsm.feats o {} with aers := [] }
  let reads := s.hif.reads.map fun (r : HostRead) => if r.owner = o then { r with use := .sqe 65536 } else r
  { s with
    qpe := { s.qpe with
      qps := s.qpe.qps.filter fun (_, (x : Qp)) => x.owner != o
      cqs := s.qpe.cqs.filter fun (q : LocalCq) => q.owner != o }
    nsm := { s.nsm with feats := tput s.nsm.feats o f }
    hif := { s.hif with
      queue := s.hif.queue.filter fun (r : HostReq) => r.owner != o
      reads := reads
      pendVec := s.hif.pendVec.filter fun (e, v) => !s.ownsVector o e v
      coal := s.hif.coal.filter fun ((p, _), _) => p != o } }.qpeStatus

/-- A slice's squash begun (R414). -/
def State.sliceSquash (s : State) (n : Nat) (toFree cmd : Bool) : State :=
  let s := s.squashOwner (.slice n)
  let s := { s with slc := { s.slc with resets := tput s.slc.resets n ⟨false, toFree, s.dtc, cmd⟩ } }
  s.set SLC_STATUS_state n 2

/-! ## Function reset (R398) -/

/-- Whether a register is one of a slice's own (R424, R425): its element is the slice. -/
def sliceReg (k : RKey) : Bool := decide (0x1610000 ≤ k.reg) && decide (k.reg < 0x1700000)

/-- Whether a function reset of an endpoint acts on a register (R403, R424): those of E0 on the HIF registers, SLC_CMD and every
slice but E1's, those of E1 on its slice; each on its own link status. -/
def State.funcReg (s : State) (e : Nat) (k : RKey) : Bool :=
  if k.reg = HIF_LINK_STATUS_up.reg then k.idx = e
  else if e = 0 then
    (decide (0x1500000 ≤ k.reg) && decide (k.reg < 0x1610000)) || (sliceReg k && s.slc.e1 != some k.idx)
  else sliceReg k && s.slc.e1 = some k.idx

/-- The link that an endpoint's reset leaves trained (R387, R398): none where the reset is the link's own, or it was down. -/
def State.linkKept (s : State) (e kind : Nat) : Table Nat (Nat × Nat × Nat) :=
  if kind != 2 && s.flag HIF_LINK_STATUS_up e then
    tput s.hif.link e (s.get HIF_LINK_STATUS_speed e, s.get HIF_LINK_STATUS_width e, s.get HIF_LINK_STATUS_flit e)
  else tdel s.hif.link e

/-- The link fields of an endpoint set (R403). -/
def State.linkShow (s : State) (e up speed width flit : Nat) : State :=
  (((s.set HIF_LINK_STATUS_up e up).set HIF_LINK_STATUS_speed e speed).set HIF_LINK_STATUS_width e width).set HIF_LINK_STATUS_flit e flit

/-- The state a slice that E1 presents has in its registers (R407, R424). -/
def State.e1Defaults (s : State) : State :=
  match s.slc.e1 with
  | some n => ((s.set SLC_STATUS_state n 1).set SLC_CFG_max_qp n 511).set SLC_CFG_pasid_vld n 0
  | none => s

/-- A sync of the slice of E1 that its reset cuts short ends with result 0x1, slice state (assumption log 116); a reset of E0 resets SLC_CMD
itself (R424). -/
def State.syncCut (s : State) (e : Nat) : State :=
  match s.slc.syncing with
  | some x => if e = 1 && s.slc.e1 = some x.1 then
      { (s.set SLC_CMD_busy 0 0).set SLC_CMD_result 0 1 with slc := { s.slc with syncing := none } } else s
  | none => s

/-- FUNCTION_RESET (R398): kind 0 FLR, 1 the exit from D3hot, 2 PERST#, hot reset, link disable or DL_Down. -/
def State.functionReset (s : State) (e kind : Nat) : State :=
  if !s.flag HIF_LINK_STATUS_present e || s.hif.inReset.contains e || (kind = 1 && !s.flag HIF_LINK_STATUS_d3 e) then s
  else
    let s := (s.raise EV_HIF_FLR 0 e).bump (ctrHif e 6)
    let onE (n : Nat) : Bool := if s.slc.e1 = some n then e = 1 else e = 0
    let slices := s.slicesUsed.filter onE
    let s := if e = 0 then s.squashOwner .fn else s
    let s := s.each slices fun s n => s.squashOwner (.slice n)
    let kept := s.linkKept e kind
    let s := { s with regs := regReset s.regs 4 (s.funcReg e) }.e1Defaults
    let s := s.each slices fun s n =>
      ({ s with slc := { s.slc with resets := tput s.slc.resets n ⟨false, e = 0, s.dtc, false⟩ } } : State).set SLC_STATUS_state n 2
    let s := s.syncCut e
    let key (k : Option Nat) : Bool := if e = 1 then k = some 1048576 else k != some 1048576
    let s := { s with
      slc := { s.slc with
        logs := s.slc.logs.filter fun (n, _) => !onE n
        folding := s.slc.folding.filter fun ((n, _, _), _) => !onE n
        syncing := if e = 0 then none else s.slc.syncing
        pausing := if e = 0 then none else s.slc.pausing
        stopped := s.slc.stopped.filter fun n => !onE n }
      hif := { s.hif with
        ats := s.hif.ats.filter (· != e), pasid := s.hif.pasid.filter (· != e)
        cache := s.hif.cache.filter fun (x : AtsEntry) => !key x.pasid
        asked := s.hif.asked.filter fun (k, _) => !key k
        msis := tdel s.hif.msis e, unmasked := s.hif.unmasked.filter fun (p, _) => p != e
        pendVec := s.hif.pendVec.filter fun (p, _) => p != e
        windows := if e = 0 then [] else s.hif.windows
        cutCmds := s.hif.cutCmds.filter fun (g, _) => if g < 2 then g != e else !onE (g - 2)
        disabling := if e = 0 then false else s.hif.disabling
        inReset := s.hif.inReset ++ [e], link := kept }
      rime := { s.rime with spdm := tdel s.rime.spdm e } }
    (s.leave (ctrHif e 5)).intxUpdate

/-- FUNCTION_RESET_DONE (R398 step 6): every outstanding read has ended; a link that stayed trained shows again (assumption log 104). -/
def State.functionDone (s : State) (e : Nat) : State :=
  if s.hif.inReset.contains e && !(s.hif.reads.any fun r => s.epOf r.owner = e) then
    let kept := tget s.hif.link e
    let s := { s with hif := { s.hif with inReset := s.hif.inReset.filter (· != e), link := tdel s.hif.link e } }
    match kept with
    | some (v, w, f) => s.linkShow e 1 v w f
    | none => s
  else s

/-- Whether an endpoint's link is up, its reset or not. -/
def State.linkTrained (s : State) (e : Nat) : Bool := s.flag HIF_LINK_STATUS_up e || (tget s.hif.link e).isSome

/-- HIF_LINK_DOWN (R400): in port mode 1 link h carries endpoint h, else link 0 carries E0; the link is down even where a reset of the
endpoint still runs. -/
def State.hifLinkDown (s : State) (l : Nat) : State :=
  if s.flag HIF_LINK_STATUS_present l && s.linkTrained l then
    let s := (s.functionReset l 2).linkShow l 0 0 0 0
    ({ s with hif := { s.hif with link := tdel s.hif.link l } }.raise EV_HIF_LINK_DOWN 0 l).bump (ctrHif l 14)
  else s

/-- HIF_LINK_UP (R386, R393, R394): the link trains to what both ends and max_speed allow and the endpoint is enumerated. -/
def State.hifLinkUp (s : State) (e : Nat) (c : EpConfig) : State :=
  if !s.flag HIF_LINK_STATUS_present e || s.hif.inReset.contains e then s
  else
    let s := (s.linkShow e 1 (min c.speed (clampNat 4 6 s.hif.idt.maxSpeed)) (min c.width (if s.hif.idt.portMode = 1 then 8 else 16))
      (bit c.flit)).set HIF_LINK_STATUS_int_mode e (min c.intMode 2)
    let ats := s.hif.ats.filter (· != e)
    let pasid := s.hif.pasid.filter (· != e)
    { s with hif := { s.hif with
        msis := tput s.hif.msis e (clampNat 1 (if e = 0 then 32 else 1) c.msis)
        ats := if c.ats && s.hif.idt.atsEn then ats ++ [e] else ats
        pasid := if c.pasid && s.hif.idt.pasidEn && e = 0 then pasid ++ [e] else pasid } }.intxUpdate

/-! ## Interrupts (R393) -/

/-- The owner whose vector of an endpoint it is. -/
def State.vectorOwner (s : State) (e v : Nat) : QOwner :=
  if e = 1 then (match s.slc.e1 with | some n => .slice n | none => .fn)
  else match s.slicesUsed.find? fun n => s.sliceVectors n v with
    | some n => .slice n
    | none => .fn

/-- A pending message of a vector that is no longer masked is sent. -/
def State.pendSend (s : State) (e v : Nat) : State :=
  if s.hif.pendVec.contains (e, v) then
    let out := if s.intMode e = 2 then v else v % max (tgetD s.hif.msis e 1) 1
    { s with hif := { s.hif with pendVec := s.hif.pendVec.filter (· != (e, v)) } }.hostOp (s.vectorOwner e v) (.msg e out)
  else s

/-- MSIX_UNMASK (R393). -/
def State.msixUnmask (s : State) (e v : Nat) : State :=
  let l := s.hif.unmasked
  { s with hif := { s.hif with unmasked := if l.contains (e, v) then l else l ++ [(e, v)] } }.pendSend e v

/-- HIF_INT_MASK written (R393): vectors unmasked under MSI send what is pending; INTA# follows. -/
def State.intMask (s : State) (v : Nat) : State :=
  let s := s.set HIF_INT_MASK_mask 0 v
  let due := s.hif.pendVec.filter fun (e, w) => s.intMode e = 1 && (s.get HIF_INT_MASK_mask 0 / 2 ^ (w % 32)) % 2 = 0
  (s.each due fun s (e, w) => s.pendSend e w).intxUpdate

/-- INT_COALESCE_EXPIRY (R393): the coalescing time of an owner's vector ends. -/
def State.coalesceExpiry (s : State) (o : QOwner) (v : Nat) : State :=
  match tget s.hif.coal (o, v) with
  | some _ => { s with hif := { s.hif with coal := tdel s.hif.coal (o, v) } }.message o (s.epOf o) (s.vectorOf o v)
  | none => s

/-! ## The peer window (R401, R402) -/

/-- PEER_COMMIT (R402): the shadows become the active windows. -/
def State.peerCommit (s : State) : State :=
  let one (w : Nat) : Nat × PeerWindow :=
    (w, { base := 1048576 * s.get HIF_PEER_WIN_base_mib w, len := 1048576 * s.get HIF_PEER_WIN_size_mib w
          rd := s.flag HIF_PEER_WIN_rd w, wr := s.flag HIF_PEER_WIN_wr w
          key := s.get HIF_PEER_TGT_region_key w, page := s.get HIF_PEER_TGT_region_page w })
  let l := ((List.range 64).filter fun w => s.flag HIF_PEER_WIN_en w && s.get HIF_PEER_WIN_size_mib w != 0).map one
  let s := { s with hif := { s.hif with windows := l } }
  (s.set HIF_PEER_COMMIT_pending 0 0).set HIF_PEER_COMMIT_gen 0 (s.get HIF_PEER_COMMIT_gen + 1)

/-- The place a request through BAR4 reaches (R401): the region index and the offset in it, or the window that rejects it. -/
def State.peerTarget (s : State) (write : Bool) (off len : Nat) : Sum (Nat × Nat × Nat) Nat :=
  match s.hif.windows.find? fun (_, (w : PeerWindow)) => decide (w.base ≤ off) && decide (off < w.base + w.len) with
  | none => .inr 64
  | some (k, w) =>
    let r := s.region (w.key % 262144)
    let a := 4096 * w.page + (off - w.base)
    if w.base + w.len < off + len || r.state != .valid || r.tag != w.key / 262144 || r.host || r.protReq ||
        (if write then !w.wr || !r.wr else !w.rd || !r.rd) || decide (4096 * r.lenPages < a + len) then .inr k
    else .inl (w.key % 262144, r.basePage, a)

/-- PEER_WINDOW_ACCESS (R401). -/
def State.peerAccess (s : State) (write : Bool) (off len : Nat) (d : List Byte) : State :=
  if s.hif.idt.bar4Log2 = 0 || decide (2 ^ s.hif.idt.bar4Log2 < off + len) || !s.flag HIF_LINK_STATUS_up 0 then s
  else
    match s.peerTarget write off len with
    | .inr k =>
      let s := (s.bump (ctrHif 0 10)).raiseCo EV_HIF_PEER_REJECT k 0 k
      if write then s else s.send .tlpUnsupported
    | .inl (i, page, a) =>
      if write then { s with mem := memWriteBytes s.mem (4096 * page + a) (d.take len) }
      else s.send (.tlpData (if i ≤ 2 then s.windowBytes i a len else memReadBytes s.mem (4096 * page + a) len))

/-! ## Translations (R394, R395) -/

/-- The cache key of an endpoint's requests with a PASID (R394). -/
def atsKeyOf (e : Nat) (pasid : Option Nat) : Option Nat := if e = 1 then some 1048576 else pasid

/-- ATS_TRANSLATION_COMPLETION (R394): a granted range enters the cache, the oldest entry leaving one that is full; otherwise
the requests that waited for it go untranslated. -/
def State.translation (s : State) (e : Nat) (pasid : Option Nat) (page : Nat) (r : Option (Nat × Nat)) : State :=
  let k := atsKeyOf e pasid
  if !s.hif.asked.contains (k, page) then s
  else
    let s := { s with hif := { s.hif with asked := s.hif.asked.filter (· != (k, page)) } }
    match r with
    | some (pages, base) =>
      let n := clampNat 1 262144 pages
      let x : AtsEntry := { pasid := k, page := page - page % n, pages := n, base := base }
      let l := if s.hif.cache.length < 8192 then s.hif.cache else s.hif.cache.drop 1
      { s with hif := { s.hif with cache := l ++ [x] } }.hifGo
    | none =>
      let mark (q : HostReq) : HostReq :=
        if s.atsKey q.owner = k && (match q.op.addr s.qpe.qps with | some a => a / 4096 = page | none => false) then { q with plain := true } else q
      { s with hif := { s.hif with queue := s.hif.queue.map mark } }.hifGo

/-- ATS_INVALIDATE (R395): matching entries leave the cache; at most 32 run at once. -/
def State.atsInvalidate (s : State) (e tag : Nat) (pasid : Option Nat) (page pages : Nat) : State :=
  if !s.hif.ats.contains e || 32 ≤ s.hif.invals.length then s
  else
    let k := atsKeyOf e pasid
    let s := { s with hif := { s.hif with
      cache := s.hif.cache.filter fun (x : AtsEntry) => !(x.pasid = k && rangesCross x.page x.pages page pages)
      invals := s.hif.invals ++ [({ ep := e, tag := tag, pasid := k, page := page, pages := pages } : Inval)] } }
    (s.inc HIF_ATS_STATUS_invalidations 0).bump (ctrHif e 9)

/-- ATS_INVALIDATE_DONE (R395): no read issued under a removed entry is outstanding. -/
def State.invalidateDone (s : State) (e tag : Nat) : State :=
  match s.hif.invals.find? fun (x : Inval) => x.ep = e && x.tag = tag with
  | none => s
  | some x =>
    let waits := s.hif.reads.any fun (r : HostRead) => match r.under with
      | some (k, p) => k = x.pasid && decide (x.page ≤ p) && decide (p < x.page + x.pages)
      | none => false
    if waits then s
    else { s with hif := { s.hif with invals := s.hif.invals.erase x } }.send (.atsDone e tag)

/-! ## The commands -/

/-- HIF_CTRL_ENABLE. -/
def execHifCtrlEnable (s : State) : Host.Outcome State Fault Refusal :=
  s.commit { parts := [.qpe, .nsm], fields := qpeLive ++ [HIF_CTRL_en, HIF_CTRL_STATUS_cfs, HIF_CTRL_STATUS_rdy] }
    (s.hifEnable)

/-- HIF_CTRL_DISABLE. -/
def execHifCtrlDisable (s : State) : Host.Outcome State Fault Refusal :=
  s.commit { parts := [.ctr, .qpe, .nsm, .hif, .pair, .outbox], fields := qpeLive ++ [HIF_CTRL_en, HIF_CTRL_STATUS_cfs] }
    (s.hifDisable)

/-- CONTROLLER_RESET_DONE. -/
def execControllerResetDone (s : State) : Host.Outcome State Fault Refusal :=
  s.commit { parts := [.hif], fields := [HIF_CTRL_STATUS_rdy] }
    (s.controllerDone)

/-- BME_CLEAR of an endpoint. -/
def execBmeClear (e : Nat) (s : State) : Host.Outcome State Fault Refusal :=
  s.commit { parts := [.evt, .ctr, .qpe, .hif], fields := [HIF_LINK_STATUS_bme, HIF_LINK_STATUS_grace] }
    (s.bmeClear e)

/-- BME_SET of an endpoint. -/
def execBmeSet (e : Nat) (s : State) : Host.Outcome State Fault Refusal :=
  s.commit
    { parts := ioParts,
      fields := qpeLive ++ rebLive ++ cells ++ firnSeq ++ contexts ++ openSeg ++ [HIF_LINK_STATUS_bme, HIF_LINK_STATUS_grace, SLC_LOG_STATUS_out_span] }
    (s.bmeSet e)

/-- BME_GRACE_EXPIRY of a group. -/
def execBmeGraceExpiry (g : Nat) (s : State) : Host.Outcome State Fault Refusal :=
  s.commit
    { parts := [.evt, .ctr, .swc, .qpe, .hif, .str, .jnl, .reb, .pair, .outbox],
      fields := qpeLive ++ rebLive ++ firnSeq ++ [JNL_NEVE_SEQ_next_seq, HIF_LINK_STATUS_grace] }
    (s.graceExpiry g)

/-- D3HOT_ENTRY of an endpoint. -/
def execD3hotEntry (e : Nat) (s : State) : Host.Outcome State Fault Refusal :=
  s.commit { parts := [.evt, .ctr, .qpe, .hif], fields := [HIF_LINK_STATUS_d3, HIF_LINK_STATUS_grace] }
    (s.d3Entry e)

/-- FUNCTION_RESET of an endpoint, of a kind. -/
def execFunctionReset (e kind : Nat) (s : State) : Host.Outcome State Fault Refusal :=
  s.commit
    { parts := [.evt, .ctr, .swc, .qpe, .nsm, .hif, .slc, .str, .jnl, .pair, .rime, .outbox],
      fields := qpeLive ++ [JNL_NEVE_STATUS_high_water],
      blocks := [21, 22] }
    (s.functionReset e kind)

/-- FUNCTION_RESET_DONE. -/
def execFunctionResetDone (e : Nat) (s : State) : Host.Outcome State Fault Refusal :=
  s.commit { parts := [.hif], fields := [HIF_LINK_STATUS_flit, HIF_LINK_STATUS_speed, HIF_LINK_STATUS_up, HIF_LINK_STATUS_width] }
    (s.functionDone e)

/-- HIF_LINK_DOWN of a link. -/
def execHifLinkDown (l : Nat) (s : State) : Host.Outcome State Fault Refusal :=
  s.commit
    { parts := [.evt, .ctr, .swc, .qpe, .nsm, .hif, .slc, .str, .jnl, .pair, .rime, .outbox],
      fields := qpeLive ++ [JNL_NEVE_STATUS_high_water],
      blocks := [21, 22] }
    (s.hifLinkDown l)

/-- HIF_LINK_UP of an endpoint. -/
def execHifLinkUp (e : Nat) (c : EpConfig) (s : State) : Host.Outcome State Fault Refusal :=
  s.commit
    { parts := [.hif, .outbox],
      fields := [HIF_LINK_STATUS_flit, HIF_LINK_STATUS_int_mode, HIF_LINK_STATUS_speed, HIF_LINK_STATUS_up, HIF_LINK_STATUS_width] }
    (s.hifLinkUp e c)

/-- PEER_WINDOW_ACCESS. -/
def execPeerWindowAccess (write : Bool) (off len : Nat) (d : List Byte) (s : State) : Host.Outcome State Fault Refusal :=
  s.commit { parts := [.mem, .evt, .ctr, .outbox] }
    (s.peerAccess write off len d)

/-- PEER_COMMIT. -/
def execPeerCommit (s : State) : Host.Outcome State Fault Refusal :=
  s.commit { parts := [.hif], fields := [HIF_PEER_COMMIT_gen, HIF_PEER_COMMIT_pending] }
    (s.peerCommit)

/-- ATS_INVALIDATE. -/
def execAtsInvalidate (e tag : Nat) (pasid : Option Nat) (page pages : Nat) (s : State) : Host.Outcome State Fault Refusal :=
  s.commit { parts := [.ctr, .hif], fields := [HIF_ATS_STATUS_invalidations] }
    (s.atsInvalidate e tag pasid page pages)

/-- ATS_INVALIDATE_DONE. -/
def execAtsInvalidateDone (e tag : Nat) (s : State) : Host.Outcome State Fault Refusal :=
  s.commit { parts := [.hif, .outbox] }
    (s.invalidateDone e tag)

/-- ATS_TRANSLATION_COMPLETION. -/
def execAtsTranslationCompletion (e : Nat) (pasid : Option Nat) (page : Nat) (r : Option (Nat × Nat)) (s : State) :
    Host.Outcome State Fault Refusal :=
  s.commit { parts := vectorParts ++ [.tel, .qpe], fields := [SLC_LOG_STATUS_out_span] }
    (s.translation e pasid page r)

/-- MSIX_UNMASK. -/
def execMsixUnmask (e v : Nat) (s : State) : Host.Outcome State Fault Refusal :=
  s.commit { parts := vectorParts ++ [.tel, .qpe], fields := [SLC_LOG_STATUS_out_span] }
    (s.msixUnmask e v)

/-- INT_COALESCE_EXPIRY of an owner's vector. -/
def execIntCoalesceExpiry (o : QOwner) (v : Nat) (s : State) : Host.Outcome State Fault Refusal :=
  s.commit { parts := vectorParts ++ [.tel, .qpe], fields := [SLC_LOG_STATUS_out_span] }
    (s.coalesceExpiry o v)

end Sys2Proof.Machine
end

