-- ==== Sys2Proof/Machine/Slc.lean ====
section
/-! DEFINITION. Serac slices (chapter 15): creating, resizing, resetting (R405 to R416), pause and queue state (R418, R419),
dirty-page logging (R420 to R423), controller groups (R409), PASID Enable (R417). -/

namespace Sys2Proof.Machine

open F

/-! ## Commands and the configuration image (R404 to R408, R424) -/

/-- A slice command ends with a result (R424). -/
def State.slcEnd (s : State) (r : Nat) : State := (s.set SLC_CMD_busy 0 0).set SLC_CMD_result 0 r

/-- A slice command: ignored while one runs (R424). -/
def State.slcRun (s : State) (f : State → State) : State := if s.flag SLC_CMD_busy then s else f s

/-- An image of SLC_CFG (R406, R424). -/
structure SlcImage where
  vld   : Bool
  pasid : Nat
  maxQp : Nat
  base  : Nat
  count : Nat
  deriving DecidableEq, Repr

/-- The image in SLC_CMD_DATA[0]. -/
def State.slcImage (s : State) : SlcImage :=
  let d := s.get SLC_CMD_DATA_data 0
  ⟨d / 2 ^ 63 = 1, d / 2 ^ 43 % 2 ^ 20, d / 2 ^ 31 % 512, d / 2 ^ 18 % 2048, d / 2 ^ 9 % 512⟩

/-- The slices that are ACTIVE on E0, other than one. -/
def State.otherSlices (s : State) (n : Nat) : List Nat :=
  s.slicesUsed.filter fun m => m != n && s.get SLC_STATUS_state m = 1 && s.slc.e1 != some m

/-- Whether the local function has a CQ with interrupts on a vector from `a` on, `n` of them. -/
def State.fnVectorIn (s : State) (a n : Nat) : Bool :=
  let hit (v : Nat) : Bool := decide (a ≤ v) && decide (v < a + n)
  (s.qpe.qps.any fun (_, (x : Qp)) => x.owner = .fn && x.ien && hit x.vector) ||
    (s.qpe.cqs.any fun (x : LocalCq) => x.owner = .fn && x.ien && hit x.vector)

/-- The conditions of R406 that fail CREATE and RESIZE; more than 256 vectors are no value of the field (DEDUCED, R424). -/
def State.slcBad (s : State) (n : Nat) (c : SlcImage) : Bool :=
  c.maxQp = 0 || decide (256 < c.count) || decide (s.hif.idt.msixE0 < c.base + c.count) ||
    ((s.otherSlices n).any fun m => decide (c.base < s.get SLC_CFG_vec_base m + s.get SLC_CFG_vec_count m) &&
      decide (s.get SLC_CFG_vec_base m < c.base + c.count) && c.count != 0 && s.get SLC_CFG_vec_count m != 0) ||
    s.fnVectorIn c.base c.count || (c.vld && !s.hif.idt.pasidEn) ||
    (c.vld && (s.otherSlices n).any fun m => s.flag SLC_CFG_pasid_vld m && s.get SLC_CFG_pasid m = c.pasid)

/-- A slice's configuration set from an image. -/
def State.slcConfig (s : State) (n : Nat) (c : SlcImage) : State :=
  ((((s.set SLC_CFG_pasid_vld n (bit c.vld)).set SLC_CFG_pasid n c.pasid).set SLC_CFG_max_qp n c.maxQp).set
    SLC_CFG_vec_base n c.base).set SLC_CFG_vec_count n c.count

/-- SLC_CREATE (R406, R407). -/
def State.slcCreate (s : State) (n : Nat) (paused : Bool) : State :=
  s.slcRun fun s =>
    if s.slc.e1 = some n || s.get SLC_STATUS_state n != 0 then s.slcEnd 1
    else if s.slcBad n s.slcImage then s.slcEnd 2
    else
      let s := ((s.slcConfig n s.slcImage).set SLC_STATUS_state n 1).set SLC_STATUS_paused n (bit paused)
      let rest := s.slc.stopped.filter (· != n)
      { s with slc := { s.slc with shape := tdel s.slc.shape n, stopped := if paused then rest ++ [n] else rest } }.slcEnd 0

/-- Whether a slice has a queue pair. -/
def State.sliceQps (s : State) (n : Nat) : Nat := (s.qpsOf (.slice n)).length

/-- One more than the highest vector of a slice's CQs (R412). -/
def State.sliceIvs (s : State) (n : Nat) : Nat :=
  ((s.qpe.qps.filterMap fun (_, (x : Qp)) => if x.owner = .slice n && x.ien then some (x.vector + 1) else none) ++
    (s.qpe.cqs.filterMap fun (x : LocalCq) => if x.owner = .slice n && x.ien then some (x.vector + 1) else none)).foldl max 0

/-- SLC_RESIZE (R407, R412, R413): all or nothing; what is pending or held moves to the new vectors. -/
def State.slcResize (s : State) (n : Nat) : State :=
  s.slcRun fun s =>
    let c := s.slcImage
    if s.get SLC_STATUS_state n != 1 then s.slcEnd 1
    else if s.slc.e1 = some n then (if c.maxQp = 0 then s.slcEnd 2 else (s.set SLC_CFG_max_qp n c.maxQp).slcEnd 0)
    else if s.slcBad n c then s.slcEnd 2
    else if (c.vld != s.flag SLC_CFG_pasid_vld n || c.pasid != s.get SLC_CFG_pasid n) && (s.flag SLC_CTRL_en n || s.sliceQps n != 0) then s.slcEnd 1
    else if c.count < s.sliceIvs n then s.slcEnd 3
    else
      let a := s.get SLC_CFG_vec_base n
      let m := s.get SLC_CFG_vec_count n
      let new (v : Nat) : Nat := if decide (a ≤ v) && decide (v < a + m) then c.base + (v - a) else v
      let moved := s.hif.pendVec.filter fun (e, v) => e = 0 && decide (a ≤ v) && decide (v < a + m)
      let held (r : HostReq) : HostReq := match r.op with
        | .msg e v => if r.owner = .slice n && s.intMode 0 = 2 then { r with op := .msg e (new v) } else r
        | _ => r
      let pend := s.hif.pendVec.map fun (e, v) => (e, if e = 0 then new v else v)
      let s : State := { s with hif := { s.hif with pendVec := pend, queue := s.hif.queue.map held } }
      let s := s.slcConfig n c
      let free (v : Nat) : Bool := if s.intMode 0 = 2 then s.hif.unmasked.contains (0, v)
        else (s.get HIF_INT_MASK_mask 0 / 2 ^ (v % 32)) % 2 = 0
      (s.each ((moved.map fun (_, v) => new v).filter free) fun s v => s.pendSend 0 v).slcEnd 0

/-! ## Reset (R414 to R416) -/

/-- A drain reset begins (R134, R414). -/
def State.sliceDrain (s : State) (n : Nat) (cmd : Bool) : State :=
  let s := s.deleteAllOf (.slice n)
  let s := { s with
    qpe := { s.qpe with cqs := s.qpe.cqs.filter fun (q : LocalCq) => q.owner != QOwner.slice n }
    slc := { s.slc with resets := tput s.slc.resets n ⟨true, false, s.dtc, cmd⟩ } }
  s.set SLC_STATUS_state n 2

/-- SLC_DESTROY (R407, R414). -/
def State.slcDestroy (s : State) (n : Nat) : State :=
  s.slcRun fun s =>
    if s.slc.e1 = some n || s.get SLC_STATUS_state n != 1 then s.slcEnd 1
    else (s.set SLC_CMD_busy 0 1).sliceSquash n true true

/-- SLC_RESET_DRAIN (R414). -/
def State.slcResetDrain (s : State) (n : Nat) : State :=
  s.slcRun fun s => if s.get SLC_STATUS_state n != 1 then s.slcEnd 1 else (s.set SLC_CMD_busy 0 1).sliceDrain n true

/-- SLC_RESET_SQUASH (R414, R416): it takes over from a drain at once; a squash under way it waits for. -/
def State.slcResetSquash (s : State) (n : Nat) : State :=
  s.slcRun fun s =>
    if s.get SLC_STATUS_state n = 0 then s.slcEnd 1
    else (s.set SLC_CMD_busy 0 1).sliceSquash n (match tget s.slc.resets n with | some r => r.toFree | none => false) true

/-- SLC_DRAIN_TIMEOUT (R414): the drain goes on as a squash. -/
def State.drainTimeout (s : State) (n : Nat) : State :=
  match tget s.slc.resets n with
  | some r => if r.drain then s.sliceSquash n r.toFree r.cmd else s
  | none => s

/-- SLC_RESET_DONE (R415, R416). -/
def State.sliceResetDone (s : State) (n : Nat) : State :=
  match tget s.slc.resets n with
  | none => s
  | some r =>
    if !s.ownerQuiet (.slice n) then s
    else
      let s := { s with
        regs := regReset s.regs 8 fun k => decide (0x1680000 ≤ k.reg) && decide (k.reg < 0x1700000) && k.idx = n
        slc := { s.slc with resets := tdel s.slc.resets n } }
      let s := if r.toFree then
          let s := { s with
            regs := regReset s.regs 4 fun k => (k.reg = SLC_CFG_max_qp.reg || k.reg = SLC_STATUS_state.reg) && k.idx = n
            slc := { s.slc with stopped := s.slc.stopped.filter (· != n) } }
          s.set SLC_STATUS_state n 0
        else s.set SLC_STATUS_state n 1
      let s := if r.cmd then s.slcEnd 0 else s
      s.raise EV_SLC_RESET_DONE 9 n

/-! ## Pause and queue state (R418, R419) -/

/-- Commands in flight of a slice (SLC_STATUS.inflight): fetched and without a posted CQE. -/
def State.sliceInflight (s : State) (n : Nat) : Nat :=
  (s.qpe.cmds.filter fun (_, (x : Cmd)) => s.ownerOf x = some (.slice n)).length

/-- SLC_PAUSE (R418). -/
def State.slcPause (s : State) (n : Nat) : State :=
  s.slcRun fun s =>
    if s.get SLC_STATUS_state n != 1 then s.slcEnd 1
    else
      let s := s.set SLC_CMD_busy 0 1
      { s with slc := { s.slc with
          pausing := some (n, s.dtc), stopped := s.slc.stopped.filter (· != n) ++ [n] } }

/-- SLC_PAUSE_QUIESCED (R418). -/
def State.pauseDone (s : State) : State :=
  match s.slc.pausing with
  | some (n, _) =>
    if s.sliceInflight n != 0 then s
    else ({ s with slc := { s.slc with pausing := none } }.set SLC_STATUS_paused n 1).slcEnd 0
  | none => s

/-- SLC_PAUSE_TIMEOUT (R418): fetch stays stopped. -/
def State.pauseTimeout (s : State) : State :=
  match s.slc.pausing with
  | some (n, _) =>
    if s.sliceInflight n = 0 then s
    else ({ s with slc := { s.slc with pausing := none } }.slcEnd 5).raise EV_SLC_PAUSE_TIMEOUT 9 n
  | none => s

/-- SLC_RESUME (R418). -/
def State.slcResume (s : State) (n : Nat) : State :=
  s.slcRun fun s =>
    if s.get SLC_STATUS_state n != 1 then s.slcEnd 1
    else
      let s := { s with slc := { s.slc with stopped := s.slc.stopped.filter (· != n) } }.set SLC_STATUS_paused n 0
      (s.each (s.qpsOf (.slice n)) State.fetchIssue).slcEnd 0

/-- SLC_SAVE_QP (R419). -/
def State.slcSave (s : State) (n : Nat) : State :=
  s.slcRun fun s =>
    if s.get SLC_STATUS_state n != 1 || !s.flag SLC_STATUS_paused n then s.slcEnd 1
    else
      let qid := s.get SLC_CMD_DATA_data 0 % 512
      match (s.qpnOf (.slice n) qid).bind s.qp with
      | none => s.slcEnd 2
      | some x =>
        let w0 := x.sqBase.toNat / 4096 * 4096 + qid
        let w1 := x.cqBase.toNat / 4096 * 4096 + 512 * bit x.ien + x.vector % 512
        let w2 := 2 ^ 52 * (x.sqEntries - 1) + 2 ^ 40 * (x.cqEntries - 1) + 2 ^ 28 * x.sqHead + 65536 * x.cqTail + x.cqSeq
        let w3 := 2 ^ 63 * bit x.cqPhase + 2 ^ 32 * x.cqHead + x.cmplCount
        ((((s.set SLC_CMD_DATA_data 0 w0).set SLC_CMD_DATA_data 1 w1).set SLC_CMD_DATA_data 2 w2).set SLC_CMD_DATA_data 3 w3).slcEnd 0

/-- SLC_RESTORE_QP (R419): the admin queue on a controller that is disabled, which it enables; the others of the slice after
it (DEDUCED). -/
def State.slcRestore (s : State) (n : Nat) : State :=
  s.slcRun fun s =>
    let w (j : Nat) : Nat := s.get SLC_CMD_DATA_data j
    let qid := w 0 % 512
    if s.get SLC_STATUS_state n != 1 || !s.flag SLC_STATUS_paused n || (qid = 0 && s.flag SLC_CTRL_en n) then s.slcEnd 1
    else
      let sqn := w 2 / 2 ^ 52 + 1
      let cqn := w 2 / 2 ^ 40 % 4096 + 1
      let sqHead := w 2 / 2 ^ 28 % 4096
      let cqTail := w 2 / 2 ^ 16 % 4096
      let cqHead := w 3 / 2 ^ 32 % 4096
      let ien := w 1 / 512 % 2 = 1
      let iv := w 1 % 512
      let bad := (s.qpnOf (.slice n) qid).isSome || decide (s.maxQid (.slice n) < qid) ||
        (qid != 0 && decide (s.maxQid (.slice n) ≤ s.ioQueues (.slice n))) || decide (sqn < 2) || decide (cqn < 2) ||
        decide (sqn ≤ sqHead) || decide (cqn ≤ cqTail) || decide (cqn ≤ cqHead) || !s.vectorOk (.slice n) iv ien
      match bad, firstFree s.qpe.qps (s.qpe.qps.length + 1) 0 with
      | false, some q =>
        let x : Qp := { owner := .slice n, admin := qid = 0, qid := qid, cqid := qid, sqEntries := sqn, cqEntries := cqn
                        sqBase := BitVec.ofNat 64 (w 0 / 4096 * 4096), cqBase := BitVec.ofNat 64 (w 1 / 4096 * 4096)
                        sqHead := sqHead, sqTail := sqHead, cqHead := cqHead, cqTail := cqTail, cqPhase := w 3 / 2 ^ 63 = 1
                        cqSeq := w 2 % 65536, cmplCount := w 3 % 2 ^ 32, vector := iv, ien := ien }
        let s := (s.putQp q x).qpeStatus
        let s := if qid = 0 then (s.set SLC_CTRL_en n 1).set SLC_CTRL_STATUS_rdy n 1 else s
        s.slcEnd 0
      | _, _ => s.slcEnd 2

/-! ## Dirty-page logging (R420 to R423) -/

/-- SLC_LOG_START (R420, R421). -/
def State.logStart (s : State) (n : Nat) : State :=
  s.slcRun fun s =>
    let w (j : Nat) : Nat := s.get SLC_CMD_DATA_data j
    if s.get SLC_STATUS_state n != 1 || (tget s.slc.logs n).isSome then s.slcEnd 1
    else if 64 ≤ s.slc.logs.length then s.slcEnd 4
    else if w 0 % 4096 != 0 || w 1 % 4096 != 0 || w 2 % 4096 != 0 || w 3 = 0 || decide (2 ^ 30 ≤ w 3) then s.slcEnd 2
    else
      let l : SliceLog := { bufA := w 0, bufB := w 1, lo := w 2, pages := w 3 }
      let s := { s with slc := { s.slc with logs := tput s.slc.logs n l } }
      ((s.set SLC_LOG_STATUS_on n 1).set SLC_LOG_STATUS_active n 0).slcEnd 0

/-- A sync completes once every mark of its buffer is written (R423); the last one of a log frees its slot. -/
def State.syncCheck (s : State) : State :=
  match s.slc.syncing with
  | none => s
  | some (n, buf, _, last) =>
    if (s.slc.folding.any fun ((m, b, _), _) => m = n && b = buf) ||
        (s.hif.queue.any fun (r : HostReq) => r.owner = .fn && match r.op with | .write _ _ none => true | _ => false) then s
    else
      let s := s.inc SLC_LOG_STATUS_syncs n
      let s := { s with slc := { s.slc with syncing := none, logs := if last then tdel s.slc.logs n else tmod s.slc.logs n fun l => { l with raised := false } } }
      (if last then s.set SLC_LOG_STATUS_on n 0 else s).slcEnd 0

/-- LOG_SYNC and LOG_STOP (R423): the other buffer becomes active, the marks of the old one are folded; refused while the slice is
RESETTING (R416). -/
def State.logSync (s : State) (n : Nat) (last : Bool) : State :=
  s.slcRun fun s =>
    match if s.get SLC_STATUS_state n = 2 then none else tget s.slc.logs n with
    | none => s.slcEnd 1
    | some l =>
      let old := s.get SLC_LOG_STATUS_active n
      let due := l.marks.filter fun ((b, _), _) => b = old
      let s := (s.set SLC_CMD_busy 0 1).set SLC_LOG_STATUS_active n (1 - old)
      let rest := l.marks.filter fun ((b, _), _) => b != old
      let words := due.map fun ((_, w), _) => w
      let s : State := { s with slc := { s.slc with logs := tput s.slc.logs n { l with marks := rest }, syncing := some (n, old, words, last) } }
      ((s.each due fun s ((b, w), v) => s.foldMark n b w v l).hifGo).syncCheck

/-! ## Controller groups and PASID Enable (R409, R417, R425) -/

/-- SLC_CTRL_ENABLE (R392, R409, R425): a FREE slice ignores it; in a slice that is RESETTING en is set, and no admin queue comes up before
reset-done returns the group to its reset values (assumption log 61). -/
def State.sliceEnable (s : State) (n : Nat) : State :=
  if s.get SLC_STATUS_state n = 0 || s.flag SLC_CTRL_en n then s
  else
    let rdy := s.flag SLC_CTRL_STATUS_rdy n
    let s := s.set SLC_CTRL_en n 1
    if rdy then s.set SLC_CTRL_STATUS_cfs n 1
    else if s.get SLC_STATUS_state n != 1 || !s.functionsOn then s
    else
      match s.adminUp (.slice n) (s.get SLC_AQA_asqs n) (s.get SLC_AQA_acqs n) (s.get SLC_ASQ_base n) (s.get SLC_ACQ_base n) with
      | some s => s.set SLC_CTRL_STATUS_rdy n 1
      | none => s.set SLC_CTRL_STATUS_cfs n 1

/-- SLC_CTRL_DISABLE (R409, R414): a slice that is RESETTING goes on with its reset. -/
def State.sliceDisable (s : State) (n : Nat) : State :=
  if s.get SLC_STATUS_state n = 0 || !s.flag SLC_CTRL_en n then s
  else
    let s := (s.set SLC_CTRL_en n 0).set SLC_CTRL_STATUS_cfs n 0
    if s.get SLC_STATUS_state n = 1 then s.sliceDrain n false else s

/-- PASID_ENABLE_CLEAR (R417): the bit cleared, or set again. -/
def State.pasidEnable (s : State) (on : Bool) : State :=
  let l := (s.slicesUsed.filter fun n => s.slc.e1 != some n && s.flag SLC_CFG_pasid_vld n)
  if on then
    if s.hif.pasid.contains 0 || !s.hif.idt.pasidEn then s
    else
      let s := { s with hif := { s.hif with pasid := s.hif.pasid ++ [0] } }
      s.each (l.map (2 + ·)) State.bmeBack
  else if s.hif.pasid.contains 0 then
    let s := { s with hif := { s.hif with pasid := s.hif.pasid.filter (· != 0) } }
    s.each (l.map (2 + ·)) State.bmeCut
  else s

/-! ## The commands -/

/-- SLC_CREATE. -/
def execSlcCreate (n : Nat) (paused : Bool) (s : State) : Host.Outcome State Fault Refusal :=
  s.commit { parts := [.slc], fields := slcLive }
    (s.slcCreate n paused)

/-- SLC_DESTROY. -/
def execSlcDestroy (n : Nat) (s : State) : Host.Outcome State Fault Refusal :=
  s.commit
    { parts := [.evt, .ctr, .swc, .qpe, .nsm, .hif, .slc, .str, .jnl, .pair, .outbox],
      fields := qpeLive ++ [JNL_NEVE_STATUS_high_water, SLC_CMD_busy, SLC_CMD_result, SLC_STATUS_state] }
    (s.slcDestroy n)

/-- SLC_RESIZE. -/
def execSlcResize (n : Nat) (s : State) : Host.Outcome State Fault Refusal :=
  s.commit { parts := vectorParts ++ [.tel, .qpe], fields := slcLive }
    (s.slcResize n)

/-- SLC_RESET_DRAIN. -/
def execSlcResetDrain (n : Nat) (s : State) : Host.Outcome State Fault Refusal :=
  s.commit
    { parts := [.ctr, .qpe, .nsm, .slc, .pair, .outbox],
      fields := qpeLive ++ [SLC_CMD_busy, SLC_CMD_result, SLC_STATUS_state] }
    (s.slcResetDrain n)

/-- SLC_RESET_SQUASH. -/
def execSlcResetSquash (n : Nat) (s : State) : Host.Outcome State Fault Refusal :=
  s.commit
    { parts := [.evt, .ctr, .swc, .qpe, .nsm, .hif, .slc, .str, .jnl, .pair, .outbox],
      fields := qpeLive ++ [JNL_NEVE_STATUS_high_water, SLC_CMD_busy, SLC_CMD_result, SLC_STATUS_state] }
    (s.slcResetSquash n)

/-- SLC_DRAIN_TIMEOUT. -/
def execSlcDrainTimeout (n : Nat) (s : State) : Host.Outcome State Fault Refusal :=
  s.commit
    { parts := [.evt, .ctr, .swc, .qpe, .nsm, .hif, .slc, .str, .jnl, .pair, .outbox],
      fields := qpeLive ++ [JNL_NEVE_STATUS_high_water, SLC_STATUS_state] }
    (s.drainTimeout n)

/-- SLC_RESET_DONE. -/
def execSlcResetDone (n : Nat) (s : State) : Host.Outcome State Fault Refusal :=
  s.commit { parts := [.evt, .ctr, .slc], blocks := [22] }
    (s.sliceResetDone n)

/-- SLC_PAUSE. -/
def execSlcPause (n : Nat) (s : State) : Host.Outcome State Fault Refusal :=
  s.commit { parts := [.slc], fields := [SLC_CMD_busy, SLC_CMD_result] }
    (s.slcPause n)

/-- SLC_PAUSE_QUIESCED. -/
def execSlcPauseQuiesced (s : State) : Host.Outcome State Fault Refusal :=
  s.commit { parts := [.slc], fields := [SLC_CMD_busy, SLC_CMD_result, SLC_STATUS_paused] }
    (s.pauseDone)

/-- SLC_PAUSE_TIMEOUT. -/
def execSlcPauseTimeout (s : State) : Host.Outcome State Fault Refusal :=
  s.commit { parts := [.evt, .ctr, .slc], fields := [SLC_CMD_busy, SLC_CMD_result] }
    (s.pauseTimeout)

/-- SLC_RESUME. -/
def execSlcResume (n : Nat) (s : State) : Host.Outcome State Fault Refusal :=
  s.commit { parts := fetchParts, fields := slcLive ++ cells ++ contexts }
    (s.slcResume n)

/-- SLC_LOG_START. -/
def execSlcLogStart (n : Nat) (s : State) : Host.Outcome State Fault Refusal :=
  s.commit { parts := [.slc], fields := [SLC_CMD_busy, SLC_CMD_result, SLC_LOG_STATUS_active, SLC_LOG_STATUS_on] }
    (s.logStart n)

/-- SLC_LOG_STOP. -/
def execSlcLogStop (n : Nat) (s : State) : Host.Outcome State Fault Refusal :=
  s.commit
    { parts := vectorParts ++ [.tel, .qpe], fields := [SLC_CMD_busy, SLC_CMD_result, SLC_LOG_STATUS_active,
        SLC_LOG_STATUS_on, SLC_LOG_STATUS_out_span, SLC_LOG_STATUS_syncs] }
    (s.logSync n true)

/-- SLC_LOG_SYNC. -/
def execSlcLogSync (n : Nat) (s : State) : Host.Outcome State Fault Refusal :=
  s.commit
    { parts := vectorParts ++ [.tel, .qpe], fields := [SLC_CMD_busy, SLC_CMD_result, SLC_LOG_STATUS_active,
        SLC_LOG_STATUS_on, SLC_LOG_STATUS_out_span, SLC_LOG_STATUS_syncs] }
    (s.logSync n false)

/-- SLC_SAVE_QP. -/
def execSlcSaveQp (n : Nat) (s : State) : Host.Outcome State Fault Refusal :=
  s.commit { fields := [SLC_CMD_busy, SLC_CMD_result, SLC_CMD_DATA_data] }
    (s.slcSave n)

/-- SLC_RESTORE_QP. -/
def execSlcRestoreQp (n : Nat) (s : State) : Host.Outcome State Fault Refusal :=
  s.commit { parts := [.qpe], fields := qpeLive ++ [SLC_CMD_busy, SLC_CMD_result, SLC_CTRL_en, SLC_CTRL_STATUS_rdy] }
    (s.slcRestore n)

/-- SLC_CTRL_ENABLE. -/
def execSlcCtrlEnable (n : Nat) (s : State) : Host.Outcome State Fault Refusal :=
  s.commit { parts := [.qpe, .nsm], fields := qpeLive ++ [SLC_CTRL_en, SLC_CTRL_STATUS_cfs, SLC_CTRL_STATUS_rdy] }
    (s.sliceEnable n)

/-- SLC_CTRL_DISABLE. -/
def execSlcCtrlDisable (n : Nat) (s : State) : Host.Outcome State Fault Refusal :=
  s.commit
    { parts := [.ctr, .qpe, .nsm, .slc, .pair, .outbox],
      fields := qpeLive ++ [SLC_STATUS_state, SLC_CTRL_en, SLC_CTRL_STATUS_cfs] }
    (s.sliceDisable n)

/-- PASID_ENABLE_CLEAR: the bit's new value. -/
def execPasidEnableClear (on : Bool) (s : State) : Host.Outcome State Fault Refusal :=
  s.commit
    { parts := ioParts,
      fields := qpeLive ++ rebLive ++ cells ++ firnSeq ++ contexts ++ openSeg ++ [HIF_LINK_STATUS_grace, SLC_LOG_STATUS_out_span] }
    (s.pasidEnable on)

/-- LOCAL_DMA_COMPLETION (R112, R115, R422): the bytes a read of host memory brings; a sync or a reset may end with it. -/
def execLocalDmaCompletion (j : Nat) (d : List Byte) (s : State) : Host.Outcome State Fault Refusal :=
  s.commit
    { parts := ioParts,
      fields := qpeLive ++ rebLive ++ slcLive ++ cells ++ firnSeq ++ contexts ++ openSeg ++ [JNL_NEVE_SEQ_next_seq] }
    (s.dmaCompletion j d).syncCheck

/-- DMA_COMPLETION_TIMEOUT (R400). -/
def execDmaCompletionTimeout (j : Nat) (abort : Bool) (s : State) : Host.Outcome State Fault Refusal :=
  s.commit
    { parts := [.evt, .ctr, .swc, .qpe, .nsm, .hif, .slc, .jnl, .pair, .outbox],
      fields := qpeLive ++ slcLive ++ [JNL_NEVE_STATUS_high_water] }
    (s.dmaTimeout j abort).syncCheck

end Sys2Proof.Machine
end

