-- ==== Sys2Proof/Machine/Image.lean ====
section
/-! DEFINITION. The configuration image (chapter 18): header, sections, manifest (R471 to R474), verification (R475). -/

namespace Sys2Proof.Machine

/-- A section table entry (R471). -/
structure ImgSec where
  type : Nat
  off  : Nat
  len  : Nat
  crc  : Nat
  deriving DecidableEq, Repr

/-- The largest image (R468). -/
def imageMax : Nat := 67104768

/-- The section table of an image. -/
def imgSecs (b : List Byte) : List ImgSec :=
  (List.range (min (leAt b 6 2) 32)).map fun j =>
    let o := 256 + 16 * j
    ⟨leAt b o 2, leAt b (o + 4) 4, leAt b (o + 8) 4, leAt b (o + 12) 4⟩

/-- Bytes of a list from an offset. -/
def slice (b : List Byte) (o n : Nat) : List Byte := (b.drop o).take n

/-- The content of a section of a type; empty where the image has none. -/
def imgSec (b : List Byte) (t : Nat) : List Byte :=
  match (imgSecs b).find? fun x => x.type = t with
  | some x => slice b x.off x.len
  | none => []

/-- Whether an image has a section of a type. -/
def imgHas (b : List Byte) (t : Nat) : Bool := (imgSecs b).any fun x => x.type = t

/-- The offset of the signature block. -/
def imgSig (b : List Byte) : Nat := leAt b 20 4

/-- SHA-384 of a section. -/
def secHash (b : List Byte) (t : Nat) : BitVec 384 := sha384 (imgSec b t)

/-- A 48 B digest at an offset of a section. -/
def hashAt (l : List Byte) (o : Nat) : BitVec 384 := BitVec.ofNat 384 (beAt l o 48)

/-- Firmware version, security version and pair protocol version of the manifest (R473). -/
def imgVersion (b : List Byte) : Nat := leAt (imgSec b 1) 0 4
def imgFwSvn (b : List Byte) : Nat := leAt (imgSec b 1) 4 1
def imgProto (b : List Byte) : Nat := leAt (imgSec b 1) 5 1

/-- The configuration security version. -/
def imgCfgSvn (b : List Byte) : Nat := leAt b 12 4

/-- The owner key slot that signed. -/
def imgKeySlot (b : List Byte) : Nat := leAt b (imgSig b) 1

/-- Items 1 to 3 of R475. -/
def imgShape (b : List Byte) : Bool :=
  let l := imgSecs b
  decide (4096 ≤ b.length) && leAt b 0 4 = 0x49434B48 && leAt b 4 2 = 1 && decide (1 ≤ leAt b 6 2) && decide (leAt b 6 2 ≤ 32) &&
    leAt b 8 4 = b.length && decide (b.length ≤ imageMax) && imgSig b % 4096 = 0 && b.length = imgSig b + 200 &&
    (l.all fun x => x.off % 4096 = 0 && decide (4096 ≤ x.off) && decide (x.off + x.len ≤ imgSig b) &&
      (crc32c (slice b x.off x.len)).toNat = x.crc) &&
    (l.zipIdx.all fun (x, i) => l.zipIdx.all fun (y, j) => i = j ||
      !(decide (x.off < y.off + y.len) && decide (y.off < x.off + x.len)) && x.type != y.type) &&
    [0x01, 0x02, 0x03, 0x04, 0x10, 0x11, 0x12, 0x13].all fun t => l.any fun x => x.type = t

/-- Item 5 of R475: the manifest's signature and the code sections' digests. -/
def imgVendor (b : List Byte) : Bool :=
  let m := imgSec b 1
  ecdsaVerify Config.vendorKey (sha384 (m.take 152)) (slice m 152 96) &&
    hashAt m 8 = secHash b 2 && hashAt m 56 = secHash b 3 && hashAt m 104 = secHash b 4

/-- Item 6 of R475: the owner key slot holds the hash of owner_pub, is not revoked, and owner_sig verifies. -/
def State.imgOwner (s : State) (b : List Byte) : Bool :=
  let o := imgSig b
  let h := sha384 (slice b (o + 8) 96)
  tget s.boot.owners (imgKeySlot b) = some h && !s.boot.revoked.contains (imgKeySlot b) &&
    ecdsaVerify (slice b (o + 8) 96) (sha384 (b.take o)) (slice b (o + 104) 96)

/-- Whether an image verifies under a bank record's hash (R475). -/
def State.imageOk (s : State) (hash : BitVec 384) (b : List Byte) : Bool :=
  imgShape b && hash = sha384 b && imgVendor b && s.imgOwner b && decide (s.boot.fwMin ≤ imgFwSvn b) &&
    decide (s.boot.cfgMin ≤ imgCfgSvn b) &&
    (leAt b 16 2 / (if s.get F.GLB_IDENT_variant = 2 then 2 else 1)) % 2 = 1

/-- A bank. -/
def State.bank (s : State) (i : Nat) : Bank := tgetD s.boot.banks i {}

/-- The record of a bank as the configuration flash holds it, 4 KiB (R468). -/
def bankRecord (k : Bank) : List Byte :=
  let l := leBytes 4 0x4B4E4142 ++ leBytes 4 k.gen ++ leBytes 1 k.state ++ leBytes 1 k.tries ++ leBytes 2 0 ++ leBytes 4 k.image.length ++
    digestBytes k.hash
  l ++ leBytes 4 (crc32c l).toNat ++ List.replicate 4028 0

/-- The bank that 64 MiB of flash hold: its record, its image from byte 4,096 on; one with a bad magic or CRC counts as empty (R468). -/
def bankOf (b : List Byte) : Bank :=
  if leAt b 0 4 = 0x4B4E4142 && leAt b 64 4 = (crc32c (b.take 64)).toNat then
    { gen := leAt b 4 4, state := leAt b 8 1, tries := leAt b 9 1, hash := hashAt b 16, image := slice b 4096 (leAt b 12 4) }
  else { state := 0 }

/-- The bank the module booted from. -/
def State.runBank (s : State) : Nat := s.get F.BOOT_STATUS_running_bank

/-- The image the module runs, with the CORE of the bank an activation took it from (R484). -/
def State.runImage (s : State) : List Byte := (s.bank s.runBank).image

/-- A bank set, its state shown in BOOT_STATUS (R486). -/
def State.putBank (s : State) (i : Nat) (b : Bank) : State :=
  let s := { s with boot := { s.boot with banks := tput s.boot.banks i b } }
  if i = 0 then s.set F.BOOT_STATUS_state_a 0 b.state else s.set F.BOOT_STATUS_state_b 0 b.state

end Sys2Proof.Machine
end

