-- ==== Sys2Proof/Machine/Hkt.lean ====
section
/-! DEFINITION. Hokutra transport: receiving packets (R43, R48, R51, R57, R59 to R61, R67, R71, R563), answering (R44),
the sender's handling of acknowledgements, losses and timers (R62 to R64, R76 to R79), region revocation (R68, R69). -/

namespace Sys2Proof.Machine

open F

/-! ## Serial arithmetic (R51) -/

/-- a precedes b. -/
def psnPrecedes (a b : Psn) : Bool := decide (1 ≤ (b - a).toNat) && decide ((b - a).toNat < 2 ^ 31)

/-- The epoch `e` is newer than `cur` (R51, R57). -/
def epochNewer (e cur : BitVec 16) : Bool := decide (1 ≤ (e - cur).toNat) && decide ((e - cur).toNat < 2 ^ 15)

/-- The state with a context changed where it exists. -/
def State.modCtx (s : State) (loc peer : Eid) (f : HktCtx → HktCtx) : State :=
  match ctxFind s.hkt.ctxs loc peer with
  | some c => s.putCtx (f c)
  | none => s

/-- The context of a pair of EIDs. -/
def State.ctx (s : State) (loc peer : Eid) : Option HktCtx := ctxFind s.hkt.ctxs loc peer

/-! ## Failure of a message (R128, R129, R510) -/

/-- Why a message failed (R128). -/
inductive TxFail where
  | nak (code : Nat) (key : Word32)
  | context
  | epoch
  deriving DecidableEq, Repr

/-- The status a command takes from a failed transfer (R128). -/
def failStatus : TxFail → Status × Word32
  | .nak 3 key => (St.regionRevoked, key)
  | .nak _ _ => (St.dataTransfer, 0)
  | .context => (St.transient, 0)
  | .epoch => (St.transient, 0)

/-- Whoever a message belongs to hears of its failure: a ring access puts its queue in ERROR (R129), a command completes
as R128 gives (TRANSFER_FAILURE), an event ring stalls at once (R510). -/
def State.failPurpose (s : State) (p : Purpose) (f : TxFail) : State :=
  match p with
  | .sqeFetch q => s.queueError q
  | .cqe q => s.queueError q
  | .cmdData c _ => s.failData c (failStatus f).1 (failStatus f).2
  | .evtRing r => ((s.set EVT_RING_PTR_stalled r 1).bump (ctrEvt 4)).raise EV_EVT_RING_STALLED 0xA r
  | _ => s

/-! ## Answers (R44, R59) -/

/-- A control packet of a context that answers a packet: its port, path and class are those of the packet answered, and
psn carries snd_nxt (R44, R48). -/
def answerPkt (c : HktCtx) (a : Answered) (op : Nat) (x : HktExt) : HktPkt :=
  { hdr := { opcode := op, flags := {}, svc := a.svc, path := a.path, extLen := (extLenOf op).getD 0, dst := c.peerEid
             src := c.localEid, psn := c.sndNxt, msgId := 0, sendTs := 0, echoTs := a.sendTs, epoch := c.sndEpoch
             unaDelta := 0 }
    ext := x, ing := { port := 0, srcPort := a.srcPort } }

/-- What a received packet is answered with. -/
def answeredOf (p : HktPkt) : Answered := ⟨p.ing.srcPort, p.hdr.sendTs, p.hdr.path, p.hdr.svc⟩

/-- An ACK of a context (R59); pending acknowledgements are thereby made. -/
def State.sendAck (s : State) (loc peer : Eid) (a : Answered) : State :=
  match s.ctx loc peer with
  | none => s
  | some c =>
    (s.modCtx loc peer fun c => { c with ackPend := false, ackTimer := false, sinceAck := 0, lastTx := s.dtc }).sendPkt
      (answerPkt c a 8 (.ack ⟨c.rcvNxt, s.rwnd, a.path⟩)) 4093 false

/-- A NAK of a context (R49, R50, R59): ack_psn is the rcv_nxt reached, and the NAK also acknowledges. -/
def State.sendNak (s : State) (loc peer : Eid) (a : Answered) (nakPsn : Psn) (code info : Nat) : State :=
  match s.ctx loc peer with
  | none => s
  | some c =>
    ((s.modCtx loc peer fun c => { c with ackPend := false, ackTimer := false, sinceAck := 0, lastTx := s.dtc }).sendPkt
      (answerPkt c a 9 (.nak ⟨nakPsn, c.rcvNxt, code, a.path, info⟩)) 4093 false).bump (ctrHkt (groupOf peer) (15 + code))

/-- ack_later of R59: an ACK is pending and the delay timer armed. -/
def State.ackLater (s : State) (loc peer : Eid) : State :=
  s.modCtx loc peer fun c => { c with ackPend := true, ackTimer := true }

/-- A duplicate is counted and acknowledged later (R59). -/
def State.duplicate (s : State) (loc peer : Eid) : State := (s.bump (ctrHkt (groupOf peer) 6)).ackLater loc peer

/-! ## Receiving: discards before any context (R43, R48, R71) -/

/-- The discards of the ingress port (R43). -/
def ingressBad (i : Ingress) : Bool := i.fragment || i.badCsum || i.ipOpts || i.tooShort

/-- Whether R48 discards a packet taken as opcode `op`. -/
def State.headerBad (s : State) (op : Nat) (h : HktHdr) : Bool :=
  h.version != 1 || h.opcode != op || (extLenOf h.opcode) != some h.extLen || h.rsvSvc || !s.isLocal h.dst

/-- A packet opened under a slot's session key, where it verifies (R170 to R172). -/
def State.openUnder (s : State) (p : HktPkt) (slot : Nat) : Option HktPkt := (s.gcmKey slot).bind fun k => decryptPkt k p

/-- The slot under which a packet of a protected peer verifies, with the packet opened: the slot fixed for its epoch, or the entry's
slot, then its previous slot (R174). -/
def State.authSlot (s : State) (e : Nat) (p : HktPkt) : Option (Nat × HktPkt) :=
  let try_ (slot : Nat) : Option (Nat × HktPkt) := (s.openUnder p slot).map fun q => (slot, q)
  match sessionSlot s.key p.hdr.src p.hdr.dst p.hdr.epoch with
  | some k => try_ k
  | none => (try_ (s.get KEY_EP_PROT_slot e)).orElse fun _ => (tget s.key.prev e).bind fun x => try_ x.1

/-- A received packet with its payload in clear (R70): opened where it comes from a protected peer, else as it came. -/
def State.opened (s : State) (p : HktPkt) : HktPkt :=
  match s.protEntry p.hdr.src with
  | none => p
  | some e => ((s.authSlot e p).map (·.2)).getD p

/-- LINE_PROTECTION_CHECK (R71): the state and whether the packet goes on; a session is fixed to the slot that
verified (R174), whose class works on the packet (R176). -/
def State.lineCheck (s : State) (p : HktPkt) : State × Bool :=
  let bad := ((s.bump (ctrHkt (groupOf p.hdr.src) 25)).raiseCo EV_HKT_AUTH_FAIL p.hdr.src.toNat 5 p.hdr.src.toNat, false)
  match s.protEntry p.hdr.src with
  | none => if p.hdr.flags.g then bad else (s, true)
  | some e =>
    if !p.hdr.flags.g then bad
    else
      match s.authSlot e p with
      | none => bad
      | some (slot, _) => ((s.noteSession p.hdr slot).linePush slot p.ing.body.length false, true)

/-- How a peer is reached, as its packet came (R42, assumption log 85). -/
def State.noteNet (s : State) (p : HktPkt) : State :=
  { s with hkt := { s.hkt with nets := tput s.hkt.nets p.hdr.src ⟨p.ing.v6, p.ing.vlan⟩ } }

/-- Whether a packet addressed to the management port's EID is of the traffic that port carries (R427): register access of an authorised
endpoint, queue setup, reads of the Rime window, and what an admin queue pair created over it needs. -/
def State.mgmtMay (s : State) (p : HktPkt) : Bool :=
  match p.ext with
  | .send x => x.service = 1 || (x.service = 2 && s.mgmtRights p.hdr.src != 0)
  | .readReq x => x.key = 1
  | .doorbell x => (s.ownQp (.net p.hdr.src) x.qpn).any fun q => q.admin && q.servEid = s.mgmtEid
  | .readResp _ | .ack _ | .nak _ | .probe _ => (s.ctx p.hdr.dst p.hdr.src).isSome
  | _ => false

/-- The checks every received packet passes before its context is looked at: the state and whether it goes on. -/
def State.rxAdmit (s : State) (op : Nat) (p : HktPkt) : State × Bool :=
  if ingressBad p.ing then (s.bump (ctrMac p.ing.port 30), false)
  else if s.headerBad op p.hdr then (s.bump (ctrHkt (groupOf p.hdr.src) 24), false)
  else if p.hdr.dst = s.mgmtEid && !s.mgmtMay p then ({ s with hkt := { s.hkt with mgmtDrops := s.hkt.mgmtDrops + 1 } }, false)
  else
    let s := (s.bump (ctrHkt (groupOf p.hdr.src) 1)).bump (ctrHkt (groupOf p.hdr.src) 3) (pktBytes p.ing.v6 (p.ing.vlan != 0) p)
    let a := s.lineCheck p
    if a.2 then (a.1.noteNet p, true) else a

/-! ## Receiving: epoch (R57) -/

/-- Every READ_REQ a context awaits fails by the peer's new epoch and is not sent again: its kept copy goes with it (R57, assumption
log 93). -/
def State.failReads (s : State) (loc peer : Eid) (f : TxFail) : State :=
  match s.ctx loc peer with
  | none => s
  | some c =>
    let failed (x : TxCopy) : Bool := (match x.pkt.ext with | .readReq _ => true | _ => false) && c.reads.any fun r => r.msgId = x.msg
    (s.modCtx loc peer fun c => { c with reads := [], copies := c.copies.filter fun x => !failed x }).each c.reads
      fun s r => s.failPurpose r.purpose f

/-- EPOCH_CHECK with CONTEXT_CREATE (R54, R56, R57): the state and whether the packet goes on; an accepted packet is the
one an ACK or NAK of no single arrival answers (R44). -/
def State.epochCheck (s : State) (p : HktPkt) : State × Bool :=
  let h := p.hdr
  let start : Psn := h.psn - BitVec.ofNat 32 h.unaDelta
  let accept (s : State) : State := s.modCtx h.dst h.src fun c => { c with lastRx := s.dtc, answered := some (answeredOf p) }
  let take (s : State) : State := s.modCtx h.dst h.src fun c =>
    { c with rcvEpoch := some h.epoch, rcvNxt := start, bitmap := 0, msgs := [], fences := [], nakked := [] }
  let drop (s : State) (c : HktCtx) : State :=
    { s with hkt := { s.hkt with abandoned := s.hkt.abandoned + c.msgs.length + c.fences.length } }
  match s.ctx h.dst h.src with
  | none =>
    match s.needCtx h.dst h.src with
    | none => ((s.bump (ctrHkt (groupOf h.src) 27)).spillFull, false)
    | some (_, s) => (accept (take s), true)
  | some c =>
    match (match s.needCtx h.dst h.src with | some (_, s) => s | none => s) with
    | s =>
      match c.rcvEpoch with
      | none => (accept (take s), true)
      | some cur =>
        if h.epoch = cur then (accept s, true)
        else if c.rxQuiescent || decide (s.mpl ≤ s.since c.lastRx) || epochNewer h.epoch cur then
          (accept ((take (drop s c)).failReads h.dst h.src .epoch), true)
        else (s.bump (ctrHkt (groupOf h.src) 7), false)

/-! ## Receiving: checks of a packet (R563, R67, R53, R110) -/

/-- What the checks decide: place it, consume it silently, consume it as part of a message that took a consuming NAK, answer with a
consuming NAK, or RNR. -/
inductive RxVerdict where
  | place
  | silent
  | gone
  | nak (code : Nat)
  | rnr (info : Nat)
  deriving DecidableEq, Repr

/-- The framing a message's packets share: service, msg_len, pkt_count (R563 order 3). -/
def extFrame : HktExt → Option (Nat × Nat × Nat × Nat)
  | .write x => some (0, x.msgLen, x.pktCount, x.pktIndex)
  | .readResp x => some (0, 0, x.pktCount, x.pktIndex)
  | .send x => some (x.service, x.msgLen, x.pktCount, x.pktIndex)
  | _ => none

/-- R563 order 2: lengths and counts within R49. -/
def extLimits : HktExt → Bool
  | .write x => decide (1 ≤ x.msgLen) && decide (x.msgLen ≤ 16777216) && decide (1 ≤ x.pktCount) && decide (x.pktCount ≤ 4096)
  | .readReq x => decide (1 ≤ x.readLen) && decide (x.readLen ≤ 16777216)
  | .send x => decide (1 ≤ x.msgLen) && decide (x.msgLen ≤ 65536)
  | _ => true

/-- R563 order 3: framing against the message and, for a READ_RESP, its read. -/
def frameOk (c : HktCtx) (p : HktPkt) : Bool :=
  (match extFrame p.ext with
   | none => true
   | some (svc, len, cnt, idx) => decide (idx < cnt) &&
      (match c.msgs.find? fun m => m.msgId = p.hdr.msgId && m.opcode = p.hdr.opcode with
       | some m => m.service = svc && m.msgLen = len && m.pktCount = cnt
       | none => true)) &&
  (match p.ext with
   | .send x => decide (x.offset + x.payload.length ≤ x.msgLen)
   | .readResp x => (match c.reads.find? fun r => r.msgId = p.hdr.msgId with
      | some r => decide (x.offset + x.payload.length ≤ r.len)
      | none => true)
   | _ => true)

/-- REGION_CHECK (R67): the NAK code of the first failing check. -/
def State.regionCheck (s : State) (src : Eid) (g write : Bool) (key : Word32) (off len : Nat) : Option Nat :=
  let r := s.region (keyIndex key)
  if r.state = .free || r.tag != keyTag key || key = 0 then some 2
  else if r.state = .revoking then some 3
  else if !prefixEq r.scopeLen src r.scopeEid && r.scopeLen != 0 then some 4
  else if (write && !r.wr) || (!write && !r.rd) then some 4
  else if r.protReq && !g then some 4
  else if r.lenPages * 4096 < off + len then some 5
  else none

/-- The read that a READ_RESP answers. -/
def HktCtx.readOf (c : HktCtx) (p : HktPkt) : Option OutRead := c.reads.find? fun r => r.msgId = p.hdr.msgId

/-- Whether a packet needs a staging unit that it has not (R80): a WRITE, and a READ_RESP but that of an SQE fetch and that whose block
has its unit. -/
def State.needsStage (s : State) (c : HktCtx) (p : HktPkt) : Bool :=
  match p.ext with
  | .write _ => true
  | .readResp _ => match (c.readOf p).elim Purpose.none (·.purpose) with
    | .cmdData k b => (tget s.swc.stageOf (k, b)).isNone && !s.swc.spill.contains (k, b)
    | .sqeFetch _ => false
    | _ => true
  | _ => false

/-- The message of a packet, where one is in progress. -/
def msgOf (l : List RxMsg) (p : HktPkt) : Option RxMsg := l.find? fun m => m.msgId = p.hdr.msgId && m.opcode = p.hdr.opcode

/-- Whether a packet begins a message of several packets. -/
def newMsg (c : HktCtx) (p : HktPkt) : Bool :=
  match extFrame p.ext with
  | some (_, _, cnt, _) => decide (1 < cnt) && (msgOf c.msgs p).isNone
  | none => false

/-- The checks of R59 on an accepted packet, in order: R563, what the receiver lacks (assumption log 94), then R67, then service and
queue; the other packets of a message that took a consuming NAK are consumed without an answer (R50). -/
def State.rxVerdict (s : State) (c : HktCtx) (p : HktPkt) : RxVerdict :=
  let isResp := match p.ext with | .readResp _ => true | _ => false
  if isResp && (c.readOf p).isNone then .silent
  else if !isResp && c.nakked.contains p.hdr.msgId then .gone
  else if !extLimits p.ext then .nak 6
  else if !frameOk c p then .nak 5
  else if s.needsStage c p && s.stageFull then .rnr 5
  else if newMsg c p && decide (64 ≤ c.msgs.length) then .rnr 5
  else
    match p.ext with
    | .write x => match s.regionCheck p.hdr.src p.hdr.flags.g true x.key x.offset x.payload.length with
      | some code => .nak code
      | none => .place
    | .readReq x => match s.regionCheck p.hdr.src p.hdr.flags.g false x.key x.offset x.readLen with
      | some code => .nak code
      | none => if 256 ≤ c.answering.length then .rnr 5 else .place
    | .send x =>
      if x.service = 1 then .place
      else if x.service = 2 then (if s.mgmtAllowed p.hdr.src then .place else .nak 4)
      else .nak 7
    | .doorbell x => if (s.ownQp (.net p.hdr.src) x.qpn).isSome then .place else .nak 7
    | _ => .place

/-! ## Receiving: placement -/

/-- The payload of a packet and its place within its message. -/
def extPart : HktExt → Nat × List Byte
  | .readResp x => (x.offset, x.payload)
  | .send x => (x.offset, x.payload)
  | .write x => (x.offset, x.payload)
  | _ => (0, [])

/-- The bytes that parts at offsets spell over a length; a byte no part covers reads 0. -/
def assemble (parts : Table Nat (List Byte)) (len : Nat) : List Byte :=
  (List.range len).map fun j =>
    match parts.find? fun (o, l) => decide (o ≤ j) && decide (j < o + l.length) with
    | some (o, l) => l.getD (j - o) 0
    | none => 0

/-- The bytes the parts cover. -/
def covered (parts : Table Nat (List Byte)) : Nat := parts.foldl (fun n (_, l) => n + l.length) 0

/-- A message being received with one more packet placed: created by the first, counted, its part kept where the message is
assembled on completion. -/
def noteMsg (l : List RxMsg) (p : HktPkt) : List RxMsg :=
  match extFrame p.ext with
  | none => l
  | some (svc, len, cnt, _) =>
    let part := extPart p.ext
    let keep := match p.ext with | .send _ => true | _ => false
    let upd (m : RxMsg) : RxMsg := { m with
      placed := m.placed + 1, notify := m.notify || p.hdr.flags.n
      parts := if keep then tput m.parts part.1 part.2 else m.parts }
    if (msgOf l p).isSome then l.map fun m => if m.msgId = p.hdr.msgId && m.opcode = p.hdr.opcode then upd m else m
    else l ++ [upd { msgId := p.hdr.msgId, opcode := p.hdr.opcode, service := svc, msgLen := len, pktCount := cnt }]

/-- The messages in progress without that of a packet. -/
def dropMsg (l : List RxMsg) (p : HktPkt) : List RxMsg := l.filter fun m => !(m.msgId = p.hdr.msgId && m.opcode = p.hdr.opcode)

/-- Whether a packet completes its message (R60): a message of one packet, or the last of several to be placed. -/
def completes (c : HktCtx) (p : HktPkt) : Bool :=
  match extFrame p.ext with
  | none => true
  | some (_, _, cnt, _) => match msgOf c.msgs p with
    | some m => m.placed + 1 = cnt
    | none => cnt = 1

/-- The completion of a message is reported once, with flags.n where a packet of it carried it (R60). -/
def State.reportMsg (s : State) (c : HktCtx) (p : HktPkt) : State :=
  match extFrame p.ext with
  | none => s
  | some _ => s.send (.msgDone p.hdr.dst p.hdr.src p.hdr.msgId p.hdr.opcode (p.hdr.flags.n || (msgOf c.msgs p).any (·.notify)))

/-- The window advanced over every set bit, at most `fuel`. -/
def windowStep : Nat → BitVec 1024 → Psn → BitVec 1024 × Psn
  | 0, b, n => (b, n)
  | k + 1, b, n => if b.getLsbD 0 then windowStep k (b >>> 1) (n + 1) else (b, n)

/-- A PSN consumed and the window advanced (R59): its bit set, rcv_nxt past every set bit, the gap timer started, kept or stopped; a
held fenced packet that does not come next leaves a hole too. -/
def HktCtx.consume (c : HktCtx) (d : Nat) : HktCtx :=
  let (b, n) := windowStep 1024 (c.bitmap ||| (1#1024 <<< d)) c.rcvNxt
  let hole := b != 0 || c.fences.any fun q => q.hdr.psn != n
  { c with bitmap := b, rcvNxt := n, gapTimer := if n != c.rcvNxt then hole else c.gapTimer || decide (0 < d) }

/-- A read's response with one more part (R59 place by resp_offset); it has begun to arrive. -/
def notePart (l : List OutRead) (id : Word32) (o : Nat) (b : List Byte) : List OutRead :=
  l.map fun r => if r.msgId = id then { r with got := tput r.got o b, back := true } else r

/-- The first packet of a read's response arrives: the interval since its request left is no added latency (R32). -/
def State.readBack (s : State) (r : OutRead) : State :=
  match r.purpose with
  | .sqeFetch q => s.modQp q fun x => { x with fetches := match x.fetches with
      | f :: t => { f with back := some s.dtc } :: t
      | [] => [] }
  | .cmdData c _ => if r.left then s.awayOff c else s
  | _ => s

/-- A read whose response has arrived in full tells its owner: a fetch its entries, a command its block. -/
def State.readDone (s : State) (r : OutRead) : State :=
  let data := assemble r.got r.len
  match r.purpose with
  | .sqeFetch q => s.modQp q fun x => { x with fetches := match x.fetches with
      | f :: t => { f with bytes := some data } :: t
      | [] => [] }
  | .cmdData c b => s.pieceIn c b 0 data
  | _ => s

/-- A completed SEND is delivered to its service (R53). -/
def State.deliver (s : State) (p : HktPkt) (service : Nat) (bytes : List Byte) : State :=
  if service = 1 then s.queueSetup p.hdr.src p.hdr.dst (queueParse bytes)
  else if service = 2 then { s with hkt := { s.hkt with mgmt := s.hkt.mgmt ++ [(p.hdr.src, p.hdr.dst, bytes)] } }
  else s

/-- place (R59): a WRITE into module memory, a READ_REQ executed once (R60), a READ_RESP into its read, a SEND into its
message and, when that is complete, to its service, a DOORBELL to its queue (R110). -/
def State.placePkt (s : State) (c : HktCtx) (p : HktPkt) (last : Bool) : State :=
  let h := p.hdr
  match p.ext with
  | .write x =>
    let r := s.region (keyIndex x.key)
    if r.host then s else { s with mem := memWriteBytes s.mem (r.basePage * 4096 + x.offset) x.payload }
  | .readReq x =>
    let r := s.region (keyIndex x.key)
    let data := if keyIndex x.key ≤ 2 then s.windowBytes (keyIndex x.key) x.offset x.readLen
      else memReadBytes s.mem (r.basePage * 4096 + x.offset) x.readLen
    s.sameMem ((s.modCtx h.dst h.src fun c => { c with answering := c.answering ++ [h.msgId] }).sendMsg h.dst h.src
      (.readResp h.msgId data) false false h.svc .readAnswer)
  | .readResp x =>
    let s := s.sameMem (match c.readOf p with | some r => if r.back then s else s.readBack r | none => s)
    let s := s.modCtx h.dst h.src fun c => { c with reads := notePart c.reads h.msgId x.offset x.payload }
    match s.ctx h.dst h.src with
    | none => s
    | some c' =>
      match c'.reads.find? fun r => r.msgId = h.msgId with
      | none => s
      | some r =>
        if covered r.got < r.len then s
        else s.sameMem ((s.modCtx h.dst h.src fun c => { c with reads := c.reads.filter fun r => r.msgId != h.msgId }).readDone r)
  | .send x =>
    if !last then s
    else
      let parts := (match msgOf c.msgs p with | some m => m.parts | none => []) ++ [(x.offset, x.payload)]
      s.sameMem (s.deliver p x.service (assemble parts x.msgLen))
  | .doorbell x => s.sameMem (s.doorbell x.qpn x.ring (x.value % 65536))
  | _ => s

/-- What taking packets left to be answered: NAKs with their PSN, code and info, whether an ACK is due at once, or later. -/
structure RxDue where
  naks  : List (Psn × Nat × Nat) := []
  ack   : Bool := false
  later : Bool := false
  deriving DecidableEq, Repr

/-- A packet whose check answers with a consuming NAK (R50, R563): its PSN consumed, its message failed, a READ_RESP's with its read. -/
def State.rxRefuse (s : State) (c : HktCtx) (p : HktPkt) (d code : Nat) : State :=
  let h := p.hdr
  let denied := match p.ext with | .send x => x.service = 2 && code = 4 | _ => false
  let s := if denied then s.addSat GLB_STATUS_mgmt_denied 0 1 else s
  match c.readOf p, p.ext with
  | some r, .readResp _ =>
    (s.modCtx h.dst h.src fun c =>
      { c.consume d with msgs := dropMsg c.msgs p, reads := c.reads.filter fun x => x.msgId != r.msgId }).failPurpose r.purpose (.nak code 0)
  | _, _ => s.modCtx h.dst h.src fun c => { c.consume d with msgs := dropMsg c.msgs p, nakked := c.nakked ++ [h.msgId] }

/-- An accepted packet that waits for no fence, checked, placed or consumed as R59 gives, `d` its distance from rcv_nxt; its answer is
left to be sent. -/
def State.rxOne (s : State) (p : HktPkt) (d : Nat) (w : RxDue) : State × RxDue :=
  let h := p.hdr
  match s.ctx h.dst h.src with
  | none => (s, w)
  | some c =>
    match s.rxVerdict c p with
    | .rnr info => (s, { w with naks := w.naks ++ [(h.psn, 8, info)] })
    | .silent => (((s.modCtx h.dst h.src fun c => c.consume d).bump (ctrHkt (groupOf h.src) 6)), { w with later := true })
    | .gone => ((s.modCtx h.dst h.src fun c => c.consume d), { w with later := true })
    | .nak code => (s.sameMem (s.rxRefuse c p d code), { w with naks := w.naks ++ [(h.psn, code, 0)] })
    | .place =>
      let last := completes c p
      let s := s.modCtx h.dst h.src fun c =>
        let c := c.consume d
        { c with msgs := if last then dropMsg c.msgs p else noteMsg c.msgs p, sinceAck := c.sinceAck + 1 }
      let s := s.placePkt c p last
      let s := if last then s.reportMsg c p else s
      let now := last || h.flags.a || decide (atLeast1 (s.get HKT_TIMER_CFG_ack_count) ≤ c.sinceAck + 1)
      (s, { w with ack := w.ack || now, later := w.later || !now })

/-- Held fenced packets whose PSN rcv_nxt has reached are taken, in PSN order (FENCE_RELEASE, R59, R61). -/
def State.releaseFences : Nat → State → Eid → Eid → RxDue → State × RxDue
  | 0, s, _, _, w => (s, w)
  | fuel + 1, s, loc, peer, w =>
    match s.ctx loc peer with
    | none => (s, w)
    | some c =>
      match c.fences.find? fun p => p.hdr.psn = c.rcvNxt with
      | none => (s, w)
      | some p =>
        let r := (s.modCtx loc peer fun c => { c with fences := c.fences.filter (· != p) }).rxOne p 0 w
        State.releaseFences fuel r.1 loc peer r.2

/-- What is due is sent, in answer to the packet whose arrival made it due (R44): the NAKs, which acknowledge as well, else one ACK, else
an ACK later. -/
def State.answerDue (s : State) (loc peer : Eid) (a : Answered) (w : RxDue) : State :=
  match w.naks with
  | [] => if w.ack then s.sendAck loc peer a else if w.later then s.ackLater loc peer else s
  | l => s.each l fun s (psn, code, info) => s.sendNak loc peer a psn code info

/-- A packet taken, the held fenced packets it releases with it, and then the answer, whose ack_psn is the rcv_nxt reached (R59). -/
def State.rxTake (s : State) (p : HktPkt) (d : Nat) : State :=
  let one := s.rxOne p d {}
  let r := State.releaseFences 33 one.1 p.hdr.dst p.hdr.src one.2
  r.1.sameMem (r.1.answerDue p.hdr.dst p.hdr.src (answeredOf p) r.2)

/-- A PSN-consuming packet that has passed R57 (R59): duplicate, beyond the window, held behind a fence (R61), or taken;
a DOORBELL is handled as if fenced (R110). -/
def State.rxPsn (s : State) (p : HktPkt) : State :=
  let h := p.hdr
  match s.ctx h.dst h.src with
  | none => s
  | some c =>
    let d := (h.psn - c.rcvNxt).toNat
    let fenced := h.flags.f || h.opcode = 5
    if 2 ^ 31 ≤ d then s.sameMem (s.duplicate h.dst h.src)
    else if 1024 ≤ d then s.sameMem (s.sendNak h.dst h.src (answeredOf p) c.rcvNxt 1 0)
    else if c.bitmap.getLsbD d then s.sameMem (s.duplicate h.dst h.src)
    else if fenced && d != 0 then
      if c.fences.any fun q => q.hdr.psn = h.psn then s.sameMem (s.duplicate h.dst h.src)
      else if 32 ≤ c.fences.length then s.bump (ctrHkt (groupOf h.src) 30)
      else s.modCtx h.dst h.src fun c => { c with fences := c.fences ++ [p] }
    else s.rxTake p d

/-- A received PSN-consuming packet of an opcode, whole (R43, R48, R71, R57, R59). -/
def State.rxData (s : State) (op : Nat) (p : HktPkt) : State :=
  let a := s.rxAdmit op p
  if !a.2 then s.sameMem a.1
  else
    let b := a.1.epochCheck p
    if b.2 then (s.sameMem b.1).rxPsn (s.opened p) else s.sameMem b.1

/-! ## The sender: acknowledgements, samples, windows (R62, R76 to R78) -/

/-- The window delay of the last samples (R76): their minimum, in 640 ns units. -/
def windowDelay (l : List Nat) : Rat := match l.min? with | some m => (m : Rat) | none => 0

/-- The delay of a field in 100 ns units as 640 ns units. -/
def delayUnits (n : Nat) : Rat := (n : Rat) * 10 / 64

/-- One window decision (R77): additive steps below the target, multiplicative cuts above it; windows in 1/256 packet,
rounded down and kept within 1/64 and 1,024 packets; with a target of 0, whose steps have no value, a delay above it cuts nothing
(assumption log 87). -/
def ccDecide (cfgAi cfgDec cfgMax : Nat) (target : Rat) (w : CcWin) : CcWin :=
  let band := target / 4
  let cwnd : Rat := (w.win : Rat) / 256
  let g : Rat := if cwnd = 0 then 0 else min (w.acked : Rat) cwnd / cwnd
  let ai : Rat := (atLeast1 cfgAi : Rat) / 16
  let next : Rat × Bool :=
    if w.min ≤ target - band then (cwnd + ai * g, false)
    else if w.min ≤ target then (cwnd + ai * g / 4, false)
    else
      let steps : Rat := if band = 0 then 0 else (((w.min - target) / band).ceil : Rat)
      (cwnd * max (1 - (atLeast1 cfgDec : Rat) / 256 * steps) (1 - (atLeast1 cfgMax : Rat) / 256), true)
  { w with win := clampNat 4 262144 (next.1 * 256).floor.toNat, cut := next.2, isOpen := false }

/-- on_cc of R77 for one window: the epoch opens, gathers and, one srtt later, decides. -/
def ccSample (now : Word64) (srtt : Rat) (cfgAi cfgDec cfgMax : Nat) (target dly : Rat) (acked : Nat) (w : CcWin) : CcWin :=
  let w := if w.isOpen then w else { w with isOpen := true, start := now, min := dly, acked := 0 }
  let w := { w with min := min w.min dly, acked := w.acked + acked }
  if (((now - w.start).toNat : Rat) / 1024) < srtt then w else ccDecide cfgAi cfgDec cfgMax target w

/-- A loss ends the epoch and cuts cwnd unless a decrease has just been made (R77). -/
def ccLoss (cfgMax : Nat) (w : CcWin) : CcWin :=
  let cut : Nat := (((w.win : Rat) * (1 - (atLeast1 cfgMax : Rat) / 256)).floor.toNat)
  { w with win := if w.cut then w.win else max cut 4, cut := true, isOpen := false }

/-- A retransmit timeout cuts cwnd: once by max_mdf, to the minimum afterwards (R77). -/
def ccTimeout (cfgMax backoff : Nat) (w : CcWin) : CcWin :=
  let cut : Nat := (((w.win : Rat) * (1 - (atLeast1 cfgMax : Rat) / 256)).floor.toNat)
  { w with win := if backoff = 1 then max cut 4 else 4, cut := true, isOpen := false }

/-- Whether an egress queue's samples are stale (R98): none within stale_periods sample periods. -/
def State.queueStale (s : State) (q : Nat × Nat) : Bool :=
  let p := s.get TMS_SAMPLE_CFG_stale_periods * atLeast1 (s.get TMS_SAMPLE_CFG_period) * 160
  match tget s.tms.sampledAt q with
  | some t => decide (p ≤ s.since t)
  | none => decide (p ≤ s.dtc.toNat)

/-- EV_TMS_DELAY_SAMPLE_STALE once per stale period of a queue (R78); source the port, args the class. -/
def State.noteStale (s : State) (q : Nat × Nat) : State :=
  if s.tms.stale.contains q then s
  else { s with tms := { s.tms with stale := s.tms.stale ++ [q] } }.raise EV_TMS_DELAY_SAMPLE_STALE 1 q.1 [q.2]

/-- A path's RTT with a sample (R64, R76). -/
def pathSample (p : HktPath) (v : Nat) : HktPath :=
  { p with rtt := some (match p.rtt with | none => (v : Rat) | some r => r + ((v : Rat) - r) / 8) }

/-- The bound above which a path is slow: twice the lowest path RTT plus 4 µs (R64). -/
def HktCtx.slowBound (c : HktCtx) (n : Nat) : Rat := 2 * (c.minRtt n).getD 0 + 25 / 4

/-- PATH_SLOW (R64): every path beyond the bound becomes slow. -/
def HktCtx.markSlow (c : HktCtx) (n : Nat) : HktCtx :=
  { c with paths := c.paths.map fun x => match x.rtt with
      | some r => if c.slowBound n < r then { x with state := .slow } else x
      | none => x }

/-- An RTT sample of an ACK or NAK, where it is valid (R58, R76). -/
def State.rttOf (s : State) (echo : Word32) : Option Nat :=
  let v := (ts32 s.dtc - echo).toNat
  if echo = 0 || decide (0x10000 ≤ v) then none else some v

/-- The effect of a valid sample (R76 to R78): srtt, the minimum filter, the path's RTT, both windows. -/
def State.takeSample (s : State) (loc peer : Eid) (v path acked : Nat) : State :=
  match s.ctx loc peer with
  | none => s
  | some c =>
    let depth := let d := s.get HKT_CC_CFG_min_depth; if d = 0 || decide (8 < d) then 8 else d
    let srtt : Rat := match c.srtt with | none => (v : Rat) | some r => r + ((v : Rat) - r) / 8
    let samples := (v :: c.samples).take depth
    let ai := s.get HKT_CC_CFG_ai
    let dec := s.get HKT_CC_CFG_dec_step
    let mx := s.get HKT_CC_CFG_max_mdf
    let cw := ccSample s.dtc srtt ai dec mx (delayUnits (s.get HKT_CC_CFG_delay_target)) (windowDelay samples) acked c.cwnd
    let stale := match c.lastQueue with | some q => s.queueStale q | none => false
    let lw := if stale then { c.lcwnd with win := 262144, isOpen := false }
      else match c.lastQueue with
        | none => c.lcwnd
        | some (p, tc) =>
          ccSample s.dtc srtt ai dec mx (delayUnits (s.get HKT_CC_CFG_local_target))
            (((s.get TMS_QSAMPLE_head_delay (ix2 8 p tc) : Nat) : Rat) / 1024) acked c.lcwnd
    let c' := ({ c with srtt := some srtt, samples := samples, cwnd := cw, lcwnd := lw
                        paths := lmod c.paths path fun x => pathSample x v }).markSlow s.pathCount
    let s := (s.putCtx c').sample 5 (groupOf peer) (1024 * v) true
    match stale, c.lastQueue with
    | true, some q => s.noteStale q
    | _, _ => s

/-- The base retransmit timeout max(4 × srtt, rto_min) (R58, R62). -/
def State.rtoBase (s : State) (c : HktCtx) : Rat := match c.srtt with | some r => max (4 * r) s.rtoMin | none => s.rtoMin

/-- The bytes of a command's Read that a WRITE brought to its host, once acknowledged (R128, R132). -/
def State.ackedBytes (s : State) (x : TxCopy) : State :=
  match x.purpose, x.pkt.ext with
  | .cmdData c _, .write w => s.modCmd c fun y => { y with moved := y.moved + w.payload.length }
  | _, _ => s

/-- on_ack (R62): copies before ack_psn released, snd_una, backoff and the timer, peer_rwnd, the RTT sample; the bytes of released WRITEs
have been moved, but those of a message that `bad` names from its PSN on, which its NAK says were not placed. -/
def State.onAck (s : State) (loc peer : Eid) (ack : Psn) (rwnd : Option Nat) (echo : Word32) (path : Nat)
    (bad : Option TxCopy := none) : State :=
  match s.ctx loc peer with
  | none => s
  | some c =>
    let moves := psnPrecedes c.sndUna ack && !psnPrecedes c.sndNxt ack
    let acked := if moves then (ack - c.sndUna).toNat else 0
    let out := if moves then c.copies.filter fun x => psnPrecedes x.pkt.hdr.psn ack else []
    let placed := out.filter fun x => !(bad.any fun y => y.msg = x.msg && !psnPrecedes x.pkt.hdr.psn y.pkt.hdr.psn)
    let s := s.modCtx loc peer fun c =>
      let c := if moves then
          { c with copies := c.copies.filter fun x => !psnPrecedes x.pkt.hdr.psn ack
                   sndUna := ack, backoff := 0, rtoOn := c.sndNxt != ack }
        else c
      { c with peerRwnd := rwnd.getD c.peerRwnd, lastRx := s.dtc }
    let s := s.each placed State.ackedBytes
    let s := match s.rttOf echo with
      | some v => s.takeSample loc peer v path acked
      | none => s
    if moves then s.modCtx loc peer fun c => { c with rto := s.rtoBase c } else s

/-- path_loss (R62, R64): the loss charged to the path a packet was sent on; at loss_retire losses within 64 packets sent on it the
path is retired to a new generation (PATH_RETIRE). -/
def State.pathLoss (s : State) (loc peer : Eid) (path : Option Nat) : State :=
  match path, s.ctx loc peer with
  | some p, some c =>
    let x := c.paths.getD p {}
    let l := x.sent :: x.losses.filter fun n => decide (x.sent < n + 64)
    if l.length < atLeast1 (s.get HKT_PATH_CFG_loss_retire) then
      s.putCtx { c with paths := lmod c.paths p fun x => { x with losses := l } }
    else
      ((s.putCtx { c with paths := lmod c.paths p fun x =>
        { x with losses := [], sent := 0, gen := (x.gen + 1) % 16, state := .active } }).bump (ctrHkt (groupOf peer) 28)).raiseCo
        EV_HKT_PATH_RETIRED (loc.toNat * 2 ^ 32 + peer.toNat) 5 peer.toNat [p]
  | _, _ => s

/-- A kept copy sent again (R62, R63) under its tenant and colour (R73): flags.t set, a path other than its last where another is usable,
una_delta anew. -/
def State.resend (s : State) (loc peer : Eid) (x : TxCopy) : State :=
  match s.ctx loc peer with
  | none => s
  | some c =>
    let path := c.pickPath s.pathCount (some x.path)
    let h := x.pkt.hdr
    let p := { x.pkt with
      hdr := { h with path := path, flags := { h.flags with t := true }, unaDelta := (h.psn - c.sndUna).toNat }
      ing := { x.pkt.ing with srcPort := pathPort loc peer (c.gen path) path } }
    let c := { c with
      nextPath := (path + 1) % s.pathCount, lastTx := s.dtc
      paths := lmod c.paths path fun x => { x with sent := x.sent + 1 }
      lastQueue := some ((egressRoot s loc peer path).getD 63, h.svc)
      copies := c.copies.map fun y => if y.pkt.hdr.psn = h.psn then { y with path := path } else y }
    ((s.putCtx c).sendPkt p x.tenant x.yellow).bump (ctrHkt (groupOf peer) 4)

/-- GO_BACK_N (R62): every kept copy from a PSN on is sent again; an RNR wait under way ends with it (assumption log 92). -/
def State.goBack (s : State) (loc peer : Eid) (from_ : Psn) : State :=
  match s.ctx loc peer with
  | none => s
  | some c =>
    let again := c.copies.filter fun x => x.pkt.hdr.psn = from_ || psnPrecedes from_ x.pkt.hdr.psn
    let s := s.putCtx { c with rtxNxt := from_, rnrWait := none }
    (s.each again fun s x => s.resend loc peer x).modCtx loc peer fun c => { c with rtxNxt := c.sndNxt }

/-- The kept copy of a PSN. -/
def HktCtx.copyOf (c : HktCtx) (psn : Psn) : Option TxCopy := c.copies.find? fun x => x.pkt.hdr.psn = psn

/-- fail_message (R50, R62, R128): its unsent packets are dropped and its owner hears of it. -/
def State.failMessage (s : State) (loc peer : Eid) (x : TxCopy) (f : TxFail) : State :=
  (s.modCtx loc peer fun c => c.dropOwn x.msg).failPurpose x.purpose f

/-- CONTEXT_FAIL (R56, R63): every message fails, the epoch advances and PSNs restart at 0. -/
def State.contextFail (s : State) (loc peer : Eid) : State :=
  match s.ctx loc peer with
  | none => s
  | some c =>
    let owners := ((c.copies.map (·.purpose)) ++ (c.unsent.map (·.purpose)) ++ (c.reads.map (·.purpose))).dedup
    let s := s.putCtx { c with
      sndEpoch := c.sndEpoch + 1, sndUna := 0, sndNxt := 0, rtxNxt := 0, copies := [], unsent := [], reads := []
      backoff := 0, rto := s.rtoMin, rtoOn := false, srtt := none, samples := [], rnrWait := none, capped := false
      epochAt := s.dtc, cwnd := { win := s.cwndInit }, lcwnd := { win := 262144 }, answering := [] }
    let s := (s.bump (ctrHkt (groupOf peer) 29)).raise EV_HKT_PEER_UNREACHABLE 5 peer.toNat
    s.each owners fun s o => s.failPurpose o .context

/-- Every context sends what it may: room for copies has returned (PSN_ROOM_RESUME, R63). -/
def State.pumpAll (s : State) : State := s.each (s.hkt.ctxs.map fun c => (c.localEid, c.peerEid)) fun s (a, b) => s.pump a b

/-- A received ACK (R62). -/
def State.rxAck (s : State) (p : HktPkt) (x : AckExt) : State :=
  let a := s.rxAdmit 8 p
  if !a.2 then a.1
  else
    let s := a.1.touchCtx p.hdr.dst p.hdr.src
    let tight := !s.copyRoom
    let s := (s.onAck p.hdr.dst p.hdr.src x.ackPsn (some x.rwnd) p.hdr.echoTs (x.echoPath % 16)).pump p.hdr.dst p.hdr.src
    if tight then s.pumpAll else s

/-- A received NAK (R50, R62): it acknowledges, then goes back, waits, or fails the message it names. -/
def State.rxNak (s : State) (p : HktPkt) (x : NakExt) : State :=
  let a := s.rxAdmit 9 p
  if !a.2 then a.1
  else
    let h := p.hdr
    let s := a.1.touchCtx h.dst h.src
    match s.ctx h.dst h.src with
    | none => s
    | some c =>
      let tight := !s.copyRoom
      let copy := c.copyOf x.nakPsn
      let s := s.bump (ctrHkt (groupOf h.src) (7 + x.code))
      let bad := if x.code = 1 || x.code = 8 then none else copy
      let s := s.onAck h.dst h.src x.ackPsn none h.echoTs (x.echoPath % 16) bad
      let s :=
        if x.code = 1 then
          (s.modCtx h.dst h.src fun c => { c with cwnd := ccLoss (s.get HKT_CC_CFG_max_mdf) c.cwnd }).goBack h.dst h.src x.nakPsn
        else if x.code = 8 then s.modCtx h.dst h.src fun c => { c with rnrWait := some x.nakPsn }
        else match copy with
          | some y => s.failMessage h.dst h.src y (.nak x.code (pktKey y.pkt))
          | none => s
      let s := (s.pathLoss h.dst h.src (copy.map (·.path))).pump h.dst h.src
      if tight then s.pumpAll else s

/-! ## Timers -/

/-- The retransmit timer expires (R62, R77): backoff, the timeout doubled up to its cap, cwnd cut, go-back-N, or the
context fails at the limit; toward a protected peer without a usable key messages fail the same way (R169). -/
def State.rtoExpiry (s : State) (loc peer : Eid) : State :=
  match s.ctx loc peer with
  | none => s
  | some c =>
    if !s.peerUsable peer && (!c.unsent.isEmpty || !c.copies.isEmpty) then s.contextFail loc peer
    else if !c.rtoOn then s
    else
      let s := s.bump (ctrHkt (groupOf peer) 5)
      let b := c.backoff + 1
      if atLeast1 (s.get HKT_RETRY_CFG_rto_limit) ≤ b then s.contextFail loc peer
      else
        let cap : Rat := s.rtoBase c * ((2 ^ s.get HKT_RETRY_CFG_rto_max_exp : Nat) : Rat)
        let s := s.putCtx { c with backoff := b, rto := min (c.rto * 2) cap
                                   cwnd := ccTimeout (s.get HKT_CC_CFG_max_mdf) b c.cwnd }
        (s.goBack loc peer c.sndUna).pathLoss loc peer ((c.copyOf c.sndUna).map (·.path))

/-- The ACK delay timer expires (R59): an ACK answers the packet accepted last (R44). -/
def State.ackDelay (s : State) (loc peer : Eid) : State :=
  match s.ctx loc peer with
  | none => s
  | some c => match c.answered with
    | some a => if c.ackTimer then s.sendAck loc peer a else s
    | none => s

/-- The gap timer expires (R59): NAK SEQ_GAP for rcv_nxt, and the timer restarts. -/
def State.gapTimeout (s : State) (loc peer : Eid) : State :=
  match s.ctx loc peer with
  | none => s
  | some c => match c.answered with
    | some a => if c.gapTimer then s.sendNak loc peer a c.rcvNxt 1 0 else s
    | none => s

/-- The RNR wait ends (R62): the sender goes back to nak_psn. -/
def State.rnrExpiry (s : State) (loc peer : Eid) : State :=
  match s.ctx loc peer with
  | none => s
  | some c => match c.rnrWait with
    | some p => s.goBack loc peer p
    | none => s

/-- A window probe (R75): with nothing outstanding and peer_rwnd 0 the next packet is sent alone. -/
def State.windowProbe (s : State) (loc peer : Eid) : State :=
  match s.ctx loc peer with
  | none => s
  | some c =>
    match c.unsent with
    | m :: rest => if c.outstanding = 0 && c.peerRwnd = 0 && s.maySend c m 1 then (s.sendOne c m rest).1 else s
    | [] => s

/-- PROBE requests on each slow path of a context (R64). -/
def State.probePaths (s : State) (loc peer : Eid) : State :=
  match s.ctx loc peer with
  | none => s
  | some c =>
    let slow := (List.range s.pathCount).filter fun p => match c.paths[p]? with | some x => x.state = .slow | none => false
    s.each slow fun s p =>
      s.sendPkt (answerPkt c ⟨pathPort loc peer (c.gen p) p, 0, p, 7⟩ 10 (.probe ⟨BitVec.ofNat 32 s.dtc.toNat, 0, p⟩)) 4093 false

/-- A received PROBE (R49, R64): a request is answered at once on the same path; a reply updates the path's RTT and may
bring it back to active. -/
def State.rxProbe (s : State) (p : HktPkt) (x : ProbeExt) : State :=
  let a := s.rxAdmit 10 p
  if !a.2 then a.1
  else
    let h := p.hdr
    let s := a.1.touchCtx h.dst h.src
    if x.kind = 0 then
      let nxt := match s.ctx h.dst h.src with | some c => c.sndNxt | none => 0
      let ep := match s.ctx h.dst h.src with | some c => c.sndEpoch | none => 0
      s.sendPkt { hdr := { opcode := 10, flags := {}, svc := h.svc, path := h.path, extLen := 2, dst := h.src, src := h.dst
                           psn := nxt, msgId := 0, sendTs := 0, echoTs := h.sendTs, epoch := ep, unaDelta := 0 }
                  ext := .probe ⟨x.id, 1, x.path⟩, ing := { port := 0, srcPort := p.ing.srcPort } } 4093 false
    else
      match s.ctx h.dst h.src, s.rttOf h.echoTs with
      | some c, some v =>
        let k := x.path % 16
        let c := { c with paths := lmod c.paths k fun y => pathSample y v }
        let ok := decide ((v : Rat) ≤ c.slowBound s.pathCount)
        (s.putCtx ({ c with paths := lmod c.paths k fun y => if ok then { y with state := .active } else y }.markSlow s.pathCount)).pump h.dst h.src
      | _, _ => s

/-- EPOCH_ADVANCE (R173): after the PSN cap or the age limit, once everything is acknowledged, the next epoch starts at
PSN 0. -/
def State.epochAdvance (s : State) (loc peer : Eid) : State :=
  match s.ctx loc peer with
  | none => s
  | some c =>
    if c.sndUna = c.sndNxt && (c.capped || decide (secTicks 2048 ≤ s.since c.epochAt)) then
      (s.putCtx { c with sndEpoch := c.sndEpoch + 1, sndUna := 0, sndNxt := 0, rtxNxt := 0, capped := false
                         epochAt := s.dtc, rtoOn := false, backoff := 0 }).pump loc peer
    else s

/-- A send that waited for context space proceeds (R54). -/
def State.spillResume (s : State) : State :=
  match s.hkt.waiting with
  | [] => s
  | (loc, peer, m) :: rest =>
    match s.needCtx loc peer with
    | none => s.spillFull
    | some (c, s) =>
      (({ s with hkt := { s.hkt with waiting := rest } }).putCtx { c with unsent := c.unsent ++ [m] }).pump loc peer

/-- The queued messages that name a region being revoked are not built into packets any more (R69): their owners' commands complete with
ST_REGION_REVOKED. -/
def State.revokeQueued (s : State) (k : Word32) : State :=
  (s.dropQueued k).each (s.queuedWith k) fun s (_, _, m) => s.failPurpose m.purpose (.nak 3 k)

/-- A revocation completes (R68, R69): no packet naming the key is in flight, the entry becomes FREE with its tag
incremented, and the REGION_REVOKE that asked for it completes. -/
def State.revokeDone (s : State) (i : Nat) : State :=
  match tget s.hkt.regions i with
  | none => s
  | some r =>
    let key := regionKey i r.tag
    if r.state != .revoking || s.keyInFlight key then s
    else
      let s := s.freeRegion key
      match r.revCmd with
      | some c => s.complete c St.ok
      | none => s

end Sys2Proof.Machine
end

