-- ==== Sys2Proof/Machine/Swc.lean ====
section
/-! DEFINITION. The switch core (chapter 12): a frame's class, lookup and destinations (R74, R368 to R370, R377, R378),
admission and cut-through (R349 to R353), the crossbar (R354, R356), mirroring (R357 to R359), Moraine (R360, R361), ports
going down and up (R362, R363). -/

namespace Sys2Proof.Machine

open F

/-! ## What the ingress pipeline reads of a frame -/

/-- The class of a frame: its PCP, else the lowest class whose DSCP it carries, else 0 (R74). -/
def State.frameClass (s : State) (f : Frame) : Nat :=
  match f.tag with
  | some (_, pcp) => pcp % 8
  | none => match f.ip with
    | some ip => ((List.range 8).find? fun c => s.get TMS_DSCP_MAP_dscp / 2 ^ (6 * c) % 64 = ip.dscp).getD 0
    | none => 0

/-- The VLAN of a frame, 0 untagged (R366). -/
def frameVlan (f : Frame) : Nat := match f.tag with | some (v, _) => v | none => 0

/-- Whether a MAC address is one of the module's (MAC_PORT_CFG.mac). -/
def State.ownMac (s : State) (m : Nat) : Bool := m != 0 && (regNonzero s.regs MAC_PORT_CFG_mac).any fun p => s.get MAC_PORT_CFG_mac p = m

/-- A multicast or broadcast MAC address: the group bit of its first byte. -/
def multicast (m : Nat) : Bool := m / 2 ^ 40 % 2 = 1

/-- The HKT header of a frame the ingress pipeline takes as HKT (R368). -/
def State.frameHkt (s : State) (f : Frame) : Option FrameHkt :=
  match f.hkt, f.ip with
  | some h, some ip =>
    if s.ownMac f.dst && ip.udp && (match ip.ports with | some (_, d) => decide (d = s.get HKT_UDP_PORT_udp_port) | none => false) then
      some h
    else none
  | _, _ => none

/-- The hash that chooses a group's member for a frame that is not HKT (R370). -/
def frameHash (f : Frame) : Nat :=
  (crc32c (match f.ip with
    | some ip => ip.src ++ ip.dst ++ (match ip.ports with | some (a, b) => beBytes 2 a ++ beBytes 2 b | none => [])
    | none => beBytes 6 f.src ++ beBytes 6 f.dst)).toNat

/-- The pipeline of an ingress port (R24). -/
def pipeOf (p : Nat) : Nat := if p < 16 || p = 32 || p = 36 || p = 37 || p = 48 then 0 else 1

/-- The cells a head reserves (R349). -/
def reserveCells (f : Frame) : Nat :=
  match f.ip with
  | some ip => cellsOf (ip.len + 14 + (match f.tag with | some _ => 4 | none => 0) + 4)
  | none => 36

/-! ## Messages to the update pipeline (R379, R382) -/

/-- A hit posts a message where the entry is not static and has an age; a full queue drops it (R382). -/
def State.postHit (s : State) (pipe t : Nat) (e : BitVec 128) : State :=
  if eStatic e || eAge e = 0 then s
  else
    let q := tgetD s.fwd.hits pipe []
    if 1024 ≤ q.length then s.bump (ctrFwd t 8)
    else { s with fwd := { s.fwd with hits := tput s.fwd.hits pipe (q ++ [⟨t, eKey e, eBank e = 1⟩]) } }

/-- A learn or move message: filtered by the 64 most recent keys, dropped by a full queue (R379). -/
def State.postLearn (s : State) (pipe t : Nat) (e : BitVec 128) : State :=
  let q := tgetD s.fwd.learn pipe []
  if (q.reverse.take 64).any fun m => m.table = t && eKey m.entry = eKey e then s
  else if 4096 ≤ q.length then s.bump (ctrFwd t 7)
  else { s with fwd := { s.fwd with learn := tput s.fwd.learn pipe (q ++ [⟨t, e⟩]) } }

/-- Whether a port is at its learning limit (R378). -/
def State.atLimit (s : State) (p : Nat) : Bool :=
  s.get FWD_PORT_CFG_learn_limit p != 0 && decide (s.get FWD_PORT_CFG_learn_limit p ≤ s.get FWD_PORT_CFG_learned p)

/-- The source of a frame (R377, R378): the state, and whether the frame goes on. -/
def State.learnSource (s : State) (f : Frame) (h : Option FrameHkt) : State × Bool :=
  if !(decide (f.port < 34) && s.flag FWD_PORT_CFG_learn_en f.port) then (s, true)
  else
    let t := match h with | some _ => 0 | none => 1
    let k := match h with | some x => keyEid x.src | none => keyMac f.src (frameVlan f)
    let e := match h with | some x => mkEid x.src f.port f.src | none => mkMac f.src (frameVlan f) f.port
    if (match h with | some x => decide (x.src.toNat / 2 ^ 18 = s.moduleId) | none => false) then (s.bump (ctrFwd 0 14), false)
    else if h.isNone && multicast f.src then (s, true)
    else
      let same (o : BitVec 128) : Bool := ePort o = some (f.port, false) && (h.isNone || eMac o = f.src)
      match s.fwdFind t k with
      | some o =>
        if same o then (s.postHit (pipeOf f.port) t o, true)
        else if eStatic o then (s.bump (ctrFwd t 12), false)
        else if s.atLimit f.port then
          if s.flag FWD_PORT_CFG_limit_action f.port then (s.bump (ctrFwdPort f.port 1), true)
          else (s.bump (ctrFwdPort f.port 0), false)
        else (s.postLearn (pipeOf f.port) t e, true)
      | none =>
        if s.atLimit f.port then
          if s.flag FWD_PORT_CFG_limit_action f.port then (s.bump (ctrFwdPort f.port 1), true)
          else (s.bump (ctrFwdPort f.port 0), false)
        else (s.postLearn (pipeOf f.port) t e, true)

/-- Where a frame goes (R368, R369): ports with the destination MAC written into it, counted. -/
structure FwdResult where
  ports  : List Nat
  newMac : Option Nat := none
  deriving DecidableEq, Repr

/-- A miss: flooded, or discarded and counted (R368, R378). -/
def State.fwdMiss (s : State) (t ingress : Nat) (extra : List Nat) : State × FwdResult :=
  let s := s.bump (ctrFwd t 2)
  let l := s.floodPorts ingress ++ extra
  if l.isEmpty then (s.bump (ctrFwd t 14), ⟨[], none⟩) else (s.bump (ctrFwd t 13), ⟨l, none⟩)

/-- FORWARD_LOOKUP (R368, R369): never to the ingress port; a frame whose TTL would leave as 0 is discarded. -/
def State.forward (s : State) (f : Frame) (h : Option FrameHkt) : State × FwdResult :=
  match h with
  | some x =>
    if x.dst.toNat / 2 ^ 18 = s.moduleId then
      (s, ⟨if x.opcode = 11 then [] else [36 + groupOf x.src], none⟩)
    else
      let s := s.bump (ctrFwd 0 0)
      match s.eidEntry x.dst with
      | none => s.fwdMiss 0 f.port []
      | some e =>
        let s := (s.bump (ctrFwd 0 1)).postHit (pipeOf f.port) 0 e
        if (match f.ip with | some ip => decide (ip.ttl ≤ 1) | none => false) then
          (if f.port < 34 then s.bump (ctrMac f.port 29) else s, ⟨[], none⟩)
        else
          match s.entryPort e (hktHash x.path x.src x.dst) with
          | some p => if p = f.port then (s.bump (ctrFwd 0 14), ⟨[], none⟩) else (s, ⟨[p], some (eMac e)⟩)
          | none => (s.bump (ctrFwd 0 14), ⟨[], none⟩)
  | none =>
    if multicast f.dst then
      let l := s.floodPorts f.port ++ (if f.port = 48 then [] else [48])
      (s.bump (ctrFwd 1 13), ⟨l, none⟩)
    else if s.ownMac f.dst then (s, ⟨if f.port = 48 then [] else [48], none⟩)
    else
      let s := s.bump (ctrFwd 1 0)
      match s.fwdFind 1 (keyMac f.dst (frameVlan f)) with
      | none => s.fwdMiss 1 f.port []
      | some e =>
        let s := (s.bump (ctrFwd 1 1)).postHit (pipeOf f.port) 1 e
        let cpu := if eBits e 52 52 = 1 && f.port != 48 then [48] else []
        match s.entryPort e (frameHash f) with
        | some p => (s, ⟨(if p = f.port then [] else [p]) ++ cpu.filter (· != p), none⟩)
        | none => (s.bump (ctrFwd 1 14), ⟨cpu, none⟩)

/-! ## Mirroring (R357 to R359) -/

/-- Whether a mirror session is in force: enabled with a legal source and analysis port. -/
def State.mirrorOn (s : State) (m : Nat) : Bool :=
  let src := s.get SWC_MIRROR_src_port m
  let dst := s.get SWC_MIRROR_dst_port m
  s.flag SWC_MIRROR_en m && (decide (src < 34) || (src = 63 && s.flag SWC_MIRROR_flow m)) && (decide (dst < 32) || dst = 48)

/-- Whether a session selects a frame received or sent on a port. -/
def State.mirrorHit (s : State) (m port : Nat) (f : Frame) : Bool :=
  let src := s.get SWC_MIRROR_src_port m
  decide (port < 34) && decide (f.port < 34) && (src = 63 || src = port) &&
    (!s.flag SWC_MIRROR_flow m ||
      match s.frameHkt f with
      | none => false
      | some h =>
        let e := if s.flag SWC_MIRROR_FLOW_match_dst m then h.dst else h.src
        let n := min (s.get SWC_MIRROR_FLOW_prefix_len m) 32
        (n = 0 || prefixEq n e (BitVec.ofNat 32 (s.get SWC_MIRROR_FLOW_eid m))) &&
          (s.flag SWC_MIRROR_FLOW_op_any m || h.opcode = s.get SWC_MIRROR_FLOW_opcode m))

/-- The sessions that copy a frame in a direction (bit 0 ingress, bit 1 egress): one frame in sample of those selected. -/
def State.mirrorPick (s : State) (dir port : Nat) (f : Frame) : List Nat × State :=
  (List.range 4).foldl (fun (l, s) m =>
    if s.mirrorOn m && fbit (s.get SWC_MIRROR_dir m) dir && s.mirrorHit m port f then
      let n := tgetD s.swc.selected m 0
      let s := { s with swc := { s.swc with selected := tput s.swc.selected m (n + 1) } }
      (if n % atLeast1 (s.get SWC_MIRROR_sample m) = 0 then l ++ [m] else l, s)
    else (l, s)) ([], s)

/-- The bytes a copy is cut to, 0 for none (R358). -/
def State.truncOf (s : State) (m : Nat) : Nat := 64 * min (s.get SWC_MIRROR_trunc m) 144

/-- The copy of a session (R357 to R359). -/
def State.mirrorCopy (s : State) (m cells : Nat) : SwcCopy :=
  { dst := s.get SWC_MIRROR_dst_port m, tc := s.get SWC_MIRROR_tc m, mirror := some m, trunc := s.truncOf m
    vlan := s.get SWC_MIRROR_vlan m, toCross := cells }

/-! ## Lanes and VOQs (R345, R354) -/

/-- The lane of a port; of an engine port's two, the one the other end's port number picks. -/
def laneOf (p other : Nat) : Nat :=
  if p < 32 then p / 4 else if p = 32 then 8 else if p = 33 then 9 else if p = 48 then 18
  else 10 + 2 * (p - 36) + other % 2

/-- Cells of a copy placed in its VOQ. -/
def State.voqPush (s : State) (id port : Nat) (c : SwcCopy) (n : Nat) : State :=
  let k := (laneOf port c.dst, laneOf c.dst port)
  { s with swc := { s.swc with voq := tput s.swc.voq k (tgetD s.swc.voq k [] ++ List.replicate n ⟨id, c.dst, c.mirror⟩) } }

/-- The state with a frame set. -/
def State.putFrame (s : State) (id : Nat) (x : SwcFrame) : State :=
  { s with swc := { s.swc with frames := tput s.swc.frames id x } }

/-- A copy of a frame ends: its reference to the cells is given up, its cells leave the VOQs; the frame goes with its
last copy. -/
def State.endCopy (s : State) (id dst : Nat) (mirror : Option Nat) : State :=
  match tget s.swc.frames id with
  | none => s
  | some x =>
    let rest := x.copies.filter fun c => !(c.dst = dst && c.mirror = mirror)
    let s := s.dropCells x.cells
    let s := { s with swc := { s.swc with
        voq := s.swc.voq.map fun (k, (l : List VoqCell)) => (k, l.filter fun (v : VoqCell) => !(v.frame = id && v.dst = dst && v.mirror = mirror)) } }
    let s := if rest.isEmpty then { s with swc := { s.swc with frames := tdel s.swc.frames id } }
      else s.putFrame id { x with copies := rest }
    s.pfcWatch x.f.port x.tc

/-- The frame's copy as it leaves: addresses and TTL of R369, truncation and tag of R358. -/
def State.leavingFrame (s : State) (x : SwcFrame) (c : SwcCopy) : Frame :=
  let f := { x.f with
    dst := c.newMac.getD x.f.dst
    src := match c.newMac with | some _ => s.get MAC_PORT_CFG_mac c.dst | none => x.f.src
    ip := match c.newMac, x.f.ip with | some _, some ip => some { ip with ttl := ip.ttl - 1 } | _, i => i
    len := if c.trunc = 0 then x.f.len else min x.f.len c.trunc }
  if c.vlan = 0 then f else { f with tag := some (c.vlan, c.tc), len := f.len + 4 }

/-- A copy that has left, whose tail has arrived and whose cells have all crossed, ends; one for an engine port or the
CPU port leaves as soon as it is whole and good. -/
def State.settleCopy (s : State) (id dst : Nat) (mirror : Option Nat) : State :=
  match tget s.swc.frames id with
  | none => s
  | some x =>
    match x.copies.find? fun c => c.dst = dst && c.mirror = mirror with
    | none => s
    | some c =>
      if c.toCross != 0 || x.tail.isNone then s
      else if c.left then s.endCopy id dst mirror
      else if 34 ≤ dst && c.stamp.isSome && x.tail = some true then
        (s.send (.frame dst (s.leavingFrame x c) false)).endCopy id dst mirror
      else s

/-! ## A frame's head -/

/-- The frames of an egress queue and those still crossing toward it (R352). -/
def State.queueBusy (s : State) (p tc : Nat) : Bool :=
  s.depth p tc != 0 || s.swc.frames.any fun (_, x) => x.copies.any fun c => c.dst = p && c.tc = tc && c.stamp.isNone

/-- Whether a copy may start before its tail (R352). -/
def State.cutThrough (s : State) (f : Frame) (dst tc : Nat) : Bool :=
  decide (f.port < 34) && decide (dst < 34) && fbit (s.get SWC_CT_EN_ct_en) f.port &&
    decide (s.get MAC_PORT_STATUS_speed dst ≤ s.get MAC_PORT_STATUS_speed f.port) && !s.queueBusy dst tc && !s.pausedAt dst tc

/-- Whether a frame is admitted to a destination (R350, R351, R359): up, cells free, and for a lossy class within
alpha. -/
def State.admits (s : State) (f : Frame) (n tc : Nat) (mirror : Bool) (p : Nat) : Bool :=
  s.portUp p && s.cellsOk p n && ((s.pfcOn f.port tc && !mirror) || s.alphaOk p tc n)

/-- FRAME_HEAD_ARRIVAL (R349): the frame is classified, looked up, its source learned, mirror copies selected, and it is
admitted to each destination or discarded there; PFC is watched. A frame to several destinations, a privileged port among them, takes
the first such port's reserve (R351). -/
def State.frameHead (s : State) (f : Frame) : State :=
  if f.pair || !s.portUp f.port then s
  else
    let h := s.frameHkt f
    let s := if f.port < 34 && f.bad43 && h.isSome then s.bump (ctrMac f.port 30) else s
    if f.bad43 && h.isSome then s
    else
      let tc := s.frameClass f
      let (ms, s) := s.mirrorPick 0 f.port f
      let (s, go) := s.learnSource f h
      let (s, r) := if go then s.forward f h else (s, ⟨[], none⟩)
      let n := reserveCells f
      let whole := decide (34 ≤ f.port)
      let shut := s.pfcOn f.port tc && !s.pfcAdmits f.port tc n
      let s := if shut then s.bump (ctrMac f.port 28) else s
      let ports := if shut then [] else r.ports
      let ok := ports.filter fun p => s.admits f n tc false p
      let s := s.each (ports.filter fun p => !s.admits f n tc false p) fun s p => s.dropAtQueue p tc f.len
      let (mok, mbad) := ms.partition fun m => s.admits f n (s.get SWC_MIRROR_tc m) true (s.get SWC_MIRROR_dst_port m)
      let s := s.each mbad fun s m =>
        { s with swc := { s.swc with mirDrops := tput s.swc.mirDrops m (tgetD s.swc.mirDrops m 0 + 1) } }
      let copies := (ok.map fun p => ({ dst := p, tc := tc, ct := whole || s.cutThrough f p tc, newMac := r.newMac
                                        toCross := if whole then n else 1 } : SwcCopy)) ++
        mok.map fun m => { s.mirrorCopy m (if whole then n else 1) with
          ct := s.truncOf m = 0 && s.cutThrough f (s.get SWC_MIRROR_dst_port m) (s.get SWC_MIRROR_tc m) }
      if copies.isEmpty then s
      else
        let reserve := (copies.find? fun c => privileged c.dst).map fun c => (c.dst, min n (s.reserveLeft c.dst))
        let (l, s) := s.takeCells n copies.length
        let id := s.swc.nextFrame
        let s := { s with swc := { s.swc with nextFrame := id + 1 } }
        let s := s.putFrame id { f := f, tc := tc, cells := l, reserve := reserve, epoch := s.get FWD_EPOCH_current
                                 tail := if whole then some true else none, copies := copies }
        let s := s.each copies fun s c => s.voqPush id f.port c c.toCross
        let s := s.each (copies.filter fun c => c.ct && decide (c.dst < 34) && !whole) fun s c =>
          if c.mirror.isNone && f.port < 34 then s.bump (ctrCutThrough f.port) else s
        s.pfcWatch f.port tc

/-! ## A frame's tail -/

/-- The scheduler items of a frame changed or removed. -/
def State.frameItems (s : State) (id : Nat) (g : TmsItem → Option TmsItem) : State :=
  let upd (l : List TmsItem) : List TmsItem := l.filterMap fun i => if i.work = .frame id then g i else some i
  { s with tms := { s.tms with leaves := s.tms.leaves.map fun x => { x with green := upd x.green, yellow := upd x.yellow } } }

/-- FRAME_TAIL_ARRIVAL (R349, R353): unused reserved cells return; a good frame's cells follow; of a bad one every copy
whose head has not left is discarded and one that has left is stomped. -/
def State.frameTail (s : State) (id : Nat) (t : FrameTail) (len : Nat) : State :=
  match tget s.swc.frames id with
  | none => s
  | some x =>
    if x.tail.isSome then s
    else
      let p := x.f.port
      let n := cellsOf len
      let good := t = .good && decide (n ≤ x.cells.length) && decide (len ≤ 9216)
      let s := if p < 34 then
          let s := if t = .fcs then s.bump (ctrMac p 4) else if t = .fec then s.bump (ctrMac p 8) else s
          let s := if 9216 < len then s.bump (ctrMac p 6) else s
          if good then (s.bump (ctrMac p 0)).bump (ctrMac p 1) len else s
        else s
      if good then
        let keep := x.cells.take n
        let s := s.each (List.range x.copies.length) fun s _ => s.dropCells (x.cells.drop n)
        let x := { x with f := { x.f with len := len }, cells := keep, tail := some true
                          reserve := x.reserve.map fun (q, k) => (q, min k n)
                          copies := x.copies.map fun c => { c with toCross := c.toCross + (n - 1) } }
        let s := s.putFrame id x
        let s := s.frameItems id fun i => some { i with cells := keep }
        let s := s.each x.copies fun s c => s.voqPush id p c (n - 1)
        let s := s.each x.copies fun s c =>
          if c.left then s.send (.frame c.dst (s.leavingFrame x c) false) else s
        (s.each x.copies fun s c => s.settleCopy id c.dst c.mirror).pfcWatch p x.tc
      else
        let x := { x with f := { x.f with len := len }, tail := some false }
        let s := if x.copies.any fun c => !c.left then (if p < 34 then s.bump (ctrIngressErr p) else s) else s
        let s := (s.putFrame id x).frameItems id fun _ => none
        s.each x.copies fun s c =>
          if c.left then
            (((if c.dst < 34 then s.bump (ctrStomped c.dst) else s).send (.frame c.dst (s.leavingFrame x c) true))).endCopy
              id c.dst c.mirror
          else if c.trunc != 0 && c.mirror.isSome then
            (s.send (.frame c.dst (s.leavingFrame x c) true)).endCopy id c.dst c.mirror
          else s.endCopy id c.dst c.mirror

/-! ## The crossbar (R354, R356) -/

/-- Whether a VOQ holds a cell. -/
def State.voqHas (s : State) (i j : Nat) : Bool := !(tgetD s.swc.voq (i, j) []).isEmpty

/-- The first of 19 numbers at or after a pointer that satisfies a test. -/
def firstFrom (start : Nat) (p : Nat → Bool) : Option Nat := ((List.range 19).map fun k => (start + k) % 19).find? p

/-- One grant and accept iteration over the pairs matched so far: the new pairs. -/
def State.xbarIter (s : State) (done : List (Nat × Nat)) : List (Nat × Nat) :=
  let freeIn (i : Nat) : Bool := !(done.any fun m => m.1 = i)
  let grants := ((List.range 19).filter fun j => !(done.any fun m => m.2 = j)).filterMap fun j =>
    (firstFrom (tgetD s.swc.gptr j 0) fun i => freeIn i && s.voqHas i j).map fun i => (i, j)
  ((List.range 19).filter freeIn).filterMap fun i =>
    (firstFrom (tgetD s.swc.aptr i 0) fun j => grants.contains (i, j)).map fun j => (i, j)

/-- A cell crosses (R354, R356): the first cell of a copy puts its frame into the egress queue, stamped with the DTC and charged as it will
leave (R92); a transit frame belongs to no tenant of R87 and waits in a leaf of its own, unshaped and of weight 1 (assumption log 96). -/
def State.crossCell (s : State) (i j : Nat) : State :=
  match tgetD s.swc.voq (i, j) [] with
  | [] => s
  | v :: rest =>
    let s := { s with swc := { s.swc with voq := tput s.swc.voq (i, j) rest } }
    match tget s.swc.frames v.frame with
    | none => s
    | some x =>
      let first := x.copies.any fun c => c.dst = v.dst && c.mirror = v.mirror && c.stamp.isNone
      let x := { x with copies := x.copies.map fun c =>
        if c.dst = v.dst && c.mirror = v.mirror then
          { c with toCross := c.toCross - 1, stamp := some (c.stamp.getD s.dtc) } else c }
      let (tc, len) := match x.copies.find? fun c => c.dst = v.dst && c.mirror = v.mirror with
        | some c => (c.tc, (s.leavingFrame x c).len)
        | none => (x.tc, x.f.len)
      let s := s.putFrame v.frame x
      let s := if first && decide (v.dst < 34) then s.queueItem v.dst tc 4096 false (.frame v.frame) len x.cells else s
      s.settleCopy v.frame v.dst v.mirror

/-- CELL_SLOT: three iterations, the pointers moving on the matches of the first, then every matched cell crosses. -/
def State.cellSlot (s : State) : State :=
  let m1 := s.xbarIter []
  let m2 := m1 ++ s.xbarIter m1
  let m3 := m2 ++ s.xbarIter m2
  let s := { s with swc := { s.swc with
    gptr := m1.foldl (fun (t : Table Nat Nat) (m : Nat × Nat) => tput t m.2 ((m.1 + 1) % 19)) s.swc.gptr
    aptr := m1.foldl (fun (t : Table Nat Nat) (m : Nat × Nat) => tput t m.1 ((m.2 + 1) % 19)) s.swc.aptr } }
  s.each m3 fun s m => s.crossCell m.1 m.2

/-! ## Moraine (R360, R361) -/

/-- What a sweep finds in a list: units to return, units in conflict, and the list after repair. -/
def sweepUnits (t : Table Nat CellUse) (sweep : Nat) (repair : Bool) : List Nat × List Nat × Table Nat CellUse :=
  let leakable (u : CellUse) : Bool := !u.onFree && u.refs = 0 && u.sweep != sweep
  let leak := (t.filter fun (_, u) => leakable u && u.leaked).map (·.1)
  let bad (u : CellUse) : Bool := (u.onFree && u.refs != 0) || (!u.onFree && u.refs != 0 && u.rc != u.refs)
  let conf := (t.filter fun (_, u) => bad u).map (·.1)
  let t1 := t.map fun (i, u) => (i, { u with leaked := leakable u })
  let t2 := if repair then
      (t1.filter fun (i, _) => !leak.contains i).map fun (i, u) => (i, if bad u then { u with onFree := false, rc := u.refs } else u)
    else t1
  (leak, conf, t2)

/-- MORAINE_SWEEP: both lists are judged; leaks need two consecutive sweeps. -/
def State.moraineSweep (s : State) : State :=
  let k := s.get SWC_MORAINE_STATUS_sweeps
  let fix := s.flag SWC_MORAINE_CFG_repair_en
  let (lc, cc, tc) := sweepUnits s.swc.cells k fix
  let (ls, cs, ts) := sweepUnits s.swc.stage k fix
  let s := { s with swc := { s.swc with cells := tc, stage := ts } }
  let s := s.addSat SWC_MORAINE_STATUS_leaked_cells 0 lc.length
  let s := s.addSat SWC_MORAINE_STATUS_leaked_staging 0 ls.length
  let s := s.addSat SWC_MORAINE_STATUS_conflicts 0 (cc.length + cs.length)
  let s := (s.set SWC_MORAINE_STATUS_sweeps 0 (k + 1)).bufStatus
  let s := if lc.isEmpty && ls.isEmpty then s else s.raiseCo EV_SWC_MORAINE_REPAIR k 0 0 [lc.length, ls.length]
  s.each (cc ++ cs) fun s u => s.raise EV_SWC_MORAINE_CONFLICT 0 0 [u]

/-! ## Ports going down and up (R362, R363) -/

/-- The link of a port goes down: its status follows and the fall is counted. -/
def State.linkDown (s : State) (p : Nat) : State :=
  if s.flag MAC_PORT_STATUS_up p then
    (((s.set MAC_PORT_STATUS_up p 0).set MAC_PORT_STATUS_speed p 0).addSat MAC_PORT_STATUS_flaps p 1).enter (ctrMac p 9)
  else s

/-- The copies of frames queued or crossing toward a port, by frame number and mirror session. -/
def State.copiesTo (s : State) (p : Nat) : List (Nat × Option Nat) :=
  s.swc.frames.flatMap fun (id, x) => (x.copies.filter fun c => c.dst = p).map fun c => (id, c.mirror)

/-- Scheduler items of a root and the cells of the module's own packets among them flushed. -/
def State.flushRoot (s : State) (p : Nat) : State :=
  let own := (s.tms.leaves.filter fun x => x.root = p).flatMap fun x =>
    (x.green ++ x.yellow).filter fun i => match i.work with | .pkt _ => true | _ => false
  let s := { s with tms := { s.tms with leaves := s.tms.leaves.filter fun x => x.root != p } }
  s.each own fun s i => s.dropCells i.cells

/-- The egress queues of a privileged port flushed (R362): PFC accounting released, EV_SWC_PORT_FLUSH raised with the port and the
frame count. -/
def State.privilegedFlush (s : State) (p : Nat) : State :=
  let l := s.copiesTo p
  let own := (s.tms.leaves.filter fun x => x.root = p).foldl (fun n x => n +
    ((x.green ++ x.yellow).filter fun i => match i.work with | .pkt _ => true | _ => false).length) 0
  let s := s.flushRoot p
  let s := s.each l fun s (id, m) => s.endCopy id p m
  s.raise EV_SWC_PORT_FLUSH 1 p [l.length + own]

/-- PRIVILEGED_PORT_DOWN (R362): the port is down and its egress queues are flushed. -/
def State.privilegedDown (s : State) (p : Nat) : State :=
  if !privileged p then s
  else (if p = 48 then { s with swc := { s.swc with cpuUp := false } } else s.linkDown p).privilegedFlush p

end Sys2Proof.Machine
end

