-- ==== Sys2Proof/Machine/Fwd.lean ====
section
/-! DEFINITION. The update pipeline (chapter 13): learn and hit messages (R379, R382), ageing (R381), rehash (R375), FWD_CMD
(R383), LEARN records of both kinds (R341 to R343, R380), front ports going down and ports coming up (R363). -/

namespace Sys2Proof.Machine

open F

/-! ## Messages -/

/-- LEARN_MESSAGE (R372, R379): the pipelines' queues are served alternately; the key is looked up again, and a source
reported on another port is a move. -/
def State.learnMessage (s : State) : State :=
  let turn := s.fwd.turn
  let pipe := if (tgetD s.fwd.learn turn []).isEmpty then 1 - turn else turn
  match tgetD s.fwd.learn pipe [] with
  | [] => s
  | m :: rest =>
    let s := { s with fwd := { s.fwd with learn := tput s.fwd.learn pipe rest, turn := 1 - pipe } }
    match s.fwdFind m.table (eKey m.entry) with
    | some o =>
      if eStatic o then s.bump (ctrFwd m.table 12)
      else if ePort o = ePort m.entry && (eKind o = 4 || eMac o = eMac m.entry) then s
      else ((s.bump (ctrFwd m.table 10)).fwdInsert m.table m.entry).1
    | none => (s.fwdInsert m.table m.entry).1

/-- A change of the entries of a table where they stand: how many changed, and the table. -/
def fwdMap (x : FwdTbl) (g : BitVec 128 → BitVec 128) : Nat × FwdTbl :=
  ((x.all.filter fun e => g e != e).length, { x with slots := x.slots.map fun (p, e) => (p, g e), stash := x.stash.map g })

/-- HIT_MESSAGE (R376, R382): the age of the copy it was posted for becomes 0, where the key still stands. -/
def State.hitMessage (s : State) (pipe : Nat) : State :=
  match tgetD s.fwd.hits pipe [] with
  | [] => s
  | m :: rest =>
    let s := { s with fwd := { s.fwd with hits := tput s.fwd.hits pipe rest } }
    let (n, x) := fwdMap (s.ftab m.table) fun e =>
      if eKey e = m.key && (eBank e = 1) = m.bank && !eStatic e then eSet e 122 121 0 else e
    if n = 0 then s else s.fwdPut m.table n x

/-! ## Ageing (R381) -/

/-- The FWD seconds count, mod 2^16. -/
def State.fwdSeconds (s : State) : Nat := s.dtc.toNat / 1600000000 % 65536

/-- Whether a namespace entry's expiry has been reached, by 16-bit serial comparison. -/
def nsExpired (now : Nat) (e : BitVec 128) : Bool := eKind e = 3 && decide ((now + 65536 - eBits e 41 26) % 65536 < 32768)

/-- One table aged: entries of age 3 and expired namespace entries are removed, the others age. -/
def State.ageTable (s : State) (t : Nat) : State :=
  let now := s.fwdSeconds
  let gone (e : BitVec 128) : Bool := (!eStatic e && eKind e != 3 && eAge e = 3) || nsExpired now e
  let s := s.bump (ctrFwd t 9) ((s.ftab t).all.filter gone).length
  let s := s.fwdRemove t gone
  let (n, x) := fwdMap (s.ftab t) fun e => if !eStatic e && eKind e != 3 && eAge e < 3 then eSet e 122 121 (eAge e + 1) else e
  if n = 0 then s else s.fwdPut t n x

/-- AGER_SWEEP: every bucket and both stashes are visited once; sweep_s 0 stops ageing. -/
def State.agerSweep (s : State) : State := if s.get FWD_AGE_CFG_sweep_s 0 = 0 then s else (s.ageTable 0).ageTable 1

/-! ## Rehash (R375) -/

/-- A placed entry inserted into a list ordered by bucket and slot. -/
def slotInsert (a : (Nat × Nat) × BitVec 128) : List ((Nat × Nat) × BitVec 128) → List ((Nat × Nat) × BitVec 128)
  | [] => [a]
  | b :: t => if a.1.1 < b.1.1 || (a.1.1 = b.1.1 && a.1.2 < b.1.2) then a :: b :: t else b :: slotInsert a t

/-- The entries of the old bank: by ascending bucket, then the stash. -/
def oldEntries (x : FwdTbl) (bank : Nat) : List (Option (Nat × Nat) × BitVec 128) :=
  let l := (x.slots.filter fun (_, e) => eBank e = bank).foldl (fun l a => slotInsert a l) []
  l.map (fun (p, e) => (some p, e)) ++ (x.stash.filter fun e => eBank e = bank).map fun e => (none, e)

/-- One old entry reinserted under the new bank, its old copy emptied after; none where it cannot be placed. -/
def State.rehashOne (s : State) (t bank : Nat) (old : BitVec 128) : Option State :=
  let e := eSet old 120 120 (1 - bank)
  let r := s.fwdPlace t (s.ftab t) e
  match r.res with
  | .full => none
  | _ =>
    let x := { r.tbl with
      slots := r.tbl.slots.filter fun (_, o) => !(eKey o = eKey old && eBank o = bank)
      stash := r.tbl.stash.filter fun o => !(eKey o = eKey old && eBank o = bank) }
    some ((if r.moves = 0 then s else s.bump (ctrFwd t 4) r.moves).fwdPut t (r.writes + 1) x)

/-- The walk over the old entries that remain; it stays at one that cannot be placed. -/
def State.rehashGo (s : State) (t bank : Nat) : List (Option (Nat × Nat) × BitVec 128) → State × Bool
  | [] => (s, true)
  | (p, e) :: rest =>
    match s.rehashOne t bank e with
    | some s => s.rehashGo t bank rest
    | none =>
      let x := { s.ftab t with walk := (p.map (·.1)).getD (fwdBuckets t) }
      ({ s with fwd := { s.fwd with tables := tput s.fwd.tables t x } }, false)

/-- REHASH_WALK: while a rehash runs every old-bank entry is reinserted; when none remains the banks swap, req clears and
EV_FWD_REHASH_DONE is raised; an entry that cannot be placed stalls the walk. -/
def State.rehashWalk (s : State) (t : Nat) : State :=
  if !s.rehashing t then s
  else
    let bank := s.get FWD_TABLE_active t
    let (s, ok) := s.rehashGo t bank (oldEntries (s.ftab t) bank)
    if ok then
      let s := s.fwdPut t 1 { s.ftab t with walk := 0 }
      let s := ((((s.set FWD_TABLE_active t (1 - bank)).set FWD_TABLE_state t 0).set FWD_TABLE_req t 0).bump (ctrFwd t 11)).raise
        EV_FWD_REHASH_DONE 0 t
      if min (s.get FWD_LEARN_CFG_stash_hi) 64 ≤ (s.ftab t).stash.length then s.rehashReq t else s
    else if s.get FWD_TABLE_state t = 2 then s
    else (s.set FWD_TABLE_state t 2).raise EV_FWD_REHASH_STALL 0 t

/-- REHASH_RETRY: a stalled walk goes on from the entry it stays at. -/
def State.rehashRetry (s : State) (t : Nat) : State := if s.get FWD_TABLE_state t = 2 then s.rehashWalk t else s

/-! ## FWD_CMD (R383) -/

/-- The operand entry of a command, FWD_CMD_DATA. -/
def State.fwdOperand (s : State) : BitVec 128 :=
  BitVec.ofNat 128 (s.get FWD_CMD_DATA_data 0 + 2 ^ 64 * s.get FWD_CMD_DATA_data 1)

/-- The result of a command. -/
def State.fwdResult (s : State) (r : Nat) : State := s.set FWD_CMD_result 0 r

/-- Whether an entry may be inserted by command: a kind of the table, no namespace entry, reserved bits 0. -/
def fwdValid (t : Nat) (e : BitVec 128) : Bool :=
  match eKind e with
  | 1 => t = 0 && eBits e 32 0 = 0
  | 2 => t = 0 && eBits e 46 0 = 0
  | 4 => t = 1 && eBits e 51 0 = 0
  | _ => false

/-- FWD_CMD INSERT. -/
def State.fwdCmdInsert (s : State) (t : Nat) : State :=
  let e := s.fwdOperand
  if !fwdValid t e then s.fwdResult 4
  else
    let (s, r) := s.fwdInsert t e
    s.fwdResult (match r with | .done => 0 | .stashed => 1 | .full => 2)

/-- FWD_CMD DELETE. -/
def State.fwdCmdDelete (s : State) (t : Nat) : State :=
  let k := eKey s.fwdOperand
  match s.fwdFind t k with
  | none => s.fwdResult 3
  | some _ => (s.fwdRemove t fun e => eKey e = k).fwdResult 0

/-- FWD_CMD LOOKUP: the entry is returned in FWD_CMD_DATA. -/
def State.fwdCmdLookup (s : State) (t : Nat) : State :=
  match s.fwdFind t (eKey s.fwdOperand) with
  | none => s.fwdResult 3
  | some e => ((s.set FWD_CMD_DATA_data 0 (e.toNat % 2 ^ 64)).set FWD_CMD_DATA_data 1 (e.toNat / 2 ^ 64)).fwdResult 0

/-- Learned entries naming a port removed from a table: not static, of kind EID or MAC. -/
def State.flushLearned (s : State) (t p : Nat) : State :=
  s.fwdRemove t fun e => !eStatic e && (eKind e = 1 || eKind e = 4) && ePort e = some (p, false)

/-- FWD_CMD FLUSH_PORT. -/
def State.fwdCmdFlush (s : State) (t p : Nat) : State := (s.flushLearned t p).fwdResult 0

/-- The seeds of a table's inactive bank drawn anew, as resident firmware does when it answers a rehash request (R375). -/
def State.newSeeds (s : State) (t : Nat) : State :=
  let i := ix2 2 t (1 - s.get FWD_TABLE_active t)
  let (b, s) := s.drbg 1
  (s.set FWD_SEED_seed1 i (beAt b 0 4)).set FWD_SEED_seed2 i (beAt b 4 4)

/-- FWD_CMD REHASH: the walk starts under the inactive bank's seeds. -/
def State.fwdCmdRehash (s : State) (t : Nat) : State :=
  if s.rehashing t then s.fwdResult 6 else (s.set FWD_TABLE_state t 1).fwdResult 0

/-! ## LEARN records (R341 to R343, R380) -/

/-- The cluster ports that are up. -/
def State.clusterPorts (s : State) : List Nat := (List.range 34).filter fun p => s.flag FWD_PORT_CFG_cluster p && s.portUp p

/-- A LEARN packet with one record sent on a port in class 7 (R73); the spec names no destination EID for it, a free
value. -/
def State.learnNow (s : State) (o : LearnOut) : State :=
  let (w, s) := s.fresh
  let ext : HktExt := match o.loc, o.mod with
    | some r, _ => .learnLoc o.hop o.seq [r]
    | none, some r => .learnMod o.hop o.seq [r]
    | none, none => .learnMod o.hop o.seq []
  let p : HktPkt := { hdr := { opcode := 11, flags := {}, svc := 7, path := 0, extLen := 2, dst := w.truncate 32
                               src := s.moduleEid, psn := 0, msgId := 0, sendTs := 0, echoTs := 0, epoch := 0, unaDelta := 0 }
                      ext := ext, ing := { port := 0, srcPort := 0xC000 } }
  let s := { s with fwd := { s.fwd with lastSent := tput s.fwd.lastSent o.port s.dtc } }
  (s.sendOn p 4093 false o.port).bump (ctrPair 9)

/-- The ticks between two records on a port at learn_krate × 1,000 per second (R343). -/
def State.learnGap (s : State) : Nat := 1600000 / atLeast1 (s.get PAIR_LOC_CFG_learn_krate)

/-- Whether a port may send a record now. -/
def State.learnReady (s : State) (p : Nat) : Bool :=
  match tget s.fwd.lastSent p with
  | none => true
  | some t => decide (s.learnGap ≤ s.since t)

/-- A record sent within the rate, else queued; one that finds the queue of 65,536 full is discarded and counted
(R343). -/
def State.learnSend (s : State) (o : LearnOut) : State :=
  if s.learnReady o.port && !(s.fwd.outQueue.any fun x => x.port = o.port) then s.learnNow o
  else if 65536 ≤ s.fwd.outQueue.length then s.bump (ctrPair 11)
  else { s with fwd := { s.fwd with outQueue := s.fwd.outQueue ++ [o] } }

/-- LOCATION_QUEUE_SEND: the oldest queued record of a port goes out within the rate. -/
def State.learnDrain (s : State) (p : Nat) : State :=
  match s.fwd.outQueue.find? fun x => x.port = p with
  | none => s
  | some o => if s.learnReady p then ({ s with fwd := { s.fwd with outQueue := s.fwd.outQueue.erase o } }).learnNow o else s

/-- The next origin sequence number. -/
def State.nextSeq (s : State) : Word32 × State := (s.fwd.originSeq, { s with fwd := { s.fwd with originSeq := s.fwd.originSeq + 1 } })

/-- A record the module originates, on a list of ports. -/
def State.originate (s : State) (ports : List Nat) (loc : Option LocRec) (mod : Option ModRec) : State :=
  let (q, s) := s.nextSeq
  s.each ports fun s p => s.learnSend ⟨p, s.get PAIR_LOC_CFG_hop_limit, q, loc, mod⟩

/-- The module's own reachability record (R380). -/
def State.ownModRec (s : State) : ModRec := { moduleId := s.moduleId, hops := 0 }

/-- MODULE_RECORD_REFRESH (R380): the own record on every cluster port. -/
def State.moduleRefresh (s : State) : State :=
  if s.flag FWD_LEARN_CFG_learn_mod_en then s.originate s.clusterPorts none (some s.ownModRec) else s

/-- The port or cluster group under which an arrival port's records are entered (R380). -/
def State.learnPort (s : State) (p : Nat) : Nat × Bool :=
  match (List.range 64).find? fun g => s.flag FWD_PORT_GROUP_en g && s.flag FWD_PORT_GROUP_cluster g &&
      fbit (s.get FWD_PORT_GROUP_members g) p with
  | some g => (g, true)
  | none => (p, false)

/-- A record re-sent on the cluster ports other than the arrival port, its hop limit decremented; at 0 it is not. -/
def State.relay (s : State) (arrival hop : Nat) (seq : Word32) (loc : Option LocRec) (mod : Option ModRec) : State :=
  if hop ≤ 1 then s else s.each (s.clusterPorts.filter (· != arrival)) fun s p => s.learnSend ⟨p, hop - 1, seq, loc, mod⟩

/-- One module record handled (R380); an entry written with another content than it had, its age counted, is a change (assumption log
114). -/
def State.takeModRec (s : State) (arrival mac hop : Nat) (seq : Word32) (r : ModRec) : State :=
  let h := r.hops + 1
  let k := keyModule r.moduleId
  let old := s.fwdFind 0 k
  let at_ := s.learnPort arrival
  let names (e : BitVec 128) : Bool := ePort e = some at_
  if r.moduleId = s.moduleId || decide (15 < h) || (match old with | some e => eStatic e | none => false) then s
  else if r.withdraw then
    match old with
    | some e => if names e then (s.fwdRemove 0 fun x => eKey x = k).relay arrival hop seq none (some { r with hops := h }) else s
    | none => s
  else
    let take := match old with
      | none => true
      | some e => decide (h < eBits e 98 95) || names e
    if !take then s
    else
      let e := mkModule r.moduleId at_.1 at_.2 h mac
      let changed := match old with
        | none => true
        | some o => eSet o 120 120 0 != e
      let s := (s.fwdInsert 0 e).1
      if changed then s.relay arrival hop seq none (some { r with hops := h }) else s

/-- The module records of a LEARN packet: those it came with, opened where it came from a protected peer (R70). -/
def State.modRecs (s : State) (p : HktPkt) (l : List ModRec) : List ModRec :=
  match s.protEntry p.hdr.src, (s.opened p).ext with
  | some _, .learnMod _ _ r => r
  | _, _ => l

/-- The location records of a LEARN packet likewise. -/
def State.locRecs (s : State) (p : HktPkt) (l : List LocRec) : List LocRec :=
  match s.protEntry p.hdr.src, (s.opened p).ext with
  | some _, .learnLoc _ _ r => r
  | _, _ => l

/-- LEARN_MODULE_RX. -/
def State.learnModuleRx (s : State) (p : HktPkt) (mac hop : Nat) (seq : Word32) (l : List ModRec) : State :=
  let a := s.rxAdmit 11 p
  if !a.2 || hop = 0 || !a.1.flag FWD_LEARN_CFG_learn_mod_en then a.1
  else a.1.each (s.modRecs p l) fun s r => s.takeModRec p.ing.port mac hop seq r

/-- CLUSTER_PORT_DOWN (R380): module entries naming the port are removed and withdrawn on the other cluster ports. -/
def State.clusterDown (s : State) (p : Nat) : State :=
  let gone := (s.ftab 0).all.filter fun e => eKind e = 2 && !eStatic e && ePort e = some (p, false)
  let s := s.fwdRemove 0 fun e => eKind e = 2 && !eStatic e && ePort e = some (p, false)
  s.each gone fun s e =>
    s.originate (s.clusterPorts.filter (· != p)) none
      (some { moduleId := eBits e 119 106, hops := eBits e 98 95, withdraw := true })

/-! ### Location records (R341 to R343) -/

/-- Serial comparison of owner generations: `a` is newer than `b`. -/
def genNewer (a b : Word32) : Bool := decide (1 ≤ (a - b).toNat) && decide ((a - b).toNat < 2 ^ 31)

/-- The namespace entries held. -/
def State.locHeld (s : State) : Nat := ((s.ftab 0).all.filter fun e => eKind e = 3).length

/-- The location entry of a namespace. -/
def State.locOf (s : State) (nsid : Nat) : Option (BitVec 128) := s.fwdFind 0 (keyNs nsid)

/-- EV_PAIR_LOC_FULL, once per minute (R342). -/
def State.locFull (s : State) : State :=
  let s := { s with fwd := { s.fwd with notHeld := s.fwd.notHeld + 1 } }
  if (match s.fwd.locFull with | some t => decide (s.since t < secTicks 60) | none => false) then s
  else { s.raise EV_PAIR_LOC_FULL 0 0 with fwd := { s.fwd with locFull := some s.dtc } }

/-- One location record handled (R342). -/
def State.takeLocRec (s : State) (arrival hop : Nat) (seq : Word32) (r : LocRec) : State :=
  let s := s.bump (ctrPair 10)
  let k := keyNs r.nsid
  let e := mkNs r.nsid r.ownerId r.ownerGen (s.fwdSeconds + r.ttl)
  let old := s.locOf r.nsid
  let later (s : State) (changed : Bool) : State :=
    let due := match tget s.fwd.resent r.nsid with
      | some t => decide (secTicks (atLeast1 (s.get PAIR_LOC_CFG_refresh_s)) ≤ 2 * s.since t)
      | none => true
    if changed || due then
      ({ s with fwd := { s.fwd with resent := tput s.fwd.resent r.nsid s.dtc } }).relay arrival hop seq (some r) none
    else s
  match old with
  | none =>
    if r.withdraw then s
    else if min (s.get PAIR_LOC_CFG_ns_loc_max) 524288 ≤ s.locHeld then s.locFull
    else later (s.fwdInsert 0 e).1 true
  | some o =>
    let g : Word32 := BitVec.ofNat 32 (eBits o 73 42)
    if genNewer r.ownerGen g then
      later (if r.withdraw then s.fwdRemove 0 fun x => eKey x = k else (s.fwdInsert 0 e).1) true
    else if r.ownerGen = g then later (s.fwdInsert 0 (eSet o 41 26 (s.fwdSeconds + r.ttl))).1 false
    else s

/-- LEARN_LOCATION_RX. -/
def State.learnLocationRx (s : State) (p : HktPkt) (hop : Nat) (seq : Word32) (l : List LocRec) : State :=
  let a := s.rxAdmit 11 p
  if !a.2 || hop = 0 then a.1 else a.1.each (s.locRecs p l) fun s r => s.takeLocRec p.ing.port hop seq r

/-! ## Ports (R363) -/

/-- A port that has gone down: a cluster port's module entries are withdrawn (R380). -/
def State.portGone (s : State) (p : Nat) : State := if s.flag FWD_PORT_CFG_cluster p then s.clusterDown p else s

/-- FRONT_PORT_DOWN: the port is down, its learned entries go where flush_down is set (R381), a cluster port's module
entries are withdrawn (R380); the queued frames stay and are discarded as they reach the head. -/
def State.frontPortDown (s : State) (p : Nat) : State :=
  if !decide (p < 34) then s
  else
    let s := s.linkDown p
    let s := if decide (p < 32) && s.flag FWD_PORT_CFG_flush_down p then (s.flushLearned 0 p).flushLearned 1 p else s
    s.portGone p

/-- Whether a port's cage mode uses it (R4) and with which speed code (R544). -/
def State.cageSpeed (s : State) (p : Nat) : Option Nat :=
  if p = 32 || p = 33 then some 3
  else if 34 ≤ p then none
  else
    match s.get MAC_CAGE_CFG_mode (p / 4) with
    | 0 => if p % 4 = 0 then some 4 else none
    | 1 => if p % 2 = 0 then some 3 else none
    | 2 => some 2
    | _ => none

/-- Whether a port is held down: R4, R5, en = 0, a zero MAC address, or an optical module above 16 W (R544, R549). -/
def State.portHeld (s : State) (p : Nat) : Bool :=
  (s.cageSpeed p).isNone || (s.get GLB_IDENT_variant = 2 && decide (16 ≤ p) && decide (p < 32)) || !s.flag MAC_PORT_CFG_en p ||
    s.get MAC_PORT_CFG_mac p = 0 || (decide (p < 32) && match tget s.mac.optics (p / 4) with
      | some o => o.lowPower
      | none => false)

/-- PORT_LINK_UP: a port not held comes up and sends what is queued; a cluster port sends the module's own record
(R380). -/
def State.portLinkUp (s : State) (p : Nat) : State :=
  match s.cageSpeed p with
  | none => s
  | some v =>
    if s.portHeld p || s.flag MAC_PORT_STATUS_up p then s
    else
      let s := (((s.set MAC_PORT_STATUS_up p 1).set MAC_PORT_STATUS_speed p v).set MAC_PORT_STATUS_fec_lock p 1).leave (ctrMac p 9)
      if s.flag FWD_PORT_CFG_cluster p && s.flag FWD_LEARN_CFG_learn_mod_en then s.originate [p] none (some s.ownModRec) else s

/-- PORT_LINK_UP of the CPU port: the receive ring is enabled (R362). -/
def State.cpuPortUp (s : State) : State := { s with swc := { s.swc with cpuUp := true } }

end Sys2Proof.Machine
end

