-- ==== Sys2Proof/Machine/PairMove.lean ====
section
/-! DEFINITION. Namespaces between the modules of a pair (chapter 11): location records (R342), moves and returns (R336),
commands held, forwarded, redirected and requeued (R337 to R339), segments granted (R322). -/

namespace Sys2Proof.Machine

open F

/-! ## Location records (R342) -/

/-- The partner's module ID (R317). -/
def State.partnerId (s : State) : Nat := s.moduleId ^^^ 1

/-- The location record of a namespace. -/
def State.locRec (s : State) (i : Nat) (n : Ns) (withdraw : Bool) : LocRec :=
  { nsid := nsidOf i n, ownerId := n.ownerId, withdraw := withdraw, ownerGen := BitVec.ofNat 32 n.gen
    ttl := 3 * atLeast1 (s.get PAIR_LOC_CFG_refresh_s) }

/-- A namespace's owner announces it where it is not at its creator; returned to its creator, it is withdrawn, three times in
all. -/
def State.locAnnounce (s : State) (i : Nat) : State :=
  match s.ns i with
  | none => s
  | some n =>
    if n.ownerId = n.creator then
      let r := s.locRec i n true
      { s with fwd := { s.fwd with withdraws := tput s.fwd.withdraws (nsidOf i n) (r, 2) } }.originate s.clusterPorts (some r) none
    else if s.owned n then s.originate s.clusterPorts (some (s.locRec i n false)) none
    else s

/-- LOCATION_REFRESH (R342): records of the namespaces owned away from their creator, and the withdrawals still due. -/
def State.locRefresh (s : State) : State :=
  let s := s.each (s.nsm.ns.filter fun (_, n) => s.owned n && n.ownerId != n.creator) fun s (i, n) =>
    s.originate s.clusterPorts (some (s.locRec i n false)) none
  let due := s.fwd.withdraws
  let s := { s with fwd := { s.fwd with withdraws := due.filterMap fun (k, (r, n)) => if n ≤ 1 then none else some (k, (r, n - 1)) } }
  s.each due fun s (_, (r, _)) => s.originate s.clusterPorts (some r) none

/-! ## Commands of a namespace whose owner changes (R336, R338, R339) -/

/-- A command ended with the owner of its namespace (R338). -/
def State.redirect (s : State) (c owner : Nat) : State :=
  let (st, d0, d1) := movedTo owner
  ((s.dropWrite c).dropStages c).complete c st d0 d1

/-- The held commands of a namespace go on where it now is: here, forwarded, or redirected (R336). -/
def State.releaseHeld (s : State) (i : Nat) : State :=
  match s.ns i with
  | none => s.unhold i
  | some n =>
    let l := (s.qpe.cmds.filter fun (_, x) => x.ns = some i && x.ownerHold.isSome && x.phase = .fetched).map (·.1)
    if s.owned n then s.unhold i
    else if s.forwards then (s.each l fun s c => s.modCmd c fun x => { x with forwarded := true }).unhold i
    else s.each l fun s c => s.redirect c n.ownerId

/-- Whether a command waits for the partner: forwarded, or a Flush that the partner has still to answer for its namespaces (R122). -/
def Cmd.atPartner (x : Cmd) : Bool := (x.forwarded || x.fwdLeft != 0) && x.phase != .done

/-- FORWARD_REQUEUE (R339): a forwarded command without FWD_DONE is carried out again from the start by this module. -/
def State.requeue (s : State) : State :=
  let l := (s.qpe.cmds.filter fun (_, x) => x.atPartner).map (·.1)
  let s := { s with cip := s.cip.keep fun u => match u.use with
      | .cmd c _ => !l.contains c
      | _ => true }
  s.each l fun s c => (s.dropStages c).modCmd c fun x =>
    { x with forwarded := false, phase := .fetched, begun := false, left := 0, data := [], bytes := [], addrs := [], listing := false
             lost := none, moved := 0, fwdDone := false, fwdLeft := 0, failed := none }

/-- Commands forwarded or to be forwarded are redirected, since the module fences (R334). -/
def State.redirectAll (s : State) : State :=
  s.each (s.qpe.cmds.filter fun (_, x) => x.atPartner) fun s (c, x) => match x.ns with
    | some i => match s.ns i with
      | some n => s.redirect c n.ownerId
      | none => s
    | none => s.redirect c s.partnerId

/-! ## Moves (R336) -/

/-- Stripes in filling that hold entries of a namespace are padded and written (R336 step 3). -/
def State.padFor (s : State) (i : Nat) : State :=
  let due := (s.str.stripes.filter fun (_, x) => !x.writing && x.blocks.any fun (b, _) => match b with | .neve _ ns _ _ => ns = i | _ => false).map (·.1)
  s.each due State.stripeWrite

/-- Whether a move's namespace is quiet (R336 steps 2 and 3): no started command, no own Névé entry. -/
def State.nsQuiet (s : State) (i : Nat) : Bool :=
  !(s.qpe.cmds.any fun (_, x) => x.ns = some i && x.phase = .started) &&
  !(s.jnl.slots.any fun (_, x) => !x.mirror && x.desc.any fun d => d.ns = i)

/-- A committed owner record passes the namespace (R336 steps 4 to 6). -/
def State.moveEnd (s : State) (i : Nat) : State :=
  match s.ns i with
  | none => s
  | some n =>
    let m := { n with ownerId := s.partnerId, gen := n.gen + 1 }
    let s := { s with nsm := { s.nsm with ns := tput s.nsm.ns i m }, pair := { s.pair with moves := s.pair.moves.drop 1 } }
    let s := ((s.pairSend (.owner i m.gen)).raise EV_PAIR_MOVED 4 i).bump (ctrPair 8)
    let s := if m.ownerId = m.creator then s.locAnnounce i else s
    let s := s.releaseHeld i
    if s.pair.moves.isEmpty then s.set PAIR_STATUS_cmd_result 0 0 else s

/-- The move under way goes on as far as it can (R336); looked at each 100 µs (a design choice of the model). -/
def State.moveStep (s : State) : State :=
  match s.pair.moves with
  | [] => s
  | m :: rest =>
    match s.ns m.ns with
    | none => { s with pair := { s.pair with moves := rest } }
    | some n =>
      if m.done then s.moveEnd m.ns
      else if m.recorded then s
      else
        let s := s.padFor m.ns
        if s.nsQuiet m.ns then
          { s with pair := { s.pair with moves := { m with recorded := true } :: rest } }.metaAppend 0
            (.nsMeta (.entry m.ns { n with ownerId := s.partnerId, gen := n.gen + 1 }))
        else s

/-- Moves begun (R336, R344): refused unless the pair is paired and no move runs. -/
def State.movesStart (s : State) (l : List Nat) : State :=
  if s.get PAIR_STATUS_state != 2 || !s.pair.moves.isEmpty then s.set PAIR_STATUS_cmd_result 0 1
  else
    let s := s.set PAIR_STATUS_cmd_result 0 (if l.isEmpty then 0 else 2)
    { s with pair := { s.pair with moves := l.map fun i => { ns := i } } }.moveStep

/-- The owned namespaces whose creator is the partner. -/
def State.returnable (s : State) : List Nat :=
  sortOn id ((s.nsm.ns.filter fun (_, n) => s.owned n && n.creator = s.partnerId && n.state = .active).map (·.1))

/-- MOVE_NS (R336). -/
def State.moveNs (s : State) (i : Nat) : State :=
  if (s.ns i).any fun n => s.owned n && n.state = .active then s.movesStart [i] else s.set PAIR_STATUS_cmd_result 0 1

/-- AUTO_RETURN (R336): after a takeover, the partner's namespaces and slots return to it. -/
def State.autoReturn (s : State) : State :=
  if !s.pair.returning || !s.flag PAIR_CFG_auto_return then s
  else
    let s := { s with pair := { s.pair with returning := false } }
    let s := if s.returnable.isEmpty then s else s.movesStart s.returnable
    s.each ((List.range 16).map fun x => if s.bayB then x else x + 16) State.slotRelease

/-- OWNER_RX (R336): the namespace passes to this module, which announces it. -/
def State.ownerIn (s : State) (i gen : Nat) : State :=
  match s.ns i with
  | none => s
  | some n =>
    let s := { s with nsm := { s.nsm with ns := tput s.nsm.ns i { n with ownerId := s.moduleId, gen := gen } } }
    (if s.moduleId = n.creator then s else s.locAnnounce i).releaseHeld i

/-! ## Segments granted (R322) -/

/-- The pool master tops a head of the other module up to 4 granted segments. -/
def State.grantUp (s : State) (h : HeadId) : Nat → List (Nat × Seg) → State × List (Nat × Seg)
  | 0, l => (s, l)
  | fuel + 1, l =>
    if 4 ≤ (tgetD s.pair.grants h []).length then (s, l)
    else
      match s.drawSeg h !s.bayB with
      | none => (s, l)
      | some (i, g, r) =>
        ({ s with str := { s.str with rotor := tput s.str.rotor h (r + 1) }
                  pair := { s.pair with grants := tput s.pair.grants h (tgetD s.pair.grants h [] ++ [(i, g)]) } }).grantUp h fuel (l ++ [(i, g)])

/-- Segments granted for a head and sent. -/
def State.grantSend (s : State) (h : HeadId) : State :=
  let (s, l) := s.grantUp h 4 []
  if l.isEmpty then s else s.pairSend (.segGrant (.grant h l))

/-- The heads of the other module: host and cold of each group in use. -/
def State.grantHeads (s : State) : List HeadId :=
  let gs := ((s.nsm.ns.map fun (_, n) => n.group).dedup)
  gs.flatMap fun g => [.host g, .cold g]

/-- SEG_GRANT_RX (R322): a request answered, grants that the other module has given up taken back (R234), or grants taken. -/
def State.grantIn (s : State) (g : GrantFrame) : State :=
  match g with
  | .request h =>
    if s.isMaster then
      { s with pair := { s.pair with grants := tmod s.pair.grants h fun l => l.filter fun (_, g) => s.grantFits h g } }.grantSend h
    else s
  | .grant h l => { s with pair := { s.pair with grants := tput s.pair.grants h (tgetD s.pair.grants h [] ++ l) } }.coldDrain

/-- A granted segment that the other module has opened is no longer ready. -/
def State.grantUsed (s : State) (b : FirnBody) : State :=
  match b with
  | .segState i _ => { s with pair := { s.pair with grants := s.pair.grants.map fun (h, (l : List (Nat × Seg))) => (h, l.filter fun (j, _) => j != i) } }
  | _ => s

/-! ## Forwarded commands (R337) -/

/-- The submission entry that a forwarded command stands for. -/
def fwdSqe (f : FwdCmd) (nsid : Nat) : Sqe :=
  { opcode := f.opcode, psdt := 0, cid := 0, nsid := BitVec.ofNat 32 nsid
    cdw10 := BitVec.ofNat 32 (if f.opcode = 9 then f.ranges.length - 1 else f.lba), cdw11 := if f.opcode = 9 then 4 else BitVec.ofNat 32 (f.lba / 2 ^ 32)
    cdw12 := BitVec.ofNat 32 ((if f.opcode = 0x19 then f.ranges.length - 1 else f.nlb - 1) + (if f.fua then 2 ^ 30 else 0)) }

/-- FWD_CMD_RX (R337): the owner takes the command after steps 8 and 9 of R564, and starts it. -/
def State.fwdCmdIn (s : State) (f : FwdCmd) : State :=
  match s.ns f.ns with
  | none => s.pairSend (.fwdDone f.id { St.invalidNs with dnr := true } 0 0)
  | some n =>
    let c := s.qpe.nextCmd
    let e := fwdSqe f (nsidOf f.ns n)
    let x : Cmd := { qpn := 65536, slot := 0, sqe := e, ns := some f.ns, mode := s.effMode n
                     remote := some f.id, issuer := some f.owner, fwdKgen := f.kgen, ranges := f.ranges, fetchedAt := s.dtc }
    let s := { s with qpe := { s.qpe with cmds := s.qpe.cmds ++ [(c, x)], nextCmd := c + 1 } }.qpeStatus
    let pend := tgetD s.nsm.pending (f.owner, f.ns) 0
    if !s.owned n then s.redirect c n.ownerId
    else if pend != 0 then
      { s with nsm := { s.nsm with pending := tdel s.nsm.pending (f.owner, f.ns) } }.complete c St.deferredWrite (BitVec.ofNat 32 pend)
    else
      match s.readyCheck n e with
      | some st => s.complete c st
      | none =>
        if f.opcode = 1 || f.opcode = 0x19 then s.tryReserve c
        else s.modCmd c fun x => { x with phase := .started, startAt := s.dtc }

/-- FWD_DATA_RX (R337): ciphertext for a forwarded write enters its job at the owner; for a forwarded read it is decrypted
here, a block that reads as zeroes or is lost is taken as such. -/
def State.fwdDataIn (s : State) (id b : Nat) (d : FwdBlock) : State :=
  match s.qpe.cmds.find? fun (_, x) => x.remote = some id && x.sqe.opcode = 1 && x.phase != .done with
  | some (c, x) =>
    match d with
    | .cipher k v =>
      let s := s.modCmd c fun x => { x with data := tput x.data b v, fwdKgen := k }
      if x.begun then s.remoteIn c else s
    | _ => s
  | none =>
    match s.cmd id with
    | none => s
    | some x =>
      if !x.forwarded || x.phase != .started then s
      else match d with
        | .cipher k v => s.cipherIn id b k v
        | .zero => s.blockOut id b 0
        | .lost => s.blockLost id b

/-- What the partner answered for one namespace of a Flush (R122, R130): deferred errors add up, another failure stands. -/
def flushMerge (a : Option (Status × Word32)) (st : Status) (d0 : Word32) : Option (Status × Word32) :=
  match a with
  | some (st', n) => if st' = st then some (st, n + d0) else a
  | none => if st = St.ok then none else some (st, d0)

/-- FWD_DONE_RX (R337): the fetching module completes the command; a read whose blocks are still in the cipher waits for
them, a Flush for the partner's other answers. -/
def State.fwdDoneIn (s : State) (id : Nat) (st : Status) (d0 d1 : Word32) : State :=
  match s.cmd id with
  | none => s
  | some x =>
    if x.phase != .started then s
    else if x.fwdLeft != 0 then
      (s.modCmd id fun x => { x with fwdLeft := x.fwdLeft - 1, failed := flushMerge x.failed st d0 }).flushDone id
    else if !x.forwarded then s
    else if x.sqe.opcode = 2 && st = St.ok then (s.modCmd id fun x => { x with fwdDone := true }).readEnd id
    else (s.dropStages id).complete id st d0 d1

end Sys2Proof.Machine
end

