-- ==== Sys2Proof/Machine/Pair.lean ====
section
/-! DEFINITION. The pair (chapter 11): the pair link (R324 to R326), heartbeats and the alive line (R327 to R330), formation
(R328), takeover (R331 to R333), split and yield (R334, R335), and the rows of the pair. -/

namespace Sys2Proof.Machine

open F

/-! ## Links (R326) -/

/-- PAIR_STATUS.links made to follow the ports and the marks: a link that goes down is reported. -/
def State.linksCheck (s : State) : State :=
  s.each [0, 1] fun s l =>
    let up := s.portUp (32 + l) && !s.pair.down.contains l
    if up = s.plUp l then s
    else if up then (s.set PAIR_STATUS_links 0 (s.get PAIR_STATUS_links + 2 ^ l)).leave (ctrPair (12 + l))
    else ((s.set PAIR_STATUS_links 0 (s.get PAIR_STATUS_links - 2 ^ l)).enter (ctrPair (12 + l))).raise EV_PAIR_LINK_DEGRADED 1 (32 + l)

/-- Something has arrived on a link: it is up again if its MAC is (R326). -/
def State.linkAlive (s : State) (l : Nat) : State := { s with pair := { s.pair with down := s.pair.down.filter (· != l) } }.linksCheck

/-- A pair frame has arrived on a link. -/
def State.linkHeard (s : State) (l : Nat) : State := (s.linkAlive l).bump (ctrPair 1)

/-- PAIR_LINK_SILENCE (R326, R362): a link on which nothing has arrived for 300 µs is down, its egress queues are flushed. -/
def State.linkSilent (s : State) (l : Nat) : State :=
  if 2 ≤ l then s
  else
    let was := s.plUp l
    let s := { s with pair := { s.pair with down := l :: s.pair.down.filter (· != l) } }.linksCheck
    if was then (s.privilegedFlush (32 + l)).portGone (32 + l) else s

/-- The distance from one frame number to another modulo 2^32. -/
def seqFrom (a b : Nat) : Nat := (b + 2 ^ 32 - a % 2 ^ 32) % 2 ^ 32

/-- Kept frames acknowledged by an ack are released (R326). -/
def State.pairAcked (s : State) (ack : Nat) : State :=
  let open_ (q : Nat) : Bool := !(decide (0 < seqFrom q ack) && decide (seqFrom q ack ≤ 2 ^ 31))
  { s with pair := { s.pair with kept := s.pair.kept.filter fun (q, _) => open_ q, keptOn := s.pair.keptOn.filter fun (q, _) => open_ q } }

/-- LINK_ACK sent (R326). -/
def State.linkAckSend (s : State) : State :=
  ({ s with pair := { s.pair with unacked := 0 } }.send (.linkAck s.nextLink s.pair.rxNext s.pair.formation)).bump (ctrPair 0)

/-! ## Paired (R259, R328) -/

/-- The Firn sequence continues from the highest seq in the tail plus 1 (R328, R331). -/
def State.firnContinue (s : State) : State :=
  match s.jnl.tail.getLast? with
  | some _ => s.set JNL_FIRN_SEQ_next_seq 0 (s.jnl.tail.foldl (fun m r => max m (r.seq + firnSpan r.body)) 0)
  | none => s

/-- Requests not yet answered by a pool master are sent again, appends that waited go on. -/
def State.reqsResend (s : State) : State :=
  (if s.isMaster then
    let l := s.jnl.reqs
    s.each l fun s (o, b) => { s with jnl := { s.jnl with reqs := s.jnl.reqs.erase (o, b) } }.firnAppend o b
  else s.each s.jnl.reqs fun s (o, b) => s.pairSend (.firnReq o b)).unpark

/-- Bay A takes the pool master role; bay B gives it up (R328). -/
def State.masterTake (s : State) : State := (s.firnContinue.set PAIR_STATUS_master 0 1).reqsResend

/-- Master handover (R328): while the pair is paired, bay B stops being master, and bay A takes the role once the partner no
longer reports it. -/
def State.handover (s : State) : State :=
  if s.get PAIR_STATUS_state != 2 then s
  else if s.bayB then (if s.flag PAIR_STATUS_master then (s.set PAIR_STATUS_master 0 0).unpark else s)
  else if s.flag PAIR_STATUS_master || s.pair.partner.any (·.master) then s
  else s.masterTake

/-- Entries that wait for the data of a partner with which no pair forms are entries without data (R266, R480). -/
def State.awaitedLost (s : State) : State :=
  s.each s.jnl.awaiting fun s (i, d) =>
    ({ s with jnl := { s.jnl with awaiting := tdel s.jnl.awaiting i } }.neveLose i d 3).unhold d.ns

/-- RESYNC_DONE (R259) where its marks are passed; the pair is then paired (R328). -/
def State.pairedCheck (s : State) : State :=
  if !s.resyncPassed then s
  else
    let s := s.resyncDone
    if s.get PAIR_STATUS_state != 1 then s
    else
      let s := ((s.set PAIR_STATUS_state 0 2).raise EV_PAIR_FORMED 0 0).handover
      let s := if s.isMaster then s.each s.grantHeads State.grantSend else s
      s.reqsResend.autoReturn

/-! ## Delivery (R325) -/

/-- A sequenced frame delivered in order. -/
def State.pairDeliver (s : State) (m : PairMsg) : State :=
  match m with
  | .nevePut i d b => s.nevePutIn i d b
  | .firnPut l q => (s.firnPutIn l q).moveStep
  | .mirrorAck a f => ((s.mirrorAckIn a f).pairedCheck).moveStep
  | .neveRetire l => s.neveRetireIn l
  | .neveFetch i => s.neveFetchIn i
  | .firnReq o b =>
    let s := if s.isMaster || s.bayB then s else s.masterTake
    (s.firnReqIn o b).grantUsed b
  | .owner i g => s.ownerIn i g
  | .segGrant g => s.grantIn g
  | .fwdCmd f => s.fwdCmdIn f
  | .fwdData id b d => s.fwdDataIn id b d
  | .fwdDone id st a b => s.fwdDoneIn id st a b
  | .key f => s.keyFrame f
  | .member f => s.memberFrame f
  | .crevasse f => s.crevFrame f
  | .slotRelease x c => s.slotTake x c
  | .slotTaken x => s.slotTaken x
  | .slot f => s.slotFrame f
  | .drive f => s.driveFrame f

/-- Frames held in sequence delivered while the next one is there; LINK_ACK after 32 (R326). -/
def State.pairRun (s : State) : Nat → State
  | 0 => s
  | fuel + 1 =>
    match tget s.pair.held s.pair.rxNext with
    | none => s
    | some m =>
      let q := s.pair.rxNext
      let s := { s with pair := { s.pair with held := tdel s.pair.held q, rxNext := (q + 1) % 2 ^ 32, unacked := s.pair.unacked + 1 } }
      let s := s.pairDeliver m
      (if 32 ≤ s.pair.unacked then s.linkAckSend else s).pairRun fuel

/-- A sequenced frame received (R326): one of another formation, beyond the window or a duplicate is discarded, but its
acknowledgement counts within the formation. -/
def State.pairRx (s : State) (h : PairHdr) (m : PairMsg) : State :=
  let s := s.linkHeard h.link
  if !s.pair.active || h.formation != s.pair.formation then s
  else
    let s := s.pairAcked h.ack
    if 4096 < seqFrom s.pair.rxNext h.seq then s
    else
      let s := { s with pair := { s.pair with held := if (tget s.pair.held h.seq).isSome then s.pair.held else tput s.pair.held h.seq m } }
      s.pairRun s.pair.held.length

/-! ## Takeover (R331 to R333) -/

/-- The partner's OPEN segments, by parity of their IDs (R319). -/
def State.partnerOpen (s : State) : List Nat :=
  (s.str.segs.filter fun (i, g) => g.state = .isOpen && g.head != .meta_ && (i % 2 = 1) = !s.bayB).map (·.1)

/-- Every namespace of the partner is recorded as this module's (R331 step 5). -/
def State.ownAll (s : State) : State :=
  s.each (s.nsm.ns.filter fun (_, n) => !s.owned n) fun s (i, n) =>
    let m := { n with ownerId := s.moduleId, gen := n.gen + 1 }
    { s with nsm := { s.nsm with ns := tput s.nsm.ns i m } }.metaAppend 0 (.nsMeta (.entry i m))

/-- An SLT_CMD that waits for the partner's answer ends as one the owner refuses, the partner being gone (assumption log 118). -/
def State.sltAlone (s : State) : State :=
  if s.flag SLT_CMD_busy then (s.set SLT_CMD_busy 0 0).set SLT_CMD_result 0 2 else s

/-- TAKEOVER (R331): its steps in order, without the time between them (a design choice: no row stands for a step). -/
def State.takeover (s : State) : State :=
  let was := s.isMaster
  let s := ((s.raise EV_PAIR_TAKEOVER 0 0).bump (ctrPair 4)).addSat PAIR_STATUS_takeovers 0 1
  let s := (s.set PAIR_TAKEOVER_STATUS_start 0 (s.dtc.toNat / 2 ^ 24)).set PAIR_STATUS_state 0 6
  let s := { s with pair := { s.pair with active := false, kept := [], held := [], moves := [], takenAt := some s.dtc, returning := true } }
  let s := (s.pairSingle.set PAIR_STATUS_master 0 1).set PAIR_STATUS_cmd_result 0 0
  let s := if was then s else { s.firnContinue with pair := { s.pair with grants := [] } }
  let s := s.reqsResend.requeue
  let l := s.partnerOpen
  let s := s.each l State.closeSeg
  let s := { s with pair := { s.pair with takenSegs := l, grants := [] } }
  let s := s.ownAll.neveConvert
  let s := s.each (List.range 32) State.slotAdopt
  let s := s.each (s.reb.work.map (·.1)) State.restoreStop
  let s := s.each (s.nsm.ns.map (·.1)) State.locAnnounce
  let s := (s.each (s.nsm.ns.map (·.1)) State.unhold).keyAlone.sltAlone
  ((s.set PAIR_STATUS_state 0 3).set PAIR_TAKEOVER_STATUS_duration 0 0).raise EV_PAIR_TAKEOVER_DONE 0 0

/-! ## Split and yield (R334, R335) -/

/-- Write-through writes that a fenced module other than the pool master cannot acknowledge are held (R334). -/
def State.splitHold (s : State) : State :=
  if s.isMaster then s
  else
    let l := (s.jnl.writes.filter fun (_, w) => w.mode = 2 && !w.acked).map (·.1)
    s.each l fun s c => s.modCmd c fun x => if x.phase = .started then { x with ownerHold := some s.dtc } else x

/-- SPLIT (R334). -/
def State.split (s : State) : State :=
  let s := ((s.raise EV_PAIR_SPLIT 0 0).bump (ctrPair 5)).set PAIR_STATUS_state 0 4
  let s := { s with pair := { s.pair with active := false, kept := [], held := [], moves := [] } }
  (s.pairSingle.redirectAll.splitHold).keyAlone.sltAlone

/-- A module yields (R335): admission stops, an orderly stop follows. -/
def State.yieldNow (s : State) : State := ((s.raise EV_PAIR_YIELD 0 0).set PAIR_STATUS_state 0 5).stopStart false

/-- Whether the module's own dump has started (R330). -/
def State.dumping (s : State) : Bool :=
  match s.jnl.phase with
  | .flushing _ _ => true
  | .writing _ _ => true
  | .held => true
  | _ => false

/-- TAKEOVER_DECISION (R330); a line with a fault is ignored (R329). -/
def State.pairDecide (s : State) : State :=
  if s.dumping then s
  else if !s.flag PAIR_STATUS_partner_alive && !s.pair.aliveBad then s.takeover
  else if s.get PAIR_STATUS_state = 4 then s
  else s.split

/-! ## Heartbeats (R327) -/

/-- The payload of the next HEARTBEAT. -/
def State.heartbeatNow (s : State) : Heartbeat :=
  { moduleId := s.moduleId, bayB := s.bayB, state := s.get PAIR_STATUS_state, master := s.flag PAIR_STATUS_master, dumping := s.dumping
    proto := s.boot.proto, poolId := s.str.poolId, count := s.pair.sent, formation := if s.pair.active then s.pair.formation else 0
    version := s.get BOOT_FW_STATUS_fw_version }

/-- A HEARTBEAT sent on every link that is up. -/
def State.heartbeatSend (s : State) : State :=
  s.each ([0, 1].filter s.plUp) fun s l =>
    ({ s with pair := { s.pair with sent := s.pair.sent + 1 } }.send (.heartbeat l s.heartbeatNow)).bump (ctrPair 0)

/-- HEARTBEAT_PERIOD (R327, R330): heartbeats sent, the period counted, the decision at the third missed one, and in a split
the takeover that a low line then brings (R334). -/
def State.heartbeatPeriod (s : State) : State :=
  if !s.pairShelf || s.pair.conflict || s.jnl.phase = .held then s
  else
    let s := s.heartbeatSend
    let heard := s.pair.heard
    let s := { s with pair := { s.pair with heard := false } }
    let s := if heard then s.set PAIR_STATUS_missed 0 0 else (s.addSat PAIR_STATUS_missed 0 1).bump (ctrPair 3)
    let s := s.moveStep
    if heard then s
    else if s.pair.active && s.get PAIR_STATUS_missed = 3 then s.pairDecide
    else if s.get PAIR_STATUS_state = 4 && decide (3 ≤ s.get PAIR_STATUS_missed) then s.pairDecide
    else s

/-! ## Formation (R328) -/

/-- PAIR_FORMATION: the streams restart, the pair key is agreed, the Crevasse lists merge, Névé resyncs; bay A is pool master
where neither module is. -/
def State.pairForm (s : State) (n : Nat) (h : Heartbeat) : State :=
  let s := { s with pair := { s.pair with
      formation := n, lastForm := n, active := true, txNext := 0, kept := [], keptOn := [], onPl1 := false, rxNext := 0, held := [], unacked := 0
      keyed := false, merged := false, heard := true } }
  let s := (s.set PAIR_STATUS_missed 0 0).set PAIR_STATUS_state 0 1
  let s := if !s.bayB && !s.flag PAIR_STATUS_master && !h.master then (s.firnContinue).set PAIR_STATUS_master 0 1 else s
  let s := { s with qpe := { s.qpe with cmds := s.qpe.cmds.map fun (c, (x : Cmd)) => (c, if x.phase = CmdPhase.started then { x with ownerHold := none } else x) } }
  let s := s.keyAgreeSend.pairSend (.crevasse (.list s.reb.crev))
  (s.each s.jnl.awaiting fun s (i, _) => s.pairSend (.neveFetch i)).resyncStart

/-- Whether a module may form a pair now: it waits for its partner, is alone or in a split. -/
def State.mayForm (s : State) : Bool :=
  s.pairShelf && !s.pair.active && !s.pair.conflict && !s.dumping &&
    (s.get PAIR_STATUS_state = 1 || s.get PAIR_STATUS_state = 3 || s.get PAIR_STATUS_state = 4)

/-- The formation number bay A picks: one above the last it used (R328), and not 0. -/
def State.nextFormation (s : State) : Nat := if (s.pair.lastForm + 1) % 65536 = 0 then 1 else (s.pair.lastForm + 1) % 65536

/-- Mirror copies that the partner has not sent again by the time it is mirrored are gone there. -/
def State.staleDrop (s : State) (h : Heartbeat) : State :=
  if h.state != 2 || s.jnl.stale.isEmpty then s
  else
    let l := s.jnl.stale
    { s with jnl := { s.jnl with stale := [], slots := s.jnl.slots.filter fun (i, (x : NeveSlot)) => !(l.contains i && x.mirror) } }.waterCheck

/-- The partner's bay is this module's (R317): the module serves no pool. -/
def State.bayConflict (s : State) : State :=
  if s.pair.conflict then s
  else
    { s.raise EV_PAIR_BAY_CONFLICT 0 0 with
      pair := { s.pair with conflict := true, active := false }, nsm := { s.nsm with ns := [] }, str := { s.str with poolId := 0 } }

/-- Whether a HEARTBEAT is of an old formation (R333): of another than the one in being, or, where none is, of the last one or, for bay
A, which picks the numbers (R328), of any. -/
def State.oldFormation (s : State) (h : Heartbeat) : Bool :=
  if s.pair.active then h.formation != s.pair.formation else h.formation != 0 && (!s.bayB || h.formation = s.pair.lastForm)

/-- A HEARTBEAT taken into account: it counts for its period unless it is of another formation (R333). -/
def State.heartbeatTake (s : State) (h : Heartbeat) : State :=
  if s.oldFormation h then s
  else
    let s := { s with pair := { s.pair with heard := true, partner := some h, lastHb := s.dtc } }
    let s := s.set PAIR_STATUS_partner_id 0 h.moduleId
    let s := if s.pair.active && !s.flag PAIR_STATUS_partner_alive && !s.pair.aliveBad then
        { s with pair := { s.pair with aliveBad := true } }.raise EV_PAIR_ALIVE_FAULT 0 0 else s
    let s := (s.staleDrop h).handover
    if s.mayForm && h.poolId = s.str.poolId && h.bayB != s.bayB then
      if !s.bayB then s.pairForm s.nextFormation h
      else if h.formation != 0 && h.formation != s.pair.lastForm then s.pairForm h.formation h
      else s
    else s

/-- HEARTBEAT_RX (R325, R327, R328). -/
def State.heartbeatIn (s : State) (l : Nat) (h : Heartbeat) : State :=
  if !s.pairShelf then s
  else
    let s := s.linkHeard l
    if h.bayB = s.bayB then s.bayConflict
    else if h.proto != s.boot.proto then
      if s.get PAIR_STATUS_state = 4 then s else (s.raise EV_PAIR_VERSION_MISMATCH 0 0).split
    else s.heartbeatTake h

/-! ## Other rows -/

/-- ALIVE_LINE_CHANGE (R329, R334). -/
def State.aliveLine (s : State) (high : Bool) : State :=
  let s := s.set PAIR_STATUS_partner_alive 0 (bit high)
  if high then { s with pair := { s.pair with aliveBad := false } }
  else if s.get PAIR_STATUS_state = 4 && decide (3 ≤ s.get PAIR_STATUS_missed) then s.pairDecide
  else s

/-- TAKEOVER_RELEASE_HOLD (R332). -/
def State.takenRelease (s : State) : State :=
  let l := s.pair.takenSegs
  s.each l fun s i =>
    let s := { s with pair := { s.pair with takenSegs := s.pair.takenSegs.filter (· != i) } }
    match s.seg i with
    | some g => if g.live = 0 && (g.state = .isSealed || g.state = .calving) then s.releaseSeg i else s
    | none => s

/-- The link a kept frame is sent again on (R326): the other one where it is up. -/
def State.resendLink (s : State) (q : Nat) : Nat :=
  let l := tgetD s.pair.keptOn q 0
  if s.plUp (1 - l) then 1 - l else l

/-- PAIR_RETRANSMIT_TIMEOUT (R326): every kept frame again, on the other link when that is up. -/
def State.pairResend (s : State) : State :=
  if !s.pair.active then s
  else s.each s.pair.kept fun s (q, m) =>
    let l := s.resendLink q
    let s := { s with pair := { s.pair with keptOn := tput s.pair.keptOn q l } }
    ((s.send (.pair l q s.pair.rxNext s.pair.formation m)).bump (ctrPair 2)).bump (ctrPair 0)

/-- PAIR_CMD YIELD (R335, R344). -/
def State.yieldCmd (s : State) : State :=
  let t := s.get PAIR_STATUS_state
  if t = 0 || t = 5 || t = 6 then s.set PAIR_STATUS_cmd_result 0 1 else s.yieldNow.set PAIR_STATUS_cmd_result 0 0

/-- PAIR_CMD TAKEOVER (R335): only in a split, after 1 s without HEARTBEATs. -/
def State.takeoverCmd (s : State) : State :=
  if s.get PAIR_STATUS_state = 4 && decide (secTicks 1 ≤ s.since s.pair.lastHb) && !s.dumping then s.takeover
  else s.set PAIR_STATUS_cmd_result 0 1

/-- FORM_WAIT_EXPIRY (R330, R479, R480): without a pair the decision of R330 falls, and entries that only the partner could hold
are entries without data. -/
def State.formWait (s : State) : State :=
  if !s.pairShelf || s.pair.active || s.get PAIR_STATUS_state != 1 then s
  else (s.awaitedLost).pairDecide

/-! ## The rows -/

/-- KEY_FRAME_RX. -/
def execKeyFrameRx (h : PairHdr) (f : KeyFrame) (s : State) : Host.Outcome State Fault Refusal :=
  s.commit
    { parts := pairFrameParts,
      fields := sltLive ++ tmsLive ++ qpeLive ++ strLive ++ jnlLive ++ drvLive ++ rebLive ++ pairLive ++ cells ++ mgmtSeq ++ contexts ++ [KEY_STATUS_busy, KEY_STATUS_done_count, KEY_STATUS_result, SLC_LOG_STATUS_out_span] }
    (s.pairRx h (.key f))

/-- NEVE_PUT_RX. -/
def execNevePutRx (h : PairHdr) (idx : Nat) (d : NeveDesc) (b : Block) (s : State) : Host.Outcome State Fault Refusal :=
  s.commit
    { parts := pairFrameParts,
      fields := sltLive ++ tmsLive ++ qpeLive ++ strLive ++ jnlLive ++ drvLive ++ rebLive ++ pairLive ++ cells ++ mgmtSeq ++ contexts ++ [KEY_STATUS_busy, KEY_STATUS_done_count, KEY_STATUS_result, SLC_LOG_STATUS_out_span] }
    (s.pairRx h (.nevePut idx d b))

/-- FIRN_PUT_RX. -/
def execFirnPutRx (h : PairHdr) (l : FirnPut) (s : State) : Host.Outcome State Fault Refusal :=
  s.commit
    { parts := pairFrameParts,
      fields := sltLive ++ tmsLive ++ qpeLive ++ strLive ++ jnlLive ++ drvLive ++ rebLive ++ pairLive ++ cells ++ mgmtSeq ++ contexts ++ [KEY_STATUS_busy, KEY_STATUS_done_count, KEY_STATUS_result, SLC_LOG_STATUS_out_span] }
    (s.pairRx h (.firnPut l.recs l.floor))

/-- MIRROR_ACK_RX. -/
def execMirrorAckRx (h : PairHdr) (a f : Nat) (s : State) : Host.Outcome State Fault Refusal :=
  s.commit
    { parts := pairFrameParts,
      fields := sltLive ++ tmsLive ++ qpeLive ++ strLive ++ jnlLive ++ drvLive ++ rebLive ++ pairLive ++ cells ++ mgmtSeq ++ contexts ++ [KEY_STATUS_busy, KEY_STATUS_done_count, KEY_STATUS_result, SLC_LOG_STATUS_out_span] }
    (s.pairRx h (.mirrorAck a f))

/-- NEVE_RETIRE_RX. -/
def execNeveRetireRx (h : PairHdr) (l : List Nat) (s : State) : Host.Outcome State Fault Refusal :=
  s.commit
    { parts := pairFrameParts,
      fields := sltLive ++ tmsLive ++ qpeLive ++ strLive ++ jnlLive ++ drvLive ++ rebLive ++ pairLive ++ cells ++ mgmtSeq ++ contexts ++ [KEY_STATUS_busy, KEY_STATUS_done_count, KEY_STATUS_result, SLC_LOG_STATUS_out_span] }
    (s.pairRx h (.neveRetire l))

/-- NEVE_FETCH_RX. -/
def execNeveFetchRx (h : PairHdr) (idx : Nat) (s : State) : Host.Outcome State Fault Refusal :=
  s.commit
    { parts := pairFrameParts,
      fields := sltLive ++ tmsLive ++ qpeLive ++ strLive ++ jnlLive ++ drvLive ++ rebLive ++ pairLive ++ cells ++ mgmtSeq ++ contexts ++ [KEY_STATUS_busy, KEY_STATUS_done_count, KEY_STATUS_result, SLC_LOG_STATUS_out_span] }
    (s.pairRx h (.neveFetch idx))

/-- CREVASSE_FRAME_RX. -/
def execCrevasseFrameRx (h : PairHdr) (f : CrevFrame) (s : State) : Host.Outcome State Fault Refusal :=
  s.commit
    { parts := pairFrameParts,
      fields := sltLive ++ tmsLive ++ qpeLive ++ strLive ++ jnlLive ++ drvLive ++ rebLive ++ pairLive ++ cells ++ mgmtSeq ++ contexts ++ [KEY_STATUS_busy, KEY_STATUS_done_count, KEY_STATUS_result, SLC_LOG_STATUS_out_span] }
    (s.pairRx h (.crevasse f))

/-- MEMBER_FRAME_RX. -/
def execMemberFrameRx (h : PairHdr) (f : MemberFrame) (s : State) : Host.Outcome State Fault Refusal :=
  s.commit
    { parts := pairFrameParts,
      fields := sltLive ++ tmsLive ++ qpeLive ++ strLive ++ jnlLive ++ drvLive ++ rebLive ++ pairLive ++ cells ++ mgmtSeq ++ contexts ++ [KEY_STATUS_busy, KEY_STATUS_done_count, KEY_STATUS_result, SLC_LOG_STATUS_out_span] }
    (s.pairRx h (.member f))

/-- DRIVE_FRAME_RX. -/
def execDriveFrameRx (h : PairHdr) (f : DriveFrame) (s : State) : Host.Outcome State Fault Refusal :=
  s.commit
    { parts := pairFrameParts,
      fields := sltLive ++ tmsLive ++ qpeLive ++ strLive ++ jnlLive ++ drvLive ++ rebLive ++ pairLive ++ cells ++ mgmtSeq ++ contexts ++ [KEY_STATUS_busy, KEY_STATUS_done_count, KEY_STATUS_result, SLC_LOG_STATUS_out_span] }
    (s.pairRx h (.drive f))

/-- HEARTBEAT_PERIOD. -/
def execHeartbeatPeriod (s : State) : Host.Outcome State Fault Refusal :=
  s.commit
    { parts := takeoverParts,
      fields := sltLive ++ qpeLive ++ jnlLive ++ rebLive ++ pairLive ++ cells ++ openSeg ++ [KEY_STATUS_busy, KEY_STATUS_done_count, KEY_STATUS_result] }
    (s.heartbeatPeriod)

/-- HEARTBEAT_RX. -/
def execHeartbeatRx (link : Nat) (h : Heartbeat) (s : State) : Host.Outcome State Fault Refusal :=
  s.commit
    { parts := [.evt, .ctr, .swc, .qpe, .nsm, .key, .str, .jnl, .reb, .pair, .freeCtr, .outbox], fields := qpeLive ++
        jnlLive ++ rebLive ++ pairLive ++ [KEY_STATUS_busy, KEY_STATUS_done_count, KEY_STATUS_result, SLT_CMD_busy,
        SLT_CMD_result] }
    (s.heartbeatIn link h)

/-- ALIVE_LINE_CHANGE. -/
def execAliveLineChange (high : Bool) (s : State) : Host.Outcome State Fault Refusal :=
  s.commit
    { parts := takeoverParts,
      fields := sltLive ++ qpeLive ++ jnlLive ++ rebLive ++ pairLive ++ cells ++ openSeg ++ [KEY_STATUS_busy, KEY_STATUS_done_count, KEY_STATUS_result] }
    (s.aliveLine high)

/-- TAKEOVER_RELEASE_HOLD. -/
def execTakeoverReleaseHold (s : State) : Host.Outcome State Fault Refusal :=
  s.commit { parts := mappingParts, fields := qpeLive ++ firnSeq ++ [REB_STATUS_seg_done, REB_STATUS_state] }
    (s.takenRelease)

/-- SPLIT_YIELD_EXPIRY (R335). -/
def execSplitYieldExpiry (s : State) : Host.Outcome State Fault Refusal :=
  s.commit { parts := [.evt, .ctr, .jnl], fields := [PAIR_STATUS_state] }
    (if s.get PAIR_STATUS_state = 4 && !s.isMaster && s.get PAIR_CFG_split_yield_s != 0 then s.yieldNow else s)

/-- LINK_ACK_RX (R326). -/
def execLinkAckRx (link ack formation : Nat) (s : State) : Host.Outcome State Fault Refusal :=
  s.commit { parts := [.evt, .ctr, .pair], fields := [PAIR_STATUS_links] }
    (if s.pair.active && formation = s.pair.formation then (s.linkHeard link).pairAcked ack else s.linkHeard link)

/-- PAIR_ACK_DELAY (R326). -/
def execPairAckDelay (s : State) : Host.Outcome State Fault Refusal :=
  s.commit { parts := [.ctr, .pair, .outbox] }
    (if s.pair.active && s.pair.unacked != 0 then s.linkAckSend else s)

/-- PAIR_RETRANSMIT_TIMEOUT. -/
def execPairRetransmitTimeout (s : State) : Host.Outcome State Fault Refusal :=
  s.commit { parts := [.ctr, .pair, .outbox] }
    (s.pairResend)

/-- PAIR_LINK_SILENCE (R326). -/
def execPairLinkSilence (link : Nat) (s : State) : Host.Outcome State Fault Refusal :=
  s.commit { parts := [.evt, .ctr, .tms, .mac, .swc, .fwd, .key, .pair, .freeCtr, .outbox], fields := fwdLive ++ cells ++ [PAIR_STATUS_links] }
    (s.linkSilent link)

/-- FIRN_REQ_RX. -/
def execFirnReqRx (h : PairHdr) (origin : Nat) (b : FirnBody) (s : State) : Host.Outcome State Fault Refusal :=
  s.commit
    { parts := pairFrameParts,
      fields := sltLive ++ tmsLive ++ qpeLive ++ strLive ++ jnlLive ++ drvLive ++ rebLive ++ pairLive ++ cells ++ mgmtSeq ++ contexts ++ [KEY_STATUS_busy, KEY_STATUS_done_count, KEY_STATUS_result, SLC_LOG_STATUS_out_span] }
    (s.pairRx h (.firnReq origin b))

/-- OWNER_RX. -/
def execOwnerRx (h : PairHdr) (i gen : Nat) (s : State) : Host.Outcome State Fault Refusal :=
  s.commit
    { parts := pairFrameParts,
      fields := sltLive ++ tmsLive ++ qpeLive ++ strLive ++ jnlLive ++ drvLive ++ rebLive ++ pairLive ++ cells ++ mgmtSeq ++ contexts ++ [KEY_STATUS_busy, KEY_STATUS_done_count, KEY_STATUS_result, SLC_LOG_STATUS_out_span] }
    (s.pairRx h (.owner i gen))

/-- SEG_GRANT_RX. -/
def execSegGrantRx (h : PairHdr) (g : GrantFrame) (s : State) : Host.Outcome State Fault Refusal :=
  s.commit
    { parts := pairFrameParts,
      fields := sltLive ++ tmsLive ++ qpeLive ++ strLive ++ jnlLive ++ drvLive ++ rebLive ++ pairLive ++ cells ++ mgmtSeq ++ contexts ++ [KEY_STATUS_busy, KEY_STATUS_done_count, KEY_STATUS_result, SLC_LOG_STATUS_out_span] }
    (s.pairRx h (.segGrant g))

/-- FWD_CMD_RX. -/
def execFwdCmdRx (h : PairHdr) (f : FwdCmd) (s : State) : Host.Outcome State Fault Refusal :=
  s.commit
    { parts := pairFrameParts,
      fields := sltLive ++ tmsLive ++ qpeLive ++ strLive ++ jnlLive ++ drvLive ++ rebLive ++ pairLive ++ cells ++ mgmtSeq ++ contexts ++ [KEY_STATUS_busy, KEY_STATUS_done_count, KEY_STATUS_result, SLC_LOG_STATUS_out_span] }
    (s.pairRx h (.fwdCmd f))

/-- FWD_DATA_RX. -/
def execFwdDataRx (h : PairHdr) (id block : Nat) (d : FwdBlock) (s : State) : Host.Outcome State Fault Refusal :=
  s.commit
    { parts := pairFrameParts,
      fields := sltLive ++ tmsLive ++ qpeLive ++ strLive ++ jnlLive ++ drvLive ++ rebLive ++ pairLive ++ cells ++ mgmtSeq ++ contexts ++ [KEY_STATUS_busy, KEY_STATUS_done_count, KEY_STATUS_result, SLC_LOG_STATUS_out_span] }
    (s.pairRx h (.fwdData id block d))

/-- FWD_DONE_RX. -/
def execFwdDoneRx (h : PairHdr) (id : Nat) (st : Status) (d0 d1 : Word32) (s : State) : Host.Outcome State Fault Refusal :=
  s.commit
    { parts := pairFrameParts,
      fields := sltLive ++ tmsLive ++ qpeLive ++ strLive ++ jnlLive ++ drvLive ++ rebLive ++ pairLive ++ cells ++ mgmtSeq ++ contexts ++ [KEY_STATUS_busy, KEY_STATUS_done_count, KEY_STATUS_result, SLC_LOG_STATUS_out_span] }
    (s.pairRx h (.fwdDone id st d0 d1))

/-- SLOT_RELEASE_RX. -/
def execSlotReleaseRx (h : PairHdr) (slot : Nat) (c : ChanState) (s : State) : Host.Outcome State Fault Refusal :=
  s.commit
    { parts := pairFrameParts,
      fields := sltLive ++ tmsLive ++ qpeLive ++ strLive ++ jnlLive ++ drvLive ++ rebLive ++ pairLive ++ cells ++ mgmtSeq ++ contexts ++ [KEY_STATUS_busy, KEY_STATUS_done_count, KEY_STATUS_result, SLC_LOG_STATUS_out_span] }
    (s.pairRx h (.slotRelease slot c))

/-- SLOT_TAKEN_RX. -/
def execSlotTakenRx (h : PairHdr) (slot : Nat) (s : State) : Host.Outcome State Fault Refusal :=
  s.commit
    { parts := pairFrameParts,
      fields := sltLive ++ tmsLive ++ qpeLive ++ strLive ++ jnlLive ++ drvLive ++ rebLive ++ pairLive ++ cells ++ mgmtSeq ++ contexts ++ [KEY_STATUS_busy, KEY_STATUS_done_count, KEY_STATUS_result, SLC_LOG_STATUS_out_span] }
    (s.pairRx h (.slotTaken slot))

/-- SLOT_STATE_RX. -/
def execSlotStateRx (h : PairHdr) (f : SlotFrame) (s : State) : Host.Outcome State Fault Refusal :=
  s.commit
    { parts := pairFrameParts,
      fields := sltLive ++ tmsLive ++ qpeLive ++ strLive ++ jnlLive ++ drvLive ++ rebLive ++ pairLive ++ cells ++ mgmtSeq ++ contexts ++ [KEY_STATUS_busy, KEY_STATUS_done_count, KEY_STATUS_result, SLC_LOG_STATUS_out_span] }
    (s.pairRx h (.slot f))

/-- MOVE_NS. -/
def execMoveNs (i : Nat) (s : State) : Host.Outcome State Fault Refusal :=
  s.commit
    { parts := [.evt, .ctr, .tms, .swc, .fwd, .qpe, .nsm, .str, .jnl, .pair, .freeCtr, .outbox],
      fields := qpeLive ++ cells ++ firnSeq ++ [PAIR_STATUS_cmd_result] }
    (s.moveNs i)

/-- RETURN_ALL (R344). -/
def execReturnAll (s : State) : Host.Outcome State Fault Refusal :=
  s.commit
    { parts := [.evt, .ctr, .tms, .swc, .fwd, .qpe, .nsm, .str, .jnl, .pair, .freeCtr, .outbox],
      fields := qpeLive ++ cells ++ firnSeq ++ [PAIR_STATUS_cmd_result] }
    (s.movesStart s.returnable)

/-- YIELD. -/
def execYield (s : State) : Host.Outcome State Fault Refusal :=
  s.commit { parts := [.evt, .ctr, .jnl], fields := [PAIR_STATUS_cmd_result, PAIR_STATUS_state] }
    (s.yieldCmd)

/-- TAKEOVER_CMD. -/
def execTakeoverCmd (s : State) : Host.Outcome State Fault Refusal :=
  s.commit
    { parts := takeoverParts,
      fields := sltLive ++ qpeLive ++ jnlLive ++ rebLive ++ pairLive ++ cells ++ openSeg ++ [KEY_STATUS_busy, KEY_STATUS_done_count, KEY_STATUS_result] }
    (s.takeoverCmd)

/-- LEARN_LOCATION_RX. -/
def execLearnLocationRx (p : HktPkt) (hop : Nat) (seq : Word32) (l : List LocRec) (s : State) : Host.Outcome State Fault Refusal :=
  s.commit { parts := [.evt, .ctr, .hkt, .tms, .swc, .fwd, .key, .cip, .freeCtr], fields := fwdLive ++ cells }
    (s.learnLocationRx p hop seq l)

/-- LOCATION_REFRESH. -/
def execLocationRefresh (s : State) : Host.Outcome State Fault Refusal :=
  s.commit { parts := [.ctr, .tms, .swc, .fwd, .freeCtr], fields := cells }
    (s.locRefresh)

/-- LOCATION_QUEUE_SEND. -/
def execLocationQueueSend (port : Nat) (s : State) : Host.Outcome State Fault Refusal :=
  s.commit { parts := [.ctr, .tms, .swc, .fwd, .freeCtr], fields := cells }
    (s.learnDrain port)

/-- FORM_WAIT_EXPIRY. -/
def execFormWaitExpiry (s : State) : Host.Outcome State Fault Refusal :=
  s.commit
    { parts := takeoverParts,
      fields := sltLive ++ qpeLive ++ jnlLive ++ rebLive ++ pairLive ++ cells ++ openSeg ++ [KEY_STATUS_busy, KEY_STATUS_done_count, KEY_STATUS_result] }
    (s.formWait)

end Sys2Proof.Machine
end

