-- ==== Sys2Proof/Machine/Nsm.lean ====
section
/-! DEFINITION. Admin commands (chapter 05): the management sequence (R141, R142), Identify (R144), namespaces (R145 to R149),
features (R152 to R154, R157), events (R158), log pages (R159 to R163), host regions (R156). -/

namespace Sys2Proof.Machine

open F

/-! ## Admin commands ready to be carried out -/

/-- An admin command with an opcode, its data in and its owner's host memory within reach where it moves any (R396). -/
def State.adminRun (s : State) (c opcode : Nat) : Option (Cmd × QOwner) :=
  match s.adminCmd c opcode with
  | none => none
  | some (x, o) =>
    if s.cmdData x = 0 || (x.phase = .started && !x.listing && x.left = 0 && !s.busHolds x) then some (x, o) else none

/-- Whether an owner may issue management commands (R141). -/
def State.mgmtIssuer (s : State) : QOwner → Bool
  | .fn => true
  | .net e => s.mgmtRights e % 2 = 1
  | .slice _ => false

/-! ## The management sequence (R142) -/

/-- The image of the management sequence (R142, R220). -/
def State.mgmtImage (s : State) : NsImage :=
  .mgmtSeq (s.get GLB_MGMT_SEQ_last_accepted) (s.get GLB_MGMT_SEQ_last_completed) s.nsm.recorded s.nsm.dels

/-- A command's effect on pool metadata, its outcome and the sequence's values, in one group of records (R142). -/
def State.mgmtRecord (s : State) (l : List NsImage) (q : Word32) (st : Status) (dw0 dw1 : Word32) : State :=
  let s := s.set GLB_MGMT_SEQ_last_completed 0 q.toNat
  let s := { s with nsm := { s.nsm with
      recorded := some ⟨q, st, dw0, dw1⟩, running := none, runSeq := none, dels := s.nsm.dels.filter fun d => d.1 != q } }
  s.metaAppend 0 (.nsGroup (l ++ [s.mgmtImage]))

/-- Whether every namespace of a delete is gone. -/
def State.delGone (s : State) (l : List Nat) : Bool := l.all fun i => (s.ns i).all fun n => n.state != .deleting

/-- Management goes on without a command to run (R142): a delete whose command is no more, deleted with its queue or cut short by a reset,
takes its turn and ends with its last namespace; another command whose queue was deleted before it could run completes as that did. -/
def State.mgmtTurn : Nat → State → State
  | 0, s => s
  | fuel + 1, s =>
    match s.nsm.runSeq with
    | some q =>
      if s.nsm.running.isNone && s.nsm.dels.any fun (d : Word32 × List Nat) => d.1 = q && s.delGone d.2 then
        State.mgmtTurn fuel (s.mgmtRecord [] q St.ok 0 0)
      else s
    | none =>
      match s.nsm.dels.find? fun (d : Word32 × List Nat) => !(s.nsm.seqQueue.any fun (k : Nat × Word32) => k.2 = d.1) with
      | some d => State.mgmtTurn fuel { s with nsm := { s.nsm with runSeq := some d.1 } }
      | none =>
        match s.nsm.seqQueue with
        | [] => s
        | (c, q) :: rest =>
          if (s.cmd c).any fun x => x.phase != .done then s
          else
            let s := { s with nsm := { s.nsm with seqQueue := rest } }
            State.mgmtTurn fuel (if s.nsm.dels.any fun (d : Word32 × List Nat) => d.1 = q then s else s.mgmtRecord [] q St.sqDeletion 0 0)

/-- Management goes on as far as it can. -/
def State.mgmtGo (s : State) : State := State.mgmtTurn (2 * (s.nsm.seqQueue.length + s.nsm.dels.length) + 2) s

/-- The running management command completes: its outcome is recorded with its effect on pool metadata (R142). -/
def State.mgmtEnd (s : State) (st : Status) (dw0 : Word32 := 0) (dw1 : Word32 := 0) (l : List NsImage := []) : State :=
  let c := s.nsm.running
  let s := match s.nsm.runSeq with | some q => s.mgmtRecord l q st dw0 dw1 | none => s
  let s := match c with | some c => s.complete c st dw0 dw1 | none => s
  s.mgmtGo

/-- A management command decided by its sequence number (R141, R142): accepted, with what its acceptance does, and carried out once
every earlier one has completed; answered with the recorded outcome; or refused. -/
def State.mgmtGateWith (early : State → Cmd → State × List NsImage) (s : State) (c opcode : Nat) (want : Cmd → Bool)
    (f : State → Cmd → QOwner → State) : State :=
  match s.adminRun c opcode with
  | none => s
  | some (x, o) =>
    if !want x || s.nsm.running = some c then s
    else if !s.mgmtIssuer o then s.complete c St.accessDenied
    else
      let q := x.sqe.cdw2
      let la := BitVec.ofNat 32 (s.get GLB_MGMT_SEQ_last_accepted)
      let start (s : State) : State := f { s with nsm := { s.nsm with running := some c, runSeq := some q } } x o
      if s.nsm.seqQueue.any fun (k, _) => k = c then
        if s.nsm.runSeq.isNone && (s.nsm.seqQueue.head?.any fun (k, _) => k = c) then
          start { s with nsm := { s.nsm with seqQueue := s.nsm.seqQueue.drop 1 } }
        else s
      else if q = la + 1 then
        let (s, l) := early (s.set GLB_MGMT_SEQ_last_accepted 0 q.toNat) x
        let s := s.metaAppend 0 (.nsGroup (l ++ [s.mgmtImage]))
        if s.nsm.runSeq.isNone && s.nsm.seqQueue.isEmpty then start s
        else { s with nsm := { s.nsm with seqQueue := s.nsm.seqQueue ++ [(c, q)] } }
      else if q = la && (s.nsm.runSeq = some q || (s.nsm.seqQueue.any fun (_, p) => p = q) || s.nsm.dels.any fun d => d.1 = q) then s
      else match s.nsm.recorded with
        | some r => if q = la && r.seq = q then s.complete c r.status r.dw0 r.dw1 else s.complete c St.sequenceError la
        | none => s.complete c St.sequenceError la

/-- A management command whose acceptance does nothing but count (R142). -/
def State.mgmtGate (s : State) (c opcode : Nat) (want : Cmd → Bool) (f : State → Cmd → QOwner → State) : State :=
  State.mgmtGateWith (fun s _ => (s, [])) s c opcode want f

/-! ## Capacity (R144, R146, R232) -/

/-- The provisionable capacity of the pool in bytes (R232). -/
def State.tnvmcap (s : State) : Nat :=
  let best := (List.range 16).foldl (fun (p : Nat × Nat) g =>
    let k := s.groupKmin g
    let w := k + s.groupM g
    if k * p.2 < p.1 * w then (k, w) else p) (1, 1)
  s.gu * 1048576 * best.1 * (100 - clampNat 5 50 (s.get STR_POOL_CFG_op_pct)) * 511 / (best.2 * 100 * 512) / 4096 * 4096

/-- The part of it not given to namespaces. -/
def State.unvmcap (s : State) : Nat := s.tnvmcap - (s.nsm.ns.map fun (_, (n : Ns)) => 4096 * n.nsze).sum

/-! ## Notices (R148) -/

/-- The owners whose rights a change concerns: those with an admin queue, and the local owners the entries name. -/
def State.concerned (s : State) (l : List Attach) : List QOwner :=
  (s.adminOwners ++ l.filterMap fun (a : Attach) => match a.key with
    | .cntlid c => some (if c = 1 then QOwner.fn else QOwner.slice (c - 2))
    | .eid _ _ => none).dedup

/-- Owners whose access differs between two attachment lists get the notice, and the NSID in their changed list. -/
def State.accessNotices (s : State) (nsid : Nat) (before after : Ns) : State :=
  let l := (s.concerned (before.attach ++ after.attach)).filter fun o => decide (rightsOf before o ≠ rightsOf after o)
  s.each l fun s o =>
    let f := s.feat o
    (s.putFeat o { f with changed := if f.changed.contains nsid then f.changed else f.changed ++ [nsid] }).notice o 8 2 0 4

/-! ## Create, attach, detach, delete (R145 to R149) -/

/-- NS_CREATE (R145, R146, R164, R185); a SEL that is neither create nor delete ends here, accepted and failed. -/
def State.nsCreate (s : State) (c : Nat) : State :=
  s.mgmtGate c 0x0D (fun x => x.sqe.cdw10.toNat % 16 != 1) fun s x _ =>
    let d := s.cmdBytes x
    let nsze := leAt d 0 8
    let tenant := leAt d 3072 2
    let mode := leAt d 3074 1
    let prot := leAt d 3075 1
    let slot := leAt d 3076 2
    let group := leAt d 3079 1
    let used (j : Nat) : Bool := decide (j < 16) || j = 26 || (decide (3072 ≤ j) && decide (j < 3080) && j != 3078)
    let bad := leAt d 8 8 != nsze || nsze = 0 || decide (4092 < tenant) || decide (3 < mode) || decide (1 < prot) || decide (15 < group) ||
      (d.zipIdx.any fun (v, j) => !used j && v != 0)
    let keyOk := match tget s.key.slots slot with
      | some k => k.kind = .xts && k.state = .loaded && k.bind = .none && k.assured = (prot = 1)
      | none => false
    if x.sqe.cdw10.toNat % 16 != 0 || x.sqe.cdw11.toNat / 2 ^ 24 != 0 then s.mgmtEnd St.invalidField
    else if leAt d 26 1 != 0 then s.mgmtEnd ⟨1, 0x0A, false⟩
    else if bad || !keyOk then s.mgmtEnd St.invalidField
    else
      match firstFree s.nsm.ns (s.nsm.ns.length + 1) 0 with
      | none => s.mgmtEnd ⟨1, 0x16, false⟩
      | some i =>
        if 4096 ≤ i then s.mgmtEnd ⟨1, 0x16, false⟩
        else if s.unvmcap < 4096 * nsze then s.mgmtEnd ⟨1, 0x15, false⟩
        else
          let n : Ns := { creator := s.moduleId, mode := mode, assured := prot = 1, group := group, keySlot := slot, tenant := tenant
                          nsze := nsze, ownerId := s.moduleId, check := s.slotCheck slot }
          ({ s with nsm := { s.nsm with ns := tput s.nsm.ns i n } }.rebind i).mgmtEnd St.ok (BitVec.ofNat 32 (nsidOf i n)) 0 [.entry i n]

/-- The namespace an admin command names, or the status it fails with (R143, R338). -/
def State.adminNs (s : State) (e : Sqe) : Sum (Nat × Ns) (Status × Word32 × Word32) :=
  match s.nsIndex e.nsid.toNat with
  | none => .inr (s.absentNs e.nsid.toNat)
  | some i =>
    match s.ns i with
    | none => .inr (s.absentNs e.nsid.toNat)
    | some n => if s.owned n then .inl (i, n) else .inr (movedTo n.ownerId)

/-- The top bits of an EID that a prefix length keeps. -/
def eidPrefix (e : Eid) (len : Nat) : Eid := BitVec.ofNat 32 (e.toNat / 2 ^ (32 - len) * 2 ^ (32 - len))

/-- The entries an attachment list spells (R147), or none where a field of it is out of range; a reserved bit or byte of an EID entry that
is not 0 counts as such (assumption log 105). -/
def attachList (eids : Bool) (d : List Byte) : Option (List Attach) :=
  if eids then
    let n := leAt d 0 4
    if 511 < n then none
    else (List.range n).mapM fun j =>
      let o := 4 + 8 * j
      let len := leAt d (o + 4) 1
      let r := leAt d (o + 5) 1
      if len = 0 || decide (32 < len) || decide (3 < r) || leAt d (o + 6) 2 != 0 then none
      else some { key := .eid (eidPrefix (BitVec.ofNat 32 (leAt d o 4)) len) len, rd := r % 2 = 1, wr := r / 2 = 1 }
  else
    let n := leAt d 0 2
    if 2047 < n then none
    else (List.range n).mapM fun j =>
      let c := leAt d (2 + 2 * j) 2
      if c = 0 || decide (0x401 < c) then none else some { key := .cntlid c, rd := true, wr := true }

/-- An entry added, or its rights replaced. -/
def attachPut (l : List Attach) (a : Attach) : List Attach :=
  if l.any fun b => b.key = a.key then l.map fun (b : Attach) => if b.key = a.key then a else b else l ++ [a]

/-- NS_ATTACH and NS_DETACH (R147, R148): all of the list or none of it; a SEL that is neither ends with the attach row,
accepted and failed. -/
def State.nsAttach (s : State) (c : Nat) (detach : Bool) : State :=
  s.mgmtGate c 0x15 (fun x => if detach then x.sqe.cdw10.toNat % 16 = 1 else x.sqe.cdw10.toNat % 16 != 1) fun s x _ =>
    if decide (1 < x.sqe.cdw10.toNat % 16) then s.mgmtEnd St.invalidField else
    match s.adminNs x.sqe with
    | .inr (st, a, b) => s.mgmtEnd st a b
    | .inl (i, n) =>
      match attachList (x.sqe.cdw11.toNat % 2 = 1) (s.cmdBytes x) with
      | none => s.mgmtEnd St.invalidField
      | some l =>
        let finish (s : State) (m : List Attach) : State :=
          let n' := { n with attach := m }
          let s := { s with nsm := { s.nsm with ns := tput s.nsm.ns i n' } }
          (s.mgmtEnd St.ok 0 0 [.attach i m]).accessNotices (nsidOf i n) n n'
        if detach then
          if l.any fun a => !(n.attach.any fun b => b.key = a.key) then s.mgmtEnd ⟨1, 0x1A, false⟩
          else finish s (n.attach.filter fun b => !(l.any fun a => a.key = b.key))
        else
          let m := l.foldl attachPut n.attach
          let others := (s.nsm.ns.map fun (j, (y : Ns)) => if j = i then 0 else y.attach.length).sum
          if decide (256 < m.length) || decide (65536 < m.length + others) then s.mgmtEnd ⟨1, 0x1B, false⟩ else finish s m

/-- The namespaces being deleted that this module owns. -/
def State.deleting (s : State) : List Nat := (s.nsm.ns.filter fun (_, (n : Ns)) => n.state = .deleting && s.owned n).map (·.1)

/-- The namespaces that a delete names and that are not being deleted. -/
def State.deleteTargets (s : State) (e : Sqe) : List Nat :=
  if e.nsid = 0xFFFFFFFF then (s.nsm.ns.filter fun (_, (n : Ns)) => s.owned n && n.state = .active).map (·.1)
  else match s.adminNs e with
    | .inl (i, n) => if n.state = .active then [i] else []
    | .inr _ => []

/-- The namespaces of a delete enter DELETING (R149 steps 1 and 2): commands of them that have not started complete. -/
def State.deleteMark (s : State) (q : Word32) (l : List Nat) : State × List NsImage :=
  let marked := l.filterMap fun i => (s.ns i).map fun n => (i, { n with state := .deleting })
  let due := (s.qpe.cmds.filter fun (_, (y : Cmd)) => y.phase = .fetched && (match y.ns with | some i => l.contains i | none => false)).map (·.1)
  let s := { s with
    nsm := { s.nsm with
      ns := marked.foldl (fun t (i, n) => tput t i n) s.nsm.ns
      dels := if l.isEmpty then s.nsm.dels else tput s.nsm.dels q (tgetD s.nsm.dels q [] ++ l) }
    jnl := { s.jnl with waiting := s.jnl.waiting.filter fun k => !due.contains k } }
  (s.completeAll due St.invalidNs, marked.map fun (i, n) => .entry i n)

/-- NS_DELETE (R142, R149 steps 1 to 3): its namespaces are DELETING from its acceptance on; those that only commands before it made
follow as it starts. -/
def State.nsDelete (s : State) (c : Nat) : State :=
  State.mgmtGateWith (fun s x => s.deleteMark x.sqe.cdw2 (s.deleteTargets x.sqe)) s c 0x0D (fun x => x.sqe.cdw10.toNat % 16 = 1) fun s x _ =>
    let l := s.deleteTargets x.sqe
    if !l.isEmpty then
      let (s, im) := s.deleteMark x.sqe.cdw2 l
      s.metaAppend 0 (.nsGroup (im ++ [s.mgmtImage]))
    else if (tget s.nsm.dels x.sqe.cdw2).isSome then s
    else if x.sqe.nsid = 0xFFFFFFFF then s.mgmtEnd St.ok
    else match s.adminNs x.sqe with
      | .inr (st, a, b) => s.mgmtEnd st a b
      | .inl _ => s.mgmtEnd St.invalidNs

/-- Whether the deletion of a namespace may go on to step 4 of R149: the module serves, and the delete that names it has its turn. -/
def State.delTurn (s : State) (i : Nat) : Bool :=
  decide (8 ≤ s.get BOOT_STATUS_stage) && s.get BOOT_STATUS_stage != 0xA &&
    (match s.nsm.dels.find? fun (d : Word32 × List Nat) => d.2.contains i with
     | some d => s.nsm.runSeq = some d.1
     | none => true)

/-- NS_DELETE_DRAINED (R149 steps 4 to 6): with no started command left, what the namespace held goes; the delete completes
with its last namespace. -/
def State.nsDrained (s : State) (i : Nat) : State :=
  match s.ns i with
  | none => s
  | some n =>
    if n.state != .deleting || !s.owned n || !s.delTurn i || (s.qpe.cmds.any fun (_, (y : Cmd)) => y.ns = some i && y.phase = .started) then s
    else
      let nsid := nsidOf i n
      let s := s.each ((s.jnl.writes.filter fun (_, (w : WJob)) => w.ns = i).map (·.1)) fun s c => (s.dropWrite c).dropStages c
      let gone := (s.jnl.slots.filter fun (k, (v : NeveSlot)) => s.isOwn k && v.desc.any fun d => d.ns = i).map (·.1)
      let s := s.each gone State.slotFree
      let s := s.dropMap i nsid
      let s := ({ s with nsm := { s.nsm with
          ns := tdel s.nsm.ns i
          deferred := s.nsm.deferred.filter fun (e : DefErr) => e.nsid != nsid
          pending := s.nsm.pending.filter fun ((_, j), _) => j != i } }.rebind i).metaAppend 4 (.nsDelete i nsid)
      let s := if n.ownerId = n.creator then s
        else
          let r := s.locRec i n true
          { s with fwd := { s.fwd with withdraws := tput s.fwd.withdraws nsid (r, 2) } }.originate s.clusterPorts (some r) none
      let s := s.accessNotices nsid n { n with attach := [] }
      if s.nsm.dels.any fun d => s.nsm.runSeq = some d.1 && d.2.contains i && s.delGone d.2 then s.mgmtEnd St.ok else s

/-! ## Identify (R144) -/

/-- Bytes put in a structure of zeroes of a length. -/
def structBytes (len : Nat) (l : List (Nat × List Byte)) : List Byte := windowRead l 0 len

/-- Whether an owner has a namespace that is effectively early-ack (R152). -/
def State.vwc (s : State) (o : QOwner) : Bool := s.nsm.ns.any fun (_, (n : Ns)) => (rightsOf n o).1 && s.effMode n = 3

/-- The Identify Controller structure. -/
def State.idController (s : State) (o : QOwner) : List Byte :=
  structBytes 4096
    [(0, leBytes 2 s.hif.idt.vid), (2, leBytes 2 s.hif.idt.ssvid), (77, leBytes 1 9), (78, leBytes 2 (cntlidOf o)), (256, leBytes 2 0x0C),
     (258, leBytes 1 63), (259, leBytes 1 15), (260, leBytes 1 0x14), (280, leBytes 16 s.tnvmcap), (296, leBytes 16 s.unvmcap),
     (319, leBytes 1 1), (516, leBytes 4 4096), (520, leBytes 2 0x10C), (525, leBytes 1 (bit (s.vwc o))),
     (536, leBytes 4 (if ownerLocal o then 1 else 5)), (540, leBytes 4 4096)]

/-- The Identify Namespace structure. -/
def State.idNamespace (s : State) (i : Nat) (n : Ns) : List Byte :=
  let used := (s.str.map.filter fun ((j, _), (e : MapEnt)) => j = i && e != .unmapped).length
  structBytes 4096
    [(0, leBytes 8 n.nsze), (8, leBytes 8 n.nsze), (16, leBytes 8 used), (130, leBytes 1 12), (3072, leBytes 2 n.tenant),
     (3074, leBytes 1 n.mode), (3075, leBytes 1 (bit n.assured)), (3076, leBytes 2 n.keySlot), (3078, leBytes 1 (s.effMode n)),
     (3079, leBytes 1 n.group)]

/-- A list of NSIDs above a number, ascending, as an Identify list. -/
def nsidList (l : List Nat) (after : Nat) : List Byte :=
  structBytes 4096 [(0, (((sortOn id l).filter fun v => decide (after < v)).take 1024).flatMap (leBytes 4))]

/-- IDENTIFY (R144). -/
def State.identify (s : State) (c : Nat) : State :=
  match s.adminRun c 6 with
  | none => s
  | some (x, o) =>
    let cns := x.sqe.cdw10.toNat % 256
    let give (d : List Byte) : State := (s.giveData c d).complete c St.ok
    let nsids (p : Ns → Bool) : List Nat := (s.nsm.ns.filter fun (_, (n : Ns)) => p n).map fun (i, n) => nsidOf i n
    if cns = 1 then give (s.idController o)
    else if cns = 2 then give (nsidList (nsids fun n => n.state = .active && (rightsOf n o).1) x.sqe.nsid.toNat)
    else if cns = 0x10 && s.mgmtIssuer o then give (nsidList (nsids fun _ => true) x.sqe.nsid.toNat)
    else if cns = 0 || cns = 3 then
      match (s.nsIndex x.sqe.nsid.toNat).bind fun i => (s.ns i).map fun n => (i, n) with
      | none =>
        let (st, a, b) := s.absentNs x.sqe.nsid.toNat
        s.complete c st a b
      | some (i, n) =>
        if !s.mgmtIssuer o && !(rightsOf n o).1 then give []
        else if cns = 0 then give (s.idNamespace i n)
        else give (structBytes 4096 [(0, [2, 16, 0, 0]), (4, beBytes 16 (Config.nguid s.str.poolId (nsidOf i n)).toNat)])
    else s.complete c St.invalidField

/-! ## Features (R152 to R154, R157) -/

/-- A register's value as its fields give it. -/
def State.rawReg (s : State) (base i : Nat) : Nat :=
  match regTable.find? fun d => d.base = base with
  | some d => (d.fields.map fun (f : Fld) => s.get f i * 2 ^ f.lo).sum
  | none => 0

/-- The bits of a register that no field has. -/
def reservedBits (base v : Nat) : Bool :=
  match regTable.find? fun d => d.base = base with
  | some d => v != ((d.fields.map fun (f : Fld) => v / 2 ^ f.lo % 2 ^ f.w * 2 ^ f.lo).sum)
  | none => false

/-- The Feature Identifier of a command, and SV (R154). -/
def fidOf (e : Sqe) : Nat := e.cdw10.toNat % 256
def svOf (e : Sqe) : Bool := e.cdw10.toNat / 2 ^ 31 = 1

/-- Feature Identifier Not Saveable, Feature Not Changeable. -/
def notSaveable : Status := ⟨1, 0x0D, false⟩
def notChangeable : Status := ⟨1, 0x0E, false⟩

/-- How a command ends that names a namespace of another module (R143, R338). -/
def State.namesOther (s : State) (e : Sqe) : Option (Status × Word32 × Word32) :=
  if e.nsid = 0 || e.nsid = 0xFFFFFFFF then none
  else match s.adminNs e with
    | .inl _ => none
    | .inr r => some r

/-- The bit of FID 0Bh that enables an event (R158). -/
def aenBit (type info : Nat) : Nat := if type = 2 then 8 + info else 24 + info

/-- SET_FEATURES (R143, R152, R157): the features that are no management commands. -/
def State.setFeatures (s : State) (c : Nat) : State :=
  match s.adminRun c 9 with
  | none => s
  | some (x, o) =>
    let fid := fidOf x.sqe
    let v := x.sqe.cdw11.toNat
    let f := s.feat o
    if fid = 0xC0 || fid = 0xC1 then s
    else if let some (st, a, b) := s.namesOther x.sqe then s.complete c st a b
    else if svOf x.sqe then s.complete c notSaveable
    else if fid = 6 then s.complete c notChangeable
    else if fid = 7 then s.complete c St.ok (BitVec.ofNat 32 (510 * 65537))
    else if fid = 8 then
      if ownerLocal o then (s.putFeat o { f with coalThr := v % 256, coalTime := v / 256 % 256 }).complete c St.ok else s.complete c St.invalidField
    else if fid = 0x0B then
      let m := 2 ^ 8 * (v / 2 ^ 8 % 4) + 2 ^ 24 * (v / 2 ^ 24 % 4)
      (s.putFeat o { f with aenMask := m, kept := f.kept.filter fun e => fbit m (aenBit e.1 e.2.1) }).complete c St.ok
    else s.complete c St.invalidField

/-- SET_FEATURES_TENANT (R154). -/
def State.setTenant (s : State) (c : Nat) : State :=
  s.mgmtGate c 9 (fun x => fidOf x.sqe = 0xC0) fun s x _ =>
    let d := s.cmdBytes x
    let t := x.sqe.cdw11.toNat % 4096
    let a := leAt d 0 8
    let b := leAt d 8 8
    let e := leAt d 16 8
    if let some (st, a, b) := s.namesOther x.sqe then s.mgmtEnd st a b
    else if svOf x.sqe then s.mgmtEnd notSaveable
    else if decide (4093 ≤ t) || x.sqe.cdw11.toNat / 4096 != 0 || leAt d 24 8 != 0 || reservedBits TMS_TENANT_CFG_class.reg a ||
        reservedBits TMS_POL_RATE_cir.reg b || reservedBits TMS_POL_BURST_cbs.reg e then s.mgmtEnd St.invalidField
    else (s.tenantSet t a b e).mgmtEnd St.ok 0 0 [.tenant t a b e]

/-- Set Features C1h ends: the new tenant applies and the values are kept (R153, R154); a mode it changes is no R151 change and raises no
Effective Mode Changed (assumption log 106). -/
def State.serviceEnd (s : State) (i mode tenant : Nat) : State :=
  let s := { s with nsm := { s.nsm with
      service := none, ns := tmod s.nsm.ns i fun n => { n with mode := mode, tenant := tenant } } }
  s.mgmtEnd St.ok 0 0 [.service i mode tenant]

/-- What a Set Features C1h asks for (R153): a namespace with the mode and the tenant it would have, or how the command fails. -/
def State.serviceAsk (s : State) (e : Sqe) : Sum (Nat × Nat × Nat) (Status × Word32 × Word32) :=
  let v := e.cdw11.toNat
  let k := e.cdw12.toNat
  if svOf e then .inr (notSaveable, 0, 0)
  else
    match s.adminNs e with
    | .inr r => .inr r
    | .inl (i, n) =>
      let tenant := v / 65536 % 4096
      if v / 4 % 16384 != 0 || v / 2 ^ 28 != 0 || (k / 2 % 2 = 1 && decide (4092 < tenant)) then .inr (St.invalidField, 0, 0)
      else .inl (i, if k % 2 = 1 then v % 4 else n.mode, if k / 2 % 2 = 1 then tenant else n.tenant)

/-- The mode that a Set Features C1h gives applies from its acceptance on (R153). -/
def State.serviceEarly (s : State) (x : Cmd) : State :=
  match s.serviceAsk x.sqe with
  | .inl (i, mode, _) => { s with nsm := { s.nsm with ns := tmod s.nsm.ns i fun n => { n with mode := mode } } }
  | .inr _ => s

/-- The early-ack writes of a namespace, a Copy among them (R216), that local Névé does not hold whole. -/
def State.earlyWrites (s : State) (i : Nat) : List Nat :=
  let cmds := (s.qpe.cmds.filter fun (_, (y : Cmd)) => y.ns = some i && y.mode = 3 && (y.sqe.opcode = 1 || y.sqe.opcode = 0x19) && y.phase != .done).map (·.1)
  let jobs := (s.jnl.writes.filter fun (_, (w : WJob)) => w.ns = i && w.mode = 3).map (·.1)
  (cmds ++ jobs).dedup

/-- SET_FEATURES_NS_SERVICE (R153): the command waits for earlier early-ack writes. -/
def State.setService (s : State) (c : Nat) : State :=
  State.mgmtGateWith (fun s x => (s.serviceEarly x, [])) s c 9 (fun x => fidOf x.sqe = 0xC1) fun s x _ =>
    match s.serviceAsk x.sqe with
    | .inr (st, a, b) => s.mgmtEnd st a b
    | .inl (i, mode, t) =>
      let l := s.earlyWrites i
      if l.isEmpty then s.serviceEnd i mode t
      else { s with nsm := { s.nsm with ns := tmod s.nsm.ns i fun n => { n with mode := mode }, service := some (i, t, l) } }

/-- NS_SERVICE_DONE (R153). -/
def State.serviceDone (s : State) : State :=
  match s.nsm.service with
  | none => s
  | some (i, t, l) =>
    if l.all s.coveredDone then s.serviceEnd i (match s.ns i with | some n => n.mode | none => 0) t else s

/-- GET_FEATURES (R157): the current value, whatever the Select field (assumption log 107). -/
def State.getFeatures (s : State) (c : Nat) : State :=
  match s.adminRun c 0x0A with
  | none => s
  | some (x, o) =>
    let fid := fidOf x.sqe
    let f := s.feat o
    let v := x.sqe.cdw11.toNat
    if fid = 6 then s.complete c St.ok (BitVec.ofNat 32 (bit (s.vwc o)))
    else if fid = 7 then s.complete c St.ok (BitVec.ofNat 32 (510 * 65537))
    else if fid = 8 then s.complete c St.ok (BitVec.ofNat 32 (f.coalThr + 256 * f.coalTime))
    else if fid = 0x0B then s.complete c St.ok (BitVec.ofNat 32 f.aenMask)
    else if fid = 0xC0 then
      let t := v % 4096
      if v / 4096 != 0 then s.complete c St.invalidField
      else
        let d := leBytes 8 (s.rawReg TMS_TENANT_CFG_class.reg t) ++
          (if t < 4093 then leBytes 8 (s.rawReg TMS_POL_RATE_cir.reg t) ++ leBytes 8 (s.rawReg TMS_POL_BURST_cbs.reg t) else [])
        (s.giveData c d).complete c St.ok
    else if fid = 0xC1 then
      match (s.nsIndex x.sqe.nsid.toNat).bind s.ns with
      | some n => s.complete c St.ok (BitVec.ofNat 32 (n.mode + 65536 * n.tenant))
      | none =>
        let (st, a, b) := s.absentNs x.sqe.nsid.toNat
        s.complete c st a b
    else s.complete c St.invalidField

/-- ASYNC_EVENT_REQUEST (R158): completed with a kept event, or kept outstanding, 16 at most. -/
def State.asyncRequest (s : State) (c : Nat) : State :=
  match s.adminCmd c 0x0C with
  | none => s
  | some (_, o) =>
    let f := s.feat o
    if f.aers.contains c then s
    else
      match f.kept with
      | e :: rest => (s.putFeat o { f with kept := rest }).complete c St.ok (aenDw0 e)
      | [] => if 16 ≤ f.aers.length then s.complete c St.aerLimit else s.putFeat o { f with aers := f.aers ++ [c] }

/-! ## Log pages (R159 to R163) -/

/-- Distributed spare space left, in percent of what is provisioned (R160). -/
def State.sparePct (s : State) : Nat :=
  let all := (s.liveMembers.map s.reserve).sum
  if all = 0 then 100 else (s.liveMembers.map s.freeReserve).sum * 100 / all

/-- The SMART / Health Information page (R160); data units are thousands of 512 B, rounded up. -/
def State.smartPage (s : State) : List Byte :=
  let warn := bit (decide (s.sparePct < 10)) + 2 * bit s.pwr.dieWarm + 4 * bit (!s.reb.crev.isEmpty) +
    16 * bit (s.pwr.storeLow || s.get PWR_STORE_STATUS_state = 4)
  let units (n : Nat) : Nat := (n + 999) / 1000
  let hours := (s.nsm.powerOn + s.dtc.toNat) / (3600 * secTicks 1)
  structBytes 512
    [(0, leBytes 1 warn), (1, leBytes 2 (s.get PWR_THERM_STATUS_die_c + 273)), (3, leBytes 1 s.sparePct), (4, leBytes 1 10),
     (5, leBytes 1 ((s.liveMembers.map fun x => (tgetD s.drv x {}).used).foldl max 0)),
     (32, leBytes 16 (units s.nsm.unitsRd)), (48, leBytes 16 (units s.nsm.unitsWr)), (64, leBytes 16 s.nsm.hostRd),
     (80, leBytes 16 s.nsm.hostWr), (112, leBytes 16 s.nsm.cycles), (128, leBytes 16 hours), (144, leBytes 16 s.nsm.unsafeSd),
     (160, leBytes 16 (s.get REB_CREV_COUNT_lost_blocks))]

/-- Eight ASCII hexadecimal digits of a number. -/
def hexDigits (v : Nat) : List Byte :=
  (List.range 8).map fun j =>
    let d := v / 16 ^ (7 - j) % 16
    BitVec.ofNat 8 (if d < 10 then 48 + d else 55 + d)

/-- The bank the ROM would choose at the next reset (R469): a pending bank above every confirmed one, else the confirmed bank of
the highest generation. -/
def State.nextBank (s : State) : Option Nat :=
  let l := [0, 1].map fun i => (i, s.bank i)
  let best := fun (p : Bank → Bool) => (l.filter fun (_, b) => p b).foldl (fun (m : Option (Nat × Bank)) x => match m with
    | some y => if y.2.gen < x.2.gen then some x else m
    | none => some x) none
  let conf := best fun b => b.state = 3
  match best fun b => b.state = 2 && decide (b.tries < 3) with
  | some (i, b) => if conf.all fun y => decide (y.2.gen < b.gen) then some i else conf.map (·.1)
  | none => conf.map (·.1)

/-- The Firmware Slot Information page (R159, R482). -/
def State.slotPage (s : State) : List Byte :=
  let frs (i : Nat) : List Byte := if (s.bank i).state = 0 then [] else hexDigits (imgVersion (s.bank i).image)
  let next := match s.nextBank with | some i => if i = s.runBank then 0 else i + 1 | none => 0
  structBytes 512 [(0, leBytes 1 (s.runBank + 1 + 16 * next)), (8, frs 0), (16, frs 1)]

/-- The Commands Supported and Effects page (R159): the commands of R143 and R116. -/
def effectsPage : List Byte :=
  structBytes 4096 (([0x00, 0x01, 0x02, 0x04, 0x05, 0x06, 0x08, 0x09, 0x0A, 0x0C, 0x0D, 0x10, 0x11, 0x15, 0xC1, 0xC2].map fun o => (4 * o, leBytes 4 1)) ++
    ([0x00, 0x01, 0x02, 0x08, 0x09, 0x19, 0x80].map fun o => (1024 + 4 * o, leBytes 4 1)))

/-- The deferred error entries of an owner, oldest first. -/
def State.deferredOf (s : State) (o : QOwner) : List DefErr := s.nsm.deferred.filter fun (e : DefErr) => e.owner = o

/-- The 32 bytes of a deferred error entry (R161). -/
def defErrBytes (e : DefErr) : List Byte :=
  let (who, kind) := match e.owner with | .net x => (x.toNat, 0) | o => (cntlidOf o, 1)
  leBytes 4 e.nsid ++ leBytes 4 who ++ leBytes 8 e.slba ++ leBytes 4 e.nlb ++ leBytes 1 e.cause ++ leBytes 1 kind ++ leBytes 2 0 ++
    leBytes 8 e.dtc.toNat

/-- The Deferred Error page of an owner. -/
def State.deferredPage (s : State) (o : QOwner) : List Byte :=
  let w := tgetD s.nsm.defOwners o {}
  let l := s.deferredOf o
  leBytes 8 w.gen ++ leBytes 4 l.length ++ leBytes 4 w.lost ++ List.replicate 16 0 ++ l.flatMap defErrBytes

/-- A read of the Deferred Error page with RAE = 0 removes the entries it returned whole and resets lost_count (R162); what is left counts as
unread (R117). -/
def State.deferredRead (s : State) (o : QOwner) (off len : Nat) (rae : Bool) : State :=
  if rae then s
  else
    let gone := (s.deferredOf o).zipIdx.filterMap fun (e, j) =>
      if decide (off ≤ 32 + 32 * j) && decide (64 + 32 * j ≤ off + len) then some e else none
    { s with nsm := { s.nsm with
        defOwners := tput s.nsm.defOwners o { tgetD s.nsm.defOwners o {} with unread := false, lost := 0 }
        deferred := s.nsm.deferred.filter fun e => !gone.contains e } }

/-- GET_LOG_PAGE (R159): bytes beyond the page read 0. -/
def State.getLogPage (s : State) (c : Nat) : State :=
  match s.adminRun c 2 with
  | none => s
  | some (x, o) =>
    let e := x.sqe
    let lid := e.cdw10.toNat % 256
    let rae := e.cdw10.toNat / 2 ^ 15 % 2 = 1
    let off := e.cdw12.toNat + 2 ^ 32 * e.cdw13.toNat
    let len := adminOut e
    let give (s : State) (d : List Byte) : State := (s.giveData c (windowRead [(0, d)] off len)).complete c St.ok
    match s.namesOther e with
    | some (st, a, b) => s.complete c st a b
    | none =>
      if off % 4 != 0 then s.complete c St.invalidField
      else if lid = 2 then give s s.smartPage
      else if lid = 3 then give s s.slotPage
      else if lid = 4 then
        let f := s.feat o
        let d := if 1024 < f.changed.length then leBytes 4 0xFFFFFFFF else (sortOn id f.changed).flatMap (leBytes 4)
        give (if rae then s else s.putFeat o { f with changed := [] }) d
      else if lid = 5 then give s effectsPage
      else if lid = 0xC0 then give (s.deferredRead o off len rae) (s.deferredPage o)
      else if lid = 0xC1 then (s.giveData c (s.rimeWindow off len)).complete c St.ok
      else s.complete c ⟨1, 9, false⟩

/-! ## Host regions (R156) -/

/-- REGION_REGISTER (R156). -/
def State.regionRegister (s : State) (c : Nat) : State :=
  match s.adminCmd c 0xC1 with
  | none => s
  | some (x, o) =>
    match o with
    | .net e =>
      let base := x.sqe.cdw10.toNat + 2 ^ 32 * x.sqe.cdw11.toNat
      let len := x.sqe.cdw12.toNat % 2 ^ 24
      let k := x.sqe.cdw13.toNat
      if base % 4096 != 0 || decide (2 ^ 52 ≤ base) || len = 0 || x.sqe.cdw12.toNat / 2 ^ 24 != 0 || k / 8 != 0 then s.complete c St.invalidField
      else
        let r : Region := { rd := k % 2 = 1, wr := k / 2 % 2 = 1, protReq := k / 4 % 2 = 1, host := true, scopeLen := 32
                            scopeEid := s.moduleEid, basePage := base / 4096, lenPages := len, regBy := some e }
        match s.allocRegion r with
        | some (key, s) => s.complete c St.ok key
        | none => s.complete c St.invalidField 0
    | _ => s.complete c St.invalidOpcode

/-- REGION_REVOKE (R69, R156): the messages not yet built end with it; it completes when the packets that name the key are settled. -/
def State.regionRevoke (s : State) (c : Nat) : State :=
  match s.adminCmd c 0xC2 with
  | none => s
  | some (x, o) =>
    match o with
    | .net e =>
      let r := tgetD s.hkt.regions (keyIndex x.sqe.cdw10) {}
      if r.revCmd = some c then s
      else if r.state != .valid || r.tag != keyTag x.sqe.cdw10 || r.regBy != some e then s.complete c St.invalidField
      else (((s.revokeRegion x.sqe.cdw10 (some c)).modCmd c fun x => { x with phase := CmdPhase.started }).revokeQueued x.sqe.cdw10)
    | _ => s.complete c St.invalidOpcode

/-! ## The commands -/

/-- GET_LOG_PAGE. -/
def execGetLogPage (c : Nat) (s : State) : Host.Outcome State Fault Refusal :=
  s.commit
    { parts := [.evt, .ctr, .tel, .hkt, .tms, .swc, .qpe, .nsm, .key, .hif, .slc, .jnl, .pair, .freeCtr, .outbox],
        fields := qpeLive ++ cells ++ contexts ++ [SLC_LOG_STATUS_out_span, JNL_NEVE_STATUS_high_water] }
    (s.getLogPage c)

/-- IDENTIFY. -/
def execIdentify (c : Nat) (s : State) : Host.Outcome State Fault Refusal :=
  s.commit
    { parts := [.evt, .ctr, .tel, .hkt, .tms, .swc, .qpe, .key, .hif, .slc, .jnl, .pair, .freeCtr, .outbox], fields :=
        qpeLive ++ cells ++ contexts ++ [SLC_LOG_STATUS_out_span, JNL_NEVE_STATUS_high_water] }
    (s.identify c)

/-- SET_FEATURES. -/
def execSetFeatures (c : Nat) (s : State) : Host.Outcome State Fault Refusal :=
  s.commit { parts := [.ctr, .qpe, .nsm, .pair, .outbox], fields := qpeLive }
    (s.setFeatures c)

/-- SET_FEATURES_TENANT. -/
def execSetFeaturesTenant (c : Nat) (s : State) : Host.Outcome State Fault Refusal :=
  s.commit { parts := [.evt, .ctr, .tms, .qpe, .nsm, .jnl, .pair, .outbox], fields := tmsLive ++ qpeLive ++ firnSeq ++ mgmtSeq }
    (s.setTenant c)

/-- SET_FEATURES_NS_SERVICE. -/
def execSetFeaturesNsService (c : Nat) (s : State) : Host.Outcome State Fault Refusal :=
  s.commit { parts := tableParts, fields := qpeLive ++ firnSeq ++ mgmtSeq }
    (s.setService c)

/-- NS_SERVICE_DONE. -/
def execNsServiceDone (s : State) : Host.Outcome State Fault Refusal :=
  s.commit { parts := tableParts, fields := qpeLive ++ firnSeq ++ [GLB_MGMT_SEQ_last_completed] }
    (s.serviceDone)

/-- GET_FEATURES. -/
def execGetFeatures (c : Nat) (s : State) : Host.Outcome State Fault Refusal :=
  s.commit
    { parts := [.evt, .ctr, .tel, .hkt, .tms, .swc, .qpe, .key, .hif, .slc, .jnl, .pair, .freeCtr, .outbox], fields :=
        qpeLive ++ cells ++ contexts ++ [SLC_LOG_STATUS_out_span, JNL_NEVE_STATUS_high_water] }
    (s.getFeatures c)

/-- ASYNC_EVENT_REQUEST. -/
def execAsyncEventRequest (c : Nat) (s : State) : Host.Outcome State Fault Refusal :=
  s.commit { parts := [.ctr, .qpe, .nsm, .pair, .outbox], fields := qpeLive }
    (s.asyncRequest c)

/-- NS_CREATE. -/
def execNsCreate (c : Nat) (s : State) : Host.Outcome State Fault Refusal :=
  s.commit { parts := [.evt, .ctr, .qpe, .nsm, .key, .jnl, .pair, .outbox], fields := qpeLive ++ firnSeq ++ mgmtSeq }
    (s.nsCreate c)

/-- NS_DELETE. -/
def execNsDelete (c : Nat) (s : State) : Host.Outcome State Fault Refusal :=
  s.commit { parts := tableParts, fields := qpeLive ++ firnSeq ++ mgmtSeq }
    (s.nsDelete c)

/-- NS_DELETE_DRAINED of a namespace index. -/
def execNsDeleteDrained (i : Nat) (s : State) : Host.Outcome State Fault Refusal :=
  s.commit
    { parts := [.evt, .ctr, .tms, .swc, .fwd, .qpe, .nsm, .key, .str, .jnl, .reb, .pair, .freeCtr, .outbox],
      fields := qpeLive ++ cells ++ firnSeq ++ [GLB_MGMT_SEQ_last_completed, REB_CREV_STATUS_entries, REB_CREV_STATUS_generation] }
    (s.nsDrained i)

/-- NS_ATTACH. -/
def execNsAttach (c : Nat) (s : State) : Host.Outcome State Fault Refusal :=
  s.commit { parts := tableParts, fields := qpeLive ++ firnSeq ++ mgmtSeq }
    (s.nsAttach c false)

/-- NS_DETACH. -/
def execNsDetach (c : Nat) (s : State) : Host.Outcome State Fault Refusal :=
  s.commit { parts := tableParts, fields := qpeLive ++ firnSeq ++ mgmtSeq }
    (s.nsAttach c true)

/-- REGION_REGISTER. -/
def execRegionRegister (c : Nat) (s : State) : Host.Outcome State Fault Refusal :=
  s.commit { parts := [.ctr, .hkt, .qpe, .pair, .outbox], fields := qpeLive }
    (s.regionRegister c)

/-- REGION_REVOKE. -/
def execRegionRevoke (c : Nat) (s : State) : Host.Outcome State Fault Refusal :=
  s.commit { parts := [.evt, .ctr, .hkt, .swc, .qpe, .nsm, .jnl, .pair, .outbox], fields := qpeLive ++
      [EVT_RING_PTR_stalled, JNL_NEVE_STATUS_high_water] }
    (s.regionRevoke c)

end Sys2Proof.Machine
end

