-- ==== Sys2Proof/Machine/Rime.lean ====
section
/-! DEFINITION. Rime: measurements (R490), records and their append (R491 to R496), attestation over SPDM (R488, R489, R499). -/

namespace Sys2Proof.Machine

open F

/-! ## Measurements (R490) -/

/-- The image whose CORE runs (R484). -/
def State.coreImage (s : State) : List Byte := s.boot.core

/-- The configuration measured: the header, then the sections 0x10 to 0x16 present (R490, index 5). -/
def configBytes (b : List Byte) : List Byte := b.take 4096 ++ (List.range 7).flatMap fun j => imgSec b (0x10 + j)

/-- Measurement 7: the image's security versions and the fuses' minimums. -/
def State.svnBytes (s : State) : List Byte :=
  leBytes 1 (imgFwSvn s.coreImage) ++ leBytes 1 (imgCfgSvn s.coreImage) ++ leBytes 1 s.boot.fwMin ++ leBytes 1 s.boot.cfgMin

/-- Measurement `i` set, its bytes in words (R501). -/
def State.setMeas (s : State) (i v : Nat) : State :=
  s.each (List.range 6) fun s j => s.set BOOT_MEAS_data (ix2 6 (i - 1) j) (v / 2 ^ (64 * j))

/-- A measurement that is a digest, its first byte in bits [7:0] of its first word (R10). -/
def State.setDigest (s : State) (i : Nat) (d : BitVec 384) : State := s.setMeas i (leNat (digestBytes d))

/-- A measurement as its register words hold it. -/
def State.meas (s : State) (i : Nat) : Nat :=
  ((List.range 6).map fun j => s.get BOOT_MEAS_data (ix2 6 (i - 1) j) * 2 ^ (64 * j)).sum

/-- Measurements 3, 6, 7 and 8: those an activation changes (R484, R501). -/
def State.measureCore (s : State) : State :=
  (((s.setDigest 3 (secHash s.coreImage 3)).setMeas 6 (imgVersion s.coreImage)).setMeas 7 (leNat s.svnBytes)).setDigest 8 s.rime.chain

/-- All eight measurements, as ROM and loader make them at steps 3 and 4 of R479. -/
def State.measureBoot (s : State) : State :=
  let b := s.runImage
  ((((s.setDigest 1 Config.romDigest).setDigest 2 (secHash b 2)).setDigest 4 (secHash b 4)).setDigest 5 (sha384 (configBytes b))).measureCore

/-! ## Records (R491 to R496) -/

/-- The signed part of a record (R491): kind 1 boot, 2 activation. -/
def State.rimeBody (s : State) (kind : Nat) (torn : Bool) (oldFw actMs : Nat) : List Byte :=
  let b := s.runImage
  let k := s.bank s.runBank
  let boot := kind = 1
  let flags := bit (s.flag GLB_IDENT_pair_shelf) + 2 * bit s.boot.raised + 4 * bit s.boot.fallback + 8 * bit torn + 16 * bit s.rime.single
  leBytes 4 0x454D4952 ++ leBytes 1 1 ++ leBytes 1 kind ++ leBytes 2 flags ++ leBytes 8 s.rime.nextSeq ++ leBytes 4 s.boot.count ++
    leBytes 2 (s.get GLB_IDENT_module_id) ++ leBytes 1 (s.get GLB_IDENT_variant) ++ leBytes 1 (s.runBank + 2 * s.boot.chosen) ++
    leBytes 8 (s.get GLB_SERIAL_serial) ++ leBytes 4 s.str.poolId ++ leBytes 4 k.gen ++ leBytes 8 s.dtc.toNat ++
    leBytes 4 (s.meas 6) ++ leBytes 4 (s.meas 7) ++ slice b 24 8 ++ leBytes 1 (imgKeySlot b) ++ leBytes 1 (s.get BOOT_STATUS_owner_slots) ++
    leBytes 6 0 ++ leBytes 48 (s.meas 1) ++ leBytes 48 (s.meas 2) ++ leBytes 48 (s.meas 3) ++ leBytes 48 (s.meas 4) ++
    leBytes 48 (s.meas 5) ++ digestBytes k.hash ++ leBytes 1 (if boot then s.boot.lastRun else 0) ++
    leBytes 1 (if boot then s.get JNL_DUMP_STATUS_outcome else 0) ++ leBytes 1 (s.get JNL_DUMP_STATUS_cause) ++ leBytes 1 0 ++
    leBytes 2 (s.get JNL_DUMP_STATUS_dump_ms) ++ leBytes 2 0 ++ leBytes 4 (s.get JNL_REPLAY_STATUS_restored) ++
    leBytes 4 (s.get JNL_REPLAY_STATUS_deferred) ++ leBytes 4 (s.get JNL_REPLAY_STATUS_unknown_lost) ++ leBytes 4 0 ++
    digestBytes s.rime.chain ++ leBytes 4 oldFw ++ leBytes 2 actMs ++ leBytes 42 0

/-- The chain value of a record (R493). -/
def recordChain (r : List Byte) : BitVec 384 := sha384 (r.take 480)

/-- RIME_APPEND (R494, R496): a signed record written to the packages that accept it (bit n of the mask: package n); the
oldest of 65,536 makes room and becomes the anchor. -/
def State.rimeAppend (s : State) (kind : Nat) (torn : Bool) (oldFw actMs pkgs : Nat) : State :=
  if pkgs % 4 = 0 then (s.set BOOT_RIME_STATUS_state 0 3).raise EV_BOOT_RIME_FAIL 0 0
  else
    let body := s.rimeBody kind torn oldFw actMs
    let c := recordChain body
    let l := s.rime.records ++ [body ++ ecdsaSign c]
    let full := decide (65536 < l.length)
    let r := { s.rime with
      records := if full then l.drop 1 else l
      anchor := if full then recordChain (l.headD []) else s.rime.anchor
      chain := c
      nextSeq := s.rime.nextSeq + 1
      single := pkgs % 4 != 3 }
    let s := { s with rime := r }
    let s := (s.set BOOT_RIME_STATUS_state 0 (if pkgs % 4 = 3 then 1 else 2)).set BOOT_RIME_STATUS_record_count 0 r.records.length
    let s := (s.set BOOT_RIME_SEQ_last_seq 0 (r.nextSeq - 1)).setDigest 8 c
    if pkgs % 4 = 3 then s else s.raise EV_BOOT_RIME_DEGRADED 0 0

/-- RIME_VERIFY_NEWEST (R495): a newest record whose append was cut short is discarded and its seq used again. -/
def State.rimeDiscard (s : State) : State :=
  if s.rime.records.isEmpty then s
  else
    let l := s.rime.records.dropLast
    let c := match l.getLast? with | some r => recordChain r | none => s.rime.anchor
    let s := { s with rime := { s.rime with records := l, chain := c, nextSeq := s.rime.nextSeq - 1 } }
    (s.set BOOT_RIME_STATUS_prior_torn 0 1).raise EV_BOOT_RIME_TORN 0 0

/-! ## SPDM 1.2 on the DOE mailbox (R499); message layouts are those of SPDM 1.2 (PRESUMED, assumption log 15) -/

/-- The header of a message. -/
def spdmHead (version code p1 p2 : Nat) : List Byte := leBytes 1 version ++ leBytes 1 code ++ leBytes 1 p1 ++ leBytes 1 p2

/-- An ERROR response: 0x04 UnexpectedRequest, 0x01 InvalidRequest, 0x07 UnsupportedRequest. -/
def spdmError (code : Nat) (req : List Byte) : List Byte := spdmHead 0x12 0x7F code (if code = 7 then leAt req 1 1 else 0)

/-- The request code of a message. -/
def spdmCode (req : List Byte) : Nat := leAt req 1 1

/-- Whether the endpoint's mailbox answers: its link is up. -/
def State.spdmUp (s : State) (e : Nat) : Bool := s.flag HIF_LINK_STATUS_up e

/-- The exchange of an endpoint. -/
def State.spdmOf (s : State) (e : Nat) : Spdm := tgetD s.rime.spdm e ⟨0, []⟩

/-- A response sent, the exchange as it then stands. -/
def State.spdmAnswer (s : State) (e : Nat) (x : Spdm) (resp : List Byte) : State :=
  { s with rime := { s.rime with spdm := tput s.rime.spdm e x } }.send (.spdm e resp)

/-- A response that belongs to the transcript with its request. -/
def State.spdmNext (s : State) (e stage : Nat) (req resp : List Byte) : State :=
  s.spdmAnswer e ⟨stage, (s.spdmOf e).log ++ req ++ resp⟩ resp

/-- A request of a code met by its answer, where the exchange has come far enough. -/
def State.spdmOn (s : State) (e code stage : Nat) (req : List Byte) (f : State → State) : State :=
  if !s.spdmUp e || spdmCode req != code then s
  else if (s.spdmOf e).stage < stage then s.send (.spdm e (spdmError 4 req))
  else f s

/-- SPDM_GET_VERSION (R499): version 1.2; the exchange begins again. -/
def State.spdmVersion (s : State) (e : Nat) (req : List Byte) : State :=
  s.spdmOn e 0x84 0 req fun s =>
    let resp := spdmHead 0x10 0x04 0 0 ++ [0, 1] ++ leBytes 2 0x1200
    s.spdmAnswer e ⟨1, req ++ resp⟩ resp

/-- SPDM_GET_CAPABILITIES (R499): CERT_CAP, CHAL_CAP, MEAS_CAP with signature, MEAS_FRESH_CAP 0; the timing exponent and
the transfer sizes are free. -/
def State.spdmCapabilities (s : State) (e : Nat) (req : List Byte) : State :=
  s.spdmOn e 0xE1 1 req fun s =>
    let (ct, s) := s.fresh
    let (sz, s) := s.fresh
    let resp := spdmHead 0x12 0x61 0 0 ++ [0] ++ leBytes 1 ct.toNat ++ leBytes 2 0 ++ leBytes 4 0x16 ++ leBytes 8 sz.toNat
    s.spdmNext e 2 req resp

/-- SPDM_NEGOTIATE_ALGORITHMS (R499): ECDSA P-384, SHA-384 and the DMTF measurement format must be among the offers. -/
def State.spdmAlgorithms (s : State) (e : Nat) (req : List Byte) : State :=
  s.spdmOn e 0xE3 2 req fun s =>
    if leAt req 6 1 % 2 = 1 && leAt req 8 4 / 0x80 % 2 = 1 && leAt req 12 4 / 2 % 2 = 1 then
      s.spdmNext e 3 req (spdmHead 0x12 0x63 0 0 ++ leBytes 2 36 ++ [1, 0] ++ leBytes 4 4 ++ leBytes 4 0x80 ++ leBytes 4 2 ++ List.replicate 16 0)
    else s.send (.spdm e (spdmError 7 req))

/-- SPDM_GET_DIGESTS (R499): the digest of slot 0's chain. -/
def State.spdmDigests (s : State) (e : Nat) (req : List Byte) : State :=
  s.spdmOn e 0x81 3 req fun s =>
    s.spdmNext e 3 req (spdmHead 0x12 0x01 0 1 ++ digestBytes (sha384 s.certBlob))

/-- SPDM_GET_CERTIFICATE (R499): the part of slot 0's chain asked for. -/
def State.spdmCertificate (s : State) (e : Nat) (req : List Byte) : State :=
  s.spdmOn e 0x82 3 req fun s =>
    let off := leAt req 4 2
    let part := slice s.certBlob off (leAt req 6 2)
    if leAt req 2 1 % 16 != 0 || decide (s.certBlob.length ≤ off) then s.send (.spdm e (spdmError 1 req))
    else s.spdmNext e 3 req (spdmHead 0x12 0x02 0 0 ++ leBytes 2 part.length ++ leBytes 2 (s.certBlob.length - off - part.length) ++ part)

/-- Measurement block `i` (R490, R499): digests and raw values in DMTF form. -/
def State.measBlock (s : State) (i : Nat) : List Byte :=
  let kind := if i = 1 then 0 else if i ≤ 4 then 1 else if i = 5 then 3 else if i = 6 then 6 else if i = 7 then 7 else 4
  let raw := i = 6 || i = 7
  let v := leBytes (if raw then 4 else 48) (s.meas i)
  leBytes 1 i ++ [1] ++ leBytes 2 (3 + v.length) ++ leBytes 1 (kind + (if raw then 128 else 0)) ++ leBytes 2 v.length ++ v

/-- The signature over a transcript, with the prefix of SPDM 1.2 for its context. -/
def spdmSign (context : List Byte) (m : List Byte) : List Byte :=
  ecdsaSign (sha384 (context ++ digestBytes (sha384 m)))

/-- The signing context of a text: the version prefix four times, then zeroes and the text to 100 bytes. -/
def spdmContext (text : List Nat) : List Byte :=
  let v := [0x64, 0x6D, 0x74, 0x66, 0x2D, 0x73, 0x70, 0x64, 0x6D, 0x2D, 0x76, 0x31, 0x2E, 0x32, 0x2E, 0x2A].flatMap (leBytes 1)
  v ++ v ++ v ++ v ++ List.replicate (36 - text.length) 0 ++ text.flatMap (leBytes 1)

/-- "responder-challenge_auth signing". -/
def challengeText : List Nat :=
  [0x72, 0x65, 0x73, 0x70, 0x6F, 0x6E, 0x64, 0x65, 0x72, 0x2D, 0x63, 0x68, 0x61, 0x6C, 0x6C, 0x65, 0x6E, 0x67, 0x65, 0x5F, 0x61, 0x75, 0x74,
   0x68, 0x20, 0x73, 0x69, 0x67, 0x6E, 0x69, 0x6E, 0x67]

/-- "responder-measurements signing". -/
def measurementsText : List Nat :=
  [0x72, 0x65, 0x73, 0x70, 0x6F, 0x6E, 0x64, 0x65, 0x72, 0x2D, 0x6D, 0x65, 0x61, 0x73, 0x75, 0x72, 0x65, 0x6D, 0x65, 0x6E, 0x74, 0x73, 0x20,
   0x73, 0x69, 0x67, 0x6E, 0x69, 0x6E, 0x67]

/-- SPDM_CHALLENGE (R499): slot 0, a summary of no measurements, of those of the TCB (1 to 5) or of all, signed with the
attestation key (R488); the responder's nonce is free. -/
def State.spdmChallenge (s : State) (e : Nat) (req : List Byte) : State :=
  s.spdmOn e 0x83 3 req fun s =>
    let t := leAt req 3 1
    if leAt req 2 1 % 16 != 0 || !([0, 1, 0xFF].contains t) then s.send (.spdm e (spdmError 1 req))
    else
      let (n, s) := s.freshWide
      let idx := if t = 1 then [1, 2, 3, 4, 5] else [1, 2, 3, 4, 5, 6, 7, 8]
      let summary := if t = 0 then [] else digestBytes (sha384 (idx.flatMap s.measBlock))
      let body := spdmHead 0x12 0x03 0 1 ++ digestBytes (sha384 s.certBlob) ++ leBytes 32 n.toNat ++ summary ++ leBytes 2 0
      let resp := body ++ spdmSign (spdmContext challengeText) ((s.spdmOf e).log ++ req ++ body)
      s.spdmNext e 3 req resp

/-- SPDM_GET_MEASUREMENTS (R499): the number of blocks, one block or all, signed on request with a nonce of the requester. -/
def State.spdmMeasurements (s : State) (e : Nat) (req : List Byte) : State :=
  s.spdmOn e 0xE0 3 req fun s =>
    let i := leAt req 3 1
    let signed := leAt req 2 1 % 2 = 1
    if !(decide (i ≤ 8) || i = 0xFF) then s.send (.spdm e (spdmError 1 req))
    else
      let idx := if i = 0 then [] else if i = 0xFF then [1, 2, 3, 4, 5, 6, 7, 8] else [i]
      let rec_ := idx.flatMap s.measBlock
      let (n, s) := s.freshWide
      let body := spdmHead 0x12 0x60 (if i = 0 then 8 else 0) 0 ++ leBytes 1 idx.length ++ leBytes 3 rec_.length ++ rec_ ++ leBytes 32 n.toNat ++ leBytes 2 0
      if signed then
        s.spdmNext e 3 req (body ++ spdmSign (spdmContext measurementsText) ((s.spdmOf e).log ++ req ++ body))
      else s.spdmNext e 3 req body

/-- SPDM_UNSUPPORTED (R499): every other request. -/
def State.spdmUnsupported (s : State) (e : Nat) (req : List Byte) : State :=
  if !s.spdmUp e || [0x81, 0x82, 0x83, 0x84, 0xE0, 0xE1, 0xE3].contains (spdmCode req) then s
  else s.send (.spdm e (spdmError 7 req))

/-! ## The commands -/

/-- SPDM_GET_VERSION (R499). -/
def execSpdmGetVersion (e : Nat) (req : List Byte) (s : State) : Host.Outcome State Fault Refusal :=
  s.commit { parts := [.rime, .outbox] }
    (s.spdmVersion e req)

/-- SPDM_GET_CAPABILITIES (R499). -/
def execSpdmGetCapabilities (e : Nat) (req : List Byte) (s : State) : Host.Outcome State Fault Refusal :=
  s.commit { parts := [.rime, .freeCtr, .outbox] }
    (s.spdmCapabilities e req)

/-- SPDM_NEGOTIATE_ALGORITHMS (R499). -/
def execSpdmNegotiateAlgorithms (e : Nat) (req : List Byte) (s : State) : Host.Outcome State Fault Refusal :=
  s.commit { parts := [.rime, .outbox] }
    (s.spdmAlgorithms e req)

/-- SPDM_GET_DIGESTS (R499). -/
def execSpdmGetDigests (e : Nat) (req : List Byte) (s : State) : Host.Outcome State Fault Refusal :=
  s.commit { parts := [.rime, .outbox] }
    (s.spdmDigests e req)

/-- SPDM_GET_CERTIFICATE (R499). -/
def execSpdmGetCertificate (e : Nat) (req : List Byte) (s : State) : Host.Outcome State Fault Refusal :=
  s.commit { parts := [.rime, .outbox] }
    (s.spdmCertificate e req)

/-- SPDM_CHALLENGE (R499). -/
def execSpdmChallenge (e : Nat) (req : List Byte) (s : State) : Host.Outcome State Fault Refusal :=
  s.commit { parts := [.rime, .freeCtr, .outbox] }
    (s.spdmChallenge e req)

/-- SPDM_GET_MEASUREMENTS (R499). -/
def execSpdmGetMeasurements (e : Nat) (req : List Byte) (s : State) : Host.Outcome State Fault Refusal :=
  s.commit { parts := [.rime, .freeCtr, .outbox] }
    (s.spdmMeasurements e req)

/-- SPDM_UNSUPPORTED (R499). -/
def execSpdmUnsupported (e : Nat) (req : List Byte) (s : State) : Host.Outcome State Fault Refusal :=
  s.commit { parts := [.outbox] }
    (s.spdmUnsupported e req)

end Sys2Proof.Machine
end

