-- ==== Sys2Proof/Machine/Fw.lean ====
section
/-! DEFINITION. Firmware download, commit and activation (R476, R477, R482 to R485). -/

namespace Sys2Proof.Machine

open F

/-! ## Download (R482) -/

/-- FIRMWARE_IMAGE_DOWNLOAD (R482). -/
def State.fwDownload (s : State) (c : Nat) : State :=
  s.mgmtGate c 0x11 (fun _ => true) fun s x _ =>
    let d := s.cmdBytes x
    let off := 4 * x.sqe.cdw11.toNat
    let n := 4 * (x.sqe.cdw10.toNat + 1)
    if n % 4096 != 0 || off % 4096 != 0 || decide (imageMax < off + n) then s.mgmtEnd St.invalidField
    else if s.boot.buffer.any fun (o, (b : List Byte)) => rangesCross off n o b.length then s.mgmtEnd ⟨1, 0x14, false⟩
    else { s with boot := { s.boot with buffer := s.boot.buffer ++ [(off, d)], lastDl := s.dtc } }.mgmtEnd St.ok

/-- DOWNLOAD_BUFFER_EXPIRY (R482). -/
def State.fwExpire (s : State) : State := { s with boot := { s.boot with buffer := [] } }

/-- The image in the download buffer: as many bytes as its header gives, none of them missing. -/
def State.downloaded (s : State) : Option (List Byte) :=
  let n := leNat (windowRead s.boot.buffer 8 4)
  let have_ := (s.boot.buffer.map fun (o, (b : List Byte)) => min n (o + b.length) - min n o).sum
  if n = 0 || decide (imageMax < n) || have_ != n then none else some (windowRead s.boot.buffer 0 n)

/-! ## Confirmation (R469, R476, R477) -/

/-- The owner slots enrolled and not revoked (R486). -/
def State.ownerSlots (s : State) : Nat :=
  ((List.range 4).map fun j => if (tget s.boot.owners j).isSome && !s.boot.revoked.contains j then 2 ^ j else 0).sum

/-- The fuses shown in BOOT_STATUS. -/
def State.fuseStatus (s : State) : State :=
  ((s.set BOOT_STATUS_owner_slots 0 s.ownerSlots).set BOOT_STATUS_fw_svn_min 0 s.boot.fwMin).set BOOT_STATUS_cfg_svn_min 0 s.boot.cfgMin

/-- An OWNER section carried out (R476): a key enrolled into a blank slot, slots revoked but the one that signed. -/
def State.ownerBurn (s : State) (b : List Byte) : State :=
  let d := imgSec b 0x16
  if !imgHas b 0x16 then s
  else
    let slot := leAt d 0 1
    let mask := leAt d 1 1
    let s :=
      if 4 ≤ slot then s
      else if (tget s.boot.owners slot).isSome then s.raise EV_BOOT_OWNER_REFUSED 0 slot
      else { s with boot := { s.boot with owners := tput s.boot.owners slot (sha384 (slice d 2 96)) } }
    let gone := (List.range 4).filter fun j => fbit mask j && j != imgKeySlot b && !s.boot.revoked.contains j
    { s with boot := { s.boot with revoked := s.boot.revoked ++ gone } }

/-- BANK_CONFIRM (R469, R476, R477): a bank confirmed; its owner section acts and, with svn_commit, the minimums rise. -/
def State.bankConfirm (s : State) (i : Nat) : State :=
  let k := s.bank i
  let s := (s.putBank i { k with state := 3 }).ownerBurn k.image
  let s :=
    if leAt k.image 18 2 % 2 = 1 then
      let fw := max s.boot.fwMin (min 64 (imgFwSvn k.image))
      let cfg := max s.boot.cfgMin (min 64 (imgCfgSvn k.image))
      { s with boot := { s.boot with fwMin := fw, cfgMin := cfg, raised := s.boot.raised || fw != s.boot.fwMin || cfg != s.boot.cfgMin } }
    else s
  s.fuseStatus

/-! ## Commit (R482, R483) -/

/-- The status of Invalid Firmware Slot, Invalid Firmware Image, Requires Conventional Reset, Activation Prohibited. -/
def fwSlot : Status := ⟨1, 0x06, false⟩
def fwImage : Status := ⟨1, 0x07, false⟩
def fwNeedsReset : Status := ⟨1, 0x0B, false⟩
def fwProhibited : Status := ⟨1, 0x13, false⟩

/-- A Commit's action, and the bank it names (0: the one not booted from). -/
def caOf (e : Sqe) : Nat := e.cdw10.toNat / 8 % 8
def State.fsBank (s : State) (e : Sqe) : Option Nat :=
  match e.cdw10.toNat % 8 with
  | 0 => some (1 - s.runBank)
  | 1 => some 0
  | 2 => some 1
  | _ => none

/-- One above the higher generation of the two banks. -/
def State.nextGen (s : State) : Nat := max (s.bank 0).gen (s.bank 1).gen + 1

/-- A Commit that writes the buffer to a bank: state empty and the image written, the record last (R482). -/
def State.fwWrite (s : State) (c : Nat) (x : Cmd) (ca : Nat) : State :=
  let img := s.downloaded
  let s := s.fwExpire
  match s.fsBank x.sqe with
  | none => s.mgmtEnd fwSlot
  | some i =>
    if i = s.runBank then s.mgmtEnd fwSlot
    else
      match img with
      | none => s.mgmtEnd fwImage
      | some b =>
        let h := sha384 b
        if !s.imageOk h b then s.mgmtEnd fwImage
        else
          let s := s.putBank i { gen := (s.bank i).gen, state := 0, tries := 0, hash := h, image := b }
          ({ s with boot := { s.boot with writing := some ⟨c, i, ca⟩ } }).set BOOT_FW_STATUS_act_state 0 1

/-- FIRMWARE_COMMIT_STORE (R482): CA 000b; CA 100b to 111b are Invalid Field in Command. -/
def State.commitStore (s : State) (c : Nat) : State :=
  s.mgmtGate c 0x10 (fun x => caOf x.sqe = 0 || decide (4 ≤ caOf x.sqe)) fun s x _ =>
    if caOf x.sqe = 0 then s.fwWrite c x 0 else s.fwExpire.mgmtEnd St.invalidField

/-- FIRMWARE_COMMIT_PENDING (R482): CA 001b. -/
def State.commitPending (s : State) (c : Nat) : State := s.mgmtGate c 0x10 (fun x => caOf x.sqe = 1) fun s x _ => s.fwWrite c x 1

/-- FIRMWARE_COMMIT_ACTIVATE_SLOT (R482): CA 010b, the bank's image verified and its record written pending. -/
def State.commitSlot (s : State) (c : Nat) : State :=
  s.mgmtGate c 0x10 (fun x => caOf x.sqe = 2) fun s x _ =>
    let s := s.fwExpire
    match s.fsBank x.sqe with
    | none => s.mgmtEnd fwSlot
    | some i =>
      let k := s.bank i
      if k.state = 0 || k.state = 4 then s.mgmtEnd fwSlot
      else if !s.imageOk k.hash k.image then s.mgmtEnd fwImage
      else (s.putBank i { k with gen := s.nextGen, state := 2, tries := 0 }).mgmtEnd St.ok

/-- FIRMWARE_COMMIT_ACTIVATE_NOW (R483): CA 011b. -/
def State.commitNow (s : State) (c : Nat) : State := s.mgmtGate c 0x10 (fun x => caOf x.sqe = 3) fun s x _ => s.fwWrite c x 3

/-! ## The activation window (R483 to R485) -/

/-- Whether a new image differs from the running one in CORE alone, section by section; the MANIFEST, which binds CORE and
carries its versions, is not compared (DEDUCED, assumption log 16). -/
def coreOnly (old new : List Byte) : Bool :=
  [0x02, 0x04, 0x10, 0x11, 0x12, 0x13, 0x14, 0x15, 0x16].all fun t => imgHas old t = imgHas new t && secHash old t = secHash new t

/-- Whether a stop or a dump runs (R483). -/
def State.stopping (s : State) : Bool := match s.jnl.phase with | .idle => false | .riding _ => false | _ => true

/-- ACT_WINDOW_OPEN (R484 step 1): notices, admin commands held. -/
def State.actOpen (s : State) (c : Nat) : State :=
  let s := { s with boot := { s.boot with act := some c, actAt := s.dtc, handed := false } }
  let s := (s.set BOOT_FW_STATUS_act_state 0 2).set BOOT_STATUS_stage 0 0xB
  let aers := s.adminOwners.flatMap fun o => (s.feat o).aers
  let cmds := s.qpe.cmds.map fun (k, (x : Cmd)) =>
    (k, if s.cmdAdmin x && x.phase = .fetched && k != c && !aers.contains k && x.adminHold.isNone then { x with adminHold := some s.dtc } else x)
  let s := { s with qpe := { s.qpe with cmds := cmds } }
  (s.each s.adminOwners fun s o => s.notice o 9 2 1 3).raise EV_BOOT_ACT_START 0 0

/-- The control cores run (true) or are in reset; in reset the CPU port is down and flushed (R362). -/
def State.coresRun (s : State) (run : Bool) : State :=
  let s := s.each (List.range 16) fun s c => (s.set GLB_CORE_STATUS_state c (bit run)).set GLB_CORE_STATUS_beat c 0
  if run then s.cpuPortUp else s.privilegedDown 48

/-- The window closes: act_state idle, held admin commands released in order (R484 step 5); what waited for the cores runs. -/
def State.actClose (s : State) : State :=
  let away := s.boot.handed
  let cmds := s.qpe.cmds.map fun (k, (x : Cmd)) => (k, { x with adminHold := none })
  let s := { s with qpe := { s.qpe with cmds := cmds }, boot := { s.boot with act := none, handed := false, coreRst := false } }
  let s := (s.set BOOT_FW_STATUS_act_state 0 0).set BOOT_STATUS_stage 0 8
  if away then s.dutiesResume else s

/-- The window ends without the new firmware (R485): the cores run the old CORE; after a core reset (R542) there is no bank and no
Commit. -/
def State.actAbort (s : State) (bad : Bool) : State :=
  let i := 1 - s.runBank
  let s := if s.boot.handed then s.coresRun true else s
  if s.boot.coreRst then s.actClose.raise EV_BOOT_ACT_ABORT 0 0
  else
    let s := if s.boot.handed then { s with boot := { s.boot with core := s.boot.oldCore } }.measureCore else s
    let s := if bad then s.putBank i { s.bank i with state := 4 } else s
    (s.actClose.raise EV_BOOT_ACT_ABORT 0 0).mgmtEnd fwProhibited

/-- A dump or a fatal event during a window (R485): before the cores are reset the window is abandoned. -/
def State.actFatal (s : State) : State := if s.boot.act.isSome && !s.boot.handed then s.actAbort false else s

/-- BANK_WRITE_DONE (R482, R483): the record written last; the Commit completes or the window opens. -/
def State.bankWritten (s : State) : State :=
  match s.boot.writing with
  | none => s
  | some w =>
    let k := s.bank w.bank
    let s := s.putBank w.bank { k with gen := s.nextGen, state := if w.ca = 0 then 1 else 2 }
    let s := ({ s with boot := { s.boot with writing := none } }).set BOOT_FW_STATUS_act_state 0 0
    if w.ca != 3 then s.mgmtEnd St.ok
    else if !coreOnly s.runImage k.image then s.mgmtEnd fwNeedsReset
    else if (s.pair.active && (s.pair.partner.any fun (h : Heartbeat) => h.proto != imgProto k.image)) || s.stopping then s.mgmtEnd fwProhibited
    else s.actOpen w.cmd

/-- ACT_HANDOVER_DONE (R484 steps 2 and 3): the cores are reset into the new CORE. -/
def State.actHandover (s : State) : State :=
  if s.boot.act.isNone || s.boot.handed then s
  else
    { s with boot := { s.boot with handed := true, oldCore := s.boot.core, core := (s.bank (1 - s.runBank)).image } }.coresRun false

/-- ACT_FIRMWARE_READY (R484 steps 4 and 5): the activation record, the bank confirmed, the Commit completed; a record that no package
accepts is a fatal event, and the cores return to the old CORE (R494); after a core reset the window only ends (R542). -/
def State.actReady (s : State) (pkgs : Nat) : State :=
  if s.boot.act.isNone || !s.boot.handed then s
  else if s.boot.coreRst then (s.coresRun true).actClose.raise EV_BOOT_ACT_DONE 0 0
  else
    let ms := s.since s.boot.actAt / msTicks 1
    let old := s.meas 6
    let s := s.measureCore.rimeAppend 2 false old ms pkgs
    if pkgs % 4 = 0 then s.actAbort false
    else
      let b := s.coreImage
      let s := { s with boot := { s.boot with proto := imgProto b } }.coresRun true
      let s := ((s.set BOOT_FW_STATUS_fw_version 0 (imgVersion b)).addSat BOOT_FW_STATUS_act_count 0 1).set BOOT_FW_STATUS_last_act_ms 0 (min ms 255)
      ((s.bankConfirm (1 - s.runBank)).actClose.mgmtEnd St.ok).raise EV_BOOT_ACT_DONE 0 0

/-- ACT_TIMEOUT (R485): the old CORE again, the bank bad. -/
def State.actTimeout (s : State) : State := if s.boot.act.isSome then s.actAbort true else s

/-! ## The commands -/

/-- FIRMWARE_IMAGE_DOWNLOAD (R482). -/
def execFirmwareImageDownload (c : Nat) (s : State) : Host.Outcome State Fault Refusal :=
  s.commit { parts := firmwareParts, fields := qpeLive ++ firnSeq ++ mgmtSeq }
    (s.fwDownload c)

/-- DOWNLOAD_BUFFER_EXPIRY (R482). -/
def execDownloadBufferExpiry (s : State) : Host.Outcome State Fault Refusal :=
  s.commit { parts := [.boot] }
    (s.fwExpire)

/-- FIRMWARE_COMMIT_STORE (R482). -/
def execFirmwareCommitStore (c : Nat) (s : State) : Host.Outcome State Fault Refusal :=
  s.commit
    { parts := firmwareParts,
      fields := qpeLive ++ firnSeq ++ mgmtSeq ++ [BOOT_STATUS_state_a, BOOT_STATUS_state_b, BOOT_FW_STATUS_act_state] }
    (s.commitStore c)

/-- FIRMWARE_COMMIT_PENDING (R482). -/
def execFirmwareCommitPending (c : Nat) (s : State) : Host.Outcome State Fault Refusal :=
  s.commit
    { parts := firmwareParts,
      fields := qpeLive ++ firnSeq ++ mgmtSeq ++ [BOOT_STATUS_state_a, BOOT_STATUS_state_b, BOOT_FW_STATUS_act_state] }
    (s.commitPending c)

/-- FIRMWARE_COMMIT_ACTIVATE_SLOT (R482). -/
def execFirmwareCommitActivateSlot (c : Nat) (s : State) : Host.Outcome State Fault Refusal :=
  s.commit { parts := firmwareParts, fields := qpeLive ++ firnSeq ++ mgmtSeq ++ [BOOT_STATUS_state_a, BOOT_STATUS_state_b] }
    (s.commitSlot c)

/-- FIRMWARE_COMMIT_ACTIVATE_NOW (R483). -/
def execFirmwareCommitActivateNow (c : Nat) (s : State) : Host.Outcome State Fault Refusal :=
  s.commit
    { parts := firmwareParts,
      fields := qpeLive ++ firnSeq ++ mgmtSeq ++ [BOOT_STATUS_state_a, BOOT_STATUS_state_b, BOOT_FW_STATUS_act_state] }
    (s.commitNow c)

/-- ACT_HANDOVER_DONE (R484). -/
def execActHandoverDone (s : State) : Host.Outcome State Fault Refusal :=
  s.commit
    { parts := [.evt, .ctr, .tms, .mac, .swc, .boot, .outbox],
      fields := cells ++ [GLB_CORE_STATUS_beat, GLB_CORE_STATUS_state, MAC_PORT_STATUS_flaps, MAC_PORT_STATUS_speed, MAC_PORT_STATUS_up] }
    (s.actHandover)

/-- ACT_FIRMWARE_READY (R484). -/
def execActFirmwareReady (pkgs : Nat) (s : State) : Host.Outcome State Fault Refusal :=
  s.commit
    { parts := [.evt, .ctr, .tms, .mac, .swc, .qpe, .nsm, .str, .jnl, .reb, .pair, .boot, .rime, .outbox],
      fields := bootLive ++ qpeLive ++ cells ++ firnSeq ++ [TMS_REBUILD_FLOOR_floor, TMS_TENANT_CFG_weight, GLB_MGMT_SEQ_last_completed, GLB_CORE_STATUS_beat, GLB_CORE_STATUS_state, MAC_PORT_STATUS_flaps, MAC_PORT_STATUS_speed, MAC_PORT_STATUS_up] }
    (s.actReady pkgs)

/-- ACT_TIMEOUT (R485). -/
def execActTimeout (s : State) : Host.Outcome State Fault Refusal :=
  s.commit
    { parts := stopParts ++ [.str, .reb],
      fields := bootLive ++ qpeLive ++ cells ++ firnSeq ++ [TMS_REBUILD_FLOOR_floor, TMS_TENANT_CFG_weight, GLB_MGMT_SEQ_last_completed, GLB_CORE_STATUS_beat, GLB_CORE_STATUS_state, MAC_PORT_STATUS_flaps, MAC_PORT_STATUS_speed, MAC_PORT_STATUS_up] }
    (s.actTimeout)

/-- BANK_WRITE_DONE (R482). -/
def execBankWriteDone (s : State) : Host.Outcome State Fault Refusal :=
  s.commit { parts := firmwareParts, fields := bootLive ++ qpeLive ++ firnSeq ++ [GLB_MGMT_SEQ_last_completed] }
    (s.bankWritten)

end Sys2Proof.Machine
end

