-- ==== Sys2Proof/Machine/StopCore.lean ====
section
/-! DEFINITION. How stops and dumps begin (R26, R261, R262, R269, R481, R541, R542): shared by the commands, the power rows and the
register writes that ask for them. -/

namespace Sys2Proof.Machine

open F

/-- A dump begins (R262 step 3) with its header cause and with what follows its seal; a window before its step 3 is
abandoned (R485). -/
def State.dumpBegin (s : State) (cause after : Nat) : State :=
  if s.dumping then s
  else
    let s := s.actFatal
    let s := ((s.set PWR_SEQ_STATUS_seq 0 2).addSat PWR_SEQ_STATUS_dumps 0 1).bump (ctrPwr 4)
    { s with boot := { s.boot with after := after } }.dumpStart cause

/-- An orderly stop begins (R269 step 1); with a blocked group it writes a full dump instead. -/
def State.stopBegin (s : State) (after : Nat) : State :=
  if s.dumping || s.stopping then s
  else
    let s := ({ s with boot := { s.boot with after := after } }.set BOOT_STATUS_stage 0 9).stopStart (after != 0)
    if (List.range 16).any fun g => s.flag STR_GROUP_STATUS_blocked g then s.dumpBegin 3 after else s

/-- BOOT_CMD (R481, R486): STOP and RESTART. -/
def State.bootCmd (s : State) (op : Nat) : State :=
  if s.flag BOOT_CMD_busy || (op != 1 && op != 2) then s
  else if s.boot.act.isSome then s.set BOOT_CMD_result 0 2
  else if s.dumping then s.set BOOT_CMD_result 0 3
  else ((s.set BOOT_CMD_result 0 0).set BOOT_CMD_busy 0 1).stopBegin (if op = 1 then 0 else 3)

/-- GLB_CTRL.warm with the key (R541). -/
def State.glbWarm (s : State) : State :=
  if s.dumping || (s.boot.act.isSome && !s.boot.handed) then s else s.dumpBegin 3 1

/-- GLB_CTRL.core_reset with the key (R542): steps 1 and 3 of the window at once; the CPU port is down and flushed until the cores
run again. -/
def State.glbCoreReset (s : State) : State :=
  if s.dumping || s.boot.act.isSome then s
  else
    let s := { s with boot := { s.boot with coreRst := true } }.actOpen s.qpe.nextCmd
    let s := { s with boot := { s.boot with handed := true } }
    s.coresRun false

end Sys2Proof.Machine
end

