-- ==== Sys2Proof/Machine/Telemetry.lean ====
section
/-! DEFINITION. Event rings (R507 to R514), counter registers (R517, R519), snapshots and the user counter page (R520 to R522),
histogram capture (R525 to R527). -/

namespace Sys2Proof.Machine

open F

/-! ## Records leave the buffer (R511) -/

/-- Records that every ring wanting them has taken leave the buffer; EV_LOST of what was dropped then enters (R508). -/
def State.evTrim (s : State) : State :=
  { s with evt := { s.evt with buffer := s.evt.buffer.filter (evKeeps s.regs s.evt.rings) } }

/-- LOST_RECORD_EMIT (R508 step 3). -/
def State.lostEmit (s : State) : State :=
  if 4096 ≤ s.evt.buffer.length then s
  else
    let q := emitLost s.regs s.dtc (s.evt, s.ctr)
    { s with evt := q.1, ctr := q.2 }

/-- COALESCE_WINDOW_EXPIRY (R507): a window that counted reports makes one record. -/
def State.windowEnd (s : State) (code key : Nat) : State :=
  match s.evt.windows.find? fun w => w.code = code && w.key = key with
  | none => s
  | some w =>
    let s := { s with evt := { s.evt with windows := s.evt.windows.filter fun v => !(v.code = code && v.key = key) } }
    if w.count = 0 then s
    else
      let q := evEnter s.regs s.dtc (s.evt, s.ctr) w.proto w.count true w.firstAt w.lastAt
      { s with evt := q.1, ctr := q.2 }

/-- PLDM_ACK (R514): the shelf manager has taken the message of a record. -/
def State.pldmAck (s : State) (seq : Nat) : State := { s with evt := { s.evt with pldm := s.evt.pldm.filter fun e => e.seq != seq } }

/-! ## Rings (R510 to R513) -/

/-- Entries of a ring. -/
def State.ringSize (s : State) (r : Nat) : Nat := 2 ^ clampNat 6 16 (s.get EVT_RING_CFG_log2_size r)

/-- Whether a ring has no room: it holds at most one entry less than its size (R510). -/
def State.ringFull (s : State) (r : Nat) : Bool :=
  (s.get EVT_RING_PTR_tail r + 1) % s.ringSize r = s.get EVT_RING_PTR_head r % s.ringSize r

/-- What a ring keeps. -/
def State.ring (s : State) (r : Nat) : EvRing := tgetD s.evt.rings r {}

/-- A record's flags byte (R504). -/
def sevFlags (e : EvRec) (phase : Nat) : Nat := e.sev + 8 * bit e.coalesced + 16 * bit e.window + 128 * phase

/-- The bytes of a record on a ring, in 64 B (R504) or in the 32 B of the UF7424 (R513). -/
def recBytes (e : EvRec) (phase : Nat) (compat : Bool) : List Byte :=
  let arg (j : Nat) : Nat := e.args.getD j 0
  if compat then
    let lost := e.code = EV_LOST.code
    let a := if lost then [arg 0, arg 2, e.count, arg 4] else [arg 0, arg 1, arg 2, arg 3]
    leBytes 4 e.seq ++ leBytes 4 (e.dtc.toNat / 1600) ++ leBytes 2 e.code ++ leBytes 1 (sevFlags e phase) ++ leBytes 1 (min e.count 255) ++
      leBytes 4 e.source ++ a.flatMap (leBytes 4)
  else
    leBytes 8 e.seq ++ leBytes 8 e.dtc.toNat ++ leBytes 2 e.code ++ leBytes 1 (sevFlags e phase) ++ leBytes 1 e.srcKind ++ leBytes 4 e.source ++
      leBytes 4 e.count ++ leBytes 4 e.gap ++ leBytes 4 e.lastTs ++ (List.range 7).flatMap fun j => leBytes 4 (arg j)

/-- Bytes of a ring's record, or of a notification, toward the ring's owner. -/
def State.ringOut (s : State) (r off : Nat) (d : List Byte) (notify : Bool) : State :=
  match s.get EVT_RING_CFG_target r with
  | 1 =>
    let s := s.hostOp .fn (.write (4096 * s.get EVT_RING_BASE_base r + off) d none)
    if notify then s.message .fn 0 (s.get EVT_RING_CFG_vector r) else s
  | 2 =>
    s.sendMsg s.moduleEid (BitVec.ofNat 32 (s.get EVT_RING_DEST_eid r))
      (.write (BitVec.ofNat 32 (s.get EVT_RING_DEST_region_key r)) (4096 * s.get EVT_RING_BASE_base r + off) d) false notify 7 (.evtRing r)
  | _ => if notify then s.send (.ringNotify r) else s

/-- A ring's tail past the entry just written: the phase inverts at each wrap, a full ring notes since when (R510, R512). -/
def State.ringStep (s : State) (r next : Nat) : State :=
  let s := s.set EVT_RING_PTR_tail r next
  let s := if next = 0 then s.set EVT_RING_PTR_phase r (1 - s.get EVT_RING_PTR_phase r) else s
  if s.ringFull r then { s with evt := { s.evt with rings := tmod s.evt.rings r fun (x : EvRing) => { x with fullSince := some s.dtc } } } else s

/-- A record written to a ring at its tail (R510): phase, notification after notify_count records. -/
def State.ringPut (s : State) (r : Nat) (e : EvRec) : State :=
  let g := s.ring r
  let tail := s.get EVT_RING_PTR_tail r
  let compat := s.flag EVT_RING_CFG_fmt r
  let due := decide (atLeast1 (s.get EVT_RING_CFG_notify_count r) ≤ g.unnotified + 1)
  let off := tail * (if compat then 32 else 64)
  let d := recBytes e (s.get EVT_RING_PTR_phase r) compat
  let g : EvRing := { g with
    lastSeq := some e.seq, excluded := g.excluded.filter fun q => decide (e.seq < q), owed := none, lastWrite := some (off, d)
    unnotified := if due then 0 else g.unnotified + 1, firstUnnot := if g.unnotified = 0 then s.dtc else g.firstUnnot }
  let size := s.ringSize r
  let s : State := { s with evt := { s.evt with rings := tput s.evt.rings r g } }
  let s := s.ringStep r ((tail + 1) % size)
  (if s.get EVT_RING_CFG_target r = 0 then s.send (.ringWrite r tail e) else s).ringOut r off d due

/-- RING_DELIVER (R510, R511): the ring's owed EV_LOST, else the first buffered record it wants, is written where it has
room. -/
def State.ringDeliver (s : State) (r : Nat) : State :=
  if !ringEnabled s.regs r || s.flag EVT_RING_PTR_stalled r || s.ringFull r then s
  else
    match (s.ring r).owed with
    | some e => s.ringPut r e
    | none =>
      match s.evt.buffer.find? fun e => ringWants s.regs s.evt.rings e r with
      | none => s
      | some e =>
        let g := s.ring r
        let gap := if g.lastSeq.isSome then (g.excluded.filter fun q => decide (q < e.seq)).length else 0
        let s := { s with evt := { s.evt with buffer := s.evt.buffer.map fun (x : EvRec) => if x.seq = e.seq then { x with taken := x.taken ++ [r] } else x } }
        (s.ringPut r { e with gap := gap }).evTrim

/-- RING_NOTIFY_EXPIRY (R510): 10 µs after the first record not notified; on the network the last record is written again with
the notification (assumption log 17). -/
def State.ringNotify (s : State) (r : Nat) : State :=
  let g := s.ring r
  if g.unnotified = 0 then s
  else
    let s := { s with evt := { s.evt with rings := tput s.evt.rings r { g with unnotified := 0 } } }
    match s.get EVT_RING_CFG_target r, g.lastWrite with
    | 1, _ => s.message .fn 0 (s.get EVT_RING_CFG_vector r)
    | 2, some (off, d) => s.ringOut r off d true
    | _, _ => s.send (.ringNotify r)

/-- RING_STALL (R512): a ring full for its time stalls; records no longer wait for it. -/
def State.ringStall (s : State) (r : Nat) : State :=
  if !ringEnabled s.regs r || s.flag EVT_RING_PTR_stalled r || !s.ringFull r then s
  else (((s.set EVT_RING_PTR_stalled r 1).bump (ctrEvt 4)).evTrim).raise EV_EVT_RING_STALLED 0xA r

/-- RING_STALL_RESUME (R512): the ring is owed an EV_LOST of scope 1 over what it missed, under a sequence number of its own. -/
def State.ringResume (s : State) (r : Nat) : State :=
  if !s.flag EVT_RING_PTR_stalled r then s
  else
    let g := s.ring r
    let q := s.evt.nextSeq
    let first := match g.lastSeq with | some v => v + 1 | none => 0
    let gap := (g.excluded.filter fun v => decide (first ≤ v) && decide (v < q)).length
    let e : EvRec :=
      { seq := q, dtc := s.dtc, code := EV_LOST.code, sev := EV_LOST.sev, window := false, coalesced := false, srcKind := 0, source := 0
        count := q - first - gap, gap := gap, lastTs := (ts32 s.dtc).toNat
        args := [first % 2 ^ 32, first / 2 ^ 32, (q - 1) % 2 ^ 32, (q - 1) / 2 ^ 32, 1, 0], taken := [] }
    let rings := ((ringsOn s.regs).filter (· != r)).foldl
      (fun t k => tput t k { tgetD t k {} with excluded := (tgetD t k {}).excluded ++ [q] }) s.evt.rings
    let s := { s with evt := { s.evt with
        nextSeq := q + 1, rings := tput rings r { g with owed := some e, lastSeq := some (q - 1), fullSince := none } } }
    ((s.set EVT_RING_PTR_stalled r 0).bump (ctrEvt 1)).evTrim.ringDeliver r

/-- RING_HEAD_WRITE (R510): entries freed. -/
def State.ringHead (s : State) (r v : Nat) : State :=
  let s := s.set EVT_RING_PTR_head r v
  if s.ringFull r then s
  else { s with evt := { s.evt with rings := tmod s.evt.rings r fun (x : EvRing) => { x with fullSince := none } } }

/-- A ring's configuration written (R511): enabling resets its tail and phase, and the records buffered are its own to
take. -/
def State.ringCfg (s : State) (r v : Nat) : State :=
  let was := s.flag EVT_RING_CFG_en r
  let s := [EVT_RING_CFG_en, EVT_RING_CFG_target, EVT_RING_CFG_fmt, EVT_RING_CFG_log2_size, EVT_RING_CFG_min_sev, EVT_RING_CFG_vector,
    EVT_RING_CFG_notify_count, EVT_RING_CFG_block_mask].foldl (fun (s : State) (f : Fld) => s.set f r (v / 2 ^ f.lo)) s
  if s.flag EVT_RING_CFG_en r && !was then
    let s := ((s.set EVT_RING_PTR_tail r 0).set EVT_RING_PTR_phase r 1).set EVT_RING_PTR_stalled r 0
    { s with evt := { s.evt with
        rings := tput s.evt.rings r { excluded := (s.evt.buffer.filter fun e => !ringPasses s.regs r e).map (·.seq) } } }
  else s.evTrim

/-! ## Counters (R516, R517, R519) -/

/-- A counter as the central reader gives it: a level counter includes the state it is in (R515, R516). -/
def State.ctrNow (s : State) (i : Nat) : Nat × Bool :=
  let (v, o) := tgetD s.ctr.vals i (0, false)
  match tget s.ctr.since i with
  | some t =>
    if s.get CTR_CTL_level i = 1 then
      let w := v + s.since t / 4
      if s.get CTR_CTL_wrap i = 1 then (w % 2 ^ 48, o || decide (2 ^ 48 ≤ w)) else (min w ctrMax, o || decide (ctrMax ≤ w))
    else (v, o)
  | none => (v, o)

/-- COUNTER_SATURATE (R517): the event of a counter that has reached its largest value. -/
def State.ctrSaturate (s : State) (i : Nat) : State :=
  if s.ctr.satPend.contains i then
    { s with ctr := { s.ctr with satPend := s.ctr.satPend.filter (· != i) } }.raise EV_CTR_SATURATED 0xB i
  else s

/-- CTR_VAL_WRITE (R517): the written value, then the increments of the same cycle; bit 63 written 1 clears ovf. -/
def State.ctrWrite (s : State) (i v inc : Nat) : State :=
  if 6400 ≤ i then s
  else
    let (_, o) := tgetD s.ctr.vals i (0, false)
    let s := { s with ctr := { s.ctr with
        vals := tput s.ctr.vals i (v % 2 ^ 48, o && !fbit v 63)
        since := tmod s.ctr.since i fun _ => s.dtc } }
    if inc = 0 then s else s.bump i inc

/-- A counter whose level bit a write may have changed (R516), `was` before it: what a level counter has counted of the state it is in
is kept, and a counter that becomes one counts from now. -/
def State.levelSet (s : State) (i was : Nat) : State :=
  match tget s.ctr.since i with
  | none => s
  | some t =>
    if s.get CTR_CTL_level i = was then s
    else
      let c := if was = 1 then ctrAdd s.regs s.ctr i (s.since t / 4) else s.ctr
      { s with ctr := { c with since := tput c.since i s.dtc } }

/-- CTR_ESEL_WRITE (R519): what the counter counts; the counter is cleared. -/
def State.eselWrite (s : State) (k v : Nat) : State :=
  if 256 ≤ k then s
  else
    let s := [CTR_ESEL_en, CTR_ESEL_kind, CTR_ESEL_sel, CTR_ESEL_src_en, CTR_ESEL_instance].foldl (fun (s : State) (f : Fld) => s.set f k (v / 2 ^ f.lo)) s
    { s with ctr := { s.ctr with vals := tput s.ctr.vals (6144 + k) (0, false) } }

/-! ## Snapshots (R520 to R522) -/

/-- A counter as 64 bits: ovf and value. -/
def State.ctrWord (s : State) (i : Nat) : Nat :=
  let (v, o) := s.ctrNow i
  v + bit o * 2 ^ 63

/-- Counters added up for the user counter page (R522). -/
def State.ctrSum (s : State) (l : List Nat) : Nat :=
  let x := l.map s.ctrNow
  (x.map (·.1)).sum % 2 ^ 63 + bit (x.any (·.2)) * 2 ^ 63

/-- COMPAT_PAGE_REFRESH (R522): the values of 32 ports and 32 drives. -/
def State.pageRefresh (s : State) : State :=
  let port (p : Nat) : List Nat :=
    [s.ctrSum [ctrMac p 0], s.ctrSum [ctrMac p 1], s.ctrSum [ctrMac p 2], s.ctrSum [ctrMac p 3], s.ctrSum [ctrMac p 4, ctrMac p 5, ctrMac p 6],
     s.ctrSum ((List.range 8).map fun t => ctrSwcQ p t 0)]
  let drive (x : Nat) : List Nat := (List.range 4).map fun c => s.ctrSum [ctrDrv x c]
  { s with ctr := { s.ctr with
      pageGen := s.ctr.pageGen + 2, pageDtc := s.dtc, page := (List.range 32).flatMap port ++ (List.range 32).flatMap drive } }

/-- Slots of a target, and the counters it takes (R521, R529). -/
def State.tgtSlots (s : State) (j : Nat) : Nat := 2 ^ clampNat 1 4 (s.get CTR_TGT_CFG_log2_slots j)
def State.tgtRange (s : State) (j : Nat) : Nat × Nat :=
  let first := s.get CTR_TGT_CFG_first j
  let n := s.get CTR_TGT_CFG_count j
  (first, if n = 0 || decide (6400 < first + n) then 6400 - first else n)

/-- Whether a target takes snapshots. -/
def State.tgtOn (s : State) (j : Nat) : Bool :=
  s.flag CTR_TGT_CFG_en j && (s.get CTR_TGT_CFG_target j = 1 || s.get CTR_TGT_CFG_target j = 2)

/-- A snapshot written to a target, entries first, the header last and fenced (R520, R521). -/
def State.snapshot (s : State) (j : Nat) : State :=
  let slots := s.tgtSlots j
  let tail := s.get CTR_TGT_PTR_tail j
  if (tail + 1) % slots = s.get CTR_TGT_PTR_head j % slots then
    let s := s.addSat CTR_TGT_PTR_skipped j 1
    if s.ctr.overrun.contains j then s
    else { s with ctr := { s.ctr with overrun := s.ctr.overrun ++ [j] } }.raise EV_CTR_SNAP_OVERRUN 0 j
  else
    let (first, n) := s.tgtRange j
    let entries := ((List.range n).map fun k => s.ctrWord (first + k)).flatMap (leBytes 8)
    let header := leBytes 4 0x50414E53 ++ leBytes 2 1 ++ leBytes 2 j ++ leBytes 8 (s.get CTR_SNAP_STATUS_snap_seq) ++ leBytes 8 s.dtc.toNat ++
      leBytes 4 first ++ leBytes 4 n ++ leBytes 4 (s.get CTR_TGT_PTR_skipped j) ++ leBytes 4 (min 10000 (s.get CTR_SNAP_CFG_period_ms)) ++
      leBytes 4 (crc32c entries).toNat ++ leBytes 20 0
    let at_ := 4096 * s.get CTR_TGT_BASE_base j + tail * ((64 + 8 * n + 4095) / 4096 * 4096)
    let s := if s.get CTR_TGT_CFG_target j = 1 then
        (s.hostOp .fn (.write (at_ + 64) entries none)).hostOp .fn (.write at_ header none)
      else
        let peer := BitVec.ofNat 32 (s.get CTR_TGT_DEST_eid j)
        let key := BitVec.ofNat 32 (s.get CTR_TGT_DEST_region_key j)
        (s.sendMsg s.moduleEid peer (.write key (at_ + 64) entries) false false 7 (.snapTarget j)).sendMsg s.moduleEid peer
          (.write key at_ header) true false 7 (.snapTarget j)
    let s := { s with ctr := { s.ctr with overrun := s.ctr.overrun.filter (· != j) } }
    (s.set CTR_TGT_PTR_skipped j 0).set CTR_TGT_PTR_tail j ((tail + 1) % slots)

/-- SNAPSHOT_TICK (R520 to R522). -/
def State.snapTick (s : State) : State :=
  if s.get CTR_SNAP_CFG_period_ms = 0 then s
  else ((s.inc CTR_SNAP_STATUS_snap_seq 0).each ((List.range 4).filter s.tgtOn) State.snapshot).pageRefresh

/-- SNAPSHOT_HEAD_WRITE (R521). -/
def State.snapHead (s : State) (j v : Nat) : State := s.set CTR_TGT_PTR_head j v

/-- A target's configuration written: enabling sets its tail to 0 (R529). -/
def State.tgtCfg (s : State) (j v : Nat) : State :=
  let was := s.flag CTR_TGT_CFG_en j
  let s := [CTR_TGT_CFG_en, CTR_TGT_CFG_target, CTR_TGT_CFG_log2_slots, CTR_TGT_CFG_count, CTR_TGT_CFG_first].foldl
    (fun (s : State) (f : Fld) => s.set f j (v / 2 ^ f.lo)) s
  if s.flag CTR_TGT_CFG_en j && !was then s.set CTR_TGT_PTR_tail j 0 else s

/-! ## Histograms (R525 to R527) -/

/-- TEL_CAPTURE (R526, R527, R530): a unit's contents in TEL_RD; with clear it begins again, but for the units of STR. -/
def State.telCapture (s : State) (k : Nat) (clear : Bool) : State :=
  if 1024 ≤ k then s
  else
    let u := tgetD s.tel k {}
    let s := s.each (List.range 16) fun s j => s.set TEL_RD_data j (u.bins.getD (2 * j) 0 + 2 ^ 32 * u.bins.getD (2 * j + 1) 0)
    let s := (((s.set TEL_RD_data 16 u.min).set TEL_RD_data 17 u.max).set TEL_RD_data 18 u.count).set TEL_RD_data 19 u.sum
    if clear && decide (32 ≤ k) then { s with tel := tput s.tel k {} } else s

/-- TEL_UNIT_CFG_WRITE (R525, R527): the unit attached to its source and cleared. -/
def State.telCfg (s : State) (k v : Nat) : State :=
  if decide (k < 32) || decide (1024 ≤ k) then s
  else
    let s := [TEL_UNIT_CFG_src, TEL_UNIT_CFG_unit, TEL_UNIT_CFG_op, TEL_UNIT_CFG_shift, TEL_UNIT_CFG_instance].foldl
      (fun (s : State) (f : Fld) => s.set f k (v / 2 ^ f.lo)) s
    { s with tel := tput s.tel k {} }

/-! ## The commands -/

/-- EVENT_REPORT (R506 to R508): a report reaches the EVT block. -/
def execEventReport (p : Report) (s : State) : Host.Outcome State Fault Refusal :=
  s.commit { parts := [.evt, .ctr] }
    (s.report p)

/-- PLDM_ACK (R514). -/
def execPldmAck (seq : Nat) (s : State) : Host.Outcome State Fault Refusal :=
  s.commit { parts := [.evt] }
    (s.pldmAck seq)

/-- COALESCE_WINDOW_EXPIRY (R507). -/
def execCoalesceWindowExpiry (code key : Nat) (s : State) : Host.Outcome State Fault Refusal :=
  s.commit { parts := [.evt, .ctr] }
    (s.windowEnd code key)

/-- LOST_RECORD_EMIT (R508). -/
def execLostRecordEmit (s : State) : Host.Outcome State Fault Refusal :=
  s.commit { parts := [.evt, .ctr] }
    (s.lostEmit)

/-- RING_DELIVER (R510). -/
def execRingDeliver (r : Nat) (s : State) : Host.Outcome State Fault Refusal :=
  s.commit
    { parts := ringParts,
      fields := cells ++ contexts ++ [EVT_RING_PTR_phase, EVT_RING_PTR_tail, SLC_LOG_STATUS_out_span] }
    (s.ringDeliver (r % 16))

/-- RING_NOTIFY_EXPIRY (R510). -/
def execRingNotifyExpiry (r : Nat) (s : State) : Host.Outcome State Fault Refusal :=
  s.commit { parts := ringParts, fields := cells ++ contexts ++ [SLC_LOG_STATUS_out_span] }
    (s.ringNotify (r % 16))

/-- RING_STALL (R512). -/
def execRingStall (r : Nat) (s : State) : Host.Outcome State Fault Refusal :=
  s.commit { parts := [.evt, .ctr], fields := [EVT_RING_PTR_stalled] }
    (s.ringStall (r % 16))

/-- RING_STALL_RESUME (R512). -/
def execRingStallResume (r : Nat) (s : State) : Host.Outcome State Fault Refusal :=
  s.commit
    { parts := ringParts,
      fields := cells ++ contexts ++ [EVT_RING_PTR_phase, EVT_RING_PTR_stalled, EVT_RING_PTR_tail, SLC_LOG_STATUS_out_span] }
    (s.ringResume (r % 16))

/-- RING_HEAD_WRITE (R510). -/
def execRingHeadWrite (r head : Nat) (s : State) : Host.Outcome State Fault Refusal :=
  s.commit { parts := [.evt], fields := [EVT_RING_PTR_head] }
    (s.ringHead (r % 16) head)

/-- RING_ENABLE (R511): EVT_RING_CFG written with en set. -/
def execRingEnable (r v : Nat) (s : State) : Host.Outcome State Fault Refusal :=
  s.commit { parts := [.evt], blocks := [2] }
    (s.ringCfg (r % 16) v)

/-- COUNTER_SATURATE (R517). -/
def execCounterSaturate (i : Nat) (s : State) : Host.Outcome State Fault Refusal :=
  s.commit { parts := [.evt, .ctr] }
    (s.ctrSaturate i)

/-- CTR_VAL_WRITE (R517). -/
def execCtrValWrite (i v inc : Nat) (s : State) : Host.Outcome State Fault Refusal :=
  s.commit { parts := [.ctr] }
    (s.ctrWrite i v inc)

/-- CTR_ESEL_WRITE (R519). -/
def execCtrEselWrite (k v : Nat) (s : State) : Host.Outcome State Fault Refusal :=
  s.commit { parts := [.ctr], blocks := [3] }
    (s.eselWrite k v)

/-- SNAPSHOT_TICK (R520). -/
def execSnapshotTick (s : State) : Host.Outcome State Fault Refusal :=
  s.commit
    { parts := ringParts,
      fields := cells ++ contexts ++ [CTR_SNAP_STATUS_snap_seq, CTR_TGT_PTR_skipped, CTR_TGT_PTR_tail, SLC_LOG_STATUS_out_span] }
    (s.snapTick)

/-- SNAPSHOT_HEAD_WRITE (R521). -/
def execSnapshotHeadWrite (j v : Nat) (s : State) : Host.Outcome State Fault Refusal :=
  s.commit { fields := [CTR_TGT_PTR_head] }
    (s.snapHead (j % 4) v)

/-- TEL_CAPTURE (R526). -/
def execTelCapture (k : Nat) (clear : Bool) (s : State) : Host.Outcome State Fault Refusal :=
  s.commit { parts := [.tel], fields := [TEL_RD_data] }
    (s.telCapture k clear)

/-- TEL_UNIT_CFG_WRITE (R525). -/
def execTelUnitCfgWrite (k v : Nat) (s : State) : Host.Outcome State Fault Refusal :=
  s.commit { parts := [.tel], blocks := [4] }
    (s.telCfg k v)

end Sys2Proof.Machine
end

