-- ==== Sys2Proof/Machine/Access.lean ====
section
/-! DEFINITION. Registers by address (R12 to R14, R531, R532, R561): which register an access reaches, what it reads there, and what a
plain write stores. -/

namespace Sys2Proof.Machine

open F

/-! ## Addresses (R531, R532) -/

/-- The element of a register that begins at an address, numbered with the last index fastest. -/
def RegDef.elem (d : RegDef) (a : Nat) : Option Nat :=
  if a < d.base then none
  else
    let o := a - d.base
    let i := o / d.s0
    let r := o % d.s0
    let j := r / d.s1
    if r % d.s1 = 0 && decide (i < d.n0) && decide (j < d.n1) then some (i * d.n1 + j) else none

/-- The register that begins at an address. -/
def regAt (a : Nat) : Option (RegDef × Nat) := regTable.findSome? fun d => (d.elem a).map fun i => (d, i)

/-- A part of an access (R12): the bits of a register element it reaches, and their place in the value. -/
structure RegPart where
  d   : RegDef
  i   : Nat
  lo  : Nat
  w   : Nat
  at_ : Nat
  deriving DecidableEq, Repr

/-- What a 32-bit access reaches: a 32-bit register, or half of a 64-bit one. -/
def regPart32 (a at_ : Nat) : List RegPart :=
  match regAt a with
  | some (d, i) => [⟨d, i, 0, 32, at_⟩]
  | none =>
    match if a % 8 = 4 then regAt (a - 4) else none with
    | some (d, i) => if d.width = 64 then [⟨d, i, 32, 32, at_⟩] else []
    | none => []

/-- What an access of 4 or 8 bytes reaches (R12); an unassigned address nothing (R13). -/
def regParts (a width : Nat) : List RegPart :=
  if width = 4 then regPart32 a 0
  else
    match regAt a with
    | some (d, i) => if d.width = 64 then [⟨d, i, 0, 64, 0⟩] else ⟨d, i, 0, 32, 0⟩ :: regPart32 (a + 4) 32
    | none => regPart32 (a + 4) 32

/-- The port a register element belongs to, a cage standing for its first port (R4, R5): the registers of MAC, FWD and TMS indexed by a
port or cage; CTR_VAL's counters of a port are not taken as the port's registers (assumption log 109). -/
def regPort (base i : Nat) : Option Nat :=
  if base = MAC_CAGE_CFG_mode.reg then some (4 * i)
  else if base = MAC_PORT_CFG_en.reg || base = MAC_PORT_STATUS_up.reg || base = MAC_PFC_CFG_pfc_en.reg ||
    base = FWD_PORT_CFG_learn_en.reg || base = TMS_PORT_SHAPE_overhead.reg then some i
  else if base = TMS_CLASS_CFG_strict.reg || base = TMS_QSAMPLE_depth.reg then some (i / 8)
  else none

/-- Whether a register element belongs to a port the UF9632-M4A does not have (R5). -/
def State.absentReg (s : State) (base i : Nat) : Bool :=
  s.get GLB_IDENT_variant = 2 && (match regPort base i with | some p => decide (16 ≤ p) && decide (p < 32) | none => false)

/-! ## What the blocks compute for their status registers -/

/-- The oldest lookup epoch of a frame in the switch (R384). -/
def State.epochDrained (s : State) : Nat :=
  let cur := s.get FWD_EPOCH_current
  let age (e : Nat) : Nat := (cur + 2 ^ 32 - e) % 2 ^ 32
  (cur + 2 ^ 32 - (s.swc.frames.map fun (_, (x : SwcFrame)) => age x.epoch).foldl max 0) % 2 ^ 32

/-- The pool fill in 0.1 % (R232). -/
def State.fillPm (s : State) : Nat :=
  let live := (s.str.segs.map fun (_, (g : Seg)) => g.live).sum
  let k := s.kCur 0
  live * 4096 * 1000 * (k + s.groupM 0) / (s.gu * 2 ^ 20 * k)

/-- KiB of lost extents and of live blocks to evacuate still queued (REB_PROGRESS). -/
def State.rebLeft (s : State) : Nat :=
  (s.rebQueue.map fun (i, (g : Seg)) => if s.reb.evac.contains i then 4 * g.live else (s.lostPositions g).length * g.e * 1024).sum

/-- The bytes of a Crevasse entry (R288). -/
def crevBytes (c : Crev) : List Byte :=
  leBytes 4 c.nsid ++ leBytes 4 c.nlb ++ leBytes 8 c.slba ++ leBytes 1 c.cause ++ leBytes 1 (c.member % 32) ++ leBytes 2 0 ++
    leBytes 4 (c.seg % 2 ^ 24) ++ leBytes 8 c.dtc.toNat

/-- The fields of a key slot (KEY_SLOT_INFO). -/
def State.keyFields (s : State) (i : Nat) : List (Fld × Nat) :=
  match tget s.key.slots i with
  | none => []
  | some k =>
    let (b, v) : Nat × Nat := match k.bind with
      | .ns j => (1, match s.ns j with | some n => nsidOf j n | none => 0)
      | .retiring j => (3, match s.ns j with | some n => nsidOf j n | none => 0)
      | .none => if k.kind = .gcm && s.epCount i != 0 then (2, s.epCount i) else (0, 0)
    [(KEY_SLOT_INFO_kind, kindCode k.kind),
     (KEY_SLOT_INFO_state, match k.state with | .loaded => 1 | .awaiting => 2 | .zeroised => 3),
     (KEY_SLOT_INFO_class, bit k.assured), (KEY_SLOT_INFO_persist, bit ((tget s.key.vault (0, i)).isSome || (tget s.key.vault (1, i)).isSome)), (KEY_SLOT_INFO_bind, b), (KEY_SLOT_INFO_bound, v)]

/-- The fields of a namespace (NSM_NS_CFG, KEY_NS_GEN). -/
def State.nsFields (s : State) (i : Nat) : List (Fld × Nat) :=
  match s.ns i with
  | none => []
  | some n =>
    [(NSM_NS_CFG_state, match n.state with | .active => 1 | .deleting => 2), (NSM_NS_CFG_mode, n.mode),
     (NSM_NS_CFG_eff_mode, s.effMode n), (NSM_NS_CFG_prot_class, bit n.assured), (NSM_NS_CFG_owned, bit (s.owned n)),
     (NSM_NS_CFG_group, n.group), (NSM_NS_CFG_key_slot, n.keySlot), (NSM_NS_CFG_tenant, n.tenant), (NSM_NS_CFG_creator, n.creator),
     (KEY_NS_GEN_sweeping, bit n.oldSlot.isSome), (KEY_NS_GEN_kgen, bit n.kgen), (KEY_NS_GEN_zap_old, bit n.zapOld),
     (KEY_NS_GEN_old_slot, n.oldSlot.getD 0),
     (KEY_NS_GEN_remaining, if n.oldSlot.isSome then (s.underGen i (!n.kgen)).length else 0)]

/-- The fields of a queue pair (QPE_QP_STATE). -/
def State.qpFields (s : State) (q : Nat) : List (Fld × Nat) :=
  match s.qp q with
  | none => []
  | some x =>
    [(QPE_QP_STATE_state, x.state.code), (QPE_QP_STATE_admin, bit x.admin),
     (QPE_QP_STATE_local, match x.owner with | .net _ => 0 | _ => 1), (QPE_QP_STATE_inflight, s.inflight q),
     (QPE_QP_STATE_sq_head, x.sqHead), (QPE_QP_STATE_sq_tail, x.sqTail), (QPE_QP_STATE_cq_tail, x.cqTail), (QPE_QP_STATE_cq_head, x.cqHead)]

/-- The completion fields of the queue pair that QPE_QP_SEL names (QPE_QP_COUNT). -/
def State.qpCount (s : State) : List (Fld × Nat) :=
  match s.qp (s.get QPE_QP_SEL_qpn) with
  | none => []
  | some x => [(QPE_QP_COUNT_cq_seq, x.cqSeq), (QPE_QP_COUNT_cq_phase, bit x.cqPhase), (QPE_QP_COUNT_cmpl_count, x.cmplCount)]

/-- The fields of the pool (STR_POOL_STATUS): 0 until replay has ended. -/
def State.poolFields (s : State) : List (Fld × Nat) :=
  if s.get BOOT_STATUS_stage < 6 then [(STR_POOL_STATUS_calve_level, 0)]
  else [(STR_POOL_STATUS_free_pm, s.freePm), (STR_POOL_STATUS_fill_pm, s.fillPm), (STR_POOL_STATUS_live_members, s.nLive),
    (STR_POOL_STATUS_chunk_128, bit s.str.chunk128), (STR_POOL_STATUS_segments_used, s.str.segs.length)]

/-- The fields of the rebuild (REB_STATUS, REB_PROGRESS). -/
def State.rebFields (s : State) : List (Fld × Nat) :=
  [(REB_STATUS_min_r, match s.lowestR with | some r => (r % 8).toNat | none => 7), (REB_STATUS_seg_queued, s.rebQueue.length),
   (REB_PROGRESS_done_mib, s.reb.doneKib / 1024), (REB_PROGRESS_left_mib, s.rebLeft / 1024)]

/-- The fields of a slice (SLC_STATUS). -/
def State.slcFields (s : State) (n : Nat) : List (Fld × Nat) :=
  if s.get SLC_STATUS_state n = 0 then []
  else [(SLC_STATUS_over_quota, bit (s.sliceShaped n)), (SLC_STATUS_bme_held, bit (!s.busOk (.slice n))), (SLC_STATUS_qps, s.sliceQps n),
    (SLC_STATUS_inflight, s.sliceInflight n)]

/-- The fields of register element `i` that a block computes as they are read; the others lie in State.regs. -/
def State.liveFields (s : State) (base i : Nat) : List (Fld × Nat) :=
  if base = CLK_DTC_dtc.reg then [(CLK_DTC_dtc, s.dtc.toNat)]
  else if base = EVT_STATUS_buffered.reg then
    [(EVT_STATUS_buffered, s.evt.buffer.length),
     (EVT_STATUS_stalled, ((List.range 16).map fun r => s.get EVT_RING_PTR_stalled r * 2 ^ r).sum)]
  else if base = EVT_SEQ_next_seq.reg then [(EVT_SEQ_next_seq, s.evt.nextSeq)]
  else if base = EVT_LAST_FATAL_code.reg then
    match s.evt.lastFatal with | some (c, q) => [(EVT_LAST_FATAL_code, c), (EVT_LAST_FATAL_seq, q)] | none => []
  else if base = CTR_VAL_value.reg then [(CTR_VAL_value, (s.ctrNow i).1), (CTR_VAL_ovf, bit (s.ctrNow i).2)]
  else if base = KEY_SLOT_INFO_kind.reg then s.keyFields i
  else if base = NSM_NS_CFG_state.reg || base = KEY_NS_GEN_kgen.reg then s.nsFields i
  else if base = CIP_LANE_STATUS_failed.reg then
    [(CIP_LANE_STATUS_bulk_live, (s.lanesOf false).length), (CIP_LANE_STATUS_assured_live, (s.lanesOf true).length),
     (CIP_LANE_STATUS_failed, (s.cip.failed.map fun l => 2 ^ l).sum)]
  else if base = MAC_PORT_STATUS_held.reg then [(MAC_PORT_STATUS_held, bit (s.portHeld i))]
  else if base = FWD_EPOCH_DRAINED_drained.reg then [(FWD_EPOCH_DRAINED_drained, s.epochDrained)]
  else if base = QPE_QP_COUNT_cq_seq.reg then s.qpCount
  else if base = QPE_QP_STATE_state.reg then s.qpFields i
  else if base = STR_POOL_STATUS_free_pm.reg then s.poolFields
  else if base = STR_MEMBER_STATUS_live.reg then [(STR_MEMBER_STATUS_free_granules, if s.live i then s.freeGranules i else 0)]
  else if base = JNL_NEVE_STATUS_own_used.reg then [(JNL_NEVE_STATUS_own_used, s.ownUsed), (JNL_NEVE_STATUS_mirror_used, s.mirrorUsed)]
  else if base = JNL_FIRN_STATUS_tail_blocks.reg then
    [(JNL_FIRN_STATUS_tail_blocks, s.tailBlocks), (JNL_FIRN_STATUS_replay_mib, s.replayBytes / 2 ^ 20)]
  else if base = DRV_PORT_STATUS_state.reg then [(DRV_PORT_STATUS_tags_used, min (s.port i).cmds.length 1023)]
  else if base = REB_STATUS_state.reg || base = REB_PROGRESS_done_mib.reg then s.rebFields
  else if base = REB_CREV_ENTRY_data.reg then
    match s.reb.crev[s.get REB_CREV_INDEX_index]? with
    | some c => [(REB_CREV_ENTRY_data, leAt (crevBytes c) (8 * i) 8)]
    | none => []
  else if base = HIF_ATS_STATUS_entries.reg then [(HIF_ATS_STATUS_entries, s.hif.cache.length)]
  else if base = SLC_STATUS_state.reg then s.slcFields i
  else if base = PWR_SEQ_STATUS_elapsed.reg then
    [(PWR_SEQ_STATUS_elapsed, if s.get PWR_SEQ_STATUS_seq = 1 then min 65535 (s.since s.pwr.rideFrom / usTicks 10) else 0)]
  else if base = PAIR_STATUS_state.reg then [(PAIR_STATUS_fwd_inflight, s.fwdInflight)]
  else []

/-! ## Reading (R13, R14) -/

/-- The word of a register element as it is read: WO fields and reserved bits read 0; registers of absent ports read their reset
values (R5), MAC_PORT_STATUS.held among them although R5 holds those ports down (assumption log 109). -/
def State.regWord (s : State) (d : RegDef) (i : Nat) : Nat :=
  let l := s.liveFields d.base i
  (d.fields.map fun (f : Fld) =>
    (if f.acc = .wo then 0
     else if s.absentReg d.base i then f.resetAt i
     else match l.find? fun (g, _) => g = f with | some (_, v) => v % 2 ^ f.w | none => s.get f i) * 2 ^ f.lo).sum

/-- The value of an access's part. -/
def State.partRead (s : State) (p : RegPart) : Nat := s.regWord p.d p.i / 2 ^ p.lo % 2 ^ p.w

/-- What a read returns (R12, R13), its side effects aside. -/
def State.regPeek (s : State) (a width : Nat) : Nat := ((regParts a width).map fun p => s.partRead p * 2 ^ p.at_).sum

/-- The side effects of reading an element's bits (R14): an RC field is reloaded with the value it tracks. -/
def State.readEffect (s : State) (p : RegPart) : State :=
  let hits (f : Fld) : Bool := p.d.base = f.reg && decide (p.lo < f.lo + f.w) && decide (f.lo < p.lo + p.w)
  if hits SWC_BUF_STATUS_min_free then s.set SWC_BUF_STATUS_min_free 0 s.freeCells
  else if hits PWR_BUS_STATUS_vbus_min then s.set PWR_BUS_STATUS_vbus_min 0 (s.get PWR_BUS_STATUS_vbus)
  else if hits SLT_CH_AVG_p_max_dw then s.set SLT_CH_AVG_p_max_dw p.i (s.get SLT_CH_MEAS_p_dw p.i)
  else s

/-- A read: the value, and the state after its side effects. -/
def State.regRead (s : State) (a width : Nat) : Nat × State := (s.regPeek a width, s.each (regParts a width) State.readEffect)

/-! ## Writing (R14, R539, R561) -/

/-- Whether a field lies, wholly or in part, in the bits a part reaches. -/
def RegPart.hits (p : RegPart) (f : Fld) : Bool := decide (p.lo < f.lo + f.w) && decide (f.lo < p.lo + p.w)

/-- The word that results from a part: the bits it reaches from the value, the others from `old`. -/
def RegPart.merge (p : RegPart) (old v : Nat) : Nat :=
  old % 2 ^ p.lo + (v / 2 ^ p.at_ % 2 ^ p.w) * 2 ^ p.lo + old / 2 ^ (p.lo + p.w) * 2 ^ (p.lo + p.w)

/-- Bits of `v` where `ones` has 0. -/
def clearBits (v ones : Nat) : Nat := (BitVec.ofNat 64 v &&& ~~~(BitVec.ofNat 64 ones)).toNat

/-- A field written (R14, R561): `v` the field's new value, `ones` the bits of it that were written; RWL only before the lock, fields
written by firmware only from the control cores (R533). -/
def State.fieldWrite (s : State) (f : Fld) (i v ones : Nat) (core locked : Bool) : State :=
  match f.acc with
  | .ro => s
  | .rc => s
  | .rw => s.set f i v
  | .wo => s.set f i v
  | .rs => s.set f i v
  | .rwl => if locked then s else s.set f i v
  | .fw => if core then s.set f i v else s
  | .rw1c => s.set f i (clearBits (s.get f i) ones)
  | .rw1cAll => if ones = 2 ^ f.w - 1 then s.set f i 0 else s

/-- A part of a write stored, each field by its access code (R14); after the lock a write to a register with RWL fields is
counted (R539). -/
def State.partStore (s : State) (p : RegPart) (v : Nat) (core : Bool) : State :=
  if s.absentReg p.d.base p.i then s
  else
    let locked := s.flag GLB_STATUS_cfg_lock
    let ones := p.merge 0 v
    let s := (p.d.fields.filter p.hits).foldl (fun (s : State) (f : Fld) =>
      s.fieldWrite f p.i (p.merge (s.get f p.i * 2 ^ f.lo) v / 2 ^ f.lo) (ones / 2 ^ f.lo % 2 ^ f.w) core locked) s
    if locked && p.d.fields.any fun (f : Fld) => f.acc = .rwl then s.addSat GLB_STATUS_rwl_ignored 0 1 else s

end Sys2Proof.Machine
end

