-- ==== Sys2Proof/Machine/Bus.lean ====
section
/-! DEFINITION. Register writes with effects, and the paths an access takes (R404, R533 to R537, R540): one operation for a write from
any path, the register access service (rows 0 to 3 and 9). -/

namespace Sys2Proof.Machine

open F

/-! ## Command registers -/

/-- GLB_CTRL (R540 to R542): bits [1:0] act with the key, for the local function and the control cores alone; warm wins (R16). -/
def State.glbCtrl (s : State) (v : Nat) (service : Bool) : State :=
  let s := s.set GLB_CTRL_locate 0 (v / 4)
  if service || v / 2 ^ 8 % 2 ^ 8 != 0xA5 then s
  else if fbit v 0 then s.glbWarm
  else if fbit v 1 then s.glbCoreReset
  else s

/-- KEY_CMD (R180, R195): the command that the written fields name; other ops do nothing. -/
def State.keyCmd (s : State) : State :=
  let slot := s.get KEY_CMD_slot
  match s.get KEY_CMD_op with
  | 1 => s.kekAgree slot (s.flag KEY_CMD_persist)
  | 2 => s.keyImport slot (s.get KEY_CMD_aux) (s.get KEY_CMD_kind) (s.flag KEY_CMD_class) (s.flag KEY_CMD_persist)
  | 3 => s.keyZeroise slot
  | 4 => s.rotateNs slot (s.get KEY_CMD_aux) (s.flag KEY_CMD_zap_old)
  | 5 => s.keyZeroiseAll
  | _ => s

/-- FWD_CMD (R383). -/
def State.fwdCmd (s : State) (v : Nat) : State :=
  let t := v / 64 % 2
  match v / 2 ^ 16 % 256 with
  | 1 => s.fwdCmdInsert t
  | 2 => s.fwdCmdDelete t
  | 3 => s.fwdCmdLookup t
  | 4 => s.fwdCmdFlush t (v % 64)
  | 5 => s.fwdCmdRehash t
  | _ => s

/-- REB_CMD (R298). -/
def State.rebCmd (s : State) (v : Nat) : State :=
  match v / 2 ^ 8 % 256 with
  | 1 => s.rebFail (v % 32)
  | 2 => s.rebAdopt (v % 32)
  | 3 => s.rebPause
  | 4 => s.rebResume
  | 5 => s.createPool
  | _ => s

/-- SLC_CMD (R404, R424): the logging commands come from the local function only. -/
def State.slcCmd (s : State) (v : Nat) (bar0 : Bool) : State :=
  let n := v % 1024
  match v / 2 ^ 16 % 256 with
  | 1 => s.slcCreate n (fbit v 14)
  | 2 => s.slcDestroy n
  | 3 => s.slcResize n
  | 4 => if fbit v 15 then s.slcResetSquash n else s.slcResetDrain n
  | 5 => s.slcPause n
  | 6 => s.slcResume n
  | 7 => if bar0 then s.logStart n else s
  | 8 => if bar0 then s.logSync n true else s
  | 9 => if bar0 then s.logSync n false else s
  | 10 => s.slcSave n
  | 11 => s.slcRestore n
  | _ => s

/-- PAIR_CMD (R335, R336, R344). -/
def State.pairCmd (s : State) (v : Nat) : State :=
  match v / 2 ^ 16 % 256 with
  | 1 => s.moveNs (v % 4096)
  | 2 => s.movesStart s.returnable
  | 3 => s.yieldCmd
  | 4 => s.takeoverCmd
  | _ => s

/-- SLT_CMD (R463, R464): ops 1 to 5. -/
def State.sltWrite (s : State) (v : Nat) : State :=
  let op := v / 2 ^ 16 % 256
  if op = 0 || decide (5 < op) then s else s.sltCmd (v % 32) op

/-! ## Registers whose writes do more than store -/

/-- A slice's buckets at the change of its shape (R411): tokens held are kept, clipped to the new burst. -/
def State.shapeSet (s old : State) (n : Nat) : State :=
  let x := old.sliceShape n
  let s := { s with slc := { s.slc with shape := tput s.slc.shape n { x with last := s.dtc } } }
  { s with slc := { s.slc with shape := tput s.slc.shape n (s.sliceShape n) } }

/-- The word of a register element that a write leaves in its stored fields: what is not written keeps its value; bits that a write
of 1 clears count only where they are written. -/
def State.partWord (s : State) (p : RegPart) (v : Nat) : Nat :=
  let l := s.liveFields p.d.base p.i
  p.merge ((p.d.fields.map fun (f : Fld) =>
    (match f.acc with
     | .rw1c => 0
     | .rw1cAll => 0
     | _ => match l.find? fun (g, _) => g = f with | some (_, x) => x % 2 ^ f.w | none => s.get f p.i) * 2 ^ f.lo).sum) v

/-- HIF_CTRL and SLC_CTRL (R392, R409): writing en. -/
def State.ctrlEn (s : State) (o : QOwner) (on : Bool) : State :=
  match o with
  | .slice n => if on then s.sliceEnable n else s.sliceDisable n
  | _ => if on then s.hifEnable else s.hifDisable

/-- The effect of a part of a write (R14) where storing its fields is not all of it; none where it is. -/
def State.partEffect (s : State) (path : AccessPath) (p : RegPart) (v : Nat) : Option State :=
  let b := p.d.base
  let i := p.i
  let w := s.partWord p v
  if b = GLB_CTRL_warm.reg then some (s.glbCtrl w (match path with | .service _ => true | _ => false))
  else if b = EVT_LAST_FATAL_code.reg then
    some { s with evt := { s.evt with lastFatal := some (w / 2 ^ 48, w % 2 ^ 48) } }
  else if b = EVT_RING_CFG_en.reg then some (s.ringCfg i w)
  else if b = EVT_RING_PTR_head.reg then
    let s := if p.hits EVT_RING_PTR_head then s.ringHead i w else s
    some (if fbit w 63 then s.ringResume i else s)
  else if b = CTR_TGT_CFG_en.reg then some (s.tgtCfg i w)
  else if b = CTR_VAL_value.reg then some (s.ctrWrite i w 0)
  else if b = CTR_CTL_level.reg then some ((s.partStore p v false).levelSet i (s.get CTR_CTL_level i))
  else if b = CTR_ESEL_en.reg then some (s.eselWrite i w)
  else if b = TEL_CMD_unit.reg then some (s.telCapture (w % 1024) (fbit w 16))
  else if b = TEL_UNIT_CFG_src.reg then some (s.telCfg i w)
  else if b = SLT_CMD_op.reg then some (s.sltWrite w)
  else if b = BOOT_CMD_op.reg then some (s.bootCmd (w / 2 ^ 16 % 256))
  else if b = KEY_CMD_op.reg then
    let s := s.partStore p v false
    some (if p.hits KEY_CMD_op then s.keyCmd else s)
  else if b = KEY_EP_PROT_eid.reg then some (s.epWrite i (w / 2 ^ 32) (w / 2 ^ 26 % 64) (w % 2 ^ 16))
  else if b = FWD_CMD_op.reg then some (s.fwdCmd w)
  else if b = TMS_TENANT_CFG_class.reg || b = TMS_POL_RATE_cir.reg || b = TMS_POL_BURST_cbs.reg then
    let t := s.partStore p v false
    some ((if b = TMS_TENANT_CFG_class.reg && i = 4093 then t.set TMS_TENANT_CFG_class i 7 else t).policerSet s i)
  else if b = REB_CMD_op.reg then some (s.rebCmd w)
  else if b = HIF_CTRL_en.reg then some (s.ctrlEn .fn (fbit w 0))
  else if b = HIF_INT_MASK_mask.reg then some (s.intMask w)
  else if b = HIF_PEER_COMMIT_commit.reg then some (if fbit w 0 then s.peerCommit else s)
  else if b = SLC_CMD_op.reg then some (s.slcCmd w (path = .bar0))
  else if b = SLC_SHAPE_max_rate.reg then some ((s.partStore p v false).shapeSet s i)
  else if decide (SLC_CTRL_en.reg ≤ b) && decide (b ≤ SLC_ACQ_base.reg) then
    if s.get SLC_STATUS_state i = 0 then some s
    else if b = SLC_CTRL_en.reg then some (s.ctrlEn (.slice i) (fbit w 0)) else none
  else if b = PAIR_CMD_op.reg then some (s.pairCmd w)
  else none

/-- A part of a write from a path. -/
def State.partWrite (s : State) (path : AccessPath) (p : RegPart) (v : Nat) : State :=
  match s.partEffect path p v with
  | some s => s
  | none => s.partStore p v (path = .core)

/-! ## Paths and rights (R404, R533) -/

/-- The registers of the command row of R533. -/
def commandRegs : List Nat :=
  [KEY_CMD_op.reg, KEY_DATA_data.reg, REB_CMD_op.reg, PAIR_CMD_op.reg, SLT_CMD_op.reg, SLC_CMD_op.reg, SLC_CMD_DATA_data.reg,
   FWD_CMD_op.reg, FWD_CMD_DATA_data.reg, BOOT_CMD_op.reg]

/-- Whether an EID may make an access through service 0x0002 (R533). -/
def State.serviceMay (s : State) (e : Eid) (write : Bool) (l : List RegPart) : Bool :=
  let r := s.mgmtRights e
  let one (p : RegPart) : Bool :=
    if if write then commandRegs.contains p.d.base else p.d.base = KEY_DATA_data.reg then fbit r 2
    else fbit r 1 || (write && ((p.d.base = EVT_RING_PTR_head.reg && (s.ringsOf e).contains p.i) ||
      (p.d.base = CTR_TGT_PTR_head.reg && (s.targetsOf e).contains p.i)))
  if l.isEmpty then fbit r 1 else l.all one

/-- Whether a path may make an access (R404, R533): a slice only the controller group that E1 presents. -/
def State.pathMay (s : State) (path : AccessPath) (write : Bool) (l : List RegPart) : Bool :=
  match path with
  | .core => true
  | .bar0 => true
  | .service e => s.serviceMay e write l
  | .slice n => s.slc.e1 = some n && !l.isEmpty &&
      l.all fun p => decide (SLC_CTRL_en.reg ≤ p.d.base) && decide (p.d.base ≤ SLC_ACQ_base.reg) && p.i = n

/-- Whether an access is of 32 or 64 bits and aligned (R12, R390, R537). -/
def accessOk (a width : Nat) : Bool := (width = 4 || width = 8) && a % width = 0

/-- The outcome of an access: 0 done, 1 right missing, 2 not aligned or of another width (R537). -/
def State.accessCode (s : State) (path : AccessPath) (write : Bool) (a width : Nat) : Nat :=
  if !accessOk a width then 2 else if !s.pathMay path write (regParts a width) then 1 else 0

/-- An access refused for want of a right is counted (GLB_STATUS.mgmt_denied). -/
def State.denied (s : State) (path : AccessPath) : State :=
  match path with | .service _ => s.addSat GLB_STATUS_mgmt_denied 0 1 | _ => s

/-- A register write from a path (R12 to R14, R533): its parts in order of address. -/
def State.regWrite (s : State) (path : AccessPath) (a width v : Nat) : State :=
  match s.accessCode path true a width with
  | 0 => s.each (regParts a width) fun s p => s.partWrite path p v
  | 1 => s.denied path
  | _ => s

/-! ## The register access service (R535 to R537) -/

/-- One entry executed: the value it carries in the reply, its estatus. -/
def State.mgmtEntry (s : State) (e : Eid) (a width kind v : Nat) : State × Nat × Nat :=
  let path := AccessPath.service e
  let code := if decide (1 < kind) then 2 else s.accessCode path (kind = 1) a width
  if code = 1 then (s.denied path, v, 1)
  else if code != 0 then (s, v, code)
  else if kind = 1 then (s.regWrite path a width (if width = 4 then v % 2 ^ 32 else v), v, 0)
  else ((s.regRead a width).2, s.regPeek a width, 0)

/-- The entries of a message executed in order, with their places in the reply; after the first that fails none is executed (R536). -/
def State.mgmtEntries (s : State) (e : Eid) : List (List Byte) → Bool → List Byte → State × List Byte × Bool
  | [], bad, out => (s, out, bad)
  | x :: t, bad, out =>
    let head := x.take 6
    let v := beAt x 8 8
    if bad then s.mgmtEntries e t true (out ++ head ++ beBytes 1 3 ++ beBytes 1 0 ++ beBytes 8 v)
    else
      let (s, v, code) := s.mgmtEntry e (beAt x 0 4) (beAt x 4 1) (beAt x 5 1) v
      s.mgmtEntries e t (code != 0) (out ++ head ++ beBytes 1 code ++ beBytes 1 0 ++ beBytes 8 v)

/-- Whether a register access message is malformed (R537). -/
def mgmtMalformed (l : List Byte) : Bool :=
  let n := beAt l 2 2
  n = 0 || decide (64 < n) || l.length != 16 + 16 * n || beAt l 0 1 != 1 || beAt l 8 8 != 0 ||
    (chunksOf 16 (l.drop 16)).any fun x => beAt x 7 1 != 0

/-- MGMT_REGISTER_ACCESS (R536): the oldest message delivered to service 0x0002 is executed and answered. -/
def State.mgmtAccess (s : State) : State :=
  match s.hkt.mgmt with
  | [] => s
  | (src, dst, l) :: rest =>
    let s := { s with hkt := { s.hkt with mgmt := rest } }
    let reply (status n : Nat) : List Byte := beBytes 1 0x81 ++ beBytes 1 status ++ beBytes 2 n ++ beBytes 4 (beAt l 4 4) ++ beBytes 8 0
    if mgmtMalformed l then s.sendMsg dst src (.send 2 (reply 1 0)) false false 7 .mgmtReply
    else
      let (s, out, bad) := s.mgmtEntries src (chunksOf 16 (l.drop 16)) false []
      s.sendMsg dst src (.send 2 (reply (if bad then 4 else 0) (beAt l 2 2) ++ out)) false false 7 .mgmtReply

/-! ## The commands -/

/-- REGISTER_WRITE (R14): a write of a register from a path. -/
def execRegisterWrite (path : AccessPath) (a width v : Nat) (s : State) : Host.Outcome State Fault Refusal :=
  s.commit
    { parts := [.evt, .ctr, .tel, .hkt, .tms, .mac, .swc, .fwd, .qpe, .nsm, .key, .cip, .hif, .slc, .str, .jnl, .drv, .reb, .pair, .slt, .boot, .freeCtr, .outbox],
      blocks := allBlocks }
    (s.regWrite path a width v)

/-- A read of a register through BAR0: the value goes out, then the side effects (R14). -/
def State.readOut (s : State) (a width : Nat) : State :=
  let (v, t) := s.regRead a width
  t.send (.regValue a v)

/-- SWC_BUF_STATUS_READ (R364). -/
def execSwcBufStatusRead (s : State) : Host.Outcome State Fault Refusal :=
  s.commit { parts := [.outbox], fields := [SWC_BUF_STATUS_min_free] }
    (s.readOut SWC_BUF_STATUS_min_free.reg 8)

/-- PWR_BUS_STATUS_READ (R449). -/
def execPwrBusStatusRead (s : State) : Host.Outcome State Fault Refusal :=
  s.commit { parts := [.outbox], fields := [PWR_BUS_STATUS_vbus_min] }
    (s.readOut PWR_BUS_STATUS_vbus_min.reg 8)

/-- SLT_CH_AVG_READ (R467): of a channel. -/
def execSltChAvgRead (x : Nat) (s : State) : Host.Outcome State Fault Refusal :=
  s.commit { parts := [.outbox], fields := [SLT_CH_AVG_p_max_dw] }
    (s.readOut (SLT_CH_AVG_p_max_dw.reg + 8 * (x % 32)) 8)

/-- MGMT_REGISTER_ACCESS (R536). -/
def execMgmtRegisterAccess (s : State) : Host.Outcome State Fault Refusal :=
  s.commit
    { parts := [.evt, .ctr, .tel, .hkt, .tms, .mac, .swc, .fwd, .qpe, .nsm, .key, .cip, .hif, .slc, .str, .jnl, .drv, .reb, .pair, .slt, .boot, .freeCtr, .outbox],
      blocks := allBlocks }
    (s.mgmtAccess)

end Sys2Proof.Machine
end

