-- ==== Sys2Proof/Machine/PwrCore.lean ====
section
/-! DEFINITION. The energy store's figures and the dump budget that follows them (R252, R443, R444, R446). -/

namespace Sys2Proof.Machine

open F

/-- Usable energy in mJ of a string of `c` mF at `v` mV (R443). -/
def usableMj (c v : Nat) : Nat := 44 * c * (v * v - 36000000) / 100000000

/-- The usable energy in mJ; 0 when the store has failed (R446). -/
def State.energyMj (s : State) : Nat :=
  if s.get PWR_STORE_STATUS_state = 4 then 0 else usableMj (s.get PWR_STORE_STATUS_cap_mf) (s.get PWR_STORE_STATUS_vstore)

/-- E as PWR_STORE_STATUS reports it, and budget_slots after it (R252, R444). -/
def State.budgetSet (s : State) : State :=
  (s.set PWR_STORE_STATUS_e_j 0 (min (s.energyMj / 1000) 1023)).set JNL_NEVE_STATUS_budget_slots 0 (budgetSlots s.energyMj)

/-- Whether the store is below the dump's 105.3 J (R443, R444). -/
def State.storeShort (s : State) : Bool := decide (s.energyMj < 105300)

/-- A feed's state (R437): 0 absent, 1 qualifying, 2 good. -/
def State.feedState (s : State) (f : Nat) : Nat := s.get PWR_FEED_STATUS_state f

/-- Whether a feed is present: it carries the bus or can (R437, R438). -/
def State.feedThere (s : State) (f : Nat) : Bool := s.feedState f != 0

/-- Both feeds absent (R440). -/
def State.feedless (s : State) : Bool := !s.feedThere 0 && !s.feedThere 1

/-- Whether the contacts of a strap disagreed when they were read (R435). -/
def State.strapFault (s : State) : Bool :=
  let b := s.pwr.straps
  fbit b 0 != fbit b 1 || fbit b 2 != fbit b 3

/-- Whether front ports and pair links may come up (step 11 of R479): the module is out of boot, not held, its straps good. -/
def State.portsOpen (s : State) : Bool :=
  s.functionsOn && !s.strapFault

end Sys2Proof.Machine
end

