-- ==== Sys2Proof/Machine/Boot.lean ====
section
/-! DEFINITION. Resets (R15, R16, R435) and the first steps of the boot: the ROM's choice (R469), the loader and the configuration
(R478, R479), the key block's start (R183, R192 to R194). -/

namespace Sys2Proof.Machine

open F

/-! ## What a reset leaves (R15, R27) -/

/-- Register fields no reset acts on: what fuses give and the partner's alive line. -/
def keptReg (k : RKey) : Bool :=
  k.reg = GLB_SERIAL_serial.reg || (k.reg = GLB_IDENT_variant.reg && (k.bit = GLB_IDENT_variant.lo || k.bit = GLB_IDENT_die_rev.lo)) ||
    (k.reg = PAIR_STATUS_partner_alive.reg && k.bit = PAIR_STATUS_partner_alive.lo)

/-- What members hold of the pool once the module's own view of it is gone. -/
def State.mediaKept (s : State) : Media :=
  { s.jnl.media with held := if s.str.segs.isEmpty then s.jnl.media.held else s.str.segs.map fun (i, (g : Seg)) => (i, g.done, g.blocks) }

/-- The lowest sequence number not yet delivered (R509). -/
def State.evUndelivered (s : State) : Nat :=
  let l := (s.evt.buffer.map fun (e : EvRec) => e.seq) ++ (if s.evt.lostCount = 0 then [] else [s.evt.lostFirst])
  l.foldl min s.evt.nextSeq

/-- EVT_SEQ and the lowest sequence number not delivered, written to the vault (R509). -/
def State.evSave (s : State) : State := { s with evt := { s.evt with saved := some (s.evt.nextSeq, s.evUndelivered) } }

/-- How the run before ended (R492): never run, an outcome in the vault, a warm reset without a stop, or none found. -/
def State.runEnd (s : State) (warm : Bool) : Nat :=
  if s.boot.count = 0 then 0 else match s.boot.shutdown with | some v => v | none => if warm then 4 else 5

/-- What stays of the boot state: banks, fuses and vault. -/
def State.bootKept (s : State) (warm : Bool) : Boot :=
  { banks := s.boot.banks, owners := s.boot.owners, revoked := s.boot.revoked, fwMin := s.boot.fwMin, cfgMin := s.boot.cfgMin
    raised := s.boot.raised, lastRun := s.runEnd warm, count := s.boot.count, startAt := if warm then s.dtc else 0 }

/-- The state at a reset (R15, R27; kind 1 cold, 2 warm): the vault, the Rime log, RS registers, flash, fuses, members and what the
power hardware keeps stay (R449). -/
def State.resetCore (s : State) (kind : Nat) : State :=
  let warm := kind = 2
  let unsafe_ := decide (3 ≤ s.runEnd warm)
  { dtc := if warm then s.dtc else 0
    regs := regReset s.regs kind fun k => !keptReg k
    evt := { saved := s.evt.saved, ckpt := s.evt.ckpt, lastFatal := if warm then s.evt.lastFatal else none }
    mac := { optics := s.mac.optics }
    nsm := { unitsRd := s.nsm.unitsRd, unitsWr := s.nsm.unitsWr, hostRd := s.nsm.hostRd, hostWr := s.nsm.hostWr
             powerOn := s.nsm.powerOn + (if warm then 0 else s.dtc.toNat)
             cycles := s.nsm.cycles + (if warm then 0 else 1), unsafeSd := s.nsm.unsafeSd + (if unsafe_ then 1 else 0) }
    key := { vault := s.key.vault, kept := s.keptSlots }
    jnl := { media := s.mediaKept, dumps := s.jnl.dumps }
    reb := { saved := s.reb.saved }
    pair := { lastForm := s.pair.lastForm }
    boot := s.bootKept warm
    rime := { s.rime with spdm := [] }
    pwr := if warm then { s.pwr with target := none, testFrom := none } else {}
    freeCtr := s.freeCtr
    outbox := s.outbox
    pending := s.pending }

/-! ## The ROM (R469) -/

/-- A bank written bad where its image does not verify (R469). -/
def State.bankVerify (s : State) (i : Nat) : State :=
  let k := s.bank i
  if (k.state = 2 || k.state = 3) && !s.imageOk k.hash k.image then s.putBank i { k with state := 4 } else s

/-- The ROM's candidates of a state. -/
def State.banksIn (s : State) (st : Nat) : List Nat := [0, 1].filter fun i => (s.bank i).state = st

/-- A bank the ROM boots from. -/
def State.bankBoot (s : State) (i : Nat) (pend : Bool) : State :=
  { s.set BOOT_STATUS_running_bank 0 i with boot := { s.boot with chosen := if pend then 2 else 3 } }

/-- The confirmed bank of the highest generation. -/
def State.bestConfirmed (s : State) : Option Nat :=
  match s.banksIn 3 with
  | [] => none
  | i :: l => some (l.foldl (fun a b => if (s.bank a).gen < (s.bank b).gen then b else a) i)

/-- BOOT_ROM (R469): the bank it boots from, if any. -/
def State.romChoose (s : State) : State × Option Nat :=
  let s := (s.bankVerify 0).bankVerify 1
  let s := (s.set BOOT_STATUS_state_a 0 (s.bank 0).state).set BOOT_STATUS_state_b 0 (s.bank 1).state
  let top := match s.bestConfirmed with | some c => (s.bank c).gen + 1 | none => 0
  let fall (s : State) : State × Option Nat :=
    match s.bestConfirmed with
    | some c => (s.bankBoot c false, some c)
    | none => (s, none)
  match (s.banksIn 2).filter fun i => decide (top ≤ (s.bank i).gen) with
  | [] => fall s
  | p :: _ =>
    let k := s.bank p
    if k.tries < 3 then ((s.putBank p { k with tries := k.tries + 1 }).bankBoot p true, some p)
    else fall { s.putBank p { k with state := 4 } with boot := { s.boot with banks := tput s.boot.banks p { k with state := 4 }, fallback := true } }

/-- The module holds itself in reset after a failure (R435, R469, R494). -/
def State.bootHold (s : State) : State :=
  let s := s.set BOOT_STATUS_stage 0 0xA
  { s with boot := { s.boot with held := true, failed := true }, jnl := { s.jnl with phase := .held } }

/-! ## The configuration (R474, R478) -/

/-- Whether a field takes a write before the lock. -/
def writable (f : Fld) : Bool := match f.acc with | .rw => true | .rw1c => true | .rw1cAll => true | .rwl => true | .rs => true | _ => false

/-- The bits of a register that some field has. -/
def RegDef.used (d : RegDef) : Nat := (d.fields.map fun (f : Fld) => (2 ^ f.w - 1) * 2 ^ f.lo).sum

/-- Whether a part of a REGS entry is a register to write whose reserved bits the value leaves 0 (R478). -/
def RegPart.settable (p : RegPart) (v : Nat) : Bool :=
  (p.d.fields.any fun (f : Fld) => p.hits f && writable f) && clearBits (p.merge 0 v) p.d.used = 0

/-- Whether a REGS entry is applied (R478): inside the 24 blocks, aligned, assigned, to a register it may write. -/
def regsOk (a flags v : Nat) : Bool :=
  let w := if flags % 2 = 1 then 8 else 4
  let l := regParts a w
  decide (flags < 2) && a % w = 0 && decide (a + w ≤ 0x1800000) && !l.isEmpty && l.all fun p => p.settable v

/-- Whether an entry enables a port the variant lacks (R5). -/
def State.enablesAbsent (s : State) (a w v : Nat) : Bool :=
  (regParts a w).any fun p => p.d.base = MAC_PORT_CFG_en.reg && s.absentReg p.d.base p.i && p.hits MAC_PORT_CFG_en &&
    fbit (p.merge 0 v) MAC_PORT_CFG_en.lo

/-- The entries of REGS applied in order (R478). -/
def State.applyRegs (s : State) (l : List Byte) : State :=
  let es := chunksOf 16 l
  let absent := es.any fun x => regsOk (leAt x 0 4) (leAt x 4 4) (leAt x 8 (if leAt x 4 4 = 1 then 8 else 4)) &&
    s.enablesAbsent (leAt x 0 4) (if leAt x 4 4 = 1 then 8 else 4) (leAt x 8 (if leAt x 4 4 = 1 then 8 else 4))
  let s := s.each es.zipIdx fun s ((x : List Byte), i) =>
    let a := leAt x 0 4
    let w := if leAt x 4 4 % 2 = 1 then 8 else 4
    let v := leAt x 8 w
    if x.length = 16 && regsOk a (leAt x 4 4) v then s.each (regParts a w) fun s p => s.partWrite .core p v
    else s.raise EV_CFG_BAD_ENTRY 0 i
  if absent then s.raise EV_CFG_PORT_ABSENT 0 0 else s

/-- The PCIe identity table (R388): values outside a range act as the nearest bound. -/
def idTable (b : List Byte) : IdTable :=
  let f := leAt b 3 1
  let bar := leAt b 26 1
  { portMode := if leAt b 2 1 = 1 then 1 else 0, sris := fbit f 0, atsEn := fbit f 1, pasidEn := fbit f 2, doeEn := fbit f 3
    vid := leAt b 4 2, ssvid := leAt b 8 2, ssid := leAt b 10 2, rev := leAt b 12 1, didE0 := leAt b 6 2, classE0 := leAt b 13 3
    didE1 := leAt b 16 2, classE1 := leAt b 18 3, maxSpeed := clampNat 4 6 (leAt b 21 1), msixE0 := clampNat 1 2048 (leAt b 22 2)
    msixE1 := clampNat 1 256 (leAt b 24 2), bar4Log2 := if bar = 0 then 0 else clampNat 20 36 bar, e1Slice := min (leAt b 28 2) 1023 }

/-- MGMT_AUTH (R474). -/
def mgmtAuth (b : List Byte) : List MgmtAuth :=
  (chunksOf 8 (slice b 4 (8 * min (leAt b 0 4) 64))).map fun x =>
    ⟨BitVec.ofNat 32 (leAt x 0 4), clampNat 1 32 (leAt x 4 1), leAt x 5 1⟩

/-- JUMBO (R45, R472): the union of the valid ranges. -/
def jumboRanges (b : List Byte) : List (Eid × Eid) :=
  ((chunksOf 8 (b.take 512)).filter fun x => x.length = 8 && decide (leAt x 0 4 ≤ leAt x 4 4)).map fun x =>
    (BitVec.ofNat 32 (leAt x 0 4), BitVec.ofNat 32 (leAt x 4 4))

/-- FWD_STATIC inserted under R383; an entry that is invalid or finds no room is skipped (R487). -/
def State.applyStatic (s : State) (b : List Byte) : State :=
  s.each (chunksOf 16 b).zipIdx fun s ((x : List Byte), i) =>
    let e := BitVec.ofNat 128 (leAt x 0 16)
    let t := if eKind e = 4 then 1 else 0
    if x.length = 16 && fwdValid t e then
      match s.fwdInsert t e with
      | (_, .full) => s.raise EV_CFG_BAD_ENTRY 0 i
      | (s, _) => s
    else s.raise EV_CFG_BAD_ENTRY 0 i

/-- Whether an entry of REGS writes a field of a register element. -/
def regsSet (l : List Byte) (f : Fld) (i : Nat) : Bool :=
  (chunksOf 16 l).any fun x =>
    let w := if leAt x 4 4 % 2 = 1 then 8 else 4
    x.length = 16 && regsOk (leAt x 0 4) (leAt x 4 4) (leAt x 8 w) &&
      (regParts (leAt x 0 4) w).any fun p => p.d.base = f.reg && p.i = i && p.hits f

/-- 2 % of a port's rate in Mb/s, by the speed code of its cage mode (R4). -/
def shaperOf (speed : Option Nat) : Nat := match speed with | some 4 => 16000 | some 3 => 8000 | some 2 => 4000 | _ => 0

/-- The shapers of class 7 set as the configuration is locked (R99), where REGS gives no value (assumption log 102). -/
def State.shapersSet (s : State) (regs : List Byte) : State :=
  s.each (List.range 34) fun s p =>
    let e := ix2 8 p 7
    if regsSet regs TMS_CLASS_CFG_max_rate e || s.absentReg TMS_CLASS_CFG_max_rate.reg e then s
    else s.set TMS_CLASS_CFG_max_rate e (shaperOf (s.cageSpeed p))

/-- The sections other than REGS, and config lock (R478, R538). -/
def State.applySections (s : State) (b : List Byte) : State :=
  let id := imgSec b 0x10
  let t := idTable (imgSec b 0x12)
  let s := s.set GLB_IDENT_module_id 0 (leAt id 0 2 % 2 ^ 14)
  let s := { s with
    boot := { s.boot with console := fbit (leAt id 2 2) 0 }
    nsm := { s.nsm with auth := mgmtAuth (imgSec b 0x13) }
    hkt := { s.hkt with jumbo := jumboRanges (imgSec b 0x14) }
    hif := { s.hif with idt := t }
    slc := { s.slc with e1 := if t.portMode = 1 then some t.e1Slice else none } }
  let s := ((s.set HIF_LINK_STATUS_present 0 1).set HIF_LINK_STATUS_present 1 t.portMode).e1Defaults
  let s := (s.applyStatic (imgSec b 0x15)).shapersSet (imgSec b 0x11)
  (s.set GLB_STATUS_cfg_lock 0 1).set BOOT_STATUS_locked 0 1

/-- Step 4 of R479: the straps shown, firmware on all cores, the configuration applied and locked. -/
def State.loaderRun (s : State) : State :=
  let b := s.runImage
  let bay := fbit s.pwr.straps 0
  let ps := !fbit s.pwr.straps 2
  let s := (((s.set DRV_CFG_bay 0 (bit bay)).set DRV_CFG_pair_shelf 0 (bit ps)).set GLB_IDENT_bay 0 (bit bay)).set GLB_IDENT_pair_shelf 0 (bit ps)
  let s := { s with boot := { s.boot with core := b, proto := imgProto b } }
  let s := (s.measureBoot.set BOOT_FW_STATUS_fw_version 0 (imgVersion b)).coresRun true
  let s := if s.boot.fallback then s.raise EV_BOOT_BANK_FALLBACK 0 0 else s
  (s.applyRegs (imgSec b 0x11)).applySections b

/-! ## Keys (R183, R192 to R194) -/

/-- A slot restored from the first of its vault records that unwraps (R183), bound as it was. -/
def State.restoreSlot (s : State) (n : Nat) : State :=
  match ((tget s.key.vault (0, n)).bind vaultSlot).or ((tget s.key.vault (1, n)).bind vaultSlot) with
  | some k => s.putShares n { k with bind := ((tget s.key.kept n).map (·.bind)).getD .none } k.value
  | none => s

/-- A slot that stays recorded without its key: ZEROISED as it was, else AWAITING with EV_KEY_SLOT_MISSING; a GCM slot that no KEY_EP_PROT
entry names any more is EMPTY (R179, R183). -/
def State.awaitSlot (s : State) (n : Nat) (k : KeySlot) : State :=
  if (tget s.key.slots n).isSome || !s.keyBound n k then s
  else if k.state = .zeroised then s.putBare n k
  else (s.putBare n { k with state := .awaiting }).raise EV_KEY_SLOT_MISSING 0xD n

/-- The slots as the KEY block restores them (R183), and what KEY_EP_PROT entries of the configuration name (R186). -/
def State.restoreSlots (s : State) : State :=
  let s := s.each (s.key.vault.map fun (c, _) => c.2).dedup State.restoreSlot
  let s := s.each s.key.kept fun s (n, k) => s.awaitSlot n k
  let s := s.each (s.key.prev.map (·.1)) State.epKindCheck
  { s with key := { s.key with kept := [], prev := [] } }

/-- The startup tests of the noise source and the DRBG's first seed (R190, R191, R194): once more on other samples where they fail. -/
def State.noiseStart (s : State) (b : BootIn) : State :=
  let l := if noiseFails b.noise then b.again else b.noise
  let s := { s with key := { s.key with retried := noiseFails b.noise } }
  if noiseFails l then s.keyFail EV_KEY_DRBG_FAIL else (s.reseed (noiseBytes l)).set KEY_STATUS_state 0 1

/-- The KEY block's tests (R192 to R194), then its slots (R183). -/
def State.keyStart (s : State) (b : BootIn) : State :=
  let fail := (b.lanes.filter fun l => decide (l < 48)).dedup
  let s := { s with cip := { s.cip with failed := fail } }
  let s := s.each fail fun s l => s.raise EV_CIP_LANE_FAILED 8 l
  let s := if b.selfTest = 0 then s.noiseStart b else s.keyFail EV_KEY_SELFTEST_FAIL
  s.restoreSlots

/-! ## Events at boot (R509) -/

/-- The EV_LOST of a restart: scope 2, with the upper bound flag. -/
def restartLost (dtc : Word64) (seq lo hi : Nat) (bound : Bool) : EvRec :=
  ⟨seq, dtc, EV_LOST.code, EV_LOST.sev, false, false, 0, 0, hi - lo, 0, (ts32 dtc).toNat,
    [lo % 2 ^ 32, lo / 2 ^ 32, (hi - 1) % 2 ^ 32, (hi - 1) / 2 ^ 32, 2, bit bound], []⟩

/-- Sequence numbering resumes (R509). -/
def State.evResume (s : State) : State :=
  let (next, lo, bound) : Nat × Nat × Bool := match s.evt.saved with
    | some (n, l) => (n, l, false)
    | none => if s.boot.count = 0 then (0, 0, false) else (s.evt.ckpt.getD 0 + 65536, s.evt.ckpt.getD 0, true)
  let s := { s with evt := { s.evt with nextSeq := next, saved := none } }
  if next ≤ lo then s
  else
    let p := evPush s.regs (s.evt, s.ctr) (restartLost s.dtc next lo next bound)
    { s with evt := p.1, ctr := p.2 }

/-! ## The boot to step 5 (R479) -/

/-- The slots this module drives from step 5 on (R323, R464, R479): its half of a pair shelf, less what the partner has adopted. -/
def State.slotsOwn (s : State) (adopted : List Nat) : State :=
  let s := { s with slt := { s.slt with enabled := true } }
  s.each (List.range 32) fun s x =>
    let mine := !s.pairShelf || (decide (16 ≤ x) = s.bayB && !adopted.contains x)
    s.set SLT_CH_STATUS_owner x (bit mine)

/-- Whether this module's ID has the parity of its bay, and its bay is one a shelf of its kind has (R317). -/
def State.bayFits (s : State) : Bool := s.moduleId % 2 = bit s.bayB && (s.pairShelf || !s.bayB)

/-- Step 5 of R479 and the checks that follow from the straps (R317, R435). -/
def State.bootKeys (s : State) (b : BootIn) : State :=
  let s := ((s.keyStart b).budgetSet).slotsOwn b.adopted
  let s := s.set JNL_NEVE_STATUS_pair_state 0 (if s.pairShelf then 2 else 0)
  let s := if s.strapFault then { s.raise EV_GLB_STRAP_FAULT 0 0 with pair := { s.pair with conflict := true } } else s
  if s.bayFits then s else { s.raise EV_PAIR_BAY_CONFLICT 0 0 with pair := { s.pair with conflict := true } }

/-- The seeds of the forwarding tables at a reset: DRBG output (R383's FWD_SEED), from samples that nothing outside gives, since the KEY
block takes its own first seed only at step 5 (assumption log 103). -/
def State.seedsDraw (s : State) : State :=
  let (b, s) := s.freeNoise
  let l := (drbgGenerate (drbgSeed drbgZero b) 2).1
  s.each (List.range 4) fun s j => (s.set FWD_SEED_seed1 j (beAt l (8 * j) 4)).set FWD_SEED_seed2 j (beAt l (8 * j + 4) 4)

/-- The boot from the ROM to step 5 (R479), with no time between its steps; a module without a usable image holds. -/
def State.bootRun (s : State) (b : BootIn) : State :=
  let s := (s.fuseStatus.set CLK_STATUS_pll_lock 0 1).set CLK_STATUS_ref_ok 0 (bit !s.pwr.refBad)
  let s := (s.set CLK_STATUS_holdover 0 (bit s.pwr.refBad)).seedsDraw
  match s.romChoose with
  | (s, none) => s.bootHold
  | (s, some _) =>
    let s := s.evResume
    let s := { s with boot := { s.boot with count := s.boot.count + 1 } }
    (s.loaderRun.bootKeys b).set BOOT_STATUS_stage 0 3

/-! ## Resets as operations -/

/-- A warm reset (R15, R509, R543): EVT_SEQ to the vault, the reset, its cause, the boot. -/
def State.warmReset (s : State) (cause : Nat) (b : BootIn) : State :=
  let s := s.evSave.resetCore 2
  s.sameMem (((s.set CLK_RESET_CAUSE_kind 0 1).set CLK_RESET_CAUSE_cause 0 cause).bootRun b)

/-- A cold reset (R15, R27, R428, R437): power lost and returned with a feed good, the module seated in a shelf with these straps, its
flash holding these banks where they are given. -/
def State.coldReset (s : State) (straps feed : Nat) (banks : List (Nat × Bank)) (b : BootIn) : State :=
  let s := s.resetCore 1
  let s := { s with
    pwr := { s.pwr with straps := straps % 16, seated := true, last := some (feed % 2), goodAt := [(feed % 2, s.dtc)] }
    boot := { s.boot with banks := banks.foldl (fun t (i, k) => tput t (i % 2) k) s.boot.banks } }
  let s := (s.set PWR_FEED_STATUS_state (feed % 2) 2).set PWR_FEED_STATUS_active (feed % 2) 1
  let s := s.sameMem ((s.set PWR_BUS_STATUS_source 0 (feed % 2)).bootRun b)
  if s.boot.held then s else s.raise EV_PWR_FEED_GOOD 0xC (feed % 2)

/-! ## The commands -/

/-- COLD_RESET (R15). -/
def execColdReset (straps feed : Nat) (banks : List (Nat × Bank)) (b : BootIn) (s : State) : Host.Outcome State Fault Refusal :=
  s.commit { parts := allParts, blocks := allBlocks }
    (s.coldReset straps feed banks b)

/-- WARM_RESET (R15, R543): cause 1 to 8. -/
def execWarmReset (cause : Nat) (b : BootIn) (s : State) : Host.Outcome State Fault Refusal :=
  s.commit { parts := allParts, blocks := allBlocks }
    (s.warmReset cause b)

/-- BOOT_WATCHDOG (R470): a boot that has not come to serving enters warm reset; one that holds has no watchdog. -/
def execBootWatchdog (b : BootIn) (s : State) : Host.Outcome State Fault Refusal :=
  s.commit { parts := allParts, blocks := allBlocks }
    (if decide (s.get BOOT_STATUS_stage < 8) && !s.boot.held then s.warmReset 4 b else s)

end Sys2Proof.Machine
end

