-- ==== Sys2Proof/Machine/BootUp.lean ====
section
/-! DEFINITION. The boot from step 7 on (R479): labels (R274), the map rebuilt (R226), Névé replayed (R265 to R268, R480), the Rime
record, serving (R469, R142, R149); BOOT_CMD and the resets of GLB_CTRL (R481, R541, R542). -/

namespace Sys2Proof.Machine

open F

/-! ## Labels and the Crevasse image (R274, R291) -/

/-- The labels read at slots whose drives are ready, by slot; a label of another slot's member is foreign. -/
def State.bootLabels (s : State) : List (Nat × DriveLabel) :=
  (List.range 32).filterMap fun x =>
    if s.get DRV_PORT_STATUS_state x != 3 then none
    else ((s.port x).facts.bind poolLabel).bind fun l => if l.member = x then some (x, l) else none

/-- A member of the pool that is not live at start (R274): FAILED with cause 0x7, its slot off. -/
def State.labelFailed (s : State) (x : Nat) : State :=
  let s := ((s.set REB_MEMBER_state x 4).set REB_MEMBER_cause x 7).set REB_MEMBER_fail_time x (s.dtc.toNat / 2 ^ 24)
  (((s.slotTurnOff x 8).set STR_MEMBER_STATUS_live x 0).raise EV_REB_MEMBER_FAILED 2 x [7]).bump (ctrReb 6)

/-- The state of a slot as its label decides (R274): live, failed, or a candidate. -/
def State.labelSlot (s : State) (pool : DriveLabel) (ls : List (Nat × DriveLabel)) (x : Nat) : State :=
  if s.get DRV_PORT_STATUS_state x != 3 then s
  else
    match ls.find? fun (y, _) => y = x with
    | some (_, l) =>
      if l.poolId != pool.poolId then s.set REB_MEMBER_state x 1
      else if l.seq = pool.seq then (s.set REB_MEMBER_state x 3).set STR_MEMBER_STATUS_live x 1
      else s.labelFailed x
    | none => s.set REB_MEMBER_state x 1

/-- The Crevasse list of the vault, where it is of this pool, with its counts; else the map is to be walked (R291). -/
def State.crevLoad (s : State) : State :=
  match s.reb.saved with
  | some m =>
    if m.pool = s.str.poolId then
      let s := ({ s with reb := { s.reb with crev := m.list } }.set REB_CREV_STATUS_generation 0 m.gen).set REB_CREV_STATUS_entries 0 m.list.length
      (s.set REB_CREV_COUNT_lost_blocks 0 m.lost).set REB_CREV_COUNT_overflow 0 m.overflow
    else s.set REB_CREV_STATUS_scanning 0 1
  | none => s.set REB_CREV_STATUS_scanning 0 1

/-- Segments without margin that the queue holds at start (R278). -/
def State.zeroMargin (s : State) : State :=
  match s.rebQueue.find? fun (_, g) => s.segR g = 0 with
  | some (i, g) => s.raiseCo EV_REB_ZERO_MARGIN ((g.members.find? fun x => !s.live x).getD 0) 6 i
  | none => s

/-- BOOT_DRIVES_UP (R274, R479 step 7): the pool is that of the label with the highest label_seq; a module that serves no pool takes
none (R317, R435). -/
def State.drivesUp (s : State) : State :=
  if s.get BOOT_STATUS_stage != 3 || s.boot.held then s
  else
    let ls := s.bootLabels
    let s := { s with boot := { s.boot with drivesUp := true } }.set BOOT_STATUS_stage 0 4
    match if s.pair.conflict then none else newestLabel (ls.map (·.2)) with
    | none => s.each ((List.range 32).filter fun x => s.get DRV_PORT_STATUS_state x = 3) fun s x => s.set REB_MEMBER_state x 1
    | some p =>
      let lab := match s.jnl.media.label with | some m => if m.poolId = p.poolId && m.seq = p.seq then m else p | none => p
      let s := { s with
        str := { s.str with poolId := p.poolId, chunk128 := p.chunk128 }
        jnl := { s.jnl with media := { s.jnl.media with label := some lab } } }
      let s := s.each (List.range 32) fun s x => s.labelSlot p ls x
      s.crevLoad.membersChanged

/-! ## The map rebuilt (R226) -/

/-- The dumps whose copies replay may use (R265), newest first. -/
def State.candDumps (s : State) : List Dump :=
  let top := (s.jnl.dumps.filter fun (d : Dump) => !d.isSealed.isEmpty).foldl (fun m d => max m d.seq) 0
  let l := s.jnl.dumps.filter fun (d : Dump) => !(d.isSealed.isEmpty && d.torn.isEmpty) && d.poolId = s.str.poolId && d.bay = bit s.bayB &&
    !d.consumed && decide (top ≤ d.seq)
  l.foldl (fun acc d => (acc.takeWhile fun e => decide (d.seq < e.seq)) ++ d :: acc.dropWhile fun e => decide (d.seq < e.seq)) []

/-- The records on members that replay reaches from a seq on (R226): up to the first block that cannot be read or does not begin where the
one before ended. -/
def firnRun (bad : List (Nat × Nat)) (q : Nat) : List FirnRec → List FirnRec
  | [] => []
  | r :: t =>
    if r.seq != q || bad.any (fun (f, n) => decide (r.seq < f + n) && decide (f < r.seq + firnSpan r.body)) then []
    else r :: firnRun bad (r.seq + firnSpan r.body) t

/-- The seq after the last of a list of records. -/
def firnEnd (start : Nat) (l : List FirnRec) : Nat := l.foldl (fun m r => max m (r.seq + firnSpan r.body)) start

/-- The records R226 replays: those on members from replay_start to their end, then the tail of the newest dump. -/
def State.replayRecs (s : State) (m : Media) (start : Nat) : List FirnRec × List FirnRec :=
  let on := firnRun m.bad start (sortOn (·.seq) (m.firn.filter fun r => decide (start ≤ r.seq)))
  let tail := match s.candDumps with | d :: _ => d.tail.filter fun r => decide (firnEnd start on ≤ r.seq) | [] => []
  (on, tail)

/-- Whether members hold a Firn block with a seq at a label's ckpt_loc (R226). -/
def firnAt (m : Media) (loc q : Nat) : Bool :=
  ((tget m.held (loc / 65536)).bind fun (x : Nat × Table Nat SegBlk) => tget x.2 (loc % 65536)).any fun b => match b with
    | .md (.firn f n) => decide (f ≤ q) && decide (q < f + n)
    | _ => false

/-- The checkpoint of the newest valid label (R226): the one whose CHECKPOINT record lies at the label's ckpt_loc with its ckpt_seq. -/
def State.labelCkpt (s : State) (m : Media) : Option Checkpoint :=
  s.jnl.media.label.bind fun l =>
    if firnAt m l.ckptLoc l.ckptSeq then [m.ckpt, m.prev].findSome? fun c => c.filter fun c => c.seq = l.ckptSeq else none

/-- The seq of the record that changed which namespace holds a table index (R266). -/
def State.noteNs (s : State) (i q : Nat) : State := { s with jnl := { s.jnl with nsSeq := tput s.jnl.nsSeq i q } }

/-- An NS_META image replayed (R226), with the deletes that had been accepted (R142). -/
def State.replayImage (s : State) (q : Nat) (m : NsImage) : State :=
  match m with
  | .entry i n => (if (s.ns i).isNone then s.noteNs i q else s).applyImage (.entry i n)
  | .mgmtSeq a c r l => { s.applyImage (.mgmtSeq a c r l) with nsm := { (s.applyImage (.mgmtSeq a c r l)).nsm with dels := l } }
  | m => s.applyImage m

/-- A record's effect on the tables (R226), the map apart: segments, pages, namespaces, the replay table of namespaces (R266). -/
def State.replayTables (s : State) (r : FirnRec) : State :=
  match r.body with
  | .segState i (some g) => s.putSeg i g
  | .segState i none => { s with str := { s.str with segs := tdel s.str.segs i } }
  | .pagePut ns p seg off base _ =>
    let x := tgetD s.str.pages (ns, p) { cached := false }
    if decide (x.baseSeq < base) || x.loc.isNone then
      { s with str := { s.str with pages := tput s.str.pages (ns, p) { cached := false, loc := some (seg, off), baseSeq := base } } }
    else s
  | .nsMeta m => s.replayImage r.seq m
  | .nsGroup l => s.each l fun s m => s.replayImage r.seq m
  | .summaryPut i seg off => { s with str := { s.str with segs := tmod s.str.segs i fun g => { g with summary := some (seg, off) } } }
  | .nsDelete i nsid =>
    ({ s with nsm := { s.nsm with ns := tdel s.nsm.ns i }, str := { s.str with pages := s.str.pages.filter fun ((j, _), _) => j != i } }.noteNs i r.seq).crevErase nsid
  | .mapSet _ _ _ _ _ _ => s
  | .mapClear _ _ _ => s
  | .checkpoint .. => s

/-- Whether a map record acts on a block (R226): not before its page's base_seq, and of the namespace that now holds its index. -/
def State.replays (s : State) (dirs : Table (Nat × Nat) MapPage) (ns lba seq : Nat) : Bool :=
  decide ((match tget dirs (ns, pageOf lba) with | some x => x.baseSeq | none => 0) ≤ seq) &&
    (match tget s.jnl.nsSeq ns with | some q => decide (q ≤ seq) | none => true)

/-- A block's entry as replay leaves it. -/
def State.replayPut (s : State) (ns lba : Nat) (e : MapEnt) : State :=
  { s with str := { s.str with map := match e with
      | .unmapped => tdel s.str.map (ns, lba)
      | _ => tput s.str.map (ns, lba) e } }.pageDirty ns (pageOf lba)

/-- A record's effect on the map (R226). -/
def State.replayMap (s : State) (dirs : Table (Nat × Nat) MapPage) (r : FirnRec) : State :=
  match r.body with
  | .mapSet ns lba n seg off k => s.each (List.range n) fun s j =>
      if s.replays dirs ns (lba + j) r.seq then
        s.replayPut ns (lba + j) (if seg = 0xFFFFFF then .lost 0xFFFFFF 0 else .member k seg (off + j))
      else s
  | .mapClear ns lba n =>
    let l := s.str.map.filterMap fun ((i, a), _) => if i = ns && decide (lba ≤ a) && decide (a < lba + n) then some a else none
    s.each l fun s a => if s.replays dirs ns a r.seq then s.replayPut ns a .unmapped else s
  | _ => s

/-- The seq of the last map record that replay applied to a block, from `low` on (R266). -/
def State.lastMapSeq (s : State) (dirs : Table (Nat × Nat) MapPage) (rs : List FirnRec) (low ns lba : Nat) : Option Nat :=
  rs.foldl (fun m r =>
    let hit := match r.body with
      | .mapSet i a n _ _ _ => i = ns && decide (a ≤ lba) && decide (lba < a + n)
      | .mapClear i a n => i = ns && decide (a ≤ lba) && decide (lba < a + n)
      | _ => false
    if hit && decide (low ≤ r.seq) && s.replays dirs ns lba r.seq then some r.seq else m) none

/-- The replay table for the blocks of the dumps (R266). -/
def State.replayTable (s : State) (dirs : Table (Nat × Nat) MapPage) (rs : List FirnRec) : State :=
  let ds := s.candDumps
  let low := (ds.map fun d => d.minFirn).min?.getD 0
  let keys := (ds.flatMap fun d => d.entries.filterMap fun (_, (x : NeveSlot)) => x.desc.map fun e => (e.ns, e.lba)).dedup
  { s with jnl := { s.jnl with lastSeq := keys.filterMap fun (i, a) => (s.lastMapSeq dirs rs low i a).map fun q => ((i, a), q) } }

/-- Segments as members hold them: stripes done, blocks, live counts recomputed (R226, R227). -/
def State.replaySegs (s : State) (m : Media) : State :=
  let count (i : Nat) : Nat := (s.str.map.filter fun (_, e) => match e with | .member _ j _ => j = i | _ => false).length
  let segs := s.str.segs.map fun (i, (g : Seg)) =>
    let (dn, bl) := tgetD m.held i (g.done, g.blocks)
    (i, { g with done := dn, begun := dn, blocks := bl, live := if g.head = .meta_ then bl.length else count i })
  { s with str := { s.str with segs := segs } }

/-- A head goes on in its OPEN segment (R241); further OPEN ones are closed (R209). -/
def State.replayHeads (s : State) : State :=
  let mine (i : Nat) (g : Seg) : Bool := g.state = .isOpen && !g.closed && (!s.pairShelf || g.head = .meta_ || i % 2 = bit s.bayB)
  let l := (s.str.segs.filter fun (i, g) => mine i g).foldl (fun (t : Table HeadId Nat) (i, (g : Seg)) => tput t g.head i) []
  let s := { s with str := { s.str with heads := l } }
  let s := s.each (s.str.segs.filter fun (i, g) => mine i g && tget l g.head != some i) fun s (i, _) => s.closeSeg i
  s.each l fun s (h, i) => match h with | .host n => s.set STR_GROUP_STATUS_open_seg n i | _ => s

/-- A namespace's slot that the KEY block does not hold: it awaits import, with the check value kept with the binding (R182, R183). -/
def State.slotAwaited (s : State) (k : Nat) (assured : Bool) (check : Option Word64) : State :=
  if (tget s.key.slots k).isSome then s
  else (s.putBare k { kind := .xts, state := .awaiting, assured := assured, persist := false, key := 0, check := check.getD 0, known := check.isSome }).raise
    EV_KEY_SLOT_MISSING 0xD k

/-- The keys of the namespaces (R183): those no slot holds await import, and bindings follow the table, also of namespaces gone
since. -/
def State.nsKeys (s : State) : State :=
  let s := s.each s.nsm.ns fun s (_, n) =>
    let s := s.slotAwaited n.keySlot n.assured n.check
    match n.oldSlot with | some o => s.slotAwaited o n.assured n.oldCheck | none => s
  let bound := s.key.slots.filterMap fun (_, (k : KeySlot)) => match k.bind with | .ns i => some i | .retiring i => some i | .none => none
  s.each (s.nsm.ns.map (·.1) ++ bound).dedup State.rebind

/-- The members a segment names that are not live (R274): a candidate or an empty slot among them is FAILED. -/
def State.missingMembers (s : State) : State :=
  let l := (s.str.segs.flatMap fun (_, (g : Seg)) => g.members).dedup
  s.each (l.filter fun x => s.get REB_MEMBER_state x != 3 && s.get REB_MEMBER_state x != 4) State.labelFailed

/-- The pool unreadable (R287): the module serves none. -/
def State.poolUnreadable (s : State) : State :=
  { s with str := { s.str with poolId := 0 } }.raise EV_REB_POOL_UNREADABLE 0 0

/-- The map entries that page copies hold. -/
def mediaMap (l : Table (Nat × Nat) (Nat × List (Nat × MapEnt))) : Table (Nat × Nat) MapEnt :=
  l.flatMap fun x => x.2.2.map fun y => ((x.1.1, y.1), y.2)

/-- MAP_REBUILD_DONE (R226) from what members hold: what this module wrote there, or as found. -/
def State.mapRebuilt (s : State) (found : Option Media) (readable : Bool) : State :=
  if s.get BOOT_STATUS_stage != 4 then s
  else
    let m := found.getD s.jnl.media
    let s := s.set BOOT_STATUS_stage 0 5
    if s.str.poolId = 0 then s
    else
      match if readable then s.labelCkpt m else none with
      | none => s.poolUnreadable
      | some c =>
        let (on, tail) := s.replayRecs m c.replayStart
        let rs := on ++ tail
        let end_ := firnEnd c.replayStart on
        let next := max (c.seq + 1) (max (firnEnd end_ tail) (s.candDumps.foldl (fun q d => max q d.firnNext) 0))
        let s := { s with
          str := { s.str with segs := c.segs, pages := c.dirs.map fun (k, (x : MapPage)) => (k, { x with cached := false, dirty := false, reading := false }) }
          nsm := { s.nsm with ns := c.ns, recorded := c.mgmt.2.2, dels := c.dels }
          jnl := { s.jnl with media := { m with label := s.jnl.media.label }, tail := tail, drained := end_, nsSeq := [], named := c.named } }
        let s := s.each c.tenants fun s (t, a, b, e) => s.tenantSet t a b e
        let s := ((s.set GLB_MGMT_SEQ_last_accepted 0 c.mgmt.1).set GLB_MGMT_SEQ_last_completed 0 c.mgmt.2.1).set JNL_FIRN_SEQ_next_seq 0 next
        let s := s.each rs State.replayTables
        let dirs := s.str.pages
        let s := { s with str := { s.str with
            map := mediaMap (m.pages.filter fun (k, _) => (tget dirs k).isSome) } }
        let s := ((s.each rs fun s r => s.replayMap dirs r).replayTable dirs rs).replaySegs m
        (((s.replayHeads.nsKeys).missingMembers).membersChanged.rebCheck).zeroMargin

/-! ## Névé replayed (R265 to R268, R480) -/

/-- A kept entry (R266): slot, contents, its full firn_mark (R267), the partner's acked_seq in its dump. -/
structure Kept where
  idx  : Nat
  slot : NeveSlot
  desc : NeveDesc
  mark : Nat
  acked : Nat
  deriving DecidableEq, Repr

/-- The entries whose descriptors a readable block of some copy gives, newest dump first, each commit_seq of a bay once (R266); `bad` names
the slots whose descriptor blocks are unreadable in every copy. -/
def State.keptEntries (s : State) (bad : List Nat) : List Kept :=
  let all := s.candDumps.flatMap fun d => (d.entries.filter fun (i, _) => !bad.contains i).filterMap fun (i, (x : NeveSlot)) =>
    x.desc.map fun e => (⟨i, x, e, fullMark d.minFirn e.firnMark, d.acked⟩ : Kept)
  let once := all.foldl (fun (l : List Kept) (k : Kept) => if l.any fun j => j.desc.seq = k.desc.seq && j.slot.mirror = k.slot.mirror then l else l ++ [k]) []
  once.foldl (fun acc (k : Kept) =>
    (acc.takeWhile fun (j : Kept) => decide (j.desc.seq ≤ k.desc.seq)) ++ k :: acc.dropWhile fun (j : Kept) => decide (j.desc.seq ≤ k.desc.seq)) []

/-- How many entries the unreadable descriptor blocks held (R266): each commit_seq of a bay once. -/
def State.unknownEntries (s : State) (bad : List Nat) : Nat :=
  ((s.candDumps.flatMap fun d => (d.entries.filter fun (i, _) => bad.contains i).filterMap fun (_, (x : NeveSlot)) =>
    x.desc.map fun e => (e.seq, x.mirror)).dedup).length

/-- Whether an entry's namespace is gone or its index reused (R266). -/
def State.nsGone (s : State) (k : Kept) : Bool :=
  (match s.ns k.desc.ns with | some n => n.state != .active | none => true) ||
    (match tget s.jnl.nsSeq k.desc.ns with | some q => decide (k.mark ≤ q) | none => false)

/-- Whether the partner took an entry's namespace over while this module was away (R268). -/
def State.superseded (s : State) (e : NeveDesc) : Bool := s.pairShelf && (s.ns e.ns).any fun n => !s.owned n

/-- A deferred error of an entry's owner with cause 0x3 (R266, R268). -/
def State.replayDefer (s : State) (e : NeveDesc) : State :=
  match s.ns e.ns with
  | some n => s.deferError e.owner e.ns (nsidOf e.ns n) e.lba 1 3
  | none => s

/-- One own entry of the module replayed (R266, R268, R480). -/
def State.replayOwn (s : State) (l : List Kept) (noData : List Nat) (k : Kept) : State :=
  let e := k.desc
  if s.nsGone k then s
  else if s.superseded e then (if e.seq < k.acked then s else s.replayDefer e)
  else if (match tget s.jnl.lastSeq (e.ns, e.lba) with | some q => decide (k.mark ≤ q) | none => false) then s
  else if l.any fun (j : Kept) => !j.slot.mirror && j.desc.ns = e.ns && j.desc.lba = e.lba && decide (e.seq < j.desc.seq) then s
  else if noData.contains k.idx || !k.slot.dataOk then
    if s.pairShelf && decide (e.seq < k.acked) then { s with jnl := { s.jnl with awaiting := tput s.jnl.awaiting k.idx e } }
    else s.neveLose k.idx e 3
  else
    let x : NeveSlot := { state := .committed, desc := some e, data := k.slot.data }
    let s := { s with jnl := { s.jnl with slots := tput s.jnl.slots k.idx x, restored := k.idx :: s.jnl.restored } }
    s.mapPut e.ns e.lba (.neve e.kgen k.idx)

/-- One mirror entry: kept as a mirror copy (R268, R480) unless this module's entries are superseded or its data is gone. -/
def State.replayMirror (s : State) (gone : Bool) (noData : List Nat) (k : Kept) : State :=
  if gone || noData.contains k.idx || !k.slot.dataOk then s
  else
    let x : NeveSlot := { state := .committed, desc := some k.desc, mirror := true, data := k.slot.data }
    { s with jnl := { s.jnl with slots := tput s.jnl.slots k.idx x } }

/-- The outcome JNL_DUMP_STATUS reports of a dump (R268, R269). -/
def dumpOutcome (d : Dump) (gone : Bool) : Nat :=
  if gone then 5 else if d.isSealed.length = 2 then 2 else if d.isSealed.length = 1 then 3 else 4

/-- JNL_DUMP_STATUS of the dump replayed last, or of an empty orderly one. -/
def State.dumpStatus (s : State) (gone : Bool) : State :=
  let (d, out) : Option Dump × Nat := match s.candDumps with
    | d :: _ => (some d, dumpOutcome d gone)
    | [] => if s.boot.lastRun = 1 then (s.jnl.dumps.getLast?, 1) else (none, 0)
  match d with
  | none => s
  | some d =>
    let ms := (d.endDtc - d.startDtc).toNat / msTicks 1
    let s := ((s.set JNL_DUMP_STATUS_dump_seq_lo 0 (d.seq % 2 ^ 32)).set JNL_DUMP_STATUS_outcome 0 out).set JNL_DUMP_STATUS_cause 0 d.cause
    let s := s.set JNL_DUMP_STATUS_sealed 0 ((d.isSealed.map fun p => 2 ^ (2 * p + d.seq % 2)).sum)
    s.set JNL_DUMP_STATUS_dump_ms 0 (if d.isSealed.isEmpty then 0xFFFF else min ms 0xFFFE)

/-- Névé replay (R266): kept entries in commit_seq order, the counts of JNL_REPLAY_STATUS, events; a dump with nothing left to free is
consumed (R265), one superseded at once (R268). -/
def State.neveReplay (s : State) (noDesc noData : List Nat) : State :=
  let l := s.keptEntries noDesc
  let own := l.filter fun k => !k.slot.mirror
  let gone := own.any fun k => s.superseded k.desc
  let unknown := s.unknownEntries noDesc
  let errs := s.nsm.deferred.length
  let s := s.dumpStatus gone
  let torn := (s.candDumps.map fun d => d.torn.length).sum
  let s := s.set JNL_NEVE_SEQ_next_seq 0 (s.jnl.dumps.foldl (fun q (d : Dump) => if d.poolId = s.str.poolId then max q d.neveNext else q) 0)
  let s := s.each own fun s k => s.replayOwn own noData k
  let s := s.each (l.filter fun k => k.slot.mirror) fun s k => s.replayMirror gone noData k
  let s := s.each (List.range torn) fun s _ => s.raise EV_JNL_DUMP_TORN 0 0
  let s := if unknown = 0 then s else s.raise EV_JNL_REPLAY_LOSS 0 unknown
  let s := (s.set JNL_REPLAY_STATUS_restored 0 s.jnl.restored.length).set JNL_REPLAY_STATUS_deferred 0 (s.nsm.deferred.length - errs)
  let s := (s.set JNL_REPLAY_STATUS_unknown_lost 0 unknown).bump (ctrJnl 15) s.jnl.restored.length
  let done := gone || (s.jnl.restored.isEmpty && s.jnl.awaiting.isEmpty)
  let s := if done then { s with jnl := { s.jnl with dumps := s.jnl.dumps.map fun (d : Dump) => { d with consumed := true } } } else s
  (s.waterCheck).raise EV_JNL_REPLAY_DONE 0 0

/-- REPLAY_DONE (R266, R479 steps 9 and 10, R494, R495): Névé replayed, a torn newest record discarded, the record of the boot appended;
without it the module holds; with it its ports may come up, a pair forms, and members are written again (R480). -/
def State.replayDone (s : State) (noDesc noData : List Nat) (torn : Bool) (pkgs : Nat) : State :=
  if s.get BOOT_STATUS_stage != 5 then s
  else
    let s := if s.str.poolId = 0 then s else s.neveReplay noDesc noData
    let s := if torn then s.rimeDiscard else s
    let s := (s.set BOOT_RIME_STATUS_record_count 0 s.rime.records.length).set BOOT_RIME_SEQ_last_seq 0 (s.rime.nextSeq - 1)
    let s := s.rimeAppend 1 (torn && s.flag BOOT_RIME_STATUS_prior_torn) 0 0 pkgs
    let s := s.set BOOT_RIME_STATUS_boot_count 0 s.boot.count
    if pkgs % 4 = 0 then s.bootHold
    else
      let s := { s with boot := { s.boot with raised := false } }.set BOOT_STATUS_stage 0 7
      let s := ((s.mdDrain s.jnl.mdQueue.length).coldDrain).hifStart
      if s.pairShelf && !s.pair.conflict then s.set PAIR_STATUS_state 0 1 else s

/-! ## Serving (R142, R149, R469, R479) -/

/-- How many numbers from one on are those of accepted deletes. -/
def delRun (l : List (Word32 × List Nat)) (q : Word32) : Nat → Nat
  | 0 => 0
  | fuel + 1 => if l.any fun d => d.1 = q then 1 + delRun l (q + 1) fuel else 0

/-- Whether an accepted delete is this module's: none of its namespaces that are still there belongs to the partner (assumption log 108). -/
def State.ownDelete (s : State) (l : List Nat) : Bool := l.all fun i => (s.ns i).all s.owned

/-- The management commands that a reset cut short (R142): deletes go on under their own numbers, and answer as they end; the first other
command, and what was accepted after it, has not taken effect, and last_accepted goes back to before it. -/
def State.mgmtResume (s : State) : State :=
  let a := s.get GLB_MGMT_SEQ_last_accepted
  let c := s.get GLB_MGMT_SEQ_last_completed
  let l := s.nsm.dels.filter fun (_, l) => s.ownDelete l
  let n := delRun l (BitVec.ofNat 32 (c + 1)) l.length
  let s := { s with nsm := { s.nsm with dels := (List.range n).filterMap fun j => l.find? fun d => d.1 = BitVec.ofNat 32 (c + 1 + j) } }
  if a = c then s
  else
    let s := s.set GLB_MGMT_SEQ_last_accepted 0 ((c + n) % 2 ^ 32)
    (s.metaAppend 0 (.nsMeta s.mgmtImage)).mgmtGo

/-- BOOT_SERVING (R479 step 12): the module serves its namespaces, a pending bank is confirmed, a deletion resumes. -/
def State.serving (s : State) : State :=
  if s.get BOOT_STATUS_stage != 7 then s
  else
    let s := (s.set BOOT_STATUS_stage 0 8).set BOOT_STATUS_boot_ms 0 (s.since s.boot.startAt / msTicks 1)
    let s := s.raise EV_BOOT_SERVING 0 0
    let s := if (s.bank s.runBank).state = 2 then s.bankConfirm s.runBank else s
    let s := s.mgmtResume
    s.each (List.range (s.nsm.dels.length + 1)) fun s _ => s.each s.deleting State.nsDrained

/-! ## The commands -/

/-- BOOT_DRIVES_UP (R274, R479). -/
def execBootDrivesUp (s : State) : Host.Outcome State Fault Refusal :=
  s.commit
    { parts := [.evt, .ctr, .tms, .swc, .qpe, .nsm, .cip, .str, .jnl, .drv, .reb, .pair, .slt, .boot, .freeCtr,
        .outbox], fields := sltLive ++ qpeLive ++ strLive ++ drvLive ++ rebLive ++ firnSeq ++ [BOOT_STATUS_stage] }
    (s.drivesUp)

/-- MAP_REBUILD_DONE (R226). -/
def execMapRebuildDone (found : Option Media) (readable : Bool) (s : State) : Host.Outcome State Fault Refusal :=
  s.commit
    { parts := [.evt, .ctr, .tms, .swc, .qpe, .nsm, .key, .cip, .str, .jnl, .drv, .reb, .pair, .slt, .freeCtr,
        .outbox], fields := sltLive ++ tmsLive ++ qpeLive ++ strLive ++ drvLive ++ rebLive ++ firnSeq ++ mgmtSeq ++
        [BOOT_STATUS_stage] }
    (s.mapRebuilt found readable)

/-- REPLAY_DONE (R266). -/
def execReplayDone (noDesc noData : List Nat) (torn : Bool) (pkgs : Nat) (s : State) : Host.Outcome State Fault Refusal :=
  s.commit
    { parts := [.evt, .ctr, .tms, .qpe, .nsm, .str, .jnl, .reb, .pair, .boot, .rime, .outbox], fields := bootLive ++
        qpeLive ++ jnlLive ++ rebLive ++ [PAIR_STATUS_state, HIF_CTRL_STATUS_cfs, HIF_CTRL_STATUS_rdy,
        STR_GROUP_STATUS_k_cap, STR_GROUP_STATUS_open_seg, STR_POOL_STATUS_calve_level] }
    (s.replayDone noDesc noData torn pkgs)

/-- BOOT_SERVING (R479). -/
def execBootServing (s : State) : Host.Outcome State Fault Refusal :=
  s.commit
    { parts := [.evt, .ctr, .tms, .swc, .fwd, .qpe, .nsm, .key, .str, .jnl, .reb, .pair, .boot, .freeCtr, .outbox],
      fields := bootLive ++ qpeLive ++ cells ++ firnSeq ++ mgmtSeq ++ [REB_CREV_STATUS_entries, REB_CREV_STATUS_generation] }
    (s.serving)

/-- BOOT_STOP (R481). -/
def execBootStop (s : State) : Host.Outcome State Fault Refusal :=
  s.commit
    { parts := stopParts,
      fields := bootLive ++ qpeLive ++ cells ++ firnSeq ++ stopSeq ++ [GLB_MGMT_SEQ_last_completed, GLB_CORE_STATUS_beat, GLB_CORE_STATUS_state, MAC_PORT_STATUS_flaps, MAC_PORT_STATUS_speed, MAC_PORT_STATUS_up] }
    (s.bootCmd 1)

/-- BOOT_RESTART (R481). -/
def execBootRestart (s : State) : Host.Outcome State Fault Refusal :=
  s.commit
    { parts := stopParts,
      fields := bootLive ++ qpeLive ++ cells ++ firnSeq ++ stopSeq ++ [GLB_MGMT_SEQ_last_completed, GLB_CORE_STATUS_beat, GLB_CORE_STATUS_state, MAC_PORT_STATUS_flaps, MAC_PORT_STATUS_speed, MAC_PORT_STATUS_up] }
    (s.bootCmd 2)

/-- GLB_WARM (R541). -/
def execGlbWarm (s : State) : Host.Outcome State Fault Refusal :=
  s.commit
    { parts := stopParts,
      fields := bootLive ++ qpeLive ++ cells ++ firnSeq ++ stopSeq ++ [GLB_MGMT_SEQ_last_completed, GLB_CORE_STATUS_beat, GLB_CORE_STATUS_state, MAC_PORT_STATUS_flaps, MAC_PORT_STATUS_speed, MAC_PORT_STATUS_up] }
    (s.glbWarm)

/-- GLB_CORE_RESET (R542). -/
def execGlbCoreReset (s : State) : Host.Outcome State Fault Refusal :=
  s.commit
    { parts := [.evt, .ctr, .tms, .mac, .swc, .qpe, .nsm, .pair, .boot, .outbox],
      fields := qpeLive ++ cells ++ [GLB_CORE_STATUS_beat, GLB_CORE_STATUS_state, BOOT_STATUS_stage, BOOT_FW_STATUS_act_state, MAC_PORT_STATUS_flaps, MAC_PORT_STATUS_speed, MAC_PORT_STATUS_up] }
    (s.glbCoreReset)

end Sys2Proof.Machine
end

