-- ==== Sys2Proof/Machine/Stop.lean ====
section
/-! DEFINITION. Dumps and stops (R261 to R265, R269), the reference (R26), bus errors of the control cores (R22) and HBM errors (R30). -/

namespace Sys2Proof.Machine

open F

/-! ## The end of a dump or stop -/

/-- The module held in reset with SAFE lit (R262 step 9, R269, R435, R481). -/
def State.holdReset (s : State) : State :=
  let s := (s.set PWR_SEQ_STATUS_seq 0 3).set BOOT_STATUS_stage 0 0xA
  let s := if s.pairShelf then s.each (List.range 32) fun s x => s.set SLT_CH_STATUS_owner x 0 else s
  { s with jnl := { s.jnl with phase := .held }, boot := { s.boot with held := true }, pair := { s.pair with active := false } }

/-- Whether a held module starts again of itself (R261, R541), which takes a feed. -/
def State.restarts (s : State) : Bool := s.boot.after != 0 && !s.feedless

/-- The ORing switch of the last active feed, or of another that is there, closed again where none is (R438, R441). -/
def State.feedAgain (s : State) : State :=
  if s.flag PWR_FEED_STATUS_active 0 || s.flag PWR_FEED_STATUS_active 1 || s.pwr.target.isSome || s.feedless then s
  else
    let f := match s.pwr.last with | some f => if s.feedThere f then f else 1 - f | none => if s.feedThere 0 then 0 else 1
    ((s.set PWR_FEED_STATUS_active f 1).set PWR_BUS_STATUS_source 0 f).send (.oring (some f))

/-- A held module leaves its hold by a warm reset (R261, R428). -/
def State.leaveHold (s : State) (cause : Nat) (b : BootIn) : State :=
  ((s.sameMem s.feedAgain).set PWR_SEQ_STATUS_seq 0 0).warmReset cause b

/-- The shutdown outcome and EVT_SEQ written (R262 step 9, R492, R509), then the hold or the reset that follows. -/
def State.stopEnd (s : State) (outcome : Option Nat) (b : BootIn) : State :=
  let s := s.sameMem ({ s with boot := { s.boot with shutdown := outcome } } : State).evSave.holdReset
  if s.restarts then s.leaveHold s.boot.after b else s

/-- MIRROR_FLUSH_END (R262 steps 5 and 6): front ports, pair links and the local host port stop, then the writing begins. -/
def State.flushEnd (s : State) : State :=
  match s.jnl.phase with
  | .flushing _ _ => ((s.each (List.range 34) State.linkDown).each [0, 1] fun s e => s.set HIF_LINK_STATUS_up e 0).dumpWriting
  | _ => s

/-- DUMP_SEAL (R262 steps 7 to 9, R264): the dump is written to packages that hold it sealed or torn; `power` says whether the outcome could
still be written. -/
def State.dumpSeal (s : State) (sealed torn : List Nat) (power : Bool) (b : BootIn) : State :=
  match s.jnl.phase with
  | .writing c t =>
    let l := s.dumpEntries
    let pk (l : List Nat) : List Nat := (l.filter fun p => decide (p < 2)).dedup
    let ok := pk sealed
    let s := s.sameMem <| s.dumpPut c l t ok ((pk torn).filter fun p => !ok.contains p) (c = 3 && l.isEmpty && !ok.isEmpty)
    s.stopEnd (if power then some (if ok.isEmpty then 3 else if c = 3 && l.isEmpty then 1 else 2) else none) b
  | _ => s

/-- ORDERLY_STOP_DRAINED (R269 step 3): an empty dump of cause 0x3, consumed at once (R265). -/
def State.stopDone (s : State) (b : BootIn) : State :=
  match s.jnl.phase with
  | .stopping _ t =>
    if !s.stopDrained then s
    else
      let s := s.sameMem { s with jnl := { s.jnl with
          phase := .flushing 3 t, marks := (s.get JNL_NEVE_SEQ_next_seq, s.get JNL_FIRN_SEQ_next_seq) } }.flushEnd
      (s.dumpPut 3 [] t [0, 1] [] true).stopEnd (some 1) b
  | _ => s

/-- ORDERLY_STOP_TIMEOUT (R269): a stop that has not drained writes a full dump of cause 0x3. -/
def State.stopTimeout (s : State) : State := if (match s.jnl.phase with | .stopping _ _ => true | _ => false) then s.dumpBegin 3 s.boot.after else s

/-- DUMP_START (R261): the ride-through window has ended with no feed. -/
def State.rideEnd (s : State) : State :=
  if s.get PWR_SEQ_STATUS_seq != 1 || !s.feedless then s
  else s.dumpBegin 1 (match s.jnl.phase with | .stopping _ _ => s.boot.after | _ => 7)

/-! ## The reference (R26) -/

/-- REF_LOST (R26): holdover, a fatal event, the dump at once. -/
def State.refLost (s : State) (ppm : Nat) : State :=
  if s.pwr.refBad then s
  else
    let s := { s with pwr := { s.pwr with refBad := true } }
    let s := ((s.set CLK_STATUS_ref_ok 0 0).set CLK_STATUS_holdover 0 1).set CLK_STATUS_ref_ppm 0 ppm
    (s.raise EV_CLK_REF_LOST 0 0).dumpBegin 2 6

/-- REF_RETURN (R26). -/
def State.refReturn (s : State) (ppm : Nat) : State :=
  if !s.pwr.refBad then s
  else
    (({ s with pwr := { s.pwr with refBad := false } }.set CLK_STATUS_ref_ok 0 1).set CLK_STATUS_holdover 0 0).set CLK_STATUS_ref_ppm 0 ppm

/-! ## Cores and HBM (R22, R30) -/

/-- CORE_DATA_ACCESS (R22): a bus error to the core, the event, no change of data. -/
def State.coreDataAccess (s : State) (core : Nat) : State :=
  ((s.send (.busError (core % 16))).raise EV_GLB_CORE_DATA_ACCESS 0 (core % 16)).bump (ctrGlb 5)

/-- A Névé entry whose data is uncorrectable (R30, R256): fetched from the partner that holds a copy, else a deferred write error of its
owner (R130). -/
def State.neveBad (s : State) (i : Nat) : State :=
  match tget s.jnl.slots i with
  | none => s
  | some x =>
    match x.desc with
    | none => s
    | some d =>
      if s.pair.active && (x.mirror || (s.mirroring && decide (d.seq < s.get JNL_MIRROR_STATUS_acked_seq))) then
        (s.modSlot i fun x => { x with dataOk := false, fetching := true }).pairSend (.neveFetch i)
      else if x.mirror then { s with jnl := { s.jnl with slots := tdel s.jnl.slots i } }
      else s.neveLose i d 2

/-- HBM_UE (R30): an uncorrectable error at a byte offset of an area, handled by what the unit belongs to. -/
def State.hbmUe (s : State) (area off : Nat) (hit : HbmHit) : State :=
  let s := (s.raise EV_HBM_UE 0xE area [off % 2 ^ 32, off / 2 ^ 32]).bump (ctrGlb 4)
  match hit with
  | .none => s
  | .neve i => if area = 0 && neveInUnit off i then s.neveBad i else s
  | .page ns p =>
    if (tget s.str.pages (ns, p)).any fun x => x.cached then
      { s with str := { s.str with pages := tmod s.str.pages (ns, p) fun x => { x with cached := false } } }.pageMiss ns p
    else s
  | .read c b => s.blockLost c b
  | .stripe n => s.abandon n
  | .restore i => (s.restoreStop i).rebCheck
  | .peer a b => s.contextFail a b

/-! ## The commands -/

/-- CORE_DATA_ACCESS (R22). -/
def execCoreDataAccess (core : Nat) (s : State) : Host.Outcome State Fault Refusal :=
  s.commit { parts := [.evt, .ctr, .outbox] }
    (s.coreDataAccess core)

/-- REF_LOST (R26): with the offset measured. -/
def execRefLost (ppm : Nat) (s : State) : Host.Outcome State Fault Refusal :=
  s.commit
    { parts := haltParts,
      fields := bootLive ++ qpeLive ++ cells ++ firnSeq ++ stopSeq ++ [GLB_MGMT_SEQ_last_completed, GLB_CORE_STATUS_beat, GLB_CORE_STATUS_state, CLK_STATUS_holdover, CLK_STATUS_ref_ok, CLK_STATUS_ref_ppm, MAC_PORT_STATUS_flaps, MAC_PORT_STATUS_speed, MAC_PORT_STATUS_up] }
    (s.refLost ppm)

/-- REF_RETURN (R26). -/
def execRefReturn (ppm : Nat) (s : State) : Host.Outcome State Fault Refusal :=
  s.commit { parts := [.pwr], fields := [CLK_STATUS_holdover, CLK_STATUS_ref_ok, CLK_STATUS_ref_ppm] }
    (s.refReturn ppm)

/-- HBM_UE (R30). -/
def execHbmUe (area off : Nat) (hit : HbmHit) (s : State) : Host.Outcome State Fault Refusal :=
  s.commit
    { parts := [.evt, .ctr, .hkt, .tms, .swc, .qpe, .nsm, .cip, .str, .jnl, .drv, .reb, .pair, .freeCtr, .outbox],
        fields := qpeLive ++ rebLive ++ firnSeq ++ openSeg ++ [EVT_RING_PTR_stalled] }
    (s.hbmUe (area % 10) off hit)

/-- DUMP_START (R261). -/
def execDumpStart (s : State) : Host.Outcome State Fault Refusal :=
  s.commit
    { parts := stopParts,
      fields := bootLive ++ qpeLive ++ cells ++ firnSeq ++ stopSeq ++ [GLB_MGMT_SEQ_last_completed, GLB_CORE_STATUS_beat, GLB_CORE_STATUS_state, MAC_PORT_STATUS_flaps, MAC_PORT_STATUS_speed, MAC_PORT_STATUS_up] }
    (s.rideEnd)

/-- MIRROR_FLUSH_END (R262). -/
def execMirrorFlushEnd (s : State) : Host.Outcome State Fault Refusal :=
  s.commit
    { parts := [.evt, .ctr, .tms, .swc, .qpe, .nsm, .cip, .hif, .str, .jnl, .drv, .reb, .pair, .slt, .freeCtr,
        .outbox], fields := sltLive ++ qpeLive ++ drvLive ++ rebLive ++ firnSeq ++ openSeg ++ [MAC_PORT_STATUS_flaps,
        MAC_PORT_STATUS_speed, MAC_PORT_STATUS_up, HIF_LINK_STATUS_up] }
    (s.flushEnd)

/-- DUMP_SEAL (R262). -/
def execDumpSeal (sealed torn : List Nat) (power : Bool) (b : BootIn) (s : State) : Host.Outcome State Fault Refusal :=
  s.commit { parts := allParts, blocks := allBlocks }
    (s.dumpSeal sealed torn power b)

/-- ORDERLY_STOP_DRAINED (R269). -/
def execOrderlyStopDrained (b : BootIn) (s : State) : Host.Outcome State Fault Refusal :=
  s.commit { parts := allParts, blocks := allBlocks }
    (s.stopDone b)

/-- ORDERLY_STOP_TIMEOUT (R269). -/
def execOrderlyStopTimeout (s : State) : Host.Outcome State Fault Refusal :=
  s.commit
    { parts := stopParts,
      fields := bootLive ++ qpeLive ++ cells ++ firnSeq ++ stopSeq ++ [GLB_MGMT_SEQ_last_completed, GLB_CORE_STATUS_beat, GLB_CORE_STATUS_state, MAC_PORT_STATUS_flaps, MAC_PORT_STATUS_speed, MAC_PORT_STATUS_up] }
    (s.stopTimeout)

end Sys2Proof.Machine
end

