-- ==== Sys2Proof/Machine/Power.lean ====
section
/-! DEFINITION. Module hardware (chapter 16): seating and the service button (R428, R430), the feeds and their switches (R437 to R440), the
bus (R441), the energy store (R443 to R446), temperatures (R447, R448), optical modules (R549). -/

namespace Sys2Proof.Machine

open F

/-! ## Seating and the button (R428, R430) -/

/-- MODULE_SEATED (R428, R435): the straps are read; a module held after an unseating enters warm reset. -/
def State.seat (s : State) (straps : Nat) (b : BootIn) : State :=
  if s.pwr.seated then { s with pwr := { s.pwr with partSeat := false } }
  else
    let s := { s with pwr := { s.pwr with seated := true, partSeat := false, straps := straps % 16 } }
    if s.boot.held then s.leaveHold 8 b else s

/-- MODULE_UNSEATED (R428): the members are out of reach, so the stop writes a full dump at once; the module is then held. -/
def State.unseat (s : State) : State :=
  if !s.pwr.seated then s
  else
    let s := { s with pwr := { s.pwr with seated := false, partSeat := false } }
    if s.dumping then { s with boot := { s.boot with after := 0 } } else s.dumpBegin 3 0

/-- SEAT_PARTIAL (R428). -/
def State.seatPartial (s : State) : State :=
  if !s.pwr.seated || s.pwr.partSeat then s else { s with pwr := { s.pwr with partSeat := true } }.raise EV_GLB_SEAT_PARTIAL 0 0

/-- Whether a dump is in progress: a press then has no effect (R430). -/
def State.dumpRuns (s : State) : Bool := s.dumping && s.jnl.phase != .held

/-- BUTTON_RELEASE (R430) of a press of `ms` ms; a held module needs no stop before its reset (R335, R428). -/
def State.button (s : State) (ms : Nat) (b : BootIn) : State :=
  if s.dumpRuns then s
  else if ms < 2000 then s.set GLB_CTRL_locate 0 (1 - s.get GLB_CTRL_locate)
  else if decide (3000 ≤ ms) && decide (ms < 6000) then s.sameMem (s.stopBegin 0)
  else if decide (6000 ≤ ms) && decide (ms < 9000) then (if s.boot.held then s.leaveHold 2 b else s.sameMem (s.stopBegin 2))
  else s

/-! ## Feeds (R437 to R440) -/

/-- The active feed: that whose ORing switch is closed. -/
def State.activeFeed (s : State) : Option Nat := [0, 1].find? fun f => s.flag PWR_FEED_STATUS_active f

/-- The store ceases or begins to support the bus (R441, R518). -/
def State.storeState (s : State) (v : Nat) : State :=
  let was := s.get PWR_STORE_STATUS_state
  if was = 4 || was = v then s
  else
    let s := s.set PWR_STORE_STATUS_state 0 v
    if v = 3 then s.enter (ctrPwr 5) else if was = 3 then s.leave (ctrPwr 5) else s

/-- Ready at its charge limit, else charging (R444, R449). -/
def State.storeCharge (s : State) : State := s.storeState (if decide (s.pwr.chargeMv ≤ s.get PWR_STORE_STATUS_vstore) then 1 else 0)

/-- An ORing switch closed (R438, R439); the feed relieves the store (R440). -/
def State.feedMake (s : State) (f : Nat) : State :=
  let s := ((s.set PWR_FEED_STATUS_active f 1).set PWR_FEED_STATUS_active (1 - f) 0).set PWR_BUS_STATUS_source 0 f
  let s := if s.get PWR_STORE_STATUS_state = 3 then s.storeCharge else s
  { s with pwr := { s.pwr with target := none, last := some f } }.send (.oring (some f))

/-- A switch of feeds begun (R439): the closed switch opens, the dead time runs. -/
def State.feedSwitch (s : State) (f : Nat) : State :=
  if s.flag PWR_FEED_STATUS_active f then s
  else
    let s := ((s.set PWR_FEED_STATUS_active 0 0).set PWR_FEED_STATUS_active 1 0).set PWR_BUS_STATUS_source 0 3
    { s with pwr := { s.pwr with target := some f } }.send (.oring none)

/-- The ride-through window opens (R261, R262 step 1); a store test ends (R440). -/
def State.rideStart (s : State) : State :=
  if s.dumping || s.get PWR_SEQ_STATUS_seq != 0 then s
  else
    let s := { s with pwr := { s.pwr with testFrom := none, rideFrom := s.dtc } }.storeState 3
    let s := s.set PWR_SEQ_STATUS_seq 0 1
    if s.jnl.phase = .idle then { s with jnl := { s.jnl with phase := .riding s.dtc } } else s

/-- The window ends since a feed is there again (R262 step 2, R440). -/
def State.rideOver (s : State) : State :=
  if s.get PWR_SEQ_STATUS_seq != 1 then s
  else
    let s := ((s.set PWR_SEQ_STATUS_seq 0 0).addSat PWR_SEQ_STATUS_rides 0 1).bump (ctrPwr 3)
    let s := s.storeCharge
    match s.jnl.phase with
    | .riding _ => { s with jnl := { s.jnl with phase := .idle } }
    | _ => s

/-- FEED_ABSENT (R437, R438, R440) with its cause. -/
def State.feedAbsent (s : State) (f cause : Nat) : State :=
  if !s.feedThere f then s
  else
    let act := s.flag PWR_FEED_STATUS_active f
    let s := ((s.set PWR_FEED_STATUS_state f 0).set PWR_FEED_STATUS_cause f cause).addSat PWR_FEED_STATUS_losses f 1
    let s := { s with pwr := { s.pwr with goodAt := tdel s.pwr.goodAt f } }
    let s := (s.raise EV_PWR_FEED_LOST 0xC f).bump (ctrPwr f)
    let aimed := s.pwr.target = some f
    let s := if aimed then { s with pwr := { s.pwr with target := none } } else s
    if s.feedless then s.rideStart else if act || aimed then s.feedSwitch (1 - f) else s

/-- FEED_QUALIFYING (R437, R440): a feed that leaves absent while both were away becomes active at once; a held module whose dump is done
starts again (R261). -/
def State.feedQualify (s : State) (f : Nat) (b : BootIn) : State :=
  if s.feedThere f then s
  else
    let alone := s.feedless
    let s := s.set PWR_FEED_STATUS_state f 1
    if !alone then s
    else
      let s := if s.get PWR_SEQ_STATUS_seq = 0 then s else s.feedSwitch f
      let s := s.sameMem s.rideOver
      if s.jnl.phase = .held && s.restarts then s.leaveHold s.boot.after b else s

/-- FEED_GOOD (R437, R438): the first good feed becomes active. -/
def State.feedGood (s : State) (f : Nat) : State :=
  if s.feedState f != 1 then s
  else
    let s := s.set PWR_FEED_STATUS_state f 2
    let s := { s with pwr := { s.pwr with goodAt := tput s.pwr.goodAt f s.dtc } }
    let s := s.raise EV_PWR_FEED_GOOD 0xC f
    if s.activeFeed.isNone && s.pwr.target.isNone then s.feedMake f else s

/-- Whether the hold-off after a switch has passed (R438). -/
def State.holdOff (s : State) : Bool := s.pwr.switched.all fun t => decide (secTicks 1 ≤ s.since t)

/-- Whether a feed has been good for a time in seconds (R438). -/
def State.goodFor (s : State) (f secs : Nat) : Bool := (tget s.pwr.goodAt f).any fun t => decide (secTicks secs ≤ s.since t)

/-- FEED_REVERT (R438): back to the preferred feed, which has been good for revert_s, the active one being good too. -/
def State.feedRevert (s : State) : State :=
  let p := s.get PWR_FEED_CFG_prefer
  if decide (2 ≤ p) || s.get PWR_FEED_CFG_revert_s = 0 || s.feedState p != 2 || s.feedState (1 - p) != 2 || s.activeFeed != some (1 - p) ||
    !s.holdOff || !s.goodFor p (s.get PWR_FEED_CFG_revert_s) then s
  else s.feedSwitch p

/-- ORING_MAKE (R439): the dead time ends and the target's switch closes. -/
def State.oringMake (s : State) : State :=
  match s.pwr.target with
  | none => s
  | some f =>
    let s := (s.feedMake f).raise EV_PWR_FEED_SWITCH 0xC f
    { s with pwr := { s.pwr with switched := some s.dtc } }.bump (ctrPwr 2)

/-! ## The bus (R441) -/

/-- BUS_FAULT (R441): below 10.8 V the dump starts as on reference loss; above 13.5 V both switches open and the dump starts as after a
whole window without feeds. -/
def State.busFault (s : State) (mv : Nat) : State :=
  if decide (10800 ≤ mv) && decide (mv ≤ 13500) then s
  else
    let s := (s.set PWR_BUS_STATUS_vbus 0 mv).set PWR_BUS_STATUS_vbus_min 0 (min mv (s.get PWR_BUS_STATUS_vbus_min))
    let s := (s.raise EV_PWR_BUS_FAULT 0 0).bump (ctrPwr 7)
    if mv < 10800 then s.dumpBegin 2 6
    else
      let s := ((s.set PWR_FEED_STATUS_active 0 0).set PWR_FEED_STATUS_active 1 0).set PWR_BUS_STATUS_source 0 2
      let s := ({ s with pwr := { s.pwr with target := none } }.send (.oring none)).storeState 3
      s.dumpBegin 1 6

/-! ## The store (R443 to R446) -/

/-- STORE_ENERGY_THRESHOLD (R444): E and budget_slots follow the string voltage; below 105.3 J the event, once until it is above. -/
def State.storeLevel (s : State) (mv : Nat) : State :=
  let s := (s.set PWR_STORE_STATUS_vstore 0 mv).budgetSet
  let s := if s.get PWR_STORE_STATUS_state < 2 then s.storeCharge else s
  let low := s.storeShort
  let s := if low && !s.pwr.storeLow then s.raise EV_PWR_STORE_LOW 0 0 else s
  { s with pwr := { s.pwr with storeLow := low } }.waterCheck

/-- STORE_FAILED (R446): E reads 0, so R444's thresholds are crossed. -/
def State.storeFailed (s : State) : State :=
  if s.get PWR_STORE_STATUS_state = 4 then s
  else
    let s := ((s.storeState 4).budgetSet).raise EV_PWR_STORE_FAIL 0 0
    let s := if s.pwr.storeLow then s else s.raise EV_PWR_STORE_LOW 0 0
    { s with pwr := { s.pwr with storeLow := true } }.waterCheck

/-- STORE_TEST_START (R445). -/
def State.storeTest (s : State) : State :=
  if s.get PWR_STORE_CFG_test_h = 0 || !s.feedThere 0 || !s.feedThere 1 || decide (s.energyMj < 300000) || s.dumping ||
    s.get PWR_STORE_STATUS_state = 4 || s.pwr.testFrom.isSome then s
  else { s.storeState 2 with pwr := { s.pwr with testFrom := some (s.get PWR_STORE_STATUS_vstore) } }

/-- STORE_TEST_END (R443, R445, R446): C is 1.0 C over the fall of the string voltage, the ESR half the first step in mΩ; `cells` is the
widest difference of two cells in mV. -/
def State.storeTested (s : State) (mv step cells : Nat) (broken : Bool) : State :=
  match s.pwr.testFrom with
  | none => s
  | some v =>
    let c := if v ≤ mv then 65535 else min 65535 (1000000 / (v - mv))
    let s := { s with pwr := { s.pwr with testFrom := none } }.bump (ctrPwr 6)
    let s := (s.set PWR_STORE_STATUS_cap_mf 0 c).set PWR_STORE_STATUS_esr 0 (min 1023 (step / 2))
    let s := s.storeState 0
    let s := if decide (usableMj c 20000 < 300000) && !s.flag PWR_STORE_STATUS_eol then (s.set PWR_STORE_STATUS_eol 0 1).raise EV_PWR_STORE_EOL 0 0 else s
    let s := s.storeLevel mv
    if c < 500 || 400 < step || 300 < cells || broken then s.storeFailed else s

/-- STORE_HOT (R444, R448): the charge limit, each level cleared 5 °C below it. -/
def State.storeHot (s : State) (c : Nat) : State :=
  let was := s.pwr.chargeMv
  let lim := if decide (65 < c) || (was = 0 && decide (60 < c)) then 0 else if decide (55 < c) || (was != 20000 && decide (50 < c)) then 18000 else 20000
  let s := (s.set PWR_STORE_STATUS_temp_c 0 (min c 255)).set PWR_THERM_STATUS_store_c 0 (min c 255)
  { s with pwr := { s.pwr with chargeMv := lim } }

/-! ## Temperatures (R447, R448) -/

/-- INLET_HOT (R448). -/
def State.inletIsHot (s : State) (c : Nat) : State :=
  let s := s.set PWR_THERM_STATUS_inlet_c 0 (min c 255)
  if c ≤ 45 || s.pwr.inletHot then s else { s with pwr := { s.pwr with inletHot := true } }.raise EV_PWR_INLET_HOT 0 0

/-- DIE_WARN (R448). -/
def State.dieWarn (s : State) (c : Nat) : State :=
  let s := s.set PWR_THERM_STATUS_die_c 0 (min c 255)
  if c ≤ 95 || s.pwr.dieWarm then s else { s with pwr := { s.pwr with dieWarm := true } }.raise EV_PWR_DIE_WARN 0 0

/-- DIE_CRIT (R448): a stop with a full dump at once. -/
def State.dieCritical (s : State) (c : Nat) : State :=
  let s := s.set PWR_THERM_STATUS_die_c 0 (min c 255)
  if c ≤ 110 || s.pwr.dieCrit then s
  else ({ s with pwr := { s.pwr with dieCrit := true } }.raise EV_PWR_DIE_CRIT 0 0).dumpBegin 3 0

/-- SENSOR_REPORT (R447 to R449): the live values, levels cleared 5 °C below their thresholds, heat and required airflow reported to the
shelf manager. -/
def State.sensorReport (s : State) (m : PwrRead) : State :=
  let feed (s : State) (f : Nat) (x : Nat × Nat × Nat) : State :=
    ((s.set PWR_FEED_STATUS_vrms f (min x.1 4095)).set PWR_FEED_STATUS_freq f (min x.2.1 4095)).set PWR_FEED_STATUS_pin_w f (min x.2.2 4095)
  let s := feed (feed s 0 m.feedA) 1 m.feedB
  let s := ((s.set PWR_BUS_STATUS_vbus 0 m.vbus).set PWR_BUS_STATUS_ibus 0 m.ibus).set PWR_BUS_STATUS_vbus_min 0
    (min m.vbus (s.get PWR_BUS_STATUS_vbus_min))
  let s := (((s.set PWR_THERM_STATUS_die_c 0 (min m.die 255)).set PWR_THERM_STATUS_inlet_c 0 (min m.inlet 255)).set PWR_THERM_STATUS_fe_a_c 0
    (min m.feA 255)).set PWR_THERM_STATUS_fe_b_c 0 (min m.feB 255)
  let heat := min (m.feedA.2.2 + m.feedB.2.2) 4095
  let s := (s.set PWR_THERM_STATUS_heat_w 0 heat).storeHot m.store
  let s := s.storeLevel m.vstore
  let s := { s with pwr := { s.pwr with
      inletHot := s.pwr.inletHot && decide (40 < m.inlet), dieWarm := s.pwr.dieWarm && decide (90 < m.die)
      dieCrit := s.pwr.dieCrit && decide (105 < m.die) } }
  s.send (.sensors heat ((heat : Rat) / 14472))

/-! ## Optical modules (R549) -/

/-- OPTICAL_MODULE_INSERTED (R549): above 16 W it is held in low-power mode; cages the variant lacks supply no power (R5). -/
def State.opticIn (s : State) (cage watts : Nat) : State :=
  if s.get GLB_IDENT_variant = 2 && decide (4 ≤ cage) then s
  else { s with mac := { s.mac with optics := tput s.mac.optics cage ⟨watts, decide (16 < watts)⟩ } }

/-! ## The commands -/

/-- MODULE_SEATED (R428). -/
def execModuleSeated (straps : Nat) (b : BootIn) (s : State) : Host.Outcome State Fault Refusal :=
  s.commit { parts := allParts, blocks := allBlocks }
    (s.seat straps b)

/-- MODULE_UNSEATED (R428). -/
def execModuleUnseated (s : State) : Host.Outcome State Fault Refusal :=
  s.commit
    { parts := haltParts,
      fields := bootLive ++ qpeLive ++ cells ++ firnSeq ++ stopSeq ++ [GLB_MGMT_SEQ_last_completed, GLB_CORE_STATUS_beat, GLB_CORE_STATUS_state, MAC_PORT_STATUS_flaps, MAC_PORT_STATUS_speed, MAC_PORT_STATUS_up] }
    (s.unseat)

/-- SEAT_PARTIAL (R428). -/
def execSeatPartial (s : State) : Host.Outcome State Fault Refusal :=
  s.commit { parts := [.evt, .ctr, .pwr] }
    (s.seatPartial)

/-- BUTTON_RELEASE (R430). -/
def execButtonRelease (ms : Nat) (b : BootIn) (s : State) : Host.Outcome State Fault Refusal :=
  s.commit { parts := allParts, blocks := allBlocks }
    (s.button ms b)

/-- BUTTON_ZEROISE (R430, R187). -/
def execButtonZeroise (s : State) : Host.Outcome State Fault Refusal :=
  s.commit
    { parts := eraseParts,
      fields := keyLive ++ qpeLive ++ rebLive ++ cells ++ firnSeq ++ contexts ++ openSeg ++ [JNL_NEVE_SEQ_next_seq, SLC_LOG_STATUS_out_span] }
    (if s.dumpRuns then s else s.keyZeroiseAll)

/-- FEED_ABSENT (R437). -/
def execFeedAbsent (f cause : Nat) (s : State) : Host.Outcome State Fault Refusal :=
  s.commit { parts := [.evt, .ctr, .jnl, .pwr, .outbox], fields := pwrLive }
    (s.feedAbsent (f % 2) cause)

/-- FEED_QUALIFYING (R437). -/
def execFeedQualifying (f : Nat) (b : BootIn) (s : State) : Host.Outcome State Fault Refusal :=
  s.commit { parts := allParts, blocks := allBlocks }
    (s.feedQualify (f % 2) b)

/-- FEED_GOOD (R437). -/
def execFeedGood (f : Nat) (s : State) : Host.Outcome State Fault Refusal :=
  s.commit
    { parts := [.evt, .ctr, .pwr, .outbox],
      fields := [PWR_FEED_STATUS_active, PWR_FEED_STATUS_state, PWR_BUS_STATUS_source, PWR_STORE_STATUS_state] }
    (s.feedGood (f % 2))

/-- FEED_REVERT (R438). -/
def execFeedRevert (s : State) : Host.Outcome State Fault Refusal :=
  s.commit { parts := [.pwr, .outbox], fields := [PWR_FEED_STATUS_active, PWR_BUS_STATUS_source] }
    (s.feedRevert)

/-- ORING_MAKE (R439). -/
def execOringMake (s : State) : Host.Outcome State Fault Refusal :=
  s.commit
    { parts := [.evt, .ctr, .pwr, .outbox], fields := [PWR_FEED_STATUS_active, PWR_BUS_STATUS_source, PWR_STORE_STATUS_state] }
    (s.oringMake)

/-- BUS_FAULT (R441). -/
def execBusFault (mv : Nat) (s : State) : Host.Outcome State Fault Refusal :=
  s.commit
    { parts := haltParts,
      fields := pwrLive ++ bootLive ++ qpeLive ++ cells ++ firnSeq ++ [GLB_MGMT_SEQ_last_completed, GLB_CORE_STATUS_beat, GLB_CORE_STATUS_state, MAC_PORT_STATUS_flaps, MAC_PORT_STATUS_speed, MAC_PORT_STATUS_up] }
    (s.busFault mv)

/-- STORE_TEST_START (R445). -/
def execStoreTestStart (s : State) : Host.Outcome State Fault Refusal :=
  s.commit { parts := [.ctr, .pwr], fields := [PWR_STORE_STATUS_state] }
    (s.storeTest)

/-- STORE_TEST_END (R445). -/
def execStoreTestEnd (mv step cells : Nat) (broken : Bool) (s : State) : Host.Outcome State Fault Refusal :=
  s.commit { parts := [.evt, .ctr, .pwr], fields := pwrLive ++ [JNL_NEVE_STATUS_budget_slots, JNL_NEVE_STATUS_high_water] }
    (s.storeTested mv step cells broken)

/-- STORE_ENERGY_THRESHOLD (R444). -/
def execStoreEnergyThreshold (mv : Nat) (s : State) : Host.Outcome State Fault Refusal :=
  s.commit
    { parts := [.evt, .ctr, .pwr],
      fields := [PWR_STORE_STATUS_e_j, PWR_STORE_STATUS_state, PWR_STORE_STATUS_vstore, JNL_NEVE_STATUS_budget_slots, JNL_NEVE_STATUS_high_water] }
    (s.storeLevel mv)

/-- STORE_HOT (R444). -/
def execStoreHot (c : Nat) (s : State) : Host.Outcome State Fault Refusal :=
  s.commit { parts := [.pwr], fields := [PWR_STORE_STATUS_temp_c, PWR_THERM_STATUS_store_c] }
    (s.storeHot c)

/-- INLET_HOT (R448). -/
def execInletHot (c : Nat) (s : State) : Host.Outcome State Fault Refusal :=
  s.commit { parts := [.evt, .ctr, .pwr], fields := [PWR_THERM_STATUS_inlet_c] }
    (s.inletIsHot c)

/-- DIE_WARN (R448). -/
def execDieWarn (c : Nat) (s : State) : Host.Outcome State Fault Refusal :=
  s.commit { parts := [.evt, .ctr, .pwr], fields := [PWR_THERM_STATUS_die_c] }
    (s.dieWarn c)

/-- DIE_CRIT (R448). -/
def execDieCrit (c : Nat) (s : State) : Host.Outcome State Fault Refusal :=
  s.commit
    { parts := haltParts,
      fields := pwrLive ++ bootLive ++ qpeLive ++ cells ++ firnSeq ++ [GLB_MGMT_SEQ_last_completed, GLB_CORE_STATUS_beat, GLB_CORE_STATUS_state, MAC_PORT_STATUS_flaps, MAC_PORT_STATUS_speed, MAC_PORT_STATUS_up] }
    (s.dieCritical c)

/-- SENSOR_REPORT (R447). -/
def execSensorReport (m : PwrRead) (s : State) : Host.Outcome State Fault Refusal :=
  s.commit
    { parts := [.evt, .ctr, .pwr, .outbox],
      fields := pwrLive ++ [JNL_NEVE_STATUS_budget_slots, JNL_NEVE_STATUS_high_water] }
    (s.sensorReport m)

/-- OPTICAL_MODULE_INSERTED (R549). -/
def execOpticalModuleInserted (cage watts : Nat) (s : State) : Host.Outcome State Fault Refusal :=
  s.commit { parts := [.mac] }
    (s.opticIn (cage % 8) watts)

end Sys2Proof.Machine
end

