-- ==== Sys2Proof/Machine/Tms.lean ====
section
/-! DEFINITION. Traffic management (chapter 03): PFC received and the storm watchdog (R84, R85), queue sampling (R98),
policing (R95 to R97), the scheduler's choice (R86 to R92), the calendar (R93, R94). -/

namespace Sys2Proof.Machine

open F

/-! ## PFC (R83 to R85) -/

/-- The rate of a port in Gb/s (MAC_PORT_STATUS.speed). -/
def State.portGbps (s : State) (p : Nat) : Nat :=
  match s.get MAC_PORT_STATUS_speed p with
  | 2 => 200
  | 3 => 400
  | 4 => 800
  | _ => 400

/-- Whether any priority of a port is paused. -/
def State.anyPaused (s : State) (p : Nat) : Bool := (List.range 8).any fun c => (s.pfc p c).paused.isSome

/-- tx_paused follows the pauses of a port. -/
def State.pauseCounter (s : State) (p : Nat) : State := if s.anyPaused p then s.enter (ctrMac p 11) else s.leave (ctrMac p 11)

/-- One priority of a received PFC frame: a pause replaces the remaining time, quanta 0 releases; a tripped priority only
notes the arrival (R84, R85). -/
def State.pfcTake (s : State) (p tc quanta : Nat) : State :=
  if !s.pfcOn p tc then s
  else
    let x := { s.pfc p tc with lastPfc := s.dtc }
    let s := s.bump (ctrMac p (12 + tc))
    if x.tripped then s.putPfc p tc x
    else if quanta = 0 then s.putPfc p tc { x with paused := none, stuck := none }
    else s.putPfc p tc { x with paused := some (s.dtc + BitVec.ofNat 64 (quanta * 512 * 16 / (10 * s.portGbps p)))
                                stuck := some (x.stuck.getD s.dtc) }

/-- PFC_FRAME_RX: the priorities the frame enables, each with its quanta. -/
def State.pfcRx (s : State) (p : Nat) (l : List (Nat × Nat)) : State :=
  (s.each (l.filter fun x => decide (x.1 < 8)) fun s x => s.pfcTake p x.1 (x.2 % 65536)).pauseCounter p

/-- PFC_REFRESH: a priority still held is refreshed, and the thresholds are looked at again (R83). -/
def State.pfcRefresh (s : State) (p tc : Nat) : State :=
  let s := s.pfcWatch p tc
  if (s.pfc p tc).xoff && s.pfcOn p tc && !(s.pfc p tc).tripped then s.sendPfc p tc 0xFFFF else s

/-- PFC_PAUSE_EXPIRY: the priority resumes. -/
def State.pfcExpiry (s : State) (p tc : Nat) : State :=
  if (s.pfc p tc).paused.isSome then (s.putPfc p tc { s.pfc p tc with paused := none, stuck := none }).pauseCounter p else s

/-- PFC_STORM_TRIP: an enabled priority paused with frames waiting loses PFC in both directions. -/
def State.pfcTrip (s : State) (p tc : Nat) : State :=
  if s.pfcOn p tc && s.pausedAt p tc && decide (0 < s.depth p tc) then
    (((s.putPfc p tc { s.pfc p tc with tripped := true, paused := none, stuck := none, xoff := false }).pauseCounter p).enter
      (ctrMac p 10)).raise EV_MAC_PFC_STORM 1 p [tc]
  else s

/-- PFC_STORM_RESTORE: PFC of a tripped priority is restored. -/
def State.pfcRestore (s : State) (p tc : Nat) : State :=
  if (s.pfc p tc).tripped then
    ((s.putPfc p tc { s.pfc p tc with tripped := false }).leave (ctrMac p 10)).raise EV_MAC_PFC_RESTORED 1 p [tc]
  else s

/-! ## Sampling (R78, R98) -/

/-- A context whose queue has gone stale runs on RTT alone: lcwnd 1,024 (R78). -/
def State.staleCtxs (s : State) : State :=
  s.each s.hkt.ctxs fun s c => match c.lastQueue with
    | some q =>
      if decide (q.1 < 34) && s.queueStale q then
        ((s.modCtx c.localEid c.peerEid fun c => { c with lcwnd := { c.lcwnd with win := 262144, isOpen := false } })).noteStale q
      else s
    | none => s

/-- One egress queue sampled: TMS_QSAMPLE and the histogram units. -/
def State.sampleQueue (s : State) (p tc : Nat) : State :=
  let d := s.depth p tc
  let h := s.headDelay p tc
  let s := (s.set TMS_QSAMPLE_depth (ix2 8 p tc) d).set TMS_QSAMPLE_head_delay (ix2 8 p tc) h
  let s := { s with tms := { s.tms with sampledAt := tput s.tms.sampledAt (p, tc) s.dtc
                                        stale := s.tms.stale.filter (· != (p, tc)) } }
  (s.sample 3 (8 * p + tc) h true).sample 4 (8 * p + tc) d false

/-- TMS_QUEUE_SAMPLE: every egress queue of roots 0 to 33. -/
def State.queueSample (s : State) : State :=
  s.staleCtxs.each ((List.range 34).flatMap fun p => (List.range 8).map fun c => (p, c)) fun s q => s.sampleQueue q.1 q.2

/-! ## Shapers (R89) -/

/-- A shaper's rate in Mb/s and burst in bytes. -/
def State.shaperRate (s : State) : ShaperId → Nat × Nat
  | .tenant t => (s.get TMS_TENANT_CFG_max_rate t, 256 * s.get TMS_TENANT_CFG_max_burst t)
  | .cls r c => (s.get TMS_CLASS_CFG_max_rate (ix2 8 r c), 32768)
  | .root r => (s.get TMS_PORT_SHAPE_max_rate r, 32768)

/-- A shaper's tokens now; one not yet used has its burst (R89, R91). -/
def State.tokens (s : State) (i : ShaperId) : Int :=
  let (rate, burst) := s.shaperRate i
  match tget s.tms.shapers i with
  | none => burst * 65536
  | some x => min (burst * 65536) (x.tokens + rateTokens rate (s.since x.last))

/-- Whether a shaper lets its node send: unshaped, or tokens of 0 or more. -/
def State.shaperOk (s : State) (i : ShaperId) : Bool := (s.shaperRate i).1 = 0 || decide (0 ≤ s.tokens i)

/-- When a shaper's tokens return to 0 (R89): now where they are not negative or no rate is set. -/
def State.shaperDue (s : State) (i : ShaperId) : Word64 :=
  let rate := (s.shaperRate i).1
  let t := s.tokens i
  if rate = 0 || decide (0 ≤ t) then s.dtc else s.dtc + BitVec.ofNat 64 (((-t).toNat * 100 + rate * 512 - 1) / (rate * 512))

/-- A shaper charged; when its tokens go negative it waits on the calendar until they return to 0 (R93). -/
def State.chargeShaper (s : State) (i : ShaperId) (len : Int) : State :=
  if (s.shaperRate i).1 = 0 then s
  else
    let t := s.tokens i - len * 65536
    let s := { s with tms := { s.tms with shapers := tput s.tms.shapers i ⟨t, s.dtc⟩ } }
    if t < 0 then s.calPut (.shaper i) s.dtc (s.shaperDue i) else s

/-! ## The scheduler's choice (R88, R90) -/

/-- Whether a drive command's member has a free tag (R305). -/
def State.tagFree (s : State) (x : Nat) : Bool := decide ((tgetD s.drv x {}).cmds.length < 1024)

/-- The item a leaf serves next: green before yellow; on the drive root items of members without a free tag are skipped
(R305), on a port packets that must wait for the next 640 ns tick (R173). -/
def State.headOf (s : State) (x : TmsLeaf) : Option TmsItem :=
  (x.green ++ x.yellow).find? fun i => match i.work with
    | .drive c => s.tagFree c.member
    | .pkt p => !s.stampTaken p
    | .frame _ => true

/-- A list without the first occurrence of an item. -/
def dropItem (i : TmsItem) : List TmsItem → List TmsItem
  | [] => []
  | j :: t => if j = i then t else j :: dropItem i t

/-- A leaf without an item it holds. -/
def TmsLeaf.without (x : TmsLeaf) (i : TmsItem) : TmsLeaf :=
  if x.green.contains i then { x with green := dropItem i x.green } else { x with yellow := dropItem i x.yellow }

/-- Whether a leaf is empty. -/
def TmsLeaf.isEmpty (x : TmsLeaf) : Bool := x.green.isEmpty && x.yellow.isEmpty

/-- Whether an item may be sent: a frame once it has cut through or its tail has proved good (R352). -/
def State.itemReady (s : State) (root : Nat) (i : TmsItem) : Bool :=
  match i.work with
  | .frame id => match tget s.swc.frames id with
    | some x => x.tail = some true || x.copies.any fun c => c.dst = root && c.ct
    | none => true
  | _ => true

/-- Whether a leaf is eligible: it has an item that may be sent and its tenant's shaper allows it. -/
def State.leafOk (s : State) (x : TmsLeaf) : Bool :=
  match s.headOf x with
  | some i => s.itemReady x.root i && s.shaperOk (.tenant x.tenant)
  | none => false

/-- The node after another in a round, nodes taken by rising number: the next higher one, else the lowest, with which a new round begins. -/
def nextNode (l : List Nat) (cur : Nat) : Nat := (l.find? fun n => decide (cur < n)).getD (l.headD cur)

/-- Where a deficit round robin stands: the node in turn, the deficits, the quanta of the round under way (R88, R91). -/
structure Turn where
  node    : Nat
  deficit : Table Nat Int
  quanta  : Table Nat Int
  deriving DecidableEq, Repr

/-- Deficit round robin (R88): from the node in turn on, each node that cannot send its item passes the turn, and a node the
turn reaches gains its quantum; a new round takes the quanta that the weights now give (R91). -/
def drr (l : List Nat) (fresh : Table Nat Int) (need : Nat → Int) : Nat → Turn → Turn
  | 0, t => t
  | fuel + 1, t =>
    if l.contains t.node && decide (need t.node ≤ tgetD t.deficit t.node 0) then t
    else
      let n := nextNode l t.node
      let q := if n ≤ t.node then fresh else t.quanta
      drr l fresh need fuel ⟨n, tput t.deficit n (tgetD t.deficit n 0 + tgetD q n (tgetD fresh n 0)), q⟩

/-- Rounds enough for any need. -/
def drrFuel (l : List Nat) (need : Nat → Int) : Nat := (l.foldl (fun m n => max m (need n).toNat) 0 / 512 + 3) * (l.length + 1)

/-- The eligible leaves of a class on a root, by tenant. -/
def State.leavesOf (s : State) (root cls : Nat) : List TmsLeaf :=
  sortOn (·.tenant) (s.tms.leaves.filter fun x => x.root = root && x.cls = cls && s.leafOk x)

/-- The leaf a class serves next, with its turn. -/
def State.pickLeaf (s : State) (root cls : Nat) : Option (TmsLeaf × Turn) :=
  let l := s.leavesOf root cls
  let ids := l.map (·.tenant)
  let need (t : Nat) : Int := ((l.find? fun x => x.tenant = t).bind s.headOf).elim 0 (·.len)
  let fresh : Table Nat Int := ids.map fun t => (t, 512 * (atLeast1 (s.get TMS_TENANT_CFG_weight t) : Int))
  let t := drr ids fresh need (drrFuel ids need)
    ⟨tgetD s.tms.leafTurn (root, cls) 0, l.map fun x => (x.tenant, x.deficit), tgetD s.tms.leafQuanta (root, cls) []⟩
  (l.find? fun x => x.tenant = t.node).map fun x => (x, t)

/-- Whether a class of a root is eligible: a leaf is, its shaper allows it, and its priority is not paused (R84). -/
def State.classOk (s : State) (root cls : Nat) : Bool :=
  !(s.leavesOf root cls).isEmpty && s.shaperOk (.cls root cls) && !(decide (root < 34) && s.pausedAt root cls)

/-- The class a root serves next, with the turn of a weighted one; strict classes first, the highest number first (R88). -/
def State.pickClass (s : State) (root : Nat) : Option (Nat × Option Turn) :=
  let ok := (List.range 8).filter fun c => s.classOk root c
  match (ok.filter fun c => s.flag TMS_CLASS_CFG_strict (ix2 8 root c)).getLast? with
  | some c => some (c, none)
  | none =>
    if ok.isEmpty then none
    else
      let need (c : Nat) : Int := ((s.pickLeaf root c).bind fun x => s.headOf x.1).elim 0 (·.len)
      let fresh : Table Nat Int := ok.map fun c => (c, 8192 * (atLeast1 (s.get TMS_CLASS_CFG_weight (ix2 8 root c)) : Int))
      let t := drr ok fresh need (drrFuel ok need)
        ⟨tgetD s.tms.clsTurn root 0, ok.map fun c => (c, tgetD s.tms.clsDeficit (root, c) 0), tgetD s.tms.clsQuanta root []⟩
      some (t.node, some t)

/-- Whether the rebuild subscriber is below its floor over the last 100 µs (R90); the floor is in Mb/s. -/
def State.belowFloor (s : State) : Bool :=
  let served := (s.tms.rebServed.filter fun (t, _) => decide (s.since t < usTicks 100)).foldl (fun n (_, b) => n + b) 0
  decide (2 * served < 25 * s.get TMS_REBUILD_FLOOR_floor 0)

/-- Whether Calving and compaction go ahead of the weighted classes (R224, R231): at the urgent level, or with Firn to replay
at 1.5 times its limit. -/
def State.tidyFirst (s : State) : Bool :=
  decide (2 ≤ s.get STR_POOL_STATUS_calve_level) || decide (3 * s.replayLimit ≤ 2 * s.replayBytes)

/-- The leaf that goes ahead of the weighted classes of the drive root: the rebuild subscriber below its floor (R90), whatever its class's
shaper (assumption log 95), then Calving and compaction (R224, R231). -/
def State.rebuildFirst (s : State) (root : Nat) : Option TmsLeaf :=
  let leaf (t : Nat) : Option TmsLeaf :=
    s.tms.leaves.find? fun x => x.root = 34 && x.tenant = t && s.leafOk x && !s.flag TMS_CLASS_CFG_strict (ix2 8 34 x.cls)
  if root != 34 then none
  else (if s.belowFloor then leaf 4095 else none).orElse fun _ => if s.tidyFirst then leaf 4094 else none

/-- The leaf a root serves next, with the turns that moved: none where it goes ahead of the weighted classes (R90). -/
def State.pick (s : State) (root : Nat) : Option (TmsLeaf × Option Turn × Option Turn) :=
  let inClass (c : Nat) (cls : Option Turn) := (s.pickLeaf root c).map fun (x, t) => (x, cls, some t)
  if !s.shaperOk (.root root) then none
  else
    match s.pickClass root with
    | some (c, none) => inClass c none
    | r =>
      match s.rebuildFirst root with
      | some x => some (x, none, none)
      | none => r.bind fun (c, t) => inClass c t

/-- A leaf as its class's turn leaves it, without the item taken where it is the one served (R88). -/
def TmsLeaf.served (y x : TmsLeaf) (t : Option Turn) (i : TmsItem) : TmsLeaf :=
  if y.root != x.root || y.cls != x.cls then y
  else
    let y := match t with | some t => { y with deficit := tgetD t.deficit y.tenant y.deficit } | none => y
    if y.tenant != x.tenant then y
    else { y.without i with deficit := if t.isSome then y.deficit - i.len else y.deficit }

/-- The deficits of a root's classes after its turn, the one served charged; a class that emptied has none (R88). -/
def Tms.classDeficits (m : Tms) (x : TmsLeaf) (t : Option Turn) (i : TmsItem) (leaves : List TmsLeaf) : Table (Nat × Nat) Int :=
  let d := match t with
    | none => m.clsDeficit
    | some t => t.deficit.foldl (fun d (c, v) => tput d (x.root, c) (if c = x.cls then v - i.len else v)) m.clsDeficit
  if leaves.any fun y => y.root = x.root && y.cls = x.cls then d else tdel d (x.root, x.cls)

/-- The item taken: turns, deficits, shapers and counters follow, and an emptied leaf or class loses its deficit (R88, R89). -/
def State.takeItem (s : State) (root : Nat) : Option (TmsItem × State) :=
  match s.pick root with
  | none => none
  | some (x, ct, lt) =>
    match s.headOf x with
    | none => none
    | some i =>
      let leaves := (s.tms.leaves.map fun y => y.served x lt i).filter fun y => !y.isEmpty
      let m := { s.tms with
        leaves := leaves, clsDeficit := s.tms.classDeficits x ct i leaves
        rebServed := if root = 34 && x.tenant = 4095 then
            (s.tms.rebServed.filter fun (e : Word64 × Nat) => decide (s.since e.1 < usTicks 100)) ++ [(s.dtc, i.len.toNat)]
          else s.tms.rebServed }
      let m := match ct with
        | some t => { m with clsTurn := tput m.clsTurn root t.node, clsQuanta := tput m.clsQuanta root t.quanta }
        | none => m
      let m := match lt with
        | some t => { m with leafTurn := tput m.leafTurn (root, x.cls) t.node, leafQuanta := tput m.leafQuanta (root, x.cls) t.quanta }
        | none => m
      let s := { s with tms := m }
      let s := ((s.chargeShaper (.tenant x.tenant) i.len).chargeShaper (.cls root x.cls) i.len).chargeShaper (.root root) i.len
      some (i, (s.bump (ctrTms root x.cls 0)).bump (ctrTms root x.cls 1) i.len.toNat)

/-- What a packet's leaving tells the queue or command it belongs to (R32): a READ_REQ is away until its response arrives; a completion
WRITE ends the added latency of its CQEs. -/
def State.pktLeft (s : State) (p : HktPkt) : State :=
  match p.ext with
  | .readReq _ =>
    match (s.ctx p.hdr.src p.hdr.dst).bind fun c => c.reads.find? fun r => r.msgId = p.hdr.msgId with
    | none => s
    | some r =>
      if r.left then s
      else
        let s := s.modCtx p.hdr.src p.hdr.dst fun c =>
          { c with reads := c.reads.map fun r => if r.msgId = p.hdr.msgId then { r with left := true } else r }
        match r.purpose with
        | .sqeFetch q => s.modQp q fun x => { x with fetches := match x.fetches with
            | f :: t => { f with asked := some s.dtc } :: t
            | [] => [] }
        | .cmdData c _ => s.awayOn c
        | _ => s
  | .write x =>
    match s.qpe.qps.find? fun (_, q) => q.cqKey = x.key with
    | some (q, _) => s.sampleLats q p.hdr.msgId.toNat
    | none => s
  | _ => s

/-- The lane time of a packet under line protection (R176). -/
def State.lineSent (s : State) (p : HktPkt) : State :=
  match sessionSlot s.key p.hdr.src p.hdr.dst p.hdr.epoch with
  | some slot => if p.hdr.flags.g then s.linePush slot p.ing.body.length true else s
  | none => s

/-- A packet of the module leaves a port, sealed (R46, R70); one toward a protected peer without a usable key is dropped and never leaves
in clear (R169). -/
def State.leavePkt (s : State) (root : Nat) (i : TmsItem) (p : HktPkt) : State :=
  let s := s.dropCells i.cells
  match s.seal p with
  | none => s
  | some (q, s) =>
    ((((s.send (.hkt q (s.wireOf root q))).bump (ctrMac root 2)).bump (ctrMac root 3) (s.wireBytes root q)).lineSent q).pktLeft p

/-- A packet waiting for the management port leaves it (R427), unless it must wait for the next 640 ns tick (R173). -/
def State.mgmtLeave (s : State) (p : HktPkt) : State :=
  if s.stampTaken p then { s with hkt := { s.hkt with mgmtOut := s.hkt.mgmtOut ++ [p] } }
  else
    match s.seal p with
    | none => s
    | some (q, s) => ((s.send (.hkt q (s.wireOf mgmtPort q))).lineSent q).pktLeft p

/-- The management port sends what waits for it, in order: no root of the scheduler serves it (R427, assumption log 117). -/
def State.mgmtServe (s : State) : State :=
  ({ s with hkt := { s.hkt with mgmtOut := [] } }).each s.hkt.mgmtOut State.mgmtLeave

/-- An item leaves a port: a packet the module sends is sealed (R46, R70), a frame's head leaves; egress mirror copies
are taken (R357); on a port that is down the item is discarded and counted (R363). -/
def State.leavePort (s : State) (root : Nat) (i : TmsItem) : State :=
  if !s.portUp root then
    match i.work with
    | .pkt p => (s.dropCells i.cells).dropAtQueue root p.hdr.svc (s.wireBytes root p)
    | .frame id => match tget s.swc.frames id with
      | some x => (s.dropAtQueue root x.tc x.f.len).endCopy id root none
      | none => s
    | .drive _ => s
  else
    match i.work with
    | .pkt p => s.leavePkt root i p
    | .frame id => match tget s.swc.frames id with
      | none => s
      | some x =>
        match x.copies.find? fun c => c.dst = root && c.stamp.isSome && !c.left with
        | none => s
        | some c =>
          let s := (s.bump (ctrMac root 2)).bump (ctrMac root 3) (s.leavingFrame x c).len
          let (ms, s) := s.mirrorPick 1 root x.f
          let x := { x with copies := x.copies.map fun (d : SwcCopy) => if d.dst = root && d.mirror = c.mirror then { d with left := true } else d }
          let (mok, mbad) := ms.partition fun m => s.admits x.f x.cells.length (s.get SWC_MIRROR_tc m) true (s.get SWC_MIRROR_dst_port m)
          let s := s.each mbad fun s m =>
            { s with swc := { s.swc with mirDrops := tput s.swc.mirDrops m (tgetD s.swc.mirDrops m 0 + 1) } }
          let more := mok.map fun m => s.mirrorCopy m x.cells.length
          let s := { s with swc := { s.swc with cells := more.foldl (fun t _ => shareUnits t x.cells) s.swc.cells } }
          let s := s.putFrame id { x with copies := x.copies ++ more }
          let s := s.each more fun s d => s.voqPush id x.f.port d x.cells.length
          let s := if x.tail = some true then s.send (.frame root (s.leavingFrame x c) false) else s
          s.settleCopy id root c.mirror
    | .drive _ => s

/-! ## The calendar (R93, R94) -/

/-- PACED_SEND (R79): one packet of a context whose window is below 1, the next one interval after its due time (R94); with a window of 0
there is no interval and only the window probe sends. -/
def State.pacedSend (s : State) (loc peer : Eid) (due : Word64) : State :=
  match s.ctx loc peer with
  | none => s
  | some c =>
    if 256 ≤ c.w256 then s.pump loc peer
    else if c.w256 = 0 then s
    else match c.unsent with
      | [] => s
      | m :: rest =>
        if s.maySend c m 1024 then
          let (s, c) := s.sendOne c m rest
          if c.unsent.isEmpty then s else s.calPut (.paced loc peer) due (due + BitVec.ofNat 64 (s.paceTicks c))
        else s.calPut (.paced loc peer) due (due + BitVec.ofNat 64 (s.paceTicks c))

/-- SLICE_SHAPER_RESUME (R411): fetch of a slice's queues resumes once both buckets are at 0 or more. -/
def State.sliceResume (s : State) (n : Nat) : State :=
  if s.sliceShaped n then s else s.each (s.qpsOf (.slice n)) State.fetchIssue

end Sys2Proof.Machine
end

