-- ==== Sys2Proof/Machine/Sched.lean ====
section
/-! DEFINITION. What the scheduler and the calendar serve (R88, R93): items of every root, and what waits on a slot of the
wheel. -/

namespace Sys2Proof.Machine

open F

/-- SCHEDULER_PICK (R88): a root's next item leaves: a packet or frame at a port, a drive command on the drive root; what waits for the
management port leaves too (assumption log 117). -/
def State.schedPick (s : State) (root : Nat) : State :=
  let s := s.mgmtServe
  match s.takeItem root with
  | none => s
  | some (i, s) => match i.work with
    | .drive c => s.driveIssue c
    | _ => s.leavePort root i

/-- SCHEDULER_PICK (R88). -/
def execSchedulerPick (root : Nat) (s : State) : Host.Outcome State Fault Refusal :=
  s.commit
    { parts := [.evt, .ctr, .tel, .hkt, .tms, .mac, .swc, .qpe, .nsm, .key, .cip, .str, .jnl, .drv, .reb, .pair,
        .freeCtr, .outbox], fields := qpeLive ++ rebLive ++ cells ++ firnSeq ++ openSeg }
    (s.schedPick (root % 35))

/-- The due time of an entity computed anew (R93, R94): by what its rates, window and bucket now are. -/
def State.calDue (s : State) (e : CalEntry) : Word64 :=
  match e.what with
  | .shaper i => s.shaperDue i
  | .paced l p => match s.ctx l p with | some c => e.base + BitVec.ofNat 64 (s.paceTicks c) | none => s.dtc
  | .held c => match s.cmd c with | some x => s.heldDue (s.cmdTenant x) x.heldLen (s.precolour x.qpn) | none => s.dtc
  | .sliceShaper _ => e.due

/-- One entity of the calendar served (R79, R89, R97, R411): a shaped node is eligible again by its tokens, a paced context
sends, a held command is measured, a slice fetches again. -/
def State.calServe (s : State) (e : CalEntry) : State :=
  match e.what with
  | .shaper _ => s
  | .paced l p => s.pacedSend l p e.due
  | .held c => s.remeasure c
  | .sliceShaper n => s.sliceResume n

/-- CALENDAR_SLOT (R93, R94): the entities of a slot served in insertion order; the due time of one that lay in the horizon's last slot is
computed anew, and it is inserted again where it is not yet due. -/
def State.calSlot (s : State) (slot : Nat) : State :=
  let l := s.tms.calendar.filter fun e => e.slot = slot
  let s := { s with tms := { s.tms with calendar := s.tms.calendar.filter fun e => e.slot != slot } }
  let ahead (d : Word64) : Bool := decide (64 ≤ (d - s.dtc).toNat) && decide ((d - s.dtc).toNat < 2 ^ 63)
  s.each l fun s e => if ahead e.due && ahead (s.calDue e) then s.calPut e.what e.base (s.calDue e) else s.calServe e

/-- CALENDAR_SLOT (R93). -/
def execCalendarSlot (slot : Nat) (s : State) : Host.Outcome State Fault Refusal :=
  s.commit { parts := fetchParts, fields := cells ++ contexts ++ [SLC_LOG_STATUS_out_span] }
    (s.calSlot (slot % 16384))

end Sys2Proof.Machine
end

