-- ==== Sys2Proof/Machine/Switch.lean ====
section
/-! DEFINITION. The commands of the switch core (chapter 12) and of the forwarding tables (chapter 13), each over the shared
operations of Swc and Fwd. -/

namespace Sys2Proof.Machine

open F

/-- A frame's head arrives (R349). -/
def execFrameHeadArrival (f : Frame) (s : State) : Host.Outcome State Fault Refusal :=
  s.commit { parts := [.evt, .ctr, .mac, .swc, .fwd, .pair, .outbox], fields := cells ++ [PAIR_STATUS_links] }
    ((if f.port = 32 || f.port = 33 then s.linkAlive (f.port - 32) else s).frameHead f)

/-- A frame's tail arrives, with its length (R353). -/
def execFrameTailArrival (id : Nat) (t : FrameTail) (len : Nat) (s : State) : Host.Outcome State Fault Refusal :=
  s.commit { parts := [.ctr, .tms, .mac, .swc, .outbox], fields := cells }
    (s.frameTail id t len)

/-- The audit of cells and staging cells (R360). -/
def execMoraineSweep (s : State) : Host.Outcome State Fault Refusal :=
  s.commit { parts := [.evt, .ctr, .swc], fields := swcLive }
    (s.moraineSweep)

/-- PRIVILEGED_PORT_DOWN (R362, R326, R380): flushed, a pair link's state follows its port, a cluster port's module entries go. -/
def State.privilegedPortDown (s : State) (p : Nat) : State :=
  let s := (s.privilegedDown p).linksCheck
  if p = 32 || p = 33 then s.portGone p else s

/-- A pair link or the CPU port goes down (R362); a pair link's state follows its port (R326). -/
def execPrivilegedPortDown (p : Nat) (s : State) : Host.Outcome State Fault Refusal :=
  s.commit
    { parts := [.evt, .ctr, .tms, .mac, .swc, .fwd, .key, .freeCtr, .outbox],
      fields := fwdLive ++ cells ++ [MAC_PORT_STATUS_flaps, MAC_PORT_STATUS_speed, MAC_PORT_STATUS_up, PAIR_STATUS_links] }
    (s.privilegedPortDown p)

/-- A front port goes down (R363). -/
def execFrontPortDown (p : Nat) (s : State) : Host.Outcome State Fault Refusal :=
  s.commit
    { parts := [.evt, .ctr, .tms, .swc, .fwd, .freeCtr],
      fields := fwdLive ++ cells ++ [MAC_PORT_STATUS_flaps, MAC_PORT_STATUS_speed, MAC_PORT_STATUS_up, PAIR_STATUS_links] }
    ((s.frontPortDown p).linksCheck)

/-- A port's link comes up (R363); ports are enabled at step 7 of the boot (R479, R432); port 48 is the CPU port (R362). -/
def State.linkUp (s : State) (p : Nat) : State :=
  if p = 48 then s.cpuPortUp else if s.portsOpen then (s.portLinkUp p).linksCheck else s

/-- A port's link comes up (R363). -/
def execPortLinkUp (p : Nat) (s : State) : Host.Outcome State Fault Refusal :=
  s.commit
    { parts := [.evt, .ctr, .tms, .swc, .fwd, .freeCtr],
      fields := cells ++ [MAC_PORT_STATUS_fec_lock, MAC_PORT_STATUS_speed, MAC_PORT_STATUS_up, PAIR_STATUS_links] }
    (s.linkUp p)

/-- The update pipeline takes a learning message (R379). -/
def execLearnMessage (s : State) : Host.Outcome State Fault Refusal :=
  s.commit { parts := [.evt, .ctr, .fwd], fields := fwdLive }
    (s.learnMessage)

/-- The update pipeline takes a hit message of an ingress pipeline (R382). -/
def execHitMessage (pipe : Nat) (s : State) : Host.Outcome State Fault Refusal :=
  s.commit { parts := [.fwd], fields := [FWD_EPOCH_current, FWD_TABLE_entries, FWD_TABLE_stash_used] }
    (s.hitMessage pipe)

/-- A LEARN packet with module records, from the MAC address of the neighbour (R380). -/
def execLearnModuleRx (h : HktHdr) (g : Ingress) (mac hop : Nat) (seq : Word32) (l : List ModRec) (s : State) : Host.Outcome State Fault Refusal :=
  s.commit { parts := [.evt, .ctr, .hkt, .tms, .swc, .fwd, .key, .cip, .freeCtr], fields := fwdLive ++ cells }
    (s.learnModuleRx ⟨{ h with opcode := 11 }, .learnMod hop seq l, g⟩ mac hop seq l)

/-- The module sends its own record (R380). -/
def execModuleRecordRefresh (s : State) : Host.Outcome State Fault Refusal :=
  s.commit { parts := [.ctr, .tms, .swc, .fwd, .freeCtr], fields := cells }
    (s.moduleRefresh)

/-- A sweep of the ager (R381). -/
def execAgerSweep (s : State) : Host.Outcome State Fault Refusal :=
  s.commit
    { parts := [.ctr, .fwd],
      fields := [FWD_EPOCH_current, FWD_TABLE_entries, FWD_TABLE_stash_used, FWD_PORT_CFG_learned] }
    (s.agerSweep)

/-- The rehash walk of a table, EPT 0 or MAT 1, runs (R375). -/
def execRehashWalk (t : Nat) (s : State) : Host.Outcome State Fault Refusal :=
  s.commit { parts := [.evt, .ctr, .fwd], fields := fwdLive }
    (if t < 2 then s.rehashWalk t else s)

/-- A stalled walk tries its entry again (R375). -/
def execRehashRetry (t : Nat) (s : State) : Host.Outcome State Fault Refusal :=
  s.commit { parts := [.evt, .ctr, .fwd], fields := fwdLive }
    (if t < 2 then s.rehashRetry t else s)

/-- FWD_CMD INSERT on a table with the entry of FWD_CMD_DATA (R383). -/
def execFwdInsert (t : Nat) (s : State) : Host.Outcome State Fault Refusal :=
  s.commit { parts := [.evt, .ctr, .fwd], fields := fwdLive }
    (if t < 2 then s.fwdCmdInsert t else s)

/-- FWD_CMD DELETE on a table with the entry of FWD_CMD_DATA (R383). -/
def execFwdDelete (t : Nat) (s : State) : Host.Outcome State Fault Refusal :=
  s.commit { parts := [.fwd], fields := fwdLive }
    (if t < 2 then s.fwdCmdDelete t else s)

/-- FWD_CMD LOOKUP on a table with the entry of FWD_CMD_DATA (R383). -/
def execFwdLookup (t : Nat) (s : State) : Host.Outcome State Fault Refusal :=
  s.commit { fields := [FWD_CMD_result, FWD_CMD_DATA_data] }
    (if t < 2 then s.fwdCmdLookup t else s)

/-- FWD_CMD REHASH on a table (R383); where a request stands it is resident firmware's answer, with new seeds (R375, assumption log 111). -/
def execFwdRehash (t : Nat) (s : State) : Host.Outcome State Fault Refusal :=
  s.commit { parts := [.key, .freeCtr], fields := [FWD_CMD_result, FWD_TABLE_state, FWD_SEED_seed1, FWD_SEED_seed2] }
    (if t < 2 then (if s.flag FWD_TABLE_req t && !s.rehashing t then s.newSeeds t else s).fwdCmdRehash t else s)

/-- FWD_CMD FLUSH_PORT: learned entries of a table that name a port removed (R383). -/
def execFwdFlushPort (t p : Nat) (s : State) : Host.Outcome State Fault Refusal :=
  s.commit { parts := [.fwd], fields := fwdLive }
    (if t < 2 then s.fwdCmdFlush t (p % 64) else s)

/-- A cell slot of the crossbar (R354). -/
def execCellSlot (s : State) : Host.Outcome State Fault Refusal :=
  s.commit { parts := [.ctr, .tms, .mac, .swc, .outbox], fields := cells }
    (s.cellSlot)

end Sys2Proof.Machine
end

