-- ==== Sys2Proof/Machine/Transport.lean ====
section
/-! DEFINITION. The commands of the transport (chapter 02) and of the tenant scheduler and flow control (chapter 03), each over the
shared operations of Hkt and Tms. -/

namespace Sys2Proof.Machine

open F

/-- A received packet of an opcode (R46, R47): the header's opcode field is the command's own. -/
def rxPacket (op : Nat) (h : HktHdr) (x : HktExt) (g : Ingress) : HktPkt := ⟨{ h with opcode := op }, x, g⟩

/-- A packet of opcode 1 arrives (R47, R49, R59). -/
def execHktWriteRx (h : HktHdr) (x : WriteExt) (g : Ingress) (s : State) : Host.Outcome State Fault Refusal :=
  s.commit
    { parts := packetParts,
      fields := qpeLive ++ rebLive ++ cells ++ firnSeq ++ contexts ++ [GLB_STATUS_mgmt_denied, EVT_RING_PTR_stalled, JNL_NEVE_SEQ_next_seq, SLC_LOG_STATUS_out_span] }
    (s.rxData 1 (rxPacket 1 h (.write x) g))

/-- A packet of opcode 2 arrives (R47, R49, R60). -/
def execHktReadReqRx (h : HktHdr) (x : ReadReqExt) (g : Ingress) (s : State) : Host.Outcome State Fault Refusal :=
  s.commit
    { parts := packetParts,
      fields := qpeLive ++ rebLive ++ cells ++ firnSeq ++ contexts ++ [GLB_STATUS_mgmt_denied, EVT_RING_PTR_stalled, JNL_NEVE_SEQ_next_seq, SLC_LOG_STATUS_out_span] }
    (s.rxData 2 (rxPacket 2 h (.readReq x) g))

/-- A packet of opcode 3 arrives (R47, R49, R59, R60). -/
def execHktReadRespRx (h : HktHdr) (x : ReadRespExt) (g : Ingress) (s : State) : Host.Outcome State Fault Refusal :=
  s.commit
    { parts := packetParts,
      fields := qpeLive ++ rebLive ++ cells ++ firnSeq ++ contexts ++ [GLB_STATUS_mgmt_denied, EVT_RING_PTR_stalled, JNL_NEVE_SEQ_next_seq, SLC_LOG_STATUS_out_span] }
    (s.rxData 3 (rxPacket 3 h (.readResp x) g))

/-- A packet of opcode 4 arrives (R47, R49, R53). -/
def execHktSendRx (h : HktHdr) (x : SendExt) (g : Ingress) (s : State) : Host.Outcome State Fault Refusal :=
  s.commit
    { parts := packetParts,
      fields := qpeLive ++ rebLive ++ cells ++ firnSeq ++ contexts ++ [GLB_STATUS_mgmt_denied, EVT_RING_PTR_stalled, JNL_NEVE_SEQ_next_seq, SLC_LOG_STATUS_out_span] }
    (s.rxData 4 (rxPacket 4 h (.send x) g))

/-- A packet of opcode 5 arrives (R47, R49, R110). -/
def execHktDoorbellRx (h : HktHdr) (x : DoorbellExt) (g : Ingress) (s : State) : Host.Outcome State Fault Refusal :=
  s.commit
    { parts := packetParts,
      fields := qpeLive ++ rebLive ++ cells ++ firnSeq ++ contexts ++ [GLB_STATUS_mgmt_denied, EVT_RING_PTR_stalled, JNL_NEVE_SEQ_next_seq, SLC_LOG_STATUS_out_span] }
    (s.rxData 5 (rxPacket 5 h (.doorbell x) g))

/-- A packet of opcode 8 arrives (R49, R62). -/
def execHktAckRx (h : HktHdr) (x : AckExt) (g : Ingress) (s : State) : Host.Outcome State Fault Refusal :=
  s.commit { parts := [.evt, .ctr, .tel, .hkt, .tms, .swc, .qpe, .key, .cip, .freeCtr], fields := cells ++
      [HKT_CTX_STATUS_cached, HKT_CTX_STATUS_spilled] }
    (s.rxAck (rxPacket 8 h (.ack x) g) x)

/-- A packet of opcode 9 arrives (R50, R62). -/
def execHktNakRx (h : HktHdr) (x : NakExt) (g : Ingress) (s : State) : Host.Outcome State Fault Refusal :=
  s.commit
    { parts := [.evt, .ctr, .tel, .hkt, .tms, .swc, .qpe, .nsm, .key, .cip, .jnl, .pair, .freeCtr, .outbox], fields :=
        qpeLive ++ cells ++ [EVT_RING_PTR_stalled, JNL_NEVE_STATUS_high_water, HKT_CTX_STATUS_cached,
        HKT_CTX_STATUS_spilled] }
    (s.rxNak (rxPacket 9 h (.nak x) g) x)

/-- A packet of opcode 10 arrives (R49, R64). -/
def execHktProbeRx (h : HktHdr) (x : ProbeExt) (g : Ingress) (s : State) : Host.Outcome State Fault Refusal :=
  s.commit { parts := [.evt, .ctr, .hkt, .tms, .swc, .key, .cip, .freeCtr], fields := cells ++ [HKT_CTX_STATUS_cached,
      HKT_CTX_STATUS_spilled] }
    (s.rxProbe (rxPacket 10 h (.probe x) g) x)

/-- The ACK delay of a context ends and its ACK is sent (R59). -/
def execAckDelayExpiry (loc peer : Eid) (s : State) : Host.Outcome State Fault Refusal :=
  s.commit { parts := [.ctr, .hkt, .tms, .swc], fields := cells }
    (s.ackDelay loc peer)

/-- The gap timer of a context ends: NAK SEQ_GAP again (R59). -/
def execGapTimerExpiry (loc peer : Eid) (s : State) : Host.Outcome State Fault Refusal :=
  s.commit { parts := [.ctr, .hkt, .tms, .swc], fields := cells }
    (s.gapTimeout loc peer)

/-- The retransmit timer of a context ends (R62, R77). -/
def execRtoExpiry (loc peer : Eid) (s : State) : Host.Outcome State Fault Refusal :=
  s.commit
    { parts := [.evt, .ctr, .hkt, .tms, .swc, .qpe, .nsm, .jnl, .pair, .outbox],
      fields := qpeLive ++ cells ++ [EVT_RING_PTR_stalled, JNL_NEVE_STATUS_high_water] }
    (s.rtoExpiry loc peer)

/-- The wait a receiver-not-ready NAK asked for ends (R62). -/
def execRnrWaitExpiry (loc peer : Eid) (s : State) : Host.Outcome State Fault Refusal :=
  s.commit { parts := [.ctr, .hkt, .tms, .swc], fields := cells }
    (s.rnrExpiry loc peer)

/-- A window probe toward a peer with no window (R75). -/
def execWindowProbeDue (loc peer : Eid) (s : State) : Host.Outcome State Fault Refusal :=
  s.commit { parts := [.ctr, .hkt, .tms, .swc], fields := cells }
    (s.windowProbe loc peer)

/-- The slow paths of a context are probed (R64). -/
def execPathProbeInterval (loc peer : Eid) (s : State) : Host.Outcome State Fault Refusal :=
  s.commit { parts := [.ctr, .hkt, .tms, .swc], fields := cells }
    (s.probePaths loc peer)

/-- A context moves to its next epoch (R173). -/
def execEpochAdvance (loc peer : Eid) (s : State) : Host.Outcome State Fault Refusal :=
  s.commit { parts := [.ctr, .hkt, .tms, .swc], fields := cells }
    (s.epochAdvance loc peer)

/-- Spill space has returned: the first waiting send proceeds (R54). -/
def execSpillSendResume (s : State) : Host.Outcome State Fault Refusal :=
  s.commit { parts := [.evt, .ctr, .hkt, .tms, .swc, .key, .freeCtr], fields := cells ++ contexts }
    (s.spillResume)

/-- The packets past the key check are done: a revoked region is free, its tag one higher (R68). -/
def execRegionRevokeDone (i : Nat) (s : State) : Host.Outcome State Fault Refusal :=
  s.commit { parts := [.ctr, .hkt, .qpe, .pair, .outbox], fields := qpeLive }
    (s.revokeDone i)

/-- A command held by the policer for 100 ms (R97). -/
def execPoliceHoldTimeout (c : Nat) (s : State) : Host.Outcome State Fault Refusal :=
  s.commit { parts := [.ctr, .qpe, .pair, .outbox], fields := qpeLive }
    (s.policeTimeout c)

/-- Depth and head delay of every egress queue (R98). -/
def execTmsQueueSample (s : State) : Host.Outcome State Fault Refusal :=
  s.commit { parts := [.evt, .ctr, .tel, .hkt, .tms], fields := [TMS_QSAMPLE_depth, TMS_QSAMPLE_head_delay] }
    (s.queueSample)

/-- The pause a port sent for a priority is refreshed (R83). -/
def execPfcRefresh (p tc : Nat) (s : State) : Host.Outcome State Fault Refusal :=
  s.commit { parts := [.ctr, .mac, .outbox] }
    (s.pfcRefresh p tc)

/-- A PFC frame: the priorities it names, with their quanta (R84). -/
def execPfcFrameRx (p : Nat) (l : List (Nat × Nat)) (s : State) : Host.Outcome State Fault Refusal :=
  s.commit { parts := [.ctr, .mac] }
    (s.pfcRx p l)

/-- A priority's pause has run out (R84). -/
def execPfcPauseExpiry (p tc : Nat) (s : State) : Host.Outcome State Fault Refusal :=
  s.commit { parts := [.ctr, .mac] }
    (s.pfcExpiry p tc)

/-- A priority paused for storm_ms with frames waiting (R85). -/
def execPfcStormTrip (p tc : Nat) (s : State) : Host.Outcome State Fault Refusal :=
  s.commit { parts := [.evt, .ctr, .mac] }
    (s.pfcTrip p tc)

/-- A tripped priority quiet for storm_restore (R85). -/
def execPfcStormRestore (p tc : Nat) (s : State) : Host.Outcome State Fault Refusal :=
  s.commit { parts := [.evt, .ctr, .mac] }
    (s.pfcRestore p tc)

end Sys2Proof.Machine
end

