-- ==== Sys2Proof/Machine/Dispatch.lean ====
section
/-! DEFINITION. One arm for each command: a direct call of its meaning. -/

namespace Sys2Proof.Machine

def exec (i : Instr) (s : State) : Host.Outcome State Fault Refusal :=
  match i with
  | .registerWrite path a width v => Sys2Proof.Machine.execRegisterWrite path a width v s
  | .swcBufStatusRead => Sys2Proof.Machine.execSwcBufStatusRead s
  | .pwrBusStatusRead => Sys2Proof.Machine.execPwrBusStatusRead s
  | .sltChAvgRead x => Sys2Proof.Machine.execSltChAvgRead x s
  | .coldReset straps feed banks b => Sys2Proof.Machine.execColdReset straps feed banks b s
  | .warmReset cause b => Sys2Proof.Machine.execWarmReset cause b s
  | .coreDataAccess core => Sys2Proof.Machine.execCoreDataAccess core s
  | .refLost ppm => Sys2Proof.Machine.execRefLost ppm s
  | .hbmUe area off hit => Sys2Proof.Machine.execHbmUe area off hit s
  | .mgmtRegisterAccess => Sys2Proof.Machine.execMgmtRegisterAccess s
  | .hktWriteRx h x g => Sys2Proof.Machine.execHktWriteRx h x g s
  | .hktReadReqRx h x g => Sys2Proof.Machine.execHktReadReqRx h x g s
  | .hktReadRespRx h x g => Sys2Proof.Machine.execHktReadRespRx h x g s
  | .hktSendRx h x g => Sys2Proof.Machine.execHktSendRx h x g s
  | .hktDoorbellRx h x g => Sys2Proof.Machine.execHktDoorbellRx h x g s
  | .hktAckRx h x g => Sys2Proof.Machine.execHktAckRx h x g s
  | .hktNakRx h x g => Sys2Proof.Machine.execHktNakRx h x g s
  | .hktProbeRx h x g => Sys2Proof.Machine.execHktProbeRx h x g s
  | .ackDelayExpiry loc peer => Sys2Proof.Machine.execAckDelayExpiry loc peer s
  | .gapTimerExpiry loc peer => Sys2Proof.Machine.execGapTimerExpiry loc peer s
  | .rtoExpiry loc peer => Sys2Proof.Machine.execRtoExpiry loc peer s
  | .rnrWaitExpiry loc peer => Sys2Proof.Machine.execRnrWaitExpiry loc peer s
  | .windowProbeDue loc peer => Sys2Proof.Machine.execWindowProbeDue loc peer s
  | .pathProbeInterval loc peer => Sys2Proof.Machine.execPathProbeInterval loc peer s
  | .epochAdvance loc peer => Sys2Proof.Machine.execEpochAdvance loc peer s
  | .spillSendResume => Sys2Proof.Machine.execSpillSendResume s
  | .regionRevokeDone idx => Sys2Proof.Machine.execRegionRevokeDone idx s
  | .calendarSlot slot => Sys2Proof.Machine.execCalendarSlot slot s
  | .policeHoldTimeout c => Sys2Proof.Machine.execPoliceHoldTimeout c s
  | .tmsQueueSample => Sys2Proof.Machine.execTmsQueueSample s
  | .schedulerPick root => Sys2Proof.Machine.execSchedulerPick root s
  | .pfcRefresh p tc => Sys2Proof.Machine.execPfcRefresh p tc s
  | .pfcFrameRx p l => Sys2Proof.Machine.execPfcFrameRx p l s
  | .pfcPauseExpiry p tc => Sys2Proof.Machine.execPfcPauseExpiry p tc s
  | .pfcStormTrip p tc => Sys2Proof.Machine.execPfcStormTrip p tc s
  | .pfcStormRestore p tc => Sys2Proof.Machine.execPfcStormRestore p tc s
  | .queueCreate src dst m => Sys2Proof.Machine.execQueueCreate src dst m s
  | .queueDelete src dst m => Sys2Proof.Machine.execQueueDelete src dst m s
  | .queueQuery src dst m => Sys2Proof.Machine.execQueueQuery src dst m s
  | .queueReset src dst m => Sys2Proof.Machine.execQueueReset src dst m s
  | .queueDeletionDone q => Sys2Proof.Machine.execQueueDeletionDone q s
  | .createIoCq c => Sys2Proof.Machine.execCreateIoCq c s
  | .createIoSq c => Sys2Proof.Machine.execCreateIoSq c s
  | .deleteIoSq c => Sys2Proof.Machine.execDeleteIoSq c s
  | .deleteIoCq c => Sys2Proof.Machine.execDeleteIoCq c s
  | .localDoorbellWrite o offset width value => Sys2Proof.Machine.execLocalDoorbellWrite o offset width value s
  | .fetchResume => Sys2Proof.Machine.execFetchResume s
  | .sqeFetchComplete q => Sys2Proof.Machine.execSqeFetchComplete q s
  | .localDmaCompletion j d => Sys2Proof.Machine.execLocalDmaCompletion j d s
  | .dmaCompletionTimeout j abort => Sys2Proof.Machine.execDmaCompletionTimeout j abort s
  | .commandStart c => Sys2Proof.Machine.execCommandStart c s
  | .cqePost q => Sys2Proof.Machine.execCqePost q s
  | .mergeWaitExpiry q => Sys2Proof.Machine.execMergeWaitExpiry q s
  | .notifyTimeExpiry q => Sys2Proof.Machine.execNotifyTimeExpiry q s
  | .intCoalesceExpiry o v => Sys2Proof.Machine.execIntCoalesceExpiry o v s
  | .flush c => Sys2Proof.Machine.execFlush c s
  | .flushDone c => Sys2Proof.Machine.execFlushDone c s
  | .write c => Sys2Proof.Machine.execWrite c s
  | .read c => Sys2Proof.Machine.execRead c s
  | .writeZeroes c => Sys2Proof.Machine.execWriteZeroes c s
  | .datasetManagement c => Sys2Proof.Machine.execDatasetManagement c s
  | .copy c => Sys2Proof.Machine.execCopy c s
  | .wait c => Sys2Proof.Machine.execWait c s
  | .waitTimeout c => Sys2Proof.Machine.execWaitTimeout c s
  | .abort c => Sys2Proof.Machine.execAbort c s
  | .adminHoldTimeout c => Sys2Proof.Machine.execAdminHoldTimeout c s
  | .ownerHoldTimeout c => Sys2Proof.Machine.execOwnerHoldTimeout c s
  | .getLogPage c => Sys2Proof.Machine.execGetLogPage c s
  | .identify c => Sys2Proof.Machine.execIdentify c s
  | .setFeatures c => Sys2Proof.Machine.execSetFeatures c s
  | .setFeaturesTenant c => Sys2Proof.Machine.execSetFeaturesTenant c s
  | .setFeaturesNsService c => Sys2Proof.Machine.execSetFeaturesNsService c s
  | .nsServiceDone => Sys2Proof.Machine.execNsServiceDone s
  | .getFeatures c => Sys2Proof.Machine.execGetFeatures c s
  | .asyncEventRequest c => Sys2Proof.Machine.execAsyncEventRequest c s
  | .nsCreate c => Sys2Proof.Machine.execNsCreate c s
  | .nsDelete c => Sys2Proof.Machine.execNsDelete c s
  | .nsDeleteDrained idx => Sys2Proof.Machine.execNsDeleteDrained idx s
  | .nsAttach c => Sys2Proof.Machine.execNsAttach c s
  | .nsDetach c => Sys2Proof.Machine.execNsDetach c s
  | .regionRegister c => Sys2Proof.Machine.execRegionRegister c s
  | .regionRevoke c => Sys2Proof.Machine.execRegionRevoke c s
  | .firmwareImageDownload c => Sys2Proof.Machine.execFirmwareImageDownload c s
  | .downloadBufferExpiry => Sys2Proof.Machine.execDownloadBufferExpiry s
  | .firmwareCommitStore c => Sys2Proof.Machine.execFirmwareCommitStore c s
  | .firmwareCommitPending c => Sys2Proof.Machine.execFirmwareCommitPending c s
  | .firmwareCommitActivateSlot c => Sys2Proof.Machine.execFirmwareCommitActivateSlot c s
  | .firmwareCommitActivateNow c => Sys2Proof.Machine.execFirmwareCommitActivateNow c s
  | .actHandoverDone => Sys2Proof.Machine.execActHandoverDone s
  | .actFirmwareReady pkgs => Sys2Proof.Machine.execActFirmwareReady pkgs s
  | .actTimeout => Sys2Proof.Machine.execActTimeout s
  | .cipherUnitDone lane => Sys2Proof.Machine.execCipherUnitDone lane s
  | .neveReserve => Sys2Proof.Machine.execNeveReserve s
  | .kekAgree slot persist => Sys2Proof.Machine.execKekAgree slot persist s
  | .keyImport slot aux kind assured persist => Sys2Proof.Machine.execKeyImport slot aux kind assured persist s
  | .zeroise slot => Sys2Proof.Machine.execZeroise slot s
  | .rotateNs slot idx zap => Sys2Proof.Machine.execRotateNs slot idx zap s
  | .zeroiseAll => Sys2Proof.Machine.execZeroiseAll s
  | .rotationSweep idx => Sys2Proof.Machine.execRotationSweep idx s
  | .keyEpProtWrite e eid len slot => Sys2Proof.Machine.execKeyEpProtWrite e eid len slot s
  | .prevSlotExpiry e => Sys2Proof.Machine.execPrevSlotExpiry e s
  | .drbgReseed => Sys2Proof.Machine.execDrbgReseed s
  | .noiseTestFail l => Sys2Proof.Machine.execNoiseTestFail l s
  | .keyFrameRx h f => Sys2Proof.Machine.execKeyFrameRx h f s
  | .headPlaceBlock g => Sys2Proof.Machine.execHeadPlaceBlock g s
  | .fillTimerExpiry n => Sys2Proof.Machine.execFillTimerExpiry n s
  | .chunkWriteDone x tag => Sys2Proof.Machine.execChunkWriteDone x tag s
  | .firnFlushExpiry => Sys2Proof.Machine.execFirnFlushExpiry s
  | .compactionStart => Sys2Proof.Machine.execCompactionStart s
  | .mapPageReadDone ns p => Sys2Proof.Machine.execMapPageReadDone ns p s
  | .calvingVictim => Sys2Proof.Machine.execCalvingVictim s
  | .segmentReleaseDone seg => Sys2Proof.Machine.execSegmentReleaseDone seg s
  | .nsLiveWalk => Sys2Proof.Machine.execNsLiveWalk s
  | .adaptWindowEnd g => Sys2Proof.Machine.execAdaptWindowEnd g s
  | .hedgeWindowEnd => Sys2Proof.Machine.execHedgeWindowEnd s
  | .lateHedgeExpiry r => Sys2Proof.Machine.execLateHedgeExpiry r s
  | .nevePutRx h idx d b => Sys2Proof.Machine.execNevePutRx h idx d b s
  | .firnPutRx h l => Sys2Proof.Machine.execFirnPutRx h l s
  | .mirrorAckRx h a f => Sys2Proof.Machine.execMirrorAckRx h a f s
  | .neveRetireRx h l => Sys2Proof.Machine.execNeveRetireRx h l s
  | .neveFetchRx h idx => Sys2Proof.Machine.execNeveFetchRx h idx s
  | .dumpStart => Sys2Proof.Machine.execDumpStart s
  | .mirrorFlushEnd => Sys2Proof.Machine.execMirrorFlushEnd s
  | .dumpSeal sealed torn power b => Sys2Proof.Machine.execDumpSeal sealed torn power b s
  | .orderlyStopDrained b => Sys2Proof.Machine.execOrderlyStopDrained b s
  | .orderlyStopTimeout => Sys2Proof.Machine.execOrderlyStopTimeout s
  | .linkLossTimeout x => Sys2Proof.Machine.execLinkLossTimeout x s
  | .rebuildSegmentStart => Sys2Proof.Machine.execRebuildSegmentStart s
  | .rebuildStripeDone seg => Sys2Proof.Machine.execRebuildStripeDone seg s
  | .rebuildRateUpdate => Sys2Proof.Machine.execRebuildRateUpdate s
  | .crevassePersist => Sys2Proof.Machine.execCrevassePersist s
  | .crevasseWalk => Sys2Proof.Machine.execCrevasseWalk s
  | .crevasseFrameRx h f => Sys2Proof.Machine.execCrevasseFrameRx h f s
  | .rebFail x => Sys2Proof.Machine.execRebFail x s
  | .rebAdopt x => Sys2Proof.Machine.execRebAdopt x s
  | .rebPause => Sys2Proof.Machine.execRebPause s
  | .rebResume => Sys2Proof.Machine.execRebResume s
  | .createPool => Sys2Proof.Machine.execCreatePool s
  | .adoption x => Sys2Proof.Machine.execAdoption x s
  | .rewiden => Sys2Proof.Machine.execRewiden s
  | .memberFrameRx h f => Sys2Proof.Machine.execMemberFrameRx h f s
  | .driveBringup x f => Sys2Proof.Machine.execDriveBringup x f s
  | .driveBringupTimeout x trained => Sys2Proof.Machine.execDriveBringupTimeout x trained s
  | .driveCqe x tag st d => Sys2Proof.Machine.execDriveCqe x tag st d s
  | .driveAsyncEvent x w => Sys2Proof.Machine.execDriveAsyncEvent x w s
  | .driveCfs x => Sys2Proof.Machine.execDriveCfs x s
  | .driveLinkLoss x => Sys2Proof.Machine.execDriveLinkLoss x s
  | .aerCorrectable x => Sys2Proof.Machine.execAerCorrectable x s
  | .driveCommandTimeout x tag => Sys2Proof.Machine.execDriveCommandTimeout x tag s
  | .ladderRungTimeout x => Sys2Proof.Machine.execLadderRungTimeout x s
  | .healthPoll x w => Sys2Proof.Machine.execHealthPoll x w s
  | .driveFrameRx h f => Sys2Proof.Machine.execDriveFrameRx h f s
  | .heartbeatPeriod => Sys2Proof.Machine.execHeartbeatPeriod s
  | .heartbeatRx link h => Sys2Proof.Machine.execHeartbeatRx link h s
  | .aliveLineChange high => Sys2Proof.Machine.execAliveLineChange high s
  | .takeoverReleaseHold => Sys2Proof.Machine.execTakeoverReleaseHold s
  | .splitYieldExpiry => Sys2Proof.Machine.execSplitYieldExpiry s
  | .linkAckRx link ack formation => Sys2Proof.Machine.execLinkAckRx link ack formation s
  | .pairAckDelay => Sys2Proof.Machine.execPairAckDelay s
  | .pairRetransmitTimeout => Sys2Proof.Machine.execPairRetransmitTimeout s
  | .pairLinkSilence link => Sys2Proof.Machine.execPairLinkSilence link s
  | .firnReqRx h origin b => Sys2Proof.Machine.execFirnReqRx h origin b s
  | .ownerRx h idx gen => Sys2Proof.Machine.execOwnerRx h idx gen s
  | .segGrantRx h g => Sys2Proof.Machine.execSegGrantRx h g s
  | .fwdCmdRx h f => Sys2Proof.Machine.execFwdCmdRx h f s
  | .fwdDataRx h id block d => Sys2Proof.Machine.execFwdDataRx h id block d s
  | .fwdDoneRx h id st d0 d1 => Sys2Proof.Machine.execFwdDoneRx h id st d0 d1 s
  | .slotReleaseRx h slot c => Sys2Proof.Machine.execSlotReleaseRx h slot c s
  | .slotTakenRx h slot => Sys2Proof.Machine.execSlotTakenRx h slot s
  | .slotStateRx h f => Sys2Proof.Machine.execSlotStateRx h f s
  | .moveNs idx => Sys2Proof.Machine.execMoveNs idx s
  | .returnAll => Sys2Proof.Machine.execReturnAll s
  | .yield => Sys2Proof.Machine.execYield s
  | .takeoverCmd => Sys2Proof.Machine.execTakeoverCmd s
  | .learnLocationRx p hop seq l => Sys2Proof.Machine.execLearnLocationRx p hop seq l s
  | .locationRefresh => Sys2Proof.Machine.execLocationRefresh s
  | .locationQueueSend port => Sys2Proof.Machine.execLocationQueueSend port s
  | .formWaitExpiry => Sys2Proof.Machine.execFormWaitExpiry s
  | .frameHeadArrival f => Sys2Proof.Machine.execFrameHeadArrival f s
  | .frameTailArrival id t len => Sys2Proof.Machine.execFrameTailArrival id t len s
  | .moraineSweep => Sys2Proof.Machine.execMoraineSweep s
  | .privilegedPortDown p => Sys2Proof.Machine.execPrivilegedPortDown p s
  | .frontPortDown p => Sys2Proof.Machine.execFrontPortDown p s
  | .portLinkUp p => Sys2Proof.Machine.execPortLinkUp p s
  | .learnMessage => Sys2Proof.Machine.execLearnMessage s
  | .hitMessage pipe => Sys2Proof.Machine.execHitMessage pipe s
  | .learnModuleRx h g mac hop seq l => Sys2Proof.Machine.execLearnModuleRx h g mac hop seq l s
  | .moduleRecordRefresh => Sys2Proof.Machine.execModuleRecordRefresh s
  | .agerSweep => Sys2Proof.Machine.execAgerSweep s
  | .rehashWalk t => Sys2Proof.Machine.execRehashWalk t s
  | .rehashRetry t => Sys2Proof.Machine.execRehashRetry t s
  | .fwdInsert t => Sys2Proof.Machine.execFwdInsert t s
  | .fwdDelete t => Sys2Proof.Machine.execFwdDelete t s
  | .fwdLookup t => Sys2Proof.Machine.execFwdLookup t s
  | .fwdFlushPort t p => Sys2Proof.Machine.execFwdFlushPort t p s
  | .fwdRehash t => Sys2Proof.Machine.execFwdRehash t s
  | .hifCtrlEnable => Sys2Proof.Machine.execHifCtrlEnable s
  | .hifCtrlDisable => Sys2Proof.Machine.execHifCtrlDisable s
  | .bmeClear e => Sys2Proof.Machine.execBmeClear e s
  | .bmeSet e => Sys2Proof.Machine.execBmeSet e s
  | .bmeGraceExpiry g => Sys2Proof.Machine.execBmeGraceExpiry g s
  | .functionReset e kind => Sys2Proof.Machine.execFunctionReset e kind s
  | .functionResetDone e => Sys2Proof.Machine.execFunctionResetDone e s
  | .hifLinkDown l => Sys2Proof.Machine.execHifLinkDown l s
  | .hifLinkUp e c => Sys2Proof.Machine.execHifLinkUp e c s
  | .peerWindowAccess write off len d => Sys2Proof.Machine.execPeerWindowAccess write off len d s
  | .peerCommit => Sys2Proof.Machine.execPeerCommit s
  | .atsInvalidate e tag pasid page pages => Sys2Proof.Machine.execAtsInvalidate e tag pasid page pages s
  | .atsInvalidateDone e tag => Sys2Proof.Machine.execAtsInvalidateDone e tag s
  | .atsTranslationCompletion e pasid page r => Sys2Proof.Machine.execAtsTranslationCompletion e pasid page r s
  | .msixUnmask e v => Sys2Proof.Machine.execMsixUnmask e v s
  | .spdmGetVersion e req => Sys2Proof.Machine.execSpdmGetVersion e req s
  | .spdmGetCapabilities e req => Sys2Proof.Machine.execSpdmGetCapabilities e req s
  | .spdmNegotiateAlgorithms e req => Sys2Proof.Machine.execSpdmNegotiateAlgorithms e req s
  | .spdmGetDigests e req => Sys2Proof.Machine.execSpdmGetDigests e req s
  | .spdmGetCertificate e req => Sys2Proof.Machine.execSpdmGetCertificate e req s
  | .spdmChallenge e req => Sys2Proof.Machine.execSpdmChallenge e req s
  | .spdmGetMeasurements e req => Sys2Proof.Machine.execSpdmGetMeasurements e req s
  | .spdmUnsupported e req => Sys2Proof.Machine.execSpdmUnsupported e req s
  | .slcCreate n paused => Sys2Proof.Machine.execSlcCreate n paused s
  | .slcDestroy n => Sys2Proof.Machine.execSlcDestroy n s
  | .slcResize n => Sys2Proof.Machine.execSlcResize n s
  | .slcResetDrain n => Sys2Proof.Machine.execSlcResetDrain n s
  | .slcResetSquash n => Sys2Proof.Machine.execSlcResetSquash n s
  | .slcDrainTimeout n => Sys2Proof.Machine.execSlcDrainTimeout n s
  | .slcResetDone n => Sys2Proof.Machine.execSlcResetDone n s
  | .slcPause n => Sys2Proof.Machine.execSlcPause n s
  | .slcPauseQuiesced => Sys2Proof.Machine.execSlcPauseQuiesced s
  | .slcPauseTimeout => Sys2Proof.Machine.execSlcPauseTimeout s
  | .slcResume n => Sys2Proof.Machine.execSlcResume n s
  | .slcLogStart n => Sys2Proof.Machine.execSlcLogStart n s
  | .slcLogStop n => Sys2Proof.Machine.execSlcLogStop n s
  | .slcLogSync n => Sys2Proof.Machine.execSlcLogSync n s
  | .slcSaveQp n => Sys2Proof.Machine.execSlcSaveQp n s
  | .slcRestoreQp n => Sys2Proof.Machine.execSlcRestoreQp n s
  | .slcCtrlEnable n => Sys2Proof.Machine.execSlcCtrlEnable n s
  | .slcCtrlDisable n => Sys2Proof.Machine.execSlcCtrlDisable n s
  | .pasidEnableClear on => Sys2Proof.Machine.execPasidEnableClear on s
  | .moduleSeated straps b => Sys2Proof.Machine.execModuleSeated straps b s
  | .moduleUnseated => Sys2Proof.Machine.execModuleUnseated s
  | .seatPartial => Sys2Proof.Machine.execSeatPartial s
  | .buttonRelease ms b => Sys2Proof.Machine.execButtonRelease ms b s
  | .buttonZeroise => Sys2Proof.Machine.execButtonZeroise s
  | .feedAbsent f cause => Sys2Proof.Machine.execFeedAbsent f cause s
  | .feedQualifying f b => Sys2Proof.Machine.execFeedQualifying f b s
  | .feedGood f => Sys2Proof.Machine.execFeedGood f s
  | .feedRevert => Sys2Proof.Machine.execFeedRevert s
  | .oringMake => Sys2Proof.Machine.execOringMake s
  | .busFault mv => Sys2Proof.Machine.execBusFault mv s
  | .storeTestStart => Sys2Proof.Machine.execStoreTestStart s
  | .storeTestEnd mv step cells broken => Sys2Proof.Machine.execStoreTestEnd mv step cells broken s
  | .storeEnergyThreshold mv => Sys2Proof.Machine.execStoreEnergyThreshold mv s
  | .inletHot c => Sys2Proof.Machine.execInletHot c s
  | .dieWarn c => Sys2Proof.Machine.execDieWarn c s
  | .dieCrit c => Sys2Proof.Machine.execDieCrit c s
  | .sensorReport m => Sys2Proof.Machine.execSensorReport m s
  | .slotPresent x ifdetHigh => Sys2Proof.Machine.execSlotPresent x ifdetHigh s
  | .slotAbsent x => Sys2Proof.Machine.execSlotAbsent x s
  | .slotPowerOn x => Sys2Proof.Machine.execSlotPowerOn x s
  | .auxCheck x m => Sys2Proof.Machine.execAuxCheck x m s
  | .rampEnd x m => Sys2Proof.Machine.execRampEnd x m s
  | .pgQualify x m => Sys2Proof.Machine.execPgQualify x m s
  | .perstRelease x => Sys2Proof.Machine.execPerstRelease x s
  | .pgWithdraw x m => Sys2Proof.Machine.execPgWithdraw x m s
  | .fastTrip x m => Sys2Proof.Machine.execFastTrip x m s
  | .faultTimerTrip x m => Sys2Proof.Machine.execFaultTimerTrip x m s
  | .thermalTrip x m => Sys2Proof.Machine.execThermalTrip x m s
  | .tjWarn x m => Sys2Proof.Machine.execTjWarn x m s
  | .ntcFault x m => Sys2Proof.Machine.execNtcFault x m s
  | .retryWaitExpiry x => Sys2Proof.Machine.execRetryWaitExpiry x s
  | .retryReload x => Sys2Proof.Machine.execRetryReload x s
  | .supplyLow mv => Sys2Proof.Machine.execSupplyLow mv s
  | .supplyRestored mv => Sys2Proof.Machine.execSupplyRestored mv s
  | .overPower x avg => Sys2Proof.Machine.execOverPower x avg s
  | .sltOn x => Sys2Proof.Machine.execSltOn x s
  | .sltOff x => Sys2Proof.Machine.execSltOff x s
  | .sltCycle x => Sys2Proof.Machine.execSltCycle x s
  | .sltLocateOn x => Sys2Proof.Machine.execSltLocateOn x s
  | .sltLocateOff x => Sys2Proof.Machine.execSltLocateOff x s
  | .turnoffAux x => Sys2Proof.Machine.execTurnoffAux x s
  | .cycleWaitExpiry x => Sys2Proof.Machine.execCycleWaitExpiry x s
  | .bootWatchdog b => Sys2Proof.Machine.execBootWatchdog b s
  | .bootDrivesUp => Sys2Proof.Machine.execBootDrivesUp s
  | .mapRebuildDone found readable => Sys2Proof.Machine.execMapRebuildDone found readable s
  | .replayDone noDesc noData torn pkgs => Sys2Proof.Machine.execReplayDone noDesc noData torn pkgs s
  | .bootServing => Sys2Proof.Machine.execBootServing s
  | .bootStop => Sys2Proof.Machine.execBootStop s
  | .bootRestart => Sys2Proof.Machine.execBootRestart s
  | .glbWarm => Sys2Proof.Machine.execGlbWarm s
  | .glbCoreReset => Sys2Proof.Machine.execGlbCoreReset s
  | .eventReport p => Sys2Proof.Machine.execEventReport p s
  | .pldmAck seq => Sys2Proof.Machine.execPldmAck seq s
  | .coalesceWindowExpiry code key => Sys2Proof.Machine.execCoalesceWindowExpiry code key s
  | .lostRecordEmit => Sys2Proof.Machine.execLostRecordEmit s
  | .ringDeliver r => Sys2Proof.Machine.execRingDeliver r s
  | .ringNotifyExpiry r => Sys2Proof.Machine.execRingNotifyExpiry r s
  | .ringStall r => Sys2Proof.Machine.execRingStall r s
  | .ringStallResume r => Sys2Proof.Machine.execRingStallResume r s
  | .ringHeadWrite r head => Sys2Proof.Machine.execRingHeadWrite r head s
  | .ringEnable r v => Sys2Proof.Machine.execRingEnable r v s
  | .counterSaturate idx => Sys2Proof.Machine.execCounterSaturate idx s
  | .ctrValWrite idx v inc => Sys2Proof.Machine.execCtrValWrite idx v inc s
  | .ctrEselWrite k v => Sys2Proof.Machine.execCtrEselWrite k v s
  | .snapshotTick => Sys2Proof.Machine.execSnapshotTick s
  | .snapshotHeadWrite j v => Sys2Proof.Machine.execSnapshotHeadWrite j v s
  | .telCapture k clear => Sys2Proof.Machine.execTelCapture k clear s
  | .telUnitCfgWrite k v => Sys2Proof.Machine.execTelUnitCfgWrite k v s
  | .refReturn ppm => Sys2Proof.Machine.execRefReturn ppm s
  | .driveLinkReturn x f => Sys2Proof.Machine.execDriveLinkReturn x f s
  | .cellSlot => Sys2Proof.Machine.execCellSlot s
  | .controllerResetDone => Sys2Proof.Machine.execControllerResetDone s
  | .d3hotEntry e => Sys2Proof.Machine.execD3hotEntry e s
  | .bankWriteDone => Sys2Proof.Machine.execBankWriteDone s
  | .storeHot c => Sys2Proof.Machine.execStoreHot c s
  | .tjBelowWarn x => Sys2Proof.Machine.execTjBelowWarn x s
  | .opticalModuleInserted cage watts => Sys2Proof.Machine.execOpticalModuleInserted cage watts s

end Sys2Proof.Machine
end

