-- ==== Sys2Proof/Machine/Tick.lean ====
section
/-! DEFINITION. What passes while no command waits: one tick of the DTC (R9, R27), 0.625 ns, with what the spec ties to time and
gives no row (assumption log 1): the 1 µs samples of the slot channels (R457, R460, R462) and the 10 µs sample of own_used
(R525 source 9).  Every other timer of the spec has a row of its own. -/

namespace Sys2Proof.Machine

/-- What is due at the present value of the DTC. -/
def State.due (s : State) : State :=
  let t := if s.dtc.toNat % usTicks 1 = 0 then s.slotSamples else s
  if s.dtc.toNat % usTicks 10 = 0 then t.sample 9 0 t.ownUsed false else t

/-- One tick of the DTC with what is due at it. -/
def State.tick (s : State) : State :=
  let s : State := { s with dtc := s.dtc + 1 }
  s.only { parts := [.tel, .slt], blocks := [6] } s.due

end Sys2Proof.Machine
end

