-- ==== Sys2Proof/Machine/Footprint.lean ====
section
/-! DEFINITION. What each command may change, one row per command: parts of State, register fields, whole register blocks.  Anything
else keeps its value whatever the command does. -/

namespace Sys2Proof.Machine

open F

/-- The footprint of a command. -/
def footprint : Instr → Writes
  | .registerWrite _ _ _ _ => { parts := [.evt, .ctr, .tel, .hkt, .tms, .mac, .swc, .fwd, .qpe, .nsm, .key, .cip, .hif, .slc, .str, .jnl, .drv, .reb, .pair, .slt, .boot, .freeCtr, .outbox], blocks := allBlocks }
  | .swcBufStatusRead => { parts := [.outbox], fields := [SWC_BUF_STATUS_min_free] }
  | .pwrBusStatusRead => { parts := [.outbox], fields := [PWR_BUS_STATUS_vbus_min] }
  | .sltChAvgRead _ => { parts := [.outbox], fields := [SLT_CH_AVG_p_max_dw] }
  | .coldReset _ _ _ _ => { parts := allParts, blocks := allBlocks }
  | .warmReset _ _ => { parts := allParts, blocks := allBlocks }
  | .coreDataAccess _ => { parts := [.evt, .ctr, .outbox] }
  | .refLost _ => { parts := haltParts, fields := bootLive ++ qpeLive ++ cells ++ firnSeq ++ stopSeq ++ [GLB_MGMT_SEQ_last_completed, GLB_CORE_STATUS_beat, GLB_CORE_STATUS_state, CLK_STATUS_holdover, CLK_STATUS_ref_ok, CLK_STATUS_ref_ppm, MAC_PORT_STATUS_flaps, MAC_PORT_STATUS_speed, MAC_PORT_STATUS_up] }
  | .hbmUe _ _ _ => { parts := [.evt, .ctr, .hkt, .tms, .swc, .qpe, .nsm, .cip, .str, .jnl, .drv, .reb, .pair, .freeCtr, .outbox], fields := qpeLive ++ rebLive ++ firnSeq ++ openSeg ++ [EVT_RING_PTR_stalled] }
  | .mgmtRegisterAccess => { parts := [.evt, .ctr, .tel, .hkt, .tms, .mac, .swc, .fwd, .qpe, .nsm, .key, .cip, .hif, .slc, .str, .jnl, .drv, .reb, .pair, .slt, .boot, .freeCtr, .outbox], blocks := allBlocks }
  | .hktWriteRx _ _ _ => { parts := packetParts, fields := qpeLive ++ rebLive ++ cells ++ firnSeq ++ contexts ++ [GLB_STATUS_mgmt_denied, EVT_RING_PTR_stalled, JNL_NEVE_SEQ_next_seq, SLC_LOG_STATUS_out_span] }
  | .hktReadReqRx _ _ _ => { parts := packetParts, fields := qpeLive ++ rebLive ++ cells ++ firnSeq ++ contexts ++ [GLB_STATUS_mgmt_denied, EVT_RING_PTR_stalled, JNL_NEVE_SEQ_next_seq, SLC_LOG_STATUS_out_span] }
  | .hktReadRespRx _ _ _ => { parts := packetParts, fields := qpeLive ++ rebLive ++ cells ++ firnSeq ++ contexts ++ [GLB_STATUS_mgmt_denied, EVT_RING_PTR_stalled, JNL_NEVE_SEQ_next_seq, SLC_LOG_STATUS_out_span] }
  | .hktSendRx _ _ _ => { parts := packetParts, fields := qpeLive ++ rebLive ++ cells ++ firnSeq ++ contexts ++ [GLB_STATUS_mgmt_denied, EVT_RING_PTR_stalled, JNL_NEVE_SEQ_next_seq, SLC_LOG_STATUS_out_span] }
  | .hktDoorbellRx _ _ _ => { parts := packetParts, fields := qpeLive ++ rebLive ++ cells ++ firnSeq ++ contexts ++ [GLB_STATUS_mgmt_denied, EVT_RING_PTR_stalled, JNL_NEVE_SEQ_next_seq, SLC_LOG_STATUS_out_span] }
  | .hktAckRx _ _ _ => { parts := [.evt, .ctr, .tel, .hkt, .tms, .swc, .qpe, .key, .cip, .freeCtr], fields := cells ++ [HKT_CTX_STATUS_cached, HKT_CTX_STATUS_spilled] }
  | .hktNakRx _ _ _ => { parts := [.evt, .ctr, .tel, .hkt, .tms, .swc, .qpe, .nsm, .key, .cip, .jnl, .pair, .freeCtr, .outbox], fields := qpeLive ++ cells ++ [EVT_RING_PTR_stalled, JNL_NEVE_STATUS_high_water, HKT_CTX_STATUS_cached, HKT_CTX_STATUS_spilled] }
  | .hktProbeRx _ _ _ => { parts := [.evt, .ctr, .hkt, .tms, .swc, .key, .cip, .freeCtr], fields := cells ++ [HKT_CTX_STATUS_cached, HKT_CTX_STATUS_spilled] }
  | .ackDelayExpiry _ _ => { parts := [.ctr, .hkt, .tms, .swc], fields := cells }
  | .gapTimerExpiry _ _ => { parts := [.ctr, .hkt, .tms, .swc], fields := cells }
  | .rtoExpiry _ _ => { parts := [.evt, .ctr, .hkt, .tms, .swc, .qpe, .nsm, .jnl, .pair, .outbox], fields := qpeLive ++ cells ++ [EVT_RING_PTR_stalled, JNL_NEVE_STATUS_high_water] }
  | .rnrWaitExpiry _ _ => { parts := [.ctr, .hkt, .tms, .swc], fields := cells }
  | .windowProbeDue _ _ => { parts := [.ctr, .hkt, .tms, .swc], fields := cells }
  | .pathProbeInterval _ _ => { parts := [.ctr, .hkt, .tms, .swc], fields := cells }
  | .epochAdvance _ _ => { parts := [.ctr, .hkt, .tms, .swc], fields := cells }
  | .spillSendResume => { parts := [.evt, .ctr, .hkt, .tms, .swc, .key, .freeCtr], fields := cells ++ contexts }
  | .regionRevokeDone _ => { parts := [.ctr, .hkt, .qpe, .pair, .outbox], fields := qpeLive }
  | .calendarSlot _ => { parts := fetchParts, fields := cells ++ contexts ++ [SLC_LOG_STATUS_out_span] }
  | .policeHoldTimeout _ => { parts := [.ctr, .qpe, .pair, .outbox], fields := qpeLive }
  | .tmsQueueSample => { parts := [.evt, .ctr, .tel, .hkt, .tms], fields := [TMS_QSAMPLE_depth, TMS_QSAMPLE_head_delay] }
  | .schedulerPick _ => { parts := [.evt, .ctr, .tel, .hkt, .tms, .mac, .swc, .qpe, .nsm, .key, .cip, .str, .jnl, .drv, .reb, .pair, .freeCtr, .outbox], fields := qpeLive ++ rebLive ++ cells ++ firnSeq ++ openSeg }
  | .pfcRefresh _ _ => { parts := [.ctr, .mac, .outbox] }
  | .pfcFrameRx _ _ => { parts := [.ctr, .mac] }
  | .pfcPauseExpiry _ _ => { parts := [.ctr, .mac] }
  | .pfcStormTrip _ _ => { parts := [.evt, .ctr, .mac] }
  | .pfcStormRestore _ _ => { parts := [.evt, .ctr, .mac] }
  | .queueCreate _ _ _ => { parts := [.evt, .ctr, .hkt, .tms, .swc, .qpe, .nsm, .key, .freeCtr], fields := qpeLive ++ cells ++ contexts }
  | .queueDelete _ _ _ => { parts := [.evt, .ctr, .hkt, .tms, .swc, .qpe, .nsm, .key, .pair, .freeCtr, .outbox], fields := qpeLive ++ cells ++ contexts }
  | .queueQuery _ _ _ => { parts := [.evt, .ctr, .hkt, .tms, .swc, .key, .freeCtr], fields := cells ++ contexts }
  | .queueReset _ _ _ => { parts := [.evt, .ctr, .hkt, .tms, .swc, .qpe, .nsm, .key, .pair, .freeCtr, .outbox], fields := qpeLive ++ cells ++ contexts }
  | .queueDeletionDone _ => { parts := [.evt, .ctr, .hkt, .tms, .swc, .qpe, .key, .pair, .freeCtr, .outbox], fields := qpeLive ++ cells ++ contexts }
  | .createIoCq _ => { parts := [.ctr, .qpe, .pair, .outbox], fields := qpeLive }
  | .createIoSq _ => { parts := [.ctr, .qpe, .pair, .outbox], fields := qpeLive }
  | .deleteIoSq _ => { parts := [.ctr, .qpe, .nsm, .pair, .outbox], fields := qpeLive }
  | .deleteIoCq _ => { parts := [.ctr, .qpe, .pair, .outbox], fields := qpeLive }
  | .localDoorbellWrite _ _ _ _ => { parts := fetchParts, fields := cells ++ contexts ++ [SLC_LOG_STATUS_out_span] }
  | .fetchResume => { parts := fetchParts, fields := cells ++ contexts ++ [SLC_LOG_STATUS_out_span] }
  | .sqeFetchComplete _ => { parts := ioParts, fields := qpeLive ++ rebLive ++ cells ++ firnSeq ++ contexts ++ openSeg ++ [SLC_LOG_STATUS_out_span] }
  | .localDmaCompletion _ _ => { parts := ioParts, fields := qpeLive ++ rebLive ++ slcLive ++ cells ++ firnSeq ++ contexts ++ openSeg ++ [JNL_NEVE_SEQ_next_seq] }
  | .dmaCompletionTimeout _ _ => { parts := [.evt, .ctr, .swc, .qpe, .nsm, .hif, .slc, .jnl, .pair, .outbox], fields := qpeLive ++ slcLive ++ [JNL_NEVE_STATUS_high_water] }
  | .commandStart _ => { parts := ioParts, fields := qpeLive ++ rebLive ++ cells ++ firnSeq ++ contexts ++ openSeg ++ [SLC_LOG_STATUS_out_span] }
  | .cqePost _ => { parts := [.evt, .ctr, .tel, .hkt, .tms, .swc, .qpe, .nsm, .key, .hif, .slc, .pair, .freeCtr, .outbox], fields := qpeLive ++ cells ++ contexts ++ [SLC_LOG_STATUS_out_span] }
  | .mergeWaitExpiry _ => { parts := [.evt, .ctr, .hkt, .tms, .swc, .qpe, .key, .freeCtr], fields := cells ++ contexts }
  | .notifyTimeExpiry _ => { parts := [.evt, .ctr, .hkt, .tms, .swc, .qpe, .key, .freeCtr], fields := cells ++ contexts }
  | .intCoalesceExpiry _ _ => { parts := vectorParts ++ [.tel, .qpe], fields := [SLC_LOG_STATUS_out_span] }
  | .flush _ => { parts := [.ctr, .tms, .qpe, .str, .jnl, .pair, .outbox] }
  | .flushDone _ => { parts := [.ctr, .qpe, .pair, .outbox], fields := qpeLive }
  | .write _ => { parts := ioParts, fields := qpeLive ++ rebLive ++ cells ++ firnSeq ++ contexts ++ openSeg ++ [JNL_NEVE_SEQ_next_seq, SLC_LOG_STATUS_out_span] }
  | .read _ => { parts := ioParts, fields := qpeLive ++ rebLive ++ cells ++ firnSeq ++ contexts ++ openSeg ++ [SLC_LOG_STATUS_out_span] }
  | .writeZeroes _ => { parts := mappingParts, fields := qpeLive ++ rebLive ++ firnSeq }
  | .datasetManagement _ => { parts := mappingParts, fields := qpeLive ++ rebLive ++ firnSeq }
  | .copy _ => { parts := ioParts, fields := qpeLive ++ rebLive ++ cells ++ firnSeq ++ contexts ++ openSeg ++ [SLC_LOG_STATUS_out_span] }
  | .wait _ => { parts := [.ctr, .qpe, .pair, .outbox], fields := qpeLive }
  | .waitTimeout _ => { parts := [.ctr, .qpe, .pair, .outbox], fields := qpeLive }
  | .abort _ => { parts := [.ctr, .qpe, .pair, .outbox], fields := qpeLive }
  | .adminHoldTimeout _ => { parts := [.ctr, .qpe, .pair, .outbox], fields := qpeLive }
  | .ownerHoldTimeout _ => { parts := [.ctr, .qpe, .pair, .outbox], fields := qpeLive }
  | .getLogPage _ => { parts := [.evt, .ctr, .tel, .hkt, .tms, .swc, .qpe, .nsm, .key, .hif, .slc, .jnl, .pair, .freeCtr, .outbox], fields := qpeLive ++ cells ++ contexts ++ [SLC_LOG_STATUS_out_span, JNL_NEVE_STATUS_high_water] }
  | .identify _ => { parts := [.evt, .ctr, .tel, .hkt, .tms, .swc, .qpe, .key, .hif, .slc, .jnl, .pair, .freeCtr, .outbox], fields := qpeLive ++ cells ++ contexts ++ [SLC_LOG_STATUS_out_span, JNL_NEVE_STATUS_high_water] }
  | .setFeatures _ => { parts := [.ctr, .qpe, .nsm, .pair, .outbox], fields := qpeLive }
  | .setFeaturesTenant _ => { parts := [.evt, .ctr, .tms, .qpe, .nsm, .jnl, .pair, .outbox], fields := tmsLive ++ qpeLive ++ firnSeq ++ mgmtSeq }
  | .setFeaturesNsService _ => { parts := tableParts, fields := qpeLive ++ firnSeq ++ mgmtSeq }
  | .nsServiceDone => { parts := tableParts, fields := qpeLive ++ firnSeq ++ [GLB_MGMT_SEQ_last_completed] }
  | .getFeatures _ => { parts := [.evt, .ctr, .tel, .hkt, .tms, .swc, .qpe, .key, .hif, .slc, .jnl, .pair, .freeCtr, .outbox], fields := qpeLive ++ cells ++ contexts ++ [SLC_LOG_STATUS_out_span, JNL_NEVE_STATUS_high_water] }
  | .asyncEventRequest _ => { parts := [.ctr, .qpe, .nsm, .pair, .outbox], fields := qpeLive }
  | .nsCreate _ => { parts := [.evt, .ctr, .qpe, .nsm, .key, .jnl, .pair, .outbox], fields := qpeLive ++ firnSeq ++ mgmtSeq }
  | .nsDelete _ => { parts := tableParts, fields := qpeLive ++ firnSeq ++ mgmtSeq }
  | .nsDeleteDrained _ => { parts := [.evt, .ctr, .tms, .swc, .fwd, .qpe, .nsm, .key, .str, .jnl, .reb, .pair, .freeCtr, .outbox], fields := qpeLive ++ cells ++ firnSeq ++ [GLB_MGMT_SEQ_last_completed, REB_CREV_STATUS_entries, REB_CREV_STATUS_generation] }
  | .nsAttach _ => { parts := tableParts, fields := qpeLive ++ firnSeq ++ mgmtSeq }
  | .nsDetach _ => { parts := tableParts, fields := qpeLive ++ firnSeq ++ mgmtSeq }
  | .regionRegister _ => { parts := [.ctr, .hkt, .qpe, .pair, .outbox], fields := qpeLive }
  | .regionRevoke _ => { parts := [.evt, .ctr, .hkt, .swc, .qpe, .nsm, .jnl, .pair, .outbox], fields := qpeLive ++ [EVT_RING_PTR_stalled, JNL_NEVE_STATUS_high_water] }
  | .firmwareImageDownload _ => { parts := firmwareParts, fields := qpeLive ++ firnSeq ++ mgmtSeq }
  | .downloadBufferExpiry => { parts := [.boot] }
  | .firmwareCommitStore _ => { parts := firmwareParts, fields := qpeLive ++ firnSeq ++ mgmtSeq ++ [BOOT_STATUS_state_a, BOOT_STATUS_state_b, BOOT_FW_STATUS_act_state] }
  | .firmwareCommitPending _ => { parts := firmwareParts, fields := qpeLive ++ firnSeq ++ mgmtSeq ++ [BOOT_STATUS_state_a, BOOT_STATUS_state_b, BOOT_FW_STATUS_act_state] }
  | .firmwareCommitActivateSlot _ => { parts := firmwareParts, fields := qpeLive ++ firnSeq ++ mgmtSeq ++ [BOOT_STATUS_state_a, BOOT_STATUS_state_b] }
  | .firmwareCommitActivateNow _ => { parts := firmwareParts, fields := qpeLive ++ firnSeq ++ mgmtSeq ++ [BOOT_STATUS_state_a, BOOT_STATUS_state_b, BOOT_FW_STATUS_act_state] }
  | .actHandoverDone => { parts := [.evt, .ctr, .tms, .mac, .swc, .boot, .outbox], fields := cells ++ [GLB_CORE_STATUS_beat, GLB_CORE_STATUS_state, MAC_PORT_STATUS_flaps, MAC_PORT_STATUS_speed, MAC_PORT_STATUS_up] }
  | .actFirmwareReady _ => { parts := [.evt, .ctr, .tms, .mac, .swc, .qpe, .nsm, .str, .jnl, .reb, .pair, .boot, .rime, .outbox], fields := bootLive ++ qpeLive ++ cells ++ firnSeq ++ [TMS_REBUILD_FLOOR_floor, TMS_TENANT_CFG_weight, GLB_MGMT_SEQ_last_completed, GLB_CORE_STATUS_beat, GLB_CORE_STATUS_state, MAC_PORT_STATUS_flaps, MAC_PORT_STATUS_speed, MAC_PORT_STATUS_up] }
  | .actTimeout => { parts := stopParts ++ [.str, .reb], fields := bootLive ++ qpeLive ++ cells ++ firnSeq ++ [TMS_REBUILD_FLOOR_floor, TMS_TENANT_CFG_weight, GLB_MGMT_SEQ_last_completed, GLB_CORE_STATUS_beat, GLB_CORE_STATUS_state, MAC_PORT_STATUS_flaps, MAC_PORT_STATUS_speed, MAC_PORT_STATUS_up] }
  | .cipherUnitDone _ => { parts := [.evt, .ctr, .tel, .hkt, .tms, .swc, .qpe, .nsm, .key, .cip, .hif, .slc, .str, .jnl, .reb, .pair, .freeCtr, .outbox], fields := qpeLive ++ rebLive ++ cells ++ firnSeq ++ contexts ++ openSeg ++ [JNL_NEVE_SEQ_next_seq, SLC_LOG_STATUS_out_span] }
  | .neveReserve => { parts := [.evt, .ctr, .qpe, .jnl], fields := [JNL_NEVE_STATUS_high_water] }
  | .kekAgree _ _ => { parts := [.ctr, .key, .pair, .freeCtr, .outbox], fields := keyLive }
  | .keyImport _ _ _ _ _ => { parts := [.ctr, .key, .pair, .freeCtr, .outbox], fields := keyLive }
  | .zeroise _ => { parts := eraseParts, fields := keyLive ++ qpeLive ++ rebLive ++ cells ++ firnSeq ++ contexts ++ openSeg ++ [JNL_NEVE_SEQ_next_seq, SLC_LOG_STATUS_out_span] }
  | .rotateNs _ _ _ => { parts := eraseParts, fields := keyLive ++ qpeLive ++ rebLive ++ cells ++ firnSeq ++ contexts ++ openSeg ++ [JNL_NEVE_SEQ_next_seq, SLC_LOG_STATUS_out_span] }
  | .zeroiseAll => { parts := eraseParts, fields := keyLive ++ qpeLive ++ rebLive ++ cells ++ firnSeq ++ contexts ++ openSeg ++ [JNL_NEVE_SEQ_next_seq, SLC_LOG_STATUS_out_span] }
  | .rotationSweep _ => { parts := [.evt, .ctr, .tel, .hkt, .tms, .swc, .qpe, .nsm, .key, .cip, .hif, .slc, .str, .jnl, .drv, .reb, .pair, .freeCtr, .outbox], fields := qpeLive ++ rebLive ++ cells ++ firnSeq ++ contexts ++ openSeg ++ [JNL_NEVE_SEQ_next_seq, SLC_LOG_STATUS_out_span] }
  | .keyEpProtWrite _ _ _ _ => { parts := [.evt, .ctr, .key], fields := [KEY_EP_PROT_eid, KEY_EP_PROT_prefix_len, KEY_EP_PROT_slot] }
  | .prevSlotExpiry _ => { parts := [.key] }
  | .drbgReseed => { parts := [.key, .freeCtr] }
  | .noiseTestFail _ => { parts := [.evt, .ctr, .swc, .qpe, .nsm, .key, .cip, .jnl, .pair, .freeCtr, .outbox], fields := qpeLive ++ [KEY_STATUS_state, JNL_NEVE_STATUS_high_water] }
  | .keyFrameRx _ _ => { parts := pairFrameParts, fields := sltLive ++ tmsLive ++ qpeLive ++ strLive ++ jnlLive ++ drvLive ++ rebLive ++ pairLive ++ cells ++ mgmtSeq ++ contexts ++ [KEY_STATUS_busy, KEY_STATUS_done_count, KEY_STATUS_result, SLC_LOG_STATUS_out_span] }
  | .headPlaceBlock _ => { parts := [.evt, .ctr, .tms, .qpe, .str, .jnl, .reb, .pair, .outbox], fields := qpeLive ++ firnSeq ++ openSeg ++ [REB_CREV_COUNT_overflow, REB_CREV_STATUS_entries, REB_CREV_STATUS_generation, REB_STATUS_seg_done, REB_STATUS_state] }
  | .fillTimerExpiry _ => { parts := [.ctr, .tms, .str] }
  | .chunkWriteDone _ _ => { parts := [.evt, .ctr, .tel, .hkt, .tms, .swc, .qpe, .nsm, .key, .cip, .hif, .slc, .str, .jnl, .drv, .reb, .pair, .slt, .freeCtr, .outbox], fields := sltLive ++ qpeLive ++ strLive ++ drvLive ++ rebLive ++ firnSeq ++ mgmtSeq ++ [HKT_CTX_STATUS_cached, HKT_CTX_STATUS_spilled, SLC_LOG_STATUS_out_span, SWC_BUF_STATUS_free_cells, SWC_BUF_STATUS_min_free] }
  | .firnFlushExpiry => { parts := [.evt, .ctr, .tms, .qpe, .str, .jnl, .reb, .pair, .outbox], fields := qpeLive ++ firnSeq ++ openSeg ++ [REB_CREV_COUNT_overflow, REB_CREV_STATUS_entries, REB_CREV_STATUS_generation, REB_STATUS_seg_done, REB_STATUS_state] }
  | .compactionStart => { parts := [.evt, .ctr, .tms, .qpe, .str, .jnl, .reb, .pair, .outbox], fields := qpeLive ++ firnSeq ++ openSeg ++ [REB_CREV_COUNT_overflow, REB_CREV_STATUS_entries, REB_CREV_STATUS_generation, REB_STATUS_seg_done, REB_STATUS_state] }
  | .mapPageReadDone _ _ => { parts := ioParts, fields := qpeLive ++ rebLive ++ cells ++ firnSeq ++ contexts ++ openSeg ++ [SLC_LOG_STATUS_out_span] }
  | .calvingVictim => { parts := rebuildParts, fields := qpeLive ++ rebLive ++ firnSeq ++ openSeg ++ [STR_POOL_STATUS_calve_level] }
  | .segmentReleaseDone _ => { parts := mappingParts ++ [.tms], fields := qpeLive ++ firnSeq ++ [STR_POOL_STATUS_calve_level, REB_STATUS_seg_done, REB_STATUS_state, REB_CREV_COUNT_overflow, REB_CREV_STATUS_entries, REB_CREV_STATUS_generation, STR_GROUP_STATUS_k_cap, STR_GROUP_STATUS_open_seg] }
  | .nsLiveWalk => { parts := mappingParts, fields := qpeLive ++ firnSeq ++ [REB_STATUS_seg_done, REB_STATUS_state] }
  | .adaptWindowEnd _ => { parts := [.evt, .ctr, .str], fields := [STR_GROUP_STATUS_k_cur, STR_GROUP_STATUS_pad_pm] }
  | .hedgeWindowEnd => { parts := [.ctr, .tel, .str], fields := [STR_MEMBER_STATUS_few_samples, STR_MEMBER_STATUS_pred, STR_MEMBER_STATUS_slow] }
  | .lateHedgeExpiry _ => { parts := [.ctr, .tms, .str, .reb] }
  | .nevePutRx _ _ _ _ => { parts := pairFrameParts, fields := sltLive ++ tmsLive ++ qpeLive ++ strLive ++ jnlLive ++ drvLive ++ rebLive ++ pairLive ++ cells ++ mgmtSeq ++ contexts ++ [KEY_STATUS_busy, KEY_STATUS_done_count, KEY_STATUS_result, SLC_LOG_STATUS_out_span] }
  | .firnPutRx _ _ => { parts := pairFrameParts, fields := sltLive ++ tmsLive ++ qpeLive ++ strLive ++ jnlLive ++ drvLive ++ rebLive ++ pairLive ++ cells ++ mgmtSeq ++ contexts ++ [KEY_STATUS_busy, KEY_STATUS_done_count, KEY_STATUS_result, SLC_LOG_STATUS_out_span] }
  | .mirrorAckRx _ _ _ => { parts := pairFrameParts, fields := sltLive ++ tmsLive ++ qpeLive ++ strLive ++ jnlLive ++ drvLive ++ rebLive ++ pairLive ++ cells ++ mgmtSeq ++ contexts ++ [KEY_STATUS_busy, KEY_STATUS_done_count, KEY_STATUS_result, SLC_LOG_STATUS_out_span] }
  | .neveRetireRx _ _ => { parts := pairFrameParts, fields := sltLive ++ tmsLive ++ qpeLive ++ strLive ++ jnlLive ++ drvLive ++ rebLive ++ pairLive ++ cells ++ mgmtSeq ++ contexts ++ [KEY_STATUS_busy, KEY_STATUS_done_count, KEY_STATUS_result, SLC_LOG_STATUS_out_span] }
  | .neveFetchRx _ _ => { parts := pairFrameParts, fields := sltLive ++ tmsLive ++ qpeLive ++ strLive ++ jnlLive ++ drvLive ++ rebLive ++ pairLive ++ cells ++ mgmtSeq ++ contexts ++ [KEY_STATUS_busy, KEY_STATUS_done_count, KEY_STATUS_result, SLC_LOG_STATUS_out_span] }
  | .dumpStart => { parts := stopParts, fields := bootLive ++ qpeLive ++ cells ++ firnSeq ++ stopSeq ++ [GLB_MGMT_SEQ_last_completed, GLB_CORE_STATUS_beat, GLB_CORE_STATUS_state, MAC_PORT_STATUS_flaps, MAC_PORT_STATUS_speed, MAC_PORT_STATUS_up] }
  | .mirrorFlushEnd => { parts := [.evt, .ctr, .tms, .swc, .qpe, .nsm, .cip, .hif, .str, .jnl, .drv, .reb, .pair, .slt, .freeCtr, .outbox], fields := sltLive ++ qpeLive ++ drvLive ++ rebLive ++ firnSeq ++ openSeg ++ [MAC_PORT_STATUS_flaps, MAC_PORT_STATUS_speed, MAC_PORT_STATUS_up, HIF_LINK_STATUS_up] }
  | .dumpSeal _ _ _ _ => { parts := allParts, blocks := allBlocks }
  | .orderlyStopDrained _ => { parts := allParts, blocks := allBlocks }
  | .orderlyStopTimeout => { parts := stopParts, fields := bootLive ++ qpeLive ++ cells ++ firnSeq ++ stopSeq ++ [GLB_MGMT_SEQ_last_completed, GLB_CORE_STATUS_beat, GLB_CORE_STATUS_state, MAC_PORT_STATUS_flaps, MAC_PORT_STATUS_speed, MAC_PORT_STATUS_up] }
  | .linkLossTimeout _ => { parts := driveParts, fields := sltLive ++ qpeLive ++ strLive ++ drvLive ++ rebLive ++ firnSeq }
  | .rebuildSegmentStart => { parts := rebuildParts, fields := qpeLive ++ rebLive ++ firnSeq ++ openSeg }
  | .rebuildStripeDone _ => { parts := [.evt, .ctr, .tms, .qpe, .nsm, .str, .jnl, .reb, .pair, .outbox], fields := qpeLive ++ rebLive ++ firnSeq }
  | .rebuildRateUpdate => { parts := [.reb], fields := [TMS_REBUILD_FLOOR_floor, TMS_TENANT_CFG_weight] }
  | .crevassePersist => { parts := [.reb] }
  | .crevasseWalk => { parts := [.evt, .ctr, .reb, .freeCtr], fields := [REB_CREV_STATUS_entries, REB_CREV_STATUS_generation, REB_CREV_STATUS_scanning, REB_CREV_COUNT_lost_blocks, REB_CREV_COUNT_overflow] }
  | .crevasseFrameRx _ _ => { parts := pairFrameParts, fields := sltLive ++ tmsLive ++ qpeLive ++ strLive ++ jnlLive ++ drvLive ++ rebLive ++ pairLive ++ cells ++ mgmtSeq ++ contexts ++ [KEY_STATUS_busy, KEY_STATUS_done_count, KEY_STATUS_result, SLC_LOG_STATUS_out_span] }
  | .rebFail _ => { parts := driveParts, fields := sltLive ++ qpeLive ++ strLive ++ drvLive ++ rebLive ++ firnSeq }
  | .rebAdopt _ => { parts := [.tms, .reb], fields := [REB_STATUS_cmd_result, REB_MEMBER_state] }
  | .rebPause => { parts := [.ctr], fields := [REB_STATUS_cmd_result, REB_STATUS_state] }
  | .rebResume => { parts := [.ctr], fields := [REB_STATUS_cmd_result, REB_STATUS_state] }
  | .createPool => { parts := [.tms, .str, .key, .reb, .freeCtr], fields := [REB_STATUS_cmd_result] }
  | .adoption _ => { parts := [.evt, .ctr, .tms, .str, .jnl, .drv, .reb, .pair, .outbox], fields := strLive ++ [REB_MEMBER_state] }
  | .rewiden => { parts := rebuildParts, fields := qpeLive ++ rebLive ++ firnSeq ++ openSeg }
  | .memberFrameRx _ _ => { parts := pairFrameParts, fields := sltLive ++ tmsLive ++ qpeLive ++ strLive ++ jnlLive ++ drvLive ++ rebLive ++ pairLive ++ cells ++ mgmtSeq ++ contexts ++ [KEY_STATUS_busy, KEY_STATUS_done_count, KEY_STATUS_result, SLC_LOG_STATUS_out_span] }
  | .driveBringup _ _ => { parts := driveParts, fields := sltLive ++ qpeLive ++ strLive ++ drvLive ++ rebLive ++ firnSeq }
  | .driveBringupTimeout _ _ => { parts := driveParts, fields := sltLive ++ qpeLive ++ strLive ++ drvLive ++ rebLive ++ firnSeq }
  | .driveCqe _ _ _ _ => { parts := [.evt, .ctr, .tel, .hkt, .tms, .swc, .qpe, .nsm, .key, .cip, .hif, .slc, .str, .jnl, .drv, .reb, .pair, .slt, .freeCtr, .outbox], fields := sltLive ++ qpeLive ++ strLive ++ drvLive ++ rebLive ++ firnSeq ++ mgmtSeq ++ [HKT_CTX_STATUS_cached, HKT_CTX_STATUS_spilled, SLC_LOG_STATUS_out_span, SWC_BUF_STATUS_free_cells, SWC_BUF_STATUS_min_free] }
  | .driveAsyncEvent _ _ => { parts := driveParts, fields := sltLive ++ qpeLive ++ strLive ++ drvLive ++ rebLive ++ firnSeq }
  | .driveCfs _ => { parts := driveParts, fields := sltLive ++ qpeLive ++ strLive ++ drvLive ++ rebLive ++ firnSeq }
  | .driveLinkLoss _ => { parts := rebuildParts, fields := qpeLive ++ drvLive ++ rebLive ++ firnSeq ++ openSeg }
  | .aerCorrectable _ => { parts := [.ctr], fields := [DRV_PORT_ERR_aer_corr] }
  | .driveCommandTimeout _ _ => { parts := [.evt, .ctr, .drv, .outbox], fields := [DRV_PORT_STATUS_rung, DRV_PORT_STATUS_state, DRV_PORT_ERR_timeouts] }
  | .ladderRungTimeout _ => { parts := driveParts, fields := sltLive ++ qpeLive ++ strLive ++ drvLive ++ rebLive ++ firnSeq }
  | .healthPoll _ _ => { parts := driveParts, fields := sltLive ++ qpeLive ++ strLive ++ drvLive ++ rebLive ++ firnSeq }
  | .driveFrameRx _ _ => { parts := pairFrameParts, fields := sltLive ++ tmsLive ++ qpeLive ++ strLive ++ jnlLive ++ drvLive ++ rebLive ++ pairLive ++ cells ++ mgmtSeq ++ contexts ++ [KEY_STATUS_busy, KEY_STATUS_done_count, KEY_STATUS_result, SLC_LOG_STATUS_out_span] }
  | .heartbeatPeriod => { parts := takeoverParts, fields := sltLive ++ qpeLive ++ jnlLive ++ rebLive ++ pairLive ++ cells ++ openSeg ++ [KEY_STATUS_busy, KEY_STATUS_done_count, KEY_STATUS_result] }
  | .heartbeatRx _ _ => { parts := [.evt, .ctr, .swc, .qpe, .nsm, .key, .str, .jnl, .reb, .pair, .freeCtr, .outbox], fields := qpeLive ++ jnlLive ++ rebLive ++ pairLive ++ [KEY_STATUS_busy, KEY_STATUS_done_count, KEY_STATUS_result, SLT_CMD_busy, SLT_CMD_result] }
  | .aliveLineChange _ => { parts := takeoverParts, fields := sltLive ++ qpeLive ++ jnlLive ++ rebLive ++ pairLive ++ cells ++ openSeg ++ [KEY_STATUS_busy, KEY_STATUS_done_count, KEY_STATUS_result] }
  | .takeoverReleaseHold => { parts := mappingParts, fields := qpeLive ++ firnSeq ++ [REB_STATUS_seg_done, REB_STATUS_state] }
  | .splitYieldExpiry => { parts := [.evt, .ctr, .jnl], fields := [PAIR_STATUS_state] }
  | .linkAckRx _ _ _ => { parts := [.evt, .ctr, .pair], fields := [PAIR_STATUS_links] }
  | .pairAckDelay => { parts := [.ctr, .pair, .outbox] }
  | .pairRetransmitTimeout => { parts := [.ctr, .pair, .outbox] }
  | .pairLinkSilence _ => { parts := [.evt, .ctr, .tms, .mac, .swc, .fwd, .key, .pair, .freeCtr, .outbox], fields := fwdLive ++ cells ++ [PAIR_STATUS_links] }
  | .firnReqRx _ _ _ => { parts := pairFrameParts, fields := sltLive ++ tmsLive ++ qpeLive ++ strLive ++ jnlLive ++ drvLive ++ rebLive ++ pairLive ++ cells ++ mgmtSeq ++ contexts ++ [KEY_STATUS_busy, KEY_STATUS_done_count, KEY_STATUS_result, SLC_LOG_STATUS_out_span] }
  | .ownerRx _ _ _ => { parts := pairFrameParts, fields := sltLive ++ tmsLive ++ qpeLive ++ strLive ++ jnlLive ++ drvLive ++ rebLive ++ pairLive ++ cells ++ mgmtSeq ++ contexts ++ [KEY_STATUS_busy, KEY_STATUS_done_count, KEY_STATUS_result, SLC_LOG_STATUS_out_span] }
  | .segGrantRx _ _ => { parts := pairFrameParts, fields := sltLive ++ tmsLive ++ qpeLive ++ strLive ++ jnlLive ++ drvLive ++ rebLive ++ pairLive ++ cells ++ mgmtSeq ++ contexts ++ [KEY_STATUS_busy, KEY_STATUS_done_count, KEY_STATUS_result, SLC_LOG_STATUS_out_span] }
  | .fwdCmdRx _ _ => { parts := pairFrameParts, fields := sltLive ++ tmsLive ++ qpeLive ++ strLive ++ jnlLive ++ drvLive ++ rebLive ++ pairLive ++ cells ++ mgmtSeq ++ contexts ++ [KEY_STATUS_busy, KEY_STATUS_done_count, KEY_STATUS_result, SLC_LOG_STATUS_out_span] }
  | .fwdDataRx _ _ _ _ => { parts := pairFrameParts, fields := sltLive ++ tmsLive ++ qpeLive ++ strLive ++ jnlLive ++ drvLive ++ rebLive ++ pairLive ++ cells ++ mgmtSeq ++ contexts ++ [KEY_STATUS_busy, KEY_STATUS_done_count, KEY_STATUS_result, SLC_LOG_STATUS_out_span] }
  | .fwdDoneRx _ _ _ _ _ => { parts := pairFrameParts, fields := sltLive ++ tmsLive ++ qpeLive ++ strLive ++ jnlLive ++ drvLive ++ rebLive ++ pairLive ++ cells ++ mgmtSeq ++ contexts ++ [KEY_STATUS_busy, KEY_STATUS_done_count, KEY_STATUS_result, SLC_LOG_STATUS_out_span] }
  | .slotReleaseRx _ _ _ => { parts := pairFrameParts, fields := sltLive ++ tmsLive ++ qpeLive ++ strLive ++ jnlLive ++ drvLive ++ rebLive ++ pairLive ++ cells ++ mgmtSeq ++ contexts ++ [KEY_STATUS_busy, KEY_STATUS_done_count, KEY_STATUS_result, SLC_LOG_STATUS_out_span] }
  | .slotTakenRx _ _ => { parts := pairFrameParts, fields := sltLive ++ tmsLive ++ qpeLive ++ strLive ++ jnlLive ++ drvLive ++ rebLive ++ pairLive ++ cells ++ mgmtSeq ++ contexts ++ [KEY_STATUS_busy, KEY_STATUS_done_count, KEY_STATUS_result, SLC_LOG_STATUS_out_span] }
  | .slotStateRx _ _ => { parts := pairFrameParts, fields := sltLive ++ tmsLive ++ qpeLive ++ strLive ++ jnlLive ++ drvLive ++ rebLive ++ pairLive ++ cells ++ mgmtSeq ++ contexts ++ [KEY_STATUS_busy, KEY_STATUS_done_count, KEY_STATUS_result, SLC_LOG_STATUS_out_span] }
  | .moveNs _ => { parts := [.evt, .ctr, .tms, .swc, .fwd, .qpe, .nsm, .str, .jnl, .pair, .freeCtr, .outbox], fields := qpeLive ++ cells ++ firnSeq ++ [PAIR_STATUS_cmd_result] }
  | .returnAll => { parts := [.evt, .ctr, .tms, .swc, .fwd, .qpe, .nsm, .str, .jnl, .pair, .freeCtr, .outbox], fields := qpeLive ++ cells ++ firnSeq ++ [PAIR_STATUS_cmd_result] }
  | .yield => { parts := [.evt, .ctr, .jnl], fields := [PAIR_STATUS_cmd_result, PAIR_STATUS_state] }
  | .takeoverCmd => { parts := takeoverParts, fields := sltLive ++ qpeLive ++ jnlLive ++ rebLive ++ pairLive ++ cells ++ openSeg ++ [KEY_STATUS_busy, KEY_STATUS_done_count, KEY_STATUS_result] }
  | .learnLocationRx _ _ _ _ => { parts := [.evt, .ctr, .hkt, .tms, .swc, .fwd, .key, .cip, .freeCtr], fields := fwdLive ++ cells }
  | .locationRefresh => { parts := [.ctr, .tms, .swc, .fwd, .freeCtr], fields := cells }
  | .locationQueueSend _ => { parts := [.ctr, .tms, .swc, .fwd, .freeCtr], fields := cells }
  | .formWaitExpiry => { parts := takeoverParts, fields := sltLive ++ qpeLive ++ jnlLive ++ rebLive ++ pairLive ++ cells ++ openSeg ++ [KEY_STATUS_busy, KEY_STATUS_done_count, KEY_STATUS_result] }
  | .frameHeadArrival _ => { parts := [.evt, .ctr, .mac, .swc, .fwd, .pair, .outbox], fields := cells ++ [PAIR_STATUS_links] }
  | .frameTailArrival _ _ _ => { parts := [.ctr, .tms, .mac, .swc, .outbox], fields := cells }
  | .moraineSweep => { parts := [.evt, .ctr, .swc], fields := swcLive }
  | .privilegedPortDown _ => { parts := [.evt, .ctr, .tms, .mac, .swc, .fwd, .key, .freeCtr, .outbox], fields := fwdLive ++ cells ++ [MAC_PORT_STATUS_flaps, MAC_PORT_STATUS_speed, MAC_PORT_STATUS_up, PAIR_STATUS_links] }
  | .frontPortDown _ => { parts := [.evt, .ctr, .tms, .swc, .fwd, .freeCtr], fields := fwdLive ++ cells ++ [MAC_PORT_STATUS_flaps, MAC_PORT_STATUS_speed, MAC_PORT_STATUS_up, PAIR_STATUS_links] }
  | .portLinkUp _ => { parts := [.evt, .ctr, .tms, .swc, .fwd, .freeCtr], fields := cells ++ [MAC_PORT_STATUS_fec_lock, MAC_PORT_STATUS_speed, MAC_PORT_STATUS_up, PAIR_STATUS_links] }
  | .learnMessage => { parts := [.evt, .ctr, .fwd], fields := fwdLive }
  | .hitMessage _ => { parts := [.fwd], fields := [FWD_EPOCH_current, FWD_TABLE_entries, FWD_TABLE_stash_used] }
  | .learnModuleRx _ _ _ _ _ _ => { parts := [.evt, .ctr, .hkt, .tms, .swc, .fwd, .key, .cip, .freeCtr], fields := fwdLive ++ cells }
  | .moduleRecordRefresh => { parts := [.ctr, .tms, .swc, .fwd, .freeCtr], fields := cells }
  | .agerSweep => { parts := [.ctr, .fwd], fields := [FWD_EPOCH_current, FWD_TABLE_entries, FWD_TABLE_stash_used, FWD_PORT_CFG_learned] }
  | .rehashWalk _ => { parts := [.evt, .ctr, .fwd], fields := fwdLive }
  | .rehashRetry _ => { parts := [.evt, .ctr, .fwd], fields := fwdLive }
  | .fwdInsert _ => { parts := [.evt, .ctr, .fwd], fields := fwdLive }
  | .fwdDelete _ => { parts := [.fwd], fields := fwdLive }
  | .fwdLookup _ => { fields := [FWD_CMD_result, FWD_CMD_DATA_data] }
  | .fwdFlushPort _ _ => { parts := [.fwd], fields := fwdLive }
  | .fwdRehash _ => { parts := [.key, .freeCtr], fields := [FWD_CMD_result, FWD_TABLE_state, FWD_SEED_seed1, FWD_SEED_seed2] }
  | .hifCtrlEnable => { parts := [.qpe, .nsm], fields := qpeLive ++ [HIF_CTRL_en, HIF_CTRL_STATUS_cfs, HIF_CTRL_STATUS_rdy] }
  | .hifCtrlDisable => { parts := [.ctr, .qpe, .nsm, .hif, .pair, .outbox], fields := qpeLive ++ [HIF_CTRL_en, HIF_CTRL_STATUS_cfs] }
  | .bmeClear _ => { parts := [.evt, .ctr, .qpe, .hif], fields := [HIF_LINK_STATUS_bme, HIF_LINK_STATUS_grace] }
  | .bmeSet _ => { parts := ioParts, fields := qpeLive ++ rebLive ++ cells ++ firnSeq ++ contexts ++ openSeg ++ [HIF_LINK_STATUS_bme, HIF_LINK_STATUS_grace, SLC_LOG_STATUS_out_span] }
  | .bmeGraceExpiry _ => { parts := [.evt, .ctr, .swc, .qpe, .hif, .str, .jnl, .reb, .pair, .outbox], fields := qpeLive ++ rebLive ++ firnSeq ++ [JNL_NEVE_SEQ_next_seq, HIF_LINK_STATUS_grace] }
  | .functionReset _ _ => { parts := [.evt, .ctr, .swc, .qpe, .nsm, .hif, .slc, .str, .jnl, .pair, .rime, .outbox], fields := qpeLive ++ [JNL_NEVE_STATUS_high_water], blocks := [21, 22] }
  | .functionResetDone _ => { parts := [.hif], fields := [HIF_LINK_STATUS_flit, HIF_LINK_STATUS_speed, HIF_LINK_STATUS_up, HIF_LINK_STATUS_width] }
  | .hifLinkDown _ => { parts := [.evt, .ctr, .swc, .qpe, .nsm, .hif, .slc, .str, .jnl, .pair, .rime, .outbox], fields := qpeLive ++ [JNL_NEVE_STATUS_high_water], blocks := [21, 22] }
  | .hifLinkUp _ _ => { parts := [.hif, .outbox], fields := [HIF_LINK_STATUS_flit, HIF_LINK_STATUS_int_mode, HIF_LINK_STATUS_speed, HIF_LINK_STATUS_up, HIF_LINK_STATUS_width] }
  | .peerWindowAccess _ _ _ _ => { parts := [.mem, .evt, .ctr, .outbox] }
  | .peerCommit => { parts := [.hif], fields := [HIF_PEER_COMMIT_gen, HIF_PEER_COMMIT_pending] }
  | .atsInvalidate _ _ _ _ _ => { parts := [.ctr, .hif], fields := [HIF_ATS_STATUS_invalidations] }
  | .atsInvalidateDone _ _ => { parts := [.hif, .outbox] }
  | .atsTranslationCompletion _ _ _ _ => { parts := vectorParts ++ [.tel, .qpe], fields := [SLC_LOG_STATUS_out_span] }
  | .msixUnmask _ _ => { parts := vectorParts ++ [.tel, .qpe], fields := [SLC_LOG_STATUS_out_span] }
  | .spdmGetVersion _ _ => { parts := [.rime, .outbox] }
  | .spdmGetCapabilities _ _ => { parts := [.rime, .freeCtr, .outbox] }
  | .spdmNegotiateAlgorithms _ _ => { parts := [.rime, .outbox] }
  | .spdmGetDigests _ _ => { parts := [.rime, .outbox] }
  | .spdmGetCertificate _ _ => { parts := [.rime, .outbox] }
  | .spdmChallenge _ _ => { parts := [.rime, .freeCtr, .outbox] }
  | .spdmGetMeasurements _ _ => { parts := [.rime, .freeCtr, .outbox] }
  | .spdmUnsupported _ _ => { parts := [.outbox] }
  | .slcCreate _ _ => { parts := [.slc], fields := slcLive }
  | .slcDestroy _ => { parts := [.evt, .ctr, .swc, .qpe, .nsm, .hif, .slc, .str, .jnl, .pair, .outbox], fields := qpeLive ++ [JNL_NEVE_STATUS_high_water, SLC_CMD_busy, SLC_CMD_result, SLC_STATUS_state] }
  | .slcResize _ => { parts := vectorParts ++ [.tel, .qpe], fields := slcLive }
  | .slcResetDrain _ => { parts := [.ctr, .qpe, .nsm, .slc, .pair, .outbox], fields := qpeLive ++ [SLC_CMD_busy, SLC_CMD_result, SLC_STATUS_state] }
  | .slcResetSquash _ => { parts := [.evt, .ctr, .swc, .qpe, .nsm, .hif, .slc, .str, .jnl, .pair, .outbox], fields := qpeLive ++ [JNL_NEVE_STATUS_high_water, SLC_CMD_busy, SLC_CMD_result, SLC_STATUS_state] }
  | .slcDrainTimeout _ => { parts := [.evt, .ctr, .swc, .qpe, .nsm, .hif, .slc, .str, .jnl, .pair, .outbox], fields := qpeLive ++ [JNL_NEVE_STATUS_high_water, SLC_STATUS_state] }
  | .slcResetDone _ => { parts := [.evt, .ctr, .slc], blocks := [22] }
  | .slcPause _ => { parts := [.slc], fields := [SLC_CMD_busy, SLC_CMD_result] }
  | .slcPauseQuiesced => { parts := [.slc], fields := [SLC_CMD_busy, SLC_CMD_result, SLC_STATUS_paused] }
  | .slcPauseTimeout => { parts := [.evt, .ctr, .slc], fields := [SLC_CMD_busy, SLC_CMD_result] }
  | .slcResume _ => { parts := fetchParts, fields := slcLive ++ cells ++ contexts }
  | .slcLogStart _ => { parts := [.slc], fields := [SLC_CMD_busy, SLC_CMD_result, SLC_LOG_STATUS_active, SLC_LOG_STATUS_on] }
  | .slcLogStop _ => { parts := vectorParts ++ [.tel, .qpe], fields := [SLC_CMD_busy, SLC_CMD_result, SLC_LOG_STATUS_active, SLC_LOG_STATUS_on, SLC_LOG_STATUS_out_span, SLC_LOG_STATUS_syncs] }
  | .slcLogSync _ => { parts := vectorParts ++ [.tel, .qpe], fields := [SLC_CMD_busy, SLC_CMD_result, SLC_LOG_STATUS_active, SLC_LOG_STATUS_on, SLC_LOG_STATUS_out_span, SLC_LOG_STATUS_syncs] }
  | .slcSaveQp _ => { fields := [SLC_CMD_busy, SLC_CMD_result, SLC_CMD_DATA_data] }
  | .slcRestoreQp _ => { parts := [.qpe], fields := qpeLive ++ [SLC_CMD_busy, SLC_CMD_result, SLC_CTRL_en, SLC_CTRL_STATUS_rdy] }
  | .slcCtrlEnable _ => { parts := [.qpe, .nsm], fields := qpeLive ++ [SLC_CTRL_en, SLC_CTRL_STATUS_cfs, SLC_CTRL_STATUS_rdy] }
  | .slcCtrlDisable _ => { parts := [.ctr, .qpe, .nsm, .slc, .pair, .outbox], fields := qpeLive ++ [SLC_STATUS_state, SLC_CTRL_en, SLC_CTRL_STATUS_cfs] }
  | .pasidEnableClear _ => { parts := ioParts, fields := qpeLive ++ rebLive ++ cells ++ firnSeq ++ contexts ++ openSeg ++ [HIF_LINK_STATUS_grace, SLC_LOG_STATUS_out_span] }
  | .moduleSeated _ _ => { parts := allParts, blocks := allBlocks }
  | .moduleUnseated => { parts := haltParts, fields := bootLive ++ qpeLive ++ cells ++ firnSeq ++ stopSeq ++ [GLB_MGMT_SEQ_last_completed, GLB_CORE_STATUS_beat, GLB_CORE_STATUS_state, MAC_PORT_STATUS_flaps, MAC_PORT_STATUS_speed, MAC_PORT_STATUS_up] }
  | .seatPartial => { parts := [.evt, .ctr, .pwr] }
  | .buttonRelease _ _ => { parts := allParts, blocks := allBlocks }
  | .buttonZeroise => { parts := eraseParts, fields := keyLive ++ qpeLive ++ rebLive ++ cells ++ firnSeq ++ contexts ++ openSeg ++ [JNL_NEVE_SEQ_next_seq, SLC_LOG_STATUS_out_span] }
  | .feedAbsent _ _ => { parts := [.evt, .ctr, .jnl, .pwr, .outbox], fields := pwrLive }
  | .feedQualifying _ _ => { parts := allParts, blocks := allBlocks }
  | .feedGood _ => { parts := [.evt, .ctr, .pwr, .outbox], fields := [PWR_FEED_STATUS_active, PWR_FEED_STATUS_state, PWR_BUS_STATUS_source, PWR_STORE_STATUS_state] }
  | .feedRevert => { parts := [.pwr, .outbox], fields := [PWR_FEED_STATUS_active, PWR_BUS_STATUS_source] }
  | .oringMake => { parts := [.evt, .ctr, .pwr, .outbox], fields := [PWR_FEED_STATUS_active, PWR_BUS_STATUS_source, PWR_STORE_STATUS_state] }
  | .busFault _ => { parts := haltParts, fields := pwrLive ++ bootLive ++ qpeLive ++ cells ++ firnSeq ++ [GLB_MGMT_SEQ_last_completed, GLB_CORE_STATUS_beat, GLB_CORE_STATUS_state, MAC_PORT_STATUS_flaps, MAC_PORT_STATUS_speed, MAC_PORT_STATUS_up] }
  | .storeTestStart => { parts := [.ctr, .pwr], fields := [PWR_STORE_STATUS_state] }
  | .storeTestEnd _ _ _ _ => { parts := [.evt, .ctr, .pwr], fields := pwrLive ++ [JNL_NEVE_STATUS_budget_slots, JNL_NEVE_STATUS_high_water] }
  | .storeEnergyThreshold _ => { parts := [.evt, .ctr, .pwr], fields := [PWR_STORE_STATUS_e_j, PWR_STORE_STATUS_state, PWR_STORE_STATUS_vstore, JNL_NEVE_STATUS_budget_slots, JNL_NEVE_STATUS_high_water] }
  | .inletHot _ => { parts := [.evt, .ctr, .pwr], fields := [PWR_THERM_STATUS_inlet_c] }
  | .dieWarn _ => { parts := [.evt, .ctr, .pwr], fields := [PWR_THERM_STATUS_die_c] }
  | .dieCrit _ => { parts := haltParts, fields := pwrLive ++ bootLive ++ qpeLive ++ cells ++ firnSeq ++ [GLB_MGMT_SEQ_last_completed, GLB_CORE_STATUS_beat, GLB_CORE_STATUS_state, MAC_PORT_STATUS_flaps, MAC_PORT_STATUS_speed, MAC_PORT_STATUS_up] }
  | .sensorReport _ => { parts := [.evt, .ctr, .pwr, .outbox], fields := pwrLive ++ [JNL_NEVE_STATUS_budget_slots, JNL_NEVE_STATUS_high_water] }
  | .slotPresent _ _ => { parts := [.evt, .ctr, .pair, .slt, .outbox], fields := [SLT_CH_STATUS_perst_rel, SLT_CH_STATUS_pg, SLT_CH_STATUS_present, SLT_CH_STATUS_retries_left, SLT_CH_STATUS_state] }
  | .slotAbsent _ => { parts := driveParts, fields := sltLive ++ qpeLive ++ strLive ++ drvLive ++ rebLive ++ firnSeq }
  | .slotPowerOn _ => { parts := [.ctr, .pair, .slt, .outbox], fields := [SLT_CH_STATUS_perst_rel, SLT_CH_STATUS_pg, SLT_CH_STATUS_retries_left, SLT_CH_STATUS_state] }
  | .auxCheck _ _ => { parts := driveParts, fields := sltLive ++ qpeLive ++ strLive ++ drvLive ++ rebLive ++ firnSeq }
  | .rampEnd _ _ => { parts := [.slt] }
  | .pgQualify _ _ => { parts := [.ctr, .pair, .slt, .outbox], fields := [SLT_CH_STATUS_pg, SLT_CH_STATUS_state] }
  | .perstRelease _ => { fields := [SLT_CH_STATUS_perst_rel, DRV_PORT_STATUS_state] }
  | .pgWithdraw _ _ => { parts := driveParts, fields := sltLive ++ qpeLive ++ strLive ++ drvLive ++ rebLive ++ firnSeq }
  | .fastTrip _ _ => { parts := driveParts, fields := sltLive ++ qpeLive ++ strLive ++ drvLive ++ rebLive ++ firnSeq }
  | .faultTimerTrip _ _ => { parts := driveParts, fields := sltLive ++ qpeLive ++ strLive ++ drvLive ++ rebLive ++ firnSeq }
  | .thermalTrip _ _ => { parts := driveParts, fields := sltLive ++ qpeLive ++ strLive ++ drvLive ++ rebLive ++ firnSeq }
  | .tjWarn _ _ => { parts := [.evt, .ctr, .slt] }
  | .ntcFault _ _ => { parts := [.evt, .ctr, .slt], fields := [SLT_CH_STATUS_ntc_fault] }
  | .retryWaitExpiry _ => { parts := [.ctr, .pair, .slt, .outbox], fields := [SLT_CH_STATUS_perst_rel, SLT_CH_STATUS_pg, SLT_CH_STATUS_retries_left, SLT_CH_STATUS_state] }
  | .retryReload _ => { fields := [SLT_CH_STATUS_retries_left] }
  | .supplyLow _ => { parts := [.evt, .ctr, .slt], fields := [SLT_SUPPLY_STATUS_low, SLT_SUPPLY_STATUS_v_mv] }
  | .supplyRestored _ => { parts := [.ctr, .pair, .slt, .outbox], fields := [SLT_SUPPLY_STATUS_low, SLT_SUPPLY_STATUS_v_mv, SLT_CH_STATUS_perst_rel, SLT_CH_STATUS_pg, SLT_CH_STATUS_retries_left, SLT_CH_STATUS_state] }
  | .overPower _ _ => { parts := [.evt, .ctr, .slt], fields := [SLT_CH_AVG_p_avg_dw] }
  | .sltOn _ => { parts := driveParts, fields := sltLive ++ qpeLive ++ drvLive ++ rebLive ++ firnSeq ++ openSeg }
  | .sltOff _ => { parts := driveParts, fields := sltLive ++ qpeLive ++ drvLive ++ rebLive ++ firnSeq ++ openSeg }
  | .sltCycle _ => { parts := driveParts, fields := sltLive ++ qpeLive ++ drvLive ++ rebLive ++ firnSeq ++ openSeg }
  | .sltLocateOn _ => { parts := driveParts, fields := sltLive ++ qpeLive ++ drvLive ++ rebLive ++ firnSeq ++ openSeg }
  | .sltLocateOff _ => { parts := driveParts, fields := sltLive ++ qpeLive ++ drvLive ++ rebLive ++ firnSeq ++ openSeg }
  | .turnoffAux _ => { parts := [.slt] }
  | .cycleWaitExpiry _ => { parts := [.ctr, .pair, .slt, .outbox], fields := [SLT_CH_STATUS_perst_rel, SLT_CH_STATUS_pg, SLT_CH_STATUS_retries_left, SLT_CH_STATUS_state] }
  | .bootWatchdog _ => { parts := allParts, blocks := allBlocks }
  | .bootDrivesUp => { parts := [.evt, .ctr, .tms, .swc, .qpe, .nsm, .cip, .str, .jnl, .drv, .reb, .pair, .slt, .boot, .freeCtr, .outbox], fields := sltLive ++ qpeLive ++ strLive ++ drvLive ++ rebLive ++ firnSeq ++ [BOOT_STATUS_stage] }
  | .mapRebuildDone _ _ => { parts := [.evt, .ctr, .tms, .swc, .qpe, .nsm, .key, .cip, .str, .jnl, .drv, .reb, .pair, .slt, .freeCtr, .outbox], fields := sltLive ++ tmsLive ++ qpeLive ++ strLive ++ drvLive ++ rebLive ++ firnSeq ++ mgmtSeq ++ [BOOT_STATUS_stage] }
  | .replayDone _ _ _ _ => { parts := [.evt, .ctr, .tms, .qpe, .nsm, .str, .jnl, .reb, .pair, .boot, .rime, .outbox], fields := bootLive ++ qpeLive ++ jnlLive ++ rebLive ++ [PAIR_STATUS_state, HIF_CTRL_STATUS_cfs, HIF_CTRL_STATUS_rdy, STR_GROUP_STATUS_k_cap, STR_GROUP_STATUS_open_seg, STR_POOL_STATUS_calve_level] }
  | .bootServing => { parts := [.evt, .ctr, .tms, .swc, .fwd, .qpe, .nsm, .key, .str, .jnl, .reb, .pair, .boot, .freeCtr, .outbox], fields := bootLive ++ qpeLive ++ cells ++ firnSeq ++ mgmtSeq ++ [REB_CREV_STATUS_entries, REB_CREV_STATUS_generation] }
  | .bootStop => { parts := stopParts, fields := bootLive ++ qpeLive ++ cells ++ firnSeq ++ stopSeq ++ [GLB_MGMT_SEQ_last_completed, GLB_CORE_STATUS_beat, GLB_CORE_STATUS_state, MAC_PORT_STATUS_flaps, MAC_PORT_STATUS_speed, MAC_PORT_STATUS_up] }
  | .bootRestart => { parts := stopParts, fields := bootLive ++ qpeLive ++ cells ++ firnSeq ++ stopSeq ++ [GLB_MGMT_SEQ_last_completed, GLB_CORE_STATUS_beat, GLB_CORE_STATUS_state, MAC_PORT_STATUS_flaps, MAC_PORT_STATUS_speed, MAC_PORT_STATUS_up] }
  | .glbWarm => { parts := stopParts, fields := bootLive ++ qpeLive ++ cells ++ firnSeq ++ stopSeq ++ [GLB_MGMT_SEQ_last_completed, GLB_CORE_STATUS_beat, GLB_CORE_STATUS_state, MAC_PORT_STATUS_flaps, MAC_PORT_STATUS_speed, MAC_PORT_STATUS_up] }
  | .glbCoreReset => { parts := [.evt, .ctr, .tms, .mac, .swc, .qpe, .nsm, .pair, .boot, .outbox], fields := qpeLive ++ cells ++ [GLB_CORE_STATUS_beat, GLB_CORE_STATUS_state, BOOT_STATUS_stage, BOOT_FW_STATUS_act_state, MAC_PORT_STATUS_flaps, MAC_PORT_STATUS_speed, MAC_PORT_STATUS_up] }
  | .eventReport _ => { parts := [.evt, .ctr] }
  | .pldmAck _ => { parts := [.evt] }
  | .coalesceWindowExpiry _ _ => { parts := [.evt, .ctr] }
  | .lostRecordEmit => { parts := [.evt, .ctr] }
  | .ringDeliver _ => { parts := ringParts, fields := cells ++ contexts ++ [EVT_RING_PTR_phase, EVT_RING_PTR_tail, SLC_LOG_STATUS_out_span] }
  | .ringNotifyExpiry _ => { parts := ringParts, fields := cells ++ contexts ++ [SLC_LOG_STATUS_out_span] }
  | .ringStall _ => { parts := [.evt, .ctr], fields := [EVT_RING_PTR_stalled] }
  | .ringStallResume _ => { parts := ringParts, fields := cells ++ contexts ++ [EVT_RING_PTR_phase, EVT_RING_PTR_stalled, EVT_RING_PTR_tail, SLC_LOG_STATUS_out_span] }
  | .ringHeadWrite _ _ => { parts := [.evt], fields := [EVT_RING_PTR_head] }
  | .ringEnable _ _ => { parts := [.evt], blocks := [2] }
  | .counterSaturate _ => { parts := [.evt, .ctr] }
  | .ctrValWrite _ _ _ => { parts := [.ctr] }
  | .ctrEselWrite _ _ => { parts := [.ctr], blocks := [3] }
  | .snapshotTick => { parts := ringParts, fields := cells ++ contexts ++ [CTR_SNAP_STATUS_snap_seq, CTR_TGT_PTR_skipped, CTR_TGT_PTR_tail, SLC_LOG_STATUS_out_span] }
  | .snapshotHeadWrite _ _ => { fields := [CTR_TGT_PTR_head] }
  | .telCapture _ _ => { parts := [.tel], fields := [TEL_RD_data] }
  | .telUnitCfgWrite _ _ => { parts := [.tel], blocks := [4] }
  | .refReturn _ => { parts := [.pwr], fields := [CLK_STATUS_holdover, CLK_STATUS_ref_ok, CLK_STATUS_ref_ppm] }
  | .driveLinkReturn _ _ => { parts := driveParts, fields := sltLive ++ qpeLive ++ strLive ++ drvLive ++ rebLive ++ firnSeq }
  | .cellSlot => { parts := [.ctr, .tms, .mac, .swc, .outbox], fields := cells }
  | .controllerResetDone => { parts := [.hif], fields := [HIF_CTRL_STATUS_rdy] }
  | .d3hotEntry _ => { parts := [.evt, .ctr, .qpe, .hif], fields := [HIF_LINK_STATUS_d3, HIF_LINK_STATUS_grace] }
  | .bankWriteDone => { parts := firmwareParts, fields := bootLive ++ qpeLive ++ firnSeq ++ [GLB_MGMT_SEQ_last_completed] }
  | .storeHot _ => { parts := [.pwr], fields := [PWR_STORE_STATUS_temp_c, PWR_THERM_STATUS_store_c] }
  | .tjBelowWarn _ => { parts := [.ctr, .pair, .slt, .outbox], fields := [SLT_CH_STATUS_perst_rel, SLT_CH_STATUS_pg, SLT_CH_STATUS_retries_left, SLT_CH_STATUS_state] }
  | .opticalModuleInserted _ _ => { parts := [.mac] }

end Sys2Proof.Machine
end

