-- ==== Sys2Proof/Safety.lean ====
section
/-! DEFINITION. What claims about the module are stated in: the invariant of its memory, an event having been reported, a run of
several steps. -/

namespace Sys2Proof.Machine

/-- Module memory is in its canonical form. -/
def State.Inv (s : State) : Prop := memWf s.mem = true

/-- Between `s` and `t` the EVT block took exactly one report, of the given event, source and args (R505, R506), at the time and with
the EVT registers of `s`. -/
def Reports (s t : State) (e : EvType) (srcKind source : Nat) (args : List Nat) : Prop :=
  ∃ u : State, u.dtc = s.dtc ∧ u.evt = s.evt ∧ (∀ f i, f.reg / 0x100000 = 2 → u.get f i = s.get f i) ∧
    t.evt = (u.raise e srcKind source args).evt

/-- A PSN-consuming packet that the module takes at once (R43, R48, R57, R59, R71): admitted, of an epoch its context goes on with, next in
order with nothing held, and passed by every check.  `o` is the packet with its payload in clear (R70), `b` the state it is taken in, `c`
its context there. -/
structure Taken (s : State) (op : Nat) (p o : HktPkt) (b : State) (c : HktCtx) : Prop where
  admitted : (s.rxAdmit op p).2 = true
  clear    : o = s.opened p
  epoch    : ((s.rxAdmit op p).1.epochCheck p).2 = true
  state    : b = s.sameMem ((s.rxAdmit op p).1.epochCheck p).1
  ctx      : b.ctx p.hdr.dst p.hdr.src = some c
  inOrder  : c.rcvNxt = p.hdr.psn
  noGap    : c.bitmap = 0
  noFence  : c.fences = []
  placed   : b.rxVerdict c o = .place

/-- A command of a local or network queue that is not complete, its queue pair one that takes CQEs (R129). -/
structure Running (s : State) (c : Nat) (x : Cmd) (q : Qp) : Prop where
  cmd   : s.cmd c = some x
  here  : x.remote = none
  open_ : x.phase ≠ .done
  qp    : s.qp x.qpn = some q
  live  : q.state ≠ .error
  ring  : q.ringBad = false

/-- A command is complete with a status and the two result words, its CQE waiting to be posted (R117). -/
def Completes (t : State) (c : Nat) (st : Status) (dw0 : Word32 := 0) (dw1 : Word32 := 0) : Prop :=
  ∃ x, t.cmd c = some x ∧ x.phase = .done ∧ x.status = st ∧ x.dw0 = dw0 ∧ x.dw1 = dw1

/-- The Aborts of an owner that stand before command `c` and are not complete (R127). -/
def State.abortsBefore (s : State) (c : Nat) (o : QOwner) : List (Nat × Cmd) :=
  (s.qpe.cmds.takeWhile fun e => e.1 != c).filter fun e =>
    s.ownerOf e.2 = some o && s.isAdmin e.2.qpn && e.2.sqe.opcode = 8 && e.2.phase != .done

/-- A management command next in sequence with none before it running (R141, R142): its data is in, its issuer is authorised. -/
structure Managed (s : State) (c : Nat) (x : Cmd) (q : Qp) (opcode : Nat) : Prop where
  run    : Running s c x q
  ready  : s.adminRun c opcode = some (x, q.owner)
  issuer : s.mgmtIssuer q.owner = true
  turn   : x.sqe.cdw2 = BitVec.ofNat 32 (s.get F.GLB_MGMT_SEQ_last_accepted) + 1
  idle   : s.nsm.running = none
  first  : s.nsm.runSeq = none
  empty  : s.nsm.seqQueue = []
  dels   : s.nsm.dels = []

/-- A management command has run to its end (R142): complete, the last accepted and completed, its outcome recorded. -/
def Ended (t : State) (c : Nat) (x : Cmd) (st : Status) (dw0 : Word32 := 0) (dw1 : Word32 := 0) : Prop :=
  Completes t c st dw0 dw1 ∧ t.get F.GLB_MGMT_SEQ_last_accepted = x.sqe.cdw2.toNat ∧
    t.get F.GLB_MGMT_SEQ_last_completed = x.sqe.cdw2.toNat ∧ t.nsm.recorded = some ⟨x.sqe.cdw2, st, dw0, dw1⟩

/-- A key command can run (R180), and no partner has to apply it (R184). -/
structure KeyFree (s : State) : Prop where
  idle  : s.flag F.KEY_STATUS_busy = false
  ready : s.get F.KEY_STATUS_state = 1
  alone : s.keyPaired = false

/-- A sequenced pair frame that is delivered at once (R325, R326): of this formation, next in sequence, none held. -/
structure InSequence (s : State) (h : PairHdr) : Prop where
  active    : s.pair.active = true
  formation : h.formation = s.pair.formation
  next      : h.seq = s.pair.rxNext
  held      : s.pair.held = []

/-- A drive port with nothing to withdraw: no command at the drive, none waiting for it. -/
structure QuietPort (s : State) (x : Nat) : Prop where
  slot : x < 32
  cmds : (s.port x).cmds = []
  wait : s.waitingOf x = []

/-- A LIVE member with nothing to withdraw and in no segment being filled. -/
structure QuietMember (s : State) (x : Nat) : Prop extends QuietPort s x where
  live : s.live x = true
  segs : ∀ e ∈ s.str.segs, e.2.state = .isOpen → e.2.closed = false → x ∉ e.2.members

/-- A message of the register access service with one entry that writes GLB_SCRATCH[i] (R535). -/
def scratchMessage (i : Nat) (v : BitVec 64) : List Byte :=
  beBytes 1 1 ++ beBytes 1 0 ++ beBytes 2 1 ++ beBytes 4 0 ++ beBytes 8 0 ++ beBytes 4 (F.GLB_SCRATCH_data.reg + 8 * i) ++ beBytes 1 8 ++
    beBytes 1 1 ++ beBytes 1 0 ++ beBytes 1 0 ++ beBytes 8 v.toNat

/-- A PROBE with a payload waits to leave by a port in a class (R49, R64, R88). -/
def State.probeQueued (s : State) (port cls : Nat) (src dst : Eid) (path : Nat) (x : ProbeExt) : Bool :=
  s.tms.leaves.any fun l => l.root = port && l.cls = cls && l.green.any fun i => match i.work with
    | .pkt p => p.hdr.opcode = 10 && p.hdr.src = src && p.hdr.dst = dst && p.hdr.path = path && p.ext = .probe x
    | _ => false

/-- The state after `n` steps; a step that answers no next state leaves the machine where it is. -/
def State.after : Nat → State → State
  | 0, s => s
  | n + 1, s => match step s with
    | .next t => t.after n
    | _ => s

end Sys2Proof.Machine
end

