-- ==== Sys2Proof/Certificates/Slice0/Obligations.lean ====
section
/-! DEFINITION. The statements about the module: what each command does and leaves alone, what a step and a reset are, what every step
keeps. -/

set_option linter.unusedVariables false

open Sys2Proof Sys2Proof.Machine Sys2Proof.Machine.F

/-- A step runs the command at the front of the queue on the state with the queue's rest; with no command waiting one tick of the DTC passes
(R9, R27; assumption log 1), which the power channels and Sastrugi may sample. -/
def Obligations.StepRunsTheFront : Prop :=
  (∀ (s : State) (c : Instr) (q : List Instr), step { s with pending := c :: q } = exec c { s with pending := q }) ∧
  (∀ (s : State), s.pending = [] →
    ∃ t, step s = .next t ∧ t.dtc = s.dtc + 1 ∧ t.pending = [] ∧ t.mem = s.mem ∧ t.hkt = s.hkt ∧ t.tms = s.tms ∧ t.swc = s.swc ∧ t.qpe = s.qpe ∧
      t.nsm = s.nsm ∧ t.key = s.key ∧ t.hif = s.hif ∧ t.slc = s.slc ∧ t.str = s.str ∧ t.jnl = s.jnl ∧ t.drv = s.drv ∧ t.reb = s.reb ∧
      t.pair = s.pair ∧ t.boot = s.boot ∧ t.rime = s.rime ∧ t.pwr = s.pwr ∧ t.evt = s.evt ∧ t.ctr = s.ctr ∧ t.outbox = s.outbox) ∧
  (∀ (s : State) (straps f : Nat) (l : List (Nat × Bank)) (b : BootIn), ∃ t, exec (.coldReset straps f l b) s = .next t ∧ t.dtc = 0) ∧
  (∀ (i : Instr) (s : State), ∃ t, exec i s = .next t ∧ (t.dtc = s.dtc ∨ ∃ a b c d, i = .coldReset a b c d))

/-- The state after a cold reset's registers and before the boot (R15): every register field at its reset value, memory, queues and buffers
empty, no command waiting; the invariant of memory holds. -/
def Obligations.ResetState : Prop :=
  State.reset.Inv ∧ State.reset.pending = [] ∧ State.reset.outbox = [] ∧ State.reset.mem = [] ∧ State.reset.dtc = 0 ∧
  (∀ f i, State.reset.get f i = f.resetAt i) ∧ State.reset.qpe.qps = [] ∧ State.reset.qpe.cmds = [] ∧ State.reset.hkt.ctxs = [] ∧
  State.reset.jnl.slots = [] ∧ State.reset.jnl.tail = [] ∧ State.reset.jnl.phase = .idle ∧ State.reset.evt.buffer = [] ∧
  State.reset.key.slots = [] ∧ State.reset.str.map = [] ∧ State.reset.boot.banks = [] ∧ State.reset.pair.active = false

/-- Every command is carried out, on any state, with a next state that holds the queue as it was; so a run empties its queue in as many
steps as there are commands. -/
def Obligations.EveryCommandIsCarriedOut : Prop :=
  (∀ (i : Instr) (s : State), ∃ t, exec i s = .next t ∧ t.pending = s.pending) ∧
  (∀ (s : State), (s.after s.pending.length).pending = []) ∧
  (∀ (s : State) (n : Nat), s.pending.length ≤ n → (s.after n).pending = [])

/-- The frame of every command: a register field or a part of the state that its footprint does not name keeps its value. -/
def Obligations.FrameOfEveryCommand : Prop :=
  ∀ (i : Instr) (s t : State), exec i s = .next t →
    (∀ (f : Fld) (k : Nat), (footprint i).field (f.key k) = false → t.get f k = s.get f k) ∧
    ((footprint i).part .dtc = false → t.dtc = s.dtc) ∧ ((footprint i).part .mem = false → t.mem = s.mem) ∧
    ((footprint i).part .evt = false → t.evt = s.evt) ∧ ((footprint i).part .ctr = false → t.ctr = s.ctr) ∧
    ((footprint i).part .tel = false → t.tel = s.tel) ∧ ((footprint i).part .hkt = false → t.hkt = s.hkt) ∧
    ((footprint i).part .tms = false → t.tms = s.tms) ∧ ((footprint i).part .mac = false → t.mac = s.mac) ∧
    ((footprint i).part .swc = false → t.swc = s.swc) ∧ ((footprint i).part .fwd = false → t.fwd = s.fwd) ∧
    ((footprint i).part .qpe = false → t.qpe = s.qpe) ∧ ((footprint i).part .nsm = false → t.nsm = s.nsm) ∧
    ((footprint i).part .key = false → t.key = s.key) ∧ ((footprint i).part .cip = false → t.cip = s.cip) ∧
    ((footprint i).part .hif = false → t.hif = s.hif) ∧ ((footprint i).part .slc = false → t.slc = s.slc) ∧
    ((footprint i).part .str = false → t.str = s.str) ∧ ((footprint i).part .jnl = false → t.jnl = s.jnl) ∧
    ((footprint i).part .drv = false → t.drv = s.drv) ∧ ((footprint i).part .reb = false → t.reb = s.reb) ∧
    ((footprint i).part .pair = false → t.pair = s.pair) ∧ ((footprint i).part .slt = false → t.slt = s.slt) ∧
    ((footprint i).part .boot = false → t.boot = s.boot) ∧ ((footprint i).part .rime = false → t.rime = s.rime) ∧
    ((footprint i).part .pwr = false → t.pwr = s.pwr) ∧ ((footprint i).part .freeCtr = false → t.freeCtr = s.freeCtr) ∧
    ((footprint i).part .outbox = false → t.outbox = s.outbox)

/-- Only packets placed from the network, writes through the peer window and resets change module memory (R59, R401, R15): no other command
does, and a reset leaves it empty. -/
def Obligations.WhoWritesMemory : Prop :=
  ∀ (i : Instr) (s t : State), exec i s = .next t → t.mem ≠ s.mem →
    (∃ h g, (∃ x, i = .hktWriteRx h x g) ∨ (∃ x, i = .hktReadReqRx h x g) ∨ (∃ x, i = .hktReadRespRx h x g) ∨ (∃ x, i = .hktSendRx h x g) ∨
      (∃ x, i = .hktDoorbellRx h x g)) ∨
    (∃ off len d, i = .peerWindowAccess true off len d) ∨
    (t.mem = [] ∧ ((∃ a b c d, i = .coldReset a b c d) ∨ (∃ a b, i = .warmReset a b) ∨ (∃ a b c d, i = .dumpSeal a b c d) ∨
      (∃ b, i = .orderlyStopDrained b) ∨ (∃ a b, i = .moduleSeated a b) ∨ (∃ a b, i = .buttonRelease a b) ∨
      (∃ a b, i = .feedQualifying a b) ∨ (∃ b, i = .bootWatchdog b)))

/-- Module memory keeps its canonical form in every step, whatever command is carried out, and so in every run. -/
def Obligations.MemoryStaysCanonical : Prop :=
  (∀ (s t : State), s.Inv → step s = .next t → t.Inv) ∧ (∀ (s : State) (n : Nat), s.Inv → (s.after n).Inv)

/-- R12 to R14, R364, R449, R467, R539: a write through BAR0 reaches a GLB_SCRATCH register and no other one, leaves the read-only GLB_IDENT,
reaches the RWL field STR_GROUP_CFG.fill_timeout before the configuration lock and is ignored and counted there after it; reading
SWC_BUF_STATUS, PWR_BUS_STATUS or SLT_CH_AVG answers its value and reloads its clear-on-read field. -/
def Obligations.RegisterReadsAndWrites : Prop :=
  (∀ (s : State) (i v : Nat), i < 16 → v < 2 ^ 64 → ∃ t, exec (.registerWrite .bar0 (GLB_SCRATCH_data.reg + 8 * i) 8 v) s = .next t ∧
    t.get GLB_SCRATCH_data i = v ∧ ∀ j, j ≠ i → t.get GLB_SCRATCH_data j = s.get GLB_SCRATCH_data j) ∧
  (∀ (s : State) (v : Nat), ∃ t, exec (.registerWrite .bar0 GLB_IDENT_variant.reg 8 v) s = .next t ∧
    ∀ f i, t.get f i = s.get f i) ∧
  (∀ (s : State) (g v : Nat), g < 16 → s.get GLB_STATUS_cfg_lock = 1 →
    ∃ t, exec (.registerWrite .bar0 (STR_GROUP_CFG_fill_timeout.reg + 8 * g) 8 v) s = .next t ∧
      t.get STR_GROUP_CFG_fill_timeout g = s.get STR_GROUP_CFG_fill_timeout g ∧
      t.get GLB_STATUS_rwl_ignored = min (s.get GLB_STATUS_rwl_ignored + 1) (2 ^ GLB_STATUS_rwl_ignored.w - 1)) ∧
  (∀ (s : State) (g v : Nat), g < 16 → s.get GLB_STATUS_cfg_lock = 0 → v < 2 ^ 64 →
    ∃ t, exec (.registerWrite .bar0 (STR_GROUP_CFG_fill_timeout.reg + 8 * g) 8 v) s = .next t ∧
      t.get STR_GROUP_CFG_fill_timeout g = v / 2 ^ 48 % 2 ^ 16 ∧ t.get GLB_STATUS_rwl_ignored = s.get GLB_STATUS_rwl_ignored) ∧
  (∀ (s : State), ∃ t, exec .swcBufStatusRead s = .next t ∧ t.get SWC_BUF_STATUS_min_free = s.freeCells % 2 ^ SWC_BUF_STATUS_min_free.w ∧
    t.outbox = s.outbox ++ [.regValue SWC_BUF_STATUS_min_free.reg (s.regPeek SWC_BUF_STATUS_min_free.reg 8)]) ∧
  (∀ (s : State), ∃ t, exec .pwrBusStatusRead s = .next t ∧
    t.get PWR_BUS_STATUS_vbus_min = s.get PWR_BUS_STATUS_vbus % 2 ^ PWR_BUS_STATUS_vbus_min.w ∧
    t.outbox = s.outbox ++ [.regValue PWR_BUS_STATUS_vbus_min.reg (s.regPeek PWR_BUS_STATUS_vbus_min.reg 8)]) ∧
  (∀ (s : State) (x : Nat), x < 32 → ∃ t, exec (.sltChAvgRead x) s = .next t ∧
    t.get SLT_CH_AVG_p_max_dw x = s.get SLT_CH_MEAS_p_dw x % 2 ^ SLT_CH_AVG_p_max_dw.w ∧
    t.outbox = s.outbox ++ [.regValue (SLT_CH_AVG_p_max_dw.reg + 8 * x) (s.regPeek (SLT_CH_AVG_p_max_dw.reg + 8 * x) 8)])

/-- R535 to R537: the register access service executes the oldest message and answers it; a write entry of an EID that has the right
reaches its register, one of an EID without it does not and is counted. -/
def Obligations.RegisterAccessService : Prop :=
  (∀ (s : State) (src dst : Eid) (l : List Byte) (rest : List (Eid × Eid × List Byte)), s.hkt.mgmt = (src, dst, l) :: rest →
    mgmtMalformed l = true → ∃ t, exec .mgmtRegisterAccess s = .next t ∧ t.hkt.nextMsg = s.hkt.nextMsg + 1 ∧
      ∀ i, t.get GLB_SCRATCH_data i = s.get GLB_SCRATCH_data i) ∧
  (∀ (s : State) (src dst : Eid) (rest : List (Eid × Eid × List Byte)) (i : Nat) (v : BitVec 64), i < 16 →
    s.hkt.mgmt = (src, dst, scratchMessage i v) :: rest → s.mgmtRights src / 2 % 2 = 1 →
    ∃ t, exec .mgmtRegisterAccess s = .next t ∧ t.get GLB_SCRATCH_data i = v.toNat ∧ t.hkt.nextMsg = s.hkt.nextMsg + 1) ∧
  (∀ (s : State) (src dst : Eid) (rest : List (Eid × Eid × List Byte)) (i : Nat) (v : BitVec 64), i < 16 →
    s.hkt.mgmt = (src, dst, scratchMessage i v) :: rest → s.mgmtRights src / 2 % 2 = 0 →
    ∃ t, exec .mgmtRegisterAccess s = .next t ∧ t.get GLB_SCRATCH_data i = s.get GLB_SCRATCH_data i ∧
      t.get GLB_STATUS_mgmt_denied = min (s.get GLB_STATUS_mgmt_denied + 1) (2 ^ GLB_STATUS_mgmt_denied.w - 1))

/-- R47, R49, R59, R60, R53, R110: a packet taken in order is placed, its payload in clear: a WRITE into the module memory of its region and
nowhere else, a READ_REQ leaves memory alone and has its answer sent, a READ_RESP that completes a read ends it, a SEND to service 0x0002
waits there, a DOORBELL moves its queue's index, its value's reserved upper half ignored. -/
def Obligations.PacketsTaken : Prop :=
  (∀ (s b : State) (c : HktCtx) (h : HktHdr) (x : WriteExt) (g : Ingress) (o : HktPkt) (y : WriteExt),
    Taken s 1 (rxPacket 1 h (.write x) g) o b c → o.ext = .write y →
    ∃ t, exec (.hktWriteRx h x g) s = .next t ∧
      ((b.region (keyIndex y.key)).host = false →
        t.mem = memWriteBytes s.mem ((b.region (keyIndex y.key)).basePage * 4096 + y.offset) y.payload) ∧
      ((b.region (keyIndex y.key)).host = true → t.mem = s.mem) ∧
      ∀ a, (a < (b.region (keyIndex y.key)).basePage * 4096 + y.offset ∨
          (b.region (keyIndex y.key)).basePage * 4096 + y.offset + y.payload.length ≤ a) → memRead t.mem a = memRead s.mem a) ∧
  (∀ (s b : State) (c : HktCtx) (h : HktHdr) (x : ReadReqExt) (g : Ingress) (o : HktPkt),
    Taken s 2 (rxPacket 2 h (.readReq x) g) o b c →
    ∃ t, exec (.hktReadReqRx h x g) s = .next t ∧ t.mem = s.mem ∧ t.hkt.nextMsg = b.hkt.nextMsg + 1) ∧
  (∀ (s b : State) (c : HktCtx) (h : HktHdr) (x : ReadRespExt) (g : Ingress) (o : HktPkt) (y : ReadRespExt) (r : OutRead) (n : Nat)
      (q : Qp) (f : Fetch) (l : List Fetch), Taken s 3 (rxPacket 3 h (.readResp x) g) o b c → o.ext = .readResp y →
    (c.reads.find? fun r => r.msgId = h.msgId) = some r → r.got = [] → r.len = y.payload.length → y.offset = 0 →
    r.purpose = .sqeFetch n → b.qp n = some q → q.fetches = f :: l →
    ∃ t, exec (.hktReadRespRx h x g) s = .next t ∧ t.mem = s.mem ∧
      (t.qp n).map (fun q => q.fetches.map (·.bytes)) = some (some y.payload :: l.map (·.bytes))) ∧
  (∀ (s b : State) (c : HktCtx) (h : HktHdr) (x : SendExt) (g : Ingress) (o : HktPkt) (y : SendExt),
    Taken s 4 (rxPacket 4 h (.send x) g) o b c → o.ext = .send y →
    y.service = 2 → y.pktCount = 1 → y.offset = 0 → y.msgLen = y.payload.length → c.msgs = [] →
    ∃ t, exec (.hktSendRx h x g) s = .next t ∧ t.hkt.mgmt = b.hkt.mgmt ++ [(h.src, h.dst, y.payload)]) ∧
  (∀ (s b : State) (c : HktCtx) (h : HktHdr) (x : DoorbellExt) (g : Ingress) (o : HktPkt) (q : Qp),
    Taken s 5 (rxPacket 5 h (.doorbell x) g) o b c →
    b.qp x.qpn = some q → q.state = .active → x.ring = 1 → x.value % 65536 < q.cqEntries →
    ringPos q.cqHead (x.value % 65536) q.cqEntries ≤ ringPos q.cqHead q.cqTail q.cqEntries →
    ∃ t, exec (.hktDoorbellRx h x g) s = .next t ∧ (t.qp x.qpn).map (·.cqHead) = some (x.value % 65536))

/-- R50, R62, R64: an ACK that acknowledges moves snd_una and takes the peer's window; a receiver-not-ready NAK starts its wait and a
sequence-gap NAK ends one; any other NAK fails the message it names, here a record of an event ring, which stalls; a PROBE request is
answered on its path without a context. -/
def Obligations.AcknowledgementsTaken : Prop :=
  (∀ (s : State) (h : HktHdr) (x : AckExt) (g : Ingress) (c : HktCtx), (s.rxAdmit 8 (rxPacket 8 h (.ack x) g)).2 = true →
    s.ctx h.dst h.src = some c → psnPrecedes c.sndUna x.ackPsn = true → psnPrecedes c.sndNxt x.ackPsn = false →
    ∃ t, exec (.hktAckRx h x g) s = .next t ∧ ∃ c', t.ctx h.dst h.src = some c' ∧ c'.sndUna = x.ackPsn ∧ c'.peerRwnd = x.rwnd ∧
      c'.backoff = 0) ∧
  (∀ (s : State) (h : HktHdr) (x : NakExt) (g : Ingress) (c : HktCtx), (s.rxAdmit 9 (rxPacket 9 h (.nak x) g)).2 = true →
    s.ctx h.dst h.src = some c → x.code = 8 →
    ∃ t, exec (.hktNakRx h x g) s = .next t ∧ ∃ c', t.ctx h.dst h.src = some c' ∧ c'.rnrWait = some x.nakPsn) ∧
  (∀ (s : State) (h : HktHdr) (x : NakExt) (g : Ingress) (c : HktCtx), (s.rxAdmit 9 (rxPacket 9 h (.nak x) g)).2 = true →
    s.ctx h.dst h.src = some c → x.code = 1 →
    ∃ t, exec (.hktNakRx h x g) s = .next t ∧ ∃ c', t.ctx h.dst h.src = some c' ∧ c'.rnrWait = none) ∧
  (∀ (s : State) (h : HktHdr) (x : NakExt) (g : Ingress) (c : HktCtx) (y : TxCopy) (r : Nat),
    (s.rxAdmit 9 (rxPacket 9 h (.nak x) g)).2 = true → s.ctx h.dst h.src = some c → x.code ≠ 1 → x.code ≠ 8 →
    c.copyOf x.nakPsn = some y → y.purpose = .evtRing r → r < 16 →
    ∃ t, exec (.hktNakRx h x g) s = .next t ∧ t.get EVT_RING_PTR_stalled r = 1) ∧
  (∀ (s b : State) (h : HktHdr) (x : ProbeExt) (g : Ingress) (r : Nat), s.rxAdmit 10 (rxPacket 10 h (.probe x) g) = (b, true) → x.kind = 0 →
    b.hktPorts h.dst h.src h.path (36 + groupOf h.src) = [r] → b.portUp r = true → b.cellsOk r 1 = true → b.alphaOk r h.svc 1 = true →
    h.dst ≠ s.mgmtEid → s.ctx h.dst h.src = none →
    ∃ t, exec (.hktProbeRx h x g) s = .next t ∧ t.hkt.ctxs = s.hkt.ctxs ∧ t.hkt.nextMsg = s.hkt.nextMsg ∧
      t.probeQueued r h.svc h.dst h.src h.path ⟨x.id, 1, x.path⟩ = true)

/-- R54, R59, R62, R64, R68, R75, R77, R173: a context's timers: the delayed ACK is sent and no longer pending, a gap asks again, a retransmit
timeout backs off or fails the context at the limit, a receiver-not-ready wait ends, a window probe sends one packet, a path probe goes out
on the slow path and leaves the contexts; an idle context moves to its next epoch after the PSN cap or the age limit; a send that waited for context space leaves its queue; a revoked region entry is free once no packet names it. -/
def Obligations.ContextsAndRegions : Prop :=
  (∀ (s : State) (loc peer : Eid) (c : HktCtx) (a : Answered), s.ctx loc peer = some c → c.answered = some a → c.ackTimer = true →
    ∃ t, exec (.ackDelayExpiry loc peer) s = .next t ∧ ∃ c', t.ctx loc peer = some c' ∧ c'.ackPend = false ∧ c'.ackTimer = false ∧
      c'.rcvNxt = c.rcvNxt) ∧
  (∀ (s : State) (loc peer : Eid) (c : HktCtx) (a : Answered), s.ctx loc peer = some c → c.answered = some a → c.gapTimer = true →
    ∃ t, exec (.gapTimerExpiry loc peer) s = .next t ∧ ∃ c', t.ctx loc peer = some c' ∧ c'.gapTimer = true ∧ c'.rcvNxt = c.rcvNxt ∧
      c'.ackPend = false) ∧
  (∀ (s : State) (loc peer : Eid) (c : HktCtx), s.ctx loc peer = some c → s.peerUsable peer = true → c.rtoOn = true →
    c.backoff + 1 < atLeast1 (s.get HKT_RETRY_CFG_rto_limit) →
    ∃ t, exec (.rtoExpiry loc peer) s = .next t ∧ ∃ c', t.ctx loc peer = some c' ∧ c'.backoff = c.backoff + 1 ∧ c'.sndUna = c.sndUna) ∧
  (∀ (s : State) (loc peer : Eid) (c : HktCtx), s.ctx loc peer = some c → s.peerUsable peer = true → c.rtoOn = true →
    atLeast1 (s.get HKT_RETRY_CFG_rto_limit) ≤ c.backoff + 1 → c.copies = [] → c.unsent = [] → c.reads = [] →
    ∃ t, exec (.rtoExpiry loc peer) s = .next t ∧ Reports s t EV_HKT_PEER_UNREACHABLE 5 peer.toNat [] ∧
      ∃ c', t.ctx loc peer = some c' ∧ c'.sndEpoch = c.sndEpoch + 1 ∧ c'.sndNxt = 0 ∧ c'.sndUna = 0) ∧
  (∀ (s : State) (loc peer : Eid) (c : HktCtx) (p : Psn), s.ctx loc peer = some c → c.rnrWait = some p →
    ∃ t, exec (.rnrWaitExpiry loc peer) s = .next t ∧ ∃ c', t.ctx loc peer = some c' ∧ c'.rnrWait = none ∧ c'.rtxNxt = c.sndNxt) ∧
  (∀ (s : State) (loc peer : Eid) (c : HktCtx) (m : TxMsg) (l : List TxMsg), s.ctx loc peer = some c → c.unsent = m :: l →
    c.outstanding = 0 → c.peerRwnd = 0 → s.maySend c m 1 = true →
    ∃ t, exec (.windowProbeDue loc peer) s = .next t ∧ ∃ c', t.ctx loc peer = some c' ∧ c'.sndNxt = c.sndNxt + 1) ∧
  (∀ (s : State) (loc peer : Eid) (c : HktCtx) (p r : Nat), s.ctx loc peer = some c → c.localEid = loc → c.peerEid = peer →
    ((List.range s.pathCount).filter fun k => (c.paths[k]?).any fun y => y.state = .slow) = [p] →
    s.hktPorts loc peer p (36 + groupOf peer) = [r] → s.portUp r = true → s.cellsOk r 1 = true → s.alphaOk r 7 1 = true →
    loc ≠ s.mgmtEid →
    ∃ t, exec (.pathProbeInterval loc peer) s = .next t ∧ t.hkt = s.hkt ∧
      t.probeQueued r 7 loc peer p ⟨BitVec.ofNat 32 s.dtc.toNat, 0, p⟩ = true) ∧
  (∀ (s : State) (loc peer : Eid) (c : HktCtx), s.ctx loc peer = some c → c.sndUna = c.sndNxt →
    c.capped = true ∨ secTicks 2048 ≤ s.since c.epochAt → c.unsent = [] →
    ∃ t, exec (.epochAdvance loc peer) s = .next t ∧ ∃ c', t.ctx loc peer = some c' ∧ c'.sndEpoch = c.sndEpoch + 1 ∧ c'.sndNxt = 0 ∧
      c'.epochAt = s.dtc) ∧
  (∀ (s u : State) (loc peer : Eid) (m : TxMsg) (l : List (Eid × Eid × TxMsg)) (c : HktCtx), s.hkt.waiting = (loc, peer, m) :: l →
    s.needCtx loc peer = some (c, u) → ∃ t, exec .spillSendResume s = .next t ∧ t.hkt.waiting = l) ∧
  (∀ (s : State) (i : Nat) (r : Region), 3 ≤ i → i < 65536 → r.tag < 16384 → tget s.hkt.regions i = some r → r.state = .revoking → r.revCmd = none →
    s.keyInFlight (regionKey i r.tag) = false →
    ∃ t, exec (.regionRevokeDone i) s = .next t ∧ (t.region i).state = .free ∧ ∀ j, j ≠ i → t.region j = s.region j)

/-- R82 to R85: a pause of a priority is sent again while its cells stay, a received pause starts or ends it, its end resumes the priority,
a storm takes PFC from it and reports, and its quiet gives PFC back. -/
def Obligations.PriorityFlowControl : Prop :=
  (∀ (s : State) (p tc : Nat), p < 34 → s.pfcOn p tc = true → (s.pfc p tc).tripped = false → (s.pfc p tc).xoff = true →
    s.xoffCells p - 512 ≤ s.heldCells p tc →
    ∃ t, exec (.pfcRefresh p tc) s = .next t ∧ t.outbox = s.outbox ++ [.pfc p tc 0xFFFF] ∧ (t.pfc p tc).xoff = true) ∧
  (∀ (s : State) (p tc : Nat), p < 34 → s.pfcOn p tc = true → (s.pfc p tc).tripped = false → (s.pfc p tc).xoff = true →
    s.heldCells p tc < s.xoffCells p - 512 →
    ∃ t, exec (.pfcRefresh p tc) s = .next t ∧ t.outbox = s.outbox ++ [.pfc p tc 0] ∧ (t.pfc p tc).xoff = false) ∧
  (∀ (s : State) (p tc n : Nat), tc < 8 → n < 65536 → s.pfcOn p tc = true → (s.pfc p tc).tripped = false →
    ∃ t, exec (.pfcFrameRx p [(tc, n)]) s = .next t ∧ (t.pfc p tc).lastPfc = s.dtc ∧
      (n = 0 → (t.pfc p tc).paused = none) ∧
      (n ≠ 0 → (t.pfc p tc).paused = some (s.dtc + BitVec.ofNat 64 (n * 512 * 16 / (10 * s.portGbps p))))) ∧
  (∀ (s : State) (p tc : Nat), (s.pfc p tc).paused.isSome = true →
    ∃ t, exec (.pfcPauseExpiry p tc) s = .next t ∧ (t.pfc p tc).paused = none) ∧
  (∀ (s : State) (p tc : Nat), s.pfcOn p tc = true → s.pausedAt p tc = true → 0 < s.depth p tc →
    ∃ t, exec (.pfcStormTrip p tc) s = .next t ∧ (t.pfc p tc).tripped = true ∧ (t.pfc p tc).paused = none ∧
      Reports s t EV_MAC_PFC_STORM 1 p [tc]) ∧
  (∀ (s : State) (p tc : Nat), (s.pfc p tc).tripped = true →
    ∃ t, exec (.pfcStormRestore p tc) s = .next t ∧ (t.pfc p tc).tripped = false ∧
      (∀ q c, (q, c) ≠ (p, tc) → t.pfc q c = s.pfc q c) ∧ Reports s t EV_MAC_PFC_RESTORED 1 p [tc])

/-- R46, R88, R93, R97, R98, R169, R305: a root sends what its scheduler picks, a packet at a port stamped with the current time and sealed,
one whose protected peer has no usable key never leaving; a drive command under a tag; a calendar slot
empties of shaped nodes that are due; a command the policer held for its limit fails; a sample leaves every queue's depth and its
time. -/
def Obligations.SchedulingAndPolicing : Prop :=
  (∀ (s u v : State) (r : Nat) (i : TmsItem) (p q : HktPkt), r < 34 → s.hkt.mgmtOut = [] → s.takeItem r = some (i, u) → i.work = .pkt p →
    s.portUp r = true → (u.dropCells i.cells).seal p = some (q, v) →
    ∃ t, exec (.schedulerPick r) s = .next t ∧ q.hdr.sendTs = ts32 s.dtc ∧ ∃ w, w.port = r ∧ w.srcMac = s.get MAC_PORT_CFG_mac r ∧
      w.ttl = 64 ∧ t.outbox = s.outbox ++ [.hkt q w]) ∧
  (∀ (s u : State) (r : Nat) (i : TmsItem) (p : HktPkt), r < 34 → s.hkt.mgmtOut = [] → s.takeItem r = some (i, u) → i.work = .pkt p →
    s.portUp r = true → (u.dropCells i.cells).seal p = none →
    ∃ t, exec (.schedulerPick r) s = .next t ∧ t.outbox = s.outbox) ∧
  (∀ (s u : State) (i : TmsItem) (c : DriveCmd) (tag : Nat), s.hkt.mgmtOut = [] → s.takeItem 34 = some (i, u) → i.work = .drive c →
    u.freeTag c.member = some tag → s.get DRV_PORT_STATUS_state c.member = 3 → s.live c.member = true →
    ∃ t, exec (.schedulerPick 34) s = .next t ∧ ∃ d, t.outbox = s.outbox ++ [.drive c (s.driveSqe c tag) d]) ∧
  (∀ (s : State) (n : Nat), n < 16384 →
    (∀ e ∈ s.tms.calendar, e.slot = n → (∃ i, e.what = .shaper i) ∧ ((e.due - s.dtc).toNat < 64 ∨ 2 ^ 63 ≤ (e.due - s.dtc).toNat)) →
    ∃ t, exec (.calendarSlot n) s = .next t ∧ t.tms.calendar = s.tms.calendar.filter fun e => e.slot != n) ∧
  (∀ (s : State) (c : Nat) (x : Cmd) (q : Qp), Running s c x q → x.colour = .red → x.phase = .fetched → x.heldAt.isSome = true →
    ∃ t, exec (.policeHoldTimeout c) s = .next t ∧ Completes t c St.policed (BitVec.ofNat 32 (s.cmdTenant x))) ∧
  (∀ (s : State) (p tc : Nat), p < 34 → tc < 8 → ∃ t, exec .tmsQueueSample s = .next t ∧
    t.get TMS_QSAMPLE_depth (ix2 8 p tc) = s.depth p tc % 2 ^ TMS_QSAMPLE_depth.w ∧ tget t.tms.sampledAt (p, tc) = some s.dtc)

/-- R104 to R107, R129, R427: a valid CREATE makes an ACTIVE queue pair with two ring regions and is answered, an invalid one, or one over the
management port for an I/O queue pair, is only answered; DELETE starts the deletion and its answer waits; QUERY changes nothing; RESET is answered when the EID has no queue pair
left; a finished deletion frees the QPN and completes the Delete I/O Submission
Queue that asked for it. -/
def Obligations.QueueSetup : Prop :=
  (∀ (s s1 s2 : State) (src dst : Eid) (m : QSetup) (q : Nat) (k1 k2 : Word32), queueCreateOk m = true →
    (dst = s.mgmtEid → m.admin = true) → (m.admin = true → s.adminQp (.net src) = none) → s.qpe.qps.length < 65536 → firstFree s.qpe.qps (s.qpe.qps.length + 1) 0 = some q →
    s.allocRegion (ringRegion dst m.sqAddr (64 * m.sqEntries) true) = some (k1, s1) →
    s1.allocRegion (ringRegion dst m.cqAddr (16 * m.cqEntries) false) = some (k2, s2) →
    ∃ t, exec (.queueCreate src dst m) s = .next t ∧ t.hkt.nextMsg = s.hkt.nextMsg + 1 ∧ (∀ p, p ≠ q → t.qp p = s.qp p) ∧
      ∃ x, t.qp q = some x ∧ x.owner = .net src ∧ x.state = .active ∧ x.sqKey = k1 ∧ x.cqKey = k2 ∧ x.sqEntries = m.sqEntries ∧
        x.cqEntries = m.cqEntries ∧ x.sqHead = 0 ∧ x.sqTail = 0 ∧ x.cqPhase = true ∧ x.notifyCount = max 1 m.notifyCount) ∧
  (∀ (s : State) (src dst : Eid) (m : QSetup), queueCreateOk m = false ∨ (dst = s.mgmtEid ∧ m.admin = false) →
    ∃ t, exec (.queueCreate src dst m) s = .next t ∧ t.hkt.nextMsg = s.hkt.nextMsg + 1 ∧ t.qpe = s.qpe) ∧
  (∀ (s : State) (src dst : Eid) (m : QSetup) (x : Qp), m.len = 64 → s.ownQp (.net src) m.qpn = some x → x.state ≠ .deleting →
    ∃ t, exec (.queueDelete src dst m) s = .next t ∧
      ∃ y, t.qp m.qpn = some y ∧ y.state = .deleting ∧ y.replies = x.replies ++ [(2, m.reqId)] ∧ y.sqTail = y.sqHead) ∧
  (∀ (s : State) (src dst : Eid) (m : QSetup),
    ∃ t, exec (.queueQuery src dst m) s = .next t ∧ t.hkt.nextMsg = s.hkt.nextMsg + 1 ∧ t.qpe = s.qpe) ∧
  (∀ (s : State) (src dst : Eid) (m : QSetup), m.len = 64 → s.qpsOf (.net src) = [] →
    ∃ t, exec (.queueReset src dst m) s = .next t ∧ t.hkt.nextMsg = s.hkt.nextMsg + 1 ∧ t.qpe.resets = s.qpe.resets) ∧
  (∀ (s : State) (src dst : Eid) (m : QSetup), m.len = 64 → s.qpsOf (.net src) ≠ [] →
    ∃ t, exec (.queueReset src dst m) s = .next t ∧ t.qpe.resets = s.qpe.resets ++ [(src, dst, m.reqId)] ∧
      t.hkt.nextMsg = s.hkt.nextMsg) ∧
  (∀ (s : State) (q : Nat) (x : Qp), s.qp q = some x → x.state ≠ .active → s.inflight q = 0 → x.merging = [] →
    (∀ e, x.owner = .net e → s.keyInFlight x.sqKey = false ∧ s.keyInFlight x.cqKey = false) → x.delCmds = [] →
    ∃ t, exec (.queueDeletionDone q) s = .next t ∧ t.qp q = none ∧ ∀ p, p ≠ q → t.qp p = s.qp p) ∧
  (∀ (s : State) (q c : Nat) (x z : Qp) (y : Cmd), s.qp q = some x → ownerLocal x.owner = true → x.state ≠ .active → s.inflight q = 0 →
    x.merging = [] → x.delCmds = [c] → Running s c y z → y.qpn ≠ q →
    ∃ t, exec (.queueDeletionDone q) s = .next t ∧ t.qp q = none ∧ Completes t c St.ok)

/-- R108, R109: a local owner makes a completion queue and a submission queue on it, and deletes them, a submission
queue's deletion ending its command only when it has ended; a doorbell write that is not 32 bits
wide is ignored and counted, one of 32 bits moves the head or the tail. -/
def Obligations.LocalQueues : Prop :=
  (∀ (s : State) (c : Nat) (x : Cmd) (q : Qp) (o : QOwner), Running s c x q → s.adminCmd c 5 = some (x, o) → ownerLocal o = true →
    x.sqe.cdw10.toNat % 65536 ≠ 0 → x.sqe.cdw10.toNat % 65536 ≤ s.maxQid o →
    (∀ k ∈ s.qpe.cqs, k.owner = o → k.qid ≠ x.sqe.cdw10.toNat % 65536) → s.qpnOf o (x.sqe.cdw10.toNat % 65536) = none →
    1 ≤ x.sqe.cdw10.toNat / 65536 → x.sqe.cdw10.toNat / 65536 < 4096 → x.sqe.cdw11.toNat % 2 = 1 →
    x.sqe.dptr0.toNat % 4096 = 0 → s.vectorOk o (x.sqe.cdw11.toNat / 65536) ((x.sqe.cdw11.toNat / 2) % 2 = 1) = true →
    ∃ t, exec (.createIoCq c) s = .next t ∧ Completes t c St.ok ∧
      t.qpe.cqs = s.qpe.cqs ++ [({ owner := o, qid := x.sqe.cdw10.toNat % 65536, entries := x.sqe.cdw10.toNat / 65536 + 1, base := x.sqe.dptr0, vector := x.sqe.cdw11.toNat / 65536, ien := (x.sqe.cdw11.toNat / 2) % 2 = 1 } : LocalCq)]) ∧
  (∀ (s : State) (c n : Nat) (x : Cmd) (q : Qp) (o : QOwner) (k : LocalCq), Running s c x q → s.adminCmd c 1 = some (x, o) →
    ownerLocal o = true → x.sqe.cdw10.toNat % 65536 ≠ 0 → x.sqe.cdw10.toNat % 65536 ≤ s.maxQid o →
    s.qpnOf o (x.sqe.cdw10.toNat % 65536) = none → s.ioQueues o < s.maxQid o → s.qpe.qps.length < 65536 →
    1 ≤ x.sqe.cdw10.toNat / 65536 → x.sqe.cdw10.toNat / 65536 < 4096 → x.sqe.cdw11.toNat % 2 = 1 →
    x.sqe.dptr0.toNat % 4096 = 0 → (s.qpe.cqs.find? fun k => k.owner = o && k.qid = x.sqe.cdw11.toNat / 65536) = some k →
    s.cqServes o (x.sqe.cdw11.toNat / 65536) = false → firstFree s.qpe.qps (s.qpe.qps.length + 1) 0 = some n →
    ∃ t, exec (.createIoSq c) s = .next t ∧ Completes t c St.ok ∧ t.qpe.cqs = s.qpe.cqs ∧
      ∃ y, t.qp n = some y ∧ y.owner = o ∧ y.qid = x.sqe.cdw10.toNat % 65536 ∧ y.sqEntries = x.sqe.cdw10.toNat / 65536 + 1 ∧
        y.cqEntries = k.entries ∧ y.vector = k.vector ∧ y.cqHead = k.head ∧ y.cqTail = k.tail ∧
        y.state = .active) ∧
  (∀ (s : State) (c n : Nat) (x : Cmd) (q z : Qp) (o : QOwner), Running s c x q → s.adminCmd c 0 = some (x, o) → ownerLocal o = true →
    x.sqe.cdw10.toNat % 65536 ≠ 0 → s.qpnOf o (x.sqe.cdw10.toNat % 65536) = some n → s.qp n = some z → z.admin = false → n ≠ x.qpn →
    x.phase = .fetched → (∀ e ∈ s.qpe.cmds, e.2.qpn = n → e.1 ≠ c) → (∀ e ∈ s.qpe.cmds, e.2.waitsOn n = false) →
    ∃ t, exec (.deleteIoSq c) s = .next t ∧ (∃ y, t.qp n = some y ∧ y.state = .deleting ∧ y.delCmds = z.delCmds ++ [c]) ∧
      ∃ w, t.cmd c = some w ∧ w.phase = .started) ∧
  (∀ (s : State) (c : Nat) (x : Cmd) (q : Qp) (o : QOwner) (k : LocalCq), Running s c x q → s.adminCmd c 4 = some (x, o) →
    ownerLocal o = true → (s.qpe.cqs.find? fun k => k.owner = o && k.qid = x.sqe.cdw10.toNat % 65536) = some k →
    s.cqServes o (x.sqe.cdw10.toNat % 65536) = false →
    ∃ t, exec (.deleteIoCq c) s = .next t ∧ Completes t c St.ok ∧ t.qpe.cqs = s.qpe.cqs.filter (· != k)) ∧
  (∀ (s : State) (offset width v : Nat), width ≠ 4 → ∃ t, exec (.localDoorbellWrite .fn offset width v) s = .next t ∧
    t.qpe = s.qpe ∧ t.ctr = (s.bump (ctrHif 0 13)).ctr) ∧
  (∀ (s : State) (o : QOwner) (offset q v : Nat) (x : Qp), (∀ n, o = .slice n → s.get SLC_STATUS_state n = 1) →
    offset % 8 = 4 → s.cqOf o (offset / 8) = some q → s.qp q = some x →
    x.state = .active → v < 65536 → v < x.cqEntries → ringPos x.cqHead v x.cqEntries ≤ ringPos x.cqHead x.cqTail x.cqEntries →
    ∃ t, exec (.localDoorbellWrite o offset 4 v) s = .next t ∧
      ∃ y, t.qp q = some y ∧ y.cqHead = v ∧ y.sqTail = x.sqTail ∧ y.cqTail = x.cqTail) ∧
  (∀ (s : State) (o : QOwner) (offset q v : Nat) (x : Qp), (∀ n, o = .slice n → s.get SLC_STATUS_state n = 1) →
    offset % 8 = 0 → s.qpnOf o (offset / 8) = some q → s.qp q = some x →
    x.state = .active → v < 65536 → v < x.sqEntries →
    ∃ t, exec (.localDoorbellWrite o offset 4 v) s = .next t ∧ ∃ y, t.qp q = some y ∧ y.sqTail = v ∧ y.cqHead = x.cqHead)

/-- R112, R113, R400: a queue with pending entries fetches from its head, a fetched admin entry becomes a command and an entry of an
unsupported opcode completes with Invalid Command Opcode, a read of host memory brings its bytes, and one that times out puts its queue in ERROR. -/
def Obligations.FetchingEntries : Prop :=
  (∀ (s : State) (q : Nat) (x : Qp) (e : Eid), s.qp q = some x → x.owner = .net e → x.sqHead < x.sqEntries → x.sqTail < x.sqEntries →
    x.sqTail ≠ x.sqHead → x.fetches = [] → s.fetchStopped q x = false → 64 * s.qpe.qps.length ≤ s.freeSlots →
    ∃ t, exec .fetchResume s = .next t ∧ ∃ y f, t.qp q = some y ∧ y.fetches = [f] ∧ f.first = x.sqHead ∧ 1 ≤ f.count ∧ f.count ≤ 64 ∧
      f.bytes = none) ∧
  (∀ (s : State) (q : Nat) (x : Qp) (f : Fetch) (d : List Byte) (l : List Fetch), s.qp q = some x → x.fetches = f :: l → f.count = 1 →
    f.bytes = some d → x.breaking = false → x.admin = false → x.state ≠ .error → x.ringBad = false → tget s.qpe.cmds s.qpe.nextCmd = none →
    (∀ e ∈ s.qpe.cmds, e.2.qpn = q → e.2.sqe.cid ≠ (sqeParse (d.take 64)).cid) → ioOpcode (sqeParse (d.take 64)).opcode = false →
    ∃ t, exec (.sqeFetchComplete q) s = .next t ∧ Completes t s.qpe.nextCmd St.invalidOpcode ∧ t.qpe.nextCmd = s.qpe.nextCmd + 1 ∧
      ∃ y, t.qp q = some y ∧ y.sqHead = (x.sqHead + 1) % x.sqEntries) ∧
  (∀ (s : State) (q : Nat) (x : Qp) (e : Eid) (f : Fetch) (d : List Byte) (l : List Fetch), s.qp q = some x → x.owner = .net e →
    x.fetches = f :: l → f.count = 1 → f.bytes = some d → x.breaking = false → x.admin = true → tget s.qpe.cmds s.qpe.nextCmd = none →
    (∀ e ∈ s.qpe.cmds, e.2.qpn = q → e.2.sqe.cid ≠ (sqeParse (d.take 64)).cid) → adminOpcode (sqeParse (d.take 64)).opcode = true →
    psdtCheck (.net e) (sqeParse (d.take 64)) = none → pointerCheck (.net e) true (sqeParse (d.take 64)) = none →
    ∃ t, exec (.sqeFetchComplete q) s = .next t ∧ ∃ y, t.cmd s.qpe.nextCmd = some y ∧ y.phase = .fetched ∧ y.qpn = q ∧
      y.sqe = sqeParse (d.take 64) ∧ y.fetchedAt = s.dtc) ∧
  (∀ (s : State) (j q : Nat) (r : HostRead) (x : Qp) (f : Fetch) (l : List Fetch) (d : List Byte), s.hif.reads[j]? = some r →
    r.use = .sqe q → d.length = r.len → s.qp q = some x → x.fetches = f :: l →
    ∃ t, exec (.localDmaCompletion j d) s = .next t ∧ t.hif.reads = s.hif.reads.eraseIdx j ∧
      ∃ y, t.qp q = some y ∧ y.fetches = { f with bytes := some d } :: l) ∧
  (∀ (s : State) (j q : Nat) (r : HostRead) (x : Qp) (a : Bool), s.hif.reads[j]? = some r → r.use = .sqe q → s.qp q = some x →
    x.state = .active → x.ringBad = false → ∃ t, exec (.dmaCompletionTimeout j a) s = .next t ∧ (∃ y, t.qp q = some y ∧ y.state = .error ∧ y.fetches = []) ∧
      Reports s t EV_QPE_QUEUE_ERROR 3 q [])

/-- R117 to R120, R245, R251, R393: an admitted command starts, a write with its blocks reserved or after waiting for them; a completion
takes the next slot of its ring or waits and reports a full ring; gathered completions leave, a notification is repeated, a coalesced
interrupt leaves. -/
def Obligations.StartingAndCompleting : Prop :=
  (∀ (s : State) (c : Nat) (x : Cmd), s.cmd c = some x → s.startable c x = true → s.admission = true → s.busHolds x = false →
    s.cmdAdmin x = false → x.forwarded = false → x.sqe.opcode ≠ 1 → x.sqe.opcode ≠ 0x19 →
    ∃ t, exec (.commandStart c) s = .next t ∧ t.cmd c = some { x with phase := .started, startAt := s.dtc }) ∧
  (∀ (s : State) (c i : Nat) (x : Cmd) (n : Ns) (l : List Nat), s.cmd c = some x → s.startable c x = true → s.admission = true →
    s.busHolds x = false → s.cmdAdmin x = false → x.forwarded = false → x.sqe.opcode = 1 → x.ns = some i → s.ns i = some n →
    s.freeOwn (nlbOf x.sqe) = some l → s.get JNL_NEVE_STATUS_high_water = 0 → (∀ k ∈ s.jnl.waiting, c ≤ k) →
    ∃ t, exec (.commandStart c) s = .next t ∧ (∃ y, t.cmd c = some y ∧ y.phase = .started) ∧
      (∀ j ∈ l, ∃ z, tget t.jnl.slots j = some z ∧ z.state = .reserved) ∧
      ∃ w, tget t.jnl.writes c = some w ∧ w.ns = i ∧ w.lba = slbaOf x.sqe ∧ w.slots = l ∧ w.blocks = List.range (nlbOf x.sqe)) ∧
  (∀ (s : State) (c i : Nat) (x : Cmd), s.cmd c = some x → s.startable c x = true → s.admission = true →
    s.busHolds x = false → s.cmdAdmin x = false → x.forwarded = false → x.sqe.opcode = 1 → x.ns = some i →
    s.freeOwn (nlbOf x.sqe) = none →
    ∃ t, exec (.commandStart c) s = .next t ∧ t.cmd c = some { x with reserving := true } ∧ c ∈ t.jnl.waiting ∧
      t.jnl.slots = s.jnl.slots) ∧
  (∀ (s : State) (q c : Nat) (x : Qp) (d : Cmd) (l : List Nat), s.qp q = some x → x.comp = c :: l → s.cmd c = some d →
    (x.cqTail + 1) % x.cqEntries ≠ x.cqHead →
    ∃ t, exec (.cqePost q) s = .next t ∧ t.cmd c = none ∧ ∃ y, t.qp q = some y ∧ y.cqTail = (x.cqTail + 1) % x.cqEntries ∧
      y.cmplCount = (x.cmplCount + 1) % 2 ^ 32 ∧ y.cqSeq = (x.cqSeq + 1) % 65536 ∧
      y.errCount = (if d.status.sct ≠ 0 ∨ d.status.sc ≠ 0 then (x.errCount + 1) % 2 ^ 32 else x.errCount) ∧ y.cqHead = x.cqHead) ∧
  (∀ (s : State) (q c : Nat) (x : Qp) (d : Cmd) (l : List Nat), s.qp q = some x → x.comp = c :: l → s.cmd c = some d →
    (x.cqTail + 1) % x.cqEntries = x.cqHead → x.state = .active → x.fullRaised = false →
    ∃ t, exec (.cqePost q) s = .next t ∧ t.cmd c = some d ∧ Reports s t EV_QPE_CQ_FULL 3 q [] ∧
      ∃ y, t.qp q = some y ∧ y.cqTail = x.cqTail ∧ y.comp = x.comp) ∧
  (∀ (s : State) (q : Nat) (x : Qp) (e : Eid), s.qp q = some x → x.owner = .net e → x.merging ≠ [] → s.keyRevoking x.cqKey = false →
    ∃ t, exec (.mergeWaitExpiry q) s = .next t ∧ t.hkt.nextMsg = s.hkt.nextMsg + 1 ∧ ∃ y, t.qp q = some y ∧ y.merging = []) ∧
  (∀ (s : State) (q : Nat) (x : Qp) (e : Eid) (l : Cqe), s.qp q = some x → x.owner = .net e → x.lastCqe = some l → x.unnotified ≠ 0 →
    x.merging = [] → s.keyRevoking x.cqKey = false →
    ∃ t, exec (.notifyTimeExpiry q) s = .next t ∧ t.hkt.nextMsg = s.hkt.nextMsg + 1 ∧ ∃ y, t.qp q = some y ∧ y.unnotified = 0 ∧
      y.cqTail = x.cqTail) ∧
  (∀ (s : State) (o : QOwner) (v : Nat) (n : Nat × Word64), tget s.hif.coal (o, v) = some n →
    ∃ t, exec (.intCoalesceExpiry o v) s = .next t ∧ tget t.hif.coal (o, v) = none ∧
      t.outbox = (({ s with hif := { s.hif with coal := tdel s.hif.coal (o, v) } } : State).message o (s.epOf o) (s.vectorOf o v)).outbox)

/-- R114, R122, R214 to R216: a Flush covers what came before it and completes when that is done; a write asks for its data; a Read of a
block never written completes, and a Copy has it; Write Zeroes and Deallocate leave blocks unmapped as
their records are appended, or their records wait. -/
def Obligations.IoCommands : Prop :=
  (∀ (s : State) (c : Nat) (x : Cmd), s.ready c 0 = some x → x.forwarded = false →
    ∃ t, exec (.flush c) s = .next t ∧ ∃ y, t.cmd c = some y ∧ y.begun = true ∧ y.phase = .started ∧
      ∀ e ∈ s.jnl.writes, e.1 < c → e.2.ns ∈ s.flushNs x → e.1 ∈ y.covers) ∧
  (∀ (s : State) (c : Nat) (x : Cmd) (q : Qp), Running s c x q → x.sqe.opcode = 0 → x.begun = true → x.phase = .started →
    x.forwarded = false → s.cmdAdmin x = false → (∀ k ∈ x.covers, s.coveredDone k = true) → x.fwdLeft = 0 → x.failed = none →
    ∃ t, exec (.flushDone c) s = .next t ∧ Completes t c St.ok) ∧
  (∀ (s u : State) (c : Nat) (x : Cmd), s.ready c 1 = some x → s.takeStages c (nlbOf x.sqe) = some u → x.remote = none →
    s.keyRevoking (sglKeyOf x.sqe) = false →
    ∃ t, exec (.write c) s = .next t ∧ ∃ y, t.cmd c = some y ∧ y.begun = true ∧ y.phase = .started ∧ y.left = nlbOf x.sqe) ∧
  (∀ (s u : State) (c i : Nat) (x : Cmd) (q : Qp) (e : Eid), Running s c x q → s.ready c 2 = some x → q.owner = .net e → nlbOf x.sqe = 1 →
    s.takeReadUnits c 1 = some u → s.keyRevoking (sglKeyOf x.sqe) = false → x.forwarded = false → x.waitList = false → x.lost = none →
    x.ns = some i →
    (tgetD s.str.pages (i, pageOf (slbaOf x.sqe)) {}).cached = true → (tgetD s.str.pages (i, pageOf (slbaOf x.sqe)) {}).reading = false →
    s.lookup i (slbaOf x.sqe) = .unmapped → s.hif.queue = [] →
    ∃ t, exec (.read c) s = .next t ∧ Completes t c St.ok) ∧
  (∀ (s : State) (c i lba : Nat) (x : Cmd), s.ready c 8 = some x → x.forwarded = false → x.ns = some i → slbaOf x.sqe ≤ lba →
    lba < slbaOf x.sqe + nlbOf x.sqe → ∃ t, exec (.writeZeroes c) s = .next t ∧ (t.lookup i lba = .unmapped ∨
      ∃ a n, a ≤ lba ∧ lba < a + n ∧ ((0, FirnBody.mapClear i a n) ∈ t.jnl.parked ∨ (0, FirnBody.mapClear i a n) ∈ t.jnl.reqs))) ∧
  (∀ (s : State) (c i lba : Nat) (x : Cmd), s.ready c 8 = some x → x.forwarded = false → x.ns = some i → slbaOf x.sqe ≤ lba →
    lba < slbaOf x.sqe + nlbOf x.sqe → pageOf (slbaOf x.sqe) = pageOf (slbaOf x.sqe + nlbOf x.sqe - 1) → s.isMaster = true →
    s.appendWaits (.mapClear i (slbaOf x.sqe) (nlbOf x.sqe)) = false →
    ∃ t, exec (.writeZeroes c) s = .next t ∧ t.lookup i lba = .unmapped) ∧
  (∀ (s : State) (c i : Nat) (x : Cmd) (q : Qp), Running s c x q → s.ready c 9 = some x → x.ns = some i →
    (x.sqe.cdw11.toNat / 4) % 2 = 0 →
    ∃ t, exec (.datasetManagement c) s = .next t ∧ Completes t c St.ok ∧ t.str = s.str) ∧
  (∀ (s : State) (c i lba : Nat) (x : Cmd), s.ready c 9 = some x → x.ns = some i → (x.sqe.cdw11.toNat / 4) % 2 = 1 → x.forwarded = false →
    (∃ r ∈ x.ranges, r.1 ≤ lba ∧ lba < r.1 + r.2) →
    ∃ t, exec (.datasetManagement c) s = .next t ∧ (t.lookup i lba = .unmapped ∨
      ∃ a n, a ≤ lba ∧ lba < a + n ∧ ((0, FirnBody.mapClear i a n) ∈ t.jnl.parked ∨ (0, FirnBody.mapClear i a n) ∈ t.jnl.reqs))) ∧
  (∀ (s u : State) (c i a : Nat) (x : Cmd) (q : Qp), Running s c x q → s.ready c 0x19 = some x → x.forwarded = false → x.ranges = [(a, 1)] →
    s.takeReadUnits c 1 = some u → x.waitList = false → x.ns = some i → (tgetD s.str.pages (i, pageOf a) {}).cached = true →
    (tgetD s.str.pages (i, pageOf a) {}).reading = false → s.lookup i a = .unmapped →
    ∃ t, exec (.copy c) s = .next t ∧ ∃ y, t.cmd c = some y ∧ y.begun = true ∧ y.left = 0 ∧ tget y.data 0 = some 0)

/-- R123 to R127, R133: a WAIT completes when its target has completed enough, breaks when its target is gone, times out; an Abort ends the
command it names before it starts; a hold ends at its limit. -/
def Obligations.WaitAbortAndHolds : Prop :=
  (∀ (s : State) (c : Nat) (x : Cmd) (q y : Qp), Running s c x q → x.sqe.opcode = 0x80 → x.phase = .started → x.begun = false →
    s.qp (x.sqe.cdw10.toNat % 65536) = some y → y.state = .active →
    ((x.sqe.cdw10.toNat / 65536) % 2 = 1 → y.errCount = x.errMark) → waitSatisfied y.cmplCount x.sqe.cdw11.toNat = true →
    ∃ t, exec (.wait c) s = .next t ∧ Completes t c St.ok (BitVec.ofNat 32 y.cmplCount)) ∧
  (∀ (s : State) (c : Nat) (x : Cmd) (q y : Qp), Running s c x q → x.sqe.opcode = 0x80 → x.phase = .started → x.begun = false →
    s.qp (x.sqe.cdw10.toNat % 65536) = some y → y.state ≠ .active →
    ∃ t, exec (.wait c) s = .next t ∧
      Completes t c St.chainBroken (BitVec.ofNat 32 (x.sqe.cdw10.toNat % 65536)) (BitVec.ofNat 32 y.errCount)) ∧
  (∀ (s : State) (c : Nat) (x : Cmd) (q : Qp), Running s c x q → x.sqe.opcode = 0x80 → x.phase = .started → x.begun = true →
    x.sqe.cdw12.toNat % 65536 ≠ 0 →
    ∃ t, exec (.waitTimeout c) s = .next t ∧ Completes t c St.heldTimeout 1 (BitVec.ofNat 32 (x.sqe.cdw12.toNat % 65536))) ∧
  (∀ (s : State) (c k : Nat) (x y : Cmd) (q r : Qp), Running s c x q → s.isAdmin x.qpn = true → x.sqe.opcode = 8 → x.adminHold = none →
    (∀ e ∈ s.qpe.cmds, e.2.sqe.opcode = 8 → e.1 = c) → c ≠ k → Running s k y r → r.owner = q.owner → y.phase = .fetched →
    y.qpn = x.sqe.cdw10.toNat % 65536 → y.sqe.cid = x.sqe.cdw10.toNat / 65536 →
    (∀ e ∈ s.qpe.cmds, e.2.qpn = y.qpn → e.2.sqe.cid = y.sqe.cid → e.1 = k) →
    ∃ t, exec (.abort c) s = .next t ∧ Completes t k St.abortRequested ∧ Completes t c St.ok) ∧
  (∀ (s : State) (c : Nat) (x : Cmd) (q : Qp), Running s c x q → s.isAdmin x.qpn = true → x.sqe.opcode = 8 → x.adminHold = none →
    (∀ e ∈ s.qpe.cmds, e.2.sqe.opcode = 8 → e.1 = c) →
    (∀ e ∈ s.qpe.cmds, e.1 ≠ c → e.2.qpn = x.sqe.cdw10.toNat % 65536 → e.2.sqe.cid ≠ x.sqe.cdw10.toNat / 65536) →
    ∃ t, exec (.abort c) s = .next t ∧ Completes t c St.ok 1 ∧ ∀ k, k ≠ c → t.cmd k = s.cmd k) ∧
  (∀ (s : State) (c : Nat) (x : Cmd) (q : Qp), Running s c x q → x.adminHold.isSome = true → x.phase = .fetched →
    ∃ t, exec (.adminHoldTimeout c) s = .next t ∧
      Completes t c St.heldTimeout 2 (BitVec.ofNat 32 (max (s.get QPE_HOLD_CFG_admin_hold_ms) 200))) ∧
  (∀ (s : State) (c : Nat) (x : Cmd) (q : Qp), Running s c x q → x.ownerHold.isSome = true →
    ∃ t, exec (.ownerHoldTimeout c) s = .next t ∧
      Completes t c St.heldTimeout 3 (BitVec.ofNat 32 (max (s.get QPE_HOLD_CFG_owner_hold_ms) 50)))

/-- R143, R144, R157 to R159, R156: Identify and Get Log Page answer what they support and refuse the rest, features are read and set, an
Asynchronous Event Request takes a kept event or waits, a region is registered and its revocation begun, which ends
what was still to be sent under its key. -/
def Obligations.AdminCommands : Prop :=
  (∀ (s : State) (c : Nat) (x : Cmd) (q : Qp), Running s c x q → s.adminRun c 2 = some (x, q.owner) → x.sqe.nsid = 0 →
    x.sqe.cdw12.toNat % 4 = 0 → x.sqe.cdw10.toNat % 256 = 2 →
    s.keyRevoking (sglKeyOf x.sqe) = false →
    ∃ t, exec (.getLogPage c) s = .next t ∧ Completes t c St.ok) ∧
  (∀ (s : State) (c : Nat) (x : Cmd) (q : Qp), Running s c x q → s.adminRun c 2 = some (x, q.owner) → x.sqe.nsid = 0 →
    x.sqe.cdw12.toNat % 4 = 0 → x.sqe.cdw10.toNat % 256 ∉ [2, 3, 4, 5, 0xC0, 0xC1] →
    ∃ t, exec (.getLogPage c) s = .next t ∧ Completes t c ⟨1, 9, false⟩ ∧ t.outbox = s.outbox) ∧
  (∀ (s : State) (c : Nat) (x : Cmd) (q : Qp), Running s c x q → s.adminRun c 6 = some (x, q.owner) → x.sqe.cdw10.toNat % 256 = 1 →
    s.keyRevoking (sglKeyOf x.sqe) = false →
    ∃ t, exec (.identify c) s = .next t ∧ Completes t c St.ok) ∧
  (∀ (s : State) (c : Nat) (x : Cmd) (q : Qp), Running s c x q → s.adminRun c 6 = some (x, q.owner) →
    x.sqe.cdw10.toNat % 256 ∉ [0, 1, 2, 3, 0x10] →
    ∃ t, exec (.identify c) s = .next t ∧ Completes t c St.invalidField) ∧
  (∀ (s : State) (c : Nat) (x : Cmd) (q : Qp), Running s c x q → s.adminRun c 9 = some (x, q.owner) → fidOf x.sqe = 0x0B →
    svOf x.sqe = false → s.namesOther x.sqe = none →
    ∃ t, exec (.setFeatures c) s = .next t ∧ Completes t c St.ok ∧
      (t.feat q.owner).aenMask = 2 ^ 8 * (x.sqe.cdw11.toNat / 2 ^ 8 % 4) + 2 ^ 24 * (x.sqe.cdw11.toNat / 2 ^ 24 % 4)) ∧
  (∀ (s : State) (c : Nat) (x : Cmd) (q : Qp), Running s c x q → s.adminRun c 9 = some (x, q.owner) → fidOf x.sqe = 7 →
    svOf x.sqe = false → s.namesOther x.sqe = none →
    ∃ t, exec (.setFeatures c) s = .next t ∧ Completes t c St.ok (BitVec.ofNat 32 (510 * 65537)) ∧ t.nsm = s.nsm) ∧
  (∀ (s : State) (c : Nat) (x : Cmd) (q : Qp), Running s c x q → s.adminRun c 0x0A = some (x, q.owner) → fidOf x.sqe = 0x0B →
    ∃ t, exec (.getFeatures c) s = .next t ∧ Completes t c St.ok (BitVec.ofNat 32 (s.feat q.owner).aenMask)) ∧
  (∀ (s : State) (c : Nat) (x : Cmd) (q : Qp) (e : Nat × Nat × Nat) (l : List (Nat × Nat × Nat)), Running s c x q →
    s.adminCmd c 0x0C = some (x, q.owner) → c ∉ (s.feat q.owner).aers → (s.feat q.owner).kept = e :: l →
    ∃ t, exec (.asyncEventRequest c) s = .next t ∧ Completes t c St.ok (aenDw0 e) ∧ (t.feat q.owner).kept = l) ∧
  (∀ (s : State) (c : Nat) (x : Cmd) (q : Qp), Running s c x q →
    s.adminCmd c 0x0C = some (x, q.owner) → c ∉ (s.feat q.owner).aers → (s.feat q.owner).kept = [] → (s.feat q.owner).aers.length < 16 →
    ∃ t, exec (.asyncEventRequest c) s = .next t ∧ t.cmd c = some x ∧ (t.feat q.owner).aers = (s.feat q.owner).aers ++ [c]) ∧
  (∀ (s u : State) (c : Nat) (x : Cmd) (q : Qp) (e : Eid) (key : Word32), Running s c x q → s.adminCmd c 0xC1 = some (x, .net e) →
    x.sqe.cdw10.toNat % 4096 = 0 → x.sqe.cdw11.toNat < 2 ^ 20 → x.sqe.cdw12.toNat % 2 ^ 24 ≠ 0 → x.sqe.cdw12.toNat < 2 ^ 24 →
    x.sqe.cdw13.toNat < 8 →
    s.allocRegion { rd := x.sqe.cdw13.toNat % 2 = 1, wr := x.sqe.cdw13.toNat / 2 % 2 = 1, protReq := x.sqe.cdw13.toNat / 4 % 2 = 1,
                    host := true, scopeLen := 32, scopeEid := s.moduleEid,
                    basePage := (x.sqe.cdw10.toNat + 2 ^ 32 * x.sqe.cdw11.toNat) / 4096,
                    lenPages := x.sqe.cdw12.toNat % 2 ^ 24, regBy := some e } = some (key, u) →
    ∃ t, exec (.regionRegister c) s = .next t ∧ Completes t c St.ok key ∧ t.hkt.regions = u.hkt.regions) ∧
  (∀ (s : State) (c : Nat) (x : Cmd) (q : Qp) (e : Eid) (r : Region), Running s c x q → s.adminCmd c 0xC2 = some (x, .net e) →
    tget s.hkt.regions (keyIndex x.sqe.cdw10) = some r → r.state = .valid → r.tag = keyTag x.sqe.cdw10 → r.regBy = some e →
    r.revCmd ≠ some c → s.queuedWith x.sqe.cdw10 = [] →
    ∃ t, exec (.regionRevoke c) s = .next t ∧ (∃ y, t.cmd c = some y ∧ y.phase = .started) ∧
      tget t.hkt.regions (keyIndex x.sqe.cdw10) = some { r with state := .revoking, revCmd := some c }) ∧
  (∀ (s : State) (c k b : Nat) (x y : Cmd) (q p : Qp) (e loc peer : Eid) (r : Region) (m : TxMsg), Running s c x q →
    s.adminCmd c 0xC2 = some (x, .net e) → tget s.hkt.regions (keyIndex x.sqe.cdw10) = some r → r.state = .valid →
    r.tag = keyTag x.sqe.cdw10 → r.regBy = some e → r.revCmd ≠ some c → s.queuedWith x.sqe.cdw10 = [(loc, peer, m)] →
    m.purpose = .cmdData k b → Running s k y p → k ≠ c → tget s.jnl.writes k = none →
    ∃ t, exec (.regionRevoke c) s = .next t ∧ Completes t k St.regionRevoked x.sqe.cdw10 (BitVec.ofNat 32 y.moved) ∧
      t.queuedWith x.sqe.cdw10 = [])

/-- R141, R142, R145 to R149, R153, R154: management commands in their sequence create, attach, detach and delete namespaces, set a tenant
and a namespace's service; each ends with its outcome recorded. -/
def Obligations.NamespaceManagement : Prop :=
  (∀ (s : State) (c i : Nat) (x : Cmd) (q : Qp) (k : KeySlot), Managed s c x q 0x0D → x.sqe.cdw10.toNat % 16 = 0 →
    x.sqe.cdw11.toNat / 2 ^ 24 = 0 → leAt (s.cmdBytes x) 0 8 ≠ 0 → leAt (s.cmdBytes x) 8 8 = leAt (s.cmdBytes x) 0 8 →
    (∀ e ∈ (s.cmdBytes x).zipIdx, 16 ≤ e.2 → (e.2 < 3072 ∨ 3080 ≤ e.2 ∨ e.2 = 3078) → e.1 = 0) →
    leAt (s.cmdBytes x) 26 1 = 0 → leAt (s.cmdBytes x) 3072 2 ≤ 4092 → leAt (s.cmdBytes x) 3074 1 ≤ 3 → leAt (s.cmdBytes x) 3075 1 ≤ 1 →
    leAt (s.cmdBytes x) 3079 1 ≤ 15 → tget s.key.slots (leAt (s.cmdBytes x) 3076 2) = some k → k.kind = .xts → k.state = .loaded →
    k.bind = .none → k.assured = (leAt (s.cmdBytes x) 3075 1 = 1) → firstFree s.nsm.ns (s.nsm.ns.length + 1) 0 = some i → i < 4096 →
    4096 * leAt (s.cmdBytes x) 0 8 ≤ s.unvmcap →
    ∃ t, exec (.nsCreate c) s = .next t ∧ Ended t c x St.ok (BitVec.ofNat 32 (s.moduleId * 4096 + i + 1)) ∧
      ∃ n, t.ns i = some n ∧ n.state = .active ∧ n.nsze = leAt (s.cmdBytes x) 0 8 ∧ n.keySlot = leAt (s.cmdBytes x) 3076 2 ∧
        n.tenant = leAt (s.cmdBytes x) 3072 2 ∧ n.mode = leAt (s.cmdBytes x) 3074 1 ∧ n.attach = [] ∧ n.ownerId = s.moduleId) ∧
  (∀ (s : State) (c : Nat) (x : Cmd) (q : Qp), Managed s c x q 0x0D → 1 < x.sqe.cdw10.toNat % 16 →
    ∃ t, exec (.nsCreate c) s = .next t ∧ Ended t c x St.invalidField ∧ t.nsm.ns = s.nsm.ns) ∧
  (∀ (s : State) (c i : Nat) (x : Cmd) (q : Qp) (n : Ns), Managed s c x q 0x0D → x.sqe.cdw10.toNat % 16 = 1 → x.sqe.nsid ≠ 0xFFFFFFFF →
    s.adminNs x.sqe = .inl (i, n) → n.state = .active →
    ∃ t, exec (.nsDelete c) s = .next t ∧ t.ns i = some { n with state := .deleting } ∧ (∀ j, j ≠ i → t.ns j = s.ns j) ∧
      t.nsm.running = some c) ∧
  (∀ (s : State) (i : Nat) (n : Ns), s.ns i = some n → n.state = .deleting → s.owned n = true → s.delTurn i = true →
    (∀ e ∈ s.qpe.cmds, e.2.ns = some i → e.2.phase ≠ .started) →
    ∃ t, exec (.nsDeleteDrained i) s = .next t ∧ t.ns i = none ∧ (∀ j, j ≠ i → t.ns j = s.ns j) ∧ ∀ lba, t.lookup i lba = .unmapped) ∧
  (∀ (s : State) (c i : Nat) (x : Cmd) (q : Qp) (n : Ns) (l : List Attach), Managed s c x q 0x15 → x.sqe.cdw10.toNat % 16 = 0 →
    s.adminNs x.sqe = .inl (i, n) → attachList (x.sqe.cdw11.toNat % 2 = 1) (s.cmdBytes x) = some l →
    (l.foldl attachPut n.attach).length ≤ 256 →
    (l.foldl attachPut n.attach).length + (s.nsm.ns.map fun e => if e.1 = i then 0 else e.2.attach.length).sum ≤ 65536 →
    ∃ t, exec (.nsAttach c) s = .next t ∧ Ended t c x St.ok ∧ t.ns i = some { n with attach := l.foldl attachPut n.attach } ∧
      ∀ j, j ≠ i → t.ns j = s.ns j) ∧
  (∀ (s : State) (c i : Nat) (x : Cmd) (q : Qp) (n : Ns) (l : List Attach), Managed s c x q 0x15 → x.sqe.cdw10.toNat % 16 = 1 →
    s.adminNs x.sqe = .inl (i, n) → attachList (x.sqe.cdw11.toNat % 2 = 1) (s.cmdBytes x) = some l →
    (∀ a ∈ l, ∃ b ∈ n.attach, b.key = a.key) →
    ∃ t, exec (.nsDetach c) s = .next t ∧ Ended t c x St.ok ∧
      t.ns i = some { n with attach := n.attach.filter fun b => !(l.any fun a => a.key = b.key) }) ∧
  (∀ (s : State) (c : Nat) (x : Cmd) (q : Qp), Managed s c x q 9 → fidOf x.sqe = 0xC0 → svOf x.sqe = false → s.namesOther x.sqe = none →
    x.sqe.cdw11.toNat < 4093 → leAt (s.cmdBytes x) 24 8 = 0 → reservedBits TMS_TENANT_CFG_class.reg (leAt (s.cmdBytes x) 0 8) = false →
    reservedBits TMS_POL_RATE_cir.reg (leAt (s.cmdBytes x) 8 8) = false →
    reservedBits TMS_POL_BURST_cbs.reg (leAt (s.cmdBytes x) 16 8) = false →
    ∃ t, exec (.setFeaturesTenant c) s = .next t ∧ Ended t c x St.ok ∧
      t.get TMS_TENANT_CFG_class x.sqe.cdw11.toNat = leAt (s.cmdBytes x) 0 8 % 8 ∧
      t.get TMS_POL_BURST_cbs x.sqe.cdw11.toNat = leAt (s.cmdBytes x) 16 8 / 2 ^ TMS_POL_BURST_cbs.lo % 2 ^ TMS_POL_BURST_cbs.w) ∧
  (∀ (s : State) (c : Nat) (x : Cmd) (q : Qp), Managed s c x q 9 → fidOf x.sqe = 0xC0 → svOf x.sqe = false → s.namesOther x.sqe = none →
    4093 ≤ x.sqe.cdw11.toNat →
    ∃ t, exec (.setFeaturesTenant c) s = .next t ∧ Ended t c x St.invalidField ∧
      ∀ i, t.get TMS_TENANT_CFG_class i = s.get TMS_TENANT_CFG_class i) ∧
  (∀ (s : State) (c i : Nat) (x : Cmd) (q : Qp) (n : Ns), Managed s c x q 9 → fidOf x.sqe = 0xC1 → svOf x.sqe = false →
    s.adminNs x.sqe = .inl (i, n) → x.sqe.cdw11.toNat < 4 → x.sqe.cdw12.toNat = 1 →
    s.earlyWrites i = [] →
    ∃ t, exec (.setFeaturesNsService c) s = .next t ∧ Ended t c x St.ok ∧ t.ns i = some { n with mode := x.sqe.cdw11.toNat }) ∧
  (∀ (s : State) (i m : Nat) (n : Ns) (l : List Nat), s.nsm.service = some (i, m, l) → (∀ k ∈ l, s.coveredDone k = true) → s.ns i = some n →
    ∃ t, exec .nsServiceDone s = .next t ∧ t.nsm.service = none ∧ t.ns i = some { n with tenant := m })

/-- R482 to R485: a part of an image is kept, a Commit has an image that verifies written to the other bank, refuses any other, and ends when its record is written, an
activation hands over to the new CORE and confirms its bank, and one that fails leaves the bank bad. -/
def Obligations.FirmwareUpdate : Prop :=
  (∀ (s : State) (c : Nat) (x : Cmd) (q : Qp), Managed s c x q 0x11 → (x.sqe.cdw10.toNat + 1) % 1024 = 0 → x.sqe.cdw11.toNat % 1024 = 0 →
    4 * x.sqe.cdw11.toNat + 4 * (x.sqe.cdw10.toNat + 1) ≤ imageMax →
    (∀ e ∈ s.boot.buffer, rangesCross (4 * x.sqe.cdw11.toNat) (4 * (x.sqe.cdw10.toNat + 1)) e.1 e.2.length = false) →
    ∃ t, exec (.firmwareImageDownload c) s = .next t ∧ Ended t c x St.ok ∧
      t.boot.buffer = s.boot.buffer ++ [(4 * x.sqe.cdw11.toNat, s.cmdBytes x)]) ∧
  (∀ (s : State), ∃ t, exec .downloadBufferExpiry s = .next t ∧ t.boot.buffer = [] ∧ t.boot.banks = s.boot.banks) ∧
  (∀ (s : State) (c i : Nat) (x : Cmd) (q : Qp) (b : List Byte), Managed s c x q 0x10 → caOf x.sqe = 0 → s.fsBank x.sqe = some i →
    i ≠ s.runBank → s.downloaded = some b →
    ∃ t, exec (.firmwareCommitStore c) s = .next t ∧ t.boot.buffer = [] ∧
      if s.imageOk (sha384 b) b = true then
        t.boot.writing = some ⟨c, i, 0⟩ ∧ (t.bank i).state = 0 ∧ (t.bank i).image = b
      else Ended t c x ⟨1, 7, false⟩ ∧ t.boot.banks = s.boot.banks) ∧
  (∀ (s : State) (c : Nat) (x : Cmd) (q : Qp), Managed s c x q 0x10 → 4 ≤ caOf x.sqe →
    ∃ t, exec (.firmwareCommitStore c) s = .next t ∧ Ended t c x St.invalidField ∧ t.boot.banks = s.boot.banks) ∧
  (∀ (s : State) (c i : Nat) (x : Cmd) (q : Qp) (b : List Byte), Managed s c x q 0x10 → caOf x.sqe = 1 → s.fsBank x.sqe = some i →
    i ≠ s.runBank → s.downloaded = some b →
    ∃ t, exec (.firmwareCommitPending c) s = .next t ∧
      if s.imageOk (sha384 b) b = true then t.boot.writing = some ⟨c, i, 1⟩ ∧ (t.bank i).image = b
      else Ended t c x ⟨1, 7, false⟩ ∧ t.boot.banks = s.boot.banks) ∧
  (∀ (s : State) (c i : Nat) (x : Cmd) (q : Qp), Managed s c x q 0x10 → caOf x.sqe = 2 → s.fsBank x.sqe = some i →
    (s.bank i).state ≠ 0 → (s.bank i).state ≠ 4 →
    ∃ t, exec (.firmwareCommitActivateSlot c) s = .next t ∧
      if s.imageOk (s.bank i).hash (s.bank i).image = true then
        Ended t c x St.ok ∧ t.bank i = { s.bank i with gen := s.nextGen, state := 2, tries := 0 }
      else Ended t c x ⟨1, 7, false⟩ ∧ t.boot.banks = s.boot.banks) ∧
  (∀ (s : State) (c i : Nat) (x : Cmd) (q : Qp) (b : List Byte), Managed s c x q 0x10 → caOf x.sqe = 3 → s.fsBank x.sqe = some i →
    i ≠ s.runBank → s.downloaded = some b →
    ∃ t, exec (.firmwareCommitActivateNow c) s = .next t ∧
      if s.imageOk (sha384 b) b = true then t.boot.writing = some ⟨c, i, 3⟩ ∧ (t.bank i).image = b
      else Ended t c x ⟨1, 7, false⟩ ∧ t.boot.banks = s.boot.banks) ∧
  (∀ (s : State) (w : BankWrite), s.boot.writing = some w → w.ca ≠ 3 →
    ∃ t, exec .bankWriteDone s = .next t ∧ t.boot.writing = none ∧
      t.bank w.bank = { s.bank w.bank with gen := s.nextGen, state := if w.ca = 0 then 1 else 2 }) ∧
  (∀ (s : State), s.boot.act.isSome = true → s.boot.handed = false →
    ∃ t, exec .actHandoverDone s = .next t ∧ t.boot.handed = true ∧ t.boot.core = (s.bank (1 - s.runBank)).image ∧
      ∀ k, k < 16 → t.get GLB_CORE_STATUS_state k = 0) ∧
  (∀ (s : State) (p : Nat), s.boot.act.isSome = true → s.boot.handed = true → s.boot.coreRst = false → p % 4 ≠ 0 →
    ∃ t, exec (.actFirmwareReady p) s = .next t ∧ t.boot.act = none ∧ (t.bank (1 - s.runBank)).state = 3 ∧
      t.get BOOT_FW_STATUS_act_state = 0 ∧ t.rime.nextSeq = s.rime.nextSeq + 1 ∧ ∀ k, k < 16 → t.get GLB_CORE_STATUS_state k = 1) ∧
  (∀ (s : State), s.boot.act.isSome = true → s.boot.coreRst = false →
    ∃ t, exec .actTimeout s = .next t ∧ t.boot.act = none ∧ (t.bank (1 - s.runBank)).state = 4 ∧ t.get BOOT_FW_STATUS_act_state = 0)

/-- R176, R177, R246, R251: a block leaves its lane enciphered with the key that the lane holds of its slot, or is lost with that key; the
lane that runs empty takes the oldest unit of the queue in turn; a waiting write reserves its blocks in fetch order. -/
def Obligations.CipherAndReservation : Prop :=
  (∀ (s : State) (lane c b : Nat) (u : CipUnit) (rest : List CipUnit) (k : BitVec 512) (w : WJob),
    tgetD s.cip.lanes lane [] = u :: rest → s.cip.queues = [] → s.laneKey lane u.slot = some k → u.use = .cmd c b → u.encrypt = true →
    tget s.jnl.writes c = some w → w.staged.length ≠ w.blocks.length →
    ∃ t, exec (.cipherUnitDone lane) s = .next t ∧ tget t.cip.lanes lane = some rest ∧
      ∃ v, tget t.jnl.writes c = some v ∧ tget v.ready b = some (xtsEncrypt k u.lba u.data)) ∧
  (∀ (s : State) (lane ns lba : Nat) (old : MapEnt) (u : CipUnit) (rest : List CipUnit), tgetD s.cip.lanes lane [] = u :: rest →
    s.cip.queues = [] → s.laneKey lane u.slot = none → u.use = .sweepIn ns lba old →
    ∃ t, exec (.cipherUnitDone lane) s = .next t ∧ t.cip.lanes = tput s.cip.lanes lane rest) ∧
  (∀ (s : State) (lane n j : Nat) (u v : CipUnit) (l : List CipUnit), tgetD s.cip.lanes lane [] = [u] → u.use = .line n →
    s.cip.queues = [((decide (40 ≤ lane), j), v :: l)] → j < 4 →
    (∀ i ∈ s.lanesOf (decide (40 ≤ lane)), i ≠ lane → 0 < s.laneBlocks i) → lane ∈ s.lanesOf (decide (40 ≤ lane)) →
    ∃ t, exec (.cipherUnitDone lane) s = .next t ∧ tget t.cip.lanes lane = some [v] ∧ t.cip.queues = [((decide (40 ≤ lane), j), l)] ∧
      tget t.cip.turn (decide (40 ≤ lane)) = some ((j + 1) % 4)) ∧
  (∀ (s : State) (c i : Nat) (rest : List Nat) (x : Cmd) (n : Ns) (l : List Nat), s.jnl.waiting = c :: rest → s.cmd c = some x →
    x.phase = .fetched → s.startable c x = true → s.admission = true → s.flag JNL_NEVE_STATUS_high_water = false → x.ns = some i →
    s.ns i = some n → s.freeOwn x.neveNeed = some l →
    ∃ t, exec .neveReserve s = .next t ∧ (∃ y, t.cmd c = some y ∧ y.phase = .started) ∧
      (∀ j ∈ l, ∃ y, tget t.jnl.slots j = some y ∧ y.state = .reserved) ∧ (∀ j, j ∉ l → tget t.jnl.slots j = tget s.jnl.slots j) ∧
      c ∉ t.jnl.waiting)

/-- R180 to R187: a key command fills, wraps or destroys a slot and says so in its result; one that fails leaves the slots. -/
def Obligations.KeyCommands : Prop :=
  (∀ (s : State) (n : Nat) (p : Bool), KeyFree s → tget s.key.slots n = none →
    ∃ t, exec (.kekAgree n p) s = .next t ∧ t.get KEY_STATUS_busy = 0 ∧ (∀ m, m ≠ n → tget t.key.slots m = tget s.key.slots m) ∧
      if onP384 (s.keyBytes.take 96) = true then
        t.get KEY_STATUS_result = 0 ∧
          ∃ k, tget t.key.slots n = some k ∧ k.kind = .kek ∧ k.state = .loaded ∧ k.assured = false ∧ k.persist = p ∧ k.check = keyCheck .kek k.value
      else t.get KEY_STATUS_result = 9 ∧ t.key = s.key) ∧
  (∀ (s : State) (n a : Nat) (cls p : Bool) (e : KeySlot), KeyFree s → tget s.key.slots n = none →
    tget s.key.slots a = some e → e.kind = .kek → e.state = .loaded →
    ∃ t, exec (.keyImport n a 1 cls p) s = .next t ∧ (∀ m, m ≠ n → tget t.key.slots m = tget s.key.slots m) ∧
      match keyUnwrap (e.value.truncate 256) (s.keyBytes.take 72) with
      | none => t.get KEY_STATUS_result = 3 ∧ t.key = s.key
      | some l =>
        if l.take 32 = l.drop 32 then t.get KEY_STATUS_result = 5 ∧ t.key = s.key
        else t.get KEY_STATUS_result = 0 ∧
          ∃ k, tget t.key.slots n = some k ∧ k.kind = .xts ∧ k.state = .loaded ∧ k.assured = cls ∧ k.persist = p ∧ k.value = keyOfBytes l) ∧
  (∀ (s : State) (n a : Nat) (cls p : Bool) (e : KeySlot), KeyFree s → tget s.key.slots n = none →
    tget s.key.slots a = some e → e.kind = .kek → e.state = .loaded →
    ∃ t, exec (.keyImport n a 2 cls p) s = .next t ∧ (∀ m, m ≠ n → tget t.key.slots m = tget s.key.slots m) ∧
      match keyUnwrap (e.value.truncate 256) (s.keyBytes.take 40) with
      | none => t.get KEY_STATUS_result = 3 ∧ t.key = s.key
      | some l => t.get KEY_STATUS_result = 0 ∧
          ∃ k, tget t.key.slots n = some k ∧ k.kind = .gcm ∧ k.state = .loaded ∧ k.assured = cls ∧ k.persist = p ∧
            k.value = keyOfBytes l) ∧
  (∀ (s : State) (n : Nat) (k : KeySlot), KeyFree s → s.cip.lanes = [] → s.cip.queues = [] → tget s.key.slots n = some k →
    ∃ t, exec (.zeroise n) s = .next t ∧ t.get KEY_STATUS_result = 0 ∧ Reports s t EV_KEY_ZEROISED 0xD n [] ∧
      tget t.key.slots n = (if s.keyBound n k then some { k.bare with state := .zeroised } else none) ∧
      tget t.key.vault (0, n) = none ∧ tget t.key.vault (1, n) = none ∧ (∀ l, t.laneKey l n = none) ∧ (∀ x ∈ t.key.sessions, x.slot ≠ n) ∧
      ∀ m, m ≠ n → tget t.key.slots m = tget s.key.slots m) ∧
  (∀ (s : State), KeyFree s → s.cip.lanes = [] → s.cip.queues = [] →
    ∃ t, exec .zeroiseAll s = .next t ∧ t.get KEY_STATUS_result = 0 ∧ t.key.vault = [] ∧
      ∀ n k, tget t.key.slots n = some k → k.state = .zeroised ∧ k.value = 0) ∧
  (∀ (s : State) (n : Nat), s.flag KEY_STATUS_busy = false → s.get KEY_STATUS_state ≠ 1 →
    ∃ t, exec (.zeroise n) s = .next t ∧ t.get KEY_STATUS_result = 8 ∧ t.key = s.key)

/-- R188, R190, R191, R194, R174, R184, R186: a rotation binds the new slot and retires the old one until no block needs it; endpoint entries,
the DRBG's seeds and its failure, the pair key's agreement and a slot that the partner sends under it. -/
def Obligations.RotationsAndEntries : Prop :=
  (∀ (s : State) (m i : Nat) (zap : Bool) (n : Ns), KeyFree s → s.rotateFails m i = none → s.ns i = some n →
    (s.underGen i n.kgen).isEmpty = false →
    ∃ t, exec (.rotateNs m i zap) s = .next t ∧ t.get KEY_STATUS_result = 0 ∧
      t.ns i = some { n with kgen := !n.kgen, keySlot := m, oldSlot := some n.keySlot, zapOld := zap, check := s.slotCheck m,
                             oldCheck := n.check }) ∧
  (∀ (s : State) (m i r : Nat) (zap : Bool), KeyFree s → s.rotateFails m i = some r →
    ∃ t, exec (.rotateNs m i zap) s = .next t ∧ t.get KEY_STATUS_result = r ∧ t.nsm = s.nsm ∧ t.key = s.key) ∧
  (∀ (s : State) (i l g o : Nat) (n : Ns) (sg : Seg), s.ns i = some n → n.oldSlot.isSome = true → s.owned n = true →
    s.sweepNext i n = some (l, g, o) → s.seg g = some sg →
    s.readable (chunkMember sg (s.place sg o).1 (s.place sg o).2.1) = true → s.slow (chunkMember sg (s.place sg o).1 (s.place sg o).2.1) = false →
    ∃ t, exec (.rotationSweep i) s = .next t ∧
      ∃ x, tget t.str.reads s.str.nextRead = some x ∧ x.use = .sweep i l ∧ x.seg = g ∧ x.off = o ∧ x.recon = false) ∧
  (∀ (s : State) (e eid len n : Nat) (k : KeySlot), e < 4096 → n < 2 ^ KEY_EP_PROT_slot.w → tget s.key.slots n = some k → k.kind = .gcm →
    k.state = .loaded →
    ∃ t, exec (.keyEpProtWrite e eid len n) s = .next t ∧ t.get KEY_EP_PROT_eid e = eid % 2 ^ KEY_EP_PROT_eid.w ∧
      t.get KEY_EP_PROT_prefix_len e = len % 2 ^ KEY_EP_PROT_prefix_len.w ∧ t.get KEY_EP_PROT_slot e = n ∧
      tget t.key.prev e = some (s.get KEY_EP_PROT_slot e, s.dtc) ∧ tget t.key.slots n = some k) ∧
  (∀ (s : State) (e : Nat), ∃ t, exec (.prevSlotExpiry e) s = .next t ∧ tget t.key.prev e = none ∧
    (∀ k, k ≠ e → tget t.key.prev k = tget s.key.prev k) ∧ t.key.slots = s.key.slots) ∧
  (∀ (s : State), s.get KEY_STATUS_state ≠ 2 →
    ∃ t, exec .drbgReseed s = .next t ∧ t.key =
      if noiseFails (noiseBits s.freeNoise.1) = true then { s.key with noiseBad := true }
      else { s.key with drbg := drbgSeed s.key.drbg s.freeNoise.1, requests := 0, seededAt := s.dtc }) ∧
  (∀ (s : State) (l again : List Bool), s.get KEY_STATUS_state ≠ 2 → (s.key.noiseBad || noiseFails l) = true → noiseFails again = true →
    (∀ e ∈ s.qpe.cmds, s.cipherLeft e.1 e.2 = false) →
    ∃ t, exec (.noiseTestFail ⟨l, again⟩) s = .next t ∧ t.get KEY_STATUS_state = 2 ∧ Reports s t EV_KEY_DRBG_FAIL 0 0 [] ∧
      t.key = s.key ∧ t.qpe = s.qpe) ∧
  (∀ (s : State) (l again : List Bool), s.get KEY_STATUS_state ≠ 2 → (s.key.noiseBad || noiseFails l) = true → noiseFails again = false →
    ∃ t, exec (.noiseTestFail ⟨l, again⟩) s = .next t ∧ t.get KEY_STATUS_state = s.get KEY_STATUS_state ∧
      t.key = { s.key with drbg := drbgSeed s.key.drbg (noiseBytes again), requests := 0, seededAt := s.dtc, noiseBad := false, retried := true }) ∧
  (∀ (s : State) (h : PairHdr) (n : Nat) (k : KeySlot) (w : List Byte) (p : BitVec 256), InSequence s h → tget s.key.slots n = none →
    s.key.pairKey = some p →
    ∃ t, exec (.keyFrameRx h (.load n k w)) s = .next t ∧ t.pair.rxNext = (h.seq + 1) % 2 ^ 32 ∧
      (∀ m, m ≠ n → tget t.key.slots m = tget s.key.slots m) ∧
      match keyUnwrap p w with
      | none => tget t.key.slots n = none
      | some l => ∃ a m, tget t.key.slots n = some { k with bind := .none, key := a, mask := m } ∧ a ^^^ m = keyOfBytes l) ∧
  (∀ (s : State) (h : PairHdr) (pub sig cert : List Byte) (ok : Bool), InSequence s h →
    ∃ t, exec (.keyFrameRx h (.agree pub sig cert ok)) s = .next t ∧
      if (ok && onP384 pub && ecdsaVerify cert (agreeDigest pub) sig) = true then
        t.pair.keyed = true ∧ t.key.pairKey = some ((ecdhSecret s.key.pairPriv pub).extractLsb' 128 256)
      else t.key = s.key ∧ t.pair.keyed = s.pair.keyed)

/-- R205 to R207, R222, R248: committed blocks fill a stripe of their group's host head; a stripe whose timer ends is written padded; a chunk
that is durable leaves its stripe; the records of the tail go to the metadata head and are written. -/
def Obligations.HeadsAndStripes : Prop :=
  (∀ (s : State) (g i n : Nat) (x : NeveSlot) (d : NeveDesc) (y : Stripe) (sg : Seg), g < 16 → s.nextPlaced g = some (i, x) →
    tget s.jnl.slots i = some x → x.desc = some d → s.lookup d.ns d.lba = .neve d.kgen i → s.slotFlushed i = false →
    s.booting = false → s.str.cold = [] → ((s.headSeg (.host g)).isSome || s.headOpening (.host g)) = true →
    (∀ e ∈ s.str.stripes, e.2.head = .host g → e.2.due = false) → s.filling (.host g) = some n → tget s.str.stripes n = some y →
    y.head = .host g → y.writing = false → s.seg y.seg = some sg →
    y.blocks.length + 1 < sg.k * s.chunkBlocks →
    ∃ t, exec (.headPlaceBlock g) s = .next t ∧ tget t.jnl.slots i = some { x with state := .placed, first := false } ∧
      ∃ z, tget t.str.stripes n = some z ∧ z.blocks = y.blocks ++ [(.neve i d.ns d.lba d.kgen, x.data)] ∧ z.writing = false) ∧
  (∀ (s : State) (n : Nat) (x : Stripe) (g : Seg), tget s.str.stripes n = some x → x.writing = false → x.blocks ≠ [] → s.seg x.seg = some g →
    ∃ t, exec (.fillTimerExpiry n) s = .next t ∧
      tget t.str.stripes n = some (if 8 ≤ s.writingOf x.head then { x with due := true } else
        { x with blocks := x.blocks ++ List.replicate (g.k * s.chunkBlocks - x.blocks.length) (.pad, 0), writing := true, due := false,
                 padded := decide (x.blocks.length < g.k * s.chunkBlocks), waiting := List.range (segW g) })) ∧
  (∀ (s : State) (x tag n ch : Nat) (e : DrvCmd) (y : Stripe), x < 32 → (s.port x).cmds.find? (fun d => d.tag = tag) = some e →
    e.cmd.use = .chunk n ch → e.gone = false → e.late = false → tget s.str.stripes n = some y →
    (y.writing = false ∨ ∃ k ∈ y.waiting, k ≠ ch) →
    ∃ t, exec (.chunkWriteDone x tag) s = .next t ∧ tget t.str.stripes n = some { y with waiting := y.waiting.filter (· != ch) } ∧
      (t.port x).cmds = (s.port x).cmds.filter fun d => d.tag != tag) ∧
  (∀ (s : State) (n q c : Nat) (r : FirnRec) (l : List FirnRec) (y : Stripe) (sg : Seg), s.isMaster = true → s.jnl.mdQueue = [] →
    s.jnl.tail.filter (fun e => decide (s.jnl.drained < e.seq + firnSpan e.body)) = r :: l → q = max s.jnl.drained r.seq →
    c = firnCut q 127 (r :: l) → (∀ e ∈ r :: l, e.seq + firnSpan e.body ≤ q + c) → s.booting = false →
    ((s.headSeg .meta_).isSome || s.headOpening .meta_) = true → (∀ e ∈ s.str.stripes, e.2.head = .meta_ → e.2.due = false) →
    s.filling .meta_ = some n → tget s.str.stripes n = some y → y.head = .meta_ → y.writing = false → s.seg y.seg = some sg →
    y.blocks.length + 1 < sg.k * s.chunkBlocks → s.writingOf .meta_ < 8 →
    ∃ t, exec .firnFlushExpiry s = .next t ∧ t.jnl.drained = q + c ∧
      ∃ z, tget t.str.stripes n = some z ∧ z.writing = true ∧
        z.blocks[y.blocks.length]? = some (.md (.firn q c), firnBlock s.str.poolId q c ((r :: l).filter fun e => decide (e.seq < q + c))))

/-- R224, R211, R228, R230, R227: compaction copies the dirty pages; a page read in serves, or waits for room; a victim is chosen; a released
segment whose granules nothing reaches becomes free; a deleted namespace's blocks leave the live counts. -/
def Obligations.CompactionAndCalving : Prop :=
  (∀ (s : State), s.isMaster = true → s.booting = false → s.jnl.compact = none → s.compactDue = true → s.dirtyPages ≠ [] →
    s.jnl.copies = [] →
    ∃ t, exec .compactionStart s = .next t ∧ t.jnl.compact = some (1, s.dirtyPages.map fun p => MetaBlk.page p.1 p.2) ∧
      t.jnl.forced = false ∧ ∀ p ∈ s.dirtyPages, (tget t.jnl.copies p).isSome ∧ ∃ x, tget t.str.pages p = some x ∧ x.copied = true) ∧
  (∀ (s : State) (ns p : Nat) (x : MapPage), tget s.str.pages (ns, p) = some x → x.cached = true → x.reading = true →
    s.pagesIn < s.pageRoom → (∀ w ∈ s.str.waiters, w.1 = ns → w.2.1 ≠ p) →
    ∃ t, exec (.mapPageReadDone ns p) s = .next t ∧ tget t.str.pages (ns, p) = some { x with reading := false } ∧ t.str.map = s.str.map) ∧
  (∀ (s : State) (ns p : Nat), s.pageRoom ≤ s.pagesIn → s.pageEvict = none →
    ∃ t, exec (.mapPageReadDone ns p) s = .next t ∧ t.str = s.str) ∧
  (∀ (s : State) (i : Nat) (g : Seg), s.calveCheck.get STR_POOL_STATUS_calve_level ≠ 0 → s.booting = false → s.str.victims = [] →
    s.calveCheck.nextVictim = some (i, g) → g.live = 0 → i ∉ s.pair.takenSegs → s.isMaster = true → s.jnl.parked = [] →
    s.tailBlocks + 1 < 262144 → s.replayBytes < 2 * s.replayLimit →
    ∃ t, exec .calvingVictim s = .next t ∧ t.str.victims = [] ∧ ∃ h, t.seg i = some h ∧ h.state = .releasing ∧ h.blocks = g.blocks) ∧
  (∀ (s : State) (i : Nat) (g : Seg), s.calveCheck.get STR_POOL_STATUS_calve_level ≠ 0 → s.booting = false → s.str.victims = [] →
    s.calveCheck.nextVictim = some (i, g) → g.live ≠ 0 → (∀ e ∈ g.blocks, s.stillThere i e.1 e.2 = false) → s.isMaster = true →
    s.jnl.parked = [] → s.tailBlocks + 1 < 262144 → s.replayBytes < 2 * s.replayLimit →
    ∃ t, exec .calvingVictim s = .next t ∧ t.str.victims = [i] ∧ t.seg i = some { g with state := .calving }) ∧
  (∀ (s : State), s.calveCheck.get STR_POOL_STATUS_calve_level = 0 →
    ∃ t, exec .calvingVictim s = .next t ∧ t.str = s.str ∧ t.jnl = s.jnl) ∧
  (∀ (s : State) (i : Nat) (g : Seg), s.seg i = some g → g.state = .releasing → s.segTagged g = false →
    (∀ e ∈ s.str.reads, e.2.seg = i → e.2.done = true) → (∀ x ∈ s.tms.leaves, x.root ≠ 34) → i ∉ s.pair.takenSegs →
    s.segPending i = false → s.str.cold = [] → s.isMaster = true → s.jnl.parked = [] → s.tailFull = false →
    s.replayBytes < 2 * s.replayLimit →
    ∃ t, exec (.segmentReleaseDone i) s = .next t ∧ t.seg i = none) ∧
  (∀ (s : State) (i : Nat) (g : Seg), s.seg i = some g → g.state = .releasing → s.segTagged g = true →
    ∃ t, exec (.segmentReleaseDone i) s = .next t ∧ t.seg i = some g) ∧
  (∀ (s : State) (j lba g o : Nat) (k : Bool) (sg : Seg) (rest : List (Nat × List (Nat × MapEnt))),
    s.str.walks = (j, [(lba, .member k g o)]) :: rest → s.seg g = some sg → sg.live ≠ 1 →
    ∃ t, exec .nsLiveWalk s = .next t ∧ t.str.walks = rest ∧ t.seg g = some { sg with live := sg.live - 1 })

/-- R233, R236, R237, R240: a group's width moves by its step when too many stripes were padded, or too few; a hedge window's end gives each
member its prediction; a read that lasts past the threshold is hedged. -/
def Obligations.AdaptationAndHedging : Prop :=
  (∀ (s : State) (g : Nat), g < 16 → s.flag STR_GROUP_CFG_adapt_en g = true →
    s.get STR_ADAPT_CFG_pad_hi_pct * (tgetD s.str.stats g {}).stripes < 100 * (tgetD s.str.stats g {}).padded →
    max (s.groupKmin g) (s.kCur g - atLeast1 (s.get STR_ADAPT_CFG_step)) ≠ s.kCur g →
    ∃ t, exec (.adaptWindowEnd g) s = .next t ∧ tget t.str.stats g = none ∧
      t.get STR_GROUP_STATUS_k_cur g =
        max (s.groupKmin g) (s.kCur g - atLeast1 (s.get STR_ADAPT_CFG_step)) % 2 ^ STR_GROUP_STATUS_k_cur.w ∧
      Reports s t EV_STR_WIDTH_CHANGED 0 g [max (s.groupKmin g) (s.kCur g - atLeast1 (s.get STR_ADAPT_CFG_step))]) ∧
  (∀ (s : State) (g : Nat), g < 16 → s.flag STR_GROUP_CFG_adapt_en g = true → 1 ≤ (tgetD s.str.stats g {}).stripes →
    (tgetD s.str.stats g {}).padded = 0 → 0 < s.get STR_ADAPT_CFG_pad_lo_pct →
    ∃ t, exec (.adaptWindowEnd g) s = .next t ∧ t.get STR_GROUP_STATUS_pad_pm g = 0 ∧
      t.get STR_GROUP_STATUS_k_cur g =
        min (s.kCap g) (s.kCur g + atLeast1 (s.get STR_ADAPT_CFG_step)) % 2 ^ STR_GROUP_STATUS_k_cur.w) ∧
  (∀ (s : State), ∃ t, exec .hedgeWindowEnd s = .next t ∧ ∀ x, x < 32 → tget t.tel x = none ∧
    t.get STR_MEMBER_STATUS_few_samples x = bit (s.predOf x).isNone ∧
    t.get STR_MEMBER_STATUS_pred x = (s.predOf x).getD 0 % 2 ^ STR_MEMBER_STATUS_pred.w) ∧
  (∀ (s : State) (r : Nat) (x : RowRead) (g : Seg), tget s.str.reads r = some x → s.seg x.seg = some g → x.hedged = false →
    x.recon = false → x.done = false → s.flag STR_HEDGE_CFG_late_en = true → s.str.thr.isSome = true →
    s.slow (chunkMember g (s.place g x.off).1 (s.place g x.off).2.1) = false →
    s.flag STR_MEMBER_STATUS_few_samples (chunkMember g (s.place g x.off).1 (s.place g x.off).2.1) = false → (s.place g x.off).2.1 ∈ x.out →
    g.k ≤ ((s.readsTick.spare x g).filter fun d => !s.slow (chunkMember g (s.place g x.off).1 d)).length →
    s.readsTick.hedgeBudget g.k = true →
    ∃ t, exec (.lateHedgeExpiry ⟨r, none⟩) s = .next t ∧ t.str.hedged = s.readsTick.str.hedged + g.k ∧
      ∃ y, tget t.str.reads r = some y ∧ y.hedged = true ∧ y.use = x.use ∧ y.seg = x.seg ∧ y.off = x.off)

/-- R35, R212, R221, R249: when the last chunk of a host head's stripe is durable its MAP_SET is appended; with the record's commit the
block's map entry names the members and its Névé slot is free, and in a mirrored pair both stand until then. -/
def Obligations.MapSwitch : Prop :=
  ∀ (s : State) (x tag n ch g i ns lba m : Nat) (k : Bool) (e : DrvCmd) (y : Stripe) (sg : Seg) (d : Block) (v : NeveSlot) (w : NeveDesc),
    x < 32 → (s.port x).cmds.find? (fun d => d.tag = tag) = some e → e.cmd.use = .chunk n ch → e.gone = false → e.late = false →
    s.str.stripes = [(n, y)] → y.head = .host g → y.writing = true → y.waiting = [ch] → y.due = false →
    y.blocks = (.neve i ns lba k, d) :: List.replicate m (.pad, 0) → s.seg y.seg = some sg → sg.state = .isOpen →
    s.lookup ns lba = .neve k i → tget s.jnl.slots i = some v → v.desc = some w → w.ns = ns → w.lba = lba →
    s.isMaster = true → s.switchWaits = false → s.jnl.mdQueue = [] → s.jnl.tail = [] → s.str.cold = [] → s.str.moving = [] →
    (∀ p ∈ s.str.pages, p.2.reading = false) → sg.begun + 1 < s.segStripes sg → sg.closed = false →
    ∃ t, exec (.chunkWriteDone x tag) s = .next t ∧ t.str.stripes = [] ∧ (∀ a b, (a, b) ≠ (ns, lba) → t.lookup a b = s.lookup a b) ∧
      (∃ r ∈ t.jnl.tail, r.body = .mapSet ns lba 1 y.seg (y.idx * sg.k * s.chunkBlocks) k) ∧
      if s.mirrored = true then
        t.lookup ns lba = .neve k i ∧ tget t.jnl.slots i = some { v with dest := some (y.seg, y.idx * sg.k * s.chunkBlocks) }
      else t.lookup ns lba = .member k y.seg (y.idx * sg.k * s.chunkBlocks) ∧ tget t.jnl.slots i = none

/-- R254 to R256, R320, R247: the partner's blocks and records enter this module's copy, what it acknowledges completes the writes that
waited for it, what it retires leaves, what it lost is sent again. -/
def Obligations.MirrorFrames : Prop :=
  (∀ (s : State) (h : PairHdr) (i : Nat) (d : NeveDesc) (b : Block), InSequence s h → s.isOwn i = false → tget s.jnl.slots i = none →
    i ∉ s.jnl.retired →
    ∃ t, exec (.nevePutRx h i d b) s = .next t ∧ t.pair.rxNext = (h.seq + 1) % 2 ^ 32 ∧
      tget t.jnl.slots i = some { state := .committed, desc := some d, mirror := true, data := b } ∧
      t.jnl.rxNeve = max s.jnl.rxNeve (d.seq + 1) ∧ ∀ j, j ≠ i → tget t.jnl.slots j = tget s.jnl.slots j) ∧
  (∀ (s : State) (h : PairHdr) (r : FirnRec) (ns lba seg off floor : Nat) (k : Bool), InSequence s h → s.pair.moves = [] →
    (∀ e ∈ s.jnl.tail, e.seq ≠ r.seq) → (∀ e ∈ s.jnl.tail ++ [r], floor < e.seq + firnSpan e.body) → s.str.switches = [] → s.str.cold = [] → s.jnl.reqs = [] → r.body = .mapSet ns lba 1 seg off k → seg ≠ 0xFFFFFF →
    s.lookup ns lba = .unmapped → s.jnl.slots = [] → s.jnl.writes = [] →
    ∃ t, exec (.firnPutRx h ⟨[r], floor⟩) s = .next t ∧ t.jnl.tail = s.jnl.tail ++ [r] ∧ t.lookup ns lba = .member k seg off ∧
      t.jnl.rxFirn = max s.jnl.rxFirn (r.seq + 1) ∧ ∀ a b, (a, b) ≠ (ns, lba) → t.lookup a b = s.lookup a b) ∧
  (∀ (s : State) (h : PairHdr) (a f c : Nat) (w : WJob) (x : Cmd) (q : Qp), InSequence s h → s.pair.moves = [] → s.jnl.resync = none →
    s.jnl.tail = [] → a < 2 ^ JNL_MIRROR_STATUS_acked_seq.w → s.get JNL_MIRROR_STATUS_acked_seq ≤ a → s.jnl.writes = [(c, w)] →
    w.mode = 0 → w.acked = false → w.done.length = w.blocks.length → (∀ e ∈ w.done, e.2.1 < a) → Running s c x q →
    ∃ t, exec (.mirrorAckRx h a f) s = .next t ∧ t.get JNL_MIRROR_STATUS_acked_seq = a ∧ t.jnl.ackedFirn = max s.jnl.ackedFirn f ∧
      Completes t c St.ok ∧ t.jnl.writes = []) ∧
  (∀ (s : State) (h : PairHdr) (i : Nat) (x : NeveSlot), InSequence s h → s.isOwn i = false → tget s.jnl.slots i = some x →
    ∃ t, exec (.neveRetireRx h [i]) s = .next t ∧ tget t.jnl.slots i = none ∧ ∀ j, j ≠ i → tget t.jnl.slots j = tget s.jnl.slots j) ∧
  (∀ (s : State) (h : PairHdr) (i : Nat) (x : NeveSlot) (d : NeveDesc), InSequence s h → tget s.jnl.slots i = some x → x.desc = some d →
    x.dataOk = true →
    ∃ t, exec (.neveFetchRx h i) s = .next t ∧ (s.pair.txNext, PairMsg.nevePut i d x.data) ∈ t.pair.kept ∧ t.jnl = s.jnl)

/-- R261 to R265, R269: a dump stops new work, then everything but Névé, and is sealed with what is committed; an orderly stop that has
drained ends with an empty dump already consumed. -/
def Obligations.DumpsAndStops : Prop :=
  (∀ (s : State), s.get PWR_SEQ_STATUS_seq = 1 → s.feedless = true → s.dumping = false → s.boot.act = none →
    ∃ t, exec .dumpStart s = .next t ∧ t.jnl.phase = .flushing 1 s.dtc ∧ t.get PWR_SEQ_STATUS_seq = 2 ∧
      ∀ i x, tget t.jnl.slots i = some x → x.state ≠ .reserved) ∧
  (∀ (s : State) (c : Nat) (w : Word64), s.jnl.phase = .flushing c w →
    ∃ t, exec .mirrorFlushEnd s = .next t ∧ t.jnl.phase = .writing c w ∧ t.pair.active = false ∧ t.tms.leaves = [] ∧ t.hif.queue = []) ∧
  (∀ (s : State) (c : Nat) (w : Word64) (b : BootIn), s.jnl.phase = .writing c w → c ≠ 3 → s.boot.after = 0 →
    ∃ t, exec (.dumpSeal [0, 1] [] true b) s = .next t ∧ t.jnl.phase = .held ∧ t.boot.held = true ∧ t.boot.shutdown = some 2 ∧
      t.get BOOT_STATUS_stage = 0xA ∧ t.jnl.slots = s.jnl.slots ∧
      ∃ d ∈ t.jnl.dumps, d.seq = s.nextDump ∧ d.cause = c ∧ d.entries = s.dumpEntries ∧ d.tail = s.jnl.tail ∧ d.isSealed = [0, 1] ∧
        d.consumed = false) ∧
  (∀ (s : State) (r : Bool) (w : Word64) (b : BootIn), s.jnl.phase = .stopping r w → s.stopDrained = true → s.boot.after = 0 →
    ∃ t, exec (.orderlyStopDrained b) s = .next t ∧ t.jnl.phase = .held ∧ t.boot.shutdown = some 1 ∧
      ∃ d ∈ t.jnl.dumps, d.seq = s.nextDump ∧ d.cause = 3 ∧ d.entries = [] ∧ d.consumed = true) ∧
  (∀ (s : State) (r : Bool) (w : Word64), s.jnl.phase = .stopping r w → s.boot.act = none →
    ∃ t, exec .orderlyStopTimeout s = .next t ∧ t.jnl.phase = .flushing 3 s.dtc ∧ t.boot.after = s.boot.after)

/-- R271, R278 to R284: a member without a link is declared failed; a queued segment is restored to targets chosen for it, stripe by stripe,
or evacuated; tenant 4,095's floor follows the lowest redundancy left, once the control cores run. -/
def Obligations.LossAndRebuild : Prop :=
  (∀ (s : State) (x : Nat), QuietMember s x → (s.port x).linkDown.isSome = true →
    ∃ t, exec (.linkLossTimeout x) s = .next t ∧ t.get REB_MEMBER_state x = 4 ∧ t.get REB_MEMBER_cause x = 3 ∧
      t.get STR_MEMBER_STATUS_live x = 0) ∧
  (∀ (s : State) (x : Nat), x < 32 → (s.port x).linkDown.isSome = true → s.live x = false →
    ∃ t, exec (.linkLossTimeout x) s = .next t ∧ t.get DRV_PORT_STATUS_state x = 0 ∧ t.live x = false) ∧
  (∀ (s : State) (i : Nat) (g : Seg) (l : List (Nat × Nat × Nat)), s.reb.work.length + s.reb.evac.length < clampNat 1 64 (s.get REB_CFG_parallel) →
    s.booting = false →
    s.nextRebuild (fun i g => if (s.restorable i g).isSome then s.rebuildHere else s.segMine i) = some (i, g) →
    s.restorable i g = some l → g.k ≤ (s.chunkOrder g 0).length →
    (∀ c ∈ (s.chunkOrder g 0).take g.k, s.slow (chunkMember g 0 c) = false) →
    ∃ t, exec .rebuildSegmentStart s = .next t ∧
      tget t.reb.work i = some { targets := l, asked := (s.chunkOrder g 0).take g.k } ∧ t.str.segs = s.str.segs) ∧
  (∀ (s : State) (i : Nat) (g : Seg), s.reb.work.length + s.reb.evac.length < clampNat 1 64 (s.get REB_CFG_parallel) →
    s.booting = false →
    s.nextRebuild (fun i g => if (s.restorable i g).isSome then s.rebuildHere else s.segMine i) = some (i, g) →
    s.restorable i g = none → s.seg i = some g → g.live ≠ 0 → (∀ e ∈ g.blocks, s.stillThere i e.1 e.2 = false) →
    g.summary.isSome = true → s.isMaster = true → s.jnl.parked = [] →
    s.tailBlocks + 1 < 262144 → s.replayBytes < 2 * s.replayLimit →
    ∃ t, exec .rebuildSegmentStart s = .next t ∧ t.seg i = some { g with state := .calving } ∧ t.reb.evac = s.reb.evac ++ [i]) ∧
  (∀ (s : State) (i : Nat) (g : Seg) (r : Restore), tget s.reb.work i = some r → s.seg i = some g → r.asked = [] → r.waiting = [] →
    r.got ≠ [] → s.segStripes g ≤ r.stripe + 1 → g.live ≠ 0 →
    r.targets.foldl (fun l e => l.set e.1 e.2.1) g.members ≠ g.members → s.mirrored = false → s.isMaster = true → s.jnl.parked = [] →
    s.tailBlocks + 1 < 262144 → s.replayBytes < 2 * s.replayLimit →
    ∃ t, exec (.rebuildStripeDone i) s = .next t ∧ tget t.reb.work i = none ∧
      t.seg i = some { g with members := r.targets.foldl (fun l e => l.set e.1 e.2.1) g.members,
                              base := r.targets.foldl (fun l e => l.set e.1 e.2.2) g.base }) ∧
  (∀ (s : State) (i : Nat) (g : Seg) (r : Restore), tget s.reb.work i = some r → s.seg i = some g → r.asked = [] → r.waiting = [] →
    r.got ≠ [] → r.stripe + 1 < s.segStripes g → g.k ≤ (s.chunkOrder g (r.stripe + 1)).length →
    (∀ c ∈ (s.chunkOrder g (r.stripe + 1)).take g.k, s.slow (chunkMember g (r.stripe + 1) c) = false) →
    ∃ t, exec (.rebuildStripeDone i) s = .next t ∧
      tget t.reb.work i = some { r with stripe := r.stripe + 1, asked := (s.chunkOrder g (r.stripe + 1)).take g.k, got := [], waiting := [],
                                        hedged := false } ∧
      t.seg i = some g) ∧
  (∀ (s : State), s.coresAway = true →
    ∃ t, exec .rebuildRateUpdate s = .next t ∧ t.reb.rateDue = true ∧ t.get TMS_REBUILD_FLOOR_floor = s.get TMS_REBUILD_FLOOR_floor ∧
      t.get TMS_TENANT_CFG_weight 4095 = s.get TMS_TENANT_CFG_weight 4095) ∧
  (∀ (s : State), s.coresAway = false → s.lowestR = none →
    ∃ t, exec .rebuildRateUpdate s = .next t ∧ t.get TMS_REBUILD_FLOOR_floor = 0 ∧
      t.get TMS_TENANT_CFG_weight 4095 =
        min (atLeast1 (s.get REB_WEIGHT_CFG_w_min)) (atLeast1 (s.get REB_WEIGHT_CFG_w_max)) % 2 ^ TMS_TENANT_CFG_weight.w) ∧
  (∀ (s : State) (r : Int), s.coresAway = false → s.lowestR = some r → r ≤ 0 →
    ∃ t, exec .rebuildRateUpdate s = .next t ∧
      t.get TMS_REBUILD_FLOOR_floor = s.get REB_RATE_CFG_floor_r0 * 1000 % 2 ^ TMS_REBUILD_FLOOR_floor.w)

/-- R288 to R292: the Crevasse list is saved when it has changed, walked from the map at start, and follows the partner's frames. -/
def Obligations.CrevasseList : Prop :=
  (∀ (s : State), s.reb.changed = true →
    ∃ t, exec .crevassePersist s = .next t ∧ t.reb.changed = false ∧
      t.reb.saved = some ⟨s.get REB_CREV_STATUS_generation, s.str.poolId, s.reb.crev, s.get REB_CREV_COUNT_lost_blocks,
                          s.get REB_CREV_COUNT_overflow⟩) ∧
  (∀ (s : State), s.flag REB_CREV_STATUS_scanning = true →
    ∃ t, exec .crevasseWalk s = .next t ∧ t.get REB_CREV_STATUS_scanning = 0 ∧
      ((∀ e ∈ s.str.map, ∀ a b, e.2 ≠ .lost a b) → t.reb = s.reb)) ∧
  (∀ (s : State) (h : PairHdr) (c : Crev), InSequence s h → s.reb.crev = [] → 0 < c.nlb →
    ∃ t, exec (.crevasseFrameRx h (.add c)) s = .next t ∧ t.pair.rxNext = (h.seq + 1) % 2 ^ 32 ∧ t.reb.crev = [c] ∧ t.reb.changed = true) ∧
  (∀ (s : State) (h : PairHdr) (n : Nat), InSequence s h → (∃ c ∈ s.reb.crev, c.nsid = n) →
    ∃ t, exec (.crevasseFrameRx h (.drop n)) s = .next t ∧ t.reb.crev = s.reb.crev.filter fun c => c.nsid != n)

/-- R273, R284, R295 to R299: the REB commands fail and adopt members, pause and resume the rebuild and create the pool; an adoption goes
through its steps; a segment narrower than its group is widened; the partner's frames apply. -/
def Obligations.MembersAndPool : Prop :=
  (∀ (s : State) (x : Nat), QuietMember s x →
    ∃ t, exec (.rebFail x) s = .next t ∧ t.get REB_MEMBER_state x = 4 ∧ t.get REB_MEMBER_cause x = 8 ∧
      t.get STR_MEMBER_STATUS_live x = 0 ∧ t.get REB_STATUS_cmd_result = 0) ∧
  (∀ (s : State) (x : Nat), x < 32 → s.live x = false →
    ∃ t, exec (.rebFail x) s = .next t ∧ t.get REB_STATUS_cmd_result = 1 ∧ t.get REB_MEMBER_state x = s.get REB_MEMBER_state x) ∧
  (∀ (s : State) (x : Nat), x < 32 → s.get REB_MEMBER_state x = 1 →
    ∃ t, exec (.rebAdopt x) s = .next t ∧ t.get REB_STATUS_cmd_result = 0 ∧ t.get REB_MEMBER_state x = 2 ∧ tget t.reb.joining x = some 0) ∧
  (∀ (s : State) (x : Nat), x < 32 → s.get REB_MEMBER_state x ≠ 1 →
    ∃ t, exec (.rebAdopt x) s = .next t ∧ t.get REB_STATUS_cmd_result = 1 ∧ t.reb = s.reb) ∧
  (∀ (s : State), s.rebQueue ≠ [] → ∃ t, exec .rebPause s = .next t ∧ t.get REB_STATUS_state = 2 ∧ t.get REB_STATUS_cmd_result = 0) ∧
  (∀ (s : State), s.get REB_STATUS_state = 2 → s.rebQueue ≠ [] →
    ∃ t, exec .rebResume s = .next t ∧ t.get REB_STATUS_state = 1 ∧ t.get REB_STATUS_cmd_result = 0) ∧
  (∀ (s : State), s.poolAllowed = true →
    ∃ t, exec .createPool s = .next t ∧ t.get REB_STATUS_cmd_result = 0 ∧ t.str.poolId ≠ 0 ∧ t.str.poolId < 2 ^ 32 ∧
      t.reb.making = s.candidates ∧ t.reb.creating = s.candidates) ∧
  (∀ (s : State), s.poolAllowed = false → ∃ t, exec .createPool s = .next t ∧ t.get REB_STATUS_cmd_result = 3 ∧ t.str = s.str ∧ t.reb = s.reb) ∧
  (∀ (s : State) (x : Nat), x < 32 → s.get REB_MEMBER_state x = 2 → tget s.reb.joining x = some 1 →
    ∃ t, exec (.adoption x) s = .next t ∧ tget t.reb.joining x = some 2 ∧ t.jnl.media.label = some s.nextLabel) ∧
  (∀ (s : State) (x : Nat), x < 32 → s.get REB_MEMBER_state x = 2 → tget s.reb.joining x = some 3 →
    ∃ t, exec (.adoption x) s = .next t ∧ t.get REB_MEMBER_state x = 3 ∧ t.get STR_MEMBER_STATUS_live x = 1 ∧ tget t.reb.joining x = none) ∧
  (∀ (s : State) (i n : Nat) (g : Seg), s.flag REB_CFG_rewiden_en = true → s.str.segs = [(i, g)] → g.state = .isSealed →
    s.needsRebuild i g = false → s.segMine i = true → headGroup g.head = some n → g.k < s.kCur n →
    (∀ e ∈ g.blocks, s.stillThere i e.1 e.2 = false) → g.live ≠ 0 → s.booting = false → s.segPending i = false →
    s.switching i = false → s.isMaster = true → s.jnl.parked = [] →
    s.tailBlocks + 1 < 262144 → s.replayBytes < 2 * s.replayLimit →
    ∃ t, exec .rewiden s = .next t ∧ t.seg i = some { g with state := .calving }) ∧
  (∀ (s : State) (h : PairHdr) (x c q : Nat), InSequence s h → QuietMember s x →
    ∃ t, exec (.memberFrameRx h (.failed x c q)) s = .next t ∧ t.pair.rxNext = (h.seq + 1) % 2 ^ 32 ∧ t.get REB_MEMBER_state x = 4 ∧
      t.get REB_MEMBER_cause x = 9)

/-- R303, R307, R310 to R312: a drive that passes the checks is ready, one that does not is refused; errors are counted; a controller fatal
status, a command or a rung that takes too long climbs the ladder; a link that drops is retrained. -/
def Obligations.DrivePorts : Prop :=
  (∀ (s : State) (x : Nat) (f : DriveFacts), x < 32 → s.get DRV_PORT_STATUS_state x ≠ 0 → s.get DRV_PORT_STATUS_state x ≠ 3 →
    s.get DRV_PORT_STATUS_state x ≠ 4 → s.get DRV_PORT_STATUS_rung x ≠ 1 →
    s.acceptCheck x f = none → s.live x = false → s.boot.drivesUp = true →
    ∃ t, exec (.driveBringup x f) s = .next t ∧ t.get DRV_PORT_STATUS_state x = 3 ∧ t.get REB_MEMBER_state x = 1 ∧
      tget t.str.capacity x = some f.capacity ∧ (t.port x).facts = some f ∧ (t.port x).cmds = []) ∧
  (∀ (s : State) (x r : Nat) (f : DriveFacts), QuietPort s x → s.get DRV_PORT_STATUS_state x ≠ 0 → s.get DRV_PORT_STATUS_state x ≠ 3 →
    s.get DRV_PORT_STATUS_state x ≠ 4 → s.get DRV_PORT_STATUS_rung x ≠ 1 → s.get DRV_PORT_STATUS_rung x ≠ 2 →
    s.acceptCheck x f = some r → s.live x = false →
    ∃ t, exec (.driveBringup x f) s = .next t ∧ t.get DRV_PORT_STATUS_state x = 4 ∧
      t.get DRV_PORT_STATUS_refuse x = r % 2 ^ DRV_PORT_STATUS_refuse.w ∧ (t.port x).barred = true) ∧
  (∀ (s : State) (x : Nat) (b : Bool), QuietPort s x → s.get DRV_PORT_STATUS_state x ≠ 0 → s.get DRV_PORT_STATUS_state x ≠ 3 →
    s.get DRV_PORT_STATUS_state x ≠ 4 → s.get DRV_PORT_STATUS_rung x ≠ 2 → s.live x = false →
    ∃ t, exec (.driveBringupTimeout x b) s = .next t ∧ t.get DRV_PORT_STATUS_state x = 4 ∧
      t.get DRV_PORT_STATUS_refuse x = if b then 3 else 1) ∧
  (∀ (s : State) (x tag : Nat) (d : List Block) (e : DrvCmd), x < 32 → (s.port x).cmds.find? (fun d => d.tag = tag) = some e →
    e.cmd.use = .health → e.gone = false → e.late = false →
    ∃ t, exec (.driveCqe x tag 0 d) s = .next t ∧ t.port x = { s.port x with cmds := (s.port x).cmds.filter fun d => d.tag != tag }) ∧
  (∀ (s : State) (x tag i st ch : Nat) (d : List Block) (e : DrvCmd) (r : Restore) (g : Seg), x < 32 →
    (s.port x).cmds.find? (fun d => d.tag = tag) = some e → e.cmd.use = .source i st ch → e.gone = false → e.late = false →
    tget s.reb.work i = some r → s.seg i = some g → r.stripe = st → ch ∈ r.asked → (tput r.got ch d).length < g.k →
    ∃ t, exec (.driveCqe x tag 0 d) s = .next t ∧
      tget t.reb.work i = some { r with asked := r.asked.filter (· != ch), got := tput r.got ch d }) ∧
  (∀ (s : State) (x w : Nat), x < 32 → w / 4 % 2 = 1 → w / 8 % 4 = 0 → (s.port x).degraded = false → s.live x = true →
    ∃ t, exec (.driveAsyncEvent x w) s = .next t ∧ (t.port x).degraded = true ∧ Reports s t EV_REB_MEMBER_DEGRADED 2 x []) ∧
  (∀ (s : State) (x w : Nat), QuietMember s x → w / 4 % 2 = 0 → w / 8 % 4 ≠ 0 →
    ∃ t, exec (.driveAsyncEvent x w) s = .next t ∧ t.get REB_MEMBER_state x = 4 ∧ t.get REB_MEMBER_cause x = 5) ∧
  (∀ (s : State) (x : Nat), QuietPort s x → s.get DRV_PORT_STATUS_state x = 3 → (s.port x).okRung2 = none →
    ∃ t, exec (.driveCfs x) s = .next t ∧ t.get DRV_PORT_STATUS_state x = 5 ∧ t.get DRV_PORT_STATUS_rung x = 2 ∧
      Reports s t EV_DRV_ESCALATE 2 x [2]) ∧
  (∀ (s : State) (x : Nat), QuietPort s x → s.get DRV_PORT_STATUS_speed x ≠ 0 →
    ∃ t, exec (.driveLinkLoss x) s = .next t ∧ t.get DRV_PORT_STATUS_state x = 5 ∧ t.get DRV_PORT_STATUS_speed x = 0 ∧
      (t.port x).linkDown = some s.dtc ∧ Reports s t EV_DRV_LINK_DOWN 2 x []) ∧
  (∀ (s : State) (x : Nat) (f : DriveFacts), x < 32 → (s.port x).linkDown.isSome = true → s.get DRV_PORT_STATUS_state x = 5 →
    s.acceptCheck x f = none → s.live x = false → s.boot.drivesUp = true →
    ∃ t, exec (.driveLinkReturn x f) s = .next t ∧ t.get DRV_PORT_STATUS_state x = 3 ∧ (t.port x).linkDown = none) ∧
  (∀ (s : State) (x : Nat), x < 32 → s.get DRV_PORT_ERR_aer_corr x + 1 < 2 ^ DRV_PORT_ERR_aer_corr.w →
    ∃ t, exec (.aerCorrectable x) s = .next t ∧ t.get DRV_PORT_ERR_aer_corr x = s.get DRV_PORT_ERR_aer_corr x + 1) ∧
  (∀ (s : State) (x tag : Nat) (e : DrvCmd), x < 32 → e ∈ (s.port x).cmds → e.tag = tag → e.late = false → s.get DRV_PORT_STATUS_rung x = 0 →
    ∃ t, exec (.driveCommandTimeout x tag) s = .next t ∧ t.get DRV_PORT_STATUS_rung x = 1 ∧ t.get DRV_PORT_STATUS_state x = 5 ∧
      Reports s t EV_DRV_ESCALATE 2 x [1] ∧ t.outbox = s.outbox ++ [.driveAdmin x (8 + 256 * tag)]) ∧
  (∀ (s : State) (x : Nat), QuietPort s x → s.get DRV_PORT_STATUS_rung x = 2 → (s.port x).okRung3 = none → s.slotOwner x = false →
    ∃ t, exec (.ladderRungTimeout x) s = .next t ∧ t.get DRV_PORT_STATUS_rung x = 3 ∧ Reports s t EV_DRV_ESCALATE 2 x [3]) ∧
  (∀ (s : State) (x u : Nat), x < 32 → s.get DRV_PORT_STATUS_state x = 3 →
    ∃ t, exec (.healthPoll x (some (0, u))) s = .next t ∧ t.port x = { s.port x with used := u } ∧ t.outbox = s.outbox ++ [.driveAdmin x 2]) ∧
  (∀ (s : State) (h : PairHdr) (x r : Nat), InSequence s h → QuietPort s x → s.get DRV_PORT_STATUS_state x ≠ 4 → s.live x = false →
    ∃ t, exec (.driveFrameRx h (.refused x r)) s = .next t ∧ t.pair.rxNext = (h.seq + 1) % 2 ^ 32 ∧ t.get DRV_PORT_STATUS_state x = 4 ∧
      t.get DRV_PORT_STATUS_refuse x = r % 2 ^ DRV_PORT_STATUS_refuse.w)

/-- R326 to R330, R334, R335, R344: heartbeats keep the pair and form it, the third one missed brings a takeover or a split, frames are
acknowledged and sent again, and the PAIR commands act. -/
def Obligations.PairLink : Prop :=
  (∀ (s : State), s.pairShelf = true → s.pair.conflict = false → s.jnl.phase ≠ .held → s.pair.heard = true → s.pair.moves = [] →
    ∃ t, exec .heartbeatPeriod s = .next t ∧ t.get PAIR_STATUS_missed = 0 ∧ t.pair.heard = false ∧
      t.get PAIR_STATUS_state = s.get PAIR_STATUS_state) ∧
  (∀ (s : State), s.pairShelf = true → s.pair.conflict = false → s.dumping = false → s.pair.heard = false → s.pair.moves = [] →
    s.pair.active = true → s.get PAIR_STATUS_missed = 2 → s.get PAIR_STATUS_state ≠ 4 → s.flag PAIR_STATUS_partner_alive = true →
    ∃ t, exec .heartbeatPeriod s = .next t ∧ t.get PAIR_STATUS_missed = 3 ∧ t.get PAIR_STATUS_state = 4 ∧ t.pair.active = false) ∧
  (∀ (s : State) (l : Nat) (h : Heartbeat), s.pairShelf = true → h.bayB ≠ s.bayB → h.proto = s.boot.proto → s.pair.active = true →
    h.formation = s.pair.formation →
    ∃ t, exec (.heartbeatRx l h) s = .next t ∧ t.pair.heard = true ∧ t.pair.partner = some h ∧ t.pair.lastHb = s.dtc ∧
      t.pair.active = true) ∧
  (∀ (s : State) (l : Nat) (h : Heartbeat), s.pairShelf = true → s.bayB = false → h.bayB = true → h.proto = s.boot.proto →
    s.pair.active = false → s.pair.conflict = false → s.dumping = false → s.get PAIR_STATUS_state = 1 → h.poolId = s.str.poolId →
    h.formation = 0 →
    ∃ t, exec (.heartbeatRx l h) s = .next t ∧ t.pair.active = true ∧ t.pair.formation = s.nextFormation ∧
      t.get PAIR_STATUS_state = 1 ∧ t.get JNL_NEVE_STATUS_pair_state = 3) ∧
  (∀ (s : State) (l : Nat) (h : Heartbeat), s.pairShelf = true → h.bayB = s.bayB → s.pair.conflict = false →
    ∃ t, exec (.heartbeatRx l h) s = .next t ∧ t.pair.conflict = true ∧ t.nsm.ns = [] ∧ t.str.poolId = 0) ∧
  (∀ (s : State), ∃ t, exec (.aliveLineChange true) s = .next t ∧ t.get PAIR_STATUS_partner_alive = 1 ∧ t.pair.aliveBad = false) ∧
  (∀ (s : State), s.get PAIR_STATUS_state ≠ 4 →
    ∃ t, exec (.aliveLineChange false) s = .next t ∧ t.get PAIR_STATUS_partner_alive = 0 ∧ t.pair = s.pair) ∧
  (∀ (s : State), ∃ t, exec .takeoverReleaseHold s = .next t ∧ t.pair.takenSegs = []) ∧
  (∀ (s : State), s.get PAIR_STATUS_state = 4 → s.isMaster = false → s.get PAIR_CFG_split_yield_s ≠ 0 → s.jnl.phase = .idle →
    ∃ t, exec .splitYieldExpiry s = .next t ∧ t.get PAIR_STATUS_state = 5 ∧ t.jnl.phase = .stopping false s.dtc ∧
      Reports s t EV_PAIR_YIELD 0 0 []) ∧
  (∀ (s : State) (l a : Nat), s.pair.active = true →
    ∃ t, exec (.linkAckRx l a s.pair.formation) s = .next t ∧
      t.pair.kept = s.pair.kept.filter fun e => !(decide (0 < seqFrom e.1 a) && decide (seqFrom e.1 a ≤ 2 ^ 31))) ∧
  (∀ (s : State), s.pair.active = true → s.pair.unacked ≠ 0 →
    ∃ t, exec .pairAckDelay s = .next t ∧ t.pair.unacked = 0 ∧
      t.outbox = s.outbox ++ [.linkAck s.nextLink s.pair.rxNext s.pair.formation]) ∧
  (∀ (s : State), s.pair.active = true → (s.pair.kept.map (·.1)).Nodup →
    ∃ t, exec .pairRetransmitTimeout s = .next t ∧ { t.pair with keptOn := s.pair.keptOn } = s.pair ∧
      t.outbox = s.outbox ++ s.pair.kept.map fun e =>
        .pair (if s.plUp (1 - tgetD s.pair.keptOn e.1 0) then 1 - tgetD s.pair.keptOn e.1 0 else tgetD s.pair.keptOn e.1 0) e.1
          s.pair.rxNext s.pair.formation e.2) ∧
  (∀ (s : State) (l : Nat), l < 2 → ∃ t, exec (.pairLinkSilence l) s = .next t ∧ t.plUp l = false ∧ l ∈ t.pair.down) ∧
  (∀ (s : State), s.pairShelf = true → s.pair.active = false → s.get PAIR_STATUS_state = 1 → s.jnl.awaiting = [] → s.dumping = false →
    s.flag PAIR_STATUS_partner_alive = true →
    ∃ t, exec .formWaitExpiry s = .next t ∧ t.get PAIR_STATUS_state = 4) ∧
  (∀ (s : State), s.get PAIR_STATUS_state = 2 →
    ∃ t, exec .yield s = .next t ∧ t.get PAIR_STATUS_state = 5 ∧ t.get PAIR_STATUS_cmd_result = 0) ∧
  (∀ (s : State), s.get PAIR_STATUS_state = 0 → ∃ t, exec .yield s = .next t ∧ t.get PAIR_STATUS_cmd_result = 1 ∧ t.pair = s.pair)

/-- R331, R335: after a takeover this module is alone, pool master, owner of every namespace, and mirrors nothing. -/
def Obligations.Takeover : Prop :=
  (∀ (s : State), s.get PAIR_STATUS_state = 4 → secTicks 1 ≤ s.since s.pair.lastHb → s.dumping = false →
    ∃ t, exec .takeoverCmd s = .next t ∧ t.get PAIR_STATUS_state = 3 ∧ t.get PAIR_TAKEOVER_STATUS_duration = 0 ∧ t.pair.active = false ∧
      t.flag PAIR_STATUS_master = true ∧ ∀ i n, t.ns i = some n → n.ownerId = s.moduleId) ∧
  (∀ (s : State), s.get PAIR_STATUS_state ≠ 4 →
    ∃ t, exec .takeoverCmd s = .next t ∧ t.get PAIR_STATUS_cmd_result = 1 ∧ t.pair = s.pair) ∧
  (∀ (s : State), s.pairShelf = true → s.pair.conflict = false → s.dumping = false → s.pair.heard = false → s.pair.moves = [] →
    s.pair.active = true → s.get PAIR_STATUS_missed = 2 → s.flag PAIR_STATUS_partner_alive = false → s.pair.aliveBad = false →
    ∃ t, exec .heartbeatPeriod s = .next t ∧ t.get PAIR_STATUS_state = 3 ∧ t.pair.active = false)

/-- R320, R322, R336, R337, R465: requests of the partner are carried out: records appended, namespaces and segments taken over, forwarded
commands run and ended, slots handed over; moves are begun. -/
def Obligations.PairRequests : Prop :=
  (∀ (s : State) (h : PairHdr) (o ns lba seg off : Nat) (k : Bool), InSequence s h → s.isMaster = true →
    s.appendWaits (.mapSet ns lba 1 seg off k) = false → s.mirrored = true → s.lookup ns lba = .unmapped → seg ≠ 0xFFFFFF →
    ∃ t, exec (.firnReqRx h o (.mapSet ns lba 1 seg off k)) s = .next t ∧ t.lookup ns lba = .member k seg off ∧
      t.jnl.tail = s.jnl.tail ++ [⟨s.get JNL_FIRN_SEQ_next_seq, o, .mapSet ns lba 1 seg off k⟩]) ∧
  (∀ (s : State) (h : PairHdr) (i g : Nat) (n : Ns), InSequence s h → s.ns i = some n →
    ∃ t, exec (.ownerRx h i g) s = .next t ∧ t.pair.rxNext = (h.seq + 1) % 2 ^ 32 ∧
      t.ns i = some { n with ownerId := s.moduleId, gen := g }) ∧
  (∀ (s : State) (h : PairHdr) (d : HeadId) (l : List (Nat × Seg)), InSequence s h → s.str.cold = [] →
    ∃ t, exec (.segGrantRx h (.grant d l)) s = .next t ∧ tget t.pair.grants d = some (tgetD s.pair.grants d [] ++ l)) ∧
  (∀ (s : State) (h : PairHdr) (f : FwdCmd) (n : Ns), InSequence s h → s.ns f.ns = some n → s.owned n = true →
    tgetD s.nsm.pending (f.owner, f.ns) 0 = 0 → s.readyCheck n (fwdSqe f (nsidOf f.ns n)) = none → f.opcode ≠ 1 → f.opcode ≠ 0x19 →
    s.cmd s.qpe.nextCmd = none →
    ∃ t, exec (.fwdCmdRx h f) s = .next t ∧ ∃ x, t.cmd s.qpe.nextCmd = some x ∧ x.phase = .started ∧ x.remote = some f.id ∧
      x.ns = some f.ns ∧ x.issuer = some f.owner) ∧
  (∀ (s : State) (h : PairHdr) (id b k c : Nat) (g : Bool) (v : Block) (x : Cmd), InSequence s h →
    s.qpe.cmds.find? (fun e => e.2.remote = some id && e.2.sqe.opcode = 1 && e.2.phase != .done) = some (c, x) → s.cmd c = some x →
    x.begun = false →
    ∃ t, exec (.fwdDataRx h id b (.cipher g v)) s = .next t ∧ ∃ y, t.cmd c = some y ∧ tget y.data b = some v ∧ y.fwdKgen = g) ∧
  (∀ (s : State) (h : PairHdr) (c : Nat) (st : Status) (a b : Word32) (x : Cmd) (q : Qp), InSequence s h → Running s c x q →
    x.forwarded = true → x.phase = .started → x.fwdLeft = 0 → x.sqe.opcode ≠ 2 →
    ∃ t, exec (.fwdDoneRx h c st a b) s = .next t ∧ Completes t c st a b) ∧
  (∀ (s : State) (h : PairHdr) (x : Nat) (c : ChanState), InSequence s h → c.state = 4 →
    ∃ t, exec (.slotReleaseRx h x c) s = .next t ∧ t.slotOwner x = true ∧ t.get SLT_CH_STATUS_state x = 4 ∧
      t.get SLT_CH_STATUS_pg x = 1 ∧ (t.slot x).gate = true ∧ (s.pair.txNext, PairMsg.slotTaken x) ∈ t.pair.kept) ∧
  (∀ (s : State) (h : PairHdr) (x : Nat), InSequence s h → (s.slot x).leaving = true →
    ∃ t, exec (.slotTakenRx h x) s = .next t ∧ t.slotOwner x = false ∧
      t.slot x = { s.slot x with gate := false, aux := false, pwrdis := false, leaving := false }) ∧
  (∀ (s : State) (h : PairHdr) (x : Nat) (c : ChanState), InSequence s h → s.slotOwner x = false → c.state < 8 → c.retries < 8 →
    ∃ t, exec (.slotStateRx h (.report x c)) s = .next t ∧ t.get SLT_CH_STATUS_state x = c.state ∧
      t.get SLT_CH_STATUS_retries_left x = c.retries) ∧
  (∀ (s : State) (h : PairHdr) (x r : Nat), InSequence s h → r < 4 →
    ∃ t, exec (.slotStateRx h (.result x r)) s = .next t ∧ t.get SLT_CMD_busy = 0 ∧ t.get SLT_CMD_result = r) ∧
  (∀ (s : State) (i : Nat) (n : Ns), s.get PAIR_STATUS_state = 2 → s.pair.moves = [] → s.ns i = some n → s.owned n = true →
    n.state = .active → s.nsQuiet i = true →
    ∃ t, exec (.moveNs i) s = .next t ∧ t.get PAIR_STATUS_cmd_result = 2 ∧ ∃ m, t.pair.moves = [m] ∧ m.ns = i ∧ m.recorded = true) ∧
  (∀ (s : State) (i : Nat), (∀ n, s.ns i = some n → s.owned n = false) →
    ∃ t, exec (.moveNs i) s = .next t ∧ t.get PAIR_STATUS_cmd_result = 1 ∧ t.pair = s.pair ∧ t.nsm = s.nsm) ∧
  (∀ (s : State), s.get PAIR_STATUS_state = 2 → s.pair.moves = [] → s.returnable ≠ [] →
    ∃ t, exec .returnAll s = .next t ∧ t.get PAIR_STATUS_cmd_result = 2 ∧ t.pair.moves.map (·.ns) = s.returnable)

/-- R349 to R354, R360 to R363: a frame's head is admitted, its cells cross and stamp it, its tail makes it whole or ends it; Moraine returns
leaked cells; ports go down and come up. -/
def Obligations.SwitchCore : Prop :=
  (∀ (s b : State) (f : Frame) (x : FrameHkt), (if f.port = 32 ∨ f.port = 33 then s.linkAlive (f.port - 32) else s) = b →
    f.pair = false → b.portUp f.port = true → f.bad43 = false → b.frameHkt f = some x →
    b.flag FWD_PORT_CFG_learn_en f.port = false → (∀ m, m < 4 → b.mirrorOn m = false) → x.dst.toNat / 2 ^ 18 = b.moduleId → x.opcode ≠ 11 →
    b.pfcOn f.port (b.frameClass f) = false → b.admits f (reserveCells f) (b.frameClass f) false (36 + groupOf x.src) = true →
    ∃ t, exec (.frameHeadArrival f) s = .next t ∧ t.swc.nextFrame = s.swc.nextFrame + 1 ∧
      ∃ y, tget t.swc.frames s.swc.nextFrame = some y ∧ y.f = f ∧ y.tc = b.frameClass f ∧
        y.copies.map (fun c => (c.dst, c.tc, c.newMac, c.mirror)) = [(36 + groupOf x.src, b.frameClass f, none, none)]) ∧
  (∀ (s : State) (id len : Nat) (x : SwcFrame) (c : SwcCopy), tget s.swc.frames id = some x → x.tail = none → x.copies = [c] →
    c.left = false → c.trunc = 0 →
    ∃ t, exec (.frameTailArrival id .fcs len) s = .next t ∧ tget t.swc.frames id = none) ∧
  (∀ (s : State) (id len : Nat) (x : SwcFrame) (c : SwcCopy), tget s.swc.frames id = some x → x.tail = none → x.copies = [c] →
    c.left = false → c.toCross ≠ 0 → cellsOf len ≤ x.cells.length → len ≤ 9216 →
    ∃ t, exec (.frameTailArrival id .good len) s = .next t ∧
      tget t.swc.frames id = some { x with f := { x.f with len := len }, cells := x.cells.take (cellsOf len), tail := some true,
                                           reserve := x.reserve.map fun e => (e.1, min e.2 (cellsOf len)),
                                           copies := [{ c with toCross := c.toCross + (cellsOf len - 1) }] }) ∧
  (∀ (s : State) (i j : Nat) (v : VoqCell) (x : SwcFrame) (c : SwcCopy), i < 19 → j < 19 → s.swc.voq = [((i, j), [v])] →
    tget s.swc.frames v.frame = some x → x.copies = [c] → c.dst = v.dst → c.mirror = v.mirror → c.stamp = none → x.tail = none → v.dst < 34 →
    ∃ t, exec .cellSlot s = .next t ∧ tget t.swc.voq (i, j) = some [] ∧
      tget t.swc.frames v.frame = some { x with copies := [{ c with toCross := c.toCross - 1, stamp := some s.dtc }] } ∧
      t.tms.leaves = tmsPut s.tms.leaves v.dst c.tc 4096 false ⟨.frame v.frame, s.chargedLen v.dst (s.leavingFrame x c).len, x.cells, s.dtc⟩) ∧
  (∀ (s : State) (i : Nat) (u : CellUse), s.swc.cells = [(i, u)] → s.swc.stage = [] → u.onFree = false → u.refs = 0 → u.leaked = true →
    u.sweep < s.get SWC_MORAINE_STATUS_sweeps → s.flag SWC_MORAINE_CFG_repair_en = true →
    ∃ t, exec .moraineSweep s = .next t ∧ t.swc.cells = [] ∧
      t.get SWC_MORAINE_STATUS_leaked_cells =
        min (s.get SWC_MORAINE_STATUS_leaked_cells + 1) (2 ^ SWC_MORAINE_STATUS_leaked_cells.w - 1)) ∧
  (∀ (s : State), s.swc.frames = [] →
    ∃ t, exec (.privilegedPortDown 48) s = .next t ∧ t.swc.cpuUp = false ∧ ∀ x ∈ t.tms.leaves, x.root ≠ 48) ∧
  (∀ (s : State) (p : Nat), p = 32 ∨ p = 33 → s.swc.frames = [] →
    ∃ t, exec (.privilegedPortDown p) s = .next t ∧ t.flag MAC_PORT_STATUS_up p = false ∧ t.plUp (p - 32) = false) ∧
  (∀ (s : State) (p : Nat), p < 32 → s.flag FWD_PORT_CFG_cluster p = false → s.flag FWD_PORT_CFG_flush_down p = true →
    ∃ t, exec (.frontPortDown p) s = .next t ∧ t.flag MAC_PORT_STATUS_up p = false ∧
      ∀ e ∈ (t.ftab 0).all, eStatic e = true ∨ eKind e ≠ 1 ∨ ePort e ≠ some (p, false)) ∧
  (∀ (s : State) (p v : Nat), s.portsOpen = true → s.cageSpeed p = some v → s.portHeld p = false → s.flag MAC_PORT_STATUS_up p = false →
    s.flag FWD_PORT_CFG_cluster p = false →
    ∃ t, exec (.portLinkUp p) s = .next t ∧ t.get MAC_PORT_STATUS_up p = 1 ∧ t.get MAC_PORT_STATUS_speed p = v ∧
      t.get MAC_PORT_STATUS_fec_lock p = 1) ∧
  (∀ (s : State), ∃ t, exec (.portLinkUp 48) s = .next t ∧ t.swc.cpuUp = true ∧ t.regs = s.regs)

/-- R371 to R383: messages, the ager, the rehash walk and FWD_CMD change the forwarding tables as their rules say. -/
def Obligations.ForwardingTables : Prop :=
  (∀ (s : State) (m : LearnMsg) (rest : List LearnMsg), tgetD s.fwd.learn s.fwd.turn [] = m :: rest → (s.ftab m.table).slots = [] →
    (s.ftab m.table).stash = [] →
    ∃ t, exec .learnMessage s = .next t ∧ tget t.fwd.learn s.fwd.turn = some rest ∧ t.fwd.turn = 1 - s.fwd.turn ∧
      (t.ftab m.table).slots = [(((s.bucketsOf m.table (eBank (eSet m.entry 120 120 (s.insertBank m.table)))
        (eKey (eSet m.entry 120 120 (s.insertBank m.table)))).1, 0), eSet m.entry 120 120 (s.insertBank m.table))]) ∧
  (∀ (s : State) (k : Nat) (m : HitMsg) (rest : List HitMsg) (p : Nat × Nat) (e : BitVec 128), tgetD s.fwd.hits k [] = m :: rest →
    (s.ftab m.table).slots = [(p, e)] → (s.ftab m.table).stash = [] → eKey e = m.key → (eBank e = 1) = m.bank → eStatic e = false →
    ∃ t, exec (.hitMessage k) s = .next t ∧ tget t.fwd.hits k = some rest ∧ (t.ftab m.table).slots = [(p, eSet e 122 121 0)]) ∧
  (∀ (s : State) (p : Nat × Nat) (e : BitVec 128), s.get FWD_AGE_CFG_sweep_s ≠ 0 → (s.ftab 0).slots = [(p, e)] → (s.ftab 0).stash = [] →
    eStatic e = false → eKind e ≠ 3 →
    ∃ t, exec .agerSweep s = .next t ∧
      (t.ftab 0).slots = if eAge e = 3 then [] else [(p, eSet e 122 121 (eAge e + 1))]) ∧
  (∀ (s : State), s.get FWD_AGE_CFG_sweep_s = 0 → ∃ t, exec .agerSweep s = .next t ∧ t.fwd = s.fwd) ∧
  (∀ (s : State) (k : Nat), k < 2 → s.rehashing k = true → s.get FWD_LEARN_CFG_stash_hi ≠ 0 → (s.ftab k).slots = [] →
    (s.ftab k).stash = [] →
    ∃ t, exec (.rehashWalk k) s = .next t ∧ t.get FWD_TABLE_active k = 1 - s.get FWD_TABLE_active k ∧ t.get FWD_TABLE_state k = 0 ∧
      t.get FWD_TABLE_req k = 0 ∧ Reports s t EV_FWD_REHASH_DONE 0 k []) ∧
  (∀ (s : State) (k : Nat), k < 2 → s.get FWD_TABLE_state k = 2 → s.get FWD_LEARN_CFG_stash_hi ≠ 0 → (s.ftab k).slots = [] → (s.ftab k).stash = [] →
    ∃ t, exec (.rehashRetry k) s = .next t ∧ t.get FWD_TABLE_state k = 0 ∧ Reports s t EV_FWD_REHASH_DONE 0 k []) ∧
  (∀ (s : State) (k : Nat), k < 2 → fwdValid k s.fwdOperand = true → (s.ftab k).slots = [] → (s.ftab k).stash = [] →
    ∃ t, exec (.fwdInsert k) s = .next t ∧ t.get FWD_CMD_result = 0 ∧ (t.ftab k).slots.map (·.2) = [eSet s.fwdOperand 120 120 (s.insertBank k)]) ∧
  (∀ (s : State) (k : Nat), k < 2 → fwdValid k s.fwdOperand = false →
    ∃ t, exec (.fwdInsert k) s = .next t ∧ t.get FWD_CMD_result = 4 ∧ t.fwd = s.fwd) ∧
  (∀ (s : State) (k : Nat) (e : BitVec 128), k < 2 → s.fwdFind k (eKey s.fwdOperand) = some e →
    ∃ t, exec (.fwdDelete k) s = .next t ∧ t.get FWD_CMD_result = 0 ∧ ∀ o ∈ (t.ftab k).all, eKey o ≠ eKey s.fwdOperand) ∧
  (∀ (s : State) (k : Nat), k < 2 → s.fwdFind k (eKey s.fwdOperand) = none →
    ∃ t, exec (.fwdDelete k) s = .next t ∧ t.get FWD_CMD_result = 3 ∧ t.fwd = s.fwd) ∧
  (∀ (s : State) (k : Nat) (e : BitVec 128), k < 2 → s.fwdFind k (eKey s.fwdOperand) = some e →
    ∃ t, exec (.fwdLookup k) s = .next t ∧ t.get FWD_CMD_result = 0 ∧ t.get FWD_CMD_DATA_data 0 = e.toNat % 2 ^ 64 ∧
      t.get FWD_CMD_DATA_data 1 = e.toNat / 2 ^ 64 ∧ t.fwd = s.fwd) ∧
  (∀ (s : State) (k p : Nat), k < 2 → p < 64 →
    ∃ t, exec (.fwdFlushPort k p) s = .next t ∧ t.get FWD_CMD_result = 0 ∧
      ∀ e ∈ (t.ftab k).all, eStatic e = true ∨ (eKind e ≠ 1 ∧ eKind e ≠ 4) ∨ ePort e ≠ some (p, false)) ∧
  (∀ (s : State) (k : Nat), k < 2 → s.rehashing k = false →
    ∃ t, exec (.fwdRehash k) s = .next t ∧ t.get FWD_CMD_result = 0 ∧ t.get FWD_TABLE_state k = 1) ∧
  (∀ (s : State) (k i : Nat), k < 2 → s.rehashing k = false → s.flag FWD_TABLE_req k = true → ix2 2 k (1 - s.get FWD_TABLE_active k) = i →
    ∃ t, exec (.fwdRehash k) s = .next t ∧ t.get FWD_TABLE_state k = 1 ∧ t.get FWD_SEED_seed1 i = beAt (s.drbg 1).1 0 4 ∧
      t.get FWD_SEED_seed2 i = beAt (s.drbg 1).1 4 4) ∧
  (∀ (s : State) (k : Nat), k < 2 → s.rehashing k = true →
    ∃ t, exec (.fwdRehash k) s = .next t ∧ t.get FWD_CMD_result = 6 ∧ t.get FWD_TABLE_state k = s.get FWD_TABLE_state k)

/-- R341 to R343, R380: records of modules and namespaces are learned into the EID and port table, sent anew, and queued records go out. -/
def Obligations.LearnRecords : Prop :=
  (∀ (s b : State) (h : HktHdr) (g : Ingress) (mac hop : Nat) (q : Word32) (l : List ModRec) (r : ModRec),
    s.rxAdmit 11 ⟨{ h with opcode := 11 }, .learnMod hop q l, g⟩ = (b, true) →
    s.modRecs ⟨{ h with opcode := 11 }, .learnMod hop q l, g⟩ l = [r] → hop ≠ 0 → b.flag FWD_LEARN_CFG_learn_mod_en = true →
    r.moduleId ≠ b.moduleId → r.hops < 15 → r.withdraw = false → (b.ftab 0).slots = [] → (b.ftab 0).stash = [] →
    ∃ t, exec (.learnModuleRx h g mac hop q l) s = .next t ∧ (t.ftab 0).slots.map (·.2) =
      [eSet (mkModule r.moduleId (b.learnPort g.port).1 (b.learnPort g.port).2 (r.hops + 1) mac) 120 120 (b.insertBank 0)]) ∧
  (∀ (s : State), s.flag FWD_LEARN_CFG_learn_mod_en = true →
    ∃ t, exec .moduleRecordRefresh s = .next t ∧ t.fwd.originSeq = s.fwd.originSeq + 1) ∧
  (∀ (s : State), s.flag FWD_LEARN_CFG_learn_mod_en = false →
    ∃ t, exec .moduleRecordRefresh s = .next t ∧ t.fwd = s.fwd ∧ t.outbox = s.outbox) ∧
  (∀ (s b : State) (p : HktPkt) (hop : Nat) (q : Word32) (l : List LocRec) (r : LocRec), s.rxAdmit 11 p = (b, true) →
    s.locRecs p l = [r] → hop ≠ 0 → r.withdraw = false →
    (b.ftab 0).slots = [] → (b.ftab 0).stash = [] → b.get PAIR_LOC_CFG_ns_loc_max ≠ 0 →
    ∃ t, exec (.learnLocationRx p hop q l) s = .next t ∧ (t.ftab 0).slots.map (·.2) =
      [eSet (mkNs r.nsid r.ownerId r.ownerGen (b.fwdSeconds + r.ttl)) 120 120 (b.insertBank 0)]) ∧
  (∀ (s : State), ∃ t, exec .locationRefresh s = .next t ∧
    t.fwd.withdraws = s.fwd.withdraws.filterMap fun e => if e.2.2 ≤ 1 then none else some (e.1, (e.2.1, e.2.2 - 1))) ∧
  (∀ (s : State) (p : Nat) (o : LearnOut), s.fwd.outQueue.find? (fun x => x.port = p) = some o → s.learnReady p = true →
    ∃ t, exec (.locationQueueSend p) s = .next t ∧ t.fwd.outQueue = s.fwd.outQueue.erase o ∧ tget t.fwd.lastSent p = some s.dtc)

/-- R134, R386, R392 to R398, R400: the controller of the local function is enabled and disabled, the bus master is withdrawn and given back,
endpoints are reset, links go down and up. -/
def Obligations.HostPort : Prop :=
  (∀ (s : State) (q : Nat), s.flag HIF_CTRL_en = false → s.flag HIF_CTRL_STATUS_rdy = false → s.functionsOn = true →
    s.get HIF_AQA_asqs ≠ 0 → s.get HIF_AQA_acqs ≠ 0 →
    firstFree s.qpe.qps (s.qpe.qps.length + 1) 0 = some q →
    ∃ t x, exec .hifCtrlEnable s = .next t ∧ t.get HIF_CTRL_en = 1 ∧ t.get HIF_CTRL_STATUS_rdy = 1 ∧ t.qp q = some x ∧ x.owner = .fn ∧
      x.admin = true ∧ x.qid = 0 ∧ x.sqEntries = s.get HIF_AQA_asqs + 1 ∧ x.cqEntries = s.get HIF_AQA_acqs + 1 ∧ x.sqHead = 0 ∧ x.cqTail = 0 ∧
      ∀ k, k ≠ q → t.qp k = s.qp k) ∧
  (∀ (s : State), s.flag HIF_CTRL_en = false → s.flag HIF_CTRL_STATUS_rdy = true ∨ (s.functionsOn = true ∧ (s.get HIF_AQA_asqs = 0 ∨ s.get HIF_AQA_acqs = 0)) →
    ∃ t, exec .hifCtrlEnable s = .next t ∧ t.get HIF_CTRL_en = 1 ∧ t.get HIF_CTRL_STATUS_cfs = 1 ∧ t.qpe = s.qpe) ∧
  (∀ (s : State), s.flag HIF_CTRL_en = false → s.flag HIF_CTRL_STATUS_rdy = false → s.functionsOn = false →
    ∃ t, exec .hifCtrlEnable s = .next t ∧ t.get HIF_CTRL_en = 1 ∧ t.get HIF_CTRL_STATUS_rdy = 0 ∧ t.qpe = s.qpe) ∧
  (∀ (s : State), s.flag HIF_CTRL_en = true → s.qpsOf .fn = [] →
    ∃ t, exec .hifCtrlDisable s = .next t ∧ t.get HIF_CTRL_en = 0 ∧ t.get HIF_CTRL_STATUS_cfs = 0 ∧ t.hif.disabling = true ∧
      ∀ q ∈ t.qpe.cqs, q.owner ≠ .fn) ∧
  (∀ (s : State), s.hif.disabling = true → s.ownerQuiet .fn = true →
    ∃ t, exec .controllerResetDone s = .next t ∧ t.get HIF_CTRL_STATUS_rdy = 0 ∧ t.hif = { s.hif with disabling := false }) ∧
  (∀ (s : State), s.ownerQuiet .fn = false → ∃ t, exec .controllerResetDone s = .next t ∧ t.hif = s.hif ∧ t.regs = s.regs) ∧
  (∀ (s : State) (e : Nat), e < 2 → s.flag HIF_LINK_STATUS_bme e = true → s.flag HIF_LINK_STATUS_d3 e = false →
    ∃ t, exec (.bmeClear e) s = .next t ∧ t.get HIF_LINK_STATUS_bme e = 0 ∧ t.get HIF_LINK_STATUS_grace e = 1 ∧
      Reports s t EV_HIF_BME_CLEAR 0 e [] ∧ t.outbox = s.outbox ∧ t.hif.reads.length = s.hif.reads.length ∧
      (∀ r ∈ t.hif.queue, s.inGroup e r.owner = true → r.op.posted = true ∨ ∃ n b w a k, r.op = .read (.mark n b w) a k) ∧
      ∀ r ∈ t.hif.reads, s.inGroup e r.owner = true → r.use = .sqe 65536) ∧
  (∀ (s : State) (e : Nat), e < 2 → s.flag HIF_LINK_STATUS_up e = true → s.flag HIF_LINK_STATUS_d3 e = false →
    s.flag HIF_LINK_STATUS_bme e = true → s.hif.inReset.contains e = false →
    ∃ t, exec (.d3hotEntry e) s = .next t ∧ t.get HIF_LINK_STATUS_d3 e = 1 ∧ t.get HIF_LINK_STATUS_grace e = 1 ∧ t.outbox = s.outbox ∧
      Reports s t EV_HIF_BME_CLEAR 0 e []) ∧
  (∀ (s : State) (e : Nat), s.functionsOn = false → ∃ t, exec (.bmeSet e) s = .next t ∧ t.hif = s.hif ∧ t.regs = s.regs) ∧
  (∀ (s : State) (e : Nat), e < 2 → s.functionsOn = true → s.flag HIF_LINK_STATUS_up e = true → s.flag HIF_LINK_STATUS_bme e = false →
    s.flag HIF_LINK_STATUS_d3 e = false → s.hif.inReset.contains e = false → s.qpe.cmds = [] → s.qpe.qps = [] → s.hif.queue = [] →
    ∃ t, exec (.bmeSet e) s = .next t ∧ t.get HIF_LINK_STATUS_bme e = 1 ∧ t.get HIF_LINK_STATUS_grace e = 0 ∧
      tget t.hif.cutCmds e = none ∧ t.outbox = s.outbox) ∧
  (∀ (s : State) (a : Nat) (d : List Byte), s.functionsOn = true → s.flag HIF_LINK_STATUS_up 0 = true → s.flag HIF_LINK_STATUS_bme 0 = false →
    s.flag HIF_LINK_STATUS_d3 0 = false → s.hif.inReset.contains 0 = false → s.qpe.cmds = [] → s.qpe.qps = [] → s.hif.ats = [] →
    s.hif.queue = [{ owner := .fn, op := .write a d none }] →
    ∃ t, exec (.bmeSet 0) s = .next t ∧ t.get HIF_LINK_STATUS_bme 0 = 1 ∧ t.hif.queue = [] ∧ t.outbox = s.outbox ++ [.dmaWrite .fn a d]) ∧
  (∀ (s : State) (e c : Nat) (x : Cmd) (q : Qp), e < 2 → tget s.hif.cutCmds e = some [c] → Running s c x q → q.admin = false → x.sqe.opcode = 2 →
    x.phase = .started → x.begun = true → x.listing = false → s.cmdData x ≠ 0 → tget s.jnl.writes c = none →
    ∃ t, exec (.bmeGraceExpiry e) s = .next t ∧ Completes t c St.dmaAborted 0 (BitVec.ofNat 32 (x.moved - s.heldBytes c)) ∧
      t.get HIF_LINK_STATUS_grace e = 0 ∧ tget t.hif.cutCmds e = none) ∧
  (∀ (s : State) (kind : Nat), kind ≠ 1 → s.flag HIF_LINK_STATUS_present 0 = true → s.hif.inReset.contains 0 = false →
    ∃ t, exec (.functionReset 0 kind) s = .next t ∧ t.hif.inReset = s.hif.inReset ++ [0] ∧ t.get HIF_CTRL_en = 0 ∧ t.hif.windows = [] ∧
      t.qpsOf .fn = [] ∧ (∀ r ∈ t.hif.queue, r.owner ≠ .fn) ∧ (∀ r ∈ t.hif.reads, r.owner = .fn → r.use = .sqe 65536)) ∧
  (∀ (s : State) (e : Nat), s.hif.inReset.contains e = true → s.hif.reads = [] → tget s.hif.link e = none →
    ∃ t, exec (.functionResetDone e) s = .next t ∧ t.regs = s.regs ∧
      t.hif = { s.hif with inReset := s.hif.inReset.filter (· != e), link := tdel s.hif.link e }) ∧
  (∀ (s : State) (e v w f : Nat), s.hif.inReset.contains e = true → s.hif.reads = [] → tget s.hif.link e = some (v, w, f) → e < 2 →
    ∃ t, exec (.functionResetDone e) s = .next t ∧ t.get HIF_LINK_STATUS_up e = 1 ∧
      t.get HIF_LINK_STATUS_speed e = v % 2 ^ HIF_LINK_STATUS_speed.w ∧ t.get HIF_LINK_STATUS_width e = w % 2 ^ HIF_LINK_STATUS_width.w ∧
      t.hif = { s.hif with inReset := s.hif.inReset.filter (· != e), link := tdel s.hif.link e }) ∧
  (∀ (s : State) (e : Nat) (r : HostRead), r ∈ s.hif.reads → s.epOf r.owner = e →
    ∃ t, exec (.functionResetDone e) s = .next t ∧ t.hif = s.hif) ∧
  (∀ (s : State) (l : Nat), s.flag HIF_LINK_STATUS_present l = true → s.linkTrained l = true →
    ∃ t, exec (.hifLinkDown l) s = .next t ∧ t.get HIF_LINK_STATUS_up l = 0 ∧ t.get HIF_LINK_STATUS_speed l = 0 ∧
      t.get HIF_LINK_STATUS_width l = 0 ∧ tget t.hif.link l = none ∧ l ∈ t.hif.inReset ∧ (s.hif.inReset.contains l = true → Reports s t EV_HIF_LINK_DOWN 0 l [])) ∧
  (∀ (s : State) (e : Nat) (c : EpConfig), s.flag HIF_LINK_STATUS_present e = true → s.hif.inReset.contains e = false →
    ∃ t, exec (.hifLinkUp e c) s = .next t ∧ t.get HIF_LINK_STATUS_up e = 1 ∧
      t.get HIF_LINK_STATUS_speed e = min c.speed (clampNat 4 6 s.hif.idt.maxSpeed) ∧
      t.get HIF_LINK_STATUS_width e = min c.width (if s.hif.idt.portMode = 1 then 8 else 16) ∧
      (e ∈ t.hif.ats ↔ c.ats = true ∧ s.hif.idt.atsEn = true))

/-- R393 to R395, R401, R402: an access through the peer window reaches the bytes of module memory that the window and the region give it and
no other, commits copy the windows, translations enter and leave the cache, an unmasked vector sends its message. -/
def Obligations.PeerWindowAndTranslations : Prop :=
  (∀ (s : State) (off len i page a : Nat) (d : List Byte), s.Inv → s.hif.idt.bar4Log2 ≠ 0 → off + len ≤ 2 ^ s.hif.idt.bar4Log2 →
    s.flag HIF_LINK_STATUS_up 0 = true → s.peerTarget true off len = .inl (i, page, a) → d.length = len →
    ∃ t, exec (.peerWindowAccess true off len d) s = .next t ∧ memReadBytes t.mem (4096 * page + a) len = d ∧ t.outbox = s.outbox ∧
      ∀ b, b < 4096 * page + a ∨ 4096 * page + a + len ≤ b → memRead t.mem b = memRead s.mem b) ∧
  (∀ (s : State) (off len i page a : Nat) (d : List Byte), s.hif.idt.bar4Log2 ≠ 0 → off + len ≤ 2 ^ s.hif.idt.bar4Log2 →
    s.flag HIF_LINK_STATUS_up 0 = true → s.peerTarget false off len = .inl (i, page, a) →
    ∃ t, exec (.peerWindowAccess false off len d) s = .next t ∧ t.mem = s.mem ∧
      t.outbox = s.outbox ++ [.tlpData (if i ≤ 2 then s.windowBytes i a len else memReadBytes s.mem (4096 * page + a) len)]) ∧
  (∀ (s : State) (write : Bool) (off len k : Nat) (d : List Byte), s.hif.idt.bar4Log2 ≠ 0 → off + len ≤ 2 ^ s.hif.idt.bar4Log2 →
    s.flag HIF_LINK_STATUS_up 0 = true → s.peerTarget write off len = .inr k →
    ∃ t, exec (.peerWindowAccess write off len d) s = .next t ∧ t.mem = s.mem ∧
      t.outbox = if write then s.outbox else s.outbox ++ [.tlpUnsupported]) ∧
  (∀ (s : State), ∃ t, exec .peerCommit s = .next t ∧ t.get HIF_PEER_COMMIT_pending = 0 ∧
    t.get HIF_PEER_COMMIT_gen = (s.get HIF_PEER_COMMIT_gen + 1) % 2 ^ HIF_PEER_COMMIT_gen.w ∧
    (∀ w < 64, s.flag HIF_PEER_WIN_en w = true → s.get HIF_PEER_WIN_size_mib w ≠ 0 →
      ∃ x, tget t.hif.windows w = some x ∧ x.base = 1048576 * s.get HIF_PEER_WIN_base_mib w ∧ x.len = 1048576 * s.get HIF_PEER_WIN_size_mib w ∧
        x.rd = s.flag HIF_PEER_WIN_rd w ∧ x.wr = s.flag HIF_PEER_WIN_wr w ∧ x.key = s.get HIF_PEER_TGT_region_key w ∧
        x.page = s.get HIF_PEER_TGT_region_page w) ∧
    ∀ w, s.flag HIF_PEER_WIN_en w = false → tget t.hif.windows w = none) ∧
  (∀ (s : State) (e tag page pages : Nat) (pasid : Option Nat), s.hif.ats.contains e = true → s.hif.invals.length < 32 →
    ∃ t, exec (.atsInvalidate e tag pasid page pages) s = .next t ∧ s.hif.invals.length < t.hif.invals.length ∧
      (∀ x ∈ t.hif.cache, x.pasid = atsKeyOf e pasid → ∀ p, ¬(page ≤ p ∧ p < page + pages ∧ x.page ≤ p ∧ p < x.page + x.pages)) ∧
      ∀ x ∈ s.hif.cache, x.pasid ≠ atsKeyOf e pasid → x ∈ t.hif.cache) ∧
  (∀ (s : State) (e tag : Nat) (x : Inval), s.hif.invals.find? (fun y => y.ep = e && y.tag = tag) = some x → s.hif.reads = [] →
    ∃ t, exec (.atsInvalidateDone e tag) s = .next t ∧ t.hif.invals = s.hif.invals.erase x ∧ t.outbox = s.outbox ++ [.atsDone e tag]) ∧
  (∀ (s : State) (e tag : Nat) (x : Inval) (r : HostRead) (p : Nat), s.hif.invals.find? (fun y => y.ep = e && y.tag = tag) = some x →
    r ∈ s.hif.reads → r.under = some (x.pasid, p) → x.page ≤ p → p < x.page + x.pages →
    ∃ t, exec (.atsInvalidateDone e tag) s = .next t ∧ t.hif = s.hif ∧ t.outbox = s.outbox) ∧
  (∀ (s : State) (e page pages base : Nat) (pasid : Option Nat), s.hif.asked.contains (atsKeyOf e pasid, page) = true → s.hif.queue = [] →
    s.hif.cache.length < 8192 → 1 ≤ pages → pages ≤ 262144 →
    ∃ t, exec (.atsTranslationCompletion e pasid page (some (pages, base))) s = .next t ∧
      t.hif.cache = s.hif.cache ++ [⟨atsKeyOf e pasid, page - page % pages, pages, base⟩] ∧
      (atsKeyOf e pasid, page) ∉ t.hif.asked) ∧
  (∀ (s : State) (e v : Nat), s.hif.pendVec.contains (e, v) = true → s.intMode e = 2 → s.hif.queue = [] →
    s.busOk (s.vectorOwner e v) = true →
    ∃ t, exec (.msixUnmask e v) s = .next t ∧ t.outbox = s.outbox ++ [.msg e v] ∧ (e, v) ∉ t.hif.pendVec ∧ (e, v) ∈ t.hif.unmasked) ∧
  (∀ (s : State) (e v : Nat), s.hif.pendVec.contains (e, v) = false →
    ∃ t, exec (.msixUnmask e v) s = .next t ∧ t.outbox = s.outbox ∧ (e, v) ∈ t.hif.unmasked)

/-- R404, R406, R407, R412 to R418: slices are created, changed, reset and freed, paused and resumed. -/
def Obligations.SliceLife : Prop :=
  (∀ (s : State) (n : Nat) (p : Bool), s.flag SLC_CMD_busy = false → s.slc.e1 ≠ some n → s.get SLC_STATUS_state n = 0 →
    s.slcBad n s.slcImage = false →
    ∃ t, exec (.slcCreate n p) s = .next t ∧ t.get SLC_STATUS_state n = 1 ∧ t.get SLC_STATUS_paused n = bit p ∧ t.get SLC_CMD_result = 0 ∧
      t.get SLC_CFG_max_qp n = s.slcImage.maxQp ∧ t.get SLC_CFG_pasid n = s.slcImage.pasid ∧ t.get SLC_CFG_vec_base n = s.slcImage.base ∧
      t.get SLC_CFG_vec_count n = s.slcImage.count ∧ t.get SLC_CFG_pasid_vld n = bit s.slcImage.vld) ∧
  (∀ (s : State) (n : Nat) (p : Bool), s.flag SLC_CMD_busy = false → s.slc.e1 ≠ some n → s.get SLC_STATUS_state n = 0 →
    s.slcImage.maxQp = 0 ∨ s.hif.idt.msixE0 < s.slcImage.base + s.slcImage.count ∨ (s.slcImage.vld = true ∧ s.hif.idt.pasidEn = false) →
    ∃ t, exec (.slcCreate n p) s = .next t ∧ t.get SLC_CMD_result = 2 ∧ t.slc = s.slc ∧ t.get SLC_STATUS_state n = 0 ∧
      t.get SLC_CFG_max_qp n = s.get SLC_CFG_max_qp n) ∧
  (∀ (s : State) (n : Nat) (p : Bool), s.flag SLC_CMD_busy = false → s.slc.e1 = some n ∨ s.get SLC_STATUS_state n ≠ 0 →
    ∃ t, exec (.slcCreate n p) s = .next t ∧ t.get SLC_CMD_result = 1 ∧ t.slc = s.slc) ∧
  (∀ (s : State) (n : Nat), s.flag SLC_CMD_busy = false → s.get SLC_STATUS_state n = 1 → s.slc.e1 ≠ some n → s.slcBad n s.slcImage = false →
    s.slcImage.vld = s.flag SLC_CFG_pasid_vld n → s.slcImage.pasid = s.get SLC_CFG_pasid n → s.sliceIvs n ≤ s.slcImage.count →
    s.hif.pendVec = [] →
    ∃ t, exec (.slcResize n) s = .next t ∧ t.get SLC_CMD_result = 0 ∧ t.get SLC_CFG_max_qp n = s.slcImage.maxQp ∧
      t.get SLC_CFG_vec_base n = s.slcImage.base ∧ t.get SLC_CFG_vec_count n = s.slcImage.count ∧ t.get SLC_STATUS_state n = 1) ∧
  (∀ (s : State) (n : Nat), s.flag SLC_CMD_busy = false → s.get SLC_STATUS_state n = 1 → s.slc.e1 ≠ some n → s.slcBad n s.slcImage = false →
    s.slcImage.vld = s.flag SLC_CFG_pasid_vld n → s.slcImage.pasid = s.get SLC_CFG_pasid n → s.slcImage.count < s.sliceIvs n →
    ∃ t, exec (.slcResize n) s = .next t ∧ t.get SLC_CMD_result = 3 ∧ t.get SLC_CFG_vec_count n = s.get SLC_CFG_vec_count n ∧
      t.get SLC_CFG_max_qp n = s.get SLC_CFG_max_qp n) ∧
  (∀ (s : State) (n : Nat), s.flag SLC_CMD_busy = false → s.slc.e1 ≠ some n → s.get SLC_STATUS_state n = 1 →
    ∃ t, exec (.slcDestroy n) s = .next t ∧ t.get SLC_STATUS_state n = 2 ∧ t.get SLC_CMD_busy = 1 ∧ t.qpsOf (.slice n) = [] ∧
      tget t.slc.resets n = some ⟨false, true, s.dtc, true⟩) ∧
  (∀ (s : State) (n : Nat), s.flag SLC_CMD_busy = false → s.get SLC_STATUS_state n = 1 →
    ∃ t, exec (.slcResetDrain n) s = .next t ∧ t.get SLC_STATUS_state n = 2 ∧ t.get SLC_CMD_busy = 1 ∧
      tget t.slc.resets n = some ⟨true, false, s.dtc, true⟩) ∧
  (∀ (s : State) (n : Nat), s.flag SLC_CMD_busy = false → s.get SLC_STATUS_state n = 1 → tget s.slc.resets n = none →
    ∃ t, exec (.slcResetSquash n) s = .next t ∧ t.get SLC_STATUS_state n = 2 ∧ t.get SLC_CMD_busy = 1 ∧ t.qpsOf (.slice n) = [] ∧
      tget t.slc.resets n = some ⟨false, false, s.dtc, true⟩) ∧
  (∀ (s : State) (n : Nat) (r : SliceReset), tget s.slc.resets n = some r → r.drain = true →
    ∃ t, exec (.slcDrainTimeout n) s = .next t ∧ t.get SLC_STATUS_state n = 2 ∧ t.qpsOf (.slice n) = [] ∧
      tget t.slc.resets n = some ⟨false, r.toFree, s.dtc, r.cmd⟩) ∧
  (∀ (s : State) (n : Nat) (r : SliceReset), tget s.slc.resets n = some r → s.ownerQuiet (.slice n) = true →
    ∃ t, exec (.slcResetDone n) s = .next t ∧ t.get SLC_STATUS_state n = (if r.toFree then 0 else 1) ∧ t.get SLC_CTRL_STATUS_rdy n = 0 ∧
      (r.cmd = true → t.get SLC_CMD_busy = 0 ∧ t.get SLC_CMD_result = 0) ∧ tget t.slc.resets n = none ∧
      Reports s t EV_SLC_RESET_DONE 9 n []) ∧
  (∀ (s : State) (n : Nat), s.ownerQuiet (.slice n) = false → ∃ t, exec (.slcResetDone n) s = .next t ∧ t.slc = s.slc ∧ t.evt = s.evt) ∧
  (∀ (s : State) (n : Nat), s.flag SLC_CMD_busy = false → s.get SLC_STATUS_state n = 1 →
    ∃ t, exec (.slcPause n) s = .next t ∧ t.get SLC_CMD_busy = 1 ∧ t.slc.pausing = some (n, s.dtc) ∧ n ∈ t.slc.stopped) ∧
  (∀ (s : State) (n : Nat) (b : Word64), s.slc.pausing = some (n, b) → s.sliceInflight n = 0 →
    ∃ t, exec .slcPauseQuiesced s = .next t ∧ t.get SLC_STATUS_paused n = 1 ∧ t.get SLC_CMD_busy = 0 ∧ t.get SLC_CMD_result = 0 ∧
      t.slc.pausing = none ∧ t.slc.stopped = s.slc.stopped) ∧
  (∀ (s : State) (n : Nat) (b : Word64), s.slc.pausing = some (n, b) → s.sliceInflight n ≠ 0 →
    ∃ t, exec .slcPauseTimeout s = .next t ∧ t.get SLC_CMD_busy = 0 ∧ t.get SLC_CMD_result = 5 ∧ t.slc.pausing = none ∧
      t.slc.stopped = s.slc.stopped ∧ Reports s t EV_SLC_PAUSE_TIMEOUT 9 n []) ∧
  (∀ (s : State) (n : Nat), s.flag SLC_CMD_busy = false → s.get SLC_STATUS_state n = 1 → s.qpsOf (.slice n) = [] →
    ∃ t, exec (.slcResume n) s = .next t ∧ t.get SLC_STATUS_paused n = 0 ∧ t.get SLC_CMD_result = 0 ∧ n ∉ t.slc.stopped)

/-- R392, R409, R417, R419 to R423: a slice's controller, its saved and restored queues, PASID Enable and dirty-page logging. -/
def Obligations.SliceQueuesAndLogs : Prop :=
  (∀ (s : State) (n q : Nat), s.get SLC_STATUS_state n = 1 → s.functionsOn = true → s.flag SLC_CTRL_en n = false →
    s.flag SLC_CTRL_STATUS_rdy n = false →
    s.get SLC_AQA_asqs n ≠ 0 → s.get SLC_AQA_acqs n ≠ 0 → firstFree s.qpe.qps (s.qpe.qps.length + 1) 0 = some q →
    ∃ t x, exec (.slcCtrlEnable n) s = .next t ∧ t.get SLC_CTRL_en n = 1 ∧ t.get SLC_CTRL_STATUS_rdy n = 1 ∧ t.qp q = some x ∧
      x.owner = .slice n ∧ x.admin = true ∧ x.sqEntries = s.get SLC_AQA_asqs n + 1 ∧ x.cqEntries = s.get SLC_AQA_acqs n + 1) ∧
  (∀ (s : State) (n : Nat), s.get SLC_STATUS_state n = 2 → s.flag SLC_CTRL_en n = false → s.flag SLC_CTRL_STATUS_rdy n = false →
    ∃ t, exec (.slcCtrlEnable n) s = .next t ∧ t.get SLC_CTRL_en n = 1 ∧ t.qpe = s.qpe) ∧
  (∀ (s : State) (n : Nat), s.get SLC_STATUS_state n = 0 → ∃ t, exec (.slcCtrlEnable n) s = .next t ∧ t.regs = s.regs ∧ t.qpe = s.qpe) ∧
  (∀ (s : State) (n : Nat), s.get SLC_STATUS_state n = 1 → s.flag SLC_CTRL_en n = true →
    ∃ t, exec (.slcCtrlDisable n) s = .next t ∧ t.get SLC_CTRL_en n = 0 ∧ t.get SLC_CTRL_STATUS_cfs n = 0 ∧ t.get SLC_STATUS_state n = 2 ∧
      tget t.slc.resets n = some ⟨true, false, s.dtc, false⟩) ∧
  (∀ (s : State) (n q : Nat) (x : Qp), s.flag SLC_CMD_busy = false → s.get SLC_STATUS_state n = 1 → s.flag SLC_STATUS_paused n = true →
    s.qpnOf (.slice n) (s.get SLC_CMD_DATA_data 0 % 512) = some q → s.qp q = some x → x.sqEntries ≤ 4096 → x.cqEntries ≤ 4096 →
    x.sqHead < 4096 → x.cqTail < 4096 → x.cqHead < 4096 → x.cqSeq < 65536 → x.cmplCount < 2 ^ 32 →
    ∃ t, exec (.slcSaveQp n) s = .next t ∧ t.get SLC_CMD_result = 0 ∧ t.qpe = s.qpe ∧
      t.get SLC_CMD_DATA_data 0 = x.sqBase.toNat / 4096 * 4096 + s.get SLC_CMD_DATA_data 0 % 512 ∧
      t.get SLC_CMD_DATA_data 1 = x.cqBase.toNat / 4096 * 4096 + 512 * bit x.ien + x.vector % 512 ∧
      t.get SLC_CMD_DATA_data 2 = 2 ^ 52 * (x.sqEntries - 1) + 2 ^ 40 * (x.cqEntries - 1) + 2 ^ 28 * x.sqHead + 65536 * x.cqTail + x.cqSeq ∧
      t.get SLC_CMD_DATA_data 3 = 2 ^ 63 * bit x.cqPhase + 2 ^ 32 * x.cqHead + x.cmplCount) ∧
  (∀ (s : State) (n q : Nat), s.flag SLC_CMD_busy = false → s.get SLC_STATUS_state n = 1 → s.flag SLC_STATUS_paused n = true →
    s.flag SLC_CTRL_en n = false → s.get SLC_CMD_DATA_data 0 % 512 = 0 → s.qpnOf (.slice n) 0 = none →
    2 ≤ s.get SLC_CMD_DATA_data 2 / 2 ^ 52 + 1 → 2 ≤ s.get SLC_CMD_DATA_data 2 / 2 ^ 40 % 4096 + 1 →
    s.get SLC_CMD_DATA_data 2 / 2 ^ 28 % 4096 ≤ s.get SLC_CMD_DATA_data 2 / 2 ^ 52 →
    s.get SLC_CMD_DATA_data 2 / 2 ^ 16 % 4096 ≤ s.get SLC_CMD_DATA_data 2 / 2 ^ 40 % 4096 →
    s.get SLC_CMD_DATA_data 3 / 2 ^ 32 % 4096 ≤ s.get SLC_CMD_DATA_data 2 / 2 ^ 40 % 4096 →
    s.vectorOk (.slice n) (s.get SLC_CMD_DATA_data 1 % 512) (s.get SLC_CMD_DATA_data 1 / 512 % 2 = 1) = true →
    firstFree s.qpe.qps (s.qpe.qps.length + 1) 0 = some q →
    ∃ t x, exec (.slcRestoreQp n) s = .next t ∧ t.get SLC_CMD_result = 0 ∧ t.get SLC_CTRL_en n = 1 ∧ t.get SLC_CTRL_STATUS_rdy n = 1 ∧
      t.qp q = some x ∧ x.owner = .slice n ∧ x.admin = true ∧ x.sqTail = x.sqHead ∧ x.sqHead = s.get SLC_CMD_DATA_data 2 / 2 ^ 28 % 4096 ∧
      x.cqTail = s.get SLC_CMD_DATA_data 2 / 2 ^ 16 % 4096 ∧ x.cqSeq = s.get SLC_CMD_DATA_data 2 % 65536 ∧
      x.cmplCount = s.get SLC_CMD_DATA_data 3 % 2 ^ 32 ∧ (x.cqPhase = true ↔ s.get SLC_CMD_DATA_data 3 / 2 ^ 63 = 1)) ∧
  (∀ (s : State) (n q k : Nat), s.flag SLC_CMD_busy = false → s.get SLC_STATUS_state n = 1 → s.flag SLC_STATUS_paused n = true →
    k = s.get SLC_CMD_DATA_data 0 % 512 → k ≠ 0 → s.qpnOf (.slice n) k = some q →
    ∃ t, exec (.slcRestoreQp n) s = .next t ∧ t.get SLC_CMD_result = 2 ∧ t.qpe = s.qpe) ∧
  (∀ (s : State) (n : Nat), s.flag SLC_CMD_busy = false → s.get SLC_STATUS_state n = 1 → tget s.slc.logs n = none → s.slc.logs.length < 64 →
    s.get SLC_CMD_DATA_data 0 % 4096 = 0 → s.get SLC_CMD_DATA_data 1 % 4096 = 0 → s.get SLC_CMD_DATA_data 2 % 4096 = 0 →
    1 ≤ s.get SLC_CMD_DATA_data 3 → s.get SLC_CMD_DATA_data 3 < 2 ^ 30 →
    ∃ t, exec (.slcLogStart n) s = .next t ∧ t.get SLC_CMD_result = 0 ∧ t.get SLC_LOG_STATUS_on n = 1 ∧ t.get SLC_LOG_STATUS_active n = 0 ∧
      tget t.slc.logs n = some { bufA := s.get SLC_CMD_DATA_data 0, bufB := s.get SLC_CMD_DATA_data 1, lo := s.get SLC_CMD_DATA_data 2,
                                 pages := s.get SLC_CMD_DATA_data 3 }) ∧
  (∀ (s : State) (n : Nat), s.flag SLC_CMD_busy = false → s.get SLC_STATUS_state n = 1 → tget s.slc.logs n = none → 64 ≤ s.slc.logs.length →
    ∃ t, exec (.slcLogStart n) s = .next t ∧ t.get SLC_CMD_result = 4 ∧ t.slc = s.slc) ∧
  (∀ (s : State) (n : Nat) (l : SliceLog), s.flag SLC_CMD_busy = false → s.get SLC_STATUS_state n ≠ 2 → tget s.slc.logs n = some l → l.marks = [] → s.slc.folding = [] →
    s.hif.queue = [] →
    ∃ t, exec (.slcLogSync n) s = .next t ∧ t.get SLC_CMD_busy = 0 ∧ t.get SLC_CMD_result = 0 ∧
      t.get SLC_LOG_STATUS_active n = 1 - s.get SLC_LOG_STATUS_active n ∧
      t.get SLC_LOG_STATUS_syncs n = (s.get SLC_LOG_STATUS_syncs n + 1) % 2 ^ SLC_LOG_STATUS_syncs.w ∧
      tget t.slc.logs n = some { l with raised := false }) ∧
  (∀ (s : State) (n : Nat) (l : SliceLog), s.flag SLC_CMD_busy = false → s.get SLC_STATUS_state n ≠ 2 → tget s.slc.logs n = some l → l.marks = [] → s.slc.folding = [] →
    s.hif.queue = [] →
    ∃ t, exec (.slcLogStop n) s = .next t ∧ t.get SLC_CMD_busy = 0 ∧ t.get SLC_CMD_result = 0 ∧ t.get SLC_LOG_STATUS_on n = 0 ∧
      tget t.slc.logs n = none) ∧
  (∀ (s : State) (n w v : Nat) (l : SliceLog), s.flag SLC_CMD_busy = false → s.get SLC_STATUS_state n ≠ 2 → tget s.slc.logs n = some l →
    l.marks = [((s.get SLC_LOG_STATUS_active n, w), v)] → s.slc.folding = [] → s.hif.queue = [] → s.busOk .fn = false →
    ∃ t, exec (.slcLogSync n) s = .next t ∧ t.get SLC_CMD_busy = 1 ∧
      t.get SLC_LOG_STATUS_active n = 1 - s.get SLC_LOG_STATUS_active n ∧
      t.slc.folding = [((n, s.get SLC_LOG_STATUS_active n, w), v)] ∧
      t.hif.queue = [⟨.fn, .read (.mark n (s.get SLC_LOG_STATUS_active n) w)
        ((if s.get SLC_LOG_STATUS_active n = 0 then l.bufA else l.bufB) + 8 * w) 8, false⟩]) ∧
  (∀ (s : State), s.hif.pasid.contains 0 = true → s.slicesUsed = [] →
    ∃ t, exec (.pasidEnableClear false) s = .next t ∧ 0 ∉ t.hif.pasid) ∧
  (∀ (s : State) (n : Nat), s.hif.pasid.contains 0 = true → s.slicesUsed = [n] → s.slc.e1 ≠ some n → s.flag SLC_CFG_pasid_vld n = true →
    ∃ t, exec (.pasidEnableClear false) s = .next t ∧ 0 ∉ t.hif.pasid ∧ Reports s t EV_HIF_BME_CLEAR 9 n [] ∧
      ∀ r ∈ t.hif.reads, r.owner = .slice n → r.use = .sqe 65536) ∧
  (∀ (s : State), s.hif.pasid.contains 0 = false → s.hif.idt.pasidEn = true → s.slicesUsed = [] →
    ∃ t, exec (.pasidEnableClear true) s = .next t ∧ 0 ∈ t.hif.pasid)

/-- R499, R490, R488: what each SPDM request is answered with on an endpoint whose link is up; requests out of order are refused. -/
def Obligations.Attestation : Prop :=
  (∀ (s : State) (e : Nat) (req : List Byte), s.spdmUp e = true → spdmCode req = 0x84 →
    ∃ t resp, exec (.spdmGetVersion e req) s = .next t ∧ resp = spdmHead 0x10 0x04 0 0 ++ [0, 1] ++ leBytes 2 0x1200 ∧
      t.outbox = s.outbox ++ [.spdm e resp] ∧ t.spdmOf e = ⟨1, req ++ resp⟩) ∧
  (∀ (s : State) (e : Nat) (req : List Byte), s.spdmUp e = true → spdmCode req = 0xE1 → 1 ≤ (s.spdmOf e).stage →
    ∃ t resp, exec (.spdmGetCapabilities e req) s = .next t ∧ resp.take 5 = spdmHead 0x12 0x61 0 0 ++ [0] ∧
      slice resp 8 4 = leBytes 4 0x16 ∧ t.outbox = s.outbox ++ [.spdm e resp] ∧ t.spdmOf e = ⟨2, (s.spdmOf e).log ++ req ++ resp⟩) ∧
  (∀ (s : State) (e : Nat) (req : List Byte), s.spdmUp e = true → spdmCode req = 0xE3 → 2 ≤ (s.spdmOf e).stage →
    leAt req 6 1 % 2 = 1 → leAt req 8 4 / 0x80 % 2 = 1 → leAt req 12 4 / 2 % 2 = 1 →
    ∃ t resp, exec (.spdmNegotiateAlgorithms e req) s = .next t ∧ t.outbox = s.outbox ++ [.spdm e resp] ∧ resp.length = 36 ∧
      leAt resp 12 4 = 0x80 ∧ leAt resp 16 4 = 2 ∧ t.spdmOf e = ⟨3, (s.spdmOf e).log ++ req ++ resp⟩) ∧
  (∀ (s : State) (e : Nat) (req : List Byte), s.spdmUp e = true → spdmCode req = 0x81 → 3 ≤ (s.spdmOf e).stage →
    ∃ t resp, exec (.spdmGetDigests e req) s = .next t ∧ t.outbox = s.outbox ++ [.spdm e resp] ∧
      resp = spdmHead 0x12 0x01 0 1 ++ digestBytes (sha384 s.certBlob) ∧ t.spdmOf e = ⟨3, (s.spdmOf e).log ++ req ++ resp⟩) ∧
  (∀ (s : State) (e : Nat) (req : List Byte), s.spdmUp e = true → spdmCode req = 0x81 → (s.spdmOf e).stage < 3 →
    ∃ t, exec (.spdmGetDigests e req) s = .next t ∧ t.outbox = s.outbox ++ [.spdm e (spdmError 4 req)] ∧ t.rime = s.rime) ∧
  (∀ (s : State) (e : Nat) (req : List Byte), s.spdmUp e = true → spdmCode req = 0x82 → 3 ≤ (s.spdmOf e).stage → leAt req 2 1 % 16 = 0 →
    leAt req 4 2 < s.certBlob.length →
    ∃ t resp part, exec (.spdmGetCertificate e req) s = .next t ∧ part = slice s.certBlob (leAt req 4 2) (leAt req 6 2) ∧
      t.outbox = s.outbox ++ [.spdm e resp] ∧ t.spdmOf e = ⟨3, (s.spdmOf e).log ++ req ++ resp⟩ ∧
      resp = spdmHead 0x12 0x02 0 0 ++ leBytes 2 part.length ++ leBytes 2 (s.certBlob.length - leAt req 4 2 - part.length) ++ part) ∧
  (∀ (s : State) (e : Nat) (req : List Byte), s.spdmUp e = true → spdmCode req = 0x83 → 3 ≤ (s.spdmOf e).stage → leAt req 2 1 % 16 = 0 →
    leAt req 3 1 = 0 →
    ∃ t nonce body, exec (.spdmChallenge e req) s = .next t ∧ nonce.length = 32 ∧
      body = spdmHead 0x12 0x03 0 1 ++ digestBytes (sha384 s.certBlob) ++ nonce ++ leBytes 2 0 ∧
      t.outbox = s.outbox ++ [.spdm e (body ++ spdmSign (spdmContext challengeText) ((s.spdmOf e).log ++ req ++ body))] ∧
      t.freeCtr = s.freeCtr + 1) ∧
  (∀ (s : State) (e : Nat) (req : List Byte), s.spdmUp e = true → spdmCode req = 0xE0 → 3 ≤ (s.spdmOf e).stage → leAt req 2 1 % 2 = 1 →
    1 ≤ leAt req 3 1 → leAt req 3 1 ≤ 8 →
    ∃ t nonce body, exec (.spdmGetMeasurements e req) s = .next t ∧ nonce.length = 32 ∧
      body = spdmHead 0x12 0x60 0 0 ++ [1] ++ leBytes 3 (s.measBlock (leAt req 3 1)).length ++ s.measBlock (leAt req 3 1) ++ nonce ++
        leBytes 2 0 ∧
      t.outbox = s.outbox ++ [.spdm e (body ++ spdmSign (spdmContext measurementsText) ((s.spdmOf e).log ++ req ++ body))]) ∧
  (∀ (s : State) (e : Nat) (req : List Byte), s.spdmUp e = true → [0x81, 0x82, 0x83, 0x84, 0xE0, 0xE1, 0xE3].contains (spdmCode req) = false →
    ∃ t, exec (.spdmUnsupported e req) s = .next t ∧ t.outbox = s.outbox ++ [.spdm e (spdmError 7 req)] ∧ t.rime = s.rime)

/-- R428, R430, R435, R447, R448, R549: seating, the service button, temperatures, sensors and optical modules. -/
def Obligations.SeatingAndSensors : Prop :=
  (∀ (s : State) (straps : Nat) (b : BootIn), s.pwr.seated = false → s.boot.held = false →
    ∃ t, exec (.moduleSeated straps b) s = .next t ∧ t.pwr = { s.pwr with seated := true, partSeat := false, straps := straps % 16 } ∧
      t.regs = s.regs ∧ t.jnl = s.jnl) ∧
  (∀ (s : State) (straps : Nat) (b : BootIn), s.pwr.seated = false → s.boot.held = true → s.boot.banks = [] →
    ∃ t, exec (.moduleSeated straps b) s = .next t ∧ t.get CLK_RESET_CAUSE_kind = 1 ∧ t.get CLK_RESET_CAUSE_cause = 8 ∧
      t.boot.held = true ∧ t.get BOOT_STATUS_stage = 0xA ∧ t.mem = []) ∧
  (∀ (s : State), s.pwr.seated = true → s.dumping = false → s.boot.act = none →
    ∃ t, exec .moduleUnseated s = .next t ∧ t.pwr.seated = false ∧ t.jnl.phase = .flushing 3 s.dtc ∧ t.boot.after = 0 ∧
      t.get PWR_SEQ_STATUS_seq = 2) ∧
  (∀ (s : State), s.pwr.seated = true → s.pwr.partSeat = false →
    ∃ t, exec .seatPartial s = .next t ∧ t.pwr = { s.pwr with partSeat := true } ∧ Reports s t EV_GLB_SEAT_PARTIAL 0 0 [] ∧ t.jnl = s.jnl) ∧
  (∀ (s : State) (ms : Nat) (b : BootIn), s.dumpRuns = false → ms < 2000 →
    ∃ t, exec (.buttonRelease ms b) s = .next t ∧ t.get GLB_CTRL_locate = (1 - s.get GLB_CTRL_locate) ∧ t.jnl = s.jnl ∧ t.boot = s.boot) ∧
  (∀ (s : State) (ms : Nat) (b : BootIn), s.dumping = false → s.stopping = false →
    (∀ g < 16, s.flag STR_GROUP_STATUS_blocked g = false) → 3000 ≤ ms → ms < 6000 →
    ∃ t, exec (.buttonRelease ms b) s = .next t ∧ t.jnl.phase = .stopping false s.dtc ∧ t.boot.after = 0 ∧ t.get BOOT_STATUS_stage = 9) ∧
  (∀ (s : State) (ms : Nat) (b : BootIn), s.dumping = false → s.stopping = false → s.boot.held = false →
    (∀ g < 16, s.flag STR_GROUP_STATUS_blocked g = false) → 6000 ≤ ms → ms < 9000 →
    ∃ t, exec (.buttonRelease ms b) s = .next t ∧ t.jnl.phase = .stopping true s.dtc ∧ t.boot.after = 2 ∧ t.get BOOT_STATUS_stage = 9) ∧
  (∀ (s : State) (ms : Nat) (b : BootIn), s.dumpRuns = true ∨ (2000 ≤ ms ∧ ms < 3000) ∨ 9000 ≤ ms →
    ∃ t, exec (.buttonRelease ms b) s = .next t ∧ t.regs = s.regs ∧ t.jnl = s.jnl ∧ t.boot = s.boot ∧ t.evt = s.evt) ∧
  (∀ (s : State), s.dumpRuns = false → KeyFree s → s.cip.lanes = [] → s.cip.queues = [] →
    ∃ t, exec .buttonZeroise s = .next t ∧ t.key.vault = [] ∧ ∀ n k, tget t.key.slots n = some k → k.state = .zeroised ∧ k.value = 0) ∧
  (∀ (s : State), s.dumpRuns = true → ∃ t, exec .buttonZeroise s = .next t ∧ t.key = s.key) ∧
  (∀ (s : State) (c : Nat), 45 < c → s.pwr.inletHot = false →
    ∃ t, exec (.inletHot c) s = .next t ∧ t.get PWR_THERM_STATUS_inlet_c = min c 255 ∧ t.pwr.inletHot = true ∧
      Reports s t EV_PWR_INLET_HOT 0 0 []) ∧
  (∀ (s : State) (c : Nat), 95 < c → s.pwr.dieWarm = false →
    ∃ t, exec (.dieWarn c) s = .next t ∧ t.get PWR_THERM_STATUS_die_c = min c 255 ∧ t.pwr.dieWarm = true ∧ Reports s t EV_PWR_DIE_WARN 0 0 []) ∧
  (∀ (s : State) (c : Nat), c ≤ 95 → ∃ t, exec (.dieWarn c) s = .next t ∧ t.get PWR_THERM_STATUS_die_c = c ∧ t.evt = s.evt ∧ t.pwr = s.pwr) ∧
  (∀ (s : State) (c : Nat), 110 < c → s.pwr.dieCrit = false → s.dumping = false → s.boot.act = none →
    ∃ t, exec (.dieCrit c) s = .next t ∧ t.pwr.dieCrit = true ∧ t.jnl.phase = .flushing 3 s.dtc ∧ t.boot.after = 0) ∧
  (∀ (s : State) (m : PwrRead),
    ∃ t, exec (.sensorReport m) s = .next t ∧ t.get PWR_THERM_STATUS_heat_w = min (m.feedA.2.2 + m.feedB.2.2) 4095 ∧
      t.get PWR_THERM_STATUS_die_c = min m.die 255 ∧ t.get PWR_FEED_STATUS_vrms 0 = min m.feedA.1 4095 ∧
      t.get PWR_FEED_STATUS_vrms 1 = min m.feedB.1 4095 ∧ t.get PWR_BUS_STATUS_vbus = m.vbus % 2 ^ 16 ∧
      t.get PWR_STORE_STATUS_vstore = m.vstore % 2 ^ 16 ∧ t.pwr.dieWarm = (s.pwr.dieWarm && decide (90 < m.die)) ∧
      t.outbox = s.outbox ++ [.sensors (min (m.feedA.2.2 + m.feedB.2.2) 4095) (((min (m.feedA.2.2 + m.feedB.2.2) 4095 : Nat) : Rat) / 14472)]) ∧
  (∀ (s : State) (cage watts : Nat), cage < 8 → s.get GLB_IDENT_variant ≠ 2 ∨ cage < 4 →
    ∃ t, exec (.opticalModuleInserted cage watts) s = .next t ∧ tget t.mac.optics cage = some ⟨watts, decide (16 < watts)⟩) ∧
  (∀ (s : State) (cage watts : Nat), 4 ≤ cage → cage < 8 → s.get GLB_IDENT_variant = 2 →
    ∃ t, exec (.opticalModuleInserted cage watts) s = .next t ∧ t.mac = s.mac)

/-- R261, R262, R437 to R441: feeds come and go, the ORing switches follow break-before-make, a window without feeds ends in a dump or in a
feed's return, a bus out of range starts the dump. -/
def Obligations.FeedsAndBus : Prop :=
  (∀ (s : State) (f cause : Nat), f < 2 → s.feedThere f = true → s.feedThere (1 - f) = true → s.flag PWR_FEED_STATUS_active f = true →
    s.flag PWR_FEED_STATUS_active (1 - f) = false → s.pwr.target = none → cause < 8 →
    ∃ t, exec (.feedAbsent f cause) s = .next t ∧ t.get PWR_FEED_STATUS_state f = 0 ∧ t.get PWR_FEED_STATUS_cause f = cause ∧
      t.get PWR_FEED_STATUS_active f = 0 ∧ t.get PWR_FEED_STATUS_active (1 - f) = 0 ∧ t.pwr.target = some (1 - f) ∧
      t.outbox = s.outbox ++ [.oring none] ∧ Reports s t EV_PWR_FEED_LOST 0xC f [] ∧ t.jnl = s.jnl) ∧
  (∀ (s : State) (f cause : Nat), f < 2 → s.feedThere f = true → s.feedThere (1 - f) = false → s.jnl.phase = .idle →
    s.get PWR_SEQ_STATUS_seq = 0 → s.get PWR_STORE_STATUS_state ≠ 4 →
    ∃ t, exec (.feedAbsent f cause) s = .next t ∧ t.jnl.phase = .riding s.dtc ∧ t.get PWR_SEQ_STATUS_seq = 1 ∧
      t.get PWR_STORE_STATUS_state = 3 ∧ t.get PWR_FEED_STATUS_active f = s.get PWR_FEED_STATUS_active f ∧ t.outbox = s.outbox) ∧
  (∀ (s : State) (f : Nat) (w : Word64) (b : BootIn), f < 2 → s.feedless = true → s.jnl.phase = .riding w → s.get PWR_SEQ_STATUS_seq = 1 →
    s.flag PWR_FEED_STATUS_active f = false →
    ∃ t, exec (.feedQualifying f b) s = .next t ∧ t.get PWR_FEED_STATUS_state f = 1 ∧ t.jnl.phase = .idle ∧ t.get PWR_SEQ_STATUS_seq = 0 ∧
      t.pwr.target = some f ∧ t.outbox = s.outbox ++ [.oring none]) ∧
  (∀ (s : State) (f : Nat) (b : BootIn), f < 2 → s.feedThere f = false → s.feedThere (1 - f) = true →
    ∃ t, exec (.feedQualifying f b) s = .next t ∧ t.get PWR_FEED_STATUS_state f = 1 ∧ t.pwr = s.pwr ∧ t.jnl = s.jnl) ∧
  (∀ (s : State) (f : Nat), f < 2 → s.feedState f = 1 → s.activeFeed = none → s.pwr.target = none →
    ∃ t, exec (.feedGood f) s = .next t ∧ t.get PWR_FEED_STATUS_state f = 2 ∧ t.get PWR_FEED_STATUS_active f = 1 ∧
      t.get PWR_FEED_STATUS_active (1 - f) = 0 ∧ t.get PWR_BUS_STATUS_source = f ∧ t.outbox = s.outbox ++ [.oring (some f)] ∧
      Reports s t EV_PWR_FEED_GOOD 0xC f []) ∧
  (∀ (s : State) (f : Nat), f < 2 → s.feedState f = 1 → s.activeFeed ≠ none →
    ∃ t, exec (.feedGood f) s = .next t ∧ t.get PWR_FEED_STATUS_state f = 2 ∧ t.activeFeed = s.activeFeed ∧ t.outbox = s.outbox) ∧
  (∀ (s : State) (p : Nat), p < 2 → s.get PWR_FEED_CFG_prefer = p → s.get PWR_FEED_CFG_revert_s ≠ 0 → s.feedState p = 2 →
    s.feedState (1 - p) = 2 → s.activeFeed = some (1 - p) → s.flag PWR_FEED_STATUS_active p = false → s.holdOff = true →
    s.goodFor p (s.get PWR_FEED_CFG_revert_s) = true →
    ∃ t, exec .feedRevert s = .next t ∧ t.pwr.target = some p ∧ t.activeFeed = none ∧ t.outbox = s.outbox ++ [.oring none]) ∧
  (∀ (s : State), s.get PWR_FEED_CFG_revert_s = 0 ∨ 2 ≤ s.get PWR_FEED_CFG_prefer ∨ s.holdOff = false ∨
    s.goodFor (s.get PWR_FEED_CFG_prefer) (s.get PWR_FEED_CFG_revert_s) = false →
    ∃ t, exec .feedRevert s = .next t ∧ t.pwr = s.pwr ∧ t.outbox = s.outbox) ∧
  (∀ (s : State) (f : Nat), f < 2 → s.pwr.target = some f →
    ∃ t, exec .oringMake s = .next t ∧ t.activeFeed = some f ∧ t.get PWR_FEED_STATUS_active (1 - f) = 0 ∧ t.pwr.target = none ∧
      t.pwr.last = some f ∧ t.pwr.switched = some s.dtc ∧ t.outbox = s.outbox ++ [.oring (some f)] ∧ Reports s t EV_PWR_FEED_SWITCH 0xC f []) ∧
  (∀ (s : State), s.pwr.target = none → ∃ t, exec .oringMake s = .next t ∧ t.pwr = s.pwr ∧ t.outbox = s.outbox) ∧
  (∀ (s : State) (mv : Nat), mv < 10800 → s.dumping = false → s.boot.act = none →
    ∃ t, exec (.busFault mv) s = .next t ∧ t.get PWR_BUS_STATUS_vbus = mv ∧ t.jnl.phase = .flushing 2 s.dtc ∧ t.boot.after = 6) ∧
  (∀ (s : State) (mv : Nat), 13500 < mv → s.dumping = false → s.boot.act = none →
    ∃ t, exec (.busFault mv) s = .next t ∧ t.activeFeed = none ∧ t.pwr.target = none ∧ t.jnl.phase = .flushing 1 s.dtc ∧ t.boot.after = 6) ∧
  (∀ (s : State) (mv : Nat), 10800 ≤ mv → mv ≤ 13500 →
    ∃ t, exec (.busFault mv) s = .next t ∧ t.regs = s.regs ∧ t.jnl = s.jnl ∧ t.evt = s.evt)

/-- R252, R443 to R446, R448: the energy store's figures, its tests, its failure and its charge limit. -/
def Obligations.EnergyStore : Prop :=
  (∀ (s : State) (mv : Nat), mv < 2 ^ 16 → s.get PWR_STORE_STATUS_state ≠ 4 →
    ∃ t, exec (.storeEnergyThreshold mv) s = .next t ∧ t.get PWR_STORE_STATUS_vstore = mv ∧
      t.get PWR_STORE_STATUS_e_j = min (44 * s.get PWR_STORE_STATUS_cap_mf * (mv * mv - 36000000) / 100000000 / 1000) 1023 ∧
      t.get JNL_NEVE_STATUS_budget_slots =
        budgetSlots (44 * s.get PWR_STORE_STATUS_cap_mf * (mv * mv - 36000000) / 100000000) % 2 ^ JNL_NEVE_STATUS_budget_slots.w ∧
      t.pwr.storeLow = decide (44 * s.get PWR_STORE_STATUS_cap_mf * (mv * mv - 36000000) / 100000000 < 105300)) ∧
  (∀ (s : State) (mv : Nat), s.get PWR_STORE_STATUS_state = 4 →
    ∃ t, exec (.storeEnergyThreshold mv) s = .next t ∧ t.get PWR_STORE_STATUS_e_j = 0 ∧ t.get JNL_NEVE_STATUS_budget_slots = 0 ∧
      t.get PWR_STORE_STATUS_state = 4) ∧
  (∀ (s : State), s.get PWR_STORE_CFG_test_h ≠ 0 → s.feedThere 0 = true → s.feedThere 1 = true → 300000 ≤ s.energyMj → s.dumping = false →
    s.get PWR_STORE_STATUS_state ≠ 4 → s.pwr.testFrom = none →
    ∃ t, exec .storeTestStart s = .next t ∧ t.get PWR_STORE_STATUS_state = 2 ∧ t.pwr.testFrom = some (s.get PWR_STORE_STATUS_vstore)) ∧
  (∀ (s : State), s.feedThere 0 = false ∨ s.feedThere 1 = false ∨ s.energyMj < 300000 ∨ s.dumping = true →
    ∃ t, exec .storeTestStart s = .next t ∧ t.pwr = s.pwr ∧ t.regs = s.regs) ∧
  (∀ (s : State) (v mv step cells : Nat), s.pwr.testFrom = some v → mv < v → 500 ≤ 1000000 / (v - mv) → 1000000 / (v - mv) < 2 ^ 16 →
    step ≤ 400 → cells ≤ 300 → s.get PWR_STORE_STATUS_state ≠ 4 →
    ∃ t, exec (.storeTestEnd mv step cells false) s = .next t ∧ t.get PWR_STORE_STATUS_cap_mf = 1000000 / (v - mv) ∧
      t.get PWR_STORE_STATUS_esr = step / 2 ∧ t.pwr.testFrom = none ∧ t.get PWR_STORE_STATUS_state < 2) ∧
  (∀ (s : State) (v mv step cells : Nat) (broken : Bool), s.pwr.testFrom = some v → mv < v →
    1000000 / (v - mv) < 500 ∨ 400 < step ∨ 300 < cells ∨ broken = true →
    ∃ t, exec (.storeTestEnd mv step cells broken) s = .next t ∧ t.get PWR_STORE_STATUS_state = 4 ∧ t.get PWR_STORE_STATUS_e_j = 0 ∧
      t.get JNL_NEVE_STATUS_budget_slots = 0) ∧
  (∀ (s : State) (c : Nat), 65 < c → ∃ t, exec (.storeHot c) s = .next t ∧ t.pwr.chargeMv = 0 ∧ t.get PWR_STORE_STATUS_temp_c = min c 255) ∧
  (∀ (s : State) (c : Nat), 55 < c → c ≤ 65 → s.pwr.chargeMv ≠ 0 →
    ∃ t, exec (.storeHot c) s = .next t ∧ t.pwr.chargeMv = 18000 ∧ t.get PWR_STORE_STATUS_temp_c = c) ∧
  (∀ (s : State) (c : Nat), c ≤ 50 → ∃ t, exec (.storeHot c) s = .next t ∧ t.pwr.chargeMv = 20000 ∧ t.get PWR_STORE_STATUS_temp_c = c)

/-- R452 to R455, R463: a slot that is seated is powered where that is allowed: aux, ramp, power-good, reset released; removal and the
commands take the outputs off again. -/
def Obligations.SlotPowerUp : Prop :=
  (∀ (s : State) (x : Nat), x < 32 → s.slotOwner x = true → s.flag SLT_CH_STATUS_present x = false → s.flag SLT_CH_CFG_auto_on x = true →
    s.slt.enabled = true → s.slt.dumped = false → (s.slot x).barred = false → (s.slot x).cycling = false →
    ∃ t, exec (.slotPresent x false) s = .next t ∧ t.get SLT_CH_STATUS_present x = 1 ∧ t.get SLT_CH_STATUS_state x = 3 ∧
      (t.slot x).aux = true ∧ (t.slot x).step = 1 ∧ Reports s t EV_SLT_SEATED 2 x []) ∧
  (∀ (s : State) (x : Nat), x < 32 → s.slotOwner x = true → s.flag SLT_CH_STATUS_present x = false →
    ∃ t, exec (.slotPresent x true) s = .next t ∧ t.get SLT_CH_STATUS_present x = 1 ∧ t.get SLT_CH_STATUS_state x = 7 ∧ t.slt = s.slt) ∧
  (∀ (s : State) (x : Nat), QuietPort s x → s.slotOwner x = true → s.flag SLT_CH_STATUS_present x = true → s.get REB_MEMBER_state x = 0 →
    ∃ t, exec (.slotAbsent x) s = .next t ∧ t.get SLT_CH_STATUS_present x = 0 ∧ t.get SLT_CH_STATUS_state x = 0 ∧
      t.get SLT_CH_STATUS_pg x = 0 ∧ (t.slot x).gate = false ∧ (t.slot x).aux = false ∧ Reports s t EV_SLT_REMOVED 2 x []) ∧
  (∀ (s : State) (x : Nat), x < 32 → s.autoPower x = true →
    ∃ t, exec (.slotPowerOn x) s = .next t ∧ t.get SLT_CH_STATUS_state x = 3 ∧ (t.slot x).aux = true ∧ (t.slot x).step = 1 ∧
      t.get SLT_CH_STATUS_retries_left x = s.get SLT_CH_CFG_retries x % 2 ^ SLT_CH_STATUS_retries_left.w) ∧
  (∀ (s : State) (x : Nat) (m : SlotSense), x < 32 → s.chRuns x = true → (s.slot x).step = 1 → 3000 ≤ m.v3 →
    ∃ t, exec (.auxCheck x m) s = .next t ∧ t.slot x = { s.slot x with sense := m, gate := true, step := 2 }) ∧
  (∀ (s : State) (x : Nat) (m : SlotSense), QuietPort s x → s.chRuns x = true → (s.slot x).step = 1 → m.v3 < 3000 →
    0 < s.get SLT_CH_STATUS_retries_left x →
    ∃ t, exec (.auxCheck x m) s = .next t ∧ t.get SLT_CH_STATUS_state x = 5 ∧ t.get SLT_CH_STATUS_cause x = 5 ∧
      (t.slot x).aux = false ∧ Reports s t EV_SLT_TRIP 2 x [5]) ∧
  (∀ (s : State) (x : Nat) (m : SlotSense), x < 32 → s.chRuns x = true → (s.slot x).step = 2 →
    ∃ t, exec (.rampEnd x m) s = .next t ∧ t.slot x = { s.slot x with sense := m, step := 3 }) ∧
  (∀ (s : State) (x : Nat) (m : SlotSense), x < 32 → s.chRuns x = true → 2 ≤ (s.slot x).step → s.flag SLT_CH_STATUS_pg x = false →
    11400 ≤ m.vOut → (s.slot x).fault = 0 →
    ∃ t, exec (.pgQualify x m) s = .next t ∧ t.get SLT_CH_STATUS_pg x = 1 ∧ t.get SLT_CH_STATUS_state x = 4) ∧
  (∀ (s : State) (x : Nat), x < 32 → s.flag SLT_CH_STATUS_pg x = true → s.flag SLT_CH_STATUS_perst_rel x = false →
    ∃ t, exec (.perstRelease x) s = .next t ∧ t.get SLT_CH_STATUS_perst_rel x = 1 ∧ t.get DRV_PORT_STATUS_state x = 1) ∧
  (∀ (s : State) (x : Nat), x < 32 → s.flag SLT_CMD_busy = false → s.slotOwner x = true → s.get SLT_CH_STATUS_state x = 2 →
    s.slt.dumped = false →
    ∃ t, exec (.sltOn x) s = .next t ∧ t.get SLT_CH_STATUS_state x = 3 ∧ (t.slot x).aux = true ∧ t.get SLT_CMD_result = 0) ∧
  (∀ (s : State) (x : Nat), x < 32 → s.flag SLT_CMD_busy = false → s.slotOwner x = false → s.pair.active = false →
    ∃ t, exec (.sltOn x) s = .next t ∧ t.get SLT_CMD_result = 2 ∧ t.slt = s.slt) ∧
  (∀ (s : State) (x : Nat), QuietPort s x → s.flag SLT_CMD_busy = false → s.slotOwner x = true → s.get SLT_CH_STATUS_state x = 4 →
    ∃ t, exec (.sltOff x) s = .next t ∧ t.get SLT_CH_STATUS_state x = 2 ∧ t.get SLT_CH_STATUS_cause x = 7 ∧
      t.get SLT_CH_STATUS_pg x = 0 ∧ (t.slot x).gate = false ∧ (t.slot x).pwrdis = true ∧ t.get SLT_CMD_result = 0) ∧
  (∀ (s : State) (x : Nat), QuietPort s x → s.flag SLT_CMD_busy = false → s.slotOwner x = true → s.get SLT_CH_STATUS_state x = 4 →
    s.slt.dumped = false →
    ∃ t, exec (.sltCycle x) s = .next t ∧ t.get SLT_CH_STATUS_state x = 2 ∧ (t.slot x).cycling = true ∧ t.get SLT_CMD_result = 0) ∧
  (∀ (s : State) (x : Nat), x < 32 → s.flag SLT_CMD_busy = false → s.slotOwner x = true →
    ∃ t, exec (.sltLocateOn x) s = .next t ∧ t.get SLT_CH_STATUS_locate x = 1 ∧ t.slt = s.slt) ∧
  (∀ (s : State) (x : Nat), x < 32 → s.flag SLT_CMD_busy = false → s.slotOwner x = true →
    ∃ t, exec (.sltLocateOff x) s = .next t ∧ t.get SLT_CH_STATUS_locate x = 0 ∧ t.slt = s.slt) ∧
  (∀ (s : State) (x : Nat), x < 32 → s.slotOwner x = true → s.chRuns x = false →
    ∃ t, exec (.turnoffAux x) s = .next t ∧ t.slot x = { s.slot x with aux := false }) ∧
  (∀ (s : State) (x : Nat), x < 32 → s.slotOwner x = true → (s.slot x).cycling = true → s.get SLT_CH_STATUS_state x = 2 →
    s.slt.dumped = false →
    ∃ t, exec (.cycleWaitExpiry x) s = .next t ∧ t.get SLT_CH_STATUS_state x = 3 ∧ (t.slot x).aux = true ∧ (t.slot x).cycling = false)

/-- R455 to R461: each cause of a trip takes the outputs off and is recorded; retries follow until none is left; warnings, sensor and supply
faults are reported. -/
def Obligations.SlotTripsAndRetries : Prop :=
  (∀ (s : State) (x : Nat) (m : SlotSense), QuietPort s x → s.chRuns x = true → s.flag SLT_CH_STATUS_pg x = true → m.vOut < 10800 →
    0 < s.get SLT_CH_STATUS_retries_left x →
    ∃ t, exec (.pgWithdraw x m) s = .next t ∧ t.get SLT_CH_STATUS_state x = 5 ∧ t.get SLT_CH_STATUS_cause x = 4 ∧
      t.get SLT_CH_STATUS_pg x = 0 ∧ (t.slot x).gate = false ∧ Reports s t EV_SLT_TRIP 2 x [4]) ∧
  (∀ (s : State) (x : Nat) (m : SlotSense), QuietPort s x → s.chRuns x = true → s.reachesLim x 2 m.cur = true →
    s.get SLT_CH_STATUS_retries_left x = 0 → s.get REB_MEMBER_state x = 0 →
    ∃ t, exec (.fastTrip x m) s = .next t ∧ t.get SLT_CH_STATUS_state x = 6 ∧ t.get SLT_CH_STATUS_cause x = 1 ∧ (t.slot x).gate = false) ∧
  (∀ (s : State) (x : Nat) (m : SlotSense), QuietPort s x → s.chRuns x = true → (s.slot x).gate = true →
    0 < s.get SLT_CH_STATUS_retries_left x →
    ∃ t, exec (.faultTimerTrip x m) s = .next t ∧ t.get SLT_CH_STATUS_state x = 5 ∧ t.get SLT_CH_STATUS_cause x = 2 ∧
      (t.slot x).gate = false ∧ (t.slot x).fault = 0) ∧
  (∀ (s : State) (x : Nat) (m : SlotSense), QuietPort s x → s.chRuns x = true → 0 < s.get SLT_CH_STATUS_retries_left x →
    ∃ t, exec (.thermalTrip x m) s = .next t ∧ t.get SLT_CH_STATUS_state x = 5 ∧ t.get SLT_CH_STATUS_cause x = 3 ∧
      (t.slot x).hot = true ∧ Reports s t EV_SLT_TRIP 2 x [3]) ∧
  (∀ (s : State) (x : Nat) (m : SlotSense), x < 32 → s.slotOwner x = true → (s.slot x).warned = false →
    ∃ t, exec (.tjWarn x m) s = .next t ∧ (t.slot x).warned = true ∧ Reports s t EV_SLT_TJ_WARN 2 x []) ∧
  (∀ (s : State) (x : Nat), x < 32 → (s.slot x).hot = true → (s.slot x).waited = true → s.get SLT_CH_STATUS_state x = 5 →
    s.slt.dumped = false → 0 < s.get SLT_CH_STATUS_retries_left x →
    ∃ t, exec (.tjBelowWarn x) s = .next t ∧ t.get SLT_CH_STATUS_state x = 3 ∧ (t.slot x).aux = true ∧ (t.slot x).warned = false) ∧
  (∀ (s : State) (x : Nat), x < 32 → s.slotOwner x = true → s.get SLT_CH_STATUS_state x = 5 → s.slt.dumped = false →
    (s.slot x).hot = false → (s.slot x).lowWait = false →
    ∃ t, exec (.retryWaitExpiry x) s = .next t ∧ t.get SLT_CH_STATUS_state x = 3 ∧ (t.slot x).aux = true ∧
      t.get SLT_CH_STATUS_retries_left x = (s.get SLT_CH_STATUS_retries_left x - 1) % 2 ^ SLT_CH_STATUS_retries_left.w) ∧
  (∀ (s : State) (x : Nat), x < 32 → s.slotOwner x = true → s.get SLT_CH_STATUS_state x = 5 → s.slt.dumped = false →
    (s.slot x).hot = true →
    ∃ t, exec (.retryWaitExpiry x) s = .next t ∧ t.get SLT_CH_STATUS_state x = 5 ∧ t.slot x = { s.slot x with waited := true }) ∧
  (∀ (s : State) (x : Nat), x < 32 → s.slotOwner x = true → s.flag SLT_CH_STATUS_pg x = true →
    ∃ t, exec (.retryReload x) s = .next t ∧
      t.get SLT_CH_STATUS_retries_left x = s.get SLT_CH_CFG_retries x % 2 ^ SLT_CH_STATUS_retries_left.w) ∧
  (∀ (s : State) (mv : Nat), mv < 10800 → s.flag SLT_SUPPLY_STATUS_low = false →
    ∃ t, exec (.supplyLow mv) s = .next t ∧ t.get SLT_SUPPLY_STATUS_low = 1 ∧ Reports s t EV_SLT_SUPPLY_LOW 0 0 []) ∧
  (∀ (s : State) (mv : Nat), 11400 ≤ mv →
    ∃ t, exec (.supplyRestored mv) s = .next t ∧ t.get SLT_SUPPLY_STATUS_low = 0 ∧ ∀ x, x < 32 → (t.slot x).lowWait = false) ∧
  (∀ (s : State) (x a : Nat), x < 32 → 10 * s.pLim x < a → (s.slot x).overRaised = false →
    ∃ t, exec (.overPower x a) s = .next t ∧ t.slot x = { s.slot x with overRaised := true } ∧ Reports s t EV_SLT_OVER_POWER 2 x [])

/-- R127: an Abort is decided and completes at once, without waiting for the completion of the command it names; an owner may have 64 of
them outstanding, and the next one completes with Abort Command Limit Exceeded and changes no other command; Identify Controller ACL is 63. -/
def Obligations.AbortDecision : Prop :=
  (∀ (s : State) (c : Nat) (x : Cmd) (q : Qp), Running s c x q → s.isAdmin x.qpn = true → x.sqe.opcode = 8 →
    (s.abortsBefore c q.owner).length < 64 → ∃ t d, exec (.abort c) s = .next t ∧ Completes t c St.ok d) ∧
  (∀ (s : State) (c : Nat) (x : Cmd) (q : Qp), Running s c x q → s.isAdmin x.qpn = true → x.sqe.opcode = 8 →
    64 ≤ (s.abortsBefore c q.owner).length →
    ∃ t, exec (.abort c) s = .next t ∧ Completes t c ⟨1, 3, false⟩ ∧ ∀ k, k ≠ c → t.cmd k = s.cmd k) ∧
  (∀ (s : State) (o : QOwner), (s.idController o)[258]? = some 63)

/-- R416: while a slice is RESETTING its doorbells are ignored and every SLC command but RESET with mode 1 ends with result 1; a squash
requested during a drain takes over at once; a function reset of E0 squashes every slice in use but E1's toward FREE, which it is after
reset-done. -/
def Obligations.SliceResetting : Prop :=
  (∀ (s : State) (n : Nat) (i : Instr), s.flag SLC_CMD_busy = false → s.get SLC_STATUS_state n = 2 →
    i ∈ [.slcCreate n false, .slcCreate n true, .slcDestroy n, .slcResize n, .slcResetDrain n, .slcPause n, .slcResume n, .slcLogStart n,
      .slcLogStop n, .slcLogSync n, .slcSaveQp n, .slcRestoreQp n] →
    ∃ t, exec i s = .next t ∧ t.get SLC_CMD_result = 1 ∧ t.slc = s.slc ∧ t.qpe = s.qpe) ∧
  (∀ (s : State) (n off width v : Nat), s.get SLC_STATUS_state n = 2 →
    ∃ t, exec (.localDoorbellWrite (.slice n) off width v) s = .next t ∧ t.qpe = s.qpe ∧ t.ctr = s.ctr) ∧
  (∀ (s : State) (n : Nat) (r : SliceReset), s.flag SLC_CMD_busy = false → s.get SLC_STATUS_state n = 2 → tget s.slc.resets n = some r →
    r.drain = true →
    ∃ t, exec (.slcResetSquash n) s = .next t ∧ t.get SLC_STATUS_state n = 2 ∧ t.qpsOf (.slice n) = [] ∧
      tget t.slc.resets n = some ⟨false, r.toFree, s.dtc, true⟩) ∧
  (∀ (s : State) (kind : Nat), kind ≠ 1 → s.flag HIF_LINK_STATUS_present 0 = true → s.hif.inReset.contains 0 = false →
    ∃ t, exec (.functionReset 0 kind) s = .next t ∧
      ∀ n, s.get SLC_STATUS_state n ≠ 0 → s.slc.e1 ≠ some n → t.get SLC_STATUS_state n = 2 ∧ tget t.slc.resets n = some ⟨false, true, s.dtc, false⟩) ∧
  (∀ (s : State) (n : Nat) (r : SliceReset), tget s.slc.resets n = some r → r.toFree = true → s.ownerQuiet (.slice n) = true →
    ∃ t, exec (.slcResetDone n) s = .next t ∧ t.get SLC_STATUS_state n = 0 ∧ tget t.slc.resets n = none)

/-- R461: an NTC that reads open or short or outside −20 to 150 °C sets ntc_fault and raises EV_SLT_NTC_FAULT, one within does neither; with
ntc_fault set the estimate starts from the inlet's temperature plus c and cs stays 0. -/
def Obligations.NtcFaults : Prop :=
  (∀ (s : State) (x : Nat) (m : SlotSense), x < 32 → m.ntc = none ∨ (∃ d, m.ntc = some d ∧ (d < -20 ∨ 150 < d)) → s.flag SLT_CH_STATUS_ntc_fault x = false →
    ∃ t, exec (.ntcFault x m) s = .next t ∧ t.get SLT_CH_STATUS_ntc_fault x = 1 ∧ (t.slot x).cs = 0 ∧
      Reports s t EV_SLT_NTC_FAULT 2 x []) ∧
  (∀ (s : State) (x : Nat) (m : SlotSense) (d : Int), x < 32 → m.ntc = some d → -20 ≤ d → d ≤ 150 →
    ∃ t, exec (.ntcFault x m) s = .next t ∧ t.regs = s.regs ∧ t.slt = s.slt ∧ t.evt = s.evt) ∧
  (∀ (s : State) (x : Nat) (c : Slot), s.flag SLT_CH_STATUS_ntc_fault x = true →
    s.slotBase x c = ((s.get PWR_THERM_STATUS_inlet_c : Rat) + c.c, 0) ∧ (s.slotEstimate x c).cs = 0)

/-- R15, R16, R27, R428, R435, R469, R470, R479: what resets leave and how far the boot comes with and without a usable image. -/
def Obligations.ResetsAndRom : Prop :=
  (∀ (s : State) (straps f : Nat) (b : BootIn), s.boot.banks = [] →
    ∃ t, exec (.coldReset straps f [] b) s = .next t ∧ t.mem = [] ∧ t.dtc = 0 ∧ t.boot.held = true ∧ t.get BOOT_STATUS_stage = 0xA ∧
      t.get PWR_FEED_STATUS_active (f % 2) = 1 ∧ t.pwr.seated = true ∧ t.pwr.straps = straps % 16 ∧ t.jnl.dumps = s.jnl.dumps ∧
      t.rime.records = s.rime.records ∧ t.key.vault = s.key.vault ∧ t.key.slots = [] ∧ t.get GLB_SCRATCH_data 3 = 0 ∧
      t.get GLB_SCRATCH_data 9 = 0 ∧ t.pending = s.pending) ∧
  (∀ (s : State) (cause : Nat) (b : BootIn), s.boot.banks = [] → cause < 16 →
    ∃ t, exec (.warmReset cause b) s = .next t ∧ t.mem = [] ∧ t.dtc = s.dtc ∧ t.boot.held = true ∧ t.get CLK_RESET_CAUSE_kind = 1 ∧
      t.get CLK_RESET_CAUSE_cause = cause ∧ t.get GLB_SCRATCH_data 3 = 0 ∧ t.get GLB_SCRATCH_data 9 = s.get GLB_SCRATCH_data 9 ∧
      t.evt.saved = some (s.evt.nextSeq, s.evUndelivered) ∧ t.jnl.dumps = s.jnl.dumps ∧ t.rime.records = s.rime.records ∧
      t.key.vault = s.key.vault) ∧
  (∀ (s : State) (straps f : Nat) (b : BootIn) (k : Bank), s.boot.banks = [(0, k)] → k.state = 3 →
    ∃ t, exec (.coldReset straps f [] b) s = .next t ∧ t.mem = [] ∧ t.get BOOT_STATUS_stage = if s.imageOk k.hash k.image then 3 else 0xA) ∧
  (∀ (s : State) (cause : Nat) (b : BootIn) (k : Bank), s.boot.banks = [(0, k)] → k.state = 3 →
    ∃ t, exec (.warmReset cause b) s = .next t ∧ t.mem = [] ∧ t.get BOOT_STATUS_stage = if s.imageOk k.hash k.image then 3 else 0xA) ∧
  (∀ (s : State) (b : BootIn), s.get BOOT_STATUS_stage < 8 → s.boot.held = false → s.boot.banks = [] →
    ∃ t, exec (.bootWatchdog b) s = .next t ∧ t.mem = [] ∧ t.boot.held = true ∧ t.get CLK_RESET_CAUSE_kind = 1 ∧
      t.get CLK_RESET_CAUSE_cause = 4) ∧
  (∀ (s : State) (b : BootIn), 8 ≤ s.get BOOT_STATUS_stage ∨ s.boot.held = true →
    ∃ t, exec (.bootWatchdog b) s = .next t ∧ t.regs = s.regs ∧ t.boot = s.boot ∧ t.jnl = s.jnl ∧ t.mem = s.mem)

/-- R226, R265, R266, R274, R287, R469, R479, R491 to R494: from the labels to serving. -/
def Obligations.BootToServing : Prop :=
  (∀ (s : State), s.get BOOT_STATUS_stage = 3 → s.boot.held = false → (∀ x < 32, s.get DRV_PORT_STATUS_state x ≠ 3) →
    ∃ t, exec .bootDrivesUp s = .next t ∧ t.get BOOT_STATUS_stage = 4 ∧ t.boot.drivesUp = true ∧ t.str = s.str) ∧
  (∀ (s : State) (f : DriveFacts) (l : DriveLabel), s.get BOOT_STATUS_stage = 3 → s.boot.held = false → s.pair.conflict = false →
    s.get DRV_PORT_STATUS_state 5 = 3 → (∀ x < 32, x ≠ 5 → s.get DRV_PORT_STATUS_state x ≠ 3) → (s.port 5).facts = some f →
    poolLabel f = some l → l.member = 5 →
    ∃ t, exec .bootDrivesUp s = .next t ∧ t.get BOOT_STATUS_stage = 4 ∧ t.str.poolId = l.poolId ∧ t.str.chunk128 = l.chunk128 ∧
      t.get REB_MEMBER_state 5 = 3 ∧ t.get STR_MEMBER_STATUS_live 5 = 1) ∧
  (∀ (s : State) (m : Media) (c : Checkpoint), s.get BOOT_STATUS_stage = 4 → s.str.poolId ≠ 0 → s.labelCkpt m = some c → m.firn = [] →
    s.candDumps = [] → c.segs = [] →
    ∃ t, exec (.mapRebuildDone (some m) true) s = .next t ∧ t.get BOOT_STATUS_stage = 5 ∧ t.nsm.ns = c.ns ∧ t.nsm.recorded = c.mgmt.2.2 ∧ t.nsm.dels = c.dels ∧
      t.get GLB_MGMT_SEQ_last_accepted = c.mgmt.1 % 2 ^ 32 ∧ t.get GLB_MGMT_SEQ_last_completed = c.mgmt.2.1 % 2 ^ 32 ∧
      t.get JNL_FIRN_SEQ_next_seq = max (c.seq + 1) c.replayStart % 2 ^ JNL_FIRN_SEQ_next_seq.w ∧
      t.str.map = mediaMap (m.pages.filter fun e => (tget c.dirs e.1).isSome)) ∧
  (∀ (s : State) (found : Option Media) (readable : Bool), s.get BOOT_STATUS_stage = 4 → s.str.poolId ≠ 0 →
    readable = false ∨ s.labelCkpt (found.getD s.jnl.media) = none →
    ∃ t, exec (.mapRebuildDone found readable) s = .next t ∧ t.get BOOT_STATUS_stage = 5 ∧ t.str.poolId = 0 ∧
      Reports s t EV_REB_POOL_UNREADABLE 0 0 []) ∧
  (∀ (s : State), s.get BOOT_STATUS_stage = 5 → s.str.poolId = 0 → s.pairShelf = false → s.rime.records.length < 65536 →
    s.jnl.mdQueue = [] → s.str.cold = [] →
    ∃ t, exec (.replayDone [] [] false 3) s = .next t ∧ t.get BOOT_STATUS_stage = 7 ∧ t.rime.nextSeq = s.rime.nextSeq + 1 ∧
      t.rime.records = s.rime.records ++ [s.rimeBody 1 false 0 0 ++ ecdsaSign (recordChain (s.rimeBody 1 false 0 0))] ∧
      t.rime.chain = recordChain (s.rimeBody 1 false 0 0) ∧ t.get BOOT_RIME_STATUS_state = 1 ∧ t.evt = s.evt) ∧
  (∀ (s : State), s.get BOOT_STATUS_stage = 5 → s.str.poolId = 0 →
    ∃ t, exec (.replayDone [] [] false 0) s = .next t ∧ t.get BOOT_STATUS_stage = 0xA ∧ t.boot.held = true ∧ t.rime.records = s.rime.records ∧
      Reports s t EV_BOOT_RIME_FAIL 0 0 []) ∧
  (∀ (s : State) (k : Kept), s.get BOOT_STATUS_stage = 5 → s.str.poolId ≠ 0 → s.keptEntries [] = [k] → k.slot.mirror = false →
    s.nsGone k = false → s.superseded k.desc = false → tget s.jnl.lastSeq (k.desc.ns, k.desc.lba) = none → k.slot.dataOk = true →
    s.jnl.mdQueue = [] → s.str.cold = [] →
    ∃ t, exec (.replayDone [] [] false 3) s = .next t ∧ t.get BOOT_STATUS_stage = 7 ∧
      tget t.jnl.slots k.idx = some { state := .committed, desc := some k.desc, data := k.slot.data } ∧
      t.lookup k.desc.ns k.desc.lba = .neve k.desc.kgen k.idx) ∧
  (∀ (s : State), s.get BOOT_STATUS_stage = 7 → s.get GLB_MGMT_SEQ_last_accepted = s.get GLB_MGMT_SEQ_last_completed → s.deleting = [] →
    (s.bank s.runBank).state = 3 →
    ∃ t, exec .bootServing s = .next t ∧ t.get BOOT_STATUS_stage = 8 ∧ Reports s t EV_BOOT_SERVING 0 0 [] ∧ t.boot = s.boot) ∧
  (∀ (s : State), s.get BOOT_STATUS_stage = 7 → s.get GLB_MGMT_SEQ_last_accepted = s.get GLB_MGMT_SEQ_last_completed → s.deleting = [] →
    (s.bank s.runBank).state = 2 →
    ∃ t, exec .bootServing s = .next t ∧ t.get BOOT_STATUS_stage = 8 ∧ (t.bank s.runBank).state = 3) ∧
  (∀ (s : State), s.get BOOT_STATUS_stage = 7 → s.get GLB_MGMT_SEQ_last_accepted ≠ s.get GLB_MGMT_SEQ_last_completed → s.nsm.dels = [] →
    s.deleting = [] → (s.bank s.runBank).state = 3 →
    ∃ t, exec .bootServing s = .next t ∧ t.get BOOT_STATUS_stage = 8 ∧
      t.get GLB_MGMT_SEQ_last_accepted = s.get GLB_MGMT_SEQ_last_completed % 2 ^ 32) ∧
  (∀ (s : State), s.get BOOT_STATUS_stage ≠ 7 → ∃ t, exec .bootServing s = .next t ∧ t.regs = s.regs ∧ t.boot = s.boot)

/-- R22, R26, R30, R481, R541, R542: commands that stop or restart the module, errors of the cores, the reference and the HBM. -/
def Obligations.StopsAndErrors : Prop :=
  (∀ (s : State), s.flag BOOT_CMD_busy = false → s.boot.act = none → s.dumping = false → s.stopping = false →
    (∀ g < 16, s.flag STR_GROUP_STATUS_blocked g = false) →
    ∃ t, exec .bootStop s = .next t ∧ t.get BOOT_CMD_result = 0 ∧ t.get BOOT_CMD_busy = 1 ∧ t.get BOOT_STATUS_stage = 9 ∧
      t.jnl.phase = .stopping false s.dtc ∧ t.boot.after = 0) ∧
  (∀ (s : State), s.flag BOOT_CMD_busy = false → s.boot.act = none → s.dumping = false → s.stopping = false →
    (∀ g < 16, s.flag STR_GROUP_STATUS_blocked g = false) →
    ∃ t, exec .bootRestart s = .next t ∧ t.get BOOT_CMD_result = 0 ∧ t.get BOOT_CMD_busy = 1 ∧ t.get BOOT_STATUS_stage = 9 ∧
      t.jnl.phase = .stopping true s.dtc ∧ t.boot.after = 3) ∧
  (∀ (s : State) (g : Nat), s.flag BOOT_CMD_busy = false → s.boot.act = none → s.dumping = false → s.stopping = false → g < 16 →
    s.flag STR_GROUP_STATUS_blocked g = true →
    ∃ t, exec .bootStop s = .next t ∧ t.get BOOT_CMD_result = 0 ∧ t.get BOOT_STATUS_stage = 9 ∧ t.jnl.phase = .flushing 3 s.dtc ∧
      t.boot.after = 0) ∧
  (∀ (s : State) (i : Instr) (c : Nat), i = .bootStop ∨ i = .bootRestart → s.flag BOOT_CMD_busy = false → s.boot.act = some c →
    ∃ t, exec i s = .next t ∧ t.get BOOT_CMD_result = 2 ∧ t.jnl = s.jnl ∧ t.boot = s.boot) ∧
  (∀ (s : State) (i : Instr), i = .bootStop ∨ i = .bootRestart → s.flag BOOT_CMD_busy = false → s.boot.act = none → s.dumping = true →
    ∃ t, exec i s = .next t ∧ t.get BOOT_CMD_result = 3 ∧ t.jnl = s.jnl ∧ t.boot = s.boot) ∧
  (∀ (s : State), s.dumping = false → s.boot.act = none →
    ∃ t, exec .glbWarm s = .next t ∧ t.jnl.phase = .flushing 3 s.dtc ∧ t.boot.after = 1 ∧ t.get PWR_SEQ_STATUS_seq = 2) ∧
  (∀ (s : State), s.dumping = true → ∃ t, exec .glbWarm s = .next t ∧ t.regs = s.regs ∧ t.jnl = s.jnl ∧ t.boot = s.boot) ∧
  (∀ (s : State), s.dumping = false → s.boot.act = none → s.swc.frames = [] →
    ∃ t, exec .glbCoreReset s = .next t ∧ t.boot.coreRst = true ∧ t.boot.handed = true ∧ t.boot.act = some s.qpe.nextCmd ∧
      t.swc.cpuUp = false ∧ t.get BOOT_STATUS_stage = 0xB ∧ t.get BOOT_FW_STATUS_act_state = 2 ∧ ∀ c < 16, t.get GLB_CORE_STATUS_state c = 0) ∧
  (∀ (s : State), s.dumping = true ∨ s.boot.act ≠ none → ∃ t, exec .glbCoreReset s = .next t ∧ t.regs = s.regs ∧ t.boot = s.boot) ∧
  (∀ (s : State) (core : Nat), core < 16 →
    ∃ t, exec (.coreDataAccess core) s = .next t ∧ Reports s t EV_GLB_CORE_DATA_ACCESS 0 core [] ∧ t.outbox = s.outbox ++ [.busError core] ∧
      t.mem = s.mem ∧ t.jnl = s.jnl ∧ t.str = s.str ∧ t.key = s.key) ∧
  (∀ (s : State) (ppm : Nat), s.pwr.refBad = false → s.dumping = false → s.boot.act = none →
    ∃ t, exec (.refLost ppm) s = .next t ∧ t.get CLK_STATUS_ref_ok = 0 ∧ t.get CLK_STATUS_holdover = 1 ∧ t.pwr.refBad = true ∧
      t.jnl.phase = .flushing 2 s.dtc ∧ t.boot.after = 6) ∧
  (∀ (s : State) (ppm : Nat), s.pwr.refBad = true →
    ∃ t, exec (.refReturn ppm) s = .next t ∧ t.get CLK_STATUS_ref_ok = 1 ∧ t.get CLK_STATUS_holdover = 0 ∧ t.pwr.refBad = false ∧
      t.jnl = s.jnl) ∧
  (∀ (s : State) (area off : Nat), area < 10 →
    ∃ t, exec (.hbmUe area off .none) s = .next t ∧ Reports s t EV_HBM_UE 0xE area [off % 2 ^ 32, off / 2 ^ 32] ∧ t.jnl = s.jnl ∧ t.str = s.str) ∧
  (∀ (s : State) (area off i : Nat), area < 10 → area ≠ 0 ∨ neveInUnit off i = false →
    ∃ t, exec (.hbmUe area off (.neve i)) s = .next t ∧ Reports s t EV_HBM_UE 0xE area [off % 2 ^ 32, off / 2 ^ 32] ∧ t.jnl = s.jnl) ∧
  (∀ (s : State) (off i : Nat) (x : NeveSlot) (d : NeveDesc), neveInUnit off i = true → tget s.jnl.slots i = some x → x.desc = some d → x.mirror = true →
    s.pair.active = true →
    ∃ t, exec (.hbmUe 0 off (.neve i)) s = .next t ∧ tget t.jnl.slots i = some { x with dataOk := false, fetching := true } ∧
      (s.pair.txNext, PairMsg.neveFetch i) ∈ t.pair.kept ∧ Reports s t EV_HBM_UE 0xE 0 [off % 2 ^ 32, off / 2 ^ 32]) ∧
  (∀ (s : State) (off i : Nat) (x : NeveSlot) (d : NeveDesc), neveInUnit off i = true → tget s.jnl.slots i = some x → x.desc = some d → x.mirror = false →
    s.pair.active = false → s.nsm.deferred = [] →
    ∃ t, exec (.hbmUe 0 off (.neve i)) s = .next t ∧ tget t.jnl.slots i = none ∧
      ∃ e ∈ t.nsm.deferred, e.owner = d.owner ∧ e.slba = d.lba ∧ e.nlb = 1 ∧ e.cause = 2)

/-- R506, R507, R508, R514: what a report, an acknowledgement by the shelf manager, the end of a coalescing window and returning room
do to the EVT block. -/
def Obligations.EventReportsAndBuffer : Prop :=
  (∀ (s : State) (p : Report), p.key = none → s.evt.lostCount = 0 → s.evt.buffer.length < 4096 →
    ∃ t, exec (.eventReport p) s = .next t ∧ t.evt.nextSeq = s.evt.nextSeq + 1 ∧
      (ringsOn s.regs = [] → t.evt.buffer = s.evt.buffer ++ [recOf p s.evt.nextSeq 1 false s.dtc s.dtc]) ∧
      (p.sev = 4 → t.evt.lastFatal = some (p.code, s.evt.nextSeq % 2 ^ 48)) ∧ t.regs = s.regs) ∧
  (∀ (s : State) (p : Report) (k : Nat), p.key = some k → (s.evt.windows.any fun w => w.code = p.code && w.key = k) = true →
    ∃ t, exec (.eventReport p) s = .next t ∧ t.evt.nextSeq = s.evt.nextSeq ∧ t.evt.buffer = s.evt.buffer ∧
      t.evt.windows = s.evt.windows.map fun w => if w.code = p.code && w.key = k then
        { w with count := w.count + 1, firstAt := if w.count = 0 then s.dtc else w.firstAt, lastAt := s.dtc, proto := p } else w) ∧
  (∀ (s : State) (seq : Nat), ∃ t, exec (.pldmAck seq) s = .next t ∧ t.evt.pldm = s.evt.pldm.filter (fun e => e.seq != seq) ∧
    t.evt.buffer = s.evt.buffer) ∧
  (∀ (s : State) (code key : Nat) (w : EvWindow), (s.evt.windows.find? fun w => w.code = code && w.key = key) = some w →
    ∃ t, exec (.coalesceWindowExpiry code key) s = .next t ∧
      t.evt.windows = s.evt.windows.filter (fun v => !(v.code = code && v.key = key)) ∧
      (w.count = 0 → t.evt.nextSeq = s.evt.nextSeq ∧ t.evt.buffer = s.evt.buffer) ∧
      (w.count ≠ 0 → s.evt.lostCount = 0 → s.evt.buffer.length < 4096 → t.evt.nextSeq = s.evt.nextSeq + 1 ∧
        (ringsOn s.regs = [] → t.evt.buffer = s.evt.buffer ++ [recOf w.proto s.evt.nextSeq w.count true w.firstAt w.lastAt]))) ∧
  (∀ (s : State), s.evt.lostCount ≠ 0 → s.evt.buffer.length < 4096 →
    ∃ t, exec .lostRecordEmit s = .next t ∧ t.evt.lostCount = 0 ∧ t.evt.nextSeq = s.evt.nextSeq + 1 ∧
      (ringsOn s.regs = [] → t.evt.buffer = s.evt.buffer ++ [lostRec s.dtc s.evt]))

/-- R510 to R512: a record delivered advances the ring's tail, a full ring stalls and is reported, resuming clears the stall, the head
and the configuration are taken as written, and a notification ends the count of unnotified records. -/
def Obligations.EventRings : Prop :=
  (∀ (s : State) (r : Nat) (e : EvRec), r < 16 → ringEnabled s.regs r = true → s.get EVT_RING_PTR_stalled r = 0 → s.ringFull r = false →
    (s.ring r).owed = none → (s.evt.buffer.find? fun e => ringWants s.regs s.evt.rings e r) = some e →
    ∃ t, exec (.ringDeliver r) s = .next t ∧ t.get EVT_RING_PTR_tail r = (s.get EVT_RING_PTR_tail r + 1) % s.ringSize r ∧
      t.get EVT_RING_PTR_head r = s.get EVT_RING_PTR_head r) ∧
  (∀ (s : State) (r : Nat), r < 16 → (s.ring r).unnotified ≠ 0 → s.get EVT_RING_CFG_target r ≠ 1 → s.get EVT_RING_CFG_target r ≠ 2 →
    ∃ t, exec (.ringNotifyExpiry r) s = .next t ∧ (t.ring r).unnotified = 0 ∧ t.outbox = s.outbox ++ [.ringNotify r]) ∧
  (∀ (s : State) (r : Nat), r < 16 → (s.ring r).unnotified ≠ 0 → s.get EVT_RING_CFG_target r = 1 →
    ∃ t, exec (.ringNotifyExpiry r) s = .next t ∧
      t.outbox = (({ s with evt := { s.evt with rings := tput s.evt.rings r { s.ring r with unnotified := 0 } } } : State).message .fn 0
        (s.get EVT_RING_CFG_vector r)).outbox) ∧
  (∀ (s : State) (r off : Nat) (d : List Byte), r < 16 → (s.ring r).unnotified ≠ 0 → s.get EVT_RING_CFG_target r = 2 →
    (s.ring r).lastWrite = some (off, d) →
    ∃ t, exec (.ringNotifyExpiry r) s = .next t ∧ t.hkt.nextMsg = s.hkt.nextMsg + 1 ∧ t.outbox = s.outbox) ∧
  (∀ (s : State) (r : Nat), r < 16 → ringEnabled s.regs r = true → s.get EVT_RING_PTR_stalled r = 0 → s.ringFull r = true →
    ∃ t, exec (.ringStall r) s = .next t ∧ t.get EVT_RING_PTR_stalled r = 1 ∧
      ∃ u : State, u.dtc = s.dtc ∧ u.evt.nextSeq = s.evt.nextSeq ∧ t.evt = (u.raise EV_EVT_RING_STALLED 0xA r).evt) ∧
  (∀ (s : State) (r : Nat), r < 16 → s.get EVT_RING_PTR_stalled r = 1 →
    ∃ t, exec (.ringStallResume r) s = .next t ∧ t.get EVT_RING_PTR_stalled r = 0) ∧
  (∀ (s : State) (r v : Nat), r < 16 → ∃ t, exec (.ringHeadWrite r v) s = .next t ∧ t.get EVT_RING_PTR_head r = v % 2 ^ 16 ∧
    t.get EVT_RING_PTR_tail r = s.get EVT_RING_PTR_tail r ∧ t.evt.buffer = s.evt.buffer) ∧
  (∀ (s : State) (r v : Nat), r < 16 → ∃ t, exec (.ringEnable r v) s = .next t ∧
    t.get EVT_RING_CFG_en r = v / 2 ^ 63 % 2 ∧ t.get EVT_RING_CFG_target r = v / 2 ^ 61 % 4 ∧
    (v / 2 ^ 63 % 2 = 1 → s.get EVT_RING_CFG_en r ≠ 1 →
      t.get EVT_RING_PTR_tail r = 0 ∧ t.get EVT_RING_PTR_phase r = 1 ∧ t.get EVT_RING_PTR_stalled r = 0))

/-- R515, R517, R519 to R522, R525 to R527: a saturated counter is reported once, a counter is written, an event-select counter is selected and
cleared, the snapshot's sequence, pages and heads move; a captured histogram unit stands in TEL_RD, cleared where that is asked of a unit
that software attaches; a unit's configuration write clears it, and the fixed units 0 to 31 keep theirs. -/
def Obligations.CountersAndHistograms : Prop :=
  (∀ (s : State) (i : Nat), i ∈ s.ctr.satPend → ∃ t, exec (.counterSaturate i) s = .next t ∧ i ∉ t.ctr.satPend ∧
    Reports s t EV_CTR_SATURATED 0xB i []) ∧
  (∀ (s : State) (i v : Nat), i < 6400 → ∃ t, exec (.ctrValWrite i v 0) s = .next t ∧
    (tgetD t.ctr.vals i (0, false)).1 = v % 2 ^ 48 ∧ (v / 2 ^ 63 % 2 = 1 → (tgetD t.ctr.vals i (0, false)).2 = false) ∧
    ∀ j, j ≠ i → tgetD t.ctr.vals j (0, false) = tgetD s.ctr.vals j (0, false)) ∧
  (∀ (s : State) (k v : Nat), k < 256 → ∃ t, exec (.ctrEselWrite k v) s = .next t ∧ t.get CTR_ESEL_en k = v / 2 ^ CTR_ESEL_en.lo % 2 ∧
    t.get CTR_ESEL_sel k = v / 2 ^ CTR_ESEL_sel.lo % 2 ^ CTR_ESEL_sel.w ∧ tgetD t.ctr.vals (6144 + k) (0, false) = (0, false)) ∧
  (∀ (s : State), s.get CTR_SNAP_CFG_period_ms ≠ 0 → ∃ t, exec .snapshotTick s = .next t ∧
    t.get CTR_SNAP_STATUS_snap_seq = (s.get CTR_SNAP_STATUS_snap_seq + 1) % 2 ^ CTR_SNAP_STATUS_snap_seq.w ∧
    t.ctr.pageGen = s.ctr.pageGen + 2 ∧ t.ctr.pageDtc = s.dtc) ∧
  (∀ (s : State) (j v : Nat), j < 4 → ∃ t, exec (.snapshotHeadWrite j v) s = .next t ∧
    t.get CTR_TGT_PTR_head j = v % 2 ^ CTR_TGT_PTR_head.w ∧ t.get CTR_TGT_PTR_tail j = s.get CTR_TGT_PTR_tail j ∧ t.ctr = s.ctr) ∧
  (∀ (s : State) (k : Nat) (c : Bool), k < 1024 → ∃ t, exec (.telCapture k c) s = .next t ∧
    t.get TEL_RD_data 18 = (tgetD s.tel k {}).count % 2 ^ TEL_RD_data.w ∧ t.get TEL_RD_data 19 = (tgetD s.tel k {}).sum % 2 ^ TEL_RD_data.w ∧
    (c = true → 32 ≤ k → tgetD t.tel k {} = {}) ∧ (c = false ∨ k < 32 → t.tel = s.tel)) ∧
  (∀ (s : State) (k v : Nat), 32 ≤ k → k < 1024 → ∃ t, exec (.telUnitCfgWrite k v) s = .next t ∧
    t.get TEL_UNIT_CFG_src k = v / 2 ^ TEL_UNIT_CFG_src.lo % 2 ^ TEL_UNIT_CFG_src.w ∧
    t.get TEL_UNIT_CFG_instance k = v / 2 ^ TEL_UNIT_CFG_instance.lo % 2 ^ TEL_UNIT_CFG_instance.w ∧ tgetD t.tel k {} = {}) ∧
  (∀ (s : State) (k v : Nat), k < 32 → ∃ t, exec (.telUnitCfgWrite k v) s = .next t ∧ t.tel = s.tel ∧ t.regs = s.regs)
end

