-- ==== Sys2Proof/Laws/Table.lean ====
section
/-! SUPPORT. Laws of tables: what a read gives after a write, a removal, a change, a selection of keys. -/

namespace Sys2Proof.Machine

variable {κ α : Type} [DecidableEq κ]

@[simp] theorem tget_nil (k : κ) : tget ([] : Table κ α) k = none := rfl

theorem tget_cons (k k' : κ) (v : α) (t : Table κ α) : tget ((k', v) :: t) k = if k' = k then some v else tget t k := rfl

/-- A read after a write gives the value at the key written, and what was there at another. -/
theorem tget_tput (t : Table κ α) (k j : κ) (v : α) : tget (tput t k v) j = if k = j then some v else tget t j := by
  induction t with
  | nil => simp [tput, tget]
  | cons h t ih =>
    obtain ⟨k', v'⟩ := h
    simp only [tput]
    split
    · next e => subst e; simp only [tget]; split <;> simp_all
    · next e =>
      simp only [tget, ih]
      by_cases h1 : k' = j
      · have : k ≠ j := fun h => e (h1.trans h.symm)
        simp [h1, this]
      · simp [h1]

@[simp] theorem tget_tput_same (t : Table κ α) (k : κ) (v : α) : tget (tput t k v) k = some v := by simp [tget_tput]

theorem tget_tput_other (t : Table κ α) {k j : κ} (v : α) (h : k ≠ j) : tget (tput t k v) j = tget t j := by
  simp [tget_tput, h]

/-- A read after a removal gives nothing at the key removed, and what was there at another. -/
theorem tget_tdel (t : Table κ α) (k j : κ) : tget (tdel t k) j = if k = j then none else tget t j := by
  induction t with
  | nil => simp [tdel, tget]
  | cons h t ih =>
    obtain ⟨k', v'⟩ := h
    simp only [tdel]
    split
    · next e => subst e; simp only [ih, tget]; split <;> simp_all
    · next e =>
      simp only [tget, ih]
      by_cases h1 : k' = j
      · have : k ≠ j := fun h => e (h1.trans h.symm)
        simp [h1, this]
      · simp [h1]

@[simp] theorem tget_tdel_same (t : Table κ α) (k : κ) : tget (tdel t k) k = none := by simp [tget_tdel]

theorem tget_tdel_other (t : Table κ α) {k j : κ} (h : k ≠ j) : tget (tdel t k) j = tget t j := by simp [tget_tdel, h]

/-- A read after a change gives the changed value at its key, and what was there at another. -/
theorem tget_tmod (t : Table κ α) (k j : κ) (f : α → α) :
    tget (tmod t k f) j = if k = j then (tget t j).map f else tget t j := by
  unfold tmod
  split
  · next v h =>
    rw [tget_tput]
    split
    · next e => subst e; simp [h]
    · rfl
  · next h =>
    split
    · next e => subst e; simp [h]
    · rfl

@[simp] theorem tget_tmod_same (t : Table κ α) (k : κ) (f : α → α) : tget (tmod t k f) k = (tget t k).map f := by
  simp [tget_tmod]

theorem tget_tmod_other (t : Table κ α) {k j : κ} (f : α → α) (h : k ≠ j) : tget (tmod t k f) j = tget t j := by
  simp [tget_tmod, h]

@[simp] theorem tgetD_of_some {t : Table κ α} {k : κ} {v : α} (d : α) (h : tget t k = some v) : tgetD t k d = v := by
  simp [tgetD, h]

/-- Reading the entries whose keys satisfy a test. -/
theorem tget_filter (t : Table κ α) (p : κ → Bool) (k : κ) :
    tget (t.filter fun e => p e.1) k = if p k then tget t k else none := by
  induction t with
  | nil => simp [tget]
  | cons h t ih =>
    obtain ⟨k', v'⟩ := h
    by_cases hp : p k' = true
    · simp only [List.filter_cons, hp, if_true, tget, ih]
      by_cases h1 : k' = k
      · subst h1; simp [hp]
      · simp [h1]
    · have hp' : p k' = false := by simpa using hp
      have : List.filter (fun e : κ × α => p e.1) ((k', v') :: t) = List.filter (fun e => p e.1) t := by simp [hp']
      rw [this, ih]
      by_cases h1 : k' = k
      · subst h1; simp [hp']
      · simp [tget, h1]

/-- Reading one table before another. -/
theorem tget_append (t u : Table κ α) (k : κ) : tget (t ++ u) k = (tget t k).or (tget u k) := by
  induction t with
  | nil => simp [tget]
  | cons h t ih =>
    obtain ⟨k', v'⟩ := h
    simp only [List.cons_append, tget, ih]
    split <;> simp

end Sys2Proof.Machine
end

