-- ==== Sys2Proof/Laws/State.lean ====
section
/-! SUPPORT. What the operations every family uses leave unchanged in State: one lemma per operation and field, each by unfolding
once, so that later proofs cite them. -/

namespace Sys2Proof.Machine

/-! ## After a register field set -/

@[simp] theorem set_dtc (s : State) (f : Fld) (i v : Nat) : (s.set f i v).dtc = s.dtc := rfl
@[simp] theorem set_mem (s : State) (f : Fld) (i v : Nat) : (s.set f i v).mem = s.mem := rfl
@[simp] theorem set_evt (s : State) (f : Fld) (i v : Nat) : (s.set f i v).evt = s.evt := rfl
@[simp] theorem set_ctr (s : State) (f : Fld) (i v : Nat) : (s.set f i v).ctr = s.ctr := rfl
@[simp] theorem set_tel (s : State) (f : Fld) (i v : Nat) : (s.set f i v).tel = s.tel := rfl
@[simp] theorem set_hkt (s : State) (f : Fld) (i v : Nat) : (s.set f i v).hkt = s.hkt := rfl
@[simp] theorem set_tms (s : State) (f : Fld) (i v : Nat) : (s.set f i v).tms = s.tms := rfl
@[simp] theorem set_mac (s : State) (f : Fld) (i v : Nat) : (s.set f i v).mac = s.mac := rfl
@[simp] theorem set_swc (s : State) (f : Fld) (i v : Nat) : (s.set f i v).swc = s.swc := rfl
@[simp] theorem set_fwd (s : State) (f : Fld) (i v : Nat) : (s.set f i v).fwd = s.fwd := rfl
@[simp] theorem set_qpe (s : State) (f : Fld) (i v : Nat) : (s.set f i v).qpe = s.qpe := rfl
@[simp] theorem set_nsm (s : State) (f : Fld) (i v : Nat) : (s.set f i v).nsm = s.nsm := rfl
@[simp] theorem set_key (s : State) (f : Fld) (i v : Nat) : (s.set f i v).key = s.key := rfl
@[simp] theorem set_cip (s : State) (f : Fld) (i v : Nat) : (s.set f i v).cip = s.cip := rfl
@[simp] theorem set_hif (s : State) (f : Fld) (i v : Nat) : (s.set f i v).hif = s.hif := rfl
@[simp] theorem set_slc (s : State) (f : Fld) (i v : Nat) : (s.set f i v).slc = s.slc := rfl
@[simp] theorem set_str (s : State) (f : Fld) (i v : Nat) : (s.set f i v).str = s.str := rfl
@[simp] theorem set_jnl (s : State) (f : Fld) (i v : Nat) : (s.set f i v).jnl = s.jnl := rfl
@[simp] theorem set_drv (s : State) (f : Fld) (i v : Nat) : (s.set f i v).drv = s.drv := rfl
@[simp] theorem set_reb (s : State) (f : Fld) (i v : Nat) : (s.set f i v).reb = s.reb := rfl
@[simp] theorem set_pair (s : State) (f : Fld) (i v : Nat) : (s.set f i v).pair = s.pair := rfl
@[simp] theorem set_slt (s : State) (f : Fld) (i v : Nat) : (s.set f i v).slt = s.slt := rfl
@[simp] theorem set_boot (s : State) (f : Fld) (i v : Nat) : (s.set f i v).boot = s.boot := rfl
@[simp] theorem set_rime (s : State) (f : Fld) (i v : Nat) : (s.set f i v).rime = s.rime := rfl
@[simp] theorem set_pwr (s : State) (f : Fld) (i v : Nat) : (s.set f i v).pwr = s.pwr := rfl
@[simp] theorem set_freeCtr (s : State) (f : Fld) (i v : Nat) : (s.set f i v).freeCtr = s.freeCtr := rfl
@[simp] theorem set_outbox (s : State) (f : Fld) (i v : Nat) : (s.set f i v).outbox = s.outbox := rfl
@[simp] theorem set_pending (s : State) (f : Fld) (i v : Nat) : (s.set f i v).pending = s.pending := rfl

/-! ## After a field increased, saturating -/

@[simp] theorem addSat_dtc (s : State) (f : Fld) (i n : Nat) : (s.addSat f i n).dtc = s.dtc := rfl
@[simp] theorem addSat_mem (s : State) (f : Fld) (i n : Nat) : (s.addSat f i n).mem = s.mem := rfl
@[simp] theorem addSat_evt (s : State) (f : Fld) (i n : Nat) : (s.addSat f i n).evt = s.evt := rfl
@[simp] theorem addSat_ctr (s : State) (f : Fld) (i n : Nat) : (s.addSat f i n).ctr = s.ctr := rfl
@[simp] theorem addSat_tel (s : State) (f : Fld) (i n : Nat) : (s.addSat f i n).tel = s.tel := rfl
@[simp] theorem addSat_hkt (s : State) (f : Fld) (i n : Nat) : (s.addSat f i n).hkt = s.hkt := rfl
@[simp] theorem addSat_tms (s : State) (f : Fld) (i n : Nat) : (s.addSat f i n).tms = s.tms := rfl
@[simp] theorem addSat_mac (s : State) (f : Fld) (i n : Nat) : (s.addSat f i n).mac = s.mac := rfl
@[simp] theorem addSat_swc (s : State) (f : Fld) (i n : Nat) : (s.addSat f i n).swc = s.swc := rfl
@[simp] theorem addSat_fwd (s : State) (f : Fld) (i n : Nat) : (s.addSat f i n).fwd = s.fwd := rfl
@[simp] theorem addSat_qpe (s : State) (f : Fld) (i n : Nat) : (s.addSat f i n).qpe = s.qpe := rfl
@[simp] theorem addSat_nsm (s : State) (f : Fld) (i n : Nat) : (s.addSat f i n).nsm = s.nsm := rfl
@[simp] theorem addSat_key (s : State) (f : Fld) (i n : Nat) : (s.addSat f i n).key = s.key := rfl
@[simp] theorem addSat_cip (s : State) (f : Fld) (i n : Nat) : (s.addSat f i n).cip = s.cip := rfl
@[simp] theorem addSat_hif (s : State) (f : Fld) (i n : Nat) : (s.addSat f i n).hif = s.hif := rfl
@[simp] theorem addSat_slc (s : State) (f : Fld) (i n : Nat) : (s.addSat f i n).slc = s.slc := rfl
@[simp] theorem addSat_str (s : State) (f : Fld) (i n : Nat) : (s.addSat f i n).str = s.str := rfl
@[simp] theorem addSat_jnl (s : State) (f : Fld) (i n : Nat) : (s.addSat f i n).jnl = s.jnl := rfl
@[simp] theorem addSat_drv (s : State) (f : Fld) (i n : Nat) : (s.addSat f i n).drv = s.drv := rfl
@[simp] theorem addSat_reb (s : State) (f : Fld) (i n : Nat) : (s.addSat f i n).reb = s.reb := rfl
@[simp] theorem addSat_pair (s : State) (f : Fld) (i n : Nat) : (s.addSat f i n).pair = s.pair := rfl
@[simp] theorem addSat_slt (s : State) (f : Fld) (i n : Nat) : (s.addSat f i n).slt = s.slt := rfl
@[simp] theorem addSat_boot (s : State) (f : Fld) (i n : Nat) : (s.addSat f i n).boot = s.boot := rfl
@[simp] theorem addSat_rime (s : State) (f : Fld) (i n : Nat) : (s.addSat f i n).rime = s.rime := rfl
@[simp] theorem addSat_pwr (s : State) (f : Fld) (i n : Nat) : (s.addSat f i n).pwr = s.pwr := rfl
@[simp] theorem addSat_freeCtr (s : State) (f : Fld) (i n : Nat) : (s.addSat f i n).freeCtr = s.freeCtr := rfl
@[simp] theorem addSat_outbox (s : State) (f : Fld) (i n : Nat) : (s.addSat f i n).outbox = s.outbox := rfl
@[simp] theorem addSat_pending (s : State) (f : Fld) (i n : Nat) : (s.addSat f i n).pending = s.pending := rfl

/-! ## After a field increased by 1 -/

@[simp] theorem inc_dtc (s : State) (f : Fld) (i : Nat) : (s.inc f i).dtc = s.dtc := rfl
@[simp] theorem inc_mem (s : State) (f : Fld) (i : Nat) : (s.inc f i).mem = s.mem := rfl
@[simp] theorem inc_evt (s : State) (f : Fld) (i : Nat) : (s.inc f i).evt = s.evt := rfl
@[simp] theorem inc_ctr (s : State) (f : Fld) (i : Nat) : (s.inc f i).ctr = s.ctr := rfl
@[simp] theorem inc_tel (s : State) (f : Fld) (i : Nat) : (s.inc f i).tel = s.tel := rfl
@[simp] theorem inc_hkt (s : State) (f : Fld) (i : Nat) : (s.inc f i).hkt = s.hkt := rfl
@[simp] theorem inc_tms (s : State) (f : Fld) (i : Nat) : (s.inc f i).tms = s.tms := rfl
@[simp] theorem inc_mac (s : State) (f : Fld) (i : Nat) : (s.inc f i).mac = s.mac := rfl
@[simp] theorem inc_swc (s : State) (f : Fld) (i : Nat) : (s.inc f i).swc = s.swc := rfl
@[simp] theorem inc_fwd (s : State) (f : Fld) (i : Nat) : (s.inc f i).fwd = s.fwd := rfl
@[simp] theorem inc_qpe (s : State) (f : Fld) (i : Nat) : (s.inc f i).qpe = s.qpe := rfl
@[simp] theorem inc_nsm (s : State) (f : Fld) (i : Nat) : (s.inc f i).nsm = s.nsm := rfl
@[simp] theorem inc_key (s : State) (f : Fld) (i : Nat) : (s.inc f i).key = s.key := rfl
@[simp] theorem inc_cip (s : State) (f : Fld) (i : Nat) : (s.inc f i).cip = s.cip := rfl
@[simp] theorem inc_hif (s : State) (f : Fld) (i : Nat) : (s.inc f i).hif = s.hif := rfl
@[simp] theorem inc_slc (s : State) (f : Fld) (i : Nat) : (s.inc f i).slc = s.slc := rfl
@[simp] theorem inc_str (s : State) (f : Fld) (i : Nat) : (s.inc f i).str = s.str := rfl
@[simp] theorem inc_jnl (s : State) (f : Fld) (i : Nat) : (s.inc f i).jnl = s.jnl := rfl
@[simp] theorem inc_drv (s : State) (f : Fld) (i : Nat) : (s.inc f i).drv = s.drv := rfl
@[simp] theorem inc_reb (s : State) (f : Fld) (i : Nat) : (s.inc f i).reb = s.reb := rfl
@[simp] theorem inc_pair (s : State) (f : Fld) (i : Nat) : (s.inc f i).pair = s.pair := rfl
@[simp] theorem inc_slt (s : State) (f : Fld) (i : Nat) : (s.inc f i).slt = s.slt := rfl
@[simp] theorem inc_boot (s : State) (f : Fld) (i : Nat) : (s.inc f i).boot = s.boot := rfl
@[simp] theorem inc_rime (s : State) (f : Fld) (i : Nat) : (s.inc f i).rime = s.rime := rfl
@[simp] theorem inc_pwr (s : State) (f : Fld) (i : Nat) : (s.inc f i).pwr = s.pwr := rfl
@[simp] theorem inc_freeCtr (s : State) (f : Fld) (i : Nat) : (s.inc f i).freeCtr = s.freeCtr := rfl
@[simp] theorem inc_outbox (s : State) (f : Fld) (i : Nat) : (s.inc f i).outbox = s.outbox := rfl
@[simp] theorem inc_pending (s : State) (f : Fld) (i : Nat) : (s.inc f i).pending = s.pending := rfl

/-! ## After something sent -/

@[simp] theorem send_dtc (s : State) (o : Out) : (s.send o).dtc = s.dtc := rfl
@[simp] theorem send_regs (s : State) (o : Out) : (s.send o).regs = s.regs := rfl
@[simp] theorem send_mem (s : State) (o : Out) : (s.send o).mem = s.mem := rfl
@[simp] theorem send_evt (s : State) (o : Out) : (s.send o).evt = s.evt := rfl
@[simp] theorem send_ctr (s : State) (o : Out) : (s.send o).ctr = s.ctr := rfl
@[simp] theorem send_tel (s : State) (o : Out) : (s.send o).tel = s.tel := rfl
@[simp] theorem send_hkt (s : State) (o : Out) : (s.send o).hkt = s.hkt := rfl
@[simp] theorem send_tms (s : State) (o : Out) : (s.send o).tms = s.tms := rfl
@[simp] theorem send_mac (s : State) (o : Out) : (s.send o).mac = s.mac := rfl
@[simp] theorem send_swc (s : State) (o : Out) : (s.send o).swc = s.swc := rfl
@[simp] theorem send_fwd (s : State) (o : Out) : (s.send o).fwd = s.fwd := rfl
@[simp] theorem send_qpe (s : State) (o : Out) : (s.send o).qpe = s.qpe := rfl
@[simp] theorem send_nsm (s : State) (o : Out) : (s.send o).nsm = s.nsm := rfl
@[simp] theorem send_key (s : State) (o : Out) : (s.send o).key = s.key := rfl
@[simp] theorem send_cip (s : State) (o : Out) : (s.send o).cip = s.cip := rfl
@[simp] theorem send_hif (s : State) (o : Out) : (s.send o).hif = s.hif := rfl
@[simp] theorem send_slc (s : State) (o : Out) : (s.send o).slc = s.slc := rfl
@[simp] theorem send_str (s : State) (o : Out) : (s.send o).str = s.str := rfl
@[simp] theorem send_jnl (s : State) (o : Out) : (s.send o).jnl = s.jnl := rfl
@[simp] theorem send_drv (s : State) (o : Out) : (s.send o).drv = s.drv := rfl
@[simp] theorem send_reb (s : State) (o : Out) : (s.send o).reb = s.reb := rfl
@[simp] theorem send_pair (s : State) (o : Out) : (s.send o).pair = s.pair := rfl
@[simp] theorem send_slt (s : State) (o : Out) : (s.send o).slt = s.slt := rfl
@[simp] theorem send_boot (s : State) (o : Out) : (s.send o).boot = s.boot := rfl
@[simp] theorem send_rime (s : State) (o : Out) : (s.send o).rime = s.rime := rfl
@[simp] theorem send_pwr (s : State) (o : Out) : (s.send o).pwr = s.pwr := rfl
@[simp] theorem send_freeCtr (s : State) (o : Out) : (s.send o).freeCtr = s.freeCtr := rfl
@[simp] theorem send_pending (s : State) (o : Out) : (s.send o).pending = s.pending := rfl

/-! ## After a free word taken -/

@[simp] theorem fresh_dtc (s : State) : s.fresh.2.dtc = s.dtc := rfl
@[simp] theorem fresh_regs (s : State) : s.fresh.2.regs = s.regs := rfl
@[simp] theorem fresh_mem (s : State) : s.fresh.2.mem = s.mem := rfl
@[simp] theorem fresh_evt (s : State) : s.fresh.2.evt = s.evt := rfl
@[simp] theorem fresh_ctr (s : State) : s.fresh.2.ctr = s.ctr := rfl
@[simp] theorem fresh_tel (s : State) : s.fresh.2.tel = s.tel := rfl
@[simp] theorem fresh_hkt (s : State) : s.fresh.2.hkt = s.hkt := rfl
@[simp] theorem fresh_tms (s : State) : s.fresh.2.tms = s.tms := rfl
@[simp] theorem fresh_mac (s : State) : s.fresh.2.mac = s.mac := rfl
@[simp] theorem fresh_swc (s : State) : s.fresh.2.swc = s.swc := rfl
@[simp] theorem fresh_fwd (s : State) : s.fresh.2.fwd = s.fwd := rfl
@[simp] theorem fresh_qpe (s : State) : s.fresh.2.qpe = s.qpe := rfl
@[simp] theorem fresh_nsm (s : State) : s.fresh.2.nsm = s.nsm := rfl
@[simp] theorem fresh_key (s : State) : s.fresh.2.key = s.key := rfl
@[simp] theorem fresh_cip (s : State) : s.fresh.2.cip = s.cip := rfl
@[simp] theorem fresh_hif (s : State) : s.fresh.2.hif = s.hif := rfl
@[simp] theorem fresh_slc (s : State) : s.fresh.2.slc = s.slc := rfl
@[simp] theorem fresh_str (s : State) : s.fresh.2.str = s.str := rfl
@[simp] theorem fresh_jnl (s : State) : s.fresh.2.jnl = s.jnl := rfl
@[simp] theorem fresh_drv (s : State) : s.fresh.2.drv = s.drv := rfl
@[simp] theorem fresh_reb (s : State) : s.fresh.2.reb = s.reb := rfl
@[simp] theorem fresh_pair (s : State) : s.fresh.2.pair = s.pair := rfl
@[simp] theorem fresh_slt (s : State) : s.fresh.2.slt = s.slt := rfl
@[simp] theorem fresh_boot (s : State) : s.fresh.2.boot = s.boot := rfl
@[simp] theorem fresh_rime (s : State) : s.fresh.2.rime = s.rime := rfl
@[simp] theorem fresh_pwr (s : State) : s.fresh.2.pwr = s.pwr := rfl
@[simp] theorem fresh_outbox (s : State) : s.fresh.2.outbox = s.outbox := rfl
@[simp] theorem fresh_pending (s : State) : s.fresh.2.pending = s.pending := rfl

/-! ## After a counter increased -/

@[simp] theorem bump_dtc (s : State) (i n : Nat) : (s.bump i n).dtc = s.dtc := rfl
@[simp] theorem bump_regs (s : State) (i n : Nat) : (s.bump i n).regs = s.regs := rfl
@[simp] theorem bump_mem (s : State) (i n : Nat) : (s.bump i n).mem = s.mem := rfl
@[simp] theorem bump_evt (s : State) (i n : Nat) : (s.bump i n).evt = s.evt := rfl
@[simp] theorem bump_tel (s : State) (i n : Nat) : (s.bump i n).tel = s.tel := rfl
@[simp] theorem bump_hkt (s : State) (i n : Nat) : (s.bump i n).hkt = s.hkt := rfl
@[simp] theorem bump_tms (s : State) (i n : Nat) : (s.bump i n).tms = s.tms := rfl
@[simp] theorem bump_mac (s : State) (i n : Nat) : (s.bump i n).mac = s.mac := rfl
@[simp] theorem bump_swc (s : State) (i n : Nat) : (s.bump i n).swc = s.swc := rfl
@[simp] theorem bump_fwd (s : State) (i n : Nat) : (s.bump i n).fwd = s.fwd := rfl
@[simp] theorem bump_qpe (s : State) (i n : Nat) : (s.bump i n).qpe = s.qpe := rfl
@[simp] theorem bump_nsm (s : State) (i n : Nat) : (s.bump i n).nsm = s.nsm := rfl
@[simp] theorem bump_key (s : State) (i n : Nat) : (s.bump i n).key = s.key := rfl
@[simp] theorem bump_cip (s : State) (i n : Nat) : (s.bump i n).cip = s.cip := rfl
@[simp] theorem bump_hif (s : State) (i n : Nat) : (s.bump i n).hif = s.hif := rfl
@[simp] theorem bump_slc (s : State) (i n : Nat) : (s.bump i n).slc = s.slc := rfl
@[simp] theorem bump_str (s : State) (i n : Nat) : (s.bump i n).str = s.str := rfl
@[simp] theorem bump_jnl (s : State) (i n : Nat) : (s.bump i n).jnl = s.jnl := rfl
@[simp] theorem bump_drv (s : State) (i n : Nat) : (s.bump i n).drv = s.drv := rfl
@[simp] theorem bump_reb (s : State) (i n : Nat) : (s.bump i n).reb = s.reb := rfl
@[simp] theorem bump_pair (s : State) (i n : Nat) : (s.bump i n).pair = s.pair := rfl
@[simp] theorem bump_slt (s : State) (i n : Nat) : (s.bump i n).slt = s.slt := rfl
@[simp] theorem bump_boot (s : State) (i n : Nat) : (s.bump i n).boot = s.boot := rfl
@[simp] theorem bump_rime (s : State) (i n : Nat) : (s.bump i n).rime = s.rime := rfl
@[simp] theorem bump_pwr (s : State) (i n : Nat) : (s.bump i n).pwr = s.pwr := rfl
@[simp] theorem bump_freeCtr (s : State) (i n : Nat) : (s.bump i n).freeCtr = s.freeCtr := rfl
@[simp] theorem bump_outbox (s : State) (i n : Nat) : (s.bump i n).outbox = s.outbox := rfl
@[simp] theorem bump_pending (s : State) (i n : Nat) : (s.bump i n).pending = s.pending := rfl

/-! ## After event-select counters increased -/

@[simp] theorem esel_dtc (s : State) (k l i n : Nat) : (s.esel k l i n).dtc = s.dtc := rfl
@[simp] theorem esel_regs (s : State) (k l i n : Nat) : (s.esel k l i n).regs = s.regs := rfl
@[simp] theorem esel_mem (s : State) (k l i n : Nat) : (s.esel k l i n).mem = s.mem := rfl
@[simp] theorem esel_evt (s : State) (k l i n : Nat) : (s.esel k l i n).evt = s.evt := rfl
@[simp] theorem esel_tel (s : State) (k l i n : Nat) : (s.esel k l i n).tel = s.tel := rfl
@[simp] theorem esel_hkt (s : State) (k l i n : Nat) : (s.esel k l i n).hkt = s.hkt := rfl
@[simp] theorem esel_tms (s : State) (k l i n : Nat) : (s.esel k l i n).tms = s.tms := rfl
@[simp] theorem esel_mac (s : State) (k l i n : Nat) : (s.esel k l i n).mac = s.mac := rfl
@[simp] theorem esel_swc (s : State) (k l i n : Nat) : (s.esel k l i n).swc = s.swc := rfl
@[simp] theorem esel_fwd (s : State) (k l i n : Nat) : (s.esel k l i n).fwd = s.fwd := rfl
@[simp] theorem esel_qpe (s : State) (k l i n : Nat) : (s.esel k l i n).qpe = s.qpe := rfl
@[simp] theorem esel_nsm (s : State) (k l i n : Nat) : (s.esel k l i n).nsm = s.nsm := rfl
@[simp] theorem esel_key (s : State) (k l i n : Nat) : (s.esel k l i n).key = s.key := rfl
@[simp] theorem esel_cip (s : State) (k l i n : Nat) : (s.esel k l i n).cip = s.cip := rfl
@[simp] theorem esel_hif (s : State) (k l i n : Nat) : (s.esel k l i n).hif = s.hif := rfl
@[simp] theorem esel_slc (s : State) (k l i n : Nat) : (s.esel k l i n).slc = s.slc := rfl
@[simp] theorem esel_str (s : State) (k l i n : Nat) : (s.esel k l i n).str = s.str := rfl
@[simp] theorem esel_jnl (s : State) (k l i n : Nat) : (s.esel k l i n).jnl = s.jnl := rfl
@[simp] theorem esel_drv (s : State) (k l i n : Nat) : (s.esel k l i n).drv = s.drv := rfl
@[simp] theorem esel_reb (s : State) (k l i n : Nat) : (s.esel k l i n).reb = s.reb := rfl
@[simp] theorem esel_pair (s : State) (k l i n : Nat) : (s.esel k l i n).pair = s.pair := rfl
@[simp] theorem esel_slt (s : State) (k l i n : Nat) : (s.esel k l i n).slt = s.slt := rfl
@[simp] theorem esel_boot (s : State) (k l i n : Nat) : (s.esel k l i n).boot = s.boot := rfl
@[simp] theorem esel_rime (s : State) (k l i n : Nat) : (s.esel k l i n).rime = s.rime := rfl
@[simp] theorem esel_pwr (s : State) (k l i n : Nat) : (s.esel k l i n).pwr = s.pwr := rfl
@[simp] theorem esel_freeCtr (s : State) (k l i n : Nat) : (s.esel k l i n).freeCtr = s.freeCtr := rfl
@[simp] theorem esel_outbox (s : State) (k l i n : Nat) : (s.esel k l i n).outbox = s.outbox := rfl
@[simp] theorem esel_pending (s : State) (k l i n : Nat) : (s.esel k l i n).pending = s.pending := rfl

/-! ## After a report -/

@[simp] theorem report_dtc (s : State) (p : Report) : (s.report p).dtc = s.dtc := rfl
@[simp] theorem report_regs (s : State) (p : Report) : (s.report p).regs = s.regs := rfl
@[simp] theorem report_mem (s : State) (p : Report) : (s.report p).mem = s.mem := rfl
@[simp] theorem report_tel (s : State) (p : Report) : (s.report p).tel = s.tel := rfl
@[simp] theorem report_hkt (s : State) (p : Report) : (s.report p).hkt = s.hkt := rfl
@[simp] theorem report_tms (s : State) (p : Report) : (s.report p).tms = s.tms := rfl
@[simp] theorem report_mac (s : State) (p : Report) : (s.report p).mac = s.mac := rfl
@[simp] theorem report_swc (s : State) (p : Report) : (s.report p).swc = s.swc := rfl
@[simp] theorem report_fwd (s : State) (p : Report) : (s.report p).fwd = s.fwd := rfl
@[simp] theorem report_qpe (s : State) (p : Report) : (s.report p).qpe = s.qpe := rfl
@[simp] theorem report_nsm (s : State) (p : Report) : (s.report p).nsm = s.nsm := rfl
@[simp] theorem report_key (s : State) (p : Report) : (s.report p).key = s.key := rfl
@[simp] theorem report_cip (s : State) (p : Report) : (s.report p).cip = s.cip := rfl
@[simp] theorem report_hif (s : State) (p : Report) : (s.report p).hif = s.hif := rfl
@[simp] theorem report_slc (s : State) (p : Report) : (s.report p).slc = s.slc := rfl
@[simp] theorem report_str (s : State) (p : Report) : (s.report p).str = s.str := rfl
@[simp] theorem report_jnl (s : State) (p : Report) : (s.report p).jnl = s.jnl := rfl
@[simp] theorem report_drv (s : State) (p : Report) : (s.report p).drv = s.drv := rfl
@[simp] theorem report_reb (s : State) (p : Report) : (s.report p).reb = s.reb := rfl
@[simp] theorem report_pair (s : State) (p : Report) : (s.report p).pair = s.pair := rfl
@[simp] theorem report_slt (s : State) (p : Report) : (s.report p).slt = s.slt := rfl
@[simp] theorem report_boot (s : State) (p : Report) : (s.report p).boot = s.boot := rfl
@[simp] theorem report_rime (s : State) (p : Report) : (s.report p).rime = s.rime := rfl
@[simp] theorem report_pwr (s : State) (p : Report) : (s.report p).pwr = s.pwr := rfl
@[simp] theorem report_freeCtr (s : State) (p : Report) : (s.report p).freeCtr = s.freeCtr := rfl
@[simp] theorem report_outbox (s : State) (p : Report) : (s.report p).outbox = s.outbox := rfl
@[simp] theorem report_pending (s : State) (p : Report) : (s.report p).pending = s.pending := rfl

/-! ## After an event -/

@[simp] theorem raise_dtc (s : State) (e : EvType) (k n : Nat) (l : List Nat) : (s.raise e k n l).dtc = s.dtc := rfl
@[simp] theorem raise_regs (s : State) (e : EvType) (k n : Nat) (l : List Nat) : (s.raise e k n l).regs = s.regs := rfl
@[simp] theorem raise_mem (s : State) (e : EvType) (k n : Nat) (l : List Nat) : (s.raise e k n l).mem = s.mem := rfl
@[simp] theorem raise_tel (s : State) (e : EvType) (k n : Nat) (l : List Nat) : (s.raise e k n l).tel = s.tel := rfl
@[simp] theorem raise_hkt (s : State) (e : EvType) (k n : Nat) (l : List Nat) : (s.raise e k n l).hkt = s.hkt := rfl
@[simp] theorem raise_tms (s : State) (e : EvType) (k n : Nat) (l : List Nat) : (s.raise e k n l).tms = s.tms := rfl
@[simp] theorem raise_mac (s : State) (e : EvType) (k n : Nat) (l : List Nat) : (s.raise e k n l).mac = s.mac := rfl
@[simp] theorem raise_swc (s : State) (e : EvType) (k n : Nat) (l : List Nat) : (s.raise e k n l).swc = s.swc := rfl
@[simp] theorem raise_fwd (s : State) (e : EvType) (k n : Nat) (l : List Nat) : (s.raise e k n l).fwd = s.fwd := rfl
@[simp] theorem raise_qpe (s : State) (e : EvType) (k n : Nat) (l : List Nat) : (s.raise e k n l).qpe = s.qpe := rfl
@[simp] theorem raise_nsm (s : State) (e : EvType) (k n : Nat) (l : List Nat) : (s.raise e k n l).nsm = s.nsm := rfl
@[simp] theorem raise_key (s : State) (e : EvType) (k n : Nat) (l : List Nat) : (s.raise e k n l).key = s.key := rfl
@[simp] theorem raise_cip (s : State) (e : EvType) (k n : Nat) (l : List Nat) : (s.raise e k n l).cip = s.cip := rfl
@[simp] theorem raise_hif (s : State) (e : EvType) (k n : Nat) (l : List Nat) : (s.raise e k n l).hif = s.hif := rfl
@[simp] theorem raise_slc (s : State) (e : EvType) (k n : Nat) (l : List Nat) : (s.raise e k n l).slc = s.slc := rfl
@[simp] theorem raise_str (s : State) (e : EvType) (k n : Nat) (l : List Nat) : (s.raise e k n l).str = s.str := rfl
@[simp] theorem raise_jnl (s : State) (e : EvType) (k n : Nat) (l : List Nat) : (s.raise e k n l).jnl = s.jnl := rfl
@[simp] theorem raise_drv (s : State) (e : EvType) (k n : Nat) (l : List Nat) : (s.raise e k n l).drv = s.drv := rfl
@[simp] theorem raise_reb (s : State) (e : EvType) (k n : Nat) (l : List Nat) : (s.raise e k n l).reb = s.reb := rfl
@[simp] theorem raise_pair (s : State) (e : EvType) (k n : Nat) (l : List Nat) : (s.raise e k n l).pair = s.pair := rfl
@[simp] theorem raise_slt (s : State) (e : EvType) (k n : Nat) (l : List Nat) : (s.raise e k n l).slt = s.slt := rfl
@[simp] theorem raise_boot (s : State) (e : EvType) (k n : Nat) (l : List Nat) : (s.raise e k n l).boot = s.boot := rfl
@[simp] theorem raise_rime (s : State) (e : EvType) (k n : Nat) (l : List Nat) : (s.raise e k n l).rime = s.rime := rfl
@[simp] theorem raise_pwr (s : State) (e : EvType) (k n : Nat) (l : List Nat) : (s.raise e k n l).pwr = s.pwr := rfl
@[simp] theorem raise_freeCtr (s : State) (e : EvType) (k n : Nat) (l : List Nat) : (s.raise e k n l).freeCtr = s.freeCtr := rfl
@[simp] theorem raise_outbox (s : State) (e : EvType) (k n : Nat) (l : List Nat) : (s.raise e k n l).outbox = s.outbox := rfl
@[simp] theorem raise_pending (s : State) (e : EvType) (k n : Nat) (l : List Nat) : (s.raise e k n l).pending = s.pending := rfl

/-! ## After a coalesced event -/

@[simp] theorem raiseCo_dtc (s : State) (e : EvType) (q k n : Nat) (l : List Nat) : (s.raiseCo e q k n l).dtc = s.dtc := rfl
@[simp] theorem raiseCo_regs (s : State) (e : EvType) (q k n : Nat) (l : List Nat) : (s.raiseCo e q k n l).regs = s.regs := rfl
@[simp] theorem raiseCo_mem (s : State) (e : EvType) (q k n : Nat) (l : List Nat) : (s.raiseCo e q k n l).mem = s.mem := rfl
@[simp] theorem raiseCo_tel (s : State) (e : EvType) (q k n : Nat) (l : List Nat) : (s.raiseCo e q k n l).tel = s.tel := rfl
@[simp] theorem raiseCo_hkt (s : State) (e : EvType) (q k n : Nat) (l : List Nat) : (s.raiseCo e q k n l).hkt = s.hkt := rfl
@[simp] theorem raiseCo_tms (s : State) (e : EvType) (q k n : Nat) (l : List Nat) : (s.raiseCo e q k n l).tms = s.tms := rfl
@[simp] theorem raiseCo_mac (s : State) (e : EvType) (q k n : Nat) (l : List Nat) : (s.raiseCo e q k n l).mac = s.mac := rfl
@[simp] theorem raiseCo_swc (s : State) (e : EvType) (q k n : Nat) (l : List Nat) : (s.raiseCo e q k n l).swc = s.swc := rfl
@[simp] theorem raiseCo_fwd (s : State) (e : EvType) (q k n : Nat) (l : List Nat) : (s.raiseCo e q k n l).fwd = s.fwd := rfl
@[simp] theorem raiseCo_qpe (s : State) (e : EvType) (q k n : Nat) (l : List Nat) : (s.raiseCo e q k n l).qpe = s.qpe := rfl
@[simp] theorem raiseCo_nsm (s : State) (e : EvType) (q k n : Nat) (l : List Nat) : (s.raiseCo e q k n l).nsm = s.nsm := rfl
@[simp] theorem raiseCo_key (s : State) (e : EvType) (q k n : Nat) (l : List Nat) : (s.raiseCo e q k n l).key = s.key := rfl
@[simp] theorem raiseCo_cip (s : State) (e : EvType) (q k n : Nat) (l : List Nat) : (s.raiseCo e q k n l).cip = s.cip := rfl
@[simp] theorem raiseCo_hif (s : State) (e : EvType) (q k n : Nat) (l : List Nat) : (s.raiseCo e q k n l).hif = s.hif := rfl
@[simp] theorem raiseCo_slc (s : State) (e : EvType) (q k n : Nat) (l : List Nat) : (s.raiseCo e q k n l).slc = s.slc := rfl
@[simp] theorem raiseCo_str (s : State) (e : EvType) (q k n : Nat) (l : List Nat) : (s.raiseCo e q k n l).str = s.str := rfl
@[simp] theorem raiseCo_jnl (s : State) (e : EvType) (q k n : Nat) (l : List Nat) : (s.raiseCo e q k n l).jnl = s.jnl := rfl
@[simp] theorem raiseCo_drv (s : State) (e : EvType) (q k n : Nat) (l : List Nat) : (s.raiseCo e q k n l).drv = s.drv := rfl
@[simp] theorem raiseCo_reb (s : State) (e : EvType) (q k n : Nat) (l : List Nat) : (s.raiseCo e q k n l).reb = s.reb := rfl
@[simp] theorem raiseCo_pair (s : State) (e : EvType) (q k n : Nat) (l : List Nat) : (s.raiseCo e q k n l).pair = s.pair := rfl
@[simp] theorem raiseCo_slt (s : State) (e : EvType) (q k n : Nat) (l : List Nat) : (s.raiseCo e q k n l).slt = s.slt := rfl
@[simp] theorem raiseCo_boot (s : State) (e : EvType) (q k n : Nat) (l : List Nat) : (s.raiseCo e q k n l).boot = s.boot := rfl
@[simp] theorem raiseCo_rime (s : State) (e : EvType) (q k n : Nat) (l : List Nat) : (s.raiseCo e q k n l).rime = s.rime := rfl
@[simp] theorem raiseCo_pwr (s : State) (e : EvType) (q k n : Nat) (l : List Nat) : (s.raiseCo e q k n l).pwr = s.pwr := rfl
@[simp] theorem raiseCo_freeCtr (s : State) (e : EvType) (q k n : Nat) (l : List Nat) : (s.raiseCo e q k n l).freeCtr = s.freeCtr := rfl
@[simp] theorem raiseCo_outbox (s : State) (e : EvType) (q k n : Nat) (l : List Nat) : (s.raiseCo e q k n l).outbox = s.outbox := rfl
@[simp] theorem raiseCo_pending (s : State) (e : EvType) (q k n : Nat) (l : List Nat) : (s.raiseCo e q k n l).pending = s.pending := rfl

/-! ## After a histogram sample -/

@[simp] theorem sample_dtc (s : State) (c i v : Nat) (d : Bool) (o : Nat) : (s.sample c i v d o).dtc = s.dtc := rfl
@[simp] theorem sample_regs (s : State) (c i v : Nat) (d : Bool) (o : Nat) : (s.sample c i v d o).regs = s.regs := rfl
@[simp] theorem sample_mem (s : State) (c i v : Nat) (d : Bool) (o : Nat) : (s.sample c i v d o).mem = s.mem := rfl
@[simp] theorem sample_evt (s : State) (c i v : Nat) (d : Bool) (o : Nat) : (s.sample c i v d o).evt = s.evt := rfl
@[simp] theorem sample_ctr (s : State) (c i v : Nat) (d : Bool) (o : Nat) : (s.sample c i v d o).ctr = s.ctr := rfl
@[simp] theorem sample_hkt (s : State) (c i v : Nat) (d : Bool) (o : Nat) : (s.sample c i v d o).hkt = s.hkt := rfl
@[simp] theorem sample_tms (s : State) (c i v : Nat) (d : Bool) (o : Nat) : (s.sample c i v d o).tms = s.tms := rfl
@[simp] theorem sample_mac (s : State) (c i v : Nat) (d : Bool) (o : Nat) : (s.sample c i v d o).mac = s.mac := rfl
@[simp] theorem sample_swc (s : State) (c i v : Nat) (d : Bool) (o : Nat) : (s.sample c i v d o).swc = s.swc := rfl
@[simp] theorem sample_fwd (s : State) (c i v : Nat) (d : Bool) (o : Nat) : (s.sample c i v d o).fwd = s.fwd := rfl
@[simp] theorem sample_qpe (s : State) (c i v : Nat) (d : Bool) (o : Nat) : (s.sample c i v d o).qpe = s.qpe := rfl
@[simp] theorem sample_nsm (s : State) (c i v : Nat) (d : Bool) (o : Nat) : (s.sample c i v d o).nsm = s.nsm := rfl
@[simp] theorem sample_key (s : State) (c i v : Nat) (d : Bool) (o : Nat) : (s.sample c i v d o).key = s.key := rfl
@[simp] theorem sample_cip (s : State) (c i v : Nat) (d : Bool) (o : Nat) : (s.sample c i v d o).cip = s.cip := rfl
@[simp] theorem sample_hif (s : State) (c i v : Nat) (d : Bool) (o : Nat) : (s.sample c i v d o).hif = s.hif := rfl
@[simp] theorem sample_slc (s : State) (c i v : Nat) (d : Bool) (o : Nat) : (s.sample c i v d o).slc = s.slc := rfl
@[simp] theorem sample_str (s : State) (c i v : Nat) (d : Bool) (o : Nat) : (s.sample c i v d o).str = s.str := rfl
@[simp] theorem sample_jnl (s : State) (c i v : Nat) (d : Bool) (o : Nat) : (s.sample c i v d o).jnl = s.jnl := rfl
@[simp] theorem sample_drv (s : State) (c i v : Nat) (d : Bool) (o : Nat) : (s.sample c i v d o).drv = s.drv := rfl
@[simp] theorem sample_reb (s : State) (c i v : Nat) (d : Bool) (o : Nat) : (s.sample c i v d o).reb = s.reb := rfl
@[simp] theorem sample_pair (s : State) (c i v : Nat) (d : Bool) (o : Nat) : (s.sample c i v d o).pair = s.pair := rfl
@[simp] theorem sample_slt (s : State) (c i v : Nat) (d : Bool) (o : Nat) : (s.sample c i v d o).slt = s.slt := rfl
@[simp] theorem sample_boot (s : State) (c i v : Nat) (d : Bool) (o : Nat) : (s.sample c i v d o).boot = s.boot := rfl
@[simp] theorem sample_rime (s : State) (c i v : Nat) (d : Bool) (o : Nat) : (s.sample c i v d o).rime = s.rime := rfl
@[simp] theorem sample_pwr (s : State) (c i v : Nat) (d : Bool) (o : Nat) : (s.sample c i v d o).pwr = s.pwr := rfl
@[simp] theorem sample_freeCtr (s : State) (c i v : Nat) (d : Bool) (o : Nat) : (s.sample c i v d o).freeCtr = s.freeCtr := rfl
@[simp] theorem sample_outbox (s : State) (c i v : Nat) (d : Bool) (o : Nat) : (s.sample c i v d o).outbox = s.outbox := rfl
@[simp] theorem sample_pending (s : State) (c i v : Nat) (d : Bool) (o : Nat) : (s.sample c i v d o).pending = s.pending := rfl

/-! ## After a watched state entered -/

@[simp] theorem enter_dtc (s : State) (i : Nat) : (s.enter i).dtc = s.dtc := by unfold State.enter; split <;> rfl
@[simp] theorem enter_regs (s : State) (i : Nat) : (s.enter i).regs = s.regs := by unfold State.enter; split <;> rfl
@[simp] theorem enter_mem (s : State) (i : Nat) : (s.enter i).mem = s.mem := by unfold State.enter; split <;> rfl
@[simp] theorem enter_evt (s : State) (i : Nat) : (s.enter i).evt = s.evt := by unfold State.enter; split <;> rfl
@[simp] theorem enter_tel (s : State) (i : Nat) : (s.enter i).tel = s.tel := by unfold State.enter; split <;> rfl
@[simp] theorem enter_hkt (s : State) (i : Nat) : (s.enter i).hkt = s.hkt := by unfold State.enter; split <;> rfl
@[simp] theorem enter_tms (s : State) (i : Nat) : (s.enter i).tms = s.tms := by unfold State.enter; split <;> rfl
@[simp] theorem enter_mac (s : State) (i : Nat) : (s.enter i).mac = s.mac := by unfold State.enter; split <;> rfl
@[simp] theorem enter_swc (s : State) (i : Nat) : (s.enter i).swc = s.swc := by unfold State.enter; split <;> rfl
@[simp] theorem enter_fwd (s : State) (i : Nat) : (s.enter i).fwd = s.fwd := by unfold State.enter; split <;> rfl
@[simp] theorem enter_qpe (s : State) (i : Nat) : (s.enter i).qpe = s.qpe := by unfold State.enter; split <;> rfl
@[simp] theorem enter_nsm (s : State) (i : Nat) : (s.enter i).nsm = s.nsm := by unfold State.enter; split <;> rfl
@[simp] theorem enter_key (s : State) (i : Nat) : (s.enter i).key = s.key := by unfold State.enter; split <;> rfl
@[simp] theorem enter_cip (s : State) (i : Nat) : (s.enter i).cip = s.cip := by unfold State.enter; split <;> rfl
@[simp] theorem enter_hif (s : State) (i : Nat) : (s.enter i).hif = s.hif := by unfold State.enter; split <;> rfl
@[simp] theorem enter_slc (s : State) (i : Nat) : (s.enter i).slc = s.slc := by unfold State.enter; split <;> rfl
@[simp] theorem enter_str (s : State) (i : Nat) : (s.enter i).str = s.str := by unfold State.enter; split <;> rfl
@[simp] theorem enter_jnl (s : State) (i : Nat) : (s.enter i).jnl = s.jnl := by unfold State.enter; split <;> rfl
@[simp] theorem enter_drv (s : State) (i : Nat) : (s.enter i).drv = s.drv := by unfold State.enter; split <;> rfl
@[simp] theorem enter_reb (s : State) (i : Nat) : (s.enter i).reb = s.reb := by unfold State.enter; split <;> rfl
@[simp] theorem enter_pair (s : State) (i : Nat) : (s.enter i).pair = s.pair := by unfold State.enter; split <;> rfl
@[simp] theorem enter_slt (s : State) (i : Nat) : (s.enter i).slt = s.slt := by unfold State.enter; split <;> rfl
@[simp] theorem enter_boot (s : State) (i : Nat) : (s.enter i).boot = s.boot := by unfold State.enter; split <;> rfl
@[simp] theorem enter_rime (s : State) (i : Nat) : (s.enter i).rime = s.rime := by unfold State.enter; split <;> rfl
@[simp] theorem enter_pwr (s : State) (i : Nat) : (s.enter i).pwr = s.pwr := by unfold State.enter; split <;> rfl
@[simp] theorem enter_freeCtr (s : State) (i : Nat) : (s.enter i).freeCtr = s.freeCtr := by unfold State.enter; split <;> rfl
@[simp] theorem enter_outbox (s : State) (i : Nat) : (s.enter i).outbox = s.outbox := by unfold State.enter; split <;> rfl
@[simp] theorem enter_pending (s : State) (i : Nat) : (s.enter i).pending = s.pending := by unfold State.enter; split <;> rfl
@[simp] theorem get_enter (s : State) (i : Nat) (g : Fld) (j : Nat) : (s.enter i).get g j = s.get g j := by simp [State.get]

/-! ## After a watched state left -/

@[simp] theorem leave_dtc (s : State) (i : Nat) : (s.leave i).dtc = s.dtc := by unfold State.leave; split <;> rfl
@[simp] theorem leave_regs (s : State) (i : Nat) : (s.leave i).regs = s.regs := by unfold State.leave; split <;> rfl
@[simp] theorem leave_mem (s : State) (i : Nat) : (s.leave i).mem = s.mem := by unfold State.leave; split <;> rfl
@[simp] theorem leave_evt (s : State) (i : Nat) : (s.leave i).evt = s.evt := by unfold State.leave; split <;> rfl
@[simp] theorem leave_tel (s : State) (i : Nat) : (s.leave i).tel = s.tel := by unfold State.leave; split <;> rfl
@[simp] theorem leave_hkt (s : State) (i : Nat) : (s.leave i).hkt = s.hkt := by unfold State.leave; split <;> rfl
@[simp] theorem leave_tms (s : State) (i : Nat) : (s.leave i).tms = s.tms := by unfold State.leave; split <;> rfl
@[simp] theorem leave_mac (s : State) (i : Nat) : (s.leave i).mac = s.mac := by unfold State.leave; split <;> rfl
@[simp] theorem leave_swc (s : State) (i : Nat) : (s.leave i).swc = s.swc := by unfold State.leave; split <;> rfl
@[simp] theorem leave_fwd (s : State) (i : Nat) : (s.leave i).fwd = s.fwd := by unfold State.leave; split <;> rfl
@[simp] theorem leave_qpe (s : State) (i : Nat) : (s.leave i).qpe = s.qpe := by unfold State.leave; split <;> rfl
@[simp] theorem leave_nsm (s : State) (i : Nat) : (s.leave i).nsm = s.nsm := by unfold State.leave; split <;> rfl
@[simp] theorem leave_key (s : State) (i : Nat) : (s.leave i).key = s.key := by unfold State.leave; split <;> rfl
@[simp] theorem leave_cip (s : State) (i : Nat) : (s.leave i).cip = s.cip := by unfold State.leave; split <;> rfl
@[simp] theorem leave_hif (s : State) (i : Nat) : (s.leave i).hif = s.hif := by unfold State.leave; split <;> rfl
@[simp] theorem leave_slc (s : State) (i : Nat) : (s.leave i).slc = s.slc := by unfold State.leave; split <;> rfl
@[simp] theorem leave_str (s : State) (i : Nat) : (s.leave i).str = s.str := by unfold State.leave; split <;> rfl
@[simp] theorem leave_jnl (s : State) (i : Nat) : (s.leave i).jnl = s.jnl := by unfold State.leave; split <;> rfl
@[simp] theorem leave_drv (s : State) (i : Nat) : (s.leave i).drv = s.drv := by unfold State.leave; split <;> rfl
@[simp] theorem leave_reb (s : State) (i : Nat) : (s.leave i).reb = s.reb := by unfold State.leave; split <;> rfl
@[simp] theorem leave_pair (s : State) (i : Nat) : (s.leave i).pair = s.pair := by unfold State.leave; split <;> rfl
@[simp] theorem leave_slt (s : State) (i : Nat) : (s.leave i).slt = s.slt := by unfold State.leave; split <;> rfl
@[simp] theorem leave_boot (s : State) (i : Nat) : (s.leave i).boot = s.boot := by unfold State.leave; split <;> rfl
@[simp] theorem leave_rime (s : State) (i : Nat) : (s.leave i).rime = s.rime := by unfold State.leave; split <;> rfl
@[simp] theorem leave_pwr (s : State) (i : Nat) : (s.leave i).pwr = s.pwr := by unfold State.leave; split <;> rfl
@[simp] theorem leave_freeCtr (s : State) (i : Nat) : (s.leave i).freeCtr = s.freeCtr := by unfold State.leave; split <;> rfl
@[simp] theorem leave_outbox (s : State) (i : Nat) : (s.leave i).outbox = s.outbox := by unfold State.leave; split <;> rfl
@[simp] theorem leave_pending (s : State) (i : Nat) : (s.leave i).pending = s.pending := by unfold State.leave; split <;> rfl
@[simp] theorem get_leave (s : State) (i : Nat) (g : Fld) (j : Nat) : (s.leave i).get g j = s.get g j := by simp [State.get]

/-! ## After an effect that leaves module memory alone -/

@[simp] theorem sameMem_dtc (s t : State) : (s.sameMem t).dtc = t.dtc := rfl
@[simp] theorem sameMem_regs (s t : State) : (s.sameMem t).regs = t.regs := rfl
@[simp] theorem sameMem_evt (s t : State) : (s.sameMem t).evt = t.evt := rfl
@[simp] theorem sameMem_ctr (s t : State) : (s.sameMem t).ctr = t.ctr := rfl
@[simp] theorem sameMem_tel (s t : State) : (s.sameMem t).tel = t.tel := rfl
@[simp] theorem sameMem_hkt (s t : State) : (s.sameMem t).hkt = t.hkt := rfl
@[simp] theorem sameMem_tms (s t : State) : (s.sameMem t).tms = t.tms := rfl
@[simp] theorem sameMem_mac (s t : State) : (s.sameMem t).mac = t.mac := rfl
@[simp] theorem sameMem_swc (s t : State) : (s.sameMem t).swc = t.swc := rfl
@[simp] theorem sameMem_fwd (s t : State) : (s.sameMem t).fwd = t.fwd := rfl
@[simp] theorem sameMem_qpe (s t : State) : (s.sameMem t).qpe = t.qpe := rfl
@[simp] theorem sameMem_nsm (s t : State) : (s.sameMem t).nsm = t.nsm := rfl
@[simp] theorem sameMem_key (s t : State) : (s.sameMem t).key = t.key := rfl
@[simp] theorem sameMem_cip (s t : State) : (s.sameMem t).cip = t.cip := rfl
@[simp] theorem sameMem_hif (s t : State) : (s.sameMem t).hif = t.hif := rfl
@[simp] theorem sameMem_slc (s t : State) : (s.sameMem t).slc = t.slc := rfl
@[simp] theorem sameMem_str (s t : State) : (s.sameMem t).str = t.str := rfl
@[simp] theorem sameMem_jnl (s t : State) : (s.sameMem t).jnl = t.jnl := rfl
@[simp] theorem sameMem_drv (s t : State) : (s.sameMem t).drv = t.drv := rfl
@[simp] theorem sameMem_reb (s t : State) : (s.sameMem t).reb = t.reb := rfl
@[simp] theorem sameMem_pair (s t : State) : (s.sameMem t).pair = t.pair := rfl
@[simp] theorem sameMem_slt (s t : State) : (s.sameMem t).slt = t.slt := rfl
@[simp] theorem sameMem_boot (s t : State) : (s.sameMem t).boot = t.boot := rfl
@[simp] theorem sameMem_rime (s t : State) : (s.sameMem t).rime = t.rime := rfl
@[simp] theorem sameMem_pwr (s t : State) : (s.sameMem t).pwr = t.pwr := rfl
@[simp] theorem sameMem_freeCtr (s t : State) : (s.sameMem t).freeCtr = t.freeCtr := rfl
@[simp] theorem sameMem_outbox (s t : State) : (s.sameMem t).outbox = t.outbox := rfl
@[simp] theorem sameMem_pending (s t : State) : (s.sameMem t).pending = t.pending := rfl
@[simp] theorem get_sameMem (s t : State) (g : Fld) (j : Nat) : (s.sameMem t).get g j = t.get g j := rfl

/-! ## Reading register fields -/

@[simp] theorem set_regs (s : State) (f : Fld) (i v : Nat) : (s.set f i v).regs = regSet s.regs f i v := rfl

/-- A field read back after a write: the value cut to the field's width. -/
@[simp] theorem get_set_same (s : State) (f : Fld) (i v : Nat) : (s.set f i v).get f i = v % 2 ^ f.w := by
  simp [State.get, State.set, regGet, regSet]

/-- A field of another register, element or place reads as before. -/
theorem get_set_other (s : State) {f g : Fld} {i j : Nat} (v : Nat) (h : f.key i ≠ g.key j) :
    (s.set f i v).get g j = s.get g j := by
  simp only [State.get, State.set, regGet, regSet]
  rw [tget_tput_other _ _ h]

@[simp] theorem get_send (s : State) (o : Out) (g : Fld) (j : Nat) : (s.send o).get g j = s.get g j := rfl
@[simp] theorem get_fresh (s : State) (g : Fld) (j : Nat) : s.fresh.2.get g j = s.get g j := rfl
@[simp] theorem get_bump (s : State) (i n : Nat) (g : Fld) (j : Nat) : (s.bump i n).get g j = s.get g j := rfl
@[simp] theorem get_esel (s : State) (k l i n : Nat) (g : Fld) (j : Nat) : (s.esel k l i n).get g j = s.get g j := rfl
@[simp] theorem get_report (s : State) (p : Report) (g : Fld) (j : Nat) : (s.report p).get g j = s.get g j := rfl
@[simp] theorem get_raise (s : State) (e : EvType) (k n : Nat) (l : List Nat) (g : Fld) (j : Nat) : (s.raise e k n l).get g j = s.get g j := rfl
@[simp] theorem get_raiseCo (s : State) (e : EvType) (q k n : Nat) (l : List Nat) (g : Fld) (j : Nat) : (s.raiseCo e q k n l).get g j = s.get g j := rfl
@[simp] theorem get_sample (s : State) (c i v : Nat) (d : Bool) (o : Nat) (g : Fld) (j : Nat) : (s.sample c i v d o).get g j = s.get g j := rfl

@[simp] theorem send_outbox (s : State) (o : Out) : (s.send o).outbox = s.outbox ++ [o] := rfl
@[simp] theorem fresh_word (s : State) : s.fresh.1 = Config.freeWord s.freeCtr := rfl

end Sys2Proof.Machine
end

