-- ==== Sys2Proof/Laws/Commit.lean ====
section
/-! SUPPORT. What a command's end keeps and takes (Machine/Commit.lean): each part of State, each register field, and the queue. -/

namespace Sys2Proof.Machine

/-- A register field after a command: the effect's value where the command may write the field, the value before elsewhere. -/
theorem tget_keepRegs (w : Writes) (a b : Table RKey Nat) (k : RKey) :
    tget (keepRegs w a b) k = if w.field k then tget b k else tget a k := by
  unfold keepRegs
  split
  · next h =>
    by_cases hk : w.field k = true
    · simp [hk]
    · have ha := tget_filter a (fun e => !w.field e) k
      have hb := tget_filter b (fun e => !w.field e) k
      simp only [hk, Bool.not_false, if_true, Bool.false_eq_true, if_false] at ha hb ⊢
      rw [← ha, ← hb, h]
  · rw [tget_append, tget_filter b w.field k, tget_filter a (fun e => !w.field e) k]
    by_cases hk : w.field k = true
    · simp [hk]
    · simp [hk]

theorem only_dtc (s t : State) (w : Writes) : (s.only w t).dtc = if w.part .dtc then t.dtc else s.dtc := rfl
theorem only_mem (s t : State) (w : Writes) : (s.only w t).mem = if w.part .mem then t.mem else s.mem := rfl
theorem only_evt (s t : State) (w : Writes) : (s.only w t).evt = if w.part .evt then t.evt else s.evt := rfl
theorem only_ctr (s t : State) (w : Writes) : (s.only w t).ctr = if w.part .ctr then t.ctr else s.ctr := rfl
theorem only_tel (s t : State) (w : Writes) : (s.only w t).tel = if w.part .tel then t.tel else s.tel := rfl
theorem only_hkt (s t : State) (w : Writes) : (s.only w t).hkt = if w.part .hkt then t.hkt else s.hkt := rfl
theorem only_tms (s t : State) (w : Writes) : (s.only w t).tms = if w.part .tms then t.tms else s.tms := rfl
theorem only_mac (s t : State) (w : Writes) : (s.only w t).mac = if w.part .mac then t.mac else s.mac := rfl
theorem only_swc (s t : State) (w : Writes) : (s.only w t).swc = if w.part .swc then t.swc else s.swc := rfl
theorem only_fwd (s t : State) (w : Writes) : (s.only w t).fwd = if w.part .fwd then t.fwd else s.fwd := rfl
theorem only_qpe (s t : State) (w : Writes) : (s.only w t).qpe = if w.part .qpe then t.qpe else s.qpe := rfl
theorem only_nsm (s t : State) (w : Writes) : (s.only w t).nsm = if w.part .nsm then t.nsm else s.nsm := rfl
theorem only_key (s t : State) (w : Writes) : (s.only w t).key = if w.part .key then t.key else s.key := rfl
theorem only_cip (s t : State) (w : Writes) : (s.only w t).cip = if w.part .cip then t.cip else s.cip := rfl
theorem only_hif (s t : State) (w : Writes) : (s.only w t).hif = if w.part .hif then t.hif else s.hif := rfl
theorem only_slc (s t : State) (w : Writes) : (s.only w t).slc = if w.part .slc then t.slc else s.slc := rfl
theorem only_str (s t : State) (w : Writes) : (s.only w t).str = if w.part .str then t.str else s.str := rfl
theorem only_jnl (s t : State) (w : Writes) : (s.only w t).jnl = if w.part .jnl then t.jnl else s.jnl := rfl
theorem only_drv (s t : State) (w : Writes) : (s.only w t).drv = if w.part .drv then t.drv else s.drv := rfl
theorem only_reb (s t : State) (w : Writes) : (s.only w t).reb = if w.part .reb then t.reb else s.reb := rfl
theorem only_pair (s t : State) (w : Writes) : (s.only w t).pair = if w.part .pair then t.pair else s.pair := rfl
theorem only_slt (s t : State) (w : Writes) : (s.only w t).slt = if w.part .slt then t.slt else s.slt := rfl
theorem only_boot (s t : State) (w : Writes) : (s.only w t).boot = if w.part .boot then t.boot else s.boot := rfl
theorem only_rime (s t : State) (w : Writes) : (s.only w t).rime = if w.part .rime then t.rime else s.rime := rfl
theorem only_pwr (s t : State) (w : Writes) : (s.only w t).pwr = if w.part .pwr then t.pwr else s.pwr := rfl
theorem only_freeCtr (s t : State) (w : Writes) : (s.only w t).freeCtr = if w.part .freeCtr then t.freeCtr else s.freeCtr := rfl
theorem only_outbox (s t : State) (w : Writes) : (s.only w t).outbox = if w.part .outbox then t.outbox else s.outbox := rfl
@[simp] theorem only_pending (s t : State) (w : Writes) : (s.only w t).pending = s.pending := rfl

/-- A register field after a command. -/
theorem get_only (s t : State) (w : Writes) (f : Fld) (i : Nat) :
    (s.only w t).get f i = if w.field (f.key i) then t.get f i else s.get f i := by
  simp only [State.get, regGet, State.only, tget_keepRegs]
  split <;> rfl

/-- A field a command may write: the effect's value. -/
theorem get_only_in (s t : State) (w : Writes) (f : Fld) (i : Nat) (h : w.field (f.key i) = true) :
    (s.only w t).get f i = t.get f i := by simp [get_only, h]

/-- A field a command may not write: the value before. -/
theorem get_only_out (s t : State) (w : Writes) (f : Fld) (i : Nat) (h : w.field (f.key i) = false) :
    (s.only w t).get f i = s.get f i := by simp [get_only, h]

/-- Whether a command may write a field does not depend on the element. -/
theorem field_key (w : Writes) (f : Fld) (i : Nat) :
    w.field (f.key i) = (w.blocks.contains (f.reg / 0x100000) || w.fields.any fun g => g.reg = f.reg && g.lo = f.lo) := rfl

/-- Taking an effect within a footprint twice is taking it once. -/
theorem keepRegs_idem (w : Writes) (a b : Table RKey Nat) : keepRegs w a (keepRegs w a b) = keepRegs w a b := by
  have h : ((keepRegs w a b).filter fun e => !w.field e.1) = a.filter fun e => !w.field e.1 := by
    unfold keepRegs
    split
    · assumption
    · simp [List.filter_append, List.filter_filter]
  generalize keepRegs w a b = k at h ⊢
  rw [keepRegs, if_pos h]

theorem only_idem (s t : State) (w : Writes) : s.only w (s.only w t) = s.only w t := by
  simp only [State.only, keepRegs_idem, State.mk.injEq]
  and_intros <;> first | trivial | (split <;> simp_all)

/-- A command that ends in a footprint answers a next state, and that state is the effect within the footprint. -/
theorem commit_next {s t u : State} {w : Writes} : s.commit w t = .next u ↔ s.only w t = u := by
  simp [State.commit]

theorem commit_eq (s t : State) (w : Writes) : s.commit w t = .next (s.only w t) := rfl

end Sys2Proof.Machine
end

