-- ==== Sys2Proof/Laws/Within.lean ====
section
/-! SUPPORT. Which parts of State and register fields the shared operations may write: `Within w s t` says that `t` agrees with `s`
outside the footprint `w`.  It composes, and each operation has one lemma. -/

namespace Sys2Proof.Machine

open F

/-- `t` agrees with `s` outside the footprint `w`, the queue of commands included. -/
structure Within (w : Writes) (s t : State) : Prop where
  dtc : w.part .dtc = false → t.dtc = s.dtc
  mem : w.part .mem = false → t.mem = s.mem
  evt : w.part .evt = false → t.evt = s.evt
  ctr : w.part .ctr = false → t.ctr = s.ctr
  tel : w.part .tel = false → t.tel = s.tel
  hkt : w.part .hkt = false → t.hkt = s.hkt
  tms : w.part .tms = false → t.tms = s.tms
  mac : w.part .mac = false → t.mac = s.mac
  swc : w.part .swc = false → t.swc = s.swc
  fwd : w.part .fwd = false → t.fwd = s.fwd
  qpe : w.part .qpe = false → t.qpe = s.qpe
  nsm : w.part .nsm = false → t.nsm = s.nsm
  key : w.part .key = false → t.key = s.key
  cip : w.part .cip = false → t.cip = s.cip
  hif : w.part .hif = false → t.hif = s.hif
  slc : w.part .slc = false → t.slc = s.slc
  str : w.part .str = false → t.str = s.str
  jnl : w.part .jnl = false → t.jnl = s.jnl
  drv : w.part .drv = false → t.drv = s.drv
  reb : w.part .reb = false → t.reb = s.reb
  pair : w.part .pair = false → t.pair = s.pair
  slt : w.part .slt = false → t.slt = s.slt
  boot : w.part .boot = false → t.boot = s.boot
  rime : w.part .rime = false → t.rime = s.rime
  pwr : w.part .pwr = false → t.pwr = s.pwr
  freeCtr : w.part .freeCtr = false → t.freeCtr = s.freeCtr
  outbox : w.part .outbox = false → t.outbox = s.outbox
  regs : ∀ f i, w.field (f.key i) = false → t.get f i = s.get f i
  pending : t.pending = s.pending

theorem Within.refl (w : Writes) (s : State) : Within w s s := by constructor <;> intros <;> rfl

theorem Within.trans {w : Writes} {s t u : State} (h : Within w s t) (k : Within w t u) : Within w s u := by
  constructor
  · intro e; rw [k.dtc e, h.dtc e]
  · intro e; rw [k.mem e, h.mem e]
  · intro e; rw [k.evt e, h.evt e]
  · intro e; rw [k.ctr e, h.ctr e]
  · intro e; rw [k.tel e, h.tel e]
  · intro e; rw [k.hkt e, h.hkt e]
  · intro e; rw [k.tms e, h.tms e]
  · intro e; rw [k.mac e, h.mac e]
  · intro e; rw [k.swc e, h.swc e]
  · intro e; rw [k.fwd e, h.fwd e]
  · intro e; rw [k.qpe e, h.qpe e]
  · intro e; rw [k.nsm e, h.nsm e]
  · intro e; rw [k.key e, h.key e]
  · intro e; rw [k.cip e, h.cip e]
  · intro e; rw [k.hif e, h.hif e]
  · intro e; rw [k.slc e, h.slc e]
  · intro e; rw [k.str e, h.str e]
  · intro e; rw [k.jnl e, h.jnl e]
  · intro e; rw [k.drv e, h.drv e]
  · intro e; rw [k.reb e, h.reb e]
  · intro e; rw [k.pair e, h.pair e]
  · intro e; rw [k.slt e, h.slt e]
  · intro e; rw [k.boot e, h.boot e]
  · intro e; rw [k.rime e, h.rime e]
  · intro e; rw [k.pwr e, h.pwr e]
  · intro e; rw [k.freeCtr e, h.freeCtr e]
  · intro e; rw [k.outbox e, h.outbox e]
  · intro f i e; rw [k.regs f i e, h.regs f i e]
  · rw [k.pending, h.pending]

/-- A wider footprint allows what a narrower one does. -/
theorem Within.mono {w v : Writes} {s t : State} (h : Within w s t) (hp : ∀ p, v.part p = false → w.part p = false)
    (hf : ∀ k, v.field k = false → w.field k = false) : Within v s t := by
  constructor
  · exact fun e => h.dtc (hp _ e)
  · exact fun e => h.mem (hp _ e)
  · exact fun e => h.evt (hp _ e)
  · exact fun e => h.ctr (hp _ e)
  · exact fun e => h.tel (hp _ e)
  · exact fun e => h.hkt (hp _ e)
  · exact fun e => h.tms (hp _ e)
  · exact fun e => h.mac (hp _ e)
  · exact fun e => h.swc (hp _ e)
  · exact fun e => h.fwd (hp _ e)
  · exact fun e => h.qpe (hp _ e)
  · exact fun e => h.nsm (hp _ e)
  · exact fun e => h.key (hp _ e)
  · exact fun e => h.cip (hp _ e)
  · exact fun e => h.hif (hp _ e)
  · exact fun e => h.slc (hp _ e)
  · exact fun e => h.str (hp _ e)
  · exact fun e => h.jnl (hp _ e)
  · exact fun e => h.drv (hp _ e)
  · exact fun e => h.reb (hp _ e)
  · exact fun e => h.pair (hp _ e)
  · exact fun e => h.slt (hp _ e)
  · exact fun e => h.boot (hp _ e)
  · exact fun e => h.rime (hp _ e)
  · exact fun e => h.pwr (hp _ e)
  · exact fun e => h.freeCtr (hp _ e)
  · exact fun e => h.outbox (hp _ e)
  · exact fun f i e => h.regs f i (hf _ e)
  · exact h.pending

/-- A footprint that lists all of another's parts, fields and blocks allows what the other does. -/
theorem Within.widen {w v : Writes} {s t : State} (h : Within w s t) (hp : w.parts.all v.parts.contains = true)
    (hf : w.fields.all (fun f => v.blocks.contains (f.reg / 0x100000) || v.fields.any fun g => g.reg = f.reg && g.lo = f.lo) = true)
    (hb : w.blocks.all v.blocks.contains = true) : Within v s t := by
  refine h.mono ?_ ?_
  · intro p e
    simp only [Writes.part, List.all_eq_true, List.contains_eq_mem, decide_eq_true_eq, decide_eq_false_iff_not] at *
    exact fun m => e (hp p m)
  · intro k e
    by_contra c
    simp only [Bool.not_eq_false, Writes.field, Bool.or_eq_true, List.any_eq_true, List.all_eq_true] at c hf hb
    have e' : v.field k = true := by
      simp only [Writes.field, Bool.or_eq_true, List.any_eq_true]
      rcases c with c | ⟨f, hm, hk⟩
      · exact .inl (hb _ (by simpa using c))
      · have q := hf f hm
        simp only [Bool.and_eq_true, decide_eq_true_eq] at hk q ⊢
        rw [← hk.1, ← hk.2]
        exact q
    rw [e] at e'
    cases e'

/-- A command changes nothing outside its footprint. -/
theorem within_only (s t : State) (w : Writes) : Within w s (s.only w t) := by
  constructor
  · intro e; rw [only_dtc, if_neg (by simp [e])]
  · intro e; rw [only_mem, if_neg (by simp [e])]
  · intro e; rw [only_evt, if_neg (by simp [e])]
  · intro e; rw [only_ctr, if_neg (by simp [e])]
  · intro e; rw [only_tel, if_neg (by simp [e])]
  · intro e; rw [only_hkt, if_neg (by simp [e])]
  · intro e; rw [only_tms, if_neg (by simp [e])]
  · intro e; rw [only_mac, if_neg (by simp [e])]
  · intro e; rw [only_swc, if_neg (by simp [e])]
  · intro e; rw [only_fwd, if_neg (by simp [e])]
  · intro e; rw [only_qpe, if_neg (by simp [e])]
  · intro e; rw [only_nsm, if_neg (by simp [e])]
  · intro e; rw [only_key, if_neg (by simp [e])]
  · intro e; rw [only_cip, if_neg (by simp [e])]
  · intro e; rw [only_hif, if_neg (by simp [e])]
  · intro e; rw [only_slc, if_neg (by simp [e])]
  · intro e; rw [only_str, if_neg (by simp [e])]
  · intro e; rw [only_jnl, if_neg (by simp [e])]
  · intro e; rw [only_drv, if_neg (by simp [e])]
  · intro e; rw [only_reb, if_neg (by simp [e])]
  · intro e; rw [only_pair, if_neg (by simp [e])]
  · intro e; rw [only_slt, if_neg (by simp [e])]
  · intro e; rw [only_boot, if_neg (by simp [e])]
  · intro e; rw [only_rime, if_neg (by simp [e])]
  · intro e; rw [only_pwr, if_neg (by simp [e])]
  · intro e; rw [only_freeCtr, if_neg (by simp [e])]
  · intro e; rw [only_outbox, if_neg (by simp [e])]
  · exact fun f i e => get_only_out s t w f i e
  · rfl

theorem within_dtc {w : Writes} (s : State) (x) (h : w.part .dtc = true) : Within w s { s with dtc := x } := by
  constructor <;> intros <;> first | rfl | simp_all
theorem within_mem {w : Writes} (s : State) (x) (h : w.part .mem = true) : Within w s { s with mem := x } := by
  constructor <;> intros <;> first | rfl | simp_all
theorem within_evt {w : Writes} (s : State) (x) (h : w.part .evt = true) : Within w s { s with evt := x } := by
  constructor <;> intros <;> first | rfl | simp_all
theorem within_ctr {w : Writes} (s : State) (x) (h : w.part .ctr = true) : Within w s { s with ctr := x } := by
  constructor <;> intros <;> first | rfl | simp_all
theorem within_tel {w : Writes} (s : State) (x) (h : w.part .tel = true) : Within w s { s with tel := x } := by
  constructor <;> intros <;> first | rfl | simp_all
theorem within_hkt {w : Writes} (s : State) (x) (h : w.part .hkt = true) : Within w s { s with hkt := x } := by
  constructor <;> intros <;> first | rfl | simp_all
theorem within_tms {w : Writes} (s : State) (x) (h : w.part .tms = true) : Within w s { s with tms := x } := by
  constructor <;> intros <;> first | rfl | simp_all
theorem within_mac {w : Writes} (s : State) (x) (h : w.part .mac = true) : Within w s { s with mac := x } := by
  constructor <;> intros <;> first | rfl | simp_all
theorem within_swc {w : Writes} (s : State) (x) (h : w.part .swc = true) : Within w s { s with swc := x } := by
  constructor <;> intros <;> first | rfl | simp_all
theorem within_fwd {w : Writes} (s : State) (x) (h : w.part .fwd = true) : Within w s { s with fwd := x } := by
  constructor <;> intros <;> first | rfl | simp_all
theorem within_qpe {w : Writes} (s : State) (x) (h : w.part .qpe = true) : Within w s { s with qpe := x } := by
  constructor <;> intros <;> first | rfl | simp_all
theorem within_nsm {w : Writes} (s : State) (x) (h : w.part .nsm = true) : Within w s { s with nsm := x } := by
  constructor <;> intros <;> first | rfl | simp_all
theorem within_key {w : Writes} (s : State) (x) (h : w.part .key = true) : Within w s { s with key := x } := by
  constructor <;> intros <;> first | rfl | simp_all
theorem within_cip {w : Writes} (s : State) (x) (h : w.part .cip = true) : Within w s { s with cip := x } := by
  constructor <;> intros <;> first | rfl | simp_all
theorem within_hif {w : Writes} (s : State) (x) (h : w.part .hif = true) : Within w s { s with hif := x } := by
  constructor <;> intros <;> first | rfl | simp_all
theorem within_slc {w : Writes} (s : State) (x) (h : w.part .slc = true) : Within w s { s with slc := x } := by
  constructor <;> intros <;> first | rfl | simp_all
theorem within_str {w : Writes} (s : State) (x) (h : w.part .str = true) : Within w s { s with str := x } := by
  constructor <;> intros <;> first | rfl | simp_all
theorem within_jnl {w : Writes} (s : State) (x) (h : w.part .jnl = true) : Within w s { s with jnl := x } := by
  constructor <;> intros <;> first | rfl | simp_all
theorem within_drv {w : Writes} (s : State) (x) (h : w.part .drv = true) : Within w s { s with drv := x } := by
  constructor <;> intros <;> first | rfl | simp_all
theorem within_reb {w : Writes} (s : State) (x) (h : w.part .reb = true) : Within w s { s with reb := x } := by
  constructor <;> intros <;> first | rfl | simp_all
theorem within_pair {w : Writes} (s : State) (x) (h : w.part .pair = true) : Within w s { s with pair := x } := by
  constructor <;> intros <;> first | rfl | simp_all
theorem within_slt {w : Writes} (s : State) (x) (h : w.part .slt = true) : Within w s { s with slt := x } := by
  constructor <;> intros <;> first | rfl | simp_all
theorem within_boot {w : Writes} (s : State) (x) (h : w.part .boot = true) : Within w s { s with boot := x } := by
  constructor <;> intros <;> first | rfl | simp_all
theorem within_rime {w : Writes} (s : State) (x) (h : w.part .rime = true) : Within w s { s with rime := x } := by
  constructor <;> intros <;> first | rfl | simp_all
theorem within_pwr {w : Writes} (s : State) (x) (h : w.part .pwr = true) : Within w s { s with pwr := x } := by
  constructor <;> intros <;> first | rfl | simp_all
theorem within_freeCtr {w : Writes} (s : State) (x) (h : w.part .freeCtr = true) : Within w s { s with freeCtr := x } := by
  constructor <;> intros <;> first | rfl | simp_all
theorem within_outbox {w : Writes} (s : State) (x) (h : w.part .outbox = true) : Within w s { s with outbox := x } := by
  constructor <;> intros <;> first | rfl | simp_all

theorem within_set {w : Writes} (s : State) (f : Fld) (i v : Nat) (h : w.field (f.key i) = true) : Within w s (s.set f i v) := by
  constructor <;> intros <;> first | rfl | skip
  rename_i g j e
  exact get_set_other s v fun k => by rw [k, e] at h; cases h

theorem within_addSat {w : Writes} (s : State) (f : Fld) (i n : Nat) (h : w.field (f.key i) = true) : Within w s (s.addSat f i n) :=
  within_set s f i _ h

theorem within_bump {w : Writes} (s : State) (i n : Nat) (h : w.part .ctr = true) : Within w s (s.bump i n) := within_ctr s _ h

theorem within_enter {w : Writes} (s : State) (i : Nat) (h : w.part .ctr = true) : Within w s (s.enter i) := by
  unfold State.enter
  split
  · exact .refl _ _
  · exact within_ctr s _ h

theorem within_leave {w : Writes} (s : State) (i : Nat) (h : w.part .ctr = true) : Within w s (s.leave i) := by
  unfold State.leave
  split
  · exact .refl _ _
  · exact within_ctr s _ h

theorem within_report {w : Writes} (s : State) (p : Report) (h : w.part .evt = true) (k : w.part .ctr = true) : Within w s (s.report p) :=
  (within_evt s (evReport s.regs s.dtc s.evt s.ctr p).1 h).trans (within_ctr _ (evReport s.regs s.dtc s.evt s.ctr p).2 k)

theorem within_raise {w : Writes} (s : State) (e : EvType) (c n : Nat) (l : List Nat) (h : w.part .evt = true) (k : w.part .ctr = true) :
    Within w s (s.raise e c n l) := within_report s _ h k

theorem within_raiseCo {w : Writes} (s : State) (e : EvType) (q c n : Nat) (l : List Nat) (h : w.part .evt = true)
    (k : w.part .ctr = true) : Within w s (s.raiseCo e q c n l) := within_report s _ h k

theorem within_send {w : Writes} (s : State) (o : Out) (h : w.part .outbox = true) : Within w s (s.send o) := within_outbox s _ h

theorem within_sample {w : Writes} (s : State) (c i v : Nat) (d : Bool) (o : Nat) (h : w.part .tel = true) :
    Within w s (s.sample c i v d o) := within_tel s _ h

/-- A choice of two effects. -/
theorem within_ite {w : Writes} {s a b : State} (c : Prop) [Decidable c] (h : c → Within w s a) (k : ¬c → Within w s b) :
    Within w s (if c then a else b) := by
  split
  · exact h ‹_›
  · exact k ‹_›

/-- A list of effects that each stay within a footprint stays within it. -/
theorem within_each {α : Type} {w : Writes} (s : State) (l : List α) (f : State → α → State) (h : ∀ s x, Within w s (f s x)) :
    Within w s (s.each l f) := by
  unfold State.each
  induction l generalizing s with
  | nil => exact .refl _ _
  | cons x t ih => exact (h s x).trans (ih _)

end Sys2Proof.Machine
end

