-- ==== Sys2Proof/Laws/Events.lean ====
section
/-! SUPPORT. What a report does to the EVT block (R506 to R508, R514): the shelf manager's message changes no sequence number, buffer or
window; a record that enters takes the next number. -/

namespace Sys2Proof.Machine

open F

theorem pldmSend_nextSeq (r : Table RKey Nat) (ec : Evt × Ctr) (e : EvRec) : (pldmSend r ec e).1.nextSeq = ec.1.nextSeq := by
  unfold pldmSend; split
  · rfl
  · split <;> rfl

theorem pldmSend_buffer (r : Table RKey Nat) (ec : Evt × Ctr) (e : EvRec) : (pldmSend r ec e).1.buffer = ec.1.buffer := by
  unfold pldmSend; split
  · rfl
  · split <;> rfl

theorem pldmSend_windows (r : Table RKey Nat) (ec : Evt × Ctr) (e : EvRec) : (pldmSend r ec e).1.windows = ec.1.windows := by
  unfold pldmSend; split
  · rfl
  · split <;> rfl

theorem pldmSend_lastFatal (r : Table RKey Nat) (ec : Evt × Ctr) (e : EvRec) : (pldmSend r ec e).1.lastFatal = ec.1.lastFatal := by
  unfold pldmSend; split
  · rfl
  · split <;> rfl

theorem evPush_nextSeq (r : Table RKey Nat) (ec : Evt × Ctr) (e : EvRec) : (evPush r ec e).1.nextSeq = ec.1.nextSeq + 1 := by
  unfold evPush; dsimp only; split <;> rfl

theorem evPush_windows (r : Table RKey Nat) (ec : Evt × Ctr) (e : EvRec) : (evPush r ec e).1.windows = ec.1.windows := by
  unfold evPush; dsimp only; split <;> rfl

theorem evPush_buffer (r : Table RKey Nat) (ec : Evt × Ctr) (e : EvRec) :
    (evPush r ec e).1.buffer = if evKeeps r ec.1.rings e then ec.1.buffer ++ [e] else ec.1.buffer := by
  unfold evPush; dsimp only; split <;> rfl

theorem noteFatal_nextSeq (v : Evt) (e : EvRec) : (noteFatal v e).nextSeq = v.nextSeq := by unfold noteFatal; split <;> rfl
theorem noteFatal_buffer (v : Evt) (e : EvRec) : (noteFatal v e).buffer = v.buffer := by unfold noteFatal; split <;> rfl
theorem noteFatal_windows (v : Evt) (e : EvRec) : (noteFatal v e).windows = v.windows := by unfold noteFatal; split <;> rfl

theorem emitLost_none (r : Table RKey Nat) (d : Word64) (ec : Evt × Ctr) (h : ec.1.lostCount = 0) : emitLost r d ec = ec := by
  unfold emitLost; rw [if_pos (by simp [h])]

/-- Where no ring is enabled every record stays in the buffer. -/
theorem evKeeps_noRing (r : Table RKey Nat) (g : Table Nat EvRing) (e : EvRec) (h : ringsOn r = []) : evKeeps r g e = true := by
  unfold evKeeps; simp [h]

/-- A report that finds room, with nothing dropped before it, takes the next number and stays in the buffer where no ring is enabled. -/
theorem evEnter_room (r : Table RKey Nat) (now : Word64) (ec : Evt × Ctr) (p : Report) (n : Nat) (w : Bool) (a l : Word64)
    (h : ec.1.lostCount = 0) (k : ec.1.buffer.length < 4096) :
    (evEnter r now ec p n w a l).1.nextSeq = ec.1.nextSeq + 1 ∧ (evEnter r now ec p n w a l).1.windows = ec.1.windows ∧
    (ringsOn r = [] → (evEnter r now ec p n w a l).1.buffer = ec.1.buffer ++ [recOf p ec.1.nextSeq n w a l]) ∧
    (p.sev = 4 → (evEnter r now ec p n w a l).1.lastFatal = some (p.code, ec.1.nextSeq % 2 ^ 48)) := by
  unfold evEnter
  rw [emitLost_none r now ec h]
  dsimp only
  rw [if_pos k, pldmSend_nextSeq, pldmSend_buffer, pldmSend_windows, pldmSend_lastFatal]
  dsimp only
  rw [noteFatal_nextSeq, noteFatal_buffer, noteFatal_windows, evPush_nextSeq, evPush_buffer, evPush_windows]
  refine ⟨rfl, rfl, fun g => by rw [evKeeps_noRing _ _ _ g]; rfl, fun g => ?_⟩
  unfold noteFatal
  rw [if_pos (by simpa [recOf] using g)]
  rfl

end Sys2Proof.Machine
end

