-- ==== Sys2Proof/Laws/Extra.lean ====
section
/-! SUPPORT. Small facts about shared operations that proofs about commands cite. -/

namespace Sys2Proof.Machine

/-- Two states with the same clock, EVT block and EVT registers report alike as far as a claim says. -/
theorem reports_of_raise {s t u : State} {e : EvType} {k c : Nat} {l : List Nat} (h : t.evt = (u.raise e k c l).evt)
    (hd : u.dtc = s.dtc) (he : u.evt = s.evt) (hr : ∀ f i, f.reg / 0x100000 = 2 → u.get f i = s.get f i) :
    ∃ u : State, u.dtc = s.dtc ∧ u.evt = s.evt ∧ (∀ f i, f.reg / 0x100000 = 2 → u.get f i = s.get f i) ∧
      t.evt = (u.raise e k c l).evt := ⟨u, hd, he, hr, h⟩

end Sys2Proof.Machine
end

