-- ==== Sys2Proof/Laws/Memory.lean ====
section
/-! SUPPORT. Laws of module memory: every operation keeps the canonical form, a read after a write gives the byte written and leaves
every other address as it was. -/

namespace Sys2Proof.Machine

/-- The canonical form of a list with a head: its byte is not zero, its address is below every later one, the tail is canonical. -/
theorem memWf_cons (c : Host.Cell) (t : List Host.Cell) :
    memWf (c :: t) = true ↔ c.2 ≠ 0 ∧ (∀ d ∈ t, c.1 < d.1) ∧ memWf t = true := by
  induction t generalizing c with
  | nil => obtain ⟨a, v⟩ := c; simp [memWf]
  | cons d t ih =>
    obtain ⟨a, v⟩ := c
    obtain ⟨b, w⟩ := d
    simp only [memWf, Bool.and_eq_true, bne_iff_ne, ne_eq, decide_eq_true_eq]
    constructor
    · rintro ⟨⟨hv, hab⟩, h⟩
      refine ⟨hv, ?_, h⟩
      intro d hd
      rcases List.mem_cons.mp hd with rfl | hd
      · exact hab
      · exact Nat.lt_trans hab (((ih _).mp h).2.1 d hd)
    · rintro ⟨hv, hl, h⟩
      exact ⟨⟨hv, hl _ (List.mem_cons_self ..)⟩, h⟩

/-- The cells of a memory after a write are those before it or the one written. -/
theorem mem_memWrite {m : List Host.Cell} {a : Nat} {v : Byte} {d : Host.Cell} (h : d ∈ memWrite m a v) : d ∈ m ∨ d = (a, v) := by
  induction m with
  | nil => simp only [memWrite] at h; split at h <;> simp_all
  | cons c t ih =>
    obtain ⟨b, w⟩ := c
    simp only [memWrite] at h
    split at h
    · split at h
      · exact .inl h
      · rcases List.mem_cons.mp h with rfl | h
        · exact .inr rfl
        · exact .inl h
    · split at h
      · split at h
        · exact .inl (List.mem_cons_of_mem _ h)
        · rcases List.mem_cons.mp h with rfl | h
          · exact .inr rfl
          · exact .inl (List.mem_cons_of_mem _ h)
      · rcases List.mem_cons.mp h with rfl | h
        · exact .inl (List.mem_cons_self ..)
        · rcases ih h with h | h
          · exact .inl (List.mem_cons_of_mem _ h)
          · exact .inr h

/-- A write keeps the canonical form. -/
theorem memWf_memWrite (m : List Host.Cell) (a : Nat) (v : Byte) (h : memWf m = true) : memWf (memWrite m a v) = true := by
  induction m with
  | nil =>
    simp only [memWrite]
    split
    · rfl
    · simpa [memWf] using ‹¬ v = 0›
  | cons c t ih =>
    obtain ⟨b, w⟩ := c
    obtain ⟨hw, hl, ht⟩ := (memWf_cons _ _).mp h
    simp only [memWrite]
    split
    · next hab =>
      split
      · exact h
      · next hv =>
        refine (memWf_cons _ _).mpr ⟨hv, ?_, h⟩
        intro d hd
        rcases List.mem_cons.mp hd with rfl | hd
        · exact hab
        · exact Nat.lt_trans hab (hl d hd)
    · split
      · next hab =>
        subst hab
        split
        · exact ht
        · next hv => exact (memWf_cons _ _).mpr ⟨hv, hl, ht⟩
      · next h1 h2 =>
        refine (memWf_cons _ _).mpr ⟨hw, ?_, ih ht⟩
        intro d hd
        rcases mem_memWrite hd with hd | rfl
        · exact hl d hd
        · show b < a; omega

/-- Writing bytes keeps the canonical form. -/
theorem memWf_memWriteBytes (l : List Byte) (m : List Host.Cell) (a : Nat) (h : memWf m = true) : memWf (memWriteBytes m a l) = true := by
  induction l generalizing m a with
  | nil => exact h
  | cons v t ih => exact ih _ _ (memWf_memWrite _ _ _ h)

/-- A byte below every listed address reads 0. -/
theorem memRead_below {m : List Host.Cell} {a : Nat} (h : ∀ d ∈ m, a < d.1) : memRead m a = 0 := by
  induction m with
  | nil => rfl
  | cons c t ih =>
    obtain ⟨b, w⟩ := c
    have hb : a < b := h (b, w) (List.mem_cons_self ..)
    have hne : ¬ b = a := by omega
    simp only [memRead, hne, if_false]
    exact ih fun d hd => h d (List.mem_cons_of_mem _ hd)

/-- A read after a write of one byte, in a canonical memory. -/
theorem memRead_memWrite (m : List Host.Cell) (a b : Nat) (v : Byte) (h : memWf m = true) :
    memRead (memWrite m a v) b = if b = a then v else memRead m b := by
  induction m with
  | nil =>
    simp only [memWrite]
    split <;> rename_i hv
    · subst hv; simp [memRead]
    · simp only [memRead, @eq_comm _ a b]
  | cons c t ih =>
    obtain ⟨x, w⟩ := c
    obtain ⟨hw, hl, ht⟩ := (memWf_cons _ _).mp h
    simp only [memWrite]
    split
    · next hax =>
      split
      · next hv =>
        subst hv
        split
        · next hb =>
          subst hb
          have hne : ¬ x = b := by omega
          simp only [memRead, hne, if_false]
          exact memRead_below fun d hd => Nat.lt_trans hax (hl d hd)
        · rfl
      · simp only [memRead, @eq_comm _ a b]
    · split
      · next hax =>
        subst hax
        split
        · next hv =>
          subst hv
          split
          · next hb => subst hb; exact memRead_below hl
          · next hb => simp only [memRead]; rw [if_neg (fun e => hb e.symm)]
        · simp only [memRead, @eq_comm _ a b]
          split <;> rfl
      · next h1 h2 =>
        simp only [memRead, ih ht]
        split
        · next hx => split <;> [omega; rfl]
        · rfl

/-- A read outside the bytes written gives what was there. -/
theorem memRead_memWriteBytes_outside (l : List Byte) (m : List Host.Cell) (a b : Nat) (h : memWf m = true)
    (hb : b < a ∨ a + l.length ≤ b) : memRead (memWriteBytes m a l) b = memRead m b := by
  induction l generalizing m a with
  | nil => rfl
  | cons v t ih =>
    simp only [memWriteBytes]
    rw [ih _ _ (memWf_memWrite _ _ _ h) (by simp only [List.length_cons] at hb; omega), memRead_memWrite _ _ _ _ h, if_neg]
    simp only [List.length_cons] at hb; omega

/-- A read inside the bytes written gives the byte written there. -/
theorem memRead_memWriteBytes_inside (l : List Byte) (m : List Host.Cell) (a j : Nat) (h : memWf m = true) (hj : j < l.length) :
    memRead (memWriteBytes m a l) (a + j) = l[j] := by
  induction l generalizing m a j with
  | nil => simp at hj
  | cons v t ih =>
    simp only [memWriteBytes]
    cases j with
    | zero =>
      rw [memRead_memWriteBytes_outside _ _ _ _ (memWf_memWrite _ _ _ h) (by omega), memRead_memWrite _ _ _ _ h]
      simp
    | succ k =>
      have := ih (memWrite m a v) (a + 1) k (memWf_memWrite _ _ _ h) (by simpa using hj)
      rw [show a + (k + 1) = a + 1 + k by omega, this]
      simp

end Sys2Proof.Machine
end

