-- ==== Sys2Proof/Laws/Receive.lean ====
section
/-! SUPPORT. What the operations that can write module memory do to it: a placed WRITE and a peer's write store bytes, a reset empties
it, everything else a packet or a stop does leaves it; the canonical form is kept throughout. -/

namespace Sys2Proof.Machine

@[simp] theorem sameMem_mem (s t : State) : (s.sameMem t).mem = s.mem := rfl
@[simp] theorem modCtx_mem (s : State) (a b : Eid) (f : HktCtx → HktCtx) : (s.modCtx a b f).mem = s.mem := by
  unfold State.modCtx
  split <;> rfl

@[simp] theorem reportMsg_mem (s : State) (c : HktCtx) (p : HktPkt) : (s.reportMsg c p).mem = s.mem := by
  unfold State.reportMsg
  split <;> rfl

/-- Placing a packet keeps the canonical form of memory. -/
theorem placePkt_memWf (s : State) (c : HktCtx) (p : HktPkt) (l : Bool) (h : memWf s.mem = true) : memWf (s.placePkt c p l).mem = true := by
  unfold State.placePkt
  split
  · dsimp only
    split
    · simpa using h
    · exact memWf_memWriteBytes _ _ _ h
  · simpa using h
  · dsimp only
    split
    · simpa using h
    · split
      · simpa using h
      · split <;> simpa using h
  · dsimp only; split <;> simpa using h
  · simpa using h
  · simpa using h

/-- Taking a packet keeps the canonical form. -/
theorem rxOne_memWf (s : State) (p : HktPkt) (d : Nat) (w : RxDue) (h : memWf s.mem = true) : memWf (s.rxOne p d w).1.mem = true := by
  unfold State.rxOne
  dsimp only
  split
  · exact h
  · split
    · exact h
    · simpa using h
    · simpa using h
    · simpa using h
    · have hp := fun c l (t : State) (ht : t.mem = s.mem) => placePkt_memWf t c p l (ht ▸ h)
      dsimp only
      split
      · rw [reportMsg_mem]; exact hp _ _ _ (modCtx_mem ..)
      · exact hp _ _ _ (modCtx_mem ..)

/-- Releasing held packets keeps the canonical form. -/
theorem releaseFences_memWf (n : Nat) (s : State) (a b : Eid) (w : RxDue) (h : memWf s.mem = true) :
    memWf (State.releaseFences n s a b w).1.mem = true := by
  induction n generalizing s w with
  | zero => exact h
  | succ n ih =>
    unfold State.releaseFences
    split
    · exact h
    · split
      · exact h
      · exact ih _ _ (rxOne_memWf _ _ _ _ (by simpa using h))

/-- Taking a packet, with the held packets it releases, keeps the canonical form. -/
theorem rxTake_memWf (s : State) (p : HktPkt) (d : Nat) (h : memWf s.mem = true) : memWf (s.rxTake p d).mem = true :=
  releaseFences_memWf _ _ _ _ _ (rxOne_memWf _ _ _ _ h)

/-- A received packet keeps the canonical form. -/
theorem rxData_memWf (s : State) (op : Nat) (p : HktPkt) (h : memWf s.mem = true) : memWf (s.rxData op p).mem = true := by
  have key : ∀ (t : State) (p : HktPkt), memWf t.mem = true → memWf (t.rxPsn p).mem = true := by
    intro t p ht
    unfold State.rxPsn
    dsimp only
    split
    · simpa using ht
    · repeat' split
      all_goals first | simpa using ht | exact rxTake_memWf _ _ _ ht
  unfold State.rxData
  dsimp only
  split
  · simpa using h
  · split
    · exact key _ _ (by simpa using h)
    · simpa using h

/-- A reset leaves memory empty. -/
theorem warmReset_mem (s : State) (c : Nat) (b : BootIn) : (s.warmReset c b).mem = [] := rfl

theorem coldReset_mem (s : State) (st f : Nat) (l : List (Nat × Bank)) (b : BootIn) : (s.coldReset st f l b).mem = [] := by
  unfold State.coldReset
  dsimp only
  split <;> rfl

/-- Leaving the hold leaves memory empty. -/
theorem leaveHold_mem (s : State) (c : Nat) (b : BootIn) : (s.leaveHold c b).mem = [] := rfl

/-- The end of a stop leaves memory as it was, or empty after a reset. -/
theorem stopEnd_mem (s : State) (o : Option Nat) (b : BootIn) : (s.stopEnd o b).mem = s.mem ∨ (s.stopEnd o b).mem = [] := by
  unfold State.stopEnd
  dsimp only
  split
  · exact .inr rfl
  · exact .inl rfl

end Sys2Proof.Machine
end

