-- ==== Sys2Proof/Laws/Send.lean ====
section
/-! SUPPORT. What sending a message to a peer, a packet on the ports, and a request toward host memory may write. -/

namespace Sys2Proof.Machine

open F

/-- What sending packets writes: counters, scheduler leaves, cells, and the packets that wait for the management port. -/
def packetOutW : Writes := { parts := [.ctr, .hkt, .tms, .swc], fields := cells }

/-- What sending a message writes beside: events, contexts, the generator and the free noise a new context's epoch takes. -/
def messageW : Writes := { parts := [.evt, .ctr, .hkt, .tms, .swc, .key, .freeCtr], fields := cells ++ contexts }

/-- What a request toward host memory writes; a CQE's also the samples of added latency it ends. -/
def hostOpW : Writes := { parts := [.evt, .ctr, .tel, .qpe, .hif, .slc, .outbox], fields := [SLC_LOG_STATUS_out_span] }

theorem within_bufStatus (s : State) : Within packetOutW s s.bufStatus :=
  (within_set s _ _ _ rfl).trans (within_set _ _ _ _ rfl)

theorem within_takeCells (s : State) (n c : Nat) : Within packetOutW s (s.takeCells n c).2 :=
  (within_swc s _ rfl).trans (within_bufStatus _)

theorem within_sendOn (s : State) (p : HktPkt) (t : Nat) (y : Bool) (q : Nat) : Within packetOutW s (s.sendOn p t y q) := by
  unfold State.sendOn
  dsimp only
  split
  · exact (within_takeCells s _ _).trans (within_tms _ _ rfl)
  · unfold State.dropAtQueue
    split
    · exact (within_bump s _ _ rfl).trans (within_bump _ _ _ rfl)
    · exact .refl _ _

theorem within_sendPkt (s : State) (p : HktPkt) (t : Nat) (y : Bool) : Within packetOutW s (s.sendPkt p t y) := by
  have h : ∀ (u : State) (p : HktPkt), Within packetOutW u (match u.hktPorts p.hdr.src p.hdr.dst p.hdr.path (36 + groupOf p.hdr.dst) with
      | [] => u.bump (ctrFwd 0 14)
      | l => u.each l fun s q => s.sendOn p t y q) := by
    intro u p
    split
    · exact within_bump _ _ _ rfl
    · exact within_each _ _ _ fun s q => within_sendOn s p t y q
  unfold State.sendPkt
  dsimp only
  split
  · exact within_hkt s _ rfl
  · refine .trans (t := s.bump (ctrFwd 0 0)) (within_bump s _ _ rfl) (.trans ?_ (h _ (s.marked p)))
    split <;> exact within_bump _ _ _ rfl

theorem within_putCtx {w : Writes} (s : State) (c : HktCtx) (h : w.part .hkt = true) : Within w s (s.putCtx c) := within_hkt s _ h

theorem within_calPut {w : Writes} (s : State) (e : CalEntity) (b d : Word64) (h : w.part .tms = true) :
    Within w s (s.calPut e b d) := by
  unfold State.calPut
  dsimp only
  split
  · exact .refl _ _
  · exact within_tms s _ h

theorem within_ctxStatus (s : State) : Within messageW s s.ctxStatus :=
  (within_set s _ _ _ rfl).trans (within_set _ _ _ _ rfl)

theorem within_spillFull (s : State) : Within messageW s s.spillFull := by
  unfold State.spillFull
  exact within_ite _ (fun _ => .refl _ _) fun _ => (within_raise s EV_HKT_SPILL_FULL 0 0 [] rfl rfl).trans (within_hkt _ _ rfl)

theorem within_freeNoise {w : Writes} (s : State) (h : w.part .freeCtr = true) : Within w s s.freeNoise.2 :=
  (within_freeCtr s _ h).trans (within_freeCtr _ _ h)

/-- A generate request writes the generator, and the count of free values where a reseed was due. -/
theorem within_drbg {w : Writes} (s : State) (n : Nat) (hk : w.part .key = true) (hf : w.part .freeCtr = true) :
    Within w s (s.drbg n).2 := by
  unfold State.drbg
  dsimp only
  refine .trans ?_ (within_key _ _ hk)
  split
  · exact (within_freeNoise s hf).trans (within_key _ _ hk)
  · exact .refl _ _

theorem within_nextEpoch (s : State) (l : Eid) : Within messageW s (s.nextEpoch l).2 := by
  unfold State.nextEpoch
  dsimp only
  split
  · exact within_hkt s _ rfl
  · exact (within_drbg s 1 rfl rfl).trans (within_hkt _ _ rfl)

theorem within_needCtx {s t : State} {l p : Eid} {c : HktCtx} (h : s.needCtx l p = some (c, t)) : Within messageW s t := by
  unfold State.needCtx at h
  split at h
  · split at h
    · split at h
      · cases h; exact .refl _ _
      · cases h
        exact (within_bump s _ _ rfl).trans ((within_hkt _ _ rfl).trans (within_ctxStatus _))
    · cases h; exact within_hkt s _ rfl
  · split at h
    · cases h
    · cases h
      exact (within_nextEpoch s l).trans ((within_hkt _ _ rfl).trans (within_ctxStatus _))

theorem within_sendOne (s : State) (c : HktCtx) (m : TxMsg) (r : List TxMsg) : Within messageW s (s.sendOne c m r).1 := by
  unfold State.sendOne
  dsimp only
  exact ((((within_sendPkt s _ _ _).widen rfl rfl rfl).trans (within_bump _ _ _ rfl)).trans (within_bump _ _ _ rfl)).trans (within_hkt _ _ rfl)

theorem within_pumpCtx (n : Nat) (s : State) (c : HktCtx) : Within messageW s (State.pumpCtx n s c) := by
  induction n generalizing s c with
  | zero => exact .refl _ _
  | succ n ih =>
    unfold State.pumpCtx
    split
    · exact .refl _ _
    · split
      · exact (within_sendOne s _ _ _).trans (ih _ _)
      · exact .refl _ _

theorem within_pump (s : State) (l p : Eid) : Within messageW s (s.pump l p) := by
  unfold State.pump
  split
  · exact .refl _ _
  · split
    · exact within_pumpCtx _ _ _
    · split
      · exact .refl _ _
      · exact within_calPut _ _ _ _ rfl

/-- Sending a message writes events, counters, contexts, scheduler leaves, cells and, for an epoch, the generator, nothing else. -/
theorem within_sendMsg (s : State) (l p : Eid) (b : MsgBody) (f n : Bool) (v : Nat) (u : Purpose) (t : Nat) (y : Bool) :
    Within messageW s (s.sendMsg l p b f n v u t y) := by
  unfold State.sendMsg
  dsimp only
  split
  · exact .refl _ _
  refine .trans (within_hkt s { s.hkt with nextMsg := s.hkt.nextMsg + 1 } rfl) ?_
  split
  · exact (within_spillFull _).trans (within_hkt _ _ rfl)
  · next h => exact (within_needCtx h).trans ((within_hkt _ _ rfl).trans (within_pump _ _ _))

/-! ## Toward host memory -/

theorem within_foldMark (s : State) (n b w v : Nat) (l : SliceLog) : Within hostOpW s (s.foldMark n b w v l) := by
  unfold State.foldMark
  dsimp only
  split
  · exact within_slc s _ rfl
  · constructor <;> intros <;> first | rfl | exact absurd ‹_› (by decide)

theorem within_markPage (s : State) (n a : Nat) : Within hostOpW s (s.markPage n a) := by
  unfold State.markPage
  split
  · exact .refl _ _
  · dsimp only
    split
    · split
      · exact within_set _ _ _ _ rfl
      · exact (within_set _ _ _ _ rfl).trans ((within_slc _ _ rfl).trans (within_raise _ _ _ _ _ rfl rfl))
    · refine .trans ?_ (within_slc _ _ rfl)
      split
      · exact .refl _ _
      · split
        · exact .refl _ _
        · split
          · split
            · exact (within_slc _ _ rfl).trans (within_foldMark _ _ _ _ _ _)
            · exact .refl _ _
          · exact .refl _ _

theorem within_markWrite (s : State) (o : QOwner) (a n : Nat) : Within hostOpW s (s.markWrite o a n) := by
  unfold State.markWrite
  split
  · exact within_each _ _ _ fun s b => within_markPage s _ b
  · exact .refl _ _

theorem within_sampleLats (s : State) (q k : Nat) : Within hostOpW s (s.sampleLats q k) := by
  unfold State.sampleLats
  split
  · exact .refl _ _
  · refine (within_qpe s _ rfl).trans (within_each _ _ _ fun s l => ?_)
    dsimp only
    split
    · exact (within_tel _ _ rfl).trans ((within_tel _ _ rfl).trans (within_tel _ _ rfl))
    · exact (within_tel _ _ rfl).trans (within_tel _ _ rfl)

theorem within_issueReq (s : State) (r : HostReq) : Within hostOpW s (s.issueReq r) := by
  unfold State.issueReq
  dsimp only
  split
  · refine .trans ?_ ((within_hif _ _ rfl).trans ((within_send _ _ rfl).trans ((within_bump _ _ _ rfl).trans (within_bump _ _ _ rfl))))
    split
    · exact within_bump _ _ _ rfl
    · exact .refl _ _
  · exact (within_markWrite _ _ _ _).trans ((within_send _ _ rfl).trans ((within_bump _ _ _ rfl).trans (within_bump _ _ _ rfl)))
  · exact (within_markWrite _ _ _ _).trans ((within_send _ _ rfl).trans ((within_bump _ _ _ rfl).trans ((within_bump _ _ _ rfl).trans
      (within_sampleLats _ _ _))))
  · exact (within_send _ _ rfl).trans (within_bump _ _ _ rfl)

theorem within_hifPump (n : Nat) (s : State) : Within hostOpW s (s.hifPump n) := by
  induction n generalizing s with
  | zero => exact .refl _ _
  | succ n ih =>
    unfold State.hifPump
    split
    · exact (within_hif s _ rfl).trans ((within_issueReq _ _).trans (ih _))
    · refine within_each _ _ _ fun s r => ?_
      split
      · dsimp only
        split
        · exact (within_hif s _ rfl).trans ((within_send _ _ rfl).trans (within_bump _ _ _ rfl))
        · exact .refl _ _
      · exact .refl _ _

/-- A request toward host memory writes events, counters, latency samples, the port's queues, the dirty marks and the outbox, nothing
else. -/
theorem within_hostOp (s : State) (o : QOwner) (p : HostOp) : Within hostOpW s (s.hostOp o p) :=
  (within_hif s _ rfl).trans (within_hifPump _ _)

theorem within_intxUpdate (s : State) : Within hostOpW s s.intxUpdate := by
  unfold State.intxUpdate
  dsimp only
  split
  · exact .refl _ _
  · exact (within_hif s _ rfl).trans (within_send _ _ rfl)

theorem within_message (s : State) (o : QOwner) (e v : Nat) : Within hostOpW s (s.message o e v) := by
  unfold State.message
  dsimp only
  split
  · exact within_intxUpdate s
  · exact within_ite _ (fun _ => within_hif s _ rfl) fun _ => within_hostOp _ _ _

theorem within_interrupt (s : State) (o : QOwner) (v : Nat) (a : Bool) : Within hostOpW s (s.interrupt o v a) := by
  unfold State.interrupt
  dsimp only
  split
  · exact within_message _ _ _ _
  · split
    · exact (within_hif s _ rfl).trans (within_message _ _ _ _)
    · exact within_hif s _ rfl

end Sys2Proof.Machine
end

