-- ==== Sys2Proof/Machine/Leds.lean ====
section
/-! DEFINITION. What the module shows and drives outward, each computed from the state: its LEDs (R429, R430, R469), the drive bay
indication (R463) and the slot outputs of the midplane (R435, R454, R464). -/

namespace Sys2Proof.Machine

open F

/-! ## LEDs (R429) -/

inductive LedColour where
  | green | amber | white | blue
  deriving DecidableEq, Repr

/-- What an LED does: `blink c n` blinks n times in 2 s, `alternate` is green and amber at 4 Hz (R429). -/
inductive Led where
  | off
  | steady (c : LedColour)
  | blink (c : LedColour) (n : Nat)
  | alternate
  deriving DecidableEq, Repr

/-- Whether the module's logic has power (R441): from a feed, or from the store that supports the bus (assumption log 110). -/
def State.powered (s : State) : Bool := !s.feedless || s.get PWR_STORE_STATUS_state = 3

/-- Whether the module is degraded, as STAT shows it (R429): a member FAILED, a feed absent, the store short or failed, the pair split, a
thermal warning of R448. -/
def State.degraded (s : State) : Bool :=
  ((List.range 32).any fun x => s.get REB_MEMBER_state x = 4) || !s.feedThere 0 || !s.feedThere 1 || s.storeShort ||
    s.get PAIR_STATUS_state = 4 || s.pwr.inletHot || s.pwr.dieWarm || s.pwr.dieCrit

/-- STAT (R429): the highest row that holds governs. Where no row holds (a module held after an orderly stop) it is off (assumption log
110). -/
def State.ledStat (s : State) : Led :=
  let stage := s.get BOOT_STATUS_stage
  if !s.powered then .off
  else if s.dumpRuns then .alternate
  else if s.evt.lastFatal.isSome || (s.boot.held && s.boot.failed) then .steady .amber
  else if s.degraded then .blink .amber 2
  else if decide (stage < 8) || stage = 9 || s.stopping then .blink .green 2
  else if stage = 8 then .steady .green
  else .off

/-- STAT while the service button has been held for `ms` ms (R430): the action that a release would take. -/
def State.ledPressed (s : State) (ms : Nat) : Led :=
  if s.dumpRuns || decide (ms < 3000) then s.ledStat
  else if ms < 6000 then .blink .amber 2
  else if ms < 10000 then .blink .amber 8
  else .steady .amber

/-- SAFE (R429): held in reset after a stop that left Névé empty or a sealed dump. -/
def State.ledSafe (s : State) : Led :=
  if s.jnl.phase = .held && !s.boot.failed && (s.boot.shutdown = some 1 || s.boot.shutdown = some 2) then .steady .white else .off

/-- HOLD (R429). -/
def State.ledHold (s : State) : Led :=
  if s.get PWR_STORE_STATUS_state = 4 then .steady .amber
  else if s.storeShort then .blink .amber 2
  else if s.get PWR_STORE_STATUS_state = 0 || s.get PWR_STORE_STATUS_state = 2 then .blink .green 2
  else .steady .green

/-- FEED A and FEED B (R429). -/
def State.ledFeed (s : State) (f : Nat) : Led :=
  if s.feedState f = 0 then .steady .amber
  else if s.flag PWR_FEED_STATUS_active f then .steady .green
  else if s.feedState f = 1 then .blink .amber 2
  else .blink .green 1

/-- A cage's LED (R429): the ports its mode uses. -/
def State.ledCage (s : State) (c : Nat) : Led :=
  let ports := ((List.range 4).map (4 * c + ·)).filter fun p => (s.cageSpeed p).isSome
  if s.absentReg MAC_CAGE_CFG_mode.reg c || !(ports.any fun p => s.flag MAC_PORT_CFG_en p) then .off
  else if ports.all fun p => s.flag MAC_PORT_STATUS_up p then .steady .green
  else .steady .amber

/-- ID (R429): the locator. -/
def State.ledId (s : State) : Led := if s.flag GLB_CTRL_locate then .steady .blue else .off

/-! ## Midplane outputs (R435, R464) -/

/-- How an output is driven. -/
inductive Drive where
  | z | low | high
  deriving DecidableEq, Repr

/-- The outputs of a slot: DRV_PERST#, SLT_GATE12 (high: driven, low: pulled down), SLT_EN3, DRV_PWRDIS, and DRV_LED where it is driven. -/
structure SlotPins where
  perst  : Drive
  gate   : Drive
  en3    : Drive
  pwrdis : Drive
  led    : Option Led
  deriving DecidableEq, Repr

/-- DRV_LED of a slot (R463). -/
def State.ledDrive (s : State) (x : Nat) : Led :=
  if s.chState x = 6 || s.chState x = 7 || s.get REB_MEMBER_state x = 4 then .steady .amber
  else if s.flag SLT_CH_STATUS_locate x then .blink .amber 2
  else .off

/-- Whether the module is held in reset or has not reached step 5 of its boot (R435, R479). -/
def State.slotsIdle (s : State) : Bool := s.boot.held || s.jnl.phase = .held || !s.slt.enabled

/-- The outputs of a slot (R435, R454, R464): the shared ones are at high impedance before seating, in a pair shelf during a reset, and at
any time where the partner is power owner. -/
def State.slotPins (s : State) (x : Nat) : SlotPins :=
  let lvl (b : Bool) : Drive := if b then .high else .low
  if !s.pwr.seated && !s.boot.held then ⟨.low, .z, .z, .z, none⟩
  else if s.slotsIdle then (if s.pairShelf then ⟨.low, .z, .z, .z, none⟩ else ⟨.low, .low, .low, .high, some .off⟩)
  else
    let perst := lvl (s.flag SLT_CH_STATUS_perst_rel x)
    if !s.slotOwner x then ⟨perst, .z, .z, .z, none⟩
    else
      let c := s.slot x
      ⟨perst, lvl c.gate, lvl c.aux, lvl c.pwrdis, some (s.ledDrive x)⟩

/-- ALIVE_OUT (R329, R435): high once the module is out of reset, until step 5 of its dump. -/
def State.aliveOut (s : State) : Bool :=
  s.powered && !s.slotsIdle && (match s.jnl.phase with | .writing _ _ => false | _ => true)

end Sys2Proof.Machine
end

