-- ==== Sys2Proof/Machine/Pcie.lean ====
section
/-! DEFINITION. The endpoints as a host's enumeration finds them (chapter 14): what the identity table gives the header (R388), the
capabilities (R389), the base address registers (R390) and the layout of BAR2 (R391). -/

namespace Sys2Proof.Machine

open F

/-- The identity an endpoint's configuration header reports (R388). -/
structure PcieId where
  vid   : Nat
  did   : Nat
  ssvid : Nat
  ssid  : Nat
  rev   : Nat
  class_ : Nat
  deriving DecidableEq, Repr

/-- The identity of endpoint E0 or E1. -/
def State.pcieId (s : State) (e : Nat) : PcieId :=
  let t := s.hif.idt
  ⟨t.vid, if e = 0 then t.didE0 else t.didE1, t.ssvid, t.ssid, t.rev, if e = 0 then t.classE0 else t.classE1⟩

/-- A capability with what is specific to the module (R386, R389). -/
inductive PcieCap where
  | powerManagement (d3hot noSoftReset : Bool)
  | express (maxPayload : Nat) (flr extendedTag tag10 tag14 : Bool) (timeoutRanges : List Char) (timeoutDisable : Bool) (aspm : Nat)
  | msi (vectors : Nat) (masking : Bool)
  | msix (vectors : Nat)
  | aer
  | serial (die : Nat)
  | ats (invalidateDepth : Nat) (pageAligned : Bool)
  | pasid (width : Nat) (execute privileged : Bool)
  | doe (cmaSpdm : Bool)
  | physicalLayer (gts : Nat)
  | dataLinkFeature
  | flitLogging
  deriving DecidableEq, Repr

/-- The capabilities of an endpoint, and no others (R389). -/
def State.pcieCaps (s : State) (e : Nat) : List PcieCap :=
  let t := s.hif.idt
  [.powerManagement true false, .express 512 true true true true ['A', 'B', 'C', 'D'] true 0,
    .msi (if e = 0 then 32 else 1) (e = 0), .msix (if e = 0 then t.msixE0 else t.msixE1), .aer, .serial (s.get GLB_SERIAL_serial)] ++
    (if t.atsEn then [.ats 32 true] else []) ++ (if t.pasidEn && e = 0 then [.pasid 20 false false] else []) ++
    (if t.doeEn then [.doe true] else []) ++ [.physicalLayer 16, .physicalLayer 32, .physicalLayer 64, .dataLinkFeature, .flitLogging]

/-- Whether a read of an endpoint's configuration space completes with Request Retry Status (R389): while its reset runs. -/
def State.cfgRetry (s : State) (e : Nat) : Bool := s.hif.inReset.contains e

/-- The bytes of a 64-bit memory BAR of an endpoint and whether it is prefetchable (R390): 0, 2 or 4; none where it is absent. -/
def State.barSize (s : State) (e bar : Nat) : Option (Nat × Bool) :=
  match e, bar with
  | 0, 0 => some (2 ^ 26, false)
  | 0, 2 => some (2 ^ 23, false)
  | 1, 2 => some (2 ^ 14, false)
  | 0, 4 => if s.hif.idt.bar4Log2 = 0 then none else some (2 ^ s.hif.idt.bar4Log2, true)
  | _, _ => none

/-- What an offset of BAR2 reaches (R391): a doorbell page at a byte, a slice's admin queue registers, a word of an MSI-X entry, a byte
of the pending bits, or nothing (reads 0, writes ignored). -/
inductive Bar2 where
  | doorbell (o : QOwner) (byte : Nat)
  | adminRegs (slice byte : Nat)
  | msix (vector byte : Nat)
  | pba (byte : Nat)
  | absent
  deriving DecidableEq, Repr

/-- The layout of BAR2 (R391): a slice that E1 carries has no page through E0. -/
def State.bar2 (s : State) (e off : Nat) : Bar2 :=
  let t := s.hif.idt
  if e = 0 then
    if off < 0x1000 then .doorbell .fn off
    else if off < 0x1000 + 0x1000 * 1024 then
      let n := off / 0x1000 - 1
      if s.slc.e1 = some n then .absent else .doorbell (.slice n) (off % 0x1000)
    else if 0x500000 ≤ off && off < 0x500000 + 16 * t.msixE0 then .msix ((off - 0x500000) / 16) (off % 16)
    else if 0x580000 ≤ off && off < 0x580000 + 256 then .pba (off - 0x580000)
    else .absent
  else
    match s.slc.e1 with
    | none => .absent
    | some n =>
      if off < 0x1000 then .doorbell (.slice n) off
      else if off < 0x2000 then .adminRegs n (off - 0x1000)
      else if off < 0x2000 + 16 * t.msixE1 then .msix ((off - 0x2000) / 16) (off % 16)
      else if 0x3000 ≤ off && off < 0x3000 + 32 then .pba (off - 0x3000)
      else .absent

/-- A byte of the pending bit array of an endpoint (R391, R393): bit j is vector 8 × byte + j. -/
def State.pbaByte (s : State) (e byte : Nat) : Nat :=
  ((List.range 8).filter fun j => s.hif.pendVec.contains (e, 8 * byte + j)).foldl (fun n j => n + 2 ^ j) 0

end Sys2Proof.Machine
end

