-- ==== Sys2Proof/WellFormed.lean ====
section
/-! DEFINITION. Which commands are well formed: every operand within the range its field, register index or object number has in the
spec.  Numbers the model itself gives out (commands in flight, stripes, local reads) have no range of their own. -/

namespace Sys2Proof

/-- A drive slot or member (R3). -/
def slotOk (x : Nat) : Bool := decide (x < 32)

/-- A port (R362): front ports 0 to 31, pair links 32 and 33. -/
def portOk (p : Nat) : Bool := decide (p < 34)

/-- A namespace index (R139). -/
def nsOk (i : Nat) : Bool := decide (i < 4096)

/-- A key slot (R179). -/
def keyOk (n : Nat) : Bool := decide (n < 65536)

/-- A Névé slot (R242). -/
def neveOk (i : Nat) : Bool := decide (i < 519168)

/-- A segment number (R203). -/
def segOk (n : Nat) : Bool := decide (n < 2 ^ 24)

/-- An access width in bytes a bus can carry (R12, R390). -/
def widthOk (w : Nat) : Bool := w = 1 || w = 2 || w = 4 || w = 8

/-- A PASID where there is one (R394). -/
def pasidOk (p : Option Nat) : Bool := p.all fun n => decide (n < 2 ^ 20)

/-- The base header of R46. -/
def HktHdr.wf (h : HktHdr) : Bool :=
  decide (h.version < 16) && decide (h.opcode < 16) && decide (h.svc < 8) && decide (h.path < 16) && decide (h.extLen < 256) &&
    decide (h.unaDelta < 65536)

/-- What the ingress port adds to a packet. -/
def Ingress.wf (g : Ingress) : Bool := portOk g.port && decide (g.srcPort < 65536)

/-- The extensions of R49. -/
def WriteExt.wf (x : WriteExt) : Bool :=
  decide (x.offset < 2 ^ 64) && decide (x.msgLen < 2 ^ 32) && decide (x.pktIndex < 65536) && decide (x.pktCount < 65536)
def ReadReqExt.wf (x : ReadReqExt) : Bool := decide (x.offset < 2 ^ 64) && decide (x.readLen < 2 ^ 32)
def ReadRespExt.wf (x : ReadRespExt) : Bool := decide (x.offset < 2 ^ 32) && decide (x.pktIndex < 65536) && decide (x.pktCount < 65536)
def SendExt.wf (x : SendExt) : Bool :=
  decide (x.service < 65536) && decide (x.msgLen < 2 ^ 32) && decide (x.offset < 2 ^ 32) && decide (x.pktIndex < 65536) &&
    decide (x.pktCount < 65536)
def DoorbellExt.wf (x : DoorbellExt) : Bool := decide (x.qpn < 65536) && decide (x.ring < 256) && decide (x.value < 2 ^ 32)
def AckExt.wf (x : AckExt) : Bool := decide (x.rwnd < 65536) && decide (x.echoPath < 16)
def NakExt.wf (x : NakExt) : Bool := decide (x.code < 256) && decide (x.echoPath < 16) && decide (x.info < 65536)
def ProbeExt.wf (x : ProbeExt) : Bool := decide (x.kind < 256) && decide (x.path < 256)

/-- Location and reachability records (R341, R380). -/
def LocRec.wf (r : LocRec) : Bool := decide (r.nsid < 2 ^ 32) && decide (r.ownerId < 16384) && decide (r.ttl < 256)
def ModRec.wf (r : ModRec) : Bool := decide (r.moduleId < 16384) && decide (r.hops < 256)

/-- A queue's owner: the network, the function of an endpoint, or a slice (R100). -/
def QOwner.wf : QOwner → Bool
  | .net _ => true
  | .fn => true
  | .slice n => decide (n < 1024)

/-- A queue setup message (R104). -/
def QSetup.wf (m : QSetup) : Bool :=
  decide (m.op < 256) && decide (m.qpn < 65536) && decide (m.sqEntries < 65536) && decide (m.cqEntries < 65536) &&
    decide (m.notifyCount < 256) && decide (m.notifyTime < 256)

/-- The header of a pair frame (R324). -/
def PairHdr.wf (h : PairHdr) : Bool :=
  decide (h.link < 2) && decide (h.seq < 2 ^ 32) && decide (h.ack < 2 ^ 32) && decide (h.formation < 2 ^ 32)

/-- A heartbeat (R327). -/
def Heartbeat.wf (h : Heartbeat) : Bool := decide (h.moduleId < 16384) && decide (h.state < 8)

/-- A Névé descriptor (R243). -/
def NeveDesc.wf (d : NeveDesc) : Bool := nsOk d.ns && d.owner.wf && decide (d.seq < 2 ^ 48) && decide (d.firnMark < 2 ^ 32)

/-- A frame at the switch (R19, R43): its length from destination MAC to FCS. -/
def Frame.wf (f : Frame) : Bool := (portOk f.port || f.port = 48) && decide (f.dst < 2 ^ 48) && decide (f.src < 2 ^ 48) && decide (f.len < 65536)

/-- What a reset finds (R192 to R194). -/
def BootIn.wf (b : BootIn) : Bool := (b.lanes.all fun l => decide (l < 48)) && decide (b.selfTest < 2) && b.adopted.all slotOk &&
  decide (b.noise.length = 1024) && decide (b.again.length = 1024)

/-- A flash bank (R468). -/
def Bank.wf (k : Bank) : Bool := decide (k.state < 5) && decide (k.tries < 256)

/-- What an uncorrectable HBM unit belongs to (R30). -/
def HbmHit.wf : HbmHit → Bool
  | .none => true
  | .neve i => neveOk i
  | .page ns _ => nsOk ns
  | .read _ _ => true
  | .stripe _ => true
  | .restore g => segOk g
  | .peer _ _ => true

/-- What bring-up finds at a drive (R303, R308). -/
def DriveFacts.wf (f : DriveFacts) : Bool :=
  decide (f.classCode < 2 ^ 24) && decide (f.cntlid < 65536) && decide (f.warning < 256)

/-- What enumeration leaves (R386). -/
def EpConfig.wf (c : EpConfig) : Bool := decide (c.speed < 16) && decide (c.width ≤ 16) && decide (c.intMode < 3)

/-- A second's sensor readings (R447). -/
def PwrRead.wf (m : PwrRead) : Bool :=
  decide (m.vbus < 65536) && decide (m.ibus < 4096) && decide (m.die < 256) && decide (m.inlet < 256) && decide (m.store < 256) &&
    decide (m.feA < 256) && decide (m.feB < 256) && decide (m.vstore < 65536)

/-- A slot channel's sample (R450). -/
def SlotSense.wf (m : SlotSense) : Bool := decide (m.vOut < 65536) && decide (m.v3 < 65536) && decide (m.supply < 65536) && decide (m.cur < 65536)

/-- A slot channel's state in a pair frame (R464, R465). -/
def ChanState.wf (c : ChanState) : Bool := decide (c.state < 8)

/-- An event report (R502 to R505). -/
def Report.wf (p : Report) : Bool := decide (p.code < 65536) && decide (p.sev < 5) && decide (p.srcKind < 16) && decide (p.args.length ≤ 7)

/-- An access path (R533). -/
def AccessPath.wf : AccessPath → Bool
  | .core => true
  | .bar0 => true
  | .service _ => true
  | .slice n => decide (n < 1024)

/-- A completion status (R117). -/
def Status.wf (t : Status) : Bool := decide (t.sct < 8) && decide (t.sc < 256)

/-- A forwarded command (R337). -/
def FwdCmd.wf (f : FwdCmd) : Bool := decide (f.opcode < 256) && nsOk f.ns && f.owner.wf

/-- Whether every operand of a command is in its range. -/
def Instr.wf : Instr → Bool
  | .registerWrite path a width v => path.wf && decide (a < 2 ^ 32) && widthOk width && decide (v < 2 ^ (8 * width))
  | .swcBufStatusRead => true
  | .pwrBusStatusRead => true
  | .sltChAvgRead x => slotOk x
  | .coldReset straps feed banks b => decide (straps < 16) && decide (feed < 2) && (banks.all fun b => decide (b.1 < 2) && b.2.wf) && b.wf
  | .warmReset cause b => decide (1 ≤ cause) && decide (cause ≤ 8) && b.wf
  | .coreDataAccess core => decide (core < 16)
  | .refLost ppm => decide (ppm < 65536)
  | .hbmUe area off hit => decide (area < 10) && decide (off < 2 ^ 37) && hit.wf
  | .mgmtRegisterAccess => true
  | .hktWriteRx h x g => h.wf && x.wf && g.wf
  | .hktReadReqRx h x g => h.wf && x.wf && g.wf
  | .hktReadRespRx h x g => h.wf && x.wf && g.wf
  | .hktSendRx h x g => h.wf && x.wf && g.wf
  | .hktDoorbellRx h x g => h.wf && x.wf && g.wf
  | .hktAckRx h x g => h.wf && x.wf && g.wf
  | .hktNakRx h x g => h.wf && x.wf && g.wf
  | .hktProbeRx h x g => h.wf && x.wf && g.wf
  | .ackDelayExpiry _ _ => true
  | .gapTimerExpiry _ _ => true
  | .rtoExpiry _ _ => true
  | .rnrWaitExpiry _ _ => true
  | .windowProbeDue _ _ => true
  | .pathProbeInterval _ _ => true
  | .epochAdvance _ _ => true
  | .spillSendResume => true
  | .regionRevokeDone i => decide (i < 262144)
  | .calendarSlot slot => decide (slot < 16384)
  | .policeHoldTimeout _ => true
  | .tmsQueueSample => true
  | .schedulerPick root => decide (root < 35)
  | .pfcRefresh p tc => portOk p && decide (tc < 8)
  | .pfcFrameRx p l => portOk p && (l.all fun x => decide (x.1 < 8) && decide (x.2 < 65536))
  | .pfcPauseExpiry p tc => portOk p && decide (tc < 8)
  | .pfcStormTrip p tc => portOk p && decide (tc < 8)
  | .pfcStormRestore p tc => portOk p && decide (tc < 8)
  | .queueCreate _ _ m => m.wf
  | .queueDelete _ _ m => m.wf
  | .queueQuery _ _ m => m.wf
  | .queueReset _ _ m => m.wf
  | .queueDeletionDone q => decide (q < 65537)
  | .createIoCq _ => true
  | .createIoSq _ => true
  | .deleteIoSq _ => true
  | .deleteIoCq _ => true
  | .localDoorbellWrite o offset width value => o.wf && decide (offset < 2 ^ 32) && widthOk width && decide (value < 2 ^ (8 * width))
  | .fetchResume => true
  | .sqeFetchComplete q => decide (q < 65537)
  | .localDmaCompletion _ _ => true
  | .dmaCompletionTimeout _ _ => true
  | .commandStart _ => true
  | .cqePost q => decide (q < 65537)
  | .mergeWaitExpiry q => decide (q < 65537)
  | .notifyTimeExpiry q => decide (q < 65537)
  | .intCoalesceExpiry o v => o.wf && decide (v < 2048)
  | .flush _ => true
  | .flushDone _ => true
  | .write _ => true
  | .read _ => true
  | .writeZeroes _ => true
  | .datasetManagement _ => true
  | .copy _ => true
  | .wait _ => true
  | .waitTimeout _ => true
  | .abort _ => true
  | .adminHoldTimeout _ => true
  | .ownerHoldTimeout _ => true
  | .getLogPage _ => true
  | .identify _ => true
  | .setFeatures _ => true
  | .setFeaturesTenant _ => true
  | .setFeaturesNsService _ => true
  | .nsServiceDone => true
  | .getFeatures _ => true
  | .asyncEventRequest _ => true
  | .nsCreate _ => true
  | .nsDelete _ => true
  | .nsDeleteDrained i => nsOk i
  | .nsAttach _ => true
  | .nsDetach _ => true
  | .regionRegister _ => true
  | .regionRevoke _ => true
  | .firmwareImageDownload _ => true
  | .downloadBufferExpiry => true
  | .firmwareCommitStore _ => true
  | .firmwareCommitPending _ => true
  | .firmwareCommitActivateSlot _ => true
  | .firmwareCommitActivateNow _ => true
  | .actHandoverDone => true
  | .actFirmwareReady pkgs => decide (pkgs < 4)
  | .actTimeout => true
  | .cipherUnitDone lane => decide (lane < 48)
  | .neveReserve => true
  | .kekAgree slot _ => keyOk slot
  | .keyImport slot aux kind _ _ => keyOk slot && keyOk aux && decide (kind < 4)
  | .zeroise slot => keyOk slot
  | .rotateNs slot i _ => keyOk slot && nsOk i
  | .zeroiseAll => true
  | .rotationSweep i => nsOk i
  | .keyEpProtWrite e eid len slot => decide (e < 4096) && decide (eid < 2 ^ 32) && decide (len < 64) && keyOk slot
  | .prevSlotExpiry e => decide (e < 4096)
  | .drbgReseed => true
  | .noiseTestFail l => decide (l.seen.length ≤ 1024) && decide (l.again.length = 1024)
  | .keyFrameRx h _ => h.wf
  | .headPlaceBlock g => decide (g < 16)
  | .fillTimerExpiry _ => true
  | .chunkWriteDone x tag => slotOk x && decide (tag < 65536)
  | .firnFlushExpiry => true
  | .compactionStart => true
  | .mapPageReadDone ns _ => nsOk ns
  | .calvingVictim => true
  | .segmentReleaseDone seg => segOk seg
  | .nsLiveWalk => true
  | .adaptWindowEnd g => decide (g < 16)
  | .hedgeWindowEnd => true
  | .lateHedgeExpiry _ => true
  | .nevePutRx h idx d _ => h.wf && neveOk idx && d.wf
  | .firnPutRx h _ => h.wf
  | .mirrorAckRx h a f => h.wf && decide (a < 2 ^ 48) && decide (f < 2 ^ 48)
  | .neveRetireRx h l => h.wf && l.all neveOk
  | .neveFetchRx h idx => h.wf && neveOk idx
  | .dumpStart => true
  | .mirrorFlushEnd => true
  | .dumpSeal sealed torn _ b => (sealed.all fun p => decide (p < 2)) && (torn.all fun p => decide (p < 2)) && b.wf
  | .orderlyStopDrained b => b.wf
  | .orderlyStopTimeout => true
  | .linkLossTimeout x => slotOk x
  | .rebuildSegmentStart => true
  | .rebuildStripeDone seg => segOk seg
  | .rebuildRateUpdate => true
  | .crevassePersist => true
  | .crevasseWalk => true
  | .crevasseFrameRx h _ => h.wf
  | .rebFail x => slotOk x
  | .rebAdopt x => slotOk x
  | .rebPause => true
  | .rebResume => true
  | .createPool => true
  | .adoption x => slotOk x
  | .rewiden => true
  | .memberFrameRx h _ => h.wf
  | .driveBringup x f => slotOk x && f.wf
  | .driveBringupTimeout x _ => slotOk x
  | .driveCqe x tag st _ => slotOk x && decide (tag < 65536) && decide (st < 5)
  | .driveAsyncEvent x w => slotOk x && decide (w < 256)
  | .driveCfs x => slotOk x
  | .driveLinkLoss x => slotOk x
  | .aerCorrectable x => slotOk x
  | .driveCommandTimeout x tag => slotOk x && decide (tag < 65536)
  | .ladderRungTimeout x => slotOk x
  | .healthPoll x w => slotOk x && (w.all fun y => decide (y.1 < 256) && decide (y.2 < 256))
  | .driveFrameRx h _ => h.wf
  | .heartbeatPeriod => true
  | .heartbeatRx link h => decide (link < 2) && h.wf
  | .aliveLineChange _ => true
  | .takeoverReleaseHold => true
  | .splitYieldExpiry => true
  | .linkAckRx link ack formation => decide (link < 2) && decide (ack < 2 ^ 32) && decide (formation < 2 ^ 32)
  | .pairAckDelay => true
  | .pairRetransmitTimeout => true
  | .pairLinkSilence link => decide (link < 2)
  | .firnReqRx h origin _ => h.wf && decide (origin < 5)
  | .ownerRx h i gen => h.wf && nsOk i && decide (gen < 2 ^ 32)
  | .segGrantRx h _ => h.wf
  | .fwdCmdRx h f => h.wf && f.wf
  | .fwdDataRx h _ block _ => h.wf && decide (block < 65536)
  | .fwdDoneRx h _ st _ _ => h.wf && st.wf
  | .slotReleaseRx h slot c => h.wf && slotOk slot && c.wf
  | .slotTakenRx h slot => h.wf && slotOk slot
  | .slotStateRx h _ => h.wf
  | .moveNs i => nsOk i
  | .returnAll => true
  | .yield => true
  | .takeoverCmd => true
  | .learnLocationRx p hop _ l => p.hdr.wf && decide (hop < 256) && (l.all fun r => r.wf)
  | .locationRefresh => true
  | .locationQueueSend port => portOk port
  | .formWaitExpiry => true
  | .frameHeadArrival f => f.wf
  | .frameTailArrival _ _ len => decide (len < 65536)
  | .moraineSweep => true
  | .privilegedPortDown p => (portOk p || p = 48)
  | .frontPortDown p => decide (p < 32)
  | .portLinkUp p => (portOk p || p = 48)
  | .learnMessage => true
  | .hitMessage pipe => decide (pipe < 4)
  | .learnModuleRx h g mac hop _ l => h.wf && g.wf && decide (mac < 2 ^ 48) && decide (hop < 256) && (l.all fun r => r.wf)
  | .moduleRecordRefresh => true
  | .agerSweep => true
  | .rehashWalk t => decide (t < 2)
  | .rehashRetry t => decide (t < 2)
  | .fwdInsert t => decide (t < 2)
  | .fwdDelete t => decide (t < 2)
  | .fwdLookup t => decide (t < 2)
  | .fwdFlushPort t p => decide (t < 2) && decide (p < 64)
  | .fwdRehash t => decide (t < 2)
  | .hifCtrlEnable => true
  | .hifCtrlDisable => true
  | .bmeClear e => decide (e < 2)
  | .bmeSet e => decide (e < 2)
  | .bmeGraceExpiry g => decide (g < 1026)
  | .functionReset e kind => decide (e < 2) && decide (kind < 5)
  | .functionResetDone e => decide (e < 2)
  | .hifLinkDown l => decide (l < 2)
  | .hifLinkUp e c => decide (e < 2) && c.wf
  | .peerWindowAccess wr off len d => decide (off < 2 ^ 36) && decide (len < 4097) && (!wr || decide (d.length = len))
  | .peerCommit => true
  | .atsInvalidate e tag pasid page _ => decide (e < 2) && decide (tag < 32) && pasidOk pasid && decide (page < 2 ^ 52)
  | .atsInvalidateDone e tag => decide (e < 2) && decide (tag < 32)
  | .atsTranslationCompletion e pasid page r => decide (e < 2) && pasidOk pasid && decide (page < 2 ^ 52) && (r.all fun y => decide (y.1 < 2 ^ 52))
  | .msixUnmask e v => decide (e < 2) && decide (v < 2048)
  | .spdmGetVersion e req => decide (e < 2) && decide (req.length ≤ 65536)
  | .spdmGetCapabilities e req => decide (e < 2) && decide (req.length ≤ 65536)
  | .spdmNegotiateAlgorithms e req => decide (e < 2) && decide (req.length ≤ 65536)
  | .spdmGetDigests e req => decide (e < 2) && decide (req.length ≤ 65536)
  | .spdmGetCertificate e req => decide (e < 2) && decide (req.length ≤ 65536)
  | .spdmChallenge e req => decide (e < 2) && decide (req.length ≤ 65536)
  | .spdmGetMeasurements e req => decide (e < 2) && decide (req.length ≤ 65536)
  | .spdmUnsupported e req => decide (e < 2) && decide (req.length ≤ 65536)
  | .slcCreate n _ => decide (n < 1024)
  | .slcDestroy n => decide (n < 1024)
  | .slcResize n => decide (n < 1024)
  | .slcResetDrain n => decide (n < 1024)
  | .slcResetSquash n => decide (n < 1024)
  | .slcDrainTimeout n => decide (n < 1024)
  | .slcResetDone n => decide (n < 1024)
  | .slcPause n => decide (n < 1024)
  | .slcPauseQuiesced => true
  | .slcPauseTimeout => true
  | .slcResume n => decide (n < 1024)
  | .slcLogStart n => decide (n < 1024)
  | .slcLogStop n => decide (n < 1024)
  | .slcLogSync n => decide (n < 1024)
  | .slcSaveQp n => decide (n < 1024)
  | .slcRestoreQp n => decide (n < 1024)
  | .slcCtrlEnable n => decide (n < 1024)
  | .slcCtrlDisable n => decide (n < 1024)
  | .pasidEnableClear _ => true
  | .moduleSeated straps b => decide (straps < 16) && b.wf
  | .moduleUnseated => true
  | .seatPartial => true
  | .buttonRelease _ b => b.wf
  | .buttonZeroise => true
  | .feedAbsent f cause => decide (f < 2) && decide (cause < 8)
  | .feedQualifying f b => decide (f < 2) && b.wf
  | .feedGood f => decide (f < 2)
  | .feedRevert => true
  | .oringMake => true
  | .busFault mv => decide (mv < 65536)
  | .storeTestStart => true
  | .storeTestEnd mv step cells _ => decide (mv < 65536) && decide (step < 65536) && decide (cells < 65536)
  | .storeEnergyThreshold mv => decide (mv < 65536)
  | .inletHot c => decide (c < 256)
  | .dieWarn c => decide (c < 256)
  | .dieCrit c => decide (c < 256)
  | .sensorReport m => m.wf
  | .slotPresent x _ => slotOk x
  | .slotAbsent x => slotOk x
  | .slotPowerOn x => slotOk x
  | .auxCheck x m => slotOk x && m.wf
  | .rampEnd x m => slotOk x && m.wf
  | .pgQualify x m => slotOk x && m.wf
  | .perstRelease x => slotOk x
  | .pgWithdraw x m => slotOk x && m.wf
  | .fastTrip x m => slotOk x && m.wf
  | .faultTimerTrip x m => slotOk x && m.wf
  | .thermalTrip x m => slotOk x && m.wf
  | .tjWarn x m => slotOk x && m.wf
  | .ntcFault x m => slotOk x && m.wf
  | .retryWaitExpiry x => slotOk x
  | .retryReload x => slotOk x
  | .supplyLow mv => decide (mv < 65536)
  | .supplyRestored mv => decide (mv < 65536)
  | .overPower x avg => slotOk x && decide (avg < 65536)
  | .sltOn x => slotOk x
  | .sltOff x => slotOk x
  | .sltCycle x => slotOk x
  | .sltLocateOn x => slotOk x
  | .sltLocateOff x => slotOk x
  | .turnoffAux x => slotOk x
  | .cycleWaitExpiry x => slotOk x
  | .bootWatchdog b => b.wf
  | .bootDrivesUp => true
  | .mapRebuildDone _ _ => true
  | .replayDone noDesc noData _ pkgs => noDesc.all neveOk && noData.all neveOk && decide (pkgs < 4)
  | .bootServing => true
  | .bootStop => true
  | .bootRestart => true
  | .glbWarm => true
  | .glbCoreReset => true
  | .eventReport p => p.wf
  | .pldmAck _ => true
  | .coalesceWindowExpiry code _ => decide (code < 65536)
  | .lostRecordEmit => true
  | .ringDeliver r => decide (r < 16)
  | .ringNotifyExpiry r => decide (r < 16)
  | .ringStall r => decide (r < 16)
  | .ringStallResume r => decide (r < 16)
  | .ringHeadWrite r head => decide (r < 16) && decide (head < 65536)
  | .ringEnable r v => decide (r < 16) && decide (v < 2 ^ 64)
  | .counterSaturate i => decide (i < 6400)
  | .ctrValWrite i v inc => decide (i < 6400) && decide (v < 2 ^ 64) && decide (inc < 2 ^ 48)
  | .ctrEselWrite k v => decide (k < 256) && decide (v < 2 ^ 64)
  | .snapshotTick => true
  | .snapshotHeadWrite j v => decide (j < 4) && decide (v < 65536)
  | .telCapture k _ => decide (k < 1024)
  | .telUnitCfgWrite k v => decide (k < 1024) && decide (v < 2 ^ 64)
  | .refReturn ppm => decide (ppm < 65536)
  | .driveLinkReturn x f => slotOk x && f.wf
  | .cellSlot => true
  | .controllerResetDone => true
  | .d3hotEntry e => decide (e < 2)
  | .bankWriteDone => true
  | .storeHot c => decide (c < 256)
  | .tjBelowWarn x => slotOk x
  | .opticalModuleInserted cage watts => decide (cage < 8) && decide (watts < 256)

end Sys2Proof
end

