-- ==== Sys2Proof/Tests/Slice0.lean ====
section
/-! SUPPORT. Tests: ill-formed commands are refused by WellFormed, a few single steps whose outcome the spec gives, and for
every clause of every obligation with hypotheses a concrete state and operands that meet all of them together. -/
set_option linter.unusedVariables false
set_option Elab.async false
set_option maxRecDepth 100000
namespace Sys2Proof.Tests
open Sys2Proof Sys2Proof.Machine Sys2Proof.Machine.F

/-! ## Small states the tests start from -/

/-- The state after reset with register fields set. -/
def regs (l : List (Fld × Nat × Nat)) (s : State := State.reset) : State := l.foldl (fun s (f, i, v) => s.set f i v) s

/-- A queue pair of an owner. -/
def qpFor (o : QOwner) (admin : Bool) : Qp := { owner := o, admin := admin, qid := bit !admin, sqEntries := 16, cqEntries := 16 }

/-- A command of queue pair 0. -/
def cmdFor (op : Nat) : Cmd := { qpn := 0, slot := 0, sqe := { opcode := op, psdt := 0, cid := 1 } }

/-- A state with queue pair 0 and command 7. -/
def withCmd (x : Qp) (c : Cmd) (s : State := State.reset) : State := { s with qpe := { s.qpe with qps := [(0, x)], cmds := [(7, c)] } }

/-- E0's link up with bus master enabled. -/
def linkUp (l : List (Fld × Nat × Nat) := []) : State :=
  regs ([(HIF_LINK_STATUS_present, 0, 1), (HIF_LINK_STATUS_up, 0, 1), (HIF_LINK_STATUS_bme, 0, 1)] ++ l)

/-- A namespace. -/
def nsFor : Ns := { creator := 0, mode := 1, assured := false, group := 0, keySlot := 0, tenant := 0, nsze := 1024, ownerId := 0 }

/-- A committed Névé entry. -/
def kdesc : NeveDesc := ⟨0, .fn, 9, 2, 1, false, false, false⟩
def kslot : NeveSlot := { state := .committed, desc := some kdesc, data := 5 }

/-- A label of slot 5's member, and a drive that carries it. -/
def dlabel : DriveLabel := ⟨3, 7, 5, false, 0, 9⟩
def dfacts : DriveFacts :=
  ⟨true, 64, 4, true, 0, true, 1, 12, 0, 1000000, 5, 1023, 64, false, false, 0, true, false, 0, false, false, 1, [dlabel]⟩

/-- Noise that passes the health tests, and noise that is stuck. -/
def goodNoise : List Bool := (List.range 1024).map fun j => j % 2 = 0
def stuckNoise : List Bool := List.replicate 1024 true

/-- What a boot finds: every lane good, the key block's tests passed, no slot adopted, noise that alternates. -/
def bootOk : BootIn := { lanes := [], selfTest := 0, adopted := [], noise := goodNoise, again := goodNoise }

/-- An event record. -/
def erec : EvRec := ⟨9, 5, 0x123, 3, false, false, 1, 3, 1, 0, 5, [5], []⟩

/-- A context of the module with peer 99. -/
def ctx0 : HktCtx :=
  { localEid := 0, peerEid := 99, sndEpoch := 1, rto := 100, paths := List.replicate 16 {}, rcvEpoch := some 3, cwnd := ⟨256, false, 0, 0, 0, false⟩,
    lcwnd := ⟨256, false, 0, 0, 0, false⟩ }

/-- The state with one context. -/
def withCtx (c : HktCtx) (s : State := State.reset) : State := { s with hkt := { s.hkt with ctxs := [c] } }

/-- A header from peer 99 in epoch 3. -/
def hdr0 (op ext : Nat) (f : HktFlags := {}) : HktHdr :=
  { opcode := op, flags := f, svc := 0, path := 0, extLen := ext, dst := 0, src := 99, psn := 0, msgId := 5, sendTs := 0, echoTs := 0, epoch := 3,
    unaDelta := 0 }

/-- A frame of port 1 with nothing wrong. -/
def ing0 : Ingress := { port := 1, srcPort := 0xC000 }

/-- The state a packet of an opcode is taken in. -/
def acceptedIn (s : State) (op : Nat) (p : HktPkt) : State := s.sameMem ((s.rxAdmit op p).1.epochCheck p).1
/-- The context it is taken with. -/
def acceptedCtx (s : State) (op : Nat) (p : HktPkt) : HktCtx := ((acceptedIn s op p).ctx p.hdr.dst p.hdr.src).getD ctx0

/-- A region of four pages, and the state that holds it. -/
def region0 : Region := { state := .valid, rd := true, wr := true, basePage := 2, lenPages := 4 }
def regionState : State := { withCtx ctx0 with hkt := { ctxs := [ctx0], regions := [(5, region0)] } }
/-- A fetch's read that awaits its answer. -/
def read0 : OutRead := { msgId := 5, len := 2, key := 0, purpose := .sqeFetch 0 }
def readState : State :=
  { withCtx { ctx0 with reads := [read0] } with qpe := { State.reset.qpe with qps := [(0, { qpFor (.net 99) false with fetches := [{ first := 0, count := 1 }] })] } }
/-- A peer with management rights. -/
def mgmtState : State := { withCtx ctx0 with nsm := { State.reset.nsm with auth := [⟨0, 0, 3⟩] } }
/-- A network queue pair with completions to take. -/
def netQp : State :=
  { withCtx ctx0 with qpe := { State.reset.qpe with qps := [(0, { qpFor (.net 99) false with cqTail := 4 })] } }

/-- A pair named by its first part and what remains. -/
theorem pair_of_fst {α β : Type} {e : Option (α × β)} {i : α} (d : β) (h : e.map Prod.fst = some i) : e = some (i, e.elim d Prod.snd) := by
  cases e with
  | none => cases h
  | some p => cases h; rfl

/-- Port 1 up and flooded to; a context whose path 3 is slow. -/
def floodTo1 : State := regs [(MAC_PORT_STATUS_up, 1, 1), (FWD_PORT_CFG_flood_en, 1, 1)]
def slowCtx : HktCtx := { ctx0 with paths := (List.replicate 16 {}).set 3 { state := .slow } }

/-- A kept copy of a packet of an event ring. -/
def evtCopy : TxCopy := { pkt := rxPacket 4 (hdr0 4 4) (.send ⟨2, 1, 0, 0, 1, [0]⟩) ing0, path := 0, purpose := .evtRing 2, msg := 5 }

/-- A message waiting to be sent. -/
def msg0 : TxMsg := { msgId := 9, body := .send 2 [1, 2], fence := false, notify := false, svc := 0, purpose := .none }

/-- A frame of port 3 holds `n` cells with priority 4. -/
def pfcState (n : Nat) (x : Pfc := {}) : State :=
  { regs [(MAC_PFC_CFG_pfc_en, 3, 16)] with mac := { State.reset.mac with pfc := [((3, 4), x)] }, swc := { State.reset.swc with frames := [] } }

/-- A frame of port 3 with priority 4 that holds two thousand cells. -/
def pfcFull : State :=
  { pfcState 0 { xoff := true } with
    swc := { State.reset.swc with frames := [(0, ⟨{ port := 3, dst := 0, src := 0, len := 100 }, 4, List.range 2000, none, 0, none, [{ dst := 5, tc := 4 }]⟩)] } }

/-- An ACK waits on port 3 with class 4, a drive command of member 5 on the drive root. -/
def ackItem : TmsItem := ⟨.pkt (rxPacket 8 (hdr0 8 2) (.ack ⟨0, 0, 0⟩) ing0), 100, [0], 0⟩
def driveItem : TmsItem := ⟨.drive ⟨5, .health, 0, 1⟩, 4096, [], 0⟩
def sched : State :=
  { regs [(MAC_PORT_STATUS_up, 3, 1), (MAC_PFC_CFG_pfc_en, 3, 16), (DRV_PORT_STATUS_state, 5, 3), (REB_MEMBER_state, 5, 3)] with
    tms := { State.reset.tms with
      leaves := [{ root := 3, cls := 4, tenant := 5, green := [ackItem] }, { root := 34, cls := 4, tenant := 4093, green := [driveItem] }] } }

/-- The same with the packet's peer protected under a slot that holds no key; a root's item taken, and a packet sealed. -/
def schedProt : State := regs [(KEY_EP_PROT_prefix_len, 0, 1)] sched
def taken (s : State) (r : Nat) : State := (s.takeItem r).elim State.reset Prod.snd
def sealOf (s : State) (p : HktPkt) : HktPkt × State := (s.seal p).getD (p, s)
def ackPkt : HktPkt := rxPacket 8 (hdr0 8 2) (.ack ⟨0, 0, 0⟩) ing0

/-- A CREATE of 16 entries each way, and the state of a network queue pair of its EID. -/
def qcreate : QSetup := { op := 1, reqId := 1, sqEntries := 16, cqEntries := 16, sqAddr := 0x10000, cqAddr := 0x20000 }
/-- The state with queue pair 0. -/
def hasQp (x : Qp) : State := { State.reset with qpe := { State.reset.qpe with qps := [(0, x)] } }

/-- An admin command of the host with its first two command words. -/
def adminCmd2 (op a b : Nat) : Cmd := { cmdFor op with sqe := { (cmdFor op).sqe with cdw10 := BitVec.ofNat 32 a, cdw11 := BitVec.ofNat 32 b } }
def ring1 : State := (State.reset.allocRegion (ringRegion 0 0x10000 1024 true)).elim State.reset Prod.snd

/-- A queue pair whose fetch of slot 0 has brought 64 bytes that spell an opcode. -/
def fetched (o : QOwner) (admin : Bool) (op : Nat) : Qp :=
  { qpFor o admin with fetches := [{ first := 0, count := 1, bytes := some (leBytes 8 (op + 2 ^ 14 + 9 * 2 ^ 16) ++ List.replicate 56 0) }] }

/-- A write of one block to namespace 0. -/
def writeCmd : Cmd := { cmdFor 1 with ns := some 0 }
def writing (x : Cmd) : State :=
  { withCmd (qpFor (.net 99) false) x with nsm := { State.reset.nsm with ns := [(0, nsFor)] } }

/-- A write of more blocks than the own part has slots. -/
def bigWrite : Cmd := { writeCmd with sqe := { writeCmd.sqe with cdw12 := 59999 } }
def lowRoom : State := regs [(DRV_CFG_pair_shelf, 0, 1), (JNL_NEVE_CFG_own_share_pct, 0, 10)] (writing bigWrite)
theorem freeOwn_none {s : State} {n : Nat} (h : s.ownPart.2 - s.ownPart.1 < n) : s.freeOwn n = none := by
  simp only [State.freeOwn]
  refine if_neg fun hn => ?_
  refine absurd (le_trans hn (List.length_filter_le _ _)) ?_
  simp only [List.length_map, List.length_range]
  omega

def readSqe : HostRead := ⟨.fn, .sqe 0, 0, 2, none⟩

/-- An option named by what it holds. -/
theorem opt_of_isSome {α : Type} {e : Option α} (d : α) (h : e.isSome = true) : e = some (e.getD d) := by
  cases e with
  | none => cases h
  | some p => rfl

/-- A started I/O command and the state it runs in. -/
def begunCmd (op : Nat) : Cmd := { cmdFor op with phase := .started, ns := some 0, sqe := { (cmdFor op).sqe with nsid := 1 } }
def ioState (x : Cmd) (s : State := State.reset) : State :=
  { withCmd (qpFor (.net 99) false) x s with nsm := { s.nsm with ns := [(0, nsFor)] }, str := { s.str with pages := [((0, 0), { cached := true })] } }
/-- A WAIT on queue pair 1. -/
def waitCmd (b : Bool) : Cmd := { cmdFor 0x80 with phase := .started, begun := b, sqe := { (cmdFor 0x80).sqe with cdw10 := 1, cdw12 := 50 } }
def waitState (x : Cmd) (y : Qp) : State :=
  { State.reset with qpe := { State.reset.qpe with qps := [(0, qpFor .fn false), (1, y)], cmds := [(7, x)] } }
/-- An Abort of command 9 of queue pair 1, and the state it runs in. -/
def abortCmd : Cmd := { cmdFor 8 with sqe := { (cmdFor 8).sqe with cdw10 := 1 + 9 * 65536 } }
def namedCmd : Cmd := { cmdFor 1 with qpn := 1, sqe := { (cmdFor 1).sqe with cid := 9 } }
def abortState (l : List (Nat × Cmd)) : State :=
  { State.reset with qpe := { State.reset.qpe with qps := [(0, qpFor .fn true), (1, qpFor .fn false)], cmds := (7, abortCmd) :: l } }

/-- An admin command of the host, its data as one block. -/
def dataCmd (op a b : Nat) (d : Nat := 0) (seq : Nat := 0) (nsid : Nat := 0) : Cmd :=
  let x := adminCmd2 op a b
  { x with phase := .started, data := [(0, BitVec.ofNat 32768 d)], sqe := { x.sqe with cdw2 := BitVec.ofNat 32 seq, nsid := BitVec.ofNat 32 nsid } }
def adminState (x : Cmd) (s : State := State.reset) : State := regs [(HIF_LINK_STATUS_present, 0, 1), (HIF_LINK_STATUS_up, 0, 1), (HIF_LINK_STATUS_bme, 0, 1)] (withCmd (qpFor .fn true) x s)
/-- An admin command of peer 99. -/
def netAdmin (x : Cmd) (s : State := State.reset) : State := withCmd (qpFor (.net 99) true) x s
def regCmd : Cmd := { adminCmd2 0xC1 0x4000 0 with sqe := { (adminCmd2 0xC1 0x4000 0).sqe with cdw12 := 2, cdw13 := 1 } }
def revCmd0 : Cmd := adminCmd2 0xC2 5 0
def regRegion : Region :=
  { rd := true, wr := false, protReq := false, host := true, scopeLen := 32, scopeEid := State.reset.moduleEid, basePage := 4, lenPages := 2, regBy := some 99 }
def feats (f : OwnerFeat) : State := { State.reset with nsm := { State.reset.nsm with feats := [(.fn, f)] } }
/-- A pool with a namespace, a loaded unbound XTS key in slot 3 and a live member of a thousand granules. -/
def xtsKey : KeySlot := { kind := .xts, state := .loaded, assured := false, persist := false, key := 5, check := 0 }
def withNs (n : Ns) (s : State := State.reset) : State := { s with nsm := { s.nsm with ns := [(0, n)] } }
def poolState : State :=
  { regs [(REB_MEMBER_state, 5, 3), (REB_MEMBER_state, 6, 3)] with key := { State.reset.key with slots := [(3, xtsKey)] }, str := { State.reset.str with capacity := [(5, 2000000), (6, 2000000)] } }
/-- An attach entry and the list that names it. -/
def fnAttach : Attach := { key := .cntlid 1, rd := true, wr := true }
def dlState : State := { adminState (dataCmd 0x10 0 0 0 1) with boot := { State.reset.boot with buffer := [(0, leBytes 8 0 ++ leBytes 8 16)] } }
def pend (k : Nat) : State := { adminState (dataCmd 0x10 k 0 0 1) with boot := { State.reset.boot with buffer := [(0, leBytes 8 0 ++ leBytes 8 16)] } }

/-- A segment of four data and two parity chunks on members 0 to 5, and the members live at ready drives. -/
def seg0 : Seg := { head := .host 0, k := 4, m := 2, e := 4, members := [0, 1, 2, 3, 4, 5], base := [16, 16, 16, 16, 16, 16] }
def liveSix : State := regs ((List.range 6).flatMap fun x => [(REB_MEMBER_state, x, 3), (DRV_PORT_STATUS_state, x, 3)])

/-- The KEY block ready. -/
def keyReady (k : Key := State.reset.key) : State := { regs [(KEY_STATUS_state, 0, 1)] with key := k }
def kekKey : KeySlot := { xtsKey with kind := .kek }
def gcmKey0 : KeySlot := { xtsKey with kind := .gcm }
/-- A unit of block 0 of command 7 under slot 3, and a write it belongs to. -/
def unit0 : CipUnit := ⟨.cmd 7 0, true, 3, false, 5, 9⟩
def job0 : WJob := { ns := 0, lba := 5, owner := .net 99, mode := 2, fua := false, keySlot := 3, kgen := false, slots := [0], blocks := [0] }
def cipState : State :=
  { keyReady { State.reset.key with slots := [(3, xtsKey)] } with cip := { State.reset.cip with lanes := [(1, [unit0])] }, jnl := { State.reset.jnl with writes := [(7, job0)] } }
/-- Namespace 0 with a block under each generation, in a segment and in a Névé slot. -/
def rotState (n : Ns) : State :=
  { withNs n (keyReady { State.reset.key with slots := [(3, xtsKey), (4, { xtsKey with bind := .ns 0 })] }) with
    str := { State.reset.str with map := [((0, 8), .member false 1 2), ((0, 9), .neve true 4)], segs := [(1, seg0)] } }
def inSeq : State := { State.reset with pair := { State.reset.pair with active := true, formation := 3, rxNext := 6 } }

/-- Stripe 7 of segment 1 for a head, and a state that holds it. -/
def stripe0 (h : HeadId) : Stripe := { head := h, seg := 1, idx := 2, since := 0 }
def strOf (h : HeadId) (y : Stripe) (s : State := State.reset) : State :=
  { s with str := { s.str with segs := [(1, { seg0 with head := h })], stripes := [(7, y)], nextStr := 8, heads := [(h, 1)] } }
def oneBlock : Stripe := { stripe0 (.host 0) with blocks := [(.neve 4 0 9 false, 5)] }
/-- A drive command of chunk 2 of stripe 7 under tag 6 at member 5. -/
def chunkCmd : DrvCmd := ⟨⟨5, .chunk 7 2, 4096, 16⟩, 6, 0, false, false⟩
def atDrive (d : DrvCmd) (s : State) : State := { s with drv := [(5, { cmds := [d] })] }
def writtenTo (w : List Nat) : Stripe := { oneBlock with writing := true, waiting := w }
def oneRec : FirnRec := ⟨40, 0, .mapClear 0 9 1⟩
def sealedSeg (live : Nat) : Seg := { seg0 with state := .isSealed, live := live, closed := true, sealSeq := 3, blocks := [(0, .data 0 9 false)] }
def calving (g : Seg) : State := { liveSix with str := { liveSix.str with segs := [(1, g)] } }
def hedging : State :=
  { regs [(STR_HEDGE_CFG_late_en, 0, 1), (STR_HEDGE_CFG_mult, 0, 2), (STR_HEDGE_CFG_budget_pct, 0, 10), (STR_MEMBER_STATUS_few_samples, 0, 0)] liveSix with
    str := { State.reset.str with segs := [(1, seg0)], thr := some 5, readsWas := 1000 } }
def asking : RowRead := { use := .cmd 7 0 false, seg := 1, off := 0, out := [0], at_ := 0 }

/-- Bay A of a pair shelf, its partner's next frame number 6. -/
def inPair (s : State := State.reset) : State :=
  { regs [(DRV_CFG_pair_shelf, 0, 1)] s with pair := { State.reset.pair with active := true, formation := 3, rxNext := 6 } }
def hdr6 : PairHdr := ⟨0, 6, 0, 3⟩
def mirrored0 : WJob := { job0 with mode := 0, done := [(0, (4, 2))], staged := [0] }
def dumpAt (p : DumpPhase) : State := { State.reset with jnl := { State.reset.jnl with phase := p } }

/-- Segment 1 sealed with members 0 to 5, of which 2 is lost; members 6 and 7 have room. -/
def lostSeg : Seg := { sealedSeg 0 with live := 5000 }
def lossy (g : Seg) : State :=
  { regs ((List.range 8).flatMap fun x => if x = 2 then [] else [(REB_MEMBER_state, x, 3), (DRV_PORT_STATUS_state, x, 3)]) with
    str := { State.reset.str with segs := [(1, g)], capacity := (List.range 8).map fun x => (x, 100000) } }
def sumSeg : Seg := { sealedSeg 2 with summary := some (2, 0) }
def restoring (g : Seg) (n : Nat) : Restore := { targets := [(2, 6, 40)], stripe := n, asked := [], got := [(0, [])], waiting := [] }
def linkLost (s : State) : State := { s with drv := [(5, { linkDown := some 3 })] }
def crev0 : Crev := ⟨7, 4, 2, 1, 3, 1, 0⟩
def member (st : Nat) : State := regs [(REB_MEMBER_state, 5, st)]
def narrow : State := { liveSix with str := { liveSix.str with segs := [(1, sealedSeg 2)] } }
def nineLive : State := regs ([(REB_CFG_rewiden_en, 0, 1), (STR_GROUP_STATUS_k_cur, 0, 6)] ++ (List.range 12).flatMap fun x => [(REB_MEMBER_state, x, 3), (DRV_PORT_STATUS_state, x, 3)])

/-- What bring-up finds at a drive that passes every check, with no label. -/
def goodFacts : DriveFacts := { dfacts with classCode := 0x010802, mdts := 131072, labels := [] }
def drive5 (st : Nat) (p : Port := {}) : State := { regs [(DRV_PORT_STATUS_state, 5, st)] with drv := [(5, p)] }
def drive5up (st : Nat) (p : Port := {}) : State := { drive5 st p with boot := { State.reset.boot with drivesUp := true } }
def healthCmd : DrvCmd := ⟨⟨5, .health, 0, 1⟩, 6, 0, false, false⟩
def sourceCmd : DrvCmd := ⟨⟨5, .source 1 3 2, 4096, 16⟩, 6, 0, false, false⟩
def rungAt (n : Nat) (p : Port := {}) : State := { regs [(DRV_PORT_STATUS_state, 5, 5), (DRV_PORT_STATUS_rung, 5, n)] with drv := [(5, p)] }

/-- A module of a pair shelf in a state of the pair, with other fields of its registers. -/
def shelf (st : Nat) (l : List (Fld × Nat × Nat) := []) (p : Pair := {}) : State :=
  { regs ([(DRV_CFG_pair_shelf, 0, 1), (PAIR_STATUS_state, 0, st)] ++ l) with pair := p }
/-- A heartbeat of the module in a bay. -/
def beat (b : Bool) (f : Nat) : Heartbeat := ⟨4, b, 2, false, false, 1, 0, 7, f, 0⟩
def paired (l : List (Fld × Nat × Nat) := []) : State := shelf 2 l inSeq.pair
def fwdRead : FwdCmd := ⟨11, 9, 0, 5, 1, false, .net 99, false, [(5, 1)]⟩
def remoteWrite : Cmd := { writeCmd with qpn := 65536, remote := some 11, phase := .started }

/-- Slot 5 of this module, with register fields and its channel. -/
def slot5 (l : List (Fld × Nat × Nat)) (c : Slot := {}) (e : Bool := true) : State :=
  { regs ((SLT_CH_STATUS_owner, 5, 1) :: l) with slt := { slots := [(5, c)], enabled := e, dumped := false } }
def slotOn (l : List (Fld × Nat × Nat) := []) (c : Slot := {}) : State :=
  slot5 ([(SLT_CH_STATUS_present, 5, 1), (SLT_CH_STATUS_state, 5, 4), (SLT_CH_STATUS_pg, 5, 1), (SLT_CH_STATUS_retries_left, 5, 2)] ++ l) { c with aux := true, gate := true, step := 3 }
def powering (n : Nat) (l : List (Fld × Nat × Nat) := []) : State :=
  slot5 ([(SLT_CH_STATUS_present, 5, 1), (SLT_CH_STATUS_state, 5, 3), (SLT_CH_STATUS_retries_left, 5, 2)] ++ l) { aux := true, step := n }
def slotOff (c : Slot := {}) : State := slot5 [(SLT_CH_STATUS_present, 5, 1), (SLT_CH_STATUS_state, 5, 2), (SLT_CH_CFG_auto_on, 5, 1)] c
def retrying (c : Slot := {}) : State := slot5 [(SLT_CH_STATUS_present, 5, 1), (SLT_CH_STATUS_state, 5, 5), (SLT_CH_STATUS_retries_left, 5, 2)] c
def pwr0 : PwrRead := ⟨12000, 60, (2300, 500, 360), (2290, 500, 4000), 91, 30, 25, 40, 40, 20000⟩
def sense0 : SlotSense := { vOut := 12000, v3 := 3300 }

/-- A frame of port 1 that carries an HKT packet of peer 99 for the module, and a state that takes it. -/
def hktIp : FrameIp := { len := 84, dscp := 0, ttl := 64, src := [1], dst := [2], udp := true, ports := some (0xC000, State.reset.get HKT_UDP_PORT_udp_port 0) }
def hktHead : FrameHkt := ⟨4, 0, 99, 0, 0⟩
def hktFrame : Frame := { port := 1, dst := 0x20000000001, src := 0x20000000002, ip := some hktIp, hkt := some hktHead, len := 102 }
def portUp1 : State := regs [(MAC_PORT_STATUS_up, 1, 1), (FWD_PORT_CFG_learn_en, 1, 0), (MAC_PORT_CFG_mac, 1, 0x20000000001)]
/-- Frame 4 in the switch with one copy. -/
def copy0 : SwcCopy := { dst := 3, tc := 0, toCross := 1 }
def frame0 : SwcFrame := { f := hktFrame, tc := 0, cells := [8, 9], epoch := 0, copies := [copy0] }
def inSwitch : State := { State.reset with swc := { State.reset.swc with frames := [(4, frame0)], nextFrame := 5, voq := [((0, 1), [⟨4, 3, none⟩])] } }
/-- One entry in a forwarding table. -/
def table1 (k : Nat) (e : List (BitVec 128)) (l : List (Fld × Nat × Nat) := []) (f : Fwd := {}) : State :=
  { regs l with fwd := { f with tables := [(k, { slots := e.map fun x => ((5, 0), x) })] } }
def macEntry : BitVec 128 := mkMac 0x20000000009 0 3
def operand (e : BitVec 128) : List (Fld × Nat × Nat) := [(FWD_CMD_DATA_data, 0, e.toNat % 2 ^ 64), (FWD_CMD_DATA_data, 1, e.toNat / 2 ^ 64)]
/-- The entry in the first bucket of its key. -/
def found1 (l : List (Fld × Nat × Nat)) : State :=
  { regs l with fwd := { tables := [(1, { slots := [(((regs l).bucketsOf 1 (eBank macEntry) (eKey macEntry)).1, 0) |> fun p => (p, macEntry)] })] } }

/-- A LEARN packet of peer 99. -/
def learnHdr : HktHdr := hdr0 11 2
def learnOn : State := regs [(FWD_LEARN_CFG_learn_mod_en, 0, 1), (PAIR_LOC_CFG_ns_loc_max, 0, 100)]
def modRec : ModRec := { moduleId := 9, hops := 2 }
def locRec0 : LocRec := { nsid := 40000, ownerId := 9, ownerGen := 1, ttl := 60 }

/-- The state an outcome goes on with. -/
def nextOf (o : Host.Outcome State Fault Refusal) : State := match o with | .next t => t | _ => State.reset
theorem next_of {o : Host.Outcome State Fault Refusal} (h : (match o with | .next _ => true | _ => false) = true) : o = .next (nextOf o) := by
  cases o with
  | next t => rfl
  | fault _ => cases h
  | refused _ => cases h

/-- A read that fills region 5, a message of it that waits, and the state in which the region's revocation is commanded. -/
def fillCmd : Cmd := { cmdFor 2 with qpn := 1, phase := .started, begun := true, moved := 4096 }
def keyMsg : TxMsg := { msg0 with body := .write 5 0 [1, 2], purpose := .cmdData 9 0 }
def revoking : State :=
  { State.reset with
    hkt := { State.reset.hkt with regions := [(5, { regRegion with state := .valid })], ctxs := [{ ctx0 with unsent := [keyMsg] }] }
    qpe := { State.reset.qpe with qps := [(0, qpFor (.net 99) true), (1, qpFor (.net 99) false)], cmds := [(7, revCmd0), (9, fillCmd)] } }

/-- Lane 1 with the key of slot 3; the assured lanes busy with line work, and one unit in the class's queue 2. -/
def heldState : State := { cipState with cip := { cipState.cip with held := [(1, { cache := [⟨3, 5, 0⟩] })] } }
def lineUnit : CipUnit := { unit0 with use := .line 16 }
def linesOn : State :=
  { cipState with cip := { State.reset.cip with lanes := (List.range 8).map fun l => (40 + l, [lineUnit]), queues := [((true, 2), [unit0])] } }
/-- A pair that agreed on a key. -/
def keyedPair : State := { inSeq with key := { State.reset.key with pairKey := some 9 } }

/-! What the records of Safety gather, decided at once -/

theorem running_of {s : State} {c : Nat} {x : Cmd} {q : Qp} (h : s.cmd c = some x ∧ x.remote = none ∧ x.phase ≠ .done ∧ s.qp x.qpn = some q
    ∧ q.state ≠ .error ∧ q.ringBad = false) : Running s c x q :=
  let ⟨w0, w1, w2, w3, w4, w5⟩ := h; ⟨w0, w1, w2, w3, w4, w5⟩
theorem keyFree_of {s : State} (h : s.flag F.KEY_STATUS_busy = false ∧ s.get F.KEY_STATUS_state = 1 ∧ s.keyPaired = false) : KeyFree s :=
  let ⟨w0, w1, w2⟩ := h; ⟨w0, w1, w2⟩
theorem inSequence_of {s : State} {h : PairHdr} (w : s.pair.active = true ∧ h.formation = s.pair.formation ∧ h.seq = s.pair.rxNext ∧
    s.pair.held = []) : InSequence s h :=
  let ⟨w0, w1, w2, w3⟩ := w; ⟨w0, w1, w2, w3⟩
theorem quietPort_of {s : State} {x : Nat} (h : x < 32 ∧ (s.port x).cmds = [] ∧ s.waitingOf x = []) : QuietPort s x :=
  let ⟨w0, w1, w2⟩ := h; ⟨w0, w1, w2⟩
theorem quietMember_of {s : State} {x : Nat} (h : x < 32 ∧ (s.port x).cmds = [] ∧ s.waitingOf x = [] ∧ s.live x = true ∧ (∀ e ∈ s.str.segs,
    e.2.state = .isOpen → e.2.closed = false → x ∉ e.2.members)) : QuietMember s x :=
  let ⟨w0, w1, w2, w3, w4⟩ := h; ⟨⟨w0, w1, w2⟩, w3, w4⟩
theorem managed_of {s : State} {c : Nat} {x : Cmd} {q : Qp} {opcode : Nat} (h : s.cmd c = some x ∧ x.remote = none ∧ x.phase ≠ .done ∧ s.qp
    x.qpn = some q ∧ q.state ≠ .error ∧ q.ringBad = false ∧ s.adminRun c opcode = some (x, q.owner) ∧ s.mgmtIssuer q.owner = true ∧
    x.sqe.cdw2 = BitVec.ofNat 32 (s.get F.GLB_MGMT_SEQ_last_accepted) + 1 ∧ s.nsm.running = none ∧ s.nsm.runSeq = none ∧ s.nsm.seqQueue = []
    ∧ s.nsm.dels = []) : Managed s c x q opcode :=
  let ⟨w0, w1, w2, w3, w4, w5, w6, w7, w8, w9, w10, w11, w12⟩ := h; ⟨⟨w0, w1, w2, w3, w4, w5⟩, w6, w7, w8, w9, w10, w11, w12⟩
theorem taken_of {s b : State} {op : Nat} {p o : HktPkt} {c : HktCtx} (hb : b = s.sameMem ((s.rxAdmit op p).1.epochCheck p).1)
    (h : (s.rxAdmit op p).2 = true ∧ o = s.opened p ∧ ((s.rxAdmit op p).1.epochCheck p).2 = true ∧ b.ctx p.hdr.dst p.hdr.src = some c ∧
      c.rcvNxt = p.hdr.psn ∧ c.bitmap = 0 ∧ c.fences = [] ∧ b.rxVerdict c o = .place) : Taken s op p o b c :=
  let ⟨w0, w1, w2, w3, w4, w5, w6, w7⟩ := h; ⟨w0, w1, w2, hb, w3, w4, w5, w6, w7⟩


/-! ## Ill-formed commands are refused: one for each check of each command -/

theorem test_wf_refuses_0 : (([.registerWrite (.slice 1024) 0 8 0, .registerWrite .bar0 (2 ^ 32) 8 0, .registerWrite .bar0 0 3 0, .registerWrite .bar0 0 8 (2 ^ 64),
    .sltChAvgRead 32, .coldReset 16 0 [] bootOk, .coldReset 0 2 [] bootOk, .coldReset 0 0 ([(2, {})]) bootOk,
    .coldReset 0 0 [] { bootOk with lanes := [48] }, .warmReset 0 bootOk, .warmReset 9 bootOk, .warmReset 1 { bootOk with lanes := [48] },
    .coreDataAccess 16, .refLost 65536, .hbmUe 10 0 .none, .hbmUe 0 (2 ^ 37) .none, .hbmUe 0 0 (.neve 519168),
    .hktWriteRx { hdr0 1 5 with svc := 8 } ⟨5, 0, 1, 0, 1, [0]⟩ ing0, .hktWriteRx (hdr0 1 5) ⟨5, 0, 1, 65536, 1, [0]⟩ ing0,
    .hktWriteRx (hdr0 1 5) ⟨5, 0, 1, 0, 1, [0]⟩ { ing0 with port := 34 }, .hktReadReqRx { hdr0 1 5 with svc := 8 } ⟨5, 0, 1⟩ ing0,
    .hktReadReqRx (hdr0 1 5) ⟨5, 0, 2 ^ 32⟩ ing0, .hktReadReqRx (hdr0 1 5) ⟨5, 0, 1⟩ { ing0 with port := 34 },
    .hktReadRespRx { hdr0 1 5 with svc := 8 } ⟨0, 0, 1, [0]⟩ ing0, .hktReadRespRx (hdr0 1 5) ⟨0, 65536, 1, [0]⟩ ing0,
    .hktReadRespRx (hdr0 1 5) ⟨0, 0, 1, [0]⟩ { ing0 with port := 34 }, .hktSendRx { hdr0 1 5 with svc := 8 } ⟨2, 1, 0, 0, 1, [0]⟩ ing0,
    .hktSendRx (hdr0 1 5) ⟨65536, 1, 0, 0, 1, [0]⟩ ing0, .hktSendRx (hdr0 1 5) ⟨2, 1, 0, 0, 1, [0]⟩ { ing0 with port := 34 },
    .hktDoorbellRx { hdr0 1 5 with svc := 8 } ⟨0, 0, 0⟩ ing0, .hktDoorbellRx (hdr0 1 5) ⟨65536, 0, 0⟩ ing0,
    .hktDoorbellRx (hdr0 1 5) ⟨0, 0, 0⟩ { ing0 with port := 34 }, .hktAckRx { hdr0 1 5 with svc := 8 } ⟨0, 0, 0⟩ ing0,
    .hktAckRx (hdr0 1 5) ⟨0, 65536, 0⟩ ing0, .hktAckRx (hdr0 1 5) ⟨0, 0, 0⟩ { ing0 with port := 34 },
    .hktNakRx { hdr0 1 5 with svc := 8 } ⟨0, 0, 0, 0, 0⟩ ing0, .hktNakRx (hdr0 1 5) ⟨0, 0, 256, 0, 0⟩ ing0,
    .hktNakRx (hdr0 1 5) ⟨0, 0, 0, 0, 0⟩ { ing0 with port := 34 }, .hktProbeRx { hdr0 1 5 with svc := 8 } ⟨0, 0, 0⟩ ing0,
    .hktProbeRx (hdr0 1 5) ⟨0, 256, 0⟩ ing0] : List Instr).all
    fun i => !i.wf) = true := by decide +kernel

theorem test_wf_refuses_1 : (([.hktProbeRx (hdr0 1 5) ⟨0, 0, 0⟩ { ing0 with port := 34 }, .regionRevokeDone 262144, .calendarSlot 16384, .schedulerPick 35, .pfcRefresh 34 0,
    .pfcRefresh 0 8, .pfcFrameRx 34 [], .pfcFrameRx 0 ([(8, 0)]), .pfcPauseExpiry 34 0, .pfcPauseExpiry 0 8, .pfcStormTrip 34 0, .pfcStormTrip 0 8,
    .pfcStormRestore 34 0, .pfcStormRestore 0 8, .queueCreate 0 0 { qcreate with op := 256 }, .queueDelete 0 0 { qcreate with op := 256 },
    .queueQuery 0 0 { qcreate with op := 256 }, .queueReset 0 0 { qcreate with op := 256 }, .queueDeletionDone 65537,
    .localDoorbellWrite (.slice 1024) 0 4 0, .localDoorbellWrite .fn (2 ^ 32) 4 0, .localDoorbellWrite .fn 0 3 0,
    .localDoorbellWrite .fn 0 4 (2 ^ 32), .sqeFetchComplete 65537, .cqePost 65537, .mergeWaitExpiry 65537, .notifyTimeExpiry 65537,
    .intCoalesceExpiry (.slice 1024) 0, .intCoalesceExpiry .fn 2048, .nsDeleteDrained 4096, .actFirmwareReady 4, .cipherUnitDone 48,
    .kekAgree 65536 false, .keyImport 65536 0 0 false false, .keyImport 0 65536 0 false false, .keyImport 0 0 4 false false, .zeroise 65536,
    .rotateNs 65536 0 false, .rotateNs 0 4096 false, .rotationSweep 4096] : List Instr).all
    fun i => !i.wf) = true := by decide +kernel

theorem test_wf_refuses_2 : (([.keyEpProtWrite 4096 0 0 0, .keyEpProtWrite 0 (2 ^ 32) 0 0, .keyEpProtWrite 0 0 64 0, .keyEpProtWrite 0 0 0 65536, .prevSlotExpiry 4096,
    .noiseTestFail ⟨List.replicate 1025 true, goodNoise⟩, .noiseTestFail ⟨goodNoise, []⟩,
    .keyFrameRx { hdr6 with link := 2 } (.zeroise 3), .headPlaceBlock 16, .chunkWriteDone 32 0, .chunkWriteDone 0 65536, .mapPageReadDone 4096 0,
    .segmentReleaseDone (2 ^ 24), .adaptWindowEnd 16, .nevePutRx { hdr6 with link := 2 } 0 kdesc 0, .nevePutRx hdr6 519168 kdesc 0,
    .nevePutRx hdr6 0 { kdesc with ns := 4096 } 0, .firnPutRx { hdr6 with link := 2 } ⟨[], 0⟩, .mirrorAckRx { hdr6 with link := 2 } 0 0,
    .mirrorAckRx hdr6 (2 ^ 48) 0, .mirrorAckRx hdr6 0 (2 ^ 48), .neveRetireRx { hdr6 with link := 2 } [], .neveRetireRx hdr6 [519168],
    .neveFetchRx { hdr6 with link := 2 } 0, .neveFetchRx hdr6 519168, .dumpSeal [2] [] false bootOk, .dumpSeal [] [2] false bootOk,
    .dumpSeal [] [] false { bootOk with lanes := [48] }, .orderlyStopDrained { bootOk with lanes := [48] }, .linkLossTimeout 32,
    .rebuildStripeDone (2 ^ 24), .crevasseFrameRx { hdr6 with link := 2 } (.drop 5), .rebFail 32, .rebAdopt 32, .adoption 32,
    .memberFrameRx { hdr6 with link := 2 } (.failed 5 1 1), .driveBringup 32 dfacts, .driveBringup 0 { dfacts with warning := 256 },
    .driveBringupTimeout 32 false] : List Instr).all
    fun i => !i.wf) = true := by decide +kernel

theorem test_wf_refuses_3 : (([.driveCqe 32 0 0 [], .driveCqe 0 65536 0 [], .driveCqe 0 0 5 [], .driveAsyncEvent 32 0, .driveAsyncEvent 0 256, .driveCfs 32, .driveLinkLoss 32,
    .aerCorrectable 32, .driveCommandTimeout 32 0, .driveCommandTimeout 0 65536, .ladderRungTimeout 32, .healthPoll 32 none,
    .healthPoll 0 (some (256, 0)), .driveFrameRx { hdr6 with link := 2 } (.refused 5 1), .heartbeatRx 2 (beat true 0),
    .heartbeatRx 0 { beat true 0 with moduleId := 16384 }, .linkAckRx 2 0 0, .linkAckRx 0 (2 ^ 32) 0, .linkAckRx 0 0 (2 ^ 32), .pairLinkSilence 2,
    .firnReqRx { hdr6 with link := 2 } 0 (.mapClear 0 0 1), .firnReqRx hdr6 5 (.mapClear 0 0 1), .ownerRx { hdr6 with link := 2 } 0 0,
    .ownerRx hdr6 4096 0, .ownerRx hdr6 0 (2 ^ 32), .segGrantRx { hdr6 with link := 2 } (.request .meta_), .fwdCmdRx { hdr6 with link := 2 } fwdRead,
    .fwdCmdRx hdr6 { fwdRead with ns := 4096 }, .fwdDataRx { hdr6 with link := 2 } 0 0 .zero, .fwdDataRx hdr6 0 65536 .zero,
    .fwdDoneRx { hdr6 with link := 2 } 0 ⟨0, 0, false⟩ 0 0, .fwdDoneRx hdr6 0 ⟨8, 0, false⟩ 0 0, .slotReleaseRx { hdr6 with link := 2 } 0 ⟨4, 0, 0⟩,
    .slotReleaseRx hdr6 32 ⟨4, 0, 0⟩, .slotReleaseRx hdr6 0 ⟨8, 0, 0⟩, .slotTakenRx { hdr6 with link := 2 } 0, .slotTakenRx hdr6 32,
    .slotStateRx { hdr6 with link := 2 } (.result 5 0), .moveNs 4096, .learnLocationRx ⟨{ hdr0 11 2 with svc := 8 }, .ack ⟨0, 0, 0⟩, ing0⟩ 0 0 []] : List Instr).all
    fun i => !i.wf) = true := by decide +kernel

theorem test_wf_refuses_4 : (([.learnLocationRx ⟨hdr0 11 2, .ack ⟨0, 0, 0⟩, ing0⟩ 256 0 [],
    .learnLocationRx ⟨hdr0 11 2, .ack ⟨0, 0, 0⟩, ing0⟩ 0 0 ([{ nsid := 5, ownerId := 16384, ownerGen := 0, ttl := 1 }]), .locationQueueSend 34,
    .frameHeadArrival { hktFrame with port := 35 }, .frameTailArrival 0 .good 65536, .privilegedPortDown 35, .frontPortDown 32, .portLinkUp 35,
    .hitMessage 4, .learnModuleRx { hdr0 1 5 with svc := 8 } ing0 0 0 0 [], .learnModuleRx (hdr0 1 5) { ing0 with port := 34 } 0 0 0 [],
    .learnModuleRx (hdr0 1 5) ing0 (2 ^ 48) 0 0 [], .learnModuleRx (hdr0 1 5) ing0 0 256 0 [],
    .learnModuleRx (hdr0 1 5) ing0 0 0 0 ([⟨16384, 1, false⟩]), .rehashWalk 2, .rehashRetry 2, .fwdInsert 2, .fwdDelete 2, .fwdLookup 2,
    .fwdFlushPort 2 0, .fwdFlushPort 0 64, .fwdRehash 2, .bmeClear 2, .bmeSet 2, .bmeGraceExpiry 1026, .functionReset 2 0, .functionReset 0 5,
    .functionResetDone 2, .hifLinkDown 2, .hifLinkUp 2 ⟨5, 4, false, 2, 0, false, false⟩, .hifLinkUp 0 ⟨16, 4, false, 2, 0, false, false⟩,
    .peerWindowAccess false (2 ^ 36) 0 [], .peerWindowAccess false 0 4097 [], .peerWindowAccess true 0 0 [1], .atsInvalidate 2 0 none 0 0,
    .atsInvalidate 0 32 none 0 0, .atsInvalidate 0 0 (some (2 ^ 20)) 0 0, .atsInvalidate 0 0 none (2 ^ 52) 0, .atsInvalidateDone 2 0,
    .atsInvalidateDone 0 32] : List Instr).all
    fun i => !i.wf) = true := by decide +kernel

theorem test_wf_refuses_5 : (([.atsTranslationCompletion 2 none 0 none, .atsTranslationCompletion 0 (some (2 ^ 20)) 0 none, .atsTranslationCompletion 0 none (2 ^ 52) none,
    .atsTranslationCompletion 0 none 0 (some (2 ^ 52, 1)), .msixUnmask 2 0, .msixUnmask 0 2048, .spdmGetVersion 2 [], .spdmGetCapabilities 2 [],
    .spdmNegotiateAlgorithms 2 [], .spdmGetDigests 2 [], .spdmGetCertificate 2 [], .spdmChallenge 2 [], .spdmGetMeasurements 2 [],
    .spdmUnsupported 2 [], .slcCreate 1024 false, .slcDestroy 1024, .slcResize 1024, .slcResetDrain 1024, .slcResetSquash 1024,
    .slcDrainTimeout 1024, .slcResetDone 1024, .slcPause 1024, .slcResume 1024, .slcLogStart 1024, .slcLogStop 1024, .slcLogSync 1024,
    .slcSaveQp 1024, .slcRestoreQp 1024, .slcCtrlEnable 1024, .slcCtrlDisable 1024, .moduleSeated 16 bootOk,
    .moduleSeated 0 { bootOk with lanes := [48] }, .buttonRelease 0 { bootOk with lanes := [48] }, .feedAbsent 2 0, .feedAbsent 0 8,
    .feedQualifying 2 bootOk, .feedQualifying 0 { bootOk with lanes := [48] }, .feedGood 2, .busFault 65536, .storeTestEnd 65536 0 0 false] : List Instr).all
    fun i => !i.wf) = true := by decide +kernel

theorem test_wf_refuses_6 : (([.storeTestEnd 0 65536 0 false, .storeTestEnd 0 0 65536 false, .storeEnergyThreshold 65536, .inletHot 256, .dieWarn 256, .dieCrit 256,
    .sensorReport { pwr0 with vbus := 65536 }, .slotPresent 32 false, .slotAbsent 32, .slotPowerOn 32, .auxCheck 32 sense0,
    .auxCheck 0 { sense0 with cur := 65536 }, .rampEnd 32 sense0, .rampEnd 0 { sense0 with cur := 65536 }, .pgQualify 32 sense0,
    .pgQualify 0 { sense0 with cur := 65536 }, .perstRelease 32, .pgWithdraw 32 sense0, .pgWithdraw 0 { sense0 with cur := 65536 },
    .fastTrip 32 sense0, .fastTrip 0 { sense0 with cur := 65536 }, .faultTimerTrip 32 sense0, .faultTimerTrip 0 { sense0 with cur := 65536 },
    .thermalTrip 32 sense0, .thermalTrip 0 { sense0 with cur := 65536 }, .tjWarn 32 sense0, .tjWarn 0 { sense0 with cur := 65536 },
    .ntcFault 32 sense0, .ntcFault 0 { sense0 with cur := 65536 }, .retryWaitExpiry 32, .retryReload 32, .supplyLow 65536, .supplyRestored 65536,
    .overPower 32 0, .overPower 0 65536, .sltOn 32, .sltOff 32, .sltCycle 32, .sltLocateOn 32, .sltLocateOff 32] : List Instr).all
    fun i => !i.wf) = true := by decide +kernel

theorem test_wf_refuses_7 : (([.turnoffAux 32, .cycleWaitExpiry 32, .bootWatchdog { bootOk with lanes := [48] }, .replayDone [519168] [] false 0,
    .replayDone [] [519168] false 0, .replayDone [] [] false 4, .eventReport ⟨9, 5, 0, 0, [], none⟩, .coalesceWindowExpiry 65536 0, .ringDeliver 16,
    .ringNotifyExpiry 16, .ringStall 16, .ringStallResume 16, .ringHeadWrite 16 0, .ringHeadWrite 0 65536, .ringEnable 16 0, .ringEnable 0 (2 ^ 64),
    .counterSaturate 6400, .ctrValWrite 6400 0 0, .ctrValWrite 0 (2 ^ 64) 0, .ctrValWrite 0 0 (2 ^ 48), .ctrEselWrite 256 0,
    .ctrEselWrite 0 (2 ^ 64), .snapshotHeadWrite 4 0, .snapshotHeadWrite 0 65536, .telCapture 1024 false, .telUnitCfgWrite 1024 0,
    .telUnitCfgWrite 0 (2 ^ 64), .refReturn 65536, .driveLinkReturn 32 dfacts, .driveLinkReturn 0 { dfacts with warning := 256 }, .d3hotEntry 2,
    .storeHot 256, .tjBelowWarn 32, .opticalModuleInserted 8 0, .opticalModuleInserted 0 256] : List Instr).all
    fun i => !i.wf) = true := by decide +kernel

theorem test_wf_takes_0 : (([.registerWrite .bar0 0 8 0, .swcBufStatusRead, .pwrBusStatusRead, .sltChAvgRead 0, .coldReset 0 0 [] bootOk, .warmReset 1 bootOk,
    .coreDataAccess 0, .refLost 0, .hbmUe 0 0 .none, .mgmtRegisterAccess, .hktWriteRx (hdr0 1 5) ⟨5, 0, 1, 0, 1, [0]⟩ ing0,
    .hktReadReqRx (hdr0 1 5) ⟨5, 0, 1⟩ ing0, .hktReadRespRx (hdr0 1 5) ⟨0, 0, 1, [0]⟩ ing0, .hktSendRx (hdr0 1 5) ⟨2, 1, 0, 0, 1, [0]⟩ ing0,
    .hktDoorbellRx (hdr0 1 5) ⟨0, 0, 0⟩ ing0, .hktAckRx (hdr0 1 5) ⟨0, 0, 0⟩ ing0, .hktNakRx (hdr0 1 5) ⟨0, 0, 0, 0, 0⟩ ing0,
    .hktProbeRx (hdr0 1 5) ⟨0, 0, 0⟩ ing0, .ackDelayExpiry 0 0, .gapTimerExpiry 0 0, .rtoExpiry 0 0, .rnrWaitExpiry 0 0, .windowProbeDue 0 0,
    .pathProbeInterval 0 0, .epochAdvance 0 0, .spillSendResume, .regionRevokeDone 0, .calendarSlot 0, .policeHoldTimeout 0, .tmsQueueSample,
    .schedulerPick 0, .pfcRefresh 0 0, .pfcFrameRx 0 [], .pfcPauseExpiry 0 0, .pfcStormTrip 0 0, .pfcStormRestore 0 0, .queueCreate 0 0 qcreate,
    .queueDelete 0 0 qcreate, .queueQuery 0 0 qcreate, .queueReset 0 0 qcreate, .queueDeletionDone 0, .createIoCq 0, .createIoSq 0, .deleteIoSq 0,
    .deleteIoCq 0, .localDoorbellWrite .fn 0 4 0, .fetchResume, .sqeFetchComplete 0, .localDmaCompletion 0 [], .dmaCompletionTimeout 0 false,
    .commandStart 0, .cqePost 0, .mergeWaitExpiry 0, .notifyTimeExpiry 0, .intCoalesceExpiry .fn 0, .flush 0, .flushDone 0, .write 0, .read 0,
    .writeZeroes 0, .datasetManagement 0, .copy 0, .wait 0, .waitTimeout 0, .abort 0, .adminHoldTimeout 0, .ownerHoldTimeout 0, .getLogPage 0,
    .identify 0, .setFeatures 0, .setFeaturesTenant 0, .setFeaturesNsService 0, .nsServiceDone, .getFeatures 0, .asyncEventRequest 0, .nsCreate 0,
    .nsDelete 0, .nsDeleteDrained 0, .nsAttach 0, .nsDetach 0] : List Instr).all
    fun i => i.wf) = true := by decide +kernel

theorem test_wf_takes_1 : (([.regionRegister 0, .regionRevoke 0, .firmwareImageDownload 0, .downloadBufferExpiry, .firmwareCommitStore 0, .firmwareCommitPending 0,
    .firmwareCommitActivateSlot 0, .firmwareCommitActivateNow 0, .actHandoverDone, .actFirmwareReady 0, .actTimeout, .cipherUnitDone 0, .neveReserve,
    .kekAgree 0 false, .keyImport 0 0 0 false false, .zeroise 0, .rotateNs 0 0 false, .zeroiseAll, .rotationSweep 0, .keyEpProtWrite 0 0 0 0,
    .prevSlotExpiry 0, .drbgReseed, .noiseTestFail ⟨goodNoise, goodNoise⟩, .keyFrameRx hdr6 (.zeroise 3), .headPlaceBlock 0,
    .fillTimerExpiry 0, .chunkWriteDone 0 0, .firnFlushExpiry, .compactionStart, .mapPageReadDone 0 0, .calvingVictim, .segmentReleaseDone 0,
    .nsLiveWalk, .adaptWindowEnd 0, .hedgeWindowEnd, .lateHedgeExpiry ⟨0, none⟩, .nevePutRx hdr6 0 kdesc 0, .firnPutRx hdr6 ⟨[], 0⟩, .mirrorAckRx hdr6 0 0,
    .neveRetireRx hdr6 [], .neveFetchRx hdr6 0, .dumpStart, .mirrorFlushEnd, .dumpSeal [] [] false bootOk, .orderlyStopDrained bootOk,
    .orderlyStopTimeout, .linkLossTimeout 0, .rebuildSegmentStart, .rebuildStripeDone 0, .rebuildRateUpdate, .crevassePersist, .crevasseWalk,
    .crevasseFrameRx hdr6 (.drop 5), .rebFail 0, .rebAdopt 0, .rebPause, .rebResume, .createPool, .adoption 0, .rewiden,
    .memberFrameRx hdr6 (.failed 5 1 1), .driveBringup 0 dfacts, .driveBringupTimeout 0 false, .driveCqe 0 0 0 [], .driveAsyncEvent 0 0, .driveCfs 0,
    .driveLinkLoss 0, .aerCorrectable 0, .driveCommandTimeout 0 0, .ladderRungTimeout 0, .healthPoll 0 none, .driveFrameRx hdr6 (.refused 5 1),
    .heartbeatPeriod, .heartbeatRx 0 (beat true 0), .aliveLineChange false, .takeoverReleaseHold, .splitYieldExpiry, .linkAckRx 0 0 0, .pairAckDelay,
    .pairRetransmitTimeout] : List Instr).all
    fun i => i.wf) = true := by decide +kernel

theorem test_wf_takes_2 : (([.pairLinkSilence 0, .firnReqRx hdr6 0 (.mapClear 0 0 1), .ownerRx hdr6 0 0, .segGrantRx hdr6 (.request .meta_), .fwdCmdRx hdr6 fwdRead,
    .fwdDataRx hdr6 0 0 .zero, .fwdDoneRx hdr6 0 ⟨0, 0, false⟩ 0 0, .slotReleaseRx hdr6 0 ⟨4, 0, 0⟩, .slotTakenRx hdr6 0,
    .slotStateRx hdr6 (.result 5 0), .moveNs 0, .returnAll, .yield, .takeoverCmd, .learnLocationRx ⟨hdr0 11 2, .ack ⟨0, 0, 0⟩, ing0⟩ 0 0 [],
    .locationRefresh, .locationQueueSend 0, .formWaitExpiry, .frameHeadArrival hktFrame, .frameTailArrival 0 .good 0, .moraineSweep,
    .privilegedPortDown 0, .frontPortDown 0, .portLinkUp 0, .learnMessage, .hitMessage 0, .learnModuleRx (hdr0 1 5) ing0 0 0 0 [],
    .moduleRecordRefresh, .agerSweep, .rehashWalk 0, .rehashRetry 0, .fwdInsert 0, .fwdDelete 0, .fwdLookup 0, .fwdFlushPort 0 0, .fwdRehash 0,
    .hifCtrlEnable, .hifCtrlDisable, .bmeClear 0, .bmeSet 0, .bmeGraceExpiry 0, .functionReset 0 0, .functionResetDone 0, .hifLinkDown 0,
    .hifLinkUp 0 ⟨5, 4, false, 2, 0, false, false⟩, .peerWindowAccess false 0 0 [], .peerCommit, .atsInvalidate 0 0 none 0 0, .atsInvalidateDone 0 0,
    .atsTranslationCompletion 0 none 0 none, .msixUnmask 0 0, .spdmGetVersion 0 [], .spdmGetCapabilities 0 [], .spdmNegotiateAlgorithms 0 [],
    .spdmGetDigests 0 [], .spdmGetCertificate 0 [], .spdmChallenge 0 [], .spdmGetMeasurements 0 [], .spdmUnsupported 0 [], .slcCreate 0 false,
    .slcDestroy 0, .slcResize 0, .slcResetDrain 0, .slcResetSquash 0, .slcDrainTimeout 0, .slcResetDone 0, .slcPause 0, .slcPauseQuiesced,
    .slcPauseTimeout, .slcResume 0, .slcLogStart 0, .slcLogStop 0, .slcLogSync 0, .slcSaveQp 0, .slcRestoreQp 0, .slcCtrlEnable 0, .slcCtrlDisable 0,
    .pasidEnableClear false, .moduleSeated 0 bootOk, .moduleUnseated] : List Instr).all
    fun i => i.wf) = true := by decide +kernel

theorem test_wf_takes_3 : (([.seatPartial, .buttonRelease 0 bootOk, .buttonZeroise, .feedAbsent 0 0, .feedQualifying 0 bootOk, .feedGood 0, .feedRevert, .oringMake,
    .busFault 0, .storeTestStart, .storeTestEnd 0 0 0 false, .storeEnergyThreshold 0, .inletHot 0, .dieWarn 0, .dieCrit 0, .sensorReport pwr0,
    .slotPresent 0 false, .slotAbsent 0, .slotPowerOn 0, .auxCheck 0 sense0, .rampEnd 0 sense0, .pgQualify 0 sense0, .perstRelease 0,
    .pgWithdraw 0 sense0, .fastTrip 0 sense0, .faultTimerTrip 0 sense0, .thermalTrip 0 sense0, .tjWarn 0 sense0, .ntcFault 0 sense0,
    .retryWaitExpiry 0, .retryReload 0, .supplyLow 0, .supplyRestored 0, .overPower 0 0, .sltOn 0, .sltOff 0, .sltCycle 0, .sltLocateOn 0,
    .sltLocateOff 0, .turnoffAux 0, .cycleWaitExpiry 0, .bootWatchdog bootOk, .bootDrivesUp, .mapRebuildDone none false, .replayDone [] [] false 0,
    .bootServing, .bootStop, .bootRestart, .glbWarm, .glbCoreReset, .eventReport ⟨9, 0, 0, 0, [], none⟩, .pldmAck 0, .coalesceWindowExpiry 0 0,
    .lostRecordEmit, .ringDeliver 0, .ringNotifyExpiry 0, .ringStall 0, .ringStallResume 0, .ringHeadWrite 0 0, .ringEnable 0 0, .counterSaturate 0,
    .ctrValWrite 0 0 0, .ctrEselWrite 0 0, .snapshotTick, .snapshotHeadWrite 0 0, .telCapture 0 false, .telUnitCfgWrite 0 0, .refReturn 0,
    .driveLinkReturn 0 dfacts, .cellSlot, .controllerResetDone, .d3hotEntry 0, .bankWriteDone, .storeHot 0, .tjBelowWarn 0,
    .opticalModuleInserted 0 0] : List Instr).all
    fun i => i.wf) = true := by decide +kernel


/-! ## The checks of the records that commands carry (WellFormed) -/

theorem test_wf_header : ([{ hdr0 1 5 with version := 16 }, { hdr0 1 5 with opcode := 16 }, { hdr0 1 5 with svc := 8 }, { hdr0 1 5 with path := 16 },
    { hdr0 1 5 with extLen := 256 }, { hdr0 1 5 with unaDelta := 65536 }].all fun h => !h.wf) = true := by decide +kernel
theorem test_wf_ingress : ([{ ing0 with port := 34 }, { ing0 with srcPort := 65536 }].all fun g => !g.wf) = true := by decide +kernel
theorem test_wf_write : (([⟨5, 2 ^ 64, 1, 0, 1, []⟩, ⟨5, 0, 2 ^ 32, 0, 1, []⟩, ⟨5, 0, 1, 65536, 1, []⟩, ⟨5, 0, 1, 0, 65536, []⟩] : List WriteExt).all
    fun x => !x.wf) = true := by decide +kernel
theorem test_wf_read : (([⟨5, 2 ^ 64, 1⟩, ⟨5, 0, 2 ^ 32⟩] : List ReadReqExt).all fun x => !x.wf) = true ∧
    (([⟨2 ^ 32, 0, 1, []⟩, ⟨0, 65536, 1, []⟩, ⟨0, 0, 65536, []⟩] : List ReadRespExt).all fun x => !x.wf) = true := by decide +kernel
theorem test_wf_send : (([⟨65536, 1, 0, 0, 1, []⟩, ⟨2, 2 ^ 32, 0, 0, 1, []⟩, ⟨2, 1, 2 ^ 32, 0, 1, []⟩, ⟨2, 1, 0, 65536, 1, []⟩,
    ⟨2, 1, 0, 0, 65536, []⟩] : List SendExt).all fun x => !x.wf) = true := by decide +kernel
theorem test_wf_control : (([⟨65536, 0, 0⟩, ⟨0, 256, 0⟩, ⟨0, 0, 2 ^ 32⟩] : List DoorbellExt).all fun x => !x.wf) = true ∧
    (([⟨0, 65536, 0⟩, ⟨0, 0, 16⟩] : List AckExt).all fun x => !x.wf) = true ∧
    (([⟨0, 0, 256, 0, 0⟩, ⟨0, 0, 0, 16, 0⟩, ⟨0, 0, 0, 0, 65536⟩] : List NakExt).all fun x => !x.wf) = true ∧
    (([⟨0, 256, 0⟩, ⟨0, 0, 256⟩] : List ProbeExt).all fun x => !x.wf) = true := by decide +kernel
theorem test_wf_learn : (([⟨2 ^ 32, 0, false, 0, 0⟩, ⟨0, 16384, false, 0, 0⟩, ⟨0, 0, false, 0, 256⟩] : List LocRec).all fun r => !r.wf) = true ∧
    (([⟨16384, 0, false⟩, ⟨0, 256, false⟩] : List ModRec).all fun r => !r.wf) = true := by decide +kernel
theorem test_wf_queue : ([{ qcreate with op := 256 }, { qcreate with qpn := 65536 }, { qcreate with sqEntries := 65536 },
    { qcreate with cqEntries := 65536 }, { qcreate with notifyCount := 256 }, { qcreate with notifyTime := 256 }].all fun m => !m.wf) = true ∧
    (QOwner.slice 1024).wf = false := by decide +kernel
theorem test_wf_pair : (([⟨2, 0, 0, 0⟩, ⟨0, 2 ^ 32, 0, 0⟩, ⟨0, 0, 2 ^ 32, 0⟩, ⟨0, 0, 0, 2 ^ 32⟩] : List PairHdr).all fun h => !h.wf) = true ∧
    ([{ beat true 0 with moduleId := 16384 }, { beat true 0 with state := 8 }].all fun h => !h.wf) = true ∧
    ([{ kdesc with ns := 4096 }, { kdesc with owner := .slice 1024 }, { kdesc with seq := 2 ^ 48 }, { kdesc with firnMark := 2 ^ 48 }].all
      fun d => !d.wf) = true ∧
    ([{ fwdRead with opcode := 256 }, { fwdRead with ns := 4096 }, { fwdRead with owner := .slice 1024 }].all fun f => !f.wf) = true ∧
    (⟨8, 0, 0⟩ : ChanState).wf = false := by decide +kernel
theorem test_wf_frame : ([{ hktFrame with port := 35 }, { hktFrame with dst := 2 ^ 48 }, { hktFrame with src := 2 ^ 48 },
    { hktFrame with len := 65536 }].all fun f => !f.wf) = true := by decide +kernel
theorem test_wf_reset : ([{ bootOk with lanes := [48] }, { bootOk with selfTest := 3 }, { bootOk with adopted := [32] }, { bootOk with noise := [] },
    { bootOk with again := [] }].all fun b => !b.wf) = true ∧
    (([{ state := 5 }, { tries := 256 }] : List Bank).all fun k => !k.wf) = true ∧
    (([.neve 519168, .page 4096 0, .restore (2 ^ 24)] : List HbmHit).all fun x => !x.wf) = true := by decide +kernel
theorem test_wf_drive : ([{ dfacts with classCode := 2 ^ 24 }, { dfacts with cntlid := 65536 }, { dfacts with warning := 256 }].all
      fun f => !f.wf) = true ∧
    (([⟨16, 4, false, 2, 0, false, false⟩, ⟨5, 17, false, 2, 0, false, false⟩, ⟨5, 4, false, 3, 0, false, false⟩] : List EpConfig).all
      fun c => !c.wf) = true := by decide +kernel
theorem test_wf_sensors : ([{ pwr0 with vbus := 65536 }, { pwr0 with ibus := 4096 }, { pwr0 with die := 256 }, { pwr0 with inlet := 256 },
      { pwr0 with store := 256 }, { pwr0 with feA := 256 }, { pwr0 with feB := 256 }, { pwr0 with vstore := 65536 }].all fun m => !m.wf) = true ∧
    ([{ sense0 with vOut := 65536 }, { sense0 with v3 := 65536 }, { sense0 with supply := 65536 }, { sense0 with cur := 65536 }].all
      fun m => !m.wf) = true := by decide +kernel
theorem test_wf_events : (([⟨65536, 0, 0, 0, [], none⟩, ⟨9, 5, 0, 0, [], none⟩, ⟨9, 0, 16, 0, [], none⟩,
      ⟨9, 0, 0, 0, [0, 0, 0, 0, 0, 0, 0, 0], none⟩] : List Report).all fun p => !p.wf) = true ∧
    (AccessPath.slice 1024).wf = false ∧ (([⟨8, 0, false⟩, ⟨0, 256, false⟩] : List Status).all fun t => !t.wf) = true := by decide +kernel
theorem test_wf_spdm (e : Nat) (l : List Byte) (h : 65536 < l.length) : (Instr.spdmGetVersion e l).wf = false ∧
    (Instr.spdmGetCapabilities e l).wf = false ∧ (Instr.spdmNegotiateAlgorithms e l).wf = false ∧ (Instr.spdmGetDigests e l).wf = false ∧
    (Instr.spdmGetCertificate e l).wf = false ∧ (Instr.spdmChallenge e l).wf = false ∧ (Instr.spdmGetMeasurements e l).wf = false ∧
    (Instr.spdmUnsupported e l).wf = false := by
  have h' : ¬ l.length ≤ 65536 := by omega
  simp [Instr.wf, h']

/-! ## Single steps whose outcome the spec gives -/

/-- The CRC-32C of the digits 1 to 9, the check value of the polynomial R562 names. -/
theorem test_crc32c : crc32c [0x31, 0x32, 0x33, 0x34, 0x35, 0x36, 0x37, 0x38, 0x39] = 0xE3069283 := by decide +kernel
/-- No row of the opcode table has bits. -/
theorem test_no_words (n w : Nat) : decodeTableWord n w = none := rfl
/-- With no command waiting one tick passes. -/
theorem test_idle : (nextOf (step State.reset)).dtc = 1 := by decide +kernel
/-- The front of the queue is taken first and the rest stays. -/
theorem test_front : (nextOf (step { State.reset with pending := [.yield, .returnAll] })).pending = [.returnAll] := by decide +kernel
/-- ZEROISE while the KEY block is not ready ends with result 8 (R180). -/
theorem test_zeroise_not_ready : (nextOf (exec (.zeroise 4) State.reset)).get KEY_STATUS_result = 8 := by decide +kernel
/-- A 12 V output of 10,799 mV withdraws power-good; one of 10,800 mV does not (R455). -/
theorem test_pg_withdraw : (nextOf (exec (.pgWithdraw 5 { sense0 with vOut := 10799 }) (slotOn))).get SLT_CH_STATUS_pg 5 = 0 ∧
    (nextOf (exec (.pgWithdraw 5 { sense0 with vOut := 10800 }) (slotOn))).get SLT_CH_STATUS_pg 5 = 1 := by decide +kernel
/-- A WRITE lands at its region's base plus its offset, and nowhere else. -/
theorem test_write_lands : (nextOf (exec (.hktWriteRx (hdr0 1 5) ⟨5, 16, 2, 0, 1, [7, 8]⟩ ing0) regionState)).mem = [(8208, 7), (8209, 8)] := by
  decide +kernel
/-- The AES-256 example of FIPS 197, C.3. -/
theorem test_aes256 : aesEncrypt (aesKeys (beBytes 32 0x000102030405060708090a0b0c0d0e0f101112131415161718191a1b1c1d1e1f))
    (beBytes 16 0x00112233445566778899aabbccddeeff) = beBytes 16 0x8ea2b7ca516745bfeafc49904b496089 := by decide +kernel
/-- The SHA-384 example of FIPS 180: the bytes "abc". -/
theorem test_sha384 : sha384 [0x61, 0x62, 0x63] =
    0xcb00753f45a35e8bb5a03d699ac65007272c32ab0eded1631a8b605a43ff5bed8086072ba1e7cc2358baeca134c825a7 := by decide +kernel


/-! ## The hypotheses of EventReportsAndBuffer are met -/

theorem witness_EventReportsAndBuffer_1 : ∃ (s : State) (p : Report),
    p.key = none ∧ s.evt.lostCount = 0 ∧ s.evt.buffer.length < 4096 :=
  ⟨{ State.reset with evt := { nextSeq := 9 }, dtc := 7 },
   ⟨0x123, 4, 1, 3, [5], none⟩,
   by decide +kernel⟩

theorem witness_EventReportsAndBuffer_2 : ∃ (s : State) (p : Report) (k : Nat),
    p.key = some k ∧ (s.evt.windows.any fun w => w.code = p.code && w.key = k) = true :=
  ⟨{ State.reset with evt := { windows := [⟨0x123, 3, 0, 0, 0, 0, ⟨0x123, 2, 1, 3, [5], some 3⟩⟩] }, dtc := 7 },
   ⟨0x123, 2, 1, 3, [6], some 3⟩,
   3,
   by decide +kernel⟩

theorem witness_EventReportsAndBuffer_4 : ∃ (s : State) (code : Nat) (key : Nat) (w : EvWindow),
    (s.evt.windows.find? fun w => w.code = code && w.key = key) = some w :=
  ⟨{ State.reset with evt := { windows := [⟨0x123, 3, 0, 2, 0, 0, ⟨0x123, 2, 1, 3, [5], some 3⟩⟩] }, dtc := 7 },
   0x123,
   3,
   ⟨0x123, 3, 0, 2, 0, 0, ⟨0x123, 2, 1, 3, [5], some 3⟩⟩,
   by decide +kernel⟩

theorem witness_EventReportsAndBuffer_5 : ∃ (s : State),
    s.evt.lostCount ≠ 0 ∧ s.evt.buffer.length < 4096 :=
  ⟨{ State.reset with evt := { lostCount := 3, lostFirst := 1, lostLast := 3 } },
   by decide +kernel⟩

/-! ## The hypotheses of EventRings are met -/

theorem witness_EventRings_1 : ∃ (s : State) (r : Nat) (e : EvRec),
    r < 16 ∧ ringEnabled s.regs r = true ∧ s.get EVT_RING_PTR_stalled r = 0 ∧ s.ringFull r = false ∧ (s.ring r).owed = none ∧
      (s.evt.buffer.find? fun e => ringWants s.regs s.evt.rings e r) = some e :=
  ⟨{ regs [(EVT_RING_CFG_en, 15, 1), (EVT_RING_CFG_target, 15, 1), (EVT_RING_PTR_tail, 15, 1023), (EVT_RING_PTR_head, 15, 5)] with evt := { buffer := [{ erec with code := 0x205 }] } },
   15,
   { erec with code := 0x205 },
   by decide +kernel⟩

theorem witness_EventRings_2 : ∃ (s : State) (r : Nat),
    r < 16 ∧ (s.ring r).unnotified ≠ 0 ∧ s.get EVT_RING_CFG_target r ≠ 1 ∧ s.get EVT_RING_CFG_target r ≠ 2 :=
  ⟨{ State.reset with evt := { rings := [(15, { unnotified := 3 })] } },
   15,
   by decide +kernel⟩

theorem witness_EventRings_3 : ∃ (s : State) (r : Nat),
    r < 16 ∧ (s.ring r).unnotified ≠ 0 ∧ s.get EVT_RING_CFG_target r = 1 :=
  ⟨{ regs [(EVT_RING_CFG_target, 15, 1)] with evt := { rings := [(15, { unnotified := 3 })] } },
   15,
   by decide +kernel⟩

theorem witness_EventRings_4 : ∃ (s : State) (r : Nat) (off : Nat) (d : List Byte),
    r < 16 ∧ (s.ring r).unnotified ≠ 0 ∧ s.get EVT_RING_CFG_target r = 2 ∧ (s.ring r).lastWrite = some (off, d) :=
  ⟨{ regs [(EVT_RING_CFG_target, 15, 2)] with evt := { rings := [(15, { unnotified := 3, lastWrite := some (0, [1, 2]) })] } },
   15,
   0,
   [1, 2],
   by decide +kernel⟩

theorem witness_EventRings_5 : ∃ (s : State) (r : Nat),
    r < 16 ∧ ringEnabled s.regs r = true ∧ s.get EVT_RING_PTR_stalled r = 0 ∧ s.ringFull r = true :=
  ⟨regs [(EVT_RING_CFG_en, 15, 1), (EVT_RING_CFG_target, 15, 1), (EVT_RING_PTR_tail, 15, 1023)],
   15,
   by decide +kernel⟩

theorem witness_EventRings_6 : ∃ (s : State) (r : Nat),
    r < 16 ∧ s.get EVT_RING_PTR_stalled r = 1 :=
  ⟨regs [(EVT_RING_PTR_stalled, 15, 1)],
   15,
   by decide +kernel⟩

theorem witness_EventRings_7 : ∃ (s : State) (r : Nat) (v : Nat),
    r < 16 :=
  ⟨State.reset,
   15,
   65537,
   by decide +kernel⟩

theorem witness_EventRings_8 : ∃ (s : State) (r : Nat) (v : Nat),
    r < 16 :=
  ⟨regs [(EVT_RING_PTR_tail, 15, 9)],
   15,
   2 ^ 63 + 2 ^ 61,
   by decide +kernel⟩

/-! ## The hypotheses of CountersAndHistograms are met -/

theorem witness_CountersAndHistograms_1 : ∃ (s : State) (i : Nat),
    i ∈ s.ctr.satPend :=
  ⟨{ State.reset with ctr := { satPend := [5, 6] } },
   5,
   by decide +kernel⟩

theorem witness_CountersAndHistograms_2 : ∃ (s : State) (i : Nat) (v : Nat),
    i < 6400 :=
  ⟨{ State.reset with ctr := { vals := [(6399, (7, true))] } },
   6399,
   2 ^ 63 + 2 ^ 48 + 9,
   by decide +kernel⟩

theorem witness_CountersAndHistograms_3 : ∃ (s : State) (k : Nat) (v : Nat),
    k < 256 :=
  ⟨{ State.reset with ctr := { vals := [(6399, (7, true))] } },
   255,
   2 ^ 63 + 77,
   by decide +kernel⟩

theorem witness_CountersAndHistograms_4 : ∃ (s : State),
    s.get CTR_SNAP_CFG_period_ms ≠ 0 :=
  ⟨State.reset,
   by decide +kernel⟩

theorem witness_CountersAndHistograms_5 : ∃ (s : State) (j : Nat) (v : Nat),
    j < 4 :=
  ⟨State.reset,
   3,
   65535,
   by decide +kernel⟩

theorem witness_CountersAndHistograms_6 : ∃ (s : State) (k : Nat) (c : Bool),
    k < 1024 :=
  ⟨{ State.reset with tel := [(1023, { count := 4, sum := 9 })] },
   1023,
   true,
   by decide +kernel⟩

theorem witness_CountersAndHistograms_7 : ∃ (s : State) (k : Nat) (v : Nat),
    32 ≤ k ∧ k < 1024 :=
  ⟨{ State.reset with tel := [(32, { count := 4, sum := 9 })] },
   32,
   2 ^ 60 + 5,
   by decide +kernel⟩

theorem witness_CountersAndHistograms_8 : ∃ (s : State) (k : Nat) (v : Nat),
    k < 32 :=
  ⟨{ State.reset with tel := [(31, { count := 4, sum := 9 })] },
   31,
   2 ^ 60 + 5,
   by decide +kernel⟩

/-! ## The hypotheses of RegisterReadsAndWrites are met -/

theorem witness_RegisterReadsAndWrites_1 : ∃ (s : State) (i : Nat) (v : Nat),
    i < 16 ∧ v < 2 ^ 64 :=
  ⟨State.reset,
   15,
   2 ^ 64 - 1,
   by decide +kernel⟩

theorem witness_RegisterReadsAndWrites_3 : ∃ (s : State) (g : Nat) (v : Nat),
    g < 16 ∧ s.get GLB_STATUS_cfg_lock = 1 :=
  ⟨regs [(GLB_STATUS_cfg_lock, 0, 1)],
   15,
   2 ^ 64 - 1,
   by decide +kernel⟩

theorem witness_RegisterReadsAndWrites_4 : ∃ (s : State) (g : Nat) (v : Nat),
    g < 16 ∧ s.get GLB_STATUS_cfg_lock = 0 ∧ v < 2 ^ 64 :=
  ⟨State.reset,
   15,
   2 ^ 64 - 1,
   by decide +kernel⟩

theorem witness_RegisterReadsAndWrites_7 : ∃ (s : State) (x : Nat),
    x < 32 :=
  ⟨regs [(SLT_CH_MEAS_p_dw, 31, 120), (SLT_CH_AVG_p_max_dw, 31, 250)],
   31,
   by decide +kernel⟩

/-! ## The hypotheses of RegisterAccessService are met -/

theorem witness_RegisterAccessService_1 : ∃ (s : State) (src : Eid) (dst : Eid) (l : List Byte) (rest : List (Eid × Eid × List Byte)),
    s.hkt.mgmt = (src, dst, l) :: rest ∧ mgmtMalformed l = true :=
  ⟨{ State.reset with hkt := { mgmt := [(0x12345678, 1, [1])] } },
   0x12345678,
   1,
   [1],
   [],
   by decide +kernel⟩

theorem witness_RegisterAccessService_2 : ∃ (s : State) (src : Eid) (dst : Eid) (rest : List (Eid × Eid × List Byte)) (i : Nat) (v : BitVec
    64),
    i < 16 ∧ s.hkt.mgmt = (src, dst, scratchMessage i v) :: rest ∧ s.mgmtRights src / 2 % 2 = 1 :=
  ⟨{ State.reset with hkt := { mgmt := [(0x12345678, 1, scratchMessage 15 77)] }, nsm := { auth := [⟨0x12345678, 32, 2⟩] } },
   0x12345678,
   1,
   [],
   15,
   77,
   by decide +kernel⟩

theorem witness_RegisterAccessService_3 : ∃ (s : State) (src : Eid) (dst : Eid) (rest : List (Eid × Eid × List Byte)) (i : Nat) (v : BitVec
    64),
    i < 16 ∧ s.hkt.mgmt = (src, dst, scratchMessage i v) :: rest ∧ s.mgmtRights src / 2 % 2 = 0 :=
  ⟨{ State.reset with hkt := { mgmt := [(0x12345678, 1, scratchMessage 15 77)] }, nsm := { auth := [⟨0x12345678, 32, 5⟩] } },
   0x12345678,
   1,
   [],
   15,
   77,
   by decide +kernel⟩

/-! ## The hypotheses of PacketsTaken are met -/

theorem witness_PacketsTaken_1 : ∃ (s : State) (b : State) (c : HktCtx) (h : HktHdr) (x : WriteExt) (g : Ingress) (o : HktPkt) (y :
    WriteExt),
    Taken s 1 (rxPacket 1 h (.write x) g) o b c ∧ o.ext = .write y :=
  ⟨regionState,
   acceptedIn regionState 1 (rxPacket 1 (hdr0 1 5) (.write ⟨5, 16, 2, 0, 1, [7, 8]⟩) ing0),
   acceptedCtx regionState 1 (rxPacket 1 (hdr0 1 5) (.write ⟨5, 16, 2, 0, 1, [7, 8]⟩) ing0),
   hdr0 1 5,
   ⟨5, 16, 2, 0, 1, [7, 8]⟩,
   ing0,
   rxPacket 1 (hdr0 1 5) (.write ⟨5, 16, 2, 0, 1, [7, 8]⟩) ing0,
   ⟨5, 16, 2, 0, 1, [7, 8]⟩,
   taken_of rfl (by decide +kernel), by decide +kernel⟩

theorem witness_PacketsTaken_2 : ∃ (s : State) (b : State) (c : HktCtx) (h : HktHdr) (x : ReadReqExt) (g : Ingress) (o : HktPkt),
    Taken s 2 (rxPacket 2 h (.readReq x) g) o b c :=
  ⟨regionState,
   acceptedIn regionState 2 (rxPacket 2 (hdr0 2 4) (.readReq ⟨5, 16, 32⟩) ing0),
   acceptedCtx regionState 2 (rxPacket 2 (hdr0 2 4) (.readReq ⟨5, 16, 32⟩) ing0),
   hdr0 2 4,
   ⟨5, 16, 32⟩,
   ing0,
   rxPacket 2 (hdr0 2 4) (.readReq ⟨5, 16, 32⟩) ing0,
   taken_of rfl (by decide +kernel)⟩

theorem witness_PacketsTaken_3 : ∃ (s : State) (b : State) (c : HktCtx) (h : HktHdr) (x : ReadRespExt) (g : Ingress) (o : HktPkt) (y :
    ReadRespExt) (r : OutRead) (n : Nat) (q : Qp) (f : Fetch) (l : List Fetch),
    Taken s 3 (rxPacket 3 h (.readResp x) g) o b c ∧ o.ext = .readResp y ∧ (c.reads.find? fun r => r.msgId = h.msgId) = some r ∧ r.got = [] ∧
      r.len = y.payload.length ∧ y.offset = 0 ∧ r.purpose = .sqeFetch n ∧ b.qp n = some q ∧ q.fetches = f :: l :=
  ⟨readState,
   acceptedIn readState 3 (rxPacket 3 (hdr0 3 2) (.readResp ⟨0, 0, 1, [1, 2]⟩) ing0),
   acceptedCtx readState 3 (rxPacket 3 (hdr0 3 2) (.readResp ⟨0, 0, 1, [1, 2]⟩) ing0),
   hdr0 3 2,
   ⟨0, 0, 1, [1, 2]⟩,
   ing0,
   rxPacket 3 (hdr0 3 2) (.readResp ⟨0, 0, 1, [1, 2]⟩) ing0,
   ⟨0, 0, 1, [1, 2]⟩,
   read0,
   0,
   { qpFor (.net 99) false with fetches := [{ first := 0, count := 1 }] },
   { first := 0, count := 1 },
   [],
   taken_of rfl (by decide +kernel), by decide +kernel⟩

theorem witness_PacketsTaken_4 : ∃ (s : State) (b : State) (c : HktCtx) (h : HktHdr) (x : SendExt) (g : Ingress) (o : HktPkt) (y : SendExt),
    Taken s 4 (rxPacket 4 h (.send x) g) o b c ∧ o.ext = .send y ∧ y.service = 2 ∧ y.pktCount = 1 ∧ y.offset = 0 ∧ y.msgLen = y.payload.length ∧
      c.msgs = [] :=
  ⟨mgmtState,
   acceptedIn mgmtState 4 (rxPacket 4 (hdr0 4 4) (.send ⟨2, 3, 0, 0, 1, [1, 2, 3]⟩) ing0),
   acceptedCtx mgmtState 4 (rxPacket 4 (hdr0 4 4) (.send ⟨2, 3, 0, 0, 1, [1, 2, 3]⟩) ing0),
   hdr0 4 4,
   ⟨2, 3, 0, 0, 1, [1, 2, 3]⟩,
   ing0,
   rxPacket 4 (hdr0 4 4) (.send ⟨2, 3, 0, 0, 1, [1, 2, 3]⟩) ing0,
   ⟨2, 3, 0, 0, 1, [1, 2, 3]⟩,
   taken_of rfl (by decide +kernel), by decide +kernel⟩

theorem witness_PacketsTaken_5 : ∃ (s : State) (b : State) (c : HktCtx) (h : HktHdr) (x : DoorbellExt) (g : Ingress) (o : HktPkt) (q : Qp),
    Taken s 5 (rxPacket 5 h (.doorbell x) g) o b c ∧ b.qp x.qpn = some q ∧ q.state = .active ∧ x.ring = 1 ∧ x.value % 65536 < q.cqEntries ∧
      ringPos q.cqHead (x.value % 65536) q.cqEntries ≤ ringPos q.cqHead q.cqTail q.cqEntries :=
  ⟨netQp,
   acceptedIn netQp 5 (rxPacket 5 (hdr0 5 2) (.doorbell ⟨0, 1, 0x70003⟩) ing0),
   acceptedCtx netQp 5 (rxPacket 5 (hdr0 5 2) (.doorbell ⟨0, 1, 0x70003⟩) ing0),
   hdr0 5 2,
   ⟨0, 1, 0x70003⟩,
   ing0,
   rxPacket 5 (hdr0 5 2) (.doorbell ⟨0, 1, 0x70003⟩) ing0,
   { qpFor (.net 99) false with cqTail := 4 },
   taken_of rfl (by decide +kernel), by decide +kernel⟩

/-! ## The hypotheses of AcknowledgementsTaken are met -/

theorem witness_AcknowledgementsTaken_1 : ∃ (s : State) (h : HktHdr) (x : AckExt) (g : Ingress) (c : HktCtx),
    (s.rxAdmit 8 (rxPacket 8 h (.ack x) g)).2 = true ∧ s.ctx h.dst h.src = some c ∧ psnPrecedes c.sndUna x.ackPsn = true ∧ psnPrecedes c.sndNxt
      x.ackPsn = false :=
  ⟨withCtx { ctx0 with sndNxt := 4 },
   hdr0 8 2,
   ⟨3, 500, 0⟩,
   ing0,
   { ctx0 with sndNxt := 4 },
   by decide +kernel⟩

theorem witness_AcknowledgementsTaken_2 : ∃ (s : State) (h : HktHdr) (x : NakExt) (g : Ingress) (c : HktCtx),
    (s.rxAdmit 9 (rxPacket 9 h (.nak x) g)).2 = true ∧ s.ctx h.dst h.src = some c ∧ x.code = 8 :=
  ⟨withCtx { ctx0 with sndNxt := 4 },
   hdr0 9 3,
   ⟨1, 1, 8, 0, 0⟩,
   ing0,
   { ctx0 with sndNxt := 4 },
   by decide +kernel⟩

theorem witness_AcknowledgementsTaken_3 : ∃ (s : State) (h : HktHdr) (x : NakExt) (g : Ingress) (c : HktCtx),
    (s.rxAdmit 9 (rxPacket 9 h (.nak x) g)).2 = true ∧ s.ctx h.dst h.src = some c ∧ x.code = 1 :=
  ⟨withCtx { ctx0 with sndNxt := 4, rnrWait := some 1 },
   hdr0 9 3,
   ⟨1, 1, 1, 0, 0⟩,
   ing0,
   { ctx0 with sndNxt := 4, rnrWait := some 1 },
   by decide +kernel⟩

theorem witness_AcknowledgementsTaken_4 : ∃ (s : State) (h : HktHdr) (x : NakExt) (g : Ingress) (c : HktCtx) (y : TxCopy) (r : Nat),
    (s.rxAdmit 9 (rxPacket 9 h (.nak x) g)).2 = true ∧ s.ctx h.dst h.src = some c ∧ x.code ≠ 1 ∧ x.code ≠ 8 ∧ c.copyOf x.nakPsn = some y ∧
      y.purpose = .evtRing r ∧ r < 16 :=
  ⟨withCtx { ctx0 with sndNxt := 1, copies := [evtCopy] },
   hdr0 9 3,
   ⟨0, 1, 7, 0, 0⟩,
   ing0,
   { ctx0 with sndNxt := 1, copies := [evtCopy] },
   evtCopy,
   2,
   by decide +kernel⟩

theorem witness_AcknowledgementsTaken_5 : ∃ (s : State) (b : State) (h : HktHdr) (x : ProbeExt) (g : Ingress) (r : Nat),
    s.rxAdmit 10 (rxPacket 10 h (.probe x) g) = (b, true) ∧ x.kind = 0 ∧ b.hktPorts h.dst h.src h.path (36 + groupOf h.src) = [r] ∧ b.portUp r =
      true ∧ b.cellsOk r 1 = true ∧ b.alphaOk r h.svc 1 = true ∧ h.dst ≠ s.mgmtEid ∧ s.ctx h.dst h.src = none :=
  ⟨floodTo1,
   (floodTo1.rxAdmit 10 (rxPacket 10 (hdr0 10 2) (.probe ⟨1, 0, 0⟩) ing0)).1,
   hdr0 10 2,
   ⟨1, 0, 0⟩,
   ing0,
   1,
   Prod.ext rfl (by decide +kernel), by decide +kernel⟩

/-! ## The hypotheses of ContextsAndRegions are met -/

theorem witness_ContextsAndRegions_1 : ∃ (s : State) (loc : Eid) (peer : Eid) (c : HktCtx) (a : Answered),
    s.ctx loc peer = some c ∧ c.answered = some a ∧ c.ackTimer = true :=
  ⟨withCtx { ctx0 with answered := some ⟨0xC000, 0, 0, 0⟩, ackTimer := true, ackPend := true },
   0,
   99,
   { ctx0 with answered := some ⟨0xC000, 0, 0, 0⟩, ackTimer := true, ackPend := true },
   ⟨0xC000, 0, 0, 0⟩,
   by decide +kernel⟩

theorem witness_ContextsAndRegions_2 : ∃ (s : State) (loc : Eid) (peer : Eid) (c : HktCtx) (a : Answered),
    s.ctx loc peer = some c ∧ c.answered = some a ∧ c.gapTimer = true :=
  ⟨withCtx { ctx0 with answered := some ⟨0xC000, 0, 0, 0⟩, gapTimer := true, ackPend := true },
   0,
   99,
   { ctx0 with answered := some ⟨0xC000, 0, 0, 0⟩, gapTimer := true, ackPend := true },
   ⟨0xC000, 0, 0, 0⟩,
   by decide +kernel⟩

theorem witness_ContextsAndRegions_3 : ∃ (s : State) (loc : Eid) (peer : Eid) (c : HktCtx),
    s.ctx loc peer = some c ∧ s.peerUsable peer = true ∧ c.rtoOn = true ∧ c.backoff + 1 < atLeast1 (s.get HKT_RETRY_CFG_rto_limit) :=
  ⟨withCtx { ctx0 with rtoOn := true },
   0,
   99,
   { ctx0 with rtoOn := true },
   by decide +kernel⟩

theorem witness_ContextsAndRegions_4 : ∃ (s : State) (loc : Eid) (peer : Eid) (c : HktCtx),
    s.ctx loc peer = some c ∧ s.peerUsable peer = true ∧ c.rtoOn = true ∧ atLeast1 (s.get HKT_RETRY_CFG_rto_limit) ≤ c.backoff + 1 ∧ c.copies =
      [] ∧ c.unsent = [] ∧ c.reads = [] :=
  ⟨withCtx { ctx0 with rtoOn := true, backoff := 40 },
   0,
   99,
   { ctx0 with rtoOn := true, backoff := 40 },
   by decide +kernel⟩

theorem witness_ContextsAndRegions_5 : ∃ (s : State) (loc : Eid) (peer : Eid) (c : HktCtx) (p : Psn),
    s.ctx loc peer = some c ∧ c.rnrWait = some p :=
  ⟨withCtx { ctx0 with sndNxt := 4, rnrWait := some 1 },
   0,
   99,
   { ctx0 with sndNxt := 4, rnrWait := some 1 },
   1,
   by decide +kernel⟩

theorem witness_ContextsAndRegions_6 : ∃ (s : State) (loc : Eid) (peer : Eid) (c : HktCtx) (m : TxMsg) (l : List TxMsg),
    s.ctx loc peer = some c ∧ c.unsent = m :: l ∧ c.outstanding = 0 ∧ c.peerRwnd = 0 ∧ s.maySend c m 1 = true :=
  ⟨withCtx { ctx0 with peerRwnd := 0, unsent := [msg0] },
   0,
   99,
   { ctx0 with peerRwnd := 0, unsent := [msg0] },
   msg0,
   [],
   by decide +kernel⟩

theorem witness_ContextsAndRegions_7 : ∃ (s : State) (loc : Eid) (peer : Eid) (c : HktCtx) (p : Nat) (r : Nat),
    s.ctx loc peer = some c ∧ c.localEid = loc ∧ c.peerEid = peer ∧ ((List.range s.pathCount).filter fun k => (c.paths[k]?).any fun y => y.state
      = .slow) = [p] ∧ s.hktPorts loc peer p (36 + groupOf peer) = [r] ∧ s.portUp r = true ∧ s.cellsOk r 1 = true ∧ s.alphaOk r 7 1 = true ∧
      loc ≠ s.mgmtEid :=
  ⟨withCtx slowCtx floodTo1,
   0,
   99,
   slowCtx,
   3,
   1,
   by decide +kernel⟩

theorem witness_ContextsAndRegions_8 : ∃ (s : State) (loc : Eid) (peer : Eid) (c : HktCtx),
    s.ctx loc peer = some c ∧ c.sndUna = c.sndNxt ∧ (c.capped = true ∨ secTicks 2048 ≤ s.since c.epochAt) ∧ c.unsent = [] :=
  ⟨withCtx { ctx0 with capped := true },
   0,
   99,
   { ctx0 with capped := true },
   by decide +kernel⟩

theorem witness_ContextsAndRegions_9 : ∃ (s : State) (u : State) (loc : Eid) (peer : Eid) (m : TxMsg) (l : List (Eid × Eid × TxMsg)) (c :
    HktCtx),
    s.needCtx loc peer = some (c, u) ∧ s.hkt.waiting = (loc, peer, m) :: l :=
  ⟨{ withCtx ctx0 with hkt := { ctxs := [ctx0], waiting := [(0, 99, msg0)] } },
   (({ withCtx ctx0 with hkt := { ctxs := [ctx0], waiting := [(0, 99, msg0)] } }).needCtx 0 99).elim State.reset Prod.snd,
   0,
   99,
   msg0,
   [],
   ctx0,
   pair_of_fst _ (by decide +kernel), by decide +kernel⟩

theorem witness_ContextsAndRegions_10 : ∃ (s : State) (i : Nat) (r : Region),
    3 ≤ i ∧ i < 65536 ∧ r.tag < 16384 ∧ tget s.hkt.regions i = some r ∧ r.state = .revoking ∧ r.revCmd = none ∧ s.keyInFlight (regionKey i
      r.tag) = false :=
  ⟨{ State.reset with hkt := { regions := [(5, { state := .revoking, rd := true, tag := 4 })] } },
   5,
   { state := .revoking, rd := true, tag := 4 },
   by decide +kernel⟩

/-! ## The hypotheses of PriorityFlowControl are met -/

theorem witness_PriorityFlowControl_1 : ∃ (s : State) (p : Nat) (tc : Nat),
    p < 34 ∧ s.pfcOn p tc = true ∧ (s.pfc p tc).tripped = false ∧ (s.pfc p tc).xoff = true ∧ s.xoffCells p - 512 ≤ s.heldCells p tc :=
  ⟨pfcFull,
   3,
   4,
   by decide +kernel⟩

theorem witness_PriorityFlowControl_2 : ∃ (s : State) (p : Nat) (tc : Nat),
    p < 34 ∧ s.pfcOn p tc = true ∧ (s.pfc p tc).tripped = false ∧ (s.pfc p tc).xoff = true ∧ s.heldCells p tc < s.xoffCells p - 512 :=
  ⟨pfcState 0 { xoff := true },
   3,
   4,
   by decide +kernel⟩

theorem witness_PriorityFlowControl_3 : ∃ (s : State) (p : Nat) (tc : Nat) (n : Nat),
    tc < 8 ∧ n < 65536 ∧ s.pfcOn p tc = true ∧ (s.pfc p tc).tripped = false :=
  ⟨pfcState 0,
   3,
   4,
   100,
   by decide +kernel⟩

theorem witness_PriorityFlowControl_4 : ∃ (s : State) (p : Nat) (tc : Nat),
    (s.pfc p tc).paused.isSome = true :=
  ⟨pfcState 0 { paused := some 50 },
   3,
   4,
   by decide +kernel⟩

theorem witness_PriorityFlowControl_5 : ∃ (s : State) (p : Nat) (tc : Nat),
    s.pfcOn p tc = true ∧ s.pausedAt p tc = true ∧ 0 < s.depth p tc :=
  ⟨{ sched with mac := { State.reset.mac with pfc := [((3, 4), { paused := some 50 })] } },
   3,
   4,
   by decide +kernel⟩

theorem witness_PriorityFlowControl_6 : ∃ (s : State) (p : Nat) (tc : Nat),
    (s.pfc p tc).tripped = true :=
  ⟨pfcState 0 { tripped := true },
   3,
   4,
   by decide +kernel⟩

/-! ## The hypotheses of SchedulingAndPolicing are met -/

theorem witness_SchedulingAndPolicing_1 : ∃ (s : State) (u : State) (v : State) (r : Nat) (i : TmsItem) (p : HktPkt) (q : HktPkt),
    s.takeItem r = some (i, u) ∧ (u.dropCells i.cells).seal p = some (q, v) ∧ r < 34 ∧ s.hkt.mgmtOut = [] ∧ i.work = .pkt p ∧ s.portUp r = true
      :=
  ⟨sched,
   taken sched 3,
   (sealOf ((taken sched 3).dropCells [0]) ackPkt).2,
   3,
   ackItem,
   ackPkt,
   (sealOf ((taken sched 3).dropCells [0]) ackPkt).1,
   pair_of_fst _ (by decide +kernel), opt_of_isSome (ackPkt, (taken sched 3).dropCells [0]) (by decide +kernel), by decide +kernel⟩

theorem witness_SchedulingAndPolicing_2 : ∃ (s : State) (u : State) (r : Nat) (i : TmsItem) (p : HktPkt),
    s.takeItem r = some (i, u) ∧ r < 34 ∧ s.hkt.mgmtOut = [] ∧ i.work = .pkt p ∧ s.portUp r = true ∧ (u.dropCells i.cells).seal p = none :=
  ⟨schedProt,
   taken schedProt 3,
   3,
   ackItem,
   ackPkt,
   pair_of_fst _ (by decide +kernel), by decide +kernel⟩

theorem witness_SchedulingAndPolicing_3 : ∃ (s : State) (u : State) (i : TmsItem) (c : DriveCmd) (tag : Nat),
    s.takeItem 34 = some (i, u) ∧ s.hkt.mgmtOut = [] ∧ i.work = .drive c ∧ u.freeTag c.member = some tag ∧ s.get DRV_PORT_STATUS_state c.member
      = 3 ∧ s.live c.member = true :=
  ⟨sched,
   taken sched 34,
   driveItem,
   ⟨5, .health, 0, 1⟩,
   0,
   pair_of_fst _ (by decide +kernel), by decide +kernel⟩

theorem witness_SchedulingAndPolicing_4 : ∃ (s : State) (n : Nat),
    ((∀ e ∈ s.tms.calendar, e.slot = n → (∃ i, e.what = .shaper i) ∧ ((e.due - s.dtc).toNat < 64 ∨ 2 ^ 63 ≤ (e.due - s.dtc).toNat))) ∧ n < 16384
      :=
  ⟨{ State.reset with tms := { State.reset.tms with calendar := [⟨.shaper (.tenant 5), 3, 7, 0⟩, ⟨.shaper (.root 5), 200, 9, 0⟩] } },
   7,
   by intro e he hs; simp at he; rcases he with rfl | rfl <;> first | exact ⟨⟨_, rfl⟩, Or.inl (by decide)⟩ | simp at hs, by decide +kernel⟩

theorem witness_SchedulingAndPolicing_5 : ∃ (s : State) (c : Nat) (x : Cmd) (q : Qp),
    Running s c x q ∧ x.colour = .red ∧ x.phase = .fetched ∧ x.heldAt.isSome = true :=
  ⟨withCtx ctx0 (withCmd (qpFor .fn false) { cmdFor 1 with colour := .red, heldAt := some 0 }),
   7,
   { cmdFor 1 with colour := .red, heldAt := some 0 },
   qpFor .fn false,
   running_of (by decide +kernel), by decide +kernel⟩

theorem witness_SchedulingAndPolicing_6 : ∃ (s : State) (p : Nat) (tc : Nat),
    p < 34 ∧ tc < 8 :=
  ⟨State.reset,
   3,
   4,
   by decide +kernel⟩

/-! ## The hypotheses of QueueSetup are met -/

theorem witness_QueueSetup_1 : ∃ (s : State) (s1 : State) (s2 : State) (src : Eid) (dst : Eid) (m : QSetup) (q : Nat) (k1 : Word32) (k2 :
    Word32),
    s.allocRegion (ringRegion dst m.sqAddr (64 * m.sqEntries) true) = some (k1, s1) ∧ s1.allocRegion (ringRegion dst m.cqAddr (16 * m.cqEntries)
      false) = some (k2, s2) ∧ queueCreateOk m = true ∧ ((dst = s.mgmtEid → m.admin = true)) ∧ ((m.admin = true → s.adminQp (.net src) =
      none)) ∧ s.qpe.qps.length < 65536 ∧ firstFree s.qpe.qps (s.qpe.qps.length + 1) 0 = some q :=
  ⟨State.reset,
   ring1,
   (ring1.allocRegion (ringRegion 0 0x20000 256 false)).elim State.reset Prod.snd,
   99,
   0,
   qcreate,
   0,
   3,
   4,
   pair_of_fst _ (by decide +kernel), pair_of_fst _ (by decide +kernel), by decide +kernel⟩

theorem witness_QueueSetup_2 : ∃ (s : State) (src : Eid) (dst : Eid) (m : QSetup),
    (queueCreateOk m = false ∨ (dst = s.mgmtEid ∧ m.admin = false)) :=
  ⟨State.reset,
   99,
   0,
   { qcreate with sqEntries := 1 },
   by decide +kernel⟩

theorem witness_QueueSetup_3 : ∃ (s : State) (src : Eid) (dst : Eid) (m : QSetup) (x : Qp),
    m.len = 64 ∧ s.ownQp (.net src) m.qpn = some x ∧ x.state ≠ .deleting :=
  ⟨hasQp (qpFor (.net 99) false),
   99,
   0,
   { op := 2, reqId := 4 },
   qpFor (.net 99) false,
   by decide +kernel⟩

theorem witness_QueueSetup_5 : ∃ (s : State) (src : Eid) (dst : Eid) (m : QSetup),
    m.len = 64 ∧ s.qpsOf (.net src) = [] :=
  ⟨State.reset,
   99,
   0,
   { op := 4, reqId := 4 },
   by decide +kernel⟩

theorem witness_QueueSetup_6 : ∃ (s : State) (src : Eid) (dst : Eid) (m : QSetup),
    m.len = 64 ∧ s.qpsOf (.net src) ≠ [] :=
  ⟨hasQp (qpFor (.net 99) false),
   99,
   0,
   { op := 4, reqId := 4 },
   by decide +kernel⟩

theorem witness_QueueSetup_7 : ∃ (s : State) (q : Nat) (x : Qp),
    ((∀ e, x.owner = .net e → s.keyInFlight x.sqKey = false ∧ s.keyInFlight x.cqKey = false)) ∧ s.qp q = some x ∧ x.state ≠ .active ∧ s.inflight
      q = 0 ∧ x.merging = [] ∧ x.delCmds = [] :=
  ⟨hasQp { qpFor (.net 99) false with state := .deleting },
   0,
   { qpFor (.net 99) false with state := .deleting },
   by intro e he; exact ⟨by decide +kernel, by decide +kernel⟩, by decide +kernel⟩

theorem witness_QueueSetup_8 : ∃ (s : State) (q : Nat) (c : Nat) (x : Qp) (z : Qp) (y : Cmd),
    Running s c y z ∧ s.qp q = some x ∧ ownerLocal x.owner = true ∧ x.state ≠ .active ∧ s.inflight q = 0 ∧ x.merging = [] ∧ x.delCmds = [c] ∧
      y.qpn ≠ q :=
  ⟨{ State.reset with qpe := { State.reset.qpe with qps := [(0, qpFor .fn true), (1, { qpFor .fn false with state := .deleting, delCmds := [7] })], cmds := [(7, adminCmd2 0 1 0)] } },
   1,
   7,
   { qpFor .fn false with state := .deleting, delCmds := [7] },
   qpFor .fn true,
   adminCmd2 0 1 0,
   running_of (by decide +kernel), by decide +kernel⟩

/-! ## The hypotheses of LocalQueues are met -/

theorem witness_LocalQueues_1 : ∃ (s : State) (c : Nat) (x : Cmd) (q : Qp) (o : QOwner),
    Running s c x q ∧ s.adminCmd c 5 = some (x, o) ∧ ownerLocal o = true ∧ x.sqe.cdw10.toNat % 65536 ≠ 0 ∧ x.sqe.cdw10.toNat % 65536 ≤ s.maxQid
      o ∧ ((∀ k ∈ s.qpe.cqs, k.owner = o → k.qid ≠ x.sqe.cdw10.toNat % 65536)) ∧ s.qpnOf o (x.sqe.cdw10.toNat % 65536) = none ∧ 1 ≤
      x.sqe.cdw10.toNat / 65536 ∧ x.sqe.cdw10.toNat / 65536 < 4096 ∧ x.sqe.cdw11.toNat % 2 = 1 ∧ x.sqe.dptr0.toNat % 4096 = 0 ∧ s.vectorOk o
      (x.sqe.cdw11.toNat / 65536) ((x.sqe.cdw11.toNat / 2) % 2 = 1) = true :=
  ⟨withCmd (qpFor .fn true) (adminCmd2 5 0xF0003 1),
   7,
   adminCmd2 5 0xF0003 1,
   qpFor .fn true,
   .fn,
   running_of (by decide +kernel), by decide +kernel⟩

theorem witness_LocalQueues_2 : ∃ (s : State) (c : Nat) (n : Nat) (x : Cmd) (q : Qp) (o : QOwner) (k : LocalCq),
    Running s c x q ∧ s.adminCmd c 1 = some (x, o) ∧ ownerLocal o = true ∧ x.sqe.cdw10.toNat % 65536 ≠ 0 ∧ x.sqe.cdw10.toNat % 65536 ≤ s.maxQid
      o ∧ s.qpnOf o (x.sqe.cdw10.toNat % 65536) = none ∧ s.ioQueues o < s.maxQid o ∧ s.qpe.qps.length < 65536 ∧ 1 ≤ x.sqe.cdw10.toNat /
      65536 ∧ x.sqe.cdw10.toNat / 65536 < 4096 ∧ x.sqe.cdw11.toNat % 2 = 1 ∧ x.sqe.dptr0.toNat % 4096 = 0 ∧ (s.qpe.cqs.find? fun k =>
      k.owner = o && k.qid = x.sqe.cdw11.toNat / 65536) = some k ∧ s.cqServes o (x.sqe.cdw11.toNat / 65536) = false ∧ firstFree s.qpe.qps
      (s.qpe.qps.length + 1) 0 = some n :=
  ⟨{ withCmd (qpFor .fn true) (adminCmd2 1 0xF0002 0x30001) with qpe := { (withCmd (qpFor .fn true) (adminCmd2 1 0xF0002 0x30001)).qpe with cqs := [{ owner := .fn, qid := 3, entries := 16, base := 0, vector := 0, ien := false }] } },
   7,
   1,
   adminCmd2 1 0xF0002 0x30001,
   qpFor .fn true,
   .fn,
   { owner := .fn, qid := 3, entries := 16, base := 0, vector := 0, ien := false },
   running_of (by decide +kernel), by decide +kernel⟩

theorem witness_LocalQueues_3 : ∃ (s : State) (c : Nat) (n : Nat) (x : Cmd) (q : Qp) (z : Qp) (o : QOwner),
    Running s c x q ∧ s.adminCmd c 0 = some (x, o) ∧ ownerLocal o = true ∧ x.sqe.cdw10.toNat % 65536 ≠ 0 ∧ s.qpnOf o (x.sqe.cdw10.toNat % 65536)
      = some n ∧ s.qp n = some z ∧ z.admin = false ∧ n ≠ x.qpn ∧ x.phase = .fetched ∧ ((∀ e ∈ s.qpe.cmds, e.2.qpn = n → e.1 ≠ c)) ∧ ((∀ e ∈
      s.qpe.cmds, e.2.waitsOn n = false)) :=
  ⟨{ State.reset with qpe := { State.reset.qpe with qps := [(0, qpFor .fn true), (1, qpFor .fn false)], cmds := [(7, adminCmd2 0 1 0)] } },
   7,
   1,
   adminCmd2 0 1 0,
   qpFor .fn true,
   qpFor .fn false,
   .fn,
   running_of (by decide +kernel), by decide +kernel⟩

theorem witness_LocalQueues_4 : ∃ (s : State) (c : Nat) (x : Cmd) (q : Qp) (o : QOwner) (k : LocalCq),
    Running s c x q ∧ s.adminCmd c 4 = some (x, o) ∧ ownerLocal o = true ∧ (s.qpe.cqs.find? fun k => k.owner = o && k.qid = x.sqe.cdw10.toNat %
      65536) = some k ∧ s.cqServes o (x.sqe.cdw10.toNat % 65536) = false :=
  ⟨{ withCmd (qpFor .fn true) (adminCmd2 4 3 0) with qpe := { (withCmd (qpFor .fn true) (adminCmd2 4 3 0)).qpe with cqs := [{ owner := .fn, qid := 3, entries := 16, base := 0, vector := 0, ien := false }] } },
   7,
   adminCmd2 4 3 0,
   qpFor .fn true,
   .fn,
   { owner := .fn, qid := 3, entries := 16, base := 0, vector := 0, ien := false },
   running_of (by decide +kernel), by decide +kernel⟩

theorem witness_LocalQueues_5 : ∃ (s : State) (offset : Nat) (width : Nat) (v : Nat),
    width ≠ 4 :=
  ⟨State.reset,
   8,
   2,
   5,
   by decide +kernel⟩

theorem witness_LocalQueues_6 : ∃ (s : State) (o : QOwner) (offset : Nat) (q : Nat) (v : Nat) (x : Qp),
    ((∀ n, o = .slice n → s.get SLC_STATUS_state n = 1)) ∧ offset % 8 = 4 ∧ s.cqOf o (offset / 8) = some q ∧ s.qp q = some x ∧ x.state = .active
      ∧ v < 65536 ∧ v < x.cqEntries ∧ ringPos x.cqHead v x.cqEntries ≤ ringPos x.cqHead x.cqTail x.cqEntries :=
  ⟨hasQp { qpFor .fn false with cqTail := 4, cqid := 1 },
   .fn,
   12,
   0,
   3,
   { qpFor .fn false with cqTail := 4, cqid := 1 },
   (by intro n h; cases h), by decide +kernel⟩

theorem witness_LocalQueues_7 : ∃ (s : State) (o : QOwner) (offset : Nat) (q : Nat) (v : Nat) (x : Qp),
    ((∀ n, o = .slice n → s.get SLC_STATUS_state n = 1)) ∧ offset % 8 = 0 ∧ s.qpnOf o (offset / 8) = some q ∧ s.qp q = some x ∧ x.state =
      .active ∧ v < 65536 ∧ v < x.sqEntries :=
  ⟨hasQp (qpFor .fn false),
   .fn,
   8,
   0,
   3,
   qpFor .fn false,
   (by intro n h; cases h), by decide +kernel⟩

/-! ## The hypotheses of FetchingEntries are met -/

theorem witness_FetchingEntries_1 : ∃ (s : State) (q : Nat) (x : Qp) (e : Eid),
    s.qp q = some x ∧ x.owner = .net e ∧ x.sqHead < x.sqEntries ∧ x.sqTail < x.sqEntries ∧ x.sqTail ≠ x.sqHead ∧ x.fetches = [] ∧ s.fetchStopped
      q x = false ∧ 64 * s.qpe.qps.length ≤ s.freeSlots :=
  ⟨hasQp { qpFor (.net 99) false with sqTail := 3 },
   0,
   { qpFor (.net 99) false with sqTail := 3 },
   99,
   by decide +kernel⟩

theorem witness_FetchingEntries_2 : ∃ (s : State) (q : Nat) (x : Qp) (f : Fetch) (d : List Byte) (l : List Fetch),
    s.qp q = some x ∧ x.fetches = f :: l ∧ f.count = 1 ∧ f.bytes = some d ∧ x.breaking = false ∧ x.admin = false ∧ x.state ≠ .error ∧ x.ringBad
      = false ∧ tget s.qpe.cmds s.qpe.nextCmd = none ∧ ((∀ e ∈ s.qpe.cmds, e.2.qpn = q → e.2.sqe.cid ≠ (sqeParse (d.take 64)).cid)) ∧
      ioOpcode (sqeParse (d.take 64)).opcode = false :=
  ⟨hasQp (fetched .fn false 0x55),
   0,
   fetched .fn false 0x55,
   { first := 0, count := 1, bytes := some (leBytes 8 (0x55 + 2 ^ 14 + 9 * 2 ^ 16) ++ List.replicate 56 0) },
   leBytes 8 (0x55 + 2 ^ 14 + 9 * 2 ^ 16) ++ List.replicate 56 0,
   [],
   by decide +kernel⟩

theorem witness_FetchingEntries_3 : ∃ (s : State) (q : Nat) (x : Qp) (e : Eid) (f : Fetch) (d : List Byte) (l : List Fetch),
    s.qp q = some x ∧ x.owner = .net e ∧ x.fetches = f :: l ∧ f.count = 1 ∧ f.bytes = some d ∧ x.breaking = false ∧ x.admin = true ∧ tget
      s.qpe.cmds s.qpe.nextCmd = none ∧ ((∀ e ∈ s.qpe.cmds, e.2.qpn = q → e.2.sqe.cid ≠ (sqeParse (d.take 64)).cid)) ∧ adminOpcode (sqeParse
      (d.take 64)).opcode = true ∧ psdtCheck (.net e) (sqeParse (d.take 64)) = none ∧ pointerCheck (.net e) true (sqeParse (d.take 64)) =
      none :=
  ⟨hasQp (fetched (.net 99) true 0xC),
   0,
   fetched (.net 99) true 0xC,
   99,
   { first := 0, count := 1, bytes := some (leBytes 8 (0xC + 2 ^ 14 + 9 * 2 ^ 16) ++ List.replicate 56 0) },
   leBytes 8 (0xC + 2 ^ 14 + 9 * 2 ^ 16) ++ List.replicate 56 0,
   [],
   by decide +kernel⟩

theorem witness_FetchingEntries_4 : ∃ (s : State) (j : Nat) (q : Nat) (r : HostRead) (x : Qp) (f : Fetch) (l : List Fetch) (d : List Byte),
    s.hif.reads[j]? = some r ∧ r.use = .sqe q ∧ d.length = r.len ∧ s.qp q = some x ∧ x.fetches = f :: l :=
  ⟨{ hasQp { qpFor .fn false with fetches := [{ first := 0, count := 1 }] } with hif := { State.reset.hif with reads := [readSqe] } },
   0,
   0,
   readSqe,
   { qpFor .fn false with fetches := [{ first := 0, count := 1 }] },
   { first := 0, count := 1 },
   [],
   [1, 2],
   by decide +kernel⟩

theorem witness_FetchingEntries_5 : ∃ (s : State) (j : Nat) (q : Nat) (r : HostRead) (x : Qp) (a : Bool),
    s.hif.reads[j]? = some r ∧ r.use = .sqe q ∧ s.qp q = some x ∧ x.state = .active ∧ x.ringBad = false :=
  ⟨{ hasQp { qpFor .fn false with fetches := [{ first := 0, count := 1 }] } with hif := { State.reset.hif with reads := [readSqe] } },
   0,
   0,
   readSqe,
   { qpFor .fn false with fetches := [{ first := 0, count := 1 }] },
   false,
   by decide +kernel⟩

/-! ## The hypotheses of StartingAndCompleting are met -/

theorem witness_StartingAndCompleting_1 : ∃ (s : State) (c : Nat) (x : Cmd),
    s.cmd c = some x ∧ s.startable c x = true ∧ s.admission = true ∧ s.busHolds x = false ∧ s.cmdAdmin x = false ∧ x.forwarded = false ∧
      x.sqe.opcode ≠ 1 ∧ x.sqe.opcode ≠ 0x19 :=
  ⟨withCmd (qpFor (.net 99) false) (cmdFor 2),
   7,
   cmdFor 2,
   by decide +kernel⟩

theorem witness_StartingAndCompleting_2 : ∃ (s : State) (c : Nat) (i : Nat) (x : Cmd) (n : Ns) (l : List Nat),
    s.cmd c = some x ∧ s.startable c x = true ∧ s.admission = true ∧ s.busHolds x = false ∧ s.cmdAdmin x = false ∧ x.forwarded = false ∧
      x.sqe.opcode = 1 ∧ x.ns = some i ∧ s.ns i = some n ∧ s.freeOwn (nlbOf x.sqe) = some l ∧ s.get JNL_NEVE_STATUS_high_water = 0 ∧ ((∀ k ∈
      s.jnl.waiting, c ≤ k)) :=
  ⟨writing writeCmd,
   7,
   0,
   writeCmd,
   nsFor,
   [0],
   by decide +kernel⟩

theorem witness_StartingAndCompleting_3 : ∃ (s : State) (c : Nat) (i : Nat) (x : Cmd),
    s.freeOwn (nlbOf x.sqe) = none ∧ s.cmd c = some x ∧ s.startable c x = true ∧ s.admission = true ∧ s.busHolds x = false ∧ s.cmdAdmin x =
      false ∧ x.forwarded = false ∧ x.sqe.opcode = 1 ∧ x.ns = some i :=
  ⟨lowRoom,
   7,
   0,
   bigWrite,
   freeOwn_none (by decide +kernel), by decide +kernel⟩

theorem witness_StartingAndCompleting_4 : ∃ (s : State) (q : Nat) (c : Nat) (x : Qp) (d : Cmd) (l : List Nat),
    s.qp q = some x ∧ x.comp = c :: l ∧ s.cmd c = some d ∧ (x.cqTail + 1) % x.cqEntries ≠ x.cqHead :=
  ⟨{ hasQp { qpFor (.net 99) false with comp := [7] } with qpe := { State.reset.qpe with qps := [(0, { qpFor (.net 99) false with comp := [7] })], cmds := [(7, { cmdFor 2 with phase := .done })] } },
   0,
   7,
   { qpFor (.net 99) false with comp := [7] },
   { cmdFor 2 with phase := .done },
   [],
   by decide +kernel⟩

theorem witness_StartingAndCompleting_5 : ∃ (s : State) (q : Nat) (c : Nat) (x : Qp) (d : Cmd) (l : List Nat),
    s.qp q = some x ∧ x.comp = c :: l ∧ s.cmd c = some d ∧ (x.cqTail + 1) % x.cqEntries = x.cqHead ∧ x.state = .active ∧ x.fullRaised = false :=
  ⟨{ State.reset with qpe := { State.reset.qpe with qps := [(0, { qpFor (.net 99) false with comp := [7], cqHead := 1 })], cmds := [(7, { cmdFor 2 with phase := .done })] } },
   0,
   7,
   { qpFor (.net 99) false with comp := [7], cqHead := 1 },
   { cmdFor 2 with phase := .done },
   [],
   by decide +kernel⟩

theorem witness_StartingAndCompleting_6 : ∃ (s : State) (q : Nat) (x : Qp) (e : Eid),
    s.qp q = some x ∧ x.owner = .net e ∧ x.merging ≠ [] ∧ s.keyRevoking x.cqKey = false :=
  ⟨hasQp { qpFor (.net 99) false with merging := [⟨0, 0, 0, 0, 0, 1, true, ⟨0, 0, false⟩, false⟩] },
   0,
   { qpFor (.net 99) false with merging := [⟨0, 0, 0, 0, 0, 1, true, ⟨0, 0, false⟩, false⟩] },
   99,
   by decide +kernel⟩

theorem witness_StartingAndCompleting_7 : ∃ (s : State) (q : Nat) (x : Qp) (e : Eid) (l : Cqe),
    s.qp q = some x ∧ x.owner = .net e ∧ x.lastCqe = some l ∧ x.unnotified ≠ 0 ∧ x.merging = [] ∧ s.keyRevoking x.cqKey = false :=
  ⟨hasQp { qpFor (.net 99) false with lastCqe := some ⟨0, 0, 0, 0, 0, 1, true, ⟨0, 0, false⟩, false⟩, unnotified := 2 },
   0,
   { qpFor (.net 99) false with lastCqe := some ⟨0, 0, 0, 0, 0, 1, true, ⟨0, 0, false⟩, false⟩, unnotified := 2 },
   99,
   ⟨0, 0, 0, 0, 0, 1, true, ⟨0, 0, false⟩, false⟩,
   by decide +kernel⟩

theorem witness_StartingAndCompleting_8 : ∃ (s : State) (o : QOwner) (v : Nat) (n : Nat × Word64),
    tget s.hif.coal (o, v) = some n :=
  ⟨{ State.reset with hif := { State.reset.hif with coal := [((.fn, 2), (1, 4))] } },
   .fn,
   2,
   (1, 4),
   by decide +kernel⟩

/-! ## The hypotheses of IoCommands are met -/

theorem witness_IoCommands_1 : ∃ (s : State) (c : Nat) (x : Cmd),
    s.ready c 0 = some x ∧ x.forwarded = false :=
  ⟨{ ioState (begunCmd 0) with jnl := { State.reset.jnl with writes := [(3, job0)] } },
   7,
   begunCmd 0,
   by decide +kernel⟩

theorem witness_IoCommands_2 : ∃ (s : State) (c : Nat) (x : Cmd) (q : Qp),
    Running s c x q ∧ x.sqe.opcode = 0 ∧ x.begun = true ∧ x.phase = .started ∧ x.forwarded = false ∧ s.cmdAdmin x = false ∧ ((∀ k ∈ x.covers,
      s.coveredDone k = true)) ∧ x.fwdLeft = 0 ∧ x.failed = none :=
  ⟨ioState { begunCmd 0 with begun := true, covers := [3] },
   7,
   { begunCmd 0 with begun := true, covers := [3] },
   qpFor (.net 99) false,
   running_of (by decide +kernel), by decide +kernel⟩

theorem witness_IoCommands_3 : ∃ (s : State) (u : State) (c : Nat) (x : Cmd),
    s.takeStages c (nlbOf x.sqe) = some u ∧ s.ready c 1 = some x ∧ x.remote = none ∧ s.keyRevoking (sglKeyOf x.sqe) = false :=
  ⟨ioState (begunCmd 1),
   ((ioState (begunCmd 1)).takeStages 7 1).getD State.reset,
   7,
   begunCmd 1,
   opt_of_isSome _ (by decide +kernel), by decide +kernel⟩

theorem witness_IoCommands_4 : ∃ (s : State) (u : State) (c : Nat) (i : Nat) (x : Cmd) (q : Qp) (e : Eid),
    Running s c x q ∧ s.takeReadUnits c 1 = some u ∧ s.ready c 2 = some x ∧ q.owner = .net e ∧ nlbOf x.sqe = 1 ∧ s.keyRevoking (sglKeyOf x.sqe)
      = false ∧ x.forwarded = false ∧ x.waitList = false ∧ x.lost = none ∧ x.ns = some i ∧ (tgetD s.str.pages (i, pageOf (slbaOf x.sqe))
      {}).cached = true ∧ (tgetD s.str.pages (i, pageOf (slbaOf x.sqe)) {}).reading = false ∧ s.lookup i (slbaOf x.sqe) = .unmapped ∧
      s.hif.queue = [] :=
  ⟨ioState (begunCmd 2),
   ((ioState (begunCmd 2)).takeReadUnits 7 1).getD State.reset,
   7,
   0,
   begunCmd 2,
   qpFor (.net 99) false,
   99,
   running_of (by decide +kernel), opt_of_isSome _ (by decide +kernel), by decide +kernel⟩

theorem witness_IoCommands_5 : ∃ (s : State) (c : Nat) (i : Nat) (lba : Nat) (x : Cmd),
    s.ready c 8 = some x ∧ x.forwarded = false ∧ x.ns = some i ∧ slbaOf x.sqe ≤ lba ∧ lba < slbaOf x.sqe + nlbOf x.sqe :=
  ⟨ioState (begunCmd 8),
   7,
   0,
   0,
   begunCmd 8,
   by decide +kernel⟩

theorem witness_IoCommands_6 : ∃ (s : State) (c : Nat) (i : Nat) (lba : Nat) (x : Cmd),
    s.ready c 8 = some x ∧ x.forwarded = false ∧ x.ns = some i ∧ slbaOf x.sqe ≤ lba ∧ lba < slbaOf x.sqe + nlbOf x.sqe ∧ pageOf (slbaOf x.sqe) =
      pageOf (slbaOf x.sqe + nlbOf x.sqe - 1) ∧ s.isMaster = true ∧ s.appendWaits (.mapClear i (slbaOf x.sqe) (nlbOf x.sqe)) = false :=
  ⟨ioState (begunCmd 8),
   7,
   0,
   0,
   begunCmd 8,
   by decide +kernel⟩

theorem witness_IoCommands_7 : ∃ (s : State) (c : Nat) (i : Nat) (x : Cmd) (q : Qp),
    Running s c x q ∧ s.ready c 9 = some x ∧ x.ns = some i ∧ (x.sqe.cdw11.toNat / 4) % 2 = 0 :=
  ⟨ioState (begunCmd 9),
   7,
   0,
   begunCmd 9,
   qpFor (.net 99) false,
   running_of (by decide +kernel), by decide +kernel⟩

theorem witness_IoCommands_8 : ∃ (s : State) (c : Nat) (i : Nat) (lba : Nat) (x : Cmd),
    ((∃ r ∈ x.ranges, r.1 ≤ lba ∧ lba < r.1 + r.2)) ∧ s.ready c 9 = some x ∧ x.ns = some i ∧ (x.sqe.cdw11.toNat / 4) % 2 = 1 ∧ x.forwarded =
      false :=
  ⟨ioState { begunCmd 9 with ranges := [(4, 8)], sqe := { (begunCmd 9).sqe with cdw11 := 4 } },
   7,
   0,
   11,
   { begunCmd 9 with ranges := [(4, 8)], sqe := { (begunCmd 9).sqe with cdw11 := 4 } },
   ⟨(4, 8), by decide, by decide⟩, by decide +kernel⟩

theorem witness_IoCommands_9 : ∃ (s : State) (u : State) (c : Nat) (i : Nat) (a : Nat) (x : Cmd) (q : Qp),
    Running s c x q ∧ s.takeReadUnits c 1 = some u ∧ s.ready c 0x19 = some x ∧ x.forwarded = false ∧ x.ranges = [(a, 1)] ∧ x.waitList = false ∧
      x.ns = some i ∧ (tgetD s.str.pages (i, pageOf a) {}).cached = true ∧ (tgetD s.str.pages (i, pageOf a) {}).reading = false ∧ s.lookup i
      a = .unmapped :=
  ⟨ioState { begunCmd 0x19 with ranges := [(4, 1)] },
   ((ioState { begunCmd 0x19 with ranges := [(4, 1)] }).takeReadUnits 7 1).getD State.reset,
   7,
   0,
   4,
   { begunCmd 0x19 with ranges := [(4, 1)] },
   qpFor (.net 99) false,
   running_of (by decide +kernel), opt_of_isSome _ (by decide +kernel), by decide +kernel⟩

/-! ## The hypotheses of WaitAbortAndHolds are met -/

theorem witness_WaitAbortAndHolds_1 : ∃ (s : State) (c : Nat) (x : Cmd) (q : Qp) (y : Qp),
    Running s c x q ∧ x.sqe.opcode = 0x80 ∧ x.phase = .started ∧ x.begun = false ∧ s.qp (x.sqe.cdw10.toNat % 65536) = some y ∧ y.state = .active
      ∧ (((x.sqe.cdw10.toNat / 65536) % 2 = 1 → y.errCount = x.errMark)) ∧ waitSatisfied y.cmplCount x.sqe.cdw11.toNat = true :=
  ⟨waitState (waitCmd false) { qpFor .fn false with qid := 2, cmplCount := 3 },
   7,
   waitCmd false,
   qpFor .fn false,
   { qpFor .fn false with qid := 2, cmplCount := 3 },
   running_of (by decide +kernel), by decide +kernel⟩

theorem witness_WaitAbortAndHolds_2 : ∃ (s : State) (c : Nat) (x : Cmd) (q : Qp) (y : Qp),
    Running s c x q ∧ x.sqe.opcode = 0x80 ∧ x.phase = .started ∧ x.begun = false ∧ s.qp (x.sqe.cdw10.toNat % 65536) = some y ∧ y.state ≠ .active
      :=
  ⟨waitState (waitCmd false) { qpFor .fn false with qid := 2, state := .error, errCount := 3 },
   7,
   waitCmd false,
   qpFor .fn false,
   { qpFor .fn false with qid := 2, state := .error, errCount := 3 },
   running_of (by decide +kernel), by decide +kernel⟩

theorem witness_WaitAbortAndHolds_3 : ∃ (s : State) (c : Nat) (x : Cmd) (q : Qp),
    Running s c x q ∧ x.sqe.opcode = 0x80 ∧ x.phase = .started ∧ x.begun = true ∧ x.sqe.cdw12.toNat % 65536 ≠ 0 :=
  ⟨waitState (waitCmd true) { qpFor .fn false with qid := 2 },
   7,
   waitCmd true,
   qpFor .fn false,
   running_of (by decide +kernel), by decide +kernel⟩

theorem witness_WaitAbortAndHolds_4 : ∃ (s : State) (c : Nat) (k : Nat) (x : Cmd) (y : Cmd) (q : Qp) (r : Qp),
    Running s c x q ∧ Running s k y r ∧ s.isAdmin x.qpn = true ∧ x.sqe.opcode = 8 ∧ x.adminHold = none ∧ ((∀ e ∈ s.qpe.cmds, e.2.sqe.opcode = 8
      → e.1 = c)) ∧ c ≠ k ∧ r.owner = q.owner ∧ y.phase = .fetched ∧ y.qpn = x.sqe.cdw10.toNat % 65536 ∧ y.sqe.cid = x.sqe.cdw10.toNat /
      65536 ∧ ((∀ e ∈ s.qpe.cmds, e.2.qpn = y.qpn → e.2.sqe.cid = y.sqe.cid → e.1 = k)) :=
  ⟨abortState [(8, namedCmd)],
   7,
   8,
   abortCmd,
   namedCmd,
   qpFor .fn true,
   qpFor .fn false,
   running_of (by decide +kernel), running_of (by decide +kernel), by decide +kernel⟩

theorem witness_WaitAbortAndHolds_5 : ∃ (s : State) (c : Nat) (x : Cmd) (q : Qp),
    Running s c x q ∧ s.isAdmin x.qpn = true ∧ x.sqe.opcode = 8 ∧ x.adminHold = none ∧ ((∀ e ∈ s.qpe.cmds, e.2.sqe.opcode = 8 → e.1 = c)) ∧ ((∀
      e ∈ s.qpe.cmds, e.1 ≠ c → e.2.qpn = x.sqe.cdw10.toNat % 65536 → e.2.sqe.cid ≠ x.sqe.cdw10.toNat / 65536)) :=
  ⟨abortState [],
   7,
   abortCmd,
   qpFor .fn true,
   running_of (by decide +kernel), by decide +kernel⟩

theorem witness_WaitAbortAndHolds_6 : ∃ (s : State) (c : Nat) (x : Cmd) (q : Qp),
    Running s c x q ∧ x.adminHold.isSome = true ∧ x.phase = .fetched :=
  ⟨withCmd (qpFor .fn true) { cmdFor 6 with adminHold := some 0 },
   7,
   { cmdFor 6 with adminHold := some 0 },
   qpFor .fn true,
   running_of (by decide +kernel), by decide +kernel⟩

theorem witness_WaitAbortAndHolds_7 : ∃ (s : State) (c : Nat) (x : Cmd) (q : Qp),
    Running s c x q ∧ x.ownerHold.isSome = true :=
  ⟨ioState { cmdFor 1 with ownerHold := some 0 },
   7,
   { cmdFor 1 with ownerHold := some 0 },
   qpFor (.net 99) false,
   running_of (by decide +kernel), by decide +kernel⟩

/-! ## The hypotheses of AdminCommands are met -/

theorem witness_AdminCommands_1 : ∃ (s : State) (c : Nat) (x : Cmd) (q : Qp),
    Running s c x q ∧ s.adminRun c 2 = some (x, q.owner) ∧ x.sqe.nsid = 0 ∧ x.sqe.cdw12.toNat % 4 = 0 ∧ x.sqe.cdw10.toNat % 256 = 2 ∧
      s.keyRevoking (sglKeyOf x.sqe) = false :=
  ⟨adminState (dataCmd 2 0x3FF0002 0),
   7,
   dataCmd 2 0x3FF0002 0,
   qpFor .fn true,
   running_of (by decide +kernel), by decide +kernel⟩

theorem witness_AdminCommands_2 : ∃ (s : State) (c : Nat) (x : Cmd) (q : Qp),
    Running s c x q ∧ s.adminRun c 2 = some (x, q.owner) ∧ x.sqe.nsid = 0 ∧ x.sqe.cdw12.toNat % 4 = 0 ∧ x.sqe.cdw10.toNat % 256 ∉ [2, 3, 4, 5,
      0xC0, 0xC1] :=
  ⟨adminState (dataCmd 2 0x3FF00EE 0),
   7,
   dataCmd 2 0x3FF00EE 0,
   qpFor .fn true,
   running_of (by decide +kernel), by decide +kernel⟩

theorem witness_AdminCommands_3 : ∃ (s : State) (c : Nat) (x : Cmd) (q : Qp),
    Running s c x q ∧ s.adminRun c 6 = some (x, q.owner) ∧ x.sqe.cdw10.toNat % 256 = 1 ∧ s.keyRevoking (sglKeyOf x.sqe) = false :=
  ⟨adminState (dataCmd 6 1 0),
   7,
   dataCmd 6 1 0,
   qpFor .fn true,
   running_of (by decide +kernel), by decide +kernel⟩

theorem witness_AdminCommands_4 : ∃ (s : State) (c : Nat) (x : Cmd) (q : Qp),
    Running s c x q ∧ s.adminRun c 6 = some (x, q.owner) ∧ x.sqe.cdw10.toNat % 256 ∉ [0, 1, 2, 3, 0x10] :=
  ⟨adminState (dataCmd 6 0x55 0),
   7,
   dataCmd 6 0x55 0,
   qpFor .fn true,
   running_of (by decide +kernel), by decide +kernel⟩

theorem witness_AdminCommands_5 : ∃ (s : State) (c : Nat) (x : Cmd) (q : Qp),
    Running s c x q ∧ s.adminRun c 9 = some (x, q.owner) ∧ fidOf x.sqe = 0x0B ∧ svOf x.sqe = false ∧ s.namesOther x.sqe = none :=
  ⟨adminState (dataCmd 9 0x0B 0x3000300),
   7,
   dataCmd 9 0x0B 0x3000300,
   qpFor .fn true,
   running_of (by decide +kernel), by decide +kernel⟩

theorem witness_AdminCommands_6 : ∃ (s : State) (c : Nat) (x : Cmd) (q : Qp),
    Running s c x q ∧ s.adminRun c 9 = some (x, q.owner) ∧ fidOf x.sqe = 7 ∧ svOf x.sqe = false ∧ s.namesOther x.sqe = none :=
  ⟨adminState (dataCmd 9 7 0),
   7,
   dataCmd 9 7 0,
   qpFor .fn true,
   running_of (by decide +kernel), by decide +kernel⟩

theorem witness_AdminCommands_7 : ∃ (s : State) (c : Nat) (x : Cmd) (q : Qp),
    Running s c x q ∧ s.adminRun c 0x0A = some (x, q.owner) ∧ fidOf x.sqe = 0x0B :=
  ⟨adminState (dataCmd 10 0x0B 0),
   7,
   dataCmd 10 0x0B 0,
   qpFor .fn true,
   running_of (by decide +kernel), by decide +kernel⟩

theorem witness_AdminCommands_8 : ∃ (s : State) (c : Nat) (x : Cmd) (q : Qp) (e : Nat × Nat × Nat) (l : List (Nat × Nat × Nat)),
    Running s c x q ∧ s.adminCmd c 0x0C = some (x, q.owner) ∧ c ∉ (s.feat q.owner).aers ∧ (s.feat q.owner).kept = e :: l :=
  ⟨adminState (dataCmd 0x0C 0 0) (feats { kept := [(2, 1, 3)] }),
   7,
   dataCmd 0x0C 0 0,
   qpFor .fn true,
   (2, 1, 3),
   [],
   running_of (by decide +kernel), by decide +kernel⟩

theorem witness_AdminCommands_9 : ∃ (s : State) (c : Nat) (x : Cmd) (q : Qp),
    Running s c x q ∧ s.adminCmd c 0x0C = some (x, q.owner) ∧ c ∉ (s.feat q.owner).aers ∧ (s.feat q.owner).kept = [] ∧ (s.feat
      q.owner).aers.length < 16 :=
  ⟨adminState (dataCmd 0x0C 0 0),
   7,
   dataCmd 0x0C 0 0,
   qpFor .fn true,
   running_of (by decide +kernel), by decide +kernel⟩

theorem witness_AdminCommands_10 : ∃ (s : State) (u : State) (c : Nat) (x : Cmd) (q : Qp) (e : Eid) (key : Word32),
    Running s c x q ∧ s.allocRegion
      { rd := x.sqe.cdw13.toNat % 2 = 1, wr := x.sqe.cdw13.toNat / 2 % 2 = 1, protReq := x.sqe.cdw13.toNat / 4 % 2 = 1, host := true, scopeLen := 32, scopeEid := s.moduleEid, basePage := (x.sqe.cdw10.toNat + 2 ^ 32 * x.sqe.cdw11.toNat) / 4096, lenPages := x.sqe.cdw12.toNat % 2 ^ 24, regBy := some e }
      = some (key, u) ∧ s.adminCmd c 0xC1 = some (x, .net e) ∧ x.sqe.cdw10.toNat % 4096 = 0 ∧ x.sqe.cdw11.toNat < 2 ^ 20 ∧ x.sqe.cdw12.toNat
      % 2 ^ 24 ≠ 0 ∧ x.sqe.cdw12.toNat < 2 ^ 24 ∧ x.sqe.cdw13.toNat < 8 :=
  ⟨netAdmin regCmd,
   ((netAdmin regCmd).allocRegion regRegion).elim State.reset Prod.snd,
   7,
   regCmd,
   qpFor (.net 99) true,
   99,
   3,
   running_of (by decide +kernel), pair_of_fst _ (by decide +kernel), by decide +kernel⟩

theorem witness_AdminCommands_11 : ∃ (s : State) (c : Nat) (x : Cmd) (q : Qp) (e : Eid) (r : Region),
    Running s c x q ∧ s.adminCmd c 0xC2 = some (x, .net e) ∧ tget s.hkt.regions (keyIndex x.sqe.cdw10) = some r ∧ r.state = .valid ∧ r.tag =
      keyTag x.sqe.cdw10 ∧ r.regBy = some e ∧ r.revCmd ≠ some c ∧ s.queuedWith x.sqe.cdw10 = [] :=
  ⟨{ netAdmin revCmd0 with hkt := { State.reset.hkt with regions := [(5, { regRegion with state := .valid })] } },
   7,
   revCmd0,
   qpFor (.net 99) true,
   99,
   { regRegion with state := .valid },
   running_of (by decide +kernel), by decide +kernel⟩

theorem witness_AdminCommands_12 : ∃ (s : State) (c : Nat) (k : Nat) (b : Nat) (x : Cmd) (y : Cmd) (q : Qp) (p : Qp) (e : Eid) (loc : Eid)
    (peer : Eid) (r : Region) (m : TxMsg),
    Running s c x q ∧ Running s k y p ∧ s.adminCmd c 0xC2 = some (x, .net e) ∧ tget s.hkt.regions (keyIndex x.sqe.cdw10) = some r ∧ r.state =
      .valid ∧ r.tag = keyTag x.sqe.cdw10 ∧ r.regBy = some e ∧ r.revCmd ≠ some c ∧ s.queuedWith x.sqe.cdw10 = [(loc, peer, m)] ∧ m.purpose =
      .cmdData k b ∧ k ≠ c ∧ tget s.jnl.writes k = none :=
  ⟨revoking,
   7,
   9,
   0,
   revCmd0,
   fillCmd,
   qpFor (.net 99) true,
   qpFor (.net 99) false,
   99,
   0,
   99,
   { regRegion with state := .valid },
   keyMsg,
   running_of (by decide +kernel), running_of (by decide +kernel), by decide +kernel⟩

/-! ## The hypotheses of NamespaceManagement are met -/

theorem witness_NamespaceManagement_1 : ∃ (s : State) (c : Nat) (i : Nat) (x : Cmd) (q : Qp) (k : KeySlot),
    Managed s c x q 0x0D ∧ x.sqe.cdw10.toNat % 16 = 0 ∧ x.sqe.cdw11.toNat / 2 ^ 24 = 0 ∧ leAt (s.cmdBytes x) 0 8 ≠ 0 ∧ leAt (s.cmdBytes x) 8 8 =
      leAt (s.cmdBytes x) 0 8 ∧ ((∀ e ∈ (s.cmdBytes x).zipIdx, 16 ≤ e.2 → (e.2 < 3072 ∨ 3080 ≤ e.2 ∨ e.2 = 3078) → e.1 = 0)) ∧ leAt
      (s.cmdBytes x) 26 1 = 0 ∧ leAt (s.cmdBytes x) 3072 2 ≤ 4092 ∧ leAt (s.cmdBytes x) 3074 1 ≤ 3 ∧ leAt (s.cmdBytes x) 3075 1 ≤ 1 ∧ leAt
      (s.cmdBytes x) 3079 1 ≤ 15 ∧ tget s.key.slots (leAt (s.cmdBytes x) 3076 2) = some k ∧ k.kind = .xts ∧ k.state = .loaded ∧ k.bind =
      .none ∧ k.assured = (leAt (s.cmdBytes x) 3075 1 = 1) ∧ firstFree s.nsm.ns (s.nsm.ns.length + 1) 0 = some i ∧ i < 4096 ∧ 4096 * leAt
      (s.cmdBytes x) 0 8 ≤ s.unvmcap :=
  ⟨adminState (dataCmd 0x0D 0 0 (64 + 64 * 2 ^ 64 + 3 * 2 ^ 24608) 1) poolState,
   7,
   0,
   dataCmd 0x0D 0 0 (64 + 64 * 2 ^ 64 + 3 * 2 ^ 24608) 1,
   qpFor .fn true,
   xtsKey,
   managed_of (by decide +kernel), by decide +kernel⟩

theorem witness_NamespaceManagement_2 : ∃ (s : State) (c : Nat) (x : Cmd) (q : Qp),
    Managed s c x q 0x0D ∧ 1 < x.sqe.cdw10.toNat % 16 :=
  ⟨adminState (dataCmd 0x0D 2 0 0 1),
   7,
   dataCmd 0x0D 2 0 0 1,
   qpFor .fn true,
   managed_of (by decide +kernel), by decide +kernel⟩

theorem witness_NamespaceManagement_3 : ∃ (s : State) (c : Nat) (i : Nat) (x : Cmd) (q : Qp) (n : Ns),
    Managed s c x q 0x0D ∧ x.sqe.cdw10.toNat % 16 = 1 ∧ x.sqe.nsid ≠ 0xFFFFFFFF ∧ s.adminNs x.sqe = .inl (i, n) ∧ n.state = .active :=
  ⟨adminState (dataCmd 0x0D 1 0 0 1 1) (withNs nsFor),
   7,
   0,
   dataCmd 0x0D 1 0 0 1 1,
   qpFor .fn true,
   nsFor,
   managed_of (by decide +kernel), by decide +kernel⟩

theorem witness_NamespaceManagement_4 : ∃ (s : State) (i : Nat) (n : Ns),
    s.ns i = some n ∧ n.state = .deleting ∧ s.owned n = true ∧ s.delTurn i = true ∧ ((∀ e ∈ s.qpe.cmds, e.2.ns = some i → e.2.phase ≠ .started))
      :=
  ⟨withNs { nsFor with state := .deleting } (regs [(BOOT_STATUS_stage, 0, 8)]),
   0,
   { nsFor with state := .deleting },
   by decide +kernel⟩

theorem witness_NamespaceManagement_5 : ∃ (s : State) (c : Nat) (i : Nat) (x : Cmd) (q : Qp) (n : Ns) (l : List Attach),
    Managed s c x q 0x15 ∧ x.sqe.cdw10.toNat % 16 = 0 ∧ s.adminNs x.sqe = .inl (i, n) ∧ attachList (x.sqe.cdw11.toNat % 2 = 1) (s.cmdBytes x) =
      some l ∧ (l.foldl attachPut n.attach).length ≤ 256 ∧ (l.foldl attachPut n.attach).length + (s.nsm.ns.map fun e => if e.1 = i then 0
      else e.2.attach.length).sum ≤ 65536 :=
  ⟨adminState (dataCmd 0x15 0 0 0x10001 1 1) (withNs nsFor),
   7,
   0,
   dataCmd 0x15 0 0 0x10001 1 1,
   qpFor .fn true,
   nsFor,
   [fnAttach],
   managed_of (by decide +kernel), by decide +kernel⟩

theorem witness_NamespaceManagement_6 : ∃ (s : State) (c : Nat) (i : Nat) (x : Cmd) (q : Qp) (n : Ns) (l : List Attach),
    Managed s c x q 0x15 ∧ ((∀ a ∈ l, ∃ b ∈ n.attach, b.key = a.key)) ∧ x.sqe.cdw10.toNat % 16 = 1 ∧ s.adminNs x.sqe = .inl (i, n) ∧ attachList
      (x.sqe.cdw11.toNat % 2 = 1) (s.cmdBytes x) = some l :=
  ⟨adminState (dataCmd 0x15 1 0 0x10001 1 1) (withNs { nsFor with attach := [fnAttach] }),
   7,
   0,
   dataCmd 0x15 1 0 0x10001 1 1,
   qpFor .fn true,
   { nsFor with attach := [fnAttach] },
   [fnAttach],
   managed_of (by decide +kernel), by intro a h; simp at h; subst h; exact ⟨fnAttach, by simp⟩, by decide +kernel⟩

theorem witness_NamespaceManagement_7 : ∃ (s : State) (c : Nat) (x : Cmd) (q : Qp),
    Managed s c x q 9 ∧ fidOf x.sqe = 0xC0 ∧ svOf x.sqe = false ∧ s.namesOther x.sqe = none ∧ x.sqe.cdw11.toNat < 4093 ∧ leAt (s.cmdBytes x) 24
      8 = 0 ∧ reservedBits TMS_TENANT_CFG_class.reg (leAt (s.cmdBytes x) 0 8) = false ∧ reservedBits TMS_POL_RATE_cir.reg (leAt (s.cmdBytes
      x) 8 8) = false ∧ reservedBits TMS_POL_BURST_cbs.reg (leAt (s.cmdBytes x) 16 8) = false :=
  ⟨adminState (dataCmd 9 0xC0 5 (6 + 9 * 2 ^ 128) 1),
   7,
   dataCmd 9 0xC0 5 (6 + 9 * 2 ^ 128) 1,
   qpFor .fn true,
   managed_of (by decide +kernel), by decide +kernel⟩

theorem witness_NamespaceManagement_8 : ∃ (s : State) (c : Nat) (x : Cmd) (q : Qp),
    Managed s c x q 9 ∧ fidOf x.sqe = 0xC0 ∧ svOf x.sqe = false ∧ s.namesOther x.sqe = none ∧ 4093 ≤ x.sqe.cdw11.toNat :=
  ⟨adminState (dataCmd 9 0xC0 5000 0 1),
   7,
   dataCmd 9 0xC0 5000 0 1,
   qpFor .fn true,
   managed_of (by decide +kernel), by decide +kernel⟩

theorem witness_NamespaceManagement_9 : ∃ (s : State) (c : Nat) (i : Nat) (x : Cmd) (q : Qp) (n : Ns),
    Managed s c x q 9 ∧ fidOf x.sqe = 0xC1 ∧ svOf x.sqe = false ∧ s.adminNs x.sqe = .inl (i, n) ∧ x.sqe.cdw11.toNat < 4 ∧ x.sqe.cdw12.toNat = 1
      ∧ s.earlyWrites i = [] :=
  ⟨adminState { dataCmd 9 0xC1 3 0 1 1 with sqe := { (dataCmd 9 0xC1 3 0 1 1).sqe with cdw12 := 1 } } (withNs nsFor),
   7,
   0,
   { dataCmd 9 0xC1 3 0 1 1 with sqe := { (dataCmd 9 0xC1 3 0 1 1).sqe with cdw12 := 1 } },
   qpFor .fn true,
   nsFor,
   managed_of (by decide +kernel), by decide +kernel⟩

theorem witness_NamespaceManagement_10 : ∃ (s : State) (i : Nat) (m : Nat) (n : Ns) (l : List Nat),
    s.nsm.service = some (i, m, l) ∧ ((∀ k ∈ l, s.coveredDone k = true)) ∧ s.ns i = some n :=
  ⟨{ withNs nsFor with nsm := { (withNs nsFor).nsm with service := some (0, 6, [3]) } },
   0,
   6,
   nsFor,
   [3],
   by decide +kernel⟩

/-! ## The hypotheses of FirmwareUpdate are met -/

theorem witness_FirmwareUpdate_1 : ∃ (s : State) (c : Nat) (x : Cmd) (q : Qp),
    Managed s c x q 0x11 ∧ (x.sqe.cdw10.toNat + 1) % 1024 = 0 ∧ x.sqe.cdw11.toNat % 1024 = 0 ∧ 4 * x.sqe.cdw11.toNat + 4 * (x.sqe.cdw10.toNat +
      1) ≤ imageMax ∧ ((∀ e ∈ s.boot.buffer, rangesCross (4 * x.sqe.cdw11.toNat) (4 * (x.sqe.cdw10.toNat + 1)) e.1 e.2.length = false)) :=
  ⟨adminState (dataCmd 0x11 1023 1024 7 1),
   7,
   dataCmd 0x11 1023 1024 7 1,
   qpFor .fn true,
   managed_of (by decide +kernel), by decide +kernel⟩

theorem witness_FirmwareUpdate_3 : ∃ (s : State) (c : Nat) (i : Nat) (x : Cmd) (q : Qp) (b : List Byte),
    Managed s c x q 0x10 ∧ caOf x.sqe = 0 ∧ s.fsBank x.sqe = some i ∧ i ≠ s.runBank ∧ s.downloaded = some b :=
  ⟨pend 0,
   7,
   1,
   dataCmd 0x10 0 0 0 1,
   qpFor .fn true,
   leBytes 8 0 ++ leBytes 8 16,
   managed_of (by decide +kernel), by decide +kernel⟩

theorem witness_FirmwareUpdate_4 : ∃ (s : State) (c : Nat) (x : Cmd) (q : Qp),
    Managed s c x q 0x10 ∧ 4 ≤ caOf x.sqe :=
  ⟨adminState (dataCmd 0x10 32 0 0 1),
   7,
   dataCmd 0x10 32 0 0 1,
   qpFor .fn true,
   managed_of (by decide +kernel), by decide +kernel⟩

theorem witness_FirmwareUpdate_5 : ∃ (s : State) (c : Nat) (i : Nat) (x : Cmd) (q : Qp) (b : List Byte),
    Managed s c x q 0x10 ∧ caOf x.sqe = 1 ∧ s.fsBank x.sqe = some i ∧ i ≠ s.runBank ∧ s.downloaded = some b :=
  ⟨pend 8,
   7,
   1,
   dataCmd 0x10 8 0 0 1,
   qpFor .fn true,
   leBytes 8 0 ++ leBytes 8 16,
   managed_of (by decide +kernel), by decide +kernel⟩

theorem witness_FirmwareUpdate_6 : ∃ (s : State) (c : Nat) (i : Nat) (x : Cmd) (q : Qp),
    Managed s c x q 0x10 ∧ caOf x.sqe = 2 ∧ s.fsBank x.sqe = some i ∧ (s.bank i).state ≠ 0 ∧ (s.bank i).state ≠ 4 :=
  ⟨{ adminState (dataCmd 0x10 16 0 0 1) with boot := { State.reset.boot with banks := [(1, { state := 1 })] } },
   7,
   1,
   dataCmd 0x10 16 0 0 1,
   qpFor .fn true,
   managed_of (by decide +kernel), by decide +kernel⟩

theorem witness_FirmwareUpdate_7 : ∃ (s : State) (c : Nat) (i : Nat) (x : Cmd) (q : Qp) (b : List Byte),
    Managed s c x q 0x10 ∧ caOf x.sqe = 3 ∧ s.fsBank x.sqe = some i ∧ i ≠ s.runBank ∧ s.downloaded = some b :=
  ⟨pend 24,
   7,
   1,
   dataCmd 0x10 24 0 0 1,
   qpFor .fn true,
   leBytes 8 0 ++ leBytes 8 16,
   managed_of (by decide +kernel), by decide +kernel⟩

theorem witness_FirmwareUpdate_8 : ∃ (s : State) (w : BankWrite),
    s.boot.writing = some w ∧ w.ca ≠ 3 :=
  ⟨{ dlState with boot := { State.reset.boot with writing := some ⟨7, 1, 0⟩ } },
   ⟨7, 1, 0⟩,
   by decide +kernel⟩

theorem witness_FirmwareUpdate_9 : ∃ (s : State),
    s.boot.act.isSome = true ∧ s.boot.handed = false :=
  ⟨{ dlState with boot := { State.reset.boot with act := some 7 } },
   by decide +kernel⟩

theorem witness_FirmwareUpdate_10 : ∃ (s : State) (p : Nat),
    s.boot.act.isSome = true ∧ s.boot.handed = true ∧ s.boot.coreRst = false ∧ p % 4 ≠ 0 :=
  ⟨{ dlState with boot := { State.reset.boot with act := some 7, handed := true } },
   3,
   by decide +kernel⟩

theorem witness_FirmwareUpdate_11 : ∃ (s : State),
    s.boot.act.isSome = true ∧ s.boot.coreRst = false :=
  ⟨{ dlState with boot := { State.reset.boot with act := some 7 } },
   by decide +kernel⟩

/-! ## The hypotheses of CipherAndReservation are met -/

theorem witness_CipherAndReservation_1 : ∃ (s : State) (lane : Nat) (c : Nat) (b : Nat) (u : CipUnit) (rest : List CipUnit) (k : BitVec 512)
    (w : WJob),
    tgetD s.cip.lanes lane [] = u :: rest ∧ s.cip.queues = [] ∧ s.laneKey lane u.slot = some k ∧ u.use = .cmd c b ∧ u.encrypt = true ∧ tget
      s.jnl.writes c = some w ∧ w.staged.length ≠ w.blocks.length :=
  ⟨heldState,
   1,
   7,
   0,
   unit0,
   [],
   5,
   job0,
   by decide +kernel⟩

theorem witness_CipherAndReservation_2 : ∃ (s : State) (lane : Nat) (ns : Nat) (lba : Nat) (old : MapEnt) (u : CipUnit) (rest : List
    CipUnit),
    tgetD s.cip.lanes lane [] = u :: rest ∧ s.cip.queues = [] ∧ s.laneKey lane u.slot = none ∧ u.use = .sweepIn ns lba old :=
  ⟨{ cipState with cip := { State.reset.cip with lanes := [(1, [{ unit0 with use := .sweepIn 0 5 .unmapped, slot := 9 }])] } },
   1,
   0,
   5,
   .unmapped,
   { unit0 with use := .sweepIn 0 5 .unmapped, slot := 9 },
   [],
   by decide +kernel⟩

theorem witness_CipherAndReservation_3 : ∃ (s : State) (lane : Nat) (n : Nat) (j : Nat) (u : CipUnit) (v : CipUnit) (l : List CipUnit),
    tgetD s.cip.lanes lane [] = [u] ∧ u.use = .line n ∧ s.cip.queues = [((decide (40 ≤ lane), j), v :: l)] ∧ j < 4 ∧ ((∀ i ∈ s.lanesOf (decide
      (40 ≤ lane)), i ≠ lane → 0 < s.laneBlocks i)) ∧ lane ∈ s.lanesOf (decide (40 ≤ lane)) :=
  ⟨linesOn,
   41,
   16,
   2,
   lineUnit,
   unit0,
   [],
   by decide +kernel⟩

theorem witness_CipherAndReservation_4 : ∃ (s : State) (c : Nat) (i : Nat) (rest : List Nat) (x : Cmd) (n : Ns) (l : List Nat),
    s.jnl.waiting = c :: rest ∧ s.cmd c = some x ∧ x.phase = .fetched ∧ s.startable c x = true ∧ s.admission = true ∧ s.flag
      JNL_NEVE_STATUS_high_water = false ∧ x.ns = some i ∧ s.ns i = some n ∧ s.freeOwn x.neveNeed = some l :=
  ⟨{ writing writeCmd with jnl := { State.reset.jnl with waiting := [7] } },
   7,
   0,
   [],
   writeCmd,
   nsFor,
   [0],
   by decide +kernel⟩

/-! ## The hypotheses of KeyCommands are met -/

theorem witness_KeyCommands_1 : ∃ (s : State) (n : Nat) (p : Bool),
    KeyFree s ∧ tget s.key.slots n = none :=
  ⟨keyReady,
   3,
   true,
   keyFree_of (by decide +kernel), by decide +kernel⟩

theorem witness_KeyCommands_2 : ∃ (s : State) (n : Nat) (a : Nat) (cls : Bool) (p : Bool) (e : KeySlot),
    KeyFree s ∧ tget s.key.slots n = none ∧ tget s.key.slots a = some e ∧ e.kind = .kek ∧ e.state = .loaded :=
  ⟨keyReady { State.reset.key with slots := [(4, kekKey)] },
   3,
   4,
   false,
   true,
   kekKey,
   keyFree_of (by decide +kernel), by decide +kernel⟩

theorem witness_KeyCommands_3 : ∃ (s : State) (n : Nat) (a : Nat) (cls : Bool) (p : Bool) (e : KeySlot),
    KeyFree s ∧ tget s.key.slots n = none ∧ tget s.key.slots a = some e ∧ e.kind = .kek ∧ e.state = .loaded :=
  ⟨keyReady { State.reset.key with slots := [(4, kekKey)] },
   3,
   4,
   false,
   true,
   kekKey,
   keyFree_of (by decide +kernel), by decide +kernel⟩

theorem witness_KeyCommands_4 : ∃ (s : State) (n : Nat) (k : KeySlot),
    KeyFree s ∧ s.cip.lanes = [] ∧ s.cip.queues = [] ∧ tget s.key.slots n = some k :=
  ⟨keyReady { State.reset.key with slots := [(4, { xtsKey with bind := .ns 0 }), (5, xtsKey)] },
   4,
   { xtsKey with bind := .ns 0 },
   keyFree_of (by decide +kernel), by decide +kernel⟩

theorem witness_KeyCommands_5 : ∃ (s : State),
    KeyFree s ∧ s.cip.lanes = [] ∧ s.cip.queues = [] :=
  ⟨keyReady { State.reset.key with slots := [(4, { xtsKey with bind := .ns 0 }), (5, xtsKey)] },
   keyFree_of (by decide +kernel), by decide +kernel⟩

theorem witness_KeyCommands_6 : ∃ (s : State) (n : Nat),
    s.flag KEY_STATUS_busy = false ∧ s.get KEY_STATUS_state ≠ 1 :=
  ⟨State.reset,
   4,
   by decide +kernel⟩

/-! ## The hypotheses of RotationsAndEntries are met -/

theorem witness_RotationsAndEntries_1 : ∃ (s : State) (m : Nat) (i : Nat) (zap : Bool) (n : Ns),
    KeyFree s ∧ s.rotateFails m i = none ∧ s.ns i = some n ∧ (s.underGen i n.kgen).isEmpty = false :=
  ⟨rotState nsFor,
   3,
   0,
   true,
   nsFor,
   keyFree_of (by decide +kernel), by decide +kernel⟩

theorem witness_RotationsAndEntries_2 : ∃ (s : State) (m : Nat) (i : Nat) (r : Nat) (zap : Bool),
    KeyFree s ∧ s.rotateFails m i = some r :=
  ⟨keyReady,
   3,
   0,
   7,
   true,
   keyFree_of (by decide +kernel), by decide +kernel⟩

theorem witness_RotationsAndEntries_3 : ∃ (s : State) (i : Nat) (l : Nat) (g : Nat) (o : Nat) (n : Ns) (sg : Seg),
    s.ns i = some n ∧ n.oldSlot.isSome = true ∧ s.owned n = true ∧ s.sweepNext i n = some (l, g, o) ∧ s.seg g = some sg ∧ s.readable
      (chunkMember sg (s.place sg o).1 (s.place sg o).2.1) = true ∧ s.slow (chunkMember sg (s.place sg o).1 (s.place sg o).2.1) = false :=
  ⟨{ rotState { nsFor with kgen := true, oldSlot := some 3 } with regs := liveSix.regs },
   0,
   8,
   1,
   2,
   { nsFor with kgen := true, oldSlot := some 3 },
   seg0,
   by decide +kernel⟩

theorem witness_RotationsAndEntries_4 : ∃ (s : State) (e : Nat) (eid : Nat) (len : Nat) (n : Nat) (k : KeySlot),
    e < 4096 ∧ n < 2 ^ KEY_EP_PROT_slot.w ∧ tget s.key.slots n = some k ∧ k.kind = .gcm ∧ k.state = .loaded :=
  ⟨keyReady { State.reset.key with slots := [(4, gcmKey0)] },
   2,
   99,
   32,
   4,
   gcmKey0,
   by decide +kernel⟩

theorem witness_RotationsAndEntries_6 : ∃ (s : State),
    s.get KEY_STATUS_state ≠ 2 :=
  ⟨keyReady,
   by decide +kernel⟩

theorem witness_RotationsAndEntries_7 : ∃ (s : State) (l : List Bool) (again : List Bool),
    s.get KEY_STATUS_state ≠ 2 ∧ (s.key.noiseBad || noiseFails l) = true ∧ noiseFails again = true ∧ ((∀ e ∈ s.qpe.cmds, s.cipherLeft e.1 e.2 =
      false)) :=
  ⟨keyReady,
   stuckNoise,
   stuckNoise,
   by decide +kernel⟩

theorem witness_RotationsAndEntries_8 : ∃ (s : State) (l : List Bool) (again : List Bool),
    s.get KEY_STATUS_state ≠ 2 ∧ (s.key.noiseBad || noiseFails l) = true ∧ noiseFails again = false :=
  ⟨keyReady,
   stuckNoise,
   goodNoise,
   by decide +kernel⟩

theorem witness_RotationsAndEntries_9 : ∃ (s : State) (h : PairHdr) (n : Nat) (k : KeySlot) (w : List Byte) (p : BitVec 256),
    InSequence s h ∧ tget s.key.slots n = none ∧ s.key.pairKey = some p :=
  ⟨keyedPair,
   hdr6,
   4,
   gcmKey0,
   List.replicate 40 0,
   9,
   inSequence_of (by decide +kernel), by decide +kernel⟩

theorem witness_RotationsAndEntries_10 : ∃ (s : State) (h : PairHdr) (pub : List Byte) (sig : List Byte) (cert : List Byte) (ok : Bool),
    InSequence s h :=
  ⟨inSeq,
   hdr6,
   [],
   [],
   [],
   false,
   inSequence_of (by decide +kernel)⟩

/-! ## The hypotheses of HeadsAndStripes are met -/

theorem witness_HeadsAndStripes_1 : ∃ (s : State) (g : Nat) (i : Nat) (n : Nat) (x : NeveSlot) (d : NeveDesc) (y : Stripe) (sg : Seg),
    g < 16 ∧ s.nextPlaced g = some (i, x) ∧ tget s.jnl.slots i = some x ∧ x.desc = some d ∧ s.lookup d.ns d.lba = .neve d.kgen i ∧ s.slotFlushed
      i = false ∧ s.booting = false ∧ s.str.cold = [] ∧ ((s.headSeg (.host g)).isSome || s.headOpening (.host g)) = true ∧ ((∀ e ∈
      s.str.stripes, e.2.head = .host g → e.2.due = false)) ∧ s.filling (.host g) = some n ∧ tget s.str.stripes n = some y ∧ y.head = .host
      g ∧ y.writing = false ∧ s.seg y.seg = some sg ∧ y.blocks.length + 1 < sg.k * s.chunkBlocks :=
  ⟨strOf (.host 0) oneBlock { withNs nsFor with jnl := { State.reset.jnl with slots := [(3, kslot)] }, str := { State.reset.str with map := [((0, 9), .neve false 3)] } },
   0,
   3,
   7,
   kslot,
   kdesc,
   oneBlock,
   seg0,
   by decide +kernel⟩

theorem witness_HeadsAndStripes_2 : ∃ (s : State) (n : Nat) (x : Stripe) (g : Seg),
    tget s.str.stripes n = some x ∧ x.writing = false ∧ x.blocks ≠ [] ∧ s.seg x.seg = some g :=
  ⟨strOf (.host 0) oneBlock,
   7,
   oneBlock,
   seg0,
   by decide +kernel⟩

theorem witness_HeadsAndStripes_3 : ∃ (s : State) (x : Nat) (tag : Nat) (n : Nat) (ch : Nat) (e : DrvCmd) (y : Stripe),
    ((y.writing = false ∨ ∃ k ∈ y.waiting, k ≠ ch)) ∧ x < 32 ∧ (s.port x).cmds.find? (fun d => d.tag = tag) = some e ∧ e.cmd.use = .chunk n ch ∧
      e.gone = false ∧ e.late = false ∧ tget s.str.stripes n = some y :=
  ⟨atDrive chunkCmd (strOf (.host 0) (writtenTo [1, 2])),
   5,
   6,
   7,
   2,
   chunkCmd,
   writtenTo [1, 2],
   Or.inr ⟨1, by decide, by decide⟩, by decide +kernel⟩

theorem witness_HeadsAndStripes_4 : ∃ (s : State) (n : Nat) (q : Nat) (c : Nat) (r : FirnRec) (l : List FirnRec) (y : Stripe) (sg : Seg),
    s.isMaster = true ∧ s.jnl.mdQueue = [] ∧ s.jnl.tail.filter (fun e => decide (s.jnl.drained < e.seq + firnSpan e.body)) = r :: l ∧ q = max
      s.jnl.drained r.seq ∧ c = firnCut q 127 (r :: l) ∧ ((∀ e ∈ r :: l, e.seq + firnSpan e.body ≤ q + c)) ∧ s.booting = false ∧ ((s.headSeg
      .meta_).isSome || s.headOpening .meta_) = true ∧ ((∀ e ∈ s.str.stripes, e.2.head = .meta_ → e.2.due = false)) ∧ s.filling .meta_ =
      some n ∧ tget s.str.stripes n = some y ∧ y.head = .meta_ ∧ y.writing = false ∧ s.seg y.seg = some sg ∧ y.blocks.length + 1 < sg.k *
      s.chunkBlocks ∧ s.writingOf .meta_ < 8 :=
  ⟨strOf .meta_ { stripe0 .meta_ with blocks := [] } { State.reset with jnl := { State.reset.jnl with tail := [oneRec] } },
   7,
   40,
   1,
   oneRec,
   [],
   stripe0 .meta_,
   { seg0 with head := .meta_ },
   by decide +kernel⟩

/-! ## The hypotheses of CompactionAndCalving are met -/

theorem witness_CompactionAndCalving_1 : ∃ (s : State),
    s.isMaster = true ∧ s.booting = false ∧ s.jnl.compact = none ∧ s.compactDue = true ∧ s.dirtyPages ≠ [] ∧ s.jnl.copies = [] :=
  ⟨{ State.reset with jnl := { State.reset.jnl with forced := true }, str := { State.reset.str with pages := [((0, 4), { dirty := true })] } },
   by decide +kernel⟩

theorem witness_CompactionAndCalving_2 : ∃ (s : State) (ns : Nat) (p : Nat) (x : MapPage),
    tget s.str.pages (ns, p) = some x ∧ x.cached = true ∧ x.reading = true ∧ s.pagesIn < s.pageRoom ∧ ((∀ w ∈ s.str.waiters, w.1 = ns → w.2.1 ≠
      p)) :=
  ⟨{ State.reset with str := { State.reset.str with pages := [((0, 4), { reading := true })] } },
   0,
   4,
   { reading := true },
   by decide +kernel⟩

theorem witness_CompactionAndCalving_3 : ∃ (s : State) (ns : Nat) (p : Nat),
    s.pageRoom ≤ s.pagesIn ∧ s.pageEvict = none :=
  ⟨{ withNs { nsFor with nsze := 2 ^ 50 } with str := { State.reset.str with pages := [((0, 4), { reading := true })] } },
   0,
   4,
   by decide +kernel⟩

theorem witness_CompactionAndCalving_4 : ∃ (s : State) (i : Nat) (g : Seg),
    s.calveCheck.get STR_POOL_STATUS_calve_level ≠ 0 ∧ s.booting = false ∧ s.str.victims = [] ∧ s.calveCheck.nextVictim = some (i, g) ∧ g.live =
      0 ∧ i ∉ s.pair.takenSegs ∧ s.isMaster = true ∧ s.jnl.parked = [] ∧ s.tailBlocks + 1 < 262144 ∧ s.replayBytes < 2 * s.replayLimit :=
  ⟨calving (sealedSeg 0),
   1,
   sealedSeg 0,
   by decide +kernel⟩

theorem witness_CompactionAndCalving_5 : ∃ (s : State) (i : Nat) (g : Seg),
    s.calveCheck.get STR_POOL_STATUS_calve_level ≠ 0 ∧ s.booting = false ∧ s.str.victims = [] ∧ s.calveCheck.nextVictim = some (i, g) ∧ g.live ≠
      0 ∧ ((∀ e ∈ g.blocks, s.stillThere i e.1 e.2 = false)) ∧ s.isMaster = true ∧ s.jnl.parked = [] ∧ s.tailBlocks + 1 < 262144 ∧
      s.replayBytes < 2 * s.replayLimit :=
  ⟨calving (sealedSeg 2),
   1,
   sealedSeg 2,
   by decide +kernel⟩

theorem witness_CompactionAndCalving_6 : ∃ (s : State),
    s.calveCheck.get STR_POOL_STATUS_calve_level = 0 :=
  ⟨{ liveSix with str := { State.reset.str with capacity := (List.range 6).map fun x => (x, 100000) } },
   by decide +kernel⟩

theorem witness_CompactionAndCalving_7 : ∃ (s : State) (i : Nat) (g : Seg),
    s.seg i = some g ∧ g.state = .releasing ∧ s.segTagged g = false ∧ ((∀ e ∈ s.str.reads, e.2.seg = i → e.2.done = true)) ∧ ((∀ x ∈
      s.tms.leaves, x.root ≠ 34)) ∧ i ∉ s.pair.takenSegs ∧ s.segPending i = false ∧ s.str.cold = [] ∧ s.isMaster = true ∧ s.jnl.parked = []
      ∧ s.tailFull = false ∧ s.replayBytes < 2 * s.replayLimit :=
  ⟨calving { seg0 with state := .releasing },
   1,
   { seg0 with state := .releasing },
   by decide +kernel⟩

theorem witness_CompactionAndCalving_8 : ∃ (s : State) (i : Nat) (g : Seg),
    s.seg i = some g ∧ g.state = .releasing ∧ s.segTagged g = true :=
  ⟨{ calving { seg0 with state := .releasing } with drv := [(5, { cmds := [⟨⟨5, .health, 4096, 1⟩, 0, 0, false, false⟩] })] },
   1,
   { seg0 with state := .releasing },
   by decide +kernel⟩

theorem witness_CompactionAndCalving_9 : ∃ (s : State) (j : Nat) (lba : Nat) (g : Nat) (o : Nat) (k : Bool) (sg : Seg) (rest : List (Nat ×
    List (Nat × MapEnt))),
    s.str.walks = (j, [(lba, .member k g o)]) :: rest ∧ s.seg g = some sg ∧ sg.live ≠ 1 :=
  ⟨{ calving (sealedSeg 2) with str := { (calving (sealedSeg 2)).str with walks := [(0, [(9, .member false 1 0)])] } },
   0,
   9,
   1,
   0,
   false,
   sealedSeg 2,
   [],
   by decide +kernel⟩

/-! ## The hypotheses of AdaptationAndHedging are met -/

theorem witness_AdaptationAndHedging_1 : ∃ (s : State) (g : Nat),
    g < 16 ∧ s.flag STR_GROUP_CFG_adapt_en g = true ∧ s.get STR_ADAPT_CFG_pad_hi_pct * (tgetD s.str.stats g {}).stripes < 100 * (tgetD
      s.str.stats g {}).padded ∧ max (s.groupKmin g) (s.kCur g - atLeast1 (s.get STR_ADAPT_CFG_step)) ≠ s.kCur g :=
  ⟨{ regs [(STR_GROUP_CFG_adapt_en, 3, 1), (STR_ADAPT_CFG_pad_hi_pct, 0, 10), (STR_GROUP_CFG_k_min, 3, 4), (STR_GROUP_CFG_k_max, 3, 8), (STR_GROUP_STATUS_k_cur, 3, 6), (STR_ADAPT_CFG_step, 0, 1)] (regs ((List.range 12).map fun x => (REB_MEMBER_state, x, 3))) with str := { State.reset.str with stats := [(3, ⟨10, 5⟩)] } },
   3,
   by decide +kernel⟩

theorem witness_AdaptationAndHedging_2 : ∃ (s : State) (g : Nat),
    g < 16 ∧ s.flag STR_GROUP_CFG_adapt_en g = true ∧ 1 ≤ (tgetD s.str.stats g {}).stripes ∧ (tgetD s.str.stats g {}).padded = 0 ∧ 0 < s.get
      STR_ADAPT_CFG_pad_lo_pct :=
  ⟨{ regs [(STR_GROUP_CFG_adapt_en, 3, 1), (STR_ADAPT_CFG_pad_lo_pct, 0, 10), (STR_GROUP_CFG_k_min, 3, 4), (STR_GROUP_CFG_k_max, 3, 8), (STR_GROUP_STATUS_k_cur, 3, 6), (STR_ADAPT_CFG_step, 0, 1)] (regs ((List.range 12).map fun x => (REB_MEMBER_state, x, 3))) with str := { State.reset.str with stats := [(3, ⟨10, 0⟩)] } },
   3,
   by decide +kernel⟩

theorem witness_AdaptationAndHedging_4 : ∃ (s : State) (r : Nat) (x : RowRead) (g : Seg),
    tget s.str.reads r = some x ∧ s.seg x.seg = some g ∧ x.hedged = false ∧ x.recon = false ∧ x.done = false ∧ s.flag STR_HEDGE_CFG_late_en =
      true ∧ s.str.thr.isSome = true ∧ s.slow (chunkMember g (s.place g x.off).1 (s.place g x.off).2.1) = false ∧ s.flag
      STR_MEMBER_STATUS_few_samples (chunkMember g (s.place g x.off).1 (s.place g x.off).2.1) = false ∧ (s.place g x.off).2.1 ∈ x.out ∧ g.k
      ≤ ((s.readsTick.spare x g).filter fun d => !s.slow (chunkMember g (s.place g x.off).1 d)).length ∧ s.readsTick.hedgeBudget g.k = true
      :=
  ⟨{ hedging with str := { hedging.str with reads := [(2, asking)] } },
   2,
   asking,
   seg0,
   by decide +kernel⟩

/-! ## The hypotheses of MapSwitch are met -/

theorem witness_MapSwitch_1 : ∃ (s : State) (x : Nat) (tag : Nat) (n : Nat) (ch : Nat) (g : Nat) (i : Nat) (ns : Nat) (lba : Nat) (m : Nat)
    (k : Bool) (e : DrvCmd) (y : Stripe) (sg : Seg) (d : Block) (v : NeveSlot) (w : NeveDesc),
    x < 32 ∧ (s.port x).cmds.find? (fun d => d.tag = tag) = some e ∧ e.cmd.use = .chunk n ch ∧ e.gone = false ∧ e.late = false ∧ s.str.stripes =
      [(n, y)] ∧ y.head = .host g ∧ y.writing = true ∧ y.waiting = [ch] ∧ y.due = false ∧ y.blocks = (.neve i ns lba k, d) :: List.replicate
      m (.pad, 0) ∧ s.seg y.seg = some sg ∧ sg.state = .isOpen ∧ s.lookup ns lba = .neve k i ∧ tget s.jnl.slots i = some v ∧ v.desc = some w
      ∧ w.ns = ns ∧ w.lba = lba ∧ s.isMaster = true ∧ s.switchWaits = false ∧ s.jnl.mdQueue = [] ∧ s.jnl.tail = [] ∧ s.str.cold = [] ∧
      s.str.moving = [] ∧ ((∀ p ∈ s.str.pages, p.2.reading = false)) ∧ sg.begun + 1 < s.segStripes sg ∧ sg.closed = false :=
  ⟨atDrive chunkCmd (strOf (.host 0) { writtenTo [2] with blocks := (.neve 4 0 9 false, 5) :: List.replicate 63 (.pad, 0) } { withNs nsFor with jnl := { State.reset.jnl with slots := [(4, { kslot with state := .placed })] }, str := { State.reset.str with map := [((0, 9), .neve false 4)] } }),
   5,
   6,
   7,
   2,
   0,
   4,
   0,
   9,
   63,
   false,
   chunkCmd,
   { writtenTo [2] with blocks := (.neve 4 0 9 false, 5) :: List.replicate 63 (.pad, 0) },
   seg0,
   5,
   { kslot with state := .placed },
   kdesc,
   by decide +kernel⟩

/-! ## The hypotheses of MirrorFrames are met -/

theorem witness_MirrorFrames_1 : ∃ (s : State) (h : PairHdr) (i : Nat) (d : NeveDesc) (b : Block),
    InSequence s h ∧ s.isOwn i = false ∧ tget s.jnl.slots i = none ∧ i ∉ s.jnl.retired :=
  ⟨inPair,
   hdr6,
   519000,
   kdesc,
   5,
   inSequence_of (by decide +kernel), by decide +kernel⟩

theorem witness_MirrorFrames_2 : ∃ (s : State) (h : PairHdr) (r : FirnRec) (ns : Nat) (lba : Nat) (seg : Nat) (off : Nat) (floor : Nat) (k :
    Bool),
    InSequence s h ∧ s.pair.moves = [] ∧ ((∀ e ∈ s.jnl.tail, e.seq ≠ r.seq)) ∧ ((∀ e ∈ s.jnl.tail ++ [r], floor < e.seq + firnSpan e.body)) ∧
      s.str.switches = [] ∧ s.str.cold = [] ∧ s.jnl.reqs = [] ∧ r.body = .mapSet ns lba 1 seg off k ∧ seg ≠ 0xFFFFFF ∧ s.lookup ns lba =
      .unmapped ∧ s.jnl.slots = [] ∧ s.jnl.writes = [] :=
  ⟨inPair,
   hdr6,
   ⟨40, 0, .mapSet 0 9 1 3 8 true⟩,
   0,
   9,
   3,
   8,
   40,
   true,
   inSequence_of (by decide +kernel), by decide +kernel⟩

theorem witness_MirrorFrames_3 : ∃ (s : State) (h : PairHdr) (a : Nat) (f : Nat) (c : Nat) (w : WJob) (x : Cmd) (q : Qp),
    InSequence s h ∧ Running s c x q ∧ s.pair.moves = [] ∧ s.jnl.resync = none ∧ s.jnl.tail = [] ∧ a < 2 ^ JNL_MIRROR_STATUS_acked_seq.w ∧ s.get
      JNL_MIRROR_STATUS_acked_seq ≤ a ∧ s.jnl.writes = [(c, w)] ∧ w.mode = 0 ∧ w.acked = false ∧ w.done.length = w.blocks.length ∧ ((∀ e ∈
      w.done, e.2.1 < a)) :=
  ⟨{ inPair (withCmd (qpFor (.net 99) false) { cmdFor 1 with phase := .started, ns := some 0 }) with jnl := { State.reset.jnl with writes := [(7, mirrored0)] } },
   hdr6,
   9,
   8,
   7,
   mirrored0,
   { cmdFor 1 with phase := .started, ns := some 0 },
   qpFor (.net 99) false,
   inSequence_of (by decide +kernel), running_of (by decide +kernel), by decide +kernel⟩

theorem witness_MirrorFrames_4 : ∃ (s : State) (h : PairHdr) (i : Nat) (x : NeveSlot),
    InSequence s h ∧ s.isOwn i = false ∧ tget s.jnl.slots i = some x :=
  ⟨{ inPair with jnl := { State.reset.jnl with slots := [(519000, { kslot with mirror := true })] } },
   hdr6,
   519000,
   { kslot with mirror := true },
   inSequence_of (by decide +kernel), by decide +kernel⟩

theorem witness_MirrorFrames_5 : ∃ (s : State) (h : PairHdr) (i : Nat) (x : NeveSlot) (d : NeveDesc),
    InSequence s h ∧ tget s.jnl.slots i = some x ∧ x.desc = some d ∧ x.dataOk = true :=
  ⟨{ inPair with jnl := { State.reset.jnl with slots := [(3, kslot)] } },
   hdr6,
   3,
   kslot,
   kdesc,
   inSequence_of (by decide +kernel), by decide +kernel⟩

/-! ## The hypotheses of DumpsAndStops are met -/

theorem witness_DumpsAndStops_1 : ∃ (s : State),
    s.get PWR_SEQ_STATUS_seq = 1 ∧ s.feedless = true ∧ s.dumping = false ∧ s.boot.act = none :=
  ⟨regs [(PWR_SEQ_STATUS_seq, 0, 1)],
   by decide +kernel⟩

theorem witness_DumpsAndStops_2 : ∃ (s : State) (c : Nat) (w : Word64),
    s.jnl.phase = .flushing c w :=
  ⟨dumpAt (.flushing 1 0),
   1,
   0,
   by decide +kernel⟩

theorem witness_DumpsAndStops_3 : ∃ (s : State) (c : Nat) (w : Word64) (b : BootIn),
    s.jnl.phase = .writing c w ∧ c ≠ 3 ∧ s.boot.after = 0 :=
  ⟨{ dumpAt (.writing 1 0) with jnl := { (dumpAt (.writing 1 0)).jnl with slots := [(3, kslot)] } },
   1,
   0,
   bootOk,
   by decide +kernel⟩

theorem witness_DumpsAndStops_4 : ∃ (s : State) (r : Bool) (w : Word64) (b : BootIn),
    s.jnl.phase = .stopping r w ∧ s.stopDrained = true ∧ s.boot.after = 0 :=
  ⟨dumpAt (.stopping true 0),
   true,
   0,
   bootOk,
   by decide +kernel⟩

theorem witness_DumpsAndStops_5 : ∃ (s : State) (r : Bool) (w : Word64),
    s.jnl.phase = .stopping r w ∧ s.boot.act = none :=
  ⟨dumpAt (.stopping true 0),
   true,
   0,
   by decide +kernel⟩

/-! ## The hypotheses of LossAndRebuild are met -/

theorem witness_LossAndRebuild_1 : ∃ (s : State) (x : Nat),
    QuietMember s x ∧ (s.port x).linkDown.isSome = true :=
  ⟨linkLost (member 3),
   5,
   quietMember_of (by decide +kernel), by decide +kernel⟩

theorem witness_LossAndRebuild_2 : ∃ (s : State) (x : Nat),
    x < 32 ∧ (s.port x).linkDown.isSome = true ∧ s.live x = false :=
  ⟨linkLost (member 1),
   5,
   by decide +kernel⟩

theorem witness_LossAndRebuild_3 : ∃ (s : State) (i : Nat) (g : Seg) (l : List (Nat × Nat × Nat)),
    s.restorable i g = some l ∧ s.reb.work.length + s.reb.evac.length < clampNat 1 64 (s.get REB_CFG_parallel) ∧ s.booting = false ∧
      s.nextRebuild (fun i g => if (s.restorable i g).isSome then s.rebuildHere else s.segMine i) = some (i, g) ∧ g.k ≤ (s.chunkOrder g
      0).length ∧ ((∀ c ∈ (s.chunkOrder g 0).take g.k, s.slow (chunkMember g 0 c) = false)) :=
  ⟨lossy lostSeg,
   1,
   lostSeg,
   ((lossy lostSeg).restorable 1 lostSeg).getD [],
   opt_of_isSome _ (by decide +kernel), by decide +kernel⟩

theorem witness_LossAndRebuild_4 : ∃ (s : State) (i : Nat) (g : Seg),
    s.reb.work.length + s.reb.evac.length < clampNat 1 64 (s.get REB_CFG_parallel) ∧ s.booting = false ∧ s.nextRebuild (fun i g => if
      (s.restorable i g).isSome then s.rebuildHere else s.segMine i) = some (i, g) ∧ s.restorable i g = none ∧ s.seg i = some g ∧ g.live ≠ 0
      ∧ ((∀ e ∈ g.blocks, s.stillThere i e.1 e.2 = false)) ∧ g.summary.isSome = true ∧ s.isMaster = true ∧ s.jnl.parked = [] ∧ s.tailBlocks
      + 1 < 262144 ∧ s.replayBytes < 2 * s.replayLimit :=
  ⟨lossy sumSeg,
   1,
   sumSeg,
   by decide +kernel⟩

theorem witness_LossAndRebuild_5 : ∃ (s : State) (i : Nat) (g : Seg) (r : Restore),
    tget s.reb.work i = some r ∧ s.seg i = some g ∧ r.asked = [] ∧ r.waiting = [] ∧ r.got ≠ [] ∧ s.segStripes g ≤ r.stripe + 1 ∧ g.live ≠ 0 ∧
      r.targets.foldl (fun l e => l.set e.1 e.2.1) g.members ≠ g.members ∧ s.mirrored = false ∧ s.isMaster = true ∧ s.jnl.parked = [] ∧
      s.tailBlocks + 1 < 262144 ∧ s.replayBytes < 2 * s.replayLimit :=
  ⟨{ lossy lostSeg with reb := { State.reset.reb with work := [(1, restoring lostSeg 100)] } },
   1,
   lostSeg,
   restoring lostSeg 100,
   by decide +kernel⟩

theorem witness_LossAndRebuild_6 : ∃ (s : State) (i : Nat) (g : Seg) (r : Restore),
    tget s.reb.work i = some r ∧ s.seg i = some g ∧ r.asked = [] ∧ r.waiting = [] ∧ r.got ≠ [] ∧ r.stripe + 1 < s.segStripes g ∧ g.k ≤
      (s.chunkOrder g (r.stripe + 1)).length ∧ ((∀ c ∈ (s.chunkOrder g (r.stripe + 1)).take g.k, s.slow (chunkMember g (r.stripe + 1) c) =
      false)) :=
  ⟨{ lossy lostSeg with reb := { State.reset.reb with work := [(1, restoring lostSeg 3)] } },
   1,
   lostSeg,
   restoring lostSeg 3,
   by decide +kernel⟩

theorem witness_LossAndRebuild_7 : ∃ (s : State),
    s.coresAway = true :=
  ⟨{ State.reset with boot := { State.reset.boot with handed := true, act := some 7 } },
   by decide +kernel⟩

theorem witness_LossAndRebuild_8 : ∃ (s : State),
    s.coresAway = false ∧ s.lowestR = none :=
  ⟨State.reset,
   by decide +kernel⟩

theorem witness_LossAndRebuild_9 : ∃ (s : State) (r : Int),
    s.coresAway = false ∧ s.lowestR = some r ∧ r ≤ 0 :=
  ⟨{ lossy lostSeg with regs := (regs ((List.range 6).flatMap fun x => if x = 2 || x = 3 then [] else [(REB_MEMBER_state, x, 3)])).regs },
   0,
   by decide +kernel⟩

/-! ## The hypotheses of CrevasseList are met -/

theorem witness_CrevasseList_1 : ∃ (s : State),
    s.reb.changed = true :=
  ⟨{ State.reset with reb := { State.reset.reb with changed := true, crev := [crev0] } },
   by decide +kernel⟩

theorem witness_CrevasseList_2 : ∃ (s : State),
    s.flag REB_CREV_STATUS_scanning = true :=
  ⟨regs [(REB_CREV_STATUS_scanning, 0, 1)],
   by decide +kernel⟩

theorem witness_CrevasseList_3 : ∃ (s : State) (h : PairHdr) (c : Crev),
    InSequence s h ∧ s.reb.crev = [] ∧ 0 < c.nlb :=
  ⟨inSeq,
   hdr6,
   crev0,
   inSequence_of (by decide +kernel), by decide +kernel⟩

theorem witness_CrevasseList_4 : ∃ (s : State) (h : PairHdr) (n : Nat),
    InSequence s h ∧ ((∃ c ∈ s.reb.crev, c.nsid = n)) :=
  ⟨{ inSeq with reb := { State.reset.reb with crev := [crev0] } },
   hdr6,
   7,
   inSequence_of (by decide +kernel), by decide +kernel⟩

/-! ## The hypotheses of MembersAndPool are met -/

theorem witness_MembersAndPool_1 : ∃ (s : State) (x : Nat),
    QuietMember s x :=
  ⟨member 3,
   5,
   quietMember_of (by decide +kernel)⟩

theorem witness_MembersAndPool_2 : ∃ (s : State) (x : Nat),
    x < 32 ∧ s.live x = false :=
  ⟨member 1,
   5,
   by decide +kernel⟩

theorem witness_MembersAndPool_3 : ∃ (s : State) (x : Nat),
    x < 32 ∧ s.get REB_MEMBER_state x = 1 :=
  ⟨member 1,
   5,
   by decide +kernel⟩

theorem witness_MembersAndPool_4 : ∃ (s : State) (x : Nat),
    x < 32 ∧ s.get REB_MEMBER_state x ≠ 1 :=
  ⟨member 3,
   5,
   by decide +kernel⟩

theorem witness_MembersAndPool_5 : ∃ (s : State),
    s.rebQueue ≠ [] :=
  ⟨lossy lostSeg,
   by decide +kernel⟩

theorem witness_MembersAndPool_6 : ∃ (s : State),
    s.get REB_STATUS_state = 2 ∧ s.rebQueue ≠ [] :=
  ⟨{ lossy lostSeg with regs := (regs [(REB_STATUS_state, 0, 2)] (lossy lostSeg)).regs },
   by decide +kernel⟩

theorem witness_MembersAndPool_7 : ∃ (s : State),
    s.poolAllowed = true :=
  ⟨regs ((List.range 9).map fun x => (REB_MEMBER_state, x, 1)),
   by decide +kernel⟩

theorem witness_MembersAndPool_8 : ∃ (s : State),
    s.poolAllowed = false :=
  ⟨State.reset,
   by decide +kernel⟩

theorem witness_MembersAndPool_9 : ∃ (s : State) (x : Nat),
    x < 32 ∧ s.get REB_MEMBER_state x = 2 ∧ tget s.reb.joining x = some 1 :=
  ⟨{ member 2 with reb := { State.reset.reb with joining := [(5, 1)] } },
   5,
   by decide +kernel⟩

theorem witness_MembersAndPool_10 : ∃ (s : State) (x : Nat),
    x < 32 ∧ s.get REB_MEMBER_state x = 2 ∧ tget s.reb.joining x = some 3 :=
  ⟨{ member 2 with reb := { State.reset.reb with joining := [(5, 3)] } },
   5,
   by decide +kernel⟩

theorem witness_MembersAndPool_11 : ∃ (s : State) (i : Nat) (n : Nat) (g : Seg),
    s.flag REB_CFG_rewiden_en = true ∧ s.str.segs = [(i, g)] ∧ g.state = .isSealed ∧ s.needsRebuild i g = false ∧ s.segMine i = true ∧ headGroup
      g.head = some n ∧ g.k < s.kCur n ∧ ((∀ e ∈ g.blocks, s.stillThere i e.1 e.2 = false)) ∧ g.live ≠ 0 ∧ s.booting = false ∧ s.segPending
      i = false ∧ s.switching i = false ∧ s.isMaster = true ∧ s.jnl.parked = [] ∧ s.tailBlocks + 1 < 262144 ∧ s.replayBytes < 2 *
      s.replayLimit :=
  ⟨{ nineLive with str := { State.reset.str with segs := [(1, sealedSeg 2)] } },
   1,
   0,
   sealedSeg 2,
   by decide +kernel⟩

theorem witness_MembersAndPool_12 : ∃ (s : State) (h : PairHdr) (x : Nat) (c : Nat) (q : Nat),
    InSequence s h ∧ QuietMember s x :=
  ⟨{ member 3 with pair := inSeq.pair },
   hdr6,
   5,
   3,
   4,
   inSequence_of (by decide +kernel), quietMember_of (by decide +kernel)⟩

/-! ## The hypotheses of DrivePorts are met -/

theorem witness_DrivePorts_1 : ∃ (s : State) (x : Nat) (f : DriveFacts),
    x < 32 ∧ s.get DRV_PORT_STATUS_state x ≠ 0 ∧ s.get DRV_PORT_STATUS_state x ≠ 3 ∧ s.get DRV_PORT_STATUS_state x ≠ 4 ∧ s.get
      DRV_PORT_STATUS_rung x ≠ 1 ∧ s.acceptCheck x f = none ∧ s.live x = false ∧ s.boot.drivesUp = true :=
  ⟨drive5up 2,
   5,
   goodFacts,
   by decide +kernel⟩

theorem witness_DrivePorts_2 : ∃ (s : State) (x : Nat) (r : Nat) (f : DriveFacts),
    QuietPort s x ∧ s.get DRV_PORT_STATUS_state x ≠ 0 ∧ s.get DRV_PORT_STATUS_state x ≠ 3 ∧ s.get DRV_PORT_STATUS_state x ≠ 4 ∧ s.get
      DRV_PORT_STATUS_rung x ≠ 1 ∧ s.get DRV_PORT_STATUS_rung x ≠ 2 ∧ s.acceptCheck x f = some r ∧ s.live x = false :=
  ⟨drive5 2,
   5,
   2,
   { goodFacts with classCode := 0 },
   quietPort_of (by decide +kernel), by decide +kernel⟩

theorem witness_DrivePorts_3 : ∃ (s : State) (x : Nat) (b : Bool),
    QuietPort s x ∧ s.get DRV_PORT_STATUS_state x ≠ 0 ∧ s.get DRV_PORT_STATUS_state x ≠ 3 ∧ s.get DRV_PORT_STATUS_state x ≠ 4 ∧ s.get
      DRV_PORT_STATUS_rung x ≠ 2 ∧ s.live x = false :=
  ⟨drive5 2,
   5,
   true,
   quietPort_of (by decide +kernel), by decide +kernel⟩

theorem witness_DrivePorts_4 : ∃ (s : State) (x : Nat) (tag : Nat) (d : List Block) (e : DrvCmd),
    x < 32 ∧ (s.port x).cmds.find? (fun d => d.tag = tag) = some e ∧ e.cmd.use = .health ∧ e.gone = false ∧ e.late = false :=
  ⟨drive5 3 { cmds := [healthCmd] },
   5,
   6,
   [],
   healthCmd,
   by decide +kernel⟩

theorem witness_DrivePorts_5 : ∃ (s : State) (x : Nat) (tag : Nat) (i : Nat) (st : Nat) (ch : Nat) (d : List Block) (e : DrvCmd) (r :
    Restore) (g : Seg),
    x < 32 ∧ (s.port x).cmds.find? (fun d => d.tag = tag) = some e ∧ e.cmd.use = .source i st ch ∧ e.gone = false ∧ e.late = false ∧ tget
      s.reb.work i = some r ∧ s.seg i = some g ∧ r.stripe = st ∧ ch ∈ r.asked ∧ (tput r.got ch d).length < g.k :=
  ⟨{ lossy lostSeg with drv := [(5, { cmds := [sourceCmd] })], reb := { State.reset.reb with work := [(1, { restoring lostSeg 3 with asked := [1, 2], got := [] })] } },
   5,
   6,
   1,
   3,
   2,
   [],
   sourceCmd,
   { restoring lostSeg 3 with asked := [1, 2], got := [] },
   lostSeg,
   by decide +kernel⟩

theorem witness_DrivePorts_6 : ∃ (s : State) (x : Nat) (w : Nat),
    x < 32 ∧ w / 4 % 2 = 1 ∧ w / 8 % 4 = 0 ∧ (s.port x).degraded = false ∧ s.live x = true :=
  ⟨member 3,
   5,
   4,
   by decide +kernel⟩

theorem witness_DrivePorts_7 : ∃ (s : State) (x : Nat) (w : Nat),
    QuietMember s x ∧ w / 4 % 2 = 0 ∧ w / 8 % 4 ≠ 0 :=
  ⟨member 3,
   5,
   8,
   quietMember_of (by decide +kernel), by decide +kernel⟩

theorem witness_DrivePorts_8 : ∃ (s : State) (x : Nat),
    QuietPort s x ∧ s.get DRV_PORT_STATUS_state x = 3 ∧ (s.port x).okRung2 = none :=
  ⟨drive5 3,
   5,
   quietPort_of (by decide +kernel), by decide +kernel⟩

theorem witness_DrivePorts_9 : ∃ (s : State) (x : Nat),
    QuietPort s x ∧ s.get DRV_PORT_STATUS_speed x ≠ 0 :=
  ⟨regs [(DRV_PORT_STATUS_speed, 5, 3)],
   5,
   quietPort_of (by decide +kernel), by decide +kernel⟩

theorem witness_DrivePorts_10 : ∃ (s : State) (x : Nat) (f : DriveFacts),
    x < 32 ∧ (s.port x).linkDown.isSome = true ∧ s.get DRV_PORT_STATUS_state x = 5 ∧ s.acceptCheck x f = none ∧ s.live x = false ∧
      s.boot.drivesUp = true :=
  ⟨drive5up 5 { linkDown := some 3 },
   5,
   goodFacts,
   by decide +kernel⟩

theorem witness_DrivePorts_11 : ∃ (s : State) (x : Nat),
    x < 32 ∧ s.get DRV_PORT_ERR_aer_corr x + 1 < 2 ^ DRV_PORT_ERR_aer_corr.w :=
  ⟨State.reset,
   5,
   by decide +kernel⟩

theorem witness_DrivePorts_12 : ∃ (s : State) (x : Nat) (tag : Nat) (e : DrvCmd),
    x < 32 ∧ e ∈ (s.port x).cmds ∧ e.tag = tag ∧ e.late = false ∧ s.get DRV_PORT_STATUS_rung x = 0 :=
  ⟨drive5 3 { cmds := [healthCmd] },
   5,
   6,
   healthCmd,
   by decide +kernel⟩

theorem witness_DrivePorts_13 : ∃ (s : State) (x : Nat),
    QuietPort s x ∧ s.get DRV_PORT_STATUS_rung x = 2 ∧ (s.port x).okRung3 = none ∧ s.slotOwner x = false :=
  ⟨rungAt 2,
   5,
   quietPort_of (by decide +kernel), by decide +kernel⟩

theorem witness_DrivePorts_14 : ∃ (s : State) (x : Nat) (u : Nat),
    x < 32 ∧ s.get DRV_PORT_STATUS_state x = 3 :=
  ⟨drive5 3,
   5,
   40,
   by decide +kernel⟩

theorem witness_DrivePorts_15 : ∃ (s : State) (h : PairHdr) (x : Nat) (r : Nat),
    InSequence s h ∧ QuietPort s x ∧ s.get DRV_PORT_STATUS_state x ≠ 4 ∧ s.live x = false :=
  ⟨{ drive5 2 with pair := inSeq.pair },
   hdr6,
   5,
   4,
   inSequence_of (by decide +kernel), quietPort_of (by decide +kernel), by decide +kernel⟩

/-! ## The hypotheses of PairLink are met -/

theorem witness_PairLink_1 : ∃ (s : State),
    s.pairShelf = true ∧ s.pair.conflict = false ∧ s.jnl.phase ≠ .held ∧ s.pair.heard = true ∧ s.pair.moves = [] :=
  ⟨shelf 2 [] { active := true, heard := true },
   by decide +kernel⟩

theorem witness_PairLink_2 : ∃ (s : State),
    s.pairShelf = true ∧ s.pair.conflict = false ∧ s.dumping = false ∧ s.pair.heard = false ∧ s.pair.moves = [] ∧ s.pair.active = true ∧ s.get
      PAIR_STATUS_missed = 2 ∧ s.get PAIR_STATUS_state ≠ 4 ∧ s.flag PAIR_STATUS_partner_alive = true :=
  ⟨shelf 2 [(PAIR_STATUS_missed, 0, 2), (PAIR_STATUS_partner_alive, 0, 1)] { active := true },
   by decide +kernel⟩

theorem witness_PairLink_3 : ∃ (s : State) (l : Nat) (h : Heartbeat),
    s.pairShelf = true ∧ h.bayB ≠ s.bayB ∧ h.proto = s.boot.proto ∧ s.pair.active = true ∧ h.formation = s.pair.formation :=
  ⟨shelf 2 [] { active := true, formation := 3 },
   0,
   beat true 3,
   by decide +kernel⟩

theorem witness_PairLink_4 : ∃ (s : State) (l : Nat) (h : Heartbeat),
    s.pairShelf = true ∧ s.bayB = false ∧ h.bayB = true ∧ h.proto = s.boot.proto ∧ s.pair.active = false ∧ s.pair.conflict = false ∧ s.dumping =
      false ∧ s.get PAIR_STATUS_state = 1 ∧ h.poolId = s.str.poolId ∧ h.formation = 0 :=
  ⟨shelf 1,
   0,
   beat true 0,
   by decide +kernel⟩

theorem witness_PairLink_5 : ∃ (s : State) (l : Nat) (h : Heartbeat),
    s.pairShelf = true ∧ h.bayB = s.bayB ∧ s.pair.conflict = false :=
  ⟨shelf 1,
   0,
   beat false 0,
   by decide +kernel⟩

theorem witness_PairLink_7 : ∃ (s : State),
    s.get PAIR_STATUS_state ≠ 4 :=
  ⟨shelf 2,
   by decide +kernel⟩

theorem witness_PairLink_9 : ∃ (s : State),
    s.get PAIR_STATUS_state = 4 ∧ s.isMaster = false ∧ s.get PAIR_CFG_split_yield_s ≠ 0 ∧ s.jnl.phase = .idle :=
  ⟨shelf 4 [(PAIR_CFG_split_yield_s, 0, 5)],
   by decide +kernel⟩

theorem witness_PairLink_10 : ∃ (s : State) (l : Nat) (a : Nat),
    s.pair.active = true :=
  ⟨shelf 2 [] { active := true, formation := 3, kept := [(4, .mirrorAck 3 4), (9, .mirrorAck 3 4)] },
   0,
   6,
   by decide +kernel⟩

theorem witness_PairLink_11 : ∃ (s : State),
    s.pair.active = true ∧ s.pair.unacked ≠ 0 :=
  ⟨shelf 2 [] { active := true, unacked := 3 },
   by decide +kernel⟩

theorem witness_PairLink_12 : ∃ (s : State),
    s.pair.active = true ∧ (s.pair.kept.map (·.1)).Nodup :=
  ⟨shelf 2 [(PAIR_STATUS_links, 0, 3)] { active := true, kept := [(4, .mirrorAck 3 4)] },
   by decide +kernel⟩

theorem witness_PairLink_13 : ∃ (s : State) (l : Nat),
    l < 2 :=
  ⟨shelf 2 [(PAIR_STATUS_links, 0, 3)],
   1,
   by decide +kernel⟩

theorem witness_PairLink_14 : ∃ (s : State),
    s.pairShelf = true ∧ s.pair.active = false ∧ s.get PAIR_STATUS_state = 1 ∧ s.jnl.awaiting = [] ∧ s.dumping = false ∧ s.flag
      PAIR_STATUS_partner_alive = true :=
  ⟨shelf 1 [(PAIR_STATUS_partner_alive, 0, 1)],
   by decide +kernel⟩

theorem witness_PairLink_15 : ∃ (s : State),
    s.get PAIR_STATUS_state = 2 :=
  ⟨paired,
   by decide +kernel⟩

theorem witness_PairLink_16 : ∃ (s : State),
    s.get PAIR_STATUS_state = 0 :=
  ⟨State.reset,
   by decide +kernel⟩

/-! ## The hypotheses of Takeover are met -/

theorem witness_Takeover_1 : ∃ (s : State),
    s.get PAIR_STATUS_state = 4 ∧ secTicks 1 ≤ s.since s.pair.lastHb ∧ s.dumping = false :=
  ⟨{ shelf 4 with dtc := 2000000000 },
   by decide +kernel⟩

theorem witness_Takeover_2 : ∃ (s : State),
    s.get PAIR_STATUS_state ≠ 4 :=
  ⟨paired,
   by decide +kernel⟩

theorem witness_Takeover_3 : ∃ (s : State),
    s.pairShelf = true ∧ s.pair.conflict = false ∧ s.dumping = false ∧ s.pair.heard = false ∧ s.pair.moves = [] ∧ s.pair.active = true ∧ s.get
      PAIR_STATUS_missed = 2 ∧ s.flag PAIR_STATUS_partner_alive = false ∧ s.pair.aliveBad = false :=
  ⟨shelf 2 [(PAIR_STATUS_missed, 0, 2)] { active := true },
   by decide +kernel⟩

/-! ## The hypotheses of PairRequests are met -/

theorem witness_PairRequests_1 : ∃ (s : State) (h : PairHdr) (o : Nat) (ns : Nat) (lba : Nat) (seg : Nat) (off : Nat) (k : Bool),
    InSequence s h ∧ s.isMaster = true ∧ s.appendWaits (.mapSet ns lba 1 seg off k) = false ∧ s.mirrored = true ∧ s.lookup ns lba = .unmapped ∧
      seg ≠ 0xFFFFFF :=
  ⟨paired [(PAIR_STATUS_master, 0, 1), (JNL_NEVE_STATUS_pair_state, 0, 1)],
   hdr6,
   0,
   0,
   9,
   3,
   8,
   true,
   inSequence_of (by decide +kernel), by decide +kernel⟩

theorem witness_PairRequests_2 : ∃ (s : State) (h : PairHdr) (i : Nat) (g : Nat) (n : Ns),
    InSequence s h ∧ s.ns i = some n :=
  ⟨withNs nsFor paired,
   hdr6,
   0,
   5,
   nsFor,
   inSequence_of (by decide +kernel), by decide +kernel⟩

theorem witness_PairRequests_3 : ∃ (s : State) (h : PairHdr) (d : HeadId) (l : List (Nat × Seg)),
    InSequence s h ∧ s.str.cold = [] :=
  ⟨paired,
   hdr6,
   .host 2,
   [(3, seg0)],
   inSequence_of (by decide +kernel), by decide +kernel⟩

theorem witness_PairRequests_4 : ∃ (s : State) (h : PairHdr) (f : FwdCmd) (n : Ns),
    InSequence s h ∧ s.ns f.ns = some n ∧ s.owned n = true ∧ tgetD s.nsm.pending (f.owner, f.ns) 0 = 0 ∧ s.readyCheck n (fwdSqe f (nsidOf f.ns
      n)) = none ∧ f.opcode ≠ 1 ∧ f.opcode ≠ 0x19 ∧ s.cmd s.qpe.nextCmd = none :=
  ⟨withNs nsFor paired,
   hdr6,
   fwdRead,
   nsFor,
   inSequence_of (by decide +kernel), by decide +kernel⟩

theorem witness_PairRequests_5 : ∃ (s : State) (h : PairHdr) (id : Nat) (b : Nat) (k : Nat) (c : Nat) (g : Bool) (v : Block) (x : Cmd),
    InSequence s h ∧ s.qpe.cmds.find? (fun e => e.2.remote = some id && e.2.sqe.opcode = 1 && e.2.phase != .done) = some (c, x) ∧ s.cmd c = some
      x ∧ x.begun = false :=
  ⟨{ withNs nsFor paired with qpe := { State.reset.qpe with cmds := [(7, remoteWrite)] } },
   hdr6,
   11,
   0,
   0,
   7,
   true,
   5,
   remoteWrite,
   inSequence_of (by decide +kernel), by decide +kernel⟩

theorem witness_PairRequests_6 : ∃ (s : State) (h : PairHdr) (c : Nat) (st : Status) (a : Word32) (b : Word32) (x : Cmd) (q : Qp),
    InSequence s h ∧ Running s c x q ∧ x.forwarded = true ∧ x.phase = .started ∧ x.fwdLeft = 0 ∧ x.sqe.opcode ≠ 2 :=
  ⟨{ withCmd (qpFor (.net 99) false) { cmdFor 1 with forwarded := true, phase := .started } with pair := inSeq.pair },
   hdr6,
   7,
   ⟨0, 0, false⟩,
   0,
   0,
   { cmdFor 1 with forwarded := true, phase := .started },
   qpFor (.net 99) false,
   inSequence_of (by decide +kernel), running_of (by decide +kernel), by decide +kernel⟩

theorem witness_PairRequests_7 : ∃ (s : State) (h : PairHdr) (x : Nat) (c : ChanState),
    InSequence s h ∧ c.state = 4 :=
  ⟨paired,
   hdr6,
   5,
   ⟨4, 0, 3⟩,
   inSequence_of (by decide +kernel), by decide +kernel⟩

theorem witness_PairRequests_8 : ∃ (s : State) (h : PairHdr) (x : Nat),
    InSequence s h ∧ (s.slot x).leaving = true :=
  ⟨{ paired with slt := { State.reset.slt with slots := [(5, { gate := true, leaving := true })] } },
   hdr6,
   5,
   inSequence_of (by decide +kernel), by decide +kernel⟩

theorem witness_PairRequests_9 : ∃ (s : State) (h : PairHdr) (x : Nat) (c : ChanState),
    InSequence s h ∧ s.slotOwner x = false ∧ c.state < 8 ∧ c.retries < 8 :=
  ⟨paired,
   hdr6,
   5,
   ⟨4, 0, 3⟩,
   inSequence_of (by decide +kernel), by decide +kernel⟩

theorem witness_PairRequests_10 : ∃ (s : State) (h : PairHdr) (x : Nat) (r : Nat),
    InSequence s h ∧ r < 4 :=
  ⟨paired,
   hdr6,
   5,
   2,
   inSequence_of (by decide +kernel), by decide +kernel⟩

theorem witness_PairRequests_11 : ∃ (s : State) (i : Nat) (n : Ns),
    s.get PAIR_STATUS_state = 2 ∧ s.pair.moves = [] ∧ s.ns i = some n ∧ s.owned n = true ∧ n.state = .active ∧ s.nsQuiet i = true :=
  ⟨withNs nsFor paired,
   0,
   nsFor,
   by decide +kernel⟩

theorem witness_PairRequests_12 : ∃ (s : State) (i : Nat),
    ((∀ n, s.ns i = some n → s.owned n = false)) :=
  ⟨paired,
   0,
   by decide +kernel⟩

theorem witness_PairRequests_13 : ∃ (s : State),
    s.get PAIR_STATUS_state = 2 ∧ s.pair.moves = [] ∧ s.returnable ≠ [] :=
  ⟨withNs { nsFor with creator := 1 } { paired with pair := { inSeq.pair with partner := some (beat true 3) } },
   by decide +kernel⟩

/-! ## The hypotheses of SlotPowerUp are met -/

theorem witness_SlotPowerUp_1 : ∃ (s : State) (x : Nat),
    x < 32 ∧ s.slotOwner x = true ∧ s.flag SLT_CH_STATUS_present x = false ∧ s.flag SLT_CH_CFG_auto_on x = true ∧ s.slt.enabled = true ∧
      s.slt.dumped = false ∧ (s.slot x).barred = false ∧ (s.slot x).cycling = false :=
  ⟨slot5 [(SLT_CH_CFG_auto_on, 5, 1)],
   5,
   by decide +kernel⟩

theorem witness_SlotPowerUp_2 : ∃ (s : State) (x : Nat),
    x < 32 ∧ s.slotOwner x = true ∧ s.flag SLT_CH_STATUS_present x = false :=
  ⟨slot5 [],
   5,
   by decide +kernel⟩

theorem witness_SlotPowerUp_3 : ∃ (s : State) (x : Nat),
    QuietPort s x ∧ s.slotOwner x = true ∧ s.flag SLT_CH_STATUS_present x = true ∧ s.get REB_MEMBER_state x = 0 :=
  ⟨slotOn,
   5,
   quietPort_of (by decide +kernel), by decide +kernel⟩

theorem witness_SlotPowerUp_4 : ∃ (s : State) (x : Nat),
    x < 32 ∧ s.autoPower x = true :=
  ⟨slotOff,
   5,
   by decide +kernel⟩

theorem witness_SlotPowerUp_5 : ∃ (s : State) (x : Nat) (m : SlotSense),
    x < 32 ∧ s.chRuns x = true ∧ (s.slot x).step = 1 ∧ 3000 ≤ m.v3 :=
  ⟨powering 1,
   5,
   sense0,
   by decide +kernel⟩

theorem witness_SlotPowerUp_6 : ∃ (s : State) (x : Nat) (m : SlotSense),
    QuietPort s x ∧ s.chRuns x = true ∧ (s.slot x).step = 1 ∧ m.v3 < 3000 ∧ 0 < s.get SLT_CH_STATUS_retries_left x :=
  ⟨powering 1,
   5,
   { sense0 with v3 := 2999 },
   quietPort_of (by decide +kernel), by decide +kernel⟩

theorem witness_SlotPowerUp_7 : ∃ (s : State) (x : Nat) (m : SlotSense),
    x < 32 ∧ s.chRuns x = true ∧ (s.slot x).step = 2 :=
  ⟨powering 2,
   5,
   sense0,
   by decide +kernel⟩

theorem witness_SlotPowerUp_8 : ∃ (s : State) (x : Nat) (m : SlotSense),
    x < 32 ∧ s.chRuns x = true ∧ 2 ≤ (s.slot x).step ∧ s.flag SLT_CH_STATUS_pg x = false ∧ 11400 ≤ m.vOut ∧ (s.slot x).fault = 0 :=
  ⟨powering 3,
   5,
   { sense0 with vOut := 11400 },
   by decide +kernel⟩

theorem witness_SlotPowerUp_9 : ∃ (s : State) (x : Nat),
    x < 32 ∧ s.flag SLT_CH_STATUS_pg x = true ∧ s.flag SLT_CH_STATUS_perst_rel x = false :=
  ⟨slotOn,
   5,
   by decide +kernel⟩

theorem witness_SlotPowerUp_10 : ∃ (s : State) (x : Nat),
    x < 32 ∧ s.flag SLT_CMD_busy = false ∧ s.slotOwner x = true ∧ s.get SLT_CH_STATUS_state x = 2 ∧ s.slt.dumped = false :=
  ⟨slotOff,
   5,
   by decide +kernel⟩

theorem witness_SlotPowerUp_11 : ∃ (s : State) (x : Nat),
    x < 32 ∧ s.flag SLT_CMD_busy = false ∧ s.slotOwner x = false ∧ s.pair.active = false :=
  ⟨State.reset,
   5,
   by decide +kernel⟩

theorem witness_SlotPowerUp_12 : ∃ (s : State) (x : Nat),
    QuietPort s x ∧ s.flag SLT_CMD_busy = false ∧ s.slotOwner x = true ∧ s.get SLT_CH_STATUS_state x = 4 :=
  ⟨slotOn,
   5,
   quietPort_of (by decide +kernel), by decide +kernel⟩

theorem witness_SlotPowerUp_13 : ∃ (s : State) (x : Nat),
    QuietPort s x ∧ s.flag SLT_CMD_busy = false ∧ s.slotOwner x = true ∧ s.get SLT_CH_STATUS_state x = 4 ∧ s.slt.dumped = false :=
  ⟨slotOn,
   5,
   quietPort_of (by decide +kernel), by decide +kernel⟩

theorem witness_SlotPowerUp_14 : ∃ (s : State) (x : Nat),
    x < 32 ∧ s.flag SLT_CMD_busy = false ∧ s.slotOwner x = true :=
  ⟨slotOn,
   5,
   by decide +kernel⟩

theorem witness_SlotPowerUp_15 : ∃ (s : State) (x : Nat),
    x < 32 ∧ s.flag SLT_CMD_busy = false ∧ s.slotOwner x = true :=
  ⟨slotOn,
   5,
   by decide +kernel⟩

theorem witness_SlotPowerUp_16 : ∃ (s : State) (x : Nat),
    x < 32 ∧ s.slotOwner x = true ∧ s.chRuns x = false :=
  ⟨slotOff,
   5,
   by decide +kernel⟩

theorem witness_SlotPowerUp_17 : ∃ (s : State) (x : Nat),
    x < 32 ∧ s.slotOwner x = true ∧ (s.slot x).cycling = true ∧ s.get SLT_CH_STATUS_state x = 2 ∧ s.slt.dumped = false :=
  ⟨slotOff { cycling := true },
   5,
   by decide +kernel⟩

/-! ## The hypotheses of SlotTripsAndRetries are met -/

theorem witness_SlotTripsAndRetries_1 : ∃ (s : State) (x : Nat) (m : SlotSense),
    QuietPort s x ∧ s.chRuns x = true ∧ s.flag SLT_CH_STATUS_pg x = true ∧ m.vOut < 10800 ∧ 0 < s.get SLT_CH_STATUS_retries_left x :=
  ⟨slotOn,
   5,
   { sense0 with vOut := 10799 },
   quietPort_of (by decide +kernel), by decide +kernel⟩

theorem witness_SlotTripsAndRetries_2 : ∃ (s : State) (x : Nat) (m : SlotSense),
    QuietPort s x ∧ s.chRuns x = true ∧ s.reachesLim x 2 m.cur = true ∧ s.get SLT_CH_STATUS_retries_left x = 0 ∧ s.get REB_MEMBER_state x = 0 :=
  ⟨slotOn [(SLT_CH_STATUS_retries_left, 5, 0)],
   5,
   { sense0 with cur := 20000 },
   quietPort_of (by decide +kernel), by decide +kernel⟩

theorem witness_SlotTripsAndRetries_3 : ∃ (s : State) (x : Nat) (m : SlotSense),
    QuietPort s x ∧ s.chRuns x = true ∧ (s.slot x).gate = true ∧ 0 < s.get SLT_CH_STATUS_retries_left x :=
  ⟨slotOn,
   5,
   sense0,
   quietPort_of (by decide +kernel), by decide +kernel⟩

theorem witness_SlotTripsAndRetries_4 : ∃ (s : State) (x : Nat) (m : SlotSense),
    QuietPort s x ∧ s.chRuns x = true ∧ 0 < s.get SLT_CH_STATUS_retries_left x :=
  ⟨slotOn,
   5,
   sense0,
   quietPort_of (by decide +kernel), by decide +kernel⟩

theorem witness_SlotTripsAndRetries_5 : ∃ (s : State) (x : Nat) (m : SlotSense),
    x < 32 ∧ s.slotOwner x = true ∧ (s.slot x).warned = false :=
  ⟨slotOn,
   5,
   sense0,
   by decide +kernel⟩

theorem witness_SlotTripsAndRetries_6 : ∃ (s : State) (x : Nat),
    x < 32 ∧ (s.slot x).hot = true ∧ (s.slot x).waited = true ∧ s.get SLT_CH_STATUS_state x = 5 ∧ s.slt.dumped = false ∧ 0 < s.get
      SLT_CH_STATUS_retries_left x :=
  ⟨retrying { hot := true, waited := true },
   5,
   by decide +kernel⟩

theorem witness_SlotTripsAndRetries_7 : ∃ (s : State) (x : Nat),
    x < 32 ∧ s.slotOwner x = true ∧ s.get SLT_CH_STATUS_state x = 5 ∧ s.slt.dumped = false ∧ (s.slot x).hot = false ∧ (s.slot x).lowWait = false
      :=
  ⟨retrying,
   5,
   by decide +kernel⟩

theorem witness_SlotTripsAndRetries_8 : ∃ (s : State) (x : Nat),
    x < 32 ∧ s.slotOwner x = true ∧ s.get SLT_CH_STATUS_state x = 5 ∧ s.slt.dumped = false ∧ (s.slot x).hot = true :=
  ⟨retrying { hot := true },
   5,
   by decide +kernel⟩

theorem witness_SlotTripsAndRetries_9 : ∃ (s : State) (x : Nat),
    x < 32 ∧ s.slotOwner x = true ∧ s.flag SLT_CH_STATUS_pg x = true :=
  ⟨slotOn,
   5,
   by decide +kernel⟩

theorem witness_SlotTripsAndRetries_10 : ∃ (s : State) (mv : Nat),
    mv < 10800 ∧ s.flag SLT_SUPPLY_STATUS_low = false :=
  ⟨State.reset,
   10799,
   by decide +kernel⟩

theorem witness_SlotTripsAndRetries_11 : ∃ (s : State) (mv : Nat),
    11400 ≤ mv :=
  ⟨State.reset,
   11400,
   by decide +kernel⟩

theorem witness_SlotTripsAndRetries_12 : ∃ (s : State) (x : Nat) (a : Nat),
    x < 32 ∧ 10 * s.pLim x < a ∧ (s.slot x).overRaised = false :=
  ⟨slotOn,
   5,
   401,
   by decide +kernel⟩

/-! ## The hypotheses of SwitchCore are met -/

theorem witness_SwitchCore_1 : ∃ (s : State) (b : State) (f : Frame) (x : FrameHkt),
    ((if f.port = 32 ∨ f.port = 33 then s.linkAlive (f.port - 32) else s) = b) ∧ f.pair = false ∧ b.portUp f.port = true ∧ f.bad43 = false ∧
      b.frameHkt f = some x ∧ b.flag FWD_PORT_CFG_learn_en f.port = false ∧ ((∀ m, m < 4 → b.mirrorOn m = false)) ∧ x.dst.toNat / 2 ^ 18 =
      b.moduleId ∧ x.opcode ≠ 11 ∧ b.pfcOn f.port (b.frameClass f) = false ∧ b.admits f (reserveCells f) (b.frameClass f) false (36 +
      groupOf x.src) = true :=
  ⟨portUp1,
   portUp1,
   hktFrame,
   hktHead,
   rfl, by decide +kernel⟩

theorem witness_SwitchCore_2 : ∃ (s : State) (id : Nat) (len : Nat) (x : SwcFrame) (c : SwcCopy),
    tget s.swc.frames id = some x ∧ x.tail = none ∧ x.copies = [c] ∧ c.left = false ∧ c.trunc = 0 :=
  ⟨inSwitch,
   4,
   200,
   frame0,
   copy0,
   by decide +kernel⟩

theorem witness_SwitchCore_3 : ∃ (s : State) (id : Nat) (len : Nat) (x : SwcFrame) (c : SwcCopy),
    tget s.swc.frames id = some x ∧ x.tail = none ∧ x.copies = [c] ∧ c.left = false ∧ c.toCross ≠ 0 ∧ cellsOf len ≤ x.cells.length ∧ len ≤ 9216
      :=
  ⟨inSwitch,
   4,
   200,
   frame0,
   copy0,
   by decide +kernel⟩

theorem witness_SwitchCore_4 : ∃ (s : State) (i : Nat) (j : Nat) (v : VoqCell) (x : SwcFrame) (c : SwcCopy),
    i < 19 ∧ j < 19 ∧ s.swc.voq = [((i, j), [v])] ∧ tget s.swc.frames v.frame = some x ∧ x.copies = [c] ∧ c.dst = v.dst ∧ c.mirror = v.mirror ∧
      c.stamp = none ∧ x.tail = none ∧ v.dst < 34 :=
  ⟨inSwitch,
   0,
   1,
   ⟨4, 3, none⟩,
   frame0,
   copy0,
   by decide +kernel⟩

theorem witness_SwitchCore_5 : ∃ (s : State) (i : Nat) (u : CellUse),
    s.swc.cells = [(i, u)] ∧ s.swc.stage = [] ∧ u.onFree = false ∧ u.refs = 0 ∧ u.leaked = true ∧ u.sweep < s.get SWC_MORAINE_STATUS_sweeps ∧
      s.flag SWC_MORAINE_CFG_repair_en = true :=
  ⟨{ regs [(SWC_MORAINE_CFG_repair_en, 0, 1), (SWC_MORAINE_STATUS_sweeps, 0, 4)] with swc := { State.reset.swc with cells := [(7, { refs := 0, rc := 1, sweep := 2, leaked := true })] } },
   7,
   { refs := 0, rc := 1, sweep := 2, leaked := true },
   by decide +kernel⟩

theorem witness_SwitchCore_6 : ∃ (s : State),
    s.swc.frames = [] :=
  ⟨State.reset,
   by decide +kernel⟩

theorem witness_SwitchCore_7 : ∃ (s : State) (p : Nat),
    (p = 32 ∨ p = 33) ∧ s.swc.frames = [] :=
  ⟨regs [(PAIR_STATUS_links, 0, 3)],
   33,
   by decide +kernel⟩

theorem witness_SwitchCore_8 : ∃ (s : State) (p : Nat),
    p < 32 ∧ s.flag FWD_PORT_CFG_cluster p = false ∧ s.flag FWD_PORT_CFG_flush_down p = true :=
  ⟨regs [(FWD_PORT_CFG_flush_down, 3, 1)],
   3,
   by decide +kernel⟩

theorem witness_SwitchCore_9 : ∃ (s : State) (p : Nat) (v : Nat),
    s.portsOpen = true ∧ s.cageSpeed p = some v ∧ s.portHeld p = false ∧ s.flag MAC_PORT_STATUS_up p = false ∧ s.flag FWD_PORT_CFG_cluster p =
      false :=
  ⟨regs [(BOOT_STATUS_stage, 0, 8), (MAC_PORT_CFG_en, 4, 1), (MAC_PORT_CFG_mac, 4, 0x20000000001)],
   4,
   4,
   by decide +kernel⟩

/-! ## The hypotheses of ForwardingTables are met -/

theorem witness_ForwardingTables_1 : ∃ (s : State) (m : LearnMsg) (rest : List LearnMsg),
    tgetD s.fwd.learn s.fwd.turn [] = m :: rest ∧ (s.ftab m.table).slots = [] ∧ (s.ftab m.table).stash = [] :=
  ⟨{ State.reset with fwd := { learn := [(0, [⟨1, macEntry⟩])] } },
   ⟨1, macEntry⟩,
   [],
   by decide +kernel⟩

theorem witness_ForwardingTables_2 : ∃ (s : State) (k : Nat) (m : HitMsg) (rest : List HitMsg) (p : Nat × Nat) (e : BitVec 128),
    tgetD s.fwd.hits k [] = m :: rest ∧ (s.ftab m.table).slots = [(p, e)] ∧ (s.ftab m.table).stash = [] ∧ eKey e = m.key ∧ (eBank e = 1) =
      m.bank ∧ eStatic e = false :=
  ⟨table1 1 [macEntry] [] { hits := [(0, [⟨1, eKey macEntry, false⟩])] },
   0,
   ⟨1, eKey macEntry, false⟩,
   [],
   (5, 0),
   macEntry,
   by decide +kernel⟩

theorem witness_ForwardingTables_3 : ∃ (s : State) (p : Nat × Nat) (e : BitVec 128),
    s.get FWD_AGE_CFG_sweep_s ≠ 0 ∧ (s.ftab 0).slots = [(p, e)] ∧ (s.ftab 0).stash = [] ∧ eStatic e = false ∧ eKind e ≠ 3 :=
  ⟨table1 0 [mkEid 99 3 7] [(FWD_AGE_CFG_sweep_s, 0, 60)],
   (5, 0),
   mkEid 99 3 7,
   by decide +kernel⟩

theorem witness_ForwardingTables_4 : ∃ (s : State),
    s.get FWD_AGE_CFG_sweep_s = 0 :=
  ⟨regs [(FWD_AGE_CFG_sweep_s, 0, 0)],
   by decide +kernel⟩

theorem witness_ForwardingTables_5 : ∃ (s : State) (k : Nat),
    k < 2 ∧ s.rehashing k = true ∧ s.get FWD_LEARN_CFG_stash_hi ≠ 0 ∧ (s.ftab k).slots = [] ∧ (s.ftab k).stash = [] :=
  ⟨regs [(FWD_TABLE_state, 1, 1), (FWD_LEARN_CFG_stash_hi, 0, 8)],
   1,
   by decide +kernel⟩

theorem witness_ForwardingTables_6 : ∃ (s : State) (k : Nat),
    k < 2 ∧ s.get FWD_TABLE_state k = 2 ∧ s.get FWD_LEARN_CFG_stash_hi ≠ 0 ∧ (s.ftab k).slots = [] ∧ (s.ftab k).stash = [] :=
  ⟨regs [(FWD_TABLE_state, 1, 2), (FWD_LEARN_CFG_stash_hi, 0, 8)],
   1,
   by decide +kernel⟩

theorem witness_ForwardingTables_7 : ∃ (s : State) (k : Nat),
    k < 2 ∧ fwdValid k s.fwdOperand = true ∧ (s.ftab k).slots = [] ∧ (s.ftab k).stash = [] :=
  ⟨regs (operand macEntry),
   1,
   by decide +kernel⟩

theorem witness_ForwardingTables_8 : ∃ (s : State) (k : Nat),
    k < 2 ∧ fwdValid k s.fwdOperand = false :=
  ⟨regs (operand (mkNs 5 0 0 0)),
   1,
   by decide +kernel⟩

theorem witness_ForwardingTables_9 : ∃ (s : State) (k : Nat) (e : BitVec 128),
    k < 2 ∧ s.fwdFind k (eKey s.fwdOperand) = some e :=
  ⟨found1 (operand macEntry),
   1,
   macEntry,
   by decide +kernel⟩

theorem witness_ForwardingTables_10 : ∃ (s : State) (k : Nat),
    k < 2 ∧ s.fwdFind k (eKey s.fwdOperand) = none :=
  ⟨regs (operand macEntry),
   1,
   by decide +kernel⟩

theorem witness_ForwardingTables_11 : ∃ (s : State) (k : Nat) (e : BitVec 128),
    k < 2 ∧ s.fwdFind k (eKey s.fwdOperand) = some e :=
  ⟨found1 (operand macEntry),
   1,
   macEntry,
   by decide +kernel⟩

theorem witness_ForwardingTables_12 : ∃ (s : State) (k : Nat) (p : Nat),
    k < 2 ∧ p < 64 :=
  ⟨found1 (operand macEntry),
   1,
   3,
   by decide +kernel⟩

theorem witness_ForwardingTables_13 : ∃ (s : State) (k : Nat),
    k < 2 ∧ s.rehashing k = false :=
  ⟨State.reset,
   1,
   by decide +kernel⟩

theorem witness_ForwardingTables_14 : ∃ (s : State) (k : Nat) (i : Nat),
    k < 2 ∧ s.rehashing k = false ∧ s.flag FWD_TABLE_req k = true ∧ ix2 2 k (1 - s.get FWD_TABLE_active k) = i :=
  ⟨regs [(FWD_TABLE_req, 1, 1)],
   1,
   3,
   by decide +kernel⟩

theorem witness_ForwardingTables_15 : ∃ (s : State) (k : Nat),
    k < 2 ∧ s.rehashing k = true :=
  ⟨regs [(FWD_TABLE_state, 1, 1)],
   1,
   by decide +kernel⟩

/-! ## The hypotheses of LearnRecords are met -/

theorem witness_LearnRecords_1 : ∃ (s : State) (b : State) (h : HktHdr) (g : Ingress) (mac : Nat) (hop : Nat) (q : Word32) (l : List ModRec)
    (r : ModRec),
    s.rxAdmit 11 ⟨{ h with opcode := 11 }, .learnMod hop q l, g⟩ = (b, true) ∧ s.modRecs ⟨{ h with opcode := 11 }, .learnMod hop q l, g⟩ l = [r]
      ∧ hop ≠ 0 ∧ b.flag FWD_LEARN_CFG_learn_mod_en = true ∧ r.moduleId ≠ b.moduleId ∧ r.hops < 15 ∧ r.withdraw = false ∧ (b.ftab 0).slots =
      [] ∧ (b.ftab 0).stash = [] :=
  ⟨learnOn,
   (learnOn.rxAdmit 11 ⟨{ learnHdr with opcode := 11 }, .learnMod 4 7 [modRec], ing0⟩).1,
   learnHdr,
   ing0,
   0x20000000002,
   4,
   7,
   [modRec],
   modRec,
   Prod.ext rfl (by decide +kernel), by decide +kernel⟩

theorem witness_LearnRecords_2 : ∃ (s : State),
    s.flag FWD_LEARN_CFG_learn_mod_en = true :=
  ⟨learnOn,
   by decide +kernel⟩

theorem witness_LearnRecords_3 : ∃ (s : State),
    s.flag FWD_LEARN_CFG_learn_mod_en = false :=
  ⟨regs [(FWD_LEARN_CFG_learn_mod_en, 0, 0)],
   by decide +kernel⟩

theorem witness_LearnRecords_4 : ∃ (s : State) (b : State) (p : HktPkt) (hop : Nat) (q : Word32) (l : List LocRec) (r : LocRec),
    s.rxAdmit 11 p = (b, true) ∧ s.locRecs p l = [r] ∧ hop ≠ 0 ∧ r.withdraw = false ∧ (b.ftab 0).slots = [] ∧ (b.ftab 0).stash = [] ∧ b.get
      PAIR_LOC_CFG_ns_loc_max ≠ 0 :=
  ⟨learnOn,
   (learnOn.rxAdmit 11 ⟨learnHdr, .learnLoc 4 7 [locRec0], ing0⟩).1,
   ⟨learnHdr, .learnLoc 4 7 [locRec0], ing0⟩,
   4,
   7,
   [locRec0],
   locRec0,
   Prod.ext rfl (by decide +kernel), by decide +kernel⟩

theorem witness_LearnRecords_6 : ∃ (s : State) (p : Nat) (o : LearnOut),
    s.fwd.outQueue.find? (fun x => x.port = p) = some o ∧ s.learnReady p = true :=
  ⟨{ State.reset with fwd := { outQueue := [⟨3, 4, 7, some locRec0, none⟩] } },
   3,
   ⟨3, 4, 7, some locRec0, none⟩,
   by decide +kernel⟩

/-! ## The hypotheses of HostPort are met -/

theorem witness_HostPort_1 : ∃ (s : State) (q : Nat),
    s.flag HIF_CTRL_en = false ∧ s.flag HIF_CTRL_STATUS_rdy = false ∧ s.functionsOn = true ∧ s.get HIF_AQA_asqs ≠ 0 ∧ s.get HIF_AQA_acqs ≠ 0 ∧
      firstFree s.qpe.qps (s.qpe.qps.length + 1) 0 = some q :=
  ⟨regs [(BOOT_STATUS_stage, 0, 8), (HIF_AQA_asqs, 0, 1), (HIF_AQA_acqs, 0, 4095)],
   0,
   by decide +kernel⟩

theorem witness_HostPort_2 : ∃ (s : State),
    s.flag HIF_CTRL_en = false ∧ (s.flag HIF_CTRL_STATUS_rdy = true ∨ (s.functionsOn = true ∧ (s.get HIF_AQA_asqs = 0 ∨ s.get HIF_AQA_acqs =
      0))) :=
  ⟨regs [(BOOT_STATUS_stage, 0, 8), (HIF_AQA_acqs, 0, 4095)],
   by decide +kernel⟩

theorem witness_HostPort_3 : ∃ (s : State),
    s.flag HIF_CTRL_en = false ∧ s.flag HIF_CTRL_STATUS_rdy = false ∧ s.functionsOn = false :=
  ⟨State.reset,
   by decide +kernel⟩

theorem witness_HostPort_4 : ∃ (s : State),
    s.flag HIF_CTRL_en = true ∧ s.qpsOf .fn = [] :=
  ⟨regs [(HIF_CTRL_en, 0, 1)],
   by decide +kernel⟩

theorem witness_HostPort_5 : ∃ (s : State),
    s.hif.disabling = true ∧ s.ownerQuiet .fn = true :=
  ⟨{ regs [(HIF_CTRL_STATUS_rdy, 0, 1)] with hif := { disabling := true } },
   by decide +kernel⟩

theorem witness_HostPort_6 : ∃ (s : State),
    s.ownerQuiet .fn = false :=
  ⟨withCmd (qpFor .fn true) (cmdFor 6),
   by decide +kernel⟩

theorem witness_HostPort_7 : ∃ (s : State) (e : Nat),
    e < 2 ∧ s.flag HIF_LINK_STATUS_bme e = true ∧ s.flag HIF_LINK_STATUS_d3 e = false :=
  ⟨{ linkUp with hif := { queue := [⟨.fn, .read (.sqe 0) 0 64, false⟩, ⟨.fn, .write 0 [1] none, false⟩], reads := [⟨.fn, .sqe 0, 0, 64, none⟩] } },
   0,
   by decide +kernel⟩

theorem witness_HostPort_8 : ∃ (s : State) (e : Nat),
    e < 2 ∧ s.flag HIF_LINK_STATUS_up e = true ∧ s.flag HIF_LINK_STATUS_d3 e = false ∧ s.flag HIF_LINK_STATUS_bme e = true ∧
      s.hif.inReset.contains e = false :=
  ⟨linkUp,
   0,
   by decide +kernel⟩

theorem witness_HostPort_9 : ∃ (s : State) (e : Nat),
    s.functionsOn = false :=
  ⟨State.reset,
   0,
   by decide +kernel⟩

theorem witness_HostPort_10 : ∃ (s : State) (e : Nat),
    e < 2 ∧ s.functionsOn = true ∧ s.flag HIF_LINK_STATUS_up e = true ∧ s.flag HIF_LINK_STATUS_bme e = false ∧ s.flag HIF_LINK_STATUS_d3 e =
      false ∧ s.hif.inReset.contains e = false ∧ s.qpe.cmds = [] ∧ s.qpe.qps = [] ∧ s.hif.queue = [] :=
  ⟨regs [(BOOT_STATUS_stage, 0, 8), (HIF_LINK_STATUS_up, 1, 1), (HIF_LINK_STATUS_grace, 1, 1)],
   1,
   by decide +kernel⟩

theorem witness_HostPort_11 : ∃ (s : State) (a : Nat) (d : List Byte),
    s.functionsOn = true ∧ s.flag HIF_LINK_STATUS_up 0 = true ∧ s.flag HIF_LINK_STATUS_bme 0 = false ∧ s.flag HIF_LINK_STATUS_d3 0 = false ∧
      s.hif.inReset.contains 0 = false ∧ s.qpe.cmds = [] ∧ s.qpe.qps = [] ∧ s.hif.ats = [] ∧ s.hif.queue =
      [{ owner := .fn, op := .write a d none }] :=
  ⟨{ regs [(BOOT_STATUS_stage, 0, 8), (HIF_LINK_STATUS_up, 0, 1)] with hif := { queue := [⟨.fn, .write 4096 [1, 2] none, false⟩] } },
   4096,
   [1, 2],
   by decide +kernel⟩

theorem witness_HostPort_12 : ∃ (s : State) (e : Nat) (c : Nat) (x : Cmd) (q : Qp),
    Running s c x q ∧ e < 2 ∧ tget s.hif.cutCmds e = some [c] ∧ q.admin = false ∧ x.sqe.opcode = 2 ∧ x.phase = .started ∧ x.begun = true ∧
      x.listing = false ∧ s.cmdData x ≠ 0 ∧ tget s.jnl.writes c = none :=
  ⟨{ withCmd (qpFor .fn false) { cmdFor 2 with phase := .started, begun := true, moved := 4096, ns := some 0, sqe := { opcode := 2, psdt := 0, cid := 1, cdw12 := 1 } } with hif := { cutCmds := [(0, [7])], queue := [⟨.fn, .write 4096 [1, 2] (some 7), false⟩] } },
   0,
   7,
   { cmdFor 2 with phase := .started, begun := true, moved := 4096, ns := some 0, sqe := { opcode := 2, psdt := 0, cid := 1, cdw12 := 1 } },
   qpFor .fn false,
   running_of (by decide +kernel), by decide +kernel⟩

theorem witness_HostPort_13 : ∃ (s : State) (kind : Nat),
    kind ≠ 1 ∧ s.flag HIF_LINK_STATUS_present 0 = true ∧ s.hif.inReset.contains 0 = false :=
  ⟨{ linkUp [(HIF_CTRL_en, 0, 1)] with qpe := { qps := [(0, qpFor .fn true)] }, hif := { windows := [(3, ⟨0, 4096, true, true, 3, 0⟩)] } },
   0,
   by decide +kernel⟩

theorem witness_HostPort_14 : ∃ (s : State) (e : Nat),
    s.hif.inReset.contains e = true ∧ s.hif.reads = [] ∧ tget s.hif.link e = none :=
  ⟨{ State.reset with hif := { inReset := [0, 1] } },
   1,
   by decide +kernel⟩

theorem witness_HostPort_15 : ∃ (s : State) (e : Nat) (v : Nat) (w : Nat) (f : Nat),
    s.hif.inReset.contains e = true ∧ s.hif.reads = [] ∧ tget s.hif.link e = some (v, w, f) ∧ e < 2 :=
  ⟨{ State.reset with hif := { inReset := [0, 1], link := [(1, (5, 8, 0))] } },
   1,
   5,
   8,
   0,
   by decide +kernel⟩

theorem witness_HostPort_16 : ∃ (s : State) (e : Nat) (r : HostRead),
    r ∈ s.hif.reads ∧ s.epOf r.owner = e :=
  ⟨{ State.reset with hif := { inReset := [0], reads := [⟨.fn, .sqe 0, 0, 64, none⟩] } },
   0,
   ⟨.fn, .sqe 0, 0, 64, none⟩,
   by decide +kernel⟩

theorem witness_HostPort_17 : ∃ (s : State) (l : Nat),
    s.flag HIF_LINK_STATUS_present l = true ∧ s.linkTrained l = true :=
  ⟨{ linkUp [(HIF_LINK_STATUS_width, 0, 16)] with hif := { inReset := [0] } },
   0,
   by decide +kernel⟩

theorem witness_HostPort_18 : ∃ (s : State) (e : Nat) (c : EpConfig),
    s.flag HIF_LINK_STATUS_present e = true ∧ s.hif.inReset.contains e = false :=
  ⟨{ linkUp with hif := { idt := { atsEn := true } } },
   0,
   ⟨6, 16, true, 2, 32, true, false⟩,
   by decide +kernel⟩

/-! ## The hypotheses of PeerWindowAndTranslations are met -/

theorem witness_PeerWindowAndTranslations_1 : ∃ (s : State) (off : Nat) (len : Nat) (i : Nat) (page : Nat) (a : Nat) (d : List Byte),
    s.Inv ∧ s.hif.idt.bar4Log2 ≠ 0 ∧ off + len ≤ 2 ^ s.hif.idt.bar4Log2 ∧ s.flag HIF_LINK_STATUS_up 0 = true ∧ s.peerTarget true off len = .inl
      (i, page, a) ∧ d.length = len :=
  ⟨{ linkUp with hif := { idt := { bar4Log2 := 20 }, windows := [(3, ⟨0, 1048576, true, true, 9, 1⟩)] }, hkt := { regions := [(9, { state := .valid, wr := true, basePage := 5, lenPages := 2 })] } },
   4094,
   2,
   9,
   5,
   8190,
   [0, 7],
   by show memWf _ = true; decide +kernel, by decide +kernel⟩

theorem witness_PeerWindowAndTranslations_2 : ∃ (s : State) (off : Nat) (len : Nat) (i : Nat) (page : Nat) (a : Nat) (d : List Byte),
    s.hif.idt.bar4Log2 ≠ 0 ∧ off + len ≤ 2 ^ s.hif.idt.bar4Log2 ∧ s.flag HIF_LINK_STATUS_up 0 = true ∧ s.peerTarget false off len = .inl (i,
      page, a) :=
  ⟨{ linkUp with hif := { idt := { bar4Log2 := 20 }, windows := [(3, ⟨0, 1048576, true, true, 9, 1⟩)] }, hkt := { regions := [(9, { state := .valid, rd := true, basePage := 5, lenPages := 2 })] } },
   4094,
   2,
   9,
   5,
   8190,
   [],
   by decide +kernel⟩

theorem witness_PeerWindowAndTranslations_3 : ∃ (s : State) (write : Bool) (off : Nat) (len : Nat) (k : Nat) (d : List Byte),
    s.hif.idt.bar4Log2 ≠ 0 ∧ off + len ≤ 2 ^ s.hif.idt.bar4Log2 ∧ s.flag HIF_LINK_STATUS_up 0 = true ∧ s.peerTarget write off len = .inr k :=
  ⟨{ linkUp with hif := { idt := { bar4Log2 := 20 }, windows := [(3, ⟨0, 1048576, true, true, 9, 1⟩)] }, hkt := { regions := [(9, { state := .valid, wr := true, basePage := 5, lenPages := 2 })] } },
   true,
   4095,
   2,
   3,
   [0, 7],
   by decide +kernel⟩

theorem witness_PeerWindowAndTranslations_5 : ∃ (s : State) (e : Nat) (tag : Nat) (page : Nat) (pages : Nat) (pasid : Option Nat),
    s.hif.ats.contains e = true ∧ s.hif.invals.length < 32 :=
  ⟨{ State.reset with hif := { ats := [0], cache := [⟨none, 5, 1, 7⟩, ⟨none, 6, 1, 8⟩] } },
   0,
   4,
   5,
   1,
   none,
   by decide +kernel⟩

theorem witness_PeerWindowAndTranslations_6 : ∃ (s : State) (e : Nat) (tag : Nat) (x : Inval),
    s.hif.invals.find? (fun y => y.ep = e && y.tag = tag) = some x ∧ s.hif.reads = [] :=
  ⟨{ State.reset with hif := { invals := [⟨0, 4, none, 5, 1⟩] } },
   0,
   4,
   ⟨0, 4, none, 5, 1⟩,
   by decide +kernel⟩

theorem witness_PeerWindowAndTranslations_7 : ∃ (s : State) (e : Nat) (tag : Nat) (x : Inval) (r : HostRead) (p : Nat),
    s.hif.invals.find? (fun y => y.ep = e && y.tag = tag) = some x ∧ r ∈ s.hif.reads ∧ r.under = some (x.pasid, p) ∧ x.page ≤ p ∧ p < x.page +
      x.pages :=
  ⟨{ State.reset with hif := { invals := [⟨0, 4, none, 5, 1⟩], reads := [⟨.fn, .sqe 0, 0, 64, some (none, 5)⟩] } },
   0,
   4,
   ⟨0, 4, none, 5, 1⟩,
   ⟨.fn, .sqe 0, 0, 64, some (none, 5)⟩,
   5,
   by decide +kernel⟩

theorem witness_PeerWindowAndTranslations_8 : ∃ (s : State) (e : Nat) (page : Nat) (pages : Nat) (base : Nat) (pasid : Option Nat),
    s.hif.asked.contains (atsKeyOf e pasid, page) = true ∧ s.hif.queue = [] ∧ s.hif.cache.length < 8192 ∧ 1 ≤ pages ∧ pages ≤ 262144 :=
  ⟨{ State.reset with hif := { asked := [(none, 5)] } },
   0,
   5,
   262144,
   9,
   none,
   by decide +kernel⟩

theorem witness_PeerWindowAndTranslations_9 : ∃ (s : State) (e : Nat) (v : Nat),
    s.hif.pendVec.contains (e, v) = true ∧ s.intMode e = 2 ∧ s.hif.queue = [] ∧ s.busOk (s.vectorOwner e v) = true :=
  ⟨{ linkUp [(HIF_LINK_STATUS_int_mode, 0, 2)] with hif := { pendVec := [(0, 3)] } },
   0,
   3,
   by decide +kernel⟩

theorem witness_PeerWindowAndTranslations_10 : ∃ (s : State) (e : Nat) (v : Nat),
    s.hif.pendVec.contains (e, v) = false :=
  ⟨State.reset,
   0,
   3,
   by decide +kernel⟩

/-! ## The hypotheses of SliceLife are met -/

theorem witness_SliceLife_1 : ∃ (s : State) (n : Nat) (p : Bool),
    s.flag SLC_CMD_busy = false ∧ s.slc.e1 ≠ some n ∧ s.get SLC_STATUS_state n = 0 ∧ s.slcBad n s.slcImage = false :=
  ⟨{ regs [(SLC_CMD_DATA_data, 0, 511 * 2 ^ 31 + 5 * 2 ^ 18 + 3 * 2 ^ 9)] with hif := { idt := { msixE0 := 8 } } },
   17,
   true,
   by decide +kernel⟩

theorem witness_SliceLife_2 : ∃ (s : State) (n : Nat) (p : Bool),
    s.flag SLC_CMD_busy = false ∧ s.slc.e1 ≠ some n ∧ s.get SLC_STATUS_state n = 0 ∧ (s.slcImage.maxQp = 0 ∨ s.hif.idt.msixE0 < s.slcImage.base
      + s.slcImage.count ∨ (s.slcImage.vld = true ∧ s.hif.idt.pasidEn = false)) :=
  ⟨State.reset,
   17,
   false,
   by decide +kernel⟩

theorem witness_SliceLife_3 : ∃ (s : State) (n : Nat) (p : Bool),
    s.flag SLC_CMD_busy = false ∧ (s.slc.e1 = some n ∨ s.get SLC_STATUS_state n ≠ 0) :=
  ⟨regs [(SLC_STATUS_state, 17, 2)],
   17,
   false,
   by decide +kernel⟩

theorem witness_SliceLife_4 : ∃ (s : State) (n : Nat),
    s.flag SLC_CMD_busy = false ∧ s.get SLC_STATUS_state n = 1 ∧ s.slc.e1 ≠ some n ∧ s.slcBad n s.slcImage = false ∧ s.slcImage.vld = s.flag
      SLC_CFG_pasid_vld n ∧ s.slcImage.pasid = s.get SLC_CFG_pasid n ∧ s.sliceIvs n ≤ s.slcImage.count ∧ s.hif.pendVec = [] :=
  ⟨{ regs [(SLC_STATUS_state, 17, 1), (SLC_CMD_DATA_data, 0, 1 * 2 ^ 31 + 5 * 2 ^ 18 + 3 * 2 ^ 9)] with hif := { idt := { msixE0 := 8 } } },
   17,
   by decide +kernel⟩

theorem witness_SliceLife_5 : ∃ (s : State) (n : Nat),
    s.flag SLC_CMD_busy = false ∧ s.get SLC_STATUS_state n = 1 ∧ s.slc.e1 ≠ some n ∧ s.slcBad n s.slcImage = false ∧ s.slcImage.vld = s.flag
      SLC_CFG_pasid_vld n ∧ s.slcImage.pasid = s.get SLC_CFG_pasid n ∧ s.slcImage.count < s.sliceIvs n :=
  ⟨{ regs [(SLC_STATUS_state, 17, 1), (SLC_CMD_DATA_data, 0, 1 * 2 ^ 31 + 5 * 2 ^ 18 + 2 * 2 ^ 9)] with hif := { idt := { msixE0 := 8 } }, qpe := { qps := [(0, { qpFor (.slice 17) false with ien := true, vector := 2 })] } },
   17,
   by decide +kernel⟩

theorem witness_SliceLife_6 : ∃ (s : State) (n : Nat),
    s.flag SLC_CMD_busy = false ∧ s.slc.e1 ≠ some n ∧ s.get SLC_STATUS_state n = 1 :=
  ⟨withCmd (qpFor (.slice 17) false) (cmdFor 2) (regs [(SLC_STATUS_state, 17, 1)]),
   17,
   by decide +kernel⟩

theorem witness_SliceLife_7 : ∃ (s : State) (n : Nat),
    s.flag SLC_CMD_busy = false ∧ s.get SLC_STATUS_state n = 1 :=
  ⟨withCmd (qpFor (.slice 17) false) (cmdFor 2) (regs [(SLC_STATUS_state, 17, 1)]),
   17,
   by decide +kernel⟩

theorem witness_SliceLife_8 : ∃ (s : State) (n : Nat),
    s.flag SLC_CMD_busy = false ∧ s.get SLC_STATUS_state n = 1 ∧ tget s.slc.resets n = none :=
  ⟨withCmd (qpFor (.slice 17) false) (cmdFor 2) (regs [(SLC_STATUS_state, 17, 1)]),
   17,
   by decide +kernel⟩

theorem witness_SliceLife_9 : ∃ (s : State) (n : Nat) (r : SliceReset),
    tget s.slc.resets n = some r ∧ r.drain = true :=
  ⟨{ withCmd (qpFor (.slice 17) false) (cmdFor 2) (regs [(SLC_STATUS_state, 17, 2)]) with slc := { resets := [(17, ⟨true, false, 5, true⟩)] } },
   17,
   ⟨true, false, 5, true⟩,
   by decide +kernel⟩

theorem witness_SliceLife_10 : ∃ (s : State) (n : Nat) (r : SliceReset),
    tget s.slc.resets n = some r ∧ s.ownerQuiet (.slice n) = true :=
  ⟨{ regs [(SLC_STATUS_state, 17, 2), (SLC_CTRL_STATUS_rdy, 17, 1), (SLC_CMD_busy, 0, 1), (SLC_CFG_max_qp, 17, 4)] with slc := { resets := [(17, ⟨false, true, 5, true⟩)] } },
   17,
   ⟨false, true, 5, true⟩,
   by decide +kernel⟩

theorem witness_SliceLife_11 : ∃ (s : State) (n : Nat),
    s.ownerQuiet (.slice n) = false :=
  ⟨{ withCmd (qpFor (.slice 17) false) (cmdFor 2) (regs [(SLC_STATUS_state, 17, 2)]) with slc := { resets := [(17, ⟨true, false, 5, true⟩)] } },
   17,
   by decide +kernel⟩

theorem witness_SliceLife_12 : ∃ (s : State) (n : Nat),
    s.flag SLC_CMD_busy = false ∧ s.get SLC_STATUS_state n = 1 :=
  ⟨regs [(SLC_STATUS_state, 1023, 1)],
   1023,
   by decide +kernel⟩

theorem witness_SliceLife_13 : ∃ (s : State) (n : Nat) (b : Word64),
    s.slc.pausing = some (n, b) ∧ s.sliceInflight n = 0 :=
  ⟨{ regs [(SLC_CMD_busy, 0, 1)] with slc := { pausing := some (17, 5), stopped := [17] } },
   17,
   5,
   by decide +kernel⟩

theorem witness_SliceLife_14 : ∃ (s : State) (n : Nat) (b : Word64),
    s.slc.pausing = some (n, b) ∧ s.sliceInflight n ≠ 0 :=
  ⟨{ withCmd (qpFor (.slice 17) false) (cmdFor 2) (regs [(SLC_CMD_busy, 0, 1)]) with slc := { pausing := some (17, 5), stopped := [17] } },
   17,
   5,
   by decide +kernel⟩

theorem witness_SliceLife_15 : ∃ (s : State) (n : Nat),
    s.flag SLC_CMD_busy = false ∧ s.get SLC_STATUS_state n = 1 ∧ s.qpsOf (.slice n) = [] :=
  ⟨{ regs [(SLC_STATUS_state, 17, 1), (SLC_STATUS_paused, 17, 1)] with slc := { stopped := [17, 18] } },
   17,
   by decide +kernel⟩

/-! ## The hypotheses of SliceQueuesAndLogs are met -/

theorem witness_SliceQueuesAndLogs_1 : ∃ (s : State) (n : Nat) (q : Nat),
    s.get SLC_STATUS_state n = 1 ∧ s.functionsOn = true ∧ s.flag SLC_CTRL_en n = false ∧ s.flag SLC_CTRL_STATUS_rdy n = false ∧ s.get
      SLC_AQA_asqs n ≠ 0 ∧ s.get SLC_AQA_acqs n ≠ 0 ∧ firstFree s.qpe.qps (s.qpe.qps.length + 1) 0 = some q :=
  ⟨regs [(BOOT_STATUS_stage, 0, 8), (SLC_STATUS_state, 17, 1), (SLC_AQA_asqs, 17, 1), (SLC_AQA_acqs, 17, 4095)],
   17,
   0,
   by decide +kernel⟩

theorem witness_SliceQueuesAndLogs_2 : ∃ (s : State) (n : Nat),
    s.get SLC_STATUS_state n = 2 ∧ s.flag SLC_CTRL_en n = false ∧ s.flag SLC_CTRL_STATUS_rdy n = false :=
  ⟨regs [(SLC_STATUS_state, 17, 2)],
   17,
   by decide +kernel⟩

theorem witness_SliceQueuesAndLogs_3 : ∃ (s : State) (n : Nat),
    s.get SLC_STATUS_state n = 0 :=
  ⟨State.reset,
   17,
   by decide +kernel⟩

theorem witness_SliceQueuesAndLogs_4 : ∃ (s : State) (n : Nat),
    s.get SLC_STATUS_state n = 1 ∧ s.flag SLC_CTRL_en n = true :=
  ⟨withCmd (qpFor (.slice 17) true) (cmdFor 6) (regs [(SLC_STATUS_state, 17, 1), (SLC_CTRL_en, 17, 1)]),
   17,
   by decide +kernel⟩

theorem witness_SliceQueuesAndLogs_5 : ∃ (s : State) (n : Nat) (q : Nat) (x : Qp),
    s.flag SLC_CMD_busy = false ∧ s.get SLC_STATUS_state n = 1 ∧ s.flag SLC_STATUS_paused n = true ∧ s.qpnOf (.slice n) (s.get SLC_CMD_DATA_data
      0 % 512) = some q ∧ s.qp q = some x ∧ x.sqEntries ≤ 4096 ∧ x.cqEntries ≤ 4096 ∧ x.sqHead < 4096 ∧ x.cqTail < 4096 ∧ x.cqHead < 4096 ∧
      x.cqSeq < 65536 ∧ x.cmplCount < 2 ^ 32 :=
  ⟨withCmd { qpFor (.slice 17) false with sqBase := 4096, cqBase := 8192, sqHead := 4095, sqEntries := 4096, cqTail := 9, cqHead := 8, cqSeq := 65535, cmplCount := 7, ien := true, vector := 3 } (cmdFor 2) (regs [(SLC_STATUS_state, 17, 1), (SLC_STATUS_paused, 17, 1), (SLC_CMD_DATA_data, 0, 1)]),
   17,
   0,
   { qpFor (.slice 17) false with sqBase := 4096, cqBase := 8192, sqHead := 4095, sqEntries := 4096, cqTail := 9, cqHead := 8, cqSeq := 65535, cmplCount := 7, ien := true, vector := 3 },
   by decide +kernel⟩

theorem witness_SliceQueuesAndLogs_6 : ∃ (s : State) (n : Nat) (q : Nat),
    s.flag SLC_CMD_busy = false ∧ s.get SLC_STATUS_state n = 1 ∧ s.flag SLC_STATUS_paused n = true ∧ s.flag SLC_CTRL_en n = false ∧ s.get
      SLC_CMD_DATA_data 0 % 512 = 0 ∧ s.qpnOf (.slice n) 0 = none ∧ 2 ≤ s.get SLC_CMD_DATA_data 2 / 2 ^ 52 + 1 ∧ 2 ≤ s.get SLC_CMD_DATA_data
      2 / 2 ^ 40 % 4096 + 1 ∧ s.get SLC_CMD_DATA_data 2 / 2 ^ 28 % 4096 ≤ s.get SLC_CMD_DATA_data 2 / 2 ^ 52 ∧ s.get SLC_CMD_DATA_data 2 / 2
      ^ 16 % 4096 ≤ s.get SLC_CMD_DATA_data 2 / 2 ^ 40 % 4096 ∧ s.get SLC_CMD_DATA_data 3 / 2 ^ 32 % 4096 ≤ s.get SLC_CMD_DATA_data 2 / 2 ^
      40 % 4096 ∧ s.vectorOk (.slice n) (s.get SLC_CMD_DATA_data 1 % 512) (s.get SLC_CMD_DATA_data 1 / 512 % 2 = 1) = true ∧ firstFree
      s.qpe.qps (s.qpe.qps.length + 1) 0 = some q :=
  ⟨regs [(SLC_STATUS_state, 17, 1), (SLC_STATUS_paused, 17, 1), (SLC_CMD_DATA_data, 0, 4096), (SLC_CMD_DATA_data, 2, 2 ^ 52 * 4095 + 2 ^ 40 * 15 + 2 ^ 28 * 4095 + 65536 * 15 + 65535), (SLC_CMD_DATA_data, 3, 2 ^ 63 + 2 ^ 32 * 15 + 7)],
   17,
   0,
   by decide +kernel⟩

theorem witness_SliceQueuesAndLogs_7 : ∃ (s : State) (n : Nat) (q : Nat) (k : Nat),
    s.flag SLC_CMD_busy = false ∧ s.get SLC_STATUS_state n = 1 ∧ s.flag SLC_STATUS_paused n = true ∧ k = s.get SLC_CMD_DATA_data 0 % 512 ∧ k ≠ 0
      ∧ s.qpnOf (.slice n) k = some q :=
  ⟨withCmd (qpFor (.slice 17) false) (cmdFor 2) (regs [(SLC_STATUS_state, 17, 1), (SLC_STATUS_paused, 17, 1), (SLC_CMD_DATA_data, 0, 1)]),
   17,
   0,
   1,
   by decide +kernel⟩

theorem witness_SliceQueuesAndLogs_8 : ∃ (s : State) (n : Nat),
    s.flag SLC_CMD_busy = false ∧ s.get SLC_STATUS_state n = 1 ∧ tget s.slc.logs n = none ∧ s.slc.logs.length < 64 ∧ s.get SLC_CMD_DATA_data 0 %
      4096 = 0 ∧ s.get SLC_CMD_DATA_data 1 % 4096 = 0 ∧ s.get SLC_CMD_DATA_data 2 % 4096 = 0 ∧ 1 ≤ s.get SLC_CMD_DATA_data 3 ∧ s.get
      SLC_CMD_DATA_data 3 < 2 ^ 30 :=
  ⟨regs [(SLC_STATUS_state, 17, 1), (SLC_CMD_DATA_data, 0, 4096), (SLC_CMD_DATA_data, 1, 8192), (SLC_CMD_DATA_data, 3, 1073741823)],
   17,
   by decide +kernel⟩

theorem witness_SliceQueuesAndLogs_9 : ∃ (s : State) (n : Nat),
    s.flag SLC_CMD_busy = false ∧ s.get SLC_STATUS_state n = 1 ∧ tget s.slc.logs n = none ∧ 64 ≤ s.slc.logs.length :=
  ⟨{ regs [(SLC_STATUS_state, 100, 1)] with slc := { logs := (List.range 64).map fun n => (n, ⟨0, 0, 0, 1, [], false⟩) } },
   100,
   by decide +kernel⟩

theorem witness_SliceQueuesAndLogs_10 : ∃ (s : State) (n : Nat) (l : SliceLog),
    s.flag SLC_CMD_busy = false ∧ s.get SLC_STATUS_state n ≠ 2 ∧ tget s.slc.logs n = some l ∧ l.marks = [] ∧ s.slc.folding = [] ∧ s.hif.queue =
      [] :=
  ⟨{ regs [(SLC_LOG_STATUS_active, 17, 1)] with slc := { logs := [(17, ⟨0, 0, 0, 1, [], true⟩)] } },
   17,
   ⟨0, 0, 0, 1, [], true⟩,
   by decide +kernel⟩

theorem witness_SliceQueuesAndLogs_11 : ∃ (s : State) (n : Nat) (l : SliceLog),
    s.flag SLC_CMD_busy = false ∧ s.get SLC_STATUS_state n ≠ 2 ∧ tget s.slc.logs n = some l ∧ l.marks = [] ∧ s.slc.folding = [] ∧ s.hif.queue =
      [] :=
  ⟨{ regs [(SLC_LOG_STATUS_on, 17, 1)] with slc := { logs := [(17, ⟨0, 0, 0, 1, [], true⟩)] } },
   17,
   ⟨0, 0, 0, 1, [], true⟩,
   by decide +kernel⟩

theorem witness_SliceQueuesAndLogs_12 : ∃ (s : State) (n : Nat) (w : Nat) (v : Nat) (l : SliceLog),
    s.flag SLC_CMD_busy = false ∧ s.get SLC_STATUS_state n ≠ 2 ∧ tget s.slc.logs n = some l ∧ l.marks = [((s.get SLC_LOG_STATUS_active n, w),
      v)] ∧ s.slc.folding = [] ∧ s.hif.queue = [] ∧ s.busOk .fn = false :=
  ⟨{ regs [(SLC_LOG_STATUS_active, 17, 1)] with slc := { logs := [(17, ⟨0, 8192, 0, 1000, [((1, 13), 0x1E0)], true⟩)] } },
   17,
   13,
   0x1E0,
   ⟨0, 8192, 0, 1000, [((1, 13), 0x1E0)], true⟩,
   by decide +kernel⟩

theorem witness_SliceQueuesAndLogs_13 : ∃ (s : State),
    s.hif.pasid.contains 0 = true ∧ s.slicesUsed = [] :=
  ⟨{ State.reset with hif := { pasid := [0] } },
   by decide +kernel⟩

theorem witness_SliceQueuesAndLogs_14 : ∃ (s : State) (n : Nat),
    s.hif.pasid.contains 0 = true ∧ s.slicesUsed = [n] ∧ s.slc.e1 ≠ some n ∧ s.flag SLC_CFG_pasid_vld n = true :=
  ⟨{ regs [(SLC_STATUS_state, 17, 1), (SLC_CFG_pasid_vld, 17, 1)] with hif := { pasid := [0], reads := [⟨.slice 17, .sqe 0, 0, 64, none⟩] } },
   17,
   by decide +kernel⟩

theorem witness_SliceQueuesAndLogs_15 : ∃ (s : State),
    s.hif.pasid.contains 0 = false ∧ s.hif.idt.pasidEn = true ∧ s.slicesUsed = [] :=
  ⟨{ State.reset with hif := { idt := { pasidEn := true } } },
   by decide +kernel⟩

/-! ## The hypotheses of Attestation are met -/

theorem witness_Attestation_1 : ∃ (s : State) (e : Nat) (req : List Byte),
    s.spdmUp e = true ∧ spdmCode req = 0x84 :=
  ⟨linkUp,
   0,
   [0x10, 0x84, 0, 0],
   by decide +kernel⟩

theorem witness_Attestation_2 : ∃ (s : State) (e : Nat) (req : List Byte),
    s.spdmUp e = true ∧ spdmCode req = 0xE1 ∧ 1 ≤ (s.spdmOf e).stage :=
  ⟨{ linkUp with rime := { spdm := [(0, ⟨1, [1]⟩)] } },
   0,
   [0x12, 0xE1, 0, 0],
   by decide +kernel⟩

theorem witness_Attestation_3 : ∃ (s : State) (e : Nat) (req : List Byte),
    s.spdmUp e = true ∧ spdmCode req = 0xE3 ∧ 2 ≤ (s.spdmOf e).stage ∧ leAt req 6 1 % 2 = 1 ∧ leAt req 8 4 / 0x80 % 2 = 1 ∧ leAt req 12 4 / 2 %
      2 = 1 :=
  ⟨{ linkUp with rime := { spdm := [(0, ⟨2, [1]⟩)] } },
   0,
   [0x12, 0xE3, 0, 0, 0, 0, 1, 0, 0x80, 0, 0, 0, 2, 0, 0, 0],
   by decide +kernel⟩

theorem witness_Attestation_4 : ∃ (s : State) (e : Nat) (req : List Byte),
    s.spdmUp e = true ∧ spdmCode req = 0x81 ∧ 3 ≤ (s.spdmOf e).stage :=
  ⟨{ linkUp with rime := { spdm := [(0, ⟨3, [1]⟩)] } },
   0,
   [0x12, 0x81, 0, 0],
   by decide +kernel⟩

theorem witness_Attestation_5 : ∃ (s : State) (e : Nat) (req : List Byte),
    s.spdmUp e = true ∧ spdmCode req = 0x81 ∧ (s.spdmOf e).stage < 3 :=
  ⟨{ linkUp with rime := { spdm := [(0, ⟨2, [1]⟩)] } },
   0,
   [0x12, 0x81, 0, 0],
   by decide +kernel⟩

theorem witness_Attestation_6 : ∃ (s : State) (e : Nat) (req : List Byte),
    s.spdmUp e = true ∧ spdmCode req = 0x82 ∧ 3 ≤ (s.spdmOf e).stage ∧ leAt req 2 1 % 16 = 0 ∧ leAt req 4 2 < s.certBlob.length :=
  ⟨{ linkUp with rime := { spdm := [(0, ⟨3, [1]⟩)], certs := [[1, 2], [3, 4]] } },
   0,
   [0x12, 0x82, 0, 0, 3, 0, 9, 0],
   by decide +kernel⟩

theorem witness_Attestation_7 : ∃ (s : State) (e : Nat) (req : List Byte),
    s.spdmUp e = true ∧ spdmCode req = 0x83 ∧ 3 ≤ (s.spdmOf e).stage ∧ leAt req 2 1 % 16 = 0 ∧ leAt req 3 1 = 0 :=
  ⟨{ linkUp with rime := { spdm := [(0, ⟨3, [1]⟩)] } },
   0,
   [0x12, 0x83, 0, 0],
   by decide +kernel⟩

theorem witness_Attestation_8 : ∃ (s : State) (e : Nat) (req : List Byte),
    s.spdmUp e = true ∧ spdmCode req = 0xE0 ∧ 3 ≤ (s.spdmOf e).stage ∧ leAt req 2 1 % 2 = 1 ∧ 1 ≤ leAt req 3 1 ∧ leAt req 3 1 ≤ 8 :=
  ⟨{ linkUp with rime := { spdm := [(0, ⟨3, [1]⟩)] } },
   0,
   [0x12, 0xE0, 1, 8],
   by decide +kernel⟩

theorem witness_Attestation_9 : ∃ (s : State) (e : Nat) (req : List Byte),
    s.spdmUp e = true ∧ [0x81, 0x82, 0x83, 0x84, 0xE0, 0xE1, 0xE3].contains (spdmCode req) = false :=
  ⟨linkUp,
   0,
   [0x12, 0xE4, 0, 0],
   by decide +kernel⟩

/-! ## The hypotheses of SeatingAndSensors are met -/

theorem witness_SeatingAndSensors_1 : ∃ (s : State) (straps : Nat) (b : BootIn),
    s.pwr.seated = false ∧ s.boot.held = false :=
  ⟨{ State.reset with pwr := { seated := false, partSeat := true } },
   21,
   bootOk,
   by decide +kernel⟩

theorem witness_SeatingAndSensors_2 : ∃ (s : State) (straps : Nat) (b : BootIn),
    s.pwr.seated = false ∧ s.boot.held = true ∧ s.boot.banks = [] :=
  ⟨{ regs [(PWR_FEED_STATUS_state, 0, 2)] with pwr := { seated := false }, boot := { held := true } },
   12,
   bootOk,
   by decide +kernel⟩

theorem witness_SeatingAndSensors_3 : ∃ (s : State),
    s.pwr.seated = true ∧ s.dumping = false ∧ s.boot.act = none :=
  ⟨{ State.reset with pwr := { seated := true } },
   by decide +kernel⟩

theorem witness_SeatingAndSensors_4 : ∃ (s : State),
    s.pwr.seated = true ∧ s.pwr.partSeat = false :=
  ⟨{ State.reset with pwr := { seated := true } },
   by decide +kernel⟩

theorem witness_SeatingAndSensors_5 : ∃ (s : State) (ms : Nat) (b : BootIn),
    s.dumpRuns = false ∧ ms < 2000 :=
  ⟨State.reset,
   1999,
   bootOk,
   by decide +kernel⟩

theorem witness_SeatingAndSensors_6 : ∃ (s : State) (ms : Nat) (b : BootIn),
    s.dumping = false ∧ s.stopping = false ∧ ((∀ g < 16, s.flag STR_GROUP_STATUS_blocked g = false)) ∧ 3000 ≤ ms ∧ ms < 6000 :=
  ⟨State.reset,
   5999,
   bootOk,
   by decide +kernel⟩

theorem witness_SeatingAndSensors_7 : ∃ (s : State) (ms : Nat) (b : BootIn),
    s.dumping = false ∧ s.stopping = false ∧ s.boot.held = false ∧ ((∀ g < 16, s.flag STR_GROUP_STATUS_blocked g = false)) ∧ 6000 ≤ ms ∧ ms <
      9000 :=
  ⟨State.reset,
   6000,
   bootOk,
   by decide +kernel⟩

theorem witness_SeatingAndSensors_8 : ∃ (s : State) (ms : Nat) (b : BootIn),
    (s.dumpRuns = true ∨ (2000 ≤ ms ∧ ms < 3000) ∨ 9000 ≤ ms) :=
  ⟨State.reset,
   9000,
   bootOk,
   by decide +kernel⟩

theorem witness_SeatingAndSensors_9 : ∃ (s : State),
    KeyFree s ∧ s.dumpRuns = false ∧ s.cip.lanes = [] ∧ s.cip.queues = [] :=
  ⟨regs [(KEY_STATUS_state, 0, 1)],
   keyFree_of (by decide +kernel), by decide +kernel⟩

theorem witness_SeatingAndSensors_10 : ∃ (s : State),
    s.dumpRuns = true :=
  ⟨{ State.reset with jnl := { phase := .flushing 1 0 } },
   by decide +kernel⟩

theorem witness_SeatingAndSensors_11 : ∃ (s : State) (c : Nat),
    45 < c ∧ s.pwr.inletHot = false :=
  ⟨State.reset,
   46,
   by decide +kernel⟩

theorem witness_SeatingAndSensors_12 : ∃ (s : State) (c : Nat),
    95 < c ∧ s.pwr.dieWarm = false :=
  ⟨State.reset,
   96,
   by decide +kernel⟩

theorem witness_SeatingAndSensors_13 : ∃ (s : State) (c : Nat),
    c ≤ 95 :=
  ⟨State.reset,
   95,
   by decide +kernel⟩

theorem witness_SeatingAndSensors_14 : ∃ (s : State) (c : Nat),
    110 < c ∧ s.pwr.dieCrit = false ∧ s.dumping = false ∧ s.boot.act = none :=
  ⟨State.reset,
   111,
   by decide +kernel⟩

theorem witness_SeatingAndSensors_16 : ∃ (s : State) (cage : Nat) (watts : Nat),
    cage < 8 ∧ (s.get GLB_IDENT_variant ≠ 2 ∨ cage < 4) :=
  ⟨State.reset,
   7,
   17,
   by decide +kernel⟩

theorem witness_SeatingAndSensors_17 : ∃ (s : State) (cage : Nat) (watts : Nat),
    4 ≤ cage ∧ cage < 8 ∧ s.get GLB_IDENT_variant = 2 :=
  ⟨regs [(GLB_IDENT_variant, 0, 2)],
   4,
   15,
   by decide +kernel⟩

/-! ## The hypotheses of FeedsAndBus are met -/

theorem witness_FeedsAndBus_1 : ∃ (s : State) (f : Nat) (cause : Nat),
    f < 2 ∧ s.feedThere f = true ∧ s.feedThere (1 - f) = true ∧ s.flag PWR_FEED_STATUS_active f = true ∧ s.flag PWR_FEED_STATUS_active (1 - f) =
      false ∧ s.pwr.target = none ∧ cause < 8 :=
  ⟨regs [(PWR_FEED_STATUS_state, 0, 2), (PWR_FEED_STATUS_state, 1, 2), (PWR_FEED_STATUS_active, 0, 1)],
   0,
   7,
   by decide +kernel⟩

theorem witness_FeedsAndBus_2 : ∃ (s : State) (f : Nat) (cause : Nat),
    f < 2 ∧ s.feedThere f = true ∧ s.feedThere (1 - f) = false ∧ s.jnl.phase = .idle ∧ s.get PWR_SEQ_STATUS_seq = 0 ∧ s.get
      PWR_STORE_STATUS_state ≠ 4 :=
  ⟨regs [(PWR_FEED_STATUS_state, 1, 2), (PWR_FEED_STATUS_active, 1, 1)],
   1,
   1,
   by decide +kernel⟩

theorem witness_FeedsAndBus_3 : ∃ (s : State) (f : Nat) (w : Word64) (b : BootIn),
    f < 2 ∧ s.feedless = true ∧ s.jnl.phase = .riding w ∧ s.get PWR_SEQ_STATUS_seq = 1 ∧ s.flag PWR_FEED_STATUS_active f = false :=
  ⟨{ regs [(PWR_SEQ_STATUS_seq, 0, 1), (PWR_FEED_STATUS_active, 0, 1)] with jnl := { phase := .riding 5 } },
   1,
   5,
   bootOk,
   by decide +kernel⟩

theorem witness_FeedsAndBus_4 : ∃ (s : State) (f : Nat) (b : BootIn),
    f < 2 ∧ s.feedThere f = false ∧ s.feedThere (1 - f) = true :=
  ⟨regs [(PWR_FEED_STATUS_state, 1, 2)],
   0,
   bootOk,
   by decide +kernel⟩

theorem witness_FeedsAndBus_5 : ∃ (s : State) (f : Nat),
    f < 2 ∧ s.feedState f = 1 ∧ s.activeFeed = none ∧ s.pwr.target = none :=
  ⟨regs [(PWR_FEED_STATUS_state, 1, 1)],
   1,
   by decide +kernel⟩

theorem witness_FeedsAndBus_6 : ∃ (s : State) (f : Nat),
    f < 2 ∧ s.feedState f = 1 ∧ s.activeFeed ≠ none :=
  ⟨regs [(PWR_FEED_STATUS_state, 1, 1), (PWR_FEED_STATUS_state, 0, 2), (PWR_FEED_STATUS_active, 0, 1)],
   1,
   by decide +kernel⟩

theorem witness_FeedsAndBus_7 : ∃ (s : State) (p : Nat),
    p < 2 ∧ s.get PWR_FEED_CFG_prefer = p ∧ s.get PWR_FEED_CFG_revert_s ≠ 0 ∧ s.feedState p = 2 ∧ s.feedState (1 - p) = 2 ∧ s.activeFeed = some
      (1 - p) ∧ s.flag PWR_FEED_STATUS_active p = false ∧ s.holdOff = true ∧ s.goodFor p (s.get PWR_FEED_CFG_revert_s) = true :=
  ⟨{ regs [(PWR_FEED_STATUS_state, 1, 2), (PWR_FEED_STATUS_state, 0, 2), (PWR_FEED_STATUS_active, 0, 1), (PWR_FEED_CFG_prefer, 0, 1)] with dtc := 1152921504606846976, pwr := { goodAt := [(1, 0)] } },
   1,
   by decide +kernel⟩

theorem witness_FeedsAndBus_8 : ∃ (s : State),
    (s.get PWR_FEED_CFG_revert_s = 0 ∨ 2 ≤ s.get PWR_FEED_CFG_prefer ∨ s.holdOff = false ∨ s.goodFor (s.get PWR_FEED_CFG_prefer) (s.get
      PWR_FEED_CFG_revert_s) = false) :=
  ⟨regs [(PWR_FEED_CFG_revert_s, 0, 0)],
   by decide +kernel⟩

theorem witness_FeedsAndBus_9 : ∃ (s : State) (f : Nat),
    f < 2 ∧ s.pwr.target = some f :=
  ⟨{ State.reset with pwr := { target := some 1 } },
   1,
   by decide +kernel⟩

theorem witness_FeedsAndBus_10 : ∃ (s : State),
    s.pwr.target = none :=
  ⟨State.reset,
   by decide +kernel⟩

theorem witness_FeedsAndBus_11 : ∃ (s : State) (mv : Nat),
    mv < 10800 ∧ s.dumping = false ∧ s.boot.act = none :=
  ⟨State.reset,
   10799,
   by decide +kernel⟩

theorem witness_FeedsAndBus_12 : ∃ (s : State) (mv : Nat),
    13500 < mv ∧ s.dumping = false ∧ s.boot.act = none :=
  ⟨State.reset,
   13501,
   by decide +kernel⟩

theorem witness_FeedsAndBus_13 : ∃ (s : State) (mv : Nat),
    10800 ≤ mv ∧ mv ≤ 13500 :=
  ⟨State.reset,
   13500,
   by decide +kernel⟩

/-! ## The hypotheses of EnergyStore are met -/

theorem witness_EnergyStore_1 : ∃ (s : State) (mv : Nat),
    mv < 2 ^ 16 ∧ s.get PWR_STORE_STATUS_state ≠ 4 :=
  ⟨State.reset,
   20000,
   by decide +kernel⟩

theorem witness_EnergyStore_2 : ∃ (s : State) (mv : Nat),
    s.get PWR_STORE_STATUS_state = 4 :=
  ⟨regs [(PWR_STORE_STATUS_state, 0, 4)],
   20000,
   by decide +kernel⟩

theorem witness_EnergyStore_3 : ∃ (s : State),
    s.get PWR_STORE_CFG_test_h ≠ 0 ∧ s.feedThere 0 = true ∧ s.feedThere 1 = true ∧ 300000 ≤ s.energyMj ∧ s.dumping = false ∧ s.get
      PWR_STORE_STATUS_state ≠ 4 ∧ s.pwr.testFrom = none :=
  ⟨regs [(PWR_FEED_STATUS_state, 1, 2), (PWR_FEED_STATUS_state, 0, 2), (PWR_STORE_STATUS_vstore, 0, 20000)],
   by decide +kernel⟩

theorem witness_EnergyStore_4 : ∃ (s : State),
    (s.feedThere 0 = false ∨ s.feedThere 1 = false ∨ s.energyMj < 300000 ∨ s.dumping = true) :=
  ⟨regs [(PWR_FEED_STATUS_state, 1, 2)],
   by decide +kernel⟩

theorem witness_EnergyStore_5 : ∃ (s : State) (v : Nat) (mv : Nat) (step : Nat) (cells : Nat),
    s.pwr.testFrom = some v ∧ mv < v ∧ 500 ≤ 1000000 / (v - mv) ∧ 1000000 / (v - mv) < 2 ^ 16 ∧ step ≤ 400 ∧ cells ≤ 300 ∧ s.get
      PWR_STORE_STATUS_state ≠ 4 :=
  ⟨{ regs [(PWR_STORE_STATUS_state, 0, 2)] with pwr := { testFrom := some 20000 } },
   20000,
   19619,
   400,
   300,
   by decide +kernel⟩

theorem witness_EnergyStore_6 : ∃ (s : State) (v : Nat) (mv : Nat) (step : Nat) (cells : Nat) (broken : Bool),
    s.pwr.testFrom = some v ∧ mv < v ∧ (1000000 / (v - mv) < 500 ∨ 400 < step ∨ 300 < cells ∨ broken = true) :=
  ⟨{ State.reset with pwr := { testFrom := some 20000 } },
   20000,
   17000,
   400,
   300,
   false,
   by decide +kernel⟩

theorem witness_EnergyStore_7 : ∃ (s : State) (c : Nat),
    65 < c :=
  ⟨State.reset,
   66,
   by decide +kernel⟩

theorem witness_EnergyStore_8 : ∃ (s : State) (c : Nat),
    55 < c ∧ c ≤ 65 ∧ s.pwr.chargeMv ≠ 0 :=
  ⟨{ State.reset with pwr := { chargeMv := 20000 } },
   56,
   by decide +kernel⟩

theorem witness_EnergyStore_9 : ∃ (s : State) (c : Nat),
    c ≤ 50 :=
  ⟨State.reset,
   50,
   by decide +kernel⟩

/-! ## The hypotheses of ResetsAndRom are met -/

theorem witness_ResetsAndRom_1 : ∃ (s : State) (straps : Nat) (f : Nat) (b : BootIn),
    s.boot.banks = [] :=
  ⟨{ regs [(GLB_SCRATCH_data, 3, 7), (GLB_SCRATCH_data, 9, 7)] with mem := [(5, 1)], dtc := 9 },
   5,
   1,
   bootOk,
   by decide +kernel⟩

theorem witness_ResetsAndRom_2 : ∃ (s : State) (cause : Nat) (b : BootIn),
    s.boot.banks = [] ∧ cause < 16 :=
  ⟨{ regs [(GLB_SCRATCH_data, 3, 7), (GLB_SCRATCH_data, 9, 7)] with mem := [(5, 1)], dtc := 9 },
   15,
   bootOk,
   by decide +kernel⟩

theorem witness_ResetsAndRom_3 : ∃ (s : State) (straps : Nat) (f : Nat) (b : BootIn) (k : Bank),
    s.boot.banks = [(0, k)] ∧ k.state = 3 :=
  ⟨{ State.reset with boot := { banks := [(0, { state := 3 })] } },
   5,
   1,
   bootOk,
   { state := 3 },
   by decide +kernel⟩

theorem witness_ResetsAndRom_4 : ∃ (s : State) (cause : Nat) (b : BootIn) (k : Bank),
    s.boot.banks = [(0, k)] ∧ k.state = 3 :=
  ⟨{ State.reset with boot := { banks := [(0, { state := 3 })] } },
   5,
   bootOk,
   { state := 3 },
   by decide +kernel⟩

theorem witness_ResetsAndRom_5 : ∃ (s : State) (b : BootIn),
    s.get BOOT_STATUS_stage < 8 ∧ s.boot.held = false ∧ s.boot.banks = [] :=
  ⟨regs [(BOOT_STATUS_stage, 0, 7)],
   bootOk,
   by decide +kernel⟩

theorem witness_ResetsAndRom_6 : ∃ (s : State) (b : BootIn),
    (8 ≤ s.get BOOT_STATUS_stage ∨ s.boot.held = true) :=
  ⟨regs [(BOOT_STATUS_stage, 0, 8)],
   bootOk,
   by decide +kernel⟩

/-! ## The hypotheses of BootToServing are met -/

theorem witness_BootToServing_1 : ∃ (s : State),
    s.get BOOT_STATUS_stage = 3 ∧ s.boot.held = false ∧ ((∀ x < 32, s.get DRV_PORT_STATUS_state x ≠ 3)) :=
  ⟨regs [(BOOT_STATUS_stage, 0, 3)],
   by decide +kernel⟩

theorem witness_BootToServing_2 : ∃ (s : State) (f : DriveFacts) (l : DriveLabel),
    s.get BOOT_STATUS_stage = 3 ∧ s.boot.held = false ∧ s.pair.conflict = false ∧ s.get DRV_PORT_STATUS_state 5 = 3 ∧ ((∀ x < 32, x ≠ 5 → s.get
      DRV_PORT_STATUS_state x ≠ 3)) ∧ (s.port 5).facts = some f ∧ poolLabel f = some l ∧ l.member = 5 :=
  ⟨{ regs [(BOOT_STATUS_stage, 0, 3), (DRV_PORT_STATUS_state, 5, 3)] with drv := [(5, { facts := some dfacts })] },
   dfacts,
   dlabel,
   by decide +kernel⟩

theorem witness_BootToServing_3 : ∃ (s : State) (m : Media) (c : Checkpoint),
    s.get BOOT_STATUS_stage = 4 ∧ s.str.poolId ≠ 0 ∧ s.labelCkpt m = some c ∧ m.firn = [] ∧ s.candDumps = [] ∧ c.segs = [] :=
  ⟨{ regs [(BOOT_STATUS_stage, 0, 4)] with str := { poolId := 7 }, jnl := { media := { label := some { dlabel with ckptLoc := 65536, ckptSeq := 5 } } } },
   { ckpt := some { seq := 5, replayStart := 9, segs := [], ns := [], mgmt := (3, 2, none), dirs := [] }, firn := [], held := [(1, (1, [(0, .md (.firn 5 1))]))] },
   { seq := 5, replayStart := 9, segs := [], ns := [], mgmt := (3, 2, none), dirs := [] },
   by decide +kernel⟩

theorem witness_BootToServing_4 : ∃ (s : State) (found : Option Media) (readable : Bool),
    s.get BOOT_STATUS_stage = 4 ∧ s.str.poolId ≠ 0 ∧ (readable = false ∨ s.labelCkpt (found.getD s.jnl.media) = none) :=
  ⟨{ regs [(BOOT_STATUS_stage, 0, 4)] with str := { poolId := 7 } },
   none,
   false,
   by decide +kernel⟩

theorem witness_BootToServing_5 : ∃ (s : State),
    s.get BOOT_STATUS_stage = 5 ∧ s.str.poolId = 0 ∧ s.pairShelf = false ∧ s.rime.records.length < 65536 ∧ s.jnl.mdQueue = [] ∧ s.str.cold = []
      :=
  ⟨regs [(BOOT_STATUS_stage, 0, 5)],
   by decide +kernel⟩

theorem witness_BootToServing_6 : ∃ (s : State),
    s.get BOOT_STATUS_stage = 5 ∧ s.str.poolId = 0 :=
  ⟨regs [(BOOT_STATUS_stage, 0, 5)],
   by decide +kernel⟩

theorem witness_BootToServing_7 : ∃ (s : State) (k : Kept),
    s.get BOOT_STATUS_stage = 5 ∧ s.str.poolId ≠ 0 ∧ s.keptEntries [] = [k] ∧ k.slot.mirror = false ∧ s.nsGone k = false ∧ s.superseded k.desc =
      false ∧ tget s.jnl.lastSeq (k.desc.ns, k.desc.lba) = none ∧ k.slot.dataOk = true ∧ s.jnl.mdQueue = [] ∧ s.str.cold = [] :=
  ⟨{ regs [(BOOT_STATUS_stage, 0, 5)] with str := { poolId := 7 }, nsm := { ns := [(0, nsFor)] }, jnl := { dumps := [⟨1, 1, 7, 0, [(4, kslot)], [], 3, 3, 0, 0, 0, 5, [0, 1], [], false⟩] } },
   ⟨4, kslot, kdesc, fullMark 0 kdesc.firnMark, 0⟩,
   by decide +kernel⟩

theorem witness_BootToServing_8 : ∃ (s : State),
    s.get BOOT_STATUS_stage = 7 ∧ s.get GLB_MGMT_SEQ_last_accepted = s.get GLB_MGMT_SEQ_last_completed ∧ s.deleting = [] ∧ (s.bank
      s.runBank).state = 3 :=
  ⟨{ regs [(BOOT_STATUS_stage, 0, 7)] with boot := { banks := [(0, { state := 3 })] } },
   by decide +kernel⟩

theorem witness_BootToServing_9 : ∃ (s : State),
    s.get BOOT_STATUS_stage = 7 ∧ s.get GLB_MGMT_SEQ_last_accepted = s.get GLB_MGMT_SEQ_last_completed ∧ s.deleting = [] ∧ (s.bank
      s.runBank).state = 2 :=
  ⟨{ regs [(BOOT_STATUS_stage, 0, 7)] with boot := { banks := [(0, { state := 2 })] } },
   by decide +kernel⟩

theorem witness_BootToServing_10 : ∃ (s : State),
    s.get BOOT_STATUS_stage = 7 ∧ s.get GLB_MGMT_SEQ_last_accepted ≠ s.get GLB_MGMT_SEQ_last_completed ∧ s.nsm.dels = [] ∧ s.deleting = [] ∧
      (s.bank s.runBank).state = 3 :=
  ⟨{ regs [(BOOT_STATUS_stage, 0, 7), (GLB_MGMT_SEQ_last_accepted, 0, 4)] with boot := { banks := [(0, { state := 3 })] } },
   by decide +kernel⟩

theorem witness_BootToServing_11 : ∃ (s : State),
    s.get BOOT_STATUS_stage ≠ 7 :=
  ⟨regs [(BOOT_STATUS_stage, 0, 8)],
   by decide +kernel⟩

/-! ## The hypotheses of StopsAndErrors are met -/

theorem witness_StopsAndErrors_1 : ∃ (s : State),
    s.flag BOOT_CMD_busy = false ∧ s.boot.act = none ∧ s.dumping = false ∧ s.stopping = false ∧ ((∀ g < 16, s.flag STR_GROUP_STATUS_blocked g =
      false)) :=
  ⟨regs [(BOOT_STATUS_stage, 0, 8)],
   by decide +kernel⟩

theorem witness_StopsAndErrors_2 : ∃ (s : State),
    s.flag BOOT_CMD_busy = false ∧ s.boot.act = none ∧ s.dumping = false ∧ s.stopping = false ∧ ((∀ g < 16, s.flag STR_GROUP_STATUS_blocked g =
      false)) :=
  ⟨regs [(BOOT_STATUS_stage, 0, 8)],
   by decide +kernel⟩

theorem witness_StopsAndErrors_3 : ∃ (s : State) (g : Nat),
    s.flag BOOT_CMD_busy = false ∧ s.boot.act = none ∧ s.dumping = false ∧ s.stopping = false ∧ g < 16 ∧ s.flag STR_GROUP_STATUS_blocked g =
      true :=
  ⟨regs [(BOOT_STATUS_stage, 0, 8), (STR_GROUP_STATUS_blocked, 3, 1)],
   3,
   by decide +kernel⟩

theorem witness_StopsAndErrors_4 : ∃ (s : State) (i : Instr) (c : Nat),
    (i = .bootStop ∨ i = .bootRestart) ∧ s.flag BOOT_CMD_busy = false ∧ s.boot.act = some c :=
  ⟨{ State.reset with boot := { act := some 3 } },
   .bootStop,
   3,
   by decide +kernel⟩

theorem witness_StopsAndErrors_5 : ∃ (s : State) (i : Instr),
    (i = .bootStop ∨ i = .bootRestart) ∧ s.flag BOOT_CMD_busy = false ∧ s.boot.act = none ∧ s.dumping = true :=
  ⟨{ State.reset with jnl := { phase := .flushing 1 0 } },
   .bootRestart,
   by decide +kernel⟩

theorem witness_StopsAndErrors_6 : ∃ (s : State),
    s.dumping = false ∧ s.boot.act = none :=
  ⟨State.reset,
   by decide +kernel⟩

theorem witness_StopsAndErrors_7 : ∃ (s : State),
    s.dumping = true :=
  ⟨{ State.reset with jnl := { phase := .flushing 1 0 } },
   by decide +kernel⟩

theorem witness_StopsAndErrors_8 : ∃ (s : State),
    s.dumping = false ∧ s.boot.act = none ∧ s.swc.frames = [] :=
  ⟨State.reset,
   by decide +kernel⟩

theorem witness_StopsAndErrors_9 : ∃ (s : State),
    (s.dumping = true ∨ s.boot.act ≠ none) :=
  ⟨{ State.reset with boot := { act := some 3 } },
   by decide +kernel⟩

theorem witness_StopsAndErrors_10 : ∃ (s : State) (core : Nat),
    core < 16 :=
  ⟨State.reset,
   15,
   by decide +kernel⟩

theorem witness_StopsAndErrors_11 : ∃ (s : State) (ppm : Nat),
    s.pwr.refBad = false ∧ s.dumping = false ∧ s.boot.act = none :=
  ⟨State.reset,
   300,
   by decide +kernel⟩

theorem witness_StopsAndErrors_12 : ∃ (s : State) (ppm : Nat),
    s.pwr.refBad = true :=
  ⟨{ State.reset with pwr := { refBad := true } },
   3,
   by decide +kernel⟩

theorem witness_StopsAndErrors_13 : ∃ (s : State) (area : Nat) (off : Nat),
    area < 10 :=
  ⟨State.reset,
   9,
   8589934592,
   by decide +kernel⟩

theorem witness_StopsAndErrors_14 : ∃ (s : State) (area : Nat) (off : Nat) (i : Nat),
    area < 10 ∧ (area ≠ 0 ∨ neveInUnit off i = false) :=
  ⟨State.reset,
   3,
   64,
   4,
   by decide +kernel⟩

theorem witness_StopsAndErrors_15 : ∃ (s : State) (off : Nat) (i : Nat) (x : NeveSlot) (d : NeveDesc),
    neveInUnit off i = true ∧ tget s.jnl.slots i = some x ∧ x.desc = some d ∧ x.mirror = true ∧ s.pair.active = true :=
  ⟨{ State.reset with pair := { active := true }, jnl := { slots := [(4, { kslot with mirror := true })] } },
   neveDataAt 4,
   4,
   { kslot with mirror := true },
   kdesc,
   by decide +kernel⟩

theorem witness_StopsAndErrors_16 : ∃ (s : State) (off : Nat) (i : Nat) (x : NeveSlot) (d : NeveDesc),
    neveInUnit off i = true ∧ tget s.jnl.slots i = some x ∧ x.desc = some d ∧ x.mirror = false ∧ s.pair.active = false ∧ s.nsm.deferred = [] :=
  ⟨{ State.reset with jnl := { slots := [(4, kslot)] } },
   neveDataAt 4,
   4,
   kslot,
   kdesc,
   by decide +kernel⟩

/-! ## The hypotheses of AbortDecision are met -/

theorem witness_AbortDecision_1 : ∃ (s : State) (c : Nat) (x : Cmd) (q : Qp),
    Running s c x q ∧ s.isAdmin x.qpn = true ∧ x.sqe.opcode = 8 ∧ (s.abortsBefore c q.owner).length < 64 :=
  ⟨abortState [(8, namedCmd)],
   7,
   abortCmd,
   qpFor .fn true,
   running_of (by decide +kernel), by decide +kernel⟩

theorem witness_AbortDecision_2 : ∃ (s : State) (c : Nat) (x : Cmd) (q : Qp),
    Running s c x q ∧ s.isAdmin x.qpn = true ∧ x.sqe.opcode = 8 ∧ 64 ≤ (s.abortsBefore c q.owner).length :=
  ⟨{ abortState [] with qpe := { (abortState []).qpe with cmds := ((List.range 64).map fun k => (100 + k, abortCmd)) ++ [(7, abortCmd)] } },
   7,
   abortCmd,
   qpFor .fn true,
   running_of (by decide +kernel), by decide +kernel⟩

/-! ## The hypotheses of SliceResetting are met -/

theorem witness_SliceResetting_1 : ∃ (s : State) (n : Nat) (i : Instr),
    s.flag SLC_CMD_busy = false ∧ s.get SLC_STATUS_state n = 2 ∧ i ∈ [.slcCreate n false, .slcCreate n true, .slcDestroy n, .slcResize n,
      .slcResetDrain n, .slcPause n, .slcResume n, .slcLogStart n, .slcLogStop n, .slcLogSync n, .slcSaveQp n, .slcRestoreQp n] :=
  ⟨regs [(SLC_STATUS_state, 17, 2)],
   17,
   .slcLogSync 17,
   by decide +kernel⟩

theorem witness_SliceResetting_2 : ∃ (s : State) (n : Nat) (off : Nat) (width : Nat) (v : Nat),
    s.get SLC_STATUS_state n = 2 :=
  ⟨regs [(SLC_STATUS_state, 17, 2)],
   17,
   8,
   4,
   3,
   by decide +kernel⟩

theorem witness_SliceResetting_3 : ∃ (s : State) (n : Nat) (r : SliceReset),
    s.flag SLC_CMD_busy = false ∧ s.get SLC_STATUS_state n = 2 ∧ tget s.slc.resets n = some r ∧ r.drain = true :=
  ⟨{ withCmd (qpFor (.slice 17) false) (cmdFor 2) (regs [(SLC_STATUS_state, 17, 2)]) with slc := { resets := [(17, ⟨true, false, 5, true⟩)] } },
   17,
   ⟨true, false, 5, true⟩,
   by decide +kernel⟩

theorem witness_SliceResetting_4 : ∃ (s : State) (kind : Nat),
    kind ≠ 1 ∧ s.flag HIF_LINK_STATUS_present 0 = true ∧ s.hif.inReset.contains 0 = false :=
  ⟨linkUp [(SLC_STATUS_state, 17, 1)],
   0,
   by decide +kernel⟩

theorem witness_SliceResetting_5 : ∃ (s : State) (n : Nat) (r : SliceReset),
    tget s.slc.resets n = some r ∧ r.toFree = true ∧ s.ownerQuiet (.slice n) = true :=
  ⟨{ regs [(SLC_STATUS_state, 17, 2), (SLC_CTRL_STATUS_rdy, 17, 1)] with slc := { resets := [(17, ⟨false, true, 5, false⟩)] } },
   17,
   ⟨false, true, 5, false⟩,
   by decide +kernel⟩

/-! ## The hypotheses of NtcFaults are met -/

theorem witness_NtcFaults_1 : ∃ (s : State) (x : Nat) (m : SlotSense),
    (m.ntc = none ∨ (∃ d, m.ntc = some d ∧ (d < -20 ∨ 150 < d))) ∧ x < 32 ∧ s.flag SLT_CH_STATUS_ntc_fault x = false :=
  ⟨slotOn,
   5,
   { sense0 with ntc := none },
   Or.inl rfl, by decide +kernel⟩

theorem witness_NtcFaults_2 : ∃ (s : State) (x : Nat) (m : SlotSense) (d : Int),
    x < 32 ∧ m.ntc = some d ∧ -20 ≤ d ∧ d ≤ 150 :=
  ⟨slotOn,
   5,
   { sense0 with ntc := some 150 },
   150,
   by decide +kernel⟩

theorem witness_NtcFaults_3 : ∃ (s : State) (x : Nat) (c : Slot),
    s.flag SLT_CH_STATUS_ntc_fault x = true :=
  ⟨regs [(SLT_CH_STATUS_ntc_fault, 5, 1)],
   5,
   {},
   by decide +kernel⟩

/-! ## The hypotheses of StepRunsTheFront are met -/

theorem witness_StepRunsTheFront_2 : ∃ (s : State),
    s.pending = [] :=
  ⟨State.reset,
   by decide +kernel⟩

/-! ## The hypotheses of EveryCommandIsCarriedOut are met -/

theorem witness_EveryCommandIsCarriedOut_3 : ∃ (s : State) (n : Nat),
    s.pending.length ≤ n :=
  ⟨{ State.reset with pending := [.yield] },
   1,
   by decide +kernel⟩

/-! ## The hypotheses of FrameOfEveryCommand are met -/

theorem witness_FrameOfEveryCommand_1 : ∃ (i : Instr) (s : State) (t : State),
    exec i s = .next t :=
  ⟨.yield,
   State.reset,
   nextOf (exec .yield State.reset),
   next_of (by decide +kernel)⟩

/-! ## The hypotheses of WhoWritesMemory are met -/

theorem witness_WhoWritesMemory_1 : ∃ (i : Instr) (s : State) (t : State),
    exec i s = .next t ∧ t.mem ≠ s.mem :=
  ⟨.hktWriteRx (hdr0 1 5) ⟨5, 16, 2, 0, 1, [7, 8]⟩ ing0,
   regionState,
   nextOf (exec (.hktWriteRx (hdr0 1 5) ⟨5, 16, 2, 0, 1, [7, 8]⟩ ing0) regionState),
   next_of (by decide +kernel), by decide +kernel⟩

/-! ## The hypotheses of MemoryStaysCanonical are met -/

theorem witness_MemoryStaysCanonical_1 : ∃ (s : State) (t : State),
    s.Inv ∧ step s = .next t :=
  ⟨{ State.reset with mem := [(8208, 7)] },
   nextOf (step { State.reset with mem := [(8208, 7)] }),
   by show memWf _ = true; decide +kernel, next_of (by decide +kernel)⟩

theorem witness_MemoryStaysCanonical_2 : ∃ (s : State) (n : Nat),
    s.Inv :=
  ⟨{ State.reset with mem := [(8208, 7)] },
   3,
   by show memWf _ = true; decide +kernel⟩

end Sys2Proof.Tests
end

section
/-! PROOFS. Abort (R126, R127): what completing a command does to it and to the others, when an Abort is decided, and why the
statement AbortDecision fails: an Abort that a firmware activation window holds (R133) is not decided while the window is open. -/

namespace Sys2Proof.Machine

/-! ## Completing a command -/

@[simp] theorem cmd_modQp (s : State) (q k : Nat) (f : Qp → Qp) : (s.modQp q f).cmd k = s.cmd k := rfl

theorem cmd_modCmd_same (s : State) (c : Nat) (f : Cmd → Cmd) : (s.modCmd c f).cmd c = (s.cmd c).map f := tget_tmod_same _ _ _

theorem cmd_modCmd_other (s : State) {c k : Nat} (f : Cmd → Cmd) (h : k ≠ c) : (s.modCmd c f).cmd k = s.cmd k :=
  tget_tmod_other _ f h.symm

theorem cmd_dropCmd_other (s : State) {c k : Nat} (h : k ≠ c) : (s.dropCmd c).cmd k = s.cmd k := tget_tdel_other _ h.symm

@[simp] theorem pairSend_qpe (s : State) (m : PairMsg) : (s.pairSend m).qpe = s.qpe := by
  unfold State.pairSend; split <;> rfl

theorem qp_modQp (s : State) (q p : Nat) (f : Qp → Qp) : (s.modQp q f).qp p = if q = p then (s.qp p).map f else s.qp p :=
  tget_tmod _ _ _ _

/-- A command that is running completes with the status and result words given (R117). -/
theorem Running.complete_completes {s : State} {c : Nat} {x : Cmd} {q : Qp} (h : Running s c x q) (st : Status) (a b : Word32) :
    Completes (s.complete c st a b) c st a b := by
  obtain ⟨hcmd, hhere, hopen, hqp, hlive, hring⟩ := h
  simp only [State.complete, hcmd, hopen, hhere, hqp, hlive, hring, if_false, decide_false, Bool.or_self, Bool.false_eq_true]
  exact ⟨_, (cmd_modCmd_same s c _).trans (by rw [hcmd]; rfl), rfl, rfl, rfl, rfl⟩

/-- Completing a command leaves every other command as it is. -/
theorem cmd_complete_other (s : State) {c k : Nat} (h : k ≠ c) (st : Status) (a b : Word32) :
    (s.complete c st a b).cmd k = s.cmd k := by
  have hdrop := cmd_dropCmd_other s h
  unfold State.complete
  split
  · rfl
  · split
    · rfl
    · split
      · simpa [State.cmd] using hdrop
      · split
        · exact hdrop
        · split
          · exact hdrop
          · exact cmd_modCmd_other s _ h

/-- Completing a command leaves every queue pair there, with the state it is in. -/
theorem qp_complete (s : State) (c p : Nat) (st : Status) (a b : Word32) {q : Qp} (h : s.qp p = some q) :
    ∃ r, (s.complete c st a b).qp p = some r ∧ r.state = q.state ∧ r.ringBad = q.ringBad := by
  have hmod (t : State) (ht : t.qp p = some q) (i : Nat) (f : Qp → Qp) (hs : ∀ y, (f y).state = y.state)
      (hr : ∀ y, (f y).ringBad = y.ringBad) : ∃ r, (t.modQp i f).qp p = some r ∧ r.state = q.state ∧ r.ringBad = q.ringBad := by
    rw [qp_modQp, ht]
    split
    · exact ⟨f q, rfl, hs q, hr q⟩
    · exact ⟨q, rfl, rfl, rfl⟩
  unfold State.complete
  split
  · exact ⟨q, h, rfl, rfl⟩
  · split
    · exact ⟨q, h, rfl, rfl⟩
    · split
      · exact ⟨q, by simpa [State.qp, State.dropCmd] using h, rfl, rfl⟩
      · split
        · exact ⟨q, h, rfl, rfl⟩
        · split
          · exact hmod (s.dropCmd c) h _ _ (fun _ => rfl) fun _ => rfl
          · exact hmod (s.modCmd c _) h _ _ (fun _ => rfl) fun _ => rfl

/-- A command stays running when another one completes. -/
theorem Running.complete_other {s : State} {c k : Nat} {x : Cmd} {q : Qp} (h : Running s c x q) (hk : c ≠ k) (st : Status) (a b : Word32) :
    ∃ r, Running (s.complete k st a b) c x r := by
  obtain ⟨r, hqp, hstate, hring⟩ := qp_complete s k x.qpn st a b h.qp
  exact ⟨r, (cmd_complete_other s hk st a b).trans h.cmd, h.here, h.open_, hqp, hstate ▸ h.live, hring ▸ h.ring⟩

/-! ## Abort -/

/-- Abort answers a next state, with the queue pairs and commands that `State.abort` gives. -/
theorem exec_abort (s : State) (c : Nat) : ∃ t, exec (.abort c) s = .next t ∧ t.qpe = (s.abort c).qpe := ⟨_, rfl, rfl⟩

/-- Whether a command is complete is a matter of the QPE part alone. -/
theorem Completes.congr {s t : State} {c : Nat} {st : Status} {a b : Word32} (h : Completes s c st a b) (hqpe : t.qpe = s.qpe) :
    Completes t c st a b := by
  simpa only [Completes, State.cmd, hqpe] using h

/-- While a firmware activation window holds an Abort (R133), nothing decides it. -/
theorem abort_of_held {s : State} {c : Nat} {x : Cmd} (hx : s.cmd c = some x) (hheld : x.adminHold.isSome = true) : s.abort c = s := by
  simp [State.abort, hx, hheld]

section
variable {s : State} {c : Nat} {x : Cmd} {q : Qp} (h : Running s c x q) (hadm : s.isAdmin x.qpn = true) (hop : x.sqe.opcode = 8)
  (hfree : x.adminHold = none)
include h hadm hop hfree

/-- The decision on an Abort that no window holds (R126, R127): past the owner's limit it fails; within it, it completes, after the
command it names where it ends one. -/
theorem abort_of_not_held :
    (64 ≤ (s.abortsBefore c q.owner).length ∧ s.abort c = s.complete c St.abortLimit) ∨
    ((s.abortsBefore c q.owner).length < 64 ∧
      ((∃ k, c ≠ k ∧ s.abort c = (s.complete k St.abortRequested).complete c St.ok) ∨ s.abort c = s.complete c St.ok 1)) := by
  have howner : s.ownerOf x = some q.owner := by simp [State.ownerOf, h.qp]
  simp only [State.abort, h.cmd, h.open_, hadm, hop, hfree, howner, decide_false, Bool.not_true, bne_self_eq_false, Option.isSome_none,
    Bool.or_self, Bool.false_eq_true, if_false]
  by_cases hlim : 64 ≤ (s.abortsBefore c q.owner).length
  · exact .inl ⟨hlim, if_pos hlim⟩
  · refine .inr ⟨Nat.lt_of_not_le hlim, ?_⟩
    unfold State.abortsBefore at hlim
    rw [if_neg hlim]
    split
    · next k y hhit =>
      have hne : k ≠ c := by
        split at hhit
        · have hnamed := List.find?_some hhit
          grind
        · cases hhit
      exact .inl ⟨k, hne.symm, rfl⟩
    · exact .inr rfl

/-- R127 for an Abort that no window holds, as the state of `witness_AbortDecision_1` has it: within the limit it completes at once. -/
theorem exec_abort_completes (hn : (s.abortsBefore c q.owner).length < 64) :
    ∃ t d, exec (.abort c) s = .next t ∧ Completes t c St.ok d := by
  obtain ⟨t, ht, hqpe⟩ := exec_abort s c
  obtain ⟨hlim, -⟩ | ⟨-, ⟨k, hk, heq⟩ | heq⟩ := abort_of_not_held h hadm hop hfree
  · omega
  · obtain ⟨r, hr⟩ := h.complete_other hk St.abortRequested 0 0
    exact ⟨t, 0, ht, (hr.complete_completes St.ok 0 0).congr (heq ▸ hqpe)⟩
  · exact ⟨t, 1, ht, (h.complete_completes St.ok 1 0).congr (heq ▸ hqpe)⟩

/-- R127 for an Abort that no window holds, as the state of `witness_AbortDecision_2` has it: past the limit it fails, and no other command
changes. -/
theorem exec_abort_past_limit (hn : 64 ≤ (s.abortsBefore c q.owner).length) :
    ∃ t, exec (.abort c) s = .next t ∧ Completes t c St.abortLimit ∧ ∀ k, k ≠ c → t.cmd k = s.cmd k := by
  obtain ⟨t, ht, hqpe⟩ := exec_abort s c
  obtain ⟨-, heq⟩ | ⟨hlt, -⟩ := abort_of_not_held h hadm hop hfree
  · rw [heq] at hqpe
    refine ⟨t, ht, (h.complete_completes St.abortLimit 0 0).congr hqpe, fun k hk => ?_⟩
    rw [State.cmd, hqpe]
    exact cmd_complete_other s hk St.abortLimit 0 0
  · omega

end

/-- Byte 258 (ACL) of Identify Controller (R127; its offset is assumption log 65). -/
theorem idController_acl (s : State) (o : QOwner) : (s.idController o)[258]? = some 63 := by
  simp [State.idController, structBytes, windowRead, leBytes]

/-! ## An Abort held by an activation window -/

/-- The admin queue pair of the local function. -/
def heldAbortQp : Qp := { owner := .fn, admin := true, qid := 0, sqEntries := 16, cqEntries := 16 }

/-- An Abort fetched while an activation window is open. -/
def heldAbortCmd : Cmd := { qpn := 0, slot := 0, sqe := { opcode := 8, psdt := 0, cid := 1 }, adminHold := some 0 }

/-- The window of the Commit with number 3 is open (R484), and the Abort waits as command 7. -/
def heldAbortState : State :=
  { State.reset with
    boot := { State.reset.boot with act := some 3 }
    qpe := { State.reset.qpe with qps := [(0, heldAbortQp)], cmds := [(7, heldAbortCmd)] } }

theorem running_heldAbort : Running heldAbortState 7 heldAbortCmd heldAbortQp where
  cmd   := rfl
  here  := rfl
  open_ := by decide
  qp    := rfl
  live  := by decide
  ring  := rfl

/-- Refutes O52: its two clauses on Aborts have no premise that no firmware activation window holds the Abort.  The window holds the admin
commands of every owner (R133, R484), an Abort with them: command 7 of `heldAbortState`, alone of its owner, is left as it was fetched.
Without the hold R127 is met (`exec_abort_completes`, `exec_abort_past_limit`), and so is the clause on ACL (`idController_acl`). -/
theorem not_abortDecision : ¬ Obligations.AbortDecision := by
  unfold Obligations.AbortDecision
  rintro ⟨hdecided, -, -⟩
  obtain ⟨t, d, ht, y, hy, hdone, -⟩ := hdecided heldAbortState 7 heldAbortCmd heldAbortQp running_heldAbort rfl rfl (by decide)
  obtain ⟨u, hu, hqpe⟩ := exec_abort heldAbortState 7
  obtain rfl : u = t := Host.Outcome.next.inj (hu.symm.trans ht)
  rw [abort_of_held running_heldAbort.cmd rfl] at hqpe
  rw [State.cmd, hqpe] at hy
  obtain rfl : heldAbortCmd = y := Option.some.inj (running_heldAbort.cmd.symm.trans hy)
  exact absurd hdone (by decide)

end Sys2Proof.Machine
end

section
/-! PROOFS. A slice that is RESETTING (R414 to R416): what discarding an owner may write, that every SLC command but a squash is refused,
that a squash takes over at once, and what a function reset of E0 does to the slices. -/

namespace Sys2Proof.Machine

open F

/-! ## What discarding an owner may write (R398 steps 1 to 5) -/

/-- What discarding the commands and queues of an owner writes; the device time and the SLC block are not in it. -/
def discardW : Writes :=
  { parts := [.evt, .ctr, .swc, .qpe, .nsm, .hif, .str, .jnl, .pair, .outbox], fields := qpeLive ++ [JNL_NEVE_STATUS_high_water] }

theorem within_qpeStatus (s : State) : Within discardW s s.qpeStatus :=
  (within_set s _ _ _ rfl).trans (within_set _ _ _ _ rfl)

theorem within_pairSend (s : State) (m : PairMsg) : Within discardW s (s.pairSend m) :=
  within_ite _ (fun _ => .refl _ _) fun _ => ((within_send s _ rfl).trans (within_bump _ _ _ rfl)).trans (within_pair _ _ rfl)

theorem within_complete (s : State) (c : Nat) (st : Status) (a b : Word32) : Within discardW s (s.complete c st a b) := by
  unfold State.complete
  split
  · exact .refl _ _
  · split
    · exact .refl _ _
    · split
      · exact (within_qpe s _ rfl).trans (within_pairSend _ _)
      · split
        · exact (within_qpe s _ rfl).trans (within_qpeStatus _)
        · split
          · exact ((within_qpe s _ rfl).trans (within_qpe _ _ rfl)).trans (within_qpeStatus _)
          · exact (within_qpe s _ rfl).trans (within_qpe _ _ rfl)

theorem within_breakChain (s : State) (w target : Nat) : Within discardW s (s.breakChain w target) := by
  unfold State.breakChain
  split
  · exact .refl _ _
  · exact ((within_complete s _ _ _ _).trans (within_each _ _ _ fun s c => within_complete s c _ _ _)).trans (within_qpe _ _ rfl)

theorem within_breakWaitsOn (s : State) (q : Nat) : Within discardW s (s.breakWaitsOn q) :=
  within_each _ _ _ fun s w => within_breakChain s w q

theorem within_waterCheck (s : State) : Within discardW s s.waterCheck := by
  unfold State.waterCheck
  refine within_ite _ (fun _ => within_ite _ (fun _ => ?_) fun _ => .refl _ _) fun _ => within_ite _ (fun _ => ?_) fun _ => .refl _ _
  · exact ((within_set s _ _ _ rfl).trans (within_raise _ _ _ _ _ rfl rfl)).trans (within_enter _ _ rfl)
  · exact (within_set s _ _ _ rfl).trans (within_leave _ _ rfl)

theorem within_slotFree (s : State) (i : Nat) : Within discardW s (s.slotFree i) := by
  unfold State.slotFree
  split
  · exact .refl _ _
  · extract_lets had _ freed counted retired rest _ consumed
    have hfreed : Within discardW s freed := within_jnl s _ rfl
    have hcounted : Within discardW freed counted := within_ite _ (fun _ => within_bump _ _ _ rfl) fun _ => .refl _ _
    have hretired : Within discardW counted retired := within_ite _ (fun _ => within_pairSend _ _) fun _ => .refl _ _
    have hconsumed : Within discardW retired consumed := within_ite _ (fun _ => within_jnl _ _ rfl) fun _ => .refl _ _
    exact (((hfreed.trans hcounted).trans hretired).trans hconsumed).trans (within_waterCheck _)

theorem within_dropStage (s : State) (c b : Nat) : Within discardW s (s.dropStage c b) := by
  unfold State.dropStage
  dsimp only
  split
  · exact (within_swc s _ rfl).trans (within_swc _ _ rfl)
  · exact within_swc s _ rfl

theorem within_dropStages (s : State) (c : Nat) : Within discardW s (s.dropStages c) :=
  (within_swc s _ rfl).trans (within_each _ _ _ fun s b => within_dropStage s c b)

theorem within_dropWrite (s : State) (c : Nat) : Within discardW s (s.dropWrite c) := by
  unfold State.dropWrite
  split
  · exact .refl _ _
  · refine .trans (within_each s _ _ fun s i => ?_) (within_jnl _ _ rfl)
    split
    · exact within_ite _ (fun _ => within_slotFree s i) fun _ => .refl _ _
    · exact .refl _ _

theorem within_waiters (s : State) (j : Jnl) (x : Str) : Within discardW s { s with jnl := j, str := x } :=
  (within_jnl s j rfl).trans (within_str _ x rfl)

theorem within_squashCmd (s : State) (c : Nat) : Within discardW s (s.squashCmd c) := by
  have hstop : Within discardW s (match tget s.jnl.writes c with
      | some w => if w.acked then s else (s.dropWrite c).dropStages c
      | none => s.dropStages c) := by
    split
    · exact within_ite _ (fun _ => .refl _ _) fun _ => (within_dropWrite s c).trans (within_dropStages _ c)
    · exact within_dropStages s c
  exact (hstop.trans (within_waiters _ _ _)).trans (within_qpe _ _ rfl)

theorem within_queues (s : State) (q : Qpe) (x : Nsm) (h : Hif) : Within discardW s { s with qpe := q, nsm := x, hif := h } :=
  ((within_qpe s q rfl).trans (within_nsm _ x rfl)).trans (within_hif _ h rfl)

/-- Discarding an owner writes nothing outside `discardW`. -/
theorem within_squashOwner (s : State) (o : QOwner) : Within discardW s (s.squashOwner o) := by
  have hcmds := within_each (w := discardW) s ((s.qpe.cmds.filter fun (_, (x : Cmd)) => s.ownerOf x = some o).map (·.1))
    State.squashCmd within_squashCmd
  have hwaits (t : State) : Within discardW t (t.each (s.qpsOf o) State.breakWaitsOn) := within_each t _ _ within_breakWaitsOn
  exact ((hcmds.trans (hwaits _)).trans (within_queues _ _ _ _)).trans (within_qpeStatus _)

@[simp] theorem squashOwner_dtc (s : State) (o : QOwner) : (s.squashOwner o).dtc = s.dtc := (within_squashOwner s o).dtc rfl

/-- A discarded owner has no queue pair left. -/
theorem qpsOf_squashOwner (s : State) (o : QOwner) : (s.squashOwner o).qpsOf o = [] := by
  simp [State.squashOwner, State.qpsOf, State.qpeStatus, List.filter_filter]

/-! ## A slice under a squash (R414) -/

/-- Slice `n` is RESETTING, with reset `r` under way. -/
def Resetting (s : State) (n : Nat) (r : SliceReset) : Prop := s.get SLC_STATUS_state n = 2 ∧ tget s.slc.resets n = some r

/-- What the module notes of a slice whose squash begins: RESETTING, where it goes, and whether a SLC_CMD waits. -/
def State.noteSquash (s : State) (n : Nat) (toFree cmd : Bool) : State :=
  ({ s with slc := { s.slc with resets := tput s.slc.resets n ⟨false, toFree, s.dtc, cmd⟩ } } : State).set SLC_STATUS_state n 2

theorem sliceSquash_eq (s : State) (n : Nat) (toFree cmd : Bool) :
    s.sliceSquash n toFree cmd = (s.squashOwner (.slice n)).noteSquash n toFree cmd := rfl

theorem resetting_noteSquash (s : State) (n : Nat) (toFree cmd : Bool) :
    Resetting (s.noteSquash n toFree cmd) n ⟨false, toFree, s.dtc, cmd⟩ :=
  ⟨get_set_same _ _ _ _, tget_tput_same _ _ _⟩

theorem resetting_noteSquash_other (s : State) {n m : Nat} (toFree cmd : Bool) {r : SliceReset} (hne : m ≠ n) (h : Resetting s n r) :
    Resetting (s.noteSquash m toFree cmd) n r :=
  ⟨(get_set_other _ _ (by simpa [Fld.key] using hne)).trans h.1, (tget_tput_other _ _ hne).trans h.2⟩

/-- The slices of a list all squashed: each of them is RESETTING, and so stays one that already was. -/
theorem resetting_each_noteSquash (l : List Nat) (s : State) (n : Nat) (toFree cmd : Bool)
    (h : n ∈ l ∨ Resetting s n ⟨false, toFree, s.dtc, cmd⟩) :
    Resetting (s.each l fun s n => s.noteSquash n toFree cmd) n ⟨false, toFree, s.dtc, cmd⟩ := by
  induction l generalizing s with
  | nil => exact h.resolve_left List.not_mem_nil
  | cons m l ih =>
    refine ih (s.noteSquash m toFree cmd) ?_
    by_cases hm : m = n
    · subst hm
      exact .inr (resetting_noteSquash s m toFree cmd)
    · exact h.imp (fun hmem => (List.mem_cons.mp hmem).resolve_left (Ne.symm hm)) (resetting_noteSquash_other s toFree cmd hm)

/-- A squash ends every queue pair of the slice. -/
theorem qpsOf_sliceSquash (s : State) (n : Nat) (toFree cmd : Bool) : (s.sliceSquash n toFree cmd).qpsOf (.slice n) = [] :=
  qpsOf_squashOwner s (.slice n)

/-- A squash leaves the slice RESETTING since now. -/
theorem resetting_sliceSquash (s : State) (n : Nat) (toFree cmd : Bool) :
    Resetting (s.sliceSquash n toFree cmd) n ⟨false, toFree, s.dtc, cmd⟩ := by
  have h := resetting_noteSquash (s.squashOwner (.slice n)) n toFree cmd
  rwa [squashOwner_dtc] at h

/-- A command may write every field of a register block it names. -/
theorem field_of_block {w : Writes} {f : Fld} {i : Nat} (h : w.blocks.contains (f.reg / 0x100000) = true) : w.field (f.key i) = true := by
  rw [field_key, h, Bool.true_or]

/-- A slice stays RESETTING through a command that may write the slices' states and the SLC block. -/
theorem Resetting.only {s t : State} {n : Nat} {r : SliceReset} {w : Writes} (h : Resetting t n r)
    (hfield : w.field (SLC_STATUS_state.key n) = true) (hslc : w.part .slc = true) : Resetting (s.only w t) n r := by
  rw [Resetting, get_only_in _ _ _ _ _ hfield, only_slc, if_pos hslc]
  exact h

/-! ## SLC commands on a slice that is RESETTING (R416, R424) -/

theorem slcRun_idle {s : State} (f : State → State) (hidle : s.flag SLC_CMD_busy = false) : s.slcRun f = f s := by
  simp [State.slcRun, hidle]

@[simp] theorem slcEnd_slc (s : State) (r : Nat) : (s.slcEnd r).slc = s.slc := rfl
@[simp] theorem slcEnd_qpe (s : State) (r : Nat) : (s.slcEnd r).qpe = s.qpe := rfl

theorem get_slcEnd_result (s : State) (r : Nat) : (s.slcEnd r).get SLC_CMD_result = r % 16 := get_set_same _ _ _ _

theorem get_slcEnd_state (s : State) (r n : Nat) : (s.slcEnd r).get SLC_STATUS_state n = s.get SLC_STATUS_state n :=
  (get_set_other _ _ (by simp [Fld.key, SLC_CMD_result, SLC_STATUS_state])).trans
    (get_set_other _ _ (by simp [Fld.key, SLC_CMD_busy, SLC_STATUS_state]))

/-- A command that ends at once with a result changes neither slices nor queues, whatever its footprint. -/
theorem commit_slcEnd (s : State) {t : State} {w : Writes} {r : Nat} (ht : t = s.slcEnd r)
    (hfield : w.field (SLC_CMD_result.key 0) = true) :
    ∃ u, s.commit w t = .next u ∧ u.get SLC_CMD_result = r % 16 ∧ u.slc = s.slc ∧ u.qpe = s.qpe := by
  subst ht
  refine ⟨_, commit_eq _ _ _, ?_, ?_, ?_⟩
  · rw [get_only_in _ _ _ _ _ hfield, get_slcEnd_result]
  · rw [only_slc, slcEnd_slc, ite_self]
  · rw [only_qpe, slcEnd_qpe, ite_self]

section
variable {s : State} {n : Nat} (hidle : s.flag SLC_CMD_busy = false) (hres : s.get SLC_STATUS_state n = 2)
include hidle hres

theorem slcCreate_resetting (paused : Bool) : s.slcCreate n paused = s.slcEnd 1 := by simp [State.slcCreate, slcRun_idle _ hidle, hres]
theorem slcDestroy_resetting : s.slcDestroy n = s.slcEnd 1 := by simp [State.slcDestroy, slcRun_idle _ hidle, hres]
theorem slcResize_resetting : s.slcResize n = s.slcEnd 1 := by simp [State.slcResize, slcRun_idle _ hidle, hres]
theorem slcResetDrain_resetting : s.slcResetDrain n = s.slcEnd 1 := by simp [State.slcResetDrain, slcRun_idle _ hidle, hres]
theorem slcPause_resetting : s.slcPause n = s.slcEnd 1 := by simp [State.slcPause, slcRun_idle _ hidle, hres]
theorem slcResume_resetting : s.slcResume n = s.slcEnd 1 := by simp [State.slcResume, slcRun_idle _ hidle, hres]
theorem logStart_resetting : s.logStart n = s.slcEnd 1 := by simp [State.logStart, slcRun_idle _ hidle, hres]
theorem logSync_resetting (last : Bool) : s.logSync n last = s.slcEnd 1 := by simp [State.logSync, slcRun_idle _ hidle, hres]
theorem slcSave_resetting : s.slcSave n = s.slcEnd 1 := by simp [State.slcSave, slcRun_idle _ hidle, hres]
theorem slcRestore_resetting : s.slcRestore n = s.slcEnd 1 := by simp [State.slcRestore, slcRun_idle _ hidle, hres]

/-- R416: every SLC command but RESET with mode 1 ends with result 1. -/
theorem exec_slc_resetting {i : Instr} (hi : i ∈ [.slcCreate n false, .slcCreate n true, .slcDestroy n, .slcResize n, .slcResetDrain n,
    .slcPause n, .slcResume n, .slcLogStart n, .slcLogStop n, .slcLogSync n, .slcSaveQp n, .slcRestoreQp n]) :
    ∃ t, exec i s = .next t ∧ t.get SLC_CMD_result = 1 ∧ t.slc = s.slc ∧ t.qpe = s.qpe := by
  simp only [List.mem_cons, List.not_mem_nil, or_false] at hi
  rcases hi with rfl | rfl | rfl | rfl | rfl | rfl | rfl | rfl | rfl | rfl | rfl | rfl
  · exact commit_slcEnd s (slcCreate_resetting hidle hres false) rfl
  · exact commit_slcEnd s (slcCreate_resetting hidle hres true) rfl
  · exact commit_slcEnd s (slcDestroy_resetting hidle hres) rfl
  · exact commit_slcEnd s (slcResize_resetting hidle hres) rfl
  · exact commit_slcEnd s (slcResetDrain_resetting hidle hres) rfl
  · exact commit_slcEnd s (slcPause_resetting hidle hres) rfl
  · exact commit_slcEnd s (slcResume_resetting hidle hres) rfl
  · exact commit_slcEnd s (logStart_resetting hidle hres) rfl
  · exact commit_slcEnd s (logSync_resetting hidle hres true) rfl
  · exact commit_slcEnd s (logSync_resetting hidle hres false) rfl
  · exact commit_slcEnd s (slcSave_resetting hidle hres) rfl
  · exact commit_slcEnd s (slcRestore_resetting hidle hres) rfl

end

/-- RESET with mode 1 on a slice with a reset under way squashes it and keeps where it goes (R414, R416). -/
theorem slcResetSquash_resetting {s : State} {n : Nat} {r : SliceReset} (hidle : s.flag SLC_CMD_busy = false)
    (hres : s.get SLC_STATUS_state n = 2) (hr : tget s.slc.resets n = some r) :
    s.slcResetSquash n = (s.set SLC_CMD_busy 0 1).sliceSquash n r.toFree true := by
  simp [State.slcResetSquash, slcRun_idle _ hidle, hres, hr]

theorem exec_slcResetSquash_resetting {s : State} {n : Nat} {r : SliceReset} (hidle : s.flag SLC_CMD_busy = false)
    (hres : s.get SLC_STATUS_state n = 2) (hr : tget s.slc.resets n = some r) :
    ∃ t, exec (.slcResetSquash n) s = .next t ∧ t.qpsOf (.slice n) = [] ∧ Resetting t n ⟨false, r.toFree, s.dtc, true⟩ := by
  have heq := slcResetSquash_resetting hidle hres hr
  refine ⟨_, rfl, ?_, ?_⟩
  · exact (congrArg (State.qpsOf · (.slice n)) heq).trans (qpsOf_sliceSquash _ n _ _)
  · exact Resetting.only (heq ▸ resetting_sliceSquash _ _ _ _) rfl rfl

/-! ## Doorbells (R109, R416) -/

theorem localDoorbell_resetting {s : State} {n : Nat} (off width v : Nat) (hres : s.get SLC_STATUS_state n = 2) :
    s.localDoorbell (.slice n) off width v = s := by
  simp [State.localDoorbell, hres]

theorem exec_localDoorbellWrite_resetting {s : State} {n : Nat} (off width v : Nat) (hres : s.get SLC_STATUS_state n = 2) :
    ∃ t, exec (.localDoorbellWrite (.slice n) off width v) s = .next t ∧ t.qpe = s.qpe ∧ t.ctr = s.ctr := by
  have heq := localDoorbell_resetting off width v hres
  exact ⟨_, rfl, by rw [heq, only_qpe, ite_self], by rw [heq, only_ctr, ite_self]⟩

/-! ## A function reset of E0 (R398) -/

theorem mem_of_tget {κ α : Type} [DecidableEq κ] {t : Table κ α} {k : κ} {v : α} (h : tget t k = some v) : (k, v) ∈ t := by
  induction t with
  | nil => cases h
  | cons e t ih =>
    obtain ⟨k', v'⟩ := e
    rw [tget_cons] at h
    split at h
    · next hk => obtain rfl := Option.some.inj h; exact hk ▸ List.mem_cons_self
    · exact List.mem_cons_of_mem _ (ih h)

/-- A slice that does not read FREE is in use. -/
theorem mem_slicesUsed {s : State} {n : Nat} (h : s.get SLC_STATUS_state n ≠ 0) : n ∈ s.slicesUsed := by
  cases hv : tget s.regs (SLC_STATUS_state.key n) with
  | none => exact absurd (show s.get SLC_STATUS_state n = 0 by rw [State.get, regGet, hv]; rfl) h
  | some v =>
    rw [State.get, regGet, hv, Option.getD_some] at h
    exact List.mem_filterMap.mpr ⟨_, mem_of_tget hv, by simp [Fld.key, h]⟩

theorem syncCut_zero (s : State) : s.syncCut 0 = s := by
  unfold State.syncCut
  split <;> rfl

@[simp] theorem e1Defaults_dtc (s : State) : s.e1Defaults.dtc = s.dtc := by
  unfold State.e1Defaults
  split <;> rfl

@[simp] theorem intxUpdate_slc (s : State) : s.intxUpdate.slc = s.slc := by
  unfold State.intxUpdate
  dsimp only
  split <;> rfl

@[simp] theorem intxUpdate_regs (s : State) : s.intxUpdate.regs = s.regs := by
  unfold State.intxUpdate
  dsimp only
  split <;> rfl

/-- The slices that a function reset of E0 squashes, chosen as `State.functionReset` chooses them for an endpoint. -/
def State.slicesOfE0 (s : State) : List Nat := s.slicesUsed.filter fun n => if s.slc.e1 = some n then (0 : Nat) = 1 else (0 : Nat) = 0

theorem mem_slicesOfE0 {s : State} {n : Nat} (hused : s.get SLC_STATUS_state n ≠ 0) (he1 : s.slc.e1 ≠ some n) : n ∈ s.slicesOfE0 :=
  List.mem_filter.mpr ⟨mem_slicesUsed hused, by simp [he1]⟩

/-- The state in which a function reset of E0 has discarded the local function and its slices (steps 1 to 5). -/
def State.e0Squashed (s : State) : State :=
  let s := (s.raise EV_HIF_FLR 0 0).bump (ctrHif 0 6)
  (s.squashOwner .fn).each s.slicesOfE0 fun s n => s.squashOwner (.slice n)

/-- That state with the registers reset. -/
def State.e0Reset (s : State) : State :=
  ({ s.e0Squashed with regs := regReset s.e0Squashed.regs 4 (s.e0Squashed.funcReg 0) } : State).e1Defaults

theorem e0Squashed_dtc (s : State) : s.e0Squashed.dtc = s.dtc :=
  ((within_squashOwner _ _).trans (within_each _ _ _ fun s n => within_squashOwner s (.slice n))).dtc rfl

theorem e0Reset_dtc (s : State) : s.e0Reset.dtc = s.dtc := (e1Defaults_dtc _).trans (e0Squashed_dtc s)

/-- A reset of E0 that acts: its slices are squashed toward FREE, and nothing after it touches their states or resets. -/
theorem functionReset_zero {s : State} {kind : Nat} (hkind : kind ≠ 1) (hpresent : s.flag HIF_LINK_STATUS_present 0 = true)
    (hout : s.hif.inReset.contains 0 = false) :
    (s.functionReset 0 kind).regs = (s.e0Reset.each s.slicesOfE0 fun s n => s.noteSquash n true false).regs ∧
    (s.functionReset 0 kind).slc.resets = (s.e0Reset.each s.slicesOfE0 fun s n => s.noteSquash n true false).slc.resets := by
  have hact : (!s.flag HIF_LINK_STATUS_present 0 || s.hif.inReset.contains 0 ||
      (decide (kind = 1) && !s.flag HIF_LINK_STATUS_d3 0)) = false := by
    simp only [hpresent, hout, hkind, decide_false, Bool.not_true, Bool.false_and, Bool.or_self]
  unfold State.functionReset
  rw [hact, if_neg Bool.false_ne_true, intxUpdate_regs, intxUpdate_slc, leave_regs, leave_slc, syncCut_zero]
  exact ⟨rfl, rfl⟩

theorem resetting_functionReset_zero {s : State} {kind n : Nat} (hkind : kind ≠ 1)
    (hpresent : s.flag HIF_LINK_STATUS_present 0 = true) (hout : s.hif.inReset.contains 0 = false)
    (hused : s.get SLC_STATUS_state n ≠ 0) (he1 : s.slc.e1 ≠ some n) :
    Resetting (s.functionReset 0 kind) n ⟨false, true, s.dtc, false⟩ := by
  obtain ⟨hregs, hresets⟩ := functionReset_zero hkind hpresent hout
  have hloop := resetting_each_noteSquash s.slicesOfE0 s.e0Reset n true false (.inl (mem_slicesOfE0 hused he1))
  rw [e0Reset_dtc] at hloop
  rwa [Resetting, State.get, hregs, hresets]

/-! ## Reset-done (R415) -/

/-- A slice that goes toward FREE is FREE once its transfers have ended, and no reset of it is under way. -/
theorem sliceResetDone_toFree {s : State} {n : Nat} {r : SliceReset} (hr : tget s.slc.resets n = some r) (hfree : r.toFree = true)
    (hquiet : s.ownerQuiet (.slice n) = true) :
    (s.sliceResetDone n).get SLC_STATUS_state n = 0 ∧ tget (s.sliceResetDone n).slc.resets n = none := by
  simp only [State.sliceResetDone, hr, hfree, hquiet, Bool.not_true, Bool.false_eq_true, if_false, if_true, get_raise, raise_slc]
  split
  · rw [get_slcEnd_state, slcEnd_slc]
    exact ⟨get_set_same _ _ _ _, tget_tdel_same _ _⟩
  · exact ⟨get_set_same _ _ _ _, tget_tdel_same _ _⟩

/-! ## The statement -/

/-- Settles O53: a slice that is RESETTING refuses its SLC commands and ignores its doorbells, a squash takes over from its drain, and a
function reset of E0 sends the slices other than E1's toward FREE, where reset-done leaves them. -/
theorem sliceResetting : Obligations.SliceResetting := by
  unfold Obligations.SliceResetting
  refine ⟨?commands, ?doorbells, ?squash, ?functionReset, ?resetDone⟩
  case commands => exact fun s n i hidle hres hi => exec_slc_resetting hidle hres hi
  case doorbells => exact fun s n off width v hres => exec_localDoorbellWrite_resetting off width v hres
  case squash =>
    intro s n r hidle hres hr _
    obtain ⟨t, ht, hqps, hstate, hreset⟩ := exec_slcResetSquash_resetting hidle hres hr
    exact ⟨t, ht, hstate, hqps, hreset⟩
  case functionReset =>
    intro s kind hkind hpresent hout
    refine ⟨_, rfl, fun n hused he1 => ?_⟩
    exact (resetting_functionReset_zero hkind hpresent hout hused he1).only (field_of_block rfl) rfl
  case resetDone =>
    intro s n r hr hfree hquiet
    obtain ⟨hstate, hreset⟩ := sliceResetDone_toFree hr hfree hquiet
    exact ⟨_, rfl, (get_only_in _ _ _ _ _ (field_of_block rfl)).trans hstate, hreset⟩

end Sys2Proof.Machine
end

section
/-! PROOFS. The NTC of a slot (R461): an open, short or out-of-range NTC sets ntc_fault and is reported, a reading within the range leaves
the state as it is, and with ntc_fault set the estimate starts from the inlet's temperature and keeps cs 0. -/

namespace Sys2Proof.Machine

open F

/-! ## Shared facts -/

/-- Within any footprint, no effect is no change. -/
@[simp] theorem only_self (s : State) (w : Writes) : s.only w s = s := by
  simp only [State.only, keepRegs, if_true, ite_self]

@[simp] theorem slot_putSlot_same (s : State) (x : Nat) (c : Slot) : (s.putSlot x c).slot x = c :=
  tgetD_of_some _ (tget_tput_same _ _ _)

/-! ## NTC_FAULT -/

/-- Whether the NTC reads open or short, or outside -20 to 150 °C (R461). -/
def ntcBad (m : SlotSense) : Bool :=
  match m.ntc with
  | some t => decide (t < -20) || decide (150 < t)
  | none => true

theorem ntcBad_of_out {m : SlotSense} (h : m.ntc = none ∨ ∃ d, m.ntc = some d ∧ (d < -20 ∨ 150 < d)) : ntcBad m = true := by
  obtain hnone | ⟨d, hd, hout⟩ := h
  · simp only [ntcBad, hnone]
  · simpa only [ntcBad, hd, Bool.or_eq_true, decide_eq_true_eq] using hout

theorem ntcBad_of_within {m : SlotSense} {d : Int} (hd : m.ntc = some d) (hlo : -20 ≤ d) (hhi : d ≤ 150) : ntcBad m = false := by
  simp only [ntcBad, hd, Bool.or_eq_false_iff, decide_eq_false_iff_not, Int.not_lt]
  exact ⟨hlo, hhi⟩

/-- What NTC_FAULT may write. -/
def ntcW : Writes := { parts := [.evt, .ctr, .slt], fields := [SLT_CH_STATUS_ntc_fault] }

/-- The state in which slot `x` runs without its NTC, as the report of it finds it: the sample taken, cs 0, ntc_fault set. -/
def State.ntcMarked (s : State) (x : Nat) (m : SlotSense) : State :=
  let s := s.sensed x m
  (s.putSlot x { s.slot x with cs := 0 }).set SLT_CH_STATUS_ntc_fault x 1

/-- NTC_FAULT on a slot of the module: the slot is marked and reported where its NTC is bad and was not known to be. -/
theorem exec_ntcFault (s : State) {x : Nat} (m : SlotSense) (hx : x < 32) :
    exec (.ntcFault x m) s = .next (s.only ntcW
      (if ntcBad m && !s.flag SLT_CH_STATUS_ntc_fault x then (s.ntcMarked x m).raise EV_SLT_NTC_FAULT 2 x else s)) := by
  have hexec : exec (.ntcFault x m) s = execNtcFault x m s := rfl
  rw [hexec, execNtcFault, Nat.mod_eq_of_lt hx]
  rfl

@[simp] theorem cs_ntcMarked (s : State) (x : Nat) (m : SlotSense) : ((s.ntcMarked x m).slot x).cs = 0 :=
  congrArg Slot.cs (slot_putSlot_same _ _ _)

@[simp] theorem get_ntcMarked_fault (s : State) (x : Nat) (m : SlotSense) : (s.ntcMarked x m).get SLT_CH_STATUS_ntc_fault x = 1 :=
  get_set_same _ _ _ _

/-- Marking a slot changes no register of the EVT block. -/
theorem get_ntcMarked_evt (s : State) (x : Nat) (m : SlotSense) {f : Fld} (i : Nat) (hf : f.reg / 0x100000 = 2) :
    (s.ntcMarked x m).get f i = s.get f i := by
  refine get_set_other _ _ fun hkey => ?_
  have hreg : SLT_CH_STATUS_ntc_fault.reg = f.reg := congrArg RKey.reg hkey
  rw [← hreg] at hf
  exact absurd hf (by decide)

/-- The report of a bad NTC is one report of EV_SLT_NTC_FAULT. -/
theorem reports_ntcMarked (s : State) (x : Nat) (m : SlotSense) :
    Reports s (s.only ntcW ((s.ntcMarked x m).raise EV_SLT_NTC_FAULT 2 x)) EV_SLT_NTC_FAULT 2 x [] :=
  reports_of_raise (u := s.ntcMarked x m) rfl rfl rfl fun _ i hf => get_ntcMarked_evt s x m i hf

/-! ## The estimate with ntc_fault set -/

theorem slotBase_ntcFault {s : State} {x : Nat} (c : Slot) (h : s.flag SLT_CH_STATUS_ntc_fault x = true) :
    s.slotBase x c = ((s.get PWR_THERM_STATUS_inlet_c : Rat) + c.c, 0) := if_pos h

theorem cs_slotEstimate_ntcFault {s : State} {x : Nat} (c : Slot) (h : s.flag SLT_CH_STATUS_ntc_fault x = true) :
    (s.slotEstimate x c).cs = 0 := if_pos h

/-! ## The statement -/

/-- Settles O54: NTC_FAULT acts exactly on a bad NTC that was not known to be bad, and ntc_fault decides the estimate's base and cs. -/
theorem ntcFaults : Obligations.NtcFaults := by
  unfold Obligations.NtcFaults
  refine ⟨?bad, ?within, ?estimate⟩
  case bad =>
    intro s x m hx hout hclear
    have hexec := exec_ntcFault s m hx
    rw [ntcBad_of_out hout, hclear, Bool.not_false, Bool.and_true, if_pos rfl] at hexec
    exact ⟨_, hexec, (get_only_in _ _ _ _ _ rfl).trans (get_ntcMarked_fault s x m), cs_ntcMarked s x m, reports_ntcMarked s x m⟩
  case within =>
    intro s x m d hx hd hlo hhi
    have hexec := exec_ntcFault s m hx
    rw [ntcBad_of_within hd hlo hhi, Bool.false_and, if_neg Bool.false_ne_true, only_self] at hexec
    exact ⟨s, hexec, rfl, rfl, rfl⟩
  case estimate => exact fun s x c h => ⟨slotBase_ntcFault c h, cs_slotEstimate_ntcFault c h⟩

end Sys2Proof.Machine
end

section
/-! PROOFS. What holds of every command: it ends in a next state within its footprint, the queue behind it is kept, module memory is
written by packets, the peer window and resets alone, and keeps its canonical form. -/

namespace Sys2Proof.Machine

/-! ## Every command commits within its footprint -/

/-- Every command ends by taking an effect into the next state within its row of the footprint table. -/
theorem exec_commits (i : Instr) (s : State) : ∃ t, exec i s = .next (s.only (footprint i) t) := by
  cases i <;> exact ⟨_, rfl⟩

theorem exec_within {i : Instr} {s t : State} (h : exec i s = .next t) : Within (footprint i) s t := by
  obtain ⟨u, hu⟩ := exec_commits i s
  cases hu.symm.trans h
  exact within_only s u _

/-- Settles O4: a command takes its effect within its footprint and nothing else. -/
theorem frameOfEveryCommand : Obligations.FrameOfEveryCommand := by
  unfold Obligations.FrameOfEveryCommand
  intro i s t h
  have w := exec_within h
  exact ⟨w.regs, w.dtc, w.mem, w.evt, w.ctr, w.tel, w.hkt, w.tms, w.mac, w.swc, w.fwd, w.qpe, w.nsm, w.key, w.cip, w.hif, w.slc, w.str,
    w.jnl, w.drv, w.reb, w.pair, w.slt, w.boot, w.rime, w.pwr, w.freeCtr, w.outbox⟩

/-! ## The queue of commands -/

/-- A step takes the front of the queue and leaves the rest. -/
theorem after_succ (s : State) (n : Nat) : ∃ t : State, s.after (n + 1) = t.after n ∧ t.pending = s.pending.tail := by
  cases hq : s.pending with
  | nil => exact ⟨s.tick, by simp [State.after, step, hq], hq⟩
  | cons c l =>
    obtain ⟨u, hu⟩ := exec_commits c { s with pending := l }
    exact ⟨_, by simp only [State.after, step, hq, hu]; rfl, rfl⟩

theorem after_pending (n : Nat) : ∀ s : State, (s.after n).pending = s.pending.drop n := by
  induction n with
  | zero => exact fun s => rfl
  | succ n ih =>
    intro s
    obtain ⟨t, ht, hp⟩ := after_succ s n
    rw [ht, ih, hp, List.drop_tail]

/-- Settles O3: a command's end keeps the queue, and n steps drop its first n commands. -/
theorem everyCommandIsCarriedOut : Obligations.EveryCommandIsCarriedOut := by
  unfold Obligations.EveryCommandIsCarriedOut
  refine ⟨fun i s => ?_, fun s => ?_, fun s n h => ?_⟩
  · obtain ⟨u, hu⟩ := exec_commits i s
    exact ⟨_, hu, rfl⟩
  · rw [after_pending, List.drop_length]
  · rw [after_pending, List.drop_of_length_le h]

/-! ## What resets, stops and peer accesses do to memory -/

theorem seat_mem (s : State) (straps : Nat) (b : BootIn) : (s.seat straps b).mem = s.mem ∨ (s.seat straps b).mem = [] := by
  unfold State.seat
  dsimp only
  split
  · exact .inl rfl
  · split
    · exact .inr rfl
    · exact .inl rfl

theorem dumpPut_mem (s : State) (c : Nat) (e : List (Nat × NeveSlot)) (w : Word64) (l k : List Nat) (p : Bool) :
    (s.dumpPut c e w l k p).mem = s.mem := rfl

theorem stopDone_mem (s : State) (b : BootIn) : (s.stopDone b).mem = s.mem ∨ (s.stopDone b).mem = [] := by
  unfold State.stopDone
  split
  · split
    · exact .inl rfl
    · exact (stopEnd_mem _ _ _).imp_left (·.trans (by rw [dumpPut_mem, sameMem_mem]))
  · exact .inl rfl

theorem dumpSeal_mem (s : State) (l k : List Nat) (p : Bool) (b : BootIn) :
    (s.dumpSeal l k p b).mem = s.mem ∨ (s.dumpSeal l k p b).mem = [] := by
  unfold State.dumpSeal
  split
  · exact (stopEnd_mem _ _ _).imp_left (·.trans (sameMem_mem _ _))
  · exact .inl rfl

theorem button_mem (s : State) (ms : Nat) (b : BootIn) : (s.button ms b).mem = s.mem ∨ (s.button ms b).mem = [] := by
  unfold State.button
  split
  · exact .inl rfl
  split
  · exact .inl rfl
  split
  · exact .inl rfl
  split
  · split
    · exact .inr rfl
    · exact .inl rfl
  · exact .inl rfl

theorem feedSwitch_mem (s : State) (f : Nat) : (s.feedSwitch f).mem = s.mem := by
  unfold State.feedSwitch
  split <;> rfl

theorem feedQualify_mem (s : State) (f : Nat) (b : BootIn) : (s.feedQualify f b).mem = s.mem ∨ (s.feedQualify f b).mem = [] := by
  have leave : ∀ u : State, u.mem = s.mem →
      (if u.jnl.phase = .held && u.restarts then u.leaveHold u.boot.after b else u).mem = s.mem ∨
      (if u.jnl.phase = .held && u.restarts then u.leaveHold u.boot.after b else u).mem = [] := by
    intro u hu
    split
    · exact .inr (leaveHold_mem _ _ _)
    · exact .inl hu
  unfold State.feedQualify
  dsimp only
  split
  · exact .inl rfl
  split
  · exact .inl rfl
  apply leave
  rw [sameMem_mem]
  split
  · rfl
  · exact feedSwitch_mem _ _

theorem bootWatchdog_mem (s : State) (b : BootIn) (p : Bool) :
    (if p then s.warmReset 4 b else s).mem = s.mem ∨ (if p then s.warmReset 4 b else s).mem = [] := by
  cases p
  · exact .inl rfl
  · exact .inr (warmReset_mem _ _ _)

theorem peerAccess_read_mem (s : State) (off len : Nat) (d : List Byte) : (s.peerAccess false off len d).mem = s.mem := by
  unfold State.peerAccess
  split
  · rfl
  split <;> rfl

theorem peerAccess_memWf (s : State) (w : Bool) (off len : Nat) (d : List Byte) (h : memWf s.mem = true) :
    memWf (s.peerAccess w off len d).mem = true := by
  unfold State.peerAccess
  split
  · exact h
  split
  · split <;> exact h
  · split
    · exact memWf_memWriteBytes _ _ _ h
    · exact h

/-! ## Who writes memory, and that it stays canonical -/

theorem mem_of_commit {s t u : State} {w : Writes} (h : s.commit w u = .next t) (hw : w.part .mem = true) : t.mem = u.mem := by
  rw [← commit_next.mp h, only_mem, if_pos hw]

/-- Settles O5: the footprint of every other command leaves memory out; a reset empties it. -/
theorem whoWritesMemory : Obligations.WhoWritesMemory := by
  unfold Obligations.WhoWritesMemory
  intro i s t h hne
  have reset : ∀ {u : State}, (u.mem = s.mem ∨ u.mem = []) → t.mem = u.mem → t.mem = [] :=
    fun hu ht => ht.trans (hu.resolve_left fun e => hne (ht.trans e))
  cases i with
  | hktWriteRx hd x g => exact .inl ⟨hd, g, .inl ⟨x, rfl⟩⟩
  | hktReadReqRx hd x g => exact .inl ⟨hd, g, .inr (.inl ⟨x, rfl⟩)⟩
  | hktReadRespRx hd x g => exact .inl ⟨hd, g, .inr (.inr (.inl ⟨x, rfl⟩))⟩
  | hktSendRx hd x g => exact .inl ⟨hd, g, .inr (.inr (.inr (.inl ⟨x, rfl⟩)))⟩
  | hktDoorbellRx hd x g => exact .inl ⟨hd, g, .inr (.inr (.inr (.inr ⟨x, rfl⟩)))⟩
  | peerWindowAccess w off len d =>
    cases w with
    | true => exact .inr (.inl ⟨off, len, d, rfl⟩)
    | false => exact absurd ((mem_of_commit h rfl).trans (peerAccess_read_mem s off len d)) hne
  | coldReset a b c d => exact .inr (.inr ⟨(mem_of_commit h rfl).trans (coldReset_mem ..), by simp⟩)
  | warmReset a b => exact .inr (.inr ⟨(mem_of_commit h rfl).trans (warmReset_mem ..), by simp⟩)
  | dumpSeal a b c d => exact .inr (.inr ⟨reset (dumpSeal_mem ..) (mem_of_commit h rfl), by simp⟩)
  | orderlyStopDrained b => exact .inr (.inr ⟨reset (stopDone_mem ..) (mem_of_commit h rfl), by simp⟩)
  | moduleSeated a b => exact .inr (.inr ⟨reset (seat_mem ..) (mem_of_commit h rfl), by simp⟩)
  | buttonRelease a b => exact .inr (.inr ⟨reset (button_mem ..) (mem_of_commit h rfl), by simp⟩)
  | feedQualifying a b => exact .inr (.inr ⟨reset (feedQualify_mem ..) (mem_of_commit h rfl), by simp⟩)
  | bootWatchdog b => exact .inr (.inr ⟨reset (bootWatchdog_mem ..) (mem_of_commit h rfl), by simp⟩)
  | _ => exact absurd ((exec_within h).mem rfl) hne

theorem inv_of_mem {t u : State} (h : t.mem = u.mem) (hu : u.Inv) : t.Inv := by
  unfold State.Inv
  rw [h]
  exact hu

/-- Every command keeps the canonical form: a packet and a peer's write store bytes, a reset empties memory, no other command touches it. -/
theorem exec_inv {i : Instr} {s t : State} (hi : s.Inv) (h : exec i s = .next t) : t.Inv := by
  by_cases hne : t.mem = s.mem
  · exact inv_of_mem hne hi
  obtain ⟨hd, g, ⟨x, rfl⟩ | ⟨x, rfl⟩ | ⟨x, rfl⟩ | ⟨x, rfl⟩ | ⟨x, rfl⟩⟩ | ⟨off, len, d, rfl⟩ | ⟨he, -⟩ := whoWritesMemory i s t h hne
  iterate 5 exact inv_of_mem (mem_of_commit h rfl) (rxData_memWf _ _ _ hi)
  · exact inv_of_mem (mem_of_commit h rfl) (peerAccess_memWf _ _ _ _ _ hi)
  · unfold State.Inv; rw [he]; rfl

theorem step_inv {s t : State} (hi : s.Inv) (h : step s = .next t) : t.Inv := by
  unfold step at h
  split at h
  · cases h; exact hi
  · next c l _ => exact exec_inv (s := { s with pending := l }) (inv_of_mem rfl hi) h

theorem after_inv (n : Nat) : ∀ s : State, s.Inv → (s.after n).Inv := by
  induction n with
  | zero => exact fun s h => h
  | succ n ih =>
    intro s h
    unfold State.after
    split
    · exact ih _ (step_inv h ‹_›)
    · exact h

/-- Settles O6: the invariant holds after each step, and so, by induction, after any number of them. -/
theorem memoryStaysCanonical : Obligations.MemoryStaysCanonical :=
  ⟨fun _ _ => step_inv, fun s n => after_inv n s⟩

/-! ## The state before the first command -/

/-- Settles O2: State.reset lists no register, so each field reads its table's value. -/
theorem resetState : Obligations.ResetState := by
  unfold Obligations.ResetState
  exact ⟨rfl, rfl, rfl, rfl, rfl, fun _ _ => rfl, rfl, rfl, rfl, rfl, rfl, rfl, rfl, rfl, rfl, rfl, rfl⟩

end Sys2Proof.Machine
end

section
/-! PROOFS. Refutations about counters and event rings: a report counted while its own command runs, a message under a key being revoked. -/

namespace Sys2Proof.Machine
open F

/-! ## The state that a command leaves, as a value to compute -/

/-- The state that command i leaves. -/
def State.ran (s : State) (i : Instr) : State :=
  match exec i s with
  | .next t => t
  | _ => s

theorem eq_ran {i : Instr} {s t : State} (h : exec i s = .next t) : t = s.ran i := by
  unfold State.ran
  rw [h]

/-! ## O60: reporting the saturation of the counter of reports saturates it -/

/-- The counter of the reports of the CTR block, one below its limit, waits for its own report of saturation. -/
def satOwnCounter : State := { State.reset with ctr := { State.reset.ctr with vals := [(6106, (281474976710654, false))], satPend := [6106] } }

theorem satOwnCounter_waits_again :
    (satOwnCounter.ran (.counterSaturate 6106)).ctr.satPend.contains 6106 = true := by
  decide +kernel

/-- Refutes O60: the report of a saturated counter is itself counted, and the counter of the CTR block's reports saturates by it, so it
waits for its report again. -/
theorem not_countersAndHistograms : ¬ Obligations.CountersAndHistograms := by
  unfold Obligations.CountersAndHistograms
  rintro ⟨h, -⟩
  obtain ⟨t, ht, hn, -⟩ := h satOwnCounter 6106 (by decide)
  rw [eq_ran ht] at hn
  exact hn (List.contains_iff_mem.mp satOwnCounter_waits_again)

/-! ## O59: a notification under a key that is being revoked is no message -/

/-- Ring 0 goes to a network region that is being revoked, and has one record unnotified. -/
def notifyRevoked : State :=
  { (State.reset.set EVT_RING_CFG_target 0 2).set EVT_RING_DEST_region_key 0 3 with
    hkt := { State.reset.hkt with regions := [(3, { state := .revoking })] }
    evt := { State.reset.evt with rings := [(0, { unnotified := 1, lastWrite := some (0, []) })] } }

theorem notifyRevoked_sends_nothing :
    (notifyRevoked.ran (.ringNotifyExpiry 0)).hkt.nextMsg = notifyRevoked.hkt.nextMsg := by
  decide +kernel

/-- Refutes O59: the notification of a network ring whose region is being revoked takes no message id. -/
theorem not_eventRings : ¬ Obligations.EventRings := by
  unfold Obligations.EventRings
  rintro ⟨-, -, -, h, -⟩
  obtain ⟨t, ht, hn, -⟩ := h notifyRevoked 0 0 [] (by decide) (by decide +kernel) (by decide +kernel) (by decide +kernel)
  rw [eq_ran ht, notifyRevoked_sends_nothing] at hn
  exact absurd hn (by decide)

end Sys2Proof.Machine
end

section
/-! PROOFS. Priority flow control: what a port's priority is after a refresh, a received pause, its end, a storm and its quiet. -/

namespace Sys2Proof.Machine
open F

/-! ## The PFC state of a port's priority -/

@[simp] theorem pfc_putPfc_same (s : State) (p tc : Nat) (x : Pfc) : (s.putPfc p tc x).pfc p tc = x := by
  simp [State.pfc, State.putPfc, tgetD]

theorem pfc_putPfc_other (s : State) {p tc q c : Nat} (x : Pfc) (h : (q, c) ≠ (p, tc)) : (s.putPfc p tc x).pfc q c = s.pfc q c := by
  simp only [State.pfc, State.putPfc, tgetD]
  rw [tget_tput_other _ _ (Ne.symm h)]

theorem pfc_congr {s t : State} (h : t.mac = s.mac) (p tc : Nat) : t.pfc p tc = s.pfc p tc := by
  simp only [State.pfc, h]

@[simp] theorem pauseCounter_mac (s : State) (p : Nat) : (s.pauseCounter p).mac = s.mac := by
  unfold State.pauseCounter
  split <;> simp

@[simp] theorem pauseCounter_dtc (s : State) (p : Nat) : (s.pauseCounter p).dtc = s.dtc := by
  unfold State.pauseCounter
  split <;> simp

@[simp] theorem pauseCounter_evt (s : State) (p : Nat) : (s.pauseCounter p).evt = s.evt := by
  unfold State.pauseCounter
  split <;> simp

@[simp] theorem get_pauseCounter (s : State) (p : Nat) (f : Fld) (i : Nat) : (s.pauseCounter p).get f i = s.get f i := by
  unfold State.pauseCounter
  split <;> simp

theorem xoff_floor (s : State) (p : Nat) : 0x400 ≤ s.xoffCells p := Nat.le_max_right ..

/-! ## The operations -/

theorem sendPfc_outbox (s : State) (p tc n : Nat) : (s.sendPfc p tc n).outbox = s.outbox ++ [.pfc p tc n] := by
  simp [State.sendPfc]

theorem sendPfc_pfc (s : State) (p tc n q c : Nat) : (s.sendPfc p tc n).pfc q c = s.pfc q c :=
  pfc_congr (by simp [State.sendPfc]) q c

section
variable {s : State} {p tc : Nat} (on : s.pfcOn p tc = true) (up : (s.pfc p tc).tripped = false)
include on up

/-- With the threshold still reached, the thresholds change nothing. -/
theorem pfcWatch_held (x : (s.pfc p tc).xoff = true) (h : s.xoffCells p - 512 ≤ s.heldCells p tc) : s.pfcWatch p tc = s := by
  simp [State.pfcWatch, on, up, x, Nat.not_lt.mpr h]

/-- Below the threshold the pause ends with a zero pause. -/
theorem pfcWatch_ends (x : (s.pfc p tc).xoff = true) (h : s.heldCells p tc < s.xoffCells p - 512) :
    s.pfcWatch p tc = (s.putPfc p tc { s.pfc p tc with xoff := false }).sendPfc p tc 0 := by
  simp [State.pfcWatch, on, up, x, h]

theorem pfcTake_zero : (s.pfcTake p tc 0).pfc p tc = { s.pfc p tc with lastPfc := s.dtc, paused := none, stuck := none } := by
  simp [State.pfcTake, on, up]

theorem pfcTake_pause {n : Nat} (h : n ≠ 0) : ∃ k, (s.pfcTake p tc n).pfc p tc =
    { s.pfc p tc with lastPfc := s.dtc, paused := some (s.dtc + BitVec.ofNat 64 (n * 512 * 16 / (10 * s.portGbps p))), stuck := k } := by
  simp only [State.pfcTake, on, up, h, Bool.not_true, Bool.false_eq_true, if_false, pfc_putPfc_same]
  exact ⟨_, rfl⟩

end

/-- A frame of one priority is that priority taken. -/
theorem pfcRx_one (s : State) (p tc n : Nat) (h : tc < 8) (k : n < 65536) : (s.pfcRx p [(tc, n)]).mac = (s.pfcTake p tc n).mac := by
  simp [State.pfcRx, State.each, h, Nat.mod_eq_of_lt k]

/-- Settles O12: each command is one change of one priority's state, its pause frame or its report. -/
theorem priorityFlowControl : Obligations.PriorityFlowControl := by
  unfold Obligations.PriorityFlowControl
  refine ⟨fun s p tc _ on up x h => ⟨_, rfl, ?_⟩, fun s p tc _ on up x h => ⟨_, rfl, ?_⟩, fun s p tc n htc hn on up => ⟨_, rfl, ?_⟩,
    fun s p tc h => ⟨_, rfl, ?_⟩, fun s p tc on hp hd => ⟨_, rfl, ?_⟩, fun s p tc h => ⟨_, rfl, ?_⟩⟩
  · show (s.pfcRefresh p tc).outbox = _ ∧ ((s.pfcRefresh p tc).pfc p tc).xoff = true
    have e : s.pfcRefresh p tc = s.sendPfc p tc 0xFFFF := by simp [State.pfcRefresh, pfcWatch_held on up x h, on, up, x]
    rw [e, sendPfc_outbox, sendPfc_pfc]
    exact ⟨rfl, x⟩
  · show (s.pfcRefresh p tc).outbox = _ ∧ ((s.pfcRefresh p tc).pfc p tc).xoff = false
    have e : s.pfcRefresh p tc = (s.putPfc p tc { s.pfc p tc with xoff := false }).sendPfc p tc 0 := by
      simp [State.pfcRefresh, pfcWatch_ends on up x h, sendPfc_pfc]
    rw [e, sendPfc_outbox, sendPfc_pfc, pfc_putPfc_same]
    exact ⟨rfl, rfl⟩
  · show ((s.pfcRx p [(tc, n)]).pfc p tc).lastPfc = _ ∧ (n = 0 → ((s.pfcRx p [(tc, n)]).pfc p tc).paused = _) ∧
      (n ≠ 0 → ((s.pfcRx p [(tc, n)]).pfc p tc).paused = _)
    rw [pfc_congr (pfcRx_one s p tc n htc hn)]
    by_cases h0 : n = 0
    · subst h0
      simp [pfcTake_zero on up]
    · obtain ⟨k, e⟩ := pfcTake_pause on up h0
      simp [e, h0]
  · show ((s.pfcExpiry p tc).pfc p tc).paused = none
    have e : (s.pfcExpiry p tc).mac = (s.putPfc p tc { s.pfc p tc with paused := none, stuck := none }).mac := by simp [State.pfcExpiry, h]
    rw [pfc_congr e, pfc_putPfc_same]
  · let x := { s.pfc p tc with tripped := true, paused := none, stuck := none, xoff := false }
    let u := ((s.putPfc p tc x).pauseCounter p).enter (ctrMac p 10)
    have e : s.pfcTrip p tc = u.raise EV_MAC_PFC_STORM 1 p [tc] := by simp [State.pfcTrip, on, hp, hd, u, x]
    have m : (s.pfcTrip p tc).mac = (s.putPfc p tc x).mac := by rw [e]; simp [u]
    show ((s.pfcTrip p tc).pfc p tc).tripped = true ∧ ((s.pfcTrip p tc).pfc p tc).paused = none ∧ Reports s _ _ _ _ _
    rw [pfc_congr m, pfc_putPfc_same]
    refine ⟨rfl, rfl, reports_of_raise (u := u) (show (s.pfcTrip p tc).evt = _ by rw [e]) ?_ ?_ ?_⟩
    · simp [u, State.putPfc]
    · simp [u, State.putPfc]
    · intro f i _
      simp only [u, get_enter, get_pauseCounter]
      rfl
  · let x := { s.pfc p tc with tripped := false }
    let u := (s.putPfc p tc x).leave (ctrMac p 10)
    have e : s.pfcRestore p tc = u.raise EV_MAC_PFC_RESTORED 1 p [tc] := by simp [State.pfcRestore, h, u, x]
    have m : (s.pfcRestore p tc).mac = (s.putPfc p tc x).mac := by rw [e]; simp [u]
    show ((s.pfcRestore p tc).pfc p tc).tripped = false ∧ (∀ q c, (q, c) ≠ (p, tc) → (s.pfcRestore p tc).pfc q c = _) ∧ Reports s _ _ _ _ _
    refine ⟨by rw [pfc_congr m, pfc_putPfc_same], fun q c hq => by rw [pfc_congr m, pfc_putPfc_other _ _ hq],
      reports_of_raise (u := u) (show (s.pfcRestore p tc).evt = _ by rw [e]) ?_ ?_ ?_⟩
    · simp [u, State.putPfc]
    · simp [u, State.putPfc]
    · intro f i _
      simp only [u, get_leave]
      rfl

end Sys2Proof.Machine
end

section
/-! PROOFS. Support of the proofs below: reading a field after another field of the map is set, a report through a part of the state. -/

namespace Sys2Proof.Machine

/-! ## Register fields -/

/-- A field of another place in the map reads as before, whatever the elements. -/
theorem get_set_field (s : State) {f g : Fld} (i v j : Nat) (h : (f.reg, f.lo) ≠ (g.reg, g.lo)) : (s.set f i v).get g j = s.get g j := by
  refine get_set_other s v fun e => h ?_
  simp only [Fld.key, RKey.mk.injEq] at e
  simp [e]

/-- Another element of the same field reads as before. -/
theorem get_set_elem (s : State) (f : Fld) {i j : Nat} (v : Nat) (h : i ≠ j) : (s.set f i v).get f j = s.get f j :=
  get_set_other s v fun e => h (congrArg RKey.idx e)

theorem flag_set_field (s : State) {f g : Fld} (i v j : Nat) (h : (f.reg, f.lo) ≠ (g.reg, g.lo)) : (s.set f i v).flag g j = s.flag g j := by
  rw [State.flag, get_set_field s i v j h]
  rfl

theorem get_addSat_same (s : State) (f : Fld) (i n : Nat) : (s.addSat f i n).get f i = min (s.get f i + n) (2 ^ f.w - 1) := by
  have h : 0 < 2 ^ f.w := Nat.two_pow_pos _
  rw [State.addSat, get_set_same, Nat.mod_eq_of_lt]
  omega

theorem get_addSat_field (s : State) {f g : Fld} (i n j : Nat) (h : (f.reg, f.lo) ≠ (g.reg, g.lo)) :
    (s.addSat f i n).get g j = s.get g j := get_set_field s i _ j h

/-- Registers alike read alike. -/
theorem get_congr {s t : State} (h : t.regs = s.regs) (f : Fld) (i : Nat) : t.get f i = s.get f i := by
  rw [State.get, h]
  rfl

/-- A command whose footprint names every block takes every field. -/
theorem get_only_all (s t : State) (w : Writes) (f : Fld) (i : Nat) (hw : w.blocks = allBlocks) (hf : f.reg / 0x100000 < 24) :
    (s.only w t).get f i = t.get f i :=
  get_only_in s t w f i (by rw [field_key, hw, allBlocks]; simp only [List.contains_iff_mem.mpr (List.mem_range.mpr hf), Bool.true_or])

/-! ## Reports -/

/-- A report shows in the EVT block alone. -/
theorem Reports.congr {s t u : State} {e : EvType} {k c : Nat} {l : List Nat} (h : Reports s t e k c l) (he : u.evt = t.evt) :
    Reports s u e k c l := by
  obtain ⟨v, hd, hv, hr, ht⟩ := h
  exact ⟨v, hd, hv, hr, he.trans ht⟩

/-- A report raised by a state that has the clock, the EVT block and the EVT registers of `s`. -/
theorem reports_raise {s u : State} (e : EvType) (k c : Nat) (l : List Nat) (hd : u.dtc = s.dtc) (he : u.evt = s.evt)
    (hr : ∀ f i, f.reg / 0x100000 = 2 → u.get f i = s.get f i) : Reports s (u.raise e k c l) e k c l :=
  ⟨u, hd, he, hr, rfl⟩

end Sys2Proof.Machine
end

section
/-! PROOFS. Registers by address: which elements an access to GLB_SCRATCH, GLB_IDENT and STR_GROUP_CFG reaches, what a write through BAR0 leaves
there, and what a read reloads. -/

namespace Sys2Proof.Machine
open F

/-! ## The registers reached -/

/-- GLB_SCRATCH in the register table. -/
def scratchReg : RegDef := ⟨0x100, 8, 16, 0, 1, 64, [GLB_SCRATCH_data]⟩

/-- GLB_IDENT in the register table. -/
def identReg : RegDef :=
  ⟨0, 0, 1, 0, 1, 64, [GLB_IDENT_variant, GLB_IDENT_die_rev, GLB_IDENT_part, GLB_IDENT_module_id, GLB_IDENT_bay, GLB_IDENT_pair_shelf]⟩

/-- STR_GROUP_CFG in the register table. -/
def groupReg : RegDef :=
  ⟨0x1100100, 8, 16, 0, 1, 64, [STR_GROUP_CFG_fill_timeout, STR_GROUP_CFG_adapt_en, STR_GROUP_CFG_k_max, STR_GROUP_CFG_k_min, STR_GROUP_CFG_m]⟩

theorem regParts_scratch : ∀ i < 16, regParts (GLB_SCRATCH_data.reg + 8 * i) 8 = [⟨scratchReg, i, 0, 64, 0⟩] := by decide +kernel

theorem regParts_ident : regParts GLB_IDENT_variant.reg 8 = [⟨identReg, 0, 0, 64, 0⟩] := by decide +kernel

theorem regParts_group : ∀ g < 16, regParts (STR_GROUP_CFG_fill_timeout.reg + 8 * g) 8 = [⟨groupReg, g, 0, 64, 0⟩] := by decide +kernel

theorem accessOk_scratch : ∀ i < 16, accessOk (GLB_SCRATCH_data.reg + 8 * i) 8 = true := by decide +kernel

theorem accessOk_group : ∀ g < 16, accessOk (STR_GROUP_CFG_fill_timeout.reg + 8 * g) 8 = true := by decide +kernel

/-- A write through BAR0 of one element is that element written. -/
theorem regWrite_bar0 {s : State} {a v : Nat} {p : RegPart} (ha : accessOk a 8 = true) (hp : regParts a 8 = [p]) :
    s.regWrite .bar0 a 8 v = s.partWrite .bar0 p v := by
  have hc : s.accessCode .bar0 true a 8 = 0 := by simp [State.accessCode, ha, State.pathMay]
  simp [State.regWrite, hc, hp, State.each]

theorem partWrite_scratch (s : State) (path : AccessPath) (i v : Nat) :
    s.partWrite path ⟨scratchReg, i, 0, 64, 0⟩ v = s.partStore ⟨scratchReg, i, 0, 64, 0⟩ v (path = .core) := rfl

theorem partWrite_ident (s : State) (v : Nat) :
    s.partWrite .bar0 ⟨identReg, 0, 0, 64, 0⟩ v = s.partStore ⟨identReg, 0, 0, 64, 0⟩ v false := rfl

/-- The registers whose writes do more than store do not include STR_GROUP_CFG. -/
theorem partEffect_group (s : State) (g v : Nat) : s.partEffect .bar0 ⟨groupReg, g, 0, 64, 0⟩ v = none := by
  have hb : groupReg.base = 0x1100100 := rfl
  simp only [State.partEffect, hb]
  iterate 24 rw [if_neg (by decide)]

theorem partWrite_group (s : State) (g v : Nat) :
    s.partWrite .bar0 ⟨groupReg, g, 0, 64, 0⟩ v = s.partStore ⟨groupReg, g, 0, 64, 0⟩ v false := by
  rw [State.partWrite, partEffect_group]
  rfl

/-! ## What is stored -/

theorem absentReg_none {s : State} {base i : Nat} (h : regPort base i = none) : s.absentReg base i = false := by
  simp [State.absentReg, h]

/-- An access of 64 bits leaves the value, whatever stood there above the register's width. -/
theorem merge64 (d : RegDef) (i old v : Nat) : RegPart.merge ⟨d, i, 0, 64, 0⟩ old v = v % 2 ^ 64 + old / 2 ^ 64 * 2 ^ 64 := by
  simp [RegPart.merge, Nat.mod_one]

theorem partStore_scratch (s : State) (i v : Nat) (core : Bool) : ∃ n, n % 2 ^ 64 = v % 2 ^ 64 ∧
    s.partStore ⟨scratchReg, i, 0, 64, 0⟩ v core = s.set GLB_SCRATCH_data i n := by
  have ha : s.absentReg scratchReg.base i = false := absentReg_none rfl
  have hl : (scratchReg.fields.any fun f => f.acc = .rwl) = false := rfl
  refine ⟨RegPart.merge ⟨scratchReg, i, 0, 64, 0⟩ (s.get GLB_SCRATCH_data i) v, ?_, ?_⟩
  · rw [merge64]
    omega
  · have hf : (scratchReg.fields.filter (RegPart.hits ⟨scratchReg, i, 0, 64, 0⟩)) = [GLB_SCRATCH_data] := rfl
    simp only [State.partStore, ha, hf, hl, Bool.false_eq_true, if_false, Bool.and_false, List.foldl]
    simp [State.fieldWrite, GLB_SCRATCH_data]

theorem partStore_ident (s : State) (v : Nat) : s.partStore ⟨identReg, 0, 0, 64, 0⟩ v false = s := by
  have ha : s.absentReg identReg.base 0 = false := absentReg_none rfl
  have hl : (identReg.fields.any fun f => f.acc = .rwl) = false := rfl
  simp only [State.partStore, ha, hl, Bool.false_eq_true, if_false, Bool.and_false]
  rfl

theorem group_hits (g : Nat) : groupReg.fields.filter (RegPart.hits ⟨groupReg, g, 0, 64, 0⟩) = groupReg.fields := rfl

theorem group_rwl : (groupReg.fields.any fun f => f.acc = .rwl) = true := rfl

/-- After the lock no field of STR_GROUP_CFG is stored and the write is counted. -/
theorem partStore_group_locked (s : State) (g v : Nat) (h : s.get GLB_STATUS_cfg_lock = 1) :
    s.partStore ⟨groupReg, g, 0, 64, 0⟩ v false = s.addSat GLB_STATUS_rwl_ignored 0 1 := by
  have ha : s.absentReg groupReg.base g = false := absentReg_none rfl
  have hk : s.flag GLB_STATUS_cfg_lock = true := by simp [State.flag, h]
  simp only [State.partStore, ha, hk, group_hits, group_rwl, Bool.false_eq_true, if_false, Bool.and_true, if_true]
  rfl

/-- Before the lock every field of STR_GROUP_CFG is stored, fill_timeout first. -/
theorem partStore_group_open (s : State) (g v : Nat) (h : s.get GLB_STATUS_cfg_lock = 0) : ∃ a b c d,
    s.partStore ⟨groupReg, g, 0, 64, 0⟩ v false =
      ((((s.set STR_GROUP_CFG_fill_timeout g ((v % 2 ^ 64 + s.get STR_GROUP_CFG_fill_timeout g * 2 ^ 48 / 2 ^ 64 * 2 ^ 64) / 2 ^ 48)).set
        STR_GROUP_CFG_adapt_en g a).set STR_GROUP_CFG_k_max g b).set STR_GROUP_CFG_k_min g c).set STR_GROUP_CFG_m g d := by
  have ha : s.absentReg groupReg.base g = false := absentReg_none rfl
  have hk : s.flag GLB_STATUS_cfg_lock = false := by simp [State.flag, h]
  simp only [State.partStore, ha, hk, group_hits, Bool.false_eq_true, if_false, Bool.false_and, merge64]
  exact ⟨_, _, _, _, rfl⟩

/-! ## What a read reloads -/

theorem readOut_regs {s t : State} {a : Nat} {p : RegPart} (hp : regParts a 8 = [p]) (ht : s.readEffect p = t) :
    s.readOut a 8 = t.send (.regValue a (s.regPeek a 8)) := by
  simp [State.readOut, State.regRead, State.each, hp, ht]

/-- SWC_BUF_STATUS in the register table. -/
def bufReg : RegDef := ⟨0xB00018, 0, 1, 0, 1, 64, [SWC_BUF_STATUS_min_free, SWC_BUF_STATUS_free_cells]⟩

/-- PWR_BUS_STATUS in the register table. -/
def busReg : RegDef := ⟨0x500020, 0, 1, 0, 1, 64, [PWR_BUS_STATUS_vbus, PWR_BUS_STATUS_ibus, PWR_BUS_STATUS_vbus_min, PWR_BUS_STATUS_source]⟩

/-- SLT_CH_AVG in the register table. -/
def avgReg : RegDef := ⟨0x600400, 8, 32, 0, 1, 64, [SLT_CH_AVG_p_avg_dw, SLT_CH_AVG_p_max_dw, SLT_CH_AVG_tntc_c]⟩

theorem regParts_buf : regParts SWC_BUF_STATUS_min_free.reg 8 = [⟨bufReg, 0, 0, 64, 0⟩] := by decide +kernel

theorem regParts_bus : regParts PWR_BUS_STATUS_vbus_min.reg 8 = [⟨busReg, 0, 0, 64, 0⟩] := by decide +kernel

theorem regParts_avg : ∀ x < 32, regParts (SLT_CH_AVG_p_max_dw.reg + 8 * x) 8 = [⟨avgReg, x, 0, 64, 0⟩] := by decide +kernel

theorem readOut_buf (s : State) : s.readOut SWC_BUF_STATUS_min_free.reg 8 =
    (s.set SWC_BUF_STATUS_min_free 0 s.freeCells).send (.regValue SWC_BUF_STATUS_min_free.reg (s.regPeek SWC_BUF_STATUS_min_free.reg 8)) :=
  readOut_regs regParts_buf rfl

theorem readOut_bus (s : State) : s.readOut PWR_BUS_STATUS_vbus_min.reg 8 =
    (s.set PWR_BUS_STATUS_vbus_min 0 (s.get PWR_BUS_STATUS_vbus)).send
      (.regValue PWR_BUS_STATUS_vbus_min.reg (s.regPeek PWR_BUS_STATUS_vbus_min.reg 8)) :=
  readOut_regs regParts_bus rfl

theorem readOut_avg (s : State) {x : Nat} (h : x < 32) : s.readOut (SLT_CH_AVG_p_max_dw.reg + 8 * x) 8 =
    (s.set SLT_CH_AVG_p_max_dw x (s.get SLT_CH_MEAS_p_dw x)).send
      (.regValue (SLT_CH_AVG_p_max_dw.reg + 8 * x) (s.regPeek (SLT_CH_AVG_p_max_dw.reg + 8 * x) 8)) :=
  readOut_regs (regParts_avg x h) rfl

/-- Settles O7: an access reaches one element, a write stores its fields by their access codes, a read reloads one. -/
theorem registerReadsAndWrites : Obligations.RegisterReadsAndWrites := by
  unfold Obligations.RegisterReadsAndWrites
  refine ⟨fun s i v hi hv => ⟨_, rfl, ?_⟩, fun s v => ⟨_, rfl, fun f i => ?_⟩, fun s g v hg hl => ⟨_, rfl, ?_⟩,
    fun s g v hg hl hv => ⟨_, rfl, ?_⟩, fun s => ⟨_, rfl, ?_⟩, fun s => ⟨_, rfl, ?_⟩, fun s x hx => ⟨_, rfl, ?_⟩⟩
  · obtain ⟨n, hn, e⟩ := partStore_scratch s i v false
    rw [regWrite_bar0 (accessOk_scratch i hi) (regParts_scratch i hi), partWrite_scratch]
    simp only [reduceCtorEq, decide_false, e]
    refine ⟨?_, fun j hj => ?_⟩
    · rw [get_only_all _ _ _ _ _ rfl (by decide), get_set_same]
      exact hn.trans (Nat.mod_eq_of_lt hv)
    · rw [get_only_all _ _ _ _ _ rfl (by decide), get_set_elem _ _ _ (Ne.symm hj)]
  · rw [regWrite_bar0 rfl regParts_ident, partWrite_ident, partStore_ident, get_only]
    split <;> rfl
  · rw [regWrite_bar0 (accessOk_group g hg) (regParts_group g hg), partWrite_group, partStore_group_locked _ _ _ hl]
    exact ⟨(get_only_all _ _ _ _ _ rfl (by decide)).trans (get_addSat_field _ _ _ _ (by decide)), (get_only_all _ _ _ _ _ rfl (by decide)).trans (get_addSat_same ..)⟩
  · obtain ⟨a, b, c, d, e⟩ := partStore_group_open s g v hl
    rw [regWrite_bar0 (accessOk_group g hg) (regParts_group g hg), partWrite_group, e]
    refine ⟨(get_only_all _ _ _ _ _ rfl (by decide)).trans ?_, (get_only_all _ _ _ _ _ rfl (by decide)).trans ?_⟩
    · iterate 4 rw [get_set_field _ _ _ _ (by decide)]
      rw [get_set_same]
      show _ % 2 ^ 16 = _
      omega
    · iterate 5 rw [get_set_field _ _ _ _ (by decide)]
  · rw [readOut_buf]
    exact ⟨(get_only_in _ _ _ _ _ rfl).trans (get_set_same ..), rfl⟩
  · rw [readOut_bus]
    exact ⟨(get_only_in _ _ _ _ _ rfl).trans (get_set_same ..), rfl⟩
  · rw [Nat.mod_eq_of_lt hx, readOut_avg s hx]
    exact ⟨(get_only_in _ _ _ _ _ rfl).trans (get_set_same ..), rfl⟩

end Sys2Proof.Machine
end

section
/-! PROOFS. Support: contexts looked up after a change, and what sending packets on the contexts that stand leaves of the transport's state. -/

namespace Sys2Proof.Machine

/-! ## Contexts looked up -/

theorem ctxFind_eids {l : List HktCtx} {loc peer : Eid} {c : HktCtx} (h : ctxFind l loc peer = some c) :
    c.localEid = loc ∧ c.peerEid = peer := by
  have := List.find?_some h
  simpa using this

/-- Looking up after a context is changed in place. -/
theorem ctxFind_ctxSet (l : List HktCtx) (c : HktCtx) (loc peer : Eid) : ctxFind (ctxSet l c) loc peer =
    if c.localEid = loc ∧ c.peerEid = peer then (ctxFind l loc peer).map fun _ => c else ctxFind l loc peer := by
  induction l with
  | nil => simp [ctxFind, ctxSet]
  | cons d l ih =>
    simp only [ctxFind, ctxSet, List.map_cons, List.find?_cons] at ih ⊢
    by_cases hd : d.localEid = c.localEid ∧ d.peerEid = c.peerEid
    · obtain ⟨h1, h2⟩ := hd
      by_cases hc : c.localEid = loc ∧ c.peerEid = peer
      · simp [h1, h2, hc]
      · simp only [hc, if_false] at ih
        have : (decide (c.localEid = loc) && decide (c.peerEid = peer)) = false := by simpa using hc
        simp only [h1, h2, decide_true, Bool.and_self, if_true, this, hc, if_false]
        exact ih
    · have hd' : (decide (d.localEid = c.localEid) && decide (d.peerEid = c.peerEid)) = false := by simpa using hd
      simp only [hd', Bool.false_eq_true, if_false]
      by_cases hc : c.localEid = loc ∧ c.peerEid = peer
      · have : (decide (d.localEid = loc) && decide (d.peerEid = peer)) = false := by
          simp only [← hc.1, ← hc.2]
          exact hd'
        simp only [this, hc, and_self, if_true] at ih ⊢
        exact ih
      · simp only [hc, if_false] at ih ⊢
        split
        · rfl
        · exact ih

theorem ctx_putCtx (s : State) (c : HktCtx) (loc peer : Eid) : (s.putCtx c).ctx loc peer =
    if c.localEid = loc ∧ c.peerEid = peer then (s.ctx loc peer).map fun _ => c else s.ctx loc peer :=
  ctxFind_ctxSet _ _ _ _

/-- A context changed is the context found with the change. -/
theorem ctx_modCtx_same (s : State) (loc peer : Eid) (f : HktCtx → HktCtx) (hf : ∀ c, (f c).localEid = c.localEid ∧ (f c).peerEid = c.peerEid) :
    (s.modCtx loc peer f).ctx loc peer = (s.ctx loc peer).map f := by
  unfold State.modCtx
  cases h : ctxFind s.hkt.ctxs loc peer with
  | none => simp [State.ctx, h]
  | some c =>
    obtain ⟨h1, h2⟩ := ctxFind_eids h
    obtain ⟨g1, g2⟩ := hf c
    show (s.putCtx (f c)).ctx loc peer = _
    rw [ctx_putCtx, if_pos ⟨g1.trans h1, g2.trans h2⟩, State.ctx, h]
    rfl

theorem ctx_modCtx_other (s : State) {loc peer a b : Eid} (f : HktCtx → HktCtx) (hf : ∀ c, (f c).localEid = c.localEid ∧ (f c).peerEid = c.peerEid)
    (h : (a, b) ≠ (loc, peer)) : (s.modCtx loc peer f).ctx a b = s.ctx a b := by
  unfold State.modCtx
  cases hc : ctxFind s.hkt.ctxs loc peer with
  | none => rfl
  | some c =>
    obtain ⟨h1, h2⟩ := ctxFind_eids hc
    obtain ⟨g1, g2⟩ := hf c
    rw [ctx_putCtx, if_neg]
    rintro ⟨e1, e2⟩
    exact h (by rw [← e1, ← e2, g1, g2, h1, h2])

/-! ## What sending on a context keeps of it -/

/-- Two states of a context with the same acknowledgement, window, back-off, receiver-not-ready wait, receiving place and held packets. -/
structure SameAcks (c d : HktCtx) : Prop where
  una     : d.sndUna = c.sndUna
  rwnd    : d.peerRwnd = c.peerRwnd
  backoff : d.backoff = c.backoff
  rnr     : d.rnrWait = c.rnrWait
  rcv     : d.rcvNxt = c.rcvNxt
  fences  : d.fences = c.fences

theorem SameAcks.refl (c : HktCtx) : SameAcks c c := ⟨rfl, rfl, rfl, rfl, rfl, rfl⟩

theorem SameAcks.trans {c d e : HktCtx} (h : SameAcks c d) (g : SameAcks d e) : SameAcks c e :=
  ⟨g.una.trans h.una, g.rwnd.trans h.rwnd, g.backoff.trans h.backoff, g.rnr.trans h.rnr, g.rcv.trans h.rcv, g.fences.trans h.fences⟩

/-- What sending packets on the contexts that stand keeps: message ids, waiting messages, regions, the register access queue, and of each
context what `SameAcks` names. -/
structure Sends (s t : State) : Prop where
  nextMsg : t.hkt.nextMsg = s.hkt.nextMsg
  mgmt    : t.hkt.mgmt = s.hkt.mgmt
  regions : t.hkt.regions = s.hkt.regions
  waiting : t.hkt.waiting = s.hkt.waiting
  ctx     : ∀ loc peer c, s.ctx loc peer = some c → ∃ d, t.ctx loc peer = some d ∧ SameAcks c d

theorem Sends.of_hkt {s t : State} (h : t.hkt = s.hkt) : Sends s t := by
  refine ⟨by rw [h], by rw [h], by rw [h], by rw [h], fun loc peer c hc => ⟨c, ?_, .refl c⟩⟩
  rw [State.ctx, h]
  exact hc

theorem Sends.refl (s : State) : Sends s s := .of_hkt rfl

theorem Sends.trans {s t u : State} (h : Sends s t) (g : Sends t u) : Sends s u := by
  refine ⟨g.nextMsg.trans h.nextMsg, g.mgmt.trans h.mgmt, g.regions.trans h.regions, g.waiting.trans h.waiting, fun loc peer c hc => ?_⟩
  obtain ⟨d, hd, e⟩ := h.ctx loc peer c hc
  obtain ⟨d', hd', e'⟩ := g.ctx loc peer d hd
  exact ⟨d', hd', e.trans e'⟩

theorem sends_putCtx (s : State) (c : HktCtx) (h : ∀ d, s.ctx c.localEid c.peerEid = some d → SameAcks d c) : Sends s (s.putCtx c) := by
  refine ⟨rfl, rfl, rfl, rfl, fun loc peer d hd => ?_⟩
  rw [ctx_putCtx]
  by_cases hc : c.localEid = loc ∧ c.peerEid = peer
  · obtain ⟨h1, h2⟩ := hc
    subst h1 h2
    exact ⟨c, by simp [hd], h d hd⟩
  · exact ⟨d, by simp [hc, hd], .refl d⟩

theorem sends_modCtx (s : State) (loc peer : Eid) (f : HktCtx → HktCtx) (hf : ∀ c, (f c).localEid = c.localEid ∧ (f c).peerEid = c.peerEid)
    (h : ∀ c, SameAcks c (f c)) : Sends s (s.modCtx loc peer f) := by
  unfold State.modCtx
  cases hc : ctxFind s.hkt.ctxs loc peer with
  | none => exact .refl s
  | some c =>
    obtain ⟨h1, h2⟩ := ctxFind_eids hc
    obtain ⟨g1, g2⟩ := hf c
    refine sends_putCtx s (f c) fun d hd => ?_
    rw [g1, g2, h1, h2] at hd
    cases hc.symm.trans hd
    exact h c

theorem sends_each {α : Type} (f : State → α → State) (h : ∀ s a, Sends s (f s a)) (l : List α) (s : State) : Sends s (s.each l f) := by
  induction l generalizing s with
  | nil => exact .refl s
  | cons a l ih => exact (h s a).trans (ih (f s a))

/-! ## Packets -/

theorem sendOn_hkt (s : State) (p : HktPkt) (t : Nat) (y : Bool) (q : Nat) : (s.sendOn p t y q).hkt = s.hkt := by
  unfold State.sendOn State.dropAtQueue
  dsimp only
  split
  · rfl
  · split <;> rfl

theorem each_hkt {α : Type} (f : State → α → State) (h : ∀ s a, (f s a).hkt = s.hkt) (l : List α) (s : State) : (s.each l f).hkt = s.hkt := by
  induction l generalizing s with
  | nil => rfl
  | cons a l ih => exact (ih (f s a)).trans (h s a)

/-- A packet sent changes of the transport's state only what waits for the management port. -/
theorem sendPkt_hkt (s : State) (p : HktPkt) (t : Nat) (y : Bool) : ∃ l, (s.sendPkt p t y).hkt = { s.hkt with mgmtOut := l } := by
  unfold State.sendPkt
  dsimp only
  split
  · exact ⟨_, rfl⟩
  · refine ⟨s.hkt.mgmtOut, ?_⟩
    split
    · split <;> rfl
    · rw [each_hkt _ fun s q => sendOn_hkt s _ _ _ q]
      split <;> rfl

theorem sends_sendPkt (s : State) (p : HktPkt) (t : Nat) (y : Bool) : Sends s (s.sendPkt p t y) := by
  obtain ⟨l, e⟩ := sendPkt_hkt s p t y
  refine ⟨by rw [e], by rw [e], by rw [e], by rw [e], fun loc peer c hc => ⟨c, ?_, .refl c⟩⟩
  rw [State.ctx, e]
  exact hc

/-- A packet of a queued message sent: the context given and the one kept differ in what sending changes. -/
theorem sendOne_ctx (s : State) (c : HktCtx) (m : TxMsg) (r : List TxMsg) :
    SameAcks c (s.sendOne c m r).2 ∧ (s.sendOne c m r).2.localEid = c.localEid ∧ (s.sendOne c m r).2.peerEid = c.peerEid :=
  ⟨⟨rfl, rfl, rfl, rfl, rfl, rfl⟩, rfl, rfl⟩

theorem sends_sendOne (s : State) (c : HktCtx) (m : TxMsg) (r : List TxMsg) (h : s.ctx c.localEid c.peerEid = some c) :
    Sends s (s.sendOne c m r).1 ∧ (s.sendOne c m r).1.ctx c.localEid c.peerEid = some (s.sendOne c m r).2 := by
  obtain ⟨ha, h1, h2⟩ := sendOne_ctx s c m r
  let p := buildPkt c m (payloadMax s.hkt c.peerEid) m.sent (c.pickPath s.pathCount none)
  let u := ((s.sendPkt p m.tenant m.yellow).bump (ctrHkt (groupOf c.peerEid) 0)).bump (ctrHkt (groupOf c.peerEid) 2)
    ((s.sendPkt p m.tenant m.yellow).bump (ctrHkt (groupOf c.peerEid) 0) |>.wireBytes 0 p)
  have e : (s.sendOne c m r).1 = u.putCtx (s.sendOne c m r).2 := rfl
  obtain ⟨l, hu⟩ := sendPkt_hkt s p m.tenant m.yellow
  have hc : u.ctx c.localEid c.peerEid = some c := by
    have : u.hkt = { s.hkt with mgmtOut := l } := hu
    rw [State.ctx, this]
    exact h
  rw [e]
  refine ⟨.trans (t := u) ((sends_sendPkt s p _ _).trans (.of_hkt rfl)) (sends_putCtx _ _ fun d hd => ?_), ?_⟩
  · rw [h1, h2, hc] at hd
    cases hd
    exact ha
  · rw [ctx_putCtx, h1, h2, if_pos ⟨rfl, rfl⟩, hc]
    rfl

theorem sends_pumpCtx (n : Nat) : ∀ (s : State) (c : HktCtx), s.ctx c.localEid c.peerEid = some c → Sends s (State.pumpCtx n s c) := by
  induction n with
  | zero => exact fun s c _ => .refl s
  | succ n ih =>
    intro s c h
    unfold State.pumpCtx
    split
    · exact .refl s
    · next m rest _ =>
      split
      · obtain ⟨hs, hc⟩ := sends_sendOne s c m rest h
        obtain ⟨-, h1, h2⟩ := sendOne_ctx s c m rest
        refine hs.trans (ih (s.sendOne c m rest).1 (s.sendOne c m rest).2 ?_)
        rw [h1, h2]
        exact hc
      · exact .refl s

theorem calPut_hkt (s : State) (e : CalEntity) (b d : Word64) : (s.calPut e b d).hkt = s.hkt := by
  unfold State.calPut
  dsimp only
  split <;> rfl

theorem sends_pump (s : State) (loc peer : Eid) : Sends s (s.pump loc peer) := by
  unfold State.pump
  split
  · exact .refl s
  · next c h =>
    split
    · obtain ⟨h1, h2⟩ := ctxFind_eids h
      exact sends_pumpCtx _ _ _ (by rw [h1, h2]; exact h)
    · split
      · exact .refl s
      · exact .of_hkt (calPut_hkt _ _ _ _)

theorem sends_pumpAll (s : State) : Sends s s.pumpAll := sends_each _ (fun s (e : Eid × Eid) => sends_pump s e.1 e.2) _ _

/-! ## Messages -/

/-- Two states whose transport has the same message ids, register access queue, regions and waiting messages. -/
structure SameQueues (s t : State) : Prop where
  nextMsg : t.hkt.nextMsg = s.hkt.nextMsg
  mgmt    : t.hkt.mgmt = s.hkt.mgmt
  regions : t.hkt.regions = s.hkt.regions
  waiting : t.hkt.waiting = s.hkt.waiting

theorem SameQueues.of_hkt {s t : State} (h : t.hkt = s.hkt) : SameQueues s t := ⟨by rw [h], by rw [h], by rw [h], by rw [h]⟩

theorem SameQueues.trans {s t u : State} (h : SameQueues s t) (g : SameQueues t u) : SameQueues s u :=
  ⟨g.nextMsg.trans h.nextMsg, g.mgmt.trans h.mgmt, g.regions.trans h.regions, g.waiting.trans h.waiting⟩

theorem Sends.queues {s t : State} (h : Sends s t) : SameQueues s t := ⟨h.nextMsg, h.mgmt, h.regions, h.waiting⟩

theorem drbg_hkt (s : State) (n : Nat) : (s.drbg n).2.hkt = s.hkt := (within_drbg (w := { parts := [.key, .freeCtr] }) s n rfl rfl).hkt rfl

theorem nextEpoch_queues (s : State) (loc : Eid) : SameQueues s (s.nextEpoch loc).2 := by
  have h := drbg_hkt s 1
  unfold State.nextEpoch
  split
  next e t he =>
    have ht : t.hkt = s.hkt := by
      split at he <;> cases he
      · rfl
      · exact h
    exact .trans (t := t) (.of_hkt ht) ⟨rfl, rfl, rfl, rfl⟩

/-- A context made ready changes contexts, epochs and nothing else of the transport's state. -/
theorem needCtx_queues {s t : State} {loc peer : Eid} {c : HktCtx} (h : s.needCtx loc peer = some (c, t)) : SameQueues s t := by
  unfold State.needCtx at h
  split at h
  · split at h
    · split at h <;> (cases h; exact ⟨rfl, rfl, rfl, rfl⟩)
    · cases h; exact ⟨rfl, rfl, rfl, rfl⟩
  · split at h
    · cases h
    · have e := nextEpoch_queues s loc
      cases h
      exact ⟨e.nextMsg, e.mgmt, e.regions, e.waiting⟩

theorem spillFull_queues (s : State) : SameQueues s s.spillFull := by
  unfold State.spillFull
  split_ifs <;> exact ⟨rfl, rfl, rfl, rfl⟩

/-- A message not under a key being revoked takes the next message id, whether it is sent, waits for its window or for a context. -/
theorem sendMsg_nextMsg (s : State) (l p : Eid) (b : MsgBody) (f n : Bool) (v : Nat) (u : Purpose) (t : Nat) (y : Bool)
    (h : s.keyRevoking b.key = false) : (s.sendMsg l p b f n v u t y).hkt.nextMsg = s.hkt.nextMsg + 1 := by
  unfold State.sendMsg
  simp only [h, Bool.false_eq_true, if_false]
  split
  · exact (spillFull_queues _).nextMsg
  · next hn => exact (sends_pump _ _ _).nextMsg.trans (needCtx_queues hn).nextMsg

/-- A message sent leaves the register access queue and the regions. -/
theorem sendMsg_mgmt (s : State) (l p : Eid) (b : MsgBody) (f n : Bool) (v : Nat) (u : Purpose) (t : Nat) (y : Bool) :
    (s.sendMsg l p b f n v u t y).hkt.mgmt = s.hkt.mgmt ∧ (s.sendMsg l p b f n v u t y).hkt.regions = s.hkt.regions := by
  unfold State.sendMsg
  dsimp only
  split
  · exact ⟨rfl, rfl⟩
  split
  · exact ⟨(spillFull_queues _).mgmt, (spillFull_queues _).regions⟩
  · next hn =>
    exact ⟨(sends_pump _ _ _).mgmt.trans (needCtx_queues hn).mgmt, (sends_pump _ _ _).regions.trans (needCtx_queues hn).regions⟩

/-- Key 0 names no region. -/
theorem keyRevoking_zero (s : State) : s.keyRevoking 0 = false := by
  simp [State.keyRevoking]

theorem send_nextMsg (s : State) (l p : Eid) (c : Nat) (d : List Byte) (f n : Bool) (v : Nat) (u : Purpose) (t : Nat) (y : Bool) :
    (s.sendMsg l p (.send c d) f n v u t y).hkt.nextMsg = s.hkt.nextMsg + 1 :=
  sendMsg_nextMsg _ _ _ _ _ _ _ _ _ _ (keyRevoking_zero s)

theorem sendMsg_get (s : State) (l p : Eid) (b : MsgBody) (f n : Bool) (v : Nat) (u : Purpose) (t : Nat) (y : Bool) (g : Fld) (i : Nat)
    (h : messageW.field (g.key i) = false) : (s.sendMsg l p b f n v u t y).get g i = s.get g i :=
  (within_sendMsg s l p b f n v u t y).regs g i h

end Sys2Proof.Machine
end

section
/-! PROOFS. The register access service: its oldest message is malformed, or one entry that writes GLB_SCRATCH, with and without the right. -/

namespace Sys2Proof.Machine
open F

/-! ## Bytes -/

theorem leBytes_zero (v : Nat) : leBytes 0 v = [] := by simp [leBytes]

theorem leBytes_succ (n v : Nat) : leBytes (n + 1) v = BitVec.ofNat 8 v :: leBytes n (v / 256) := by
  simp only [leBytes, List.range_succ_eq_map, List.map_cons, List.map_map, List.cons.injEq]
  refine ⟨by simp, List.map_congr_left fun j _ => ?_⟩
  simp only [Function.comp, Nat.succ_eq_add_one, Nat.mul_add, Nat.pow_add, Nat.div_div_eq_div_mul]
  rw [Nat.mul_comm]

theorem leNat_leBytes (n v : Nat) : leNat (leBytes n v) = v % 2 ^ (8 * n) := by
  induction n generalizing v with
  | zero => simp [leBytes_zero, leNat, Nat.mod_one]
  | succ n ih =>
    rw [leBytes_succ]
    show (BitVec.ofNat 8 v).toNat + 256 * leNat (leBytes n (v / 256)) = _
    rw [ih, BitVec.toNat_ofNat, Nat.mul_succ, Nat.pow_add, Nat.mul_comm (2 ^ (8 * n)), Nat.mod_mul]

theorem beNat_beBytes (n v : Nat) : beNat (beBytes n v) = v % 2 ^ (8 * n) := by
  rw [beNat, beBytes, List.reverse_reverse, leNat_leBytes]

theorem beBytes_four (v : Nat) : ∃ a b c d, beBytes 4 v = [a, b, c, d] := by
  simp only [beBytes, leBytes_succ, leBytes_zero]
  exact ⟨_, _, _, _, rfl⟩

theorem beBytes_eight (v : Nat) : ∃ a b c d e f g h, beBytes 8 v = [a, b, c, d, e, f, g, h] := by
  simp only [beBytes, leBytes_succ, leBytes_zero]
  exact ⟨_, _, _, _, _, _, _, _, rfl⟩

/-! ## The message of one write -/

/-- The entry of a write of GLB_SCRATCH[i]. -/
def scratchEntry (i : Nat) (v : BitVec 64) : List Byte :=
  beBytes 4 (GLB_SCRATCH_data.reg + 8 * i) ++ [8, 1, 0, 0] ++ beBytes 8 v.toNat

/-- The header of a message of one entry. -/
def oneEntryHeader : List Byte := [1, 0, 0, 1, 0, 0, 0, 0, 0, 0, 0, 0, 0, 0, 0, 0]

theorem scratchMessage_eq (i : Nat) (v : BitVec 64) : scratchMessage i v = oneEntryHeader ++ scratchEntry i v := by
  simp [scratchMessage, oneEntryHeader, scratchEntry, beBytes, leBytes_succ, leBytes_zero]

theorem scratchEntry_bytes (i : Nat) (v : BitVec 64) : ∃ a b c d p q r s t u w x,
    beBytes 4 (GLB_SCRATCH_data.reg + 8 * i) = [a, b, c, d] ∧ beBytes 8 v.toNat = [p, q, r, s, t, u, w, x] ∧
    scratchEntry i v = [a, b, c, d, 8, 1, 0, 0, p, q, r, s, t, u, w, x] := by
  obtain ⟨a, b, c, d, h⟩ := beBytes_four (GLB_SCRATCH_data.reg + 8 * i)
  obtain ⟨p, q, r, s, t, u, w, x, g⟩ := beBytes_eight v.toNat
  exact ⟨a, b, c, d, p, q, r, s, t, u, w, x, h, g, by simp [scratchEntry, h, g]⟩

theorem scratchMessage_entries (i : Nat) (v : BitVec 64) : chunksOf 16 ((scratchMessage i v).drop 16) = [scratchEntry i v] := by
  obtain ⟨a, b, c, d, p, q, r, s, t, u, w, x, -, -, h⟩ := scratchEntry_bytes i v
  simp [scratchMessage_eq, oneEntryHeader, h, chunksOf]

theorem scratchMessage_formed (i : Nat) (v : BitVec 64) : mgmtMalformed (scratchMessage i v) = false := by
  obtain ⟨a, b, c, d, p, q, r, s, t, u, w, x, -, -, h⟩ := scratchEntry_bytes i v
  have hc := scratchMessage_entries i v
  simp only [mgmtMalformed, hc]
  simp [scratchMessage_eq, oneEntryHeader, h, beAt, beNat, leNat]

theorem scratchEntry_kind (i : Nat) (v : BitVec 64) : beAt (scratchEntry i v) 4 1 = 8 ∧ beAt (scratchEntry i v) 5 1 = 1 := by
  obtain ⟨a, b, c, d, p, q, r, s, t, u, w, x, -, -, h⟩ := scratchEntry_bytes i v
  simp [h, beAt, beNat, leNat]

theorem scratchEntry_address {i : Nat} (v : BitVec 64) (h : i < 16) : beAt (scratchEntry i v) 0 4 = GLB_SCRATCH_data.reg + 8 * i := by
  obtain ⟨a, b, c, d, p, q, r, s, t, u, w, x, g, -, e⟩ := scratchEntry_bytes i v
  have hb : beAt (scratchEntry i v) 0 4 = beNat (beBytes 4 (GLB_SCRATCH_data.reg + 8 * i)) := by simp [e, g, beAt]
  rw [hb, beNat_beBytes]
  show (0x100 + 8 * i) % 2 ^ 32 = 0x100 + 8 * i
  omega

theorem scratchEntry_value (i : Nat) (v : BitVec 64) : beAt (scratchEntry i v) 8 8 = v.toNat := by
  obtain ⟨a, b, c, d, p, q, r, s, t, u, w, x, -, g, e⟩ := scratchEntry_bytes i v
  have hb : beAt (scratchEntry i v) 8 8 = beNat (beBytes 8 v.toNat) := by simp [e, g, beAt]
  rw [hb, beNat_beBytes]
  exact Nat.mod_eq_of_lt v.isLt

/-! ## The entry executed -/

theorem serviceMay_scratch (s : State) (e : Eid) (i : Nat) : s.serviceMay e true [⟨scratchReg, i, 0, 64, 0⟩] = fbit (s.mgmtRights e) 1 := by
  have h1 : commandRegs.contains scratchReg.base = false := by decide
  have h2 : decide (scratchReg.base = EVT_RING_PTR_head.reg) = false := by decide
  have h3 : decide (scratchReg.base = CTR_TGT_PTR_head.reg) = false := by decide
  simp only [State.serviceMay, List.isEmpty_cons, Bool.false_eq_true, if_false, List.all_cons, List.all_nil, h1, h2, h3, if_true,
    Bool.false_and, Bool.or_false, Bool.and_false, Bool.and_true]

theorem accessCode_scratch (s : State) (e : Eid) {i : Nat} (h : i < 16) :
    s.accessCode (.service e) true (GLB_SCRATCH_data.reg + 8 * i) 8 = if fbit (s.mgmtRights e) 1 then 0 else 1 := by
  simp only [State.accessCode, accessOk_scratch i h, State.pathMay, regParts_scratch i h, serviceMay_scratch]
  cases fbit (s.mgmtRights e) 1 <;> rfl

/-- With the right the register is written. -/
theorem mgmtEntry_may {s : State} {e : Eid} {i : Nat} (v : Nat) (h : i < 16) (hr : s.mgmtRights e / 2 % 2 = 1) :
    ∃ n, n % 2 ^ 64 = v % 2 ^ 64 ∧ s.mgmtEntry e (GLB_SCRATCH_data.reg + 8 * i) 8 1 v = (s.set GLB_SCRATCH_data i n, v, 0) := by
  have hf : fbit (s.mgmtRights e) 1 = true := by simpa [fbit] using hr
  have hc : s.accessCode (.service e) true (GLB_SCRATCH_data.reg + 8 * i) 8 = 0 := by rw [accessCode_scratch s e h, if_pos hf]
  obtain ⟨n, hn, hs⟩ := partStore_scratch s i v false
  refine ⟨n, hn, ?_⟩
  have hw : s.regWrite (.service e) (GLB_SCRATCH_data.reg + 8 * i) 8 v = s.set GLB_SCRATCH_data i n := by
    rw [← hs]
    simp only [State.regWrite, hc, regParts_scratch i h, State.each, List.foldl, partWrite_scratch]
    rfl
  simp [State.mgmtEntry, hc, hw]

/-- Without it the access is counted and nothing else happens. -/
theorem mgmtEntry_denied {s : State} {e : Eid} {i : Nat} (v : Nat) (h : i < 16) (hr : s.mgmtRights e / 2 % 2 = 0) :
    s.mgmtEntry e (GLB_SCRATCH_data.reg + 8 * i) 8 1 v = (s.addSat GLB_STATUS_mgmt_denied 0 1, v, 1) := by
  have hf : fbit (s.mgmtRights e) 1 = false := by simp [fbit, hr]
  have hc : s.accessCode (.service e) true (GLB_SCRATCH_data.reg + 8 * i) 8 = 1 := by rw [accessCode_scratch s e h, hf]; rfl
  simp [State.mgmtEntry, hc, State.denied]

/-- The service's oldest message taken. -/
def State.mgmtRest (s : State) (rest : List (Eid × Eid × List Byte)) : State := { s with hkt := { s.hkt with mgmt := rest } }

/-- A message of one entry is that entry executed and a reply sent. -/
theorem mgmtAccess_entry {s u : State} {src dst : Eid} {rest : List (Eid × Eid × List Byte)} {i c w : Nat} {v : BitVec 64} (hi : i < 16)
    (hm : s.hkt.mgmt = (src, dst, scratchMessage i v) :: rest)
    (he : (s.mgmtRest rest).mgmtEntry src (GLB_SCRATCH_data.reg + 8 * i) 8 1 v.toNat = (u, w, c)) :
    ∃ d, s.mgmtAccess = u.sendMsg dst src (.send 2 d) false false 7 .mgmtReply := by
  obtain ⟨h1, h2⟩ := scratchEntry_kind i v
  have hl : (s.mgmtRest rest).mgmtEntries src [scratchEntry i v] false [] =
      (u, [] ++ (scratchEntry i v).take 6 ++ beBytes 1 c ++ beBytes 1 0 ++ beBytes 8 w, c != 0) := by
    simp only [State.mgmtEntries, scratchEntry_address v hi, scratchEntry_value, h1, h2, he, Bool.false_eq_true, if_false]
  unfold State.mgmtAccess
  simp only [hm, scratchMessage_formed, scratchMessage_entries, Bool.false_eq_true, if_false]
  unfold State.mgmtRest at hl
  rw [hl]
  exact ⟨_, rfl⟩

theorem mgmtAccess_malformed {s : State} {src dst : Eid} {l : List Byte} {rest : List (Eid × Eid × List Byte)}
    (hm : s.hkt.mgmt = (src, dst, l) :: rest) (hb : mgmtMalformed l = true) :
    ∃ d, s.mgmtAccess = (s.mgmtRest rest).sendMsg dst src (.send 2 d) false false 7 .mgmtReply := by
  unfold State.mgmtAccess
  simp only [hm, hb, if_true]
  exact ⟨_, rfl⟩

/-- Settles O8: one message is one reply, and its entry one register written or one denial counted. -/
theorem registerAccessService : Obligations.RegisterAccessService := by
  unfold Obligations.RegisterAccessService
  refine ⟨fun s src dst l rest hm hb => ⟨_, rfl, ?_⟩, fun s src dst rest i v hi hm hr => ⟨_, rfl, ?_⟩,
    fun s src dst rest i v hi hm hr => ⟨_, rfl, ?_⟩⟩
  · obtain ⟨d, e⟩ := mgmtAccess_malformed hm hb
    rw [e]
    exact ⟨send_nextMsg (s.mgmtRest rest) .., fun i => (get_only_all _ _ _ _ _ rfl (by decide)).trans (sendMsg_get _ _ _ _ _ _ _ _ _ _ _ _ rfl)⟩
  · obtain ⟨n, hn, he⟩ := mgmtEntry_may (s := s.mgmtRest rest) v.toNat hi hr
    obtain ⟨d, e⟩ := mgmtAccess_entry hi hm he
    rw [e]
    refine ⟨(get_only_all _ _ _ _ _ rfl (by decide)).trans ?_, send_nextMsg ((s.mgmtRest rest).set GLB_SCRATCH_data i n) ..⟩
    rw [sendMsg_get _ _ _ _ _ _ _ _ _ _ _ _ rfl, get_set_same]
    exact hn.trans (Nat.mod_eq_of_lt v.isLt)
  · obtain ⟨d, e⟩ := mgmtAccess_entry hi hm (mgmtEntry_denied (s := s.mgmtRest rest) v.toNat hi hr)
    rw [e]
    refine ⟨(get_only_all _ _ _ _ _ rfl (by decide)).trans ?_, (get_only_all _ _ _ _ _ rfl (by decide)).trans ?_⟩
    · rw [sendMsg_get _ _ _ _ _ _ _ _ _ _ _ _ rfl, get_addSat_field _ _ _ _ (by decide)]
      rfl
    · rw [sendMsg_get _ _ _ _ _ _ _ _ _ _ _ _ rfl, get_addSat_same]
      rfl

end Sys2Proof.Machine
end

section
/-! PROOFS. WAIT, the Abort that names one command or none, and the holds at their limit: each ends in the completion of a running command. -/

namespace Sys2Proof.Machine
open F

/-! ## What a completion leaves complete -/

/-- A complete command stays complete, as it is, when a command completes. -/
theorem Completes.complete {s : State} {c : Nat} {st : Status} {a b : Word32} (h : Completes s c st a b) (k : Nat) (st' : Status)
    (a' b' : Word32) : Completes (s.complete k st' a' b') c st a b := by
  obtain ⟨x, hx, hd, hs⟩ := h
  by_cases hk : c = k
  · subst hk
    have e : s.complete c st' a' b' = s := by simp [State.complete, hx, hd]
    rw [e]
    exact ⟨x, hx, hd, hs⟩
  · exact ⟨x, (cmd_complete_other s hk st' a' b').trans hx, hd, hs⟩

theorem Completes.completeAll {s : State} {c : Nat} {st : Status} {a b : Word32} (h : Completes s c st a b) (l : List Nat) (st' : Status)
    (a' b' : Word32) : Completes (s.completeAll l st' a' b') c st a b := by
  unfold State.completeAll State.each
  induction l generalizing s with
  | nil => exact h
  | cons k l ih => exact ih (h.complete k st' a' b')

theorem Completes.modQp {s : State} {c : Nat} {st : Status} {a b : Word32} (h : Completes s c st a b) (q : Nat) (f : Qp → Qp) :
    Completes (s.modQp q f) c st a b := h

section
variable {s : State} {c : Nat} {x : Cmd} {q : Qp} (h : Running s c x q)
include h

/-- What a command's completion leaves of the QPE block completes it, in whatever state has that block. -/
theorem Running.completes_of_qpe {t : State} (st : Status) (a b : Word32) (e : t.qpe = (s.complete c st a b).qpe) : Completes t c st a b :=
  (h.complete_completes st a b).congr e

/-! ## WAIT (R123 to R125) -/

theorem waitCheck_satisfied {y : Qp} (op : x.sqe.opcode = 0x80) (st : x.phase = .started) (nb : x.begun = false)
    (hy : s.qp (x.sqe.cdw10.toNat % 65536) = some y) (ha : y.state = .active)
    (he : (x.sqe.cdw10.toNat / 65536) % 2 = 1 → y.errCount = x.errMark) (hw : waitSatisfied y.cmplCount x.sqe.cdw11.toNat = true) :
    s.waitCheck c = s.complete c St.ok (BitVec.ofNat 32 y.cmplCount) := by
  have hb : (decide ((x.sqe.cdw10.toNat / 65536) % 2 = 1) && y.errCount != x.errMark) = false := by
    by_cases hm : (x.sqe.cdw10.toNat / 65536) % 2 = 1
    · simp [hm, he hm]
    · simp [hm]
  simp only [State.waitCheck, h.cmd, op, st, nb, hy, ha, hw, hb, bne_self_eq_false, Bool.or_self, Bool.false_eq_true, if_false, if_true]

theorem waitCheck_gone {y : Qp} (op : x.sqe.opcode = 0x80) (st : x.phase = .started) (nb : x.begun = false)
    (hy : s.qp (x.sqe.cdw10.toNat % 65536) = some y) (ha : y.state ≠ .active) :
    s.waitCheck c = s.breakChain c (x.sqe.cdw10.toNat % 65536) := by
  simp [State.waitCheck, h.cmd, op, st, nb, hy, ha]

/-- A chain broken completes the WAIT that waited for its target; what it completes besides is not complete yet. -/
theorem breakChain_completes {t : Nat} {y : Qp} (hy : s.qp t = some y) :
    Completes (s.breakChain c t) c St.chainBroken (BitVec.ofNat 32 t) (BitVec.ofNat 32 y.errCount) := by
  simp only [State.breakChain, h.cmd, hy]
  exact (((h.complete_completes _ _ _).completeAll _ _ _ _).modQp _ _)

theorem waitTimeout_begun (op : x.sqe.opcode = 0x80) (st : x.phase = .started) (nb : x.begun = true) (hm : x.sqe.cdw12.toNat % 65536 ≠ 0) :
    s.waitTimeout c = s.complete c St.heldTimeout 1 (BitVec.ofNat 32 (x.sqe.cdw12.toNat % 65536)) := by
  simp [State.waitTimeout, h.cmd, op, st, nb, hm]

/-! ## Holds at their limit (R133, R341) -/

theorem adminHoldTimeout_held (hh : x.adminHold.isSome = true) (st : x.phase = .fetched) :
    s.adminHoldTimeout c = s.complete c St.heldTimeout 2 (BitVec.ofNat 32 (max (s.get QPE_HOLD_CFG_admin_hold_ms) 200)) := by
  simp [State.adminHoldTimeout, h.cmd, hh, st]

theorem ownerHoldTimeout_held (hh : x.ownerHold.isSome = true) :
    s.ownerHoldTimeout c = s.complete c St.heldTimeout 3 (BitVec.ofNat 32 (max (s.get QPE_HOLD_CFG_owner_hold_ms) 50)) := by
  simp [State.ownerHoldTimeout, h.cmd, hh, h.open_]

/-! ## Abort (R126, R127) -/

omit h in
/-- With no other command of opcode 8 no Abort stands before this one. -/
theorem abortsBefore_only (o : QOwner) (hone : ∀ e ∈ s.qpe.cmds, e.2.sqe.opcode = 8 → e.1 = c) : s.abortsBefore c o = [] := by
  unfold State.abortsBefore
  rw [List.filter_eq_nil_iff]
  intro e he hp
  have hne : (e.1 != c) = true := List.mem_takeWhile_imp (p := fun e : Nat × Cmd => e.1 != c) he
  have hmem : e ∈ s.qpe.cmds := (List.takeWhile_subset _) he
  simp only [Bool.and_eq_true, decide_eq_true_eq] at hp
  simp [hone e hmem hp.1.2] at hne

/-- An Abort within the limit is decided by the command that it names. -/
theorem abort_decided (hadm : s.isAdmin x.qpn = true) (hop : x.sqe.opcode = 8) (hfree : x.adminHold = none)
    (hone : ∀ e ∈ s.qpe.cmds, e.2.sqe.opcode = 8 → e.1 = c) :
    s.abort c = match (if (s.ownQp q.owner (x.sqe.cdw10.toNat % 65536)).isSome then s.qpe.cmds.find? fun (k, y) =>
        k != c && y.qpn = x.sqe.cdw10.toNat % 65536 && y.sqe.cid = x.sqe.cdw10.toNat / 65536 && y.phase = .fetched ||
          (k != c && y.qpn = x.sqe.cdw10.toNat % 65536 && y.sqe.cid = x.sqe.cdw10.toNat / 65536 && y.sqe.opcode = 0x80 && y.phase = .started)
      else none) with
    | some (k, _) => (s.complete k St.abortRequested).complete c St.ok 0
    | none => s.complete c St.ok 1 := by
  have howner : s.ownerOf x = some q.owner := by simp [State.ownerOf, h.qp]
  have hb := abortsBefore_only q.owner hone
  unfold State.abortsBefore at hb
  simp only [State.abort, h.cmd, h.open_, hadm, hop, hfree, howner, hb, decide_false, Bool.not_true, bne_self_eq_false, Option.isSome_none,
    Bool.or_self, Bool.false_eq_true, if_false, List.length_nil, Nat.reduceLeDiff] <;> rfl

theorem abort_names {k : Nat} {y : Cmd} {r : Qp} (hadm : s.isAdmin x.qpn = true) (hop : x.sqe.opcode = 8) (hfree : x.adminHold = none)
    (hone : ∀ e ∈ s.qpe.cmds, e.2.sqe.opcode = 8 → e.1 = c) (hk : c ≠ k) (hy : Running s k y r) (ho : r.owner = q.owner)
    (hf : y.phase = .fetched) (hq : y.qpn = x.sqe.cdw10.toNat % 65536) (hc : y.sqe.cid = x.sqe.cdw10.toNat / 65536)
    (huniq : ∀ e ∈ s.qpe.cmds, e.2.qpn = y.qpn → e.2.sqe.cid = y.sqe.cid → e.1 = k) :
    s.abort c = (s.complete k St.abortRequested).complete c St.ok := by
  have hown : (s.ownQp q.owner (x.sqe.cdw10.toNat % 65536)).isSome = true := by
    rw [← hq]
    simp [State.ownQp, hy.qp, ho]
  rw [abort_decided h hadm hop hfree hone, if_pos hown]
  split
  · next k' y' hfind =>
    have hmem := List.mem_of_find?_eq_some hfind
    have hp := List.find?_some hfind
    have hkk : k' = k := by
      refine huniq _ hmem ?_ ?_ <;> grind
    rw [hkk]
  · next hfind =>
    rw [List.find?_eq_none] at hfind
    have := hfind (k, y) (mem_of_tget hy.cmd)
    simp [hq, hc, hf, Ne.symm hk] at this

theorem abort_names_none (hadm : s.isAdmin x.qpn = true) (hop : x.sqe.opcode = 8) (hfree : x.adminHold = none)
    (hone : ∀ e ∈ s.qpe.cmds, e.2.sqe.opcode = 8 → e.1 = c)
    (hnone : ∀ e ∈ s.qpe.cmds, e.1 ≠ c → e.2.qpn = x.sqe.cdw10.toNat % 65536 → e.2.sqe.cid ≠ x.sqe.cdw10.toNat / 65536) :
    s.abort c = s.complete c St.ok 1 := by
  rw [abort_decided h hadm hop hfree hone]
  split
  · next k' y' hfind =>
    split at hfind
    · have hmem := List.mem_of_find?_eq_some hfind
      have hp := List.find?_some hfind
      exact absurd (by grind) (hnone _ hmem (by grind) (by grind))
    · cases hfind
  · rfl

end

/-- Settles O19: each command's decision is one completion, of the WAIT, of the Abort and the command it names, or of the held command. -/
theorem waitAbortAndHolds : Obligations.WaitAbortAndHolds := by
  unfold Obligations.WaitAbortAndHolds
  refine ⟨fun s c x q y h op st nb hy ha he hw => ⟨_, rfl, ?_⟩, fun s c x q y h op st nb hy ha => ⟨_, rfl, ?_⟩,
    fun s c x q h op st nb hm => ⟨_, rfl, ?_⟩, fun s c k x y q r h hadm hop hfree hone hk hy ho hf hq hc huniq => ⟨_, rfl, ?_⟩,
    fun s c x q h hadm hop hfree hone hnone => ⟨_, rfl, ?_⟩, fun s c x q h hh st => ⟨_, rfl, ?_⟩, fun s c x q h hh => ⟨_, rfl, ?_⟩⟩
  · exact h.completes_of_qpe _ _ _ (waitCheck_satisfied h op st nb hy ha he hw ▸ rfl)
  · exact (breakChain_completes h hy).congr (waitCheck_gone h op st nb hy ha ▸ rfl)
  · exact h.completes_of_qpe _ _ _ (waitTimeout_begun h op st nb hm ▸ rfl)
  · have e := congrArg State.qpe (abort_names h hadm hop hfree hone hk hy ho hf hq hc huniq)
    obtain ⟨z, hz⟩ := h.complete_other hk St.abortRequested 0 0
    refine ⟨?_, hz.completes_of_qpe _ _ _ e⟩
    obtain ⟨d, hd, hr⟩ := hy.complete_completes St.abortRequested 0 0
    refine ⟨d, ?_, hr⟩
    rw [← hd, ← cmd_complete_other (s.complete k St.abortRequested) (Ne.symm hk) St.ok 0 0]
    exact congrArg (fun u : Qpe => tget u.cmds k) e
  · have e := congrArg State.qpe (abort_names_none h hadm hop hfree hone hnone)
    refine ⟨h.completes_of_qpe _ _ _ e, fun k hk => ?_⟩
    rw [← cmd_complete_other s hk St.ok 1 0]
    exact congrArg (fun u : Qpe => tget u.cmds k) e
  · exact h.completes_of_qpe _ _ _ (adminHoldTimeout_held h hh st ▸ rfl)
  · exact h.completes_of_qpe _ _ _ (ownerHoldTimeout_held h hh ▸ rfl)

end Sys2Proof.Machine
end

section
/-! PROOFS. Support: how a dump begins (R262 step 3) and an orderly stop (R269 step 1). -/

namespace Sys2Proof.Machine

open F

/-- Fields of different blocks lie in different places. -/
theorem place_ne {f g : Fld} {n : Nat} (hf : f.reg / 0x100000 ≠ n) (hg : g.reg / 0x100000 = n) : (f.reg, f.lo) ≠ (g.reg, g.lo) :=
  fun k => hf (by rw [show f.reg = g.reg from congrArg Prod.fst k, hg])

theorem reg_ne {f g : Fld} {n : Nat} (hf : f.reg / 0x100000 ≠ n) (hg : g.reg / 0x100000 = n) : g.reg ≠ f.reg :=
  fun k => hf (by rw [← k, hg])

/-! ## A dump begins -/

theorem each_jnl {α β : Type} (g : Jnl → β) (f : State → α → State) (h : ∀ s a, g (f s a).jnl = g s.jnl) (l : List α) (s : State) :
    g (s.each l f).jnl = g s.jnl := by
  induction l generalizing s with
  | nil => rfl
  | cons a l ih => exact (ih (f s a)).trans (h s a)

@[simp] theorem pairSend_jnl (s : State) (m : PairMsg) : (s.pairSend m).jnl = s.jnl := by
  unfold State.pairSend
  split <;> simp

@[simp] theorem waterCheck_jnl (s : State) : s.waterCheck.jnl = s.jnl := by
  unfold State.waterCheck
  dsimp only
  split_ifs <;> simp

theorem tdel_of_none {κ α : Type} [DecidableEq κ] {m : Table κ α} {k : κ} (h : tget m k = none) : tdel m k = m := by
  induction m with
  | nil => rfl
  | cons p l ih =>
    obtain ⟨j, v⟩ := p
    unfold tget at h
    unfold tdel
    split at h
    · cases h
    · rw [if_neg ‹_›, ih h]

/-- What freeing a slot leaves of the journal. -/
theorem slotFree_jnl (s : State) (i : Nat) : (s.slotFree i).jnl.slots = tdel s.jnl.slots i ∧ (s.slotFree i).jnl.phase = s.jnl.phase ∧
    (s.slotFree i).jnl.tail = s.jnl.tail := by
  cases h : tget s.jnl.slots i with
  | none =>
    have e : s.slotFree i = s := by rw [State.slotFree, h]
    rw [e, tdel_of_none h]
    exact ⟨rfl, rfl, rfl⟩
  | some x =>
    rw [State.slotFree, h]
    dsimp only
    rw [waterCheck_jnl]
    split_ifs <;> simp

theorem each_slotFree_phase (s : State) (l : List Nat) : (s.each l State.slotFree).jnl.phase = s.jnl.phase :=
  each_jnl (·.phase) _ (fun s i => (slotFree_jnl s i).2.1) l s

theorem within_dumpStart (s : State) (cause : Nat) : Within discardW s (s.dumpStart cause) := by
  unfold State.dumpStart
  split
  · exact .refl _ _
  · exact .refl _ _
  · exact .refl _ _
  · refine ((within_jnl s _ rfl).trans (within_each _ _ _ within_slotFree)).trans (within_ite _ (fun _ => within_each _ _ _ ?_) fun _ => .refl _ _)
    exact fun s p => (within_send s _ rfl).trans (within_bump _ _ _ rfl)

theorem dumpStart_phase (s : State) (cause : Nat) (h : s.dumping = false) : (s.dumpStart cause).jnl.phase = .flushing cause s.dtc := by
  unfold State.dumpStart
  unfold State.dumping at h
  split
  · simp_all
  · simp_all
  · simp_all
  · dsimp only
    split
    · rw [each_jnl (fun j => j.phase) _ (fun s p => by simp), each_slotFree_phase]
    · rw [each_slotFree_phase]

/-- A dump that begins: its phase, what follows it, the sequence's register, and what it leaves. -/
structure DumpBegun (s t : State) (cause after : Nat) : Prop where
  phase : t.jnl.phase = .flushing cause s.dtc
  boot  : t.boot = { s.boot with after := after }
  seq   : t.get PWR_SEQ_STATUS_seq = 2
  dtc   : t.dtc = s.dtc
  pwr   : t.pwr = s.pwr
  rest  : ∀ f i, f.reg ≠ PWR_SEQ_STATUS_seq.reg → discardW.field (f.key i) = false → t.get f i = s.get f i

theorem dumpBegin_begun (s : State) (cause after : Nat) (h : s.dumping = false) (hact : s.boot.act = none) :
    DumpBegun s (s.dumpBegin cause after) cause after := by
  have e : s.dumpBegin cause after = ({ ((s.set PWR_SEQ_STATUS_seq 0 2).addSat PWR_SEQ_STATUS_dumps 0 1).bump (ctrPwr 4) with
      boot := { s.boot with after := after } } : State).dumpStart cause := by
    simp [State.dumpBegin, h, State.actFatal, hact]
  rw [e]
  generalize hu : ({ ((s.set PWR_SEQ_STATUS_seq 0 2).addSat PWR_SEQ_STATUS_dumps 0 1).bump (ctrPwr 4) with
      boot := { s.boot with after := after } } : State) = u
  have w := within_dumpStart u cause
  have hd : u.dtc = s.dtc := by simp [← hu]
  have hg : ∀ f i, u.get f i = ((s.set PWR_SEQ_STATUS_seq 0 2).addSat PWR_SEQ_STATUS_dumps 0 1).get f i := fun f i => by rw [← hu]; rfl
  refine ⟨?_, ?_, ?_, (w.dtc rfl).trans hd, ?_, fun f i hf hw => ?_⟩
  · rw [dumpStart_phase, hd]
    rw [← hu]
    simpa [State.dumping] using h
  · rw [w.boot rfl, ← hu]
  · rw [w.regs _ _ rfl, hg, get_addSat_field _ _ _ _ (by decide), get_set_same]
    rfl
  · rw [w.pwr rfl, ← hu]
    simp
  · rw [w.regs _ _ hw, hg, State.addSat, get_set_other, get_set_other]
    · exact fun k => hf (congrArg RKey.reg k).symm
    · exact fun k => hf (congrArg RKey.reg k).symm

/-! ## An orderly stop begins -/

theorem stopBegin_free (s : State) (after : Nat) (h : s.dumping = false) (hs : s.stopping = false)
    (hb : ∀ g, g < 16 → s.flag STR_GROUP_STATUS_blocked g = false) :
    s.stopBegin after = ({ s with boot := { s.boot with after := after } }.set BOOT_STATUS_stage 0 9).stopStart (after != 0) := by
  have q : ∀ (u : State), (∀ g, g < 16 → u.flag STR_GROUP_STATUS_blocked g = false) →
      ((List.range 16).any fun g => u.flag STR_GROUP_STATUS_blocked g) = false := fun u hu => by
    simpa using hu
  rw [State.stopBegin, h, hs]
  simp only [Bool.or_self, Bool.false_eq_true, if_false]
  rw [q]
  · simp
  · intro g hg
    have : ∀ (u : State) r, (u.stopStart r).flag STR_GROUP_STATUS_blocked g = u.flag STR_GROUP_STATUS_blocked g := fun u r => by
      unfold State.stopStart
      split <;> rfl
    rw [this, flag_set_field _ _ _ _ (by decide)]
    exact hb g hg

theorem stopStart_phase (s : State) (r : Bool) (h : s.dumping = false) (hs : s.stopping = false) :
    s.stopStart r = { s with jnl := { s.jnl with phase := .stopping r s.dtc } } := by
  unfold State.stopStart
  unfold State.dumping at h
  unfold State.stopping at hs
  split
  · rfl
  · rfl
  · cases hp : s.jnl.phase <;> simp_all

end Sys2Proof.Machine
end

section
/-! PROOFS. The feeds and the bus: what the feed operations set, switch by switch. -/

namespace Sys2Proof.Machine

open F

/-! ## The store's state and the ORing switches -/

/-- The store's state reaches its own field and a counter. -/
theorem within_storeState (s : State) (v : Nat) : Within { parts := [.ctr], fields := [PWR_STORE_STATUS_state] } s (s.storeState v) := by
  unfold State.storeState
  dsimp only
  split
  · exact .refl _ _
  · refine (within_set s _ _ _ rfl).trans (within_ite _ (fun _ => within_enter _ _ rfl) fun _ => within_ite _ (fun _ => within_leave _ _ rfl) fun _ => .refl _ _)

theorem get_storeState (s : State) (v : Nat) (h : s.get PWR_STORE_STATUS_state ≠ 4) (hv : v < 8) :
    (s.storeState v).get PWR_STORE_STATUS_state = v := by
  unfold State.storeState
  by_cases e : s.get PWR_STORE_STATUS_state = v
  · simp [e]
  · have hw : v % 2 ^ PWR_STORE_STATUS_state.w = v := Nat.mod_eq_of_lt hv
    simp only [h, e, decide_false, Bool.or_self, Bool.false_eq_true, if_false]
    split_ifs <;> simp [hw]

theorem within_storeCharge (s : State) : Within { parts := [.ctr], fields := [PWR_STORE_STATUS_state] } s s.storeCharge :=
  within_storeState s _

/-- A switch closed: its flag, the other's, the bus's source, the aim and what the switches are told. -/
structure FeedMade (s t : State) (f : Nat) : Prop where
  active : t.get PWR_FEED_STATUS_active f = 1
  other  : t.get PWR_FEED_STATUS_active (1 - f) = 0
  source : t.get PWR_BUS_STATUS_source = f
  pwr    : t.pwr = { s.pwr with target := none, last := some f }
  outbox : t.outbox = s.outbox ++ [.oring (some f)]
  dtc    : t.dtc = s.dtc
  evt    : t.evt = s.evt
  rest   : ∀ g i, g.reg ≠ PWR_BUS_STATUS_source.reg → g.reg ≠ PWR_STORE_STATUS_state.reg → (g.reg, g.lo) ≠ (PWR_FEED_STATUS_active.reg, PWR_FEED_STATUS_active.lo) →
    t.get g i = s.get g i

theorem feedMake_made (s : State) (f : Nat) (hf : f < 2) : FeedMade s (s.feedMake f) f := by
  let u := ((s.set PWR_FEED_STATUS_active f 1).set PWR_FEED_STATUS_active (1 - f) 0).set PWR_BUS_STATUS_source 0 f
  let v := if u.get PWR_STORE_STATUS_state = 3 then u.storeCharge else u
  have w : Within { parts := [.ctr], fields := [PWR_STORE_STATUS_state] } u v :=
    within_ite _ (fun _ => within_storeCharge u) fun _ => .refl _ _
  have e : s.feedMake f = ({ v with pwr := { v.pwr with target := none, last := some f } } : State).send (.oring (some f)) := rfl
  have g : ∀ h i, (s.feedMake f).get h i = v.get h i := fun h i => by rw [e]; rfl
  have hn : 1 - f ≠ f := by omega
  refine ⟨?_, ?_, ?_, ?_, ?_, ?_, ?_, fun h i h1 h2 h3 => ?_⟩
  · rw [g, w.regs _ _ rfl, get_set_field _ _ _ _ (by decide), get_set_elem _ _ _ hn, get_set_same]
    rfl
  · rw [g, w.regs _ _ rfl, get_set_field _ _ _ _ (by decide), get_set_same]
    rfl
  · rw [g, w.regs _ _ rfl, get_set_same]
    exact Nat.mod_eq_of_lt (by show f < 4; omega)
  · rw [e]
    show ({ v.pwr with target := none, last := some f } : Pwr) = _
    rw [w.pwr rfl]
    rfl
  · rw [e, send_outbox]
    show v.outbox ++ _ = _
    rw [w.outbox rfl]
    rfl
  · rw [e]
    exact w.dtc rfl
  · rw [e]
    exact w.evt rfl
  · have k : v.get h i = u.get h i := w.regs _ _ (by
      simp only [Writes.field]
      simpa using fun e => absurd e.symm h2)
    rw [g, k, get_set_field _ _ _ _ (fun e => h1 (congrArg Prod.fst e).symm), get_set_field _ _ _ _ (Ne.symm h3), get_set_field _ _ _ _ (Ne.symm h3)]

/-- A switch begun: both switches open, the bus on no feed, the aim. -/
structure FeedAimed (s t : State) (f : Nat) : Prop where
  none0  : t.get PWR_FEED_STATUS_active 0 = 0
  none1  : t.get PWR_FEED_STATUS_active 1 = 0
  pwr    : t.pwr = { s.pwr with target := some f }
  outbox : t.outbox = s.outbox ++ [.oring none]
  evt    : t.evt = s.evt
  jnl    : t.jnl = s.jnl
  rest   : ∀ g i, g.reg ≠ PWR_BUS_STATUS_source.reg → (g.reg, g.lo) ≠ (PWR_FEED_STATUS_active.reg, PWR_FEED_STATUS_active.lo) →
    t.get g i = s.get g i

theorem feedSwitch_aimed (s : State) (f : Nat) (h : s.flag PWR_FEED_STATUS_active f = false) : FeedAimed s (s.feedSwitch f) f := by
  have e : s.feedSwitch f = ({ (((s.set PWR_FEED_STATUS_active 0 0).set PWR_FEED_STATUS_active 1 0).set PWR_BUS_STATUS_source 0 3) with
      pwr := { s.pwr with target := some f } } : State).send (.oring none) := by
    simp [State.feedSwitch, h]
  rw [e]
  have g : ∀ (u : State) p o k i, (({ u with pwr := p } : State).send o).get k i = u.get k i := fun _ _ _ _ _ => rfl
  refine ⟨?_, ?_, rfl, rfl, rfl, rfl, fun k i h1 h2 => ?_⟩
  · rw [g, get_set_field _ _ _ _ (by decide), get_set_elem _ _ _ (by decide), get_set_same]
    rfl
  · rw [g, get_set_field _ _ _ _ (by decide), get_set_same]
    rfl
  · rw [g, get_set_field _ _ _ _ (fun e => h1 (congrArg Prod.fst e).symm), get_set_field _ _ _ _ (Ne.symm h2), get_set_field _ _ _ _ (Ne.symm h2)]

/-! ## The feeds -/

theorem feedless_eq (s : State) {f : Nat} (hf : f < 2) : s.feedless = (!s.feedThere f && !s.feedThere (1 - f)) := by
  obtain rfl | rfl : f = 0 ∨ f = 1 := by omega
  · rfl
  · exact Bool.and_comm _ _

theorem activeFeed_congr {s t : State} (h : ∀ i, t.get PWR_FEED_STATUS_active i = s.get PWR_FEED_STATUS_active i) : t.activeFeed = s.activeFeed := by
  simp [State.activeFeed, State.flag, h]

theorem activeFeed_none {s : State} (h0 : s.get PWR_FEED_STATUS_active 0 = 0) (h1 : s.get PWR_FEED_STATUS_active 1 = 0) : s.activeFeed = none := by
  simp [State.activeFeed, State.flag, h0, h1]

theorem activeFeed_made {s : State} {f : Nat} (hf : f < 2) (h : s.get PWR_FEED_STATUS_active f = 1) (k : s.get PWR_FEED_STATUS_active (1 - f) = 0) :
    s.activeFeed = some f := by
  obtain rfl | rfl : f = 0 ∨ f = 1 := by omega
  · simp [State.activeFeed, State.flag, h]
  · simp [State.activeFeed, State.flag, h, k]

/-- A loss before its consequence: the feed's registers, its good time forgotten, its report and an aim at it dropped. -/
def feedGone (s : State) (f cause : Nat) : State :=
  let s := ((s.set PWR_FEED_STATUS_state f 0).set PWR_FEED_STATUS_cause f cause).addSat PWR_FEED_STATUS_losses f 1
  let s := { s with pwr := { s.pwr with goodAt := tdel s.pwr.goodAt f } }
  let s := (s.raise EV_PWR_FEED_LOST 0xC f).bump (ctrPwr f)
  if s.pwr.target = some f then { s with pwr := { s.pwr with target := none } } else s

theorem feedAbsent_eq (s : State) (f cause : Nat) (h : s.feedThere f = true) : s.feedAbsent f cause =
    if (feedGone s f cause).feedless then (feedGone s f cause).rideStart
    else if s.flag PWR_FEED_STATUS_active f || s.pwr.target = some f then (feedGone s f cause).feedSwitch (1 - f) else feedGone s f cause := by
  unfold State.feedAbsent
  rw [if_neg (by simp [h])]
  rfl

theorem get_feedGone (s : State) (f cause : Nat) (g : Fld) (i : Nat) : (feedGone s f cause).get g i =
    (((s.set PWR_FEED_STATUS_state f 0).set PWR_FEED_STATUS_cause f cause).addSat PWR_FEED_STATUS_losses f 1).get g i := by
  unfold feedGone
  dsimp only
  split <;> rfl

theorem get_feedGone_other (s : State) (f cause : Nat) {g : Fld} (i : Nat) (h : g.reg ≠ PWR_FEED_STATUS_state.reg) :
    (feedGone s f cause).get g i = s.get g i := by
  rw [get_feedGone, get_addSat_field _ _ _ _ (fun e => h (congrArg Prod.fst e).symm), get_set_field _ _ _ _ (fun e => h (congrArg Prod.fst e).symm),
    get_set_field _ _ _ _ (fun e => h (congrArg Prod.fst e).symm)]

theorem get_feedGone_active (s : State) (f cause i : Nat) : (feedGone s f cause).get PWR_FEED_STATUS_active i = s.get PWR_FEED_STATUS_active i := by
  rw [get_feedGone, get_addSat_field _ _ _ _ (by decide), get_set_field _ _ _ _ (by decide), get_set_field _ _ _ _ (by decide)]

theorem feedGone_state (s : State) (f cause : Nat) : (feedGone s f cause).get PWR_FEED_STATUS_state f = 0 := by
  rw [get_feedGone, get_addSat_field _ _ _ _ (by decide), get_set_field _ _ _ _ (by decide), get_set_same]
  rfl

theorem feedGone_cause (s : State) (f cause : Nat) (h : cause < 8) : (feedGone s f cause).get PWR_FEED_STATUS_cause f = cause := by
  rw [get_feedGone, get_addSat_field _ _ _ _ (by decide), get_set_same]
  exact Nat.mod_eq_of_lt h

theorem feedGone_feedless (s : State) {f : Nat} (cause : Nat) (hf : f < 2) : (feedGone s f cause).feedless = !s.feedThere (1 - f) := by
  have h : (feedGone s f cause).feedThere (1 - f) = s.feedThere (1 - f) := by
    simp only [State.feedThere, State.feedState, get_feedGone]
    rw [get_addSat_field _ _ _ _ (by decide), get_set_field _ _ _ _ (by decide), get_set_elem _ _ _ (by omega)]
  rw [feedless_eq _ hf, h, State.feedThere, State.feedState, feedGone_state]
  rfl

theorem feedGone_outbox (s : State) (f cause : Nat) : (feedGone s f cause).outbox = s.outbox := by
  unfold feedGone
  dsimp only
  split <;> rfl

theorem feedGone_jnl (s : State) (f cause : Nat) : (feedGone s f cause).jnl = s.jnl := by
  unfold feedGone
  dsimp only
  split <;> rfl

theorem feedGone_dtc (s : State) (f cause : Nat) : (feedGone s f cause).dtc = s.dtc := by
  unfold feedGone
  dsimp only
  split <;> rfl

theorem feedGone_reports (s : State) (f cause : Nat) : Reports s (feedGone s f cause) EV_PWR_FEED_LOST 0xC f [] := by
  let u : State := { (((s.set PWR_FEED_STATUS_state f 0).set PWR_FEED_STATUS_cause f cause).addSat PWR_FEED_STATUS_losses f 1) with
    pwr := { s.pwr with goodAt := tdel s.pwr.goodAt f } }
  have h : (feedGone s f cause).evt = (u.raise EV_PWR_FEED_LOST 0xC f).evt := by
    unfold feedGone
    dsimp only
    split <;> rfl
  refine (reports_raise (s := s) (u := u) EV_PWR_FEED_LOST 0xC f [] rfl rfl fun g i hg => ?_).congr h
  show (((s.set PWR_FEED_STATUS_state f 0).set PWR_FEED_STATUS_cause f cause).addSat PWR_FEED_STATUS_losses f 1).get g i = _
  rw [get_addSat_field _ _ _ _ (place_ne (by decide) hg), get_set_field _ _ _ _ (place_ne (by decide) hg), get_set_field _ _ _ _ (place_ne (by decide) hg)]

/-- The ride-through begins: from idle it is the journal's phase. -/
theorem rideStart_begun (s : State) (h : s.jnl.phase = .idle) (hq : s.get PWR_SEQ_STATUS_seq = 0) (hs : s.get PWR_STORE_STATUS_state ≠ 4) :
    s.rideStart.jnl.phase = .riding s.dtc ∧ s.rideStart.get PWR_SEQ_STATUS_seq = 1 ∧ s.rideStart.get PWR_STORE_STATUS_state = 3 ∧
    s.rideStart.outbox = s.outbox ∧ ∀ i, s.rideStart.get PWR_FEED_STATUS_active i = s.get PWR_FEED_STATUS_active i := by
  let u : State := { s with pwr := { s.pwr with testFrom := none, rideFrom := s.dtc } }
  have w := within_storeState u 3
  have hj : (u.storeState 3).jnl = s.jnl := w.jnl rfl
  have hd : s.dumping = false := by simp [State.dumping, h]
  have e : s.rideStart = { (u.storeState 3).set PWR_SEQ_STATUS_seq 0 1 with jnl := { s.jnl with phase := .riding (u.storeState 3).dtc } } := by
    simp [State.rideStart, hd, hq, u, hj, h]
  have g : ∀ k i, s.rideStart.get k i = ((u.storeState 3).set PWR_SEQ_STATUS_seq 0 1).get k i := fun k i => by rw [e]; rfl
  refine ⟨?_, ?_, ?_, ?_, fun i => ?_⟩
  · rw [e]
    show DumpPhase.riding (u.storeState 3).dtc = _
    rw [w.dtc rfl]
  · rw [g, get_set_same]
    rfl
  · rw [g, get_set_field _ _ _ _ (by decide)]
    exact get_storeState u 3 hs (by decide)
  · rw [e]
    exact w.outbox rfl
  · rw [g, get_set_field _ _ _ _ (by decide), w.regs _ _ rfl]
    rfl

/-- A feed back in the ride-through: the switch toward it begins and the window ends. -/
theorem feedQualify_rides (s : State) (f : Nat) (w : Word64) (b : BootIn) (hf : f < 2) (hl : s.feedless = true) (hp : s.jnl.phase = .riding w)
    (hq : s.get PWR_SEQ_STATUS_seq = 1) (ha : s.flag PWR_FEED_STATUS_active f = false) :
    (s.feedQualify f b).get PWR_FEED_STATUS_state f = 1 ∧ (s.feedQualify f b).jnl.phase = .idle ∧
    (s.feedQualify f b).get PWR_SEQ_STATUS_seq = 0 ∧ (s.feedQualify f b).pwr.target = some f ∧
    (s.feedQualify f b).outbox = s.outbox ++ [.oring none] := by
  have hn : s.feedThere f = false := by
    rw [feedless_eq s hf] at hl
    simp_all
  let u := s.set PWR_FEED_STATUS_state f 1
  have a := feedSwitch_aimed u f (by rw [flag_set_field _ _ _ _ (by decide)]; exact ha)
  have hq' : (u.feedSwitch f).get PWR_SEQ_STATUS_seq = 1 := by
    rw [a.rest _ _ (by decide) (by decide), get_set_field _ _ _ _ (by decide), hq]
  have hp' : (u.feedSwitch f).jnl.phase = .riding w := by
    rw [a.jnl]
    exact hp
  generalize hv : u.feedSwitch f = v at a hq' hp'
  let x := ((v.set PWR_SEQ_STATUS_seq 0 0).addSat PWR_SEQ_STATUS_rides 0 1).bump (ctrPwr 3)
  have c := within_storeCharge x
  have hx : x.storeCharge.jnl = v.jnl := c.jnl rfl
  have hr : v.rideOver = { x.storeCharge with jnl := { v.jnl with phase := .idle } } := by
    simp [State.rideOver, hq', x, hx, hp']
  have e : s.feedQualify f b = v.sameMem v.rideOver := by
    have hu : u.get PWR_SEQ_STATUS_seq = 1 := by rw [get_set_field _ _ _ _ (by decide), hq]
    have hj : (v.sameMem v.rideOver).jnl.phase = .idle := by rw [hr]; rfl
    unfold State.feedQualify
    rw [if_neg (by simp [hn]), hl]
    dsimp only
    rw [if_neg (by simp), show s.set PWR_FEED_STATUS_state f 1 = u from rfl, if_neg (show ¬ u.get PWR_SEQ_STATUS_seq = 0 by rw [hu]; decide), hv, hj]
    rfl
  have g : ∀ k i, k.reg ≠ PWR_STORE_STATUS_state.reg → (s.feedQualify f b).get k i = ((v.set PWR_SEQ_STATUS_seq 0 0).addSat PWR_SEQ_STATUS_rides 0 1).get k i :=
    fun k i h => by
      rw [e, hr]
      exact c.regs _ _ (by simp only [Writes.field]; simpa using fun e => absurd e.symm h)
  refine ⟨?_, ?_, ?_, ?_, ?_⟩
  · rw [g _ _ (by decide), get_addSat_field _ _ _ _ (by decide), get_set_field _ _ _ _ (by decide), a.rest _ _ (by decide) (by decide), get_set_same]
    rfl
  · rw [e, hr]
    rfl
  · rw [g _ _ (by decide), get_addSat_field _ _ _ _ (by decide), get_set_same]
    rfl
  · rw [e, hr]
    show x.storeCharge.pwr.target = _
    rw [c.pwr rfl]
    show v.pwr.target = _
    rw [a.pwr]
  · rw [e, hr]
    show x.storeCharge.outbox = _
    rw [c.outbox rfl]
    exact a.outbox

/-! ## The bus -/

/-- A bus out of range before the dump: its readings and its report. -/
def busNoted (s : State) (mv : Nat) : State :=
  let s := (s.set PWR_BUS_STATUS_vbus 0 mv).set PWR_BUS_STATUS_vbus_min 0 (min mv (s.get PWR_BUS_STATUS_vbus_min))
  (s.raise EV_PWR_BUS_FAULT 0 0).bump (ctrPwr 7)

theorem busFault_low (s : State) (mv : Nat) (h : mv < 10800) : s.busFault mv = (busNoted s mv).dumpBegin 2 6 := by
  unfold State.busFault
  rw [if_neg (by simp; omega)]
  dsimp only
  rw [if_pos h]
  rfl

/-- Both switches opened, the store taking the bus. -/
def busOpened (s : State) : State :=
  let s := ((s.set PWR_FEED_STATUS_active 0 0).set PWR_FEED_STATUS_active 1 0).set PWR_BUS_STATUS_source 0 2
  ({ s with pwr := { s.pwr with target := none } }.send (.oring none)).storeState 3

theorem busFault_high (s : State) (mv : Nat) (h : 13500 < mv) : s.busFault mv = (busOpened (busNoted s mv)).dumpBegin 1 6 := by
  unfold State.busFault
  rw [if_neg (by simp; omega)]
  dsimp only
  rw [if_neg (by omega)]
  rfl

theorem busOpened_active (s : State) (i : Nat) (hi : i < 2) : (busOpened s).get PWR_FEED_STATUS_active i = 0 := by
  have w := within_storeState (({ ((s.set PWR_FEED_STATUS_active 0 0).set PWR_FEED_STATUS_active 1 0).set PWR_BUS_STATUS_source 0 2 with
    pwr := { s.pwr with target := none } } : State).send (.oring none)) 3
  have e : (busOpened s).get PWR_FEED_STATUS_active i = ((s.set PWR_FEED_STATUS_active 0 0).set PWR_FEED_STATUS_active 1 0).get PWR_FEED_STATUS_active i :=
    (w.regs _ _ rfl).trans (get_set_field _ _ _ _ (by decide))
  rw [e]
  obtain rfl | rfl : i = 0 ∨ i = 1 := by omega
  · rw [get_set_elem _ _ _ (by decide), get_set_same]
    rfl
  · rw [get_set_same]
    rfl

theorem busOpened_within (s : State) : (busOpened s).dtc = s.dtc ∧ (busOpened s).jnl = s.jnl ∧ (busOpened s).boot = s.boot ∧
    (busOpened s).pwr.target = none := by
  have w := within_storeState (({ ((s.set PWR_FEED_STATUS_active 0 0).set PWR_FEED_STATUS_active 1 0).set PWR_BUS_STATUS_source 0 2 with
    pwr := { s.pwr with target := none } } : State).send (.oring none)) 3
  exact ⟨w.dtc rfl, w.jnl rfl, w.boot rfl, congrArg Pwr.target (w.pwr rfl)⟩

/-- Settles O48: each command is a chain of the switch operations above. -/
theorem feedsAndBus : Obligations.FeedsAndBus := by
  unfold Obligations.FeedsAndBus
  refine ⟨fun s f cause hf ht ho ha hb htg hc => ⟨_, rfl, ?_⟩, fun s f cause hf ht ho hp hq hs => ⟨_, rfl, ?_⟩,
    fun s f w b hf hl hp hq ha => ⟨_, rfl, ?_⟩, fun s f b hf ht ho => ⟨_, rfl, ?_⟩, fun s f hf h1 ha ht => ⟨_, rfl, ?_⟩,
    fun s f hf h1 ha => ⟨_, rfl, ?_⟩, fun s p hp hpr hr h1 h2 ha hb hh hg => ⟨_, rfl, ?_⟩, fun s h => ⟨_, rfl, ?_⟩,
    fun s f hf ht => ⟨_, rfl, ?_⟩, fun s ht => ⟨_, rfl, ?_⟩, fun s mv hm hd hact => ⟨_, rfl, ?_⟩, fun s mv hm hd hact => ⟨_, rfl, ?_⟩,
    fun s mv h1 h2 => ⟨_, rfl, ?_⟩⟩
  · have e : s.feedAbsent (f % 2) cause = (feedGone s f cause).feedSwitch (1 - f) := by
      rw [Nat.mod_eq_of_lt hf, feedAbsent_eq s f cause ht, if_neg (by rw [feedGone_feedless s cause hf, ho]; decide), if_pos (by simp [ha])]
    have a := feedSwitch_aimed (feedGone s f cause) (1 - f) (by rw [State.flag, get_feedGone_active]; exact hb)
    have hz : ∀ i, i < 2 → ((feedGone s f cause).feedSwitch (1 - f)).get PWR_FEED_STATUS_active i = 0 := fun i hi => by
      obtain rfl | rfl : i = 0 ∨ i = 1 := by omega
      · exact a.none0
      · exact a.none1
    refine ⟨?_, ?_, ?_, ?_, ?_, ?_, ?_, ?_⟩
    · rw [get_only_in _ _ _ _ _ rfl, e, a.rest _ _ (by decide) (by decide), feedGone_state]
    · rw [get_only_in _ _ _ _ _ rfl, e, a.rest _ _ (by decide) (by decide), feedGone_cause s f cause hc]
    · rw [get_only_in _ _ _ _ _ rfl, e, hz f hf]
    · rw [get_only_in _ _ _ _ _ rfl, e, hz (1 - f) (by omega)]
    · show (s.feedAbsent (f % 2) cause).pwr.target = _
      rw [e, a.pwr]
    · show (s.feedAbsent (f % 2) cause).outbox = _
      rw [e, a.outbox, feedGone_outbox]
    · exact (feedGone_reports s f cause).congr (show (s.feedAbsent (f % 2) cause).evt = _ by rw [e, a.evt])
    · show (s.feedAbsent (f % 2) cause).jnl = _
      rw [e, a.jnl, feedGone_jnl]
  · have e : s.feedAbsent (f % 2) cause = (feedGone s f cause).rideStart := by
      rw [Nat.mod_eq_of_lt hf, feedAbsent_eq s f cause ht, if_pos (by rw [feedGone_feedless s cause hf, ho]; rfl)]
    obtain ⟨r1, r2, r3, r4, r5⟩ := rideStart_begun (feedGone s f cause) (by rw [feedGone_jnl, hp])
      (by rw [get_feedGone_other _ _ _ _ (by decide), hq]) (by rw [get_feedGone_other _ _ _ _ (by decide)]; exact hs)
    refine ⟨?_, ?_, ?_, ?_, ?_⟩
    · show (s.feedAbsent (f % 2) cause).jnl.phase = _
      rw [e, r1, feedGone_dtc]
    · rw [get_only_in _ _ _ _ _ rfl, e, r2]
    · rw [get_only_in _ _ _ _ _ rfl, e, r3]
    · rw [get_only_in _ _ _ _ _ rfl, e, r5, get_feedGone_active]
    · show (s.feedAbsent (f % 2) cause).outbox = _
      rw [e, r4, feedGone_outbox]
  · obtain ⟨r1, r2, r3, r4, r5⟩ := feedQualify_rides s f w b hf hl hp hq ha
    have e : s.feedQualify (f % 2) b = s.feedQualify f b := by rw [Nat.mod_eq_of_lt hf]
    refine ⟨?_, ?_, ?_, ?_, ?_⟩
    · rw [get_only_all _ _ _ _ _ rfl (by decide), e, r1]
    · exact (congrArg (·.jnl.phase) e).trans r2
    · rw [get_only_all _ _ _ _ _ rfl (by decide), e, r3]
    · exact (congrArg (·.pwr.target) e).trans r4
    · exact (congrArg (·.outbox) e).trans r5
  · have e : s.feedQualify (f % 2) b = s.set PWR_FEED_STATUS_state f 1 := by
      rw [Nat.mod_eq_of_lt hf]
      simp [State.feedQualify, ht, feedless_eq s hf, ho]
    refine ⟨?_, congrArg (·.pwr) e, congrArg (·.jnl) e⟩
    rw [get_only_all _ _ _ _ _ rfl (by decide), e, get_set_same]
    rfl
  · let u := ({ s.set PWR_FEED_STATUS_state f 2 with pwr := { s.pwr with goodAt := tput s.pwr.goodAt f s.dtc } } : State)
    have hu : (u.raise EV_PWR_FEED_GOOD 0xC f).activeFeed = none := by
      rw [← ha]
      exact activeFeed_congr fun i => get_set_field _ _ _ _ (by decide)
    have e : s.feedGood (f % 2) = (u.raise EV_PWR_FEED_GOOD 0xC f).feedMake f := by
      rw [Nat.mod_eq_of_lt hf, State.feedGood, if_neg (by simp [h1])]
      show (if (u.raise EV_PWR_FEED_GOOD 0xC f).activeFeed.isNone && s.pwr.target.isNone then _ else _) = _
      rw [hu, ht]
      rfl
    have m := feedMake_made (u.raise EV_PWR_FEED_GOOD 0xC f) f hf
    refine ⟨?_, ?_, ?_, ?_, ?_, ?_⟩
    · rw [get_only_in _ _ _ _ _ rfl, e, m.rest _ _ (by decide) (by decide) (by decide)]
      exact get_set_same ..
    · rw [get_only_in _ _ _ _ _ rfl, e, m.active]
    · rw [get_only_in _ _ _ _ _ rfl, e, m.other]
    · rw [get_only_in _ _ _ _ _ rfl, e, m.source]
    · show (s.feedGood (f % 2)).outbox = _
      rw [e, m.outbox]
      rfl
    · refine (reports_raise (s := s) (u := u) EV_PWR_FEED_GOOD 0xC f [] rfl rfl fun g i hg => ?_).congr (show (s.feedGood (f % 2)).evt = _ by rw [e, m.evt])
      exact get_set_field _ _ _ _ (place_ne (by decide) hg)
  · let u := ({ s.set PWR_FEED_STATUS_state f 2 with pwr := { s.pwr with goodAt := tput s.pwr.goodAt f s.dtc } } : State)
    have hu : (u.raise EV_PWR_FEED_GOOD 0xC f).activeFeed = s.activeFeed := activeFeed_congr fun i => get_set_field _ _ _ _ (by decide)
    have e : s.feedGood (f % 2) = u.raise EV_PWR_FEED_GOOD 0xC f := by
      rw [Nat.mod_eq_of_lt hf, State.feedGood, if_neg (by simp [h1])]
      show (if (u.raise EV_PWR_FEED_GOOD 0xC f).activeFeed.isNone && s.pwr.target.isNone then _ else _) = _
      rw [hu, Option.isNone_eq_false_iff.mpr (Option.isSome_iff_ne_none.mpr ha)]
      rfl
    refine ⟨?_, ?_, ?_⟩
    · rw [get_only_in _ _ _ _ _ rfl, e]
      exact get_set_same ..
    · rw [← hu]
      exact activeFeed_congr fun i => by rw [get_only_in _ _ _ _ _ rfl, e]
    · show (s.feedGood (f % 2)).outbox = _
      rw [e]
      rfl
  · have e : s.feedRevert = s.feedSwitch p := by
      simp [State.feedRevert, hpr, hr, h1, h2, ha, hh, hg, hp]
    have a := feedSwitch_aimed s p hb
    refine ⟨?_, ?_, ?_⟩
    · show s.feedRevert.pwr.target = _
      rw [e, a.pwr]
    · exact activeFeed_none (by rw [get_only_in _ _ _ _ _ rfl, e, a.none0]) (by rw [get_only_in _ _ _ _ _ rfl, e, a.none1])
    · show s.feedRevert.outbox = _
      rw [e, a.outbox]
  · have e : s.feedRevert = s := if_pos (by
      obtain h | h | h | h := h <;> simp [h])
    exact ⟨congrArg (·.pwr) e, congrArg (·.outbox) e⟩
  · have m := feedMake_made s f hf
    have e : s.oringMake = ({ (s.feedMake f).raise EV_PWR_FEED_SWITCH 0xC f with pwr := { (s.feedMake f).pwr with switched := some (s.feedMake f).dtc } } : State).bump (ctrPwr 2) := by
      rw [State.oringMake, ht]
      rfl
    have g : ∀ k i, s.oringMake.get k i = (s.feedMake f).get k i := fun k i => by rw [e]; rfl
    refine ⟨activeFeed_made hf ?_ ?_, ?_, ?_, ?_, ?_, ?_, ?_⟩
    · rw [get_only_in _ _ _ _ _ rfl, g, m.active]
    · rw [get_only_in _ _ _ _ _ rfl, g, m.other]
    · rw [get_only_in _ _ _ _ _ rfl, g, m.other]
    · show s.oringMake.pwr.target = _
      rw [e]
      exact congrArg Pwr.target m.pwr
    · show s.oringMake.pwr.last = _
      rw [e]
      exact congrArg Pwr.last m.pwr
    · show s.oringMake.pwr.switched = _
      rw [e]
      exact congrArg some m.dtc
    · show s.oringMake.outbox = _
      rw [e]
      exact m.outbox
    · refine (reports_raise (s := s) (u := s.feedMake f) EV_PWR_FEED_SWITCH 0xC f [] m.dtc m.evt fun k i hk => ?_).congr (show s.oringMake.evt = _ by rw [e]; rfl)
      exact m.rest k i (reg_ne (by decide) hk) (reg_ne (by decide) hk) (Ne.symm (place_ne (by decide) hk))
  · have e : s.oringMake = s := by rw [State.oringMake, ht]
    exact ⟨congrArg (·.pwr) e, congrArg (·.outbox) e⟩
  · have d := dumpBegin_begun (busNoted s mv) 2 6 hd hact
    have e := busFault_low s mv hm
    refine ⟨?_, ?_, ?_⟩
    · rw [get_only_in _ _ _ _ _ rfl, e, d.rest _ _ (by decide) rfl]
      show ((s.set PWR_BUS_STATUS_vbus 0 mv).set PWR_BUS_STATUS_vbus_min 0 _).get PWR_BUS_STATUS_vbus = mv
      rw [get_set_field _ _ _ _ (by decide), get_set_same]
      exact Nat.mod_eq_of_lt (by show mv < 65536; omega)
    · show (s.busFault mv).jnl.phase = _
      rw [e, d.phase]
      rfl
    · show (s.busFault mv).boot.after = _
      rw [e, d.boot]
  · obtain ⟨w1, w2, w3, w4⟩ := busOpened_within (busNoted s mv)
    have d := dumpBegin_begun (busOpened (busNoted s mv)) 1 6 (by rw [State.dumping, w2]; exact hd) (by rw [w3]; exact hact)
    have e := busFault_high s mv hm
    have hz : ∀ i, i < 2 → (s.busFault mv).get PWR_FEED_STATUS_active i = 0 := fun i hi => by
      rw [e, d.rest _ _ (by decide) rfl, busOpened_active _ _ hi]
    refine ⟨activeFeed_none ?_ ?_, ?_, ?_, ?_⟩
    · rw [get_only_in _ _ _ _ _ rfl, hz 0 (by decide)]
    · rw [get_only_in _ _ _ _ _ rfl, hz 1 (by decide)]
    · show (s.busFault mv).pwr.target = _
      rw [e, d.pwr, w4]
    · show (s.busFault mv).jnl.phase = _
      rw [e, d.phase, w1]
      rfl
    · show (s.busFault mv).boot.after = _
      rw [e, d.boot]
  · have e : s.busFault mv = s := if_pos (by simp [h1, h2])
    rw [e, only_self]
    exact ⟨rfl, rfl, rfl⟩

end Sys2Proof.Machine
end

section
/-! PROOFS. The energy store: its energy and budget, its tests, its failure and its charge limit. -/

namespace Sys2Proof.Machine

open F

/-! ## The energy and the budget -/

/-- The energy that the registers give. -/
theorem energyMj_eq (s : State) {v c : Nat} (h : s.get PWR_STORE_STATUS_state ≠ 4) (hc : s.get PWR_STORE_STATUS_cap_mf = c)
    (hv : s.get PWR_STORE_STATUS_vstore = v) : s.energyMj = usableMj c v := by
  rw [State.energyMj, if_neg h, hc, hv]

theorem energyMj_failed (s : State) (h : s.get PWR_STORE_STATUS_state = 4) : s.energyMj = 0 := if_pos h

/-- What the store's registers read: voltage, energy and budget of `e` mJ. -/
structure Budgeted (t : State) (e : Nat) : Prop where
  ej    : t.get PWR_STORE_STATUS_e_j = min (e / 1000) 1023
  slots : t.get JNL_NEVE_STATUS_budget_slots = budgetSlots e % 2 ^ JNL_NEVE_STATUS_budget_slots.w

theorem budgetSet_budgeted (s : State) : Budgeted s.budgetSet s.energyMj := by
  constructor
  · rw [State.budgetSet, get_set_field _ _ _ _ (by decide), get_set_same]
    exact Nat.mod_eq_of_lt (by show min _ 1023 < 1024; omega)
  · rw [State.budgetSet, get_set_same]

theorem get_budgetSet (s : State) {f : Fld} (i : Nat) (h : (f.reg, f.lo) ≠ (PWR_STORE_STATUS_e_j.reg, PWR_STORE_STATUS_e_j.lo))
    (k : (f.reg, f.lo) ≠ (JNL_NEVE_STATUS_budget_slots.reg, JNL_NEVE_STATUS_budget_slots.lo)) : s.budgetSet.get f i = s.get f i := by
  rw [State.budgetSet, get_set_field _ _ _ _ (Ne.symm k), get_set_field _ _ _ _ (Ne.symm h)]

theorem Budgeted.congr {s t : State} {e : Nat} (h : Budgeted s e) (hj : t.get PWR_STORE_STATUS_e_j = s.get PWR_STORE_STATUS_e_j)
    (hs : t.get JNL_NEVE_STATUS_budget_slots = s.get JNL_NEVE_STATUS_budget_slots) : Budgeted t e :=
  ⟨hj.trans h.ej, hs.trans h.slots⟩

/-! ## A level of the string voltage -/

/-- The state before R252's thresholds: the voltage, the figures and the store's charge. -/
def storeRead (s : State) (mv : Nat) : State :=
  let s := (s.set PWR_STORE_STATUS_vstore 0 mv).budgetSet
  if s.get PWR_STORE_STATUS_state < 2 then s.storeCharge else s

/-- A level judged: the report of a low store and R252's thresholds. -/
def storeJudged (s : State) : State :=
  let low := s.storeShort
  let s := if low && !s.pwr.storeLow then s.raise EV_PWR_STORE_LOW 0 0 else s
  { s with pwr := { s.pwr with storeLow := low } }.waterCheck

theorem storeJudged_after (s : State) : (storeJudged s).pwr = { s.pwr with storeLow := s.storeShort } ∧
    ∀ f i, discardW.field (f.key i) = false → (storeJudged s).get f i = s.get f i := by
  have w : ∀ b, Within { parts := [.evt, .ctr] } s (if b = true then s.raise EV_PWR_STORE_LOW 0 0 else s) :=
    fun b => within_ite _ (fun _ => within_raise _ _ _ _ _ rfl rfl) fun _ => .refl _ _
  constructor
  · unfold storeJudged
    dsimp only
    rw [(within_waterCheck _).pwr rfl]
    dsimp only
    rw [(w _).pwr rfl]
  · intro f i hw
    unfold storeJudged
    dsimp only
    rw [(within_waterCheck _).regs f i hw]
    exact (w _).regs f i rfl

/-- After a level: the figures of the energy, the flag of a low store and the other fields as read. -/
theorem storeLevel_after (s : State) (mv : Nat) : (s.storeLevel mv).pwr = { s.pwr with storeLow := (storeRead s mv).storeShort } ∧
    ∀ f i, discardW.field (f.key i) = false →
      (s.storeLevel mv).get f i = (storeRead s mv).get f i := by
  have hp : (storeRead s mv).pwr = s.pwr := by
    unfold storeRead
    dsimp only
    split
    · exact (within_storeCharge _).pwr rfl
    · rfl
  obtain ⟨h1, h2⟩ := storeJudged_after (storeRead s mv)
  exact ⟨h1.trans (by rw [hp]), h2⟩

/-- The state that the store reads is as before or, when it charges, charging or ready. -/
theorem storeRead_state (s : State) (mv : Nat) : (storeRead s mv).get PWR_STORE_STATUS_state = s.get PWR_STORE_STATUS_state ∨
    s.get PWR_STORE_STATUS_state < 2 ∧ (storeRead s mv).get PWR_STORE_STATUS_state < 2 := by
  let u := (s.set PWR_STORE_STATUS_vstore 0 mv).budgetSet
  have hu : u.get PWR_STORE_STATUS_state = s.get PWR_STORE_STATUS_state := by
    rw [get_budgetSet _ _ (by decide) (by decide), get_set_field _ _ _ _ (by decide)]
  unfold storeRead
  dsimp only
  by_cases h : u.get PWR_STORE_STATUS_state < 2
  · right
    rw [if_pos h]
    refine ⟨hu ▸ h, ?_⟩
    have : ∀ v, v < 2 → (u.storeState v).get PWR_STORE_STATUS_state < 2 := fun v hv => by
      rw [get_storeState u v (by omega) (by omega)]
      exact hv
    exact this _ (by split <;> decide)
  · left
    rw [if_neg h]
    exact hu

theorem get_storeRead (s : State) (mv : Nat) (f : Fld) (i : Nat) (h : (f.reg, f.lo) ≠ (PWR_STORE_STATUS_state.reg, PWR_STORE_STATUS_state.lo)) :
    (storeRead s mv).get f i = (s.set PWR_STORE_STATUS_vstore 0 mv).budgetSet.get f i := by
  unfold storeRead
  dsimp only
  split
  · refine (within_storeCharge _).regs _ _ ?_
    rw [field_key]
    simp only [List.any_cons, List.any_nil, Bool.or_false, List.contains_nil, Bool.false_or]
    by_contra k
    simp only [Bool.not_eq_false, Bool.and_eq_true, decide_eq_true_eq] at k
    exact h (by rw [k.1, k.2])
  · rfl

theorem storeRead_vstore (s : State) (mv : Nat) (h : mv < 65536) : (storeRead s mv).get PWR_STORE_STATUS_vstore = mv := by
  rw [get_storeRead _ _ _ _ (by decide), get_budgetSet _ _ (by decide) (by decide), get_set_same]
  exact Nat.mod_eq_of_lt h

theorem storeRead_cap (s : State) (mv : Nat) : (storeRead s mv).get PWR_STORE_STATUS_cap_mf = s.get PWR_STORE_STATUS_cap_mf := by
  rw [get_storeRead _ _ _ _ (by decide), get_budgetSet _ _ (by decide) (by decide), get_set_field _ _ _ _ (by decide)]

theorem storeRead_budgeted (s : State) (mv : Nat) : Budgeted (storeRead s mv) (s.set PWR_STORE_STATUS_vstore 0 mv).energyMj :=
  (budgetSet_budgeted _).congr (get_storeRead _ _ _ _ (by decide)) (get_storeRead _ _ _ _ (by decide))

theorem storeLevel_budgeted (s : State) (mv : Nat) : Budgeted (s.storeLevel mv) (s.set PWR_STORE_STATUS_vstore 0 mv).energyMj :=
  (storeRead_budgeted s mv).congr ((storeLevel_after s mv).2 _ _ rfl) ((storeLevel_after s mv).2 _ _ rfl)

theorem storeLevel_state (s : State) (mv : Nat) : (s.storeLevel mv).get PWR_STORE_STATUS_state = (storeRead s mv).get PWR_STORE_STATUS_state :=
  (storeLevel_after s mv).2 _ _ rfl

/-! ## The failed store -/

/-- A store that fails reads state 4 and no energy. -/
theorem storeFailed_after (s : State) (h : s.get PWR_STORE_STATUS_state ≠ 4) : s.storeFailed.get PWR_STORE_STATUS_state = 4 ∧ Budgeted s.storeFailed 0 := by
  let u := (s.storeState 4).budgetSet
  have g : ∀ f i, discardW.field (f.key i) = false → s.storeFailed.get f i = u.get f i := fun f i hw => by
    rw [State.storeFailed, if_neg h, (within_waterCheck _).regs f i hw]
    dsimp only
    split <;> rfl
  have hs : (s.storeState 4).get PWR_STORE_STATUS_state = 4 := get_storeState s 4 h (by decide)
  constructor
  · rw [g _ _ rfl, get_budgetSet _ _ (by decide) (by decide), hs]
  · have b := budgetSet_budgeted (s.storeState 4)
    rw [energyMj_failed _ hs] at b
    exact b.congr (g _ _ rfl) (g _ _ rfl)

/-! ## The test -/

/-- The test's figures before they are judged: C, the ESR, the store no longer tested, its end of life. -/
def storeMeasured (s : State) (c step : Nat) : State :=
  let s := { s with pwr := { s.pwr with testFrom := none } }.bump (ctrPwr 6)
  let s := (s.set PWR_STORE_STATUS_cap_mf 0 c).set PWR_STORE_STATUS_esr 0 (min 1023 (step / 2))
  let s := s.storeState 0
  if decide (usableMj c 20000 < 300000) && !s.flag PWR_STORE_STATUS_eol then (s.set PWR_STORE_STATUS_eol 0 1).raise EV_PWR_STORE_EOL 0 0 else s

theorem storeTested_eq (s : State) {v mv : Nat} (step cells : Nat) (broken : Bool) (h : s.pwr.testFrom = some v) (hv : mv < v) :
    s.storeTested mv step cells broken = if min 65535 (1000000 / (v - mv)) < 500 || 400 < step || 300 < cells || broken then
      ((storeMeasured s (min 65535 (1000000 / (v - mv))) step).storeLevel mv).storeFailed
    else (storeMeasured s (min 65535 (1000000 / (v - mv))) step).storeLevel mv := by
  simp only [State.storeTested, h, if_neg (Nat.not_le.mpr hv)]
  rfl

/-- A test's figures before its end of life is judged. -/
def storeFigures (s : State) (c step : Nat) : State :=
  let s := { s with pwr := { s.pwr with testFrom := none } }.bump (ctrPwr 6)
  ((s.set PWR_STORE_STATUS_cap_mf 0 c).set PWR_STORE_STATUS_esr 0 (min 1023 (step / 2))).storeState 0

theorem get_storeMeasured (s : State) (c step : Nat) (f : Fld) (i : Nat) (h : (f.reg, f.lo) ≠ (PWR_STORE_STATUS_eol.reg, PWR_STORE_STATUS_eol.lo)) :
    (storeMeasured s c step).get f i = (storeFigures s c step).get f i := by
  show State.get (ite _ (((storeFigures s c step).set PWR_STORE_STATUS_eol 0 1).raise EV_PWR_STORE_EOL 0 0) (storeFigures s c step)) f i = _
  split
  · rw [get_raise, get_set_field _ _ _ _ (Ne.symm h)]
  · rfl

theorem storeMeasured_cap (s : State) (c step : Nat) (h : c < 65536) : (storeMeasured s c step).get PWR_STORE_STATUS_cap_mf = c := by
  rw [get_storeMeasured _ _ _ _ _ (by decide), storeFigures, (within_storeState _ 0).regs _ _ rfl, get_set_field _ _ _ _ (by decide), get_set_same]
  exact Nat.mod_eq_of_lt h

theorem storeMeasured_esr (s : State) (c step : Nat) (h : step ≤ 400) : (storeMeasured s c step).get PWR_STORE_STATUS_esr = step / 2 := by
  rw [get_storeMeasured _ _ _ _ _ (by decide), storeFigures, (within_storeState _ 0).regs _ _ rfl, get_set_same, Nat.min_eq_right (by omega)]
  exact Nat.mod_eq_of_lt (by show _ < 1024; omega)

theorem storeMeasured_state (s : State) (c step : Nat) : (storeMeasured s c step).get PWR_STORE_STATUS_state =
    if s.get PWR_STORE_STATUS_state = 4 then 4 else 0 := by
  rw [get_storeMeasured _ _ _ _ _ (by decide)]
  have e : ((({ s with pwr := { s.pwr with testFrom := none } }.bump (ctrPwr 6)).set PWR_STORE_STATUS_cap_mf 0 c).set
      PWR_STORE_STATUS_esr 0 (min 1023 (step / 2))).get PWR_STORE_STATUS_state = s.get PWR_STORE_STATUS_state := by
    rw [get_set_field _ _ _ _ (by decide), get_set_field _ _ _ _ (by decide)]
    rfl
  split_ifs with h
  · unfold storeFigures State.storeState
    dsimp only
    rw [if_pos (by simp [e, h]), e, h]
  · exact get_storeState _ 0 (e ▸ h) (by decide)

theorem storeMeasured_pwr (s : State) (c step : Nat) : (storeMeasured s c step).pwr = { s.pwr with testFrom := none } := by
  have w : (storeFigures s c step).pwr = { s.pwr with testFrom := none } := (within_storeState _ 0).pwr rfl
  show State.pwr (ite _ (((storeFigures s c step).set PWR_STORE_STATUS_eol 0 1).raise EV_PWR_STORE_EOL 0 0) (storeFigures s c step)) = _
  split
  · exact w
  · exact w

theorem storeHot_temp (s : State) (c : Nat) : (s.storeHot c).get PWR_STORE_STATUS_temp_c = min c 255 := by
  show ((s.set PWR_STORE_STATUS_temp_c 0 (min c 255)).set PWR_THERM_STATUS_store_c 0 (min c 255)).get PWR_STORE_STATUS_temp_c = _
  rw [get_set_field _ _ _ _ (by decide), get_set_same, Nat.mod_eq_of_lt (by show _ < 256; omega)]

theorem storeHot_limit (s : State) (c : Nat) (h : 65 < c) : (s.storeHot c).pwr.chargeMv = 0 := by
  simp [State.storeHot, h]

theorem budgetSlots_zero : budgetSlots 0 = 0 := by decide

/-- Settles O49: a level of the voltage sets the figures of its energy, a test its capacitance and ESR, a failure clears both. -/
theorem energyStore : Obligations.EnergyStore := by
  unfold Obligations.EnergyStore
  refine ⟨fun s mv hm h4 => ⟨_, rfl, ?_⟩, fun s mv h4 => ⟨_, rfl, ?_⟩, fun s hc h0 h1 he hd h4 ht => ⟨_, rfl, ?_⟩, fun s h => ⟨_, rfl, ?_⟩,
    fun s v mv step cells ht hv hlo hhi hst hce h4 => ⟨_, rfl, ?_⟩, fun s v mv step cells broken ht hv hb => ⟨_, rfl, ?_⟩,
    fun s c hc => ⟨_, rfl, ?_⟩, fun s c h1 h2 hm => ⟨_, rfl, ?_⟩, fun s c hc => ⟨_, rfl, ?_⟩⟩
  · obtain ⟨hp, hr⟩ := storeLevel_after s mv
    have he : (s.set PWR_STORE_STATUS_vstore 0 mv).energyMj = usableMj (s.get PWR_STORE_STATUS_cap_mf) mv :=
      energyMj_eq _ (by rwa [get_set_field _ _ _ _ (by decide)]) (get_set_field _ _ _ _ (by decide)) (by
        rw [get_set_same]
        exact Nat.mod_eq_of_lt hm)
    have hn : (storeRead s mv).get PWR_STORE_STATUS_state ≠ 4 := by
      obtain h | ⟨_, h⟩ := storeRead_state s mv
      · rwa [h]
      · omega
    have hs : (storeRead s mv).storeShort = decide (usableMj (s.get PWR_STORE_STATUS_cap_mf) mv < 105300) := by
      rw [State.storeShort, energyMj_eq _ hn (storeRead_cap s mv) (storeRead_vstore s mv hm)]
    have b := he ▸ storeLevel_budgeted s mv
    refine ⟨?_, ?_, ?_, ?_⟩
    · rw [get_only_in _ _ _ _ _ rfl, hr _ _ rfl, storeRead_vstore s mv hm]
    · rw [get_only_in _ _ _ _ _ rfl, b.ej]
      rfl
    · rw [get_only_in _ _ _ _ _ rfl, b.slots]
      rfl
    · show (s.storeLevel mv).pwr.storeLow = _
      rw [hp]
      exact hs
  · have he : (s.set PWR_STORE_STATUS_vstore 0 mv).energyMj = 0 := energyMj_failed _ (by rwa [get_set_field _ _ _ _ (by decide)])
    have b := he ▸ storeLevel_budgeted s mv
    refine ⟨?_, ?_, ?_⟩
    · rw [get_only_in _ _ _ _ _ rfl, b.ej]
      rfl
    · rw [get_only_in _ _ _ _ _ rfl, b.slots, budgetSlots_zero]
      rfl
    · rw [get_only_in _ _ _ _ _ rfl, storeLevel_state]
      obtain h | ⟨h, _⟩ := storeRead_state s mv
      · rw [h, h4]
      · omega
  · have e : s.storeTest = { s.storeState 2 with pwr := { s.pwr with testFrom := some (s.get PWR_STORE_STATUS_vstore) } } :=
      if_neg (by simp [hc, h0, h1, Nat.not_lt.mpr he, hd, h4, ht])
    refine ⟨?_, congrArg (·.pwr.testFrom) e⟩
    rw [get_only_in _ _ _ _ _ rfl, e]
    exact get_storeState s 2 h4 (by decide)
  · have e : s.storeTest = s := if_pos (by
      obtain h | h | h | h := h <;> simp [h])
    rw [e, only_self]
    exact ⟨rfl, rfl⟩
  · have hc : min 65535 (1000000 / (v - mv)) = 1000000 / (v - mv) := Nat.min_eq_right (by omega)
    have e : s.storeTested mv step cells false = (storeMeasured s (1000000 / (v - mv)) step).storeLevel mv := by
      rw [storeTested_eq s step cells false ht hv, if_neg (by simp; omega), hc]
    generalize hu : storeMeasured s (1000000 / (v - mv)) step = u at e
    obtain ⟨hp, hr⟩ := storeLevel_after u mv
    have hz : u.get PWR_STORE_STATUS_state = 0 := by
      rw [← hu, storeMeasured_state, if_neg h4]
    refine ⟨?_, ?_, ?_, ?_⟩
    · rw [get_only_in _ _ _ _ _ rfl, e, hr _ _ rfl, storeRead_cap, ← hu, storeMeasured_cap _ _ _ hhi]
    · rw [get_only_in _ _ _ _ _ rfl, e, hr _ _ rfl, get_storeRead _ _ _ _ (by decide), get_budgetSet _ _ (by decide) (by decide),
        get_set_field _ _ _ _ (by decide), ← hu, storeMeasured_esr _ _ _ hst]
    · show (s.storeTested mv step cells false).pwr.testFrom = _
      rw [e, hp, ← hu, storeMeasured_pwr]
    · rw [get_only_in _ _ _ _ _ rfl, e, storeLevel_state]
      obtain h | ⟨_, h⟩ := storeRead_state u mv
      · omega
      · exact h
  · have e : s.storeTested mv step cells broken = ((storeMeasured s (min 65535 (1000000 / (v - mv))) step).storeLevel mv).storeFailed := by
      rw [storeTested_eq s step cells broken ht hv, if_pos (by
        simp only [Bool.or_eq_true, decide_eq_true_eq]
        obtain h | h | h | h := hb
        · exact .inl (.inl (.inl (by omega)))
        · exact .inl (.inl (.inr h))
        · exact .inl (.inr h)
        · exact .inr h)]
    generalize hu : storeMeasured s (min 65535 (1000000 / (v - mv))) step = u at e
    have q : (u.storeLevel mv).storeFailed.get PWR_STORE_STATUS_state = 4 ∧ Budgeted (u.storeLevel mv).storeFailed 0 := by
      by_cases h : (u.storeLevel mv).get PWR_STORE_STATUS_state = 4
      · rw [State.storeFailed, if_pos h]
        refine ⟨h, ?_⟩
        rw [storeLevel_state] at h
        have hs : u.get PWR_STORE_STATUS_state = 4 := by
          obtain k | ⟨_, k⟩ := storeRead_state u mv <;> omega
        have b := storeLevel_budgeted u mv
        rwa [energyMj_failed _ (by rwa [get_set_field _ _ _ _ (by decide)])] at b
      · exact storeFailed_after _ h
    obtain ⟨q, b⟩ := q
    refine ⟨?_, ?_, ?_⟩
    · rw [get_only_in _ _ _ _ _ rfl, e, q]
    · rw [get_only_in _ _ _ _ _ rfl, e, b.ej]
      rfl
    · rw [get_only_in _ _ _ _ _ rfl, e, b.slots, budgetSlots_zero]
      rfl
  · exact ⟨storeHot_limit s c hc, by rw [get_only_in _ _ _ _ _ rfl, storeHot_temp]⟩
  · refine ⟨?_, by rw [get_only_in _ _ _ _ _ rfl, storeHot_temp, Nat.min_eq_left (by omega)]⟩
    show (s.storeHot c).pwr.chargeMv = _
    simp [State.storeHot, hm, h1, Nat.not_lt.mpr h2]
  · refine ⟨?_, by rw [get_only_in _ _ _ _ _ rfl, storeHot_temp, Nat.min_eq_left (by omega)]⟩
    show (s.storeHot c).pwr.chargeMv = _
    simp [State.storeHot, show ¬ 65 < c by omega, show ¬ 60 < c by omega, show ¬ 55 < c by omega, Nat.not_lt.mpr hc]

end Sys2Proof.Machine
end

section
/-! PROOFS. Event reports, acknowledgements, window ends and lost records: each is one change of the EVT block. -/

namespace Sys2Proof.Machine

/-- A command that writes no register keeps them. -/
theorem regs_only_same (s t : State) (w : Writes) (h : t.regs = s.regs) : (s.only w t).regs = s.regs := by
  show keepRegs w s.regs t.regs = s.regs
  simp [keepRegs, h]

theorem evReport_plain (r : Table RKey Nat) (now : Word64) (ev : Evt) (c : Ctr) (p : Report) (h : p.key = none) :
    ∃ d, evReport r now ev c p = evEnter r now (ev, d) p 1 false now now := by
  unfold evReport
  rw [h]
  exact ⟨_, rfl⟩

/-- A report whose window is open counts there. -/
theorem evReport_merges (r : Table RKey Nat) (now : Word64) (ev : Evt) (c : Ctr) (p : Report) {k : Nat} (h : p.key = some k)
    (hw : (ev.windows.any fun w => w.code = p.code && w.key = k) = true) :
    (evReport r now ev c p).1 = { ev with windows := ev.windows.map fun w => if w.code = p.code && w.key = k then
        { w with count := w.count + 1, firstAt := if w.count = 0 then now else w.firstAt, lastAt := now, proto := p } else w } := by
  unfold evReport
  rw [h]
  exact congrArg Prod.fst (if_pos hw)

theorem emitLost_some (r : Table RKey Nat) (d : Word64) (ec : Evt × Ctr) (h : ec.1.lostCount ≠ 0) (k : ec.1.buffer.length < 4096) :
    (emitLost r d ec).1.lostCount = 0 ∧ (emitLost r d ec).1.nextSeq = ec.1.nextSeq + 1 ∧
    (ringsOn r = [] → (emitLost r d ec).1.buffer = ec.1.buffer ++ [lostRec d ec.1]) := by
  unfold emitLost
  rw [if_neg (by simp [h, k])]
  refine ⟨rfl, evPush_nextSeq _ _ _, fun g => ?_⟩
  show (evPush r ec (lostRec d ec.1)).1.buffer = _
  rw [evPush_buffer, evKeeps_noRing _ _ _ g, if_pos rfl]

theorem emitLost_windows (r : Table RKey Nat) (d : Word64) (ec : Evt × Ctr) : (emitLost r d ec).1.windows = ec.1.windows := by
  unfold emitLost
  split
  · rfl
  · exact evPush_windows ..

/-- A record entered leaves the windows, whatever room it finds. -/
theorem evEnter_windows (r : Table RKey Nat) (now : Word64) (ec : Evt × Ctr) (p : Report) (n : Nat) (w : Bool) (a l : Word64) :
    (evEnter r now ec p n w a l).1.windows = ec.1.windows := by
  unfold evEnter
  dsimp only
  split
  · rw [pldmSend_windows]
    exact (noteFatal_windows _ _).trans ((evPush_windows _ _ _).trans (emitLost_windows ..))
  · split
    · rw [pldmSend_windows]
      exact emitLost_windows ..
    · rw [pldmSend_windows]
      exact (noteFatal_windows _ _).trans (emitLost_windows ..)

/-- Settles O58: a report with room is one record, one with an open window only counts, and the other commands touch what they name. -/
theorem eventReportsAndBuffer : Obligations.EventReportsAndBuffer := by
  unfold Obligations.EventReportsAndBuffer
  refine ⟨fun s p hk hl hb => ⟨_, rfl, ?_⟩, fun s p k hk hw => ⟨_, rfl, ?_⟩, fun s seq => ⟨_, rfl, rfl, rfl⟩,
    fun s code key w hw => ⟨_, rfl, ?_⟩, fun s hl hb => ⟨_, rfl, ?_⟩⟩
  · obtain ⟨d, e⟩ := evReport_plain s.regs s.dtc s.evt s.ctr p hk
    obtain ⟨h1, _, h3, h4⟩ := evEnter_room s.regs s.dtc (s.evt, d) p 1 false s.dtc s.dtc hl hb
    rw [← e] at h1 h3 h4
    exact ⟨h1, h3, h4, regs_only_same _ _ _ rfl⟩
  · have e := evReport_merges s.regs s.dtc s.evt s.ctr p hk hw
    have g : (s.report p).evt = (evReport s.regs s.dtc s.evt s.ctr p).1 := rfl
    show (s.report p).evt.nextSeq = _ ∧ (s.report p).evt.buffer = _ ∧ (s.report p).evt.windows = _
    rw [g, e]
    exact ⟨rfl, rfl, rfl⟩
  · let u : State := { s with evt := { s.evt with windows := s.evt.windows.filter fun v => !(v.code = code && v.key = key) } }
    let q := evEnter u.regs u.dtc (u.evt, u.ctr) w.proto w.count true w.firstAt w.lastAt
    have e : s.windowEnd code key = if w.count = 0 then u else { u with evt := q.1, ctr := q.2 } := by
      rw [State.windowEnd, hw]
    show (s.windowEnd code key).evt.windows = _ ∧ (_ → (s.windowEnd code key).evt.nextSeq = _ ∧ (s.windowEnd code key).evt.buffer = _) ∧
      (_ → _ → _ → (s.windowEnd code key).evt.nextSeq = _ ∧ (_ → (s.windowEnd code key).evt.buffer = _))
    rw [e]
    by_cases hc : w.count = 0
    · rw [if_pos hc]
      exact ⟨rfl, fun _ => ⟨rfl, rfl⟩, fun h => absurd hc h⟩
    · rw [if_neg hc]
      refine ⟨?_, fun h => absurd h hc, fun _ hl hb => ?_⟩
      · exact evEnter_windows ..
      · obtain ⟨h1, _, h3, _⟩ := evEnter_room u.regs u.dtc (u.evt, u.ctr) w.proto w.count true w.firstAt w.lastAt hl hb
        exact ⟨h1, h3⟩
  · have e : s.lostEmit.evt = (emitLost s.regs s.dtc (s.evt, s.ctr)).1 := by
      rw [State.lostEmit, if_neg (Nat.not_le.mpr hb)]
    obtain ⟨h1, h2, h3⟩ := emitLost_some s.regs s.dtc (s.evt, s.ctr) hl hb
    rw [← e] at h1 h2 h3
    exact ⟨h1, h2, h3⟩

end Sys2Proof.Machine
end

section
/-! PROOFS. Support: the footprint of a Firn append and of what it sets going: the map, live counts, the Crevasse list, completions. -/

namespace Sys2Proof.Machine

open F

/-! ## Narrow footprints of shared operations -/

/-- A pair frame. -/
def pairW : Writes := { parts := [.ctr, .pair, .outbox] }

/-- A completion. -/
def completeW : Writes := { parts := [.ctr, .qpe, .pair, .outbox], fields := qpeLive }

/-- R252's thresholds. -/
def waterW : Writes := { parts := [.evt, .ctr], fields := [JNL_NEVE_STATUS_high_water] }

/-- A Firn append. -/
def firnW : Writes := { parts := mappingParts, fields := qpeLive ++ rebLive ++ firnSeq }

theorem pairSend_pairW (s : State) (m : PairMsg) : Within pairW s (s.pairSend m) :=
  within_ite _ (fun _ => .refl _ _) fun _ => ((within_send s _ rfl).trans (within_bump _ _ _ rfl)).trans (within_pair _ _ rfl)

theorem complete_completeW (s : State) (c : Nat) (st : Status) (a b : Word32) : Within completeW s (s.complete c st a b) := by
  have hq : ∀ u : State, Within completeW u u.qpeStatus := fun u => (within_set u _ _ _ rfl).trans (within_set _ _ _ _ rfl)
  unfold State.complete
  split
  · exact .refl _ _
  · split
    · exact .refl _ _
    · split
      · exact (within_qpe s _ rfl).trans ((pairSend_pairW _ _).widen (by decide) (by decide) (by decide))
      · split
        · exact (within_qpe s _ rfl).trans (hq _)
        · split
          · exact ((within_qpe s _ rfl).trans (within_qpe _ _ rfl)).trans (hq _)
          · exact (within_qpe s _ rfl).trans (within_qpe _ _ rfl)

theorem waterCheck_waterW (s : State) : Within waterW s s.waterCheck := by
  unfold State.waterCheck
  refine within_ite _ (fun _ => within_ite _ (fun _ => ?_) fun _ => .refl _ _) fun _ => within_ite _ (fun _ => ?_) fun _ => .refl _ _
  · exact ((within_set s _ _ _ rfl).trans (within_raise _ _ _ _ _ rfl rfl)).trans (within_enter _ _ rfl)
  · exact (within_set s _ _ _ rfl).trans (within_leave _ _ rfl)

/-! ## What a Firn append sets going -/

/-- A Firn append but for the frames it sends and the moves it settles. -/
def firnOwnW : Writes := { parts := [.evt, .ctr, .qpe, .str, .jnl, .reb, .outbox], fields := qpeLive ++ rebLive ++ firnSeq }

theorem within_str_reb {w : Writes} (s : State) (x y) (h : w.part .str = true) (k : w.part .reb = true) : Within w s { s with str := x, reb := y } :=
  (within_str s x h).trans (within_reb { s with str := x } y k)

theorem within_crevChanged (s : State) : Within firnOwnW s s.crevChanged :=
  ((within_set s _ _ _ rfl).trans (within_set _ _ _ _ rfl)).trans (within_reb _ _ rfl)

theorem within_crevRun (s : State) (c : Crev) : Within firnOwnW s (s.crevRun c) := by
  unfold State.crevRun
  extract_lets hit old counted
  have h1 : Within firnOwnW s counted := within_addSat s _ _ _ rfl
  refine h1.trans (within_ite _ (fun _ => ?_) fun _ => (within_reb counted _ rfl).trans (within_crevChanged _))
  have h2 : Within firnOwnW counted (counted.addSat REB_CREV_COUNT_overflow 0 1) := within_addSat _ _ _ _ rfl
  exact h2.trans (within_ite _ (fun _ => .refl _ _) fun _ => (within_reb _ _ rfl).trans (within_raise _ _ _ _ _ rfl rfl))

/-- A relation between states that an append keeps: what it takes of the parts of the mapping, a frame, a settled move, one after another. -/
structure FirnClosed (R : State → State → Prop) : Prop where
  own    : ∀ {s t : State}, Within firnOwnW s t → R s t
  send   : ∀ (s : State) (m : PairMsg), R s (s.pairSend m)
  settle : ∀ (s : State) (r : FirnRec), R s (s.firnSettle r)
  trans  : ∀ {s t u : State}, R s t → R t u → R s u

namespace FirnClosed

variable {R : State → State → Prop}

theorem refl (h : FirnClosed R) (s : State) : R s s := h.own (.refl _ _)

theorem ite (_h : FirnClosed R) {s a b : State} (c : Prop) [Decidable c] (ha : c → R s a) (hb : ¬c → R s b) : R s (if c then a else b) := by
  split
  · next k => exact ha k
  · next k => exact hb k

theorem each (h : FirnClosed R) {α : Type} (s : State) (l : List α) (f : State → α → State) (hf : ∀ s a, R s (f s a)) : R s (s.each l f) := by
  induction l generalizing s with
  | nil => exact h.refl s
  | cons a l ih => exact h.trans (hf s a) (ih (f s a))


/-- A segment of code that only takes of the mapping's parts, before another step. -/
theorem after (h : FirnClosed R) {s t u : State} (a : Within firnOwnW s t) (b : R t u) : R s u := h.trans (h.own a) b

/-- The same after another step. -/
theorem before (h : FirnClosed R) {s t u : State} (a : R s t) (b : Within firnOwnW t u) : R s u := h.trans a (h.own b)

/-! ## Completions and slots -/

theorem complete (h : FirnClosed R) (s : State) (c : Nat) (st : Status) (a b : Word32) : R s (s.complete c st a b) := by
  have hq : ∀ u : State, Within firnOwnW u u.qpeStatus := fun u => (within_set u _ _ _ rfl).trans (within_set _ _ _ _ rfl)
  unfold State.complete
  split
  · exact h.refl s
  · split
    · exact h.refl s
    · split
      · exact h.after (within_qpe s _ rfl) (h.send _ _)
      · split
        · exact h.own ((within_qpe s _ rfl).trans (hq _))
        · split
          · exact h.own (((within_qpe s _ rfl).trans (within_qpe _ _ rfl)).trans (hq _))
          · exact h.own ((within_qpe s _ rfl).trans (within_qpe _ _ rfl))

theorem slotFree (h : FirnClosed R) (s : State) (i : Nat) : R s (s.slotFree i) := by
  unfold State.slotFree
  split
  · exact h.refl s
  · extract_lets had _ freed counted retired rest _ consumed
    have hcounted : Within firnOwnW s counted := (within_jnl s _ rfl : Within firnOwnW s freed).trans
      (within_ite _ (fun _ => within_bump _ _ _ rfl) fun _ => .refl _ _)
    have hretired : R counted retired := h.ite _ (fun _ => h.send _ _) fun _ => h.refl _
    have hconsumed : Within firnOwnW retired consumed := within_ite _ (fun _ => within_jnl _ _ rfl) fun _ => .refl _ _
    exact h.before (h.after hcounted hretired) (hconsumed.trans ((waterCheck_waterW _).widen (by decide) (by decide) (by decide)))

/-! ## Records placed in the tail -/

theorem firnPushWith (h : FirnClosed R) {enter commit : State → FirnRec → State} (he : ∀ s r, R s (enter s r)) (hc : ∀ s r, R s (commit s r))
    (s : State) (o : Nat) (b : FirnBody) : R s (s.firnPushWith enter commit o b) := by
  unfold State.firnPushWith
  extract_lets q r numbered _ placed mirrored entered
  have h1 : Within firnOwnW s placed := ((within_set s _ _ _ rfl).trans (within_bump _ _ _ rfl)).trans (within_jnl _ _ rfl)
  have h2 : R placed mirrored := h.ite _ (fun _ => h.send _ _) fun _ => h.refl _
  have h3 : R mirrored entered := he _ _
  exact h.trans (h.trans (h.after h1 h2) h3) (h.ite _ (fun _ => h.refl _) fun _ => hc _ _)

theorem firnAppendWith (h : FirnClosed R) {enter commit : State → FirnRec → State} (he : ∀ s r, R s (enter s r)) (hc : ∀ s r, R s (commit s r))
    (s : State) (o : Nat) (b : FirnBody) : R s (s.firnAppendWith enter commit o b) := by
  refine h.ite _ (fun _ => h.ite _ (fun _ => ?_) fun _ => h.own (within_jnl s _ rfl)) fun _ => h.ite _ (fun _ => h.own ?_) fun _ =>
    h.firnPushWith he hc s o b
  · exact h.after (within_jnl s _ rfl) (h.send _ _)
  · extract_lets _ parked
    have hp : Within firnOwnW s parked := within_jnl s _ rfl
    exact hp.trans (within_ite _ (fun _ => ((within_jnl _ _ rfl).trans (within_raise _ _ _ _ _ rfl rfl)).trans (within_enter _ _ rfl)) fun _ => .refl _ _)

theorem segEnter (h : FirnClosed R) (s : State) (r : FirnRec) : R s (s.segEnter r) := by
  unfold State.segEnter
  split
  · unfold State.enterSegState
    split <;> exact h.own (within_str s _ rfl)
  · exact h.refl s

theorem metaAppend (h : FirnClosed R) (s : State) (o : Nat) (b : FirnBody) : R s (s.metaAppend o b) :=
  h.firnAppendWith (fun s _ => h.refl s) h.settle s o b

theorem segAppend (h : FirnClosed R) (s : State) (o i : Nat) (g : Option Seg) : R s (s.segAppend o i g) :=
  h.firnAppendWith h.segEnter h.settle s o _

/-! ## Segments and the map -/

theorem rebCheck (h : FirnClosed R) (s : State) : R s s.rebCheck := by
  unfold State.rebCheck
  refine h.own (within_ite _ (fun _ => ?_) fun _ => within_ite _ (fun _ => .refl _ _) fun _ => ?_)
  · extract_lets idle
    exact (within_set s _ _ _ rfl : Within firnOwnW s idle).trans (within_ite _ (fun _ => (((within_reb _ _ rfl).trans
      (within_raise _ _ _ _ _ rfl rfl)).trans (within_leave _ _ rfl)).trans (within_leave _ _ rfl)) fun _ => .refl _ _)
  · exact (((within_reb s _ rfl).trans (within_set _ _ _ _ rfl)).trans (within_set _ _ _ _ rfl)).trans (within_enter _ _ rfl)

theorem releaseSeg (h : FirnClosed R) (s : State) (i : Nat) : R s (s.releaseSeg i) := by
  unfold State.releaseSeg
  split
  · exact h.refl s
  · refine h.ite _ (fun _ => h.refl s) fun _ => ?_
    extract_lets appended counted
    have h1 : Within firnOwnW appended counted := within_ite _ (fun _ => (within_bump _ _ _ rfl).trans (within_set _ _ _ _ rfl)) fun _ => .refl _ _
    exact h.trans (h.before (h.segAppend s _ _ _) (h1.trans (within_str_reb counted _ _ rfl rfl))) (h.rebCheck _)

theorem releaseIdle (h : FirnClosed R) (s : State) (i : Nat) : R s (s.releaseIdle i) := by
  unfold State.releaseIdle
  split
  · exact h.refl s
  · exact h.ite _ (fun _ => h.releaseSeg s _) fun _ => h.refl s

theorem liveDown (h : FirnClosed R) (s : State) (i : Nat) : R s (s.liveDown i) := by
  unfold State.liveDown
  split
  · exact h.refl s
  · exact h.after (within_str s _ rfl) (h.ite _ (fun _ => h.releaseIdle _ _) fun _ => h.refl _)

theorem liveUp (h : FirnClosed R) (s : State) (i : Nat) : R s (s.liveUp i) := by
  unfold State.liveUp
  split
  · exact h.refl s
  · exact h.own (within_str s _ rfl)

theorem crevHeal (h : FirnClosed R) (s : State) (nsid a n : Nat) : R s (s.crevHeal nsid a n) := by
  refine h.ite _ (fun _ => h.after ?_ (h.send _ _)) fun _ => h.refl s
  refine (within_each _ _ _ fun s c => ?_).trans (within_crevChanged _)
  refine (within_bump s _ _ rfl).trans (within_ite _ (fun _ => ?_) fun _ => within_reb _ _ rfl)
  exact (within_reb _ _ rfl).trans (within_addSat _ _ _ _ rfl)

theorem crevAdd (h : FirnClosed R) (s : State) (c : Crev) : R s (s.crevAdd c) :=
  h.after (within_each _ _ _ fun s _ => within_crevRun s _) (h.send _ _)

theorem mapPut (h : FirnClosed R) (s : State) (ns lba : Nat) (e : MapEnt) : R s (s.mapPut ns lba e) := by
  unfold State.mapPut
  extract_lets old _ put lived
  have h1 : Within firnOwnW s put := (within_str s _ rfl).trans (within_str _ _ rfl)
  have h2 : R put lived := by
    unfold lived
    split
    · exact h.liveUp _ _
    · exact h.refl _
  refine h.trans (h.after h1 h2) ?_
  clear_value old
  cases old with
  | member k g o => exact h.liveDown _ _
  | lost g o =>
    dsimp only
    split
    · exact h.refl _
    · exact h.crevHeal _ _ _ _
    · exact h.refl _
  | unmapped => exact h.refl _
  | neve k i => exact h.refl _

theorem mapUnmap (h : FirnClosed R) (s : State) (ns lba n : Nat) : R s (s.mapUnmap ns lba n) := h.each _ _ _ fun s _ => h.mapPut s _ _ _

/-! ## Commits -/

theorem writeCheck (h : FirnClosed R) (s : State) (c : Nat) : R s (s.writeCheck c) := by
  unfold State.writeCheck
  split
  · exact h.refl s
  · dsimp only
    split
    · exact h.before (h.complete s c _ _ _) (within_jnl _ _ rfl)
    · exact h.own (within_jnl s _ rfl)

theorem writesCheck (h : FirnClosed R) (s : State) : R s s.writesCheck := h.each _ _ _ fun s c => h.writeCheck s c

theorem mapRecorded (h : FirnClosed R) (s : State) (ns lba n q : Nat) : R s (s.mapRecorded ns lba n q) :=
  h.after (within_jnl s _ rfl) (h.writesCheck _)

theorem recSettled (h : FirnClosed R) (s : State) (ns lba : Nat) (m : Bool) : R s (s.recSettled ns lba m) := by
  unfold State.recSettled
  split
  · exact h.refl s
  · exact h.after (within_qpe s _ rfl) (h.ite _ (fun _ => h.complete _ _ _ _ _) fun _ => h.refl _)

theorem switchBlock (h : FirnClosed R) (s : State) (seg off : Nat) (b : StripeBlk) : R s (s.switchBlock seg off b) := by
  have swap : ∀ (s : State) ns lba (k : Bool) (e : MapEnt) (ctr : Nat → Nat), R s (if s.lookup ns lba = e then
      match ((s.mapPut ns lba (.member k seg off)).seg seg).bind fun g => headGroup g.head with
      | some gr => (s.mapPut ns lba (.member k seg off)).bump (ctr gr) | none => s.mapPut ns lba (.member k seg off) else s) := by
    intro s ns lba k e ctr
    refine h.ite _ (fun _ => h.before (h.mapPut s ns lba (.member k seg off)) ?_) fun _ => h.refl s
    split
    · exact within_bump _ _ _ rfl
    · exact .refl _ _
  unfold State.switchBlock
  split
  · exact swap ..
  · exact swap ..
  · exact swap ..
  · exact h.refl s

theorem switchDone (h : FirnClosed R) (s : State) (seg off : Nat) : R s (s.switchDone seg off) := by
  unfold State.switchDone
  split
  · exact h.refl s
  · exact h.trans (h.after (within_str s _ rfl) (h.each _ _ _ fun s _ => h.switchBlock s _ _ _)) (h.releaseIdle _ _)

theorem restored (h : FirnClosed R) (s : State) (i : Nat) (g : Seg) : R s (s.restored i g) := by
  unfold State.restored
  split
  · exact h.refl s
  · refine h.trans (h.trans (h.own ?_) (h.releaseIdle _ _)) (h.rebCheck _)
    exact ((((within_str s _ rfl).trans (within_reb _ _ rfl)).trans (within_bump _ _ _ rfl)).trans (within_bump _ _ _ rfl)).trans (within_set _ _ _ _ rfl)

theorem firnEnter (h : FirnClosed R) (s : State) (r : FirnRec) : R s (s.firnEnter r) := by
  unfold State.firnEnter
  split
  · exact h.mapUnmap _ _ _ _
  · exact h.ite _ (fun _ => h.refl s) fun _ => h.trans (h.segEnter s r) (h.releaseIdle _ _)
  · exact h.refl s

theorem firnCommit (h : FirnClosed R) (s : State) (r : FirnRec) : R s (s.firnCommit r) := by
  have hp : ∀ (u : State) ns lba q, Within firnOwnW u (u.pageSeq ns lba q) := fun u _ _ _ => within_str u _ rfl
  unfold State.firnCommit
  split
  · exact h.trans (h.before (h.trans (h.switchDone s _ _) (h.each _ _ _ h.slotFree)) (hp _ _ _ _)) (h.mapRecorded _ _ _ _ _)
  · exact h.trans (h.after (hp s _ _ _) (h.mapRecorded _ _ _ _ _)) (h.recSettled _ _ _ _)
  · exact h.ite _ (fun _ => h.restored s _ _) fun _ => h.refl s
  · exact h.settle _ _

/-- An append is no more than its parts. -/
theorem firnAppend (h : FirnClosed R) (s : State) (o : Nat) (b : FirnBody) : R s (s.firnAppend o b) :=
  h.firnAppendWith h.firnEnter h.firnCommit s o b

theorem loseBlock (h : FirnClosed R) (s : State) (ns lba cause member seg o : Nat) : R s (s.loseBlock ns lba cause member seg o) := by
  unfold State.loseBlock
  split
  · exact h.refl s
  · exact h.trans (h.trans (h.mapPut s _ _ _) (h.crevAdd _ _)) (h.firnAppend _ _ _)

end FirnClosed

/-! ## The footprint of an append -/

theorem firnW_own {s t : State} (h : Within firnOwnW s t) : Within firnW s t := h.widen (by decide) (by decide) (by decide)

theorem firnW_closed : FirnClosed (Within firnW) where
  own h := firnW_own h
  send s m := (pairSend_pairW s m).widen (by decide) (by decide) (by decide)
  settle s r := by
    unfold State.firnSettle
    split
    · exact within_pair s _ rfl
    · exact .refl _ _
  trans := Within.trans

theorem firnW_slotFree (s : State) (i : Nat) : Within firnW s (s.slotFree i) := firnW_closed.slotFree s i

theorem firnW_loseBlock (s : State) (ns lba cause member seg o : Nat) : Within firnW s (s.loseBlock ns lba cause member seg o) :=
  firnW_closed.loseBlock s ns lba cause member seg o

end Sys2Proof.Machine
end

section
/-! PROOFS. Stops asked for, resets of the cores, the reference and HBM errors. -/

namespace Sys2Proof.Machine

open F

/-! ## BOOT_CMD -/

/-- BOOT_CMD taken: result 0, busy, the stop begun. -/
theorem bootCmd_taken (s : State) (op : Nat) (ho : op = 1 ∨ op = 2) (hb : s.flag BOOT_CMD_busy = false) (hact : s.boot.act = none)
    (hd : s.dumping = false) : s.bootCmd op = ((s.set BOOT_CMD_result 0 0).set BOOT_CMD_busy 0 1).stopBegin (if op = 1 then 0 else 3) := by
  rw [State.bootCmd, if_neg (by obtain h | h := ho <;> simp [hb, h]), if_neg (by simp [hact]), if_neg (by simp [hd])]

theorem bootCmd_act (s : State) (op c : Nat) (ho : op = 1 ∨ op = 2) (hb : s.flag BOOT_CMD_busy = false) (hact : s.boot.act = some c) :
    s.bootCmd op = s.set BOOT_CMD_result 0 2 := by
  rw [State.bootCmd, if_neg (by obtain h | h := ho <;> simp [hb, h]), if_pos (by simp [hact])]

theorem bootCmd_dumping (s : State) (op : Nat) (ho : op = 1 ∨ op = 2) (hb : s.flag BOOT_CMD_busy = false) (hact : s.boot.act = none)
    (hd : s.dumping = true) : s.bootCmd op = s.set BOOT_CMD_result 0 3 := by
  rw [State.bootCmd, if_neg (by obtain h | h := ho <;> simp [hb, h]), if_neg (by simp [hact]), if_pos hd]

/-- What a stop that begins without a blocked group has set. -/
structure StopBegun (s t : State) (after : Nat) : Prop where
  phase : t.jnl.phase = .stopping (after != 0) s.dtc
  boot  : t.boot = { s.boot with after := after }
  stage : t.get BOOT_STATUS_stage = 9
  rest  : ∀ f i, (f.reg, f.lo) ≠ (BOOT_STATUS_stage.reg, BOOT_STATUS_stage.lo) → t.get f i = s.get f i

theorem stopBegin_begun (s : State) (after : Nat) (h : s.dumping = false) (hs : s.stopping = false)
    (hb : ∀ g, g < 16 → s.flag STR_GROUP_STATUS_blocked g = false) : StopBegun s (s.stopBegin after) after := by
  let u : State := { s with boot := { s.boot with after := after } }.set BOOT_STATUS_stage 0 9
  rw [stopBegin_free s after h hs hb, show u.stopStart (after != 0) = _ from stopStart_phase u _ h hs]
  refine ⟨rfl, rfl, ?_, fun f i hf => ?_⟩
  · exact get_set_same ..
  · exact get_set_field _ _ _ _ (Ne.symm hf)

/-- With a blocked group the stop is a dump of cause 3. -/
theorem stopBegin_blocked (s : State) (after g : Nat) (h : s.dumping = false) (hs : s.stopping = false) (hact : s.boot.act = none) (hg : g < 16)
    (hb : s.flag STR_GROUP_STATUS_blocked g = true) :
    (s.stopBegin after).jnl.phase = .flushing 3 s.dtc ∧ (s.stopBegin after).boot.after = after ∧ (s.stopBegin after).get BOOT_STATUS_stage = 9 ∧
    (s.stopBegin after).get BOOT_CMD_result = s.get BOOT_CMD_result := by
  let u : State := { s with boot := { s.boot with after := after } }.set BOOT_STATUS_stage 0 9
  let v : State := { u with jnl := { u.jnl with phase := .stopping (after != 0) u.dtc } }
  have hv : u.stopStart (after != 0) = v := stopStart_phase u _ h hs
  have hany : ((List.range 16).any fun g => v.flag STR_GROUP_STATUS_blocked g) = true := by
    refine List.any_eq_true.mpr ⟨g, List.mem_range.mpr hg, ?_⟩
    show u.flag STR_GROUP_STATUS_blocked g = true
    rw [flag_set_field _ _ _ _ (by decide)]
    exact hb
  have e : s.stopBegin after = v.dumpBegin 3 after := by
    rw [State.stopBegin, if_neg (by simp [h, hs])]
    show (if ((List.range 16).any fun g => (u.stopStart (after != 0)).flag STR_GROUP_STATUS_blocked g) then (u.stopStart (after != 0)).dumpBegin 3 after else _) = _
    rw [hv, hany]
    rfl
  have d := dumpBegin_begun v 3 after rfl hact
  rw [e]
  refine ⟨d.phase, by rw [d.boot], ?_, ?_⟩
  · rw [d.rest _ _ (by decide) rfl]
    exact get_set_same ..
  · rw [d.rest _ _ (by decide) rfl]
    exact get_set_field _ _ _ _ (by decide)

/-! ## The cores' window -/

/-- A notice keeps the deferred errors, and writes the features and what a completion writes. -/
theorem notice_within (s : State) (o : QOwner) (a b c d : Nat) :
    Within { parts := [.ctr, .qpe, .nsm, .pair, .outbox], fields := qpeLive } s (s.notice o a b c d) := by
  unfold State.notice
  refine within_ite _ (fun _ => .refl _ _) fun _ => ?_
  split
  · exact (within_nsm s _ rfl).trans ((complete_completeW _ _ _ _ _).widen (by decide) (by decide) (by decide))
  · exact within_ite _ (fun _ => .refl _ _) fun _ => within_nsm s _ rfl

theorem notice_deferred (s : State) (o : QOwner) (a b c d : Nat) : (s.notice o a b c d).nsm.deferred = s.nsm.deferred := by
  unfold State.notice
  dsimp only
  split
  · rfl
  · split
    · rw [(complete_completeW _ _ _ _ _).nsm rfl]
      rfl
    · split <;> rfl

theorem within_dropCells (s : State) (l : List Nat) : Within { parts := [.swc], fields := cells } s (s.dropCells l) :=
  (within_swc s _ rfl).trans ((within_set _ _ _ _ rfl).trans (within_set _ _ _ _ rfl))

/-- Frames dropped keep the CPU port's link. -/
theorem dropCells_cpuUp (l : List TmsItem) (s : State) : (s.each l fun s i => s.dropCells i.cells).swc.cpuUp = s.swc.cpuUp := by
  induction l generalizing s with
  | nil => rfl
  | cons i l ih => exact ih (s.dropCells i.cells)

/-- The CPU port taken down with no frame in the switch: what waited for it is dropped and reported. -/
theorem privilegedDown_cpu (s : State) (h : s.swc.frames = []) :
    (s.privilegedDown 48).swc.cpuUp = false ∧ Within { parts := [.evt, .ctr, .tms, .swc, .outbox], fields := cells } s (s.privilegedDown 48) := by
  let u : State := { s with swc := { s.swc with cpuUp := false } }
  have hc : u.copiesTo 48 = [] := by simp [State.copiesTo, u, h]
  have e : s.privilegedDown 48 = ((u.flushRoot 48).each (u.copiesTo 48) fun s (id, m) => s.endCopy id 48 m).raise EV_SWC_PORT_FLUSH 1 48
      [(u.copiesTo 48).length + (u.tms.leaves.filter fun x => x.root = 48).foldl (fun n x => n +
    ((x.green ++ x.yellow).filter fun i => match i.work with | .pkt _ => true | _ => false).length) 0] := rfl
  rw [e, hc]
  constructor
  · exact dropCells_cpuUp _ _
  · refine Within.trans ?_ (within_raise _ _ _ _ _ rfl rfl)
    refine (within_swc s _ rfl).trans ((within_tms _ _ rfl).trans (within_each _ _ _ fun s i => ?_))
    exact (within_dropCells s _).widen (by decide) (by decide) (by decide)

/-- The window opened: its command, the stage and the state. -/
structure ActOpened (s t : State) (c : Nat) : Prop where
  boot   : t.boot = { s.boot with act := some c, actAt := s.dtc, handed := false }
  stage  : t.get BOOT_STATUS_stage = 0xB
  state  : t.get BOOT_FW_STATUS_act_state = 2
  swc    : t.swc = s.swc

theorem actOpen_opened (s : State) (c : Nat) : ActOpened s (s.actOpen c) c := by
  unfold State.actOpen
  extract_lets _ opened staged aers cmds _ held
  have w : Within { parts := [.evt, .ctr, .qpe, .nsm, .pair, .outbox], fields := qpeLive } staged
      ((held.each held.adminOwners fun s o => s.notice o 9 2 1 3).raise EV_BOOT_ACT_START 0 0) := by
    refine Within.trans ((within_qpe staged _ rfl).trans (within_each _ _ _ fun s o => ?_)) (within_raise _ _ _ _ _ rfl rfl)
    exact (notice_within s o 9 2 1 3).widen (by decide) (by decide) (by decide)
  refine ⟨?_, ?_, ?_, ?_⟩
  · rw [w.boot rfl]
    rfl
  · rw [w.regs _ _ rfl]
    exact get_set_same ..
  · rw [w.regs _ _ rfl]
    show ((opened.set BOOT_FW_STATUS_act_state 0 2).set BOOT_STATUS_stage 0 0xB).get BOOT_FW_STATUS_act_state = 2
    rw [get_set_field _ _ _ _ (by decide)]
    exact get_set_same ..
  · rw [w.swc rfl]
    rfl

/-- A state written to every core of a list. -/
theorem coreStates (l : List Nat) (s : State) (v c : Nat) (h : c ∈ l) :
    (s.each l fun s c => (s.set GLB_CORE_STATUS_state c v).set GLB_CORE_STATUS_beat c 0).get GLB_CORE_STATUS_state c = v % 4 := by
  induction l using List.reverseRecOn generalizing s with
  | nil => cases h
  | append_singleton l d ih =>
    have e : (s.each (l ++ [d]) fun s c => (s.set GLB_CORE_STATUS_state c v).set GLB_CORE_STATUS_beat c 0) =
        ((s.each l fun s c => (s.set GLB_CORE_STATUS_state c v).set GLB_CORE_STATUS_beat c 0).set GLB_CORE_STATUS_state d v).set GLB_CORE_STATUS_beat d 0 := by
      simp [State.each]
    rw [e, get_set_field _ _ _ _ (by decide)]
    by_cases hd : d = c
    · subst hd
      exact get_set_same ..
    · rw [get_set_elem _ _ _ hd]
      exact ih s (by
        rw [List.mem_append, List.mem_singleton] at h
        exact h.resolve_right (Ne.symm hd))

/-- The cores put in reset with no frame in the switch. -/
theorem coresRun_stopped (s : State) (h : s.swc.frames = []) : (s.coresRun false).swc.cpuUp = false ∧ (s.coresRun false).boot = s.boot ∧
    (∀ c < 16, (s.coresRun false).get GLB_CORE_STATUS_state c = 0) ∧
    ∀ f i, f.reg / 0x100000 = 7 → (s.coresRun false).get f i = s.get f i := by
  have e : s.coresRun false = (s.each (List.range 16) fun s c => (s.set GLB_CORE_STATUS_state c (bit false)).set GLB_CORE_STATUS_beat c 0).privilegedDown 48 := by
    rw [State.coresRun]
    exact if_neg (by decide)
  have w : Within { parts := [], fields := [GLB_CORE_STATUS_state, GLB_CORE_STATUS_beat] } s
      (s.each (List.range 16) fun s c => (s.set GLB_CORE_STATUS_state c (bit false)).set GLB_CORE_STATUS_beat c 0) :=
    within_each _ _ _ fun s c => (within_set s _ _ _ rfl).trans (within_set _ _ _ _ rfl)
  have hz := fun c (hc : c < 16) => coreStates (List.range 16) s (bit false) c (List.mem_range.mpr hc)
  generalize (s.each (List.range 16) fun s c => (s.set GLB_CORE_STATUS_state c (bit false)).set GLB_CORE_STATUS_beat c 0) = u at e w hz
  obtain ⟨h1, h2⟩ := privilegedDown_cpu u (by rw [w.swc rfl]; exact h)
  rw [e]
  refine ⟨h1, (h2.boot rfl).trans (w.boot rfl), fun c hc => ?_, fun f i hf => ?_⟩
  · rw [h2.regs _ _ rfl]
    exact hz c hc
  · have q : ∀ g : Fld, g.reg / 0x100000 ≠ 7 → (decide (g.reg = f.reg) && decide (g.lo = f.lo)) = false := fun g hg => by
      have : g.reg ≠ f.reg := fun k => hg (by rw [k, hf])
      simp [this]
    rw [h2.regs, w.regs]
    · rw [field_key]
      simp [q GLB_CORE_STATUS_state (by decide), q GLB_CORE_STATUS_beat (by decide)]
    · rw [field_key]
      simp [cells, q SWC_BUF_STATUS_free_cells (by decide), q SWC_BUF_STATUS_min_free (by decide)]

theorem glbCoreReset_after (s : State) (hd : s.dumping = false) (hact : s.boot.act = none) (hf : s.swc.frames = []) :
    s.glbCoreReset.boot = { s.boot with coreRst := true, act := some s.qpe.nextCmd, actAt := s.dtc, handed := true } ∧
    s.glbCoreReset.swc.cpuUp = false ∧ s.glbCoreReset.get BOOT_STATUS_stage = 0xB ∧ s.glbCoreReset.get BOOT_FW_STATUS_act_state = 2 ∧
    ∀ c < 16, s.glbCoreReset.get GLB_CORE_STATUS_state c = 0 := by
  have a := actOpen_opened { s with boot := { s.boot with coreRst := true } } s.qpe.nextCmd
  generalize hu : State.actOpen { s with boot := { s.boot with coreRst := true } } s.qpe.nextCmd = u at a
  have e : s.glbCoreReset = State.coresRun { u with boot := { u.boot with handed := true } } false := by
    rw [State.glbCoreReset, if_neg (by simp [hd, hact])]
    dsimp only
    rw [hu]
  obtain ⟨c1, c2, c3, c4⟩ := coresRun_stopped { u with boot := { u.boot with handed := true } } (by show u.swc.frames = []; rw [a.swc]; exact hf)
  rw [e]
  refine ⟨c2.trans ?_, c1, ?_, ?_, c3⟩
  · show ({ u.boot with handed := true } : Boot) = _
    rw [a.boot]
  · rw [c4 _ _ (by decide)]
    exact a.stage
  · rw [c4 _ _ (by decide)]
    exact a.state

/-! ## HBM errors -/

/-- An HBM error noted, before its consequence. -/
def hbmNoted (s : State) (area off : Nat) : State := (s.raise EV_HBM_UE 0xE area [off % 2 ^ 32, off / 2 ^ 32]).bump (ctrGlb 4)

theorem reports_hbmNoted (s : State) (area off : Nat) : Reports s (hbmNoted s area off) EV_HBM_UE 0xE area [off % 2 ^ 32, off / 2 ^ 32] :=
  (reports_raise (s := s) (u := s) _ _ _ _ rfl rfl fun _ _ _ => rfl).congr rfl

theorem hbmUe_neve (s : State) (area off i : Nat) :
    s.hbmUe area off (.neve i) = if area = 0 && neveInUnit off i then (hbmNoted s area off).neveBad i else hbmNoted s area off := rfl

theorem pairSend_kept (s : State) (m : PairMsg) (h : s.pair.active = true) : (s.pair.txNext, m) ∈ (s.pairSend m).pair.kept := by
  simp [State.pairSend, h]

/-- A bad mirror copy of an active pair is fetched again from the partner. -/
theorem neveBad_mirror (s : State) (i : Nat) (x : NeveSlot) (d : NeveDesc) (h : tget s.jnl.slots i = some x) (hd : x.desc = some d)
    (hm : x.mirror = true) (hp : s.pair.active = true) :
    s.neveBad i = (s.modSlot i fun x => { x with dataOk := false, fetching := true }).pairSend (.neveFetch i) := by
  simp [State.neveBad, h, hd, hm, hp]

theorem neveBad_lone (s : State) (i : Nat) (x : NeveSlot) (d : NeveDesc) (h : tget s.jnl.slots i = some x) (hd : x.desc = some d)
    (hm : x.mirror = false) (hp : s.pair.active = false) : s.neveBad i = s.neveLose i d 2 := by
  simp [State.neveBad, h, hd, hm, hp]

theorem deferError_first (s : State) (o : QOwner) (i nsid lba n cause : Nat) (h : s.nsm.deferred = []) :
    (s.deferError o i nsid lba n cause).nsm.deferred = [{ owner := o, nsid := nsid, slba := lba, nlb := n, cause := cause, dtc := s.dtc }] := by
  unfold State.deferError
  simp only [h, List.filter_nil, List.map_nil, List.foldl_nil, List.length_nil, List.isEmpty_nil, Bool.true_and, Nat.reduceLeDiff, decide_false,
    Bool.false_eq_true, if_false, List.nil_append, Nat.add_sub_cancel_left, notice_deferred]

/-- A lost block of the write buffer: its slot is free and its owner has a deferred error. -/
theorem neveLose_after (s : State) (i : Nat) (d : NeveDesc) (cause : Nat) (h : s.nsm.deferred = []) :
    tget (s.neveLose i d cause).jnl.slots i = none ∧
    ∃ e ∈ (s.neveLose i d cause).nsm.deferred, e.owner = d.owner ∧ e.slba = d.lba ∧ e.nlb = 1 ∧ e.cause = cause := by
  unfold State.neveLose
  extract_lets nsid
  have hl := firnW_loseBlock s d.ns d.lba cause 0x1F 0xFFFFFF 0
  constructor
  · rw [(slotFree_jnl _ _).1]
    exact tget_tdel_same _ _
  · rw [(firnW_slotFree _ _).nsm rfl, deferError_first _ _ _ _ _ _ _ (by rw [hl.nsm rfl, h])]
    exact ⟨_, List.mem_singleton_self _, rfl, rfl, rfl, rfl⟩

/-- Settles O57: each stop, reset and error through the operation it is. -/
theorem stopsAndErrors : Obligations.StopsAndErrors := by
  unfold Obligations.StopsAndErrors
  refine ⟨fun s hb hact hd hs hg => ⟨_, rfl, ?_⟩, fun s hb hact hd hs hg => ⟨_, rfl, ?_⟩, fun s g hb hact hd hs hg hbl => ⟨_, rfl, ?_⟩,
    fun s i c hi hb hact => ?_, fun s i hi hb hact hd => ?_, fun s hd hact => ⟨_, rfl, ?_⟩, fun s hd => ⟨_, rfl, ?_⟩,
    fun s hd hact hf => ⟨_, rfl, ?_⟩, fun s h => ⟨_, rfl, ?_⟩, fun s core hc => ⟨_, rfl, ?_⟩, fun s ppm hr hd hact => ⟨_, rfl, ?_⟩,
    fun s ppm hr => ⟨_, rfl, ?_⟩, fun s area off ha => ⟨_, rfl, ?_⟩, fun s area off i ha h => ⟨_, rfl, ?_⟩,
    fun s off i x d hu hx hd hm hp => ⟨_, rfl, ?_⟩, fun s off i x d hu hx hd hm hp hn => ⟨_, rfl, ?_⟩⟩
  · let u := (s.set BOOT_CMD_result 0 0).set BOOT_CMD_busy 0 1
    have e : s.bootCmd 1 = u.stopBegin 0 := bootCmd_taken s 1 (.inl rfl) hb hact hd
    have b := stopBegin_begun u 0 hd hs fun g h => by
      rw [flag_set_field _ _ _ _ (by decide), flag_set_field _ _ _ _ (by decide)]
      exact hg g h
    refine ⟨?_, ?_, ?_, ?_, ?_⟩
    · rw [get_only_in _ _ _ _ _ rfl, e, b.rest _ _ (by decide), get_set_field _ _ _ _ (by decide)]
      exact get_set_same ..
    · rw [get_only_in _ _ _ _ _ rfl, e, b.rest _ _ (by decide)]
      exact get_set_same ..
    · rw [get_only_in _ _ _ _ _ rfl, e, b.stage]
    · show (s.bootCmd 1).jnl.phase = _
      rw [e, b.phase]
      rfl
    · show (s.bootCmd 1).boot.after = _
      rw [e, b.boot]
  · let u := (s.set BOOT_CMD_result 0 0).set BOOT_CMD_busy 0 1
    have e : s.bootCmd 2 = u.stopBegin 3 := bootCmd_taken s 2 (.inr rfl) hb hact hd
    have b := stopBegin_begun u 3 hd hs fun g h => by
      rw [flag_set_field _ _ _ _ (by decide), flag_set_field _ _ _ _ (by decide)]
      exact hg g h
    refine ⟨?_, ?_, ?_, ?_, ?_⟩
    · rw [get_only_in _ _ _ _ _ rfl, e, b.rest _ _ (by decide), get_set_field _ _ _ _ (by decide)]
      exact get_set_same ..
    · rw [get_only_in _ _ _ _ _ rfl, e, b.rest _ _ (by decide)]
      exact get_set_same ..
    · rw [get_only_in _ _ _ _ _ rfl, e, b.stage]
    · show (s.bootCmd 2).jnl.phase = _
      rw [e, b.phase]
      rfl
    · show (s.bootCmd 2).boot.after = _
      rw [e, b.boot]
  · let u := (s.set BOOT_CMD_result 0 0).set BOOT_CMD_busy 0 1
    have e : s.bootCmd 1 = u.stopBegin 0 := bootCmd_taken s 1 (.inl rfl) hb hact hd
    obtain ⟨b1, b2, b3, b4⟩ := stopBegin_blocked u 0 g hd hs hact hg (by
      rw [flag_set_field _ _ _ _ (by decide), flag_set_field _ _ _ _ (by decide)]
      exact hbl)
    refine ⟨?_, ?_, ?_, ?_⟩
    · rw [get_only_in _ _ _ _ _ rfl, e, b4, get_set_field _ _ _ _ (by decide)]
      exact get_set_same ..
    · rw [get_only_in _ _ _ _ _ rfl, e, b3]
    · show (s.bootCmd 1).jnl.phase = _
      rw [e, b1]
      rfl
    · show (s.bootCmd 1).boot.after = _
      rw [e, b2]
  · have r : ∀ op, op = 1 ∨ op = 2 → ∀ w : Writes, w.field (BOOT_CMD_result.key 0) = true → (s.only w (s.bootCmd op)).get BOOT_CMD_result = 2 ∧
        (s.bootCmd op).jnl = s.jnl ∧ (s.bootCmd op).boot = s.boot := fun op ho w hw => by
      rw [get_only_in _ _ _ _ _ hw, bootCmd_act s op c ho hb hact]
      exact ⟨get_set_same .., rfl, rfl⟩
    obtain rfl | rfl := hi
    · exact ⟨_, rfl, r 1 (.inl rfl) _ rfl⟩
    · exact ⟨_, rfl, r 2 (.inr rfl) _ rfl⟩
  · have r : ∀ op, op = 1 ∨ op = 2 → ∀ w : Writes, w.field (BOOT_CMD_result.key 0) = true → (s.only w (s.bootCmd op)).get BOOT_CMD_result = 3 ∧
        (s.bootCmd op).jnl = s.jnl ∧ (s.bootCmd op).boot = s.boot := fun op ho w hw => by
      rw [get_only_in _ _ _ _ _ hw, bootCmd_dumping s op ho hb hact hd]
      exact ⟨get_set_same .., rfl, rfl⟩
    obtain rfl | rfl := hi
    · exact ⟨_, rfl, r 1 (.inl rfl) _ rfl⟩
    · exact ⟨_, rfl, r 2 (.inr rfl) _ rfl⟩
  · have e : s.glbWarm = s.dumpBegin 3 1 := by simp [State.glbWarm, hd, hact]
    have d := dumpBegin_begun s 3 1 hd hact
    refine ⟨?_, ?_, ?_⟩
    · show s.glbWarm.jnl.phase = _
      rw [e, d.phase]
    · show s.glbWarm.boot.after = _
      rw [e, d.boot]
    · rw [get_only_in _ _ _ _ _ rfl, e, d.seq]
  · have e : s.glbWarm = s := if_pos (by simp [hd])
    rw [e, only_self]
    exact ⟨rfl, rfl, rfl⟩
  · obtain ⟨h1, h2, h3, h4, h5⟩ := glbCoreReset_after s hd hact hf
    refine ⟨congrArg Boot.coreRst h1, congrArg Boot.handed h1, congrArg Boot.act h1, h2, ?_, ?_, fun c hc => ?_⟩
    · rw [get_only_in _ _ _ _ _ rfl, h3]
    · rw [get_only_in _ _ _ _ _ rfl, h4]
    · rw [get_only_in _ _ _ _ _ rfl, h5 c hc]
  · have e : s.glbCoreReset = s := if_pos (by
      obtain h | h := h
      · simp [h]
      · simp [Option.isSome_iff_ne_none.mpr h])
    rw [e, only_self]
    exact ⟨rfl, rfl⟩
  · have hm : core % 16 = core := Nat.mod_eq_of_lt hc
    refine ⟨?_, ?_, rfl, rfl, rfl, rfl⟩
    · refine (reports_raise (s := s) (u := s.send (.busError core)) EV_GLB_CORE_DATA_ACCESS 0 core [] rfl rfl fun _ _ _ => rfl).congr ?_
      show (s.coreDataAccess core).evt = _
      rw [State.coreDataAccess, hm]
      rfl
    · show (s.coreDataAccess core).outbox = _
      rw [State.coreDataAccess, hm]
      rfl
  · let u := ((({ s with pwr := { s.pwr with refBad := true } } : State).set CLK_STATUS_ref_ok 0 0).set CLK_STATUS_holdover 0 1).set CLK_STATUS_ref_ppm 0 ppm
    have e : s.refLost ppm = (u.raise EV_CLK_REF_LOST 0 0).dumpBegin 2 6 := by
      rw [State.refLost, if_neg (by simp [hr])]
    have d := dumpBegin_begun (u.raise EV_CLK_REF_LOST 0 0) 2 6 hd hact
    refine ⟨?_, ?_, ?_, ?_, ?_⟩
    · rw [get_only_in _ _ _ _ _ rfl, e, d.rest _ _ (by decide) rfl, get_raise, get_set_field _ _ _ _ (by decide), get_set_field _ _ _ _ (by decide)]
      exact get_set_same ..
    · rw [get_only_in _ _ _ _ _ rfl, e, d.rest _ _ (by decide) rfl, get_raise, get_set_field _ _ _ _ (by decide)]
      exact get_set_same ..
    · show (s.refLost ppm).pwr.refBad = _
      rw [e, d.pwr]
      rfl
    · show (s.refLost ppm).jnl.phase = _
      rw [e, d.phase]
      rfl
    · show (s.refLost ppm).boot.after = _
      rw [e, d.boot]
  · have e : s.refReturn ppm = ((({ s with pwr := { s.pwr with refBad := false } } : State).set CLK_STATUS_ref_ok 0 1).set CLK_STATUS_holdover 0 0).set CLK_STATUS_ref_ppm 0 ppm := by
      rw [State.refReturn, if_neg (by simp [hr])]
    refine ⟨?_, ?_, ?_, rfl⟩
    · rw [get_only_in _ _ _ _ _ rfl, e, get_set_field _ _ _ _ (by decide), get_set_field _ _ _ _ (by decide)]
      exact get_set_same ..
    · rw [get_only_in _ _ _ _ _ rfl, e, get_set_field _ _ _ _ (by decide)]
      exact get_set_same ..
    · show (s.refReturn ppm).pwr.refBad = _
      rw [e]
      rfl
  · have e : s.hbmUe (area % 10) off .none = hbmNoted s area off := by rw [Nat.mod_eq_of_lt ha]; rfl
    refine ⟨(reports_hbmNoted s area off).congr (show (s.hbmUe (area % 10) off .none).evt = _ by rw [e]), ?_, ?_⟩
    · show (s.hbmUe (area % 10) off .none).jnl = _
      rw [e]
      rfl
    · show (s.hbmUe (area % 10) off .none).str = _
      rw [e]
      rfl
  · have e : s.hbmUe (area % 10) off (.neve i) = hbmNoted s area off := by
      rw [Nat.mod_eq_of_lt ha, hbmUe_neve, if_neg (by obtain h | h := h <;> simp [h])]
    refine ⟨(reports_hbmNoted s area off).congr (show (s.hbmUe (area % 10) off (.neve i)).evt = _ by rw [e]), ?_⟩
    show (s.hbmUe (area % 10) off (.neve i)).jnl = _
    rw [e]
    rfl
  · have e : s.hbmUe (0 % 10) off (.neve i) = ((hbmNoted s 0 off).modSlot i fun x => { x with dataOk := false, fetching := true }).pairSend (.neveFetch i) := by
      rw [hbmUe_neve, if_pos (by simp [hu])]
      exact neveBad_mirror (hbmNoted s 0 off) i x d hx hd hm hp
    have w := pairSend_pairW ((hbmNoted s 0 off).modSlot i fun x => { x with dataOk := false, fetching := true }) (.neveFetch i)
    refine ⟨?_, ?_, ?_⟩
    · show tget (s.hbmUe (0 % 10) off (.neve i)).jnl.slots i = _
      rw [e, w.jnl rfl]
      show tget (tmod s.jnl.slots i _) i = _
      rw [tget_tmod_same, hx]
      rfl
    · show _ ∈ (s.hbmUe (0 % 10) off (.neve i)).pair.kept
      rw [e]
      exact pairSend_kept ((hbmNoted s 0 off).modSlot i _) _ hp
    · refine (reports_hbmNoted s 0 off).congr ?_
      show (s.hbmUe (0 % 10) off (.neve i)).evt = _
      rw [e, w.evt rfl]
      rfl
  · have e : s.hbmUe (0 % 10) off (.neve i) = (hbmNoted s 0 off).neveLose i d 2 := by
      rw [hbmUe_neve, if_pos (by simp [hu])]
      exact neveBad_lone (hbmNoted s 0 off) i x d hx hd hm hp
    obtain ⟨h1, h2⟩ := neveLose_after (hbmNoted s 0 off) i d 2 hn
    rw [← e] at h1 h2
    exact ⟨h1, h2⟩

end Sys2Proof.Machine
end

section
/-! PROOFS. Support: the key commands' result and buffer, the generator, and a slot zeroised while no lane works. -/

namespace Sys2Proof.Machine

open F

/-! ## Results and the buffer -/

theorem keyRun_free (s : State) (f : State → State) (h : KeyFree s) : s.keyRun f = f s := by
  obtain ⟨h1, h2, _⟩ := h
  rw [State.keyRun, if_neg (by simp [h1]), if_neg (by simp [h2])]

theorem keyBuffer_within (s : State) (l : List Byte) : Within { parts := [], fields := [KEY_DATA_data] } s (s.keyBuffer l) :=
  within_each _ _ _ fun s _ => within_set s _ _ _ rfl

theorem keyEnd_within (s : State) (r : Nat) :
    Within { parts := [], fields := [KEY_STATUS_busy, KEY_STATUS_result, KEY_STATUS_done_count] } s (s.keyEnd r) :=
  ((within_set s _ _ _ rfl).trans (within_set _ _ _ _ rfl)).trans (within_set _ _ _ _ rfl)

theorem keyEnd_result (s : State) (r : Nat) (h : r < 256) : (s.keyEnd r).get KEY_STATUS_result = r := by
  rw [State.keyEnd, get_set_field _ _ _ _ (by decide), get_set_same]
  exact Nat.mod_eq_of_lt h

theorem keyEnd_busy (s : State) (r : Nat) : (s.keyEnd r).get KEY_STATUS_busy = 0 := by
  rw [State.keyEnd, get_set_field _ _ _ _ (by decide), get_set_field _ _ _ _ (by decide), get_set_same]
  rfl

theorem keyPaired_congr {s t : State} (h : t.pair = s.pair) : t.keyPaired = s.keyPaired := by simp [State.keyPaired, h]

/-- A module that shares no keys ends the command with result 0. -/
theorem keyShare_alone (s : State) (n : Nat) (f : KeyFrame) (h : s.keyPaired = false) : s.keyShare n f = s.keyEnd 0 := by
  simp [State.keyShare, h]

/-- A command's end after its buffer: the parts of the state as before. -/
theorem keyEnd_keyBuffer (s : State) (l : List Byte) (r : Nat) (h : r < 256) : ((s.keyBuffer l).keyEnd r).key = s.key ∧
    ((s.keyBuffer l).keyEnd r).get KEY_STATUS_result = r ∧ ((s.keyBuffer l).keyEnd r).get KEY_STATUS_busy = 0 :=
  ⟨((keyEnd_within _ r).key rfl).trans ((keyBuffer_within s l).key rfl), keyEnd_result _ r h, keyEnd_busy _ r⟩

/-! ## The generator -/

/-- A generate request changes the generator alone. -/
theorem drbg_key (s : State) (n : Nat) : ∃ d r a, (s.drbg n).2.key = { s.key with drbg := d, requests := r, seededAt := a } := by
  unfold State.drbg
  dsimp only
  split
  · exact ⟨_, _, _, rfl⟩
  · exact ⟨_, _, _, rfl⟩

@[simp] theorem drbg_regs (s : State) (n : Nat) : (s.drbg n).2.regs = s.regs := by
  unfold State.drbg
  dsimp only
  split <;> rfl

theorem keyBound_congr {s t : State} (h : t.regs = s.regs) (n : Nat) (k : KeySlot) : t.keyBound n k = s.keyBound n k := by
  simp only [State.keyBound, State.epCount, State.get, h]
  rfl

/-! ## Slots -/

theorem putKey_slots (s : State) (n : Nat) (k : KeySlot) (v : BitVec 512) :
    ∃ m, (s.putKey n k v).key.slots = tput s.key.slots n { k with key := v ^^^ m, mask := m } := by
  unfold State.putKey State.putShares
  dsimp only
  split <;> exact ⟨_, rfl⟩

theorem putKey_pair (s : State) (n : Nat) (k : KeySlot) (v : BitVec 512) : (s.putKey n k v).pair = s.pair := by
  unfold State.putKey State.putShares
  dsimp only
  split <;> rfl

theorem value_shares (k : KeySlot) (v m : BitVec 512) : ({ k with key := v ^^^ m, mask := m } : KeySlot).value = v := by
  simp [KeySlot.value]

/-- The slots after one is zeroised (R187). -/
def zeroisedSlots (s : State) (n : Nat) : Table Nat KeySlot :=
  match tget s.key.slots n with
  | some k => if s.keyBound n k then tput s.key.slots n { k.bare with state := .zeroised } else tdel s.key.slots n
  | none => s.key.slots

/-- A slot zeroised while no lane works. -/
structure Zeroised (s t : State) (n : Nat) : Prop where
  slots    : t.key.slots = zeroisedSlots s n
  vault    : t.key.vault = tdel (tdel s.key.vault (0, n)) (1, n)
  sessions : t.key.sessions = s.key.sessions.filter fun x => x.slot != n
  lanes    : t.cip.lanes = []
  queues   : t.cip.queues = []
  lane     : ∀ l, t.laneKey l n = none
  reports  : Reports s t EV_KEY_ZEROISED 0xD n []
  within   : Within { parts := [.evt, .ctr, .key, .cip, .freeCtr] } s t

theorem laneKey_evict (s : State) (c : Cip) (n l : Nat) (h : s.cip = c.evict n) : s.laneKey l n = none := by
  have e : ∀ (t : Table Nat Lane), (tgetD (t.map fun ((i : Nat), (h : Lane)) => (i, { h with cache := h.cache.filter fun (k : LaneKey) => k.slot != n })) l {}).cache.find?
      (fun (k : LaneKey) => k.slot = n) = none := fun t => by
    induction t with
    | nil => rfl
    | cons p t ih =>
      obtain ⟨i, h⟩ := p
      simp only [tgetD, List.map_cons, tget] at ih ⊢
      split
      · simp [List.find?_eq_none]
      · exact ih
  rw [State.laneKey, h]
  exact congrArg _ (e c.held)

theorem zeroiseSlot_idle (s : State) (n : Nat) (hl : s.cip.lanes = []) (hq : s.cip.queues = []) : Zeroised s (s.zeroiseSlot n) n := by
  let c : Cip := { s.cip with lanes := [], queues := [] }
  let u : State := { s with cip := c.evict n }
  obtain ⟨d, r, a, hk⟩ := drbg_key u 8
  have w : Within { parts := [.key, .freeCtr] } u (u.drbg 8).2 := within_drbg u 8 rfl rfl
  have hb : ∀ k, (u.drbg 8).2.keyBound n k = s.keyBound n k := keyBound_congr (drbg_regs u 8) n
  have e : s.zeroiseSlot n = ({ (u.drbg 8).2 with key := { (u.drbg 8).2.key with
      slots := zeroisedSlots (u.drbg 8).2 n, vault := tdel (tdel (u.drbg 8).2.key.vault (0, n)) (1, n),
      sessions := (u.drbg 8).2.key.sessions.filter fun x => x.slot != n } } : State).raise EV_KEY_ZEROISED 0xD n := by
    simp only [State.zeroiseSlot, Cip.waiting, Cip.keepWaiting, Cip.keep, Cip.running, hl, hq, List.flatMap_nil, List.append_nil, List.filter_nil,
      List.map_nil, State.each, unitCmds, List.filterMap_nil, List.dedup_nil, List.foldl_nil]
    rfl
  generalize (u.drbg 8).2 = v at e w hk hb
  have hs : zeroisedSlots v n = zeroisedSlots s n := by
    simp only [zeroisedSlots, hb, hk]
    rfl
  have hc : v.cip = c.evict n := w.cip rfl
  rw [e]
  refine ⟨hs, ?_, ?_, ?_, ?_, fun l => laneKey_evict _ c n l hc, ?_, ?_⟩
  · show tdel (tdel v.key.vault (0, n)) (1, n) = _
    rw [hk]
  · show v.key.sessions.filter _ = _
    rw [hk]
  · show v.cip.lanes = []
    rw [hc]
    rfl
  · show v.cip.queues = []
    rw [hc]
    rfl
  · exact reports_raise _ _ _ _ (w.dtc rfl) (w.evt rfl) fun f i _ => w.regs f i rfl
  · exact (((within_cip s _ rfl).trans (w.widen (by decide) (by decide) (by decide))).trans (within_key v _ rfl)).trans (within_raise _ _ _ _ _ rfl rfl)

theorem zeroisedSlots_other (s : State) {n m : Nat} (h : m ≠ n) : tget (zeroisedSlots s n) m = tget s.key.slots m := by
  unfold zeroisedSlots
  split
  · split
    · exact tget_tput_other _ _ (Ne.symm h)
    · exact tget_tdel_other _ (Ne.symm h)
  · rfl

theorem zeroisedSlots_same (s : State) {n : Nat} {k : KeySlot} (h : tget s.key.slots n = some k) :
    tget (zeroisedSlots s n) n = if s.keyBound n k then some { k.bare with state := .zeroised } else none := by
  rw [zeroisedSlots, h]
  dsimp only
  split <;> simp

/-- A slot without a key: empty, or zeroised. -/
def Erased (o : Option KeySlot) : Prop := ∀ k, o = some k → k.state = .zeroised ∧ k.value = 0

theorem erased_zeroised (s : State) (n : Nat) : Erased (tget (zeroisedSlots s n) n) := by
  cases h : tget s.key.slots n with
  | none =>
    intro k hk
    rw [zeroisedSlots, h] at hk
    rw [h] at hk
    cases hk
  | some x =>
    intro k hk
    rw [zeroisedSlots_same s h] at hk
    split at hk
    · cases hk
      exact ⟨rfl, by simp [KeySlot.value, KeySlot.bare]⟩
    · cases hk

/-- Every slot of a list zeroised. -/
theorem zeroiseEach_erased (l : List Nat) (s : State) (hl : s.cip.lanes = []) (hq : s.cip.queues = [])
    (h : ∀ n, n ∉ l → Erased (tget s.key.slots n)) : (∀ n, Erased (tget (s.each l State.zeroiseSlot).key.slots n)) ∧
    Within { parts := [.evt, .ctr, .key, .cip, .freeCtr] } s (s.each l State.zeroiseSlot) := by
  induction l generalizing s with
  | nil => exact ⟨fun n => h n (List.not_mem_nil), .refl _ _⟩
  | cons m l ih =>
    have z := zeroiseSlot_idle s m hl hq
    have g := ih (s.zeroiseSlot m) z.lanes z.queues fun n hn => by
      rw [z.slots]
      by_cases e : n = m
      · subst e
        exact erased_zeroised s n
      · rw [zeroisedSlots_other s e]
        exact h n (by simp [e, hn])
    exact ⟨g.1, z.within.trans g.2⟩

theorem tget_none_of_not_mem {κ α : Type} [DecidableEq κ] {m : Table κ α} {k : κ} (h : k ∉ m.map (·.1)) : tget m k = none := by
  induction m with
  | nil => rfl
  | cons p l ih =>
    obtain ⟨j, v⟩ := p
    simp only [List.map_cons, List.mem_cons, not_or] at h
    rw [tget, if_neg (Ne.symm h.1), ih h.2]

/-- ZEROISE_ALL on a module whose lanes are idle. -/
theorem keyZeroiseAll_after (s : State) (h : KeyFree s) (hl : s.cip.lanes = []) (hq : s.cip.queues = []) :
    s.keyZeroiseAll.get KEY_STATUS_result = 0 ∧ s.keyZeroiseAll.key.vault = [] ∧ ∀ n, Erased (tget s.keyZeroiseAll.key.slots n) := by
  obtain ⟨z, w⟩ := zeroiseEach_erased (s.key.slots.map (·.1)) s hl hq fun n hn k hk => by
    rw [tget_none_of_not_mem hn] at hk
    cases hk
  have b := keyBuffer_within s.zeroiseAllSlots []
  have hp : (s.zeroiseAllSlots.keyBuffer []).keyPaired = false := by
    rw [keyPaired_congr (b.pair rfl), keyPaired_congr (s := s) (t := s.zeroiseAllSlots) (w.pair rfl), h.alone]
  have e : s.keyZeroiseAll = (s.zeroiseAllSlots.keyBuffer []).keyEnd 0 := by
    rw [State.keyZeroiseAll, keyRun_free s _ h, keyShare_alone _ _ _ hp]
  obtain ⟨h1, h2, _⟩ := keyEnd_keyBuffer s.zeroiseAllSlots [] 0 (by decide)
  rw [e, h1]
  exact ⟨h2, rfl, z⟩

end Sys2Proof.Machine
end

section
/-! PROOFS. The key commands: KEK_AGREE, KEY_IMPORT, ZEROISE and ZEROISE_ALL. -/

namespace Sys2Proof.Machine

open F

/-- A command that fails: its result, the buffer cleared, the keys as before. -/
structure KeyFailed (s t : State) (r : Nat) : Prop where
  result : t.get KEY_STATUS_result = r
  busy   : t.get KEY_STATUS_busy = 0
  key    : t.key = s.key

theorem keyFailed_of (s : State) (r : Nat) (h : r < 256) : KeyFailed s ((s.keyBuffer []).keyEnd r) r :=
  have e := keyEnd_keyBuffer s [] r h
  ⟨e.2.1, e.2.2, e.1⟩

/-- A command that loads a slot: result 0, that slot with its key, the others as before. -/
structure KeyLoaded (s t : State) (n : Nat) (k : KeySlot) (v : BitVec 512) : Prop where
  result : t.get KEY_STATUS_result = 0
  busy   : t.get KEY_STATUS_busy = 0
  slot   : ∃ m, tget t.key.slots n = some { k with key := v ^^^ m, mask := m }
  other  : ∀ m, m ≠ n → tget t.key.slots m = tget s.key.slots m

theorem keyLoaded_of (s u : State) (n : Nat) (k : KeySlot) (v : BitVec 512) (l : List Byte) (hs : u.key.slots = s.key.slots)
    (hp : u.keyPaired = false) : KeyLoaded s (((u.putKey n k v).keyBuffer l).keyShare n (((u.putKey n k v).keyBuffer l).loadFrame n)) n k v := by
  have b := keyBuffer_within (u.putKey n k v) l
  rw [keyShare_alone _ _ _ (by rw [keyPaired_congr (b.pair rfl), keyPaired_congr (putKey_pair u n k v), hp])]
  obtain ⟨h1, h2, h3⟩ := keyEnd_keyBuffer (u.putKey n k v) l 0 (by decide)
  obtain ⟨m, hm⟩ := putKey_slots u n k v
  refine ⟨h2, h3, ⟨m, ?_⟩, fun j hj => ?_⟩
  · rw [h1, hm, tget_tput_same]
  · rw [h1, hm, tget_tput_other _ _ (Ne.symm hj), hs]

theorem drbgPrivate_slots (s : State) : s.drbgPrivate.2.key.slots = s.key.slots := by
  obtain ⟨d, r, a, h⟩ := drbg_key s 4
  show (s.drbg 4).2.key.slots = _
  rw [h]

theorem drbgPrivate_pair (s : State) : s.drbgPrivate.2.pair = s.pair :=
  (within_drbg (w := { parts := [.key, .freeCtr] }) s 4 rfl rfl).pair rfl

/-- KEK_AGREE into an empty slot. -/
theorem kekAgree_empty (s : State) (n : Nat) (p : Bool) (h : KeyFree s) (hn : tget s.key.slots n = none) :
    if onP384 (s.keyBytes.take 96) = true then
      ∃ v, KeyLoaded s (s.kekAgree n p) n { kind := .kek, state := .loaded, assured := false, persist := p, key := 0, check := keyCheck .kek v } v
    else KeyFailed s (s.kekAgree n p) 9 := by
  rw [State.kekAgree, keyRun_free s _ h, hn]
  dsimp only
  by_cases hp : onP384 (s.keyBytes.take 96) = true
  · rw [if_pos hp, if_neg (by simp [hp])]
    exact ⟨_, keyLoaded_of s s.drbgPrivate.2 n _ _ _ (drbgPrivate_slots s) (by rw [keyPaired_congr (drbgPrivate_pair s), h.alone])⟩
  · rw [if_neg hp, if_pos (by simp [hp])]
    exact keyFailed_of s 9 (by decide)

/-- An XTS slot takes 64 B of key and 8 B of wrapping, the others 32 B and 8 B (R182). -/
def wrapLen (kd : KeyKind) : Nat := if kd = .xts then 72 else 40

/-- IMPORT into an empty slot under a loaded KEK. -/
theorem keyImport_empty (s : State) (n a c : Nat) (kd : KeyKind) (cls p : Bool) (e : KeySlot) (hc : kindOf c = some kd) (h : KeyFree s)
    (hn : tget s.key.slots n = none) (ha : tget s.key.slots a = some e) (hk : e.kind = .kek) (hl : e.state = .loaded) :
    match keyUnwrap (e.value.truncate 256) (s.keyBytes.take (wrapLen kd)) with
    | none => KeyFailed s (s.keyImport n a c cls p) 3
    | some l => if kd = .xts ∧ l.take 32 = l.drop 32 then KeyFailed s (s.keyImport n a c cls p) 5
      else KeyLoaded s (s.keyImport n a c cls p) n
        { kind := kd, state := .loaded, assured := cls, persist := p, key := 0, check := keyCheck kd (keyOfBytes l) } (keyOfBytes l) := by
  rw [State.keyImport, keyRun_free s _ h, hc]
  dsimp only
  rw [State.importTo, hn]
  dsimp only
  rw [ha]
  dsimp only
  rw [if_neg (by simp [hk, hl])]
  have hw : (if kd = .xts then 72 else 40) = wrapLen kd := rfl
  rw [hw]
  cases hu : keyUnwrap (e.value.truncate 256) (s.keyBytes.take (wrapLen kd)) with
  | none => exact keyFailed_of s 3 (by decide)
  | some l =>
    dsimp only
    by_cases hx : kd = .xts ∧ l.take 32 = l.drop 32
    · rw [if_pos hx, if_pos (by simp [hx])]
      exact keyFailed_of s 5 (by decide)
    · rw [if_neg hx, if_neg (by simpa using hx), if_neg (by simp)]
      exact keyLoaded_of s s n _ _ [] rfl h.alone

/-- Settles O24: each command fails with its result or loads its slot; a zeroised slot loses its key everywhere. -/
theorem keyCommands : Obligations.KeyCommands := by
  unfold Obligations.KeyCommands
  refine ⟨fun s n p h hn => ⟨_, rfl, ?_⟩, fun s n a cls p e h hn ha hk hl => ⟨_, rfl, ?_⟩, fun s n a cls p e h hn ha hk hl => ⟨_, rfl, ?_⟩,
    fun s n k h hl hq hk => ⟨_, rfl, ?_⟩, fun s h hl hq => ⟨_, rfl, ?_⟩, fun s n hb hs => ⟨_, rfl, ?_⟩⟩
  · have q := kekAgree_empty s n p h hn
    rw [get_only_in _ _ _ _ _ rfl, get_only_in _ _ _ _ _ rfl]
    show (s.kekAgree n p).get KEY_STATUS_busy = 0 ∧ (∀ m, m ≠ n → tget (s.kekAgree n p).key.slots m = tget s.key.slots m) ∧
      if onP384 (s.keyBytes.take 96) = true then (s.kekAgree n p).get KEY_STATUS_result = 0 ∧ ∃ k, tget (s.kekAgree n p).key.slots n = some k ∧
        k.kind = .kek ∧ k.state = .loaded ∧ k.assured = false ∧ k.persist = p ∧ k.check = keyCheck .kek k.value
      else (s.kekAgree n p).get KEY_STATUS_result = 9 ∧ (s.kekAgree n p).key = s.key
    split at q
    · obtain ⟨v, q⟩ := q
      obtain ⟨m, hm⟩ := q.slot
      rw [if_pos ‹_›]
      refine ⟨q.busy, q.other, q.result, _, hm, rfl, rfl, rfl, rfl, ?_⟩
      rw [value_shares]
    · rw [if_neg ‹_›]
      exact ⟨q.busy, fun m _ => by rw [q.key], q.result, q.key⟩
  · have q := keyImport_empty s n a 1 .xts cls p e rfl h hn ha hk hl
    rw [get_only_in _ _ _ _ _ rfl]
    show (∀ m, m ≠ n → tget (s.keyImport n a 1 cls p).key.slots m = tget s.key.slots m) ∧
      match keyUnwrap (e.value.truncate 256) (s.keyBytes.take (wrapLen .xts)) with
      | none => (s.keyImport n a 1 cls p).get KEY_STATUS_result = 3 ∧ (s.keyImport n a 1 cls p).key = s.key
      | some l => if l.take 32 = l.drop 32 then (s.keyImport n a 1 cls p).get KEY_STATUS_result = 5 ∧ (s.keyImport n a 1 cls p).key = s.key
        else (s.keyImport n a 1 cls p).get KEY_STATUS_result = 0 ∧ ∃ k, tget (s.keyImport n a 1 cls p).key.slots n = some k ∧ k.kind = .xts ∧
          k.state = .loaded ∧ k.assured = cls ∧ k.persist = p ∧ k.value = keyOfBytes l
    cases hu : keyUnwrap (e.value.truncate 256) (s.keyBytes.take (wrapLen .xts)) with
    | none =>
      rw [hu] at q
      exact ⟨fun m _ => by rw [q.key], q.result, q.key⟩
    | some l =>
      rw [hu] at q
      dsimp only at q ⊢
      simp only [true_and] at q
      split at q
      · rw [if_pos ‹_›]
        exact ⟨fun m _ => by rw [q.key], q.result, q.key⟩
      · rw [if_neg ‹_›]
        obtain ⟨m, hm⟩ := q.slot
        exact ⟨q.other, q.result, _, hm, rfl, rfl, rfl, rfl, value_shares _ _ _⟩
  · have q := keyImport_empty s n a 2 .gcm cls p e rfl h hn ha hk hl
    rw [get_only_in _ _ _ _ _ rfl]
    show (∀ m, m ≠ n → tget (s.keyImport n a 2 cls p).key.slots m = tget s.key.slots m) ∧
      match keyUnwrap (e.value.truncate 256) (s.keyBytes.take (wrapLen .gcm)) with
      | none => (s.keyImport n a 2 cls p).get KEY_STATUS_result = 3 ∧ (s.keyImport n a 2 cls p).key = s.key
      | some l => (s.keyImport n a 2 cls p).get KEY_STATUS_result = 0 ∧ ∃ k, tget (s.keyImport n a 2 cls p).key.slots n = some k ∧ k.kind = .gcm ∧
          k.state = .loaded ∧ k.assured = cls ∧ k.persist = p ∧ k.value = keyOfBytes l
    cases hu : keyUnwrap (e.value.truncate 256) (s.keyBytes.take (wrapLen .gcm)) with
    | none =>
      rw [hu] at q
      exact ⟨fun m _ => by rw [q.key], q.result, q.key⟩
    | some l =>
      rw [hu] at q
      dsimp only at q
      rw [if_neg (by simp)] at q
      obtain ⟨m, hm⟩ := q.slot
      exact ⟨q.other, q.result, _, hm, rfl, rfl, rfl, rfl, value_shares _ _ _⟩
  · have z := zeroiseSlot_idle s n hl hq
    have b := keyBuffer_within (s.zeroiseSlot n) []
    have e : s.keyZeroise n = ((s.zeroiseSlot n).keyBuffer []).keyEnd 0 := by
      rw [State.keyZeroise, keyRun_free s _ h, keyShare_alone _ _ _ (by rw [keyPaired_congr (b.pair rfl), keyPaired_congr (z.within.pair rfl), h.alone])]
    have w := keyEnd_within ((s.zeroiseSlot n).keyBuffer []) 0
    obtain ⟨h1, h2, _⟩ := keyEnd_keyBuffer (s.zeroiseSlot n) [] 0 (by decide)
    rw [← e] at h1 h2 w
    have hc : (s.keyZeroise n).cip = (s.zeroiseSlot n).cip := (w.cip rfl).trans (b.cip rfl)
    have ht : ∀ {α : Type} (g : Key → α), g (s.keyZeroise n).key = g (s.zeroiseSlot n).key := fun g => congrArg g h1
    refine ⟨?_, z.reports.congr ((w.evt rfl).trans (b.evt rfl)), ?_, ?_, ?_, fun l => ?_, ?_, fun m hm => ?_⟩
    · rw [get_only_in _ _ _ _ _ rfl, h2]
    · refine (ht fun q => tget q.slots n).trans ?_
      rw [z.slots, zeroisedSlots_same s hk]
    · refine (ht fun q => tget q.vault (0, n)).trans ?_
      rw [z.vault, tget_tdel_other _ (by simp), tget_tdel_same]
    · refine (ht fun q => tget q.vault (1, n)).trans ?_
      rw [z.vault, tget_tdel_same]
    · rw [← z.lane l]
      simp only [State.laneKey]
      show Option.map _ (List.find? _ (tgetD (s.keyZeroise n).cip.held l {}).cache) = _
      rw [hc]
    · show ∀ x ∈ (s.keyZeroise n).key.sessions, _
      rw [h1, z.sessions]
      simp
    · refine (ht fun q => tget q.slots m).trans ?_
      rw [z.slots, zeroisedSlots_other s hm]
  · obtain ⟨h1, h2, h3⟩ := keyZeroiseAll_after s h hl hq
    refine ⟨?_, h2, fun n k hk => h3 n k hk⟩
    rw [get_only_in _ _ _ _ _ rfl, h1]
  · have e : s.keyZeroise n = (s.keyBuffer []).keyEnd 8 := by
      rw [State.keyZeroise, State.keyRun, if_neg (by simp [hb]), if_pos (by simp [hs])]
    have f := keyFailed_of s 8 (by decide)
    rw [← e] at f
    exact ⟨by rw [get_only_in _ _ _ _ _ rfl, f.result], f.key⟩

end Sys2Proof.Machine
end

section
/-! PROOFS. Support: what a reset keeps, and how far the ROM comes without an image and with one confirmed bank. -/

namespace Sys2Proof.Machine

open F

/-! ## Registers at a reset -/

theorem tget_regReset (r : Table RKey Nat) (kind : Nat) (p : RKey → Bool) (k : RKey) : tget (regReset r kind p) k =
    if (!(p k && (match fldOf k with | some f => f.resetBy k.idx kind | none => false))) = true then tget r k else none :=
  tget_filter r (fun k => !(p k && (match fldOf k with | some f => f.resetBy k.idx kind | none => false))) k

/-- A field that a reset of this kind clears and the hardware does not keep. -/
theorem get_reset_cleared (s u : State) (kind : Nat) (f g : Fld) (i : Nat) (hu : u.regs = regReset s.regs kind fun k => !keptReg k)
    (h : keptReg (f.key i) = false) (hg : fldOf (f.key i) = some g) (hr : g.resetBy i kind = true) : u.get f i = f.resetAt i := by
  rw [State.get, hu, regGet, tget_regReset, hg, h, if_neg]
  · rfl
  · show ¬ (!(!false && g.resetBy i kind)) = true
    simp [hr]

/-- A field that a reset of this kind leaves. -/
theorem get_reset_kept (s u : State) (kind : Nat) (f : Fld) (i : Nat) (hu : u.regs = regReset s.regs kind fun k => !keptReg k)
    (h : keptReg (f.key i) = true ∨ ∃ g, fldOf (f.key i) = some g ∧ g.resetBy i kind = false) : u.get f i = s.get f i := by
  rw [State.get, hu, regGet, tget_regReset, if_pos]
  · rfl
  · obtain h | ⟨g, hg, hr⟩ := h
    · simp [h]
    · rw [hg]
      show (!(!keptReg (f.key i) && g.resetBy i kind)) = true
      simp [hr]

/-! ## The ROM -/

/-- The fields that the boot shows before the ROM chooses, and the ROM's own. -/
def romW : Writes := { parts := [.boot, .jnl, .freeCtr], fields := [BOOT_STATUS_owner_slots, BOOT_STATUS_fw_svn_min, BOOT_STATUS_cfg_svn_min,
  CLK_STATUS_pll_lock, CLK_STATUS_ref_ok, CLK_STATUS_holdover, FWD_SEED_seed1, FWD_SEED_seed2, BOOT_STATUS_state_a, BOOT_STATUS_state_b, BOOT_STATUS_stage] }

/-- The state from which the ROM chooses. -/
def romStart (s : State) : State :=
  let s := (s.fuseStatus.set CLK_STATUS_pll_lock 0 1).set CLK_STATUS_ref_ok 0 (bit !s.pwr.refBad)
  (s.set CLK_STATUS_holdover 0 (bit s.pwr.refBad)).seedsDraw

theorem within_fuseStatus (s : State) : Within { parts := [.freeCtr], fields := romW.fields } s s.fuseStatus :=
  ((within_set s _ _ _ rfl).trans (within_set _ _ _ _ rfl)).trans (within_set _ _ _ _ rfl)

theorem within_seedsDraw (s : State) : Within { parts := [.freeCtr], fields := romW.fields } s s.seedsDraw :=
  (within_freeNoise s rfl).trans (within_each _ _ _ fun s _ => (within_set s _ _ _ rfl).trans (within_set _ _ _ _ rfl))

theorem romStart_within (s : State) : Within { parts := [.freeCtr], fields := romW.fields } s (romStart s) := by
  have h := within_fuseStatus s
  unfold romStart
  dsimp only
  generalize s.fuseStatus = u at h
  have h1 := h.trans (within_set u CLK_STATUS_pll_lock 0 1 rfl)
  have h2 := h1.trans (within_set _ CLK_STATUS_ref_ok 0 (bit !s.pwr.refBad) rfl)
  exact (h2.trans (within_set _ CLK_STATUS_holdover 0 _ rfl)).trans (within_seedsDraw _)

/-- The boot after the ROM has chosen a bank. -/
def romBooted (s : State) (b : BootIn) : State :=
  let s := s.evResume
  let s := { s with boot := { s.boot with count := s.boot.count + 1 } }
  (s.loaderRun.bootKeys b).set BOOT_STATUS_stage 0 3

theorem bootRun_none (s u : State) (b : BootIn) (h : (romStart s).romChoose = (u, none)) : s.bootRun b = u.bootHold := by
  unfold State.bootRun
  extract_lets shown drawn
  have h' : drawn.romChoose = _ := h
  rw [h']

theorem bootRun_some (s u : State) (b : BootIn) (i : Nat) (h : (romStart s).romChoose = (u, some i)) : s.bootRun b = romBooted u b := by
  unfold State.bootRun
  extract_lets shown drawn
  have h' : drawn.romChoose = _ := h
  rw [h']
  dsimp only [romBooted]

/-- The module held: it failed, at stage 0xA. -/
structure Held (s t : State) : Prop where
  held   : t.boot.held = true
  stage  : t.get BOOT_STATUS_stage = 0xA
  dumps  : t.jnl.dumps = s.jnl.dumps
  within : Within romW s t

theorem bootHold_held (s u : State) (h : Within romW s u) (hj : u.jnl = s.jnl) : Held s u.bootHold := by
  refine ⟨rfl, get_set_same .., by rw [← hj]; rfl, h.trans ?_⟩
  have w := (within_set (w := romW) u BOOT_STATUS_stage 0 0xA rfl).trans (within_boot _ { u.boot with held := true, failed := true } rfl)
  exact w.trans (within_jnl _ { u.jnl with phase := .held } rfl)

/-- The banks verified and shown. -/
def romShown (s : State) : State :=
  let s := (s.bankVerify 0).bankVerify 1
  (s.set BOOT_STATUS_state_a 0 (s.bank 0).state).set BOOT_STATUS_state_b 0 (s.bank 1).state

/-- With no pending bank the ROM takes the best confirmed one. -/
theorem romChoose_confirmed (s : State) (h : (romShown s).banksIn 2 = []) : s.romChoose = match (romShown s).bestConfirmed with
    | some c => ((romShown s).bankBoot c false, some c)
    | none => (romShown s, none) := by
  unfold State.romChoose
  extract_lets verified shown top fall
  have h2 : shown.banksIn 2 = [] := h
  rw [h2]
  rfl

theorem bank_congr {s t : State} (h : t.boot = s.boot) (i : Nat) : t.bank i = s.bank i := by rw [State.bank, State.bank, h]

theorem banksIn_eq (s : State) (n : Nat) : s.banksIn n = (if (s.bank 0).state = n then [0] else []) ++ if (s.bank 1).state = n then [1] else [] := by
  simp only [State.banksIn, List.filter_cons, List.filter_nil]
  by_cases h0 : (s.bank 0).state = n <;> by_cases h1 : (s.bank 1).state = n <;> simp [h0, h1]

theorem bankVerify_same (s : State) (i : Nat) (h : ((s.bank i).state = 2 ∨ (s.bank i).state = 3) → s.imageOk (s.bank i).hash (s.bank i).image = true) :
    s.bankVerify i = s := by
  unfold State.bankVerify
  refine if_neg fun k => ?_
  simp only [Bool.and_eq_true, Bool.or_eq_true, decide_eq_true_eq, Bool.not_eq_true'] at k
  simp [h k.1] at k

/-- Without an image the ROM chooses nothing. -/
theorem romChoose_empty (s : State) (h : s.boot.banks = []) :
    s.romChoose = ((s.set BOOT_STATUS_state_a 0 0).set BOOT_STATUS_state_b 0 0, none) := by
  have hb : ∀ i, s.bank i = {} := fun i => by simp [State.bank, h, tgetD]
  have hv : ∀ i, s.bankVerify i = s := fun i => bankVerify_same s i (by simp [hb])
  have e : romShown s = (s.set BOOT_STATUS_state_a 0 0).set BOOT_STATUS_state_b 0 0 := by
    unfold romShown
    rw [hv 0, hv 1]
    dsimp only
    rw [hb 0, hb 1]
  have hn : ∀ n, n ≠ 0 → (romShown s).banksIn n = [] := fun n hn => by
    have g : ∀ i, (romShown s).bank i = {} := fun i => (bank_congr (s := s) (by rw [e]; rfl) i).trans (hb i)
    rw [banksIn_eq, g 0, g 1]
    simp [Ne.symm hn]
  rw [romChoose_confirmed s (hn 2 (by decide)), State.bestConfirmed, hn 3 (by decide), e]

theorem romHold_held (s u : State) (w : Within romW s u) (hj : u.jnl = s.jnl) :
    Held s ((u.set BOOT_STATUS_state_a 0 0).set BOOT_STATUS_state_b 0 0).bootHold :=
  bootHold_held s _ ((w.trans (within_set _ BOOT_STATUS_state_a 0 0 rfl)).trans (within_set _ BOOT_STATUS_state_b 0 0 rfl)) hj

theorem romStart_romW (s : State) : Within romW s (romStart s) := (romStart_within s).widen (by decide) (by decide) (by decide)

theorem bootRun_empty (s : State) (b : BootIn) (h : s.boot.banks = []) : Held s (s.bootRun b) := by
  have w := romStart_within s
  have hb : (romStart s).boot.banks = [] := by rw [w.boot rfl, h]
  rw [bootRun_none s _ b (romChoose_empty (romStart s) hb)]
  exact romHold_held s (romStart s) (romStart_romW s) (w.jnl rfl)

/-- Whether an image verifies depends on the fuses and the variant. -/
theorem imageOk_congr {s t : State} (h1 : t.boot.owners = s.boot.owners) (h2 : t.boot.revoked = s.boot.revoked) (h3 : t.boot.fwMin = s.boot.fwMin)
    (h4 : t.boot.cfgMin = s.boot.cfgMin) (h5 : t.get GLB_IDENT_variant = s.get GLB_IDENT_variant) (d : BitVec 384) (l : List Byte) :
    t.imageOk d l = s.imageOk d l := by
  simp only [State.imageOk, State.imgOwner, h1, h2, h3, h4, h5]

/-- One confirmed bank: the ROM boots it where its image verifies, and writes it bad and chooses nothing otherwise. -/
theorem romChoose_one (s : State) (k : Bank) (h : s.boot.banks = [(0, k)]) (hk : k.state = 3) :
    if s.imageOk k.hash k.image = true then ∃ u, s.romChoose = (u, some 0) else ∃ u, s.romChoose = (u, none) := by
  have h0 : s.bank 0 = k := by simp [State.bank, h, tgetD, tget]
  have h1 : s.bank 1 = {} := by simp [State.bank, h, tgetD, tget]
  split
  · have v0 : s.bankVerify 0 = s := bankVerify_same s 0 (by simpa [h0, hk])
    have v1 : s.bankVerify 1 = s := bankVerify_same s 1 (by simp [h1])
    have e : (romShown s).boot = s.boot := by
      unfold romShown
      rw [v0, v1]
      rfl
    have g0 : (romShown s).bank 0 = k := (bank_congr e 0).trans h0
    have g1 : (romShown s).bank 1 = {} := (bank_congr e 1).trans h1
    have b2 : (romShown s).banksIn 2 = [] := by rw [banksIn_eq, g0, g1]; simp [hk]
    have b3 : (romShown s).banksIn 3 = [0] := by rw [banksIn_eq, g0, g1]; simp [hk]
    rw [romChoose_confirmed s b2, State.bestConfirmed, b3]
    exact ⟨_, rfl⟩
  · let v := s.putBank 0 { k with state := 4 }
    have vb : v.boot.banks = [(0, { k with state := 4 })] := by
      show tput s.boot.banks 0 _ = _
      simp [h, tput]
    have v0 : s.bankVerify 0 = v := by
      unfold State.bankVerify
      rw [h0]
      exact if_pos (by simp_all)
    have w1 : v.bank 1 = {} := by simp [State.bank, vb, tgetD, tget]
    have v1 : v.bankVerify 1 = v := bankVerify_same v 1 (by simp [w1])
    have e : (romShown s).boot = v.boot := by
      unfold romShown
      rw [v0, v1]
      rfl
    have g0 : (romShown s).bank 0 = { k with state := 4 } := (bank_congr e 0).trans (by simp [State.bank, vb, tgetD, tget])
    have g1 : (romShown s).bank 1 = {} := (bank_congr e 1).trans w1
    have hn : ∀ n, n ≠ 0 → n ≠ 4 → (romShown s).banksIn n = [] := fun n a b => by
      rw [banksIn_eq, g0, g1]
      simp [Ne.symm a, Ne.symm b]
    rw [romChoose_confirmed s (hn 2 (by decide) (by decide)), State.bestConfirmed, hn 3 (by decide) (by decide)]
    exact ⟨_, rfl⟩

/-- With one confirmed bank the boot reaches stage 3 where its image verifies, and holds otherwise. -/
theorem bootRun_one (s : State) (b : BootIn) (k : Bank) (h : s.boot.banks = [(0, k)]) (hk : k.state = 3) :
    (s.bootRun b).get BOOT_STATUS_stage = if s.imageOk k.hash k.image then 3 else 0xA := by
  have w := romStart_within s
  have hb := w.boot rfl
  have hi : (romStart s).imageOk k.hash k.image = s.imageOk k.hash k.image :=
    imageOk_congr (by rw [hb]) (by rw [hb]) (by rw [hb]) (by rw [hb]) (w.regs _ _ rfl) _ _
  have c := romChoose_one (romStart s) k (by rw [hb, h]) hk
  rw [hi] at c
  split at c
  · obtain ⟨u, hu⟩ := c
    rw [bootRun_some s u b 0 hu, if_pos ‹_›]
    exact get_set_same ..
  · obtain ⟨u, hu⟩ := c
    rw [bootRun_none s u b hu, if_neg ‹_›]
    exact get_set_same ..

end Sys2Proof.Machine
end

section
/-! PROOFS. Cold and warm resets, the ROM with no image and with one, the boot watchdog. -/

namespace Sys2Proof.Machine

open F

/-! ## The state that a reset hands to the boot -/

/-- After a cold reset's registers: the straps and a feed good. -/
def coldFed (s : State) (straps feed : Nat) (banks : List (Nat × Bank)) : State :=
  let s := s.resetCore 1
  let s := { s with
    pwr := { s.pwr with straps := straps % 16, seated := true, last := some (feed % 2), goodAt := [(feed % 2, s.dtc)] }
    boot := { s.boot with banks := banks.foldl (fun t (i, k) => tput t (i % 2) k) s.boot.banks } }
  (s.set PWR_FEED_STATUS_state (feed % 2) 2).set PWR_FEED_STATUS_active (feed % 2) 1

/-- The state that a cold reset hands to the boot. -/
def coldStart (s : State) (straps feed : Nat) (banks : List (Nat × Bank)) : State :=
  (coldFed s straps feed banks).set PWR_BUS_STATUS_source 0 (feed % 2)

/-- The state that a warm reset hands to the boot: its cause shown. -/
def warmStart (s : State) (cause : Nat) : State :=
  ((s.evSave.resetCore 2).set CLK_RESET_CAUSE_kind 0 1).set CLK_RESET_CAUSE_cause 0 cause

/-- A cold reset's end: memory empty, the feed reported where the module is not held. -/
def coldEnd (r t : State) (feed : Nat) : State :=
  if (r.sameMem t).boot.held then r.sameMem t else (r.sameMem t).raise EV_PWR_FEED_GOOD 0xC (feed % 2)

theorem coldReset_eq (s : State) (straps feed : Nat) (l : List (Nat × Bank)) (b : BootIn) :
    s.coldReset straps feed l b = coldEnd (coldFed s straps feed l) ((coldStart s straps feed l).bootRun b) feed := by
  unfold State.coldReset coldEnd coldStart coldFed
  dsimp only

theorem warmReset_eq (s : State) (cause : Nat) (b : BootIn) :
    s.warmReset cause b = (s.evSave.resetCore 2).sameMem ((warmStart s cause).bootRun b) := by
  unfold State.warmReset warmStart
  dsimp only

theorem coldEnd_held (r t : State) (feed : Nat) (h : t.boot.held = true) : coldEnd r t feed = r.sameMem t := if_pos h

theorem get_coldEnd (r t : State) (feed : Nat) (f : Fld) (i : Nat) : (coldEnd r t feed).get f i = t.get f i := by
  unfold coldEnd
  split
  · rfl
  · rw [get_raise]
    rfl

theorem get_coldStart (s : State) (straps feed : Nat) (l : List (Nat × Bank)) (f : Fld) (i : Nat) (h : f.reg / 0x100000 ≠ 5) :
    (coldStart s straps feed l).get f i = (s.resetCore 1).get f i := by
  have e : (coldStart s straps feed l).get f i = ((((s.resetCore 1).set PWR_FEED_STATUS_state (feed % 2) 2).set PWR_FEED_STATUS_active (feed % 2) 1).set
      PWR_BUS_STATUS_source 0 (feed % 2)).get f i := rfl
  rw [e, get_set_field _ _ _ _ (Ne.symm (place_ne h rfl)), get_set_field _ _ _ _ (Ne.symm (place_ne h rfl)),
    get_set_field _ _ _ _ (Ne.symm (place_ne h rfl))]

theorem get_warmStart (s : State) (cause : Nat) (f : Fld) (i : Nat) (h : f.reg / 0x100000 ≠ 1) :
    (warmStart s cause).get f i = (s.evSave.resetCore 2).get f i := by
  rw [warmStart, get_set_field _ _ _ _ (Ne.symm (place_ne h rfl)), get_set_field _ _ _ _ (Ne.symm (place_ne h rfl))]

theorem coldEnd_mem (r t : State) (feed : Nat) (h : r.mem = []) : (coldEnd r t feed).mem = [] := by
  unfold coldEnd
  split
  · exact h
  · exact h

/-! ## Fields at a reset -/

theorem scratch_cold (s : State) (i : Nat) (hi : i < 16) : (s.resetCore 1).get GLB_SCRATCH_data i = 0 :=
  get_reset_cleared s _ 1 GLB_SCRATCH_data GLB_SCRATCH_data i rfl (by revert i; decide +kernel) (by revert i; decide +kernel) (by revert i; decide +kernel)

theorem scratch_warm_low (s : State) (i : Nat) (hi : i < 8) : (s.evSave.resetCore 2).get GLB_SCRATCH_data i = 0 :=
  get_reset_cleared s _ 2 GLB_SCRATCH_data GLB_SCRATCH_data i rfl (by revert i; decide +kernel) (by revert i; decide +kernel) (by revert i; decide +kernel)

theorem scratch_warm_high (s : State) : (s.evSave.resetCore 2).get GLB_SCRATCH_data 9 = s.get GLB_SCRATCH_data 9 :=
  get_reset_kept s _ 2 GLB_SCRATCH_data 9 rfl (.inr ⟨GLB_SCRATCH_data, by decide +kernel, by decide +kernel⟩)

theorem variant_reset (s : State) (kind : Nat) : (s.resetCore kind).get GLB_IDENT_variant = s.get GLB_IDENT_variant :=
  get_reset_kept s _ kind GLB_IDENT_variant 0 rfl (.inl (by decide +kernel))

/-- The image of a bank verifies after a reset as before it. -/
theorem imageOk_coldStart (s : State) (straps feed : Nat) (l : List (Nat × Bank)) (d : BitVec 384) (x : List Byte) :
    (coldStart s straps feed l).imageOk d x = s.imageOk d x :=
  imageOk_congr (s := s) (t := coldStart s straps feed l) rfl rfl rfl rfl ((get_coldStart s straps feed l _ _ (by decide)).trans (variant_reset s 1)) d x

theorem imageOk_warmStart (s : State) (cause : Nat) (d : BitVec 384) (x : List Byte) : (warmStart s cause).imageOk d x = s.imageOk d x :=
  imageOk_congr (s := s) (t := warmStart s cause) rfl rfl rfl rfl ((get_warmStart s cause _ _ (by decide)).trans (variant_reset s.evSave 2)) d x

/-- A warm reset without an image: its cause shown, the module held, and what the boot does not touch as the reset left it. -/
theorem warmReset_empty (s : State) (cause : Nat) (b : BootIn) (h : s.boot.banks = []) :
    ∃ t, s.warmReset cause b = (s.evSave.resetCore 2).sameMem t ∧ Held (warmStart s cause) t :=
  ⟨_, warmReset_eq s cause b, bootRun_empty (warmStart s cause) b h⟩

theorem warmStart_cause (s t : State) (cause : Nat) (d : Held (warmStart s cause) t) (hc : cause < 16) :
    t.get CLK_RESET_CAUSE_kind = 1 ∧ t.get CLK_RESET_CAUSE_cause = cause := by
  rw [d.within.regs CLK_RESET_CAUSE_kind 0 rfl, d.within.regs CLK_RESET_CAUSE_cause 0 rfl, warmStart, get_set_field _ _ _ _ (by decide), get_set_same,
    get_set_same]
  exact ⟨rfl, Nat.mod_eq_of_lt hc⟩

/-- Settles O55: what a reset hands to the boot, and where the ROM then stops. -/
theorem resetsAndRom : Obligations.ResetsAndRom := by
  unfold Obligations.ResetsAndRom
  refine ⟨fun s straps f b h => ⟨_, rfl, ?_⟩, fun s cause b h hc => ⟨_, rfl, ?_⟩, fun s straps f b k h hk => ⟨_, rfl, ?_⟩,
    fun s cause b k h hk => ⟨_, rfl, ?_⟩, fun s b hs hh h => ⟨_, rfl, ?_⟩, fun s b h => ⟨_, rfl, ?_⟩⟩
  · have d := bootRun_empty (coldStart s straps f []) b h
    rw [coldReset_eq]
    generalize (coldStart s straps f []).bootRun b = t at d
    rw [coldEnd_held _ _ _ d.held]
    have w := d.within
    have g : ∀ k i, ((coldFed s straps f []).sameMem t).get k i = t.get k i := fun k i => rfl
    refine ⟨rfl, w.dtc rfl, d.held, ?_, ?_, congrArg Pwr.seated (w.pwr rfl), congrArg Pwr.straps (w.pwr rfl), d.dumps, (show t.rime.records = _ by rw [w.rime rfl]; rfl),
      (show t.key.vault = _ by rw [w.key rfl]; rfl), (show t.key.slots = _ by rw [w.key rfl]; rfl), ?_, ?_, rfl⟩
    · rw [get_only_all _ _ _ _ _ rfl (by decide), g, d.stage]
    · rw [get_only_all _ _ _ _ _ rfl (by decide), g, w.regs _ _ rfl, coldStart, get_set_field _ _ _ _ (by decide)]
      exact get_set_same ..
    · rw [get_only_all _ _ _ _ _ rfl (by decide), g, w.regs _ _ rfl, get_coldStart _ _ _ _ _ _ (by decide), scratch_cold s 3 (by decide)]
    · rw [get_only_all _ _ _ _ _ rfl (by decide), g, w.regs _ _ rfl, get_coldStart _ _ _ _ _ _ (by decide), scratch_cold s 9 (by decide)]
  · obtain ⟨t, e, d⟩ := warmReset_empty s cause b h
    rw [e]
    have w := d.within
    obtain ⟨c1, c2⟩ := warmStart_cause s t cause d hc
    have g : ∀ k i, ((s.evSave.resetCore 2).sameMem t).get k i = t.get k i := fun k i => rfl
    refine ⟨rfl, w.dtc rfl, d.held, ?_, ?_, ?_, ?_, congrArg Evt.saved (w.evt rfl), d.dumps, (show t.rime.records = _ by rw [w.rime rfl]; rfl),
      (show t.key.vault = _ by rw [w.key rfl]; rfl)⟩
    · rw [get_only_all _ _ _ _ _ rfl (by decide), g, c1]
    · rw [get_only_all _ _ _ _ _ rfl (by decide), g, c2]
    · rw [get_only_all _ _ _ _ _ rfl (by decide), g, w.regs _ _ rfl, get_warmStart _ _ _ _ (by decide), scratch_warm_low s 3 (by decide)]
    · rw [get_only_all _ _ _ _ _ rfl (by decide), g, w.regs _ _ rfl, get_warmStart _ _ _ _ (by decide), scratch_warm_high s]
  · have r := bootRun_one (coldStart s straps f []) b k h hk
    rw [coldReset_eq]
    generalize (coldStart s straps f []).bootRun b = t at r
    refine ⟨coldEnd_mem _ t f rfl, ?_⟩
    rw [get_only_all _ _ _ _ _ rfl (by decide), get_coldEnd, r, imageOk_coldStart]
  · have r := bootRun_one (warmStart s cause) b k h hk
    rw [warmReset_eq]
    generalize (warmStart s cause).bootRun b = t at r
    refine ⟨rfl, ?_⟩
    rw [get_only_all _ _ _ _ _ rfl (by decide), get_sameMem, r, imageOk_warmStart]
  · have e : (if decide (s.get BOOT_STATUS_stage < 8) && !s.boot.held then s.warmReset 4 b else s) = s.warmReset 4 b := if_pos (by simp [hs, hh])
    obtain ⟨t, e', d⟩ := warmReset_empty s 4 b h
    rw [e, e']
    obtain ⟨c1, c2⟩ := warmStart_cause s t 4 d (by decide)
    refine ⟨rfl, d.held, ?_, ?_⟩
    · rw [get_only_all _ _ _ _ _ rfl (by decide), get_sameMem, c1]
    · rw [get_only_all _ _ _ _ _ rfl (by decide), get_sameMem, c2]
  · have e : (if decide (s.get BOOT_STATUS_stage < 8) && !s.boot.held then s.warmReset 4 b else s) = s := if_neg (by
      obtain h | h := h
      · simp [Nat.not_lt.mpr h]
      · simp [h])
    rw [e, only_self]
    exact ⟨rfl, rfl, rfl, rfl⟩

end Sys2Proof.Machine
end

section
/-! PROOFS. Seating, the service button, temperatures and sensor reports. -/

namespace Sys2Proof.Machine

open F

/-- Leaving a hold without an image is a warm reset that holds again. -/
theorem leaveHold_empty (s : State) (cause : Nat) (b : BootIn) (h : s.boot.banks = []) (hc : cause < 16) :
    (s.leaveHold cause b).get CLK_RESET_CAUSE_kind = 1 ∧ (s.leaveHold cause b).get CLK_RESET_CAUSE_cause = cause ∧
    (s.leaveHold cause b).boot.held = true ∧ (s.leaveHold cause b).get BOOT_STATUS_stage = 0xA ∧ (s.leaveHold cause b).mem = [] := by
  let u := (s.sameMem s.feedAgain).set PWR_SEQ_STATUS_seq 0 0
  have hb : u.boot.banks = [] := by
    show s.feedAgain.boot.banks = []
    unfold State.feedAgain
    split
    · exact h
    · exact h
  obtain ⟨t, e, d⟩ := warmReset_empty u cause b hb
  obtain ⟨c1, c2⟩ := warmStart_cause u t cause d hc
  have e' : s.leaveHold cause b = (u.evSave.resetCore 2).sameMem t := e
  rw [e', get_sameMem, get_sameMem, get_sameMem]
  exact ⟨c1, c2, d.held, d.stage, rfl⟩

theorem button_locate (s : State) (ms : Nat) (b : BootIn) (h : s.dumpRuns = false) (hm : ms < 2000) :
    s.button ms b = s.set GLB_CTRL_locate 0 (1 - s.get GLB_CTRL_locate) := by
  rw [State.button, if_neg (by simp [h]), if_pos hm]

theorem dumpRuns_of_not (s : State) (h : s.dumping = false) : s.dumpRuns = false := by simp [State.dumpRuns, h]

theorem button_stop (s : State) (ms : Nat) (b : BootIn) (h : s.dumping = false) (h1 : 3000 ≤ ms) (h2 : ms < 6000) :
    s.button ms b = s.sameMem (s.stopBegin 0) := by
  rw [State.button, if_neg (by simp [dumpRuns_of_not s h]), if_neg (by omega), if_pos (by simp [h1, h2])]

theorem button_restart (s : State) (ms : Nat) (b : BootIn) (h : s.dumping = false) (hh : s.boot.held = false) (h1 : 6000 ≤ ms) (h2 : ms < 9000) :
    s.button ms b = s.sameMem (s.stopBegin 2) := by
  rw [State.button, if_neg (by simp [dumpRuns_of_not s h]), if_neg (by omega), if_neg (by simp; omega), if_pos (by simp [h1, h2]), hh]
  rfl

theorem button_none (s : State) (ms : Nat) (b : BootIn) (h : s.dumpRuns = true ∨ (2000 ≤ ms ∧ ms < 3000) ∨ 9000 ≤ ms) : s.button ms b = s := by
  unfold State.button
  split
  · rfl
  · have h' : (2000 ≤ ms ∧ ms < 3000) ∨ 9000 ≤ ms := h.resolve_left (by assumption)
    rw [if_neg (by omega), if_neg (by simp; omega), if_neg (by simp; omega)]

/-! ## Sensor reports -/

/-- What a level of the string voltage writes. -/
theorem within_storeLevel (s : State) (mv : Nat) : Within { parts := [.evt, .ctr, .pwr], fields := [PWR_STORE_STATUS_vstore, PWR_STORE_STATUS_e_j,
    PWR_STORE_STATUS_state, JNL_NEVE_STATUS_budget_slots, JNL_NEVE_STATUS_high_water] } s (s.storeLevel mv) := by
  have judged : ∀ u : State, Within { parts := [.evt, .ctr, .pwr], fields := [PWR_STORE_STATUS_vstore, PWR_STORE_STATUS_e_j,
      PWR_STORE_STATUS_state, JNL_NEVE_STATUS_budget_slots, JNL_NEVE_STATUS_high_water] } u (storeJudged u) := fun u => by
    unfold storeJudged
    dsimp only
    have w := within_ite (w := { parts := [.evt, .ctr, .pwr], fields := [PWR_STORE_STATUS_vstore, PWR_STORE_STATUS_e_j, PWR_STORE_STATUS_state,
      JNL_NEVE_STATUS_budget_slots, JNL_NEVE_STATUS_high_water] }) (s := u) ((u.storeShort && !u.pwr.storeLow) = true)
      (fun _ => within_raise u EV_PWR_STORE_LOW 0 0 [] rfl rfl) (fun _ => .refl _ _)
    exact (w.trans (within_pwr _ _ rfl)).trans ((waterCheck_waterW _).widen (by decide) (by decide) (by decide))
  refine Within.trans ?_ (judged (storeRead s mv))
  unfold storeRead
  extract_lets u
  have h : Within { parts := [.evt, .ctr, .pwr], fields := [PWR_STORE_STATUS_vstore, PWR_STORE_STATUS_e_j, PWR_STORE_STATUS_state,
      JNL_NEVE_STATUS_budget_slots, JNL_NEVE_STATUS_high_water] } s u :=
    ((within_set s PWR_STORE_STATUS_vstore 0 mv rfl).trans (within_set _ _ _ _ rfl)).trans (within_set _ _ _ _ rfl)
  exact h.trans (within_ite _ (fun _ => (within_storeCharge u).widen (by decide) (by decide) (by decide)) fun _ => .refl _ _)

theorem storeLevel_vstore (s : State) (mv : Nat) : (s.storeLevel mv).get PWR_STORE_STATUS_vstore = mv % 2 ^ 16 := by
  rw [(storeLevel_after s mv).2 _ _ rfl, get_storeRead _ _ _ _ (by decide), get_budgetSet _ _ (by decide) (by decide), get_set_same]
  rfl

/-- One feed's readings. -/
def feedRead (s : State) (f : Nat) (x : Nat × Nat × Nat) : State :=
  ((s.set PWR_FEED_STATUS_vrms f (min x.1 4095)).set PWR_FEED_STATUS_freq f (min x.2.1 4095)).set PWR_FEED_STATUS_pin_w f (min x.2.2 4095)

/-- The bus's readings. -/
def busRead (s : State) (m : PwrRead) : State :=
  ((s.set PWR_BUS_STATUS_vbus 0 m.vbus).set PWR_BUS_STATUS_ibus 0 m.ibus).set PWR_BUS_STATUS_vbus_min 0 (min m.vbus (s.get PWR_BUS_STATUS_vbus_min))

/-- The temperatures and the heat. -/
def thermRead (s : State) (m : PwrRead) : State :=
  ((((s.set PWR_THERM_STATUS_die_c 0 (min m.die 255)).set PWR_THERM_STATUS_inlet_c 0 (min m.inlet 255)).set PWR_THERM_STATUS_fe_a_c 0
    (min m.feA 255)).set PWR_THERM_STATUS_fe_b_c 0 (min m.feB 255)).set PWR_THERM_STATUS_heat_w 0 (min (m.feedA.2.2 + m.feedB.2.2) 4095)

/-- The readings before the store's. -/
def sensorsRead (s : State) (m : PwrRead) : State := thermRead (busRead (feedRead (feedRead s 0 m.feedA) 1 m.feedB) m) m

/-- The levels after a report. -/
def sensorsLevel (s : State) (m : PwrRead) : State :=
  { s with pwr := { s.pwr with
      inletHot := s.pwr.inletHot && decide (40 < m.inlet), dieWarm := s.pwr.dieWarm && decide (90 < m.die)
      dieCrit := s.pwr.dieCrit && decide (105 < m.die) } }

theorem get_sensorsLevel (s : State) (m : PwrRead) (f : Fld) (i : Nat) : (sensorsLevel s m).get f i = s.get f i := rfl

theorem sensorReport_eq (s : State) (m : PwrRead) : s.sensorReport m = (sensorsLevel (((sensorsRead s m).storeHot m.store).storeLevel m.vstore) m).send
    (.sensors (min (m.feedA.2.2 + m.feedB.2.2) 4095) (((min (m.feedA.2.2 + m.feedB.2.2) 4095 : Nat) : Rat) / 14472)) := by
  unfold State.sensorReport sensorsLevel sensorsRead thermRead busRead feedRead
  dsimp only

theorem within_feedRead (s : State) (f : Nat) (x : Nat × Nat × Nat) :
    Within { parts := [], fields := [PWR_FEED_STATUS_vrms, PWR_FEED_STATUS_freq, PWR_FEED_STATUS_pin_w] } s (feedRead s f x) :=
  ((within_set s _ _ _ rfl).trans (within_set _ _ _ _ rfl)).trans (within_set _ _ _ _ rfl)

theorem within_busRead (s : State) (m : PwrRead) :
    Within { parts := [], fields := [PWR_BUS_STATUS_vbus, PWR_BUS_STATUS_ibus, PWR_BUS_STATUS_vbus_min] } s (busRead s m) :=
  ((within_set s _ _ _ rfl).trans (within_set _ _ _ _ rfl)).trans (within_set _ _ _ _ rfl)

theorem within_thermRead (s : State) (m : PwrRead) : Within { parts := [], fields := [PWR_THERM_STATUS_die_c, PWR_THERM_STATUS_inlet_c,
    PWR_THERM_STATUS_fe_a_c, PWR_THERM_STATUS_fe_b_c, PWR_THERM_STATUS_heat_w] } s (thermRead s m) :=
  ((((within_set s _ _ _ rfl).trans (within_set _ _ _ _ rfl)).trans (within_set _ _ _ _ rfl)).trans (within_set _ _ _ _ rfl)).trans
    (within_set _ _ _ _ rfl)

theorem feedRead_vrms (s : State) (f : Nat) (x : Nat × Nat × Nat) : (feedRead s f x).get PWR_FEED_STATUS_vrms f = min x.1 4095 := by
  rw [feedRead, get_set_field _ _ _ _ (by decide), get_set_field _ _ _ _ (by decide), get_set_same]
  exact Nat.mod_eq_of_lt (by show _ < 4096; omega)

theorem feedRead_vrms_other (s : State) (f g : Nat) (x : Nat × Nat × Nat) (h : f ≠ g) :
    (feedRead s f x).get PWR_FEED_STATUS_vrms g = s.get PWR_FEED_STATUS_vrms g := by
  rw [feedRead, get_set_field _ _ _ _ (by decide), get_set_field _ _ _ _ (by decide), get_set_elem _ _ _ h]

theorem busRead_vbus (s : State) (m : PwrRead) : (busRead s m).get PWR_BUS_STATUS_vbus = m.vbus % 2 ^ 16 := by
  rw [busRead, get_set_field _ _ _ _ (by decide), get_set_field _ _ _ _ (by decide), get_set_same]
  rfl

theorem thermRead_heat (s : State) (m : PwrRead) : (thermRead s m).get PWR_THERM_STATUS_heat_w = min (m.feedA.2.2 + m.feedB.2.2) 4095 := by
  rw [thermRead, get_set_same]
  exact Nat.mod_eq_of_lt (by show _ < 4096; omega)

theorem thermRead_die (s : State) (m : PwrRead) : (thermRead s m).get PWR_THERM_STATUS_die_c = min m.die 255 := by
  rw [thermRead, get_set_field _ _ _ _ (by decide), get_set_field _ _ _ _ (by decide), get_set_field _ _ _ _ (by decide),
    get_set_field _ _ _ _ (by decide), get_set_same]
  exact Nat.mod_eq_of_lt (by show _ < 256; omega)

theorem within_sensorsRead (s : State) (m : PwrRead) : Within { parts := [], blocks := [5] } s (sensorsRead s m) := by
  have a := ((within_feedRead s 0 m.feedA).widen (v := { parts := [], blocks := [5] }) (by decide) (by decide) (by decide)).trans
    ((within_feedRead (feedRead s 0 m.feedA) 1 m.feedB).widen (by decide) (by decide) (by decide))
  exact (a.trans ((within_busRead _ m).widen (by decide) (by decide) (by decide))).trans ((within_thermRead _ m).widen (by decide) (by decide) (by decide))

theorem within_storeHot (s : State) (c : Nat) :
    Within { parts := [.pwr], fields := [PWR_STORE_STATUS_temp_c, PWR_THERM_STATUS_store_c] } s (s.storeHot c) := by
  unfold State.storeHot
  dsimp only
  exact ((within_set s _ _ _ rfl).trans (within_set _ _ _ _ rfl)).trans (within_pwr _ _ rfl)

/-- The string voltage as the report's store readings leave it, and the fields they do not reach. -/
theorem storeReadings (s : State) (c v : Nat) : ((s.storeHot c).storeLevel v).pwr.dieWarm = s.pwr.dieWarm ∧
    ((s.storeHot c).storeLevel v).outbox = s.outbox ∧ ((s.storeHot c).storeLevel v).get PWR_STORE_STATUS_vstore = v % 2 ^ 16 := by
  refine ⟨?_, ?_, storeLevel_vstore _ _⟩
  · rw [(storeLevel_after _ _).1]
    rfl
  · rw [(within_storeLevel _ _).outbox rfl, (within_storeHot s c).outbox rfl]

theorem get_sensorReport (s : State) (m : PwrRead) (f : Fld) (i : Nat)
    (h : ({ parts := [.evt, .ctr, .pwr], fields := [PWR_STORE_STATUS_vstore, PWR_STORE_STATUS_e_j, PWR_STORE_STATUS_state,
      JNL_NEVE_STATUS_budget_slots, JNL_NEVE_STATUS_high_water] } : Writes).field (f.key i) = false)
    (k : ({ parts := [.pwr], fields := [PWR_STORE_STATUS_temp_c, PWR_THERM_STATUS_store_c] } : Writes).field (f.key i) = false) :
    (s.sensorReport m).get f i = (sensorsRead s m).get f i := by
  rw [sensorReport_eq, get_send, get_sensorsLevel]
  generalize sensorsRead s m = u
  exact ((within_storeLevel _ _).regs f i h).trans ((within_storeHot u m.store).regs f i k)

/-- Settles O47: each command is one change of what it names, a report, or the beginning of a stop or reset. -/
theorem seatingAndSensors : Obligations.SeatingAndSensors := by
  unfold Obligations.SeatingAndSensors
  refine ⟨fun s straps b h hh => ⟨_, rfl, ?_⟩, fun s straps b h hh hb => ⟨_, rfl, ?_⟩, fun s h hd ha => ⟨_, rfl, ?_⟩, fun s h hp => ⟨_, rfl, ?_⟩,
    fun s ms b h hm => ⟨_, rfl, ?_⟩, fun s ms b hd hs hg h1 h2 => ⟨_, rfl, ?_⟩, fun s ms b hd hs hh hg h1 h2 => ⟨_, rfl, ?_⟩,
    fun s ms b h => ⟨_, rfl, ?_⟩, fun s h hk hl hq => ⟨_, rfl, ?_⟩, fun s h => ⟨_, rfl, ?_⟩, fun s c hc h => ⟨_, rfl, ?_⟩,
    fun s c hc h => ⟨_, rfl, ?_⟩, fun s c hc => ⟨_, rfl, ?_⟩, fun s c hc h hd ha => ⟨_, rfl, ?_⟩, fun s m => ⟨_, rfl, ?_⟩,
    fun s cage w hc hv => ⟨_, rfl, ?_⟩, fun s cage w h1 h2 hv => ⟨_, rfl, ?_⟩⟩
  · have e : s.seat straps b = { s with pwr := { s.pwr with seated := true, partSeat := false, straps := straps % 16 } } := by
      rw [State.seat, if_neg (by simp [h]), if_neg (by simp [hh])]
    rw [e]
    exact ⟨rfl, regs_only_same _ _ _ rfl, rfl⟩
  · have e : s.seat straps b = State.leaveHold { s with pwr := { s.pwr with seated := true, partSeat := false, straps := straps % 16 } } 8 b := by
      rw [State.seat, if_neg (by simp [h]), if_pos (by simp [hh])]
    obtain ⟨l1, l2, l3, l4, l5⟩ := leaveHold_empty { s with pwr := { s.pwr with seated := true, partSeat := false, straps := straps % 16 } } 8 b hb (by decide)
    rw [e]
    generalize State.leaveHold _ 8 b = t at l1 l2 l3 l4 l5
    refine ⟨?_, ?_, l3, ?_, l5⟩
    · rw [get_only_all _ _ _ _ _ rfl (by decide), l1]
    · rw [get_only_all _ _ _ _ _ rfl (by decide), l2]
    · rw [get_only_all _ _ _ _ _ rfl (by decide), l4]
  · have e : s.unseat = State.dumpBegin { s with pwr := { s.pwr with seated := false, partSeat := false } } 3 0 := by
      rw [State.unseat, if_neg (by simp [h])]
      exact if_neg (by show ¬ s.dumping = true; simp [hd])
    have d := dumpBegin_begun { s with pwr := { s.pwr with seated := false, partSeat := false } } 3 0 hd ha
    rw [e]
    generalize State.dumpBegin _ 3 0 = t at d
    refine ⟨congrArg Pwr.seated d.pwr, d.phase, congrArg Boot.after d.boot, ?_⟩
    rw [get_only_in _ _ _ _ _ rfl, d.seq]
  · have e : s.seatPartial = ({ s with pwr := { s.pwr with partSeat := true } } : State).raise EV_GLB_SEAT_PARTIAL 0 0 := by
      rw [State.seatPartial, if_neg (by simp [h, hp])]
    rw [e]
    exact ⟨rfl, reports_raise _ _ _ _ rfl rfl fun _ _ _ => rfl, rfl⟩
  · have e := button_locate s ms b h hm
    rw [e]
    refine ⟨?_, rfl, rfl⟩
    rw [get_only_all _ _ _ _ _ rfl (by decide), get_set_same]
    exact Nat.mod_eq_of_lt (by show _ < 2; omega)
  · have d := stopBegin_begun s 0 hd hs hg
    rw [button_stop s ms b hd h1 h2]
    generalize s.stopBegin 0 = t at d
    refine ⟨d.phase, congrArg Boot.after d.boot, ?_⟩
    rw [get_only_all _ _ _ _ _ rfl (by decide), get_sameMem, d.stage]
  · have d := stopBegin_begun s 2 hd hs hg
    rw [button_restart s ms b hd hh h1 h2]
    generalize s.stopBegin 2 = t at d
    refine ⟨d.phase, congrArg Boot.after d.boot, ?_⟩
    rw [get_only_all _ _ _ _ _ rfl (by decide), get_sameMem, d.stage]
  · rw [button_none s ms b h, only_self]
    exact ⟨rfl, rfl, rfl, rfl⟩
  · obtain ⟨_, h2, h3⟩ := keyZeroiseAll_after s hk hl hq
    rw [if_neg (by simp [h])]
    exact ⟨h2, h3⟩
  · rw [if_pos h]
    rfl
  · have e : s.inletIsHot c = ({ s.set PWR_THERM_STATUS_inlet_c 0 (min c 255) with pwr := { s.pwr with inletHot := true } } : State).raise EV_PWR_INLET_HOT 0 0 := by
      rw [State.inletIsHot]
      exact if_neg (by simp [h]; omega)
    rw [e]
    refine ⟨?_, rfl, reports_raise _ _ _ _ rfl rfl fun g i hg => get_set_field _ _ _ _ (place_ne (by decide) hg)⟩
    rw [get_only_in _ _ _ _ _ rfl, get_raise]
    exact (get_set_same ..).trans (Nat.mod_eq_of_lt (by show _ < 256; omega))
  · have e : s.dieWarn c = ({ s.set PWR_THERM_STATUS_die_c 0 (min c 255) with pwr := { s.pwr with dieWarm := true } } : State).raise EV_PWR_DIE_WARN 0 0 := by
      rw [State.dieWarn]
      exact if_neg (by simp [h]; omega)
    rw [e]
    refine ⟨?_, rfl, reports_raise _ _ _ _ rfl rfl fun g i hg => get_set_field _ _ _ _ (place_ne (by decide) hg)⟩
    rw [get_only_in _ _ _ _ _ rfl, get_raise]
    exact (get_set_same ..).trans (Nat.mod_eq_of_lt (by show _ < 256; omega))
  · have e : s.dieWarn c = s.set PWR_THERM_STATUS_die_c 0 (min c 255) := by
      rw [State.dieWarn]
      exact if_pos (by simp [hc])
    rw [e]
    refine ⟨?_, rfl, rfl⟩
    rw [get_only_in _ _ _ _ _ rfl, get_set_same, Nat.min_eq_left (by omega)]
    exact Nat.mod_eq_of_lt (by show _ < 256; omega)
  · let u : State := ({ s.set PWR_THERM_STATUS_die_c 0 (min c 255) with pwr := { s.pwr with dieCrit := true } } : State).raise EV_PWR_DIE_CRIT 0 0
    have e : s.dieCritical c = u.dumpBegin 3 0 := by
      rw [State.dieCritical]
      exact if_neg (by simp [h]; omega)
    have d := dumpBegin_begun u 3 0 hd ha
    rw [e]
    generalize u.dumpBegin 3 0 = t at d
    exact ⟨(congrArg Pwr.dieCrit d.pwr).trans rfl, d.phase, congrArg Boot.after d.boot⟩
  · obtain ⟨hw, ho, hv⟩ := storeReadings (sensorsRead s m) m.store m.vstore
    have r := within_sensorsRead s m
    refine ⟨?_, ?_, ?_, ?_, ?_, ?_, ?_, ?_⟩
    · rw [get_only_in _ _ _ _ _ rfl, get_sensorReport _ _ _ _ rfl rfl, sensorsRead, thermRead_heat]
    · rw [get_only_in _ _ _ _ _ rfl, get_sensorReport _ _ _ _ rfl rfl, sensorsRead, thermRead_die]
    · rw [get_only_in _ _ _ _ _ rfl, get_sensorReport _ _ _ _ rfl rfl, sensorsRead, (within_thermRead _ m).regs _ _ rfl,
        (within_busRead _ m).regs _ _ rfl, feedRead_vrms_other _ _ _ _ (by decide), feedRead_vrms]
    · rw [get_only_in _ _ _ _ _ rfl, get_sensorReport _ _ _ _ rfl rfl, sensorsRead, (within_thermRead _ m).regs _ _ rfl,
        (within_busRead _ m).regs _ _ rfl, feedRead_vrms]
    · rw [get_only_in _ _ _ _ _ rfl, get_sensorReport _ _ _ _ rfl rfl, sensorsRead, (within_thermRead _ m).regs _ _ rfl, busRead_vbus]
    · rw [get_only_in _ _ _ _ _ rfl, sensorReport_eq, get_send, get_sensorsLevel, hv]
    · rw [sensorReport_eq]
      generalize State.storeLevel _ _ = u at hw ho hv
      show (u.pwr.dieWarm && decide (90 < m.die)) = _
      rw [hw, r.pwr rfl]
    · rw [sensorReport_eq]
      generalize State.storeLevel _ _ = u at hw ho hv
      show u.outbox ++ _ = _
      rw [ho, r.outbox rfl]
  · have e : s.opticIn (cage % 8) w = { s with mac := { s.mac with optics := tput s.mac.optics cage ⟨w, decide (16 < w)⟩ } } := by
      rw [Nat.mod_eq_of_lt hc]
      exact if_neg (by obtain h | h := hv <;> simp [h])
    rw [e]
    exact tget_tput_same ..
  · have e : s.opticIn (cage % 8) w = s := by
      rw [Nat.mod_eq_of_lt h2]
      exact if_pos (by simp [hv, h1])
    rw [e, only_self]

end Sys2Proof.Machine
end

section
/-! PROOFS. The answers to SPDM requests (R499). -/

namespace Sys2Proof.Machine

open F

/-- A request of its code, far enough in the exchange, runs. -/
theorem spdmOn_runs (s : State) (e code stage : Nat) (req : List Byte) (f : State → State) (hu : s.spdmUp e = true)
    (hc : spdmCode req = code) (hs : stage ≤ (s.spdmOf e).stage) : s.spdmOn e code stage req f = f s := by
  rw [State.spdmOn, if_neg (by simp [hu, hc]), if_neg (by omega)]

/-- A request that comes too early is unexpected. -/
theorem spdmOn_early (s : State) (e code stage : Nat) (req : List Byte) (f : State → State) (hu : s.spdmUp e = true)
    (hc : spdmCode req = code) (hs : (s.spdmOf e).stage < stage) : s.spdmOn e code stage req f = s.send (.spdm e (spdmError 4 req)) := by
  rw [State.spdmOn, if_neg (by simp [hu, hc]), if_pos hs]

theorem spdmAnswer_outbox (s : State) (e : Nat) (x : Spdm) (resp : List Byte) : (s.spdmAnswer e x resp).outbox = s.outbox ++ [.spdm e resp] := rfl

theorem spdmAnswer_spdmOf (s : State) (e : Nat) (x : Spdm) (resp : List Byte) : (s.spdmAnswer e x resp).spdmOf e = x := by
  show tgetD (tput s.rime.spdm e x) e ⟨0, []⟩ = x
  rw [tgetD, tget_tput_same]
  rfl

/-- What a command with the exchange's footprint leaves of an exchange and of what is sent. -/
theorem only_spdm (s t : State) (w : Writes) (hr : w.part .rime = true) (ho : w.part .outbox = true) (e : Nat) :
    (s.only w t).outbox = t.outbox ∧ (s.only w t).spdmOf e = t.spdmOf e := by
  refine ⟨by rw [only_outbox, if_pos ho], ?_⟩
  rw [State.spdmOf, only_rime, if_pos hr]
  rfl

theorem leBytes_length (n v : Nat) : (leBytes n v).length = n := by simp [leBytes]

/-- Settles O46: each request in its place of the exchange is met by its answer, which extends the log. -/
theorem attestation : Obligations.Attestation := by
  unfold Obligations.Attestation
  refine ⟨fun s e req hu hc => ⟨_, _, rfl, rfl, ?_⟩, fun s e req hu hc hs => ?_, fun s e req hu hc hs h1 h2 h3 => ?_,
    fun s e req hu hc hs => ⟨_, _, rfl, ?_, rfl, ?_⟩, fun s e req hu hc hs => ⟨_, rfl, ?_⟩, fun s e req hu hc hs h0 hl => ?_,
    fun s e req hu hc hs h0 h1 => ?_, fun s e req hu hc hs h0 h1 h2 => ?_, fun s e req hu hc => ⟨_, rfl, ?_⟩⟩
  · obtain ⟨ho, hx⟩ := only_spdm s (s.spdmVersion e req) { parts := [.rime, .outbox] } rfl rfl e
    rw [ho, hx, State.spdmVersion, spdmOn_runs s e _ _ _ _ hu hc (Nat.zero_le _)]
    exact ⟨rfl, spdmAnswer_spdmOf _ _ _ _⟩
  · obtain ⟨ho, hx⟩ := only_spdm s (s.spdmCapabilities e req) { parts := [.rime, .freeCtr, .outbox] } rfl rfl e
    refine ⟨_, spdmHead 0x12 0x61 0 0 ++ [0] ++ leBytes 1 s.fresh.1.toNat ++ leBytes 2 0 ++ leBytes 4 0x16 ++ leBytes 8 s.fresh.2.fresh.1.toNat, rfl,
      rfl, rfl, ?_⟩
    rw [ho, hx, State.spdmCapabilities, spdmOn_runs s e _ _ _ _ hu hc hs]
    exact ⟨rfl, spdmAnswer_spdmOf _ _ _ _⟩
  · obtain ⟨ho, hx⟩ := only_spdm s (s.spdmAlgorithms e req) { parts := [.rime, .outbox] } rfl rfl e
    have ok : (leAt req 6 1 % 2 = 1 && leAt req 8 4 / 0x80 % 2 = 1 && leAt req 12 4 / 2 % 2 = 1) = true := by simp [h1, h2, h3]
    refine ⟨_, spdmHead 0x12 0x63 0 0 ++ leBytes 2 36 ++ [1, 0] ++ leBytes 4 4 ++ leBytes 4 0x80 ++ leBytes 4 2 ++ List.replicate 16 0, rfl, ?_,
      rfl, by decide, by decide, ?_⟩
    · rw [ho, State.spdmAlgorithms, spdmOn_runs s e _ _ _ _ hu hc hs, if_pos ok]
      rfl
    · rw [hx, State.spdmAlgorithms, spdmOn_runs s e _ _ _ _ hu hc hs, if_pos ok]
      exact spdmAnswer_spdmOf _ _ _ _
  · obtain ⟨ho, hx⟩ := only_spdm s (s.spdmDigests e req) { parts := [.rime, .outbox] } rfl rfl e
    rw [ho, State.spdmDigests, spdmOn_runs s e _ _ _ _ hu hc hs]
    rfl
  · obtain ⟨ho, hx⟩ := only_spdm s (s.spdmDigests e req) { parts := [.rime, .outbox] } rfl rfl e
    rw [hx, State.spdmDigests, spdmOn_runs s e _ _ _ _ hu hc hs]
    exact spdmAnswer_spdmOf _ _ _ _
  · show (s.spdmDigests e req).outbox = _ ∧ (s.spdmDigests e req).rime = _
    rw [State.spdmDigests, spdmOn_early s e _ _ _ _ hu hc hs]
    exact ⟨rfl, rfl⟩
  · obtain ⟨ho, hx⟩ := only_spdm s (s.spdmCertificate e req) { parts := [.rime, .outbox] } rfl rfl e
    have ok : ¬ (leAt req 2 1 % 16 != 0 || decide (s.certBlob.length ≤ leAt req 4 2)) = true := by simp [h0, hl]
    refine ⟨_, _, _, rfl, rfl, ?_, ?_, rfl⟩
    · rw [ho, State.spdmCertificate, spdmOn_runs s e _ _ _ _ hu hc hs, if_neg ok]
      rfl
    · rw [hx, State.spdmCertificate, spdmOn_runs s e _ _ _ _ hu hc hs, if_neg ok]
      exact spdmAnswer_spdmOf _ _ _ _
  · refine ⟨_, leBytes 32 s.freshWide.1.toNat, _, rfl, leBytes_length _ _, rfl, ?_⟩
    have ok : ¬ (leAt req 2 1 % 16 != 0 || !([0, 1, 0xFF].contains (leAt req 3 1))) = true := by simp [h0, h1]
    show (s.spdmChallenge e req).outbox = _ ∧ (s.spdmChallenge e req).freeCtr = _
    rw [State.spdmChallenge, spdmOn_runs s e _ _ _ _ hu hc hs]
    dsimp only
    rw [if_neg ok]
    simp only [h1, if_true, List.append_nil]
    exact ⟨rfl, rfl⟩
  · refine ⟨_, leBytes 32 s.freshWide.1.toNat, _, rfl, leBytes_length _ _, rfl, ?_⟩
    have ok : ¬ (!(decide (leAt req 3 1 ≤ 8) || leAt req 3 1 = 0xFF)) = true := by simp [h2]
    show (s.spdmMeasurements e req).outbox = _
    rw [State.spdmMeasurements, spdmOn_runs s e _ _ _ _ hu hc hs]
    dsimp only
    rw [if_neg ok, if_pos h0]
    simp only [show ¬ leAt req 3 1 = 0 by omega, show ¬ leAt req 3 1 = 255 by omega, if_false, List.flatMap_cons, List.flatMap_nil, List.append_nil,
      show leBytes 1 [leAt req 3 1].length = [1] from (by decide : leBytes 1 1 = [1])]
    rfl
  · show (s.spdmUnsupported e req).outbox = _ ∧ _
    rw [State.spdmUnsupported, if_neg (by simp only [hu, hc]; decide)]
    exact ⟨rfl, rfl⟩

end Sys2Proof.Machine
end

section
/-! PROOFS. Support: a pair frame that comes in sequence (R325, R326). -/

namespace Sys2Proof.Machine

open F

/-- What the link's bookkeeping writes. -/
def linkW : Writes := { parts := [.evt, .ctr, .pair], fields := [PAIR_STATUS_links] }

/-- What an acknowledgement that is due writes. -/
def ackW : Writes := { parts := [.ctr, .pair, .outbox] }

/-- The state in which a frame in sequence is delivered. -/
def pairReady (s : State) (h : PairHdr) : State :=
  let u := (s.linkHeard h.link).pairAcked h.ack
  { u with pair := { u.pair with held := [], rxNext := (h.seq + 1) % 2 ^ 32, unacked := u.pair.unacked + 1 } }

/-- The acknowledgement sent where one is due. -/
def ackDue (s : State) : State := if 32 ≤ s.pair.unacked then s.linkAckSend else s

theorem within_linksCheck (s : State) : Within linkW s s.linksCheck := by
  refine within_each _ _ _ fun s l => ?_
  dsimp only
  refine within_ite _ (fun _ => .refl _ _) fun _ => within_ite _ (fun _ => ?_) fun _ => ?_
  · exact (within_set s PAIR_STATUS_links 0 _ rfl).trans (within_leave _ _ rfl)
  · exact ((within_set s PAIR_STATUS_links 0 _ rfl).trans (within_enter _ _ rfl)).trans (within_raise _ _ _ _ _ rfl rfl)

theorem linksCheck_pair (s : State) : s.linksCheck.pair = s.pair :=
  (within_each (w := { parts := [.evt, .ctr], fields := [PAIR_STATUS_links] }) s _ _ fun s l => by
    dsimp only
    refine within_ite _ (fun _ => .refl _ _) fun _ => within_ite _ (fun _ => ?_) fun _ => ?_
    · exact (within_set s PAIR_STATUS_links 0 _ rfl).trans (within_leave _ _ rfl)
    · exact ((within_set s PAIR_STATUS_links 0 _ rfl).trans (within_enter _ _ rfl)).trans (within_raise _ _ _ _ _ rfl rfl)).pair rfl

theorem linkHeard_pair (s : State) (l : Nat) : (s.linkHeard l).pair = { s.pair with down := s.pair.down.filter (· != l) } := by
  rw [State.linkHeard, bump_pair, State.linkAlive, linksCheck_pair]

theorem within_linkHeard (s : State) (l : Nat) : Within linkW s (s.linkHeard l) :=
  ((within_pair s _ rfl).trans (within_linksCheck _)).trans (within_bump _ _ _ rfl)

theorem within_pairReady (s : State) (h : PairHdr) : Within linkW s (pairReady s h) :=
  ((within_linkHeard s h.link).trans (within_pair _ _ rfl)).trans (within_pair _ _ rfl)

/-- The pair as a frame in sequence finds it: what only the link's bookkeeping changes, and the rest. -/
theorem pairReady_pair (s : State) (h : PairHdr) : ∃ down kept keptOn unacked, (pairReady s h).pair =
    { s.pair with down := down, kept := kept, keptOn := keptOn, held := [], rxNext := (h.seq + 1) % 2 ^ 32, unacked := unacked } := by
  have e : ∃ down kept keptOn, ((s.linkHeard h.link).pairAcked h.ack).pair =
      { s.pair with down := down, kept := kept, keptOn := keptOn } := by
    simp only [State.pairAcked, linkHeard_pair]
    exact ⟨_, _, _, rfl⟩
  obtain ⟨down, kept, keptOn, e⟩ := e
  refine ⟨down, kept, keptOn, s.pair.unacked + 1, ?_⟩
  unfold pairReady
  dsimp only
  rw [e]

theorem within_ackDue (s : State) : Within ackW s (ackDue s) :=
  within_ite _ (fun _ => ((within_pair s _ rfl).trans (within_send _ _ rfl)).trans (within_bump _ _ _ rfl)) fun _ => .refl _ _

/-- The acknowledgement changes only the count of frames not yet acknowledged. -/
theorem ackDue_pair (s : State) : ∃ n, (ackDue s).pair = { s.pair with unacked := n } := by
  unfold ackDue
  split
  · exact ⟨0, by simp [State.linkAckSend]⟩
  · exact ⟨s.pair.unacked, rfl⟩

theorem ackDue_rxNext (s : State) : (ackDue s).pair.rxNext = s.pair.rxNext := by
  obtain ⟨n, h⟩ := ackDue_pair s
  rw [h]

/-- A frame in sequence is delivered, and acknowledged where that is due. -/
theorem pairRx_inSequence (s : State) (h : PairHdr) (m : PairMsg) (hs : InSequence s h) :
    s.pairRx h m = ackDue ((pairReady s h).pairDeliver m) := by
  obtain ⟨hact, hform, hnext, hheld⟩ := hs
  have hp : (s.linkHeard h.link).pair = { s.pair with down := s.pair.down.filter (· != h.link) } := linkHeard_pair s h.link
  have hq : ((s.linkHeard h.link).pairAcked h.ack).pair.rxNext = h.seq ∧ ((s.linkHeard h.link).pairAcked h.ack).pair.held = [] := by
    simp only [State.pairAcked, hp, hnext, hheld, and_self]
  have hd : seqFrom h.seq h.seq = 0 := by
    unfold seqFrom
    omega
  unfold State.pairRx
  rw [if_neg (by rw [hp]; simp [hact, hform])]
  dsimp only
  rw [hq.1, hd, if_neg (by decide), hq.2]
  simp only [tget_nil, Option.isSome_none, Bool.false_eq_true, if_false, tput, List.length_singleton, State.pairRun, tget_cons, if_true]
  simp only [tdel, if_true]
  rfl

/-- A part of the state that the link's bookkeeping leaves is what the delivery makes of it. -/
theorem pairRx_part {α : Type} (g : State → α) (s : State) (h : PairHdr) (m : PairMsg) (hs : InSequence s h)
    (hg : ∀ u, g (ackDue u) = g u) : g (s.pairRx h m) = g ((pairReady s h).pairDeliver m) := by
  rw [pairRx_inSequence s h m hs, hg]

end Sys2Proof.Machine
end

section
/-! PROOFS. The Crevasse list saved, walked and following the partner's frames (R288 to R291). -/

namespace Sys2Proof.Machine

open F

/-- The list as the delivery of a CREVASSE frame in sequence leaves it. -/
theorem crevasseRx_reb (s : State) (h : PairHdr) (f : CrevFrame) (hs : InSequence s h) :
    (s.pairRx h (.crevasse f)).reb = ((pairReady s h).crevFrame f).reb :=
  pairRx_part (·.reb) s h _ hs fun u => (within_ackDue u).reb rfl

theorem pairReady_reb (s : State) (h : PairHdr) : (pairReady s h).reb = s.reb := (within_pairReady s h).reb rfl

/-- A run entered in an empty list is the list. -/
theorem crevRun_empty (s : State) (c : Crev) (h : s.reb.crev = []) :
    (s.crevRun c).reb.crev = [c] ∧ (s.crevRun c).reb.changed = true ∧ (s.crevRun c).pair = s.pair := by
  have e : s.crevRun c = ({ (s.addSat REB_CREV_COUNT_lost_blocks 0 c.nlb) with reb := { s.reb with crev := [c] } } : State).crevChanged := by
    simp [State.crevRun, h, crevInsert]
  rw [e]
  exact ⟨rfl, rfl, rfl⟩

/-- A whole entry is one run that an empty list does not cover. -/
theorem crevEnter_empty (s : State) (c : Crev) (h : s.reb.crev = []) : s.crevEnter c = s.crevRun c := by
  simp [State.crevEnter, uncovered, h, State.each]

/-- Settles O33: each command is one change of the list. -/
theorem crevasseList : Obligations.CrevasseList := by
  unfold Obligations.CrevasseList
  refine ⟨fun s hc => ⟨_, rfl, ?_⟩, fun s hs => ⟨_, rfl, ?_⟩, fun s h c hs hc hn => ⟨_, rfl, ?_⟩, fun s h n hs hn => ⟨_, rfl, ?_⟩⟩
  · rw [if_pos hc]
    exact ⟨rfl, rfl⟩
  · have e : ∃ u : State, s.crevWalk = u.set REB_CREV_STATUS_scanning 0 0 ∧ ((∀ e ∈ s.str.map, ∀ a b, e.2 ≠ .lost a b) → u = s) := by
      unfold State.crevWalk
      rw [if_neg (by simp [hs])]
      refine ⟨_, rfl, fun hl => ?_⟩
      rw [List.filterMap_eq_nil_iff.mpr]
      · rfl
      · intro x hx
        obtain ⟨⟨i, lba⟩, e⟩ := x
        cases e with
        | lost a b => exact absurd rfl (hl _ hx a b)
        | _ => rfl
    obtain ⟨u, e, hu⟩ := e
    refine ⟨?_, fun hl => ?_⟩
    · rw [get_only_in _ _ _ _ _ rfl, e, get_set_same]
      rfl
    · show s.crevWalk.reb = s.reb
      rw [e, hu hl, set_reb]
  · show (s.pairRx h _).pair.rxNext = _ ∧ (s.pairRx h _).reb.crev = _ ∧ (s.pairRx h _).reb.changed = _
    have hr : (pairReady s h).reb.crev = [] := by rw [pairReady_reb, hc]
    obtain ⟨h1, h2, h3⟩ := crevRun_empty (pairReady s h) c hr
    refine ⟨?_, ?_, ?_⟩
    · rw [pairRx_part (·.pair.rxNext) s h _ hs ackDue_rxNext]
      show ((pairReady s h).crevEnter c).pair.rxNext = _
      obtain ⟨_, _, _, _, hp⟩ := pairReady_pair s h
      rw [crevEnter_empty _ _ hr, h3, hp]
    · rw [crevasseRx_reb s h _ hs]
      show ((pairReady s h).crevEnter c).reb.crev = _
      rw [crevEnter_empty _ _ hr, h1]
    · rw [crevasseRx_reb s h _ hs]
      show ((pairReady s h).crevEnter c).reb.changed = _
      rw [crevEnter_empty _ _ hr, h2]
  · show (s.pairRx h _).reb.crev = _
    have hr : ((pairReady s h).reb.crev.any fun c => c.nsid = n) = true := by
      rw [pairReady_reb]
      simpa using hn
    rw [crevasseRx_reb s h _ hs]
    show (if ((pairReady s h).reb.crev.any fun c => c.nsid = n) = true then (pairReady s h).crevErase n else pairReady s h).reb.crev = _
    rw [if_pos hr, ← pairReady_reb s h]
    rfl

end Sys2Proof.Machine
end

section
/-! PROOFS. Rotations, sweeps, endpoint entries, the generator and the partner's key frames (chapter 6). -/

namespace Sys2Proof.Machine

open F

/-! ## Reads of a member -/

/-- The interval's count moves the counts of reads alone. -/
theorem readsTick_eq (s : State) : ∃ was now hedged ms, s.readsTick =
    { s with str := { s.str with readsWas := was, readsNow := now, hedged := hedged, readsMs := ms } } := by
  unfold State.readsTick
  dsimp only
  split
  · exact ⟨_, _, _, _, rfl⟩
  · exact ⟨_, _, _, _, rfl⟩

theorem within_driveQueue (s : State) (c : DriveCmd) (t : Nat) (f y : Bool) : Within { parts := [.tms] } s (s.driveQueue c t f y) := by
  unfold State.driveQueue
  extract_lets cls i
  exact within_ite _ (fun _ => within_ite _ (fun _ => within_tms s _ rfl) fun _ => within_tms s _ rfl) fun _ => within_tms s _ rfl

/-- The read of a chunk is noted with its row's read. -/
theorem readChunk_reads (s : State) (r : Nat) (x : RowRead) (g : Seg) (c : Nat) :
    (s.readChunk r x g c).str.reads = tmod s.str.reads r fun y => { y with out := y.out ++ [c] } := by
  obtain ⟨_, _, _, _, e⟩ := readsTick_eq s
  unfold State.readChunk
  dsimp only
  rw [(within_driveQueue _ _ _ _ _).str rfl, e]

@[simp] theorem readsTick_regs (s : State) : s.readsTick.regs = s.regs := by
  obtain ⟨_, _, _, _, e⟩ := readsTick_eq s
  rw [e]

@[simp] theorem readsTick_nextRead (s : State) : s.readsTick.str.nextRead = s.str.nextRead := by
  obtain ⟨_, _, _, _, e⟩ := readsTick_eq s
  rw [e]

@[simp] theorem readsTick_place (s : State) (g : Seg) (o : Nat) : s.readsTick.place g o = s.place g o := by
  obtain ⟨_, _, _, _, e⟩ := readsTick_eq s
  rw [e]
  rfl

theorem readable_congr {s t : State} (h : t.regs = s.regs) (m : Nat) : t.readable m = s.readable m := by
  simp only [State.readable, State.live, State.get, h]
  rfl

theorem slow_congr {s t : State} (h : t.regs = s.regs) (m : Nat) : t.slow m = s.slow m := by
  simp only [State.slow, State.flag, State.get, h]
  rfl

theorem readChunk_regs (s : State) (r : Nat) (x : RowRead) (g : Seg) (c : Nat) : (s.readChunk r x g c).regs = s.regs := by
  have q (u : State) (c : DriveCmd) (t : Nat) (f y : Bool) : (u.driveQueue c t f y).regs = u.regs := by
    unfold State.driveQueue
    dsimp only
    split_ifs <;> rfl
  unfold State.readChunk
  dsimp only
  rw [q]
  exact readsTick_regs s

/-- A read of a block whose member answers and is not slow begins as a read of that member. -/
theorem readMember_reads (s : State) (u : ReadUse) (g o : Nat) (sg : Seg) (hg : s.seg g = some sg)
    (hr : s.readable (chunkMember sg (s.place sg o).1 (s.place sg o).2.1) = true)
    (hs : s.slow (chunkMember sg (s.place sg o).1 (s.place sg o).2.1) = false) :
    ∃ x, tget (s.readMember u g o).str.reads s.str.nextRead = some x ∧ x.use = u ∧ x.seg = g ∧ x.off = o ∧ x.recon = false := by
  unfold State.readMember State.rowStart
  rw [hg]
  dsimp only
  rw [readsTick_place, readable_congr (readsTick_regs s), hr, readsTick_nextRead]
  rw [Bool.not_true, if_neg Bool.false_ne_true, slow_congr (s := s), hs]
  · rw [if_neg Bool.false_ne_true, readChunk_reads, tget_tmod_same, tget_tput_same]
    exact ⟨_, rfl, rfl, rfl, rfl, rfl⟩
  · rw [readChunk_regs]
    exact readsTick_regs s

/-! ## Metadata records -/

/-- What a metadata record writes. -/
def metaW : Writes := { parts := [.evt, .ctr, .jnl, .pair, .outbox], fields := [JNL_FIRN_SEQ_next_seq] }

theorem metaW_pairSend (s : State) (m : PairMsg) : Within metaW s (s.pairSend m) := (pairSend_pairW s m).widen (by decide) (by decide) (by decide)

theorem pairSend_keyed (s : State) (m : PairMsg) : (s.pairSend m).pair.keyed = s.pair.keyed := by
  unfold State.pairSend
  split <;> simp

theorem pairSend_active (s : State) (m : PairMsg) : (s.pairSend m).pair.active = s.pair.active := by
  unfold State.pairSend
  split <;> simp

theorem within_metaAppend (s : State) (o : Nat) (b : FirnBody) : Within metaW s (s.metaAppend o b) := by
  refine within_ite _ (fun _ => within_ite _ (fun _ => ?_) fun _ => within_jnl s _ rfl) fun _ => within_ite _ (fun _ => ?_) fun _ => ?_
  · exact (within_jnl s _ rfl).trans (metaW_pairSend _ _)
  · extract_lets _ parked
    have h : Within metaW s parked := within_jnl s _ rfl
    exact h.trans (within_ite _ (fun _ => ((within_jnl _ _ rfl).trans (within_raise _ _ _ _ _ rfl rfl)).trans (within_enter _ _ rfl)) fun _ => .refl _ _)
  · unfold State.firnPushWith
    extract_lets q r numbered _ placed mirrored entered
    have h1 : Within metaW s numbered := (within_set s JNL_FIRN_SEQ_next_seq _ _ rfl).trans (within_bump _ _ _ rfl)
    have h2 : Within metaW numbered placed := within_jnl _ _ rfl
    have h3 : Within metaW placed mirrored := within_ite _ (fun _ => metaW_pairSend _ _) fun _ => .refl _ _
    have h4 : Within metaW mirrored entered := .refl _ _
    refine (((h1.trans h2).trans h3).trans h4).trans (within_ite _ (fun _ => .refl _ _) fun _ => ?_)
    unfold State.firnSettle
    split
    · exact within_pair _ _ rfl
    · exact .refl _ _

theorem firnSettle_keyPaired (s : State) (r : FirnRec) : (s.firnSettle r).keyPaired = s.keyPaired := by
  unfold State.firnSettle
  split <;> rfl

theorem pairSend_keyPaired (s : State) (m : PairMsg) : (s.pairSend m).keyPaired = s.keyPaired := by
  simp only [State.keyPaired, pairSend_active, pairSend_keyed]

/-- What both branches leave, the choice leaves. -/
theorem ite_keep {β : Type} (g : State → β) {v : β} {a b : State} (c : Prop) [Decidable c] (h : c → g a = v) (k : ¬c → g b = v) :
    g (if c then a else b) = v := by
  split
  · exact h ‹_›
  · exact k ‹_›

theorem metaAppend_keyPaired (s : State) (o : Nat) (b : FirnBody) : (s.metaAppend o b).keyPaired = s.keyPaired := by
  refine ite_keep State.keyPaired _ (fun _ => ite_keep State.keyPaired _ (fun _ => ?_) fun _ => rfl) fun _ =>
    ite_keep State.keyPaired _ (fun _ => ?_) fun _ => ?_
  · exact pairSend_keyPaired _ _
  · refine ite_keep State.keyPaired _ (fun _ => ?_) fun _ => rfl
    exact keyPaired_congr ((enter_pair _ _).trans (raise_pair _ _ _ _ _))
  · unfold State.firnPushWith
    extract_lets q r numbered _ placed mirrored entered
    have h1 : numbered.keyPaired = s.keyPaired := keyPaired_congr ((bump_pair _ _ _).trans (set_pair _ _ _ _))
    have h3 : mirrored.keyPaired = placed.keyPaired := ite_keep State.keyPaired _ (fun _ => pairSend_keyPaired _ _) fun _ => rfl
    exact ite_keep State.keyPaired _ (fun _ => h3.trans h1) fun _ => (firnSettle_keyPaired _ _).trans (h3.trans h1)

/-! ## Rotations -/

theorem underGen_congr {s t : State} (h : t.str = s.str) (i : Nat) (k : Bool) : t.underGen i k = s.underGen i k := by
  simp only [State.underGen, h]

/-- A rotation with blocks left under the old generation is not done. -/
theorem rotationDone_waits (s : State) (i : Nat) (n : Ns) (h : s.ns i = some n) (hu : (s.underGen i !n.kgen).isEmpty = false) :
    s.rotationDone i = s := by
  unfold State.rotationDone
  rw [h]
  dsimp only
  split
  · rfl
  · rw [if_pos (by simp [hu])]

/-- ROTATE_NS that passes its checks, blocks being left under the old key. -/
theorem rotateNs_begins (s : State) (m i : Nat) (zap : Bool) (n : Ns) (hk : KeyFree s) (hf : s.rotateFails m i = none) (hn : s.ns i = some n)
    (hu : (s.underGen i n.kgen).isEmpty = false) : (s.rotateNs m i zap).get KEY_STATUS_result = 0 ∧
    (s.rotateNs m i zap).ns i = some (rotated n m zap (s.slotCheck m)) := by
  let r := rotated n m zap (s.slotCheck m)
  let a := State.rebind { s with nsm := { s.nsm with ns := tput s.nsm.ns i r } } i
  let b := a.metaAppend 2 (.nsMeta (.keyGen i r.kgen m r.oldSlot zap r.check r.oldCheck))
  have wb : Within metaW a b := within_metaAppend _ _ _
  have wk : Within { parts := [], fields := [KEY_DATA_data] } b (b.keyBuffer []) := keyBuffer_within b []
  have hp : (b.keyBuffer []).keyPaired = false := by
    rw [keyPaired_congr (wk.pair rfl), metaAppend_keyPaired]
    exact hk.alone
  let c := (b.keyBuffer []).keyEnd 0
  have hc : Within { parts := [], fields := [KEY_STATUS_busy, KEY_STATUS_result, KEY_STATUS_done_count] } (b.keyBuffer []) c := keyEnd_within _ 0
  have hnsm : c.nsm = a.nsm := by rw [hc.nsm rfl, wk.nsm rfl, wb.nsm rfl]
  have hstr : c.str = s.str := by rw [hc.str rfl, wk.str rfl, wb.str rfl]; rfl
  have hns : c.ns i = some r := by
    rw [State.ns, hnsm]
    exact tget_tput_same _ _ _
  have e : s.rotateNs m i zap = c := by
    have hw : c.rotationDone i = c := rotationDone_waits c i r hns (by
      rw [underGen_congr hstr]
      show (s.underGen i (!(!n.kgen))).isEmpty = false
      rw [Bool.not_not, hu])
    rw [State.rotateNs, keyRun_free s _ hk, hf, hn]
    dsimp only
    rw [← hw]
    exact congrArg (fun u : State => u.rotationDone i) (keyShare_alone _ _ _ hp)
  rw [e]
  exact ⟨keyEnd_result _ 0 (by decide), hns⟩

theorem rotateFails_small (s : State) (m i r : Nat) (h : s.rotateFails m i = some r) : r < 256 := by
  unfold State.rotateFails at h
  split at h
  · cases h; decide
  · split at h
    · cases h; decide
    · split at h
      · cases h; decide
      · split at h
        · cases h; decide
        · split at h
          · cases h; decide
          · cases h

theorem rotateNs_fails (s : State) (m i r : Nat) (zap : Bool) (hk : KeyFree s) (hf : s.rotateFails m i = some r) :
    s.rotateNs m i zap = (s.keyBuffer []).keyEnd r := by
  rw [State.rotateNs, keyRun_free s _ hk, hf]

/-! ## Endpoint entries -/

/-- A slot that holds a key is not released. -/
theorem epRelease_keeps (s : State) (o n : Nat) (k : KeySlot) (h : tget s.key.slots n = some k) (hl : k.state = .loaded) :
    tget (s.epRelease o).key.slots n = some k ∧ (s.epRelease o).key.prev = s.key.prev := by
  unfold State.epRelease
  split
  · next x hx =>
    split
    · next c =>
      refine ⟨(tget_tdel_other _ fun e => ?_).trans h, rfl⟩
      subst e
      rw [h] at hx
      cases hx
      simp [hl] at c
    · exact ⟨h, rfl⟩
  · exact ⟨h, rfl⟩

theorem epRelease_regs (s : State) (o : Nat) : (s.epRelease o).regs = s.regs := by
  unfold State.epRelease
  split
  · split <;> rfl
  · rfl

theorem epKindCheck_within (s : State) (e : Nat) : Within { parts := [.evt, .ctr] } s (s.epKindCheck e) :=
  within_ite _ (fun _ => .refl _ _) fun _ => within_raise _ _ _ _ _ rfl rfl

/-! ## The generator's failure -/

/-- The block fails while no command has cipher work left. -/
theorem keyFail_idle (s : State) (e : EvType) (h : ∀ c ∈ s.qpe.cmds, s.cipherLeft c.1 c.2 = false) :
    s.keyFail e = { ((s.set KEY_STATUS_state 0 2).raise e 0 0) with
      cip := ((s.set KEY_STATUS_state 0 2).raise e 0 0).cip.keepWaiting fun _ => false } := by
  unfold State.keyFail
  dsimp only
  rw [List.filter_eq_nil_iff.mpr]
  · rfl
  · intro c hc
    have hq := h c (by simpa using hc)
    simp only [Bool.not_eq_true]
    rw [← hq]
    simp only [State.cipherLeft, raise_jnl, set_jnl]
    rfl

/-! ## The partner's key frames -/

theorem keyRx_key (s : State) (h : PairHdr) (f : KeyFrame) (hs : InSequence s h) :
    (s.pairRx h (.key f)).key = ((pairReady s h).keyFrame f).key :=
  pairRx_part (·.key) s h _ hs fun u => (within_ackDue u).key rfl

theorem ackDue_keyed (s : State) : (ackDue s).pair.keyed = s.pair.keyed := by
  obtain ⟨n, h⟩ := ackDue_pair s
  rw [h]

theorem keyRx_keyed (s : State) (h : PairHdr) (f : KeyFrame) (hs : InSequence s h) :
    (s.pairRx h (.key f)).pair.keyed = ((pairReady s h).keyFrame f).pair.keyed :=
  pairRx_part (·.pair.keyed) s h _ hs ackDue_keyed

theorem pairReady_key (s : State) (h : PairHdr) : (pairReady s h).key = s.key := (within_pairReady s h).key rfl

theorem pairReady_rxNext (s : State) (h : PairHdr) : (pairReady s h).pair.rxNext = (h.seq + 1) % 2 ^ 32 := by
  obtain ⟨_, _, _, _, e⟩ := pairReady_pair s h
  rw [e]

theorem pairReady_keyed (s : State) (h : PairHdr) : (pairReady s h).pair.keyed = s.pair.keyed := by
  obtain ⟨_, _, _, _, e⟩ := pairReady_pair s h
  rw [e]

@[simp] theorem pairSend_key (s : State) (m : PairMsg) : (s.pairSend m).key = s.key := (pairSend_pairW s m).key rfl

theorem pairSend_rxNext (s : State) (m : PairMsg) : (s.pairSend m).pair.rxNext = s.pair.rxNext := by
  unfold State.pairSend
  split <;> simp

theorem putWrapped_pair (s : State) (n : Nat) (k : KeySlot) (w : List Byte) : (s.putWrapped n k w).pair = s.pair := by
  unfold State.putWrapped
  split
  · exact putKey_pair _ _ _ _
  · rfl

/-- A key sent by the partner fills its slot where it unwraps. -/
theorem putWrapped_slots (s : State) (n : Nat) (k : KeySlot) (w : List Byte) (p : BitVec 256) (hp : s.key.pairKey = some p) :
    match keyUnwrap p w with
    | none => (s.putWrapped n k w).key.slots = s.key.slots
    | some l => ∃ m, (s.putWrapped n k w).key.slots = tput s.key.slots n { k with key := keyOfBytes l ^^^ m, mask := m } := by
  unfold State.putWrapped
  rw [hp]
  dsimp only [Option.bind_some]
  cases keyUnwrap p w with
  | none => rfl
  | some l => exact putKey_slots s n k (keyOfBytes l)

/-- Settles O25: each command is one change of the namespaces, the reads, the entries or the keys. -/
theorem rotationsAndEntries : Obligations.RotationsAndEntries := by
  unfold Obligations.RotationsAndEntries
  refine ⟨fun s m i zap n hk hf hn hu => ⟨_, rfl, ?_⟩, fun s m i r zap hk hf => ⟨_, rfl, ?_⟩, fun s i l g o n sg hn ho hw hx hg hr hs => ⟨_, rfl, ?_⟩,
    fun s e eid len n k he hl hk hg hs => ⟨_, rfl, ?_⟩, fun s e => ⟨_, rfl, tget_tdel_same _ _, fun k hk => tget_tdel_other _ (Ne.symm hk), rfl⟩,
    fun s h => ⟨_, rfl, ?_⟩, fun s l again h hn ha hc => ⟨_, rfl, ?_⟩, fun s l again h hn ha => ⟨_, rfl, ?_⟩,
    fun s h n k w p hs hn hp => ⟨_, rfl, ?_⟩, fun s h pub sig cert ok hs => ⟨_, rfl, ?_⟩⟩
  · obtain ⟨h1, h2⟩ := rotateNs_begins s m i zap n hk hf hn hu
    refine ⟨?_, h2⟩
    rw [get_only_in _ _ _ _ _ rfl, h1]
  · have e := rotateNs_fails s m i r zap hk hf
    obtain ⟨h1, h2, _⟩ := keyEnd_keyBuffer s [] r (rotateFails_small s m i r hf)
    refine ⟨?_, ?_, ?_⟩
    · rw [get_only_in _ _ _ _ _ rfl, e, h2]
    · show (s.rotateNs m i zap).nsm = _
      rw [e]
      exact ((keyEnd_within _ r).nsm rfl).trans ((keyBuffer_within s []).nsm rfl)
    · show (s.rotateNs m i zap).key = _
      rw [e, h1]
  · have e : s.rotationSweep i = s.readMember (.sweep i l) g o := by
      rw [State.rotationSweep, hn]
      dsimp only
      rw [if_neg (by simp [hw, Option.isSome_iff_ne_none.mp ho]), hx]
    show ∃ x, tget (s.rotationSweep i).str.reads s.str.nextRead = some x ∧ _
    rw [e]
    exact readMember_reads s _ g o sg hg hr hs
  · let a := ((s.set KEY_EP_PROT_eid e eid).set KEY_EP_PROT_prefix_len e len).set KEY_EP_PROT_slot e n
    let b : State := { a with key := { a.key with prev := tput a.key.prev e (s.get KEY_EP_PROT_slot e, a.dtc) } }
    obtain ⟨h1, h2⟩ := epRelease_keeps b (s.get KEY_EP_PROT_slot e) n k hk hs
    have hw : Within { parts := [.evt, .ctr] } (b.epRelease (s.get KEY_EP_PROT_slot e)) (s.epWrite e eid len n) := by
      rw [State.epWrite, if_neg (by omega)]
      exact within_ite _ (fun _ => .refl _ _) fun _ => epKindCheck_within _ _
    have hreg : ∀ f j, (s.epWrite e eid len n).get f j = a.get f j := fun f j => by
      rw [hw.regs f j rfl, get_congr (epRelease_regs b _)]
      rfl
    refine ⟨?_, ?_, ?_, ?_, ?_⟩
    · rw [get_only_in _ _ _ _ _ rfl, hreg, get_set_field _ _ _ _ (by decide), get_set_field _ _ _ _ (by decide), get_set_same]
    · rw [get_only_in _ _ _ _ _ rfl, hreg, get_set_field _ _ _ _ (by decide), get_set_same]
    · rw [get_only_in _ _ _ _ _ rfl, hreg, get_set_same, Nat.mod_eq_of_lt hl]
    · show tget (s.epWrite e eid len n).key.prev e = _
      rw [hw.key rfl, h2]
      exact tget_tput_same _ _ _
    · show tget (s.epWrite e eid len n).key.slots n = _
      rw [hw.key rfl, h1]
  · show s.drbgReseed.key = _
    rw [State.drbgReseed, if_neg h]
    dsimp only
    split <;> rfl
  · have e : s.noiseFail ⟨l, again⟩ = s.keyFail EV_KEY_DRBG_FAIL := by
      rw [State.noiseFail, if_neg (by simp only [h, hn]; decide), if_pos ha]
    rw [keyFail_idle s _ hc] at e
    refine ⟨?_, ?_, ?_, ?_⟩
    · rw [get_only_in _ _ _ _ _ rfl, e]
      show ((s.set KEY_STATUS_state 0 2).raise EV_KEY_DRBG_FAIL 0 0).get KEY_STATUS_state = 2
      rw [get_raise, get_set_same]
      rfl
    · refine Reports.congr (t := (s.set KEY_STATUS_state 0 2).raise EV_KEY_DRBG_FAIL 0 0) (reports_raise _ _ _ _ rfl rfl fun f i hf => ?_) ?_
      · exact get_set_other s _ fun k => absurd (congrArg RKey.reg k) fun k' => by rw [show f.reg = KEY_STATUS_state.reg from k'.symm] at hf; revert hf; decide
      · show (s.noiseFail ⟨l, again⟩).evt = _
        rw [e]
    · show (s.noiseFail ⟨l, again⟩).key = _
      rw [e]
      simp
    · show (s.noiseFail ⟨l, again⟩).qpe = _
      rw [e]
      simp
  · have e : s.noiseFail ⟨l, again⟩ = { s.reseed (noiseBytes again) with
        key := { (s.reseed (noiseBytes again)).key with noiseBad := false, retried := true } } := by
      rw [State.noiseFail, if_neg (by simp only [h, hn]; decide), if_neg (by simp [ha])]
    refine ⟨?_, ?_⟩
    · rw [get_only_in _ _ _ _ _ rfl, e]
      rfl
    · show (s.noiseFail ⟨l, again⟩).key = _
      rw [e]
      rfl
  · show (s.pairRx h _).pair.rxNext = _ ∧ (∀ m, m ≠ n → tget (s.pairRx h _).key.slots m = _) ∧ _
    have hkey := pairReady_key s h
    have hb : tget (pairReady s h).key.slots n = none := by rw [hkey, hn]
    have e : (pairReady s h).keyFrame (.load n k w) = ((pairReady s h).putWrapped n { k with bind := .none } w).pairSend (.key (.applied n)) := by
      rw [State.keyFrame, hb]
    have d := putWrapped_slots (pairReady s h) n { k with bind := .none } w p (by rw [hkey, hp])
    have ht : ∀ m, tget (s.pairRx h (.key (.load n k w))).key.slots m = tget ((pairReady s h).putWrapped n { k with bind := .none } w).key.slots m :=
      fun m => by rw [keyRx_key s h _ hs, e, pairSend_key]
    refine ⟨?_, ?_⟩
    · rw [pairRx_part (·.pair.rxNext) s h _ hs ackDue_rxNext]
      show ((pairReady s h).keyFrame (.load n k w)).pair.rxNext = _
      rw [e, pairSend_rxNext, putWrapped_pair, pairReady_rxNext]
    · show (∀ m, m ≠ n → tget (s.pairRx h (.key (.load n k w))).key.slots m = _) ∧
        match keyUnwrap p w with
        | none => tget (s.pairRx h (.key (.load n k w))).key.slots n = none
        | some l => ∃ a m, tget (s.pairRx h (.key (.load n k w))).key.slots n = some { k with bind := .none, key := a, mask := m } ∧ a ^^^ m = keyOfBytes l
      simp only [ht]
      cases hu : keyUnwrap p w with
      | none =>
        rw [hu] at d
        dsimp only at d ⊢
        rw [d, hkey]
        exact ⟨fun _ _ => rfl, hn⟩
      | some l =>
        rw [hu] at d
        obtain ⟨m, d⟩ := d
        dsimp only
        rw [d, hkey]
        exact ⟨fun j hj => tget_tput_other _ _ (Ne.symm hj), _, m, tget_tput_same _ _ _, by rw [BitVec.xor_assoc, BitVec.xor_self, BitVec.xor_zero]⟩
  · show if _ then (s.pairRx h _).pair.keyed = true ∧ (s.pairRx h _).key.pairKey = _ else (s.pairRx h _).key = _ ∧ (s.pairRx h _).pair.keyed = _
    rw [keyRx_keyed s h _ hs, keyRx_key s h _ hs]
    split
    · next hok =>
      rw [State.keyFrame, if_neg (by simp [hok])]
      dsimp only
      rw [pairSend_keyed, pairSend_key]
      exact ⟨rfl, by rw [pairReady_key]⟩
    · next hok =>
      rw [State.keyFrame, if_pos (by rw [Bool.not_eq_true] at hok; rw [hok]; rfl)]
      exact ⟨pairReady_key s h, pairReady_keyed s h⟩

end Sys2Proof.Machine
end

section
/-! PROOFS. Slices created, resized, destroyed, reset, paused and resumed (chapter 15). -/

namespace Sys2Proof.Machine

open F

/-- Fields of different registers lie in different places. -/
theorem place_of_reg {f g : Fld} (h : f.reg ≠ g.reg) : (g.reg, g.lo) ≠ (f.reg, f.lo) := fun e => h (congrArg Prod.fst e).symm

/-! ## What a deletion may write -/

/-- What the deletion of an owner's queue pairs writes. -/
def deleteW : Writes := { parts := [.ctr, .qpe, .nsm, .pair, .outbox], fields := qpeLive }

theorem deleteW_complete (s : State) (c : Nat) (st : Status) (a b : Word32) : Within deleteW s (s.complete c st a b) :=
  (complete_completeW s c st a b).widen (by decide) (by decide) (by decide)

theorem deleteW_breakChain (s : State) (w target : Nat) : Within deleteW s (s.breakChain w target) := by
  unfold State.breakChain
  split
  · exact .refl _ _
  · exact ((deleteW_complete s _ _ _ _).trans (within_each _ _ _ fun s c => deleteW_complete s c _ _ _)).trans (within_qpe _ _ rfl)

theorem deleteW_breakWaitsOn (s : State) (q : Nat) : Within deleteW s (s.breakWaitsOn q) :=
  within_each _ _ _ fun s w => deleteW_breakChain s w q

theorem deleteW_abortUnstarted (s : State) (q : Nat) : Within deleteW s (s.abortUnstarted q) := by
  unfold State.abortUnstarted
  extract_lets u
  have h : Within deleteW s u := by
    unfold u
    split
    · refine within_ite _ (fun _ => within_ite _ (fun _ => .refl _ _) fun _ => ?_) fun _ => .refl _ _
      exact (within_nsm s _ rfl).trans (within_each _ _ _ fun s c => deleteW_complete s c _ _ _)
    · exact .refl _ _
  exact h.trans (within_each _ _ _ fun s c => deleteW_complete s c _ _ _)

theorem deleteW_beginDelete (s : State) (q : Nat) : Within deleteW s (s.beginDelete q) := by
  unfold State.beginDelete
  split
  · exact .refl _ _
  · refine within_ite _ (fun _ => .refl _ _) fun _ => ?_
    exact ((within_qpe s _ rfl).trans (deleteW_abortUnstarted _ q)).trans (deleteW_breakWaitsOn _ q)

theorem deleteW_deleteAllOf (s : State) (o : QOwner) : Within deleteW s (s.deleteAllOf o) :=
  within_each _ _ _ fun s q => deleteW_beginDelete s q

/-! ## Resets -/

/-- A drain leaves the slice RESETTING since now. -/
theorem resetting_sliceDrain (s : State) (n : Nat) (cmd : Bool) : Resetting (s.sliceDrain n cmd) n ⟨true, false, s.dtc, cmd⟩ := by
  have h : (s.deleteAllOf (.slice n)).dtc = s.dtc := (deleteW_deleteAllOf s _).dtc rfl
  refine ⟨get_set_same _ _ _ _, ?_⟩
  show tget (tput (s.deleteAllOf (.slice n)).slc.resets n ⟨true, false, (s.deleteAllOf (.slice n)).dtc, cmd⟩) n = _
  rw [tget_tput_same, h]

theorem sliceDrain_busy (s : State) (n : Nat) (cmd : Bool) : (s.sliceDrain n cmd).get SLC_CMD_busy = s.get SLC_CMD_busy := by
  have h := (deleteW_deleteAllOf s (.slice n)).regs SLC_CMD_busy 0 rfl
  rw [← h]
  exact get_set_field _ n 2 0 (by decide)

theorem sliceSquash_busy (s : State) (n : Nat) (toFree cmd : Bool) : (s.sliceSquash n toFree cmd).get SLC_CMD_busy = s.get SLC_CMD_busy := by
  have h := (within_squashOwner s (.slice n)).regs SLC_CMD_busy 0 rfl
  rw [← h]
  exact get_set_field _ n 2 0 (by decide)

/-- A command that squashes its slice. -/
theorem squashed (s : State) (n : Nat) (toFree : Bool) (w : Writes) (hs : w.part .slc = true) (hq : w.part .qpe = true)
    (hf : w.field (SLC_STATUS_state.key n) = true) (hb : w.field (SLC_CMD_busy.key 0) = true) :
    let t := s.only w ((s.set SLC_CMD_busy 0 1).sliceSquash n toFree true)
    t.get SLC_STATUS_state n = 2 ∧ t.get SLC_CMD_busy = 1 ∧ t.qpsOf (.slice n) = [] ∧ tget t.slc.resets n = some ⟨false, toFree, s.dtc, true⟩ := by
  obtain ⟨h1, h2⟩ := resetting_sliceSquash (s.set SLC_CMD_busy 0 1) n toFree true
  have h3 := qpsOf_sliceSquash (s.set SLC_CMD_busy 0 1) n toFree true
  refine ⟨?_, ?_, ?_, ?_⟩
  · rw [get_only_in _ _ _ _ _ hf, h1]
  · rw [get_only_in _ _ _ _ _ hb, sliceSquash_busy, get_set_same]
    rfl
  · rw [State.qpsOf, only_qpe, if_pos hq]
    exact h3
  · rw [only_slc, if_pos hs, h2, set_dtc]

/-! ## Reset-done -/

theorem fldOf_key (f : Fld) (i j : Nat) : fldOf (f.key i) = fldOf (f.key j) := rfl

/-- A field outside the registers that a reset clears keeps its value. -/
theorem get_regReset_out (s u : State) (kind : Nat) (p : RKey → Bool) (f : Fld) (i : Nat) (hu : u.regs = regReset s.regs kind p)
    (h : p (f.key i) = false) : u.get f i = s.get f i := by
  rw [State.get, hu, regGet, tget_regReset, h, if_pos (by rw [Bool.false_and]; rfl)]
  rfl

/-- A slice's registers of the controller group at reset-done. -/
def groupKey (n : Nat) (k : RKey) : Bool := decide (0x1680000 ≤ k.reg) && decide (k.reg < 0x1700000) && k.idx = n

/-- A slice's configuration and state at reset-done toward FREE. -/
def configKey (n : Nat) (k : RKey) : Bool := (k.reg = SLC_CFG_max_qp.reg || k.reg = SLC_STATUS_state.reg) && k.idx = n

/-- The slice's controller group at its reset values. -/
def groupReset (s : State) (n : Nat) : State :=
  { s with regs := regReset s.regs 8 (groupKey n), slc := { s.slc with resets := tdel s.slc.resets n } }

/-- The slice in the state that its reset leads to. -/
def stateReset (s : State) (n : Nat) (toFree : Bool) : State :=
  if toFree then State.set { s with
      regs := regReset s.regs 4 (configKey n), slc := { s.slc with stopped := s.slc.stopped.filter (· != n) } } SLC_STATUS_state n 0
  else s.set SLC_STATUS_state n 1

theorem sliceResetDone_quiet (s : State) (n : Nat) (r : SliceReset) (hr : tget s.slc.resets n = some r) (hq : s.ownerQuiet (.slice n) = true) :
    s.sliceResetDone n =
      (if r.cmd then (stateReset (groupReset s n) n r.toFree).slcEnd 0 else stateReset (groupReset s n) n r.toFree).raise EV_SLC_RESET_DONE 9 n := by
  rw [State.sliceResetDone, hr]
  dsimp only
  rw [if_neg (by simp [hq])]
  rfl

theorem groupReset_rdy (s : State) (n : Nat) : (groupReset s n).get SLC_CTRL_STATUS_rdy n = 0 := by
  have hf : fldOf (SLC_CTRL_STATUS_rdy.key n) = some SLC_CTRL_STATUS_rdy := (fldOf_key _ n 0).trans (by decide +kernel)
  have hk : groupKey n (SLC_CTRL_STATUS_rdy.key n) = true := by
    simp [groupKey, Fld.key, SLC_CTRL_STATUS_rdy]
  rw [State.get, regGet]
  show (tget (regReset s.regs 8 (groupKey n)) _).getD (SLC_CTRL_STATUS_rdy.resetAt n) = 0
  have hb : SLC_CTRL_STATUS_rdy.resetBy n 8 = true := by
    rw [Fld.resetBy, if_neg (by decide)]
    decide
  rw [tget_regReset, hf, hk, if_neg]
  · rfl
  · show ¬ (!(true && SLC_CTRL_STATUS_rdy.resetBy n 8)) = true
    rw [hb]
    decide

theorem get_groupReset_low (s : State) (n : Nat) (f : Fld) (i : Nat) (h : f.reg < 0x1680000) : (groupReset s n).get f i = s.get f i := by
  refine get_regReset_out s _ 8 (groupKey n) f i rfl ?_
  have : ¬ 0x1680000 ≤ f.reg := by omega
  simp [groupKey, Fld.key, this]

theorem stateReset_state (s : State) (n : Nat) (b : Bool) : (stateReset s n b).get SLC_STATUS_state n = if b then 0 else 1 := by
  unfold stateReset
  split
  · rw [get_set_same]
    rfl
  · rw [get_set_same]
    rfl

/-- Registers other than the slice's configuration and state. -/
theorem get_stateReset_other (s : State) (n : Nat) (b : Bool) (f : Fld) (i : Nat) (h1 : f.reg ≠ SLC_CFG_max_qp.reg) (h2 : f.reg ≠ SLC_STATUS_state.reg) :
    (stateReset s n b).get f i = s.get f i := by
  unfold stateReset
  split
  · rw [get_set_field _ _ _ _ (place_of_reg h2)]
    refine get_regReset_out s _ 4 (configKey n) f i rfl ?_
    simp [configKey, Fld.key, h1, h2]
  · rw [get_set_field _ _ _ _ (place_of_reg h2)]

theorem stateReset_resets (s : State) (n : Nat) (b : Bool) : (stateReset s n b).slc.resets = s.slc.resets := by
  unfold stateReset
  split <;> rfl

theorem stateReset_evt (s : State) (n : Nat) (b : Bool) : (stateReset s n b).evt = s.evt ∧ (stateReset s n b).dtc = s.dtc := by
  unfold stateReset
  split <;> exact ⟨rfl, rfl⟩

/-! ## Configuration -/

/-- What a configuration set from an image reads. -/
theorem slcConfig_fields (s : State) (n : Nat) (c : SlcImage) (hp : c.pasid < 2 ^ 20) (hm : c.maxQp < 512) (hb : c.base < 2048) (hc : c.count < 512) :
    (s.slcConfig n c).get SLC_CFG_max_qp n = c.maxQp ∧ (s.slcConfig n c).get SLC_CFG_pasid n = c.pasid ∧
    (s.slcConfig n c).get SLC_CFG_vec_base n = c.base ∧ (s.slcConfig n c).get SLC_CFG_vec_count n = c.count ∧
    (s.slcConfig n c).get SLC_CFG_pasid_vld n = bit c.vld := by
  unfold State.slcConfig
  refine ⟨?_, ?_, ?_, ?_, ?_⟩
  · rw [get_set_field _ _ _ _ (by decide), get_set_field _ _ _ _ (by decide), get_set_same]
    exact Nat.mod_eq_of_lt hm
  · rw [get_set_field _ _ _ _ (by decide), get_set_field _ _ _ _ (by decide), get_set_field _ _ _ _ (by decide), get_set_same]
    exact Nat.mod_eq_of_lt hp
  · rw [get_set_field _ _ _ _ (by decide), get_set_same]
    exact Nat.mod_eq_of_lt hb
  · rw [get_set_same]
    exact Nat.mod_eq_of_lt hc
  · rw [get_set_field _ _ _ _ (by decide), get_set_field _ _ _ _ (by decide), get_set_field _ _ _ _ (by decide),
      get_set_field _ _ _ _ (by decide), get_set_same]
    cases c.vld <;> rfl

theorem slcImage_fits (s : State) : s.slcImage.pasid < 2 ^ 20 ∧ s.slcImage.maxQp < 512 ∧ s.slcImage.base < 2048 ∧ s.slcImage.count < 512 :=
  ⟨Nat.mod_lt _ (by decide), Nat.mod_lt _ (by decide), Nat.mod_lt _ (by decide), Nat.mod_lt _ (by decide)⟩

/-- A command's end leaves every register but its own. -/
theorem get_slcEnd_field (s : State) (r : Nat) (f : Fld) (i : Nat) (h : f.reg ≠ SLC_CMD_busy.reg) : (s.slcEnd r).get f i = s.get f i := by
  rw [State.slcEnd, get_set_field _ _ _ _ (place_of_reg (g := SLC_CMD_result) h), get_set_field _ _ _ _ (place_of_reg h)]

theorem get_slcEnd_busy (s : State) (r : Nat) : (s.slcEnd r).get SLC_CMD_busy = 0 := by
  rw [State.slcEnd, get_set_field _ _ _ _ (by decide), get_set_same]
  rfl

/-- A slice created. -/
theorem slcCreate_good (s : State) (n : Nat) (p : Bool) (h : s.flag SLC_CMD_busy = false) (he : s.slc.e1 ≠ some n)
    (hf : s.get SLC_STATUS_state n = 0) (hb : s.slcBad n s.slcImage = false) : ∃ x, s.slcCreate n p =
      ({ (((s.slcConfig n s.slcImage).set SLC_STATUS_state n 1).set SLC_STATUS_paused n (bit p)) with slc := x } : State).slcEnd 0 := by
  rw [State.slcCreate, slcRun_idle _ h, if_neg (by simp [he, hf]), if_neg (by simp [hb])]
  exact ⟨_, rfl⟩

theorem slcBad_of (s : State) (n : Nat) (c : SlcImage)
    (h : c.maxQp = 0 ∨ s.hif.idt.msixE0 < c.base + c.count ∨ (c.vld = true ∧ s.hif.idt.pasidEn = false)) : s.slcBad n c = true := by
  unfold State.slcBad
  obtain h | h | ⟨h, k⟩ := h
  · simp [h]
  · simp [h]
  · simp [h, k]

/-- A slice resized that keeps its PASID and the vectors in use, none of them pending. -/
theorem slcResize_good (s : State) (n : Nat) (h : s.flag SLC_CMD_busy = false) (hs : s.get SLC_STATUS_state n = 1) (he : s.slc.e1 ≠ some n)
    (hb : s.slcBad n s.slcImage = false) (hv : s.slcImage.vld = s.flag SLC_CFG_pasid_vld n) (hp : s.slcImage.pasid = s.get SLC_CFG_pasid n)
    (hc : s.sliceIvs n ≤ s.slcImage.count) (hq : s.hif.pendVec = []) :
    ∃ x, s.slcResize n = (State.slcConfig { s with hif := x } n s.slcImage).slcEnd 0 := by
  rw [State.slcResize, slcRun_idle _ h]
  dsimp only
  rw [if_neg (by simp [hs]), if_neg he, if_neg (by simp [hb]), if_neg (by simp [hv, hp]), if_neg (by omega)]
  simp only [hq, List.filter_nil, List.map_nil, State.each, List.foldl_nil]
  exact ⟨_, rfl⟩

theorem slcResize_short (s : State) (n : Nat) (h : s.flag SLC_CMD_busy = false) (hs : s.get SLC_STATUS_state n = 1) (he : s.slc.e1 ≠ some n)
    (hb : s.slcBad n s.slcImage = false) (hv : s.slcImage.vld = s.flag SLC_CFG_pasid_vld n) (hp : s.slcImage.pasid = s.get SLC_CFG_pasid n)
    (hc : s.slcImage.count < s.sliceIvs n) : s.slcResize n = s.slcEnd 3 := by
  rw [State.slcResize, slcRun_idle _ h]
  dsimp only
  rw [if_neg (by simp [hs]), if_neg he, if_neg (by simp [hb]), if_neg (by simp [hv, hp]), if_pos hc]

/-- A configuration field as a resize leaves it. -/
theorem get_slcResize_end (s : State) (n : Nat) (x : Hif) (f : Fld) (h : f.reg ≠ SLC_CMD_busy.reg) :
    ((State.slcConfig { s with hif := x } n s.slcImage).slcEnd 0).get f n = (s.slcConfig n s.slcImage).get f n := by
  rw [get_slcEnd_field _ _ _ _ h]
  rfl

theorem get_slcConfig_other (s : State) (n : Nat) (c : SlcImage) (f : Fld) (i : Nat) (h : f.reg ≠ SLC_CFG_max_qp.reg) :
    (s.slcConfig n c).get f i = s.get f i := by
  have k : ∀ g : Fld, g.reg = SLC_CFG_max_qp.reg → (g.reg, g.lo) ≠ (f.reg, f.lo) := fun g hg => place_of_reg (hg ▸ h)
  unfold State.slcConfig
  rw [get_set_field _ _ _ _ (k SLC_CFG_vec_count rfl), get_set_field _ _ _ _ (k SLC_CFG_vec_base rfl), get_set_field _ _ _ _ (k SLC_CFG_max_qp rfl),
    get_set_field _ _ _ _ (k SLC_CFG_pasid rfl), get_set_field _ _ _ _ (k SLC_CFG_pasid_vld rfl)]

/-- Settles O44: each command is one change of the slice, its reset or its pause. -/
theorem sliceLife : Obligations.SliceLife := by
  unfold Obligations.SliceLife
  refine ⟨fun s n p h he hf hb => ⟨_, rfl, ?_⟩, fun s n p h he hf hb => ⟨_, rfl, ?_⟩, fun s n p h hc => ⟨_, rfl, ?_⟩,
    fun s n h hs he hb hv hp hc hq => ⟨_, rfl, ?_⟩, fun s n h hs he hb hv hp hc => ⟨_, rfl, ?_⟩, fun s n h he hs => ⟨_, rfl, ?_⟩,
    fun s n h hs => ⟨_, rfl, ?_⟩, fun s n h hs hr => ⟨_, rfl, ?_⟩, fun s n r hr hd => ⟨_, rfl, ?_⟩, fun s n r hr hq => ⟨_, rfl, ?_⟩,
    fun s n hq => ⟨_, rfl, ?_⟩, fun s n h hs => ⟨_, rfl, ?_⟩, fun s n b hp hi => ⟨_, rfl, ?_⟩, fun s n b hp hi => ⟨_, rfl, ?_⟩,
    fun s n h hs hq => ⟨_, rfl, ?_⟩⟩
  · obtain ⟨x, e⟩ := slcCreate_good s n p h he hf hb
    obtain ⟨f1, f2, f3, f4⟩ := slcImage_fits s
    obtain ⟨c1, c2, c3, c4, c5⟩ := slcConfig_fields s n s.slcImage f1 f2 f3 f4
    have hg : ∀ f, f.reg ≠ SLC_CMD_busy.reg → f.reg ≠ SLC_STATUS_state.reg → (s.slcCreate n p).get f n = (s.slcConfig n s.slcImage).get f n := by
      intro f hf hs
      have k : ∀ g : Fld, g.reg = SLC_STATUS_state.reg → (g.reg, g.lo) ≠ (f.reg, f.lo) := fun g hg => place_of_reg (hg ▸ hs)
      rw [e, get_slcEnd_field _ _ _ _ hf]
      exact (get_set_field _ _ _ _ (k SLC_STATUS_paused rfl)).trans (get_set_field _ _ _ _ (k SLC_STATUS_state rfl))
    refine ⟨?_, ?_, ?_, ?_, ?_, ?_, ?_, ?_⟩
    · rw [get_only_in _ _ _ _ _ rfl, e, get_slcEnd_state]
      exact (get_set_field _ _ _ _ (by decide)).trans (get_set_same _ _ _ _)
    · rw [get_only_in _ _ _ _ _ rfl, e, get_slcEnd_field _ _ _ _ (by decide)]
      refine (get_set_same _ _ _ _).trans ?_
      cases p <;> rfl
    · rw [get_only_in _ _ _ _ _ rfl, e, get_slcEnd_result]
    · rw [get_only_in _ _ _ _ _ rfl, hg _ (by decide) (by decide), c1]
    · rw [get_only_in _ _ _ _ _ rfl, hg _ (by decide) (by decide), c2]
    · rw [get_only_in _ _ _ _ _ rfl, hg _ (by decide) (by decide), c3]
    · rw [get_only_in _ _ _ _ _ rfl, hg _ (by decide) (by decide), c4]
    · rw [get_only_in _ _ _ _ _ rfl, hg _ (by decide) (by decide), c5]
  · have e : s.slcCreate n p = s.slcEnd 2 := by
      rw [State.slcCreate, slcRun_idle _ h, if_neg (by simp [he, hf]), if_pos (slcBad_of s n _ hb)]
    refine ⟨?_, ?_, ?_, ?_⟩
    · rw [get_only_in _ _ _ _ _ rfl, e, get_slcEnd_result]
    · show (s.slcCreate n p).slc = _
      rw [e, slcEnd_slc]
    · rw [get_only_in _ _ _ _ _ rfl, e, get_slcEnd_state, hf]
    · rw [get_only_in _ _ _ _ _ rfl, e, get_slcEnd_field _ _ _ _ (by decide)]
  · have e : s.slcCreate n p = s.slcEnd 1 := by
      rw [State.slcCreate, slcRun_idle _ h, if_pos (by simpa using hc)]
    refine ⟨?_, ?_⟩
    · rw [get_only_in _ _ _ _ _ rfl, e, get_slcEnd_result]
    · show (s.slcCreate n p).slc = _
      rw [e, slcEnd_slc]
  · obtain ⟨x, e⟩ := slcResize_good s n h hs he hb hv hp hc hq
    obtain ⟨f1, f2, f3, f4⟩ := slcImage_fits s
    obtain ⟨c1, c2, c3, c4, c5⟩ := slcConfig_fields s n s.slcImage f1 f2 f3 f4
    refine ⟨?_, ?_, ?_, ?_, ?_⟩
    · rw [get_only_in _ _ _ _ _ rfl, e, get_slcEnd_result]
    · rw [get_only_in _ _ _ _ _ rfl, e, get_slcResize_end _ _ _ _ (by decide), c1]
    · rw [get_only_in _ _ _ _ _ rfl, e, get_slcResize_end _ _ _ _ (by decide), c3]
    · rw [get_only_in _ _ _ _ _ rfl, e, get_slcResize_end _ _ _ _ (by decide), c4]
    · rw [get_only_in _ _ _ _ _ rfl, e, get_slcResize_end _ _ _ _ (by decide), get_slcConfig_other _ _ _ _ _ (by decide), hs]
  · have e := slcResize_short s n h hs he hb hv hp hc
    refine ⟨?_, ?_, ?_⟩
    · rw [get_only_in _ _ _ _ _ rfl, e, get_slcEnd_result]
    · rw [get_only_in _ _ _ _ _ rfl, e, get_slcEnd_field _ _ _ _ (by decide)]
    · rw [get_only_in _ _ _ _ _ rfl, e, get_slcEnd_field _ _ _ _ (by decide)]
  · have e : s.slcDestroy n = (s.set SLC_CMD_busy 0 1).sliceSquash n true true := by
      rw [State.slcDestroy, slcRun_idle _ h, if_neg (by simp [he, hs])]
    rw [e]
    exact squashed s n true _ rfl rfl rfl rfl
  · have e : s.slcResetDrain n = (s.set SLC_CMD_busy 0 1).sliceDrain n true := by
      rw [State.slcResetDrain, slcRun_idle _ h, if_neg (by simp [hs])]
    obtain ⟨h1, h2⟩ := resetting_sliceDrain (s.set SLC_CMD_busy 0 1) n true
    rw [e]
    refine ⟨?_, ?_, ?_⟩
    · rw [get_only_in _ _ _ _ _ rfl, h1]
    · rw [get_only_in _ _ _ _ _ rfl, sliceDrain_busy, get_set_same]
      rfl
    · show tget ((s.set SLC_CMD_busy 0 1).sliceDrain n true).slc.resets n = _
      rw [h2, set_dtc]
  · have e : s.slcResetSquash n = (s.set SLC_CMD_busy 0 1).sliceSquash n false true := by
      rw [State.slcResetSquash, slcRun_idle _ h, if_neg (by simp [hs]), hr]
    rw [e]
    exact squashed s n false _ rfl rfl rfl rfl
  · have e : s.drainTimeout n = s.sliceSquash n r.toFree r.cmd := by
      rw [State.drainTimeout, hr]
      exact if_pos hd
    obtain ⟨h1, h2⟩ := resetting_sliceSquash s n r.toFree r.cmd
    rw [e]
    refine ⟨?_, qpsOf_sliceSquash s n r.toFree r.cmd, h2⟩
    rw [get_only_in _ _ _ _ _ rfl, h1]
  · have e := sliceResetDone_quiet s n r hr hq
    have hg : ∀ f i, f.reg ≠ SLC_CMD_busy.reg → (s.sliceResetDone n).get f i = (stateReset (groupReset s n) n r.toFree).get f i := fun f i hf => by
      rw [e, get_raise]
      split
      · exact get_slcEnd_field _ _ _ _ hf
      · rfl
    have hslc : (s.sliceResetDone n).slc.resets = tdel s.slc.resets n := by
      rw [e, raise_slc]
      split
      · rw [slcEnd_slc, stateReset_resets]
        rfl
      · rw [stateReset_resets]
        rfl
    refine ⟨?_, ?_, fun hc => ⟨?_, ?_⟩, ?_, ?_⟩
    · rw [get_only_in _ _ _ _ _ (field_of_block rfl), hg _ _ (by decide), stateReset_state]
    · rw [get_only_in _ _ _ _ _ (field_of_block rfl), hg _ _ (by decide), get_stateReset_other _ _ _ _ _ (by decide) (by decide), groupReset_rdy]
    · rw [get_only_in _ _ _ _ _ (field_of_block rfl), e, get_raise, if_pos hc, get_slcEnd_busy]
    · rw [get_only_in _ _ _ _ _ (field_of_block rfl), e, get_raise, if_pos hc, get_slcEnd_result]
    · show tget (s.sliceResetDone n).slc.resets n = none
      rw [hslc, tget_tdel_same]
    · obtain ⟨v1, v2⟩ := stateReset_evt (groupReset s n) n r.toFree
      refine Reports.congr (t := State.raise (if r.cmd then (stateReset (groupReset s n) n r.toFree).slcEnd 0 else stateReset (groupReset s n) n r.toFree)
        EV_SLC_RESET_DONE 9 n) (reports_raise _ _ _ _ ?_ ?_ fun f i hf => ?_) (show (s.sliceResetDone n).evt = _ by rw [e])
      · split
        · exact v2
        · exact v2
      · split
        · exact v1
        · exact v1
      · have hr : ∀ g : Fld, g.reg / 0x100000 = 22 → f.reg ≠ g.reg := fun g hg k => by rw [k] at hf; omega
        have hq : (stateReset (groupReset s n) n r.toFree).get f i = s.get f i := by
          rw [get_stateReset_other _ _ _ _ _ (hr SLC_CFG_max_qp rfl) (hr SLC_STATUS_state rfl), get_groupReset_low _ _ _ _ (by omega)]
        split
        · rw [get_slcEnd_field _ _ _ _ (hr SLC_CMD_busy rfl), hq]
        · exact hq
  · have e : s.sliceResetDone n = s := by
      rw [State.sliceResetDone]
      split
      · rfl
      · exact if_pos (by simp [hq])
    rw [e]
    exact ⟨rfl, rfl⟩
  · have e : ∃ l, s.slcPause n = { (s.set SLC_CMD_busy 0 1) with slc := { s.slc with pausing := some (n, s.dtc), stopped := l ++ [n] } } := by
      rw [State.slcPause, slcRun_idle _ h, if_neg (by simp [hs])]
      exact ⟨_, rfl⟩
    obtain ⟨l, e⟩ := e
    rw [e]
    refine ⟨?_, rfl, List.mem_append_right _ (List.mem_singleton_self n)⟩
    rw [get_only_in _ _ _ _ _ rfl]
    exact get_set_same _ _ _ _
  · have e : s.pauseDone = (State.set { s with slc := { s.slc with pausing := none } } SLC_STATUS_paused n 1).slcEnd 0 := by
      rw [State.pauseDone, hp]
      exact if_neg (by simp [hi])
    rw [e]
    refine ⟨?_, ?_, ?_, rfl, rfl⟩
    · rw [get_only_in _ _ _ _ _ rfl, get_slcEnd_field _ _ _ _ (by decide), get_set_same]
      rfl
    · rw [get_only_in _ _ _ _ _ rfl, get_slcEnd_busy]
    · rw [get_only_in _ _ _ _ _ rfl, get_slcEnd_result]
  · have e : s.pauseTimeout = (State.slcEnd { s with slc := { s.slc with pausing := none } } 5).raise EV_SLC_PAUSE_TIMEOUT 9 n := by
      rw [State.pauseTimeout, hp]
      exact if_neg hi
    rw [e]
    refine ⟨?_, ?_, rfl, rfl, reports_raise (u := State.slcEnd { s with slc := { s.slc with pausing := none } } 5) _ _ _ _ rfl rfl fun f i hf => ?_⟩
    · rw [get_only_in _ _ _ _ _ rfl, get_raise, get_slcEnd_busy]
    · rw [get_only_in _ _ _ _ _ rfl, get_raise, get_slcEnd_result]
    · exact get_slcEnd_field _ _ _ _ fun k => by rw [k] at hf; revert hf; decide
  · have e : s.slcResume n = (State.set { s with slc := { s.slc with stopped := s.slc.stopped.filter (· != n) } } SLC_STATUS_paused n 0).slcEnd 0 := by
      rw [State.slcResume, slcRun_idle _ h, if_neg (by simp [hs])]
      show State.slcEnd (State.each _ (s.qpsOf (.slice n)) _) 0 = _
      rw [hq]
      rfl
    rw [e]
    refine ⟨?_, ?_, ?_⟩
    · rw [get_only_in _ _ _ _ _ rfl, get_slcEnd_field _ _ _ _ (by decide), get_set_same]
      rfl
    · rw [get_only_in _ _ _ _ _ rfl, get_slcEnd_result]
    · show n ∉ s.slc.stopped.filter (· != n)
      simp

end Sys2Proof.Machine
end

section
/-! PROOFS. A slice's controller, its saved and restored queue pairs, its dirty-page log, PASID Enable (R409, R417, R419 to R423). -/

namespace Sys2Proof.Machine

open F

/-! ## The controller -/

theorem adminUp_some (s : State) (o : QOwner) (a b c d q : Nat) (ha : a ≠ 0) (hb : b ≠ 0)
    (hq : firstFree s.qpe.qps (s.qpe.qps.length + 1) 0 = some q) :
    ∃ t x, s.adminUp o a b c d = some t ∧ t.qp q = some x ∧ x.owner = o ∧ x.admin = true ∧ x.sqEntries = a + 1 ∧ x.cqEntries = b + 1 ∧
      Within { parts := [.qpe, .nsm], fields := qpeLive } s t := by
  unfold State.adminUp
  rw [if_neg (by simp [ha, hb]), hq]
  refine ⟨_, _, rfl, tget_tput_same s.qpe.qps q _, rfl, rfl, rfl, rfl, ?_⟩
  exact (((within_qpe s _ rfl).trans (within_set _ QPE_STATUS_cmds_in_flight _ _ rfl)).trans (within_set _ _ _ _ rfl)).trans (within_nsm _ _ rfl)

/-! ## Queue pairs saved and restored -/

/-- The four words of a saved queue pair. -/
def saveWord (x : Qp) (qid : Nat) : Nat → Nat
  | 0 => x.sqBase.toNat / 4096 * 4096 + qid
  | 1 => x.cqBase.toNat / 4096 * 4096 + 512 * bit x.ien + x.vector % 512
  | 2 => 2 ^ 52 * (x.sqEntries - 1) + 2 ^ 40 * (x.cqEntries - 1) + 2 ^ 28 * x.sqHead + 65536 * x.cqTail + x.cqSeq
  | _ => 2 ^ 63 * bit x.cqPhase + 2 ^ 32 * x.cqHead + x.cmplCount

theorem bit_le (b : Bool) : bit b ≤ 1 := by cases b <;> decide

/-- The words of a queue pair within its limits fill no more than 64 bits. -/
theorem saveWord_lt (x : Qp) (qid j : Nat) (hq : qid < 512) (h1 : x.sqEntries ≤ 4096) (h2 : x.cqEntries ≤ 4096) (h3 : x.sqHead < 4096)
    (h4 : x.cqTail < 4096) (h5 : x.cqHead < 4096) (h6 : x.cqSeq < 65536) (h7 : x.cmplCount < 2 ^ 32) : saveWord x qid j < 2 ^ 64 := by
  have b1 := bit_le x.ien
  have b2 := bit_le x.cqPhase
  have s1 : x.sqBase.toNat < 2 ^ 64 := x.sqBase.isLt
  have s2 : x.cqBase.toNat < 2 ^ 64 := x.cqBase.isLt
  unfold saveWord
  split <;> omega

/-- The data registers written with a saved queue pair. -/
def saved (s : State) (x : Qp) (qid : Nat) : State :=
  (((s.set SLC_CMD_DATA_data 0 (saveWord x qid 0)).set SLC_CMD_DATA_data 1 (saveWord x qid 1)).set SLC_CMD_DATA_data 2 (saveWord x qid 2)).set
    SLC_CMD_DATA_data 3 (saveWord x qid 3)

theorem saved_word (s : State) (x : Qp) (qid : Nat) (h : ∀ j, saveWord x qid j < 2 ^ 64) (j : Nat) (hj : j < 4) :
    (saved s x qid).get SLC_CMD_DATA_data j = saveWord x qid j := by
  have e (u : State) (i : Nat) : (u.set SLC_CMD_DATA_data i (saveWord x qid i)).get SLC_CMD_DATA_data i = saveWord x qid i :=
    (get_set_same _ _ _ _).trans (Nat.mod_eq_of_lt (h i))
  unfold saved
  obtain rfl | rfl | rfl | rfl : j = 0 ∨ j = 1 ∨ j = 2 ∨ j = 3 := by omega
  · rw [get_set_elem _ _ _ (by decide), get_set_elem _ _ _ (by decide), get_set_elem _ _ _ (by decide), e]
  · rw [get_set_elem _ _ _ (by decide), get_set_elem _ _ _ (by decide), e]
  · rw [get_set_elem _ _ _ (by decide), e]
  · rw [e]

theorem slcSave_saves (s : State) (n q : Nat) (x : Qp) (h : s.flag SLC_CMD_busy = false) (hs : s.get SLC_STATUS_state n = 1)
    (hp : s.flag SLC_STATUS_paused n = true) (hq : s.qpnOf (.slice n) (s.get SLC_CMD_DATA_data 0 % 512) = some q) (hx : s.qp q = some x) :
    s.slcSave n = (saved s x (s.get SLC_CMD_DATA_data 0 % 512)).slcEnd 0 := by
  rw [State.slcSave, slcRun_idle _ h, if_neg (by simp [hs, hp])]
  dsimp only
  rw [hq, Option.bind_some, hx]
  rfl

/-- The queue pair that a saved image describes. -/
def restoredQp (s : State) (n : Nat) : Qp :=
  let w (j : Nat) : Nat := s.get SLC_CMD_DATA_data j
  { owner := .slice n, admin := w 0 % 512 = 0, qid := w 0 % 512, cqid := w 0 % 512, sqEntries := w 2 / 2 ^ 52 + 1
    cqEntries := w 2 / 2 ^ 40 % 4096 + 1, sqBase := BitVec.ofNat 64 (w 0 / 4096 * 4096), cqBase := BitVec.ofNat 64 (w 1 / 4096 * 4096)
    sqHead := w 2 / 2 ^ 28 % 4096, sqTail := w 2 / 2 ^ 28 % 4096, cqHead := w 3 / 2 ^ 32 % 4096, cqTail := w 2 / 2 ^ 16 % 4096
    cqPhase := w 3 / 2 ^ 63 = 1, cqSeq := w 2 % 65536, cmplCount := w 3 % 2 ^ 32, vector := w 1 % 512, ien := w 1 / 512 % 2 = 1 }

/-- An admin queue pair restored on a controller that is disabled. -/
theorem slcRestore_admin (s : State) (n q : Nat) (h : s.flag SLC_CMD_busy = false) (hs : s.get SLC_STATUS_state n = 1)
    (hp : s.flag SLC_STATUS_paused n = true) (he : s.flag SLC_CTRL_en n = false) (hz : s.get SLC_CMD_DATA_data 0 % 512 = 0)
    (hn : s.qpnOf (.slice n) 0 = none) (h1 : 2 ≤ s.get SLC_CMD_DATA_data 2 / 2 ^ 52 + 1) (h2 : 2 ≤ s.get SLC_CMD_DATA_data 2 / 2 ^ 40 % 4096 + 1)
    (h3 : s.get SLC_CMD_DATA_data 2 / 2 ^ 28 % 4096 ≤ s.get SLC_CMD_DATA_data 2 / 2 ^ 52)
    (h4 : s.get SLC_CMD_DATA_data 2 / 2 ^ 16 % 4096 ≤ s.get SLC_CMD_DATA_data 2 / 2 ^ 40 % 4096)
    (h5 : s.get SLC_CMD_DATA_data 3 / 2 ^ 32 % 4096 ≤ s.get SLC_CMD_DATA_data 2 / 2 ^ 40 % 4096)
    (hv : s.vectorOk (.slice n) (s.get SLC_CMD_DATA_data 1 % 512) (s.get SLC_CMD_DATA_data 1 / 512 % 2 = 1) = true)
    (hq : firstFree s.qpe.qps (s.qpe.qps.length + 1) 0 = some q) :
    s.slcRestore n = ((((s.putQp q (restoredQp s n)).qpeStatus).set SLC_CTRL_en n 1).set SLC_CTRL_STATUS_rdy n 1).slcEnd 0 := by
  have good : ((s.qpnOf (.slice n) (s.get SLC_CMD_DATA_data 0 % 512)).isSome || decide (s.maxQid (.slice n) < s.get SLC_CMD_DATA_data 0 % 512) ||
      (s.get SLC_CMD_DATA_data 0 % 512 != 0 && decide (s.maxQid (.slice n) ≤ s.ioQueues (.slice n))) ||
      decide (s.get SLC_CMD_DATA_data 2 / 2 ^ 52 + 1 < 2) || decide (s.get SLC_CMD_DATA_data 2 / 2 ^ 40 % 4096 + 1 < 2) ||
      decide (s.get SLC_CMD_DATA_data 2 / 2 ^ 52 + 1 ≤ s.get SLC_CMD_DATA_data 2 / 2 ^ 28 % 4096) ||
      decide (s.get SLC_CMD_DATA_data 2 / 2 ^ 40 % 4096 + 1 ≤ s.get SLC_CMD_DATA_data 2 / 2 ^ 16 % 4096) ||
      decide (s.get SLC_CMD_DATA_data 2 / 2 ^ 40 % 4096 + 1 ≤ s.get SLC_CMD_DATA_data 3 / 2 ^ 32 % 4096) ||
      !s.vectorOk (.slice n) (s.get SLC_CMD_DATA_data 1 % 512) (s.get SLC_CMD_DATA_data 1 / 512 % 2 = 1)) = false := by
    rw [hz, hn, hv, bne_self_eq_false, Bool.false_and, decide_eq_false (by omega), decide_eq_false (by omega), decide_eq_false (by omega), decide_eq_false (by omega),
      decide_eq_false (by omega), decide_eq_false (by omega)]
    rfl
  rw [State.slcRestore, slcRun_idle _ h]
  dsimp only
  rw [if_neg (by simp [hs, hp, he]), good, hq]
  dsimp only
  rw [if_pos hz]
  rfl

/-! ## Dirty-page logs -/

/-- With the queue empty nothing is issued. -/
theorem hifGo_empty (s : State) (h : s.hif.queue = []) : s.hifGo = s := by
  unfold State.hifGo
  rw [h]
  show State.hifPump s 1 = s
  unfold State.hifPump
  rw [h]
  rfl

/-- A single request of the function waits while its bus master is off. -/
theorem hifGo_off (s : State) (r : HostReq) (h : s.hif.queue = [r]) (ho : r.owner = .fn) (hb : s.busOk .fn = false) : s.hifGo = s := by
  have hr : s.reqReady r = false := by simp [State.reqReady, ho, hb]
  have hn : firstReady s [] [r] = none := by simp [firstReady, hr]
  unfold State.hifGo
  rw [h]
  show State.hifPump s 2 = s
  unfold State.hifPump
  rw [h, hn]
  show (match r.op.addr s.qpe.qps with | some a => _ | none => s) = s
  split
  · exact if_neg (by simp [ho, hb])
  · rfl

/-- A sync or stop of a log begun: the other buffer is active, the marks of the old one are to be folded. -/
def syncBegun (s : State) (n : Nat) (l : SliceLog) (last : Bool) : State :=
  let old := s.get SLC_LOG_STATUS_active n
  let u := (s.set SLC_CMD_busy 0 1).set SLC_LOG_STATUS_active n (1 - old)
  { u with slc := { u.slc with
      logs := tput s.slc.logs n { l with marks := l.marks.filter fun ((b, _), _) => b != old }
      syncing := some (n, old, (l.marks.filter fun ((b, _), _) => b = old).map fun ((_, w), _) => w, last) } }

theorem logSync_begins (s : State) (n : Nat) (l : SliceLog) (last : Bool) (h : s.flag SLC_CMD_busy = false) (hs : s.get SLC_STATUS_state n ≠ 2)
    (hl : tget s.slc.logs n = some l) : s.logSync n last = (((syncBegun s n l last).each
      (l.marks.filter fun ((b, _), _) => b = s.get SLC_LOG_STATUS_active n) fun s ((b, w), v) => s.foldMark n b w v l).hifGo).syncCheck := by
  rw [State.logSync, slcRun_idle _ h, if_neg hs, hl]
  rfl

theorem get_syncBegun_active (s : State) (n : Nat) (l : SliceLog) (last : Bool) :
    (syncBegun s n l last).get SLC_LOG_STATUS_active n = 1 - s.get SLC_LOG_STATUS_active n :=
  (get_set_same (s.set SLC_CMD_busy 0 1) SLC_LOG_STATUS_active n _).trans (Nat.mod_eq_of_lt (by show _ < 2; omega))

theorem get_syncBegun_other (s : State) (n : Nat) (l : SliceLog) (last : Bool) (f : Fld) (i : Nat) (h1 : (SLC_CMD_busy.reg, SLC_CMD_busy.lo) ≠ (f.reg, f.lo))
    (h2 : (SLC_LOG_STATUS_active.reg, SLC_LOG_STATUS_active.lo) ≠ (f.reg, f.lo)) : (syncBegun s n l last).get f i = s.get f i :=
  (get_set_field (s.set SLC_CMD_busy 0 1) n _ i h2).trans (get_set_field s 0 1 i h1)

/-- A sync or stop without marks ends at once. -/
theorem logSync_unmarked (s : State) (n : Nat) (l : SliceLog) (last : Bool) (h : s.flag SLC_CMD_busy = false) (hs : s.get SLC_STATUS_state n ≠ 2)
    (hl : tget s.slc.logs n = some l) (hm : l.marks = []) (hf : s.slc.folding = []) (hq : s.hif.queue = []) :
    s.logSync n last =
      (let u := (syncBegun s n l last).inc SLC_LOG_STATUS_syncs n
       let v : State := { u with slc := { u.slc with
          syncing := none, logs := if last then tdel u.slc.logs n else tmod u.slc.logs n fun l => { l with raised := false } } }
       (if last then v.set SLC_LOG_STATUS_on n 0 else v).slcEnd 0) := by
  rw [logSync_begins s n l last h hs hl]
  have hs' : (syncBegun s n l last).slc.syncing = some (n, s.get SLC_LOG_STATUS_active n,
      (l.marks.filter fun ((b, _), _) => b = s.get SLC_LOG_STATUS_active n).map fun ((_, w), _) => w, last) := rfl
  have hf' : (syncBegun s n l last).slc.folding = [] := hf
  have hq' : (syncBegun s n l last).hif.queue = [] := hq
  generalize syncBegun s n l last = u at hs' hf' hq' ⊢
  rw [hm]
  show (State.hifGo u).syncCheck = _
  rw [hifGo_empty u hq', State.syncCheck, hs']
  dsimp only
  rw [hf', hq', if_neg (by simp)]

/-- Whether the function may issue requests, by its link and bus master alone. -/
theorem busOk_fn (s : State) : s.busOk .fn = (s.flag HIF_LINK_STATUS_up 0 && s.flag HIF_LINK_STATUS_bme 0 && !s.flag HIF_LINK_STATUS_d3 0 &&
    !s.hif.inReset.contains 0) := by
  simp [State.busOk, State.epOf, State.pasidOf]

/-- A sync with one mark while the bus master is off: its fold's read waits. -/
theorem logSync_marked (s : State) (n w v : Nat) (l : SliceLog) (h : s.flag SLC_CMD_busy = false) (hs : s.get SLC_STATUS_state n ≠ 2)
    (hl : tget s.slc.logs n = some l) (hm : l.marks = [((s.get SLC_LOG_STATUS_active n, w), v)]) (hf : s.slc.folding = []) (hq : s.hif.queue = [])
    (hb : s.busOk .fn = false) : s.logSync n false =
      { syncBegun s n l false with
        slc := { (syncBegun s n l false).slc with folding := [((n, s.get SLC_LOG_STATUS_active n, w), v)] }
        hif := { s.hif with queue := [⟨.fn, .read (.mark n (s.get SLC_LOG_STATUS_active n) w)
          ((if s.get SLC_LOG_STATUS_active n = 0 then l.bufA else l.bufB) + 8 * w) 8, false⟩] } } := by
  rw [logSync_begins s n l false h hs hl, hm, List.filter_cons_of_pos (by simp), List.filter_nil]
  have hbus : (syncBegun s n l false).busOk .fn = false := by
    refine Eq.trans ?_ hb
    rw [busOk_fn, busOk_fn]
    simp only [State.flag]
    rw [get_syncBegun_other _ _ _ _ _ _ (by decide) (by decide), get_syncBegun_other _ _ _ _ _ _ (by decide) (by decide),
      get_syncBegun_other _ _ _ _ _ _ (by decide) (by decide)]
    rfl
  have hf' : (syncBegun s n l false).slc.folding = [] := hf
  have hq' : (syncBegun s n l false).hif = s.hif := rfl
  have hsync : (syncBegun s n l false).slc.syncing = some (n, s.get SLC_LOG_STATUS_active n,
      (l.marks.filter fun ((b, _), _) => b = s.get SLC_LOG_STATUS_active n).map fun ((_, w), _) => w, false) := rfl
  generalize syncBegun s n l false = u at hbus hf' hq' hsync ⊢
  have e : u.foldMark n (s.get SLC_LOG_STATUS_active n) w v l = { u with
      slc := { u.slc with folding := [((n, s.get SLC_LOG_STATUS_active n, w), v)] }
      hif := { s.hif with queue := [⟨.fn, .read (.mark n (s.get SLC_LOG_STATUS_active n) w)
          ((if s.get SLC_LOG_STATUS_active n = 0 then l.bufA else l.bufB) + 8 * w) 8, false⟩] } } := by
    rw [State.foldMark, hf', tget_nil, hq', hq]
    rfl
  show (State.hifGo (u.foldMark n _ w v l)).syncCheck = _
  rw [e, hifGo_off _ _ rfl rfl ?_]
  · unfold State.syncCheck
    rw [hsync]
    exact if_pos (by simp)
  · refine Eq.trans ?_ hbus
    rw [busOk_fn, busOk_fn]
    show (_ && !s.hif.inReset.contains 0) = (_ && !u.hif.inReset.contains 0)
    rw [hq']
    rfl

/-! ## PASID Enable -/

/-- The bus master of a slice's PASID cut: what its group's reads become, and the report. -/
theorem bmeCut_slice (s : State) (n : Nat) : (∀ r ∈ (s.bmeCut (2 + n)).hif.reads, r.owner = .slice n → r.use = .sqe 65536) ∧
    (s.bmeCut (2 + n)).hif.pasid = s.hif.pasid ∧ Reports s (s.bmeCut (2 + n)) EV_HIF_BME_CLEAR 9 n [] := by
  have hg : s.inGroup (2 + n) (.slice n) = true := by
    rw [State.inGroup, if_neg (by omega)]
    simp [ownerLocal]
  have he (l : List Nat) (u : State) : Within { parts := [.qpe] } u (u.each l fun s c => s.modCmd c fun x => { x with bytes := [] }) :=
    within_each u l _ fun s c => within_qpe s _ rfl
  unfold State.bmeCut
  dsimp only
  rw [if_neg (by omega)]
  refine ⟨?_, ?_, ?_⟩
  · rw [raise_hif, (he _ _).hif rfl]
    intro r hr ho
    obtain ⟨y, _, rfl⟩ := List.mem_map.mp hr
    by_cases hy : s.inGroup (2 + n) y.owner = true
    · rw [if_pos hy]
    · rw [if_neg hy] at ho
      rw [ho, hg] at hy
      exact absurd rfl hy
  · rw [raise_hif, (he _ _).hif rfl]
  · rw [Nat.add_sub_cancel_left]
    refine reports_raise _ _ _ _ ?_ ?_ fun f i _ => ?_
    · rw [(he _ _).dtc rfl]
    · rw [(he _ _).evt rfl]
    · rw [(he _ _).regs f i rfl]
      rfl

/-- Settles O45: each command is one change of the slice's controller, queue pair or log, or of PASID Enable. -/
theorem sliceQueuesAndLogs : Obligations.SliceQueuesAndLogs := by
  unfold Obligations.SliceQueuesAndLogs
  refine ⟨fun s n q hs hf he hr ha hb hq => ?_, fun s n hs he hr => ⟨_, rfl, ?_⟩, fun s n hs => ⟨_, rfl, ?_⟩, fun s n hs he => ⟨_, rfl, ?_⟩,
    fun s n q x h hs hp hq hx h1 h2 h3 h4 h5 h6 h7 => ⟨_, rfl, ?_⟩, fun s n q h hs hp he hz hn h1 h2 h3 h4 h5 hv hq => ?_,
    fun s n q k h hs hp hk hz hq => ⟨_, rfl, ?_⟩, fun s n h hs hn hl h0 h1 h2 h3 h4 => ⟨_, rfl, ?_⟩, fun s n h hs hn hl => ⟨_, rfl, ?_⟩,
    fun s n l h hs hl hm hf hq => ⟨_, rfl, ?_⟩, fun s n l h hs hl hm hf hq => ⟨_, rfl, ?_⟩, fun s n w v l h hs hl hm hf hq hb => ⟨_, rfl, ?_⟩,
    fun s hp hu => ⟨_, rfl, ?_⟩, fun s n hp hu he hv => ⟨_, rfl, ?_⟩, fun s hp hi hu => ⟨_, rfl, ?_⟩⟩
  · have hreg : ∀ f i, (SLC_CTRL_en.reg, SLC_CTRL_en.lo) ≠ (f.reg, f.lo) → (s.set SLC_CTRL_en n 1).get f i = s.get f i := fun f i k => get_set_field s n 1 i k
    obtain ⟨t, x, ht, hx, h1, h2, h3, h4, w⟩ := adminUp_some (s.set SLC_CTRL_en n 1) (.slice n) (s.get SLC_AQA_asqs n) (s.get SLC_AQA_acqs n)
      (s.get SLC_ASQ_base n) (s.get SLC_ACQ_base n) q ha hb (by rw [set_qpe, hq])
    have e : s.sliceEnable n = t.set SLC_CTRL_STATUS_rdy n 1 := by
      have hfn : (s.set SLC_CTRL_en n 1).functionsOn = true := by
        rw [← hf, State.functionsOn, State.functionsOn, hreg _ _ (by decide)]
      rw [State.sliceEnable, if_neg (by simp [hs, he])]
      dsimp only
      rw [if_neg (by simp [hr]), hfn, hreg _ _ (by decide), hs, if_neg (by decide), hreg _ _ (by decide), hreg _ _ (by decide), hreg _ _ (by decide),
        hreg _ _ (by decide), ht]
    refine ⟨_, x, rfl, ?_, ?_, ?_, h1, h2, h3, h4⟩
    · rw [get_only_in _ _ _ _ _ rfl, e, get_set_field _ _ _ _ (by decide), w.regs _ _ rfl, get_set_same]
      rfl
    · rw [get_only_in _ _ _ _ _ rfl, e, get_set_same]
      rfl
    · show (s.sliceEnable n).qp q = some x
      rw [e]
      exact hx
  · have e : s.sliceEnable n = s.set SLC_CTRL_en n 1 := by
      rw [State.sliceEnable, if_neg (by simp [hs, he])]
      dsimp only
      rw [if_neg (by simp [hr]), if_pos]
      rw [get_set_field _ _ _ _ (by decide), hs]
      rfl
    refine ⟨?_, ?_⟩
    · rw [get_only_in _ _ _ _ _ rfl, e, get_set_same]
      rfl
    · show (s.sliceEnable n).qpe = _
      rw [e, set_qpe]
  · have e : s.sliceEnable n = s := by rw [State.sliceEnable, if_pos (by simp [hs])]
    rw [e]
    exact ⟨regs_only_same _ _ _ rfl, rfl⟩
  · have e : s.sliceDisable n = ((s.set SLC_CTRL_en n 0).set SLC_CTRL_STATUS_cfs n 0).sliceDrain n false := by
      rw [State.sliceDisable, if_neg (by simp [hs, he])]
      dsimp only
      rw [get_set_field _ _ _ _ (by decide), get_set_field _ _ _ _ (by decide), hs, if_pos rfl]
    have hd : ∀ (u : State) f i, f.reg ≠ SLC_STATUS_state.reg → deleteW.field (f.key i) = false → (u.sliceDrain n false).get f i = u.get f i :=
      fun u f i hf hw => (get_set_field _ _ _ _ (place_of_reg hf)).trans ((deleteW_deleteAllOf u _).regs f i hw)
    obtain ⟨h1, h2⟩ := resetting_sliceDrain ((s.set SLC_CTRL_en n 0).set SLC_CTRL_STATUS_cfs n 0) n false
    refine ⟨?_, ?_, ?_, ?_⟩
    · rw [get_only_in _ _ _ _ _ rfl, e, hd _ _ _ (by decide) rfl, get_set_field _ _ _ _ (by decide), get_set_same]
      rfl
    · rw [get_only_in _ _ _ _ _ rfl, e, hd _ _ _ (by decide) rfl, get_set_same]
      rfl
    · rw [get_only_in _ _ _ _ _ rfl, e, h1]
    · show tget (s.sliceDisable n).slc.resets n = _
      rw [e, h2]
      rfl
  · have e := slcSave_saves s n q x h hs hp hq hx
    have hw := saved_word s x (s.get SLC_CMD_DATA_data 0 % 512) fun j => saveWord_lt x _ j (Nat.mod_lt _ (by decide)) h1 h2 h3 h4 h5 h6 h7
    have hg : ∀ j, ((saved s x (s.get SLC_CMD_DATA_data 0 % 512)).slcEnd 0).get SLC_CMD_DATA_data j =
        (saved s x (s.get SLC_CMD_DATA_data 0 % 512)).get SLC_CMD_DATA_data j := fun j => get_slcEnd_field _ _ _ _ (by decide)
    refine ⟨?_, rfl, ?_, ?_, ?_, ?_⟩
    · rw [get_only_in _ _ _ _ _ rfl, e, get_slcEnd_result]
    · rw [get_only_in _ _ _ _ _ rfl, e, hg, hw 0 (by decide)]
      rfl
    · rw [get_only_in _ _ _ _ _ rfl, e, hg, hw 1 (by decide)]
      rfl
    · rw [get_only_in _ _ _ _ _ rfl, e, hg, hw 2 (by decide)]
      rfl
    · rw [get_only_in _ _ _ _ _ rfl, e, hg, hw 3 (by decide)]
      rfl
  · have e := slcRestore_admin s n q h hs hp he hz hn h1 h2 h3 h4 h5 hv hq
    refine ⟨_, restoredQp s n, rfl, ?_, ?_, ?_, ?_, rfl, ?_, rfl, rfl, rfl, rfl, rfl, ?_⟩
    · rw [get_only_in _ _ _ _ _ rfl, e, get_slcEnd_result]
    · rw [get_only_in _ _ _ _ _ rfl, e, get_slcEnd_field _ _ _ _ (by decide), get_set_field _ _ _ _ (by decide), get_set_same]
      rfl
    · rw [get_only_in _ _ _ _ _ rfl, e, get_slcEnd_field _ _ _ _ (by decide), get_set_same]
      rfl
    · show (s.slcRestore n).qp q = _
      rw [e]
      exact tget_tput_same _ _ _
    · exact decide_eq_true hz
    · exact decide_eq_true_iff
  · have e : s.slcRestore n = s.slcEnd 2 := by
      rw [State.slcRestore, slcRun_idle _ h]
      dsimp only
      rw [if_neg (by simp [hs, hp, ← hk, hz]), ← hk, hq]
      simp only [Option.isSome_some, Bool.true_or]
    refine ⟨?_, ?_⟩
    · rw [get_only_in _ _ _ _ _ rfl, e, get_slcEnd_result]
    · show (s.slcRestore n).qpe = _
      rw [e, slcEnd_qpe]
  · let l : SliceLog := { bufA := s.get SLC_CMD_DATA_data 0, bufB := s.get SLC_CMD_DATA_data 1, lo := s.get SLC_CMD_DATA_data 2,
                          pages := s.get SLC_CMD_DATA_data 3 }
    have e : s.logStart n = State.slcEnd (State.set (State.set { s with slc := { s.slc with logs := tput s.slc.logs n l } } SLC_LOG_STATUS_on n 1) SLC_LOG_STATUS_active n 0) 0 := by
      rw [State.logStart, slcRun_idle _ h]
      dsimp only
      rw [if_neg (by simp [hs, hn]), if_neg (by omega), if_neg (by simp [h0, h1, h2]; omega)]
    refine ⟨?_, ?_, ?_, ?_⟩
    · rw [get_only_in _ _ _ _ _ rfl, e, get_slcEnd_result]
    · rw [get_only_in _ _ _ _ _ rfl, e, get_slcEnd_field _ _ _ _ (by decide), get_set_field _ _ _ _ (by decide), get_set_same]
      rfl
    · rw [get_only_in _ _ _ _ _ rfl, e, get_slcEnd_field _ _ _ _ (by decide), get_set_same]
      rfl
    · show tget (s.logStart n).slc.logs n = _
      rw [e]
      exact tget_tput_same _ _ _
  · have e : s.logStart n = s.slcEnd 4 := by
      rw [State.logStart, slcRun_idle _ h]
      dsimp only
      rw [if_neg (by simp [hs, hn]), if_pos hl]
    refine ⟨?_, ?_⟩
    · rw [get_only_in _ _ _ _ _ rfl, e, get_slcEnd_result]
    · show (s.logStart n).slc = _
      rw [e, slcEnd_slc]
  · have e := logSync_unmarked s n l false h hs hl hm hf hq
    dsimp only at e
    rw [if_neg Bool.false_ne_true, if_neg Bool.false_ne_true] at e
    refine ⟨?_, ?_, ?_, ?_, ?_⟩
    · rw [get_only_in _ _ _ _ _ rfl, e, get_slcEnd_busy]
    · rw [get_only_in _ _ _ _ _ rfl, e, get_slcEnd_result]
    · rw [get_only_in _ _ _ _ _ rfl, e, get_slcEnd_field _ _ _ _ (by decide)]
      exact (get_set_field _ _ _ _ (by decide)).trans (get_syncBegun_active s n l false)
    · rw [get_only_in _ _ _ _ _ rfl, e, get_slcEnd_field _ _ _ _ (by decide)]
      refine (get_set_same _ _ _ _).trans ?_
      rw [get_syncBegun_other _ _ _ _ _ _ (by decide) (by decide)]
    · show tget (s.logSync n false).slc.logs n = _
      rw [e]
      show tget (tmod (tput s.slc.logs n _) n _) n = _
      rw [tget_tmod_same, tget_tput_same]
      simp only [hm, List.filter_nil, Option.map_some]
  · have e := logSync_unmarked s n l true h hs hl hm hf hq
    dsimp only at e
    rw [if_pos rfl, if_pos rfl] at e
    refine ⟨?_, ?_, ?_, ?_⟩
    · rw [get_only_in _ _ _ _ _ rfl, e, get_slcEnd_busy]
    · rw [get_only_in _ _ _ _ _ rfl, e, get_slcEnd_result]
    · rw [get_only_in _ _ _ _ _ rfl, e, get_slcEnd_field _ _ _ _ (by decide), get_set_same]
      rfl
    · show tget (s.logSync n true).slc.logs n = _
      rw [e]
      exact tget_tdel_same _ _
  · have e := logSync_marked s n w v l h hs hl hm hf hq hb
    refine ⟨?_, ?_, ?_, ?_⟩
    · rw [get_only_in _ _ _ _ _ rfl, e]
      show (syncBegun s n l false).get SLC_CMD_busy = 1
      exact (get_set_field (s.set SLC_CMD_busy 0 1) n _ 0 (by decide)).trans (get_set_same _ _ _ _)
    · rw [get_only_in _ _ _ _ _ rfl, e]
      exact get_syncBegun_active s n l false
    · show (s.logSync n false).slc.folding = _
      rw [e]
    · show (s.logSync n false).hif.queue = _
      rw [e]
  · have e : s.pasidEnable false = { s with hif := { s.hif with pasid := s.hif.pasid.filter (· != 0) } } := by
      rw [State.pasidEnable]
      dsimp only
      rw [if_neg Bool.false_ne_true, if_pos hp, hu]
      rfl
    show 0 ∉ (s.pasidEnable false).hif.pasid
    rw [e]
    simp
  · have e : s.pasidEnable false = State.bmeCut { s with hif := { s.hif with pasid := s.hif.pasid.filter (· != 0) } } (2 + n) := by
      rw [State.pasidEnable]
      dsimp only
      rw [if_neg Bool.false_ne_true, if_pos hp, hu, List.filter_cons_of_pos (by simp [he, hv]), List.filter_nil]
      rfl
    obtain ⟨h1, h2, h3⟩ := bmeCut_slice { s with hif := { s.hif with pasid := s.hif.pasid.filter (· != 0) } } n
    show 0 ∉ (s.pasidEnable false).hif.pasid ∧ Reports s _ _ _ _ _ ∧ ∀ r ∈ (s.pasidEnable false).hif.reads, _
    rw [e, h2]
    exact ⟨by simp, h3, h1⟩
  · have e : s.pasidEnable true = { s with hif := { s.hif with pasid := s.hif.pasid ++ [0] } } := by
      rw [State.pasidEnable]
      dsimp only
      rw [if_pos rfl, if_neg (by simp [hi]; simpa using hp), hu]
      rfl
    show 0 ∈ (s.pasidEnable true).hif.pasid
    rw [e]
    simp

end Sys2Proof.Machine
end

section
/-! PROOFS. Support: a slot's channel (chapter 17): what its steps change, and how its port goes off where no command is left. -/

namespace Sys2Proof.Machine

open F

/-- A footprint does not reach the fields of a block where it names nothing. -/
theorem field_of_other_block (w : Writes) (f : Fld) (i : Nat) {n : Nat} (hf : f.reg / 0x100000 = n) (hb : w.blocks.contains n = false)
    (hw : (w.fields.all fun g => g.reg / 0x100000 != n) = true) : w.field (f.key i) = false := by
  rw [field_key, hf, hb, Bool.false_or, List.any_eq_false]
  intro g hg
  have h := List.all_eq_true.mp hw g hg
  simp only [bne_iff_ne, ne_eq] at h
  simp only [Bool.and_eq_true, decide_eq_true_eq, not_and]
  intro e
  rw [e] at h
  exact absurd hf h

/-! ## The channel -/

theorem slot_congr {s t : State} (h : t.slt = s.slt) (x : Nat) : t.slot x = s.slot x := by
  rw [State.slot, h]
  rfl

theorem slot_putSlot_other (s : State) {x y : Nat} (c : Slot) (h : x ≠ y) : (s.putSlot x c).slot y = s.slot y := by
  show tgetD (tput s.slt.slots x c) y {} = _
  rw [tgetD, tget_tput_other _ _ h]
  rfl

@[simp] theorem get_putSlot (s : State) (x : Nat) (c : Slot) (f : Fld) (i : Nat) : (s.putSlot x c).get f i = s.get f i := rfl

/-- What a channel's report writes. -/
theorem slotReport_pairW (s : State) (x : Nat) : Within pairW s (s.slotReport x) :=
  within_ite _ (fun _ => pairSend_pairW _ _) fun _ => .refl _ _

/-- A channel set to a state: its register, and else only the report to the partner. -/
theorem setCh_after (s : State) (x v : Nat) (h : v < 8) : (s.setCh x v).get SLT_CH_STATUS_state x = v ∧ (s.setCh x v).slt = s.slt ∧
    Within { parts := [.ctr, .pair, .outbox], fields := [SLT_CH_STATUS_state] } s (s.setCh x v) := by
  have w := slotReport_pairW (s.set SLT_CH_STATUS_state x v) x
  refine ⟨?_, w.slt rfl, ?_⟩
  · rw [State.setCh, w.regs _ _ rfl, get_set_same]
    exact Nat.mod_eq_of_lt h
  · exact (within_set s _ _ _ rfl).trans (w.widen (by decide) (by decide) (by decide))

/-- What the withdrawal of power-good writes. -/
theorem within_pgClear (s : State) (x : Nat) : Within { parts := [.ctr], fields := [SLT_CH_STATUS_pg, SLT_CH_STATUS_perst_rel] } s (s.pgClear x) :=
  ((within_set s _ _ _ rfl).trans (within_set _ _ _ _ rfl)).trans (within_leave _ _ rfl)

theorem pgClear_pg (s : State) (x : Nat) : (s.pgClear x).get SLT_CH_STATUS_pg x = 0 := by
  rw [State.pgClear, get_leave, get_set_field _ _ _ _ (by decide), get_set_same]
  rfl

/-! ## Power-up -/

/-- What a power-up writes. -/
def startW : Writes := { parts := [.ctr, .pair, .slt, .outbox], fields := [SLT_CH_STATUS_perst_rel, SLT_CH_STATUS_pg,
  SLT_CH_STATUS_retries_left, SLT_CH_STATUS_state] }

/-- The channel in step 1 of a power-up. -/
def step1Slot (c : Slot) : Slot :=
  { c with aux := true, gate := false, pwrdis := false, step := 1, fault := 0, hot := false, lowWait := false, waited := false, cycling := false,
           barred := false }

theorem slotStep1_after (s : State) (x : Nat) : (s.slotStep1 x).get SLT_CH_STATUS_state x = 3 ∧ (s.slotStep1 x).slt = (s.putSlot x (step1Slot (s.slot x))).slt ∧
    Within { parts := [.ctr, .pair, .slt, .outbox], fields := [SLT_CH_STATUS_perst_rel, SLT_CH_STATUS_pg, SLT_CH_STATUS_state] } s (s.slotStep1 x) := by
  have w := within_pgClear (s.putSlot x (step1Slot (s.slot x))) x
  obtain ⟨h1, h2, h3⟩ := setCh_after ((s.putSlot x (step1Slot (s.slot x))).pgClear x) x 3 (by decide)
  refine ⟨h1, h2.trans (w.slt rfl), ?_⟩
  exact ((within_slt s _ rfl).trans (w.widen (by decide) (by decide) (by decide))).trans (h3.widen (by decide) (by decide) (by decide))

theorem slotStart_after (s : State) (x : Nat) : (s.slotStart x).get SLT_CH_STATUS_state x = 3 ∧ (s.slotStart x).slot x = step1Slot (s.slot x) ∧
    (s.slotStart x).get SLT_CH_STATUS_retries_left x = s.get SLT_CH_CFG_retries x % 2 ^ SLT_CH_STATUS_retries_left.w ∧
    Within startW s (s.slotStart x) := by
  obtain ⟨h1, h2, h3⟩ := slotStep1_after (s.set SLT_CH_STATUS_retries_left x (s.get SLT_CH_CFG_retries x)) x
  refine ⟨h1, ?_, ?_, ?_⟩
  · exact (slot_congr h2 x).trans (slot_putSlot_same _ _ _)
  · exact (h3.regs SLT_CH_STATUS_retries_left x rfl).trans (get_set_same _ _ _ _)
  · exact (within_set s SLT_CH_STATUS_retries_left _ _ rfl).trans (h3.widen (by decide) (by decide) (by decide))

/-! ## The port goes off -/

theorem within_unqueue (s : State) (p : DriveCmd → Bool) : Within { parts := [.tms] } s (s.unqueue p) := within_tms s _ rfl

/-- A port without commands has none that is not gone. -/
theorem QuietPort.gone {s : State} {x : Nat} (h : QuietPort s x) : ∀ d ∈ (s.port x).cmds, d.gone = true := by
  rw [h.cmds]
  exact fun d hd => absurd hd List.not_mem_nil

/-- The withdrawal where every command is gone and none waits. -/
theorem withdraw_quiet (s : State) (x : Nat) (hc : ∀ d ∈ (s.port x).cmds, d.gone = true) (hw : s.waitingOf x = []) :
    s.withdraw x = State.unqueue (s.putPort x { s.port x with cmds := (s.port x).cmds.map fun d => { d with gone := true } }) fun c => c.member = x := by
  have hw' (p : Port) : (s.putPort x p).waitingOf x = [] := hw
  have hl : ((s.port x).cmds.filter fun d => !d.gone) = [] := by
    rw [List.filter_eq_nil_iff]
    intro d hd
    simp [hc d hd]
  rw [State.withdraw]
  dsimp only
  rw [hl, hw']
  rfl

/-- What a port that goes off without commands writes. -/
def portOffW : Writes := { parts := [.ctr, .tms, .drv], fields := [DRV_PORT_STATUS_state, DRV_PORT_STATUS_speed, DRV_PORT_STATUS_width,
  DRV_PORT_STATUS_flit, DRV_PORT_STATUS_n_q, DRV_PORT_STATUS_cntlid] }

theorem within_portOff (s : State) (x : Nat) (hc : ∀ d ∈ (s.port x).cmds, d.gone = true) (hw : s.waitingOf x = []) : Within portOffW s (s.portOff x) := by
  unfold State.portOff
  rw [withdraw_quiet s x hc hw]
  extract_lets _ withdrawn _ off state
  have h1 : Within portOffW s withdrawn := (within_drv s _ rfl).trans (within_tms _ _ rfl)
  have h2 : Within portOffW withdrawn off := (within_drv _ _ rfl).trans (within_leave _ _ rfl)
  have h3 : Within portOffW off state := within_ite _ (fun _ => .refl _ _) fun _ => within_set _ _ _ _ rfl
  exact (((((((h1.trans h2).trans h3).trans (within_set _ _ _ _ rfl)).trans (within_set _ _ _ _ rfl)).trans (within_set _ _ _ _ rfl)).trans
    (within_set _ _ _ _ rfl)).trans (within_set _ _ _ _ rfl))

/-- The channel whose outputs are cut. -/
def cutSlot (c : Slot) : Slot :=
  { c with gate := false, step := 0, fault := 0, hot := false, lowWait := false, waited := false, leaving := false }

/-- What a cut of a channel without commands writes. -/
def cutW : Writes := { parts := [.ctr, .tms, .drv, .slt], fields := portOffW.fields ++ [SLT_CH_STATUS_pg, SLT_CH_STATUS_perst_rel] }

theorem slotCut_after (s : State) (x : Nat) (hc : ∀ d ∈ (s.port x).cmds, d.gone = true) (hw : s.waitingOf x = []) : (s.slotCut x).get SLT_CH_STATUS_pg x = 0 ∧
    (s.slotCut x).slt = (s.putSlot x (cutSlot (s.slot x))).slt ∧ Within cutW s (s.slotCut x) := by
  have w := within_pgClear (s.putSlot x (cutSlot (s.slot x))) x
  have p := within_portOff ((s.putSlot x (cutSlot (s.slot x))).pgClear x) x (by rw [State.port, w.drv rfl]; exact hc) (by
    rw [State.waitingOf, w.tms rfl]
    exact hw)
  refine ⟨(p.regs _ _ rfl).trans (pgClear_pg _ _), (p.slt rfl).trans (w.slt rfl), ?_⟩
  exact ((within_slt s _ rfl).trans (w.widen (by decide) (by decide) (by decide))).trans (p.widen (by decide) (by decide) (by decide))

/-! ## Trips -/

/-- The channel after a trip. -/
def tripSlot (c : Slot) (cause : Nat) (low : Bool) : Slot :=
  { cutSlot c with aux := false, pwrdis := true, hot := cause = 3, lowWait := cause = 4 && low }

/-- A trip recorded and reported, before what follows it. -/
def tripped (s : State) (x cause : Nat) : State :=
  let s := s.slotCut x
  let s := s.putSlot x { s.slot x with aux := false, pwrdis := true, hot := cause = 3, lowWait := cause = 4 && s.flag SLT_SUPPLY_STATUS_low }
  (((s.set SLT_CH_STATUS_cause x cause).addSat SLT_CH_STATUS_trips x 1).bump (ctrSlt x 0)).raise EV_SLT_TRIP 2 x [cause]

theorem slotTrip_eq (s : State) (x cause : Nat) (h : s.chState x = 3 ∨ s.chState x = 4) : s.slotTrip x cause =
    if 0 < (tripped s x cause).get SLT_CH_STATUS_retries_left x then (tripped s x cause).setCh x 5
    else ((((tripped s x cause).setCh x 6).raise EV_SLT_LATCHED 2 x).adoptFail x).memberFail x 4 := by
  rw [State.slotTrip, if_neg (by simpa [or_iff_not_imp_left] using h)]
  rfl

/-- A trip of a channel without commands. -/
structure Tripped (s t : State) (x cause : Nat) : Prop where
  why     : t.get SLT_CH_STATUS_cause x = cause
  pg      : t.get SLT_CH_STATUS_pg x = 0
  slot    : t.slot x = tripSlot (s.slot x) cause (s.flag SLT_SUPPLY_STATUS_low)
  retries : t.get SLT_CH_STATUS_retries_left x = s.get SLT_CH_STATUS_retries_left x
  member  : t.get REB_MEMBER_state x = s.get REB_MEMBER_state x
  reports : Reports s t EV_SLT_TRIP 2 x [cause]

theorem tripped_after (s : State) (x cause : Nat) (hc : ∀ d ∈ (s.port x).cmds, d.gone = true) (hw : s.waitingOf x = []) (hn : cause < 16) :
    Tripped s (tripped s x cause) x cause := by
  obtain ⟨h1, h2, w⟩ := slotCut_after s x hc hw
  have hslot : (s.slotCut x).slot x = cutSlot (s.slot x) := (slot_congr h2 x).trans (slot_putSlot_same _ _ _)
  have hlow : (s.slotCut x).flag SLT_SUPPLY_STATUS_low = s.flag SLT_SUPPLY_STATUS_low := by
    rw [State.flag, State.flag, w.regs _ _ rfl]
  unfold tripped
  dsimp only
  rw [hslot, hlow]
  generalize State.slotCut s x = u at h1 w
  refine ⟨?_, ?_, ?_, ?_, ?_, ?_⟩
  · rw [get_raise, get_bump, get_addSat_field _ _ _ _ (by decide), get_set_same]
    exact Nat.mod_eq_of_lt hn
  · rw [get_raise, get_bump, get_addSat_field _ _ _ _ (by decide), get_set_field _ _ _ _ (by decide), get_putSlot, h1]
  · exact slot_putSlot_same _ _ _
  · rw [get_raise, get_bump, get_addSat_field _ _ _ _ (by decide), get_set_field _ _ _ _ (by decide), get_putSlot]
    exact w.regs _ _ rfl
  · rw [get_raise, get_bump, get_addSat_field _ _ _ _ (by decide), get_set_field _ _ _ _ (by decide), get_putSlot]
    exact w.regs _ _ rfl
  · refine reports_raise (s := s) _ _ _ _ ?_ ?_ fun f i hf => ?_
    · rw [bump_dtc, addSat_dtc, set_dtc]
      exact w.dtc rfl
    · rw [bump_evt, addSat_evt, set_evt]
      exact w.evt rfl
    · have k : f.reg ≠ SLT_CH_STATUS_trips.reg := fun k => by rw [k] at hf; revert hf; decide
      rw [get_bump, get_addSat_field _ _ _ _ (place_of_reg k), get_set_field _ _ _ _ (place_of_reg (g := SLT_CH_STATUS_cause) k), get_putSlot]
      exact w.regs f i (field_of_other_block cutW f i hf (by decide) (by decide))

/-- A trip with retries left. -/
theorem slotTrip_retried (s : State) (x cause : Nat) (hs : s.chState x = 3 ∨ s.chState x = 4) (hc : ∀ d ∈ (s.port x).cmds, d.gone = true) (hw : s.waitingOf x = [])
    (hn : cause < 16) (hr : 0 < s.get SLT_CH_STATUS_retries_left x) :
    Tripped s (s.slotTrip x cause) x cause ∧ (s.slotTrip x cause).get SLT_CH_STATUS_state x = 5 := by
  have d := tripped_after s x cause hc hw hn
  rw [slotTrip_eq s x cause hs, if_pos (by rw [d.retries]; exact hr)]
  obtain ⟨h1, h2, w⟩ := setCh_after (tripped s x cause) x 5 (by decide)
  exact ⟨⟨(w.regs _ _ rfl).trans d.why, (w.regs _ _ rfl).trans d.pg, (slot_congr h2 x).trans d.slot, (w.regs _ _ rfl).trans d.retries,
    (w.regs _ _ rfl).trans d.member, d.reports.congr (w.evt rfl)⟩, h1⟩

/-- A trip with no retry left, of a slot that is no member. -/
theorem slotTrip_latched (s : State) (x cause : Nat) (hs : s.chState x = 3 ∨ s.chState x = 4) (hc : ∀ d ∈ (s.port x).cmds, d.gone = true) (hw : s.waitingOf x = [])
    (hn : cause < 16) (hr : s.get SLT_CH_STATUS_retries_left x = 0) (hm : s.get REB_MEMBER_state x = 0) :
    (s.slotTrip x cause).get SLT_CH_STATUS_state x = 6 ∧ (s.slotTrip x cause).get SLT_CH_STATUS_cause x = cause ∧
    (s.slotTrip x cause).slot x = tripSlot (s.slot x) cause (s.flag SLT_SUPPLY_STATUS_low) := by
  have d := tripped_after s x cause hc hw hn
  obtain ⟨h1, h2, w⟩ := setCh_after (tripped s x cause) x 6 (by decide)
  have hmem : (((tripped s x cause).setCh x 6).raise EV_SLT_LATCHED 2 x).get REB_MEMBER_state x = 0 := by
    rw [get_raise, w.regs _ _ rfl, d.member, hm]
  have e : s.slotTrip x cause = ((tripped s x cause).setCh x 6).raise EV_SLT_LATCHED 2 x := by
    rw [slotTrip_eq s x cause hs, if_neg (by rw [d.retries, hr]; decide), State.adoptFail, if_neg (by rw [hmem]; decide), State.memberFail, State.live,
      if_pos (by rw [hmem]; decide)]
  rw [e, get_raise, get_raise]
  exact ⟨h1, (w.regs _ _ rfl).trans d.why, (slot_congr (raise_slt _ _ _ _ _) x).trans ((slot_congr h2 x).trans d.slot)⟩

end Sys2Proof.Machine
end

section
/-! PROOFS. Trips of a slot, its retries, its warnings and the supply (R455 to R461). -/

namespace Sys2Proof.Machine

open F

theorem chRuns_state {s : State} {x : Nat} (h : s.chRuns x = true) : s.chState x = 3 ∨ s.chState x = 4 := by
  simp only [State.chRuns, Bool.and_eq_true, Bool.or_eq_true, decide_eq_true_eq] at h
  exact h.2

theorem chRuns_owner {s : State} {x : Nat} (h : s.chRuns x = true) : s.slotOwner x = true := by
  simp only [State.chRuns, Bool.and_eq_true] at h
  exact h.1

/-- A trip in the sample of an event, with retries left. -/
theorem sensed_trip (s : State) (x : Nat) (m : SlotSense) (cause : Nat) (hq : QuietPort s x) (hr : s.chRuns x = true) (hn : cause < 16)
    (hl : 0 < s.get SLT_CH_STATUS_retries_left x) : Tripped (s.sensed x m) ((s.sensed x m).slotTrip x cause) x cause ∧
      ((s.sensed x m).slotTrip x cause).get SLT_CH_STATUS_state x = 5 :=
  slotTrip_retried (s.sensed x m) x cause (chRuns_state hr) hq.gone hq.wait hn hl

/-- A report of a state that has a channel's sample is one of the state. -/
theorem Reports.ofSlot {s t : State} {x : Nat} {c : Slot} {e : EvType} {k n : Nat} {l : List Nat} (h : Reports (s.putSlot x c) t e k n l) :
    Reports s t e k n l := h

/-! ## Retries -/

theorem slotRetry_after (s : State) (x : Nat) : (s.slotRetry x).get SLT_CH_STATUS_state x = 3 ∧ (s.slotRetry x).slot x = step1Slot (s.slot x) ∧
    (s.slotRetry x).get SLT_CH_STATUS_retries_left x = (s.get SLT_CH_STATUS_retries_left x - 1) % 2 ^ SLT_CH_STATUS_retries_left.w ∧
    (∀ y, y ≠ x → (s.slotRetry x).slot y = s.slot y) ∧ Within startW s (s.slotRetry x) := by
  obtain ⟨h1, h2, h3⟩ := slotStep1_after (s.set SLT_CH_STATUS_retries_left x (s.get SLT_CH_STATUS_retries_left x - 1)) x
  have hs : (s.slotRetry x).slt = (s.putSlot x (step1Slot (s.slot x))).slt := (bump_slt _ _ _).trans h2
  refine ⟨(get_bump _ _ _ _ _).trans h1, (slot_congr hs x).trans (slot_putSlot_same _ _ _), ?_, fun y hy => ?_, ?_⟩
  · exact (get_bump _ _ _ _ _).trans ((h3.regs SLT_CH_STATUS_retries_left x rfl).trans (get_set_same _ _ _ _))
  · exact (slot_congr hs y).trans (slot_putSlot_other _ _ (Ne.symm hy))
  · exact ((within_set s SLT_CH_STATUS_retries_left _ _ rfl).trans (h3.widen (by decide) (by decide) (by decide))).trans (within_bump _ _ _ rfl)

/-! ## The supply -/

/-- A slot at the end of the supply's dip: its wait for it ends, an undervoltage retry proceeds. -/
def supplySlot (s : State) (x : Nat) : State :=
  let c := s.slot x
  let s := if c.lowWait then s.putSlot x { c with lowWait := false } else s
  if c.lowWait && c.waited && s.chState x = 5 && !s.slt.dumped then s.slotRetry x else s

theorem supplySlot_after (s : State) (x : Nat) : ((supplySlot s x).slot x).lowWait = false ∧ (∀ y, y ≠ x → (supplySlot s x).slot y = s.slot y) ∧
    Within startW s (supplySlot s x) := by
  unfold supplySlot
  extract_lets c u
  have h1 : (u.slot x).lowWait = false ∧ (∀ y, y ≠ x → u.slot y = s.slot y) ∧ Within startW s u := by
    unfold u
    split
    · exact ⟨by rw [slot_putSlot_same], fun y hy => slot_putSlot_other _ _ (Ne.symm hy), within_slt s _ rfl⟩
    · next h => exact ⟨by simpa using h, fun _ _ => rfl, .refl _ _⟩
  obtain ⟨l, o, w⟩ := h1
  split
  · obtain ⟨_, r2, _, r4, r5⟩ := slotRetry_after u x
    exact ⟨by rw [r2]; rfl, fun y hy => (r4 y hy).trans (o y hy), w.trans r5⟩
  · exact ⟨l, o, w⟩

/-- Slots of a list at the end of the supply's dip: none of them waits for it, nor one that did not before. -/
theorem supplyEach_lowWait (l : List Nat) (s : State) (x : Nat) (h : x ∈ l ∨ (s.slot x).lowWait = false) :
    ((s.each l supplySlot).slot x).lowWait = false := by
  induction l generalizing s with
  | nil => exact h.resolve_left List.not_mem_nil
  | cons y l ih =>
    obtain ⟨h1, h2, _⟩ := supplySlot_after s y
    refine ih (supplySlot s y) ?_
    by_cases e : x = y
    · subst e
      exact .inr h1
    · rw [h2 x e]
      exact h.imp_left fun hm => (List.mem_cons.mp hm).resolve_left e

/-- Settles O51: each trip is a cut, a record and a report, each retry step 1 again, each warning a report. -/
theorem slotTripsAndRetries : Obligations.SlotTripsAndRetries := by
  unfold Obligations.SlotTripsAndRetries
  refine ⟨fun s x m hq hr hp hv hl => ⟨_, rfl, ?_⟩, fun s x m hq hr hi hl hm => ⟨_, rfl, ?_⟩, fun s x m hq hr hg hl => ⟨_, rfl, ?_⟩,
    fun s x m hq hr hl => ⟨_, rfl, ?_⟩, fun s x m hx ho hw => ⟨_, rfl, ?_⟩, fun s x hx hh hw hs hd hl => ⟨_, rfl, ?_⟩,
    fun s x hx ho hs hd hh hw => ⟨_, rfl, ?_⟩, fun s x hx ho hs hd hh => ⟨_, rfl, ?_⟩, fun s x hx ho hp => ⟨_, rfl, ?_⟩,
    fun s mv hv hl => ⟨_, rfl, ?_⟩, fun s mv hv => ⟨_, rfl, ?_⟩, fun s x a hx ha hr => ⟨_, rfl, ?_⟩⟩
  · obtain ⟨d, h5⟩ := sensed_trip s x m 4 hq hr (by decide) hl
    rw [Nat.mod_eq_of_lt hq.slot, if_neg (by simp [hr, hp]), if_pos hv]
    refine ⟨?_, ?_, ?_, ?_, d.reports.ofSlot⟩
    · rw [get_only_in _ _ _ _ _ rfl, h5]
    · rw [get_only_in _ _ _ _ _ rfl, d.why]
    · rw [get_only_in _ _ _ _ _ rfl, d.pg]
    · exact (congrArg Slot.gate d.slot).trans rfl
  · obtain ⟨h6, hc, hs⟩ := slotTrip_latched (s.sensed x m) x 1 (chRuns_state hr) hq.gone hq.wait (by decide) hl hm
    rw [Nat.mod_eq_of_lt hq.slot, if_pos (by simp [hr, hi])]
    refine ⟨?_, ?_, ?_⟩
    · rw [get_only_in _ _ _ _ _ rfl, h6]
    · rw [get_only_in _ _ _ _ _ rfl, hc]
    · exact (congrArg Slot.gate hs).trans rfl
  · let u := (s.sensed x m).putSlot x { (s.sensed x m).slot x with fault := 8000 * (s.sensed x m).faultMs }
    obtain ⟨d, h5⟩ := slotTrip_retried u x 2 (chRuns_state hr) hq.gone hq.wait (by decide) hl
    rw [Nat.mod_eq_of_lt hq.slot, if_pos (by simp [hr, hg])]
    refine ⟨?_, ?_, ?_, ?_⟩
    · rw [get_only_in _ _ _ _ _ rfl]
      exact h5
    · rw [get_only_in _ _ _ _ _ rfl]
      exact d.why
    · exact (congrArg Slot.gate d.slot).trans rfl
    · exact (congrArg Slot.fault d.slot).trans rfl
  · obtain ⟨d, h5⟩ := sensed_trip s x m 3 hq hr (by decide) hl
    rw [Nat.mod_eq_of_lt hq.slot, if_pos hr]
    refine ⟨?_, ?_, ?_, d.reports.ofSlot⟩
    · rw [get_only_in _ _ _ _ _ rfl, h5]
    · rw [get_only_in _ _ _ _ _ rfl, d.why]
    · exact (congrArg Slot.hot d.slot).trans rfl
  · rw [Nat.mod_eq_of_lt hx, if_neg (by simp [ho, hw])]
    refine ⟨?_, reports_raise (s := s) (u := (s.sensed x m).putSlot x { (s.sensed x m).slot x with warned := true }) _ _ _ _ rfl rfl fun _ _ _ => rfl⟩
    exact congrArg Slot.warned (slot_putSlot_same _ _ _)
  · rw [Nat.mod_eq_of_lt hx, if_pos (by simp [hh, hw, hs, hd, State.chState])]
    obtain ⟨h1, h2, _⟩ := slotRetry_after (s.putSlot x { s.slot x with hot := false, warned := false }) x
    rw [slot_putSlot_same] at h2
    refine ⟨?_, ?_, ?_⟩
    · rw [get_only_in _ _ _ _ _ rfl, h1]
    · exact (congrArg Slot.aux h2).trans rfl
    · exact (congrArg Slot.warned h2).trans rfl
  · rw [Nat.mod_eq_of_lt hx, if_neg (by simp [ho, hs, hd, State.chState]), if_neg (by simp [hh, hw])]
    obtain ⟨h1, h2, h3, _⟩ := slotRetry_after s x
    refine ⟨?_, ?_, ?_⟩
    · rw [get_only_in _ _ _ _ _ rfl, h1]
    · exact (congrArg Slot.aux h2).trans rfl
    · rw [get_only_in _ _ _ _ _ rfl, h3]
  · rw [Nat.mod_eq_of_lt hx, if_neg (by simp [ho, hs, hd, State.chState]), if_pos (by simp [hh])]
    refine ⟨?_, slot_putSlot_same _ _ _⟩
    rw [get_only_in _ _ _ _ _ rfl, get_putSlot, hs]
  · rw [Nat.mod_eq_of_lt hx, if_pos (by simp [ho, hp]), get_only_in _ _ _ _ _ rfl, get_set_same]
  · rw [if_neg (by simp [hl]; omega)]
    generalize List.range 32 = l
    have hw : ∀ u : State, Within { parts := [.slt] } u (u.each l fun s x =>
        if s.chState x = 5 && s.get SLT_CH_STATUS_cause x = 4 then s.putSlot x { s.slot x with lowWait := true } else s) := fun u =>
      within_each u _ _ fun s x => within_ite _ (fun _ => within_slt s _ rfl) fun _ => .refl _ _
    refine ⟨?_, reports_raise (s := s) _ _ _ _ ((hw _).dtc rfl) ((hw _).evt rfl) fun f i hf => ?_⟩
    · rw [get_only_in _ _ _ _ _ rfl]
      dsimp only
      rw [get_raise, (hw _).regs _ _ rfl, get_set_same]
      rfl
    · have k : f.reg ≠ SLT_SUPPLY_STATUS_low.reg := fun k => by rw [k] at hf; revert hf; decide
      rw [(hw _).regs f i rfl, get_set_field _ _ _ _ (place_of_reg k), get_set_field _ _ _ _ (place_of_reg (g := SLT_SUPPLY_STATUS_v_mv) k)]
  · have hl : ∀ x, x < 32 → x ∈ List.range 32 := fun x hx => List.mem_range.mpr hx
    rw [if_neg (by omega)]
    generalize List.range 32 = l at hl ⊢
    have hw : ∀ u : State, Within startW u (u.each l supplySlot) := fun u => within_each u _ _ fun s x => (supplySlot_after s x).2.2
    refine ⟨?_, fun x hx => supplyEach_lowWait l _ x (.inl (hl x hx))⟩
    rw [get_only_in _ _ _ _ _ rfl]
    show (State.each _ l supplySlot).get SLT_SUPPLY_STATUS_low = 0
    rw [(hw _).regs _ _ rfl, get_set_same]
    rfl
  · have k : ∀ f : Fld, f.reg / 0x100000 = 2 → f.reg ≠ SLT_CH_AVG_p_avg_dw.reg := fun f hf k => by rw [k] at hf; revert hf; decide
    rw [Nat.mod_eq_of_lt hx, if_neg (by simp [hr]; omega)]
    refine ⟨?_, Reports.congr (reports_raise (s := s) (u := (s.set SLT_CH_AVG_p_avg_dw x a).putSlot x { (s.set SLT_CH_AVG_p_avg_dw x a).slot x with
      overRaised := true }) EV_SLT_OVER_POWER 2 x [] rfl rfl fun f i hf => get_set_field s x a i (place_of_reg (k f hf))) rfl⟩
    exact slot_putSlot_same _ _ _

end Sys2Proof.Machine
end

section
/-! PROOFS. A seated slot powered step by step, removed, and acted on by commands (R452 to R455, R463, R464). -/

namespace Sys2Proof.Machine

open F

/-- A report of another state with the same clock, EVT block and EVT registers. -/
theorem Reports.ofSame {s u t : State} {e : EvType} {k n : Nat} {l : List Nat} (h : Reports u t e k n l) (hd : u.dtc = s.dtc) (he : u.evt = s.evt)
    (hr : ∀ f i, f.reg / 0x100000 = 2 → u.get f i = s.get f i) : Reports s t e k n l := by
  obtain ⟨v, vd, ve, vr, vt⟩ := h
  exact ⟨v, vd.trans hd, ve.trans he, fun f i hf => (vr f i hf).trans (hr f i hf), vt⟩

/-- Registers of the EVT block after a register of another block is set. -/
theorem get_set_evt (s : State) (g : Fld) (i v : Nat) (hg : g.reg / 0x100000 ≠ 2) (f : Fld) (j : Nat) (hf : f.reg / 0x100000 = 2) :
    (s.set g i v).get f j = s.get f j :=
  get_set_field s i v j fun e => hg (by rw [show g.reg = f.reg from congrArg Prod.fst e, hf])

@[simp] theorem get_putPort (s : State) (x : Nat) (p : Port) (f : Fld) (i : Nat) : (s.putPort x p).get f i = s.get f i := rfl

theorem slot_putPort (s : State) (x : Nat) (p : Port) (y : Nat) : (s.putPort x p).slot y = s.slot y := rfl

theorem slot_set (s : State) (f : Fld) (i v y : Nat) : (s.set f i v).slot y = s.slot y := rfl

/-! ## Turning off -/

/-- What an orderly turn-off of a channel without commands writes. -/
def offW : Writes := { parts := [.ctr, .tms, .drv, .slt, .pair, .outbox], fields := cutW.fields ++ [SLT_CH_STATUS_cause, SLT_CH_STATUS_state] }

/-- An orderly turn-off of an active channel without commands. -/
theorem slotTurnOff_active (s : State) (x cause : Nat) (ho : s.slotOwner x = true) (ha : s.chActive x = true) (hc : ∀ d ∈ (s.port x).cmds, d.gone = true)
    (hw : s.waitingOf x = []) (hn : cause < 16) : (s.slotTurnOff x cause).get SLT_CH_STATUS_state x = 2 ∧
      (s.slotTurnOff x cause).get SLT_CH_STATUS_cause x = cause ∧ (s.slotTurnOff x cause).get SLT_CH_STATUS_pg x = 0 ∧
      (s.slotTurnOff x cause).slot x = { cutSlot (s.slot x) with pwrdis := true, cycling := false, barred := cause = 8 } ∧
      Within offW s (s.slotTurnOff x cause) := by
  obtain ⟨h1, h2, w⟩ := slotCut_after s x hc hw
  have hslot : (s.slotCut x).slot x = cutSlot (s.slot x) := (slot_congr h2 x).trans (slot_putSlot_same _ _ _)
  rw [State.slotTurnOff, if_neg (by simp [ho]), if_neg (by simp [ha])]
  dsimp only
  rw [hslot]
  generalize State.slotCut s x = u at h1 w
  obtain ⟨c1, c2, c3⟩ := setCh_after ((u.putSlot x { cutSlot (s.slot x) with pwrdis := true, cycling := false, barred := cause = 8 }).set
    SLT_CH_STATUS_cause x cause) x 2 (by decide)
  refine ⟨c1, ?_, ?_, ?_, ?_⟩
  · rw [c3.regs _ _ rfl, get_set_same]
    exact Nat.mod_eq_of_lt hn
  · rw [c3.regs _ _ rfl, get_set_field _ _ _ _ (by decide), get_putSlot, h1]
  · exact (slot_congr c2 x).trans (slot_putSlot_same _ _ _)
  · exact (((w.widen (by decide) (by decide) (by decide)).trans (within_slt u _ rfl)).trans (within_set _ SLT_CH_STATUS_cause x cause rfl)).trans
      (c3.widen (by decide) (by decide) (by decide))

/-! ## Seating -/

theorem slotPresent_powers (s : State) (x : Nat) (ho : s.slotOwner x = true) (hp : s.flag SLT_CH_STATUS_present x = false)
    (ha : s.flag SLT_CH_CFG_auto_on x = true) (he : s.slt.enabled = true) (hd : s.slt.dumped = false) (hb : (s.slot x).barred = false)
    (hc : (s.slot x).cycling = false) :
    s.slotPresent x false = (((s.set SLT_CH_STATUS_present x 1).raise EV_SLT_SEATED 2 x).setCh x 2).slotStart x := by
  have hs : ((s.set SLT_CH_STATUS_present x 1).raise EV_SLT_SEATED 2 x).slt = s.slt := (raise_slt _ _ _ _ _).trans (set_slt _ _ _ _)
  have hg : ∀ f, (SLT_CH_STATUS_present.reg, SLT_CH_STATUS_present.lo) ≠ (f.reg, f.lo) →
      ((s.set SLT_CH_STATUS_present x 1).raise EV_SLT_SEATED 2 x).get f x = s.get f x := fun f k => (get_raise _ _ _ _ _ _ _).trans (get_set_field _ _ _ _ k)
  have hpres : ((s.set SLT_CH_STATUS_present x 1).raise EV_SLT_SEATED 2 x).get SLT_CH_STATUS_present x = 1 := (get_raise _ _ _ _ _ _ _).trans (get_set_same _ _ _ _)
  rw [State.slotPresent, if_neg (by simp [ho, hp])]
  dsimp only
  rw [if_neg Bool.false_ne_true]
  generalize (s.set SLT_CH_STATUS_present x 1).raise EV_SLT_SEATED 2 x = u at hs hg hpres ⊢
  obtain ⟨c1, c2, c3⟩ := setCh_after u x 2 (by decide)
  have hauto : (u.setCh x 2).autoPower x = true := by
    simp only [State.slotOwner, State.flag] at ho ha
    simp only [State.autoPower, State.slotOwner, State.chState, State.flag, c1, c2, slot_congr c2, c3.regs SLT_CH_STATUS_owner x rfl,
      c3.regs SLT_CH_STATUS_present x rfl, c3.regs SLT_CH_CFG_auto_on x rfl, hg SLT_CH_STATUS_owner (by decide), hg SLT_CH_CFG_auto_on (by decide), hpres,
      hs, slot_congr hs, ho, ha, he, hd, hb, hc]
    rfl
  rw [if_pos hauto]

theorem slotPresent_refused (s : State) (x : Nat) (ho : s.slotOwner x = true) (hp : s.flag SLT_CH_STATUS_present x = false) :
    s.slotPresent x true = (((s.set SLT_CH_STATUS_present x 1).raise EV_SLT_SEATED 2 x).setCh x 7).raise EV_SLT_IF_REFUSED 2 x := by
  rw [State.slotPresent, if_neg (by simp [ho, hp])]
  rfl

/-! ## Removal -/

/-- The end of a removal: the report, the port's state, the member. -/
def absentEnd (s : State) (x : Nat) : State :=
  let s := s.raise EV_SLT_REMOVED 2 x
  let s := (s.putPort x { s.port x with barred := false }).set DRV_PORT_STATUS_state x 0
  let s := if s.live x then s.memberFail x 2 else s.adoptFail x
  let s := s.putSlot x { s.slot x with barred := false }
  if s.get REB_MEMBER_state x = 1 then s.set REB_MEMBER_state x 0 else s

/-- The removal of a slot that is no member: the report and the port's state alone. -/
theorem absentEnd_empty (s : State) (x : Nat) (hm : s.get REB_MEMBER_state x = 0) : ∃ d, absentEnd s x =
    State.putSlot (State.set ((s.raise EV_SLT_REMOVED 2 x).putPort x d) DRV_PORT_STATUS_state x 0) x { s.slot x with barred := false } := by
  unfold absentEnd
  dsimp only
  generalize hu : State.set ((s.raise EV_SLT_REMOVED 2 x).putPort x { (s.raise EV_SLT_REMOVED 2 x).port x with barred := false }) DRV_PORT_STATUS_state x 0 = u
  have hum : u.get REB_MEMBER_state x = 0 := by
    rw [← hu, get_set_field _ _ _ _ (by decide), get_putPort, get_raise, hm]
  have hus : u.slot x = s.slot x := by
    rw [← hu, slot_set, slot_putPort]
    exact slot_congr (raise_slt s _ _ _ _) x
  have hl : (if u.live x = true then u.memberFail x 2 else u.adoptFail x) = u := by
    rw [State.live, hum, if_neg (by decide), State.adoptFail, if_neg (by rw [hum]; decide)]
  rw [hl, hus, get_putSlot, hum, if_neg (by decide), ← hu]
  exact ⟨_, rfl⟩

/-- The beginning of a removal: the outputs cut, the channel empty. -/
def absentCut (s : State) (x : Nat) : State :=
  let act := s.chActive x
  let s := (s.set SLT_CH_STATUS_present x 0).slotCut x
  let s := s.putSlot x { s.slot x with aux := false, pwrdis := false, cycling := false }
  let s := if act then s.set SLT_CH_STATUS_cause x 6 else s
  s.setCh x 0

theorem slotAbsent_eq (s : State) (x : Nat) (ho : s.slotOwner x = true) (hp : s.flag SLT_CH_STATUS_present x = true) :
    s.slotAbsent x = absentEnd (absentCut s x) x := by
  rw [State.slotAbsent, if_neg (by simp [ho, hp])]
  rfl

/-- What the beginning of a removal writes. -/
def absentW : Writes := { parts := [.ctr, .tms, .drv, .slt, .pair, .outbox], fields := cutW.fields ++ [SLT_CH_STATUS_present,
  SLT_CH_STATUS_cause, SLT_CH_STATUS_state] }

theorem absentCut_after (s : State) (x : Nat) (hc : ∀ d ∈ (s.port x).cmds, d.gone = true) (hw : s.waitingOf x = []) :
    (absentCut s x).get SLT_CH_STATUS_present x = 0 ∧ (absentCut s x).get SLT_CH_STATUS_state x = 0 ∧ (absentCut s x).get SLT_CH_STATUS_pg x = 0 ∧
    ((absentCut s x).slot x).gate = false ∧ ((absentCut s x).slot x).aux = false ∧ Within absentW s (absentCut s x) := by
  obtain ⟨h1, h2, w⟩ := slotCut_after (s.set SLT_CH_STATUS_present x 0) x (by rw [State.port, set_drv]; exact hc) (by
    rw [State.waitingOf, set_tms]; exact hw)
  have hslot : ((s.set SLT_CH_STATUS_present x 0).slotCut x).slot x = cutSlot (s.slot x) := (slot_congr h2 x).trans (slot_putSlot_same _ _ _)
  have hpres : ((s.set SLT_CH_STATUS_present x 0).slotCut x).get SLT_CH_STATUS_present x = 0 := by
    rw [w.regs _ _ rfl, get_set_same]
    rfl
  have hin : Within absentW s ((s.set SLT_CH_STATUS_present x 0).slotCut x) :=
    (within_set s SLT_CH_STATUS_present x 0 rfl).trans (w.widen (by decide) (by decide) (by decide))
  unfold absentCut
  dsimp only
  rw [hslot]
  generalize (s.set SLT_CH_STATUS_present x 0).slotCut x = u at h1 hpres hin
  generalize hv : (if s.chActive x = true then (u.putSlot x { cutSlot (s.slot x) with aux := false, pwrdis := false, cycling := false }).set
    SLT_CH_STATUS_cause x 6 else u.putSlot x { cutSlot (s.slot x) with aux := false, pwrdis := false, cycling := false }) = v
  have hvs : v.slot x = { cutSlot (s.slot x) with aux := false, pwrdis := false, cycling := false } := by
    rw [← hv]
    split <;> exact slot_putSlot_same _ _ _
  have hvw : Within { parts := [.slt], fields := [SLT_CH_STATUS_cause] } u v := by
    rw [← hv]
    exact within_ite _ (fun _ => (within_slt u _ rfl).trans (within_set _ _ _ _ rfl)) fun _ => within_slt u _ rfl
  obtain ⟨c1, c2, c3⟩ := setCh_after v x 0 (by decide)
  have hcs : (v.setCh x 0).slot x = { cutSlot (s.slot x) with aux := false, pwrdis := false, cycling := false } := (slot_congr c2 x).trans hvs
  refine ⟨?_, c1, ?_, by rw [hcs]; rfl, by rw [hcs], ?_⟩
  · rw [c3.regs _ _ rfl, hvw.regs _ _ rfl, hpres]
  · rw [c3.regs _ _ rfl, hvw.regs _ _ rfl, h1]
  · exact (hin.trans (hvw.widen (by decide) (by decide) (by decide))).trans (c3.widen (by decide) (by decide) (by decide))

/-- A slot without commands and without a member is emptied. -/
theorem slotAbsent_after (s : State) (x : Nat) (hq : QuietPort s x) (ho : s.slotOwner x = true) (hp : s.flag SLT_CH_STATUS_present x = true)
    (hm : s.get REB_MEMBER_state x = 0) : (s.slotAbsent x).get SLT_CH_STATUS_present x = 0 ∧ (s.slotAbsent x).get SLT_CH_STATUS_state x = 0 ∧
      (s.slotAbsent x).get SLT_CH_STATUS_pg x = 0 ∧ ((s.slotAbsent x).slot x).gate = false ∧ ((s.slotAbsent x).slot x).aux = false ∧
      Reports s (s.slotAbsent x) EV_SLT_REMOVED 2 x [] := by
  obtain ⟨h1, h2, h3, h4, h5, w⟩ := absentCut_after s x hq.gone hq.wait
  rw [slotAbsent_eq s x ho hp]
  generalize absentCut s x = u at h1 h2 h3 h4 h5 w
  obtain ⟨d, e⟩ := absentEnd_empty u x ((w.regs _ _ rfl).trans hm)
  have hg : ∀ f, (DRV_PORT_STATUS_state.reg, DRV_PORT_STATUS_state.lo) ≠ (f.reg, f.lo) → (absentEnd u x).get f x = u.get f x := fun f k => by
    rw [e, get_putSlot, get_set_field _ _ _ _ k, get_putPort, get_raise]
  have hs : (absentEnd u x).slot x = { u.slot x with barred := false } := by rw [e, slot_putSlot_same]
  refine ⟨(hg _ (by decide)).trans h1, (hg _ (by decide)).trans h2, (hg _ (by decide)).trans h3, by rw [hs]; exact h4, by rw [hs]; exact h5, ?_⟩
  have hr : Reports s (u.raise EV_SLT_REMOVED 2 x) EV_SLT_REMOVED 2 x [] := reports_raise (s := s) (u := u) EV_SLT_REMOVED 2 x [] (w.dtc rfl) (w.evt rfl)
    fun f i hf => w.regs f i (field_of_other_block absentW f i hf (by decide) (by decide))
  exact hr.congr (by rw [e]; rfl)

/-! ## Commands -/

/-- An operation that the owner carries out. -/
theorem sltCmd_owner (s : State) (x op : Nat) (hb : s.flag SLT_CMD_busy = false) (ho : s.slotOwner x = true) :
    s.sltCmd x op = (s.sltOp x op).1.set SLT_CMD_result 0 (s.sltOp x op).2 := by
  rw [State.sltCmd, if_neg (by simp [hb]), if_pos ho]

theorem sltCmd_refused (s : State) (x op : Nat) (hb : s.flag SLT_CMD_busy = false) (ho : s.slotOwner x = false) (hp : s.pair.active = false) :
    s.sltCmd x op = s.set SLT_CMD_result 0 2 := by
  rw [State.sltCmd, if_neg (by simp [hb]), if_neg (by simp [ho]), if_neg (by simp [hp])]

theorem sltOp_on (s : State) (x : Nat) (h : s.get SLT_CH_STATUS_state x = 2) (hd : s.slt.dumped = false) : s.sltOp x 1 = (s.slotStart x, 0) := by
  simp [State.sltOp, State.chState, h, hd]

theorem sltOp_off (s : State) (x : Nat) (h : s.get SLT_CH_STATUS_state x = 4) : s.sltOp x 2 = (s.slotTurnOff x 7, 0) := by
  simp [State.sltOp, State.chState, h]

theorem sltOp_cycle (s : State) (x : Nat) (h : s.get SLT_CH_STATUS_state x = 4) (hd : s.slt.dumped = false) :
    s.sltOp x 3 = ((s.slotTurnOff x 7).putSlot x { (s.slotTurnOff x 7).slot x with cycling := true }, 0) := by
  simp [State.sltOp, State.chState, h, hd]

/-- Settles O50: each step of a power-up, and each command, is one change of the channel. -/
theorem slotPowerUp : Obligations.SlotPowerUp := by
  unfold Obligations.SlotPowerUp
  refine ⟨fun s x hx ho hp ha he hd hb hc => ⟨_, rfl, ?_⟩, fun s x hx ho hp => ⟨_, rfl, ?_⟩, fun s x hq ho hp hm => ⟨_, rfl, ?_⟩,
    fun s x hx ha => ⟨_, rfl, ?_⟩, fun s x m hx hr hs hv => ⟨_, rfl, ?_⟩, fun s x m hq hr hs hv hl => ⟨_, rfl, ?_⟩,
    fun s x m hx hr hs => ⟨_, rfl, ?_⟩, fun s x m hx hr hs hp hv hf => ⟨_, rfl, ?_⟩, fun s x hx hp hr => ⟨_, rfl, ?_⟩,
    fun s x hx hb ho hs hd => ⟨_, rfl, ?_⟩, fun s x hx hb ho hp => ⟨_, rfl, ?_⟩, fun s x hq hb ho hs => ⟨_, rfl, ?_⟩,
    fun s x hq hb ho hs hd => ⟨_, rfl, ?_⟩, fun s x hx hb ho => ⟨_, rfl, ?_⟩, fun s x hx hb ho => ⟨_, rfl, ?_⟩,
    fun s x hx ho hr => ⟨_, rfl, ?_⟩, fun s x hx ho hc hs hd => ⟨_, rfl, ?_⟩⟩
  · rw [Nat.mod_eq_of_lt hx, slotPresent_powers s x ho hp ha he hd hb hc]
    obtain ⟨c1, c2, c3⟩ := setCh_after ((s.set SLT_CH_STATUS_present x 1).raise EV_SLT_SEATED 2 x) x 2 (by decide)
    have hpres : (((s.set SLT_CH_STATUS_present x 1).raise EV_SLT_SEATED 2 x).setCh x 2).get SLT_CH_STATUS_present x = 1 := by
      rw [c3.regs _ _ rfl, get_raise, get_set_same]
      rfl
    have hrep : Reports s (((s.set SLT_CH_STATUS_present x 1).raise EV_SLT_SEATED 2 x).setCh x 2) EV_SLT_SEATED 2 x [] :=
      Reports.congr (reports_raise (s := s) (u := s.set SLT_CH_STATUS_present x 1) EV_SLT_SEATED 2 x [] rfl rfl
        fun f i hf => get_set_evt s _ _ _ (by decide) f i hf) (c3.evt rfl)
    generalize ((s.set SLT_CH_STATUS_present x 1).raise EV_SLT_SEATED 2 x).setCh x 2 = u at hpres hrep
    obtain ⟨h1, h2, _, w⟩ := slotStart_after u x
    refine ⟨?_, ?_, (congrArg Slot.aux h2).trans rfl, (congrArg Slot.step h2).trans rfl, hrep.congr (w.evt rfl)⟩
    · rw [get_only_in _ _ _ _ _ rfl, w.regs _ _ rfl, hpres]
    · rw [get_only_in _ _ _ _ _ rfl, h1]
  · obtain ⟨c1, c2, c3⟩ := setCh_after ((s.set SLT_CH_STATUS_present x 1).raise EV_SLT_SEATED 2 x) x 7 (by decide)
    rw [Nat.mod_eq_of_lt hx, slotPresent_refused s x ho hp]
    refine ⟨?_, ?_, ?_⟩
    · rw [get_only_in _ _ _ _ _ rfl, get_raise, c3.regs _ _ rfl, get_raise, get_set_same]
      rfl
    · rw [get_only_in _ _ _ _ _ rfl, get_raise, c1]
    · show ((((s.set SLT_CH_STATUS_present x 1).raise EV_SLT_SEATED 2 x).setCh x 7).raise EV_SLT_IF_REFUSED 2 x).slt = s.slt
      rw [raise_slt, c2, raise_slt, set_slt]
  · obtain ⟨h1, h2, h3, h4, h5, h6⟩ := slotAbsent_after s x hq ho hp hm
    rw [Nat.mod_eq_of_lt hq.slot]
    refine ⟨?_, ?_, ?_, h4, h5, h6⟩
    · rw [get_only_in _ _ _ _ _ rfl, h1]
    · rw [get_only_in _ _ _ _ _ rfl, h2]
    · rw [get_only_in _ _ _ _ _ rfl, h3]
  · obtain ⟨h1, h2, h3, _⟩ := slotStart_after s x
    rw [Nat.mod_eq_of_lt hx, if_pos ha]
    refine ⟨?_, (congrArg Slot.aux h2).trans rfl, (congrArg Slot.step h2).trans rfl, ?_⟩
    · rw [get_only_in _ _ _ _ _ rfl, h1]
    · rw [get_only_in _ _ _ _ _ rfl, h3]
  · rw [Nat.mod_eq_of_lt hx, if_neg (by simp [hr, hs]), if_neg (by omega)]
    show State.slot (State.putSlot _ x _) x = _
    rw [slot_putSlot_same, State.sensed, slot_putSlot_same]
  · obtain ⟨d, h5⟩ := sensed_trip s x m 5 hq hr (by decide) hl
    rw [Nat.mod_eq_of_lt hq.slot, if_neg (by simp [hr, hs]), if_pos hv]
    refine ⟨?_, ?_, ?_, d.reports.ofSlot⟩
    · rw [get_only_in _ _ _ _ _ rfl, h5]
    · rw [get_only_in _ _ _ _ _ rfl, d.why]
    · exact (congrArg Slot.aux d.slot).trans rfl
  · rw [Nat.mod_eq_of_lt hx, if_pos (by simp [hr, hs])]
    show State.slot (State.putSlot _ x _) x = _
    rw [slot_putSlot_same, State.sensed, slot_putSlot_same]
  · rw [Nat.mod_eq_of_lt hx, if_pos (by simp [hr, hs, hp, hv, hf])]
    obtain ⟨c1, _, c3⟩ := setCh_after ((s.sensed x m).pgSet x) x 4 (by decide)
    refine ⟨?_, ?_⟩
    · rw [get_only_in _ _ _ _ _ rfl, c3.regs _ _ rfl, State.pgSet, get_enter, get_set_same]
      rfl
    · rw [get_only_in _ _ _ _ _ rfl, c1]
  · rw [Nat.mod_eq_of_lt hx, if_pos (by simp [hp, hr])]
    refine ⟨?_, ?_⟩
    · rw [get_only_in _ _ _ _ _ rfl, get_set_field _ _ _ _ (by decide), get_set_same]
      rfl
    · rw [get_only_in _ _ _ _ _ rfl, get_set_same]
      rfl
  · obtain ⟨h1, h2, _⟩ := slotStart_after s x
    rw [Nat.mod_eq_of_lt hx, sltCmd_owner s x 1 hb ho, sltOp_on s x hs hd]
    refine ⟨?_, (congrArg Slot.aux h2).trans rfl, ?_⟩
    · rw [get_only_in _ _ _ _ _ rfl, get_set_field _ _ _ _ (by decide), h1]
    · rw [get_only_in _ _ _ _ _ rfl, get_set_same]
      rfl
  · rw [Nat.mod_eq_of_lt hx, sltCmd_refused s x 1 hb ho hp]
    refine ⟨?_, rfl⟩
    rw [get_only_in _ _ _ _ _ rfl, get_set_same]
    rfl
  · obtain ⟨h1, h2, h3, h4, _⟩ := slotTurnOff_active s x 7 ho (by simp [State.chActive, State.chState, hs]) hq.gone hq.wait (by decide)
    rw [Nat.mod_eq_of_lt hq.slot, sltCmd_owner s x 2 hb ho, sltOp_off s x hs]
    refine ⟨?_, ?_, ?_, (congrArg Slot.gate h4).trans rfl, (congrArg Slot.pwrdis h4).trans rfl, ?_⟩
    · rw [get_only_in _ _ _ _ _ rfl, get_set_field _ _ _ _ (by decide), h1]
    · rw [get_only_in _ _ _ _ _ rfl, get_set_field _ _ _ _ (by decide), h2]
    · rw [get_only_in _ _ _ _ _ rfl, get_set_field _ _ _ _ (by decide), h3]
    · rw [get_only_in _ _ _ _ _ rfl, get_set_same]
      rfl
  · obtain ⟨h1, _⟩ := slotTurnOff_active s x 7 ho (by simp [State.chActive, State.chState, hs]) hq.gone hq.wait (by decide)
    rw [Nat.mod_eq_of_lt hq.slot, sltCmd_owner s x 3 hb ho, sltOp_cycle s x hs hd]
    refine ⟨?_, congrArg Slot.cycling (slot_putSlot_same _ _ _), ?_⟩
    · rw [get_only_in _ _ _ _ _ rfl, get_set_field _ _ _ _ (by decide), get_putSlot, h1]
    · rw [get_only_in _ _ _ _ _ rfl, get_set_same]
      rfl
  · rw [Nat.mod_eq_of_lt hx, sltCmd_owner s x 4 hb ho]
    refine ⟨?_, rfl⟩
    rw [get_only_in _ _ _ _ _ rfl, get_set_field _ _ _ _ (by decide)]
    exact get_set_same s SLT_CH_STATUS_locate x 1
  · rw [Nat.mod_eq_of_lt hx, sltCmd_owner s x 5 hb ho]
    refine ⟨?_, rfl⟩
    rw [get_only_in _ _ _ _ _ rfl, get_set_field _ _ _ _ (by decide)]
    exact get_set_same s SLT_CH_STATUS_locate x 0
  · rw [Nat.mod_eq_of_lt hx, if_pos (by simp [ho, hr])]
    exact slot_putSlot_same _ _ _
  · obtain ⟨h1, h2, _⟩ := slotStart_after s x
    rw [Nat.mod_eq_of_lt hx, if_pos (by simp [ho, hc, hs, hd, State.chState])]
    refine ⟨?_, (congrArg Slot.aux h2).trans rfl, (congrArg Slot.cycling h2).trans rfl⟩
    rw [get_only_in _ _ _ _ _ rfl, h1]

end Sys2Proof.Machine
end

section
/-! PROOFS. A dump from its beginning to its seal, and an orderly stop that drains or runs out of time (R262 to R269). -/

namespace Sys2Proof.Machine

open F

/-! ## No drive command left -/

/-- Every drive command is gone and none waits on the drive root. -/
structure NoDrive (s : State) : Prop where
  cmds : ∀ x, ∀ d ∈ (s.port x).cmds, d.gone = true
  wait : ∀ l ∈ s.tms.leaves, l.root = 34 → ∀ i ∈ l.green ++ l.yellow, ∀ c, i.work ≠ .drive c

theorem NoDrive.waitingOf {s : State} (h : NoDrive s) (x : Nat) : s.waitingOf x = [] := by
  rw [State.waitingOf, List.flatMap_eq_nil_iff]
  intro l hl
  obtain ⟨hl, hr⟩ := List.mem_filter.mp hl
  rw [List.filterMap_eq_nil_iff]
  intro i hi
  have := h.wait l hl (of_decide_eq_true hr) i hi
  split
  · exact absurd ‹_› (this _)
  · rfl

theorem NoDrive.congr {s t : State} (h : NoDrive s) (hd : t.drv = s.drv) (ht : t.tms = s.tms) : NoDrive t := by
  refine ⟨fun x => ?_, ?_⟩
  · rw [State.port, hd]
    exact h.cmds x
  · rw [ht]
    exact h.wait

/-- What is taken off the drive root leaves no command there that was not there. -/
theorem mem_unqueue {s : State} {p : DriveCmd → Bool} {l : TmsLeaf} (h : l ∈ (s.unqueue p).tms.leaves) (hr : l.root = 34) :
    ∃ k ∈ s.tms.leaves, k.root = 34 ∧ ∀ i ∈ l.green ++ l.yellow, i ∈ k.green ++ k.yellow ∧ ∀ c, i.work = .drive c → p c = false := by
  obtain ⟨h, _⟩ := List.mem_filter.mp h
  obtain ⟨k, hk, e⟩ := List.mem_map.mp h
  have hkr : k.root = 34 := by
    rw [← hr, ← e]
    split <;> rfl
  rw [if_pos hkr] at e
  refine ⟨k, hk, hkr, fun i hi => ?_⟩
  rw [← e] at hi
  have hi' : i ∈ (k.green ++ k.yellow).filter fun i => match i.work with | .drive c => !p c | _ => true := by
    rw [List.filter_append]
    exact hi
  obtain ⟨h1, h2⟩ := List.mem_filter.mp hi'
  refine ⟨h1, fun c hc => ?_⟩
  rw [hc] at h2
  simpa using h2

theorem NoDrive.unqueue {s : State} (h : NoDrive s) (p : DriveCmd → Bool) : NoDrive (s.unqueue p) := by
  refine ⟨h.cmds, fun l hl hr i hi c hc => ?_⟩
  obtain ⟨k, hk, hkr, hs⟩ := mem_unqueue hl hr
  exact h.wait k hk hkr i (hs i hi).1 c hc

theorem disown_all (s : State) (x : Nat) : ∀ d ∈ ((s.disown fun _ => true).port x).cmds, d.gone = true := by
  intro d hd
  obtain ⟨e, he, hd⟩ : ∃ e ∈ (s.disown fun _ => true).drv, d ∈ e.2.cmds := by
    rw [State.port, tgetD] at hd
    cases h : tget (s.disown fun _ => true).drv x with
    | none => rw [h] at hd; exact absurd hd List.not_mem_nil
    | some q => rw [h] at hd; exact ⟨(x, q), mem_of_tget h, hd⟩
  obtain ⟨⟨j, q⟩, _, rfl⟩ := List.mem_map.mp he
  obtain ⟨y, _, rfl⟩ := List.mem_map.mp hd
  rfl

/-- With every command taken off the drive root and disowned, none is left. -/
theorem noDrive_all (s : State) : NoDrive ((s.unqueue fun _ => true).disown fun _ => true) := by
  refine ⟨disown_all _, fun l hl hr i hi c hc => ?_⟩
  obtain ⟨k, _, _, hs⟩ := mem_unqueue (s := s) (p := fun _ => true) hl hr
  exact absurd ((hs i hi).2 c hc) (by decide)

theorem port_putPort (s : State) (x y : Nat) (p : Port) : (s.putPort x p).port y = if x = y then p else s.port y := by
  show tgetD (tput s.drv x p) y {} = _
  rw [tgetD, tget_tput]
  split <;> rfl

theorem NoDrive.putPort {s : State} (h : NoDrive s) (x : Nat) (p : Port) (hp : ∀ d ∈ p.cmds, d.gone = true) : NoDrive (s.putPort x p) := by
  refine ⟨fun y => ?_, h.wait⟩
  rw [port_putPort]
  split
  · exact hp
  · exact h.cmds y

theorem NoDrive.portOff {s : State} (h : NoDrive s) (x : Nat) : NoDrive (s.portOff x) := by
  have hw : NoDrive (s.withdraw x) := by
    rw [withdraw_quiet s x (h.cmds x) (h.waitingOf x)]
    refine (h.putPort x _ fun d hd => ?_).unqueue _
    obtain ⟨y, _, rfl⟩ := List.mem_map.mp hd
    rfl
  have ho : NoDrive ((s.withdraw x).putPort x { (s.withdraw x).port x with cmds := [], linkDown := none, facts := none }) :=
    hw.putPort x _ fun d hd => absurd hd List.not_mem_nil
  refine ho.congr ?_ ?_
  · unfold State.portOff
    dsimp only
    split <;> simp
  · unfold State.portOff
    dsimp only
    split <;> simp

theorem NoDrive.slotTurnOff {s : State} (h : NoDrive s) (x cause : Nat) (hn : cause < 16) :
    NoDrive (s.slotTurnOff x cause) ∧ Within offW s (s.slotTurnOff x cause) := by
  by_cases ho : s.slotOwner x = true
  · by_cases ha : s.chActive x = true
    · refine ⟨?_, (slotTurnOff_active s x cause ho ha (h.cmds x) (h.waitingOf x) hn).2.2.2.2⟩
      rw [State.slotTurnOff, if_neg (by simp [ho]), if_neg (by simp [ha])]
      dsimp only
      have hp : NoDrive (((s.putSlot x (cutSlot (s.slot x))).pgClear x).portOff x) :=
        (h.congr ((within_pgClear _ x).drv rfl) ((within_pgClear _ x).tms rfl) : NoDrive ((s.putSlot x (cutSlot (s.slot x))).pgClear x)).portOff x
      have hc : NoDrive (s.slotCut x) := hp
      generalize s.slotCut x = u at hc
      obtain ⟨_, _, w⟩ := setCh_after ((u.putSlot x { u.slot x with pwrdis := true, cycling := false, barred := cause = 8 }).set SLT_CH_STATUS_cause x cause)
        x 2 (by decide)
      exact hc.congr ((w.drv rfl).trans (set_drv _ _ _ _)) ((w.tms rfl).trans (set_tms _ _ _ _))
    · have e : s.slotTurnOff x cause = s.putSlot x { s.slot x with cycling := false, barred := (s.slot x).barred || cause = 8 } := by
        rw [State.slotTurnOff, if_neg (by simp [ho]), if_pos (by simp [ha])]
      rw [e]
      exact ⟨h.congr rfl rfl, within_slt s _ rfl⟩
  · have e : s.slotTurnOff x cause = s := by rw [State.slotTurnOff, if_pos (by simp [ho])]
    rw [e]
    exact ⟨h, .refl _ _⟩

theorem NoDrive.eachOff (l : List Nat) {s : State} (h : NoDrive s) (cause : Nat) (hn : cause < 16) :
    Within offW s (s.each l fun s x => s.slotTurnOff x cause) := by
  induction l generalizing s with
  | nil => exact .refl _ _
  | cons x l ih =>
    obtain ⟨h1, h2⟩ := h.slotTurnOff x cause hn
    exact h2.trans (ih h1)

/-! ## The mirror's flush ends -/

/-- What the end of the mirror's flush leaves. -/
structure FlushEnded (s t : State) (c : Nat) (w : Word64) : Prop where
  jnl    : t.jnl = { s.jnl with phase := .writing c w }
  boot   : t.boot = s.boot
  active : t.pair.active = false
  leaves : t.tms.leaves = []
  queue  : t.hif.queue = []

theorem dumpWriting_ended (s : State) (c : Nat) (w : Word64) (h : s.jnl.phase = .flushing c w) : FlushEnded s s.dumpWriting c w := by
  rw [State.dumpWriting, h]
  dsimp only
  generalize hu : (({ s with jnl := { s.jnl with phase := .writing c w }, slt := { s.slt with dumped := true } } : State).unqueue
    fun _ => true).disown (fun _ => true) = u
  have hw : Within offW u (u.each (List.range 32) fun s x => s.slotTurnOff x 9) :=
    NoDrive.eachOff (List.range 32) (hu ▸ noDrive_all _) 9 (by decide)
  have hj : u.jnl = { s.jnl with phase := .writing c w } := by rw [← hu]; rfl
  have hb : u.boot = s.boot := by rw [← hu]; rfl
  generalize u.each (List.range 32) (fun s x => s.slotTurnOff x 9) = v at hw
  exact ⟨(hw.jnl rfl).trans hj, (hw.boot rfl).trans hb, rfl, rfl, rfl⟩

/-- What the links' going down writes. -/
def linksW : Writes := { parts := [.ctr], fields := [MAC_PORT_STATUS_up, MAC_PORT_STATUS_speed, MAC_PORT_STATUS_flaps, HIF_LINK_STATUS_up] }

theorem within_linkDown (s : State) (p : Nat) : Within linksW s (s.linkDown p) :=
  within_ite _ (fun _ => (((within_set s _ _ _ rfl).trans (within_set _ _ _ _ rfl)).trans (within_addSat _ _ _ _ rfl)).trans (within_enter _ _ rfl))
    fun _ => .refl _ _

theorem flushEnd_ended (s : State) (c : Nat) (w : Word64) (h : s.jnl.phase = .flushing c w) : FlushEnded s s.flushEnd c w := by
  have hw : Within linksW s ((s.each (List.range 34) State.linkDown).each [0, 1] fun s e => s.set HIF_LINK_STATUS_up e 0) :=
    (within_each s _ _ within_linkDown).trans (within_each _ _ _ fun s e => within_set s _ _ _ rfl)
  have e : s.flushEnd = ((s.each (List.range 34) State.linkDown).each [0, 1] fun s e => s.set HIF_LINK_STATUS_up e 0).dumpWriting := by
    rw [State.flushEnd, h]
  rw [e]
  generalize (s.each (List.range 34) State.linkDown).each [0, 1] (fun s e => s.set HIF_LINK_STATUS_up e 0) = u at hw
  have d := dumpWriting_ended u c w (by rw [hw.jnl rfl, h])
  exact ⟨by rw [d.jnl, hw.jnl rfl], d.boot.trans (hw.boot rfl), d.active, d.leaves, d.queue⟩

/-! ## No reserved slot is left -/

theorem each_slotFree_slots (l : List Nat) (s : State) (i : Nat) (x : NeveSlot) (h : tget (s.each l State.slotFree).jnl.slots i = some x) :
    i ∉ l ∧ tget s.jnl.slots i = some x := by
  induction l generalizing s with
  | nil => exact ⟨List.not_mem_nil, h⟩
  | cons j l ih =>
    obtain ⟨hl, ht⟩ := ih (s.slotFree j) h
    rw [(slotFree_jnl s j).1, tget_tdel] at ht
    split at ht
    · cases ht
    · exact ⟨fun hi => (List.mem_cons.mp hi).elim (fun e => ‹¬ _› e.symm) hl, ht⟩

theorem dumpStart_unreserved (s : State) (cause : Nat) (h : s.dumping = false) (i : Nat) (x : NeveSlot)
    (hx : tget (s.dumpStart cause).jnl.slots i = some x) : x.state ≠ .reserved := by
  have key : ∀ u : State, tget (u.each ((u.jnl.slots.filter fun (_, x) => x.state = .reserved).map (·.1)) State.slotFree).jnl.slots i = some x →
      x.state ≠ .reserved := by
    intro u hu hr
    obtain ⟨hn, ht⟩ := each_slotFree_slots _ _ _ _ hu
    exact hn (List.mem_map.mpr ⟨(i, x), List.mem_filter.mpr ⟨mem_of_tget ht, decide_eq_true hr⟩, rfl⟩)
  unfold State.dumpStart at hx
  split at hx
  · simp_all [State.dumping]
  · simp_all [State.dumping]
  · simp_all [State.dumping]
  · dsimp only at hx
    split at hx
    · rw [each_jnl (fun j => j.slots) _ (fun s p => by simp)] at hx
      exact key _ hx
    · exact key _ hx

theorem dumpBegin_eq (s : State) (cause after : Nat) (h : s.dumping = false) (hact : s.boot.act = none) :
    s.dumpBegin cause after = ({ ((s.set PWR_SEQ_STATUS_seq 0 2).addSat PWR_SEQ_STATUS_dumps 0 1).bump (ctrPwr 4) with
      boot := { s.boot with after := after } } : State).dumpStart cause := by
  simp [State.dumpBegin, h, State.actFatal, hact]

/-! ## The dump that is kept -/

/-- A module that has stopped, and stays so. -/
structure Stopped (s t : State) (outcome : Option Nat) : Prop where
  phase    : t.jnl.phase = .held
  held     : t.boot.held = true
  shutdown : t.boot.shutdown = outcome
  stage    : t.get BOOT_STATUS_stage = 0xA
  slots    : t.jnl.slots = s.jnl.slots
  dumps    : t.jnl.dumps = s.jnl.dumps

theorem holdReset_stopped (s : State) : s.holdReset.jnl = { s.jnl with phase := .held } ∧ s.holdReset.boot = { s.boot with held := true } ∧
    s.holdReset.get BOOT_STATUS_stage = 0xA := by
  have key : ∀ (u : State) (c : Bool) (l : List Nat), Within { parts := [], fields := [SLT_CH_STATUS_owner] } u
      (if c then u.each l fun s x => s.set SLT_CH_STATUS_owner x 0 else u) := fun u c l =>
    within_ite _ (fun _ => within_each _ _ _ fun s x => within_set s _ _ _ rfl) fun _ => .refl _ _
  unfold State.holdReset
  dsimp only
  have k := key ((s.set PWR_SEQ_STATUS_seq 0 3).set BOOT_STATUS_stage 0 0xA) ((s.set PWR_SEQ_STATUS_seq 0 3).set BOOT_STATUS_stage 0 0xA).pairShelf
    (List.range 32)
  generalize (if ((s.set PWR_SEQ_STATUS_seq 0 3).set BOOT_STATUS_stage 0 0xA).pairShelf then
    ((s.set PWR_SEQ_STATUS_seq 0 3).set BOOT_STATUS_stage 0 0xA).each (List.range 32) fun s x => s.set SLT_CH_STATUS_owner x 0
    else (s.set PWR_SEQ_STATUS_seq 0 3).set BOOT_STATUS_stage 0 0xA) = u at k
  have hj : u.jnl = s.jnl := k.jnl rfl
  have hb : u.boot = s.boot := k.boot rfl
  have hs : u.get BOOT_STATUS_stage = 0xA := by
    rw [k.regs BOOT_STATUS_stage 0 rfl]
    exact get_set_same _ _ _ _
  exact ⟨by rw [hj], by rw [hb], hs⟩

theorem stopEnd_stopped (s : State) (outcome : Option Nat) (b : BootIn) (h : s.boot.after = 0) : Stopped s (s.stopEnd outcome b) outcome := by
  obtain ⟨hj, hb, hs⟩ := holdReset_stopped ({ s with boot := { s.boot with shutdown := outcome } } : State).evSave
  unfold State.stopEnd
  dsimp only
  generalize ({ s with boot := { s.boot with shutdown := outcome } } : State).evSave.holdReset = u at hj hb hs
  have hr : (s.sameMem u).restarts = false := by
    show (u.boot.after != 0 && _) = false
    rw [hb]
    simp [State.evSave, h]
  rw [if_neg (by rw [hr]; decide)]
  exact ⟨show u.jnl.phase = _ by rw [hj], show u.boot.held = _ by rw [hb], show u.boot.shutdown = _ by rw [hb]; rfl, hs,
    show u.jnl.slots = _ by rw [hj]; rfl, show u.jnl.dumps = _ by rw [hj]; rfl⟩


theorem dumpPut_after (s : State) (cause : Nat) (entries : List (Nat × NeveSlot)) (start : Word64) (sealed torn : List Nat) (consumed : Bool) :
    (s.dumpPut cause entries start sealed torn consumed).boot = s.boot ∧
    (s.dumpPut cause entries start sealed torn consumed).jnl.slots = s.jnl.slots ∧
    ∃ d ∈ (s.dumpPut cause entries start sealed torn consumed).jnl.dumps, d.seq = s.nextDump ∧ d.cause = cause ∧ d.entries = entries ∧
      d.tail = s.jnl.tail ∧ d.isSealed = sealed ∧ d.consumed = consumed := by
  unfold State.dumpPut
  dsimp only
  rw [bump_jnl]
  refine ⟨by simp, rfl, _, List.mem_append_right _ (List.mem_singleton_self _), ?_⟩
  exact ⟨rfl, rfl, rfl, rfl, rfl, rfl⟩

/-- Settles O31: a dump begins from riding through or from a stop that ran out of time; the end of the flush empties what
would go out; the seal and the drained stop each keep one dump of the next number and hold the module. -/
theorem dumpsAndStops : Obligations.DumpsAndStops := by
  unfold Obligations.DumpsAndStops
  refine ⟨fun s hs hf hd ha => ?_, fun s c w h => ?_, fun s c w b h hc ha => ?_, fun s r w b h hd ha => ?_, fun s r w h ha => ?_⟩
  · refine ⟨_, rfl, ?_⟩
    have e : s.rideEnd = s.dumpBegin 1 (match s.jnl.phase with | .stopping _ _ => s.boot.after | _ => 7) := by
      exact if_neg (by simp [hs, hf])
    have d := dumpBegin_begun s 1 (match s.jnl.phase with | .stopping _ _ => s.boot.after | _ => 7) hd ha
    have hx := dumpStart_unreserved ({ ((s.set PWR_SEQ_STATUS_seq 0 2).addSat PWR_SEQ_STATUS_dumps 0 1).bump (ctrPwr 4) with
      boot := { s.boot with after := (match s.jnl.phase with | .stopping _ _ => s.boot.after | _ => 7) } } : State) 1 (by simpa [State.dumping] using hd)
    rw [← dumpBegin_eq s 1 _ hd ha, ← e] at hx
    rw [← e] at d
    exact ⟨d.phase, (get_only_in _ _ _ _ _ rfl).trans d.seq, hx⟩
  · refine ⟨_, rfl, ?_⟩
    have d := flushEnd_ended s c w h
    exact ⟨congrArg Jnl.phase d.jnl, d.active, d.leaves, d.queue⟩
  · obtain ⟨hb, hj, d, hd, hq, hcause, hen, htl, hsl, hco⟩ := dumpPut_after s c s.dumpEntries w [0, 1] [] false
    have e : s.dumpSeal [0, 1] [] true b = (s.sameMem (s.dumpPut c s.dumpEntries w [0, 1] [] false)).stopEnd (some 2) b := by
      rw [State.dumpSeal, h]
      simp [hc]
    have k := stopEnd_stopped (s.sameMem (s.dumpPut c s.dumpEntries w [0, 1] [] false)) (some 2) b ((congrArg Boot.after hb).trans ha)
    rw [← e] at k
    refine ⟨_, rfl, k.phase, k.held, k.shutdown, (get_only_in _ _ _ _ _ rfl).trans k.stage, k.slots.trans hj, d, ?_, hq, hcause, hen, htl, hsl, hco⟩
    show d ∈ (s.dumpSeal [0, 1] [] true b).jnl.dumps
    rw [k.dumps]
    exact hd
  · let u : State := { s with jnl := { s.jnl with
          phase := .flushing 3 w, marks := (s.get JNL_NEVE_SEQ_next_seq, s.get JNL_FIRN_SEQ_next_seq) } }
    have f : FlushEnded u u.flushEnd 3 w := flushEnd_ended u 3 w rfl
    have e : s.stopDone b = (((s.sameMem u.flushEnd).dumpPut 3 [] w [0, 1] [] true).stopEnd (some 1) b) := by
      rw [State.stopDone, h]
      dsimp only
      rw [if_neg (by simp [hd])]
    generalize u.flushEnd = v at f e
    obtain ⟨hb, _, d, hd, hq, hcause, hen, _, _, hco⟩ := dumpPut_after (s.sameMem v) 3 [] w [0, 1] [] true
    have k := stopEnd_stopped ((s.sameMem v).dumpPut 3 [] w [0, 1] [] true) (some 1) b
      ((congrArg Boot.after (hb.trans f.boot)).trans ha)
    rw [← e] at k
    refine ⟨_, rfl, k.phase, k.shutdown, d, ?_, ?_, hcause, hen, hco⟩
    · show d ∈ (s.stopDone b).jnl.dumps
      rw [k.dumps]
      exact hd
    · rw [hq, State.nextDump, State.nextDump]
      exact congrArg (fun l => (l.map fun (d : Dump) => d.seq + 1).foldl max 1) (congrArg Jnl.dumps f.jnl)
  · refine ⟨_, rfl, ?_⟩
    have e : s.stopTimeout = s.dumpBegin 3 s.boot.after := by
      rw [State.stopTimeout, h]
      rfl
    have d := dumpBegin_begun s 3 s.boot.after (by rw [State.dumping, h]) ha
    rw [← e] at d
    exact ⟨d.phase, congrArg Boot.after d.boot⟩

end Sys2Proof.Machine
end

section
/-! PROOFS. What the scheduler sends, what the calendar does, held red commands and the samples of queues (R85 to R99, R132). -/

namespace Sys2Proof.Machine

open F

/-! ## Cipher work is handed over -/

/-- What the lanes' work writes. -/
def cipW : Writes := { parts := [.ctr, .cip, .freeCtr] }

theorem within_laneLoad (s : State) (l slot : Nat) : Within cipW s (s.laneLoad l slot) := by
  unfold State.laneLoad
  split
  · exact .refl _ _
  · have key : ∀ v, Within cipW s (s.laneShares l slot v).2 := fun v => by
      unfold State.laneShares
      split
      · exact within_freeCtr s _ rfl
      · exact .refl _ _
    exact (key _).trans (within_cip _ _ rfl)

theorem within_laneTake (s : State) (l : Nat) (u : CipUnit) : Within cipW s (s.laneTake l u) :=
  ((within_ite _ (fun _ => within_enter s _ rfl) fun _ => .refl _ _ : Within cipW s _).trans (within_laneLoad _ _ _)).trans (within_cip _ _ rfl)

theorem within_cipDispatch (a : Bool) (n : Nat) (s : State) : Within cipW s (State.cipDispatch a n s) := by
  induction n generalizing s with
  | zero => exact .refl _ _
  | succ n ih =>
    rw [State.cipDispatch]
    split
    · split
      · exact .refl _ _
      · split
        · exact .refl _ _
        · exact ((within_cip s _ rfl).trans (within_laneTake _ _ _)).trans (ih _)
    · exact .refl _ _

theorem within_cipPush (s : State) (a : Bool) (u : CipUnit) : Within cipW s (s.cipPush a u) :=
  within_ite _ (fun _ => .refl _ _) fun _ => (within_cip s _ rfl).trans (within_cipDispatch _ _ _)

theorem within_linePush (s : State) (slot n : Nat) (sent : Bool) : Within cipW s (s.linePush slot n sent) := within_cipPush s _ _

/-! ## A packet leaves -/

/-- What a packet that has left writes besides the message itself. -/
def leftW : Writes := { parts := [.ctr, .cip, .freeCtr, .hkt, .qpe, .tel, .hif, .slc, .evt] }

theorem within_modCtx (s : State) (l p : Eid) (f : HktCtx → HktCtx) {w : Writes} (h : w.part .hkt = true) : Within w s (s.modCtx l p f) := by
  unfold State.modCtx
  split
  · exact within_putCtx s _ h
  · exact .refl _ _

theorem within_sampleLats_left (s : State) (q k : Nat) : Within leftW s (s.sampleLats q k) := by
  unfold State.sampleLats
  split
  · exact .refl _ _
  · refine (within_qpe s _ rfl).trans (within_each _ _ _ fun s l => ?_)
    dsimp only
    split
    · exact (within_tel _ _ rfl).trans ((within_tel _ _ rfl).trans (within_tel _ _ rfl))
    · exact (within_tel _ _ rfl).trans (within_tel _ _ rfl)

theorem within_lineSent (s : State) (p : HktPkt) : Within leftW s (s.lineSent p) := by
  unfold State.lineSent
  split
  · split
    · exact (within_linePush s _ _ _).widen (by decide) (by decide) (by decide)
    · exact .refl _ _
  · exact .refl _ _

theorem within_pktLeft (s : State) (p : HktPkt) : Within leftW s (s.pktLeft p) := by
  unfold State.pktLeft
  split
  · split
    · exact .refl _ _
    · split
      · exact .refl _ _
      · dsimp only
        split
        · exact (within_modCtx s _ _ _ rfl).trans (within_qpe _ _ rfl)
        · exact (within_modCtx s _ _ _ rfl).trans (within_qpe _ _ rfl)
        · exact within_modCtx s _ _ _ rfl
  · split
    · exact within_sampleLats_left _ _ _
    · exact .refl _ _
  · exact .refl _ _

/-- What taking an item off a root writes. -/
def takeW : Writes := { parts := [.ctr, .tms] }

theorem within_chargeShaper (s : State) (i : ShaperId) (n : Int) : Within takeW s (s.chargeShaper i n) :=
  within_ite _ (fun _ => .refl _ _) fun _ => (within_tms s _ rfl).trans (within_ite _ (fun _ => within_calPut _ _ _ _ rfl) fun _ => .refl _ _)

theorem within_takeItem {s u : State} {r : Nat} {i : TmsItem} (h : s.takeItem r = some (i, u)) : Within takeW s u := by
  unfold State.takeItem at h
  split at h
  · cases h
  · split at h
    · cases h
    · cases h
      exact (within_tms s _ rfl).trans ((((within_chargeShaper _ _ _).trans (within_chargeShaper _ _ _)).trans (within_chargeShaper _ _ _)).trans
        ((within_bump _ _ _ rfl).trans (within_bump _ _ _ rfl)))

theorem mgmtServe_nil (s : State) (h : s.hkt.mgmtOut = []) : s.mgmtServe = s := by
  unfold State.mgmtServe
  rw [h]
  show ({ s with hkt := { s.hkt with mgmtOut := [] } } : State) = s
  rw [show ({ s.hkt with mgmtOut := [] } : Hkt) = s.hkt by rw [← h]]

theorem within_noteSession (s : State) (h : HktHdr) (n : Nat) : Within { parts := [.hkt, .key] } s (s.noteSession h n) :=
  within_ite _ (fun _ => .refl _ _) fun _ => within_key s _ rfl

/-- The packet that leaves, sealed for its peer: stamped with the present time. -/
theorem seal_sent {s v : State} {p q : HktPkt} (h : s.seal p = some (q, v)) :
    q.hdr.sendTs = ts32 s.dtc ∧ Within { parts := [.hkt, .key] } s v := by
  unfold State.seal at h
  dsimp only at h
  split at h
  · cases h
    exact ⟨rfl, .refl _ _⟩
  · obtain ⟨k, _, e⟩ := Option.map_eq_some_iff.mp h
    cases e
    exact ⟨rfl, (within_hkt s _ rfl).trans (within_noteSession _ _ _)⟩

theorem leavePkt_sealed {s v : State} {r : Nat} {i : TmsItem} {p q : HktPkt} (h : (s.dropCells i.cells).seal p = some (q, v)) :
    Within leftW (v.send (.hkt q (v.wireOf r q))) (s.leavePkt r i p) := by
  unfold State.leavePkt
  dsimp only
  rw [h]
  exact (((within_bump _ _ _ rfl).trans (within_bump _ _ _ rfl)).trans (within_lineSent _ _)).trans (within_pktLeft _ _)

/-! ## A drive command leaves -/

theorem driveSqe_congr {s t : State} (c : DriveCmd) (n : Nat) (hq : t.get DRV_PORT_STATUS_n_q c.member = s.get DRV_PORT_STATUS_n_q c.member)
    (hs : t.str = s.str) : t.driveSqe c n = s.driveSqe c n := by
  unfold State.driveSqe
  rw [hq, hs]

theorem driveIssue_sent (s : State) (c : DriveCmd) (n : Nat) (hf : s.freeTag c.member = some n) (hs : s.get DRV_PORT_STATUS_state c.member = 3)
    (hl : s.live c.member = true) : (s.driveIssue c).outbox = s.outbox ++ [.drive c (s.driveSqe c n) (s.driveData c)] := by
  unfold State.driveIssue
  dsimp only
  rw [hf]
  dsimp only
  rw [if_neg (by simp [hs, hl])]
  have key : ∀ u : State, Within { parts := [.ctr, .drv] } s u → (u.send (.drive c (u.driveSqe c n) (s.driveData c))).outbox =
      s.outbox ++ [.drive c (s.driveSqe c n) (s.driveData c)] := fun u w => by
    show u.outbox ++ _ = _
    rw [w.outbox rfl, driveSqe_congr c n (w.regs _ _ rfl) (w.str rfl)]
  refine key _ ?_
  have hp : Within { parts := [.ctr, .drv] } s (s.putPort c.member
      { s.port c.member with cmds := (s.port c.member).cmds ++ [({ cmd := c, tag := n, at_ := s.dtc } : DrvCmd)] }) := within_drv s _ rfl
  generalize s.putPort c.member
      { s.port c.member with cmds := (s.port c.member).cmds ++ [({ cmd := c, tag := n, at_ := s.dtc } : DrvCmd)] } = u at hp
  exact (hp.trans (within_ite _ (fun _ => (within_bump _ _ _ rfl).trans (within_bump _ _ _ rfl)) fun _ =>
    within_ite _ (fun _ => (within_bump _ _ _ rfl).trans (within_bump _ _ _ rfl)) fun _ => .refl _ _)).trans
    (within_ite _ (fun _ => within_enter _ _ rfl) fun _ => .refl _ _)

/-! ## Samples of the queues -/

theorem sampleQueue_within (s : State) (p c : Nat) :
    Within { parts := [.tel, .tms], fields := [TMS_QSAMPLE_depth, TMS_QSAMPLE_head_delay] } s (s.sampleQueue p c) :=
  (((within_set s _ _ _ rfl).trans (within_set _ _ _ _ rfl)).trans (within_tms _ _ rfl)).trans
    ((within_sample _ _ _ _ _ _ rfl).trans (within_sample _ _ _ _ _ _ rfl))

theorem noteStale_within (s : State) (q : Nat × Nat) :
    Within { parts := [.evt, .ctr, .hkt, .tms] } s (s.noteStale q) ∧ (s.noteStale q).tms.leaves = s.tms.leaves := by
  unfold State.noteStale
  split
  · exact ⟨.refl _ _, rfl⟩
  · exact ⟨(within_tms s _ rfl).trans (within_raise _ _ _ _ _ rfl rfl), by rw [raise_tms]⟩

theorem staleCtxs_within (s : State) : Within { parts := [.evt, .ctr, .hkt, .tms] } s s.staleCtxs ∧ s.staleCtxs.tms.leaves = s.tms.leaves := by
  have key : ∀ (s : State) (c : HktCtx) (q : Nat × Nat) (f : HktCtx → HktCtx),
      Within { parts := [.evt, .ctr, .hkt, .tms] } s ((s.modCtx c.localEid c.peerEid f).noteStale q) ∧
      ((s.modCtx c.localEid c.peerEid f).noteStale q).tms.leaves = s.tms.leaves := fun s c q f => by
    have hm := within_modCtx s c.localEid c.peerEid f (w := { parts := [.hkt] }) rfl
    obtain ⟨h1, h2⟩ := noteStale_within (s.modCtx c.localEid c.peerEid f) q
    exact ⟨(hm.widen (by decide) (by decide) (by decide)).trans h1, h2.trans (congrArg Tms.leaves (hm.tms rfl))⟩
  unfold State.staleCtxs
  generalize s.hkt.ctxs = l
  induction l generalizing s with
  | nil => exact ⟨.refl _ _, rfl⟩
  | cons c l ih =>
    have one : Within { parts := [.evt, .ctr, .hkt, .tms] } s (match c.lastQueue with
      | some q => if decide (q.1 < 34) && s.queueStale q then
          ((s.modCtx c.localEid c.peerEid fun c => { c with lcwnd := { c.lcwnd with win := 262144, isOpen := false } })).noteStale q
        else s
      | none => s) ∧ (match c.lastQueue with
      | some q => if decide (q.1 < 34) && s.queueStale q then
          ((s.modCtx c.localEid c.peerEid fun c => { c with lcwnd := { c.lcwnd with win := 262144, isOpen := false } })).noteStale q
        else s
      | none => s).tms.leaves = s.tms.leaves := by
      split
      · split
        · exact key _ _ _ _
        · exact ⟨.refl _ _, rfl⟩
      · exact ⟨.refl _ _, rfl⟩
    obtain ⟨h1, h2⟩ := ih _
    exact ⟨one.1.trans h1, h2.trans one.2⟩

/-- A queue's sample: its depth, taken at the present time. -/
def Sampled (s t : State) (p c : Nat) : Prop :=
  t.get TMS_QSAMPLE_depth (ix2 8 p c) = s.depth p c % 2 ^ TMS_QSAMPLE_depth.w ∧ tget t.tms.sampledAt (p, c) = some s.dtc

/-- The same queues at the same time. -/
structure SameLeaves (s t : State) : Prop where
  leaves : t.tms.leaves = s.tms.leaves
  dtc    : t.dtc = s.dtc

theorem SameLeaves.depth {s t : State} (h : SameLeaves s t) {p : Nat} (hp : p < 34) (c : Nat) : t.depth p c = s.depth p c := by
  rw [State.depth, State.depth, if_pos hp, if_pos hp, State.itemsOn, State.itemsOn, h.leaves]

theorem SameLeaves.sampleQueue {s t : State} (h : SameLeaves s t) (p c : Nat) : SameLeaves s (t.sampleQueue p c) := ⟨h.leaves, h.dtc⟩

theorem sampled_same {s u : State} (h : SameLeaves s u) {p : Nat} (hp : p < 34) (c : Nat) : Sampled s (u.sampleQueue p c) p c := by
  constructor
  · have w : Within { parts := [.tel, .tms], fields := [TMS_QSAMPLE_head_delay] } (u.set TMS_QSAMPLE_depth (ix2 8 p c) (u.depth p c))
        (u.sampleQueue p c) :=
      ((within_set _ _ _ _ rfl).trans (within_tms _ _ rfl)).trans ((within_sample _ _ _ _ _ _ rfl).trans (within_sample _ _ _ _ _ _ rfl))
    rw [w.regs _ _ rfl, get_set_same, h.depth hp]
  · show tget (tput u.tms.sampledAt (p, c) u.dtc) (p, c) = _
    rw [tget_tput, if_pos rfl, h.dtc]

theorem sampled_other {s u : State} (h : SameLeaves s u) {p c : Nat} (hp : p < 34) (hc : c < 8) {p' c' : Nat} (hc' : c' < 8)
    (hs : Sampled s u p c) : Sampled s (u.sampleQueue p' c') p c := by
  by_cases e : (p', c') = (p, c)
  · cases e
    exact sampled_same h hp c
  · constructor
    · have w : Within { parts := [.tel, .tms], fields := [TMS_QSAMPLE_head_delay] } (u.set TMS_QSAMPLE_depth (ix2 8 p' c') (u.depth p' c'))
          (u.sampleQueue p' c') :=
        ((within_set _ _ _ _ rfl).trans (within_tms _ _ rfl)).trans ((within_sample _ _ _ _ _ _ rfl).trans (within_sample _ _ _ _ _ _ rfl))
      have hi : ix2 8 p' c' ≠ ix2 8 p c := fun e' => e (by
        simp only [ix2] at e'
        rw [show p' = p by omega, show c' = c by omega])
      rw [w.regs _ _ rfl, get_set_elem _ _ _ hi, hs.1]
    · show tget (tput u.tms.sampledAt (p', c') u.dtc) (p, c) = _
      rw [tget_tput, if_neg e]
      exact hs.2

theorem each_sampled {s : State} {p c : Nat} (hp : p < 34) (hc : c < 8) (l : List (Nat × Nat)) (hl : ∀ q ∈ l, q.2 < 8) (u : State)
    (h : SameLeaves s u) (hm : (p, c) ∈ l ∨ Sampled s u p c) : Sampled s (u.each l fun s q => s.sampleQueue q.1 q.2) p c := by
  induction l generalizing u with
  | nil => exact hm.elim (fun h => absurd h List.not_mem_nil) id
  | cons q l ih =>
    refine ih (fun r hr => hl r (List.mem_cons_of_mem _ hr)) _ (h.sampleQueue _ _) ?_
    rcases hm with hm | hm
    · rcases List.mem_cons.mp hm with rfl | hm
      · exact .inr (sampled_same h hp c)
      · exact .inl hm
    · exact .inr (sampled_other h hp hc (hl q List.mem_cons_self) hm)

/-! ## The obligation -/

theorem each_id {α : Type} (l : List α) (f : State → α → State) (s : State) (h : ∀ a ∈ l, f s a = s) : s.each l f = s := by
  induction l with
  | nil => rfl
  | cons a l ih =>
    show (f s a).each l f = s
    rw [h a List.mem_cons_self]
    exact ih fun b hb => h b (List.mem_cons_of_mem _ hb)

theorem calSlot_shapers (s : State) (n : Nat) (h : ∀ e ∈ s.tms.calendar, e.slot = n →
    (∃ i, e.what = .shaper i) ∧ ((e.due - s.dtc).toNat < 64 ∨ 2 ^ 63 ≤ (e.due - s.dtc).toNat)) :
    s.calSlot n = { s with tms := { s.tms with calendar := s.tms.calendar.filter fun e => e.slot != n } } := by
  unfold State.calSlot
  refine each_id _ _ _ fun e he => ?_
  obtain ⟨hm, hs⟩ := List.mem_filter.mp he
  obtain ⟨⟨i, hi⟩, hd⟩ := h e hm (of_decide_eq_true hs)
  refine (if_neg fun ha => ?_).trans (by rw [State.calServe, hi])
  obtain ⟨ha, _⟩ := (Bool.and_eq_true _ _).mp ha
  obtain ⟨h1, h2⟩ := (Bool.and_eq_true _ _).mp ha
  have h1 : 64 ≤ (e.due - s.dtc).toNat := of_decide_eq_true h1
  have h2 : (e.due - s.dtc).toNat < 2 ^ 63 := of_decide_eq_true h2
  omega

/-- Settles O13: the item picked leaves its port or drive under what sealing and the tags allow; the calendar, held red commands
and the samples of the queues. -/
theorem schedulingAndPolicing : Obligations.SchedulingAndPolicing := by
  unfold Obligations.SchedulingAndPolicing
  refine ⟨fun s u v r i p q hr hm ht hw hp hs => ?_, fun s u r i p hr hm ht hw hp hs => ?_, fun s u i c tag hm ht hw hf hst hl => ?_,
    fun s n hn h => ?_, fun s c x q h hc hph hh => ?_, fun s p tc hp htc => ?_⟩
  · refine ⟨_, rfl, ?_⟩
    have k := (within_takeItem ht).widen (v := { parts := [.ctr, .tms, .swc], fields := cells }) (by decide) (by decide) (by decide)
    have d := k.trans ((within_dropCells u i.cells).widen (by decide) (by decide) (by decide))
    obtain ⟨hts, hv⟩ := seal_sent hs
    have l := leavePkt_sealed (r := r) hs
    have e : s.schedPick (r % 35) = u.leavePkt r i p := by
      rw [Nat.mod_eq_of_lt (by omega), State.schedPick, mgmtServe_nil s hm, ht]
      dsimp only
      rw [hw, State.leavePort, hw]
      have : u.portUp r = true := by
        rw [State.portUp, if_pos hr] at hp ⊢
        rw [State.flag, (k.regs MAC_PORT_STATUS_up r rfl), k.pair rfl]
        exact hp
      rw [if_neg (by simp [this])]
    refine ⟨hts.trans (congrArg ts32 (d.dtc rfl)), v.wireOf r q, rfl, ?_, rfl, ?_⟩
    · show (if r = mgmtPort then Config.macBase else v.get MAC_PORT_CFG_mac r) = _
      rw [if_neg (fun e => by rw [e] at hr; exact absurd hr (by decide)), hv.regs _ _ rfl, d.regs _ _ rfl]
    · show (s.schedPick (r % 35)).outbox = _
      rw [e, l.outbox rfl]
      show v.outbox ++ _ = _
      rw [hv.outbox rfl, d.outbox rfl]
  · refine ⟨_, rfl, ?_⟩
    have k := (within_takeItem ht).widen (v := { parts := [.ctr, .tms, .swc], fields := cells }) (by decide) (by decide) (by decide)
    have d := k.trans ((within_dropCells u i.cells).widen (by decide) (by decide) (by decide))
    have e : s.schedPick (r % 35) = u.dropCells i.cells := by
      rw [Nat.mod_eq_of_lt (by omega), State.schedPick, mgmtServe_nil s hm, ht]
      dsimp only
      rw [hw, State.leavePort, hw]
      have : u.portUp r = true := by
        rw [State.portUp, if_pos hr] at hp ⊢
        rw [State.flag, (k.regs MAC_PORT_STATUS_up r rfl), k.pair rfl]
        exact hp
      rw [if_neg (by simp [this])]
      show State.leavePkt u r i p = _
      rw [State.leavePkt, hs]
    show (s.schedPick (r % 35)).outbox = _
    rw [e, d.outbox rfl]
  · refine ⟨_, rfl, u.driveData c, ?_⟩
    have k := within_takeItem ht
    have e : s.schedPick (34 % 35) = u.driveIssue c := by
      rw [Nat.mod_eq_of_lt (by decide), State.schedPick, mgmtServe_nil s hm, ht]
      dsimp only
      rw [hw]
    show (s.schedPick (34 % 35)).outbox = _
    rw [e, driveIssue_sent u c tag hf ((k.regs _ _ rfl).trans hst) (by rw [State.live, k.regs _ _ rfl]; exact hl), k.outbox rfl,
      driveSqe_congr c tag (k.regs _ _ rfl) (k.str rfl)]
  · refine ⟨_, rfl, ?_⟩
    show (s.calSlot (n % 16384)).tms.calendar = _
    rw [Nat.mod_eq_of_lt hn, calSlot_shapers s n h]
  · refine ⟨_, rfl, ?_⟩
    have e : s.policeTimeout c = (s.esel 1 3 (s.cmdTenant x)).complete c St.policed (BitVec.ofNat 32 (s.cmdTenant x)) := by
      rw [State.policeTimeout, h.cmd]
      dsimp only
      rw [if_pos (by simp [Cmd.heldRed, hc, hph, hh]), State.policeFail, h.cmd]
    have h' : Running (s.esel 1 3 (s.cmdTenant x)) c x q := ⟨h.cmd, h.here, h.open_, h.qp, h.live, h.ring⟩
    exact h'.completes_of_qpe _ _ _ (by rw [← e]; rfl)
  · refine ⟨_, rfl, ?_⟩
    obtain ⟨hw, hl⟩ := staleCtxs_within s
    have d : Sampled s s.queueSample p tc := by
      refine each_sampled hp htc _ ?_ _ ⟨hl, hw.dtc rfl⟩ (.inl ?_)
      · intro q hq
        obtain ⟨a, _, hq⟩ := List.mem_flatMap.mp hq
        obtain ⟨b, hb, rfl⟩ := List.mem_map.mp hq
        exact List.mem_range.mp hb
      · exact List.mem_flatMap.mpr ⟨p, List.mem_range.mpr hp, List.mem_map.mpr ⟨tc, List.mem_range.mpr htc, rfl⟩⟩
    exact ⟨(get_only_in _ _ _ _ _ rfl).trans d.1, d.2⟩

end Sys2Proof.Machine
end

section
/-! PROOFS. Queue pairs under the operations of others: what completions, requests toward host memory and fetches leave of them
(R110 to R113, R117, R384). -/

namespace Sys2Proof.Machine

open F

/-! ## Tables -/

theorem tput_self {κ α : Type} [DecidableEq κ] {m : Table κ α} {k : κ} {v : α} (h : tget m k = some v) : tput m k v = m := by
  induction m with
  | nil => cases h
  | cons e m ih =>
    obtain ⟨j, w⟩ := e
    rw [tget] at h
    rw [tput]
    split at h
    · cases h
      rename_i e
      rw [if_pos e, e]
    · rw [if_neg ‹_›, ih h]

theorem tget_values {κ α β : Type} [DecidableEq κ] (m : Table κ α) (f : α → β) (k : κ) :
    tget (m.map fun e => (e.1, f e.2)) k = (tget m k).map f := by
  induction m with
  | nil => rfl
  | cons e m ih =>
    rw [List.map_cons, tget, tget, ih]
    split <;> rfl

theorem tput_values {κ α β : Type} [DecidableEq κ] (m : Table κ α) (f : α → β) (k : κ) (v : α) :
    ((tput m k v).map fun e => (e.1, f e.2)) = tput (m.map fun e => (e.1, f e.2)) k (f v) := by
  induction m with
  | nil => rfl
  | cons e m ih =>
    rw [tput, List.map_cons, tput]
    split
    · rfl
    · rw [List.map_cons, ih]

theorem length_sortOn {α : Type} (key : α → Nat) (l : List α) : (sortOn key l).length = l.length := by
  have h : ∀ acc : List α, (l.foldl (fun acc c => (acc.takeWhile fun d => decide (key d ≤ key c)) ++ c ::
      acc.dropWhile fun d => decide (key d ≤ key c)) acc).length = acc.length + l.length := by
    induction l with
    | nil => exact fun acc => rfl
    | cons a l ih =>
      intro acc
      rw [List.foldl_cons, ih, List.length_append, List.length_cons, List.length_cons]
      have := congrArg List.length (List.takeWhile_append_dropWhile (p := fun d => decide (key d ≤ key a)) (l := acc))
      rw [List.length_append] at this
      omega
  simpa [sortOn] using h []

theorem mem_sortOn {α : Type} (key : α → Nat) (l : List α) (x : α) : x ∈ sortOn key l ↔ x ∈ l := by
  have h : ∀ acc : List α, x ∈ (l.foldl (fun acc c => (acc.takeWhile fun d => decide (key d ≤ key c)) ++ c ::
      acc.dropWhile fun d => decide (key d ≤ key c)) acc) ↔ x ∈ acc ∨ x ∈ l := by
    induction l with
    | nil => simp
    | cons a l ih =>
      intro acc
      rw [List.foldl_cons, ih, List.mem_append, List.mem_cons, List.mem_cons]
      have : x ∈ acc ↔ x ∈ acc.takeWhile (fun d => decide (key d ≤ key a)) ∨ x ∈ acc.dropWhile fun d => decide (key d ≤ key a) := by
        rw [← List.mem_append, List.takeWhile_append_dropWhile]
      rw [this]
      tauto
  simpa [sortOn] using h []

/-! ## A view of a queue pair -/

theorem qp_modQp_same (s : State) (q : Nat) (f : Qp → Qp) {x : Qp} (h : s.qp q = some x) : (s.modQp q f).qp q = some (f x) := by
  rw [qp_modQp, if_pos rfl, h, Option.map_some]

/-- Every entry of the table of queue pairs keeps its view. -/
def Keeps {β : Type} (v : Qp → β) (s t : State) : Prop := (t.qpe.qps.map fun e => (e.1, v e.2)) = s.qpe.qps.map fun e => (e.1, v e.2)

section
variable {β : Type} {v : Qp → β} {s t u : State}

theorem Keeps.refl (s : State) : Keeps v s s := rfl

theorem Keeps.trans (h : Keeps v s t) (k : Keeps v t u) : Keeps v s u := Eq.trans k h

theorem Keeps.of_qpe (h : t.qpe.qps = s.qpe.qps) : Keeps v s t := by rw [Keeps, h]

theorem Keeps.each {α : Type} (l : List α) (f : State → α → State) (s : State) (h : ∀ s a, Keeps v s (f s a)) : Keeps v s (s.each l f) := by
  induction l generalizing s with
  | nil => exact .refl s
  | cons a l ih => exact (h s a).trans (ih _)

/-- Changing queue pairs in what a view leaves out keeps the view. -/
theorem keeps_modQp (s : State) (q : Nat) (f : Qp → Qp) (h : ∀ y, v (f y) = v y) : Keeps v s (s.modQp q f) := by
  show ((tmod s.qpe.qps q f).map _) = _
  rw [tmod]
  split
  · rename_i x hx
    rw [tput_values, h]
    exact tput_self ((tget_values _ _ _).trans (by rw [hx]; rfl))
  · rfl

theorem Keeps.view (h : Keeps v s t) (p : Nat) : (t.qp p).map v = (s.qp p).map v := by
  rw [State.qp, State.qp, ← tget_values, ← tget_values, h]

theorem Keeps.qp (h : Keeps v s t) {p : Nat} {x : Qp} (hx : s.qp p = some x) : ∃ y, t.qp p = some y ∧ v y = v x := by
  have := h.view p
  rw [hx] at this
  exact Option.map_eq_some_iff.mp this

theorem Keeps.qp_none (h : Keeps v s t) {p : Nat} (hx : s.qp p = none) : t.qp p = none := by
  have := h.view p
  rw [hx] at this
  exact Option.map_eq_none_iff.mp this

/-- What a view keeps, a coarser one keeps. -/
theorem Keeps.coarser {γ : Type} {w : Qp → γ} (h : Keeps v s t) (g : β → γ) (hg : ∀ x, w x = g (v x)) : Keeps w s t := by
  have e : ∀ m : Table Nat Qp, (m.map fun e => (e.1, w e.2)) = (m.map fun e => (e.1, v e.2)).map fun e => (e.1, g e.2) := fun m => by
    rw [List.map_map]
    exact List.map_congr_left fun e _ => by rw [hg]; rfl
  rw [Keeps, e, h, ← e]

end

/-- A queue pair without what completions and broken chains write. -/
def Qp.core (x : Qp) : Qp := { x with comp := [], discarded := 0, broken := 0, breaking := false, breakErr := 0 }

/-- Every queue pair keeps what completions do not write. -/
abbrev KeepsCore (s t : State) : Prop := Keeps Qp.core s t

theorem discardCqe_core (s : State) (q c : Nat) : KeepsCore s (s.discardCqe q c) :=
  Keeps.trans (t := s.dropCmd c) (.of_qpe rfl) (keeps_modQp _ q _ fun _ => rfl)

theorem complete_core (s : State) (c : Nat) (st : Status) (a b : Word32) : KeepsCore s (s.complete c st a b) := by
  unfold State.complete
  split
  · exact .refl s
  · split
    · exact .refl s
    · split
      · have h : KeepsCore s (s.dropCmd c) := .of_qpe rfl
        exact h.trans (.of_qpe (congrArg Qpe.qps (pairSend_qpe (s.dropCmd c) _)))
      · split
        · exact .of_qpe rfl
        · split
          · exact discardCqe_core s _ c
          · exact Keeps.trans (t := s.modCmd c _) (.of_qpe rfl) (keeps_modQp _ _ _ fun _ => rfl)

theorem completeAll_core (s : State) (l : List Nat) (st : Status) (a b : Word32) : KeepsCore s (s.completeAll l st a b) :=
  .each l _ s fun s c => complete_core s c st a b

theorem breakChain_core (s : State) (w q : Nat) : KeepsCore s (s.breakChain w q) := by
  unfold State.breakChain
  split
  · exact .refl s
  · exact ((complete_core s _ _ _ _).trans (completeAll_core _ _ _ _ _)).trans (keeps_modQp _ _ _ fun _ => rfl)

theorem breakWaitsOn_core (s : State) (q : Nat) : KeepsCore s (s.breakWaitsOn q) := .each _ _ s fun s w => breakChain_core s w q

theorem abortUnstarted_core (s : State) (q : Nat) : KeepsCore s (s.abortUnstarted q) := by
  unfold State.abortUnstarted
  extract_lets u
  have h : KeepsCore s u := by
    change KeepsCore s (match s.qp q with | some x => if x.admin then s.dropAers x.owner else s | none => s)
    split
    · split
      · unfold State.dropAers
        dsimp only
        split
        · exact .refl s
        · exact Keeps.trans (t := { s with nsm := _ }) (.of_qpe rfl) (completeAll_core _ _ _ _ _)
      · exact .refl s
    · exact .refl s
  exact h.trans (completeAll_core _ _ _ _ _)

/-- The QPE block is the same but for its queue pairs and commands. -/
def KeepsRest (s t : State) : Prop := t.qpe = { s.qpe with qps := t.qpe.qps, cmds := t.qpe.cmds }

theorem KeepsRest.refl (s : State) : KeepsRest s s := rfl

theorem KeepsRest.trans {s t u : State} (h : KeepsRest s t) (k : KeepsRest t u) : KeepsRest s u := by
  rw [KeepsRest] at *
  rw [k, h]

theorem KeepsRest.each {α : Type} (l : List α) (f : State → α → State) (s : State) (h : ∀ s a, KeepsRest s (f s a)) : KeepsRest s (s.each l f) := by
  induction l generalizing s with
  | nil => exact .refl s
  | cons a l ih => exact (h s a).trans (ih _)

theorem complete_rest (s : State) (c : Nat) (st : Status) (a b : Word32) : KeepsRest s (s.complete c st a b) := by
  unfold State.complete
  split
  · exact .refl s
  · split
    · exact .refl s
    · split
      · rw [KeepsRest, pairSend_qpe]
        rfl
      · split
        · rfl
        · split <;> rfl

theorem breakWaitsOn_rest (s : State) (q : Nat) : KeepsRest s (s.breakWaitsOn q) := by
  refine .each _ _ s fun s w => ?_
  unfold State.breakChain
  split
  · exact .refl s
  · exact ((complete_rest s _ _ _ _).trans (.each _ _ _ fun s c => complete_rest s c _ _ _)).trans rfl

theorem abortUnstarted_rest (s : State) (q : Nat) : KeepsRest s (s.abortUnstarted q) := by
  unfold State.abortUnstarted
  extract_lets u
  have h : KeepsRest s u := by
    change KeepsRest s (match s.qp q with | some x => if x.admin then s.dropAers x.owner else s | none => s)
    split
    · split
      · unfold State.dropAers
        dsimp only
        split
        · exact .refl s
        · exact KeepsRest.trans (t := { s with nsm := _ }) rfl (.each _ _ _ fun s c => complete_rest s c _ _ _)
      · exact .refl s
    · exact .refl s
  exact h.trans (.each _ _ _ fun s c => complete_rest s c _ _ _)

/-! ## Requests toward host memory -/

/-- A queue pair without its latency samples. -/
def Qp.plain (x : Qp) : Qp := { x with lats := [] }

/-- The QPE block is the same but for latency samples that were taken. -/
structure SameQps (s t : State) : Prop where
  qps  : Keeps Qp.plain s t
  rest : t.qpe = { s.qpe with qps := t.qpe.qps }

theorem SameQps.refl (s : State) : SameQps s s := ⟨rfl, rfl⟩

theorem SameQps.trans {s t u : State} (h : SameQps s t) (k : SameQps t u) : SameQps s u :=
  ⟨h.qps.trans k.qps, by rw [k.rest, h.rest]⟩

theorem SameQps.of_qpe {s t : State} (h : t.qpe = s.qpe) : SameQps s t := ⟨.of_qpe (congrArg Qpe.qps h), by rw [h]⟩

theorem SameQps.each {α : Type} (l : List α) (f : State → α → State) (s : State) (h : ∀ s a, SameQps s (f s a)) :
    SameQps s (s.each l f) := by
  induction l generalizing s with
  | nil => exact .refl s
  | cons a l ih => exact (h s a).trans (ih _)

theorem SameQps.cmds {s t : State} (h : SameQps s t) : t.qpe.cmds = s.qpe.cmds := by rw [h.rest]

theorem SameQps.nextCmd {s t : State} (h : SameQps s t) : t.qpe.nextCmd = s.qpe.nextCmd := by rw [h.rest]

theorem SameQps.qp {s t : State} (h : SameQps s t) {p : Nat} {x : Qp} (hx : s.qp p = some x) : ∃ y, t.qp p = some y ∧ y.plain = x.plain :=
  h.qps.qp hx

theorem sampleLats_queues (s : State) (q k : Nat) : SameQps s (s.sampleLats q k) := by
  have key : ∀ (u : State) (l : List Lat), (u.each l fun s l =>
      let v := s.since l.bell - l.excl
      let s := (s.sample 6 l.tenant v true l.op).sample 8 q v true l.op
      match l.ns with | some i => s.sample 7 i v true l.op | none => s).qpe = u.qpe := fun u l => by
    induction l generalizing u with
    | nil => rfl
    | cons a l ih =>
      refine (ih _).trans ?_
      dsimp only
      split <;> rfl
  unfold State.sampleLats
  split
  · exact .refl s
  · rename_i x hx
    have h : SameQps s { s with qpe := { s.qpe with qps := tput s.qpe.qps q { x with lats := x.lats.filter fun (j, _) => j != k } } } := by
      refine ⟨?_, rfl⟩
      have e : s.modQp q (fun x => { x with lats := x.lats.filter fun (j, _) => j != k }) =
          { s with qpe := { s.qpe with qps := tput s.qpe.qps q { x with lats := x.lats.filter fun (j, _) => j != k } } } := by
        rw [State.modQp, tmod, hx]
      exact e ▸ keeps_modQp s q _ fun _ => rfl
    exact h.trans (.of_qpe (key _ _))

/-- What marking dirty pages writes. -/
def markW : Writes := { parts := [.evt, .ctr, .hif, .slc], fields := [SLC_LOG_STATUS_out_span] }

theorem foldMark_markW (s : State) (n b w v : Nat) (l : SliceLog) : Within markW s (s.foldMark n b w v l) := by
  unfold State.foldMark
  dsimp only
  split
  · exact within_slc s _ rfl
  · exact (within_slc s _ rfl).trans (within_hif { s with slc := { s.slc with folding := tput s.slc.folding (n, b, w) v } } _ rfl)

theorem markPage_markW (s : State) (n a : Nat) : Within markW s (s.markPage n a) := by
  unfold State.markPage
  split
  · exact .refl _ _
  · dsimp only
    split
    · have h : Within markW s (s.set SLC_LOG_STATUS_out_span n 1) := within_set s _ _ _ rfl
      split
      · exact h
      · exact h.trans ((within_slc _ _ rfl).trans (within_raise _ _ _ _ _ rfl rfl))
    · refine .trans ?_ (within_slc _ _ rfl)
      split
      · exact .refl _ _
      · split
        · exact .refl _ _
        · split
          · split
            · exact (within_slc s _ rfl).trans (foldMark_markW _ _ _ _ _ _)
            · exact .refl _ _
          · exact .refl _ _

theorem markWrite_qpe (s : State) (o : QOwner) (a n : Nat) : (s.markWrite o a n).qpe = s.qpe := by
  unfold State.markWrite
  split
  · exact (within_each _ _ _ fun s b => markPage_markW s _ b : Within markW s _).qpe rfl
  · rfl

theorem issueReq_queues (s : State) (r : HostReq) : SameQps s (s.issueReq r) := by
  unfold State.issueReq
  dsimp only
  split
  · refine .of_qpe ?_
    split <;> rfl
  · exact .of_qpe (markWrite_qpe s _ _ _)
  · exact (SameQps.of_qpe (markWrite_qpe s _ _ _) : SameQps s ((((s.markWrite _ _ _).send _).bump _).bump _ _)).trans (sampleLats_queues _ _ _)
  · exact .of_qpe rfl

theorem hifPump_queues (n : Nat) (s : State) : SameQps s (s.hifPump n) := by
  induction n generalizing s with
  | zero => exact .refl s
  | succ n ih =>
    unfold State.hifPump
    split
    · rename_i r rest _
      have h : SameQps s ({ s with hif := { s.hif with queue := rest } }.issueReq r) :=
        SameQps.trans (t := { s with hif := { s.hif with queue := rest } }) (.of_qpe rfl) (issueReq_queues _ r)
      exact h.trans (ih _)
    · refine .each _ _ _ fun s r => ?_
      split
      · dsimp only
        split
        · exact .of_qpe rfl
        · exact .refl s
      · exact .refl s

theorem hostOp_queues (s : State) (o : QOwner) (p : HostOp) : SameQps s (s.hostOp o p) :=
  SameQps.trans (t := { s with hif := { s.hif with queue := s.hif.queue ++ [({ owner := o, op := p } : HostReq)] } }) (.of_qpe rfl)
    (hifPump_queues _ _)

/-! ## A fetch is issued -/

/-- The entries that a queue pair's fetches have been promised slots for. -/
def Qp.promised (x : Qp) : Nat := x.fetches.foldl (fun n f => n + f.count) 0

theorem promised_eq (s : State) : s.promised = (s.qpe.qps.map fun e => e.2.promised).sum := by
  have h1 : ∀ (l : List Fetch) (n : Nat), l.foldl (fun n f => n + f.count) n = n + l.foldl (fun n f => n + f.count) 0 := fun l => by
    induction l with
    | nil => intro n; rfl
    | cons f l ih =>
      intro n
      rw [List.foldl_cons, List.foldl_cons, ih, ih (0 + f.count)]
      omega
  have h2 : ∀ (l : Table Nat Qp) (n : Nat), l.foldl (fun n e => e.2.fetches.foldl (fun n f => n + f.count) n) n =
      n + (l.map fun e => e.2.promised).sum := fun l => by
    induction l with
    | nil => intro n; rfl
    | cons e l ih =>
      intro n
      rw [List.foldl_cons, ih, h1, List.map_cons, List.sum_cons, Qp.promised]
      omega
  exact (h2 _ 0).trans (Nat.zero_add _)

theorem SameQps.promised {s t : State} (h : SameQps s t) : t.promised = s.promised := by
  have e : ∀ m : Table Nat Qp, (m.map fun e => e.2.promised) = (m.map fun e => (e.1, e.2.plain)).map fun e => e.2.promised := fun m => by
    rw [List.map_map]
    rfl
  rw [promised_eq, promised_eq, e t.qpe.qps, e s.qpe.qps, h.qps]

theorem promised_modQp (s : State) (q : Nat) (f : Qp → Qp) (n : Nat) (h : ∀ x, s.qp q = some x → (f x).promised ≤ x.promised + n) :
    (s.modQp q f).promised ≤ s.promised + n := by
  rw [promised_eq, promised_eq]
  show ((tmod s.qpe.qps q f).map _).sum ≤ _
  rw [State.qp] at h
  generalize s.qpe.qps = m at h
  rw [tmod]
  split
  · rename_i x hx
    have hf := h x hx
    clear h
    induction m with
    | nil => cases hx
    | cons e m ih =>
      obtain ⟨j, y⟩ := e
      rw [tget] at hx
      rw [tput]
      split at hx
      · cases hx
        rw [if_pos ‹_›, List.map_cons, List.map_cons, List.sum_cons, List.sum_cons]
        dsimp only
        omega
      · rw [if_neg ‹_›, List.map_cons, List.map_cons, List.sum_cons, List.sum_cons]
        have := ih hx
        omega
  · exact Nat.le_add_right _ _

/-- What issuing a fetch writes. -/
def fetchW : Writes :=
  { parts := [.evt, .ctr, .tel, .hkt, .tms, .swc, .qpe, .key, .hif, .slc, .freeCtr, .outbox]
    fields := cells ++ contexts ++ [SLC_LOG_STATUS_out_span] }

/-- How many entries would be fetched of a queue pair. -/
def State.fetchCount (s : State) (q : Nat) (x : Qp) : Nat :=
  min (min ((x.sqTail + x.sqEntries - x.sqHead) % x.sqEntries) (clampNat 1 64 (s.get QPE_FETCH_CFG_batch)))
    (min (min (1024 - s.inflight q) s.freeSlots) (x.sqEntries - x.sqHead))

/-- The fetch of a queue pair of so many entries. -/
def State.fetchOf (s : State) (x : Qp) (n : Nat) : Fetch :=
  { first := x.sqHead, count := n, asked := match x.owner with | .net _ => none | _ => some s.dtc }

/-- Its queue pair holds the fetch. -/
def State.fetchHeld (s : State) (q : Nat) (x : Qp) : State := s.modQp q fun y => { y with fetches := [s.fetchOf y (s.fetchCount q x)] }

/-- A fetch is issued: its queue pair holds it, and the packet or the read is asked for. -/
structure Fetches (s t : State) (q : Nat) (x : Qp) : Prop where
  queues : SameQps (s.fetchHeld q x) t
  writes : Within fetchW s t

theorem fetchIssue_stays (s : State) (q : Nat) (x : Qp) (hx : s.qp q = some x)
    (h : (x.sqTail + x.sqEntries - x.sqHead) % x.sqEntries = 0 ∨ x.fetches ≠ [] ∨ s.fetchStopped q x = true) : s.fetchIssue q = s := by
  unfold State.fetchIssue
  rw [hx]
  exact if_pos (by
    rcases h with h | h | h
    · simp [h]
    · simp [h]
    · simp [h])

theorem fetchIssue_fetches (s : State) (q : Nat) (x : Qp) (hx : s.qp q = some x)
    (hp : (x.sqTail + x.sqEntries - x.sqHead) % x.sqEntries ≠ 0) (hf : x.fetches = []) (hs : s.fetchStopped q x = false) :
    Fetches s (s.fetchIssue q) q x := by
  have hq : Within fetchW s (s.fetchHeld q x) := within_qpe s _ rfl
  have e : s.fetchIssue q = match x.owner with
      | .net e => (s.fetchHeld q x).sendMsg x.servEid e (.readReq x.sqKey (64 * x.sqHead) (64 * s.fetchCount q x)) false false 7 (.sqeFetch q)
      | o => (s.fetchHeld q x).hostOp o (.read (.sqe q) (x.sqBase.toNat + 64 * x.sqHead) (64 * s.fetchCount q x)) := by
    unfold State.fetchIssue
    rw [hx]
    refine (if_neg (by simp [hp, hf, hs])).trans ?_
    cases x.owner <;> rfl
  rw [e]
  split
  · have w := within_sendMsg (s.fetchHeld q x) x.servEid ‹Eid› (.readReq x.sqKey (64 * x.sqHead) (64 * s.fetchCount q x)) false false 7 (.sqeFetch q) 4093 false
    exact ⟨.of_qpe (w.qpe rfl), hq.trans (w.widen (by decide) (by decide) (by decide))⟩
  · have w := within_hostOp (s.fetchHeld q x) x.owner (.read (.sqe q) (x.sqBase.toNat + 64 * x.sqHead) (64 * s.fetchCount q x))
    exact ⟨hostOp_queues _ _ _, hq.trans (w.widen (by decide) (by decide) (by decide))⟩

theorem fetchIssue_cases (s : State) (q : Nat) : s.fetchIssue q = s ∨ ∃ x, s.qp q = some x ∧ x.fetches = [] ∧ Fetches s (s.fetchIssue q) q x := by
  cases hx : s.qp q with
  | none => exact .inl (by rw [State.fetchIssue, hx])
  | some x =>
    by_cases h : (x.sqTail + x.sqEntries - x.sqHead) % x.sqEntries = 0 ∨ x.fetches ≠ [] ∨ s.fetchStopped q x = true
    · exact .inl (fetchIssue_stays s q x hx h)
    · push Not at h
      obtain ⟨hp, hf, hs⟩ := h
      exact .inr ⟨x, rfl, hf, fetchIssue_fetches s q x hx hp hf (Bool.eq_false_iff.mpr hs)⟩

end Sys2Proof.Machine
end

section
/-! PROOFS. Entries are fetched, accepted or completed, and host reads bring or lose them (R112 to R116, R382). -/

namespace Sys2Proof.Machine

open F

/-! ## Fetch goes on in rotation (R113) -/

theorem freeSlots_of {s u : State} (k : Nat) (hc : u.qpe.cmds = s.qpe.cmds) (hp : u.promised ≤ s.promised + 64 * k)
    (h : 64 * (k + 1) ≤ s.freeSlots) : 1 ≤ u.freeSlots := by
  rw [State.freeSlots] at h ⊢
  rw [State.cmdsHere, hc]
  rw [State.cmdsHere] at h
  omega

/-- A network queue that fetch does not stop is not stopped by fetches of other queues while slots are left. -/
theorem fetchStopped_congr {s u : State} {q : Nat} {x y : Qp} {e : Eid} (hy : y.plain = x.plain) (ho : x.owner = .net e)
    (hc : u.qpe.cmds = s.qpe.cmds) (hw : u.flag JNL_NEVE_STATUS_high_water = s.flag JNL_NEVE_STATUS_high_water) (hf : 1 ≤ u.freeSlots)
    (h : s.fetchStopped q x = false) : u.fetchStopped q y = false := by
  have hyo : y.owner = .net e := (congrArg Qp.owner hy).trans ho
  have hys : y.state = x.state := (congrArg Qp.state hy :)
  have hyp : y.paused = x.paused := (congrArg Qp.paused hy :)
  have hn : u.nextToStart q = s.nextToStart q := by rw [State.nextToStart, State.nextToStart, hc]
  have hi : u.inflight q = s.inflight q := by rw [State.inflight, State.inflight, State.cmdsOf, State.cmdsOf, hc]
  have hf' : u.freeSlots ≠ 0 := by omega
  simp only [State.fetchStopped, ho, hyo, hys, hyp, hn, hi, hw, Bool.or_eq_false_iff, decide_eq_false_iff_not] at h ⊢
  obtain ⟨⟨⟨⟨⟨⟨h1, _⟩, h3⟩, h4⟩, h5⟩, h6⟩, h7⟩ := h
  exact ⟨⟨⟨⟨⟨⟨h1, hf'⟩, h3⟩, h4⟩, h5⟩, h6⟩, h7⟩

/-- What fetches of `k` other queues leave of a queue pair that waits for its own. -/
structure Waits (s u : State) (q k : Nat) (x : Qp) : Prop where
  cmds     : u.qpe.cmds = s.qpe.cmds
  water    : u.flag JNL_NEVE_STATUS_high_water = s.flag JNL_NEVE_STATUS_high_water
  promised : u.promised ≤ s.promised + 64 * k
  qp       : ∃ y, u.qp q = some y ∧ y.plain = x.plain

/-- The fetch that a queue pair got. -/
def Fetched (u : State) (q first : Nat) : Prop :=
  ∃ y f, u.qp q = some y ∧ y.fetches = [f] ∧ f.first = first ∧ 1 ≤ f.count ∧ f.count ≤ 64 ∧ f.bytes = none

theorem clampNat_bounds {lo hi : Nat} (v : Nat) (h : lo ≤ hi) : lo ≤ clampNat lo hi v ∧ clampNat lo hi v ≤ hi := by
  unfold clampNat
  split
  · exact ⟨le_refl _, h⟩
  · split <;> omega

theorem fetchCount_le (s : State) (q : Nat) (x : Qp) : s.fetchCount q x ≤ 64 := by
  have := clampNat_bounds (s.get QPE_FETCH_CFG_batch) (show 1 ≤ 64 by decide)
  unfold State.fetchCount
  omega

theorem Waits.other {s u : State} {q k p : Nat} {x : Qp} (h : Waits s u q k x) (hp : p ≠ q) : Waits s (u.fetchIssue p) q (k + 1) x := by
  obtain ⟨hc, hw, hpr, y, hy, hyx⟩ := h
  rcases fetchIssue_cases u p with e | ⟨z, hz, hf, d⟩
  · rw [e]
    exact ⟨hc, hw, by omega, y, hy, hyx⟩
  · have hq : (u.fetchHeld p z).qp q = some y := by
      rw [State.fetchHeld, qp_modQp, if_neg hp, hy]
    obtain ⟨y', hy', e⟩ := d.queues.qp hq
    have hle := promised_modQp u p (fun y => { y with fetches := [u.fetchOf y (u.fetchCount p z)] }) 64 fun w _ => by
      have := fetchCount_le u p z
      simp only [Qp.promised, State.fetchOf, List.foldl_cons, List.foldl_nil]
      omega
    refine ⟨d.queues.cmds.trans hc, ?_, ?_, y', hy', e.trans hyx⟩
    · rw [State.flag, d.writes.regs _ _ rfl]
      exact hw
    · rw [d.queues.promised]
      exact hle.trans (by omega)

theorem Waits.own {s u : State} {q k : Nat} {x : Qp} {e : Eid} (h : Waits s u q k x) (ho : x.owner = .net e) (hh : x.sqHead < x.sqEntries)
    (ht : x.sqTail < x.sqEntries) (hne : x.sqTail ≠ x.sqHead) (hf : x.fetches = []) (hs : s.fetchStopped q x = false)
    (hfree : 64 * (k + 1) ≤ s.freeSlots) : Fetched (u.fetchIssue q) q x.sqHead := by
  obtain ⟨hc, hw, hpr, y, hy, hyx⟩ := h
  have e1 : y.sqHead = x.sqHead := (congrArg Qp.sqHead hyx :)
  have e2 : y.sqTail = x.sqTail := (congrArg Qp.sqTail hyx :)
  have e3 : y.sqEntries = x.sqEntries := (congrArg Qp.sqEntries hyx :)
  have e4 : y.fetches = [] := (congrArg Qp.fetches hyx).trans hf
  have hslots := freeSlots_of k hc hpr hfree
  have hst := fetchStopped_congr hyx ho hc hw hslots hs
  have hpend : 1 ≤ (y.sqTail + y.sqEntries - y.sqHead) % y.sqEntries := by
    rw [e1, e2, e3]
    by_cases hlt : x.sqHead < x.sqTail
    · rw [show x.sqTail + x.sqEntries - x.sqHead = (x.sqTail - x.sqHead) + x.sqEntries by omega, Nat.add_mod_right, Nat.mod_eq_of_lt (by omega)]
      omega
    · rw [Nat.mod_eq_of_lt (by omega)]
      omega
  have hroom : u.inflight q < 1024 := by
    simp only [State.fetchStopped, Bool.or_eq_false_iff, decide_eq_false_iff_not] at hst
    omega
  have d := fetchIssue_fetches u q y hy (by omega) e4 hst
  have hq : (u.fetchHeld q y).qp q = some { y with fetches := [u.fetchOf y (u.fetchCount q y)] } := by
    rw [State.fetchHeld, qp_modQp, if_pos rfl, hy, Option.map_some]
  obtain ⟨z, hz, e⟩ := d.queues.qp hq
  refine ⟨z, _, hz, congrArg Qp.fetches e, e1, ?_, fetchCount_le u q y, rfl⟩
  show 1 ≤ u.fetchCount q y
  have := clampNat_bounds (u.get QPE_FETCH_CFG_batch) (show 1 ≤ 64 by decide)
  unfold State.fetchCount
  omega

theorem Fetched.fetchIssue {u : State} {q first : Nat} (h : Fetched u q first) (p : Nat) : Fetched (u.fetchIssue p) q first := by
  obtain ⟨y, f, hy, hf, hrest⟩ := h
  rcases fetchIssue_cases u p with e | ⟨z, hz, hz0, d⟩
  · rw [e]
    exact ⟨y, f, hy, hf, hrest⟩
  · have hp : p ≠ q := fun e => by
      rw [e, hy] at hz
      cases hz
      rw [hf] at hz0
      cases hz0
    have hq : (u.fetchHeld p z).qp q = some y := by rw [State.fetchHeld, qp_modQp, if_neg hp, hy]
    obtain ⟨y', hy', e⟩ := d.queues.qp hq
    exact ⟨y', f, hy', (congrArg Qp.fetches e).trans hf, hrest⟩

/-- A queue pair that nothing stops gets its fetch, whichever queues are served before and after it. -/
theorem each_fetched {s : State} {q : Nat} {x : Qp} {e : Eid} (ho : x.owner = .net e) (hh : x.sqHead < x.sqEntries)
    (ht : x.sqTail < x.sqEntries) (hne : x.sqTail ≠ x.sqHead) (hf : x.fetches = []) (hs : s.fetchStopped q x = false) (l : List Nat) (k : Nat)
    (u : State) (hfree : 64 * (k + l.length) ≤ s.freeSlots) (h : (q ∈ l ∧ Waits s u q k x) ∨ Fetched u q x.sqHead) :
    Fetched (u.each l State.fetchIssue) q x.sqHead := by
  induction l generalizing k u with
  | nil => exact h.elim (fun h => absurd h.1 List.not_mem_nil) id
  | cons p l ih =>
    rw [List.length_cons] at hfree
    refine ih (k + 1) _ (by omega) ?_
    rcases h with ⟨hm, hw⟩ | h
    · by_cases hp : p = q
      · subst hp
        exact .inr (hw.own ho hh ht hne hf hs (by omega))
      · exact .inl ⟨(List.mem_cons.mp hm).resolve_left fun e => hp e.symm, hw.other hp⟩
    · exact .inr (h.fetchIssue p)

/-! ## An entry is accepted (R112) -/

theorem tget_snoc {m : Table Nat Cmd} {k : Nat} {v : Cmd} (h : tget m k = none) : tget (m ++ [(k, v)]) k = some v := by
  rw [tget_append, h, Option.none_or, tget, if_pos rfl]

theorem bellFor_after (s : State) (q i : Nat) : (s.bellFor q i).2 = s ∨ ∃ l, (s.bellFor q i).2 = s.modQp q fun x => { x with bells := l } := by
  unfold State.bellFor
  split
  · exact .inl rfl
  · split
    · exact .inl rfl
    · rename_i rest _
      dsimp only
      split
      · exact .inr ⟨rest, rfl⟩
      · exact .inl rfl

/-- An accepted entry before its checks: a command more, and the queue's head one further. -/
structure Accepted (s t : State) (q : Nat) (x : Qp) (e : Sqe) : Prop where
  cmd  : ∃ y, t.cmd s.qpe.nextCmd = some y ∧ y.phase = .fetched ∧ y.qpn = q ∧ y.sqe = e ∧ y.fetchedAt = s.dtc ∧ y.remote = none ∧ y.ns = none
  cmds : ∀ k c, (k, c) ∈ t.qpe.cmds → (k, c) ∈ s.qpe.cmds ∨ k = s.qpe.nextCmd
  next : t.qpe.nextCmd = s.qpe.nextCmd + 1
  qp   : ∃ l, t.qp q = some { x with sqHead := (x.sqHead + 1) % x.sqEntries, bells := l }

theorem acceptEntry_accepted (s : State) (q : Nat) (x : Qp) (away : Nat) (d : List Byte) (hx : s.qp q = some x) (hb : x.breaking = false)
    (hn : tget s.qpe.cmds s.qpe.nextCmd = none) :
    ∃ u, s.acceptEntry q away d = u.commandCheck x.owner q s.qpe.nextCmd (sqeParse d) ∧ Accepted s u q x (sqeParse d) := by
  have hbell := bellFor_after s q x.sqHead
  unfold State.acceptEntry
  rw [hx]
  dsimp only
  generalize hv : (s.bellFor q x.sqHead).2 = v at hbell
  have hvc : v.qpe.cmds = s.qpe.cmds := by rcases hbell with e | ⟨l, e⟩ <;> rw [e] <;> rfl
  have hvn : v.qpe.nextCmd = s.qpe.nextCmd := by rcases hbell with e | ⟨l, e⟩ <;> rw [e] <;> rfl
  have hvd : v.dtc = s.dtc := by rcases hbell with e | ⟨l, e⟩ <;> rw [e] <;> rfl
  have hvq : ∃ l, v.qp q = some { x with bells := l } := by
    rcases hbell with e | ⟨l, e⟩
    · exact ⟨x.bells, by rw [e, hx]⟩
    · exact ⟨l, by rw [e, qp_modQp, if_pos rfl, hx, Option.map_some]⟩
  rw [hb, Bool.false_and, if_neg Bool.false_ne_true, hvn]
  obtain ⟨l, hl⟩ := hvq
  refine ⟨_, rfl, ?_, ?_, rfl, l, ?_⟩
  · refine ⟨_, tget_snoc (m := v.qpe.cmds) (by rw [hvc, hn]), ?_⟩
    exact ⟨rfl, rfl, rfl, hvd, rfl, rfl⟩
  · intro k c hm
    have hm : (k, c) ∈ v.qpe.cmds ++ [(s.qpe.nextCmd, _)] := hm
    rcases List.mem_append.mp hm with hm | hm
    · exact .inl (hvc ▸ hm)
    · rw [List.mem_singleton] at hm
      exact .inr (congrArg Prod.fst hm)
  · show tget (tmod v.qpe.qps q _) q = _
    rw [tget_tmod_same]
    show (v.qp q).map _ = _
    rw [hl, Option.map_some]

theorem Accepted.cidFree {s t : State} {q : Nat} {x : Qp} {e : Sqe} (h : Accepted s t q x e)
    (hc : ∀ a ∈ s.qpe.cmds, a.2.qpn = q → a.2.sqe.cid ≠ e.cid) : t.cidBusy q s.qpe.nextCmd e.cid = false := by
  rw [State.cidBusy, List.any_eq_false]
  rintro ⟨k, c⟩ hm
  rcases h.cmds k c hm with hm | hk
  · have := hc (k, c) hm
    by_cases hq : c.qpn = q
    · simp [this hq]
    · simp [hq]
  · simp [hk]

/-- The queue's next fetch keeps its commands and its head. -/
theorem fetchIssue_qpe (s : State) (q : Nat) : (s.fetchIssue q).qpe.cmds = s.qpe.cmds ∧ (s.fetchIssue q).qpe.nextCmd = s.qpe.nextCmd ∧
    ∀ x, s.qp q = some x → ∃ y, (s.fetchIssue q).qp q = some y ∧ y.sqHead = x.sqHead := by
  rcases fetchIssue_cases s q with e | ⟨z, hz, _, d⟩
  · rw [e]
    exact ⟨rfl, rfl, fun x hx => ⟨x, hx, rfl⟩⟩
  · refine ⟨d.queues.cmds, d.queues.nextCmd, fun x hx => ?_⟩
    obtain ⟨y, hy, e⟩ := d.queues.qp (p := q) (x := { x with fetches := [s.fetchOf x (s.fetchCount q z)] })
      (by rw [State.fetchHeld, qp_modQp, if_pos rfl, hx, Option.map_some])
    exact ⟨y, hy, (congrArg Qp.sqHead e :)⟩

theorem fetchComplete_one (s : State) (q : Nat) (x : Qp) (f : Fetch) (l : List Fetch) (d : List Byte) (hx : s.qp q = some x)
    (hf : x.fetches = f :: l) (hc : f.count = 1) (hd : f.bytes = some d) :
    ∃ away, s.fetchComplete q = ((s.modQp q fun x => { x with fetches := l }).acceptEntry q away (d.take 64)).fetchIssue q := by
  unfold State.fetchComplete
  rw [hx]
  dsimp only
  rw [hf]
  dsimp only
  rw [hd, hc]
  exact ⟨_, rfl⟩

/-! ## The obligation -/

/-- A command of tenant 4,093 is not policed. -/
theorem police_unpoliced (s : State) (c n : Nat) (x : Cmd) (hx : s.cmd c = some x) (hns : x.ns = none) :
    ∃ y, (s.police c n).cmd c = some y ∧ y.phase = x.phase ∧ y.qpn = x.qpn ∧ y.sqe = x.sqe ∧ y.fetchedAt = x.fetchedAt := by
  have ht : s.cmdTenant x = 4093 := by rw [State.cmdTenant, hns]
  have hm : s.measure (s.cmdTenant x) n (s.precolour x.qpn) = (s.admitCount 4093 n .green, .green) := by
    rw [State.measure, ht, if_pos (by simp [State.policed])]
  have ha : (s.admitCount 4093 n .green).cmd c = some x := by
    unfold State.admitCount
    exact hx
  unfold State.police
  rw [hx]
  dsimp only
  rw [hm]
  dsimp only
  rw [if_pos (by decide)]
  refine ⟨_, (cmd_modCmd_same _ c _).trans (by rw [ha, Option.map_some]), ?_⟩
  exact ⟨rfl, rfl, rfl, rfl⟩

theorem syncCheck_within (s : State) : Within { parts := [.slc], fields := [SLC_LOG_STATUS_syncs, SLC_LOG_STATUS_on, SLC_CMD_busy, SLC_CMD_result] } s s.syncCheck := by
  unfold State.syncCheck
  split
  · exact .refl _ _
  · refine within_ite _ (fun _ => .refl _ _) fun _ => ?_
    dsimp only
    exact (((within_set s _ _ _ rfl : Within _ s (s.inc SLC_LOG_STATUS_syncs _)).trans (within_slc _ _ rfl)).trans
      (within_ite _ (fun _ => within_set _ _ _ _ rfl) fun _ => .refl _ _)).trans ((within_set _ _ _ _ rfl).trans (within_set _ _ _ _ rfl))

/-- A queue pair in service that fails: no fetch is left of it, and the failure is reported (R118). -/
theorem queueError_after (s : State) (q : Nat) (x : Qp) (hx : s.qp q = some x) (ha : x.state = .active) (hr : x.ringBad = false) :
    (∃ y, (s.queueError q).qp q = some y ∧ y.state = .error ∧ y.fetches = []) ∧ Reports s (s.queueError q) EV_QPE_QUEUE_ERROR 3 q [] := by
  let t1 := s.each x.comp fun s c => s.discardCqe q c
  let t2 := (t1.modQp q fun y => { y with comp := [], merging := [], mergeLats := [], discarded := y.discarded + x.merging.length }).modQp q
    fun x => { x with state := .error, fetches := [], sqTail := x.sqHead, bells := [] }
  have e : s.queueError q = ((((t2.abortUnstarted q).raise EV_QPE_QUEUE_ERROR 3 q).bump (ctrQpe (engineOf x q) 7)).breakWaitsOn q).qpeStatus := by
    unfold State.queueError
    rw [hx]
    dsimp only
    rw [if_neg (by simp [ha, hr]), if_neg (by simp [ha])]
  have w1 : Within deleteW s t1 := within_each _ _ _ fun s c =>
    ((within_qpe s _ rfl).trans (within_qpe _ _ rfl)).trans ((within_set _ _ _ _ rfl).trans (within_set _ _ _ _ rfl))
  have k1 : KeepsCore s t1 := .each _ _ _ fun s c => discardCqe_core s q c
  have w2 : Within deleteW s t2 := w1.trans ((within_qpe _ _ rfl).trans (within_qpe _ _ rfl))
  obtain ⟨y1, hy1, _⟩ := k1.qp hx
  have h2 : ∃ y, t2.qp q = some y ∧ y.state = .error ∧ y.fetches = [] := by
    refine ⟨_, qp_modQp_same _ q _ (qp_modQp_same t1 q _ hy1), ?_⟩
    exact ⟨rfl, rfl⟩
  have w3 := w2.trans (deleteW_abortUnstarted t2 q)
  have k3 := abortUnstarted_core t2 q
  rw [e]
  generalize t2.abortUnstarted q = t3 at w3 k3
  have w4 : Within deleteW (t3.raise EV_QPE_QUEUE_ERROR 3 q)
      ((((t3.raise EV_QPE_QUEUE_ERROR 3 q).bump (ctrQpe (engineOf x q) 7)).breakWaitsOn q).qpeStatus) :=
    ((within_bump _ _ _ rfl).trans (deleteW_breakWaitsOn _ q)).trans ((within_set _ _ _ _ rfl).trans (within_set _ _ _ _ rfl))
  have k4 : KeepsCore t3 ((((t3.raise EV_QPE_QUEUE_ERROR 3 q).bump (ctrQpe (engineOf x q) 7)).breakWaitsOn q).qpeStatus) :=
    (Keeps.trans (t := (t3.raise EV_QPE_QUEUE_ERROR 3 q).bump (ctrQpe (engineOf x q) 7)) (.of_qpe rfl) (breakWaitsOn_core _ q)).trans (.of_qpe rfl)
  generalize (((t3.raise EV_QPE_QUEUE_ERROR 3 q).bump (ctrQpe (engineOf x q) 7)).breakWaitsOn q).qpeStatus = t4 at w4 k4
  constructor
  · obtain ⟨y2, hy2, hs, hf⟩ := h2
    obtain ⟨y4, hy4, h⟩ := (k3.trans k4).qp hy2
    exact ⟨y4, hy4, (congrArg Qp.state h :).trans hs, (congrArg Qp.fetches h :).trans hf⟩
  · have r : Reports s (t3.raise EV_QPE_QUEUE_ERROR 3 q) EV_QPE_QUEUE_ERROR 3 q [] :=
      reports_raise (s := s) (u := t3) _ _ _ _ (w3.dtc rfl) (w3.evt rfl) fun f i hf =>
        w3.regs f i (field_of_other_block deleteW f i hf (by decide) (by decide))
    exact r.congr (w4.evt rfl)

theorem takeRead_some (s : State) (j : Nat) (r : HostRead) (h : s.hif.reads[j]? = some r) :
    s.takeRead j = some (r, { s with hif := { s.hif with reads := s.hif.reads.eraseIdx j } }) := by rw [State.takeRead, h]

/-- The oldest fetch of a queue pair with its bytes. -/
def fetchBack (d : List Byte) (x : Qp) : Qp :=
  { x with
    fetches := match x.fetches with
      | f :: t => { f with bytes := some d } :: t
      | [] => [] }

/-- Settles O16: a fetch is issued within the slots left; an accepted entry is admitted or completed; a host read brings a
fetch its bytes, and a lost one fails its queue. -/
theorem fetchingEntries : Obligations.FetchingEntries := by
  unfold Obligations.FetchingEntries
  refine ⟨fun s q x e hx ho hh ht hne hf hs hfree => ?_, fun s q x f d l hx hf hc hd hb had hst hr hn hcid hop => ?_,
    fun s q x e f d l hx ho hf hc hd hb had hn hcid hop hps hpt => ?_, fun s j q r x f l d hr hu hd hx hf => ?_,
    fun s j q r x a hr hu hx hst hrb => ?_⟩
  · refine ⟨_, rfl, ?_⟩
    have d : Fetched s.fetchResume q x.sqHead := by
      refine each_fetched ho hh ht hne hf hs _ 0 s (by rw [length_sortOn, List.length_map]; omega) (.inl ⟨?_, rfl, rfl, by omega, x, hx, rfl⟩)
      exact (mem_sortOn _ _ _).mpr (List.mem_map.mpr ⟨(q, x), mem_of_tget hx, rfl⟩)
    exact d
  · obtain ⟨away, e⟩ := fetchComplete_one s q x f l d hx hf hc hd
    have hx' : (s.modQp q fun x => { x with fetches := l }).qp q = some { x with fetches := l } := qp_modQp_same s q _ hx
    obtain ⟨u, hu, ha⟩ := acceptEntry_accepted _ q _ away (d.take 64) hx' hb hn
    obtain ⟨y, hy, hph, hyq, _, _, hrem, _⟩ := ha.cmd
    have hu : _ = u.commandCheck x.owner q s.qpe.nextCmd (sqeParse (d.take 64)) := hu
    have hy : u.cmd s.qpe.nextCmd = some y := hy
    obtain ⟨bells, hq⟩ := ha.qp
    have hcheck : u.commandCheck x.owner q s.qpe.nextCmd (sqeParse (d.take 64)) = u.complete s.qpe.nextCmd St.invalidOpcode := by
      have hadm : u.isAdmin q = false := by rw [State.isAdmin, hq]; exact had
      have hearly : u.earlyCheck x.owner q s.qpe.nextCmd (sqeParse (d.take 64)) = some St.invalidOpcode := by
        have hfree : u.cidBusy q s.qpe.nextCmd (sqeParse (d.take 64)).cid = false := ha.cidFree hcid
        rw [State.earlyCheck, hfree, hop]
        rfl
      rw [State.commandCheck, hadm, hearly]
      rfl
    have hrun : Running u s.qpe.nextCmd y { x with fetches := l, sqHead := (x.sqHead + 1) % x.sqEntries, bells := bells } :=
      ⟨hy, hrem, by rw [hph]; decide, by rw [hyq]; exact hq, hst, hr⟩
    obtain ⟨hcmds, hnext, hhead⟩ := fetchIssue_qpe (u.complete s.qpe.nextCmd St.invalidOpcode) q
    have e' : s.fetchComplete q = (u.complete s.qpe.nextCmd St.invalidOpcode).fetchIssue q := by rw [e, hu, hcheck]
    refine ⟨_, rfl, ?_, ?_, ?_⟩
    · obtain ⟨z, hz, h⟩ := hrun.complete_completes St.invalidOpcode 0 0
      refine ⟨z, ?_, h⟩
      show tget (s.fetchComplete q).qpe.cmds _ = _
      rw [e', hcmds]
      exact hz
    · show (s.fetchComplete q).qpe.nextCmd = _
      have hkeep : (u.complete s.qpe.nextCmd St.invalidOpcode).qpe.nextCmd = u.qpe.nextCmd := by
        unfold State.complete
        rw [hy]
        dsimp only
        rw [if_neg (by rw [hph]; decide), hrem]
        dsimp only
        rw [hrun.qp]
        dsimp only
        split <;> rfl
      rw [e', hnext, hkeep]
      exact ha.next
    · obtain ⟨z, hz, hcore⟩ := (complete_core u s.qpe.nextCmd St.invalidOpcode 0 0).qp hq
      obtain ⟨w, hw, hwh⟩ := hhead z hz
      refine ⟨w, ?_, hwh.trans (congrArg Qp.sqHead hcore :)⟩
      show (s.fetchComplete q).qp q = _
      rw [e']
      exact hw
  · obtain ⟨away, e'⟩ := fetchComplete_one s q x f l d hx hf hc hd
    have hx' : (s.modQp q fun x => { x with fetches := l }).qp q = some { x with fetches := l } := qp_modQp_same s q _ hx
    obtain ⟨u, hu, ha⟩ := acceptEntry_accepted _ q _ away (d.take 64) hx' hb hn
    obtain ⟨y, hy, hph, hyq, hsq, hat_, _, hns⟩ := ha.cmd
    have hu : _ = u.commandCheck x.owner q s.qpe.nextCmd (sqeParse (d.take 64)) := hu
    have hy : u.cmd s.qpe.nextCmd = some y := hy
    obtain ⟨bells, hq⟩ := ha.qp
    have hcheck : u.commandCheck x.owner q s.qpe.nextCmd (sqeParse (d.take 64)) =
        u.police s.qpe.nextCmd (dataLen true (sqeParse (d.take 64)) + u.get TMS_POLICE_CFG_cmd_cost) := by
      have hadm : u.isAdmin q = true := by rw [State.isAdmin, hq]; exact had
      have hfree : u.cidBusy q s.qpe.nextCmd (sqeParse (d.take 64)).cid = false := ha.cidFree hcid
      have hadmin : u.adminCheck x.owner q s.qpe.nextCmd (sqeParse (d.take 64)) = none := by
        rw [State.adminCheck, hfree, hop, ho, hps, hpt]
        rfl
      rw [State.commandCheck, hadm, hadmin, ho]
      rfl
    obtain ⟨z, hz, h1, h2, h3, h4⟩ := police_unpoliced u s.qpe.nextCmd
      (dataLen true (sqeParse (d.take 64)) + u.get TMS_POLICE_CFG_cmd_cost) y hy hns
    refine ⟨_, rfl, z, ?_, h1.trans hph, h2.trans hyq, h3.trans hsq, h4.trans hat_⟩
    show tget (s.fetchComplete q).qpe.cmds _ = _
    rw [e', (fetchIssue_qpe _ q).1]
    rw [hu, hcheck]
    exact hz
  · refine ⟨_, rfl, ?_⟩
    have e : s.dmaCompletion j d = ({ s with hif := { s.hif with reads := s.hif.reads.eraseIdx j } } : State).modQp q (fetchBack d) := by
      rw [State.dmaCompletion, takeRead_some s j r hr]
      dsimp only
      rw [if_neg (by simp [hd]), hu]
      rfl
    have w := syncCheck_within (s.dmaCompletion j d)
    have hq : (s.dmaCompletion j d).qp q = some (fetchBack d x) := by
      rw [e]
      exact qp_modQp_same { s with hif := { s.hif with reads := s.hif.reads.eraseIdx j } } q _ hx
    refine ⟨?_, fetchBack d x, ?_, ?_⟩
    · show (s.dmaCompletion j d).syncCheck.hif.reads = _
      rw [w.hif rfl, e]
      rfl
    · show tget (s.dmaCompletion j d).syncCheck.qpe.qps q = _
      rw [w.qpe rfl]
      exact hq
    · rw [fetchBack, hf]
  · refine ⟨_, rfl, ?_⟩
    let u : State := if a then { s with hif := { s.hif with reads := s.hif.reads.eraseIdx j } }
      else ({ s with hif := { s.hif with reads := s.hif.reads.eraseIdx j } } : State).bump (ctrHif (s.epOf r.owner) 12)
    have hw : Within { parts := [.hif, .ctr] } s u := within_ite _ (fun _ => within_hif s _ rfl) fun _ =>
      .trans (t := { s with hif := { s.hif with reads := s.hif.reads.eraseIdx j } }) (within_hif s _ rfl) (within_bump _ _ _ rfl)
    have e : s.dmaTimeout j a = u.queueError q := by
      rw [State.dmaTimeout, takeRead_some s j r hr]
      dsimp only
      rw [hu]
      rfl
    have w := syncCheck_within (s.dmaTimeout j a)
    rw [e] at w
    have hxu : u.qp q = some x := by
      rw [State.qp, hw.qpe rfl]
      exact hx
    obtain ⟨⟨y, hy, hs, hf⟩, hrep⟩ := queueError_after u q x hxu hst hrb
    refine ⟨⟨y, ?_, hs, hf⟩, ?_⟩
    · show tget (s.dmaTimeout j a).syncCheck.qpe.qps q = _
      rw [e, w.qpe rfl]
      exact hy
    · refine (hrep.ofSame (hw.dtc rfl) (hw.evt rfl) fun f i hf => hw.regs f i (field_of_other_block _ f i hf rfl rfl)).congr ?_
      show (s.dmaTimeout j a).syncCheck.evt = _
      rw [e, w.evt rfl]

end Sys2Proof.Machine
end

section
/-! PROOFS. Queue pairs are created, deleted, queried and reset over the network, and deletions end (R102 to R108). -/

namespace Sys2Proof.Machine

open F

/-! ## Replies -/

theorem queueReply_after (s : State) (src dst : Eid) (r : QReply) :
    (s.queueReply src dst r).hkt.nextMsg = s.hkt.nextMsg + 1 ∧ Within messageW s (s.queueReply src dst r) :=
  ⟨send_nextMsg _ _ _ _ _ _ _ _ _ _ _, within_sendMsg _ _ _ _ _ _ _ _ _ _⟩

theorem queueQuery_replies (s : State) (src dst : Eid) (m : QSetup) : ∃ r, s.queueQuery src dst m = s.queueReply src dst r := by
  unfold State.queueQuery State.queueFail
  split
  · exact ⟨_, rfl⟩
  · split
    · exact ⟨_, rfl⟩
    · exact ⟨_, rfl⟩

theorem answerFree_after (s : State) (src dst : Eid) (op : Nat) (r : Word32) (q : Nat) :
    (s.answerFree src dst op r q).hkt.nextMsg = s.hkt.nextMsg + 1 ∧ Within messageW s (s.answerFree src dst op r q) := by
  unfold State.answerFree State.freeReply State.freshWide
  dsimp only
  have h : Within messageW s { s with freeCtr := s.freeCtr + 1 } := within_freeCtr s _ rfl
  obtain ⟨hn, hw⟩ := queueReply_after { s with freeCtr := s.freeCtr + 1 } src dst (s.freeReply op r q).1
  exact ⟨hn, h.trans hw⟩

/-! ## Deletion begins (R106) -/

/-- A queue pair's owner and replies, which no deletion that begins changes. -/
def Qp.asked (x : Qp) : QOwner × List (Nat × Word32) := (x.owner, x.replies)

theorem beginDelete_asked (s : State) (q : Nat) : Keeps Qp.asked s (s.beginDelete q) := by
  unfold State.beginDelete
  split
  · exact .refl s
  · split
    · exact .refl s
    · exact (keeps_modQp s q (fun x => { x with state := .deleting, sqTail := x.sqHead, fetches := [], bells := [] }) fun _ => rfl).trans
        (((abortUnstarted_core _ q).trans (breakWaitsOn_core _ q)).coarser Qp.asked fun _ => rfl)

theorem beginDelete_qp (s : State) (q : Nat) (x : Qp) (hx : s.qp q = some x) (h : x.state ≠ .deleting) :
    ∃ y, (s.beginDelete q).qp q = some y ∧ y.core = Qp.core { x with state := .deleting, sqTail := x.sqHead, fetches := [], bells := [] } := by
  unfold State.beginDelete
  rw [hx]
  dsimp only
  rw [if_neg h]
  exact ((abortUnstarted_core _ q).trans (breakWaitsOn_core _ q)).qp (qp_modQp_same s q _ hx)

theorem beginDelete_rest (s : State) (q : Nat) : KeepsRest s (s.beginDelete q) := by
  unfold State.beginDelete
  split
  · exact .refl s
  · split
    · exact .refl s
    · exact KeepsRest.trans (t := s.modQp q _) rfl ((abortUnstarted_rest _ q).trans (breakWaitsOn_rest _ q))

theorem deleteAllOf_after (s : State) (o : QOwner) : Keeps Qp.asked s (s.deleteAllOf o) ∧ Within deleteW s (s.deleteAllOf o) ∧
    (s.deleteAllOf o).qpe.resets = s.qpe.resets := by
  refine ⟨.each _ _ _ fun s q => beginDelete_asked s q, within_each _ _ _ fun s q => deleteW_beginDelete s q, ?_⟩
  have h : KeepsRest s (s.deleteAllOf o) := .each _ _ _ fun s q => beginDelete_rest s q
  exact (congrArg Qpe.resets h :)

/-- Which queue pairs an owner has depends on the owners in the table alone. -/
theorem qpsOf_eq (s : State) (o : QOwner) : s.qpsOf o = ((s.qpe.qps.map fun e => (e.1, e.2.asked)).filter fun e => e.2.1 = o).map (·.1) := by
  rw [State.qpsOf, List.filter_map, List.map_map]
  rfl

theorem Keeps.qpsOf {s t : State} (h : Keeps Qp.asked s t) (o : QOwner) : t.qpsOf o = s.qpsOf o := by
  rw [qpsOf_eq, qpsOf_eq, h]

/-! ## Deletion ends (R106) -/

theorem queued_none {s : State} {k : Word32} (h : s.keyQueued k = false) :
    (∀ c ∈ s.hkt.ctxs, (c.unsent.filter fun m => m.body.key = k) = []) ∧ (s.hkt.waiting.filter fun (_, _, m) => m.body.key = k) = [] := by
  rw [State.keyQueued, Bool.not_eq_false', List.isEmpty_iff, State.queuedWith, List.append_eq_nil_iff, List.flatMap_eq_nil_iff] at h
  exact ⟨fun c hc => List.map_eq_nil_iff.mp (h.1 c hc), h.2⟩

/-- With no message of a key waiting, none is dropped. -/
theorem dropQueued_idle (s : State) (k : Word32) (h : s.keyQueued k = false) : s.dropQueued k = s := by
  obtain ⟨hc, hw⟩ := queued_none h
  have h1 : (s.hkt.ctxs.map fun c => (c.unsent.filter fun m => m.body.key = k).foldl (fun c m => c.dropOwn m.msgId) c) = s.hkt.ctxs := by
    refine (List.map_congr_left fun c hm => ?_).trans (List.map_id _)
    rw [hc c hm]
    rfl
  have h2 : (s.hkt.waiting.filter fun (_, _, m) => m.body.key != k) = s.hkt.waiting := by
    rw [List.filter_eq_self]
    intro a ha
    have := List.filter_eq_nil_iff.mp hw a ha
    simpa using this
  unfold State.dropQueued
  dsimp only
  rw [h1, h2]

theorem revokeRegion_inFlight (s : State) (k j : Word32) (c : Option Nat) : (s.revokeRegion k c).keyInFlight j = s.keyInFlight j := rfl

theorem answerResets_qps (s : State) (e : Eid) : (s.answerResets e).qpe.qps = s.qpe.qps := by
  unfold State.answerResets
  split
  · rfl
  · have h : Within messageW _ (({ s with qpe := { s.qpe with resets := s.qpe.resets.filter fun (a, _, _) => a != e } } : State).each
        (s.qpe.resets.filter fun (a, _, _) => a = e) fun s (a, b, r) => s.answerFree a b 4 r 0) :=
      within_each _ _ _ fun s _ => (answerFree_after s _ _ _ _ _).2
    exact (congrArg Qpe.qps (h.qpe rfl) :)

/-- A network queue pair whose packets are gone is freed: it leaves the table, and no other pair changes. -/
theorem deletionDone_net (s : State) (q : Nat) (x : Qp) (e : Eid) (hx : s.qp q = some x) (ho : x.owner = .net e) (hst : x.state ≠ .active)
    (hi : s.inflight q = 0) (hm : x.merging = []) (hd : x.delCmds = []) (h1 : s.keyInFlight x.sqKey = false) (h2 : s.keyInFlight x.cqKey = false) :
    (s.queueDeletionDone q).qpe.qps = tdel s.qpe.qps q := by
  have hq : ∀ k, s.keyInFlight k = false → s.keyQueued k = false := fun k h => (Bool.or_eq_false_iff.mp h).1
  have hdrop : ((s.revokeRegion x.sqKey none).revokeRegion x.cqKey none).dropQueued x.sqKey = (s.revokeRegion x.sqKey none).revokeRegion x.cqKey none :=
    dropQueued_idle _ _ (hq _ h1)
  unfold State.queueDeletionDone
  rw [hx]
  dsimp only
  rw [if_neg (by simp [hst, hi, hm, ho, ownerLocal, hq _ h2]), ho]
  dsimp only
  rw [hdrop, revokeRegion_inFlight, revokeRegion_inFlight, revokeRegion_inFlight, revokeRegion_inFlight, h1, h2, if_neg (by decide)]
  generalize hu : (((((s.revokeRegion x.sqKey none).revokeRegion x.cqKey none).freeRegion x.sqKey).freeRegion x.cqKey).dropReads x.sqKey) = u
  have huq : u.qpe = s.qpe := by rw [← hu]; rfl
  have hf : (u.freeQp q x).qpe.qps = tdel s.qpe.qps q := by
    unfold State.freeQp
    rw [hd, huq]
    rfl
  have hw : Within messageW (u.freeQp q x) ((u.freeQp q x).each x.replies fun s (op, r) => s.answerFree e x.servEid op r q) :=
    within_each _ _ _ fun s _ => (answerFree_after s _ _ _ _ _).2
  rw [answerResets_qps, hw.qpe rfl, hf]

theorem deletionDone_local (s : State) (q : Nat) (x : Qp) (hx : s.qp q = some x) (ho : ownerLocal x.owner = true) (hst : x.state ≠ .active)
    (hi : s.inflight q = 0) (hm : x.merging = []) : s.queueDeletionDone q = s.freeQp q x := by
  unfold State.queueDeletionDone
  rw [hx]
  dsimp only
  rw [if_neg (by simp [hst, hi, hm, ho])]
  split
  · rename_i e h
    rw [h] at ho
    cases ho
  · rfl

/-- What stays of a queue pair's completion queue when the pair is freed. -/
theorem freeQp_after (s : State) (q : Nat) (x : Qp) : ∃ u : State, s.freeQp q x = u.completeAll x.delCmds St.ok ∧ u.qpe.qps = tdel s.qpe.qps q ∧
    u.qpe.cmds = s.qpe.cmds := ⟨_, rfl, rfl, rfl⟩

/-! ## Creation (R105) -/

theorem allocRegion_after {s t : State} {r : Region} {k : Word32} (h : s.allocRegion r = some (k, t)) :
    t.hkt.nextMsg = s.hkt.nextMsg ∧ t.qpe = s.qpe := by
  unfold State.allocRegion at h
  split at h
  · cases h
  · cases h
    exact ⟨rfl, rfl⟩

theorem atLeast1_eq (n : Nat) : atLeast1 n = max 1 n := by
  unfold atLeast1
  split <;> omega

/-- Settles O14: a creation that is accepted or refused, deletions that begin and end, queries and resets. -/
theorem queueSetup : Obligations.QueueSetup := by
  unfold Obligations.QueueSetup
  refine ⟨fun s s1 s2 src dst m q k1 k2 hok hmg hadm hlen hfree h1 h2 => ?_, fun s src dst m h => ?_, fun s src dst m x hlen hx hst => ?_,
    fun s src dst m => ?_, fun s src dst m hlen hnone => ?_, fun s src dst m hlen hsome => ?_, fun s q x hx hst hi hm hk hd => ?_,
    fun s q c x z y hx ho hst hi hm hd hrun hne => ?_⟩
  · refine ⟨_, rfl, ?_⟩
    obtain ⟨n1, q1⟩ := allocRegion_after h1
    obtain ⟨n2, q2⟩ := allocRegion_after h2
    let x : Qp :=
      { owner := .net src, admin := m.admin, qid := 0, servEid := dst, sqEntries := m.sqEntries
        cqEntries := m.cqEntries, sqBase := m.sqAddr, cqBase := m.cqAddr, sqKey := k1, cqKey := k2
        notifyCount := atLeast1 m.notifyCount, notifyTime := m.notifyTime, precolour := m.precolour }
    have e : ∃ (u : State) (r : QReply), s.queueCreate src dst m = u.queueReply src dst r ∧ u.hkt = s2.hkt ∧ u.qpe.qps = tput s.qpe.qps q x := by
      unfold State.queueCreate
      rw [if_neg (by simp only [hok, Bool.not_true, Bool.false_or, Bool.and_eq_true, decide_eq_true_eq, Bool.not_eq_true']
                     exact fun h => by rw [hmg h.1] at h; exact absurd h.2 (by decide)),
        if_neg (by simp only [Bool.and_eq_true, not_and, Option.isSome_iff_ne_none, ne_eq, not_not]; exact hadm), if_neg (by omega), hfree]
      dsimp only
      rw [h1]
      dsimp only
      rw [h2]
      refine ⟨_, _, rfl, ?_, ?_⟩
      · split <;> rfl
      · have hq : (s2.putQp q x).qpe.qps = tput s.qpe.qps q x := by
          show tput s2.qpe.qps q x = _
          rw [q2, q1]
        split
        · exact hq
        · exact hq
    obtain ⟨u, r, e, hh, hq⟩ := e
    obtain ⟨hn, hw⟩ := queueReply_after u src dst r
    rw [← e] at hn hw
    have hq' : ∀ p, (s.queueCreate src dst m).qp p = if q = p then some x else s.qp p := fun p => by
      rw [State.qp, hw.qpe rfl, hq, tget_tput]
      rfl
    refine ⟨hn.trans (by rw [hh, n2, n1]), fun p hp => (hq' p).trans (if_neg hp.symm), x, (hq' q).trans (if_pos rfl), rfl, rfl, rfl, rfl, rfl,
      rfl, rfl, rfl, rfl, atLeast1_eq _⟩
  · refine ⟨_, rfl, ?_⟩
    have e : s.queueCreate src dst m = s.queueFail src dst m 1 := by
      unfold State.queueCreate
      refine if_pos ?_
      rcases h with h | ⟨h1, h2⟩
      · simp [h]
      · simp [h1, h2]
    obtain ⟨hn, hw⟩ := queueReply_after s src dst { op := m.op + 0x80, status := 1, reqId := m.reqId }
    rw [State.queueFail] at e
    rw [← e] at hn hw
    exact ⟨hn, hw.qpe rfl⟩
  · refine ⟨_, rfl, ?_⟩
    have hq : s.qp m.qpn = some x := by
      unfold State.ownQp at hx
      split at hx
      · split at hx
        · rw [← hx]
          assumption
        · cases hx
      · cases hx
    have e : s.queueDelete src dst m = (s.modQp m.qpn fun x => { x with replies := x.replies ++ [(2, m.reqId)] }).beginDelete m.qpn := by
      unfold State.queueDelete
      rw [if_neg (by simp [hlen]), hx]
    obtain ⟨y, hy, hc⟩ := beginDelete_qp (s.modQp m.qpn fun x => { x with replies := x.replies ++ [(2, m.reqId)] }) m.qpn _
      (qp_modQp_same s m.qpn _ hq) hst
    rw [← e] at hy
    exact ⟨y, hy, (congrArg Qp.state hc :), (congrArg Qp.replies hc :), (congrArg Qp.sqTail hc :).trans (congrArg Qp.sqHead hc :).symm⟩
  · refine ⟨_, rfl, ?_⟩
    obtain ⟨r, e⟩ := queueQuery_replies s src dst m
    obtain ⟨hn, hw⟩ := queueReply_after s src dst r
    rw [← e] at hn hw
    exact ⟨hn, rfl⟩
  · refine ⟨_, rfl, ?_⟩
    have e : s.queueReset src dst m = s.answerFree src dst 4 m.reqId 0 := by
      have hd : s.deleteAllOf (.net src) = s := by
        unfold State.deleteAllOf
        rw [hnone]
        rfl
      unfold State.queueReset
      rw [if_neg (by simp [hlen]), hd]
      exact if_pos (by rw [hnone]; rfl)
    obtain ⟨hn, hw⟩ := answerFree_after s src dst 4 m.reqId 0
    rw [← e] at hn hw
    exact ⟨hn, congrArg Qpe.resets (hw.qpe rfl)⟩
  · refine ⟨_, rfl, ?_⟩
    obtain ⟨hk, hw, hr⟩ := deleteAllOf_after s (.net src)
    have e : s.queueReset src dst m = { s.deleteAllOf (.net src) with qpe := { (s.deleteAllOf (.net src)).qpe with
        resets := (s.deleteAllOf (.net src)).qpe.resets ++ [(src, dst, m.reqId)] } } := by
      unfold State.queueReset
      rw [if_neg (by simp [hlen])]
      exact if_neg (by rw [hk.qpsOf, List.isEmpty_iff]; exact hsome)
    constructor
    · show (s.queueReset src dst m).qpe.resets = _
      rw [e, hr]
    · show (s.queueReset src dst m).hkt.nextMsg = _
      rw [e, hw.hkt rfl]
  · refine ⟨_, rfl, ?_⟩
    have e : (s.queueDeletionDone q).qpe.qps = tdel s.qpe.qps q := by
      cases ho : x.owner with
      | net e => exact deletionDone_net s q x e hx ho hst hi hm hd (hk e ho).1 (hk e ho).2
      | fn =>
        obtain ⟨u, e, hq, _⟩ := freeQp_after s q x
        rw [deletionDone_local s q x hx (by rw [ho]; rfl) hst hi hm, e, hd]
        exact hq
      | slice n =>
        obtain ⟨u, e, hq, _⟩ := freeQp_after s q x
        rw [deletionDone_local s q x hx (by rw [ho]; rfl) hst hi hm, e, hd]
        exact hq
    have hq : ∀ p, (s.queueDeletionDone q).qp p = if q = p then none else s.qp p := fun p => by
      rw [State.qp, e, tget_tdel]
      rfl
    exact ⟨(hq q).trans (if_pos rfl), fun p hp => (hq p).trans (if_neg hp.symm)⟩
  · refine ⟨_, rfl, ?_⟩
    obtain ⟨u, e, hq, hc⟩ := freeQp_after s q x
    have e' : s.queueDeletionDone q = u.complete c St.ok := by
      rw [deletionDone_local s q x hx ho hst hi hm, e, hd]
      rfl
    have huq : ∀ p, u.qp p = if q = p then none else s.qp p := fun p => by
      rw [State.qp, hq, tget_tdel]
      rfl
    have hrun' : Running u c y z := ⟨by rw [State.cmd, hc]; exact hrun.cmd, hrun.here, hrun.open_,
      (huq _).trans ((if_neg fun h => hne h.symm).trans hrun.qp), hrun.live, hrun.ring⟩
    refine ⟨?_, hrun'.completes_of_qpe _ _ _ (by rw [← e']; rfl)⟩
    show (s.queueDeletionDone q).qp q = none
    rw [e']
    exact (complete_core u c St.ok 0 0).qp_none ((huq q).trans (if_pos rfl))

end Sys2Proof.Machine
end

section
/-! PROOFS. Local I/O queues and their doorbells (R108, R109). -/

namespace Sys2Proof.Machine

open F

/-! ## Facts about queue pairs -/

theorem firstFree_none {α : Type} {t : Table Nat α} {n i q : Nat} (h : firstFree t n i = some q) : tget t q = none := by
  induction n generalizing i with
  | zero => cases h
  | succ n ih =>
    rw [firstFree] at h
    split at h
    · cases h
      assumption
    · exact ih h

/-- A queue pair without its fetches and latency samples. -/
def Qp.unfetched (x : Qp) : Qp := { x with fetches := [], lats := [] }

theorem fetchIssue_keeps (s : State) (q : Nat) : Keeps Qp.unfetched s (s.fetchIssue q) := by
  rcases fetchIssue_cases s q with e | ⟨z, _, _, d⟩
  · rw [e]
    exact .refl s
  · exact (keeps_modQp s q (fun y => { y with fetches := [s.fetchOf y (s.fetchCount q z)] }) fun _ => rfl).trans
      (d.queues.qps.coarser (fun x => { x with fetches := [] }) fun _ => rfl)

theorem intxUpdate_qpe (s : State) : s.intxUpdate.qpe = s.qpe := by
  unfold State.intxUpdate
  dsimp only
  split <;> rfl

/-! ## Admin commands of local owners -/

section
variable {s : State} {c : Nat} {x : Cmd} {q : Qp} (h : Running s c x q)
include h

/-- A running command completes in any state that has it and its queue pair. -/
theorem Running.of_qpe {t : State} (hc : t.qpe.cmds = s.qpe.cmds) (hq : t.qpe.qps = s.qpe.qps) : Running t c x q :=
  ⟨by rw [State.cmd, hc]; exact h.cmd, h.here, h.open_, by rw [State.qp, hq]; exact h.qp, h.live, h.ring⟩

/-- A command that completes with what it adds to the completion queues. -/
theorem Running.completes_cqs (l : List LocalCq) : ∀ t : State, t.qpe = (({ s with qpe := { s.qpe with cqs := l } } : State).complete c St.ok).qpe →
    Completes t c St.ok ∧ t.qpe.cqs = l := by
  intro t ht
  have hr : Running ({ s with qpe := { s.qpe with cqs := l } } : State) c x q := h.of_qpe rfl rfl
  refine ⟨hr.completes_of_qpe _ _ _ ht, ?_⟩
  rw [ht]
  exact (congrArg Qpe.cqs (complete_rest ({ s with qpe := { s.qpe with cqs := l } } : State) c St.ok 0 0) :)

end

theorem adminCmd_opcode {s : State} {c n : Nat} {x : Cmd} {o : QOwner} (h : s.adminCmd c n = some (x, o)) : x.sqe.opcode = n := by
  unfold State.adminCmd at h
  split at h
  · cases h
  · split at h
    · rename_i y _ hy
      simp only [Bool.and_eq_true, decide_eq_true_eq] at hy
      obtain ⟨_, _, e⟩ := Option.map_eq_some_iff.mp h
      cases e
      exact hy.1.2
    · cases h

theorem ringFails_none {e : Sqe} (h1 : 1 ≤ e.cdw10.toNat / 65536) (h2 : e.cdw10.toNat / 65536 < 4096) (h3 : e.cdw11.toNat % 2 = 1)
    (h4 : e.dptr0.toNat % 4096 = 0) : ringFails e = none := by
  unfold ringFails
  rw [if_neg (by simp; omega), if_neg (by omega), if_neg (by simp [h4])]

/-! ## A deletion that begins leaves commands of other queues -/

theorem completeAll_cmd_other (s : State) (l : List Nat) (st : Status) (a b : Word32) {c : Nat} (h : c ∉ l) : (s.completeAll l st a b).cmd c = s.cmd c := by
  induction l generalizing s with
  | nil => rfl
  | cons k l ih =>
    rw [List.mem_cons, not_or] at h
    exact (ih (s.complete k st a b) h.2).trans (cmd_complete_other s h.1 st a b)

theorem abortUnstarted_io (s : State) (q : Nat) (x : Qp) (hx : s.qp q = some x) (ha : x.admin = false) :
    s.abortUnstarted q = s.completeAll ((s.qpe.cmds.filter fun (_, x) => x.qpn = q && x.phase = .fetched).map (·.1)) St.sqDeletion := by
  unfold State.abortUnstarted
  rw [hx]
  dsimp only
  rw [if_neg (by simp [ha])]

theorem mem_tput {κ α : Type} [DecidableEq κ] {m : Table κ α} {k : κ} {v : α} {e : κ × α} (h : e ∈ tput m k v) : e ∈ m ∨ e = (k, v) := by
  induction m with
  | nil => exact .inr (List.mem_singleton.mp h)
  | cons a m ih =>
    rw [tput] at h
    split at h
    · exact (List.mem_cons.mp h).elim .inr fun h => .inl (List.mem_cons_of_mem _ h)
    · exact (List.mem_cons.mp h).elim (fun h => .inl (h ▸ List.mem_cons_self)) fun h => (ih h).imp (List.mem_cons_of_mem _) id

theorem mem_tdel {κ α : Type} [DecidableEq κ] {m : Table κ α} {k : κ} {e : κ × α} (h : e ∈ tdel m k) : e ∈ m := by
  induction m with
  | nil => exact h
  | cons a m ih =>
    rw [tdel] at h
    split at h
    · exact List.mem_cons_of_mem _ (ih h)
    · exact (List.mem_cons.mp h).elim (fun h => h ▸ List.mem_cons_self) fun h => List.mem_cons_of_mem _ (ih h)

/-- Changing one entry leaves the others. -/
theorem mem_tmod {κ α : Type} [DecidableEq κ] {m : Table κ α} {k : κ} {f : α → α} {e : κ × α} (h : e ∈ tmod m k f) :
    e ∈ m ∨ ∃ v, (k, v) ∈ m ∧ e = (k, f v) := by
  rw [tmod] at h
  split at h
  · rename_i v hv
    exact (mem_tput h).imp id fun e => ⟨v, mem_of_tget hv, e⟩
  · exact .inl h

/-- A completion leaves the other commands of the table, and what it changes is done. -/
theorem mem_complete {s : State} {c : Nat} {st : Status} {a b : Word32} {e : Nat × Cmd} (h : e ∈ (s.complete c st a b).qpe.cmds) :
    e ∈ s.qpe.cmds ∨ e.2.phase = .done := by
  unfold State.complete at h
  split at h
  · exact .inl h
  · split at h
    · exact .inl h
    · split at h
      · rw [pairSend_qpe] at h
        exact .inl (mem_tdel h)
      · split at h
        · exact .inl (mem_tdel h)
        · split at h
          · exact .inl (mem_tdel h)
          · refine (mem_tmod h).imp id fun ⟨v, _, e⟩ => ?_
            rw [e]

theorem completeAll_waits {s : State} {q : Nat} (l : List Nat) (st : Status) (a b : Word32) (h : ∀ e ∈ s.qpe.cmds, e.2.waitsOn q = false) :
    ∀ e ∈ (s.completeAll l st a b).qpe.cmds, e.2.waitsOn q = false := by
  induction l generalizing s with
  | nil => exact h
  | cons c l ih =>
    refine ih (s := s.complete c st a b) fun e he => ?_
    rcases mem_complete he with he | hd
    · exact h e he
    · simp [Cmd.waitsOn, hd]

/-- A deletion that no WAIT waits for leaves the commands of other queues. -/
theorem beginDelete_cmd {s : State} {n c : Nat} {z : Qp} (hz : s.qp n = some z) (ha : z.admin = false)
    (hc : ∀ e ∈ s.qpe.cmds, e.2.qpn = n → e.1 ≠ c) (hw : ∀ e ∈ s.qpe.cmds, e.2.waitsOn n = false) : (s.beginDelete n).cmd c = s.cmd c := by
  unfold State.beginDelete
  rw [hz]
  dsimp only
  split
  · rfl
  · have hq := qp_modQp_same s n (fun x => { x with state := .deleting, sqTail := x.sqHead, fetches := [], bells := [] }) hz
    generalize hu : s.modQp n (fun x => { x with state := .deleting, sqTail := x.sqHead, fetches := [], bells := [] }) = u at hq
    have huc : u.qpe.cmds = s.qpe.cmds := by rw [← hu]; rfl
    have hstay : c ∉ (u.qpe.cmds.filter fun (_, x) => x.qpn = n && x.phase = .fetched).map (·.1) := by
      intro hm
      obtain ⟨e, he, rfl⟩ := List.mem_map.mp hm
      obtain ⟨he, hp⟩ := List.mem_filter.mp he
      rw [huc] at he
      exact hc e he (by simp only [Bool.and_eq_true, decide_eq_true_eq] at hp; exact hp.1) rfl
    have hnone : ((u.abortUnstarted n).qpe.cmds.filter fun (_, x) => x.waitsOn n) = [] := by
      rw [abortUnstarted_io u n _ hq ha, List.filter_eq_nil_iff]
      rintro ⟨k, e⟩ he
      have := completeAll_waits _ _ _ _ (by rw [huc]; exact hw) (k, e) he
      exact Bool.eq_false_iff.mp this
    rw [State.breakWaitsOn, hnone]
    show (u.abortUnstarted n).cmd c = _
    rw [abortUnstarted_io u n _ hq ha, completeAll_cmd_other u _ _ _ _ hstay, State.cmd, huc]
    rfl

/-! ## Doorbells -/

theorem doorbell_head (s : State) (q v : Nat) (x : Qp) (hx : s.qp q = some x) (ha : x.state = .active) (hv : v < x.cqEntries)
    (hp : ringPos x.cqHead v x.cqEntries ≤ ringPos x.cqHead x.cqTail x.cqEntries) :
    (s.doorbell q 1 v).qp q = some { x with cqHead := v, fullRaised := x.fullRaised && v = x.cqHead } := by
  unfold State.doorbell
  rw [hx]
  dsimp only
  rw [if_neg (by simp [ha]), if_neg (by decide), if_pos rfl, if_neg (by simp; omega)]
  exact qp_modQp_same (s.bump (ctrQpe (engineOf x q) 0)) q _ hx

theorem doorbell_tail (s : State) (q v : Nat) (x : Qp) (hx : s.qp q = some x) (ha : x.state = .active) (hv : v < x.sqEntries) :
    ∃ y, (s.doorbell q 0 v).qp q = some y ∧ y.sqTail = v ∧ y.cqHead = x.cqHead := by
  unfold State.doorbell
  rw [hx]
  dsimp only
  rw [if_neg (by simp [ha]), if_pos rfl, if_neg (by omega)]
  split
  · exact ⟨x, hx, by omega, rfl⟩
  · obtain ⟨y, hy, h⟩ := (fetchIssue_keeps ((s.bump (ctrQpe (engineOf x q) 0)).modQp q fun x => { x with sqTail := v, bells := x.bells ++ [(v, s.dtc)] }) q).qp
      (qp_modQp_same (s.bump (ctrQpe (engineOf x q) 0)) q _ hx)
    exact ⟨y, hy, (congrArg Qp.sqTail h :), (congrArg Qp.cqHead h :)⟩

/-- A 4-byte write to the doorbell page of an owner in service is the doorbell of the queue it names. -/
theorem localDoorbell_rings (s : State) (o : QOwner) (offset v q : Nat) (hs : ∀ n, o = .slice n → s.get SLC_STATUS_state n = 1)
    (h4 : offset % 4 = 0) (hv : v < 65536) (hq : (if offset / 4 % 2 = 0 then s.qpnOf o (offset / 8) else s.cqOf o (offset / 8)) = some q) :
    (s.localDoorbell o offset 4 v).qpe = (s.doorbell q (offset / 4 % 2) v).qpe := by
  have e : s.localDoorbell o offset 4 v = (s.doorbell q (offset / 4 % 2) v).intxUpdate := by
    unfold State.localDoorbell
    refine (if_neg ?_).trans ((if_neg (by simp [h4])).trans ?_)
    · cases o with
      | slice n => simp [hs n rfl]
      | fn => exact Bool.false_ne_true
      | net e => exact Bool.false_ne_true
    · dsimp only
      rw [hq, Nat.mod_eq_of_lt hv]
  rw [e]
  exact intxUpdate_qpe _

/-- Settles O15: local completion and submission queues come and go by admin commands, and doorbells move their indexes. -/
theorem localQueues : Obligations.LocalQueues := by
  unfold Obligations.LocalQueues
  refine ⟨fun s c x q o hr hc ho h1 h2 h3 h4 h5 h6 h7 h8 h9 => ?_, fun s c n x q o k hr hc ho h1 h2 h3 h4 h5 h6 h7 h8 h9 hk hs hf => ?_,
    fun s c n x q z o hr hc ho h1 hn hz ha hne hph hq hw => ?_, fun s c x q o k hr hc ho hk hs => ?_, fun s offset width v hw => ?_,
    fun s o offset q v x hs h8 hq hx ha h16 hv hp => ?_, fun s o offset q v x hs h8 hq hx ha h16 hv => ?_⟩
  · refine ⟨_, rfl, ?_⟩
    let k : LocalCq :=
      { owner := o, qid := x.sqe.cdw10.toNat % 65536, entries := x.sqe.cdw10.toNat / 65536 + 1, base := x.sqe.dptr0
        vector := x.sqe.cdw11.toNat / 65536, ien := (x.sqe.cdw11.toNat / 2) % 2 = 1 }
    have e : s.createIoCq c = ({ s with qpe := { s.qpe with cqs := s.qpe.cqs ++ [k] } } : State).complete c St.ok := by
      unfold State.createIoCq
      rw [hc]
      dsimp only
      rw [if_neg (by simp [ho]), if_neg ?_, ringFails_none h5 h6 h7 h8]
      · dsimp only
        rw [if_neg (by simp only [Bool.not_eq_true', Bool.not_eq_false]; exact h9)]
      · simp only [Bool.or_eq_true, decide_eq_true_eq, List.any_eq_true, Bool.and_eq_true, not_or, not_exists, not_and]
        exact ⟨⟨h1, by omega⟩, fun k hk => h3 k hk⟩
    exact hr.completes_cqs _ _ (by rw [← e]; rfl)
  · refine ⟨_, rfl, ?_⟩
    let y : Qp :=
      { owner := o, admin := false, qid := x.sqe.cdw10.toNat % 65536, cqid := x.sqe.cdw11.toNat / 65536
        sqEntries := x.sqe.cdw10.toNat / 65536 + 1, cqEntries := k.entries, sqBase := x.sqe.dptr0, cqBase := k.base, vector := k.vector
        ien := k.ien, cqHead := k.head, cqTail := k.tail, cqPhase := k.phase, cqSeq := k.seq }
    have e : s.createIoSq c = ((s.putQp n y).qpeStatus).complete c St.ok := by
      unfold State.createIoSq
      rw [hc]
      dsimp only
      rw [if_neg (by simp [ho]), if_neg ?_, ringFails_none h6 h7 h8 h9]
      · dsimp only
        rw [hk, hf]
        dsimp only
        rw [if_neg (by simp [hs])]
      · simp only [Bool.or_eq_true, decide_eq_true_eq, not_or, Option.isSome_iff_ne_none, ne_eq, not_not]
        exact ⟨⟨⟨⟨h1, by omega⟩, h3⟩, by omega⟩, by omega⟩
    have hn : n ≠ x.qpn := fun e => by
      have := firstFree_none hf
      rw [e] at this
      exact absurd (this.symm.trans hr.qp) (by simp)
    have hput : ∀ p, ((s.putQp n y).qpeStatus).qp p = if n = p then some y else s.qp p := fun p => tget_tput _ _ _ _
    have hrun : Running ((s.putQp n y).qpeStatus) c x q := ⟨hr.cmd, hr.here, hr.open_, (hput _).trans ((if_neg hn).trans hr.qp), hr.live, hr.ring⟩
    obtain ⟨w, hw, hcore⟩ := (complete_core ((s.putQp n y).qpeStatus) c St.ok 0 0).qp ((hput n).trans (if_pos rfl))
    refine ⟨hrun.completes_of_qpe _ _ _ (by rw [← e]; rfl), ?_, w, ?_, (congrArg Qp.owner hcore :), (congrArg Qp.qid hcore :),
      (congrArg Qp.sqEntries hcore :), (congrArg Qp.cqEntries hcore :), (congrArg Qp.vector hcore :), (congrArg Qp.cqHead hcore :),
      (congrArg Qp.cqTail hcore :), (congrArg Qp.state hcore :)⟩
    · show (s.createIoSq c).qpe.cqs = _
      rw [e]
      exact (congrArg Qpe.cqs (complete_rest ((s.putQp n y).qpeStatus) c St.ok 0 0) :)
    · show (s.createIoSq c).qp n = _
      rw [e]
      exact hw
  · refine ⟨_, rfl, ?_⟩
    let u : State := (s.modCmd c fun x => { x with phase := .started }).modQp n fun x => { x with delCmds := x.delCmds ++ [c] }
    have e : s.deleteIoSq c = u.beginDelete n := by
      unfold State.deleteIoSq
      rw [hc]
      dsimp only
      rw [if_neg (by simp [ho]), hn]
      dsimp only
      rw [if_neg h1, if_neg (by simp [hph])]
    have hu : u.qp n = some { z with delCmds := z.delCmds ++ [c] } := qp_modQp_same (s.modCmd c fun x => { x with phase := .started }) n _ hz
    have hcu : u.cmd c = some { x with phase := .started } := (cmd_modCmd_same s c _).trans (by rw [hr.cmd]; rfl)
    have hmem : ∀ e ∈ u.qpe.cmds, e ∈ s.qpe.cmds ∨ e = (c, { x with phase := .started }) := fun e he => by
      refine (mem_tput (v := { x with phase := .started }) (k := c) ?_).imp id id
      have : tmod s.qpe.cmds c (fun x => { x with phase := .started }) = tput s.qpe.cmds c { x with phase := .started } := by
        rw [tmod, show tget s.qpe.cmds c = some x from hr.cmd]
      exact this ▸ he
    have hop := adminCmd_opcode hc
    have hstay := beginDelete_cmd (c := c) hu ha
      (fun e he hen => by
        rcases hmem e he with he | rfl
        · exact hq e he hen
        · exact absurd hen.symm hne)
      (fun e he => by
        rcases hmem e he with he | rfl
        · exact hw e he
        · simp [Cmd.waitsOn, hop])
    refine ⟨?_, { x with phase := .started }, ?_, rfl⟩
    · by_cases hd : z.state = .deleting
      · refine ⟨{ z with delCmds := z.delCmds ++ [c] }, ?_, hd, rfl⟩
        show (s.deleteIoSq c).qp n = some { z with delCmds := z.delCmds ++ [c] }
        rw [e, State.beginDelete, hu]
        dsimp only
        rw [if_pos hd, hu]
      · obtain ⟨y, hy, hcore⟩ := beginDelete_qp u n _ hu hd
        refine ⟨y, ?_, (congrArg Qp.state hcore :), (congrArg Qp.delCmds hcore :)⟩
        show (s.deleteIoSq c).qp n = _
        rw [e]
        exact hy
    · show (s.deleteIoSq c).cmd c = _
      rw [e, hstay, hcu]
  · refine ⟨_, rfl, ?_⟩
    have e : s.deleteIoCq c = ({ s with qpe := { s.qpe with cqs := s.qpe.cqs.filter (· != k) } } : State).complete c St.ok := by
      unfold State.deleteIoCq
      rw [hc]
      dsimp only
      rw [if_neg (by simp [ho]), hk]
      dsimp only
      rw [if_neg (by simp [hs])]
    exact hr.completes_cqs _ _ (by rw [← e]; rfl)
  · refine ⟨_, rfl, ?_⟩
    have e : s.localDoorbell .fn offset width v = s.bump (ctrHif 0 13) := by
      unfold State.localDoorbell
      exact (if_neg Bool.false_ne_true).trans (if_pos (by simp [hw]))
    constructor
    · show (s.localDoorbell .fn offset width v).qpe = _
      rw [e]
      rfl
    · show (s.localDoorbell .fn offset width v).ctr = _
      rw [e]
  · refine ⟨_, rfl, ?_⟩
    have hring : offset / 4 % 2 = 1 := by omega
    have e := localDoorbell_rings s o offset v q hs (by omega) h16 (by rw [hring]; exact hq)
    rw [hring] at e
    refine ⟨{ x with cqHead := v, fullRaised := x.fullRaised && v = x.cqHead }, ?_, rfl, rfl, rfl⟩
    show tget (s.localDoorbell o offset 4 v).qpe.qps q = _
    rw [e]
    exact doorbell_head s q v x hx ha hv hp
  · refine ⟨_, rfl, ?_⟩
    have hring : offset / 4 % 2 = 0 := by omega
    have e := localDoorbell_rings s o offset v q hs (by omega) h16 (by rw [hring]; exact hq)
    rw [hring] at e
    obtain ⟨y, hy, h⟩ := doorbell_tail s q v x hx ha hv
    refine ⟨y, ?_, h⟩
    show tget (s.localDoorbell o offset 4 v).qpe.qps q = _
    rw [e]
    exact hy

end Sys2Proof.Machine
end

section
/-! PROOFS. Commands start and writes reserve; completions are posted, merged, notified and coalesced (R117 to R120, R245, R251, R393). -/

namespace Sys2Proof.Machine

open F

/-! ## The host port under requests -/

/-- The host port is the same but for what requests and messages write of it. -/
def PortKept (s t : State) : Prop :=
  t.hif = { s.hif with queue := t.hif.queue, reads := t.hif.reads, asked := t.hif.asked, pendVec := t.hif.pendVec, intx := t.hif.intx }

theorem PortKept.refl (s : State) : PortKept s s := rfl

theorem PortKept.trans {s t u : State} (h : PortKept s t) (k : PortKept t u) : PortKept s u := by
  rw [PortKept] at *
  rw [k, h]

theorem PortKept.of_hif {s t : State} (h : t.hif = s.hif) : PortKept s t := by rw [PortKept, h]

theorem PortKept.each {α : Type} (l : List α) (f : State → α → State) (s : State) (h : ∀ s a, PortKept s (f s a)) : PortKept s (s.each l f) := by
  induction l generalizing s with
  | nil => exact .refl s
  | cons a l ih => exact (h s a).trans (ih _)

theorem markPage_port (s : State) (n a : Nat) : PortKept s (s.markPage n a) := by
  have hf : ∀ (s : State) (n b w v : Nat) (l : SliceLog), PortKept s (s.foldMark n b w v l) := fun s n b w v l => by
    unfold State.foldMark
    dsimp only
    split <;> rfl
  unfold State.markPage
  split
  · exact .refl s
  · dsimp only
    split
    · split
      · rfl
      · rfl
    · refine .trans ?_ (.of_hif rfl)
      split
      · exact .refl s
      · split
        · exact .refl s
        · split
          · split
            · exact PortKept.trans (t := { s with slc := _ }) (.of_hif rfl) (hf _ _ _ _ _ _)
            · exact .refl s
          · exact .refl s

theorem issueReq_port (s : State) (r : HostReq) : PortKept s (s.issueReq r) := by
  have hm : ∀ (o : QOwner) (a n : Nat), PortKept s (s.markWrite o a n) := fun o a n => by
    unfold State.markWrite
    split
    · exact .each _ _ _ fun s b => markPage_port s _ b
    · exact .refl s
  have hl : ∀ (s : State) (q k : Nat), PortKept s (s.sampleLats q k) := fun s q k => by
    unfold State.sampleLats
    split
    · exact .refl s
    · refine PortKept.trans (t := { s with qpe := _ }) (.of_hif rfl) (.each _ _ _ fun s l => .of_hif ?_)
      dsimp only
      split <;> rfl
  unfold State.issueReq
  dsimp only
  split
  · split <;> rfl
  · exact (hm _ _ _).trans (.of_hif rfl)
  · exact ((hm _ _ _).trans (.of_hif rfl : PortKept _ ((((s.markWrite _ _ _).send _).bump _).bump _ _))).trans (hl _ _ _)
  · rfl

theorem hostOp_port (s : State) (o : QOwner) (p : HostOp) : PortKept s (s.hostOp o p) := by
  have hp : ∀ (n : Nat) (s : State), PortKept s (s.hifPump n) := fun n => by
    induction n with
    | zero => exact .refl
    | succ n ih =>
      intro s
      unfold State.hifPump
      split
      · refine .trans (.trans ?_ (issueReq_port _ _)) (ih _)
        rfl
      · refine .each _ _ _ fun s r => ?_
        split
        · dsimp only
          split
          · rfl
          · exact .refl s
        · exact .refl s
  refine .trans ?_ (hp _ _)
  rfl

theorem message_cases (s : State) (o : QOwner) (e v : Nat) : s.message o e v = s.intxUpdate ∨
    (∃ l, s.message o e v = { s with hif := { s.hif with pendVec := l } }) ∨ ∃ n, s.message o e v = s.hostOp o (.msg e n) := by
  unfold State.message
  extract_lets mode masked out
  split
  · exact .inl rfl
  · split
    · exact .inr (.inl ⟨_, rfl⟩)
    · exact .inr (.inr ⟨_, rfl⟩)

theorem intxUpdate_port (s : State) : PortKept s s.intxUpdate := by
  unfold State.intxUpdate
  dsimp only
  split <;> rfl

theorem message_port (s : State) (o : QOwner) (e v : Nat) : PortKept s (s.message o e v) := by
  rcases message_cases s o e v with h | ⟨l, h⟩ | ⟨n, h⟩
  · rw [h]
    exact intxUpdate_port s
  · rw [h]
    rfl
  · rw [h]
    exact hostOp_port s _ _

theorem message_queues (s : State) (o : QOwner) (e v : Nat) : SameQps s (s.message o e v) := by
  rcases message_cases s o e v with h | ⟨l, h⟩ | ⟨n, h⟩
  · rw [h]
    exact .of_qpe (intxUpdate_qpe s)
  · rw [h]
    exact .of_qpe rfl
  · rw [h]
    exact hostOp_queues s _ _

theorem interrupt_queues (s : State) (o : QOwner) (v : Nat) (a : Bool) : SameQps s (s.interrupt o v a) := by
  unfold State.interrupt
  dsimp only
  split
  · exact message_queues s _ _ _
  · split
    · refine .trans ?_ (message_queues _ _ _ _)
      exact .of_qpe rfl
    · exact .of_qpe rfl

/-! ## A write reserves (R245, R251) -/

theorem tget_foldl_tput {l : List Nat} {t : Table Nat NeveSlot} {v : NeveSlot} {j : Nat} (h : j ∈ l) :
    tget (l.foldl (fun t j => tput t j v) t) j = some v := by
  have key : ∀ (l : List Nat) (t : Table Nat NeveSlot), tget t j = some v → tget (l.foldl (fun t j => tput t j v) t) j = some v := fun l => by
    induction l with
    | nil => exact fun t h => h
    | cons k l ih =>
      intro t h
      refine ih _ ?_
      rw [tget_tput]
      split
      · rfl
      · exact h
  induction l generalizing t with
  | nil => cases h
  | cons k l ih =>
    rcases List.mem_cons.mp h with rfl | h
    · exact key l _ (tget_tput_same _ _ _)
    · exact ih h

/-- A write that reserves: it has started, its slots are reserved and its job holds its blocks. -/
theorem reserveFor_after (s : State) (c : Nat) (x : Cmd) (i : Nat) (n : Ns) (l : List Nat) (hx : s.cmd c = some x) :
    (∃ y, (s.reserveFor c x i n l).cmd c = some y ∧ y.phase = .started) ∧
    (∀ j ∈ l, tget (s.reserveFor c x i n l).jnl.slots j = some { state := .reserved }) ∧
    (∃ w, tget (s.reserveFor c x i n l).jnl.writes c = some w ∧ w.ns = i ∧ w.lba = slbaOf x.sqe ∧ w.slots = l ∧ w.blocks = List.range x.neveNeed) ∧
    (s.reserveFor c x i n l).jnl.waiting = s.jnl.waiting.filter (· != c) ∧
    (s.reserveFor c x i n l).jnl.slots = l.foldl (fun t j => tput t j { state := .reserved }) s.jnl.slots := by
  unfold State.reserveFor
  dsimp only
  refine ⟨?_, fun j hj => ?_, ?_, ?_, ?_⟩
  · have key : ∀ (u : State) (f : Cmd → Cmd), u.cmd c = some x → (f x).phase = .started → ∃ y, ((u.modCmd c f).waterCheck).cmd c = some y ∧ y.phase = .started :=
      fun u f hu hf => ⟨f x, by rw [State.cmd, (waterCheck_waterW _).qpe rfl]; exact (cmd_modCmd_same u c f).trans (by rw [hu]; rfl), hf⟩
    exact key _ _ hx rfl
  · rw [waterCheck_jnl]
    exact tget_foldl_tput hj
  · rw [waterCheck_jnl]
    refine ⟨_, tget_tput_same _ _ _, ?_⟩
    exact ⟨rfl, rfl, rfl, rfl⟩
  · rw [waterCheck_jnl]
    rfl
  · rw [waterCheck_jnl]
    rfl

/-- A started command of a write or of another I/O opcode. -/
theorem commandStart_io (s : State) (c : Nat) (x : Cmd) (hx : s.cmd c = some x) (hs : s.startable c x = true) (ha : s.admission = true)
    (hb : s.busHolds x = false) (hadm : s.cmdAdmin x = false) (hf : x.forwarded = false) :
    s.commandStart c = if x.sqe.opcode = 1 || x.sqe.opcode = 0x19 then s.tryReserve c else
      s.modCmd c fun x => { x with phase := .started, startAt := s.dtc } := by
  unfold State.commandStart
  rw [hx]
  dsimp only
  rw [if_neg (by simp [hs, ha, hb]), if_neg (by simp [hadm]), if_neg (by simp [hf])]

/-! ## A completion is posted (R118) -/

/-- What only the posting of its completions and its doorbells move of a queue pair. -/
def Qp.counts (x : Qp) : Nat × Nat × Nat × Nat × Nat × Nat := (x.cqTail, x.cqHead, x.cqEntries, x.cmplCount, x.cqSeq, x.errCount)

/-- A command that is gone stays gone. -/
def StaysGone (s t : State) : Prop := ∀ c, s.cmd c = none → t.cmd c = none

theorem StaysGone.of_cmds {s t : State} (h : t.qpe.cmds = s.qpe.cmds) : StaysGone s t := fun c hc => by
  rw [State.cmd, h]
  exact hc

/-- What follows a posted completion keeps the counts of every queue pair and brings no command back. -/
structure Follows (s t : State) : Prop where
  counts : Keeps Qp.counts s t
  gone   : StaysGone s t

theorem Follows.refl (s : State) : Follows s s := ⟨.refl s, fun _ h => h⟩

theorem Follows.trans {s t u : State} (h : Follows s t) (k : Follows t u) : Follows s u := ⟨h.counts.trans k.counts, fun c hc => k.gone c (h.gone c hc)⟩

theorem Follows.of_qpe {s t : State} (h : t.qpe = s.qpe) : Follows s t := ⟨.of_qpe (congrArg Qpe.qps h), .of_cmds (congrArg Qpe.cmds h)⟩

theorem Follows.of_queues {s t : State} (h : SameQps s t) : Follows s t := ⟨h.qps.coarser Qp.counts fun _ => rfl, .of_cmds h.cmds⟩

theorem Follows.each {α : Type} (l : List α) (f : State → α → State) (s : State) (h : ∀ s a, Follows s (f s a)) : Follows s (s.each l f) := by
  induction l generalizing s with
  | nil => exact .refl s
  | cons a l ih => exact (h s a).trans (ih _)

theorem follows_modQp (s : State) (q : Nat) (f : Qp → Qp) (h : ∀ y, (f y).counts = y.counts) : Follows s (s.modQp q f) :=
  ⟨keeps_modQp s q f h, .of_cmds rfl⟩

theorem follows_complete (s : State) (c : Nat) (st : Status) (a b : Word32) : Follows s (s.complete c st a b) := by
  refine ⟨(complete_core s c st a b).coarser Qp.counts fun _ => rfl, fun k hk => ?_⟩
  by_cases e : k = c
  · subst e
    rw [State.complete, hk]
    exact hk
  · rw [cmd_complete_other s e, hk]

theorem follows_breakChain (s : State) (w q : Nat) : Follows s (s.breakChain w q) := by
  unfold State.breakChain
  split
  · exact .refl s
  · exact ((follows_complete s _ _ _ _).trans (.each _ _ _ fun s c => follows_complete s c _ _ _)).trans (follows_modQp _ _ _ fun _ => rfl)

theorem follows_waitAfter (s : State) (w q : Nat) (f : Bool) : Follows s (s.waitAfter w q f) := by
  unfold State.waitAfter
  split
  · split
    · exact follows_breakChain s w q
    · split
      · exact follows_complete s _ _ _ _
      · exact .refl s
  · exact .refl s

theorem follows_fetchIssue (s : State) (q : Nat) : Follows s (s.fetchIssue q) :=
  ⟨(fetchIssue_keeps s q).coarser Qp.counts fun _ => rfl, .of_cmds (fetchIssue_qpe s q).1⟩

theorem follows_fetchResume (s : State) : Follows s s.fetchResume := by
  unfold State.fetchResume
  dsimp only
  exact (Follows.each _ _ s fun s q => follows_fetchIssue s q).trans ⟨.of_qpe rfl, .of_cmds rfl⟩

theorem follows_sendMsg (s : State) (l p : Eid) (b : MsgBody) (f n : Bool) (v : Nat) (u : Purpose) (t : Nat) (y : Bool) :
    Follows s (s.sendMsg l p b f n v u t y) := .of_qpe ((within_sendMsg s l p b f n v u t y).qpe rfl)

theorem follows_completionWrite (s : State) (q : Nat) : Follows s (s.completionWrite q) := by
  unfold State.completionWrite
  split
  · exact .refl s
  · split
    · refine .trans ?_ (follows_sendMsg _ _ _ _ _ _ _ _ _ _)
      exact follows_modQp s q _ fun _ => rfl
    · exact .refl s

theorem follows_localCqe (s : State) (q : Nat) (x : Qp) (e : Cqe) (l : Lat) : Follows s (s.localCqe q x e l) := by
  unfold State.localCqe
  extract_lets u v
  have hu : Follows s u := by
    change Follows s (match x.owner with | .slice n => s.bump (ctrSlc n 0) | _ => s)
    split
    · exact .of_qpe rfl
    · exact .refl s
  have hv : Follows s v := by
    refine .trans (hu.trans ?_) (.of_queues (hostOp_queues _ _ _))
    exact follows_modQp u q _ fun _ => rfl
  split
  · exact hv.trans (.of_queues (interrupt_queues v _ _ _))
  · exact hv

theorem follows_countIo (s : State) (x : Cmd) (a : Bool) : Follows s (s.countIo x a) := by
  unfold State.countIo
  split
  · exact .refl s
  · split
    · exact .of_qpe rfl
    · split
      · exact .of_qpe rfl
      · exact .refl s

/-- A posted completion: its command is dropped, the counts move on, and what follows keeps them. -/
theorem cqePost_posts (s : State) (q c : Nat) (x : Qp) (d : Cmd) (l : List Nat) (hx : s.qp q = some x) (hc : x.comp = c :: l) (hd : s.cmd c = some d)
    (hr : (x.cqTail + 1) % x.cqEntries ≠ x.cqHead) :
    ∃ (u : State) (now : Word64) (e : Cqe) (y : Qp), Follows s u ∧ u.qp q = some y ∧ y.counts = x.counts ∧
      Follows ((u.dropCmd c).modQp q fun x => x.posted l (d.status.sct != 0 || d.status.sc != 0) now e) (s.cqePost q) := by
  unfold State.cqePost
  rw [hx]
  dsimp only
  rw [hc]
  dsimp only
  rw [hd]
  dsimp only
  rw [if_neg hr]
  generalize hu : (if !x.merging.isEmpty && x.mergeSvc != s.cmdClass d then s.completionWrite q else s) = u
  have fu : Follows s u := by
    rw [← hu]
    split
    · exact follows_completionWrite s q
    · exact .refl s
  obtain ⟨y, hy, hyc⟩ := fu.counts.qp hx
  refine ⟨u, u.dtc, ⟨x.cqTail, d.dw0, d.dw1, x.sqHead, x.cqSeq, d.sqe.cid, x.cqPhase, d.status, s.moreBit x.owner⟩, y, fu, hy, hyc, ?_⟩
  generalize (u.dropCmd c).modQp q (fun x_1 => x_1.posted l (d.status.sct != 0 || d.status.sc != 0) u.dtc
    ⟨x.cqTail, d.dw0, d.dw1, x.sqHead, x.cqSeq, d.sqe.cid, x.cqPhase, d.status, s.moreBit x.owner⟩) = v
  have tail : ∀ (b : Prop) [Decidable b] (w : State), Follows v w → Follows v (if b then w.fetchResume else w.fetchIssue q) := fun b _ w h => by
    split
    · exact h.trans (follows_fetchResume w)
    · exact h.trans (follows_fetchIssue w q)
  have owned : ∀ (w : State) (f : Qp → Qp) (b : Bool) (e : Cqe) (la : Lat), Follows v w → (∀ y, (f y).counts = y.counts) → Follows v (match x.owner with
      | .net _ => (w.modQp q f).mergeSend q b
      | _ => w.localCqe q x e la) := fun w f b e la h hf => by
    split
    · refine (h.trans (follows_modQp w q f hf)).trans ?_
      unfold State.mergeSend
      extract_lets merge count
      split
      · exact follows_completionWrite _ q
      · exact .refl _
    · exact h.trans (follows_localCqe w q x e la)
  have counted : Follows v (((if (d.status.sct != 0 || d.status.sc != 0) then
      (((v.qpeStatus.bump (ctrQpe (engineOf x q) 3)).leave (ctrQpe (engineOf x q) 5)).bump (ctrQpe (engineOf x q) 4)).esel 3 1 q
      else (v.qpeStatus.bump (ctrQpe (engineOf x q) 3)).leave (ctrQpe (engineOf x q) 5)).esel 3 0 q).countIo d x.admin) := by
    have hl : ((v.qpeStatus.bump (ctrQpe (engineOf x q) 3)).leave (ctrQpe (engineOf x q) 5)).qpe = v.qpe := leave_qpe _ _
    refine .trans (.of_qpe ?_) (follows_countIo _ _ _)
    split
    · exact hl
    · exact hl
  generalize ((if (d.status.sct != 0 || d.status.sc != 0) then
      (((v.qpeStatus.bump (ctrQpe (engineOf x q) 3)).leave (ctrQpe (engineOf x q) 5)).bump (ctrQpe (engineOf x q) 4)).esel 3 1 q
      else (v.qpeStatus.bump (ctrQpe (engineOf x q) 3)).leave (ctrQpe (engineOf x q) 5)).esel 3 0 q).countIo d x.admin = w at counted
  refine tail _ _ (.trans ?_ (.each _ _ _ fun s w => follows_waitAfter s w q _))
  exact owned w _ _ _ _ counted fun _ => rfl

/-! ## Completion messages (R119) -/

theorem qp_sendMsg (s : State) (l p : Eid) (b : MsgBody) (f n : Bool) (v : Nat) (u : Purpose) (t : Nat) (y : Bool) (q : Nat) :
    (s.sendMsg l p b f n v u t y).qp q = s.qp q := by
  rw [State.qp, State.qp, (within_sendMsg s l p b f n v u t y).qpe rfl]

theorem completionWrite_sends (s : State) (q : Nat) (x : Qp) (e : Eid) (hx : s.qp q = some x) (ho : x.owner = .net e) (hm : x.merging ≠ [])
    (hk : s.keyRevoking x.cqKey = false) :
    (s.completionWrite q).hkt.nextMsg = s.hkt.nextMsg + 1 ∧ ∃ y, (s.completionWrite q).qp q = some y ∧ y.merging = [] := by
  obtain ⟨c0, rest, hc⟩ := List.exists_cons_of_ne_nil hm
  unfold State.completionWrite
  rw [hx]
  dsimp only
  rw [ho, hc]
  dsimp only
  constructor
  · exact sendMsg_nextMsg (s.modQp q _) _ _ _ _ _ _ _ _ _ hk
  · exact ⟨_, (qp_sendMsg _ _ _ _ _ _ _ _ _ _ _).trans (qp_modQp_same s q _ hx), rfl⟩

theorem notifyExpiry_sends (s : State) (q : Nat) (x : Qp) (e : Eid) (l : Cqe) (hx : s.qp q = some x) (ho : x.owner = .net e)
    (hl : x.lastCqe = some l) (hu : x.unnotified ≠ 0) (hm : x.merging = []) (hk : s.keyRevoking x.cqKey = false) :
    (s.notifyExpiry q).hkt.nextMsg = s.hkt.nextMsg + 1 ∧ (s.notifyExpiry q).qp q = some { x with unnotified := 0 } := by
  have e : s.notifyExpiry q = (s.modQp q fun x => { x with unnotified := 0 }).sendMsg x.servEid e
      (.write x.cqKey (16 * l.slot) (cqeBytes l)) true true x.mergeSvc (.cqe q) x.mergeTen := by
    unfold State.notifyExpiry
    rw [hx]
    dsimp only
    rw [ho, hl]
    dsimp only
    rw [if_neg hu, if_neg (by simp [hm])]
  rw [e]
  exact ⟨sendMsg_nextMsg (s.modQp q fun x => { x with unnotified := 0 }) _ _ _ _ _ _ _ _ _ hk,
    (qp_sendMsg _ _ _ _ _ _ _ _ _ _ _).trans (qp_modQp_same s q _ hx)⟩

/-- Settles O17: starts, reservations and waits; completions posted, merged and notified; coalesced interrupts. -/
theorem startingAndCompleting : Obligations.StartingAndCompleting := by
  unfold Obligations.StartingAndCompleting
  refine ⟨fun s c x hx hs ha hb hadm hf h1 h19 => ?_, fun s c i x n l hx hs ha hb hadm hf h1 hi hn hl hw hold => ?_,
    fun s c i x hx hs ha hb hadm hf h1 hi hl => ?_, fun s q c x d l hx hc hd hr => ?_, fun s q c x d l hx hc hd hr hst hfr => ?_,
    fun s q x e hx ho hm hk => ?_, fun s q x e l hx ho hl hu hm hk => ?_, fun s o v n hn => ?_⟩
  · refine ⟨_, rfl, ?_⟩
    have e := commandStart_io s c x hx hs ha hb hadm hf
    rw [if_neg (by simp [h1, h19])] at e
    show (s.commandStart c).cmd c = _
    rw [e, cmd_modCmd_same, hx, Option.map_some]
  · refine ⟨_, rfl, ?_⟩
    have hneed : x.neveNeed = nlbOf x.sqe := by rw [Cmd.neveNeed, if_neg (by rw [h1]; decide)]
    have e : s.commandStart c = s.reserveFor c x i n l := by
      rw [commandStart_io s c x hx hs ha hb hadm hf, if_pos (by simp [h1]), State.tryReserve, hx]
      dsimp only
      rw [hi]
      dsimp only
      rw [hn, hneed, hl]
      dsimp only
      rw [if_neg]
      simp only [State.flag, hw, Bool.or_eq_true, List.any_eq_true, decide_eq_true_eq, not_or, not_exists, not_and, Nat.not_lt]
      exact ⟨by decide, hold⟩
    obtain ⟨⟨y, hy, hp⟩, hslots, ⟨w, hwr, h⟩, _⟩ := reserveFor_after s c x i n l hx
    rw [← e] at hy hslots hwr
    rw [hneed] at h
    exact ⟨⟨y, hy, hp⟩, fun j hj => ⟨_, hslots j hj, rfl⟩, w, hwr, h⟩
  · refine ⟨_, rfl, ?_⟩
    have hneed : x.neveNeed = nlbOf x.sqe := by rw [Cmd.neveNeed, if_neg (by rw [h1]; decide)]
    have e : s.commandStart c = ({ s with jnl := { s.jnl with waiting := (s.jnl.waiting.filter fun k => decide (k < c)) ++
        c :: (s.jnl.waiting.filter fun k => decide (c < k)) } } : State).modCmd c fun x => { x with reserving := true } := by
      rw [commandStart_io s c x hx hs ha hb hadm hf, if_pos (by simp [h1]), State.tryReserve, hx]
      dsimp only
      rw [hi]
      dsimp only
      rw [hneed, hl]
      cases s.ns i <;> rfl
    refine ⟨?_, ?_, ?_⟩
    · show (s.commandStart c).cmd c = _
      rw [e, cmd_modCmd_same]
      exact congrArg _ hx
    · show c ∈ (s.commandStart c).jnl.waiting
      rw [e]
      exact List.mem_append_right _ List.mem_cons_self
    · show (s.commandStart c).jnl.slots = _
      rw [e]
      rfl
  · refine ⟨_, rfl, ?_⟩
    obtain ⟨u, now, e, y, fu, hy, hyc, f⟩ := cqePost_posts s q c x d l hx hc hd hr
    have hgone : ((u.dropCmd c).modQp q fun x => x.posted l (d.status.sct != 0 || d.status.sc != 0) now e).cmd c = none := by
      show tget (tdel u.qpe.cmds c) c = none
      rw [tget_tdel, if_pos rfl]
    obtain ⟨z, hz, hzc⟩ := f.counts.qp (qp_modQp_same (u.dropCmd c) q _ hy)
    simp only [Qp.counts, Prod.mk.injEq, Qp.posted] at hyc hzc
    obtain ⟨y1, y2, y3, y4, y5, y6⟩ := hyc
    obtain ⟨z1, z2, z3, z4, z5, z6⟩ := hzc
    refine ⟨f.gone c hgone, z, hz, by rw [z1, y1, y3], by rw [z4, y4], by rw [z5, y5], ?_, by rw [z2, y2]⟩
    rw [z6, y6]
    simp only [Bool.or_eq_true, bne_iff_ne]
  · refine ⟨_, rfl, ?_⟩
    have e : s.cqePost q = ((s.modQp q fun x => { x with fullRaised := true }).raise EV_QPE_CQ_FULL 3 q).enter (ctrQpe (engineOf x q) 5) := by
      unfold State.cqePost
      rw [hx]
      dsimp only
      rw [hc]
      dsimp only
      rw [hd]
      dsimp only
      rw [if_pos hr, if_neg (by rw [hst]; decide), if_neg (by simp [hfr])]
    refine ⟨?_, ?_, { x with fullRaised := true }, ?_, rfl, hc.symm ▸ rfl⟩
    · show (s.cqePost q).cmd c = _
      rw [e, State.cmd, enter_qpe]
      exact hd
    · have r : Reports s ((s.modQp q fun x => { x with fullRaised := true }).raise EV_QPE_CQ_FULL 3 q) EV_QPE_CQ_FULL 3 q [] :=
        reports_raise (s := s) (u := s.modQp q fun x => { x with fullRaised := true }) _ _ _ _ rfl rfl fun _ _ _ => rfl
      refine r.congr ?_
      show (s.cqePost q).evt = _
      rw [e, enter_evt]
    · show (s.cqePost q).qp q = _
      rw [e, State.qp, enter_qpe]
      exact qp_modQp_same s q _ hx
  · exact ⟨_, rfl, completionWrite_sends s q x e hx ho hm hk⟩
  · obtain ⟨hn, hq⟩ := notifyExpiry_sends s q x e l hx ho hl hu hm hk
    exact ⟨_, rfl, hn, _, hq, rfl, rfl⟩
  · refine ⟨_, rfl, ?_⟩
    have e : s.coalesceExpiry o v =
        ({ s with hif := { s.hif with coal := tdel s.hif.coal (o, v) } } : State).message o (s.epOf o) (s.vectorOf o v) := by
      rw [State.coalesceExpiry, hn]
    constructor
    · show tget (s.coalesceExpiry o v).hif.coal (o, v) = none
      have hp := message_port ({ s with hif := { s.hif with coal := tdel s.hif.coal (o, v) } } : State) o (s.epOf o) (s.vectorOf o v)
      rw [PortKept] at hp
      rw [e, hp, tget_tdel, if_pos rfl]
    · show (s.coalesceExpiry o v).outbox = _
      rw [e]

end Sys2Proof.Machine
end

section
/-! PROOFS. A block leaves its lane, a lane takes the next unit in turn, a waiting write reserves (R176, R246, R251). -/

namespace Sys2Proof.Machine

open F

/-! ## The lanes -/

theorem laneRan_cip (s : State) (l n : Nat) : Within { parts := [.key, .freeCtr, .cip] } s (s.laneRan l n) ∧
    ∃ h, (s.laneRan l n).cip = { s.cip with held := h } := by
  unfold State.laneRan
  dsimp only
  split
  · have hd := within_drbg (w := { parts := [.key, .freeCtr, .cip] }) s 3 rfl rfl
    have hc : (s.drbg 3).2.cip = s.cip := (within_drbg (w := { parts := [.key, .freeCtr] }) s 3 rfl rfl).cip rfl
    exact ⟨hd.trans (within_cip _ _ rfl), _, by rw [hc]⟩
  · exact ⟨within_cip s _ rfl, _, rfl⟩

/-- The state with a lane's oldest unit gone, before the class's queues are served. -/
def State.popped (s : State) (lane : Nat) (u : CipUnit) (rest : List CipUnit) : State :=
  let s := { s with cip := { s.cip with lanes := tput s.cip.lanes lane rest } }.bump (ctrCip lane 0)
  (if rest.isEmpty then s.leave (ctrCip lane 1) else s).laneRan lane u.blocks

theorem popped_after (s : State) (lane : Nat) (u : CipUnit) (rest : List CipUnit) :
    Within { parts := [.ctr, .key, .freeCtr, .cip] } s (s.popped lane u rest) ∧
    ∃ h, (s.popped lane u rest).cip = { s.cip with lanes := tput s.cip.lanes lane rest, held := h } := by
  unfold State.popped
  dsimp only
  have hb : Within { parts := [.ctr, .key, .freeCtr, .cip] } s
      (({ s with cip := { s.cip with lanes := tput s.cip.lanes lane rest } } : State).bump (ctrCip lane 0)) :=
    (within_cip s _ rfl).trans (within_bump _ _ _ rfl)
  have hc : (({ s with cip := { s.cip with lanes := tput s.cip.lanes lane rest } } : State).bump (ctrCip lane 0)).cip =
      { s.cip with lanes := tput s.cip.lanes lane rest } := rfl
  generalize ({ s with cip := { s.cip with lanes := tput s.cip.lanes lane rest } } : State).bump (ctrCip lane 0) = a at *
  have hl : Within { parts := [.ctr, .key, .freeCtr, .cip] } s (if rest.isEmpty then a.leave (ctrCip lane 1) else a) ∧
      (if rest.isEmpty then a.leave (ctrCip lane 1) else a).cip = { s.cip with lanes := tput s.cip.lanes lane rest } := by
    split
    · exact ⟨hb.trans (within_leave _ _ rfl), by rw [leave_cip, hc]⟩
    · exact ⟨hb, hc⟩
  generalize (if rest.isEmpty then a.leave (ctrCip lane 1) else a) = b at hl ⊢
  obtain ⟨h1, h, h2⟩ := laneRan_cip b lane u.blocks
  exact ⟨hl.1.trans (h1.widen (by decide) (by decide) (by decide)), h, by rw [h2, hl.2]⟩

theorem lanePop_cons (s : State) {lane : Nat} {u : CipUnit} {rest : List CipUnit} (h : tgetD s.cip.lanes lane [] = u :: rest) :
    s.lanePop lane = some (u, State.cipDispatch (decide (40 ≤ lane)) 1 (s.popped lane u rest)) := by
  unfold State.lanePop
  rw [h]
  rfl

theorem queueTurn_empty (s : State) (a : Bool) (h : s.cip.queues = []) : s.queueTurn a = none := by
  simp [State.queueTurn, h, tgetD]

theorem cipDispatch_idle (s : State) (a : Bool) (n : Nat) (h : s.cip.queues = []) : State.cipDispatch a n s = s := by
  cases n with
  | zero => rfl
  | succ n => rw [State.cipDispatch, queueTurn_empty s a h]

/-- With no work waiting the lane loses its oldest unit, and the journal and the queues are as before. -/
theorem lanePop_idle (s : State) {lane : Nat} {u : CipUnit} {rest : List CipUnit} (h : tgetD s.cip.lanes lane [] = u :: rest)
    (hq : s.cip.queues = []) : ∃ v, s.lanePop lane = some (u, v) ∧ v.cip.lanes = tput s.cip.lanes lane rest ∧ v.jnl = s.jnl := by
  obtain ⟨hw, h', hc⟩ := popped_after s lane u rest
  refine ⟨_, lanePop_cons s h, ?_, ?_⟩
  · rw [cipDispatch_idle _ _ _ (by rw [hc]; exact hq), hc]
  · rw [cipDispatch_idle _ _ _ (by rw [hc]; exact hq), hw.jnl rfl]

/-- The lane with nothing queued is chosen where the class's others are busy. -/
theorem laneFor_idle (s : State) (a : Bool) (lane : Nat) (hm : lane ∈ s.lanesOf a) (h0 : s.laneBlocks lane = 0)
    (hb : ∀ i ∈ s.lanesOf a, i ≠ lane → 0 < s.laneBlocks i) : s.laneFor a = some lane := by
  have key : ∀ (l : List Nat) (m : Option Nat), (∀ i ∈ l, i ≠ lane → 0 < s.laneBlocks i) →
      (m = some lane ∨ lane ∈ l ∧ ∀ k, m = some k → 0 < s.laneBlocks k) →
      l.foldl (fun (m : Option Nat) l => match m with
        | none => some l
        | some k => if s.laneBlocks l < s.laneBlocks k then some l else m) m = some lane := by
    intro l
    induction l with
    | nil =>
      rintro m _ (h | ⟨h, _⟩)
      · exact h
      · exact absurd h List.not_mem_nil
    | cons j l ih =>
      intro m hl hm
      rw [List.foldl_cons]
      refine ih _ (fun i hi => hl i (List.mem_cons_of_mem _ hi)) ?_
      rcases hm with rfl | ⟨hmem, hpos⟩
      · left
        dsimp only
        rw [if_neg (by omega)]
      · by_cases e : j = lane
        · left
          subst e
          cases m with
          | none => rfl
          | some k =>
            have := hpos k rfl
            dsimp only
            rw [if_pos (by omega)]
        · right
          have hj := hl j List.mem_cons_self e
          refine ⟨(List.mem_cons.mp hmem).resolve_left (Ne.symm e), fun k hk => ?_⟩
          cases m with
          | none =>
            cases hk
            exact hj
          | some k' =>
            dsimp only at hk
            split at hk
            · cases hk
              exact hj
            · exact hpos k hk
  exact key _ none hb (.inr ⟨hm, nofun⟩)

theorem queueTurn_one (s : State) (a : Bool) (j : Nat) (v : CipUnit) (l : List CipUnit) (hj : j < 4)
    (h : s.cip.queues = [((a, j), v :: l)]) : s.queueTurn a = some j := by
  have hq : ∀ k, (!(tgetD s.cip.queues (a, k) []).isEmpty) = decide (k = j) := fun k => by
    rw [h]
    by_cases e : k = j
    · subst e
      simp [tgetD, tget]
    · simp [tgetD, tget, e, Ne.symm e]
  unfold State.queueTurn
  simp only [hq]
  generalize tgetD s.cip.turn a 0 = n
  have key : ∀ m < 4, ∀ j < 4, (((List.range 4).map fun i => (m + i) % 4).find? fun k => decide (k = j)) = some j := by decide
  have e : ((List.range 4).map fun i => (n + i) % 4) = (List.range 4).map fun i => (n % 4 + i) % 4 :=
    List.map_congr_left fun i _ => by omega
  rw [e]
  exact key _ (Nat.mod_lt _ (by decide)) j hj

theorem laneTake_cip (s : State) (l : Nat) (u : CipUnit) :
    (s.laneTake l u).cip.lanes = tput s.cip.lanes l (tgetD s.cip.lanes l [] ++ [u]) ∧ (s.laneTake l u).cip.queues = s.cip.queues ∧
    (s.laneTake l u).cip.turn = s.cip.turn := by
  have key : ∀ a : State, (a.laneLoad l u.slot).cip.lanes = a.cip.lanes ∧ (a.laneLoad l u.slot).cip.queues = a.cip.queues ∧
      (a.laneLoad l u.slot).cip.turn = a.cip.turn := fun a => by
    have hs : ∀ v, (a.laneShares l u.slot v).2.cip = a.cip := fun v => by
      unfold State.laneShares
      split <;> rfl
    unfold State.laneLoad
    split
    · exact ⟨rfl, rfl, rfl⟩
    · dsimp only
      rw [hs]
      exact ⟨rfl, rfl, rfl⟩
  have hc : (if (tgetD s.cip.lanes l []).isEmpty then s.enter (ctrCip l 1) else s).cip = s.cip := by
    split
    · exact enter_cip _ _
    · rfl
  unfold State.laneTake
  dsimp only
  generalize (if (tgetD s.cip.lanes l []).isEmpty then s.enter (ctrCip l 1) else s) = a at hc ⊢
  obtain ⟨h1, h2, h3⟩ := key a
  exact ⟨by rw [h1, hc], by rw [h2, hc], by rw [h3, hc]⟩

/-- The end of a lane's only unit, the class's other lanes being busy: the lane takes the oldest unit of the one queue that holds work. -/
theorem cipDispatch_takes (s : State) (a : Bool) (lane j : Nat) (v : CipUnit) (l : List CipUnit) (hj : j < 4)
    (hq : s.cip.queues = [((a, j), v :: l)]) (hl : tgetD s.cip.lanes lane [] = []) (hm : lane ∈ s.lanesOf a)
    (hb : ∀ i ∈ s.lanesOf a, i ≠ lane → 0 < s.laneBlocks i) :
    tget (State.cipDispatch a 1 s).cip.lanes lane = some [v] ∧ (State.cipDispatch a 1 s).cip.queues = [((a, j), l)] ∧
    tget (State.cipDispatch a 1 s).cip.turn a = some ((j + 1) % 4) := by
  have h0 : s.laneBlocks lane = 0 := by rw [State.laneBlocks, hl, List.foldl_nil]
  have hk : tgetD s.cip.queues (a, j) [] = v :: l := by rw [hq, tgetD, tget, if_pos rfl, Option.getD_some]
  have hp : tput s.cip.queues (a, j) l = [((a, j), l)] := by rw [hq, tput, if_pos rfl]
  rw [State.cipDispatch, queueTurn_one s a j v l hj hq, laneFor_idle s a lane hm h0 hb]
  dsimp only
  rw [if_neg (by rw [hl]; decide), hk]
  dsimp only
  rw [State.cipDispatch]
  obtain ⟨h1, h2, h3⟩ := laneTake_cip
    { s with cip := { s.cip with queues := tput s.cip.queues (a, j) l, turn := tput s.cip.turn a ((j + 1) % 4) } } lane v
  refine ⟨?_, h2.trans hp, ?_⟩
  · rw [h1, tget_tput_same, hl]
    rfl
  · rw [h3, tget_tput_same]

theorem unitDone_takes (s : State) {lane n j : Nat} {u v : CipUnit} {l : List CipUnit} (h : tgetD s.cip.lanes lane [] = [u])
    (hu : u.use = .line n) (hq : s.cip.queues = [((decide (40 ≤ lane), j), v :: l)]) (hj : j < 4)
    (hb : ∀ i ∈ s.lanesOf (decide (40 ≤ lane)), i ≠ lane → 0 < s.laneBlocks i) (hm : lane ∈ s.lanesOf (decide (40 ≤ lane))) :
    tget (s.unitDone lane).cip.lanes lane = some [v] ∧ (s.unitDone lane).cip.queues = [((decide (40 ≤ lane), j), l)] ∧
    tget (s.unitDone lane).cip.turn (decide (40 ≤ lane)) = some ((j + 1) % 4) := by
  obtain ⟨_, h', hc⟩ := popped_after s lane u []
  have e : s.unitDone lane = State.cipDispatch (decide (40 ≤ lane)) 1 (s.popped lane u []) := by
    unfold State.unitDone
    rw [lanePop_cons s h]
    dsimp only
    rw [hu]
  have hlanes : ∀ a, (s.popped lane u []).lanesOf a = s.lanesOf a := fun a => by
    unfold State.lanesOf
    rw [hc]
  have hblocks : ∀ i, i ≠ lane → (s.popped lane u []).laneBlocks i = s.laneBlocks i := fun i hi => by
    unfold State.laneBlocks
    rw [hc, tgetD, tget_tput_other _ _ (Ne.symm hi)]
    rfl
  rw [e]
  refine cipDispatch_takes _ _ lane j v l hj ?_ ?_ ?_ ?_
  · rw [hc]
    exact hq
  · rw [hc, tgetD, tget_tput_same]
    rfl
  · rw [hlanes]
    exact hm
  · rw [hlanes]
    intro i hi hne
    rw [hblocks i hne]
    exact hb i hi hne

/-! ## A written block leaves its lane -/

theorem dropStage_kept (s : State) (c b : Nat) : (s.dropStage c b).cip = s.cip ∧ (s.dropStage c b).jnl = s.jnl := by
  unfold State.dropStage
  dsimp only
  split <;> exact ⟨rfl, rfl⟩

/-- A block of a write that awaits more goes to its slot and its job. -/
theorem cmdUnit_fills (s : State) (u : CipUnit) (c b : Nat) (k : BitVec 512) (w : WJob) (hu : u.encrypt = true)
    (hw : tget s.jnl.writes c = some w) (hl : w.staged.length ≠ w.blocks.length) :
    (s.cmdUnit u c b k).cip = s.cip ∧
    ∃ v, tget (s.cmdUnit u c b k).jnl.writes c = some v ∧ tget v.ready b = some (xtsEncrypt k u.lba u.data) := by
  have e : s.cmdUnit u c b k = (s.neveFill c b (xtsEncrypt k u.lba u.data)).commitReady c := by
    unfold State.cmdUnit
    rw [if_neg (by rw [hu]; decide), if_pos (by rw [hw]; rfl)]
  rw [e]
  generalize xtsEncrypt k u.lba u.data = d
  obtain ⟨v, hf, hv⟩ : ∃ v : State, s.neveFill c b d = v.dropStage c b ∧
      v.cip = s.cip ∧ tget v.jnl.writes c = some { w with ready := tput w.ready b d } := by
    unfold State.neveFill
    rw [hw]
    exact ⟨_, rfl, rfl, tget_tput_same _ _ _⟩
  obtain ⟨hdc, hdj⟩ := dropStage_kept v c b
  rw [hf, State.commitReady, hdj, hv.2]
  dsimp only
  rw [if_pos (by simpa using hl), hdc, hdj]
  exact ⟨hv.1, _, hv.2, tget_tput_same _ _ _⟩

theorem tget_foldl_tput_other {l : List Nat} {t : Table Nat NeveSlot} {v : NeveSlot} {j : Nat} (h : j ∉ l) :
    tget (l.foldl (fun t j => tput t j v) t) j = tget t j := by
  induction l generalizing t with
  | nil => rfl
  | cons i l ih =>
    obtain ⟨hi, hl⟩ := not_or.mp (mt List.mem_cons.mpr h)
    rw [List.foldl_cons, ih hl, tget_tput_other _ _ (Ne.symm hi)]

/-! ## The statement -/

/-- Settles O23: the lane's rule (R176) is cut from what becomes of the block that leaves it; the reservation is that of a start. -/
theorem cipherAndReservation : Obligations.CipherAndReservation := by
  unfold Obligations.CipherAndReservation
  refine ⟨fun s lane c b u rest k w hl hq hk hu he hw hn => ?_, fun s lane ns lba old u rest hl hq hk hu => ?_,
    fun s lane n j u v l hl hu hq hj hb hm => ?_, fun s c i rest x n l hw hc hp hst had hh hi hn hl => ?_⟩
  · refine ⟨_, rfl, ?_⟩
    obtain ⟨v, hv, hvl, hvj⟩ := lanePop_idle s hl hq
    have e : s.unitDone lane = v.cmdUnit u c b k := by
      unfold State.unitDone
      rw [hv]
      dsimp only
      rw [hu, hk]
    obtain ⟨hcip, hjob⟩ := cmdUnit_fills v u c b k w he (by rw [hvj, hw]) hn
    constructor
    · show tget (s.unitDone lane).cip.lanes lane = _
      rw [e, hcip, hvl, tget_tput_same]
    · show ∃ w, tget (s.unitDone lane).jnl.writes c = some w ∧ _
      rw [e]
      exact hjob
  · refine ⟨_, rfl, ?_⟩
    obtain ⟨v, hv, hvl, _⟩ := lanePop_idle s hl hq
    show (s.unitDone lane).cip.lanes = _
    unfold State.unitDone
    rw [hv]
    dsimp only
    rw [hu, hk]
    exact hvl
  · exact ⟨_, rfl, unitDone_takes s hl hu hq hj hb hm⟩
  · refine ⟨_, rfl, ?_⟩
    have e : s.neveReserve = s.reserveFor c x i n l := by
      unfold State.neveReserve
      rw [hw]
      dsimp only
      rw [hc]
      dsimp only
      rw [if_neg (by simp [hp]), if_neg (by simp [hst, had, hh]), hi]
      dsimp only
      rw [hn, hl]
    obtain ⟨hcmd, hslots, _, hwait, hall⟩ := reserveFor_after s c x i n l hc
    rw [← e] at hcmd hslots hwait hall
    refine ⟨hcmd, fun j hj => ⟨_, hslots j hj, rfl⟩, fun j hj => ?_, fun hm => ?_⟩
    · show tget s.neveReserve.jnl.slots j = _
      rw [hall, tget_foldl_tput_other hj]
    · have hm' : c ∈ s.neveReserve.jnl.waiting := hm
      rw [hwait] at hm'
      simpa using (List.mem_filter.mp hm').2

end Sys2Proof.Machine
end

section
/-! PROOFS. What ACK, NAK and PROBE packets do to their context (R50, R58, R62, R64, R76). -/

namespace Sys2Proof.Machine

open F

/-! ## A packet is admitted -/

/-- What admitting a packet writes. -/
def admitW : Writes := { parts := [.evt, .ctr, .hkt, .key, .cip, .freeCtr] }

theorem within_noteSession_admit (s : State) (h : HktHdr) (n : Nat) : Within admitW s (s.noteSession h n) :=
  within_ite _ (fun _ => .refl _ _) fun _ => within_key s _ rfl

theorem lineCheck_kept (s : State) (p : HktPkt) : Within admitW s (s.lineCheck p).1 ∧ (s.lineCheck p).1.hkt = s.hkt := by
  have hbad : Within admitW s ((s.bump (ctrHkt (groupOf p.hdr.src) 25)).raiseCo EV_HKT_AUTH_FAIL p.hdr.src.toNat 5 p.hdr.src.toNat) :=
    (within_bump s _ _ rfl).trans (within_raiseCo _ _ _ _ _ _ rfl rfl)
  unfold State.lineCheck
  dsimp only
  split
  · split
    · exact ⟨hbad, rfl⟩
    · exact ⟨.refl _ _, rfl⟩
  · split
    · exact ⟨hbad, rfl⟩
    · split
      · exact ⟨hbad, rfl⟩
      · next k _ _ =>
        have hn : (s.noteSession p.hdr k).hkt = s.hkt := by
          unfold State.noteSession
          split <;> rfl
        exact ⟨(within_noteSession_admit s _ _).trans ((within_linePush _ _ _ _).widen (by decide) (by decide) (by decide)),
          ((within_linePush _ _ _ _).hkt rfl).trans hn⟩

/-- What an admitted packet leaves of the transport: all but the peers' way and the drops at the management port. -/
theorem rxAdmit_kept (s : State) (op : Nat) (p : HktPkt) : Within admitW s (s.rxAdmit op p).1 ∧
    ∃ m n, (s.rxAdmit op p).1.hkt = { s.hkt with nets := m, mgmtDrops := n } := by
  unfold State.rxAdmit
  split
  · exact ⟨within_bump s _ _ rfl, _, _, rfl⟩
  · split
    · exact ⟨within_bump s _ _ rfl, _, _, rfl⟩
    · split
      · exact ⟨within_hkt s _ rfl, _, _, rfl⟩
      · dsimp only
        have hb : Within admitW s ((s.bump (ctrHkt (groupOf p.hdr.src) 1)).bump (ctrHkt (groupOf p.hdr.src) 3)
            (pktBytes p.ing.v6 (p.ing.vlan != 0) p)) := (within_bump s _ _ rfl).trans (within_bump _ _ _ rfl)
        have hh : ((s.bump (ctrHkt (groupOf p.hdr.src) 1)).bump (ctrHkt (groupOf p.hdr.src) 3)
            (pktBytes p.ing.v6 (p.ing.vlan != 0) p)).hkt = s.hkt := rfl
        generalize (s.bump (ctrHkt (groupOf p.hdr.src) 1)).bump (ctrHkt (groupOf p.hdr.src) 3) (pktBytes p.ing.v6 (p.ing.vlan != 0) p) = b at hb hh
        obtain ⟨hw, hk⟩ := lineCheck_kept b p
        split
        · refine ⟨(hb.trans hw).trans (within_hkt _ _ rfl), tput s.hkt.nets p.hdr.src ⟨p.ing.v6, p.ing.vlan⟩, s.hkt.mgmtDrops, ?_⟩
          show { (b.lineCheck p).1.hkt with nets := tput (b.lineCheck p).1.hkt.nets p.hdr.src ⟨p.ing.v6, p.ing.vlan⟩ } = _
          rw [hk, hh]
        · exact ⟨hb.trans hw, s.hkt.nets, s.hkt.mgmtDrops, by rw [hk, hh]⟩

theorem rxAdmit_ctx (s : State) (op : Nat) (p : HktPkt) (loc peer : Eid) : (s.rxAdmit op p).1.ctx loc peer = s.ctx loc peer := by
  obtain ⟨_, m, n, e⟩ := rxAdmit_kept s op p
  rw [State.ctx, e]
  rfl

/-- A context used stays as it is, brought back from the spill area where room is. -/
theorem touchCtx_ctx (s : State) {loc peer : Eid} {c : HktCtx} (h : s.ctx loc peer = some c) :
    ∃ k, (s.touchCtx loc peer).ctx loc peer = some { c with spilled := k } := by
  obtain ⟨h1, h2⟩ := ctxFind_eids h
  have hf : ctxFind s.hkt.ctxs loc peer = some c := h
  have hhead : ∀ (d : HktCtx) (l : List HktCtx), d.localEid = loc → d.peerEid = peer → ctxFind (d :: l) loc peer = some d := fun d l e1 e2 => by
    rw [ctxFind, List.find?_cons_of_pos (by simp [e1, e2])]
  unfold State.touchCtx
  rw [hf, Option.isSome_some, if_pos rfl, State.needCtx, hf]
  dsimp only
  cases hs : c.spilled
  · rw [if_neg (by decide)]
    exact ⟨c.spilled, hhead _ _ h1 h2⟩
  · rw [if_pos rfl]
    cases ctxRoom (ctxDrop s.hkt.ctxs loc peer) s.dtc s.mpl with
    | none => exact ⟨c.spilled, hf⟩
    | some l => exact ⟨false, hhead _ _ h1 h2⟩

theorem touchCtx_none (s : State) {loc peer : Eid} (h : s.ctx loc peer = none) : s.touchCtx loc peer = s := by
  unfold State.touchCtx
  rw [if_neg]
  rw [show ctxFind s.hkt.ctxs loc peer = none from h]
  decide

/-! ## An acknowledgement -/

/-- A context once an acknowledgement is taken. -/
def HktCtx.acked (c : HktCtx) (ack : Psn) (rwnd : Option Nat) : HktCtx :=
  let moves := psnPrecedes c.sndUna ack && !psnPrecedes c.sndNxt ack
  { c with sndUna := if moves then ack else c.sndUna, backoff := if moves then 0 else c.backoff, peerRwnd := rwnd.getD c.peerRwnd }

theorem ackedBytes_hkt (s : State) (x : TxCopy) : (s.ackedBytes x).hkt = s.hkt := by
  unfold State.ackedBytes
  split <;> rfl

theorem noteStale_ctxs (s : State) (q : Nat × Nat) : (s.noteStale q).hkt = s.hkt := by
  unfold State.noteStale
  split <;> rfl

theorem ctx_of_mem {s : State} {loc peer : Eid} {c : HktCtx} (h : s.ctx loc peer = some c) : c.localEid = loc ∧ c.peerEid = peer := ctxFind_eids h

/-- Putting back a context found, with what `SameAcks` names as it was. -/
theorem sends_putFound {s : State} {loc peer : Eid} {c d : HktCtx} (h : s.ctx loc peer = some c) (hl : d.localEid = c.localEid)
    (hp : d.peerEid = c.peerEid) (hd : SameAcks c d) : Sends s (s.putCtx d) := by
  obtain ⟨h1, h2⟩ := ctx_of_mem h
  refine sends_putCtx s d fun e he => ?_
  rw [hl, hp, h1, h2] at he
  cases h.symm.trans he
  exact hd

theorem sends_of_put {s t : State} {loc peer : Eid} {c d : HktCtx} (h : s.ctx loc peer = some c) (e : t.hkt = (s.putCtx d).hkt)
    (hl : d.localEid = c.localEid) (hp : d.peerEid = c.peerEid) (hd : SameAcks c d) : Sends s t :=
  (sends_putFound h hl hp hd).trans (.of_hkt e)

theorem sends_takeSample (s : State) (loc peer : Eid) (v path acked : Nat) : Sends s (s.takeSample loc peer v path acked) := by
  unfold State.takeSample
  split
  · exact .refl s
  · next c hc =>
    dsimp only
    split
    · exact sends_of_put hc (noteStale_ctxs _ _) rfl rfl ⟨rfl, rfl, rfl, rfl, rfl, rfl⟩
    · exact sends_of_put hc rfl rfl rfl ⟨rfl, rfl, rfl, rfl, rfl, rfl⟩

theorem onAck_ctx (s : State) {loc peer : Eid} {c : HktCtx} (ack : Psn) (rwnd : Option Nat) (echo : Word32) (path : Nat) (bad : Option TxCopy)
    (h : s.ctx loc peer = some c) :
    ∃ d, (s.onAck loc peer ack rwnd echo path bad).ctx loc peer = some d ∧ SameAcks (c.acked ack rwnd) d := by
  obtain ⟨h1, h2⟩ := ctx_of_mem h
  unfold State.onAck
  rw [h]
  dsimp only
  generalize hm : (psnPrecedes c.sndUna ack && !psnPrecedes c.sndNxt ack) = moves
  generalize (if moves = true then (ack - c.sndUna).toNat else 0) = acked
  generalize List.filter _ (if moves = true then List.filter _ c.copies else []) = placed
  obtain ⟨d, hd, hs⟩ : ∃ d, (s.modCtx loc peer fun c =>
      { (if moves = true then { c with copies := c.copies.filter fun x => !psnPrecedes x.pkt.hdr.psn ack, sndUna := ack, backoff := 0, rtoOn := c.sndNxt != ack }
          else c) with
        peerRwnd := rwnd.getD (if moves = true then { c with copies := c.copies.filter fun x => !psnPrecedes x.pkt.hdr.psn ack, sndUna := ack, backoff := 0, rtoOn := c.sndNxt != ack }
          else c).peerRwnd
        lastRx := s.dtc }).ctx loc peer = some d ∧ SameAcks (c.acked ack rwnd) d := by
    refine ⟨_, (ctx_modCtx_same s loc peer _ fun k => ?_).trans (by rw [h]; rfl), ?_⟩
    · cases moves <;> exact ⟨rfl, rfl⟩
    · unfold HktCtx.acked
      rw [hm]
      cases moves <;> exact ⟨rfl, rfl, rfl, rfl, rfl, rfl⟩
  generalize s.modCtx loc peer _ = u at hd ⊢
  have hp : Sends u (u.each placed State.ackedBytes) := sends_each _ (fun s x => .of_hkt (ackedBytes_hkt s x)) _ _
  generalize u.each placed State.ackedBytes = v at hp ⊢
  refine (fun (k : Sends v _) => let ⟨d', hd', hs'⟩ := (hp.trans k).ctx _ _ _ hd; ⟨d', hd', hs.trans hs'⟩) ?_
  have hq : ∀ o : Option Nat, Sends v (match o with | some n => v.takeSample loc peer n path acked | none => v) := fun o => by
    cases o with
    | some n => exact sends_takeSample _ _ _ _ _ _
    | none => exact .refl v
  split
  · exact .trans (hq _) (sends_modCtx _ loc peer _ (fun _ => ⟨rfl, rfl⟩) fun _ => ⟨rfl, rfl, rfl, rfl, rfl, rfl⟩)
  · exact hq _

/-- After an acknowledgement or a loss the context sends what it may, and every context where room has returned. -/
def State.pumped (s : State) (loc peer : Eid) (tight : Bool) : State := if tight = true then (s.pump loc peer).pumpAll else s.pump loc peer

theorem sends_pumped (s : State) (loc peer : Eid) (tight : Bool) : Sends s (s.pumped loc peer tight) := by
  unfold State.pumped
  split
  · exact (sends_pump s _ _).trans (sends_pumpAll _)
  · exact sends_pump s _ _

/-! ## Losses -/

theorem sends_pathLoss (s : State) (loc peer : Eid) (path : Option Nat) : Sends s (s.pathLoss loc peer path) := by
  unfold State.pathLoss
  split
  · next c hc =>
    dsimp only
    split
    · exact sends_putFound hc rfl rfl ⟨rfl, rfl, rfl, rfl, rfl, rfl⟩
    · exact sends_of_put hc rfl rfl rfl ⟨rfl, rfl, rfl, rfl, rfl, rfl⟩
  · exact .refl s

theorem sends_resend (s : State) (loc peer : Eid) (x : TxCopy) : Sends s (s.resend loc peer x) := by
  unfold State.resend
  split
  · exact .refl s
  · next c hc =>
    dsimp only
    refine .trans ?_ (.of_hkt (bump_hkt _ _ _))
    refine .trans ?_ (sends_sendPkt _ _ _ _)
    exact sends_putFound hc rfl rfl ⟨rfl, rfl, rfl, rfl, rfl, rfl⟩

/-- Going back ends a receiver-not-ready wait. -/
theorem goBack_ends (s : State) {loc peer : Eid} {c : HktCtx} (from_ : Psn) (h : s.ctx loc peer = some c) :
    ∃ d, (s.goBack loc peer from_).ctx loc peer = some d ∧ d.rnrWait = none := by
  obtain ⟨h1, h2⟩ := ctx_of_mem h
  unfold State.goBack
  rw [h]
  dsimp only
  have hp : (s.putCtx { c with rtxNxt := from_, rnrWait := none }).ctx loc peer = some { c with rtxNxt := from_, rnrWait := none } := by
    rw [ctx_putCtx, if_pos ⟨h1, h2⟩, h]
    rfl
  generalize s.putCtx { c with rtxNxt := from_, rnrWait := none } = u at hp ⊢
  refine (fun (k : Sends u _) => let ⟨d, hd, hs⟩ := k.ctx _ _ _ hp; ⟨d, hd, hs.rnr⟩) ?_
  exact .trans (sends_each _ (fun s x => sends_resend s loc peer x) _ _)
    (sends_modCtx _ loc peer _ (fun _ => ⟨rfl, rfl⟩) fun _ => ⟨rfl, rfl, rfl, rfl, rfl, rfl⟩)

theorem within_pathLoss (s : State) (loc peer : Eid) (path : Option Nat) : Within { parts := [.evt, .ctr, .hkt] } s (s.pathLoss loc peer path) := by
  unfold State.pathLoss
  split
  · dsimp only
    split
    · exact within_putCtx s _ rfl
    · exact ((within_putCtx s _ rfl).trans (within_bump _ _ _ rfl)).trans (within_raiseCo _ _ _ _ _ _ rfl rfl)
  · exact .refl _ _

theorem within_pumped (s : State) (loc peer : Eid) (tight : Bool) : Within messageW s (s.pumped loc peer tight) := by
  unfold State.pumped
  split
  · exact (within_pump s _ _).trans (within_each _ _ _ fun s (e : Eid × Eid) => within_pump s e.1 e.2)
  · exact within_pump s _ _

/-- What a NAK does once it has acknowledged: it goes back, waits, or fails the message it names. -/
def State.nakActs (s : State) (loc peer : Eid) (x : NakExt) (copy : Option TxCopy) : State :=
  if x.code = 1 then
    (s.modCtx loc peer fun c => { c with cwnd := ccLoss (s.get HKT_CC_CFG_max_mdf) c.cwnd }).goBack loc peer x.nakPsn
  else if x.code = 8 then s.modCtx loc peer fun c => { c with rnrWait := some x.nakPsn }
  else match copy with
    | some y => s.failMessage loc peer y (.nak x.code (pktKey y.pkt))
    | none => s

theorem rxNak_acts (s : State) (p : HktPkt) (x : NakExt) (c : HktCtx) {loc peer : Eid} (hl : p.hdr.dst = loc) (hp : p.hdr.src = peer)
    (ha : (s.rxAdmit 9 p).2 = true) (hc : s.ctx loc peer = some c) :
    ∃ (u : State) (d : HktCtx) (path : Option Nat) (tight : Bool), u.ctx loc peer = some d ∧
    s.rxNak p x = (((u.nakActs loc peer x (c.copyOf x.nakPsn)).pathLoss loc peer path).pumped loc peer tight) := by
  subst hl hp
  have hb := (rxAdmit_ctx s 9 p p.hdr.dst p.hdr.src).trans hc
  unfold State.rxNak
  generalize s.rxAdmit 9 p = a at ha hb ⊢
  obtain ⟨k, hk⟩ := touchCtx_ctx a.1 hb
  dsimp only
  rw [if_neg (by rw [ha]; decide), hk]
  generalize a.1.touchCtx p.hdr.dst p.hdr.src = v at hk ⊢
  dsimp only
  generalize (if (decide (x.code = 1) || decide (x.code = 8)) = true then none else _ : Option TxCopy) = bad
  obtain ⟨d, hd, _⟩ := onAck_ctx (v.bump (ctrHkt (groupOf p.hdr.src) (7 + x.code))) x.ackPsn none p.hdr.echoTs (x.echoPath % 16) bad hk
  exact ⟨_, d, _, _, hd, rfl⟩

/-- A received ACK sets the context's acknowledgement, and sending afterwards keeps it. -/
theorem rxAck_acked (s : State) (p : HktPkt) (x : AckExt) (c : HktCtx) (ha : (s.rxAdmit 8 p).2 = true) (hc : s.ctx p.hdr.dst p.hdr.src = some c) :
    ∃ d, (s.rxAck p x).ctx p.hdr.dst p.hdr.src = some d ∧ SameAcks (c.acked x.ackPsn (some x.rwnd)) d := by
  have hb := (rxAdmit_ctx s 8 p p.hdr.dst p.hdr.src).trans hc
  unfold State.rxAck
  generalize s.rxAdmit 8 p = a at ha hb ⊢
  obtain ⟨k, hk⟩ := touchCtx_ctx a.1 hb
  dsimp only
  rw [if_neg (by rw [ha]; decide)]
  generalize a.1.touchCtx p.hdr.dst p.hdr.src = v at hk ⊢
  obtain ⟨d, hd, hs⟩ := onAck_ctx v x.ackPsn (some x.rwnd) p.hdr.echoTs (x.echoPath % 16) none hk
  obtain ⟨d', hd', hs'⟩ := (sends_pumped _ p.hdr.dst p.hdr.src (!v.copyRoom)).ctx _ _ _ hd
  exact ⟨d', hd', SameAcks.trans ⟨hs.una, hs.rwnd, hs.backoff, hs.rnr, hs.rcv, hs.fences⟩ hs'⟩

/-! ## A probe's answer -/

theorem tmsPut_queued (l : List TmsLeaf) (root cls tenant : Nat) (i : TmsItem) :
    ∃ x ∈ tmsPut l root cls tenant false i, x.root = root ∧ x.cls = cls ∧ i ∈ x.green := by
  unfold tmsPut
  split
  · next h =>
    obtain ⟨x, hx, he⟩ := List.any_eq_true.mp h
    simp only [Bool.and_eq_true, decide_eq_true_eq] at he
    obtain ⟨⟨h1, h2⟩, h3⟩ := he
    refine ⟨_, List.mem_map_of_mem hx, ?_⟩
    rw [if_pos (by simp [h1, h2, h3]), if_neg (by decide)]
    exact ⟨h1, h2, List.mem_append_right _ List.mem_cons_self⟩
  · exact ⟨_, List.mem_append_right _ List.mem_cons_self, rfl, rfl, List.mem_cons_self⟩

/-- A packet with one port and cells there waits on that port, the contexts being as before. -/
theorem sendPkt_queued (s : State) (p : HktPkt) (t r : Nat) (hm : p.hdr.src ≠ s.mgmtEid)
    (hp : s.hktPorts p.hdr.src p.hdr.dst p.hdr.path (36 + groupOf p.hdr.dst) = [r]) (hu : s.portUp r = true)
    (hc : cellsOf (s.wireBytes r (s.marked p)) = 1) (ho : s.cellsOk r 1 = true) (ha : s.alphaOk r p.hdr.svc 1 = true) :
    (s.sendPkt p t false).hkt = s.hkt ∧ ∃ l ∈ (s.sendPkt p t false).tms.leaves, l.root = r ∧ l.cls = p.hdr.svc ∧
      ∃ i ∈ l.green, i.work = .pkt (s.marked p) := by
  have on : ∀ u : State, u.portUp r = true → cellsOf (u.wireBytes r (s.marked p)) = 1 → u.cellsOk r 1 = true → u.alphaOk r p.hdr.svc 1 = true →
      u.hkt = s.hkt → (u.sendOn (s.marked p) t false r).hkt = s.hkt ∧
      ∃ l ∈ (u.sendOn (s.marked p) t false r).tms.leaves, l.root = r ∧ l.cls = p.hdr.svc ∧ ∃ i ∈ l.green, i.work = .pkt (s.marked p) := by
    intro u h1 h2 h3 h4 h5
    unfold State.sendOn
    dsimp only
    rw [h2, if_pos (by rw [h1, h3]; exact h4)]
    obtain ⟨l, hl, e1, e2, hi⟩ := tmsPut_queued (u.takeCells 1 1).2.tms.leaves r p.hdr.svc t
      ⟨.pkt (s.marked p), (u.takeCells 1 1).2.chargedLen r ((u.takeCells 1 1).2.wireBytes r (s.marked p)), (u.takeCells 1 1).1, (u.takeCells 1 1).2.dtc⟩
    exact ⟨h5, l, hl, e1, e2, _, hi, rfl⟩
  unfold State.sendPkt
  dsimp only
  rw [if_neg (show ¬(s.marked p).hdr.src = s.mgmtEid from hm)]
  generalize (s.bump (ctrFwd 0 0)).eidEntry (s.marked p).hdr.dst = e
  have hv : ∀ n, ((s.bump (ctrFwd 0 0)).bump (ctrFwd 0 n)).hktPorts (s.marked p).hdr.src (s.marked p).hdr.dst (s.marked p).hdr.path
    (36 + groupOf (s.marked p).hdr.dst) = [r] := fun n => hp
  cases e with
  | none =>
    dsimp only
    rw [hv]
    exact on _ hu hc ho ha rfl
  | some e =>
    dsimp only
    rw [hv]
    exact on _ hu hc ho ha rfl

/-- The answer to a probe on a path, toward a peer without a context. -/
def probeReply (p : HktPkt) (x : ProbeExt) : HktPkt :=
  { hdr := { opcode := 10, flags := {}, svc := p.hdr.svc, path := p.hdr.path, extLen := 2, dst := p.hdr.src, src := p.hdr.dst
             psn := 0, msgId := 0, sendTs := 0, echoTs := p.hdr.sendTs, epoch := 0, unaDelta := 0 }
    ext := .probe ⟨x.id, 1, x.path⟩, ing := { port := 0, srcPort := p.ing.srcPort } }

theorem rxProbe_answers (s b : State) (p : HktPkt) (x : ProbeExt) (hb : s.rxAdmit 10 p = (b, true)) (hk : x.kind = 0)
    (hc : b.ctx p.hdr.dst p.hdr.src = none) : s.rxProbe p x = b.sendPkt (probeReply p x) 4093 false := by
  unfold State.rxProbe
  rw [hb]
  dsimp only
  rw [if_neg (by decide), touchCtx_none b hc, if_pos hk, hc]
  rfl

theorem probeReply_cells (s : State) (p : HktPkt) (x : ProbeExt) (r : Nat) : cellsOf (s.wireBytes r (s.marked (probeReply p x))) = 1 := by
  have hcar : carried (s.marked (probeReply p x)) = 0 := rfl
  have hext : (s.marked (probeReply p x)).hdr.extLen = 2 := rfl
  unfold State.wireBytes pktBytes cellsOf
  rw [hcar, hext]
  split_ifs <;> rfl

/-! ## The statement -/

/-- Settles O10: admission and use leave the context's acknowledgement state (`rxAdmit_ctx`, `touchCtx_ctx`), the acknowledgement sets it
(`onAck_ctx`), and what is sent afterwards keeps it (`Sends`). -/
theorem acknowledgementsTaken : Obligations.AcknowledgementsTaken := by
  unfold Obligations.AcknowledgementsTaken
  refine ⟨fun s h x g c ha hc hu hn => ?_, fun s h x g c ha hc h8 => ?_, fun s h x g c ha hc h1 => ?_, fun s h x g c y r ha hc h1 h8 hy hp hr => ?_,
    fun s b h x g r hb hk hp hup hco hao hm hc => ?_⟩
  · refine ⟨_, rfl, ?_⟩
    obtain ⟨d', hd', ht⟩ := rxAck_acked s (rxPacket 8 h (.ack x) g) x c ha hc
    have hmv : (psnPrecedes c.sndUna x.ackPsn && !psnPrecedes c.sndNxt x.ackPsn) = true := by rw [hu, hn]; rfl
    refine ⟨d', hd', ?_, ht.rwnd, ?_⟩
    · rw [ht.una]
      exact if_pos hmv
    · rw [ht.backoff]
      exact if_pos hmv
  · refine ⟨_, rfl, ?_⟩
    obtain ⟨u, d, path, tight, hd, e⟩ := rxNak_acts s (rxPacket 9 h (.nak x) g) x c (loc := h.dst) (peer := h.src) rfl rfl ha hc
    show ∃ c', (s.rxNak (rxPacket 9 h (.nak x) g) x).ctx h.dst h.src = some c' ∧ _
    rw [e]
    unfold State.nakActs
    rw [if_neg (by rw [h8]; decide), if_pos h8]
    have hw : (u.modCtx h.dst h.src fun c => { c with rnrWait := some x.nakPsn }).ctx h.dst h.src = some { d with rnrWait := some x.nakPsn } :=
      (ctx_modCtx_same u h.dst h.src (fun c => { c with rnrWait := some x.nakPsn }) fun _ => ⟨rfl, rfl⟩).trans (congrArg _ hd)
    obtain ⟨d', hd', hs⟩ := ((sends_pathLoss _ h.dst h.src path).trans (sends_pumped _ h.dst h.src tight)).ctx _ _ _ hw
    exact ⟨d', hd', hs.rnr⟩
  · refine ⟨_, rfl, ?_⟩
    obtain ⟨u, d, path, tight, hd, e⟩ := rxNak_acts s (rxPacket 9 h (.nak x) g) x c (loc := h.dst) (peer := h.src) rfl rfl ha hc
    show ∃ c', (s.rxNak (rxPacket 9 h (.nak x) g) x).ctx h.dst h.src = some c' ∧ _
    rw [e]
    unfold State.nakActs
    rw [if_pos h1]
    obtain ⟨k, hk, hn⟩ := goBack_ends (u.modCtx h.dst h.src fun c => { c with cwnd := ccLoss (u.get HKT_CC_CFG_max_mdf) c.cwnd }) x.nakPsn
      ((ctx_modCtx_same u h.dst h.src (fun c => { c with cwnd := ccLoss (u.get HKT_CC_CFG_max_mdf) c.cwnd }) fun _ => ⟨rfl, rfl⟩).trans
        (congrArg _ hd))
    obtain ⟨d', hd', hs⟩ := ((sends_pathLoss _ h.dst h.src path).trans (sends_pumped _ h.dst h.src tight)).ctx _ _ _ hk
    exact ⟨d', hd', hs.rnr.trans hn⟩
  · refine ⟨_, rfl, ?_⟩
    obtain ⟨u, d, path, tight, _, e⟩ := rxNak_acts s (rxPacket 9 h (.nak x) g) x c (loc := h.dst) (peer := h.src) rfl rfl ha hc
    refine (get_only_in _ _ _ _ _ rfl).trans ?_
    rw [e]
    unfold State.nakActs
    rw [if_neg h1, if_neg h8, hy]
    dsimp only
    have hf : (u.failMessage h.dst h.src y (.nak x.code (pktKey y.pkt))).get EVT_RING_PTR_stalled r = 1 := by
      unfold State.failMessage State.failPurpose
      rw [hp]
      exact (get_set_same _ _ _ _).trans (by decide)
    generalize u.failMessage h.dst h.src y (.nak x.code (pktKey y.pkt)) = v at hf ⊢
    have hall : Within messageW v ((v.pathLoss h.dst h.src path).pumped h.dst h.src tight) :=
      ((within_pathLoss v h.dst h.src path).widen (by decide) (by decide) (by decide)).trans (within_pumped _ h.dst h.src tight)
    exact (hall.regs _ _ rfl).trans hf
  · refine ⟨_, rfl, ?_⟩
    obtain ⟨hw, m, n, hh⟩ := rxAdmit_kept s 10 (rxPacket 10 h (.probe x) g)
    have hx : b.ctx h.dst h.src = none := by
      have := rxAdmit_ctx s 10 (rxPacket 10 h (.probe x) g) h.dst h.src
      rw [hb] at this
      exact this.trans hc
    rw [hb] at hw hh
    have e := rxProbe_answers s b (rxPacket 10 h (.probe x) g) x hb hk hx
    have hq := sendPkt_queued b (probeReply (rxPacket 10 h (.probe x) g) x) 4093 r
      (by rw [show b.mgmtEid = s.mgmtEid by unfold State.mgmtEid State.moduleEid State.moduleId; rw [show b.get _ 0 = _ from hw.regs _ _ rfl]]; exact hm) hp hup (probeReply_cells _ _ _ _) hco hao
    rw [← e] at hq
    obtain ⟨hk', l, hl, h1, h2, i, hi, hwork⟩ := hq
    refine ⟨?_, ?_, ?_⟩
    · show (s.rxProbe (rxPacket 10 h (.probe x) g) x).hkt.ctxs = _
      rw [hk', hh]
    · show (s.rxProbe (rxPacket 10 h (.probe x) g) x).hkt.nextMsg = _
      rw [hk', hh]
    · refine List.any_eq_true.mpr ⟨l, hl, ?_⟩
      rw [Bool.and_eq_true, Bool.and_eq_true]
      refine ⟨⟨decide_eq_true h1, decide_eq_true h2⟩, List.any_eq_true.mpr ⟨i, hi, ?_⟩⟩
      rw [hwork]
      simp [State.marked, probeReply, rxPacket]

end Sys2Proof.Machine
end

section
/-! PROOFS. A packet taken in order is placed: WRITE, READ_REQ, READ_RESP, SEND and DOORBELL (R53, R57, R59, R60, R67, R110). -/

namespace Sys2Proof.Machine

open F

/-! ## A packet opened keeps its header -/

theorem opened_cases (s : State) (p : HktPkt) : s.opened p = p ∨ ∃ l, s.opened p = { p with ext := withPayload p.ext l } := by
  have hu : ∀ slot q, s.openUnder p slot = some q → ∃ l, q = { p with ext := withPayload p.ext l } := fun slot q h => by
    unfold State.openUnder at h
    obtain ⟨k, _, h⟩ := Option.bind_eq_some_iff.mp h
    unfold decryptPkt at h
    obtain ⟨l, _, h⟩ := Option.map_eq_some_iff.mp h
    exact ⟨l, h.symm⟩
  have ht : ∀ slot (r : Nat × HktPkt), ((s.openUnder p slot).map fun q => (slot, q)) = some r → ∃ l, r.2 = { p with ext := withPayload p.ext l } :=
    fun slot r h => by
      obtain ⟨q, hq, e⟩ := Option.map_eq_some_iff.mp h
      obtain ⟨l, hl⟩ := hu slot q hq
      exact ⟨l, by rw [← e, hl]⟩
  unfold State.opened
  split
  · exact .inl rfl
  · next e _ =>
    cases ha : s.authSlot e p with
    | none => exact .inl rfl
    | some r =>
      right
      unfold State.authSlot at ha
      dsimp only at ha
      split at ha
      · exact ht _ r ha
      · rcases hf : (s.openUnder p (s.get KEY_EP_PROT_slot e)).map fun q => (s.get KEY_EP_PROT_slot e, q) with _ | r'
        · rw [hf] at ha
          obtain ⟨x, _, hx⟩ := Option.bind_eq_some_iff.mp ha
          exact ht _ r hx
        · rw [hf] at ha
          cases ha
          exact ht _ r hf

theorem opened_hdr (s : State) (p : HktPkt) : (s.opened p).hdr = p.hdr := by
  rcases opened_cases s p with e | ⟨l, e⟩ <;> rw [e]

/-- An extension without payload is not enciphered. -/
theorem opened_ext (s : State) (p : HktPkt) (h : ∀ l, withPayload p.ext l = p.ext) : (s.opened p).ext = p.ext := by
  rcases opened_cases s p with e | ⟨l, e⟩ <;> rw [e]
  exact h l

/-! ## The answer to what is taken -/

theorem sends_sendAck (s : State) (loc peer : Eid) (a : Answered) : Sends s (s.sendAck loc peer a) := by
  unfold State.sendAck
  split
  · exact .refl s
  · refine .trans ?_ (sends_sendPkt _ _ _ _)
    exact sends_modCtx s loc peer _ (fun _ => ⟨rfl, rfl⟩) fun _ => ⟨rfl, rfl, rfl, rfl, rfl, rfl⟩

theorem within_sendAck (s : State) (loc peer : Eid) (a : Answered) : Within messageW s (s.sendAck loc peer a) := by
  unfold State.sendAck
  split
  · exact .refl _ _
  · exact (within_modCtx s loc peer _ rfl).trans ((within_sendPkt _ _ _ _).widen (by decide) (by decide) (by decide))

theorem answerDue_plain (s : State) (loc peer : Eid) (a : Answered) (w : RxDue) (h : w.naks = []) :
    Sends s (s.answerDue loc peer a w) ∧ Within messageW s (s.answerDue loc peer a w) := by
  unfold State.answerDue
  rw [h]
  dsimp only
  split
  · exact ⟨sends_sendAck _ _ _ _, within_sendAck _ _ _ _⟩
  · split
    · exact ⟨sends_modCtx s loc peer _ (fun _ => ⟨rfl, rfl⟩) fun _ => ⟨rfl, rfl, rfl, rfl, rfl, rfl⟩, within_modCtx s loc peer _ rfl⟩
    · exact ⟨.refl s, .refl _ _⟩

/-! ## A packet taken -/

/-- The context of a packet once its PSN is consumed. -/
def HktCtx.took (c : HktCtx) (p : HktPkt) : HktCtx :=
  { c.consume 0 with msgs := if completes c p then dropMsg (c.consume 0).msgs p else noteMsg (c.consume 0).msgs p
                     sinceAck := (c.consume 0).sinceAck + 1 }

theorem took_fences (c : HktCtx) (p : HktPkt) : (c.took p).fences = c.fences := rfl

theorem took_eids (c : HktCtx) (p : HktPkt) : (c.took p).localEid = c.localEid ∧ (c.took p).peerEid = c.peerEid := ⟨rfl, rfl⟩

/-- The state with the PSN of a packet consumed. -/
def State.tookPsn (s : State) (p : HktPkt) (last : Bool) : State :=
  s.modCtx p.hdr.dst p.hdr.src fun c =>
    { c.consume 0 with msgs := if last then dropMsg (c.consume 0).msgs p else noteMsg (c.consume 0).msgs p, sinceAck := (c.consume 0).sinceAck + 1 }

/-- A context found, changed. -/
theorem ctx_modCtx_found {s : State} {loc peer : Eid} {f : HktCtx → HktCtx} {c : HktCtx} (h : s.ctx loc peer = some c)
    (hf : ∀ c, (f c).localEid = c.localEid ∧ (f c).peerEid = c.peerEid) : (s.modCtx loc peer f).ctx loc peer = some (f c) := by
  rw [ctx_modCtx_same s loc peer f hf, h, Option.map_some]

theorem modCtx_eq (s : State) (loc peer : Eid) (f : HktCtx → HktCtx) : ∃ l, s.modCtx loc peer f = { s with hkt := { s.hkt with ctxs := l } } := by
  unfold State.modCtx
  split <;> exact ⟨_, rfl⟩

theorem tookPsn_ctx {s : State} {p : HktPkt} {c : HktCtx} (h : s.ctx p.hdr.dst p.hdr.src = some c) :
    (s.tookPsn p (completes c p)).ctx p.hdr.dst p.hdr.src = some (c.took p) := by
  exact ctx_modCtx_found h (by intro _; exact ⟨rfl, rfl⟩)

theorem within_tookPsn (s : State) (p : HktPkt) (last : Bool) : Within { parts := [.hkt] } s (s.tookPsn p last) :=
  within_modCtx s _ _ _ rfl

theorem modCtx_queues (s : State) (loc peer : Eid) (f : HktCtx → HktCtx) : SameQueues s (s.modCtx loc peer f) := by
  unfold State.modCtx
  split <;> exact ⟨rfl, rfl, rfl, rfl⟩

theorem reportMsg_kept (s : State) (c : HktCtx) (p : HktPkt) : (s.reportMsg c p).hkt = s.hkt ∧ Within { parts := [.outbox] } s (s.reportMsg c p) := by
  unfold State.reportMsg
  split
  · exact ⟨rfl, .refl _ _⟩
  · exact ⟨rfl, within_send s _ rfl⟩

/-- What is placed of a packet taken and what follows: the report, and the answer, which leave memory and queues. -/
theorem rxData_taken {s b : State} {c : HktCtx} {p o : HktPkt} {op : Nat} (h : Taken s op p o b c)
    (hf : ∀ d, ((b.tookPsn o (completes c o)).placePkt c o (completes c o)).ctx p.hdr.dst p.hdr.src = some d → d.fences = []) :
    (s.rxData op p).mem = ((b.tookPsn o (completes c o)).placePkt c o (completes c o)).mem ∧
    (s.rxData op p).hkt.nextMsg = ((b.tookPsn o (completes c o)).placePkt c o (completes c o)).hkt.nextMsg ∧
    (s.rxData op p).hkt.mgmt = ((b.tookPsn o (completes c o)).placePkt c o (completes c o)).hkt.mgmt ∧
    (s.rxData op p).qpe = ((b.tookPsn o (completes c o)).placePkt c o (completes c o)).qpe := by
  obtain ⟨hadm, hclear, hep, hstate, hctx, hord, hgap, hfence, hplace⟩ := h
  have hh : o.hdr = p.hdr := by rw [hclear, opened_hdr]
  have e1 : s.rxData op p = b.rxPsn o := by
    unfold State.rxData
    rw [← hclear]
    dsimp only
    rw [if_neg (by rw [hadm]; decide), if_pos hep, hstate]
  have hctx' : b.ctx o.hdr.dst o.hdr.src = some c := by rw [hh]; exact hctx
  have e2 : b.rxPsn o = b.rxTake o 0 := by
    have hd : (o.hdr.psn - c.rcvNxt).toNat = 0 := by rw [hh, hord, BitVec.sub_self]; rfl
    unfold State.rxPsn
    dsimp only
    rw [hctx']
    dsimp only
    rw [hd, if_neg (by decide), if_neg (by decide), if_neg (by rw [hgap]; simp), if_neg (by simp)]
  let u : State := (b.tookPsn o (completes c o)).placePkt c o (completes c o)
  let v : State := if completes c o then u.reportMsg c o else u
  have hv : v.hkt = u.hkt ∧ Within { parts := [.outbox] } u v := by
    show (if completes c o then u.reportMsg c o else u).hkt = _ ∧ Within _ u (if completes c o then u.reportMsg c o else u)
    split
    · exact reportMsg_kept u c o
    · exact ⟨rfl, .refl _ _⟩
  obtain ⟨w, e3, hw⟩ : ∃ w : RxDue, b.rxOne o 0 {} = (v, w) ∧ w.naks = [] := by
    unfold State.rxOne
    dsimp only
    rw [hctx']
    dsimp only
    rw [hplace]
    exact ⟨_, rfl, rfl⟩
  have e4 : State.releaseFences 33 v o.hdr.dst o.hdr.src w = (v, w) := by
    rw [State.releaseFences]
    cases hx : v.ctx o.hdr.dst o.hdr.src with
    | none => rfl
    | some d =>
      dsimp only
      have hd : d.fences = [] := hf d (by rw [← hh, ← hx, State.ctx, State.ctx, hv.1])
      rw [hd]
      rfl
  have e5 : b.rxTake o 0 = v.sameMem (v.answerDue o.hdr.dst o.hdr.src (answeredOf o) w) := by
    unfold State.rxTake
    dsimp only
    rw [e3, e4]
  obtain ⟨hs, hwi⟩ := answerDue_plain v o.hdr.dst o.hdr.src (answeredOf o) w hw
  rw [e1, e2, e5]
  refine ⟨hv.2.mem rfl, ?_, ?_, (hwi.qpe rfl).trans (hv.2.qpe rfl)⟩
  · exact hs.nextMsg.trans (by rw [hv.1])
  · exact hs.mgmt.trans (by rw [hv.1])

theorem taken_mem {s b : State} {c : HktCtx} {p o : HktPkt} {op : Nat} (h : Taken s op p o b c) : b.mem = s.mem := by rw [h.state]; rfl

theorem taken_ctx {s b : State} {c : HktCtx} {p o : HktPkt} {op : Nat} (h : Taken s op p o b c) :
    (b.tookPsn o (completes c o)).ctx p.hdr.dst p.hdr.src = some (c.took o) ∧ (c.took o).fences = [] := by
  have hh : o.hdr = p.hdr := by rw [h.clear, opened_hdr]
  have := tookPsn_ctx (s := b) (p := o) (c := c) (by rw [hh]; exact h.ctx)
  rw [hh] at this
  exact ⟨this, h.noFence⟩

theorem tookPsn_region (s : State) (p : HktPkt) (last : Bool) (k : Nat) : (s.tookPsn p last).region k = s.region k := by
  unfold State.tookPsn
  obtain ⟨l, e⟩ := modCtx_eq s p.hdr.dst p.hdr.src fun c =>
    { c.consume 0 with msgs := if last then dropMsg (c.consume 0).msgs p else noteMsg (c.consume 0).msgs p, sinceAck := (c.consume 0).sinceAck + 1 }
  rw [e]
  rfl

/-! ## Memory written -/

/-- A byte at another address reads as before, whatever the form of the memory. -/
theorem memRead_memWrite_other (m : List Host.Cell) {a b : Nat} (v : Byte) (h : b ≠ a) : memRead (memWrite m a v) b = memRead m b := by
  induction m with
  | nil =>
    rw [memWrite]
    split
    · rfl
    · simp only [memRead, if_neg (Ne.symm h)]
  | cons c t ih =>
    obtain ⟨x, w⟩ := c
    rw [memWrite]
    split
    · split
      · rfl
      · rw [memRead, if_neg (Ne.symm h)]
    · split
      · next hx =>
        subst hx
        split
        · rw [memRead, if_neg (Ne.symm h)]
        · rw [memRead, if_neg (Ne.symm h), memRead, if_neg (Ne.symm h)]
      · rw [memRead, memRead, ih]

theorem memRead_memWriteBytes_other (l : List Byte) (m : List Host.Cell) (a b : Nat) (h : b < a ∨ a + l.length ≤ b) :
    memRead (memWriteBytes m a l) b = memRead m b := by
  induction l generalizing m a with
  | nil => rfl
  | cons v l ih =>
    rw [List.length_cons] at h
    rw [memWriteBytes, ih _ _ (by omega), memRead_memWrite_other _ _ (by omega)]

/-! ## A message on a context that stands -/

theorem sendMsg_ctx (s : State) {loc peer : Eid} {c : HktCtx} (b : MsgBody) (f n : Bool) (v : Nat) (u : Purpose) (h : s.ctx loc peer = some c) :
    ∃ d, (s.sendMsg loc peer b f n v u).ctx loc peer = some d ∧ SameAcks c d := by
  have hloc := ctx_of_mem h
  unfold State.sendMsg
  dsimp only
  split
  · exact ⟨c, h, .refl c⟩
  · have hn : ∃ k t, ({ s with hkt := { s.hkt with nextMsg := s.hkt.nextMsg + 1 } } : State).needCtx loc peer = some ({ c with spilled := k }, t) ∧
        t.ctx loc peer = some { c with spilled := k } := by
      have hf : ctxFind s.hkt.ctxs loc peer = some c := h
      unfold State.needCtx
      dsimp only
      rw [hf]
      dsimp only
      have hhead : ∀ (d : HktCtx) (l : List HktCtx), d.localEid = loc → d.peerEid = peer → ctxFind (d :: l) loc peer = some d :=
        fun d l e1 e2 => by rw [ctxFind, List.find?_cons_of_pos (by simp [e1, e2])]
      cases hs : c.spilled
      · rw [if_neg (by decide)]
        exact ⟨c.spilled, _, rfl, hhead _ _ hloc.1 hloc.2⟩
      · rw [if_pos rfl]
        split
        · exact ⟨c.spilled, _, rfl, hf⟩
        · exact ⟨false, _, rfl, hhead _ _ hloc.1 hloc.2⟩
    obtain ⟨k, t, hn, ht⟩ := hn
    rw [hn]
    dsimp only
    have hp := (sends_putFound ht rfl rfl ⟨rfl, rfl, rfl, rfl, rfl, rfl⟩ : Sends t (t.putCtx { c with spilled := k, unsent := c.unsent ++
      [{ msgId := s.hkt.nextMsg, body := b, fence := f, notify := n, svc := v, purpose := u }] })).trans (sends_pump _ loc peer)
    obtain ⟨d, hd, hs⟩ := hp.ctx _ _ _ ht
    exact ⟨d, hd, ⟨hs.una, hs.rwnd, hs.backoff, hs.rnr, hs.rcv, hs.fences⟩⟩

/-! ## A message in one part -/

theorem assemble_whole (d : List Byte) : assemble [(0, d)] d.length = d := by
  unfold assemble
  refine List.ext_getElem (by simp) fun j h1 h2 => ?_
  rw [List.getElem_map, List.getElem_range]
  have hf : ([(0, d)] : Table Nat (List Byte)).find? (fun x => decide (x.1 ≤ j) && decide (j < x.1 + x.2.length)) = some (0, d) := by
    rw [List.find?_cons_of_pos (by simpa using h2)]
  rw [hf]
  simp [List.getD_eq_getElem?_getD, h2]

theorem find_notePart {l : List OutRead} {id : Word32} {r : OutRead} (o : Nat) (b : List Byte) (h : (l.find? fun r => r.msgId = id) = some r) :
    ((notePart l id o b).find? fun r => r.msgId = id) = some { r with got := tput r.got o b, back := true } := by
  induction l with
  | nil => simp at h
  | cons a l ih =>
    unfold notePart at ih ⊢
    rw [List.map_cons]
    by_cases e : a.msgId = id
    · rw [List.find?_cons_of_pos (by simp [e])] at h
      cases h
      rw [if_pos e, List.find?_cons_of_pos (by simp [e])]
    · rw [List.find?_cons_of_neg (by simp [e])] at h
      rw [if_neg e, List.find?_cons_of_neg (by simp [e])]
      exact ih h

/-! ## A response to a fetch -/

theorem readBack_fetch (s : State) (r : OutRead) {n : Nat} {q : Qp} {f : Fetch} {l : List Fetch} (hp : r.purpose = .sqeFetch n) (hq : s.qp n = some q)
    (hf : q.fetches = f :: l) : (s.readBack r).hkt = s.hkt ∧ ∃ q', (s.readBack r).qp n = some q' ∧ ∃ f', q'.fetches = f' :: l := by
  unfold State.readBack
  rw [hp]
  exact ⟨rfl, _, qp_modQp_same s n _ hq, by rw [hf]; exact ⟨_, rfl⟩⟩

theorem readDone_fetch (s : State) (r : OutRead) {n : Nat} {q : Qp} {f : Fetch} {l : List Fetch} (hp : r.purpose = .sqeFetch n) (hq : s.qp n = some q)
    (hf : q.fetches = f :: l) : (s.readDone r).hkt = s.hkt ∧ ∃ q', (s.readDone r).qp n = some q' ∧
      q'.fetches = { f with bytes := some (assemble r.got r.len) } :: l := by
  unfold State.readDone
  dsimp only
  rw [hp]
  exact ⟨rfl, _, qp_modQp_same s n _ hq, by rw [hf]⟩

/-- A response of one part that completes the read of a submission queue entry gives the oldest fetch its bytes. -/
theorem placePkt_fetched (s : State) (c d : HktCtx) (p : HktPkt) (last : Bool) (y : ReadRespExt) (r : OutRead) {n : Nat} {q : Qp} {f : Fetch}
    {l : List Fetch} (hy : p.ext = .readResp y) (hr : (c.reads.find? fun r => r.msgId = p.hdr.msgId) = some r) (hg : r.got = [])
    (hl : r.len = y.payload.length) (ho : y.offset = 0) (hp : r.purpose = .sqeFetch n) (hq : s.qp n = some q) (hf : q.fetches = f :: l)
    (hd : s.ctx p.hdr.dst p.hdr.src = some d) (hdr : d.reads = c.reads) (hdf : d.fences = []) :
    (s.placePkt c p last).mem = s.mem ∧ (∀ d, (s.placePkt c p last).ctx p.hdr.dst p.hdr.src = some d → d.fences = []) ∧
    ((s.placePkt c p last).qp n).map (fun q => q.fetches.map (·.bytes)) = some (some y.payload :: l.map (·.bytes)) := by
  obtain ⟨u, hum, huk, q', huq, f', huf, e⟩ : ∃ u : State, u.mem = s.mem ∧ u.hkt = s.hkt ∧ ∃ q', u.qp n = some q' ∧ ∃ f', q'.fetches = f' :: l ∧
      s.placePkt c p last =
        (let v := u.modCtx p.hdr.dst p.hdr.src fun c => { c with reads := notePart c.reads p.hdr.msgId y.offset y.payload }
         match v.ctx p.hdr.dst p.hdr.src with
         | none => v
         | some c' =>
           match c'.reads.find? fun r => r.msgId = p.hdr.msgId with
           | none => v
           | some r =>
             if covered r.got < r.len then v
             else v.sameMem ((v.modCtx p.hdr.dst p.hdr.src fun c => { c with reads := c.reads.filter fun r => r.msgId != p.hdr.msgId }).readDone r)) := by
    unfold State.placePkt
    rw [hy]
    dsimp only
    rw [show c.readOf p = some r from hr]
    dsimp only
    cases hb : r.back
    · obtain ⟨hk, q', hq', f', hf'⟩ := readBack_fetch s r hp hq hf
      exact ⟨s.sameMem (s.readBack r), rfl, hk, q', hq', f', hf', rfl⟩
    · exact ⟨s.sameMem s, rfl, rfl, q, hq, f, hf, rfl⟩
  have hv : (u.modCtx p.hdr.dst p.hdr.src fun c => { c with reads := notePart c.reads p.hdr.msgId y.offset y.payload }).ctx p.hdr.dst p.hdr.src =
      some { d with reads := notePart c.reads p.hdr.msgId y.offset y.payload } := by
    have hud : u.ctx p.hdr.dst p.hdr.src = some d := by
      rw [State.ctx, huk]
      exact hd
    rw [← hdr]
    exact ctx_modCtx_found hud (by intro _; exact ⟨rfl, rfl⟩)
  have hw := within_modCtx (w := { parts := [.hkt] }) u p.hdr.dst p.hdr.src
    (fun c => { c with reads := notePart c.reads p.hdr.msgId y.offset y.payload }) rfl
  generalize (u.modCtx p.hdr.dst p.hdr.src fun c => { c with reads := notePart c.reads p.hdr.msgId y.offset y.payload }) = v at e hv hw
  dsimp only at e
  rw [hv] at e
  dsimp only at e
  rw [find_notePart y.offset y.payload hr] at e
  dsimp only at e
  have hgot : tput r.got y.offset y.payload = [(0, y.payload)] := by rw [hg, ho]; rfl
  rw [hgot, hl, if_neg (by simp [covered])] at e
  have hvq : (v.modCtx p.hdr.dst p.hdr.src fun c => { c with reads := c.reads.filter fun r => r.msgId != p.hdr.msgId }).qp n = some q' := by
    rw [State.qp, (within_modCtx (w := { parts := [.hkt] }) v _ _ _ rfl).qpe rfl, hw.qpe rfl]
    exact huq
  obtain ⟨hk, q2, hq2, hf2⟩ := readDone_fetch _ { r with got := [(0, y.payload)], len := y.payload.length, back := true } (n := n) hp hvq huf
  rw [e]
  refine ⟨(hw.mem rfl).trans hum, fun d' hd' => ?_, ?_⟩
  · have hd'' : (v.modCtx p.hdr.dst p.hdr.src fun c => { c with reads := c.reads.filter fun r => r.msgId != p.hdr.msgId }).ctx p.hdr.dst p.hdr.src = some d' := by
      rw [← hd']
      unfold State.ctx
      exact congrArg (fun h : Hkt => ctxFind h.ctxs p.hdr.dst p.hdr.src) hk.symm
    cases (ctx_modCtx_found hv (by intro _; exact ⟨rfl, rfl⟩)).symm.trans hd''
    exact hdf
  · show Option.map _ (State.qp _ n) = _
    refine (congrArg (Option.map _) hq2).trans ?_
    rw [Option.map_some, hf2]
    exact congrArg (fun a => some (some a :: _)) (assemble_whole _)

/-- A READ_REQ is answered by one message and leaves memory. -/
theorem placePkt_answers (s : State) (c d : HktCtx) (p : HktPkt) (last : Bool) (x : ReadReqExt) (hx : p.ext = .readReq x)
    (hd : s.ctx p.hdr.dst p.hdr.src = some d) (hdf : d.fences = []) :
    (s.placePkt c p last).mem = s.mem ∧ (∀ d, (s.placePkt c p last).ctx p.hdr.dst p.hdr.src = some d → d.fences = []) ∧
    (s.placePkt c p last).hkt.nextMsg = s.hkt.nextMsg + 1 := by
  obtain ⟨a, e⟩ : ∃ data, s.placePkt c p last = s.sameMem ((s.modCtx p.hdr.dst p.hdr.src fun c =>
      { c with answering := c.answering ++ [p.hdr.msgId] }).sendMsg p.hdr.dst p.hdr.src (.readResp p.hdr.msgId data) false false p.hdr.svc .readAnswer) := by
    unfold State.placePkt
    rw [hx]
    exact ⟨_, rfl⟩
  have hmod : (s.modCtx p.hdr.dst p.hdr.src fun c => { c with answering := c.answering ++ [p.hdr.msgId] }).ctx p.hdr.dst p.hdr.src =
      some { d with answering := d.answering ++ [p.hdr.msgId] } := ctx_modCtx_found hd (by intro _; exact ⟨rfl, rfl⟩)
  have hnext := (modCtx_queues s p.hdr.dst p.hdr.src fun c => { c with answering := c.answering ++ [p.hdr.msgId] }).nextMsg
  rw [e]
  generalize (s.modCtx p.hdr.dst p.hdr.src fun c => { c with answering := c.answering ++ [p.hdr.msgId] }) = u at hmod hnext ⊢
  obtain ⟨d', hd', hs⟩ := sendMsg_ctx u (.readResp p.hdr.msgId a) false false p.hdr.svc .readAnswer hmod
  have hm := sendMsg_nextMsg u p.hdr.dst p.hdr.src (.readResp p.hdr.msgId a) false false p.hdr.svc .readAnswer 4093 false (keyRevoking_zero u)
  refine ⟨rfl, fun d'' hd'' => ?_, ?_⟩
  · cases hd'.symm.trans hd''
    exact hs.fences.trans hdf
  · exact hm.trans (by rw [hnext])

/-! ## The statement -/

/-- Settles O9: what is taken is placed by the packet's opcode, and what follows leaves memory and queues (`rxData_taken`). -/
theorem packetsTaken : Obligations.PacketsTaken := by
  unfold Obligations.PacketsTaken
  refine ⟨fun s b c h x g o y ht hy => ?_, fun s b c h x g o ht => ?_, fun s b c h x g o y r n q f l ht hy hr hg hl ho hp hq hf => ?_,
    fun s b c h x g o y ht hy hs hp ho hl hm => ?_, fun s b c h x g o q ht hq ha hring hv hpos => ?_⟩
  · refine ⟨_, rfl, ?_⟩
    obtain ⟨hc, hcf⟩ := taken_ctx ht
    have e : (b.tookPsn o (completes c o)).placePkt c o (completes c o) =
        if (b.region (keyIndex y.key)).host then b.tookPsn o (completes c o)
        else { b.tookPsn o (completes c o) with
          mem := memWriteBytes (b.tookPsn o (completes c o)).mem ((b.region (keyIndex y.key)).basePage * 4096 + y.offset) y.payload } := by
      unfold State.placePkt
      rw [hy]
      dsimp only
      rw [tookPsn_region]
    have hbm : (b.tookPsn o (completes c o)).mem = s.mem := ((within_tookPsn b o _).mem rfl).trans (taken_mem ht)
    obtain ⟨hmem, _⟩ := rxData_taken ht (by
      rw [e]
      split <;>
      · intro d hd
        cases hc.symm.trans hd
        exact hcf)
    rw [e] at hmem
    have hin : (b.region (keyIndex y.key)).host = false →
        (s.rxData 1 (rxPacket 1 h (.write x) g)).mem = memWriteBytes s.mem ((b.region (keyIndex y.key)).basePage * 4096 + y.offset) y.payload := by
      intro hr
      rw [hmem, if_neg (by rw [hr]; decide), hbm]
    have hout : (b.region (keyIndex y.key)).host = true → (s.rxData 1 (rxPacket 1 h (.write x) g)).mem = s.mem := by
      intro hr
      rw [hmem, if_pos hr, hbm]
    refine ⟨hin, hout, fun a hab => ?_⟩
    show memRead (s.rxData 1 (rxPacket 1 h (.write x) g)).mem a = _
    cases hr : (b.region (keyIndex y.key)).host
    · rw [hin hr, memRead_memWriteBytes_other _ _ _ _ hab]
    · rw [hout hr]
  · refine ⟨_, rfl, ?_⟩
    have hh : o.hdr = (rxPacket 2 h (.readReq x) g).hdr := by rw [ht.clear, opened_hdr]
    have hext : o.ext = .readReq x := by
      rw [ht.clear]
      exact opened_ext s _ fun l => rfl
    obtain ⟨hc, hcf⟩ := taken_ctx ht
    obtain ⟨h1, h2, h3⟩ := placePkt_answers (b.tookPsn o (completes c o)) c (c.took o) o (completes c o) x hext (by rw [hh]; exact hc) hcf
    rw [hh] at h2
    obtain ⟨hmem, hnext, _⟩ := rxData_taken ht h2
    exact ⟨hmem.trans (h1.trans (((within_tookPsn b o _).mem rfl).trans (taken_mem ht))),
      hnext.trans (h3.trans (congrArg (· + 1) (modCtx_queues b _ _ _).nextMsg))⟩
  · refine ⟨_, rfl, ?_⟩
    have hh : o.hdr = (rxPacket 3 h (.readResp x) g).hdr := by rw [ht.clear, opened_hdr]
    obtain ⟨hc, hcf⟩ := taken_ctx ht
    obtain ⟨h1, h2, h3⟩ := placePkt_fetched (b.tookPsn o (completes c o)) c (c.took o) o (completes c o) y r hy
      (by rw [hh]; exact hr) hg hl ho hp ((congrArg (fun e : Qpe => tget e.qps n) ((within_tookPsn b o _).qpe rfl)).trans hq) hf
      (by rw [hh]; exact hc) rfl hcf
    rw [hh] at h2
    obtain ⟨hmem, _, _, hqpe⟩ := rxData_taken ht h2
    refine ⟨hmem.trans (h1.trans (((within_tookPsn b o _).mem rfl).trans (taken_mem ht))), ?_⟩
    show Option.map _ ((s.rxData 3 (rxPacket 3 h (.readResp x) g)).qp n) = _
    rw [State.qp, hqpe]
    exact h3
  · refine ⟨_, rfl, ?_⟩
    have hh : o.hdr = (rxPacket 4 h (.send x) g).hdr := by rw [ht.clear, opened_hdr]
    obtain ⟨hc, hcf⟩ := taken_ctx ht
    have hm' : msgOf c.msgs o = none := by rw [hm]; rfl
    have hlast : completes c o = true := by
      unfold completes extFrame
      rw [hy]
      dsimp only
      rw [hm', hp]
      rfl
    have e : (b.tookPsn o (completes c o)).placePkt c o (completes c o) = (b.tookPsn o (completes c o)).sameMem
        { b.tookPsn o (completes c o) with hkt := { (b.tookPsn o (completes c o)).hkt with
            mgmt := (b.tookPsn o (completes c o)).hkt.mgmt ++ [(h.src, h.dst, y.payload)] } } := by
      unfold State.placePkt
      rw [hy]
      dsimp only
      rw [hlast, hm', ho, hl]
      unfold State.deliver
      dsimp only [List.nil_append]
      rw [if_neg (by decide), assemble_whole, hs, if_neg (by decide), if_pos rfl, hh]
      rfl
    obtain ⟨_, _, hmg, _⟩ := rxData_taken ht (by
      rw [e]
      intro d hd
      cases hc.symm.trans hd
      exact hcf)
    refine hmg.trans ?_
    rw [e]
    exact congrArg (· ++ _) (modCtx_queues b _ _ _).mgmt
  · refine ⟨_, rfl, ?_⟩
    have hext : o.ext = .doorbell x := by
      rw [ht.clear]
      exact opened_ext s _ fun l => rfl
    obtain ⟨hc, hcf⟩ := taken_ctx ht
    have hq' : (b.tookPsn o (completes c o)).qp x.qpn = some q := (congrArg (fun e : Qpe => tget e.qps x.qpn) ((within_tookPsn b o _).qpe rfl)).trans hq
    have hbell := doorbell_head (b.tookPsn o (completes c o)) x.qpn (x.value % 65536) q hq' ha hv hpos
    have hk : ((b.tookPsn o (completes c o)).doorbell x.qpn 1 (x.value % 65536)).hkt = (b.tookPsn o (completes c o)).hkt := by
      unfold State.doorbell
      rw [hq']
      dsimp only
      rw [if_neg (by simp [ha]), if_neg (by decide), if_pos rfl, if_neg (by simp; omega)]
      rfl
    have e : (b.tookPsn o (completes c o)).placePkt c o (completes c o) =
        (b.tookPsn o (completes c o)).sameMem ((b.tookPsn o (completes c o)).doorbell x.qpn 1 (x.value % 65536)) := by
      unfold State.placePkt
      rw [hext]
      dsimp only
      rw [hring]
    obtain ⟨_, _, _, hqpe⟩ := rxData_taken ht (by
      rw [e]
      intro d hd
      have : (b.tookPsn o (completes c o)).ctx (rxPacket 5 h (.doorbell x) g).hdr.dst (rxPacket 5 h (.doorbell x) g).hdr.src = some d := by
        rw [← hd]
        exact congrArg (fun h : Hkt => ctxFind h.ctxs _ _) hk.symm
      cases hc.symm.trans this
      exact hcf)
    show Option.map _ ((s.rxData 5 (rxPacket 5 h (.doorbell x) g)).qp x.qpn) = _
    rw [State.qp, hqpe, e]
    exact congrArg (Option.map _) hbell

end Sys2Proof.Machine
end

section
/-! PROOFS. Support: a member fails, joins and is looked at anew; commands that wait on the drive root. -/

namespace Sys2Proof.Machine

open F

/-! ## Commands that wait -/

theorem waitingOf_nil {s : State} {x : Nat} : s.waitingOf x = [] ↔
    ∀ l ∈ s.tms.leaves, l.root = 34 → ∀ i ∈ l.green ++ l.yellow, ∀ c, i.work = .drive c → c.member ≠ x := by
  have hi : ∀ i : TmsItem, (match i.work with | .drive c => if c.member = x then some c else none | _ => none) = none ↔
      ∀ c, i.work = .drive c → c.member ≠ x := fun i => by
    constructor
    · intro h c hc hm
      rw [hc] at h
      simp [hm] at h
    · intro h
      split
      · next c hc => exact if_neg (h c hc)
      · rfl
  rw [State.waitingOf, List.flatMap_eq_nil_iff]
  constructor
  · intro h l hl hr i him
    exact (hi i).mp (List.filterMap_eq_nil_iff.mp (h l (List.mem_filter.mpr ⟨hl, decide_eq_true hr⟩)) i him)
  · intro h l hl
    obtain ⟨hl, hr⟩ := List.mem_filter.mp hl
    exact List.filterMap_eq_nil_iff.mpr fun i him => (hi i).mpr (h l hl (of_decide_eq_true hr) i him)

/-- An item put on a root: a leaf holds what it held, and the item. -/
theorem mem_tmsPut {l : List TmsLeaf} {root cls tenant : Nat} {y : Bool} {i : TmsItem} {x : TmsLeaf} (h : x ∈ tmsPut l root cls tenant y i) :
    ∀ j ∈ x.green ++ x.yellow, j = i ∨ ∃ k ∈ l, k.root = x.root ∧ j ∈ k.green ++ k.yellow := by
  intro j hj
  unfold tmsPut at h
  split at h
  · obtain ⟨k, hk, e⟩ := List.mem_map.mp h
    split at e
    · split at e
      · subst e
        simp only [List.mem_append, List.mem_singleton] at hj
        rcases hj with hj | hj | hj
        · exact .inr ⟨k, hk, rfl, List.mem_append_left _ hj⟩
        · exact .inr ⟨k, hk, rfl, List.mem_append_right _ hj⟩
        · exact .inl hj
      · subst e
        simp only [List.mem_append, List.mem_singleton] at hj
        rcases hj with (hj | hj) | hj
        · exact .inr ⟨k, hk, rfl, List.mem_append_left _ hj⟩
        · exact .inl hj
        · exact .inr ⟨k, hk, rfl, List.mem_append_right _ hj⟩
    · subst e
      exact .inr ⟨k, hk, rfl, hj⟩
  · rcases List.mem_append.mp h with h | h
    · exact .inr ⟨x, h, rfl, hj⟩
    · obtain rfl := List.mem_singleton.mp h
      left
      cases y <;> simpa using hj

/-- A command queued to another member does not wait for this one. -/
theorem waitingOf_driveQueue_other (s : State) (c : DriveCmd) (t : Nat) {x : Nat} (hx : c.member ≠ x) (h : s.waitingOf x = []) :
    (s.driveQueue c t).waitingOf x = [] := by
  rw [waitingOf_nil] at h ⊢
  have e : ∃ i : TmsItem, i.work = .drive c ∧ (s.driveQueue c t).tms.leaves = tmsPut s.tms.leaves 34 (s.tenantClass t) t false i := by
    unfold State.driveQueue
    dsimp only
    rw [if_neg (by decide)]
    exact ⟨_, rfl, rfl⟩
  obtain ⟨i, hi, e⟩ := e
  rw [e]
  intro l hl hr j hj d hd
  rcases mem_tmsPut hl j hj with rfl | ⟨k, hk, hkr, hjk⟩
  · rw [hi] at hd
    cases hd
    exact hx
  · exact h k hk (hkr.trans hr) j hjk d hd

theorem waitingOf_congr {s t : State} (h : t.tms = s.tms) (x : Nat) : t.waitingOf x = s.waitingOf x := by
  rw [State.waitingOf, State.waitingOf, h]

theorem waitingOf_unqueue {s : State} (p : DriveCmd → Bool) {x : Nat} (h : s.waitingOf x = []) : (s.unqueue p).waitingOf x = [] := by
  rw [waitingOf_nil] at h ⊢
  intro l hl hr i hi c hc
  obtain ⟨k, hk, hkr, hs⟩ := mem_unqueue hl hr
  exact h k hk hkr i (hs i hi).1 c hc

/-! ## Labels -/

theorem within_writeLabels (s : State) (l : DriveLabel) : Within { parts := [.ctr, .tms, .jnl] } s (s.writeLabels l) :=
  (within_jnl s _ rfl).trans (within_each _ _ _ fun s _ => ((within_driveQueue s _ _ _ _).widen (by decide) (by decide) (by decide)).trans (within_bump _ _ _ rfl))

theorem writeLabels_label (s : State) (l : DriveLabel) : (s.writeLabels l).jnl.media.label = some l := by
  unfold State.writeLabels
  dsimp only
  rw [(within_each (w := { parts := [.ctr, .tms] }) _ _ _ fun s x =>
    ((within_driveQueue s _ _ _ _).widen (by decide) (by decide) (by decide)).trans (within_bump _ _ _ rfl)).jnl rfl]

theorem writeLabels_waitingOf (s : State) (l : DriveLabel) {x : Nat} (hl : s.live x = false) (h : s.waitingOf x = []) :
    (s.writeLabels l).waitingOf x = [] := by
  have key : ∀ (m : List Nat) (u : State), (∀ y ∈ m, y ≠ x) → u.waitingOf x = [] → (u.each m fun s x =>
      (s.driveQueue ⟨x, .label { l with member := x }, if l.seq % 2 = 1 then 0 else 2048, 1⟩ 4093).bump (ctrDrv x 14)).waitingOf x = [] := fun m => by
    induction m with
    | nil => exact fun u _ h => h
    | cons y m ih =>
      intro u hm hu
      exact ih _ (fun z hz => hm z (List.mem_cons_of_mem _ hz)) (waitingOf_driveQueue_other u _ _ (hm y List.mem_cons_self) hu)
  refine key _ _ (fun y hy e => ?_) h
  subst e
  obtain ⟨_, hy⟩ := List.mem_filter.mp hy
  have hy' : s.live y = true := hy
  rw [hl] at hy'
  cases hy'

/-! ## The pool looked at anew -/

/-- What a change of the members writes. -/
def membersW : Writes := { parts := [.evt, .ctr, .str], fields := [STR_GROUP_STATUS_k_cap, STR_GROUP_STATUS_k_cur, STR_GROUP_STATUS_blocked,
  STR_POOL_STATUS_calve_level] }

theorem within_groupsCheck (s : State) : Within membersW s s.groupsCheck := by
  refine within_each _ _ _ fun s g => ?_
  dsimp only
  have hs : Within membersW s (((s.set STR_GROUP_STATUS_k_cap g (s.kCap g)).set STR_GROUP_STATUS_k_cur g
      (s.kCur g)).set STR_GROUP_STATUS_blocked g (bit (s.groupBlocked g))) :=
    ((within_set s _ _ _ rfl).trans (within_set _ _ _ _ rfl)).trans (within_set _ _ _ _ rfl)
  refine within_ite _ (fun _ => (hs.trans (within_enter _ _ rfl)).trans (within_raise _ _ _ _ _ rfl rfl)) fun _ =>
    within_ite _ (fun _ => hs) fun _ => hs.trans (within_leave _ _ rfl)

theorem within_calveCheck (s : State) : Within membersW s s.calveCheck := by
  unfold State.calveCheck
  extract_lets start urgent stop f cur thr stays lev u v
  have h : Within membersW s v := (within_set s _ _ _ rfl).trans (within_ite _ (fun _ => within_raise _ _ _ _ _ rfl rfl) fun _ => .refl _ _)
  exact within_ite _ (fun _ => h.trans (within_raise _ _ _ _ _ rfl rfl)) fun _ => h

theorem within_membersChanged (s : State) : Within membersW s s.membersChanged :=
  ((within_ite _ (fun _ => .refl _ _) fun _ => within_str s _ rfl : Within membersW s s.rebuildTables).trans (within_groupsCheck _)).trans (within_calveCheck _)

theorem within_restoreStop (s : State) (i : Nat) : Within { parts := [.tms, .drv, .reb] } s (s.restoreStop i) :=
  within_ite _ (fun _ => .refl _ _) fun _ => ((within_tms s _ rfl).trans (within_drv _ _ rfl)).trans (within_reb _ _ rfl)

theorem within_reorder (s : State) : Within { parts := [.tms, .drv, .reb] } s s.reorder := by
  refine within_each _ _ _ fun s (e : Nat × Restore) => ?_
  dsimp only
  split
  · exact within_restoreStop _ _
  · exact within_ite _ (fun _ => .refl _ _) fun _ => within_ite _ (fun _ => .refl _ _) fun _ => within_restoreStop _ _

theorem within_grantsFit (s : State) : Within pairW s s.grantsFit :=
  within_ite _ (fun _ => .refl _ _) fun _ => (within_pair s _ rfl).trans (within_each _ _ _ fun s _ => pairSend_pairW s _)

/-! ## Turning off the slot of a member -/

theorem within_slotTurnOff (s : State) (x cause : Nat) (hc : ∀ d ∈ (s.port x).cmds, d.gone = true) (hw : s.waitingOf x = []) :
    Within offW s (s.slotTurnOff x cause) := by
  unfold State.slotTurnOff
  refine within_ite _ (fun _ => .refl _ _) fun _ => within_ite _ (fun _ => within_slt s _ rfl) fun _ => ?_
  obtain ⟨_, _, w⟩ := slotCut_after s x hc hw
  exact ((((w.widen (by decide) (by decide) (by decide)).trans (within_slt _ _ rfl)).trans (within_set _ SLT_CH_STATUS_cause x cause rfl)).trans
    (within_set _ SLT_CH_STATUS_state x 2 rfl)).trans ((slotReport_pairW _ x).widen (by decide) (by decide) (by decide))

theorem within_rebCheck (s : State) : Within { parts := [.evt, .ctr, .reb], fields := [REB_STATUS_state, REB_STATUS_seg_done] } s s.rebCheck := by
  unfold State.rebCheck
  refine within_ite _ (fun _ => ?_) fun _ => within_ite _ (fun _ => .refl _ _) fun _ => ?_
  · extract_lets idle
    exact (within_set s _ _ _ rfl : Within _ s idle).trans (within_ite _ (fun _ => (((within_reb _ _ rfl).trans (within_raise _ _ _ _ _ rfl rfl)).trans
      (within_leave _ _ rfl)).trans (within_leave _ _ rfl)) fun _ => .refl _ _)
  · exact (((within_reb s _ rfl).trans (within_set _ _ _ _ rfl)).trans (within_set _ _ _ _ rfl)).trans (within_enter _ _ rfl)

/-! ## A member fails -/

/-- The frame number expected next from the partner is as it was. -/
def SameRx (s t : State) : Prop := t.pair.rxNext = s.pair.rxNext

theorem SameRx.trans {s t u : State} (h : SameRx s t) (k : SameRx t u) : SameRx s u := Eq.trans k h

theorem SameRx.of_pair {s t : State} (h : t.pair = s.pair) : SameRx s t := congrArg Pair.rxNext h

theorem SameRx.each {α : Type} (l : List α) (f : State → α → State) (s : State) (h : ∀ s a, SameRx s (f s a)) : SameRx s (s.each l f) := by
  induction l generalizing s with
  | nil => rfl
  | cons a l ih => exact (h s a).trans (ih _)

theorem sameRx_pairSend (s : State) (m : PairMsg) : SameRx s (s.pairSend m) := pairSend_rxNext s m

theorem sameRx_setCh (s : State) (x v : Nat) : SameRx s (s.setCh x v) := by
  unfold State.setCh State.slotReport
  split
  · exact sameRx_pairSend _ _
  · rfl

theorem sameRx_slotTurnOff (s : State) (x cause : Nat) (hc : ∀ d ∈ (s.port x).cmds, d.gone = true) (hw : s.waitingOf x = []) :
    SameRx s (s.slotTurnOff x cause) := by
  unfold State.slotTurnOff
  split
  · rfl
  · split
    · rfl
    · obtain ⟨_, _, w⟩ := slotCut_after s x hc hw
      dsimp only
      generalize s.slotCut x = u at w ⊢
      exact SameRx.trans (.of_pair (w.pair rfl)) (sameRx_setCh _ _ _)

/-- What the end of a failed member's work writes: its commands, the labels without it, its slot. -/
def failOffW : Writes := { parts := [.ctr, .tms, .drv, .slt, .jnl, .pair, .outbox], fields := offW.fields }

/-- What the failure of a member sets going afterwards. -/
def failToldW : Writes := { parts := [.evt, .ctr, .tms, .drv, .str, .reb, .pair, .outbox],
                            fields := membersW.fields ++ [REB_STATUS_state, REB_STATUS_seg_done] }

/-- A failed member's commands are withdrawn, the labels name it no more and its slot goes off. -/
def State.failOff (s : State) (x : Nat) : State :=
  let s := s.withdraw x
  (if s.isMaster then s.writeLabels s.nextLabel else s).slotTurnOff x 8

theorem failOff_after (s : State) (x : Nat) (hl : s.live x = false) (hc : ∀ d ∈ (s.port x).cmds, d.gone = true) (hw : s.waitingOf x = []) :
    Within failOffW s (s.failOff x) ∧ SameRx s (s.failOff x) := by
  unfold State.failOff
  rw [withdraw_quiet s x hc hw]
  have hww : Within { parts := [.tms, .drv] } s (State.unqueue (s.putPort x { s.port x with cmds := (s.port x).cmds.map fun d => { d with gone := true } })
      fun c => c.member = x) := (within_drv s _ rfl).trans (within_tms _ _ rfl)
  have hwp : ∀ d ∈ ((State.unqueue (s.putPort x { s.port x with cmds := (s.port x).cmds.map fun d => { d with gone := true } })
      fun c => c.member = x).port x).cmds, d.gone = true := by
    intro d hd
    have e := port_putPort s x x { s.port x with cmds := (s.port x).cmds.map fun d => { d with gone := true } }
    rw [if_pos rfl] at e
    have hd' : d ∈ ((s.putPort x { s.port x with cmds := (s.port x).cmds.map fun d => { d with gone := true } }).port x).cmds := hd
    rw [e] at hd'
    obtain ⟨k, _, rfl⟩ := List.mem_map.mp hd'
    rfl
  have hwq := waitingOf_unqueue (s := s.putPort x { s.port x with cmds := (s.port x).cmds.map fun d => { d with gone := true } })
    (fun c => c.member = x) (x := x) hw
  generalize (State.unqueue (s.putPort x { s.port x with cmds := (s.port x).cmds.map fun d => { d with gone := true } }) fun c => c.member = x) = w at *
  have hwl : w.live x = false := by
    rw [State.live, hww.regs _ _ rfl]
    exact hl
  obtain ⟨h1, h2⟩ : Within { parts := [.ctr, .tms, .jnl] } w (if w.isMaster then w.writeLabels w.nextLabel else w) ∧
      (if w.isMaster then w.writeLabels w.nextLabel else w).waitingOf x = [] := by
    split
    · exact ⟨within_writeLabels _ _, writeLabels_waitingOf _ _ hwl hwq⟩
    · exact ⟨.refl _ _, hwq⟩
  dsimp only
  generalize (if w.isMaster then w.writeLabels w.nextLabel else w) = l at h1 h2 ⊢
  have hlp : ∀ d ∈ (l.port x).cmds, d.gone = true := by
    rw [State.port, h1.drv rfl]
    exact hwp
  exact ⟨((hww.widen (by decide) (by decide) (by decide)).trans (h1.widen (by decide) (by decide) (by decide))).trans
    ((within_slotTurnOff l x 8 hlp h2).widen (by decide) (by decide) (by decide)),
    ((SameRx.of_pair (hww.pair rfl)).trans (.of_pair (h1.pair rfl))).trans (sameRx_slotTurnOff l x 8 hlp h2)⟩

/-- A live member's own fields once it has failed. -/
def State.failNoted (s : State) (x cause : Nat) : State :=
  (((s.set STR_MEMBER_STATUS_live x 0).set REB_MEMBER_state x 4).set REB_MEMBER_cause x cause).set REB_MEMBER_fail_time x (s.dtc.toNat / 2 ^ 24)

theorem failNoted_after (s : State) (x cause : Nat) (hc : cause < 16) : (s.failNoted x cause).get REB_MEMBER_state x = 4 ∧
    (s.failNoted x cause).get REB_MEMBER_cause x = cause ∧ (s.failNoted x cause).get STR_MEMBER_STATUS_live x = 0 :=
  ⟨((get_set_field _ _ _ _ (by decide)).trans (get_set_field _ _ _ _ (by decide))).trans (get_set_same _ _ _ _),
    ((get_set_field _ _ _ _ (by decide)).trans (get_set_same _ _ _ _)).trans (Nat.mod_eq_of_lt (Nat.lt_of_lt_of_le hc (by decide))),
    (((get_set_field _ _ _ _ (by decide)).trans (get_set_field _ _ _ _ (by decide))).trans (get_set_field _ _ _ _ (by decide))).trans (get_set_same _ _ _ _)⟩

/-- The failure of a quiet member: its fields noted, its work ended, the rest told. -/
theorem memberFail_steps (s : State) (x cause : Nat) (hq : QuietMember s x) :
    Within failToldW ((s.failNoted x cause).failOff x) (s.memberFail x cause) ∧ SameRx ((s.failNoted x cause).failOff x) (s.memberFail x cause) := by
  have hn : (s.str.segs.filter fun (_, g) => g.state = .isOpen && !g.closed && g.members.contains x) = [] := by
    rw [List.filter_eq_nil_iff]
    rintro ⟨i, g⟩ he hp
    simp only [Bool.and_eq_true, decide_eq_true_eq, Bool.not_eq_true', List.contains_iff_mem] at hp
    exact hq.segs (i, g) he hp.1.1 hp.1.2 hp.2
  unfold State.memberFail
  extract_lets a0 a b w l t r o m z k n
  have hb : b = s.failNoted x cause := by
    show State.each _ _ _ = _
    have e : (a.str.segs.filter fun (_, g) => g.state = .isOpen && !g.closed && g.members.contains x) = [] := hn
    rw [e]
    rfl
  have ht : t = (s.failNoted x cause).failOff x := by rw [← hb]; rfl
  have hm : Within { parts := [.evt, .ctr, .tms, .drv, .str, .reb], fields := membersW.fields } t m :=
    (((within_raise _ _ _ _ _ rfl rfl).trans (within_bump _ _ _ rfl) : Within _ t r).trans
      ((within_reorder r).widen (by decide) (by decide) (by decide))).trans ((within_membersChanged o).widen (by decide) (by decide) (by decide))
  have hz : Within { parts := [.evt, .ctr] } m z := within_ite _ (fun _ => within_raiseCo _ _ _ _ _ _ rfl rfl) fun _ => .refl _ _
  have hk := within_rebCheck z
  have hn : Within pairW k n ∧ SameRx k n := by
    show Within pairW k (if cause = 9 then k else k.pairSend _) ∧ SameRx k (if cause = 9 then k else k.pairSend _)
    split
    · exact ⟨.refl _ _, rfl⟩
    · exact ⟨pairSend_pairW _ _, sameRx_pairSend _ _⟩
  have hg : SameRx n n.grantsFit := by
    unfold State.grantsFit
    split
    · rfl
    · exact SameRx.trans (t := { n with pair := _ }) rfl (SameRx.each _ _ _ fun s e => sameRx_pairSend s _)
  rw [← ht, if_neg (by rw [hq.live]; decide)]
  refine ⟨?_, ((((SameRx.of_pair (hm.pair rfl)).trans (.of_pair (hz.pair rfl))).trans (.of_pair (hk.pair rfl))).trans hn.2).trans hg⟩
  exact ((((hm.widen (by decide) (by decide) (by decide)).trans (hz.widen (by decide) (by decide) (by decide))).trans
    (hk.widen (by decide) (by decide) (by decide))).trans (hn.1.widen (by decide) (by decide) (by decide))).trans
    ((within_grantsFit n).widen (by decide) (by decide) (by decide))

/-- A quiet member has failed with its cause. -/
theorem memberFail_failed (s : State) (x cause : Nat) (hq : QuietMember s x) (hc : cause < 16) :
    (s.memberFail x cause).get REB_MEMBER_state x = 4 ∧ (s.memberFail x cause).get REB_MEMBER_cause x = cause ∧
    (s.memberFail x cause).get STR_MEMBER_STATUS_live x = 0 ∧ SameRx s (s.memberFail x cause) := by
  obtain ⟨h4, h9, h0⟩ := failNoted_after s x cause hc
  obtain ⟨w1, r1⟩ := failOff_after (s.failNoted x cause) x (by rw [State.live, h4]; decide) hq.gone hq.wait
  obtain ⟨w2, r2⟩ := memberFail_steps s x cause hq
  exact ⟨(w2.regs _ _ rfl).trans ((w1.regs _ _ rfl).trans h4), (w2.regs _ _ rfl).trans ((w1.regs _ _ rfl).trans h9),
    (w2.regs _ _ rfl).trans ((w1.regs _ _ rfl).trans h0), (SameRx.trans (s := s) rfl r1).trans r2⟩

/-! ## A record appended at the master -/

/-- What placing a record in the tail writes besides what the record itself does. -/
def placeW : Writes := { parts := [.ctr, .jnl, .pair, .outbox], fields := [JNL_FIRN_SEQ_next_seq] }

/-- At the master a record that need not wait is placed at the end of the tail; then it enters, and commits where nothing mirrors it. -/
theorem firnAppend_master (s : State) (o : Nat) (b : FirnBody) (hm : s.isMaster = true) (hw : s.appendWaits b = false) :
    ∃ u q, Within placeW s u ∧ u.jnl = { s.jnl with tail := s.jnl.tail ++ [⟨q, o, stampSeal q b⟩], firnAt := some (s.jnl.firnAt.getD s.dtc) } ∧
      q = s.get JNL_FIRN_SEQ_next_seq ∧
      s.firnAppend o b = if (u.firnEnter ⟨q, o, stampSeal q b⟩).mirrored then u.firnEnter ⟨q, o, stampSeal q b⟩
        else (u.firnEnter ⟨q, o, stampSeal q b⟩).firnCommit ⟨q, o, stampSeal q b⟩ := by
  unfold State.firnAppend State.firnAppendWith
  rw [if_neg (by rw [hm]; decide), if_neg (by rw [hw]; decide)]
  unfold State.firnPushWith
  extract_lets _ q r a _ b c d
  have hb : Within placeW s b := ((within_set s _ _ _ rfl).trans (within_bump _ _ _ rfl) : Within placeW s a).trans (within_jnl _ _ rfl)
  have hc : Within placeW b c ∧ c.jnl = b.jnl := by
    show Within placeW b (if b.mirroring then b.pairSend _ else b) ∧ (if b.mirroring then b.pairSend _ else b).jnl = b.jnl
    split
    · exact ⟨(pairSend_pairW _ _).widen (by decide) (by decide) (by decide), (pairSend_pairW _ _).jnl rfl⟩
    · exact ⟨.refl _ _, rfl⟩
  exact ⟨c, q, hb.trans hc.1, hc.2, rfl, rfl⟩

/-- With nothing parked and room in the tail and for its replay no record waits. -/
theorem appendWaits_of_room (s : State) (b : FirnBody) (hp : s.jnl.parked = []) (ht : s.tailBlocks + 1 < 262144)
    (hr : s.replayBytes < 2 * s.replayLimit) : s.appendWaits b = false := by
  unfold State.appendWaits State.tailFull
  rw [hp, decide_eq_false (by omega), decide_eq_false (by omega)]
  simp

end Sys2Proof.Machine
end

section
/-! PROOFS. REB_CMD, adoption, the pool's making, the members' width and the partner's member frames (R199, R264 to R290). -/

namespace Sys2Proof.Machine

open F

/-! ## The pool's name -/

theorem leNat_lt (l : List Byte) : leNat l < 256 ^ l.length := by
  induction l with
  | nil => exact Nat.one_pos
  | cons b l ih =>
    rw [leNat, List.length_cons, Nat.pow_succ]
    have hb : b.toNat < 256 := b.isLt
    omega

theorem beAt_lt (l : List Byte) (o n : Nat) : beAt l o n < 256 ^ n :=
  Nat.lt_of_lt_of_le (leNat_lt _) (Nat.pow_le_pow_right (by decide) (by rw [List.length_reverse, List.length_take]; omega))

/-- The pool's name drawn is not 0 and has 32 bits; only the generator and the free values move. -/
theorem poolDraw_after (n : Nat) (s : State) : (s.poolDraw n).1 ≠ 0 ∧ (s.poolDraw n).1 < 2 ^ 32 ∧
    Within { parts := [.key, .freeCtr] } s (s.poolDraw n).2 := by
  induction n generalizing s with
  | zero =>
    rw [State.poolDraw]
    refine ⟨Nat.succ_ne_zero _, ?_, within_freeCtr s _ rfl⟩
    have : s.fresh.1.toNat % (2 ^ 32 - 1) < 2 ^ 32 - 1 := Nat.mod_lt _ (by decide)
    show s.fresh.1.toNat % (2 ^ 32 - 1) + 1 < 2 ^ 32
    omega
  | succ n ih =>
    rw [State.poolDraw]
    have hd := within_drbg (w := { parts := [.key, .freeCtr] }) s 1 rfl rfl
    generalize s.drbg 1 = r at hd ⊢
    dsimp only
    split
    · obtain ⟨h1, h2, h3⟩ := ih r.2
      exact ⟨h1, h2, hd.trans h3⟩
    · next h => exact ⟨h, Nat.lt_of_lt_of_le (beAt_lt _ _ _) (by decide), hd⟩

/-! ## Results of commands -/

theorem rebResult_get (s : State) (r : Nat) (h : r < 4) : (s.rebResult r).get REB_STATUS_cmd_result 0 = r :=
  (get_set_same _ _ _ _).trans (Nat.mod_eq_of_lt (Nat.lt_of_lt_of_le h (by decide)))

theorem within_rebResult (s : State) (r : Nat) : Within { parts := [], fields := [REB_STATUS_cmd_result] } s (s.rebResult r) := within_set s _ _ _ rfl

/-! ## A member joins -/

theorem within_memberDealloc (s : State) (x : Nat) : Within { parts := [.tms] } s (s.memberDealloc x) := within_driveQueue s _ _ _ _

/-- A member that joins is live and no longer joining. -/
theorem joined_after (s : State) (x : Nat) : (s.joined x).get REB_MEMBER_state x = 3 ∧ (s.joined x).get STR_MEMBER_STATUS_live x = 1 ∧
    tget (s.joined x).reb.joining x = none := by
  unfold State.joined
  extract_lets _ a b _ c
  have w : Within membersW c ((c.membersChanged.raise EV_REB_MEMBER_JOINED 2 x).bump (ctrReb 7)) :=
    ((within_membersChanged c).trans (within_raise _ _ _ _ _ rfl rfl)).trans (within_bump _ _ _ rfl)
  have h1 := w.regs REB_MEMBER_state x rfl
  have h2 := w.regs STR_MEMBER_STATUS_live x rfl
  refine ⟨h1.trans ?_, h2.trans ?_, ?_⟩
  · show ((a.set REB_MEMBER_state x 3).set STR_MEMBER_STATUS_live x 1).get REB_MEMBER_state x = 3
    exact (get_set_field _ _ _ _ (by decide)).trans (get_set_same _ _ _ _)
  · show ((a.set REB_MEMBER_state x 3).set STR_MEMBER_STATUS_live x 1).get STR_MEMBER_STATUS_live x = 1
    exact get_set_same _ _ _ _
  · rw [w.reb rfl]
    exact tget_tdel_same _ _

/-! ## A segment's state recorded at the master -/

/-- At the master with room in the tail and nothing parked the state of a segment that goes on living enters with its record: only that entry
of the segments changes. -/
theorem firnAppend_calving (s : State) (o i : Nat) (g : Seg) (hm : s.isMaster = true) (hp : s.jnl.parked = []) (ht : s.tailBlocks + 1 < 262144)
    (hr : s.replayBytes < 2 * s.replayLimit) (hg : s.seg i = some g) (hl : g.live ≠ 0) :
    (s.firnAppend o (.segState i (some { g with state := .calving }))).str =
      { s.str with segs := tput s.str.segs i { g with state := .calving } } ∧
    (s.firnAppend o (.segState i (some { g with state := .calving }))).reb = s.reb := by
  obtain ⟨u, q, hu, _, _, e⟩ := firnAppend_master s o (.segState i (some { g with state := .calving })) hm (appendWaits_of_room s _ hp ht hr)
  have hug : u.seg i = some g := by
    rw [State.seg, hu.str rfl]
    exact hg
  have hren : u.renames i (some { g with state := .calving }) = false := by
    unfold State.renames
    rw [hug]
    exact bne_self_eq_false _
  have he : (u.segEnter ⟨q, o, .segState i (some { g with state := .calving })⟩).str = { s.str with segs := tput s.str.segs i { g with state := .calving } } ∧
      (u.segEnter ⟨q, o, .segState i (some { g with state := .calving })⟩).reb = s.reb := by
    unfold State.segEnter State.enterSegState
    dsimp only
    rw [show tget u.str.segs i = some g from hug, hu.str rfl, hu.reb rfl]
    simp
  have hent : u.firnEnter ⟨q, o, .segState i (some { g with state := .calving })⟩ = u.segEnter ⟨q, o, .segState i (some { g with state := .calving })⟩ := by
    have hsg : (u.segEnter ⟨q, o, .segState i (some { g with state := .calving })⟩).seg i = some { g with state := .calving } := by
      rw [State.seg, he.1]
      exact tget_tput_same _ _ _
    unfold State.firnEnter
    dsimp only
    rw [hren, if_neg (by decide)]
    unfold State.releaseIdle
    rw [hsg]
    dsimp only
    rw [if_neg (by simp [hl])]
  have hcom : (u.segEnter ⟨q, o, .segState i (some { g with state := .calving })⟩).firnCommit ⟨q, o, .segState i (some { g with state := .calving })⟩ =
      u.segEnter ⟨q, o, .segState i (some { g with state := .calving })⟩ := by
    unfold State.firnCommit
    dsimp only
    rw [if_neg]
    unfold State.renames State.seg
    rw [he.1, tget_tput_same]
    simp
  have hs : stampSeal q (.segState i (some { g with state := .calving })) = .segState i (some { g with state := .calving }) := rfl
  rw [e, hs, hent, hcom, ite_self]
  exact he

/-- With no block of a segment where the map says, its move goes no further: only the note of the move changes. -/
theorem relocNext_none (s : State) (i n : Nat) (g : Seg) (hg : s.seg i = some g) (hb : ∀ e ∈ g.blocks, s.stillThere i e.1 e.2 = false) :
    ∃ l, s.relocNext i n = { s with str := { s.str with moving := l } } := by
  cases n with
  | zero => exact ⟨s.str.moving, by rw [State.relocNext]⟩
  | succ n =>
    rw [State.relocNext, hg]
    rcases tget s.str.moving i with _ | ⟨o, st⟩
    · exact ⟨_, rfl⟩
    · dsimp only
      split
      · exact ⟨s.str.moving, rfl⟩
      · have hf : (g.blocks.filter fun (o, b) => decide (st * (g.k * s.chunkBlocks) ≤ o) && s.stillThere i o b) = [] := by
          rw [List.filter_eq_nil_iff]
          rintro ⟨p, b⟩ he hp
          dsimp only at hp
          rw [hb (p, b) he, Bool.and_false] at hp
          cases hp
        rw [hf]
        exact ⟨_, rfl⟩

theorem relocateAll_none (s : State) (i o : Nat) (g : Seg) (hg : s.seg i = some g) (hb : ∀ e ∈ g.blocks, s.stillThere i e.1 e.2 = false) :
    ∃ l, s.relocateAll i o = { s with str := { s.str with moving := l } } := by
  obtain ⟨l, e⟩ := relocNext_none { s with str := { s.str with moving := tput s.str.moving i (o, 0) } } i 1024 g hg hb
  exact ⟨l, e⟩

/-! ## The statement -/

/-- Settles O34: each command's own effect, the member's failure in P9's lemmas, and the record of a segment's state at the master. -/
theorem membersAndPool : Obligations.MembersAndPool := by
  unfold Obligations.MembersAndPool
  refine ⟨fun s x hq => ?_, fun s x hx hl => ?_, fun s x hx h1 => ?_, fun s x hx h1 => ?_, fun s hq => ?_, fun s h2 hq => ?_, fun s ha => ?_,
    fun s ha => ?_, fun s x hx h2 hj => ?_, fun s x hx h2 hj => ?_, fun s i n g hen hsegs hst hnr hmine hh hk hbl hlive hboot hpend hsw hm hp ht hr => ?_,
    fun s h x c q hs hq => ?_⟩
  · refine ⟨_, rfl, ?_⟩
    have e : s.rebFail x = (s.memberFail x 8).rebResult 0 := by
      rw [State.rebFail, Nat.mod_eq_of_lt hq.slot, if_pos hq.live]
    obtain ⟨f4, f8, f0, _⟩ := memberFail_failed s x 8 hq (by decide)
    have w := within_rebResult (s.memberFail x 8) 0
    refine ⟨?_, ?_, ?_, ?_⟩
    · rw [get_only_in _ _ _ _ _ rfl, e, w.regs _ _ rfl, f4]
    · rw [get_only_in _ _ _ _ _ rfl, e, w.regs _ _ rfl, f8]
    · rw [get_only_in _ _ _ _ _ rfl, e, w.regs _ _ rfl, f0]
    · rw [get_only_in _ _ _ _ _ rfl, e, rebResult_get _ _ (by decide)]
  · refine ⟨_, rfl, ?_⟩
    have e : s.rebFail x = s.rebResult 1 := by
      rw [State.rebFail, Nat.mod_eq_of_lt hx, if_neg (by rw [hl]; decide)]
    constructor
    · rw [get_only_in _ _ _ _ _ rfl, e, rebResult_get _ _ (by decide)]
    · rw [get_only_in _ _ _ _ _ rfl, e, (within_rebResult s 1).regs _ _ rfl]
  · refine ⟨_, rfl, ?_⟩
    have e : s.rebAdopt x = (s.adoptStart x).rebResult 0 := by
      rw [State.rebAdopt, Nat.mod_eq_of_lt hx, if_pos h1]
    have w : Within { parts := [.tms] } _ (s.adoptStart x) := within_memberDealloc _ x
    refine ⟨?_, ?_, ?_⟩
    · rw [get_only_in _ _ _ _ _ rfl, e, rebResult_get _ _ (by decide)]
    · rw [get_only_in _ _ _ _ _ rfl, e, (within_rebResult _ 0).regs _ _ rfl, w.regs _ _ rfl]
      exact get_set_same _ _ _ _
    · show tget (s.rebAdopt x).reb.joining x = _
      rw [e, (within_rebResult _ 0).reb rfl, w.reb rfl]
      exact tget_tput_same _ _ _
  · refine ⟨_, rfl, ?_⟩
    have e : s.rebAdopt x = s.rebResult 1 := by
      rw [State.rebAdopt, Nat.mod_eq_of_lt hx, if_neg h1]
    constructor
    · rw [get_only_in _ _ _ _ _ rfl, e, rebResult_get _ _ (by decide)]
    · show (s.rebAdopt x).reb = _
      rw [e, (within_rebResult s 1).reb rfl]
  · refine ⟨_, rfl, ?_⟩
    have e : s.rebPause = ((s.set REB_STATUS_state 0 2).enter (ctrReb 9)).rebResult 0 := by
      rw [State.rebPause, if_neg (by simpa using hq)]
    constructor
    · rw [get_only_in _ _ _ _ _ rfl, e, (within_rebResult _ 0).regs _ _ rfl, State.get, enter_regs]
      exact get_set_same _ _ _ _
    · rw [get_only_in _ _ _ _ _ rfl, e, rebResult_get _ _ (by decide)]
  · refine ⟨_, rfl, ?_⟩
    have e : s.rebResume = ((s.set REB_STATUS_state 0 1).leave (ctrReb 9)).rebResult 0 := by
      rw [State.rebResume, if_pos h2, if_neg (by simpa using hq)]
    constructor
    · rw [get_only_in _ _ _ _ _ rfl, e, (within_rebResult _ 0).regs _ _ rfl, State.get, leave_regs]
      exact get_set_same _ _ _ _
    · rw [get_only_in _ _ _ _ _ rfl, e, rebResult_get _ _ (by decide)]
  · refine ⟨_, rfl, ?_⟩
    obtain ⟨hn, hl, hw⟩ := poolDraw_after 16 s
    obtain ⟨u, hu, hs, e⟩ : ∃ u : State, u.str.poolId = (s.poolDraw 16).1 ∧ (u.reb.making = s.candidates ∧ u.reb.creating = s.candidates) ∧
        s.createPool = (u.each s.candidates State.memberDealloc).rebResult 0 := by
      unfold State.createPool
      rw [if_neg (by rw [ha]; decide)]
      exact ⟨_, rfl, ⟨rfl, rfl⟩, rfl⟩
    have w : Within { parts := [.tms], fields := [REB_STATUS_cmd_result] } u s.createPool := by
      rw [e]
      exact ((within_each u _ _ fun s x => within_memberDealloc s x).widen (by decide) (by decide) (by decide)).trans (within_set _ _ _ _ rfl)
    refine ⟨?_, ?_, ?_, ?_, ?_⟩
    · rw [get_only_in _ _ _ _ _ rfl, e, rebResult_get _ _ (by decide)]
    · show s.createPool.str.poolId ≠ 0
      rw [w.str rfl, hu]
      exact hn
    · show s.createPool.str.poolId < 2 ^ 32
      rw [w.str rfl, hu]
      exact hl
    · show s.createPool.reb.making = _
      rw [w.reb rfl]
      exact hs.1
    · show s.createPool.reb.creating = _
      rw [w.reb rfl]
      exact hs.2
  · refine ⟨_, rfl, ?_⟩
    have e : s.createPool = s.rebResult 3 := by
      rw [State.createPool, if_pos (by rw [ha]; decide)]
    refine ⟨?_, ?_, ?_⟩
    · rw [get_only_in _ _ _ _ _ rfl, e, rebResult_get _ _ (by decide)]
    · show s.createPool.str = _
      rw [e, (within_rebResult s 3).str rfl]
    · show s.createPool.reb = _
      rw [e, (within_rebResult s 3).reb rfl]
  · refine ⟨_, rfl, ?_⟩
    have e : s.adoption x = s.adoptLabels x := by
      rw [State.adoption, h2, if_neg (by decide), if_neg (by decide), hj]
      rfl
    have hmod : x % 32 = x := Nat.mod_eq_of_lt hx
    obtain ⟨u, hu, w, e2⟩ : ∃ u : State, u.reb.joining = tput s.reb.joining x 2 ∧ Within { parts := [.tms] } (u.writeLabels s.nextLabel) (s.adoptLabels x) ∧
        True := ⟨{ s with reb := { s.reb with joining := tput s.reb.joining x 2 } }, rfl,
        by unfold State.adoptLabels; exact within_driveQueue _ _ _ _ _, trivial⟩
    constructor
    · show tget (s.adoption (x % 32)).reb.joining x = _
      rw [hmod, e, w.reb rfl, (within_writeLabels _ _).reb rfl, hu, tget_tput_same]
    · show (s.adoption (x % 32)).jnl.media.label = _
      rw [hmod, e, w.jnl rfl, writeLabels_label]
  · refine ⟨_, rfl, ?_⟩
    have hmod : x % 32 = x := Nat.mod_eq_of_lt hx
    obtain ⟨q, e⟩ : ∃ q, s.adoption x = (s.joined x).pairSend (.member (.joined x q)) := by
      rw [State.adoption, h2, if_neg (by decide), if_neg (by decide), hj]
      exact ⟨_, rfl⟩
    obtain ⟨j1, j2, j3⟩ := joined_after s x
    have w := pairSend_pairW (s.joined x) (.member (.joined x q))
    refine ⟨?_, ?_, ?_⟩
    · rw [get_only_in _ _ _ _ _ rfl, hmod, e, w.regs _ _ rfl, j1]
    · rw [get_only_in _ _ _ _ _ rfl, hmod, e, w.regs _ _ rfl, j2]
    · show tget (s.adoption (x % 32)).reb.joining x = _
      rw [hmod, e, w.reb rfl, j3]
  · refine ⟨_, rfl, ?_⟩
    have hg : s.seg i = some g := by rw [State.seg, hsegs, tget_cons, if_pos rfl]
    have e : s.rewiden = (s.firnAppend 1 (.segState i (some { g with state := .calving }))).relocateAll i 1 := by
      unfold State.rewiden
      dsimp only
      rw [hen, hboot, if_neg (by decide), hsegs, List.filter_cons_of_pos (by simp [hst, hpend, hsw, hnr, hmine, hh, hk])]
      rfl
    obtain ⟨h1, _⟩ := firnAppend_calving s 1 i g hm hp ht hr hg hlive
    have h2 : (s.firnAppend 1 (.segState i (some { g with state := .calving }))).seg i = some { g with state := .calving } := by
      rw [State.seg, h1]
      exact tget_tput_same _ _ _
    obtain ⟨l, h3⟩ := relocateAll_none (s.firnAppend 1 (.segState i (some { g with state := .calving }))) i 1 _ h2 fun b hb => by
      have : (s.firnAppend 1 (.segState i (some { g with state := .calving }))).stillThere i b.1 b.2 = s.stillThere i b.1 b.2 := by
        unfold State.stillThere State.lookup
        rw [h1]
      rw [this]
      exact hbl b hb
    show s.rewiden.seg i = _
    rw [State.seg, e, h3]
    exact h2
  · refine ⟨_, rfl, ?_⟩
    have hw := within_pairReady s h
    have hq' : QuietMember (pairReady s h) x := by
      refine ⟨⟨hq.slot, ?_, ?_⟩, ?_, ?_⟩
      · rw [State.port, hw.drv rfl]
        exact hq.cmds
      · rw [waitingOf_congr (hw.tms rfl)]
        exact hq.wait
      · rw [State.live, hw.regs _ _ rfl]
        exact hq.live
      · rw [hw.str rfl]
        exact hq.segs
    obtain ⟨f4, f9, _, fr⟩ := memberFail_failed (pairReady s h) x 9 hq' (by decide)
    have e : (pairReady s h).pairDeliver (.member (.failed x c q)) = ((pairReady s h).memberFail x 9).labelSeq q := by
      show ((pairReady s h).memberFail (x % 32) 9).labelSeq q = _
      rw [Nat.mod_eq_of_lt hq.slot]
    have wl : Within { parts := [.jnl] } ((pairReady s h).memberFail x 9) (((pairReady s h).memberFail x 9).labelSeq q) := within_jnl _ _ rfl
    refine ⟨?_, ?_, ?_⟩
    · show (s.pairRx h (.member (.failed x c q))).pair.rxNext = _
      rw [pairRx_part (·.pair.rxNext) s h _ hs ackDue_rxNext, e]
      exact Eq.trans fr (pairReady_rxNext s h)
    · rw [get_only_in _ _ _ _ _ rfl, pairRx_part (·.get REB_MEMBER_state x) s h _ hs (fun u => (within_ackDue u).regs _ _ rfl), e, wl.regs _ _ rfl]
      exact f4
    · rw [get_only_in _ _ _ _ _ rfl, pairRx_part (·.get REB_MEMBER_cause x) s h _ hs (fun u => (within_ackDue u).regs _ _ rfl), e, wl.regs _ _ rfl]
      exact f9

end Sys2Proof.Machine
end

section
/-! PROOFS. Link losses, segments restored or evacuated, the rebuild rate (R271, R278 to R284, R311). -/

namespace Sys2Proof.Machine

open F

/-! ## The chunks of a row -/

theorem chunkOrder_congr {s t : State} (h : t.regs = s.regs) (g : Seg) (n : Nat) : t.chunkOrder g n = s.chunkOrder g n := by
  unfold State.chunkOrder
  simp only [readable_congr h]
  have hp : ∀ x, t.pred x = s.pred x := fun x => by
    unfold State.pred State.flag State.get
    rw [h]
  simp only [hp]

theorem sourceRead_after (s : State) (i : Nat) (g : Seg) (n c : Nat) : Within { parts := [.tms, .str] } s (s.sourceRead i g n c) ∧
    (s.sourceRead i g n c).str.segs = s.str.segs := by
  unfold State.sourceRead
  obtain ⟨_, _, _, _, e⟩ := readsTick_eq s
  rw [e]
  dsimp only
  refine ⟨(within_str s _ rfl).trans ((within_driveQueue _ _ _ _ _).widen (by decide) (by decide) (by decide)), ?_⟩
  rw [(within_driveQueue _ _ _ _ _).str rfl]

/-- The segments are as they were. -/
def SameSegs (s t : State) : Prop := t.str.segs = s.str.segs

theorem sameSegs_each {α : Type} (l : List α) (f : State → α → State) (s : State) (h : ∀ s a, SameSegs s (f s a)) : SameSegs s (s.each l f) := by
  induction l generalizing s with
  | nil => rfl
  | cons a l ih => exact Eq.trans (ih _) (h s a)

/-- The state in which a stripe's first k readable chunks are asked for. -/
def State.asking (s : State) (i : Nat) (g : Seg) (r : Restore) : State :=
  { s with reb := { s.reb with
      work := tput s.reb.work i { r with asked := (s.chunkOrder g r.stripe).take g.k, got := [], waiting := [], hedged := false } } }

/-- A stripe with k readable chunks of which none is slow: they are asked for. -/
theorem restoreStripe_asks (s : State) (i : Nat) (g : Seg) (r : Restore) (hw : tget s.reb.work i = some r)
    (hk : g.k ≤ (s.chunkOrder g r.stripe).length)
    (hs : ∀ c ∈ (s.chunkOrder g r.stripe).take g.k, s.slow (chunkMember g r.stripe c) = false) :
    (s.restoreStripe i g).reb = (s.asking i g r).reb ∧ SameSegs s (s.restoreStripe i g) := by
  have hw2 := within_each (s.asking i g r) ((s.chunkOrder g r.stripe).take g.k) (fun s c => s.sourceRead i g r.stripe c)
    fun s c => (sourceRead_after s i g r.stripe c).1
  have hseg := sameSegs_each ((s.chunkOrder g r.stripe).take g.k) (fun s c => s.sourceRead i g r.stripe c) (s.asking i g r)
    fun s c => (sourceRead_after s i g r.stripe c).2
  have e : s.restoreStripe i g = (s.asking i g r).each ((s.chunkOrder g r.stripe).take g.k) (fun s c => s.sourceRead i g r.stripe c) := by
    have hf : ((s.chunkOrder g r.stripe).take g.k).find? (fun c => ((s.asking i g r).each ((s.chunkOrder g r.stripe).take g.k)
        (fun s c => s.sourceRead i g r.stripe c)).slow (chunkMember g r.stripe c)) = none := by
      rw [List.find?_eq_none]
      intro c hc
      have e : ((s.asking i g r).each ((s.chunkOrder g r.stripe).take g.k) (fun s c => s.sourceRead i g r.stripe c)).slow (chunkMember g r.stripe c) =
          s.slow (chunkMember g r.stripe c) := by
        unfold State.slow State.flag
        rw [hw2.regs _ _ rfl]
        rfl
      rw [e, hs c hc]
      decide
    unfold State.restoreStripe
    rw [hw]
    dsimp only
    rw [if_neg (by rw [List.length_take]; omega)]
    unfold State.asking at hf
    rw [hf]
    rfl
  rw [e]
  exact ⟨hw2.reb rfl, hseg⟩

/-! ## The segment taken next -/

/-- The engine takes the segment that comes next. -/
theorem rebuildNext_some (s : State) (i : Nat) (g : Seg) (hp : s.reb.work.length + s.reb.evac.length < clampNat 1 64 (s.get REB_CFG_parallel))
    (hb : s.booting = false)
    (hn : s.nextRebuild (fun i g => if (s.restorable i g).isSome then s.rebuildHere else s.segMine i) = some (i, g)) :
    s.rebuildNext = match s.restorable i g with
      | none => s.evacuate i
      | some t =>
        let had := s.spareLeft
        let s := { s with reb := { s.reb with work := tput s.reb.work i { targets := t } } }
        let s := if had && !s.spareLeft then s.raise EV_REB_SPARE_EXHAUSTED 0 0 else s
        s.restoreStripe i g := by
  unfold State.rebuildNext
  dsimp only
  rw [hb, if_neg (by simp; omega), hn] <;> rfl

/-- A segment restored from its first stripe on. -/
theorem rebuildNext_restores (s : State) (i : Nat) (g : Seg) (l : List (Nat × Nat × Nat))
    (hp : s.reb.work.length + s.reb.evac.length < clampNat 1 64 (s.get REB_CFG_parallel)) (hb : s.booting = false)
    (hn : s.nextRebuild (fun i g => if (s.restorable i g).isSome then s.rebuildHere else s.segMine i) = some (i, g))
    (hr : s.restorable i g = some l) (hk : g.k ≤ (s.chunkOrder g 0).length)
    (hs : ∀ c ∈ (s.chunkOrder g 0).take g.k, s.slow (chunkMember g 0 c) = false) :
    tget s.rebuildNext.reb.work i = some { targets := l, asked := (s.chunkOrder g 0).take g.k } ∧ SameSegs s s.rebuildNext := by
  rw [rebuildNext_some s i g hp hb hn, hr]
  dsimp only
  have key : ∀ u : State, u.regs = s.regs → u.reb = { s.reb with work := tput s.reb.work i { targets := l } } → u.str = s.str →
      tget (u.restoreStripe i g).reb.work i = some { targets := l, asked := (s.chunkOrder g 0).take g.k } ∧ SameSegs s (u.restoreStripe i g) := by
    intro u hu hreb hstr
    have ho := chunkOrder_congr hu g 0
    obtain ⟨h1, h2⟩ := restoreStripe_asks u i g { targets := l } (by rw [hreb]; exact tget_tput_same _ _ _) (by rw [ho]; exact hk) (by
      rw [ho]
      intro c hc
      rw [slow_congr hu]
      exact hs c hc)
    rw [h1]
    exact ⟨(tget_tput_same _ _ _).trans (by rw [ho]), h2.trans (by rw [hstr])⟩
  split
  · exact key _ (raise_regs _ _ _ _ _) (raise_reb _ _ _ _ _) (raise_str _ _ _ _ _)
  · exact key _ rfl rfl rfl

/-- A segment with its summary known that has a block left and none where the map says: it is evacuated at once. -/
theorem evacuate_calving (s : State) (i : Nat) (g : Seg) (hg : s.seg i = some g) (hl : g.live ≠ 0) (hb : ∀ e ∈ g.blocks, s.stillThere i e.1 e.2 = false)
    (hsum : g.summary.isSome = true) (hm : s.isMaster = true) (hp : s.jnl.parked = []) (ht : s.tailBlocks + 1 < 262144)
    (hr : s.replayBytes < 2 * s.replayLimit) :
    (s.evacuate i).seg i = some { g with state := .calving } ∧ (s.evacuate i).reb.evac = s.reb.evac ++ [i] := by
  obtain ⟨m, hmm⟩ := Option.isSome_iff_exists.mp hsum
  have hmaps : ∀ u : State, u.readMaps i g = u := fun u => by
    unfold State.readMaps
    rw [hmm]
  unfold State.evacuate
  rw [hg]
  dsimp only
  rw [hmaps]
  obtain ⟨h1, h2⟩ : (if g.state = .calving then ({ s with reb := { s.reb with evac := s.reb.evac ++ [i] } } : State)
        else ({ s with reb := { s.reb with evac := s.reb.evac ++ [i] } } : State).firnAppend 3 (.segState i (some { g with state := .calving }))).str =
          { s.str with segs := tput s.str.segs i { g with state := .calving } } ∧
      (if g.state = .calving then ({ s with reb := { s.reb with evac := s.reb.evac ++ [i] } } : State)
        else ({ s with reb := { s.reb with evac := s.reb.evac ++ [i] } } : State).firnAppend 3 (.segState i (some { g with state := .calving }))).reb =
          { s.reb with evac := s.reb.evac ++ [i] } := by
    split
    · next hc =>
      have e : { g with state := .calving } = g := by rw [← hc]
      rw [e, tput_self hg]
      exact ⟨rfl, rfl⟩
    · exact firnAppend_calving { s with reb := { s.reb with evac := s.reb.evac ++ [i] } } 3 i g hm hp ht hr hg hl
  generalize (if g.state = .calving then ({ s with reb := { s.reb with evac := s.reb.evac ++ [i] } } : State)
        else ({ s with reb := { s.reb with evac := s.reb.evac ++ [i] } } : State).firnAppend 3 (.segState i (some { g with state := .calving }))) = u at h1 h2 ⊢
  have hu : u.seg i = some { g with state := .calving } := by
    rw [State.seg, h1]
    exact tget_tput_same _ _ _
  have hidle : u.releaseIdle i = u := by
    unfold State.releaseIdle
    rw [hu]
    dsimp only
    rw [if_neg (by simp [hl])]
  obtain ⟨l, hreloc⟩ := relocateAll_none u i 3 _ hu fun e he => by
    have hlk : u.stillThere i e.1 e.2 = s.stillThere i e.1 e.2 := by
      unfold State.stillThere State.lookup
      rw [h1]
    rw [hlk]
    exact hb e he
  rw [hidle]
  constructor
  · rw [State.seg, hreloc]
    exact hu
  · rw [hreloc]
    exact congrArg Reb.evac h2

/-! ## A segment restored -/

/-- A restored segment with its targets as members. -/
def restoredBy (g : Seg) (r : Restore) : Seg :=
  { g with members := r.targets.foldl (fun l e => l.set e.1 e.2.1) g.members, base := r.targets.foldl (fun l e => l.set e.1 e.2.2) g.base }

/-- The commit of a restored segment's record gives it its targets and ends the work. -/
theorem restored_after (s : State) (i : Nat) (g h : Seg) (hg : s.seg i = some g) (hl : g.live ≠ 0) :
    (s.restored i h).seg i = some { g with members := h.members, base := h.base } ∧ tget (s.restored i h).reb.work i = none := by
  obtain ⟨u, hs, hw, e⟩ : ∃ u : State, u.seg i = some { g with members := h.members, base := h.base } ∧ tget u.reb.work i = none ∧
      s.restored i h = (u.releaseIdle i).rebCheck := by
    unfold State.restored
    rw [hg]
    exact ⟨(((({ s.putSeg i { g with members := h.members, base := h.base } with reb := { s.reb with work := tdel s.reb.work i } } : State).bump
      (ctrReb 0)).bump (ctrReb 2) (h.e * (((tget s.reb.work i).map fun r => r.targets.length).getD 0))).inc REB_STATUS_seg_done 0),
      tget_tput_same _ _ _, tget_tdel_same _ _, rfl⟩
  have hidle : u.releaseIdle i = u := by
    unfold State.releaseIdle
    rw [hs]
    dsimp only
    rw [if_neg (by simp [hl])]
  have hcheck : u.rebCheck.str = u.str ∧ u.rebCheck.reb.work = u.reb.work := by
    refine ⟨(within_rebCheck u).str rfl, ?_⟩
    unfold State.rebCheck
    dsimp only
    split
    · split
      · rw [leave_reb, leave_reb]
        rfl
      · rfl
    · split
      · rfl
      · rw [enter_reb]
        rfl
  rw [e, hidle, State.seg, hcheck.1, hcheck.2]
  exact ⟨hs, hw⟩

/-- After the last stripe, unmirrored at the master with room in the tail, the segment has its targets. -/
theorem restoreEnd_after (s : State) (i : Nat) (g : Seg) (r : Restore) (hg : s.seg i = some g) (hl : g.live ≠ 0)
    (hne : (restoredBy g r).members ≠ g.members) (hmir : s.mirrored = false) (hm : s.isMaster = true) (hp : s.jnl.parked = [])
    (ht : s.tailBlocks + 1 < 262144) (hr : s.replayBytes < 2 * s.replayLimit) :
    tget (s.restoreEnd i g r).reb.work i = none ∧ (s.restoreEnd i g r).seg i = some (restoredBy g r) := by
  have e0 : s.restoreEnd i g r = ({ s with reb := { s.reb with work := tput s.reb.work i { r with got := [], ended := true } } } : State).firnAppend 3
      (.segState i (some (restoredBy g r))) := rfl
  rw [e0]
  obtain ⟨u, q, hu, _, _, e⟩ := firnAppend_master { s with reb := { s.reb with work := tput s.reb.work i { r with got := [], ended := true } } } 3
    (.segState i (some (restoredBy g r))) hm (appendWaits_of_room _ _ hp ht hr)
  have hug : u.seg i = some g := by
    rw [State.seg, hu.str rfl]
    exact hg
  obtain ⟨h', hh, hm', hb'⟩ : ∃ h' : Seg, stampSeal q (.segState i (some (restoredBy g r))) = .segState i (some h') ∧ h'.members = (restoredBy g r).members ∧
      h'.base = (restoredBy g r).base := by
    unfold stampSeal
    dsimp only
    split
    · exact ⟨_, rfl, rfl, rfl⟩
    · exact ⟨_, rfl, rfl, rfl⟩
  have hren : u.renames i (some h') = true := by
    unfold State.renames
    rw [hug]
    dsimp only
    rw [hm']
    exact bne_iff_ne.mpr hne
  rw [hh] at e
  have hent : u.firnEnter ⟨q, 3, .segState i (some h')⟩ = u := by
    unfold State.firnEnter
    dsimp only
    rw [hren, if_pos rfl]
  have hcom : u.firnCommit ⟨q, 3, .segState i (some h')⟩ = u.restored i h' := by
    unfold State.firnCommit
    dsimp only
    rw [hren, if_pos rfl]
  have hmu : u.mirrored = false := by
    unfold State.mirrored
    rw [hu.regs _ _ rfl]
    exact hmir
  rw [e, hent, hmu, if_neg (by decide), hcom]
  obtain ⟨h1, h2⟩ := restored_after u i g h' hug hl
  refine ⟨h2, h1.trans ?_⟩
  rw [hm', hb']
  rfl

/-! ## The statement -/

/-- Settles O32: the failure of P9, the stripes asked for, and the records of segments at the master. -/
theorem lossAndRebuild : Obligations.LossAndRebuild := by
  unfold Obligations.LossAndRebuild
  refine ⟨fun s x hq hd => ?_, fun s x hx hd hl => ?_, fun s i g l hp hb hn hr hk hs => ?_, fun s i g hp hb hn hr hg hl hbl hsum hm hpk ht hrp => ?_,
    fun s i g r hw hg ha hwt hgot hst hl hne hmir hm hp ht hrp => ?_, fun s i g r hw hg ha hwt hgot hst hk hs => ?_, fun s hc => ?_, fun s hc hl => ?_,
    fun s r hc hl hr => ?_⟩
  · refine ⟨_, rfl, ?_⟩
    obtain ⟨f4, f3, f0, _⟩ := memberFail_failed s x 3 hq (by decide)
    have e : (if (s.port (x % 32)).linkDown.isNone then s else if s.live (x % 32) then s.memberFail (x % 32) 3
        else ((s.putPort (x % 32) { s.port (x % 32) with linkDown := none }).adoptFail (x % 32)).set DRV_PORT_STATUS_state (x % 32) 0) = s.memberFail x 3 := by
      rw [Nat.mod_eq_of_lt hq.slot, if_neg (by rw [Option.isNone_iff_eq_none]; exact Option.ne_none_iff_isSome.mpr hd), if_pos hq.live]
    refine ⟨?_, ?_, ?_⟩
    · rw [get_only_in _ _ _ _ _ rfl, e, f4]
    · rw [get_only_in _ _ _ _ _ rfl, e, f3]
    · rw [get_only_in _ _ _ _ _ rfl, e, f0]
  · refine ⟨_, rfl, ?_⟩
    have e : (if (s.port (x % 32)).linkDown.isNone then s else if s.live (x % 32) then s.memberFail (x % 32) 3
        else ((s.putPort (x % 32) { s.port (x % 32) with linkDown := none }).adoptFail (x % 32)).set DRV_PORT_STATUS_state (x % 32) 0) =
        ((s.putPort x { s.port x with linkDown := none }).adoptFail x).set DRV_PORT_STATUS_state x 0 := by
      rw [Nat.mod_eq_of_lt hx, if_neg (by rw [Option.isNone_iff_eq_none]; exact Option.ne_none_iff_isSome.mpr hd), if_neg (by rw [hl]; decide)]
    have hl' : ((s.putPort x { s.port x with linkDown := none }).adoptFail x).get REB_MEMBER_state x ≠ 3 := by
      have hl3 : s.get REB_MEMBER_state x ≠ 3 := by simpa [State.live] using hl
      unfold State.adoptFail
      split
      · rw [get_raise, get_set_same]
        decide
      · exact hl3
    constructor
    · rw [get_only_in _ _ _ _ _ rfl, e]
      exact get_set_same _ _ _ _
    · rw [State.live, get_only_in _ _ _ _ _ rfl, e, get_set_field _ _ _ _ (by decide)]
      exact decide_eq_false hl'
  · exact ⟨_, rfl, rebuildNext_restores s i g l hp hb hn hr hk hs⟩
  · refine ⟨_, rfl, ?_⟩
    have e : s.rebuildNext = s.evacuate i := by rw [rebuildNext_some s i g hp hb hn, hr]
    show s.rebuildNext.seg i = _ ∧ s.rebuildNext.reb.evac = _
    rw [e]
    exact evacuate_calving s i g hg hl hbl hsum hm hpk ht hrp
  · refine ⟨_, rfl, ?_⟩
    have e : s.rebuildStripe i = ({ s with reb := { s.reb with doneKib := s.reb.doneKib + 4 * s.chunkBlocks * r.targets.length } } : State).restoreEnd i g r := by
      unfold State.rebuildStripe
      rw [hw, hg]
      dsimp only
      rw [if_neg (by simp [ha, hwt, hgot]), if_neg (by
        show ¬(r.stripe + 1 < s.segStripes g)
        omega)]
    show tget (s.rebuildStripe i).reb.work i = none ∧ (s.rebuildStripe i).seg i = _
    rw [e]
    exact restoreEnd_after { s with reb := { s.reb with doneKib := s.reb.doneKib + 4 * s.chunkBlocks * r.targets.length } } i g r hg hl hne hmir hm hp ht hrp
  · refine ⟨_, rfl, ?_⟩
    obtain ⟨u, hur, hus, huw, e⟩ : ∃ u : State, u.regs = s.regs ∧ u.str = s.str ∧
        tget u.reb.work i = some { r with stripe := r.stripe + 1, got := [] } ∧ s.rebuildStripe i = u.restoreStripe i g := by
      refine ⟨{ s with reb := { s.reb with
          doneKib := s.reb.doneKib + 4 * s.chunkBlocks * r.targets.length
          work := tput s.reb.work i { r with stripe := r.stripe + 1, got := [] } } }, rfl, rfl, tget_tput_same _ _ _, ?_⟩
      unfold State.rebuildStripe
      rw [hw, hg]
      dsimp only
      rw [if_neg (by simp [ha, hwt, hgot])]
      exact if_pos hst
    have ho := chunkOrder_congr hur g (r.stripe + 1)
    obtain ⟨h1, h2⟩ := restoreStripe_asks u i g _ huw (by rw [ho]; exact hk) (by
      rw [ho]
      intro c hc
      rw [slow_congr hur]
      exact hs c hc)
    show tget (s.rebuildStripe i).reb.work i = _ ∧ (s.rebuildStripe i).seg i = _
    rw [e, h1, State.seg, show (u.restoreStripe i g).str.segs = _ from h2, hus]
    exact ⟨(tget_tput_same _ _ _).trans (by rw [ho]), hg⟩
  · refine ⟨_, rfl, ?_, ?_, ?_⟩
    · show (if s.coresAway then ({ s with reb := { s.reb with rateDue := true } } : State) else s.rebuildRate).reb.rateDue = true
      rw [if_pos hc]
    · rw [get_only_in _ _ _ _ _ rfl, if_pos hc]
      rfl
    · rw [get_only_in _ _ _ _ _ rfl, if_pos hc]
      rfl
  · refine ⟨_, rfl, ?_⟩
    have e : s.rebuildRate = (s.set TMS_REBUILD_FLOOR_floor 0 0).set TMS_TENANT_CFG_weight 4095
        (min (atLeast1 (s.get REB_WEIGHT_CFG_w_min)) (atLeast1 (s.get REB_WEIGHT_CFG_w_max))) := by
      unfold State.rebuildRate
      dsimp only
      rw [hl]
    constructor
    · rw [get_only_in _ _ _ _ _ rfl, if_neg (by rw [hc]; decide), e, get_set_field _ _ _ _ (by decide)]
      exact get_set_same _ _ _ _
    · rw [get_only_in _ _ _ _ _ rfl, if_neg (by rw [hc]; decide), e]
      exact get_set_same _ _ _ _
  · refine ⟨_, rfl, ?_⟩
    rw [get_only_in _ _ _ _ _ rfl, if_neg (by rw [hc]; decide)]
    have h0 : (s.set TMS_REBUILD_FLOOR_floor 0 (s.get REB_RATE_CFG_floor_r0 * 1000)).get TMS_REBUILD_FLOOR_floor 0 =
        s.get REB_RATE_CFG_floor_r0 * 1000 % 2 ^ TMS_REBUILD_FLOOR_floor.w := get_set_same _ _ _ _
    unfold State.rebuildRate
    dsimp only
    rw [hl]
    dsimp only
    rw [if_pos hr]
    generalize s.set TMS_REBUILD_FLOOR_floor 0 (s.get REB_RATE_CFG_floor_r0 * 1000) = u at h0 ⊢
    split
    · exact h0
    · split
      · rw [get_set_field _ _ _ _ (by decide)]
        exact h0
      · split
        · rw [get_set_field _ _ _ _ (by decide)]
          exact h0
        · exact h0

end Sys2Proof.Machine
end

section
/-! PROOFS. The forwarding tables: learn and hit messages, ageing, rehash and FWD_CMD (R373 to R383). -/

namespace Sys2Proof.Machine

open F

/-! ## A table written -/

/-- What a table change writes beside the table. -/
def fwdW : Writes := { parts := [.fwd], fields := [FWD_EPOCH_current, FWD_TABLE_entries, FWD_TABLE_stash_used, FWD_PORT_CFG_learned] }

@[simp] theorem fwdPut_fwd (s : State) (t n : Nat) (x : FwdTbl) :
    (s.fwdPut t n x).fwd = { s.fwd with tables := tput s.fwd.tables t x } := rfl

theorem fwdPut_ftab (s : State) (t n : Nat) (x : FwdTbl) : (s.fwdPut t n x).ftab t = x := by
  simp [State.ftab, tgetD]

theorem fwdPut_ftab_other (s : State) {t k : Nat} (n : Nat) (x : FwdTbl) (h : t ≠ k) : (s.fwdPut t n x).ftab k = s.ftab k := by
  simp [State.ftab, tgetD, tget_tput_other _ _ h]

theorem within_fwdPut (s : State) (t n : Nat) (x : FwdTbl) : Within fwdW s (s.fwdPut t n x) :=
  (((within_fwd s _ rfl).trans (within_set _ _ _ _ rfl)).trans (within_set _ _ _ _ rfl)).trans (within_set _ _ _ _ rfl)

theorem within_relearnAll (s : State) (l : List (BitVec 128)) : Within { fields := [FWD_PORT_CFG_learned] } s (s.relearnAll l) := by
  refine within_each _ _ _ fun s e => ?_
  split
  · unfold State.relearn
    exact within_ite _ (fun _ => within_set _ _ _ _ rfl) fun _ => .refl _ _
  · exact .refl _ _

theorem relearnAll_fwd (s : State) (l : List (BitVec 128)) : (s.relearnAll l).fwd = s.fwd := (within_relearnAll s l).fwd rfl

theorem ftab_congr {s t : State} (h : t.fwd = s.fwd) (k : Nat) : t.ftab k = s.ftab k := by rw [State.ftab, h]; rfl

/-! ## An empty table -/

/-- A table without entries. -/
def FwdTbl.Empty (x : FwdTbl) : Prop := x.slots = [] ∧ x.stash = []

theorem slotOf_empty (s : State) (t : Nat) (k : BitVec 64) (h : (s.ftab t).slots = []) : s.slotOf t k = none := by
  unfold State.slotOf
  dsimp only
  rw [h]
  simp

theorem fwdFind_empty (s : State) (t : Nat) (k : BitVec 64) (h : (s.ftab t).Empty) : s.fwdFind t k = none := by
  unfold State.fwdFind
  rw [slotOf_empty s t k h.1, h.2]
  rfl

theorem fwdPlace_empty (s : State) (t : Nat) (x : FwdTbl) (e : BitVec 128) (h : x.slots = []) :
    s.fwdPlace t x e =
      ⟨{ x with slots := [(((s.bucketsOf t (eBank e) (eKey e)).1, 0), e)], inserts := x.inserts + 1 }, .done, 1, 0⟩ := by
  unfold State.fwdPlace
  simp [h, tput]

/-- An entry as an insertion places it, under the insert bank. -/
def State.banked (s : State) (t : Nat) (e : BitVec 128) : BitVec 128 := eSet e 120 120 (s.insertBank t)

/-- The first entry of a table takes slot 0 of its first bucket. -/
theorem fwdInsert_empty (s : State) (t : Nat) (e : BitVec 128) (h : (s.ftab t).Empty) :
    (s.fwdInsert t e).2 = .done ∧
    ((s.fwdInsert t e).1.ftab t).slots =
      [(((s.bucketsOf t (eBank (s.banked t e)) (eKey (s.banked t e))).1, 0), s.banked t e)] ∧
    (∃ x, (s.fwdInsert t e).1.fwd = { s.fwd with tables := x }) := by
  have hs : (s.bump (ctrFwd t 3)).slotOf t (eKey e) = none := slotOf_empty _ t _ h.1
  have hp : (s.bump (ctrFwd t 3)).fwdPlace t (s.ftab t) (s.banked t e) = _ := fwdPlace_empty _ t _ _ h.1
  have he : s.fwdInsert t e = ((s.bump (ctrFwd t 3)).fwdPlacedAt t (s.banked t e)
      ((s.bump (ctrFwd t 3)).fwdPlace t (s.ftab t) (s.banked t e)),
      ((s.bump (ctrFwd t 3)).fwdPlace t (s.ftab t) (s.banked t e)).res) := by
    unfold State.fwdInsert
    dsimp only
    rw [hs]
    dsimp only
    rw [h.2]
    rfl
  rw [he, hp]
  unfold State.fwdPlacedAt
  dsimp only
  have hf := relearnAll_fwd ((s.bump (ctrFwd t 3)).fwdPut t 1
    { s.ftab t with slots := [((((s.bump (ctrFwd t 3)).bucketsOf t (eBank (s.banked t e)) (eKey (s.banked t e))).1, 0), s.banked t e)],
                    inserts := (s.ftab t).inserts + 1 }) [s.banked t e]
  refine ⟨rfl, ?_, _, hf⟩
  rw [if_pos rfl, ftab_congr hf, fwdPut_ftab]
  rfl

/-! ## Removal -/

theorem fwdRemove_kept (s : State) (t : Nat) (p : BitVec 128 → Bool) (h : ∀ e ∈ (s.ftab t).all, p e = false) : s.fwdRemove t p = s := by
  unfold State.fwdRemove
  have : (s.ftab t).all.filter p = [] := List.filter_eq_nil_iff.mpr fun e he => by simp [h e he]
  simp [this]

/-- After a removal the table holds the entries that did not meet the test. -/
theorem fwdRemove_ftab (s : State) (t : Nat) (p : BitVec 128 → Bool) :
    ((s.fwdRemove t p).ftab t).slots = (s.ftab t).slots.filter (fun a => !p a.2) ∧
    ((s.fwdRemove t p).ftab t).stash = (s.ftab t).stash.filter fun e => !p e := by
  by_cases h : ((s.ftab t).all.filter p).isEmpty = true
  · have hk : ∀ e ∈ (s.ftab t).all, p e = false := fun e he => by
      simpa using List.filter_eq_nil_iff.mp (List.isEmpty_iff.mp h) e he
    rw [fwdRemove_kept s t p hk]
    refine ⟨(List.filter_eq_self.mpr fun a ha => ?_).symm, (List.filter_eq_self.mpr fun e he => ?_).symm⟩
    · simp [hk a.2 (List.mem_append_left _ (List.mem_map_of_mem ha))]
    · simp [hk e (List.mem_append_right _ he)]
  · unfold State.fwdRemove
    dsimp only
    rw [if_neg h, ftab_congr (relearnAll_fwd _ _), fwdPut_ftab]
    exact ⟨rfl, rfl⟩

theorem fwdRemove_all (s : State) (t : Nat) (p : BitVec 128 → Bool) : ∀ e ∈ ((s.fwdRemove t p).ftab t).all, p e = false := by
  obtain ⟨h1, h2⟩ := fwdRemove_ftab s t p
  intro e he
  unfold FwdTbl.all at he
  rw [h1, h2] at he
  rcases List.mem_append.mp he with h | h
  · obtain ⟨a, ha, rfl⟩ := List.mem_map.mp h
    simpa using (List.mem_filter.mp ha).2
  · simpa using (List.mem_filter.mp h).2

theorem within_fwdRemove (s : State) (t : Nat) (p : BitVec 128 → Bool) : Within fwdW s (s.fwdRemove t p) := by
  unfold State.fwdRemove
  exact within_ite _ (fun _ => .refl _ _) fun _ =>
    (within_fwdPut _ _ _ _).trans ((within_relearnAll _ _).widen (by decide) (by decide) (by decide))

theorem fwdRemove_ftab_other (s : State) {t k : Nat} (p : BitVec 128 → Bool) (h : t ≠ k) : (s.fwdRemove t p).ftab k = s.ftab k := by
  unfold State.fwdRemove
  dsimp only
  split
  · rfl
  · rw [ftab_congr (relearnAll_fwd _ _), fwdPut_ftab_other _ _ _ h]

/-! ## Entries changed where they stand -/

/-- A table whose entries change where they stand; the table is written where one did change. -/
def State.mapTable (s : State) (t : Nat) (g : BitVec 128 → BitVec 128) : State :=
  if (fwdMap (s.ftab t) g).1 = 0 then s else s.fwdPut t (fwdMap (s.ftab t) g).1 (fwdMap (s.ftab t) g).2

theorem mapTable_one (s : State) (t : Nat) (g : BitVec 128 → BitVec 128) (p : Nat × Nat) (e : BitVec 128) (hs : (s.ftab t).slots = [(p, e)])
    (hst : (s.ftab t).stash = []) : ((s.mapTable t g).ftab t).slots = [(p, g e)] := by
  unfold State.mapTable
  split
  · rename_i h
    have : g e = e := by simpa [fwdMap, FwdTbl.all, hs, hst] using h
    rw [hs, this]
  · rw [fwdPut_ftab]
    simp [fwdMap, hs]

theorem mapTable_empty (s : State) (t : Nat) (g : BitVec 128 → BitVec 128) (h : (s.ftab t).Empty) : s.mapTable t g = s :=
  if_pos (by simp [fwdMap, FwdTbl.all, h.1, h.2])

theorem mapTable_ftab_other (s : State) {t k : Nat} (g : BitVec 128 → BitVec 128) (h : t ≠ k) : (s.mapTable t g).ftab k = s.ftab k := by
  unfold State.mapTable
  split
  · rfl
  · exact fwdPut_ftab_other _ _ _ h

theorem mapTable_hits (s : State) (t : Nat) (g : BitVec 128 → BitVec 128) : (s.mapTable t g).fwd.hits = s.fwd.hits := by
  unfold State.mapTable
  split <;> rfl

/-! ## Ageing -/

/-- Whether a sweep at a time removes an entry (R381). -/
def ageGone (now : Nat) (e : BitVec 128) : Bool := (!eStatic e && eKind e != 3 && eAge e = 3) || nsExpired now e

/-- An entry one sweep later. -/
def ageNext (e : BitVec 128) : BitVec 128 := if !eStatic e && eKind e != 3 && eAge e < 3 then eSet e 122 121 (eAge e + 1) else e

theorem ageTable_eq (s : State) (t : Nat) : s.ageTable t =
    ((s.bump (ctrFwd t 9) ((s.ftab t).all.filter (ageGone s.fwdSeconds)).length).fwdRemove t (ageGone s.fwdSeconds)).mapTable t ageNext := rfl

/-- The entry of a table of one entry, without expiry and not static, ages by one, and is gone at age 3. -/
theorem ageTable_one (s : State) (t : Nat) (p : Nat × Nat) (e : BitVec 128) (hs : (s.ftab t).slots = [(p, e)]) (hst : (s.ftab t).stash = [])
    (hstat : eStatic e = false) (hk : eKind e ≠ 3) :
    ((s.ageTable t).ftab t).slots = if eAge e = 3 then [] else [(p, eSet e 122 121 (eAge e + 1))] := by
  have hle : eAge e < 4 := Nat.mod_lt _ (by decide)
  have hg : ageGone s.fwdSeconds e = decide (eAge e = 3) := by simp [ageGone, nsExpired, hstat, hk]
  rw [ageTable_eq]
  obtain ⟨h1, h2⟩ := fwdRemove_ftab (s.bump (ctrFwd t 9) ((s.ftab t).all.filter (ageGone s.fwdSeconds)).length) t (ageGone s.fwdSeconds)
  generalize State.fwdRemove _ t _ = r at h1 h2 ⊢
  replace h2 : (r.ftab t).stash = [] := h2.trans (congrArg _ hst)
  replace h1 : (r.ftab t).slots = [(p, e)].filter fun a => !ageGone s.fwdSeconds a.2 := h1.trans (congrArg _ hs)
  by_cases ha : eAge e = 3
  · have h1 : (r.ftab t).slots = [] := by rw [h1]; simp [hg, ha]
    rw [mapTable_empty _ _ _ ⟨h1, h2⟩, if_pos ha, h1]
  · have h1 : (r.ftab t).slots = [(p, e)] := by rw [h1]; simp [hg, ha]
    rw [mapTable_one r t _ p e h1 h2, if_neg ha]
    simp [ageNext, hstat, hk, show eAge e < 3 by omega]

theorem ageTable_ftab_other (s : State) {t k : Nat} (h : t ≠ k) : (s.ageTable t).ftab k = s.ftab k := by
  rw [ageTable_eq, mapTable_ftab_other _ _ h, fwdRemove_ftab_other _ _ h]
  rfl

/-! ## Rehash -/

/-- A table's rehash ended: the banks swapped, no request, the end reported. -/
def State.rehashed (s : State) (t : Nat) : State :=
  (((((s.fwdPut t 1 { s.ftab t with walk := 0 }).set FWD_TABLE_active t (1 - s.get FWD_TABLE_active t)).set FWD_TABLE_state t 0).set
    FWD_TABLE_req t 0).bump (ctrFwd t 11)).raise EV_FWD_REHASH_DONE 0 t

/-- A rehash of an empty table ends at once: the banks swap, and its end is all that is reported. -/
theorem rehashWalk_empty (s : State) (k : Nat) (hr : s.rehashing k = true) (hi : s.get FWD_LEARN_CFG_stash_hi ≠ 0) (h : (s.ftab k).Empty) :
    (s.rehashWalk k).get FWD_TABLE_active k = 1 - s.get FWD_TABLE_active k ∧ (s.rehashWalk k).get FWD_TABLE_state k = 0 ∧
    (s.rehashWalk k).get FWD_TABLE_req k = 0 ∧ Reports s (s.rehashWalk k) EV_FWD_REHASH_DONE 0 k [] := by
  have ho : oldEntries (s.ftab k) (s.get FWD_TABLE_active k) = [] := by simp [oldEntries, h.1, h.2]
  have he : s.rehashWalk k = if min ((s.rehashed k).get FWD_LEARN_CFG_stash_hi) 64 ≤ ((s.rehashed k).ftab k).stash.length then
      (s.rehashed k).rehashReq k else s.rehashed k := by
    unfold State.rehashWalk
    dsimp only
    rw [hr, ho]
    rfl
  have hst : ((s.rehashed k).ftab k).stash = [] :=
    (congrArg FwdTbl.stash (fwdPut_ftab s k 1 { s.ftab k with walk := 0 })).trans h.2
  rw [he, hst]
  unfold State.rehashed
  have hw := within_fwdPut s k 1 { s.ftab k with walk := 0 }
  generalize s.fwdPut k 1 _ = u at hw ⊢
  have hb : 1 - s.get FWD_TABLE_active k < 2 ^ FWD_TABLE_active.w := by
    show _ < 2
    omega
  have hlim : u.get FWD_LEARN_CFG_stash_hi = s.get FWD_LEARN_CFG_stash_hi := hw.regs _ _ rfl
  rw [if_neg (by
    rw [get_raise, get_bump, get_set_field _ _ _ _ (by decide), get_set_field _ _ _ _ (by decide), get_set_field _ _ _ _ (by decide), hlim]
    simp
    omega)]
  refine ⟨?_, ?_, ?_, ?_⟩
  · rw [get_raise, get_bump, get_set_field _ _ _ _ (by decide), get_set_field _ _ _ _ (by decide), get_set_same, Nat.mod_eq_of_lt hb]
  · rw [get_raise, get_bump, get_set_field _ _ _ _ (by decide), get_set_same]
    rfl
  · rw [get_raise, get_bump, get_set_same]
    rfl
  · refine reports_raise _ _ _ _ (hw.dtc rfl) (hw.evt rfl) fun f i hb => ?_
    rw [get_bump, get_set_evt _ _ _ _ (by decide) _ _ hb, get_set_evt _ _ _ _ (by decide) _ _ hb, get_set_evt _ _ _ _ (by decide) _ _ hb]
    exact hw.regs f i (field_of_other_block fwdW f i hb (by decide) (by decide))

/-- The seeds of the inactive bank are drawn where a request stands. -/
theorem newSeeds_after (s : State) (k : Nat) : (s.newSeeds k).rehashing k = s.rehashing k ∧
    (s.newSeeds k).get FWD_SEED_seed1 (ix2 2 k (1 - s.get FWD_TABLE_active k)) = beAt (s.drbg 1).1 0 4 ∧
    (s.newSeeds k).get FWD_SEED_seed2 (ix2 2 k (1 - s.get FWD_TABLE_active k)) = beAt (s.drbg 1).1 4 4 := by
  have hb : ∀ o, beAt (s.drbg 1).1 o 4 < 2 ^ 32 := fun o => beAt_lt _ _ _
  unfold State.newSeeds
  dsimp only
  have hr := drbg_regs s 1
  generalize s.drbg 1 = d at hr hb ⊢
  refine ⟨?_, ?_, ?_⟩
  · unfold State.rehashing
    rw [get_set_field _ _ _ _ (by decide), get_set_field _ _ _ _ (by decide), get_congr hr]
  · rw [get_set_field _ _ _ _ (by decide), get_set_same]
    exact Nat.mod_eq_of_lt (hb 0)
  · rw [get_set_same]
    exact Nat.mod_eq_of_lt (hb 4)

/-- FWD_CMD REHASH of a table that is not rehashing. -/
theorem fwdRehash_starts (s : State) (k : Nat) (hr : s.rehashing k = false) :
    (((if s.flag FWD_TABLE_req k && !s.rehashing k then s.newSeeds k else s).fwdCmdRehash k).get FWD_CMD_result = 0) ∧
    (((if s.flag FWD_TABLE_req k && !s.rehashing k then s.newSeeds k else s).fwdCmdRehash k).get FWD_TABLE_state k = 1) ∧
    (s.flag FWD_TABLE_req k = true →
      ((if s.flag FWD_TABLE_req k && !s.rehashing k then s.newSeeds k else s).fwdCmdRehash k).get FWD_SEED_seed1
        (ix2 2 k (1 - s.get FWD_TABLE_active k)) = beAt (s.drbg 1).1 0 4 ∧
      ((if s.flag FWD_TABLE_req k && !s.rehashing k then s.newSeeds k else s).fwdCmdRehash k).get FWD_SEED_seed2
        (ix2 2 k (1 - s.get FWD_TABLE_active k)) = beAt (s.drbg 1).1 4 4) := by
  obtain ⟨h1, h2, h3⟩ := newSeeds_after s k
  generalize hu : (if s.flag FWD_TABLE_req k && !s.rehashing k then s.newSeeds k else s) = u
  have hn : u.rehashing k = false := by
    rw [← hu]
    split
    · rw [h1, hr]
    · exact hr
  simp only [State.fwdCmdRehash, hn, Bool.false_eq_true, if_false, State.fwdResult]
  refine ⟨get_set_same _ _ _ _, ?_, fun hq => ?_⟩
  · rw [get_set_field _ _ _ _ (by decide), get_set_same]
    rfl
  · rw [hq, hr, Bool.not_false, Bool.true_and, if_pos rfl] at hu
    rw [get_set_field _ _ _ _ (by decide), get_set_field _ _ _ _ (by decide), get_set_field _ _ _ _ (by decide),
      get_set_field _ _ _ _ (by decide), ← hu]
    exact ⟨h2, h3⟩

/-! ## Messages -/

/-- The state as the front learning message of the queue in turn is taken. -/
def State.learnTaken (s : State) (rest : List LearnMsg) : State :=
  { s with fwd := { s.fwd with learn := tput s.fwd.learn s.fwd.turn rest, turn := 1 - s.fwd.turn } }

/-- A message for a key that its table does not hold is inserted. -/
theorem learnMessage_front (s : State) (m : LearnMsg) (rest : List LearnMsg) (hq : tgetD s.fwd.learn s.fwd.turn [] = m :: rest)
    (hn : (s.learnTaken rest).fwdFind m.table (eKey m.entry) = none) :
    s.learnMessage = ((s.learnTaken rest).fwdInsert m.table m.entry).1 := by
  unfold State.learnMessage
  dsimp only
  rw [hq]
  simp only [List.isEmpty_cons, Bool.false_eq_true, if_false, hq]
  split
  · rename_i o h
    exact absurd (h.symm.trans hn) (by simp)
  · rfl

/-- The state as the front hit message of a pipeline is taken. -/
def State.hitTaken (s : State) (k : Nat) (rest : List HitMsg) : State := { s with fwd := { s.fwd with hits := tput s.fwd.hits k rest } }

theorem hitMessage_front (s : State) (k : Nat) (m : HitMsg) (rest : List HitMsg) (hq : tgetD s.fwd.hits k [] = m :: rest) :
    s.hitMessage k = (s.hitTaken k rest).mapTable m.table fun e =>
      if eKey e = m.key && (eBank e = 1) = m.bank && !eStatic e then eSet e 122 121 0 else e := by
  unfold State.hitMessage
  rw [hq]
  rfl

/-! ## The family -/

/-- Settles O40: the messages, sweeps and operations on a table. -/
theorem forwardingTables : Obligations.ForwardingTables := by
  unfold Obligations.ForwardingTables
  refine ⟨?_, ?_, ?_, ?_, ?_, ?_, ?_, ?_, ?_, ?_, ?_, ?_, ?_, ?_, ?_⟩
  · intro s m rest hq hs hst
    refine ⟨_, rfl, ?_⟩
    show tget (s.learnMessage).fwd.learn _ = _ ∧ (s.learnMessage).fwd.turn = _ ∧ ((s.learnMessage).ftab m.table).slots = _
    have he : ((s.learnTaken rest).ftab m.table).Empty := ⟨hs, hst⟩
    rw [learnMessage_front s m rest hq (fwdFind_empty _ _ _ he)]
    obtain ⟨-, h1, x, h2⟩ := fwdInsert_empty (s.learnTaken rest) m.table m.entry he
    rw [h1, h2]
    exact ⟨tget_tput_same _ _ _, rfl, rfl⟩
  · intro s k m rest p e hq hs hst hk hb hstat
    refine ⟨_, rfl, ?_⟩
    show tget (s.hitMessage k).fwd.hits k = _ ∧ ((s.hitMessage k).ftab m.table).slots = _
    rw [hitMessage_front s k m rest hq, mapTable_hits, mapTable_one (s.hitTaken k rest) _ _ p e hs hst]
    refine ⟨tget_tput_same _ _ _, ?_⟩
    simp [hk, hb, hstat]
  · intro s p e hsw hs hst hstat hk
    refine ⟨_, rfl, ?_⟩
    show ((s.agerSweep).ftab 0).slots = _
    unfold State.agerSweep
    rw [if_neg hsw, ageTable_ftab_other _ (by decide), ageTable_one s 0 p e hs hst hstat hk]
  · intro s hsw
    refine ⟨_, rfl, ?_⟩
    show (s.agerSweep).fwd = _
    rw [State.agerSweep, if_pos hsw]
  · intro s k hk hr hi hs hst
    have h := rehashWalk_empty s k hr hi ⟨hs, hst⟩
    refine ⟨_, rfl, ?_⟩
    rw [if_pos hk]
    obtain ⟨h1, h2, h3, h4⟩ := h
    exact ⟨(get_only_in _ _ _ _ _ rfl).trans h1, (get_only_in _ _ _ _ _ rfl).trans h2, (get_only_in _ _ _ _ _ rfl).trans h3, h4.congr rfl⟩
  · intro s k hk hr hi hs hst
    have h := rehashWalk_empty s k (by simp [State.rehashing, hr]) hi ⟨hs, hst⟩
    refine ⟨_, rfl, ?_⟩
    rw [if_pos hk, State.rehashRetry, if_pos hr]
    obtain ⟨-, h2, -, h4⟩ := h
    exact ⟨(get_only_in _ _ _ _ _ rfl).trans h2, h4.congr rfl⟩
  · intro s k hk hv hs hst
    refine ⟨_, rfl, ?_⟩
    rw [if_pos hk]
    obtain ⟨h1, h2, -⟩ := fwdInsert_empty s k s.fwdOperand ⟨hs, hst⟩
    unfold State.fwdCmdInsert
    simp only [hv, Bool.not_true, Bool.false_eq_true, if_false, h1]
    refine ⟨(get_only_in _ _ _ _ _ rfl).trans (get_set_same _ _ _ _), ?_⟩
    show List.map _ (((s.fwdInsert k s.fwdOperand).1).ftab k).slots = _
    rw [h2]
    rfl
  · intro s k hk hv
    refine ⟨_, rfl, ?_⟩
    rw [if_pos hk]
    unfold State.fwdCmdInsert
    simp only [hv, Bool.not_false, if_true]
    exact ⟨(get_only_in _ _ _ _ _ rfl).trans (get_set_same _ _ _ _), rfl⟩
  · intro s k e hk hf
    refine ⟨_, rfl, ?_⟩
    rw [if_pos hk]
    unfold State.fwdCmdDelete
    simp only [hf]
    refine ⟨(get_only_in _ _ _ _ _ rfl).trans (get_set_same _ _ _ _), fun o ho => ?_⟩
    simpa using fwdRemove_all s k (fun e => eKey e = eKey s.fwdOperand) o ho
  · intro s k hk hf
    refine ⟨_, rfl, ?_⟩
    rw [if_pos hk]
    unfold State.fwdCmdDelete
    simp only [hf]
    exact ⟨(get_only_in _ _ _ _ _ rfl).trans (get_set_same _ _ _ _), rfl⟩
  · intro s k e hk hf
    refine ⟨_, rfl, ?_⟩
    rw [if_pos hk]
    unfold State.fwdCmdLookup
    simp only [hf]
    have hlo : e.toNat % 2 ^ 64 < 2 ^ 64 := Nat.mod_lt _ (by decide)
    have hhi : e.toNat / 2 ^ 64 < 2 ^ 64 := Nat.div_lt_of_lt_mul (by have := e.isLt; omega)
    refine ⟨(get_only_in _ _ _ _ _ rfl).trans (get_set_same _ _ _ _), (get_only_in _ _ _ _ _ rfl).trans ?_,
      (get_only_in _ _ _ _ _ rfl).trans ?_, rfl⟩
    · rw [State.fwdResult, get_set_field _ _ _ _ (by decide), get_set_elem _ _ _ (by decide), get_set_same]
      exact Nat.mod_eq_of_lt hlo
    · rw [State.fwdResult, get_set_field _ _ _ _ (by decide), get_set_same]
      exact Nat.mod_eq_of_lt hhi
  · intro s k p hk hp
    refine ⟨_, rfl, ?_⟩
    rw [if_pos hk, Nat.mod_eq_of_lt hp]
    refine ⟨(get_only_in _ _ _ _ _ rfl).trans (get_set_same _ _ _ _), fun e he => ?_⟩
    have h := fwdRemove_all s k _ e he
    simp only [Bool.and_eq_false_iff, Bool.not_eq_false', Bool.or_eq_false_iff, decide_eq_false_iff_not] at h
    rcases h with (h | h) | h
    · exact .inl h
    · exact .inr (.inl h)
    · exact .inr (.inr h)
  · intro s k hk hr
    refine ⟨_, rfl, ?_⟩
    rw [if_pos hk]
    obtain ⟨h1, h2, -⟩ := fwdRehash_starts s k hr
    exact ⟨(get_only_in _ _ _ _ _ rfl).trans h1, (get_only_in _ _ _ _ _ rfl).trans h2⟩
  · intro s k i hk hr hq hi
    refine ⟨_, rfl, ?_⟩
    rw [if_pos hk]
    obtain ⟨-, h2, h3⟩ := fwdRehash_starts s k hr
    obtain ⟨h3, h4⟩ := h3 hq
    rw [hi] at h3 h4
    exact ⟨(get_only_in _ _ _ _ _ rfl).trans h2, (get_only_in _ _ _ _ _ rfl).trans h3, (get_only_in _ _ _ _ _ rfl).trans h4⟩
  · intro s k hk hr
    refine ⟨_, rfl, ?_⟩
    rw [if_pos hk, hr]
    simp only [Bool.not_true, Bool.and_false, Bool.false_eq_true, if_false, State.fwdCmdRehash, hr, if_true]
    exact ⟨(get_only_in _ _ _ _ _ rfl).trans (get_set_same _ _ _ _),
      (get_only_in _ _ _ _ _ rfl).trans (get_set_field _ _ _ _ (by decide))⟩

end Sys2Proof.Machine
end

section
/-! PROOFS. LEARN records: records taken from neighbours, the module's own, location records (R341 to R343, R380). -/

namespace Sys2Proof.Machine

open F

/-! ## Records sent -/

/-- Records went out or into the queue: the rest of the FWD part is as before. -/
def Learns (s t : State) : Prop := ∃ l q, t.fwd = { s.fwd with lastSent := l, outQueue := q }

theorem Learns.refl (s : State) : Learns s s := ⟨_, _, rfl⟩

theorem Learns.trans {s t u : State} (h : Learns s t) (k : Learns t u) : Learns s u := by
  obtain ⟨_, _, h⟩ := h
  obtain ⟨l, q, k⟩ := k
  exact ⟨l, q, by rw [k, h]⟩

theorem Learns.each {α : Type} {f : State → α → State} (h : ∀ s x, Learns s (f s x)) (s : State) (l : List α) : Learns s (s.each l f) := by
  induction l generalizing s with
  | nil => exact .refl s
  | cons x l ih => exact (h s x).trans (ih _)

theorem Learns.ftab {s t : State} (h : Learns s t) (k : Nat) : t.ftab k = s.ftab k := by
  obtain ⟨_, _, h⟩ := h
  rw [State.ftab, h]
  rfl

theorem learnNow_fwd (s : State) (o : LearnOut) : (s.learnNow o).fwd = { s.fwd with lastSent := tput s.fwd.lastSent o.port s.dtc } := by
  unfold State.learnNow
  extract_lets w _ _ p t
  rw [bump_fwd, (within_sendOn _ _ _ _ _).fwd rfl]
  rfl

theorem learnSend_learns (s : State) (o : LearnOut) : Learns s (s.learnSend o) := by
  unfold State.learnSend
  split
  · exact ⟨_, _, learnNow_fwd s o⟩
  · split <;> exact ⟨_, _, rfl⟩

theorem originate_fwd (s : State) (ports : List Nat) (loc : Option LocRec) (mod : Option ModRec) :
    ∃ l q, (s.originate ports loc mod).fwd = { s.fwd with originSeq := s.fwd.originSeq + 1, lastSent := l, outQueue := q } :=
  Learns.each (f := fun s p => s.learnSend ⟨p, s.get PAIR_LOC_CFG_hop_limit, _, loc, mod⟩) (fun s _ => learnSend_learns s _) _ ports

theorem originate_withdraws (s : State) (ports : List Nat) (loc : Option LocRec) (mod : Option ModRec) :
    (s.originate ports loc mod).fwd.withdraws = s.fwd.withdraws := by
  obtain ⟨_, _, h⟩ := originate_fwd s ports loc mod
  rw [h]

theorem each_withdraws {α : Type} {f : State → α → State} (h : ∀ s x, (f s x).fwd.withdraws = s.fwd.withdraws) (s : State) (l : List α) :
    (s.each l f).fwd.withdraws = s.fwd.withdraws := by
  induction l generalizing s with
  | nil => rfl
  | cons x l ih => exact (ih _).trans (h s x)

theorem relay_learns (s : State) (arrival hop : Nat) (q : Word32) (loc : Option LocRec) (mod : Option ModRec) :
    Learns s (s.relay arrival hop q loc mod) := by
  unfold State.relay
  split
  · exact .refl s
  · exact .each (fun s _ => learnSend_learns s _) _ _

/-! ## Records taken -/

/-- A record of another module, unknown so far, is entered with one hop more. -/
theorem takeModRec_new (s : State) (arrival mac hop : Nat) (q : Word32) (r : ModRec) (hr : r.moduleId ≠ s.moduleId) (hh : r.hops < 15)
    (hw : r.withdraw = false) (h : (s.ftab 0).Empty) :
    ((s.takeModRec arrival mac hop q r).ftab 0).slots.map (·.2) =
      [s.banked 0 (mkModule r.moduleId (s.learnPort arrival).1 (s.learnPort arrival).2 (r.hops + 1) mac)] := by
  unfold State.takeModRec
  dsimp only
  rw [fwdFind_empty s 0 _ h]
  simp only [hr, decide_false, show ¬ 15 < r.hops + 1 by omega, Bool.or_false, Bool.false_eq_true, if_false, hw, Bool.not_true, if_true]
  rw [(relay_learns _ _ _ _ _ _).ftab, (fwdInsert_empty s 0 _ h).2.1]
  rfl

/-- A location record of an unknown namespace is entered while there is room. -/
theorem takeLocRec_new (s : State) (arrival hop : Nat) (q : Word32) (r : LocRec) (hw : r.withdraw = false) (h : (s.ftab 0).Empty)
    (hn : s.get PAIR_LOC_CFG_ns_loc_max ≠ 0) :
    ((s.takeLocRec arrival hop q r).ftab 0).slots.map (·.2) = [s.banked 0 (mkNs r.nsid r.ownerId r.ownerGen (s.fwdSeconds + r.ttl))] := by
  have hb : ((s.bump (ctrPair 10)).ftab 0).Empty := h
  have hl : (s.bump (ctrPair 10)).locHeld = 0 := by simp [State.locHeld, FwdTbl.all, hb.1, hb.2]
  unfold State.takeLocRec
  extract_lets b k e old later
  have ho : old = none := fwdFind_empty b 0 k hb
  rw [ho]
  dsimp only
  rw [if_neg (by simp [hw]), if_neg (by rw [hl]; show ¬ min (s.get PAIR_LOC_CFG_ns_loc_max) 524288 ≤ 0; omega)]
  have hlater : ∀ u : State, (later u true).ftab 0 = u.ftab 0 := fun u => by
    show State.ftab (if _ then _ else _) 0 = _
    rw [if_pos (Bool.true_or _), (relay_learns _ _ _ _ _ _).ftab]
    rfl
  rw [hlater]
  rw [(fwdInsert_empty b 0 e hb).2.1]
  rfl

/-! ## The family -/

/-- Settles O41: records learned from a neighbour, sent anew and taken from their queue. -/
theorem learnRecords : Obligations.LearnRecords := by
  unfold Obligations.LearnRecords
  refine ⟨?_, ?_, ?_, ?_, ?_, ?_⟩
  · intro s b h g mac hop q l r ha hl hop0 hen hid hh hw hs hst
    refine ⟨_, rfl, ?_⟩
    show ((s.learnModuleRx ⟨{ h with opcode := 11 }, .learnMod hop q l, g⟩ mac hop q l).ftab 0).slots.map _ = _
    unfold State.learnModuleRx
    dsimp only
    rw [ha, hl]
    simp only [hop0, hen, decide_false, Bool.not_true, Bool.or_self, Bool.false_eq_true, if_false]
    exact takeModRec_new b g.port mac hop q r hid hh hw ⟨hs, hst⟩
  · intro s hen
    refine ⟨_, rfl, ?_⟩
    show (s.moduleRefresh).fwd.originSeq = _
    obtain ⟨_, _, h⟩ := originate_fwd s s.clusterPorts none (some s.ownModRec)
    rw [State.moduleRefresh, if_pos hen, h]
  · intro s hen
    refine ⟨_, rfl, ?_⟩
    show (s.moduleRefresh).fwd = _ ∧ s.outbox = _
    rw [State.moduleRefresh, if_neg (by simp [hen])]
    exact ⟨rfl, rfl⟩
  · intro s b p hop q l r ha hl hop0 hw hs hst hn
    refine ⟨_, rfl, ?_⟩
    show ((s.learnLocationRx p hop q l).ftab 0).slots.map _ = _
    unfold State.learnLocationRx
    dsimp only
    rw [ha, hl]
    simp only [hop0, decide_false, Bool.not_true, Bool.or_self, Bool.false_eq_true, if_false]
    exact takeLocRec_new b p.ing.port hop q r hw ⟨hs, hst⟩ hn
  · intro s
    refine ⟨_, rfl, ?_⟩
    show (s.locRefresh).fwd.withdraws = _
    unfold State.locRefresh
    extract_lets u due v
    have hu : u.fwd.withdraws = s.fwd.withdraws := each_withdraws (fun s _ => originate_withdraws s _ _ _) _ _
    rw [each_withdraws (fun s _ => originate_withdraws s _ _ _)]
    show due.filterMap _ = _
    rw [show due = s.fwd.withdraws from hu]
  · intro s p o ho hr
    have hp : o.port = p := by simpa using List.find?_some ho
    refine ⟨_, rfl, ?_⟩
    show (s.learnDrain p).fwd.outQueue = _ ∧ tget (s.learnDrain p).fwd.lastSent p = _
    unfold State.learnDrain
    rw [ho]
    simp only [hr, if_true, learnNow_fwd, hp]
    exact ⟨trivial, tget_tput_same _ _ _⟩

end Sys2Proof.Machine
end

section
/-! PROOFS. Width adaptation, hedge windows and late hedges (R233, R236, R237, R240). -/

namespace Sys2Proof.Machine

open F

/-- A property that each step of a list keeps. -/
theorem each_holds {α : Type} {P : State → Prop} {f : State → α → State} (h : ∀ s x, P s → P (f s x)) (l : List α) {s : State} (hs : P s) :
    P (s.each l f) := by
  induction l generalizing s with
  | nil => exact hs
  | cons x l ih => exact ih (h s x hs)

/-! ## Width adaptation -/

/-- The width that a group's statistics ask for (R233). -/
def State.widthNext (s : State) (g : Nat) : Nat :=
  if s.get STR_ADAPT_CFG_pad_hi_pct * (tgetD s.str.stats g {}).stripes < 100 * (tgetD s.str.stats g {}).padded then
    max (s.groupKmin g) (s.kCur g - atLeast1 (s.get STR_ADAPT_CFG_step))
  else if 100 * (tgetD s.str.stats g {}).padded < s.get STR_ADAPT_CFG_pad_lo_pct * (tgetD s.str.stats g {}).stripes ∧
      1 ≤ (tgetD s.str.stats g {}).stripes then min (s.kCap g) (s.kCur g + atLeast1 (s.get STR_ADAPT_CFG_step))
  else s.kCur g

/-- The state of a group with its statistics cleared and its padding and width shown. -/
def State.widthShown (s : State) (g : Nat) : State :=
  (State.set { s with str := { s.str with stats := tdel s.str.stats g } } STR_GROUP_STATUS_pad_pm g
    (if (tgetD s.str.stats g {}).stripes = 0 then 0 else (tgetD s.str.stats g {}).padded * 1000 / (tgetD s.str.stats g {}).stripes)).set
    STR_GROUP_STATUS_k_cur g (s.widthNext g)

theorem adapt_enabled (s : State) (g : Nat) (h : s.flag STR_GROUP_CFG_adapt_en g = true) :
    s.adapt g = if s.widthNext g = s.kCur g then s.widthShown g
      else ((s.widthShown g).raise EV_STR_WIDTH_CHANGED 0 g [s.widthNext g]).bump (ctrStrG g 7) := by
  unfold State.adapt
  extract_lets st cur step k _ a b
  have hf : b.flag STR_GROUP_CFG_adapt_en g = true := (flag_set_field a _ _ _ (by decide)).trans h
  have hk : k = s.widthNext g := by simp only [k, State.widthNext, Bool.and_eq_true, decide_eq_true_eq, st, cur, step]
  rw [if_pos hf]
  clear_value k
  subst hk
  rfl

theorem widthShown_get (s : State) (g : Nat) : (s.widthShown g).get STR_GROUP_STATUS_k_cur g = s.widthNext g % 2 ^ STR_GROUP_STATUS_k_cur.w :=
  get_set_same _ _ _ _

theorem widthShown_pad (s : State) (g : Nat) (h : (tgetD s.str.stats g {}).padded = 0) :
    (s.widthShown g).get STR_GROUP_STATUS_pad_pm g = 0 := by
  rw [State.widthShown, get_set_field _ _ _ _ (by decide), get_set_same, h]
  simp

/-! ## Hedge windows -/

/-- A member's prediction shown and its unit cleared. -/
def State.predShown (s : State) (x : Nat) : State :=
  { (s.set STR_MEMBER_STATUS_few_samples x (bit (s.predOf x).isNone)).set STR_MEMBER_STATUS_pred x ((s.predOf x).getD 0) with tel := tdel s.tel x }

/-- What the window's end shows of a member. -/
def PredIs (p : Option Nat) (t : State) (x : Nat) : Prop :=
  tget t.tel x = none ∧ t.get STR_MEMBER_STATUS_few_samples x = bit p.isNone ∧
    t.get STR_MEMBER_STATUS_pred x = p.getD 0 % 2 ^ STR_MEMBER_STATUS_pred.w

theorem predOf_congr {s t : State} {x : Nat} (hr : ∀ f i, f.reg = STR_HEDGE_CFG_min_samples.reg → t.get f i = s.get f i)
    (ht : tget t.tel x = tget s.tel x) : t.predOf x = s.predOf x := by
  unfold State.predOf tgetD
  rw [ht, hr STR_HEDGE_CFG_min_samples 0 rfl, hr STR_HEDGE_CFG_quantile_pm 0 rfl]

theorem predShown_hedgeCfg (s : State) (x : Nat) (f : Fld) (i : Nat) (h : f.reg = STR_HEDGE_CFG_min_samples.reg) :
    (s.predShown x).get f i = s.get f i := by
  have hne : ∀ g : Fld, g.reg ≠ STR_HEDGE_CFG_min_samples.reg → (g.reg, g.lo) ≠ (f.reg, f.lo) := fun g hg e =>
    hg ((congrArg Prod.fst e).trans h)
  exact (get_set_field _ _ _ _ (hne _ (by decide))).trans (get_set_field _ _ _ _ (hne _ (by decide)))

theorem predShown_is (s : State) (x : Nat) : PredIs (s.predOf x) (s.predShown x) x := by
  refine ⟨tget_tdel_same _ _, ?_, get_set_same _ _ _ _⟩
  show ((s.set _ _ _).set _ _ _).get _ _ = _
  rw [get_set_field _ _ _ _ (by decide), get_set_same]
  cases s.predOf x <;> rfl

theorem predShown_other (s : State) {x y : Nat} (h : x ≠ y) (p : Option Nat) : PredIs p (s.predShown x) y ↔ PredIs p s y := by
  have h1 : tget (s.predShown x).tel y = tget s.tel y := tget_tdel_other _ h
  have h2 : ∀ f, (s.predShown x).get f y = s.get f y := fun f => (get_set_other _ _ fun e => h (congrArg RKey.idx e)).trans
    (get_set_other _ _ fun e => h (congrArg RKey.idx e))
  unfold PredIs
  rw [h1, h2, h2]

/-- After the members of a list are shown, each shows the prediction it had before. -/
theorem each_predShown (l : List Nat) (hl : l.Nodup) (s : State) :
    ∀ x ∈ l, PredIs (s.predOf x) (s.each l State.predShown) x := by
  induction l generalizing s with
  | nil => simp
  | cons y l ih =>
    obtain ⟨hy, hl⟩ := List.nodup_cons.mp hl
    intro x hx
    have hkeep : ∀ (l : List Nat) (s : State) (z : Nat) p, z ∉ l → PredIs p s z → PredIs p (s.each l State.predShown) z := by
      intro l
      induction l with
      | nil => exact fun s z p _ h => h
      | cons w l ih =>
        intro s z p hz h
        rw [List.mem_cons, not_or] at hz
        exact ih _ _ _ hz.2 ((predShown_other s (Ne.symm hz.1) p).mpr h)
    rcases List.mem_cons.mp hx with rfl | hx
    · exact hkeep l _ _ _ hy (predShown_is s x)
    · have hxy : y ≠ x := fun e => hy (e ▸ hx)
      have := ih hl (s.predShown y) x hx
      rwa [predOf_congr (fun f i h => predShown_hedgeCfg s y f i h) (tget_tdel_other _ hxy)] at this

theorem within_slowShown (s : State) (f : State → Nat → Bool) (l : List Nat) :
    Within { parts := [.ctr], fields := [STR_MEMBER_STATUS_slow] } s (s.each l fun s x =>
      if f s x then (s.set STR_MEMBER_STATUS_slow x (bit (f s x))).enter (ctrStrM x 3)
      else (s.set STR_MEMBER_STATUS_slow x (bit (f s x))).leave (ctrStrM x 3)) :=
  within_each _ _ _ fun s _ => within_ite _ (fun _ => (within_set s _ _ _ rfl).trans (within_enter _ _ rfl))
    fun _ => (within_set s _ _ _ rfl).trans (within_leave _ _ rfl)

theorem hedgeWindow_preds (s : State) (x : Nat) (hx : x < 32) : PredIs (s.predOf x) s.hedgeWindow x := by
  have h := each_predShown (List.range 32) List.nodup_range s x (List.mem_range.mpr hx)
  unfold State.hedgeWindow
  extract_lets v t _ u
  change PredIs _ v x at h
  obtain ⟨h1, h2, h3⟩ := h
  clear_value v
  have w := within_slowShown u (fun s x => match t with
      | some t => s.live x && !s.flag STR_MEMBER_STATUS_few_samples x && decide (t < s.get STR_MEMBER_STATUS_pred x)
      | none => false) (List.range 32)
  exact ⟨(congrArg (fun m => tget m x) (w.tel rfl)).trans h1, (w.regs _ _ rfl).trans h2, (w.regs _ _ rfl).trans h3⟩

/-! ## Late hedges -/

/-- The present millisecond's reads are being counted. -/
def State.Ticked (s : State) : Prop := s.dtc.toNat / 1600000 = s.str.readsMs

theorem readsTick_ticked (s : State) : s.readsTick.Ticked := by
  unfold State.readsTick State.Ticked
  dsimp only
  split
  · assumption
  · rfl

/-- A row read hedged late: the budget's count, and the read marked. -/
def Hedged (n r : Nat) (x : RowRead) (t : State) : Prop :=
  t.Ticked ∧ t.str.hedged = n ∧ ∃ y, tget t.str.reads r = some y ∧ y.hedged = true ∧ y.use = x.use ∧ y.seg = x.seg ∧ y.off = x.off

theorem readChunk_hedged {n r : Nat} {x : RowRead} {t : State} (h : Hedged n r x t) (y : RowRead) (g : Seg) (c : Nat) :
    Hedged n r x (t.readChunk r y g c) := by
  obtain ⟨ht, hn, z, hz, h1, h2, h3, h4⟩ := h
  have he : t.readsTick = t := if_pos ht
  unfold State.readChunk
  dsimp only
  rw [he]
  refine ⟨?_, ?_, { z with out := z.out ++ [c] }, ?_, h1, h2, h3, h4⟩
  · unfold State.Ticked
    rw [(within_driveQueue _ _ _ _ _).dtc rfl, (within_driveQueue _ _ _ _ _).str rfl]
    exact ht
  · rw [(within_driveQueue _ _ _ _ _).str rfl]
    exact hn
  · rw [(within_driveQueue _ _ _ _ _).str rfl]
    exact (tget_tmod_same _ _ _).trans (congrArg _ hz)

theorem hedge_hedged (s : State) (r : Nat) (x : RowRead) (g : Seg) (hx : tget s.str.reads r = some x) (hg : s.seg x.seg = some g)
    (hh : x.hedged = false) (hr : x.recon = false) (hd : x.done = false)
    (hl : g.k ≤ ((s.readsTick.spare x g).filter fun d => !s.slow (chunkMember g (s.place g x.off).1 d)).length)
    (hb : s.readsTick.hedgeBudget g.k = true) : Hedged (s.readsTick.str.hedged + g.k) r x (s.hedge r) := by
  have hx' : tget s.readsTick.str.reads r = some x := by
    obtain ⟨_, _, _, _, e⟩ := readsTick_eq s
    rw [e]
    exact hx
  have hg' : s.readsTick.seg x.seg = some g := by
    obtain ⟨_, _, _, _, e⟩ := readsTick_eq s
    rw [e]
    exact hg
  unfold State.hedge
  dsimp only
  rw [hx']
  dsimp only
  rw [hg']
  dsimp only
  simp only [readsTick_place, slow_congr (readsTick_regs s)]
  rw [hh, hr, hd, hb, if_neg (by simpa using hl)]
  exact each_holds (P := Hedged (s.readsTick.str.hedged + g.k) r x) (fun t d ht => readChunk_hedged ht x g d) _
    ⟨readsTick_ticked s, rfl, _, tget_tput_same _ _ _, rfl, rfl, rfl, rfl⟩

/-! ## The family -/

/-- Settles O28: a group's width, the members' predictions, a read hedged late. -/
theorem adaptationAndHedging : Obligations.AdaptationAndHedging := by
  unfold Obligations.AdaptationAndHedging
  refine ⟨?_, ?_, ?_, ?_⟩
  · intro s g hg hen hhi hne
    have hk : s.widthNext g = max (s.groupKmin g) (s.kCur g - atLeast1 (s.get STR_ADAPT_CFG_step)) := if_pos hhi
    refine ⟨_, rfl, ?_⟩
    rw [Nat.mod_eq_of_lt hg, adapt_enabled s g hen, hk, if_neg hne]
    refine ⟨tget_tdel_same _ _, (get_only_in _ _ _ _ _ rfl).trans ((widthShown_get s g).trans (by rw [hk])), Reports.congr (reports_raise (u := s.widthShown g) _ _ _ _ rfl rfl ?_) rfl⟩
    intro f i hf
    rw [State.widthShown, get_set_evt _ _ _ _ (by decide) _ _ hf, get_set_evt _ _ _ _ (by decide) _ _ hf]
    rfl
  · intro s g hg hen hst hp hlo
    have hk : s.widthNext g = min (s.kCap g) (s.kCur g + atLeast1 (s.get STR_ADAPT_CFG_step)) := by
      rw [State.widthNext, hp, if_neg (by omega), if_pos ⟨by positivity, hst⟩]
    refine ⟨_, rfl, ?_⟩
    rw [Nat.mod_eq_of_lt hg, adapt_enabled s g hen]
    have h1 := widthShown_pad s g hp
    have h2 := (widthShown_get s g).trans (by rw [hk])
    split
    · exact ⟨(get_only_in _ _ _ _ _ rfl).trans h1, (get_only_in _ _ _ _ _ rfl).trans h2⟩
    · exact ⟨(get_only_in _ _ _ _ _ rfl).trans h1, (get_only_in _ _ _ _ _ rfl).trans h2⟩
  · intro s
    have h := hedgeWindow_preds s
    refine ⟨_, rfl, fun x hx => ?_⟩
    generalize s.hedgeWindow = u at h ⊢
    obtain ⟨h1, h2, h3⟩ := h x hx
    exact ⟨h1, (get_only_in _ _ _ _ _ rfl).trans h2, (get_only_in _ _ _ _ _ rfl).trans h3⟩
  · intro s r x g hx hg hh hr hd hlate hthr hslow hfew hout hl hb
    obtain ⟨-, h⟩ := hedge_hedged s r x g hx hg hh hr hd hl hb
    refine ⟨_, rfl, ?_⟩
    have he : s.lateHedge r none = s.hedge r := by
      unfold State.lateHedge
      dsimp only
      rw [hx]
      dsimp only
      rw [hg]
      dsimp only
      rw [if_pos]
      simp [State.mayHedgeLate, hlate, hthr, hslow, hfew, hout]
    show (s.lateHedge r none).str.hedged = _ ∧ ∃ y, tget (s.lateHedge r none).str.reads r = some y ∧ _
    rw [he]
    exact h

end Sys2Proof.Machine
end

section
/-! PROOFS. The management sequence (R141, R142): a command taken in its turn, and the end of the one that runs. -/

namespace Sys2Proof.Machine

open F

/-! ## The end of a management command -/

/-- What the end of a management command writes. -/
def manageEndW : Writes := { parts := tableParts, fields := qpeLive ++ [JNL_FIRN_SEQ_next_seq, GLB_MGMT_SEQ_last_completed] }

/-- Nothing of the NSM part changes but the management sequence. -/
def SameNsm (s t : State) : Prop := t.nsm = { s.nsm with
  recorded := t.nsm.recorded, running := t.nsm.running, runSeq := t.nsm.runSeq, dels := t.nsm.dels, seqQueue := t.nsm.seqQueue }

theorem SameNsm.refl (s : State) : SameNsm s s := rfl

theorem SameNsm.trans {s t u : State} (h : SameNsm s t) (k : SameNsm t u) : SameNsm s u := by
  unfold SameNsm at *
  rw [k, h]

theorem SameNsm.of_nsm {s t : State} (h : t.nsm = s.nsm) : SameNsm s t := by rw [SameNsm, h]

theorem SameNsm.ns {s t : State} (h : SameNsm s t) (i : Nat) : t.ns i = s.ns i := by rw [State.ns, h]; rfl

/-- An outcome recorded: nothing runs, and the sequence has completed that far. -/
theorem mgmtRecord_after (s : State) (l : List NsImage) (q : Word32) (st : Status) (a b : Word32) :
    Within manageEndW s (s.mgmtRecord l q st a b) ∧
    (s.mgmtRecord l q st a b).qpe = s.qpe ∧
    (s.mgmtRecord l q st a b).nsm = { s.nsm with
      recorded := some ⟨q, st, a, b⟩, running := none, runSeq := none, dels := s.nsm.dels.filter fun d => d.1 != q } ∧
    (s.mgmtRecord l q st a b).get GLB_MGMT_SEQ_last_completed = q.toNat ∧
    (s.mgmtRecord l q st a b).get GLB_MGMT_SEQ_last_accepted = s.get GLB_MGMT_SEQ_last_accepted := by
  unfold State.mgmtRecord
  extract_lets shown _ noted
  have hw := within_metaAppend noted 0 (.nsGroup (l ++ [noted.mgmtImage]))
  generalize noted.metaAppend 0 (.nsGroup (l ++ [noted.mgmtImage])) = u at hw ⊢
  have h1 : Within manageEndW s noted := (within_set s _ _ _ rfl).trans (within_nsm _ _ rfl)
  refine ⟨h1.trans (hw.widen (by decide) (by decide) (by decide)), hw.qpe rfl, hw.nsm rfl, ?_, ?_⟩
  · rw [hw.regs _ _ rfl]
    exact (get_set_same _ _ _ _).trans (Nat.mod_eq_of_lt q.isLt)
  · rw [hw.regs _ _ rfl]
    exact get_set_field s _ _ _ (by decide)

theorem mgmtRecord_same (s : State) (l : List NsImage) (q : Word32) (st : Status) (a b : Word32) : SameNsm s (s.mgmtRecord l q st a b) := by
  obtain ⟨-, -, h, -⟩ := mgmtRecord_after s l q st a b
  unfold SameNsm
  rw [h]

/-- With nothing kept, management stays where it is. -/
theorem mgmtTurn_idle (n : Nat) (s : State) (hr : s.nsm.runSeq = none) (hd : s.nsm.dels = []) (hq : s.nsm.seqQueue = []) : s.mgmtTurn n = s := by
  cases n with
  | zero => rfl
  | succ n =>
    unfold State.mgmtTurn
    rw [hr, hd, hq]
    rfl

theorem mgmtTurn_kept (n : Nat) (s : State) : Within manageEndW s (s.mgmtTurn n) ∧ SameNsm s (s.mgmtTurn n) := by
  have hrec : ∀ (s : State) q st, Within manageEndW s (s.mgmtRecord [] q st 0 0) ∧ SameNsm s (s.mgmtRecord [] q st 0 0) := fun s q st =>
    ⟨(mgmtRecord_after s [] q st 0 0).1, mgmtRecord_same s [] q st 0 0⟩
  have htr : ∀ {s t u : State}, Within manageEndW s t ∧ SameNsm s t → Within manageEndW t u ∧ SameNsm t u → Within manageEndW s u ∧ SameNsm s u :=
    fun h k => ⟨h.1.trans k.1, h.2.trans k.2⟩
  have hself : ∀ s : State, Within manageEndW s s ∧ SameNsm s s := fun s => ⟨.refl _ _, .refl s⟩
  have hput : ∀ (s : State) r q, Within manageEndW s { s with nsm := { s.nsm with runSeq := r, seqQueue := q } } ∧
      SameNsm s { s with nsm := { s.nsm with runSeq := r, seqQueue := q } } := fun s r q => ⟨within_nsm s _ rfl, rfl⟩
  induction n generalizing s with
  | zero => exact hself s
  | succ n ih =>
    unfold State.mgmtTurn
    split
    · split
      · exact htr (hrec s _ _) (ih _)
      · exact hself s
    · rename_i hr
      split
      · exact htr (hput s _ s.nsm.seqQueue) (ih _)
      · split
        · exact hself s
        · rename_i c q rest _
          split
          · exact hself s
          · refine htr (htr (hput s s.nsm.runSeq rest) ?_) (ih _)
            split
            · exact hself _
            · exact hrec _ _ _

/-- The end of a management command keeps the rest of the NSM part. -/
theorem mgmtEnd_kept (s : State) (st : Status) (a b : Word32) (l : List NsImage) :
    Within manageEndW s (s.mgmtEnd st a b l) ∧ SameNsm s (s.mgmtEnd st a b l) := by
  unfold State.mgmtEnd State.mgmtGo
  extract_lets c u v
  have h1 : Within manageEndW s u ∧ SameNsm s u := by
    show Within _ s (match s.nsm.runSeq with | some q => s.mgmtRecord l q st a b | none => s) ∧
      SameNsm s (match s.nsm.runSeq with | some q => s.mgmtRecord l q st a b | none => s)
    split
    · exact ⟨(mgmtRecord_after s l _ st a b).1, mgmtRecord_same s l _ st a b⟩
    · exact ⟨.refl _ _, .refl s⟩
  have h2 : Within manageEndW u v ∧ SameNsm u v := by
    subst v
    clear_value u c
    cases c with
    | none => exact ⟨.refl _ _, .refl u⟩
    | some c =>
      have w := complete_completeW u c st a b
      exact ⟨w.widen (by decide) (by decide) (by decide), .of_nsm (w.nsm rfl)⟩
  obtain ⟨h3, k3⟩ := mgmtTurn_kept (2 * (v.nsm.seqQueue.length + v.nsm.dels.length) + 2) v
  exact ⟨(h1.1.trans h2.1).trans h3, (h1.2.trans h2.2).trans k3⟩

/-- A management command runs, nothing else waits for its turn. -/
structure InTurn (s : State) (c : Nat) (x : Cmd) (q : Qp) : Prop where
  run     : Running s c x q
  running : s.nsm.running = some c
  runSeq  : s.nsm.runSeq = some x.sqe.cdw2
  queue   : s.nsm.seqQueue = []
  dels    : s.nsm.dels = []
  taken   : s.get GLB_MGMT_SEQ_last_accepted = x.sqe.cdw2.toNat

section
variable {s t : State} {c : Nat} {x : Cmd} {q : Qp}

theorem InTurn.congr (h : InTurn s c x q) (hq : t.qpe = s.qpe) (hr : t.nsm.running = s.nsm.running)
    (hs : t.nsm.runSeq = s.nsm.runSeq) (hl : t.nsm.seqQueue = s.nsm.seqQueue) (hd : t.nsm.dels = s.nsm.dels)
    (hg : t.get GLB_MGMT_SEQ_last_accepted = s.get GLB_MGMT_SEQ_last_accepted) : InTurn t c x q :=
  ⟨h.run.of_qpe (by rw [hq]) (by rw [hq]), hr.trans h.running, hs.trans h.runSeq, hl.trans h.queue, hd.trans h.dels, hg.trans h.taken⟩

/-- The command that runs ends with the outcome recorded. -/
theorem InTurn.ends (h : InTurn s c x q) (st : Status) (a b : Word32) (l : List NsImage) : Ended (s.mgmtEnd st a b l) c x st a b := by
  obtain ⟨-, hq, hn, hc, ha⟩ := mgmtRecord_after s l x.sqe.cdw2 st a b
  have hw := complete_completeW (s.mgmtRecord l x.sqe.cdw2 st a b) c st a b
  have e : s.mgmtEnd st a b l = (s.mgmtRecord l x.sqe.cdw2 st a b).complete c st a b := by
    unfold State.mgmtEnd State.mgmtGo
    simp only [h.running, h.runSeq]
    refine mgmtTurn_idle _ _ ?_ ?_ ?_
    · rw [hw.nsm rfl, hn]
    · rw [hw.nsm rfl, hn, h.dels]
      rfl
    · rw [hw.nsm rfl, hn, h.queue]
  rw [e]
  refine ⟨(h.run.of_qpe (by rw [hq]) (by rw [hq])).complete_completes st a b, ?_, ?_, ?_⟩
  · rw [hw.regs _ _ rfl, ha, h.taken]
  · rw [hw.regs _ _ rfl, hc]
  · rw [hw.nsm rfl, hn]

theorem Ended.congr {st : Status} {a b : Word32} (h : Ended s c x st a b) (hq : t.qpe = s.qpe)
    (ha : t.get GLB_MGMT_SEQ_last_accepted = s.get GLB_MGMT_SEQ_last_accepted)
    (hc : t.get GLB_MGMT_SEQ_last_completed = s.get GLB_MGMT_SEQ_last_completed) (hn : t.nsm.recorded = s.nsm.recorded) : Ended t c x st a b :=
  ⟨h.1.congr hq, ha.trans h.2.1, hc.trans h.2.2.1, hn.trans h.2.2.2⟩

/-! ## A command taken in its turn -/

/-- What the acceptance of a management command writes. -/
def acceptW : Writes := { parts := [.evt, .ctr, .nsm, .jnl, .pair, .outbox], fields := [JNL_FIRN_SEQ_next_seq, GLB_MGMT_SEQ_last_accepted] }

/-- A state that has accepted a command, its acceptance recorded, with the command running. -/
def State.admitted (v : State) (l : List NsImage) (c : Nat) (x : Cmd) : State :=
  let u := v.metaAppend 0 (.nsGroup (l ++ [v.mgmtImage]))
  { u with nsm := { u.nsm with running := some c, runSeq := some x.sqe.cdw2 } }

theorem admitted_after (v : State) (l : List NsImage) (c : Nat) (x : Cmd) : Within acceptW v (v.admitted l c x) ∧
    (v.admitted l c x).qpe = v.qpe ∧ (v.admitted l c x).nsm = { v.nsm with running := some c, runSeq := some x.sqe.cdw2 } ∧
    (v.admitted l c x).get GLB_MGMT_SEQ_last_accepted = v.get GLB_MGMT_SEQ_last_accepted := by
  unfold State.admitted
  have hw := within_metaAppend v 0 (.nsGroup (l ++ [v.mgmtImage]))
  dsimp only
  generalize v.metaAppend 0 (.nsGroup (l ++ [v.mgmtImage])) = u at hw ⊢
  exact ⟨(hw.widen (by decide) (by decide) (by decide)).trans (within_nsm _ _ rfl), hw.qpe rfl, by rw [hw.nsm rfl], hw.regs _ _ rfl⟩

/-- The acceptance of a command whose sequence number is next. -/
theorem mgmtGateWith_admits {n : Nat} (early : State → Cmd → State × List NsImage) (want : Cmd → Bool) (f : State → Cmd → QOwner → State)
    (h : Managed s c x q n) (hw : want x = true)
    (hr : (early (s.set GLB_MGMT_SEQ_last_accepted 0 x.sqe.cdw2.toNat) x).1.nsm.runSeq = none)
    (hq : (early (s.set GLB_MGMT_SEQ_last_accepted 0 x.sqe.cdw2.toNat) x).1.nsm.seqQueue = []) :
    State.mgmtGateWith early s c n want f = f ((early (s.set GLB_MGMT_SEQ_last_accepted 0 x.sqe.cdw2.toNat) x).1.admitted
      (early (s.set GLB_MGMT_SEQ_last_accepted 0 x.sqe.cdw2.toNat) x).2 c x) x q.owner := by
  have hm := fun l => (within_metaAppend (early (s.set GLB_MGMT_SEQ_last_accepted 0 x.sqe.cdw2.toNat) x).1 0 l).nsm rfl
  unfold State.mgmtGateWith
  rw [h.ready]
  dsimp only
  rw [hw, h.idle, h.issuer, h.empty]
  simp only [Bool.not_true, Bool.false_or, reduceCtorEq, decide_false, Bool.false_eq_true, if_false, List.any_nil]
  rw [if_pos h.turn]
  rw [if_pos (by rw [hm, hr, hq]; rfl)]
  rfl

/-- The state in which a command without effect on its acceptance begins. -/
def State.begun (s : State) (c : Nat) (x : Cmd) : State := (s.set GLB_MGMT_SEQ_last_accepted 0 x.sqe.cdw2.toNat).admitted [] c x

theorem mgmtGate_begins {n : Nat} (want : Cmd → Bool) (f : State → Cmd → QOwner → State) (h : Managed s c x q n) (hw : want x = true) :
    s.mgmtGate c n want f = f (s.begun c x) x q.owner :=
  mgmtGateWith_admits (fun s _ => (s, [])) want f h hw h.first h.empty

theorem begun_within (s : State) (c : Nat) (x : Cmd) : Within acceptW s (s.begun c x) :=
  (within_set s _ _ _ rfl).trans (admitted_after _ _ _ _).1

theorem begun_qpe (s : State) (c : Nat) (x : Cmd) : (s.begun c x).qpe = s.qpe := (admitted_after _ _ _ _).2.1

theorem begun_nsm (s : State) (c : Nat) (x : Cmd) : (s.begun c x).nsm = { s.nsm with running := some c, runSeq := some x.sqe.cdw2 } :=
  (admitted_after _ _ _ _).2.2.1

theorem begun_inTurn {n : Nat} (h : Managed s c x q n) : InTurn (s.begun c x) c x q := by
  refine ⟨h.run.of_qpe (by rw [begun_qpe]) (by rw [begun_qpe]), by rw [begun_nsm], by rw [begun_nsm], ?_, ?_, ?_⟩
  · rw [begun_nsm]
    exact h.empty
  · rw [begun_nsm]
    exact h.dels
  · exact (admitted_after _ _ _ _).2.2.2.trans ((get_set_same _ _ _ _).trans (Nat.mod_eq_of_lt x.sqe.cdw2.isLt))

end

end Sys2Proof.Machine
end

section
/-! PROOFS. Firmware download, commit and activation (R476, R477, R482 to R485). -/

namespace Sys2Proof.Machine

open F

/-! ## The control cores and their port -/

/-- What a copy's end in the switch writes, and the port's end with it. -/
def portEndW : Writes := { parts := [.evt, .ctr, .tms, .mac, .swc, .outbox], fields := cells }

theorem within_pfcWatch (s : State) (p c : Nat) : Within portEndW s (s.pfcWatch p c) := by
  have hs : ∀ (s : State) x n, Within portEndW s ((s.putPfc p c x).sendPfc p c n) := fun s x n =>
    ((within_mac s _ rfl).trans (within_send (s.putPfc p c x) _ rfl)).trans (within_bump _ _ _ rfl)
  unfold State.pfcWatch
  exact within_ite _ (fun _ => .refl _ _) fun _ => within_ite _ (fun _ => hs _ _ _) fun _ => within_ite _ (fun _ => hs _ _ _) fun _ => .refl _ _

theorem within_endCopy (s : State) (id dst : Nat) (m : Option Nat) : Within portEndW s (s.endCopy id dst m) := by
  unfold State.endCopy
  split
  · exact .refl _ _
  · extract_lets rest dropped _ moved _ ended
    have h1 : Within portEndW s dropped := (within_dropCells s _).widen (by decide) (by decide) (by decide)
    have h2 : Within portEndW dropped moved := within_swc _ _ rfl
    have h3 : Within portEndW moved ended := within_ite _ (fun _ => within_swc _ _ rfl) fun _ => within_swc _ _ rfl
    exact ((h1.trans h2).trans h3).trans (within_pfcWatch _ _ _)

theorem within_privilegedDown_cpu (s : State) : Within portEndW s (s.privilegedDown 48) := by
  unfold State.privilegedDown
  rw [if_neg (by decide), if_pos rfl]
  have hf : ∀ u : State, Within portEndW u (u.flushRoot 48) := fun u =>
    (within_tms u _ rfl).trans (within_each _ _ _ fun s i => (within_dropCells s _).widen (by decide) (by decide) (by decide))
  have hp : ∀ u : State, Within portEndW u (u.privilegedFlush 48) := fun u =>
    ((hf u).trans (within_each _ _ _ fun s e => within_endCopy s _ _ _)).trans (within_raise _ _ _ _ _ rfl rfl)
  exact (within_swc s _ rfl).trans (hp _)

/-- What the cores' start or reset writes. -/
def coresW : Writes := { parts := [.evt, .ctr, .tms, .mac, .swc, .outbox], fields := cells ++ [GLB_CORE_STATUS_beat, GLB_CORE_STATUS_state] }

theorem coresRun_after (s : State) (run : Bool) : Within coresW s (s.coresRun run) ∧
    ∀ k, k < 16 → (s.coresRun run).get GLB_CORE_STATUS_state k = bit run := by
  have w : Within coresW s (s.each (List.range 16) fun s c => (s.set GLB_CORE_STATUS_state c (bit run)).set GLB_CORE_STATUS_beat c 0) :=
    within_each _ _ _ fun s c => (within_set s _ _ _ rfl).trans (within_set _ _ _ _ rfl)
  have hz := fun c (hc : c < 16) => coreStates (List.range 16) s (bit run) c (List.mem_range.mpr hc)
  unfold State.coresRun
  dsimp only
  generalize s.each (List.range 16) (fun s c => (s.set GLB_CORE_STATUS_state c (bit run)).set GLB_CORE_STATUS_beat c 0) = u at w hz ⊢
  have hb : bit run % 4 = bit run := by cases run <;> rfl
  have hp := within_privilegedDown_cpu u
  cases run with
  | true => exact ⟨w.trans (within_swc _ _ rfl), fun k hk => (hz k hk).trans hb⟩
  | false => exact ⟨w.trans (hp.widen (by decide) (by decide) (by decide)), fun k hk => (hp.regs _ _ rfl).trans ((hz k hk).trans hb)⟩

/-! ## Banks -/

theorem putBank_boot (s : State) (i : Nat) (b : Bank) : (s.putBank i b).boot = { s.boot with banks := tput s.boot.banks i b } := by
  unfold State.putBank
  dsimp only
  split <;> rfl

theorem within_putBank (s : State) (i : Nat) (b : Bank) :
    Within { parts := [.boot], fields := [BOOT_STATUS_state_a, BOOT_STATUS_state_b] } s (s.putBank i b) :=
  (within_boot s _ rfl).trans (within_ite _ (fun _ => within_set _ _ _ _ rfl) fun _ => within_set _ _ _ _ rfl)

theorem bank_of_banks {s : State} {t : Table Nat Bank} {i : Nat} {b : Bank} (h : s.boot.banks = tput t i b) : s.bank i = b := by
  rw [State.bank, h, tgetD, tget_tput_same]
  rfl

/-- What the confirmation of a bank writes. -/
def confirmW : Writes := { parts := [.evt, .ctr, .boot], fields := bootLive }

theorem ownerBurn_after (s : State) (b : List Byte) : Within confirmW s (s.ownerBurn b) ∧ (s.ownerBurn b).boot.banks = s.boot.banks ∧
    (s.ownerBurn b).boot.act = s.boot.act := by
  unfold State.ownerBurn
  extract_lets d slot mask _ u gone
  have h : Within confirmW s u ∧ u.boot.banks = s.boot.banks ∧ u.boot.act = s.boot.act := by
    show Within confirmW s (ite _ _ (ite _ _ _)) ∧ (ite _ _ (ite _ _ _) : State).boot.banks = _ ∧ (ite _ _ (ite _ _ _) : State).boot.act = _
    split_ifs
    · exact ⟨.refl _ _, rfl, rfl⟩
    · exact ⟨within_raise _ _ _ _ _ rfl rfl, rfl, rfl⟩
    · exact ⟨within_boot _ _ rfl, rfl, rfl⟩
  split
  · exact ⟨.refl _ _, rfl, rfl⟩
  · exact ⟨h.1.trans (within_boot _ _ rfl), h.2.1, h.2.2⟩

theorem bankConfirm_after (s : State) (i : Nat) : Within confirmW s (s.bankConfirm i) ∧ ((s.bankConfirm i).bank i).state = 3 := by
  unfold State.bankConfirm
  extract_lets k burnt fw cfg _ raised
  obtain ⟨h1, h2, -⟩ := ownerBurn_after (s.putBank i { k with state := 3 }) k.image
  have hb : Within confirmW s burnt := ((within_putBank s _ _).widen (by decide) (by decide) (by decide)).trans h1
  have h3 : Within confirmW burnt raised ∧ raised.boot.banks = burnt.boot.banks := by
    show Within _ _ (ite _ _ _) ∧ (ite _ _ _ : State).boot.banks = _
    split
    · exact ⟨within_boot _ _ rfl, rfl⟩
    · exact ⟨.refl _ _, rfl⟩
  refine ⟨(hb.trans h3.1).trans (((within_set _ _ _ _ rfl).trans (within_set _ _ _ _ rfl)).trans (within_set _ _ _ _ rfl)), ?_⟩
  have e : raised.boot.banks = tput s.boot.banks i { k with state := 3 } := by rw [h3.2, h2, putBank_boot]
  rw [show (raised.fuseStatus).bank i = raised.bank i from rfl, bank_of_banks e]

/-! ## Download and commit -/

theorem cmdBytes_congr {s t : State} (h : t.qpe = s.qpe) (x : Cmd) : t.cmdBytes x = s.cmdBytes x := by
  simp only [State.cmdBytes, State.dataBlocks, State.cmdData, State.cmdAdmin, State.isAdmin, State.qp, h]

/-- What decides a commit: the fuses, the variant, the bank that runs. -/
structure SameFuses (s t : State) : Prop where
  owners  : t.boot.owners = s.boot.owners
  revoked : t.boot.revoked = s.boot.revoked
  fw      : t.boot.fwMin = s.boot.fwMin
  cfg     : t.boot.cfgMin = s.boot.cfgMin
  variant : t.get GLB_IDENT_variant = s.get GLB_IDENT_variant
  running : t.runBank = s.runBank

theorem SameFuses.imageOk {s t : State} (h : SameFuses s t) (d : BitVec 384) (l : List Byte) : t.imageOk d l = s.imageOk d l :=
  imageOk_congr h.owners h.revoked h.fw h.cfg h.variant d l

theorem SameFuses.fsBank {s t : State} (h : SameFuses s t) (e : Sqe) : t.fsBank e = s.fsBank e := by
  unfold State.fsBank
  rw [h.running]

theorem SameFuses.of_boot {s t : State} (hb : t.boot = s.boot) (hg : ∀ f, acceptW.field (f.key 0) = false → t.get f = s.get f) : SameFuses s t :=
  ⟨by rw [hb], by rw [hb], by rw [hb], by rw [hb], hg _ rfl, hg _ rfl⟩

theorem expire_fuses (u : State) : SameFuses u u.fwExpire := ⟨rfl, rfl, rfl, rfl, rfl, rfl⟩

section
variable {s u : State} {c : Nat} {x : Cmd} {q : Qp} {n : Nat}

theorem begun_fuses (s : State) (c : Nat) (x : Cmd) : SameFuses s (s.begun c x) :=
  .of_boot ((begun_within s c x).boot rfl) fun f h => (begun_within s c x).regs f 0 h

theorem InTurn.expire (h : InTurn u c x q) : InTurn u.fwExpire c x q := h.congr rfl rfl rfl rfl rfl rfl

/-- A whole download written to a bank that does not run: an image that verifies is being written there, another ends the command. -/
theorem InTurn.fwWrite (h : InTurn u c x q) (i ca : Nat) (b : List Byte) (hi : u.fsBank x.sqe = some i) (hrun : i ≠ u.runBank)
    (hb : u.downloaded = some b) : (u.fwWrite c x ca).boot.buffer = [] ∧
    if u.imageOk (sha384 b) b = true then (u.fwWrite c x ca).boot.writing = some ⟨c, i, ca⟩ ∧
      ((u.fwWrite c x ca).bank i).state = 0 ∧ ((u.fwWrite c x ca).bank i).image = b
    else Ended (u.fwWrite c x ca) c x ⟨1, 7, false⟩ ∧ (u.fwWrite c x ca).boot.banks = u.boot.banks := by
  unfold State.fwWrite
  dsimp only
  rw [(expire_fuses u).fsBank, hi, hb]
  dsimp only
  rw [(expire_fuses u).running, if_neg hrun, (expire_fuses u).imageOk]
  have ht := h.expire
  have hbuf : u.fwExpire.boot.buffer = [] := rfl
  have hbk : u.fwExpire.boot.banks = u.boot.banks := rfl
  generalize u.fwExpire = v at ht hbuf hbk ⊢
  obtain ⟨hw, -⟩ := mgmtEnd_kept v fwImage 0 0 []
  have he := ht.ends fwImage 0 0 []
  cases hok : u.imageOk (sha384 b) b with
  | true =>
    simp only [Bool.not_true, Bool.false_eq_true, if_false, if_true]
    have hp := putBank_boot v i { gen := (v.bank i).gen, state := 0, tries := 0, hash := sha384 b, image := b }
    generalize v.putBank i { gen := (v.bank i).gen, state := 0, tries := 0, hash := sha384 b, image := b } = w at hp ⊢
    have hbank := bank_of_banks (congrArg Boot.banks hp)
    refine ⟨?_, rfl, ?_, ?_⟩
    · show w.boot.buffer = []
      rw [hp]
      exact hbuf
    · show (w.bank i).state = 0
      rw [hbank]
    · show (w.bank i).image = b
      rw [hbank]
  | false =>
    simp only [Bool.not_false, if_true, Bool.false_eq_true, if_false]
    refine ⟨?_, he, ?_⟩
    · rw [hw.boot rfl]
      exact hbuf
    · rw [hw.boot rfl]
      exact hbk

theorem Managed.fwWrites (h : Managed s c x q n) (i ca : Nat) (b : List Byte) (hi : s.fsBank x.sqe = some i) (hrun : i ≠ s.runBank)
    (hb : s.downloaded = some b) : ((s.begun c x).fwWrite c x ca).boot.buffer = [] ∧
    if s.imageOk (sha384 b) b = true then ((s.begun c x).fwWrite c x ca).boot.writing = some ⟨c, i, ca⟩ ∧
      (((s.begun c x).fwWrite c x ca).bank i).state = 0 ∧ (((s.begun c x).fwWrite c x ca).bank i).image = b
    else Ended ((s.begun c x).fwWrite c x ca) c x ⟨1, 7, false⟩ ∧ ((s.begun c x).fwWrite c x ca).boot.banks = s.boot.banks := by
  have hf := begun_fuses s c x
  have hboot : (s.begun c x).boot = s.boot := (begun_within s c x).boot rfl
  have := (begun_inTurn h).fwWrite i ca b (by rw [hf.fsBank, hi]) (by rw [hf.running]; exact hrun)
    (by rw [← hb]; unfold State.downloaded; rw [hboot])
  rwa [hf.imageOk, hboot] at this

/-- The image of a bank verified and its record written pending, the buffer emptied. -/
def State.slotCommitted (s : State) (x : Cmd) : State :=
  match s.fwExpire.fsBank x.sqe with
  | none => s.fwExpire.mgmtEnd fwSlot
  | some i =>
    if (s.fwExpire.bank i).state = 0 || (s.fwExpire.bank i).state = 4 then s.fwExpire.mgmtEnd fwSlot
    else if !s.fwExpire.imageOk (s.fwExpire.bank i).hash (s.fwExpire.bank i).image then s.fwExpire.mgmtEnd fwImage
    else (s.fwExpire.putBank i { s.fwExpire.bank i with gen := s.fwExpire.nextGen, state := 2, tries := 0 }).mgmtEnd St.ok

theorem Managed.slotCommits (h : Managed s c x q n) (i : Nat) (hi : s.fsBank x.sqe = some i) (h0 : (s.bank i).state ≠ 0)
    (h4 : (s.bank i).state ≠ 4) :
    if s.imageOk (s.bank i).hash (s.bank i).image = true then Ended ((s.begun c x).slotCommitted x) c x St.ok ∧
      ((s.begun c x).slotCommitted x).bank i = { s.bank i with gen := s.nextGen, state := 2, tries := 0 }
    else Ended ((s.begun c x).slotCommitted x) c x ⟨1, 7, false⟩ ∧ ((s.begun c x).slotCommitted x).boot.banks = s.boot.banks := by
  have hf := begun_fuses s c x
  have ht := (begun_inTurn h).expire
  have hbanks : (s.begun c x).fwExpire.boot.banks = s.boot.banks := (congrArg Boot.banks ((begun_within s c x).boot rfl) :)
  unfold State.slotCommitted
  rw [(expire_fuses _).fsBank, hf.fsBank, hi]
  dsimp only
  rw [(expire_fuses _).imageOk, hf.imageOk]
  generalize (s.begun c x).fwExpire = u at ht hbanks ⊢
  have hbank : ∀ j, u.bank j = s.bank j := fun j => by rw [State.bank, hbanks]; rfl
  have hgen : u.nextGen = s.nextGen := by rw [State.nextGen, hbank, hbank]; rfl
  have hst : ((s.bank i).state = 0 || (s.bank i).state = 4) = false := by simp [h0, h4]
  rw [hbank, hgen, hst]
  obtain ⟨hw, -⟩ := mgmtEnd_kept u fwImage 0 0 []
  have he := ht.ends fwImage 0 0 []
  cases hok : s.imageOk (s.bank i).hash (s.bank i).image with
  | false =>
    simp only [Bool.not_false, if_true, Bool.false_eq_true, if_false]
    exact ⟨he, by rw [hw.boot rfl, hbanks]⟩
  | true =>
    simp only [Bool.not_true, Bool.false_eq_true, if_false, if_true]
    have hp := putBank_boot u i { s.bank i with gen := s.nextGen, state := 2, tries := 0 }
    have hpw := within_putBank u i { s.bank i with gen := s.nextGen, state := 2, tries := 0 }
    generalize u.putBank i { s.bank i with gen := s.nextGen, state := 2, tries := 0 } = v at hp hpw ⊢
    have hv : InTurn v c x q := ht.congr (hpw.qpe rfl) (by rw [hpw.nsm rfl]) (by rw [hpw.nsm rfl]) (by rw [hpw.nsm rfl]) (by rw [hpw.nsm rfl])
      (hpw.regs _ _ rfl)
    obtain ⟨hw, -⟩ := mgmtEnd_kept v St.ok 0 0 []
    exact ⟨hv.ends St.ok 0 0 [], bank_of_banks (t := u.boot.banks) (by rw [hw.boot rfl, hp])⟩

end

/-! ## The activation window -/

/-- What the window's end writes of its own. -/
def windowW : Writes where
  parts := [.qpe, .str, .reb, .boot]
  fields := [BOOT_FW_STATUS_act_state, BOOT_STATUS_stage, TMS_REBUILD_FLOOR_floor, TMS_TENANT_CFG_weight]

/-- What the cores catch up with: the floor and the weight of the rebuild. -/
theorem within_rebuildRate (s : State) : Within { fields := [TMS_REBUILD_FLOOR_floor, TMS_TENANT_CFG_weight] } s s.rebuildRate := by
  unfold State.rebuildRate
  extract_lets wmax wmin
  split
  · exact (within_set s _ _ _ rfl).trans (within_set _ _ _ _ rfl)
  · extract_lets fl u w t
    have h : Within { fields := [TMS_REBUILD_FLOOR_floor, TMS_TENANT_CFG_weight] } s u := within_set s _ _ _ rfl
    refine h.trans ?_
    split
    · exact .refl _ _
    · exact within_ite _ (fun _ => within_set _ _ _ _ rfl) fun _ => within_ite _ (fun _ => within_set _ _ _ _ rfl) fun _ => .refl _ _

/-- What the cores' return writes. -/
def dutiesW : Writes := { parts := [.str, .reb], fields := [TMS_REBUILD_FLOOR_floor, TMS_TENANT_CFG_weight] }

theorem within_dutiesResume (s : State) : Within dutiesW s s.dutiesResume := by
  unfold State.dutiesResume
  extract_lets due _ u
  have h : Within dutiesW s u := by
    have ht : ∀ u : State, Within dutiesW u u.rebuildTables := fun u => within_ite _ (fun _ => .refl _ _) fun _ => within_str _ _ rfl
    exact (within_reb s { s.reb with stopped := [], rateDue := false } rfl).trans (ht _)
  exact h.trans (within_ite _ (fun _ => (within_rebuildRate u).widen (by decide) (by decide) (by decide)) fun _ => .refl _ _)

theorem actClose_after (s : State) : Within windowW s s.actClose ∧ s.actClose.boot = { s.boot with act := none, handed := false, coreRst := false } ∧
    s.actClose.get BOOT_FW_STATUS_act_state = 0 := by
  unfold State.actClose
  extract_lets away cmds _ _ u v
  have h1 : Within windowW s u := .trans (t := { s with qpe := { s.qpe with cmds := cmds } }) (within_qpe s _ rfl) (within_boot _ _ rfl)
  have hu : Within windowW s v := h1.trans ((within_set u _ _ _ rfl).trans (within_set _ _ _ _ rfl))
  have hg : v.get BOOT_FW_STATUS_act_state = 0 := (get_set_field _ _ _ _ (by decide)).trans (get_set_same _ _ _ _)
  have hd := within_dutiesResume v
  split
  · exact ⟨hu.trans (hd.widen (by decide) (by decide) (by decide)), hd.boot rfl, (hd.regs _ _ rfl).trans hg⟩
  · exact ⟨hu, rfl, hg⟩

/-- A window that ended with its Commit: nothing of the window is left, and the rest is as it was at its end. -/
theorem windowEnd_after (s : State) (st : Status) (e : EvType) :
    let t := (s.actClose.raise e 0 0).mgmtEnd st
    t.boot = { s.boot with act := none, handed := false, coreRst := false } ∧ t.get BOOT_FW_STATUS_act_state = 0 := by
  obtain ⟨-, h2, h3⟩ := actClose_after s
  obtain ⟨hw, -⟩ := mgmtEnd_kept (s.actClose.raise e 0 0) st 0 0 []
  exact ⟨(hw.boot rfl).trans h2, (hw.regs _ _ rfl).trans h3⟩

/-- A window that timed out: the bank is bad. -/
theorem actAbort_bad (s : State) (h : s.boot.coreRst = false) : (s.actAbort true).boot.act = none ∧
    ((s.actAbort true).bank (1 - s.runBank)).state = 4 ∧ (s.actAbort true).get BOOT_FW_STATUS_act_state = 0 := by
  unfold State.actAbort
  extract_lets i u _ v _ w
  have hu : u.boot = s.boot := by
    show (ite _ _ _ : State).boot = _
    split
    · exact (coresRun_after s true).1.boot rfl
    · rfl
  rw [if_neg (by rw [hu, h]; decide)]
  have hp : w.boot = { v.boot with banks := tput v.boot.banks i { v.bank i with state := 4 } } := putBank_boot v i _
  clear_value w
  obtain ⟨h1, h2⟩ := windowEnd_after w fwProhibited EV_BOOT_ACT_ABORT
  generalize State.mgmtEnd _ _ = t at h1 h2 ⊢
  have hb : t.boot.banks = tput v.boot.banks i { v.bank i with state := 4 } := by rw [h1, hp]
  refine ⟨by rw [h1], ?_, h2⟩
  rw [show 1 - s.runBank = i from rfl, bank_of_banks hb]

/-- An activation record that a package takes. -/
theorem rimeAppend_after (s : State) (kind : Nat) (torn : Bool) (old ms pkgs : Nat) (h : pkgs % 4 ≠ 0) :
    (s.rimeAppend kind torn old ms pkgs).rime.nextSeq = s.rime.nextSeq + 1 ∧
    Within { parts := [.evt, .ctr, .rime], fields := bootLive } s (s.rimeAppend kind torn old ms pkgs) := by
  have hm : ∀ (s : State) i v, Within { fields := bootLive } s (s.setMeas i v) := fun s i v => within_each _ _ _ fun s j => within_set _ _ _ _ rfl
  unfold State.rimeAppend
  rw [if_neg h]
  extract_lets body c l full _ r _ shown u
  have h1 : Within { parts := [.evt, .ctr, .rime], fields := bootLive } s shown :=
    ((within_rime s _ rfl).trans (within_set _ _ _ _ rfl)).trans (within_set _ _ _ _ rfl)
  have hd : Within { fields := bootLive } shown u := (within_set shown _ _ _ rfl).trans (hm _ 8 (leNat (digestBytes c)))
  have h2 : Within { parts := [.evt, .ctr, .rime], fields := bootLive } s u := h1.trans (hd.widen (by decide) (by decide) (by decide))
  have hr : u.rime.nextSeq = s.rime.nextSeq + 1 := by
    have e : shown.rime = r := rfl
    rw [hd.rime rfl, e]
  split
  · exact ⟨hr, h2⟩
  · exact ⟨hr, h2.trans (within_raise _ _ _ _ _ rfl rfl)⟩

theorem within_measureCore (s : State) : Within { fields := bootLive } s s.measureCore := by
  have hm : ∀ (s : State) i v, Within { fields := bootLive } s (s.setMeas i v) := fun s i v => within_each _ _ _ fun s j => within_set _ _ _ _ rfl
  unfold State.measureCore State.setDigest
  exact (((hm _ _ _).trans (hm _ _ _)).trans (hm _ _ _)).trans (hm _ _ _)

/-- What the new firmware's start writes between the cores' start and the window's end. -/
def readyW : Writes where
  parts := [.evt, .ctr, .qpe, .nsm, .str, .jnl, .reb, .pair, .boot, .outbox]
  fields := bootLive ++ qpeLive ++ [JNL_FIRN_SEQ_next_seq, TMS_REBUILD_FLOOR_floor, TMS_TENANT_CFG_weight, GLB_MGMT_SEQ_last_completed]

/-- The protocol version shown is the new firmware's. -/
def State.renamed (s : State) : State := { s with boot := { s.boot with proto := imgProto s.coreImage } }

/-- The new firmware runs: the bank is confirmed and the window ends with its Commit. -/
theorem actReady_done (s : State) (p : Nat) (ha : s.boot.act.isSome = true) (hh : s.boot.handed = true) (hc : s.boot.coreRst = false)
    (hp : p % 4 ≠ 0) : (s.actReady p).boot.act = none ∧ ((s.actReady p).bank (1 - s.runBank)).state = 3 ∧
    (s.actReady p).get BOOT_FW_STATUS_act_state = 0 ∧ (s.actReady p).rime.nextSeq = s.rime.nextSeq + 1 ∧
    ∀ k, k < 16 → (s.actReady p).get GLB_CORE_STATUS_state k = 1 := by
  have hact : s.boot.act.isNone = false := by
    cases h : s.boot.act with
    | none => rw [h] at ha; cases ha
    | some _ => rfl
  unfold State.actReady
  rw [hact, hh, hc, if_neg (by decide), if_neg (by decide)]
  extract_lets ms old recorded b _ started shown
  rw [if_neg hp]
  obtain ⟨hr, hw⟩ := rimeAppend_after s.measureCore 2 false old ms p hp
  have hm := within_measureCore s
  obtain ⟨hcw, hcs⟩ : Within coresW recorded.renamed started ∧ _ := coresRun_after recorded.renamed true
  have hsh : Within { fields := bootLive } started shown := ((within_set started _ _ _ rfl).trans (within_addSat _ _ _ _ rfl)).trans (within_set _ _ _ _ rfl)
  have hrun : shown.runBank = s.runBank := by
    have h1 : shown.runBank = started.runBank := ((get_set_field _ _ _ _ (by decide)).trans (get_addSat_field _ _ _ _ (by decide))).trans
      (get_set_field _ _ _ _ (by decide))
    have h2 : started.runBank = recorded.runBank := hcw.regs _ _ rfl
    have h3 : recorded.runBank = s.measureCore.runBank := hw.regs _ _ rfl
    rw [h1, h2, h3]
    exact hm.regs _ _ rfl
  have hrime : shown.rime.nextSeq = s.rime.nextSeq + 1 := by
    rw [hsh.rime rfl, hcw.rime rfl]
    exact hr.trans (by rw [hm.rime rfl])
  obtain ⟨hbw, hb3⟩ := bankConfirm_after shown (1 - shown.runBank)
  obtain ⟨haw, hab, haz⟩ := actClose_after (shown.bankConfirm (1 - shown.runBank))
  obtain ⟨hew, -⟩ := mgmtEnd_kept (shown.bankConfirm (1 - shown.runBank)).actClose St.ok 0 0 []
  rw [hrun] at hbw hb3 haw hab haz hew ⊢
  clear_value shown
  generalize hu : shown.bankConfirm (1 - s.runBank) = u at hbw hb3 haw hab haz hew ⊢
  generalize hv : u.actClose = v at haw hab haz hew ⊢
  have hboot : (v.mgmtEnd St.ok).boot = v.boot := hew.boot rfl
  refine ⟨?_, ?_, ?_, ?_, fun k hk => ?_⟩
  · show (v.mgmtEnd St.ok).boot.act = none
    rw [hboot, hab]
  · show ((v.mgmtEnd St.ok).bank (1 - s.runBank)).state = 3
    rw [State.bank, hboot, hab]
    exact hb3
  · exact (hew.regs _ _ rfl).trans haz
  · show (v.mgmtEnd St.ok).rime.nextSeq = _
    rw [hew.rime rfl, haw.rime rfl, hbw.rime rfl, hrime]
  · refine (hew.regs _ _ rfl).trans ((haw.regs _ _ rfl).trans ((hbw.regs _ _ rfl).trans ((hsh.regs _ _ rfl).trans (hcs k hk))))

/-- The cores are reset into the new CORE. -/
theorem actHandover_done (s : State) (ha : s.boot.act.isSome = true) (hh : s.boot.handed = false) : s.actHandover.boot.handed = true ∧
    s.actHandover.boot.core = (s.bank (1 - s.runBank)).image ∧ ∀ k, k < 16 → s.actHandover.get GLB_CORE_STATUS_state k = 0 := by
  have hact : s.boot.act.isNone = false := by
    cases h : s.boot.act with
    | none => rw [h] at ha; cases ha
    | some _ => rfl
  unfold State.actHandover
  rw [hact, hh, if_neg (by decide)]
  obtain ⟨hw, hz⟩ := coresRun_after { s with boot := { s.boot with handed := true, oldCore := s.boot.core, core := (s.bank (1 - s.runBank)).image } } false
  generalize State.coresRun _ false = u at hw hz ⊢
  rw [hw.boot rfl]
  exact ⟨rfl, rfl, hz⟩

/-! ## The family -/

/-- Settles O22: download, the commit actions, the bank write and the activation window. -/
theorem firmwareUpdate : Obligations.FirmwareUpdate := by
  unfold Obligations.FirmwareUpdate
  refine ⟨?_, ?_, ?_, ?_, ?_, ?_, ?_, ?_, ?_, ?_, ?_⟩
  · intro s c x q h hn ho hmax hcross
    refine ⟨_, rfl, ?_⟩
    have e : s.fwDownload c = State.mgmtEnd { s.begun c x with boot := { (s.begun c x).boot with
        buffer := (s.begun c x).boot.buffer ++ [(4 * x.sqe.cdw11.toNat, (s.begun c x).cmdBytes x)], lastDl := (s.begun c x).dtc } } St.ok := by
      unfold State.fwDownload
      rw [mgmtGate_begins _ _ h rfl]
      dsimp only
      rw [if_neg (by simp; omega), if_neg]
      rw [(begun_within s c x).boot rfl]
      simpa using hcross
    have hb : (s.begun c x).boot = s.boot := (begun_within s c x).boot rfl
    have hd := cmdBytes_congr (begun_qpe s c x) x
    have ht := begun_inTurn h
    rw [e]
    generalize s.begun c x = u at hb hd ht ⊢
    have ht' : InTurn { u with boot := { u.boot with buffer := u.boot.buffer ++ [(4 * x.sqe.cdw11.toNat, u.cmdBytes x)], lastDl := u.dtc } } c x q :=
      ht.congr rfl rfl rfl rfl rfl rfl
    obtain ⟨hw, -⟩ := mgmtEnd_kept { u with boot := { u.boot with buffer := u.boot.buffer ++ [(4 * x.sqe.cdw11.toNat, u.cmdBytes x)], lastDl := u.dtc } } St.ok 0 0 []
    have he := ht'.ends St.ok 0 0 []
    generalize State.mgmtEnd _ St.ok = v at hw he ⊢
    refine ⟨he.congr rfl (get_only_in _ _ _ _ _ rfl) (get_only_in _ _ _ _ _ rfl) rfl, ?_⟩
    show v.boot.buffer = _
    rw [hw.boot rfl, hb, hd]
  · intro s
    exact ⟨_, rfl, rfl, rfl⟩
  · intro s c i x q b h hca hi hrun hb
    obtain ⟨h1, h2⟩ := h.fwWrites i 0 b hi hrun hb
    have e : s.commitStore c = (s.begun c x).fwWrite c x 0 := by
      unfold State.commitStore
      rw [mgmtGate_begins _ _ h (by simp [hca])]
      exact if_pos hca
    refine ⟨_, rfl, ?_⟩
    rw [e]
    generalize (s.begun c x).fwWrite c x 0 = u at h1 h2 ⊢
    refine ⟨h1, ?_⟩
    split
    · rename_i hok
      rw [if_pos hok] at h2
      exact h2
    · rename_i hok
      rw [if_neg hok] at h2
      exact ⟨h2.1.congr rfl (get_only_in _ _ _ _ _ rfl) (get_only_in _ _ _ _ _ rfl) rfl, h2.2⟩
  · intro s c x q h hca
    have e : s.commitStore c = (s.begun c x).fwExpire.mgmtEnd St.invalidField := by
      unfold State.commitStore
      rw [mgmtGate_begins _ _ h (by simp [hca])]
      exact if_neg (by omega)
    have he := (begun_inTurn h).expire.ends St.invalidField 0 0 []
    obtain ⟨hw, -⟩ := mgmtEnd_kept (s.begun c x).fwExpire St.invalidField 0 0 []
    have hb : (s.begun c x).fwExpire.boot.banks = s.boot.banks := (congrArg Boot.banks ((begun_within s c x).boot rfl) :)
    refine ⟨_, rfl, ?_⟩
    rw [e]
    generalize (s.begun c x).fwExpire = u at he hw hb ⊢
    generalize u.mgmtEnd St.invalidField = v at he hw ⊢
    refine ⟨he.congr rfl (get_only_in _ _ _ _ _ rfl) (get_only_in _ _ _ _ _ rfl) rfl, ?_⟩
    show v.boot.banks = _
    rw [hw.boot rfl, hb]
  · intro s c i x q b h hca hi hrun hb
    obtain ⟨-, h2⟩ := h.fwWrites i 1 b hi hrun hb
    have e : s.commitPending c = (s.begun c x).fwWrite c x 1 := mgmtGate_begins _ _ h (by simp [hca])
    refine ⟨_, rfl, ?_⟩
    rw [e]
    generalize (s.begun c x).fwWrite c x 1 = u at h2 ⊢
    split
    · rename_i hok
      rw [if_pos hok] at h2
      exact ⟨h2.1, h2.2.2⟩
    · rename_i hok
      rw [if_neg hok] at h2
      exact ⟨h2.1.congr rfl (get_only_in _ _ _ _ _ rfl) (get_only_in _ _ _ _ _ rfl) rfl, h2.2⟩
  · intro s c i x q h hca hi h0 h4
    have h2 := h.slotCommits i hi h0 h4
    have e : s.commitSlot c = (s.begun c x).slotCommitted x := mgmtGate_begins _ _ h (by simp [hca])
    refine ⟨_, rfl, ?_⟩
    rw [e]
    generalize (s.begun c x).slotCommitted x = u at h2 ⊢
    split
    · rename_i hok
      rw [if_pos hok] at h2
      exact ⟨h2.1.congr rfl (get_only_in _ _ _ _ _ rfl) (get_only_in _ _ _ _ _ rfl) rfl, h2.2⟩
    · rename_i hok
      rw [if_neg hok] at h2
      exact ⟨h2.1.congr rfl (get_only_in _ _ _ _ _ rfl) (get_only_in _ _ _ _ _ rfl) rfl, h2.2⟩
  · intro s c i x q b h hca hi hrun hb
    obtain ⟨-, h2⟩ := h.fwWrites i 3 b hi hrun hb
    have e : s.commitNow c = (s.begun c x).fwWrite c x 3 := mgmtGate_begins _ _ h (by simp [hca])
    refine ⟨_, rfl, ?_⟩
    rw [e]
    generalize (s.begun c x).fwWrite c x 3 = u at h2 ⊢
    split
    · rename_i hok
      rw [if_pos hok] at h2
      exact ⟨h2.1, h2.2.2⟩
    · rename_i hok
      rw [if_neg hok] at h2
      exact ⟨h2.1.congr rfl (get_only_in _ _ _ _ _ rfl) (get_only_in _ _ _ _ _ rfl) rfl, h2.2⟩
  · intro s w hw hca
    refine ⟨_, rfl, ?_⟩
    show (s.bankWritten).boot.writing = none ∧ (s.bankWritten).bank w.bank = _
    unfold State.bankWritten
    rw [hw]
    dsimp only
    rw [if_pos (by simpa using hca)]
    have hp := putBank_boot s w.bank { s.bank w.bank with gen := s.nextGen, state := if w.ca = 0 then 1 else 2 }
    generalize s.putBank w.bank _ = u at hp ⊢
    obtain ⟨he, -⟩ := mgmtEnd_kept (State.set { u with boot := { u.boot with writing := none } } BOOT_FW_STATUS_act_state 0 0) St.ok 0 0 []
    generalize State.mgmtEnd _ St.ok = v at he ⊢
    have hb : v.boot = { u.boot with writing := none } := he.boot rfl
    exact ⟨by rw [hb], bank_of_banks (t := s.boot.banks) (by rw [hb, hp])⟩
  · intro s ha hh
    obtain ⟨h1, h2, h3⟩ := actHandover_done s ha hh
    refine ⟨_, rfl, ?_⟩
    generalize s.actHandover = u at h1 h2 h3 ⊢
    exact ⟨h1, h2, fun k hk => (get_only_in _ _ _ _ _ rfl).trans (h3 k hk)⟩
  · intro s p ha hh hc hp
    obtain ⟨h1, h2, h3, h4, h5⟩ := actReady_done s p ha hh hc hp
    refine ⟨_, rfl, ?_⟩
    generalize s.actReady p = u at h1 h2 h3 h4 h5 ⊢
    exact ⟨h1, h2, (get_only_in _ _ _ _ _ rfl).trans h3, h4, fun k hk => (get_only_in _ _ _ _ _ rfl).trans (h5 k hk)⟩
  · intro s ha hc
    obtain ⟨h1, h2, h3⟩ := actAbort_bad s hc
    have e : s.actTimeout = s.actAbort true := if_pos ha
    refine ⟨_, rfl, ?_⟩
    rw [e]
    generalize s.actAbort true = u at h1 h2 h3 ⊢
    exact ⟨h1, h2, (get_only_in _ _ _ _ _ rfl).trans h3⟩

end Sys2Proof.Machine
end

section
/-! PROOFS. Namespaces created, deleted, attached and set (R145 to R149, R153, R154). -/

namespace Sys2Proof.Machine

open F

/-! ## The namespace a command names -/

theorem adminNs_inl {s : State} {e : Sqe} {i : Nat} {n : Ns} :
    s.adminNs e = .inl (i, n) ↔ s.nsIndex e.nsid.toNat = some i ∧ s.ns i = some n ∧ s.owned n = true := by
  unfold State.adminNs
  constructor
  · intro h
    split at h
    · cases h
    · rename_i j hj
      split at h
      · cases h
      · rename_i m hm
        split at h
        · rename_i ho
          cases h
          exact ⟨hj, hm, ho⟩
        · cases h
  · rintro ⟨hi, hn, ho⟩
    rw [hi]
    dsimp only
    rw [hn]
    dsimp only
    rw [if_pos ho]

/-- A namespace replaced by one of the same creator keeps every NSID's index. -/
theorem nsIndex_tput (t : Table Nat Ns) (i : Nat) (n m : Ns) (h : tget t i = some n) (hc : m.creator = n.creator) (k : Nat) :
    ((tput t i m).find? fun (j, y) => nsidOf j y = k).map (·.1) = (t.find? fun (j, y) => nsidOf j y = k).map (·.1) := by
  induction t with
  | nil => cases h
  | cons e t ih =>
    obtain ⟨j, y⟩ := e
    rw [tget_cons] at h
    unfold tput
    split
    · rename_i hj
      rw [if_pos hj, Option.some.injEq] at h
      subst hj h
      have : nsidOf j m = nsidOf j y := by simp only [nsidOf, hc]
      simp only [List.find?_cons, this]
      cases decide (nsidOf j y = k) <;> rfl
    · rename_i hj
      rw [if_neg hj] at h
      simp only [List.find?_cons]
      split
      · rfl
      · exact ih h

/-- States with the same namespaces name the same. -/
structure SameNames (s t : State) : Prop where
  ns  : t.nsm.ns = s.nsm.ns
  own : t.moduleId = s.moduleId

theorem SameNames.adminNs {s t : State} (h : SameNames s t) {e : Sqe} {i : Nat} {n : Ns} (k : s.adminNs e = .inl (i, n)) :
    t.adminNs e = .inl (i, n) := by
  obtain ⟨hi, hn, ho⟩ := adminNs_inl.mp k
  refine adminNs_inl.mpr ⟨?_, ?_, ?_⟩
  · rw [State.nsIndex, h.ns]
    exact hi
  · rw [State.ns, h.ns]
    exact hn
  · rw [State.owned, h.own]
    exact ho

theorem SameNames.namesOther {s t : State} (h : SameNames s t) {e : Sqe} (k : s.namesOther e = none) : t.namesOther e = none := by
  unfold State.namesOther at *
  split
  · rfl
  · rename_i hn
    rw [if_neg hn] at k
    split at k
    · rename_i p hp
      rw [h.adminNs (i := p.1) (n := p.2) hp]
    · cases k

section
variable {s u : State} {c : Nat} {x : Cmd} {q : Qp} {n : Nat}

theorem begun_names (s : State) (c : Nat) (x : Cmd) : SameNames s (s.begun c x) :=
  ⟨by rw [begun_nsm], (begun_within s c x).regs _ _ rfl⟩

theorem begun_ns (s : State) (c : Nat) (x : Cmd) : (s.begun c x).nsm.ns = s.nsm.ns := by rw [begun_nsm]

theorem begun_cmdBytes (s : State) (c : Nat) (x : Cmd) : (s.begun c x).cmdBytes x = s.cmdBytes x := cmdBytes_congr (begun_qpe s c x) x

/-! ## Create -/

/-- The capacity not given to namespaces depends on the members, the pool's registers and the namespaces. -/
theorem unvmcap_congr {s t : State} (hs : t.str = s.str) (hn : t.nsm.ns = s.nsm.ns) (hg : ∀ f i, acceptW.field (f.key i) = false → t.get f i = s.get f i) :
    t.unvmcap = s.unvmcap := by
  have hl : t.liveMembers = s.liveMembers := by
    unfold State.liveMembers State.live
    exact List.filter_congr fun x _ => by rw [hg _ _ rfl]
  have hgu : t.gu = s.gu := by
    unfold State.gu State.reserve State.useGranules State.granules State.nLive
    rw [hl, hs, hg _ _ rfl]
  have hk : ∀ g, t.groupKmin g = s.groupKmin g := fun g => by unfold State.groupKmin State.groupKmax; rw [hg _ _ rfl, hg _ _ rfl]
  have hm : ∀ g, t.groupM g = s.groupM g := fun g => by unfold State.groupM; rw [hg _ _ rfl]
  unfold State.unvmcap State.tnvmcap
  simp only [hgu, hk, hm, hn, hg STR_POOL_CFG_op_pct 0 rfl]

/-! ## Rights that change -/

theorem notice_ns (u : State) (o : QOwner) (e t i p : Nat) : (u.notice o e t i p).nsm.ns = u.nsm.ns := by
  unfold State.notice
  extract_lets f
  split
  · rfl
  · split
    · rw [(complete_completeW _ _ _ _ _).nsm rfl]
      rfl
    · split <;> rfl

theorem accessNotices_kept (u : State) (k : Nat) (m m' : Ns) :
    Within { parts := [.ctr, .qpe, .nsm, .pair, .outbox], fields := qpeLive } u (u.accessNotices k m m') ∧
    (u.accessNotices k m m').nsm.ns = u.nsm.ns := by
  unfold State.accessNotices
  dsimp only
  refine ⟨within_each _ _ _ fun t o => (within_nsm t _ rfl).trans (notice_within _ _ _ _ _ _), ?_⟩
  exact each_holds (P := fun t => t.nsm.ns = u.nsm.ns) (fun t o ht => (notice_ns (t.putFeat o { t.feat o with
    changed := if (t.feat o).changed.contains k then (t.feat o).changed else (t.feat o).changed ++ [k] }) o 8 2 0 4).trans ht) _ rfl

/-- A notice leaves an ended command ended. -/
theorem Ended.notice {st : Status} {a b : Word32} (h : Ended u c x st a b) (o : QOwner) (e t i p : Nat) :
    Ended (u.notice o e t i p) c x st a b := by
  unfold State.notice
  extract_lets f
  split
  · exact h
  · split
    · rename_i k rest _
      have hw := complete_completeW (u.putFeat o { f with aers := rest }) k St.ok (aenDw0 (t, i, p)) 0
      refine ⟨?_, (hw.regs _ _ rfl).trans h.2.1, (hw.regs _ _ rfl).trans h.2.2.1, ?_⟩
      · exact Completes.complete (s := u.putFeat o { f with aers := rest }) (h.1.congr rfl) _ _ _ _
      · rw [hw.nsm rfl]
        exact h.2.2.2
    · split
      · exact h
      · exact h.congr rfl rfl rfl rfl

theorem Ended.accessNotices {st : Status} {a b : Word32} (h : Ended u c x st a b) (k : Nat) (m m' : Ns) :
    Ended (u.accessNotices k m m') c x st a b := by
  unfold State.accessNotices
  dsimp only
  exact each_holds (P := fun t => Ended t c x st a b) (fun t o ht => Ended.notice (u := t.putFeat o { t.feat o with
    changed := if (t.feat o).changed.contains k then (t.feat o).changed else (t.feat o).changed ++ [k] }) (ht.congr rfl rfl rfl rfl) o 8 2 0 4) _ h

/-- A namespace's attachment list changed, the command ended, the owners concerned told. -/
theorem InTurn.attaches (h : InTurn u c x q) (i : Nat) (m : Ns) (l : List Attach) :
    let v : State := { u with nsm := { u.nsm with ns := tput u.nsm.ns i { m with attach := l } } }
    Ended ((v.mgmtEnd St.ok 0 0 [.attach i l]).accessNotices (nsidOf i m) m { m with attach := l }) c x St.ok ∧
    ((v.mgmtEnd St.ok 0 0 [.attach i l]).accessNotices (nsidOf i m) m { m with attach := l }).nsm.ns = tput u.nsm.ns i { m with attach := l } := by
  intro v
  have hv : InTurn v c x q := h.congr rfl rfl rfl rfl rfl rfl
  obtain ⟨-, hk⟩ := mgmtEnd_kept v St.ok 0 0 [.attach i l]
  refine ⟨(hv.ends St.ok 0 0 [.attach i l]).accessNotices (nsidOf i m) m { m with attach := l }, ?_⟩
  exact (accessNotices_kept _ (nsidOf i m) m { m with attach := l }).2.trans (by rw [hk])

/-! ## Tenants -/

theorem within_calHeld (s : State) (c : Nat) (x : Cmd) : Within { parts := [.tms] } s (s.calHeld c x) := by
  have hd : ∀ (u : State) e, Within { parts := [.tms] } u (u.calDrop e) := fun u e => within_tms u _ rfl
  have hp : ∀ (u : State) e a b, Within { parts := [.tms] } u (u.calPut e a b) := fun u e a b =>
    within_ite _ (fun _ => .refl _ _) fun _ => within_tms u _ rfl
  exact (hd s _).trans (hp _ _ _ _)

/-- What the registers of a tenant write. -/
def tenantW : Writes where
  parts := [.tms, .nsm]
  fields := [TMS_TENANT_CFG_max_rate, TMS_TENANT_CFG_max_burst, TMS_TENANT_CFG_weight, TMS_TENANT_CFG_red_action, TMS_TENANT_CFG_colour_aware,
    TMS_TENANT_CFG_police_en, TMS_TENANT_CFG_class, TMS_POL_RATE_eir, TMS_POL_RATE_cir, TMS_POL_BURST_ebs, TMS_POL_BURST_cbs]

theorem within_setImage {w : Writes} (l : List Fld) (i v : Nat) (h : ∀ f ∈ l, w.field (f.key i) = true) (s : State) :
    Within w s (s.setImage l i v) := by
  induction l generalizing s with
  | nil => exact .refl _ _
  | cons f l ih => exact (within_set s f i _ (h f (List.mem_cons_self ..))).trans (ih (fun g hg => h g (List.mem_cons_of_mem _ hg)) _)

theorem tenantSet_after (s : State) (t a b e : Nat) : Within tenantW s (s.tenantSet t a b e) ∧
    (s.tenantSet t a b e).get TMS_TENANT_CFG_class t = a % 8 ∧
    (s.tenantSet t a b e).get TMS_POL_BURST_cbs t = e / 2 ^ TMS_POL_BURST_cbs.lo % 2 ^ TMS_POL_BURST_cbs.w ∧
    ∃ z, (s.tenantSet t a b e).nsm = { s.nsm with tenants := z } := by
  have wp : ∀ u : State, Within { parts := [.tms] } u (u.policerSet s t) := fun u => by
    unfold State.policerSet
    exact (within_tms u _ rfl).trans (within_each _ _ _ fun u e => within_calHeld u _ _)
  unfold State.tenantSet
  extract_lets n1 n2 n3 _
  have w1 : Within tenantW s n1 := within_setImage _ _ _ (by simp only [List.forall_mem_cons]; exact ⟨rfl, rfl, rfl, rfl, rfl, rfl, rfl, by simp⟩) _
  have w2 : Within { fields := [TMS_POL_RATE_eir, TMS_POL_RATE_cir] } n1 n2 :=
    within_setImage _ _ _ (by simp only [List.forall_mem_cons]; exact ⟨rfl, rfl, by simp⟩) _
  have w3 : Within { fields := [TMS_POL_BURST_ebs, TMS_POL_BURST_cbs] } n2 n3 :=
    within_setImage _ _ _ (by simp only [List.forall_mem_cons]; exact ⟨rfl, rfl, by simp⟩) _
  have w4 : Within { parts := [.nsm] } n3 { n3 with nsm := { n3.nsm with tenants := tput n3.nsm.tenants t (a, b, e) } } := within_nsm _ _ rfl
  replace wp := wp { n3 with nsm := { n3.nsm with tenants := tput n3.nsm.tenants t (a, b, e) } }
  have hn : n3.nsm = s.nsm := by rw [w3.nsm rfl, w2.nsm rfl]; rfl
  refine ⟨(((w1.trans (w2.widen (by decide) (by decide) (by decide))).trans (w3.widen (by decide) (by decide) (by decide))).trans
    (w4.widen (by decide) (by decide) (by decide))).trans (wp.widen (by decide) (by decide) (by decide)), ?_, ?_, ?_⟩
  · refine (wp.regs _ _ rfl).trans ((w4.regs _ _ rfl).trans ((w3.regs _ _ rfl).trans ((w2.regs _ _ rfl).trans ((get_set_same _ _ _ _).trans ?_))))
    simp [TMS_TENANT_CFG_class]
  · exact (wp.regs _ _ rfl).trans ((w4.regs _ _ rfl).trans (get_set_same _ _ _ _))
  · exact ⟨tput n3.nsm.tenants t (a, b, e), (wp.nsm rfl).trans (by rw [hn])⟩

/-! ## Deletion -/

/-- What marking namespaces writes. -/
def markDelW : Writes := { parts := [.ctr, .qpe, .nsm, .jnl, .pair, .outbox], fields := qpeLive }

/-- One ACTIVE namespace marked for deletion. -/
theorem deleteMark_one (s : State) (k : Word32) (i : Nat) (m : Ns) (h : s.ns i = some m) :
    (s.deleteMark k [i]).1.nsm = { s.nsm with
      ns := tput s.nsm.ns i { m with state := .deleting }, dels := tput s.nsm.dels k (tgetD s.nsm.dels k [] ++ [i]) } ∧
    Within markDelW s (s.deleteMark k [i]).1 := by
  unfold State.deleteMark
  simp only [List.filterMap_cons, List.filterMap_nil, h, Option.map_some, List.foldl_cons, List.foldl_nil, List.isEmpty_cons,
    Bool.false_eq_true, if_false]
  have hw : ∀ (l : List Nat) (u : State), Within completeW u (u.completeAll l St.invalidNs) := fun l u =>
    within_each u l _ fun u k => complete_completeW u k _ _ _
  refine ⟨(hw _ _).nsm rfl, .trans (t := { s with nsm := { s.nsm with
    ns := tput s.nsm.ns i { m with state := .deleting }, dels := tput s.nsm.dels k (tgetD s.nsm.dels k [] ++ [i]) } }) (within_nsm s _ rfl) ?_⟩
  exact (within_jnl _ _ rfl).trans ((hw _ _).widen (by decide) (by decide) (by decide))

/-- A delete of an ACTIVE namespace runs with the namespace marked. -/
theorem nsDelete_marks (h : Managed s c x q 0x0D) (hs : x.sqe.cdw10.toNat % 16 = 1) (hall : x.sqe.nsid ≠ 0xFFFFFFFF) (i : Nat) (m : Ns)
    (hi : s.adminNs x.sqe = .inl (i, m)) (ha : m.state = .active) :
    (s.nsDelete c).nsm.ns = tput s.nsm.ns i { m with state := .deleting } ∧ (s.nsDelete c).nsm.running = some c := by
  let u := s.set GLB_MGMT_SEQ_last_accepted 0 x.sqe.cdw2.toNat
  have hu : SameNames s u := ⟨rfl, get_set_field s _ _ _ (by decide)⟩
  obtain ⟨hx, hm, ho⟩ := adminNs_inl.mp hi
  have ht : u.deleteTargets x.sqe = [i] := by
    unfold State.deleteTargets
    rw [if_neg hall, hu.adminNs hi]
    exact if_pos ha
  obtain ⟨hn, hw⟩ := deleteMark_one u x.sqe.cdw2 i m hm
  have hr : (u.deleteMark x.sqe.cdw2 (u.deleteTargets x.sqe)).1.nsm.runSeq = none := by rw [ht, hn]; exact h.first
  have hq : (u.deleteMark x.sqe.cdw2 (u.deleteTargets x.sqe)).1.nsm.seqQueue = [] := by rw [ht, hn]; exact h.empty
  unfold State.nsDelete
  rw [mgmtGateWith_admits _ _ _ h (by simp [hs]) hr hq, ht]
  obtain ⟨aw, -, an, -⟩ := admitted_after (u.deleteMark x.sqe.cdw2 [i]).1 (u.deleteMark x.sqe.cdw2 [i]).2 c x
  generalize hv : (u.deleteMark x.sqe.cdw2 [i]).1.admitted (u.deleteMark x.sqe.cdw2 [i]).2 c x = v at aw an ⊢
  rw [hn] at an
  have hown : v.moduleId = s.moduleId := (aw.regs _ _ rfl).trans ((hw.regs _ _ rfl).trans hu.own)
  have hadm : v.adminNs x.sqe = .inl (i, { m with state := .deleting }) := by
    refine adminNs_inl.mpr ⟨?_, ?_, ?_⟩
    · rw [State.nsIndex, an]
      exact (nsIndex_tput s.nsm.ns i m { m with state := .deleting } hm rfl x.sqe.nsid.toNat).trans hx
    · rw [State.ns, an]
      exact tget_tput_same _ _ _
    · unfold State.owned
      rw [hown]
      exact ho
  have htv : v.deleteTargets x.sqe = [] := by
    unfold State.deleteTargets
    rw [if_neg hall, hadm]
    rfl
  have hd : (tget v.nsm.dels x.sqe.cdw2).isSome = true := by
    rw [an]
    exact congrArg Option.isSome (tget_tput_same _ _ _)
  rw [htv]
  simp only [List.isEmpty_nil, Bool.not_true, Bool.false_eq_true, if_false, hd, if_true]
  exact ⟨by rw [an]; rfl, by rw [an]⟩

/-- A namespace without blocks. -/
def Unmapped (i : Nat) (t : State) : Prop := ∀ lba, t.lookup i lba = .unmapped

theorem Unmapped.of_str {i : Nat} {t v : State} (h : Unmapped i t) (e : v.str = t.str) : Unmapped i v := fun lba => by
  unfold State.lookup
  rw [e]
  exact h lba

theorem dropMap_unmapped (t : State) (i k : Nat) : Unmapped i (t.dropMap i k) ∧ (t.dropMap i k).nsm = t.nsm := by
  have hcrev : ∀ u : State, (u.crevDrop k).str = u.str ∧ (u.crevDrop k).nsm = u.nsm := by
    intro u
    unfold State.crevDrop State.crevErase
    split
    · rw [(pairSend_pairW _ _).str rfl, (pairSend_pairW _ _).nsm rfl]
      exact ⟨rfl, rfl⟩
    · exact ⟨rfl, rfl⟩
  unfold State.dropMap
  extract_lets here _ u
  obtain ⟨h1, h2⟩ := hcrev u
  refine ⟨Unmapped.of_str (fun lba => ?_) h1, h2⟩
  show tgetD (t.str.map.filter fun ((j, _), _) => j != i) (i, lba) .unmapped = _
  rw [tgetD, tget_filter t.str.map (fun p => p.1 != i)]
  simp

theorem within_learnSend (s : State) (o : LearnOut) : Within { parts := [.ctr, .hkt, .tms, .swc, .fwd, .freeCtr], fields := cells } s (s.learnSend o) := by
  have hn : ∀ u : State, Within { parts := [.ctr, .hkt, .tms, .swc, .fwd, .freeCtr], fields := cells } u (u.learnNow o) := by
    intro u
    unfold State.learnNow
    extract_lets
    refine .trans (.trans ?_ ((within_sendOn _ _ _ _ _).widen (by decide) (by decide) (by decide))) (within_bump _ _ _ rfl)
    exact (within_freeCtr u _ rfl).trans (within_fwd _ _ rfl)
  unfold State.learnSend
  exact within_ite _ (fun _ => hn s) fun _ => within_ite _ (fun _ => within_bump _ _ _ rfl) fun _ => within_fwd _ _ rfl

theorem within_originate (s : State) (l : List Nat) (a : Option LocRec) (b : Option ModRec) :
    Within { parts := [.ctr, .hkt, .tms, .swc, .fwd, .freeCtr], fields := cells } s (s.originate l a b) :=
  (within_fwd s _ rfl).trans (within_each _ _ _ fun s _ => within_learnSend s _)

/-- What a deleted namespace's writes and blocks let go. -/
def drainedW : Writes := { parts := .swc :: mappingParts, fields := qpeLive ++ rebLive ++ firnSeq }

theorem firnW_dropWrite (s : State) (c : Nat) : Within firnW s (s.dropWrite c) := by
  unfold State.dropWrite
  split
  · exact .refl _ _
  · refine .trans (within_each _ _ _ fun s i => ?_) (within_jnl _ _ rfl)
    split
    · exact within_ite _ (fun _ => firnW_slotFree _ _) fun _ => .refl _ _
    · exact .refl _ _

theorem dropStages_swc (s : State) (c : Nat) : Within { parts := [.swc] } s (s.dropStages c) := by
  unfold State.dropStages
  refine (within_swc s _ rfl).trans (within_each _ _ _ fun s b => ?_)
  unfold State.dropStage
  dsimp only
  split
  · exact within_swc _ _ rfl
  · exact within_swc _ _ rfl

/-- A namespace drained: its entry and its blocks are gone, the others stay. -/
theorem nsDrained_after (s : State) (i : Nat) (m : Ns) (hm : s.ns i = some m) (hst : m.state = .deleting) (ho : s.owned m = true)
    (ht : s.delTurn i = true) (hc : ∀ e ∈ s.qpe.cmds, e.2.ns = some i → e.2.phase ≠ .started) :
    (s.nsDrained i).nsm.ns = tdel s.nsm.ns i ∧ Unmapped i (s.nsDrained i) := by
  have hstart : (s.qpe.cmds.any fun (_, y) => y.ns = some i && y.phase = .started) = false := by
    rw [List.any_eq_false]
    intro e he
    simpa using hc e he
  unfold State.nsDrained
  rw [hm]
  dsimp -zeta only
  rw [if_neg (by rw [hst, ho, ht, hstart]; decide)]
  extract_lets nsid u gone v w _ z r _ t p
  have hu : Within drainedW s u := within_each _ _ _ fun s k => ((firnW_dropWrite s k).widen (by decide) (by decide) (by decide)).trans
    ((dropStages_swc _ k).widen (by decide) (by decide) (by decide))
  have hv : Within drainedW u v := within_each _ _ _ fun s k => (firnW_slotFree s k).widen (by decide) (by decide) (by decide)
  obtain ⟨hw, hwn⟩ := dropMap_unmapped v i nsid
  have hz : z.nsm.ns = tdel s.nsm.ns i ∧ Unmapped i z := by
    have q := within_metaAppend (State.rebind { w with nsm := { w.nsm with
      ns := tdel w.nsm.ns i
      deferred := w.nsm.deferred.filter fun (e : DefErr) => e.nsid != nsid
      pending := w.nsm.pending.filter fun ((_, j), _) => j != i } } i) 4 (.nsDelete i nsid)
    refine ⟨(congrArg Nsm.ns (q.nsm rfl)).trans ?_, Unmapped.of_str hw (q.str rfl)⟩
    show tdel w.nsm.ns i = _
    rw [hwn, hv.nsm rfl, hu.nsm rfl]
  have hp : p.nsm.ns = tdel s.nsm.ns i ∧ Unmapped i p := by
    have ht : t.nsm = z.nsm ∧ t.str = z.str := by
      show (ite _ _ _ : State).nsm = _ ∧ (ite _ _ _ : State).str = _
      split
      · exact ⟨rfl, rfl⟩
      · have q := within_originate { z with fwd := { z.fwd with withdraws := tput z.fwd.withdraws nsid (r, 2) } } z.clusterPorts (some r) none
        exact ⟨q.nsm rfl, q.str rfl⟩
    obtain ⟨q, qn⟩ := accessNotices_kept t nsid m { m with attach := [] }
    exact ⟨qn.trans ((congrArg Nsm.ns ht.1).trans hz.1), (hz.2.of_str ht.2).of_str (q.str rfl)⟩
  split
  · obtain ⟨q, qn⟩ := mgmtEnd_kept p St.ok 0 0 []
    exact ⟨(by rw [qn]; exact hp.1), hp.2.of_str (q.str rfl)⟩
  · exact hp

/-- A metadata record leaves the write jobs. -/
theorem metaAppend_writes (s : State) (o : Nat) (b : FirnBody) : (s.metaAppend o b).jnl.writes = s.jnl.writes := by
  have hp : ∀ (u : State) m, (u.pairSend m).jnl = u.jnl := fun u m => (pairSend_pairW u m).jnl rfl
  have hs : ∀ (u : State) r, (u.firnSettle r).jnl = u.jnl := fun u r => by
    unfold State.firnSettle
    split <;> rfl
  unfold State.metaAppend State.firnAppendWith State.firnPushWith
  dsimp only
  split_ifs <;> simp only [hp, hs, enter_jnl, raise_jnl] <;> rfl

theorem admitted_writes (v : State) (l : List NsImage) (c : Nat) (x : Cmd) : (v.admitted l c x).jnl.writes = v.jnl.writes :=
  metaAppend_writes v 0 _

/-- The end of a Set Features C1h: the namespace has the mode and the tenant. -/
theorem serviceEnd_ns (v : State) (i mode tenant : Nat) (m : Ns) (hm : v.ns i = some m) :
    (v.serviceEnd i mode tenant).ns i = some { m with mode := mode, tenant := tenant } ∧ (v.serviceEnd i mode tenant).nsm.service = none := by
  unfold State.serviceEnd
  dsimp only
  obtain ⟨-, hk⟩ := mgmtEnd_kept { v with nsm := { v.nsm with
      service := none, ns := tmod v.nsm.ns i fun n => { n with mode := mode, tenant := tenant } } } St.ok 0 0 [.service i mode tenant]
  refine ⟨(hk.ns i).trans ((tget_tmod_same _ _ _).trans (congrArg _ hm)), ?_⟩
  rw [hk]

theorem InTurn.serves (h : InTurn u c x q) (i mode tenant : Nat) (m : Ns) (hm : u.ns i = some m) :
    Ended (u.serviceEnd i mode tenant) c x St.ok ∧ (u.serviceEnd i mode tenant).ns i = some { m with mode := mode, tenant := tenant } := by
  have hv : InTurn { u with nsm := { u.nsm with
      service := none, ns := tmod u.nsm.ns i fun n => { n with mode := mode, tenant := tenant } } } c x q := h.congr rfl rfl rfl rfl rfl rfl
  exact ⟨hv.ends St.ok 0 0 [.service i mode tenant], (serviceEnd_ns u i mode tenant m hm).1⟩

theorem serviceAsk_mode (u : State) (e : Sqe) (i : Nat) (m : Ns) (hsv : svOf e = false) (hi : u.adminNs e = .inl (i, m)) (hv : e.cdw11.toNat < 4)
    (hk : e.cdw12.toNat = 1) : u.serviceAsk e = .inl (i, e.cdw11.toNat, m.tenant) := by
  unfold State.serviceAsk
  dsimp only
  rw [hsv, if_neg (by decide), hi]
  dsimp only
  rw [hk, if_neg (by simp; omega), if_pos rfl, if_neg (by decide), Nat.mod_eq_of_lt hv]

/-- The mode that a Set Features C1h gives is the namespace's. -/
theorem setService_modes (h : Managed s c x q 9) (hf : fidOf x.sqe = 0xC1) (hsv : svOf x.sqe = false) (i : Nat) (m : Ns)
    (hi : s.adminNs x.sqe = .inl (i, m)) (hv : x.sqe.cdw11.toNat < 4) (hk : x.sqe.cdw12.toNat = 1) (he : s.earlyWrites i = []) :
    Ended (s.setService c) c x St.ok ∧ (s.setService c).ns i = some { m with mode := x.sqe.cdw11.toNat } := by
  let u := s.set GLB_MGMT_SEQ_last_accepted 0 x.sqe.cdw2.toNat
  have hu : SameNames s u := ⟨rfl, get_set_field s _ _ _ (by decide)⟩
  obtain ⟨hx, hm, ho⟩ := adminNs_inl.mp hi
  have hearly : u.serviceEarly x = { u with nsm := { u.nsm with ns := tmod u.nsm.ns i fun n => { n with mode := x.sqe.cdw11.toNat } } } := by
    unfold State.serviceEarly
    rw [serviceAsk_mode u x.sqe i m hsv (hu.adminNs hi) hv hk]
  unfold State.setService
  rw [mgmtGateWith_admits (fun s x => (s.serviceEarly x, [])) _ _ h (by simp [hf])
    (by show (u.serviceEarly x).nsm.runSeq = none; rw [hearly]; exact h.first)
    (by show (u.serviceEarly x).nsm.seqQueue = []; rw [hearly]; exact h.empty)]
  obtain ⟨aw, aq, an, ag⟩ := admitted_after (u.serviceEarly x) [] c x
  have aj := admitted_writes (u.serviceEarly x) [] c x
  dsimp only
  generalize hvv : (u.serviceEarly x).admitted [] c x = v at aw aq an ag aj ⊢
  rw [hearly] at aw aq an ag aj
  replace aq : v.qpe = s.qpe := aq
  replace aj : v.jnl.writes = s.jnl.writes := aj
  have htm : tmod u.nsm.ns i (fun n => { n with mode := x.sqe.cdw11.toNat }) = tput s.nsm.ns i { m with mode := x.sqe.cdw11.toNat } := by
    unfold tmod
    rw [show tget u.nsm.ns i = some m from hm]
    rfl
  have hns : v.nsm.ns = tput s.nsm.ns i { m with mode := x.sqe.cdw11.toNat } := (congrArg Nsm.ns an).trans htm
  have hget : v.ns i = some { m with mode := x.sqe.cdw11.toNat } := by
    rw [State.ns, hns]
    exact tget_tput_same _ _ _
  have hadm : v.adminNs x.sqe = .inl (i, { m with mode := x.sqe.cdw11.toNat }) := by
    refine adminNs_inl.mpr ⟨?_, hget, ?_⟩
    · rw [State.nsIndex, hns]
      exact (nsIndex_tput s.nsm.ns i m { m with mode := x.sqe.cdw11.toNat } hm rfl x.sqe.nsid.toNat).trans hx
    · rw [State.owned, show v.moduleId = s.moduleId from (aw.regs _ _ rfl).trans hu.own]
      exact ho
  have hew : v.earlyWrites i = [] := by
    rw [← he]
    unfold State.earlyWrites
    rw [aq, aj]
  rw [serviceAsk_mode v x.sqe i _ hsv hadm hv hk]
  dsimp only
  rw [hew]
  have hr : InTurn v c x q := by
    refine ⟨h.run.of_qpe (by rw [aq]) (by rw [aq]), by rw [an], by rw [an], ?_, ?_, ?_⟩
    · rw [an]
      exact h.empty
    · rw [an]
      exact h.dels
    · exact ag.trans ((get_set_same s GLB_MGMT_SEQ_last_accepted 0 x.sqe.cdw2.toNat).trans (Nat.mod_eq_of_lt x.sqe.cdw2.isLt))
  obtain ⟨h1, h2⟩ := hr.serves i x.sqe.cdw11.toNat m.tenant _ hget
  exact ⟨h1, h2⟩

/-- The data of a create that asks for nothing beyond what it may (R145). -/
theorem createData_ok (d : List Byte) (h : ∀ e ∈ d.zipIdx, 16 ≤ e.2 → (e.2 < 3072 ∨ 3080 ≤ e.2 ∨ e.2 = 3078) → e.1 = 0) :
    (d.zipIdx.any fun (v, j) => !(decide (j < 16) || decide (j = 26) || (decide (3072 ≤ j) && decide (j < 3080) && j != 3078)) && v != 0) = false := by
  rw [List.any_eq_false]
  rintro ⟨v, j⟩ he
  have := h _ he
  simp only [Bool.and_eq_true, Bool.not_eq_true', Bool.or_eq_false_iff, decide_eq_false_iff_not, Bool.and_eq_false_iff, bne_eq_false_iff_eq,
    bne_iff_ne, not_and, not_not]
  rintro ⟨⟨h1, h2⟩, h3⟩
  refine this (by omega) ?_
  rcases h3 with (h3 | h3) | h3
  · exact .inl (by omega)
  · exact .inr (.inl (by omega))
  · exact .inr (.inr h3)

/-- What a create of data `d` asks for, within its limits: the namespace it makes (R145, R146, R164, R185). -/
structure CreateOk (s : State) (d : List Byte) (k : KeySlot) (i : Nat) : Prop where
  size   : leAt d 0 8 ≠ 0
  cap    : leAt d 8 8 = leAt d 0 8
  zero   : ∀ e ∈ d.zipIdx, 16 ≤ e.2 → (e.2 < 3072 ∨ 3080 ≤ e.2 ∨ e.2 = 3078) → e.1 = 0
  format : leAt d 26 1 = 0
  tenant : leAt d 3072 2 ≤ 4092
  mode   : leAt d 3074 1 ≤ 3
  prot   : leAt d 3075 1 ≤ 1
  group  : leAt d 3079 1 ≤ 15
  key    : tget s.key.slots (leAt d 3076 2) = some k
  kind   : k.kind = .xts
  loaded : k.state = .loaded
  bound  : k.bind = .none
  assure : k.assured = (leAt d 3075 1 = 1)
  free   : firstFree s.nsm.ns (s.nsm.ns.length + 1) 0 = some i
  index  : i < 4096
  room   : 4096 * leAt d 0 8 ≤ s.unvmcap

/-- The namespace that a create makes. -/
def State.madeNs (s : State) (d : List Byte) : Ns :=
  { creator := s.moduleId, mode := leAt d 3074 1, assured := leAt d 3075 1 = 1, group := leAt d 3079 1, keySlot := leAt d 3076 2,
    tenant := leAt d 3072 2, nsze := leAt d 0 8, ownerId := s.moduleId, check := s.slotCheck (leAt d 3076 2) }

theorem nsCreate_creates (h : Managed s c x q 0x0D) (hs : x.sqe.cdw10.toNat % 16 = 0) (hc : x.sqe.cdw11.toNat / 2 ^ 24 = 0) {k : KeySlot} {i : Nat}
    (ok : CreateOk s (s.cmdBytes x) k i) :
    s.nsCreate c = (State.rebind { s.begun c x with nsm := { (s.begun c x).nsm with
      ns := tput (s.begun c x).nsm.ns i ((s.begun c x).madeNs (s.cmdBytes x)) } } i).mgmtEnd St.ok
      (BitVec.ofNat 32 (nsidOf i ((s.begun c x).madeNs (s.cmdBytes x)))) 0 [.entry i ((s.begun c x).madeNs (s.cmdBytes x))] := by
  have hk : (s.begun c x).key = s.key := (begun_within s c x).key rfl
  have hcap := unvmcap_congr ((begun_within s c x).str rfl) (begun_ns s c x) fun f i h => (begun_within s c x).regs f i h
  unfold State.nsCreate
  rw [mgmtGate_begins _ _ h (by simp [hs])]
  dsimp only
  rw [begun_cmdBytes, hk, begun_ns, hcap, if_neg (by rw [hs, hc]; decide), if_neg (by simp [ok.format]), createData_ok _ ok.zero, ok.key, if_neg]
  · rw [ok.free]
    dsimp only
    rw [if_neg (by have := ok.index; omega), if_neg (by have := ok.room; omega)]
    rfl
  · simp [ok.size, ok.cap, ok.kind, ok.loaded, ok.bound, ok.assure]
    exact ⟨⟨⟨ok.tenant, ok.mode⟩, ok.prot⟩, ok.group⟩

/-- The begun state with another table of namespaces keeps the command in its turn. -/
theorem begun_ns_inTurn (h : Managed s c x q n) (l : Table Nat Ns) :
    InTurn { s.begun c x with nsm := { (s.begun c x).nsm with ns := l } } c x q :=
  (begun_inTurn h).congr rfl rfl rfl rfl rfl rfl

/-- A list of attachments within the limits is attached. -/
theorem nsAttach_attaches (h : Managed s c x q 0x15) (hs : x.sqe.cdw10.toNat % 16 = 0) (i : Nat) (m : Ns) (l : List Attach)
    (hi : s.adminNs x.sqe = .inl (i, m)) (hl : attachList (x.sqe.cdw11.toNat % 2 = 1) (s.cmdBytes x) = some l)
    (h1 : (l.foldl attachPut m.attach).length ≤ 256)
    (h2 : (l.foldl attachPut m.attach).length + (s.nsm.ns.map fun e => if e.1 = i then 0 else e.2.attach.length).sum ≤ 65536) :
    Ended (s.nsAttach c false) c x St.ok ∧ (s.nsAttach c false).nsm.ns = tput s.nsm.ns i { m with attach := l.foldl attachPut m.attach } := by
  have hadm := (begun_names s c x).adminNs hi
  have hat := (begun_inTurn h).attaches i m (l.foldl attachPut m.attach)
  have hns := begun_ns s c x
  have hcb := begun_cmdBytes s c x
  unfold State.nsAttach
  rw [mgmtGate_begins _ _ h (by simp [hs])]
  generalize s.begun c x = u at hadm hat hns hcb ⊢
  dsimp only
  rw [hs, if_neg (by decide), hadm]
  dsimp only
  rw [hcb, hl]
  dsimp only
  rw [if_neg (by decide), if_neg]
  · rw [← hns]
    exact hat
  · rw [hns]
    simp only [Bool.or_eq_true, decide_eq_true_eq, not_or, Nat.not_lt]
    exact ⟨h1, h2⟩

/-- The entries of a list that are all attached are detached. -/
theorem nsAttach_detaches (h : Managed s c x q 0x15) (hs : x.sqe.cdw10.toNat % 16 = 1) (i : Nat) (m : Ns) (l : List Attach)
    (hi : s.adminNs x.sqe = .inl (i, m)) (hl : attachList (x.sqe.cdw11.toNat % 2 = 1) (s.cmdBytes x) = some l)
    (h1 : ∀ a ∈ l, ∃ b ∈ m.attach, b.key = a.key) :
    Ended (s.nsAttach c true) c x St.ok ∧
    (s.nsAttach c true).nsm.ns = tput s.nsm.ns i { m with attach := m.attach.filter fun b => !(l.any fun a => a.key = b.key) } := by
  have hadm := (begun_names s c x).adminNs hi
  have hat := (begun_inTurn h).attaches i m (m.attach.filter fun b => !(l.any fun a => a.key = b.key))
  have hns := begun_ns s c x
  have hcb := begun_cmdBytes s c x
  unfold State.nsAttach
  rw [mgmtGate_begins _ _ h (by simp [hs])]
  generalize s.begun c x = u at hadm hat hns hcb ⊢
  dsimp only
  rw [hs, if_neg (by decide), hadm]
  dsimp only
  rw [hcb, hl]
  dsimp only
  rw [if_pos rfl, if_neg]
  · rw [← hns]
    exact hat
  · rw [Bool.not_eq_true, List.any_eq_false]
    intro a ha
    obtain ⟨b, hb, hk⟩ := h1 a ha
    simp only [Bool.not_eq_true', Bool.not_eq_false, List.any_eq_true, decide_eq_true_eq]
    exact ⟨b, hb, hk⟩

/-- A tenant's class and policer are set. -/
theorem setTenant_sets (h : Managed s c x q 9) (hf : fidOf x.sqe = 0xC0) (hsv : svOf x.sqe = false) (ho : s.namesOther x.sqe = none)
    (ht : x.sqe.cdw11.toNat < 4093) (h0 : leAt (s.cmdBytes x) 24 8 = 0) (h1 : reservedBits TMS_TENANT_CFG_class.reg (leAt (s.cmdBytes x) 0 8) = false)
    (h2 : reservedBits TMS_POL_RATE_cir.reg (leAt (s.cmdBytes x) 8 8) = false)
    (h3 : reservedBits TMS_POL_BURST_cbs.reg (leAt (s.cmdBytes x) 16 8) = false) :
    Ended (s.setTenant c) c x St.ok ∧ (s.setTenant c).get TMS_TENANT_CFG_class x.sqe.cdw11.toNat = leAt (s.cmdBytes x) 0 8 % 8 ∧
    (s.setTenant c).get TMS_POL_BURST_cbs x.sqe.cdw11.toNat = leAt (s.cmdBytes x) 16 8 / 2 ^ TMS_POL_BURST_cbs.lo % 2 ^ TMS_POL_BURST_cbs.w := by
  have hno := (begun_names s c x).namesOther ho
  have hit := begun_inTurn h
  have hcb := begun_cmdBytes s c x
  unfold State.setTenant
  rw [mgmtGate_begins _ _ h (by simp [hf])]
  generalize s.begun c x = u at hno hit hcb ⊢
  dsimp only
  rw [hno]
  dsimp only
  rw [hsv, if_neg (by decide), hcb, h0, h1, h2, h3, Nat.mod_eq_of_lt (show x.sqe.cdw11.toNat < 4096 by omega),
    if_neg (by simp; omega)]
  obtain ⟨tw, tc, tb, z, tn⟩ := tenantSet_after u x.sqe.cdw11.toNat (leAt (s.cmdBytes x) 0 8) (leAt (s.cmdBytes x) 8 8) (leAt (s.cmdBytes x) 16 8)
  generalize u.tenantSet _ _ _ _ = v at tw tc tb tn ⊢
  have hv : InTurn v c x q := hit.congr (tw.qpe rfl) (by rw [tn]) (by rw [tn]) (by rw [tn]) (by rw [tn]) (tw.regs _ _ rfl)
  obtain ⟨ew, -⟩ := mgmtEnd_kept v St.ok 0 0 [.tenant x.sqe.cdw11.toNat (leAt (s.cmdBytes x) 0 8) (leAt (s.cmdBytes x) 8 8) (leAt (s.cmdBytes x) 16 8)]
  exact ⟨hv.ends St.ok 0 0 _, (ew.regs _ _ rfl).trans tc, (ew.regs _ _ rfl).trans tb⟩

/-- A tenant number of a class that no command sets is refused. -/
theorem setTenant_refuses (h : Managed s c x q 9) (hf : fidOf x.sqe = 0xC0) (hsv : svOf x.sqe = false) (ho : s.namesOther x.sqe = none)
    (ht : 4093 ≤ x.sqe.cdw11.toNat) :
    Ended (s.setTenant c) c x St.invalidField ∧ ∀ i, (s.setTenant c).get TMS_TENANT_CFG_class i = s.get TMS_TENANT_CFG_class i := by
  have hno := (begun_names s c x).namesOther ho
  have hit := begun_inTurn h
  have hg : ∀ i, (s.begun c x).get TMS_TENANT_CFG_class i = s.get TMS_TENANT_CFG_class i := fun i => (begun_within s c x).regs _ i rfl
  unfold State.setTenant
  rw [mgmtGate_begins _ _ h (by simp [hf])]
  generalize s.begun c x = u at hno hit hg ⊢
  dsimp only
  rw [hno]
  dsimp only
  have hbad : (decide (4093 ≤ x.sqe.cdw11.toNat % 4096) || x.sqe.cdw11.toNat / 4096 != 0) = true := by
    simp only [Bool.or_eq_true, decide_eq_true_eq, bne_iff_ne]
    omega
  rw [hsv, if_neg (by decide), hbad]
  simp only [Bool.true_or, if_true]
  obtain ⟨ew, -⟩ := mgmtEnd_kept u St.invalidField 0 0 []
  exact ⟨hit.ends St.invalidField 0 0 [], fun i => (ew.regs _ _ rfl).trans (hg i)⟩

end

/-! ## The family -/

/-- Settles O21: namespaces created, deleted, attached, detached and set, each with its outcome recorded. -/
theorem namespaceManagement : Obligations.NamespaceManagement := by
  unfold Obligations.NamespaceManagement
  refine ⟨?_, ?_, ?_, ?_, ?_, ?_, ?_, ?_, ?_, ?_⟩
  · intro s c i x q k h hs hc h1 h2 h3 h4 h5 h6 h7 h8 h9 h10 h11 h12 h13 h14 h15 h16
    have e := nsCreate_creates h hs hc (k := k) (i := i) ⟨h1, h2, h3, h4, h5, h6, h7, h8, h9, h10, h11, h12, h13, h14, h15, h16⟩
    have hit := begun_inTurn h
    have hown : (s.begun c x).moduleId = s.moduleId := (begun_names s c x).own
    refine ⟨_, rfl, ?_⟩
    rw [e]
    generalize s.begun c x = u at hit hown ⊢
    have hm : (u.madeNs (s.cmdBytes x)).creator = s.moduleId := hown
    have ho : (u.madeNs (s.cmdBytes x)).ownerId = s.moduleId := hown
    have hid : nsidOf i (u.madeNs (s.cmdBytes x)) = s.moduleId * 4096 + i + 1 := by rw [nsidOf, hm]
    rw [hid]
    have hv : InTurn (State.rebind { u with nsm := { u.nsm with ns := tput u.nsm.ns i (u.madeNs (s.cmdBytes x)) } } i) c x q :=
      hit.congr rfl rfl rfl rfl rfl rfl
    have hns : (State.rebind { u with nsm := { u.nsm with ns := tput u.nsm.ns i (u.madeNs (s.cmdBytes x)) } } i).ns i = some (u.madeNs (s.cmdBytes x)) :=
      tget_tput_same _ _ _
    generalize State.rebind _ i = v at hv hns ⊢
    have he := hv.ends St.ok (BitVec.ofNat 32 (s.moduleId * 4096 + i + 1)) 0 [.entry i (u.madeNs (s.cmdBytes x))]
    obtain ⟨-, hk⟩ := mgmtEnd_kept v St.ok (BitVec.ofNat 32 (s.moduleId * 4096 + i + 1)) 0 [.entry i (u.madeNs (s.cmdBytes x))]
    have hget := (hk.ns i).trans hns
    generalize v.mgmtEnd St.ok _ _ _ = w at he hget ⊢
    exact ⟨he.congr rfl (get_only_in _ _ _ _ _ rfl) (get_only_in _ _ _ _ _ rfl) rfl, u.madeNs (s.cmdBytes x), hget, rfl, rfl, rfl, rfl, rfl, rfl, ho⟩
  · intro s c x q h hs
    have e : s.nsCreate c = (s.begun c x).mgmtEnd St.invalidField := by
      unfold State.nsCreate
      rw [mgmtGate_begins _ _ h (by simp; omega)]
      exact if_pos (by simp; omega)
    have he := (begun_inTurn h).ends St.invalidField 0 0 []
    obtain ⟨-, hk⟩ := mgmtEnd_kept (s.begun c x) St.invalidField 0 0 []
    refine ⟨_, rfl, ?_⟩
    rw [e]
    generalize hw : (s.begun c x).mgmtEnd St.invalidField = w at he hk ⊢
    refine ⟨he.congr rfl (get_only_in _ _ _ _ _ rfl) (get_only_in _ _ _ _ _ rfl) rfl, ?_⟩
    show w.nsm.ns = _
    rw [hk]
    exact begun_ns s c x
  · intro s c i x q m h hs hall hi ha
    obtain ⟨h1, h2⟩ := nsDelete_marks h hs hall i m hi ha
    refine ⟨_, rfl, ?_⟩
    generalize s.nsDelete c = t at h1 h2 ⊢
    refine ⟨?_, fun j hj => ?_, h2⟩
    · show tget t.nsm.ns i = _
      rw [h1, tget_tput_same]
    · show tget t.nsm.ns j = tget s.nsm.ns j
      rw [h1, tget_tput_other _ _ (Ne.symm hj)]
  · intro s i m hm hst ho ht hc
    obtain ⟨h1, h2⟩ := nsDrained_after s i m hm hst ho ht hc
    refine ⟨_, rfl, ?_⟩
    generalize s.nsDrained i = t at h1 h2 ⊢
    refine ⟨?_, fun j hj => ?_, h2⟩
    · show tget t.nsm.ns i = _
      rw [h1, tget_tdel_same]
    · show tget t.nsm.ns j = tget s.nsm.ns j
      rw [h1, tget_tdel_other _ (Ne.symm hj)]
  · intro s c i x q m l h hs hi hl h1 h2
    obtain ⟨he, hn⟩ := nsAttach_attaches h hs i m l hi hl h1 h2
    refine ⟨_, rfl, ?_⟩
    generalize s.nsAttach c false = t at he hn ⊢
    refine ⟨he.congr rfl (get_only_in _ _ _ _ _ rfl) (get_only_in _ _ _ _ _ rfl) rfl, ?_, fun j hj => ?_⟩
    · show tget t.nsm.ns i = _
      rw [hn, tget_tput_same]
    · show tget t.nsm.ns j = tget s.nsm.ns j
      rw [hn, tget_tput_other _ _ (Ne.symm hj)]
  · intro s c i x q m l h hs hi hl h1
    obtain ⟨he, hn⟩ := nsAttach_detaches h hs i m l hi hl h1
    refine ⟨_, rfl, ?_⟩
    generalize s.nsAttach c true = t at he hn ⊢
    refine ⟨he.congr rfl (get_only_in _ _ _ _ _ rfl) (get_only_in _ _ _ _ _ rfl) rfl, ?_⟩
    show tget t.nsm.ns i = _
    rw [hn, tget_tput_same]
  · intro s c x q h hf hsv ho ht h0 h1 h2 h3
    obtain ⟨he, hc, hb⟩ := setTenant_sets h hf hsv ho ht h0 h1 h2 h3
    refine ⟨_, rfl, ?_⟩
    generalize s.setTenant c = t at he hc hb ⊢
    exact ⟨he.congr rfl (get_only_in _ _ _ _ _ rfl) (get_only_in _ _ _ _ _ rfl) rfl, (get_only_in _ _ _ _ _ rfl).trans hc,
      (get_only_in _ _ _ _ _ rfl).trans hb⟩
  · intro s c x q h hf hsv ho ht
    obtain ⟨he, hc⟩ := setTenant_refuses h hf hsv ho ht
    refine ⟨_, rfl, ?_⟩
    generalize s.setTenant c = t at he hc ⊢
    exact ⟨he.congr rfl (get_only_in _ _ _ _ _ rfl) (get_only_in _ _ _ _ _ rfl) rfl, fun i => (get_only_in _ _ _ _ _ rfl).trans (hc i)⟩
  · intro s c i x q m h hf hsv hi hv hk he
    obtain ⟨h1, h2⟩ := setService_modes h hf hsv i m hi hv hk he
    refine ⟨_, rfl, ?_⟩
    generalize s.setService c = t at h1 h2 ⊢
    exact ⟨h1.congr rfl (get_only_in _ _ _ _ _ rfl) (get_only_in _ _ _ _ _ rfl) rfl, h2⟩
  · intro s i tenant m l hs hl hm
    have e : s.serviceDone = s.serviceEnd i m.mode tenant := by
      unfold State.serviceDone
      rw [hs]
      dsimp only
      rw [if_pos (List.all_eq_true.mpr hl), hm]
    obtain ⟨h1, h2⟩ := serviceEnd_ns s i m.mode tenant m hm
    refine ⟨_, rfl, ?_⟩
    rw [e]
    exact ⟨h2, h1⟩

end Sys2Proof.Machine
end

section
/-! PROOFS. Admin commands that are no management commands: log pages, Identify, features, events and host regions (R143, R144, R152, R156 to
R163). -/

namespace Sys2Proof.Machine

open F

/-! ## Data given to the issuer -/

/-- A command that runs and whose data may be sent under a key. -/
def Sending (c : Nat) (k : Word32) (t : State) : Prop := (∃ x q, Running t c x q ∧ sglKeyOf x.sqe = k) ∧ t.keyRevoking k = false

theorem keyRevoking_congr {s t : State} (h : t.hkt.regions = s.hkt.regions) (k : Word32) : t.keyRevoking k = s.keyRevoking k := by
  rw [State.keyRevoking, h]
  rfl

theorem Sending.of_queues {c : Nat} {k : Word32} {s t : State} (h : Sending c k s) (hq : SameQps s t) (hr : t.hkt.regions = s.hkt.regions) :
    Sending c k t := by
  obtain ⟨⟨x, q, hx, hk⟩, hs⟩ := h
  obtain ⟨y, hy, hp⟩ := hq.qp hx.qp
  have hst : y.state = q.state := (congrArg Qp.state hp :)
  have hrb : y.ringBad = q.ringBad := (congrArg Qp.ringBad hp :)
  refine ⟨⟨x, y, ⟨?_, hx.here, hx.open_, hy, ?_, ?_⟩, hk⟩, (keyRevoking_congr hr k).trans hs⟩
  · rw [State.cmd, hq.cmds]
    exact hx.cmd
  · rw [hst]
    exact hx.live
  · rw [hrb]
    exact hx.ring

/-- A block given leaves the command running. -/
theorem Sending.pushBlock {c : Nat} {k : Word32} {s : State} (h : Sending c k s) (b : Nat) (d : List Byte) : Sending c k (s.pushBlock c b d) := by
  obtain ⟨⟨x, q, hx, hk⟩, hs⟩ := id h
  unfold State.pushBlock
  rw [hx.cmd]
  dsimp only
  rw [hx.qp]
  dsimp only
  rw [hk, hs, Bool.and_false, if_neg Bool.false_ne_true]
  have hbump : ∀ u : State, Sending c k u → Sending c k (match q.owner with | .slice n => u.bump (ctrSlc n 1) d.length | _ => u) := fun u hu => by
    split
    · exact hu.of_queues (.of_qpe rfl) rfl
    · exact hu
  have hmoved : ∀ u : State, Sending c k u → Sending c k (if ownerLocal q.owner then u.modCmd c fun x => { x with moved := x.moved + d.length } else u) := by
    rintro u ⟨⟨y, p, hy, hyk⟩, hu⟩
    split
    · exact ⟨⟨{ y with moved := y.moved + d.length }, p, ⟨(cmd_modCmd_same u c _).trans (congrArg _ hy.cmd), hy.here, hy.open_, hy.qp, hy.live, hy.ring⟩, hyk⟩, hu⟩
    · exact ⟨⟨y, p, hy, hyk⟩, hu⟩
  refine each_holds (P := Sending c k) (fun u e hu => ?_) _ (hmoved _ (hbump s h))
  split
  · exact hu.of_queues (.of_qpe ((within_sendMsg _ _ _ _ _ _ _ _ _ _).qpe rfl)) (sendMsg_mgmt _ _ _ _ _ _ _ _ _ _).2
  · exact hu.of_queues (hostOp_queues _ _ _) (by rw [(within_hostOp _ _ _).hkt rfl])

theorem Sending.giveData {c : Nat} {k : Word32} {s : State} (h : Sending c k s) (d : List Byte) : Sending c k (s.giveData c d) := by
  obtain ⟨⟨x, q, hx, -⟩, -⟩ := id h
  unfold State.giveData
  rw [hx.cmd]
  exact each_holds (P := Sending c k) (fun u b hu => hu.pushBlock b _) _ h

theorem Running.gives {s : State} {c : Nat} {x : Cmd} {q : Qp} (h : Running s c x q) (hk : s.keyRevoking (sglKeyOf x.sqe) = false) (d : List Byte)
    (st : Status) : Completes ((s.giveData c d).complete c st) c st := by
  obtain ⟨⟨y, p, hy, -⟩, -⟩ := Sending.giveData (c := c) ⟨⟨x, q, h, rfl⟩, hk⟩ d
  exact hy.complete_completes st 0 0

/-- The completion of a command that runs here puts nothing out. -/
theorem Running.complete_outbox {s : State} {c : Nat} {x : Cmd} {q : Qp} (h : Running s c x q) (st : Status) (a b : Word32) :
    (s.complete c st a b).outbox = s.outbox := by
  unfold State.complete
  rw [h.cmd]
  dsimp only
  rw [if_neg h.open_, h.here]
  dsimp only
  rw [h.qp]
  dsimp only
  rw [if_neg (by simp [h.live, h.ring])]
  rfl

/-! ## Regions -/

/-- The messages of a list dropped from a context's queue. -/
theorem dropOwn_unsent (l : List TxMsg) (c : HktCtx) :
    (l.foldl (fun c m => c.dropOwn m.msgId) c).unsent = c.unsent.filter fun m => !(l.any fun n => n.msgId = m.msgId) := by
  induction l generalizing c with
  | nil => simp
  | cons m l ih =>
    rw [List.foldl_cons, ih]
    show (c.unsent.filter fun n => n.msgId != m.msgId).filter _ = _
    rw [List.filter_filter]
    refine List.filter_congr fun n _ => ?_
    rw [List.any_cons, Bool.not_or, Bool.and_comm]
    by_cases e : m.msgId = n.msgId
    · simp [e]
    · simp [e, Ne.symm e]

/-- With the messages under a key dropped, none is queued under it. -/
theorem dropQueued_none (s : State) (k : Word32) : (s.dropQueued k).queuedWith k = [] := by
  unfold State.queuedWith State.dropQueued
  dsimp only
  have h1 : ∀ c : HktCtx, ((c.unsent.filter fun m => m.body.key = k).foldl (fun c m => c.dropOwn m.msgId) c).unsent.filter (fun m => m.body.key = k) = [] := by
    intro c
    rw [dropOwn_unsent, List.filter_filter, List.filter_eq_nil_iff]
    intro m hm
    simp only [Bool.and_eq_true, decide_eq_true_eq, Bool.not_eq_true', not_and]
    intro hk
    rw [Bool.not_eq_false, List.any_eq_true]
    exact ⟨m, List.mem_filter.mpr ⟨hm, by simpa using hk⟩, by simp⟩
  rw [List.append_eq_nil_iff, List.flatMap_map]
  constructor
  · rw [List.flatMap_eq_nil_iff]
    intro c _
    rw [h1]
    rfl
  · rw [List.filter_filter, List.filter_eq_nil_iff]
    rintro ⟨a, b, m⟩ _
    simp

/-- A message queued nowhere ends no command. -/
theorem queuedWith_congr {s t : State} (h : t.hkt.ctxs = s.hkt.ctxs) (h' : t.hkt.waiting = s.hkt.waiting) (k : Word32) :
    t.queuedWith k = s.queuedWith k := by
  unfold State.queuedWith
  rw [h, h']

section
variable {s : State} {c : Nat} {x : Cmd} {q : Qp} {e : Eid} {r : Region}

/-- A region of the command's own that is VALID begins its revocation, the command started. -/
theorem regionRevoke_begins (ha : s.adminCmd c 0xC2 = some (x, .net e)) (hr : tget s.hkt.regions (keyIndex x.sqe.cdw10) = some r)
    (hv : r.state = .valid) (ht : r.tag = keyTag x.sqe.cdw10) (hb : r.regBy = some e) (hc : r.revCmd ≠ some c) :
    s.regionRevoke c = ((s.revokeRegion x.sqe.cdw10 (some c)).modCmd c fun x => { x with phase := CmdPhase.started }).revokeQueued x.sqe.cdw10 := by
  unfold State.regionRevoke
  rw [ha]
  dsimp only
  rw [tgetD_of_some _ hr, if_neg hc, if_neg (by simp [hv, ht, hb])]

/-- The region of a key as its revocation begins. -/
theorem revokeRegion_region (hr : tget s.hkt.regions (keyIndex x.sqe.cdw10) = some r) (hv : r.state = .valid) (ht : r.tag = keyTag x.sqe.cdw10) :
    tget (s.revokeRegion x.sqe.cdw10 (some c)).hkt.regions (keyIndex x.sqe.cdw10) = some { r with state := .revoking, revCmd := some c } := by
  refine (tget_tmod_same _ _ _).trans ?_
  rw [hr, Option.map_some, if_pos (by simp [ht, Region.used, hv])]

end

/-- Data that a region's revocation cut off ends its command with the bytes moved. -/
theorem failData_revoked {s : State} {k : Nat} {y : Cmd} {p : Qp} (h : Running s k y p) (hw : tget s.jnl.writes k = none) (w : Word32) :
    s.failData k St.regionRevoked w = (s.dropStages k).complete k St.regionRevoked w (BitVec.ofNat 32 y.moved) := by
  unfold State.failData State.dropWrite
  rw [h.cmd]
  dsimp only
  rw [if_neg h.open_, hw]
  rfl

/-! ## The family -/

/-- Settles O20: log pages, Identify, features, events, regions registered and revoked. -/
theorem adminCommands : Obligations.AdminCommands := by
  unfold Obligations.AdminCommands
  have hno : ∀ (s : State) (e : Sqe), e.nsid = 0 → s.namesOther e = none := fun s e h => if_pos (by simp [h])
  refine ⟨?_, ?_, ?_, ?_, ?_, ?_, ?_, ?_, ?_, ?_, ?_, ?_⟩
  · intro s c x q h ha hn ho hl hk
    have e : s.getLogPage c = (s.giveData c (windowRead [(0, s.smartPage)] (x.sqe.cdw12.toNat + 2 ^ 32 * x.sqe.cdw13.toNat) (adminOut x.sqe))).complete c St.ok := by
      unfold State.getLogPage
      rw [ha]
      dsimp only
      rw [hno s _ hn]
      dsimp only
      rw [if_neg (by simp; omega), if_pos hl]
    refine ⟨_, rfl, ?_⟩
    rw [e]
    exact (h.gives hk _ St.ok).congr rfl
  · intro s c x q h ha hn ho hl
    simp only [List.mem_cons, List.not_mem_nil, or_false, not_or] at hl
    obtain ⟨h2, h3, h4, h5, h6, h7⟩ := hl
    have e : s.getLogPage c = s.complete c ⟨1, 9, false⟩ := by
      unfold State.getLogPage
      rw [ha]
      dsimp only
      rw [hno s _ hn]
      dsimp only
      rw [if_neg (by simp; omega), if_neg h2, if_neg h3, if_neg h4, if_neg h5, if_neg h6, if_neg h7]
    refine ⟨_, rfl, ?_⟩
    rw [e]
    refine ⟨(h.complete_completes ⟨1, 9, false⟩ 0 0).congr rfl, ?_⟩
    exact h.complete_outbox _ _ _
  · intro s c x q h ha hl hk
    have e : s.identify c = (s.giveData c (s.idController q.owner)).complete c St.ok := by
      unfold State.identify
      rw [ha]
      exact if_pos hl
    refine ⟨_, rfl, ?_⟩
    rw [e]
    exact (h.gives hk _ St.ok).congr rfl
  · intro s c x q h ha hl
    simp only [List.mem_cons, List.not_mem_nil, or_false, not_or] at hl
    obtain ⟨h0, h1, h2, h3, h4⟩ := hl
    have e : s.identify c = s.complete c St.invalidField := by
      unfold State.identify
      rw [ha]
      dsimp only
      rw [if_neg h1, if_neg h2, if_neg (by simp [h4]), if_neg (by simp [h0, h3])]
    refine ⟨_, rfl, ?_⟩
    rw [e]
    exact (h.complete_completes St.invalidField 0 0).congr rfl
  · intro s c x q h ha hf hsv ho
    have e : s.setFeatures c = (s.putFeat q.owner { s.feat q.owner with
        aenMask := 2 ^ 8 * (x.sqe.cdw11.toNat / 2 ^ 8 % 4) + 2 ^ 24 * (x.sqe.cdw11.toNat / 2 ^ 24 % 4)
        kept := (s.feat q.owner).kept.filter fun e =>
          fbit (2 ^ 8 * (x.sqe.cdw11.toNat / 2 ^ 8 % 4) + 2 ^ 24 * (x.sqe.cdw11.toNat / 2 ^ 24 % 4)) (aenBit e.1 e.2.1) }).complete c St.ok := by
      unfold State.setFeatures
      rw [ha]
      dsimp only
      rw [hf, if_neg (by decide), ho]
      dsimp only
      rw [hsv]
      rfl
    refine ⟨_, rfl, ?_⟩
    rw [e]
    generalize hu : s.putFeat q.owner _ = u
    have hr : Running u c x q := h.of_qpe (by rw [← hu]; rfl) (by rw [← hu]; rfl)
    refine ⟨(hr.complete_completes St.ok 0 0).congr rfl, ?_⟩
    show ((u.complete c St.ok).feat q.owner).aenMask = _
    rw [State.feat, (complete_completeW _ _ _ _ _).nsm rfl, ← hu]
    exact congrArg OwnerFeat.aenMask (tgetD_of_some _ (tget_tput_same _ _ _))
  · intro s c x q h ha hf hsv ho
    have e : s.setFeatures c = s.complete c St.ok (BitVec.ofNat 32 (510 * 65537)) := by
      unfold State.setFeatures
      rw [ha]
      dsimp only
      rw [hf, if_neg (by decide), ho]
      dsimp only
      rw [hsv]
      rfl
    refine ⟨_, rfl, ?_⟩
    rw [e]
    exact ⟨(h.complete_completes St.ok _ 0).congr rfl, (complete_completeW _ _ _ _ _).nsm rfl⟩
  · intro s c x q h ha hf
    have e : s.getFeatures c = s.complete c St.ok (BitVec.ofNat 32 (s.feat q.owner).aenMask) := by
      unfold State.getFeatures
      rw [ha]
      dsimp only
      rw [hf]
      rfl
    refine ⟨_, rfl, ?_⟩
    rw [e]
    exact (h.complete_completes St.ok _ 0).congr rfl
  · intro s c x q k l h ha hc hk
    have e : s.asyncRequest c = (s.putFeat q.owner { s.feat q.owner with kept := l }).complete c St.ok (aenDw0 k) := by
      unfold State.asyncRequest
      rw [ha]
      dsimp only
      rw [if_neg (by simpa using hc), hk]
    refine ⟨_, rfl, ?_⟩
    rw [e]
    generalize hu : s.putFeat q.owner _ = u
    have hr : Running u c x q := h.of_qpe (by rw [← hu]; rfl) (by rw [← hu]; rfl)
    refine ⟨(hr.complete_completes St.ok _ 0).congr rfl, ?_⟩
    show ((u.complete c St.ok _).feat q.owner).kept = _
    rw [State.feat, (complete_completeW _ _ _ _ _).nsm rfl, ← hu]
    exact congrArg OwnerFeat.kept (tgetD_of_some _ (tget_tput_same _ _ _))
  · intro s c x q h ha hc hk hl
    have e : s.asyncRequest c = s.putFeat q.owner { s.feat q.owner with aers := (s.feat q.owner).aers ++ [c] } := by
      unfold State.asyncRequest
      rw [ha]
      dsimp only
      rw [if_neg (by simpa using hc), hk]
      exact if_neg (by omega)
    refine ⟨_, rfl, ?_⟩
    rw [e]
    exact ⟨h.cmd, congrArg OwnerFeat.aers (tgetD_of_some _ (tget_tput_same _ _ _))⟩
  · intro s u c x q e key h ha hb h1 hl h2 h3 hu
    have hq : u.qpe = s.qpe := by
      unfold State.allocRegion at hu
      split at hu
      · cases hu
      · cases hu
        rfl
    have e : s.regionRegister c = u.complete c St.ok key := by
      unfold State.regionRegister
      rw [ha]
      dsimp only
      rw [if_neg (by simp; omega), hu]
    refine ⟨_, rfl, ?_⟩
    rw [e]
    have hr : Running u c x q := h.of_qpe (by rw [hq]) (by rw [hq])
    exact ⟨(hr.complete_completes St.ok _ 0).congr rfl, congrArg Hkt.regions ((complete_completeW _ _ _ _ _).hkt rfl)⟩
  · intro s c x q e r h ha hr hv ht hb hc hq
    have e := regionRevoke_begins ha hr hv ht hb hc
    have hreg := revokeRegion_region (c := c) hr hv ht
    refine ⟨_, rfl, ?_⟩
    rw [e]
    unfold State.revokeQueued
    rw [queuedWith_congr (s := s) (t := (s.revokeRegion x.sqe.cdw10 (some c)).modCmd c _) rfl rfl, hq]
    exact ⟨⟨{ x with phase := .started }, (cmd_modCmd_same _ c _).trans (congrArg _ h.cmd), rfl⟩, hreg⟩
  · intro s c k b x y q p e loc peer r m h ha hr hv ht hb hc hq hm hy hk hw
    have e := regionRevoke_begins ha hr hv ht hb hc
    refine ⟨_, rfl, ?_⟩
    rw [e]
    unfold State.revokeQueued
    rw [queuedWith_congr (s := s) (t := (s.revokeRegion x.sqe.cdw10 (some c)).modCmd c _) rfl rfl, hq]
    have hnone := dropQueued_none ((s.revokeRegion x.sqe.cdw10 (some c)).modCmd c fun x => { x with phase := CmdPhase.started }) x.sqe.cdw10
    have hrun : Running (((s.revokeRegion x.sqe.cdw10 (some c)).modCmd c fun x => { x with phase := CmdPhase.started }).dropQueued x.sqe.cdw10) k y p :=
      ⟨(tget_tmod_other _ _ (Ne.symm hk)).trans hy.cmd, hy.here, hy.open_, hy.qp, hy.live, hy.ring⟩
    have hw' : tget (((s.revokeRegion x.sqe.cdw10 (some c)).modCmd c fun x => { x with phase := CmdPhase.started }).dropQueued x.sqe.cdw10).jnl.writes k = none := hw
    generalize State.dropQueued _ x.sqe.cdw10 = u at hnone hrun hw' ⊢
    have hf : (u.each [(loc, peer, m)] fun s (_, _, m) => s.failPurpose m.purpose (.nak 3 x.sqe.cdw10)) =
        (u.dropStages k).complete k St.regionRevoked x.sqe.cdw10 (BitVec.ofNat 32 y.moved) := by
      show u.failPurpose m.purpose _ = _
      rw [hm]
      exact failData_revoked hrun hw' _
    rw [hf]
    have hsw := dropStages_swc u k
    have hr : Running (u.dropStages k) k y p := hrun.of_qpe (by rw [hsw.qpe rfl]) (by rw [hsw.qpe rfl])
    refine ⟨(hr.complete_completes St.regionRevoked _ _).congr rfl, ?_⟩
    have hk : ((u.dropStages k).complete k St.regionRevoked x.sqe.cdw10 (BitVec.ofNat 32 y.moved)).hkt = u.hkt :=
      ((complete_completeW _ _ _ _ _).hkt rfl).trans (hsw.hkt rfl)
    exact (queuedWith_congr (congrArg Hkt.ctxs hk :) (congrArg Hkt.waiting hk :) _).trans hnone

end Sys2Proof.Machine
end

section
/-! PROOFS. The peer window, the windows committed, translations invalidated and completed, MSI-X vectors unmasked (R393 to R395, R401, R402). -/

namespace Sys2Proof.Machine

open F

/-- A single request that may go is issued at once, and the queue is empty. -/
theorem hifGo_ready (s : State) (r : HostReq) (h : s.hif.queue = [r]) (hr : s.reqReady r = true)
    (he : ({ s with hif := { s.hif with queue := [] } }.issueReq r).hif.queue = []) :
    s.hifGo = { s with hif := { s.hif with queue := [] } }.issueReq r := by
  have hf : firstReady s [] [r] = some (r, []) := by simp [firstReady, hr]
  unfold State.hifGo
  rw [h]
  show State.hifPump s 2 = _
  unfold State.hifPump
  rw [h, hf]
  show State.hifPump _ 1 = _
  unfold State.hifPump
  rw [he]
  rfl

theorem reqReady_msg (s : State) (o : QOwner) (e v : Nat) (hb : s.busOk o = true) : s.reqReady ⟨o, .msg e v, false⟩ = true := by
  simp [State.reqReady, HostOp.addr, hb]

/-- With nothing queued a message of an owner whose bus master is on is sent at once. -/
theorem hostOp_msg (s : State) (o : QOwner) (e v : Nat) (hq : s.hif.queue = []) (hb : s.busOk o = true) :
    s.hostOp o (.msg e v) = (s.send (.msg e v)).bump (ctrHif e 4) := by
  unfold State.hostOp
  rw [hq]
  refine (hifGo_ready { s with hif := { s.hif with queue := [] ++ [({ owner := o, op := .msg e v } : HostReq)] } } ⟨o, .msg e v, false⟩ rfl
    (reqReady_msg _ o e v hb) rfl).trans ?_
  have he : ({ s with hif := { s.hif with queue := [] } } : State) = s := by rw [← hq]
  exact (congrArg (State.issueReq · ⟨o, .msg e v, false⟩) he :)

/-- Under MSI-X the pending message of a vector is sent as it is. -/
theorem pendSend_sends (s : State) (e v : Nat) (hp : s.hif.pendVec.contains (e, v) = true) (hm : s.intMode e = 2) (hq : s.hif.queue = [])
    (hb : s.busOk (s.vectorOwner e v) = true) :
    s.pendSend e v = ((({ s with hif := { s.hif with pendVec := s.hif.pendVec.filter (· != (e, v)) } } : State).send (.msg e v)).bump (ctrHif e 4)) := by
  rw [State.pendSend, if_pos hp, if_pos hm]
  exact hostOp_msg _ _ _ _ hq hb

/-- A request that reaches its place. -/
theorem peerAccess_inl (s : State) (w : Bool) (off len i page a : Nat) (d : List Byte) (h0 : s.hif.idt.bar4Log2 ≠ 0)
    (hl : off + len ≤ 2 ^ s.hif.idt.bar4Log2) (hu : s.flag HIF_LINK_STATUS_up 0 = true) (ht : s.peerTarget w off len = .inl (i, page, a)) :
    s.peerAccess w off len d = if w then { s with mem := memWriteBytes s.mem (4096 * page + a) (d.take len) }
      else s.send (.tlpData (if i ≤ 2 then s.windowBytes i a len else memReadBytes s.mem (4096 * page + a) len)) := by
  rw [State.peerAccess, if_neg (by simp [h0, hu, hl]), ht]

/-- A request that a window refuses. -/
theorem peerAccess_inr (s : State) (w : Bool) (off len k : Nat) (d : List Byte) (h0 : s.hif.idt.bar4Log2 ≠ 0)
    (hl : off + len ≤ 2 ^ s.hif.idt.bar4Log2) (hu : s.flag HIF_LINK_STATUS_up 0 = true) (ht : s.peerTarget w off len = .inr k) :
    ∃ u, Within { parts := [.evt, .ctr] } s u ∧ s.peerAccess w off len d = if w then u else u.send .tlpUnsupported := by
  rw [State.peerAccess, if_neg (by simp [h0, hu, hl]), ht]
  exact ⟨_, .trans (within_bump s _ _ rfl) (within_raiseCo _ _ _ _ _ _ rfl rfl), rfl⟩

/-- What was written reads back. -/
theorem memReadBytes_written (m : List Host.Cell) (a : Nat) (d : List Byte) (h : memWf m = true) :
    memReadBytes (memWriteBytes m a d) a d.length = d := by
  refine List.ext_getElem (by simp [memReadBytes]) fun j h1 h2 => ?_
  simp only [memReadBytes, List.getElem_map, List.getElem_range]
  rw [memRead_memWriteBytes_inside d m a j h h2]

/-- The window that a window's shadow registers describe. -/
def State.shadowWindow (s : State) (w : Nat) : PeerWindow :=
  { base := 1048576 * s.get HIF_PEER_WIN_base_mib w, len := 1048576 * s.get HIF_PEER_WIN_size_mib w
    rd := s.flag HIF_PEER_WIN_rd w, wr := s.flag HIF_PEER_WIN_wr w
    key := s.get HIF_PEER_TGT_region_key w, page := s.get HIF_PEER_TGT_region_page w }

theorem peerCommit_windows (s : State) : s.peerCommit.hif.windows =
    ((List.range 64).filter fun w => s.flag HIF_PEER_WIN_en w && s.get HIF_PEER_WIN_size_mib w != 0).map fun w => (w, s.shadowWindow w) := rfl

/-- A table made from a list of keys gives each its value and no other key one. -/
theorem tget_map_key {α : Type} (l : List Nat) (f : Nat → α) (k : Nat) : tget (l.map fun w => (w, f w)) k = if k ∈ l then some (f k) else none := by
  induction l with
  | nil => rfl
  | cons w l ih =>
    rw [List.map_cons, tget_cons, ih]
    by_cases h : w = k
    · simp [h]
    · simp [h, Ne.symm h]

/-- Settles O43: a request's place, the committed shadows, the cache's filter and the one message an unmasked vector sends. -/
theorem peerWindowAndTranslations : Obligations.PeerWindowAndTranslations := by
  unfold Obligations.PeerWindowAndTranslations
  refine ⟨fun s off len i page a d hi h0 hl hu ht hd => ⟨_, rfl, ?_⟩, fun s off len i page a d h0 hl hu ht => ⟨_, rfl, ?_⟩,
    fun s w off len k d h0 hl hu ht => ⟨_, rfl, ?_⟩, fun s => ⟨_, rfl, ?_⟩, fun s e tag page pages pasid he hl => ⟨_, rfl, ?_⟩,
    fun s e tag x hf hr => ⟨_, rfl, ?_⟩, fun s e tag x r p hf hr hu h1 h2 => ⟨_, rfl, ?_⟩,
    fun s e page pages base pasid ha hq hc h1 h2 => ⟨_, rfl, ?_⟩, fun s e v hp hm hq hb => ⟨_, rfl, ?_⟩, fun s e v hp => ⟨_, rfl, ?_⟩⟩
  · rw [peerAccess_inl s true off len i page a d h0 hl hu ht, if_pos rfl, ← hd, List.take_length]
    exact ⟨memReadBytes_written _ _ _ hi, rfl, fun b hb => memRead_memWriteBytes_other _ _ _ _ hb⟩
  · rw [peerAccess_inl s false off len i page a d h0 hl hu ht]
    exact ⟨rfl, rfl⟩
  · obtain ⟨u, hw, e⟩ := peerAccess_inr s w off len k d h0 hl hu ht
    rw [e]
    cases w with
    | true => exact ⟨hw.mem rfl, hw.outbox rfl⟩
    | false => exact ⟨hw.mem rfl, congrArg (· ++ [Out.tlpUnsupported]) (hw.outbox rfl)⟩
  · have hg : s.peerCommit.get HIF_PEER_COMMIT_gen = (s.get HIF_PEER_COMMIT_gen + 1) % 2 ^ HIF_PEER_COMMIT_gen.w := get_set_same _ _ _ _
    have hp : s.peerCommit.get HIF_PEER_COMMIT_pending = 0 := (get_set_field _ _ _ _ (by decide)).trans (get_set_same _ _ _ _)
    have hw (w : Nat) : tget s.peerCommit.hif.windows w = if w < 64 ∧ s.flag HIF_PEER_WIN_en w = true ∧ s.get HIF_PEER_WIN_size_mib w ≠ 0 then
        some (s.shadowWindow w) else none := by
      rw [peerCommit_windows, tget_map_key]
      simp
    generalize s.peerCommit = u at hg hp hw ⊢
    refine ⟨(get_only_in _ _ _ _ _ rfl).trans hp, (get_only_in _ _ _ _ _ rfl).trans hg, fun w h64 hen hsz => ?_, fun w hen => ?_⟩
    · exact ⟨_, (hw w).trans (if_pos ⟨h64, hen, hsz⟩), rfl, rfl, rfl, rfl, rfl, rfl⟩
    · exact (hw w).trans (if_neg (by simp [hen]))
  · have e : (s.atsInvalidate e tag pasid page pages).hif.cache =
        (s.hif.cache.filter fun (x : AtsEntry) => !(x.pasid = atsKeyOf e pasid && rangesCross x.page x.pages page pages)) ∧
        (s.atsInvalidate e tag pasid page pages).hif.invals = s.hif.invals ++ [⟨e, tag, atsKeyOf e pasid, page, pages⟩] := by
      rw [State.atsInvalidate, if_neg (by simp only [he, Bool.not_true, Bool.false_or, decide_eq_true_eq]; omega)]
      exact ⟨rfl, rfl⟩
    obtain ⟨hc, hi⟩ := e
    generalize s.atsInvalidate e tag pasid page pages = u at hc hi ⊢
    refine ⟨?_, fun x hx hk p hp => ?_, fun x hx hk => ?_⟩
    · show s.hif.invals.length < u.hif.invals.length
      rw [hi, List.length_append]
      exact Nat.lt_succ_self _
    · have hx' : x ∈ u.hif.cache := hx
      rw [hc, List.mem_filter] at hx'
      have hn := hx'.2
      simp only [hk, rangesCross, decide_true, Bool.true_and, Bool.not_eq_true', Bool.and_eq_false_iff, decide_eq_false_iff_not] at hn
      omega
    · show x ∈ u.hif.cache
      rw [hc, List.mem_filter]
      exact ⟨hx, by simp [hk]⟩
  · rw [State.invalidateDone, hf, hr]
    exact ⟨rfl, rfl⟩
  · have e : s.invalidateDone e tag = s := by
      rw [State.invalidateDone, hf]
      exact if_pos (List.any_eq_true.mpr ⟨r, hr, by simp [hu, h1, h2]⟩)
    rw [e]
    exact ⟨rfl, rfl⟩
  · have hn : clampNat 1 262144 pages = pages := by unfold clampNat; split <;> [skip; split] <;> omega
    have e : s.translation e pasid page (some (pages, base)) = { s with hif := { s.hif with
        asked := s.hif.asked.filter (· != (atsKeyOf e pasid, page))
        cache := s.hif.cache ++ [⟨atsKeyOf e pasid, page - page % pages, pages, base⟩] } } := by
      rw [State.translation]
      dsimp only
      rw [if_neg (by simpa using ha), if_pos hc, hn]
      exact hifGo_empty _ hq
    rw [e]
    exact ⟨rfl, by show _ ∉ s.hif.asked.filter _; simp⟩
  · obtain ⟨m, hm'⟩ : ∃ m, s.msixUnmask e v = State.pendSend { s with hif := { s.hif with unmasked := m } } e v ∧ (e, v) ∈ m := by
      refine ⟨_, rfl, ?_⟩
      split
      · exact List.contains_iff_mem.mp ‹_›
      · simp
    rw [hm'.1, pendSend_sends { s with hif := { s.hif with unmasked := m } } e v hp hm hq hb]
    exact ⟨rfl, by show _ ∉ s.hif.pendVec.filter _; simp, hm'.2⟩
  · rw [State.msixUnmask, State.pendSend]
    dsimp only
    rw [if_neg (hp ▸ Bool.false_ne_true)]
    refine ⟨rfl, ?_⟩
    show (e, v) ∈ if _ then _ else _
    split
    · exact List.contains_iff_mem.mp ‹_›
    · simp

end Sys2Proof.Machine
end

section
/-! PROOFS. A refutation about the local controller: the field rdy as a raw value of its register. -/

namespace Sys2Proof.Machine

open F

/-- The register of HIF_CTRL_STATUS.rdy, one bit wide, holds the value 2, which is not the set bit; functions are not on. -/
def rdyOverfull : State := { State.reset with regs := [(HIF_CTRL_STATUS_rdy.key 0, 2)] }

theorem rdyOverfull_kept : (rdyOverfull.ran .hifCtrlEnable).get HIF_CTRL_STATUS_rdy = 2 := by decide +kernel

/-- Refutes O42: enabling the controller before functions are on leaves rdy as it stands, and a state may hold a value there that is neither
0 nor the set bit. -/
theorem not_hostPort : ¬ Obligations.HostPort := by
  unfold Obligations.HostPort
  rintro ⟨-, -, h, -⟩
  obtain ⟨t, ht, -, hrdy, -⟩ := h rdyOverfull (by decide +kernel) (by decide +kernel) (by decide +kernel)
  rw [eq_ran ht, rdyOverfull_kept] at hrdy
  exact absurd hrdy (by decide)

end Sys2Proof.Machine
end

section
/-! PROOFS. The switch core: a frame's head and tail, its cells crossing, Moraine, ports down and up (R349 to R363). -/

namespace Sys2Proof.Machine

open F

/-! ## A frame's head (R349) -/

theorem mirrorPick_off (s : State) (dir p : Nat) (f : Frame) (h : ∀ m, m < 4 → s.mirrorOn m = false) : s.mirrorPick dir p f = ([], s) := by
  have h0 := h 0 (by decide)
  have h1 := h 1 (by decide)
  have h2 := h 2 (by decide)
  have h3 := h 3 (by decide)
  have e : List.range 4 = [0, 1, 2, 3] := rfl
  simp [State.mirrorPick, e, h0, h1, h2, h3]

theorem learnSource_off (s : State) (f : Frame) (h : Option FrameHkt) (hl : s.flag FWD_PORT_CFG_learn_en f.port = false) :
    s.learnSource f h = (s, true) := if_pos (by rw [hl, Bool.and_false]; rfl)

theorem forward_own (s : State) (f : Frame) (x : FrameHkt) (hd : x.dst.toNat / 2 ^ 18 = s.moduleId) (ho : x.opcode ≠ 11) :
    s.forward f (some x) = (s, ⟨[36 + groupOf x.src], none⟩) := by
  rw [State.forward]
  dsimp only
  rw [if_pos hd, if_neg ho]

theorem pfcWatch_swc (s : State) (p c : Nat) : (s.pfcWatch p c).swc = s.swc := by
  have hs : ∀ (s : State) x n, ((s.putPfc p c x).sendPfc p c n).swc = s.swc := fun _ _ _ => rfl
  unfold State.pfcWatch
  dsimp only
  split
  · rfl
  · split
    · exact hs _ _ _
    · split
      · exact hs _ _ _
      · rfl

/-- A frame to this module, admitted, has one copy to its engine port. -/
theorem frameHead_own (b : State) (f : Frame) (x : FrameHkt) (hp : f.pair = false) (hu : b.portUp f.port = true) (hbad : f.bad43 = false)
    (hx : b.frameHkt f = some x) (hl : b.flag FWD_PORT_CFG_learn_en f.port = false) (hm : ∀ m, m < 4 → b.mirrorOn m = false)
    (hd : x.dst.toNat / 2 ^ 18 = b.moduleId) (ho : x.opcode ≠ 11) (hpfc : b.pfcOn f.port (b.frameClass f) = false)
    (ha : b.admits f (reserveCells f) (b.frameClass f) false (36 + groupOf x.src) = true) :
    (b.frameHead f).swc.nextFrame = b.swc.nextFrame + 1 ∧ ∃ y, tget (b.frameHead f).swc.frames b.swc.nextFrame = some y ∧ y.f = f ∧
      y.tc = b.frameClass f ∧ y.copies.map (fun c => (c.dst, c.tc, c.newMac, c.mirror)) = [(36 + groupOf x.src, b.frameClass f, none, none)] := by
  obtain ⟨u, y, e, hn, hf, h1, h2, h3⟩ : ∃ (u : State) (y : SwcFrame), b.frameHead f = u.pfcWatch f.port (b.frameClass f) ∧
      u.swc.nextFrame = b.swc.nextFrame + 1 ∧ u.swc.frames = tput b.swc.frames b.swc.nextFrame y ∧ y.f = f ∧ y.tc = b.frameClass f ∧
      y.copies.map (fun c => (c.dst, c.tc, c.newMac, c.mirror)) = [(36 + groupOf x.src, b.frameClass f, none, none)] := by
    simp only [State.frameHead, hp, hu, hbad, hx, Bool.and_false, Bool.false_and, Bool.not_true, Bool.or_self, Bool.false_eq_true, if_false, if_true,
      mirrorPick_off b 0 f.port f hm, learnSource_off b f _ hl, forward_own b f x hd ho, hpfc, List.filter_cons, ha, List.filter_nil,
      List.partition_eq_filter_filter, List.map_cons, List.map_nil, List.append_nil, List.isEmpty_cons]
    have hc (l : List SwcCopy) (v : State) : (v.each l fun s c => if c.mirror.isNone && decide (f.port < 34) then s.bump (ctrCutThrough f.port) else s).swc = v.swc :=
      (within_each (w := { parts := [.ctr] }) v l _ fun s c => within_ite _ (fun _ => within_bump _ _ _ rfl) fun _ => .refl _ _).swc rfl
    exact ⟨_, _, rfl, (congrArg Swc.nextFrame (hc _ _)).trans rfl, (congrArg Swc.frames (hc _ _)).trans rfl, rfl, rfl, rfl⟩
  rw [e, pfcWatch_swc, hn, hf]
  exact ⟨rfl, y, tget_tput_same _ _ _, h1, h2, h3⟩

/-! ## A frame's tail (R349, R353) -/

/-- A copy whose cells have not all crossed, or whose tail has not come, stays. -/
theorem settleCopy_waits (s : State) (id : Nat) (x : SwcFrame) (c : SwcCopy) (hx : tget s.swc.frames id = some x) (hc : x.copies = [c])
    (hw : c.toCross ≠ 0 ∨ x.tail = none) : s.settleCopy id c.dst c.mirror = s := by
  rw [State.settleCopy, hx]
  dsimp only
  rw [hc, List.find?_cons_of_pos (by simp)]
  dsimp only
  exact if_pos (by simpa using hw)

theorem dropCells_frames (s : State) (l : List Nat) : (s.dropCells l).swc.frames = s.swc.frames := rfl

/-- The last copy's end is the frame's. -/
theorem endCopy_last (s : State) (id : Nat) (x : SwcFrame) (c : SwcCopy) (hx : tget s.swc.frames id = some x) (hc : x.copies = [c]) :
    (s.endCopy id c.dst c.mirror).swc.frames = tdel s.swc.frames id := by
  rw [State.endCopy, hx]
  dsimp only
  rw [pfcWatch_swc, hc]
  simp only [List.filter_cons, decide_true, Bool.and_self, Bool.not_true, Bool.false_eq_true, if_false, List.filter_nil, List.isEmpty_nil, if_true]
  rfl

/-- A bad tail ends a frame whose one copy has not left. -/
theorem frameTail_bad (s : State) (id len : Nat) (x : SwcFrame) (c : SwcCopy) (hx : tget s.swc.frames id = some x) (ht : x.tail = none)
    (hc : x.copies = [c]) (hl : c.left = false) (hr : c.trunc = 0) : tget (s.frameTail id .fcs len).swc.frames id = none := by
  obtain ⟨u, e⟩ : ∃ u : State, s.frameTail id .fcs len =
      ((u.putFrame id { x with f := { x.f with len := len }, tail := some false }).frameItems id fun _ => none).endCopy id c.dst c.mirror := by
    simp only [State.frameTail, hx, ht, hc, hl, hr, Option.isSome_none, Bool.false_eq_true, if_false, State.each, List.foldl_cons, List.foldl_nil,
      reduceCtorEq, decide_false, Bool.false_and, bne_self_eq_false]
    exact ⟨_, rfl⟩
  rw [e, endCopy_last _ id { x with f := { x.f with len := len }, tail := some false } c (tget_tput_same _ _ _) hc]
  exact tget_tdel_same _ _

/-- A good tail sets the frame's length, its cells and the cells still to cross. -/
theorem frameTail_good (s : State) (id len : Nat) (x : SwcFrame) (c : SwcCopy) (hx : tget s.swc.frames id = some x) (ht : x.tail = none)
    (hc : x.copies = [c]) (hl : c.left = false) (hz : c.toCross ≠ 0) (hn : cellsOf len ≤ x.cells.length) (hlen : len ≤ 9216) :
    tget (s.frameTail id .good len).swc.frames id = some { x with
      f := { x.f with len := len }, cells := x.cells.take (cellsOf len), tail := some true
      reserve := x.reserve.map fun e => (e.1, min e.2 (cellsOf len)), copies := [{ c with toCross := c.toCross + (cellsOf len - 1) }] } := by
  obtain ⟨v, e, hv⟩ : ∃ v : State, s.frameTail id .good len = (v.settleCopy id c.dst c.mirror).pfcWatch x.f.port x.tc ∧
      tget v.swc.frames id = some { x with
        f := { x.f with len := len }, cells := x.cells.take (cellsOf len), tail := some true
        reserve := x.reserve.map fun e => (e.1, min e.2 (cellsOf len)), copies := [{ c with toCross := c.toCross + (cellsOf len - 1) }] } := by
    simp only [State.frameTail, hx, ht, hc, hl, hn, hlen, Option.isSome_none, Bool.false_eq_true, if_false, if_true, State.each, List.foldl_cons, List.foldl_nil,
      reduceCtorEq, decide_true, Bool.and_self, List.map_cons, List.map_nil, List.length_cons, List.length_nil]
    exact ⟨_, rfl, tget_tput_same _ _ _⟩
  have hw := settleCopy_waits v id _ { c with toCross := c.toCross + (cellsOf len - 1) } hv rfl (.inl (by show c.toCross + _ ≠ 0; omega))
  rw [e, pfcWatch_swc]
  exact (congrArg (fun u : State => tget u.swc.frames id) hw).trans hv

/-! ## The crossbar (R354, R356) -/

theorem firstFrom_one (start i : Nat) (hi : i < 19) : firstFrom start (fun k => decide (k = i)) = some i := by
  unfold firstFrom
  have hm : i ∈ (List.range 19).map fun k => (start + k) % 19 := by
    rw [List.mem_map]
    refine ⟨(i + 19 - start % 19) % 19, List.mem_range.mpr (Nat.mod_lt _ (by decide)), ?_⟩
    omega
  obtain ⟨j, hj⟩ := Option.isSome_iff_exists.mp ((List.find?_isSome (p := fun k => decide (k = i))).mpr ⟨i, hm, decide_eq_true rfl⟩)
  rw [hj, of_decide_eq_true (List.find?_some (p := fun k => decide (k = i)) hj)]

theorem firstFrom_none (start : Nat) (p : Nat → Bool) (h : ∀ k, p k = false) : firstFrom start p = none :=
  List.find?_eq_none.mpr fun k _ => by simp [h k]

theorem voqHas_one (s : State) (i j : Nat) (v : VoqCell) (h : s.swc.voq = [((i, j), [v])]) (a b : Nat) : s.voqHas a b = decide (a = i ∧ b = j) := by
  rw [State.voqHas, h, tgetD, tget_cons]
  by_cases e : (i, j) = (a, b)
  · rw [if_pos e]
    obtain ⟨rfl, rfl⟩ := Prod.mk.inj e
    simp
  · rw [if_neg e]
    have : ¬(a = i ∧ b = j) := fun ⟨h1, h2⟩ => e (by rw [h1, h2])
    simp [this, tget]

/-- Of a range only one number gives something. -/
theorem filterMap_range_one {α : Type} (n j : Nat) (f : Nat → Option α) (a : α) (hj : j < n) (ha : f j = some a) (ho : ∀ k, k ≠ j → f k = none) :
    (List.range n).filterMap f = [a] := by
  induction n with
  | zero => exact absurd hj (Nat.not_lt_zero j)
  | succ n ih =>
    rw [List.range_succ, List.filterMap_append]
    by_cases h : j = n
    · subst h
      rw [List.filterMap_eq_nil_iff.mpr fun k hk => ho k (by have := List.mem_range.mp hk; omega), List.filterMap_cons, ha]
      rfl
    · rw [ih (by omega), List.filterMap_cons, ho n (Ne.symm h)]
      rfl

/-- The first iteration matches the one pair with a cell. -/
theorem xbarIter_first (s : State) (i j : Nat) (v : VoqCell) (h : s.swc.voq = [((i, j), [v])]) (hi : i < 19) (hj : j < 19) :
    s.xbarIter [] = [(i, j)] := by
  have hall (l : List Nat) : (l.filter fun k => !(([] : List (Nat × Nat)).any fun m => decide (m.2 = k))) = l := List.filter_eq_self.mpr fun _ _ => rfl
  have hall' (l : List Nat) : (l.filter fun k => !(([] : List (Nat × Nat)).any fun m => decide (m.1 = k))) = l := List.filter_eq_self.mpr fun _ _ => rfl
  have hg : ((List.range 19).filterMap fun b => (firstFrom (tgetD s.swc.gptr b 0) fun a => (!(([] : List (Nat × Nat)).any fun m => decide (m.1 = a))) &&
      s.voqHas a b).map fun a => (a, b)) = [(i, j)] := by
    refine filterMap_range_one 19 j _ (i, j) hj ?_ fun k hk => ?_
    · have e : (fun a => (!(([] : List (Nat × Nat)).any fun m => decide (m.1 = a))) && s.voqHas a j) = fun a => decide (a = i) :=
        funext fun a => by simp [voqHas_one s i j v h]
      rw [e, firstFrom_one _ _ hi]
      rfl
    · rw [firstFrom_none _ _ fun a => by simp [voqHas_one s i j v h, hk]]
      rfl
  unfold State.xbarIter
  dsimp only
  rw [hall, hall', hg]
  refine filterMap_range_one 19 i _ (i, j) hi ?_ fun k hk => ?_
  · have e : (fun b => ([(i, j)] : List (Nat × Nat)).contains (i, b)) = fun b => decide (b = j) := funext fun b => by simp
    rw [e, firstFrom_one _ _ hj]
    rfl
  · rw [firstFrom_none _ _ fun b => by simp [hk]]
    rfl

/-- With that pair matched the others find nothing. -/
theorem xbarIter_done (s : State) (i j : Nat) (v : VoqCell) (h : s.swc.voq = [((i, j), [v])]) : s.xbarIter [(i, j)] = [] := by
  unfold State.xbarIter
  dsimp only
  have hg : ((List.range 19).filter fun b => !(([(i, j)] : List (Nat × Nat)).any fun m => decide (m.2 = b))).filterMap (fun b =>
      (firstFrom (tgetD s.swc.gptr b 0) fun a => (!(([(i, j)] : List (Nat × Nat)).any fun m => decide (m.1 = a))) && s.voqHas a b).map fun a => (a, b)) = [] := by
    refine List.filterMap_eq_nil_iff.mpr fun b _ => ?_
    rw [firstFrom_none _ _ fun a => ?_]
    · rfl
    · by_cases ha : i = a
      · simp [ha]
      · simp [voqHas_one s i j v h, Ne.symm ha]
  rw [hg]
  refine List.filterMap_eq_nil_iff.mpr fun a _ => ?_
  rw [firstFrom_none _ (fun b => ([] : List (Nat × Nat)).contains (a, b)) fun _ => rfl]
  rfl

/-- The one waiting cell crosses: its copy is stamped and queued at its egress. -/
theorem cellSlot_one (s : State) (i j : Nat) (v : VoqCell) (x : SwcFrame) (c : SwcCopy) (hi : i < 19) (hj : j < 19)
    (hq : s.swc.voq = [((i, j), [v])]) (hx : tget s.swc.frames v.frame = some x) (hc : x.copies = [c]) (hd : c.dst = v.dst) (hm : c.mirror = v.mirror)
    (hs : c.stamp = none) (ht : x.tail = none) (hv : v.dst < 34) :
    tget s.cellSlot.swc.voq (i, j) = some [] ∧
      tget s.cellSlot.swc.frames v.frame = some { x with copies := [{ c with toCross := c.toCross - 1, stamp := some s.dtc }] } ∧
      s.cellSlot.tms.leaves = tmsPut s.tms.leaves v.dst c.tc 4096 false ⟨.frame v.frame, s.chargedLen v.dst (s.leavingFrame x c).len, x.cells, s.dtc⟩ := by
  obtain ⟨n, d, m⟩ := v
  dsimp only at hd hm hx hv ⊢
  subst hd hm
  have e1 := xbarIter_first s i j _ hq hi hj
  have e2 := xbarIter_done s i j _ hq
  obtain ⟨g, a, e⟩ : ∃ g a, s.cellSlot = State.crossCell { s with swc := { s.swc with gptr := g, aptr := a } } i j := by
    unfold State.cellSlot
    dsimp only
    rw [e1, e2, List.append_nil, e2]
    exact ⟨_, _, rfl⟩
  have hget : tgetD s.swc.voq (i, j) [] = [⟨n, c.dst, c.mirror⟩] := by rw [hq, tgetD, tget_cons, if_pos rfl]; rfl
  obtain ⟨w, e', h1, h2, h3⟩ : ∃ w : State, State.crossCell { s with swc := { s.swc with gptr := g, aptr := a } } i j = w.settleCopy n c.dst c.mirror ∧
      tget w.swc.voq (i, j) = some [] ∧
      tget w.swc.frames n = some { x with copies := [{ c with toCross := c.toCross - 1, stamp := some s.dtc }] } ∧
      w.tms.leaves = tmsPut s.tms.leaves c.dst c.tc 4096 false ⟨.frame n, s.chargedLen c.dst (s.leavingFrame x c).len, x.cells, s.dtc⟩ := by
    simp only [State.crossCell, hget, hx, hc, hs, hv, List.any_cons, List.any_nil, decide_true, Bool.and_self, Option.isNone_none, Bool.or_false,
      if_true, List.map_cons, List.map_nil, List.find?_cons, Option.getD_none]
    exact ⟨_, rfl, tget_tput_same _ _ _, tget_tput_same _ _ _, rfl⟩
  have hw := settleCopy_waits w n _ { c with toCross := c.toCross - 1, stamp := some s.dtc } h2 rfl (.inr ht)
  rw [e, e']
  rw [show w.settleCopy n c.dst c.mirror = w from hw]
  exact ⟨h1, h2, h3⟩

/-! ## Moraine (R360, R361) -/

theorem bufStatus_within (s : State) : Within { parts := [], fields := cells } s s.bufStatus :=
  (within_set s _ _ _ rfl).trans (within_set _ _ _ _ rfl)

/-- A cell that leaked in two sweeps is returned and counted. -/
theorem moraineSweep_leak (s : State) (i : Nat) (u : CellUse) (hc : s.swc.cells = [(i, u)]) (hs : s.swc.stage = []) (hf : u.onFree = false)
    (hr : u.refs = 0) (hl : u.leaked = true) (hk : u.sweep < s.get SWC_MORAINE_STATUS_sweeps) (hfix : s.flag SWC_MORAINE_CFG_repair_en = true) :
    s.moraineSweep.swc.cells = [] ∧ s.moraineSweep.get SWC_MORAINE_STATUS_leaked_cells =
      min (s.get SWC_MORAINE_STATUS_leaked_cells + 1) (2 ^ SWC_MORAINE_STATUS_leaked_cells.w - 1) := by
  have hne : (u.sweep != s.get SWC_MORAINE_STATUS_sweeps) = true := by simpa using Nat.ne_of_lt hk
  have e1 : sweepUnits [(i, u)] (s.get SWC_MORAINE_STATUS_sweeps) true = ([i], [], []) := by
    simp [sweepUnits, hf, hr, hl, hne]
  have e2 : sweepUnits [] (s.get SWC_MORAINE_STATUS_sweeps) true = ([], [], []) := rfl
  unfold State.moraineSweep
  dsimp only
  rw [hfix, hc, hs, e1, e2]
  dsimp only [List.isEmpty_cons, List.isEmpty_nil]
  rw [if_neg (by decide), List.append_nil]
  refine ⟨rfl, ?_⟩
  show State.get (State.raiseCo _ _ _ _ _ _) _ = _
  rw [get_raiseCo, (bufStatus_within _).regs _ _ rfl, get_set_field _ _ _ _ (by decide), get_addSat_field _ _ _ _ (by decide),
    get_addSat_field _ _ _ _ (by decide), get_addSat_same]
  rfl

/-! ## Ports down and up (R362, R363) -/

theorem linkDown_down (s : State) (p : Nat) : (s.linkDown p).flag MAC_PORT_STATUS_up p = false := by
  unfold State.linkDown
  split
  · rw [State.flag, get_congr (enter_regs _ _), get_addSat_field _ _ _ _ (by decide), get_set_field _ _ _ _ (by decide), get_set_same]
    rfl
  · exact Bool.eq_false_iff.mpr ‹_›

theorem linkDown_within (s : State) (p : Nat) :
    Within { parts := [.ctr], fields := [MAC_PORT_STATUS_up, MAC_PORT_STATUS_speed, MAC_PORT_STATUS_flaps] } s (s.linkDown p) := by
  unfold State.linkDown
  exact within_ite _ (fun _ => (((within_set s _ _ _ rfl).trans (within_set _ _ _ _ rfl)).trans (within_set _ _ _ _ rfl)).trans
    (within_enter _ _ rfl)) fun _ => .refl _ _

/-- The queues of a port flushed. -/
theorem flushRoot_after (s : State) (p : Nat) : (∀ x ∈ (s.flushRoot p).tms.leaves, x.root ≠ p) ∧
    Within { parts := [.tms, .swc], fields := cells } s (s.flushRoot p) ∧ (s.flushRoot p).swc.cpuUp = s.swc.cpuUp := by
  unfold State.flushRoot
  extract_lets own _ u
  have hu : ∀ x ∈ u.tms.leaves, x.root ≠ p := fun x hx => by simpa using (List.mem_filter.mp hx).2
  have hw : Within { parts := [.swc], fields := cells } u (u.each own fun s i => s.dropCells i.cells) := within_each _ _ _ fun s i => within_dropCells s _
  refine ⟨by rwa [hw.tms rfl], ?_, dropCells_cpuUp own u⟩
  exact (within_tms s _ rfl).trans (t := u) (hw.widen (by decide) (by decide) (by decide))

/-- With no frame in the switch a privileged port's flush drops what waits there, and is reported. -/
theorem privilegedFlush_empty (s : State) (p : Nat) (h : s.swc.frames = []) :
    ∃ l, s.privilegedFlush p = (s.flushRoot p).raise EV_SWC_PORT_FLUSH 1 p l := by
  have hc : s.copiesTo p = [] := by rw [State.copiesTo, h]; rfl
  unfold State.privilegedFlush
  rw [hc]
  exact ⟨_, rfl⟩

/-- What is said of one pair link: its status follows its port. -/
def State.linkCheck (s : State) (l : Nat) : State :=
  let up := s.portUp (32 + l) && !s.pair.down.contains l
  if up = s.plUp l then s
  else if up then (s.set PAIR_STATUS_links 0 (s.get PAIR_STATUS_links + 2 ^ l)).leave (ctrPair (12 + l))
  else ((s.set PAIR_STATUS_links 0 (s.get PAIR_STATUS_links - 2 ^ l)).enter (ctrPair (12 + l))).raise EV_PAIR_LINK_DEGRADED 1 (32 + l)

theorem linksCheck_eq (s : State) : s.linksCheck = (s.linkCheck 0).linkCheck 1 := rfl

theorem plUp_eq (s : State) (l : Nat) : s.plUp l = decide ((s.get PAIR_STATUS_links / 2 ^ l) % 2 = 1) := rfl

theorem linkCheck_get (s : State) (l : Nat) : (s.linkCheck l).get PAIR_STATUS_links =
    if (s.portUp (32 + l) && !s.pair.down.contains l) = s.plUp l then s.get PAIR_STATUS_links
    else if (s.portUp (32 + l) && !s.pair.down.contains l) = true then (s.get PAIR_STATUS_links + 2 ^ l) % 4
    else (s.get PAIR_STATUS_links - 2 ^ l) % 4 := by
  unfold State.linkCheck
  extract_lets up
  split
  · rfl
  · split
    · exact (get_congr (leave_regs _ _) _ _).trans (get_set_same _ _ _ _)
    · rw [get_raise, get_congr (enter_regs _ _)]
      exact get_set_same _ _ _ _

/-- The check of a link whose port is down leaves the link down. -/
theorem linkCheck_down (s : State) (l : Nat) (hl : l < 2) (h : s.portUp (32 + l) = false) : (s.linkCheck l).plUp l = false := by
  rw [plUp_eq, linkCheck_get, h, Bool.false_and]
  by_cases hp : s.plUp l = false
  · rw [if_pos hp.symm]
    exact hp
  · rw [if_neg (Ne.symm hp), if_neg Bool.false_ne_true]
    have k := of_decide_eq_true ((plUp_eq s l).symm.trans (Bool.eq_true_of_not_eq_false hp))
    rcases (by omega : l = 0 ∨ l = 1) with rfl | rfl
    · simp at k ⊢
      omega
    · simp at k ⊢
      omega

/-- The check of the second link leaves the first as it is. -/
theorem linkCheck_first (s : State) : (s.linkCheck 1).plUp 0 = s.plUp 0 := by
  rw [plUp_eq, plUp_eq, linkCheck_get]
  split
  · rfl
  · rename_i h
    split
    · congr 1
      simp
    · rename_i hu
      rw [Bool.eq_false_iff.mpr hu] at h
      have k := of_decide_eq_true ((plUp_eq s 1).symm.trans (Bool.eq_true_of_not_eq_false fun k => h k.symm))
      congr 1
      simp at k ⊢
      omega

theorem within_linkCheck (s : State) (l : Nat) : Within { parts := [.evt, .ctr], fields := [PAIR_STATUS_links] } s (s.linkCheck l) := by
  unfold State.linkCheck
  dsimp only
  refine within_ite _ (fun _ => .refl _ _) fun _ => within_ite _ (fun _ => ?_) fun _ => ?_
  · exact (within_set s PAIR_STATUS_links 0 _ rfl).trans (within_leave _ _ rfl)
  · exact ((within_set s PAIR_STATUS_links 0 _ rfl).trans (within_enter _ _ rfl)).trans (within_raise _ _ _ _ _ rfl rfl)

/-- The checks leave a pair link down whose port is. -/
theorem linksCheck_down (s : State) (p : Nat) (hp : p = 32 ∨ p = 33) (h : s.flag MAC_PORT_STATUS_up p = false) : s.linksCheck.plUp (p - 32) = false := by
  have hu : s.portUp p = false := by
    rw [State.portUp, if_pos (by omega), h]
    rfl
  rw [linksCheck_eq]
  rcases hp with rfl | rfl
  · rw [linkCheck_first]
    exact linkCheck_down s 0 (by decide) hu
  · refine linkCheck_down _ 1 (by decide) ?_
    have w := within_linkCheck s 0
    rw [State.portUp, if_pos (by decide), State.flag, w.regs _ _ rfl]
    rw [State.flag] at h
    rw [h]
    rfl

/-- A cluster port's fall writes its module entries' table and sends records. -/
theorem within_portGone (s : State) (p : Nat) :
    Within { parts := [.ctr, .hkt, .tms, .swc, .fwd, .freeCtr], fields := fwdW.fields ++ cells } s (s.portGone p) := by
  refine within_ite _ (fun _ => ?_) fun _ => .refl _ _
  unfold State.clusterDown
  exact ((within_fwdRemove s _ _).widen (by decide) (by decide) (by decide)).trans
    (within_each _ _ _ fun s e => (within_originate s _ _ _).widen (by decide) (by decide) (by decide))

/-- A front port that is no cluster port goes down: the EID entries learned on it are gone. -/
theorem frontPortDown_after (s : State) (p : Nat) (hp : p < 32) (hc : s.flag FWD_PORT_CFG_cluster p = false) (hf : s.flag FWD_PORT_CFG_flush_down p = true) :
    (s.frontPortDown p).flag MAC_PORT_STATUS_up p = false ∧
      ∀ e ∈ ((s.frontPortDown p).ftab 0).all, eStatic e = true ∨ eKind e ≠ 1 ∨ ePort e ≠ some (p, false) := by
  have hd := linkDown_within s p
  have hdown := linkDown_down s p
  have hc' : (s.linkDown p).flag FWD_PORT_CFG_cluster p = false := by rw [State.flag, hd.regs _ _ rfl]; exact hc
  have hf' : (s.linkDown p).flag FWD_PORT_CFG_flush_down p = true := by rw [State.flag, hd.regs _ _ rfl]; exact hf
  unfold State.frontPortDown
  rw [if_neg (by simp; omega)]
  dsimp only
  rw [hf', if_pos (by simp [hp])]
  generalize s.linkDown p = u at hdown hc'
  have h0 := within_fwdRemove u 0 fun e => !eStatic e && (eKind e = 1 || eKind e = 4) && ePort e = some (p, false)
  have h1 := within_fwdRemove (u.flushLearned 0 p) 1 fun e => !eStatic e && (eKind e = 1 || eKind e = 4) && ePort e = some (p, false)
  have hall := fwdRemove_all u 0 fun e => !eStatic e && (eKind e = 1 || eKind e = 4) && ePort e = some (p, false)
  have hother := fwdRemove_ftab_other (u.flushLearned 0 p) (t := 1) (k := 0)
    (fun e => !eStatic e && (eKind e = 1 || eKind e = 4) && ePort e = some (p, false)) (by decide)
  have h : Within fwdW u ((u.flushLearned 0 p).flushLearned 1 p) := h0.trans h1
  have ht : (((u.flushLearned 0 p).flushLearned 1 p)).ftab 0 = (u.flushLearned 0 p).ftab 0 := hother
  have e : ((u.flushLearned 0 p).flushLearned 1 p).portGone p = (u.flushLearned 0 p).flushLearned 1 p := by
    refine if_neg ?_
    rw [State.flag, h.regs _ _ rfl]
    exact Bool.eq_false_iff.mp hc'
  rw [e, ht]
  refine ⟨?_, fun x hx => ?_⟩
  · rw [State.flag, h.regs _ _ rfl]
    exact hdown
  · have hn := hall x hx
    by_contra hcon
    simp only [not_or, not_not] at hcon
    obtain ⟨k1, k2, k3⟩ := hcon
    simp [k1, k2, k3] at hn

/-- The speeds of a cage's modes fit their field. -/
theorem cageSpeed_lt {s : State} {p v : Nat} (h : s.cageSpeed p = some v) : v < 8 := by
  unfold State.cageSpeed at h
  split at h
  · cases h
    decide
  · split at h
    · cases h
    · split at h
      · split at h <;> cases h
        decide
      · split at h <;> cases h
        decide
      · cases h
        decide
      · cases h

/-- Settles O39: each command is one change of the frame, the cells, the queues or the port. -/
theorem switchCore : Obligations.SwitchCore := by
  unfold Obligations.SwitchCore
  refine ⟨fun s b f x hb hp hu hbad hx hl hm hd ho hpfc ha => ⟨_, rfl, ?_⟩, fun s id len x c hx ht hc hl hr => ⟨_, rfl, ?_⟩,
    fun s id len x c hx ht hc hl hz hn hlen => ⟨_, rfl, ?_⟩, fun s i j v x c hi hj hq hx hc hd hm hs ht hv => ⟨_, rfl, ?_⟩,
    fun s i u hc hs hf hr hl hk hfix => ⟨_, rfl, ?_⟩, fun s hf => ⟨_, rfl, ?_⟩, fun s p hp hf => ⟨_, rfl, ?_⟩, fun s p hp hc hf => ⟨_, rfl, ?_⟩,
    fun s p v ho hc hh hu hcl => ⟨_, rfl, ?_⟩, fun s => ⟨_, rfl, rfl, regs_only_same _ _ _ rfl⟩⟩
  · have he : (if (f.port = 32 || f.port = 33) = true then s.linkAlive (f.port - 32) else s) = b := by
      rw [← hb]
      simp
    have hswc : b.swc = s.swc := by
      rw [← hb]
      split
      · exact ((within_pair s _ rfl).trans (within_linksCheck _) : Within linkW s _).swc rfl
      · rfl
    rw [he]
    have h := frameHead_own b f x hp hu hbad hx hl hm hd ho hpfc ha
    rw [hswc] at h
    exact h
  · exact frameTail_bad s id len x c hx ht hc hl hr
  · exact frameTail_good s id len x c hx ht hc hl hz hn hlen
  · exact cellSlot_one s i j v x c hi hj hq hx hc hd hm hs ht hv
  · obtain ⟨h1, h2⟩ := moraineSweep_leak s i u hc hs hf hr hl hk hfix
    exact ⟨h1, (get_only_in _ _ _ _ _ rfl).trans h2⟩
  · obtain ⟨l, e⟩ := privilegedFlush_empty { s with swc := { s.swc with cpuUp := false } } 48 hf
    obtain ⟨h1, -, h3⟩ := flushRoot_after { s with swc := { s.swc with cpuUp := false } } 48
    have hd : s.privilegedPortDown 48 = (s.privilegedDown 48).linksCheck := rfl
    have hp : s.privilegedDown 48 = State.privilegedFlush { s with swc := { s.swc with cpuUp := false } } 48 := rfl
    have hl := within_linksCheck (s.privilegedDown 48)
    refine ⟨?_, ?_⟩
    · show (s.privilegedPortDown 48).swc.cpuUp = false
      rw [hd, hl.swc rfl, hp, e]
      exact h3
    · show ∀ x ∈ (s.privilegedPortDown 48).tms.leaves, x.root ≠ 48
      rw [hd, hl.tms rfl, hp, e]
      exact h1
  · have hd : s.privilegedDown p = (s.linkDown p).privilegedFlush p := by
      unfold State.privilegedDown
      rw [if_neg (by rcases hp with rfl | rfl <;> decide), if_neg (by omega)]
    obtain ⟨l, e⟩ := privilegedFlush_empty (s.linkDown p) p (by rw [(linkDown_within s p).swc rfl]; exact hf)
    have h1 : (s.privilegedDown p).flag MAC_PORT_STATUS_up p = false := by
      rw [hd, e, State.flag, get_raise, (flushRoot_after (s.linkDown p) p).2.1.regs _ _ rfl]
      exact linkDown_down s p
    have h2 := linksCheck_down (s.privilegedDown p) p hp h1
    have hl := within_linksCheck (s.privilegedDown p)
    have hg := within_portGone (s.privilegedDown p).linksCheck p
    have e2 : s.privilegedPortDown p = (s.privilegedDown p).linksCheck.portGone p := if_pos (by simpa using hp)
    rw [e2]
    constructor
    · rw [State.flag, get_only_in _ _ _ _ _ rfl, hg.regs _ _ rfl, hl.regs _ _ rfl]
      exact h1
    · rw [plUp_eq, get_only_in _ _ _ _ _ rfl, hg.regs _ _ rfl]
      exact h2
  · obtain ⟨h1, h2⟩ := frontPortDown_after s p hp hc hf
    have hl := within_linksCheck (s.frontPortDown p)
    refine ⟨?_, ?_⟩
    · rw [State.flag, get_only_in _ _ _ _ _ rfl, hl.regs _ _ rfl]
      exact h1
    · show ∀ e ∈ ((s.frontPortDown p).linksCheck.ftab 0).all, _
      rw [ftab_congr (s := s.frontPortDown p) (hl.fwd rfl)]
      exact h2
  · have hp : p ≠ 48 := by
      rintro rfl
      exact absurd hc (by unfold State.cageSpeed; simp)
    have e : s.linkUp p = State.linksCheck ((((s.set MAC_PORT_STATUS_up p 1).set MAC_PORT_STATUS_speed p v).set MAC_PORT_STATUS_fec_lock p 1).leave (ctrMac p 9)) := by
      rw [State.linkUp, if_neg hp, if_pos ho, State.portLinkUp, hc]
      dsimp only
      rw [hh, hu, if_neg (by decide), if_neg]
      rw [State.flag, get_congr (leave_regs _ _), get_set_field _ _ _ _ (by decide), get_set_field _ _ _ _ (by decide), get_set_field _ _ _ _ (by decide)]
      rw [State.flag] at hcl
      rw [hcl]
      simp
    rw [e]
    have hl := within_linksCheck ((((s.set MAC_PORT_STATUS_up p 1).set MAC_PORT_STATUS_speed p v).set MAC_PORT_STATUS_fec_lock p 1).leave (ctrMac p 9))
    refine ⟨?_, ?_, ?_⟩
    · rw [get_only_in _ _ _ _ _ rfl, hl.regs _ _ rfl, get_congr (leave_regs _ _), get_set_field _ _ _ _ (by decide), get_set_field _ _ _ _ (by decide),
        get_set_same]
      rfl
    · rw [get_only_in _ _ _ _ _ rfl, hl.regs _ _ rfl, get_congr (leave_regs _ _), get_set_field _ _ _ _ (by decide), get_set_same]
      exact Nat.mod_eq_of_lt (cageSpeed_lt hc)
    · rw [get_only_in _ _ _ _ _ rfl, hl.regs _ _ rfl, get_congr (leave_regs _ _), get_set_same]
      rfl

end Sys2Proof.Machine
end

section
/-! PROOFS. The drive ports: bring-up and refusal, completions, warnings, the ladder, the link, errors, health, a partner's refusal
(R295, R302 to R316). -/

namespace Sys2Proof.Machine

open F

/-! ## A port refused (R303) -/

/-- The port of a drive that is refused, with its reason. -/
structure PortRefused (s : State) (x r : Nat) : Prop where
  state  : s.get DRV_PORT_STATUS_state x = 4
  reason : s.get DRV_PORT_STATUS_refuse x = r
  barred : (s.port x).barred = true

theorem PortRefused.congr {s t : State} {x r : Nat} (h : PortRefused s x r) (h1 : t.get DRV_PORT_STATUS_state x = s.get DRV_PORT_STATUS_state x)
    (h2 : t.get DRV_PORT_STATUS_refuse x = s.get DRV_PORT_STATUS_refuse x) (hd : t.drv = s.drv) : PortRefused t x r := by
  refine ⟨h1.trans h.state, h2.trans h.reason, ?_⟩
  rw [State.port, hd]
  exact h.barred

/-- A refused port that goes off stays refused. -/
theorem PortRefused.portOff {s : State} {x r : Nat} (h : PortRefused s x r) (hc : ∀ d ∈ (s.port x).cmds, d.gone = true) (hw : s.waitingOf x = []) :
    PortRefused (s.portOff x) x r := by
  have w := within_portOff s x hc hw
  unfold State.portOff at w ⊢
  rw [withdraw_quiet s x hc hw] at w ⊢
  extract_lets _ withdrawn _ off state
  have h1 : withdrawn.port x = { s.port x with cmds := (s.port x).cmds.map fun d => { d with gone := true } } :=
    (port_putPort s x x _).trans (if_pos rfl)
  have h2 : state.get DRV_PORT_STATUS_state x = 4 ∧ state.drv = off.drv := by
    have e : off.get DRV_PORT_STATUS_state x = 4 := (get_congr (leave_regs _ _) _ _).trans h.state
    have e' : state = off := if_pos e
    rw [e']
    exact ⟨e, rfl⟩
  refine ⟨?_, (w.regs _ _ rfl).trans h.reason, ?_⟩
  · rw [get_set_field _ _ _ _ (by decide), get_set_field _ _ _ _ (by decide), get_set_field _ _ _ _ (by decide), get_set_field _ _ _ _ (by decide),
      get_set_field _ _ _ _ (by decide)]
    exact h2.1
  · show (tgetD state.drv x {}).barred = true
    rw [h2.2]
    show (State.port (State.leave _ _) x).barred = true
    rw [State.port, leave_drv]
    refine (congrArg Port.barred ((port_putPort withdrawn x x _).trans (if_pos rfl))).trans ?_
    show (withdrawn.port x).barred = true
    rw [h1]
    exact h.barred

theorem PortRefused.slotTurnOff {s : State} {x r : Nat} (h : PortRefused s x r) (cause : Nat) (hc : ∀ d ∈ (s.port x).cmds, d.gone = true)
    (hw : s.waitingOf x = []) : PortRefused (s.slotTurnOff x cause) x r := by
  unfold State.slotTurnOff
  split
  · exact h
  · split
    · exact h.congr rfl rfl rfl
    · have w := within_pgClear (s.putSlot x (cutSlot (s.slot x))) x
      have h1 : PortRefused ((s.putSlot x (cutSlot (s.slot x))).pgClear x) x r := h.congr (w.regs _ _ rfl) (w.regs _ _ rfl) (w.drv rfl)
      have h2 : PortRefused (s.slotCut x) x r := h1.portOff (by rw [State.port, w.drv rfl]; exact hc) (by rw [State.waitingOf, w.tms rfl]; exact hw)
      dsimp only
      generalize s.slotCut x = u at h2 ⊢
      have h3 : Within { parts := [.ctr, .slt, .pair, .outbox], fields := [SLT_CH_STATUS_cause, SLT_CH_STATUS_state] } u
          (((u.putSlot x { u.slot x with pwrdis := true, cycling := false, barred := cause = 8 }).set SLT_CH_STATUS_cause x cause).setCh x 2) :=
        (((within_slt u _ rfl).trans (within_set _ SLT_CH_STATUS_cause x cause rfl)).trans (within_set _ SLT_CH_STATUS_state x 2 rfl)).trans
          ((slotReport_pairW _ x).widen (by decide) (by decide) (by decide))
      exact h2.congr (h3.regs _ _ rfl) (h3.regs _ _ rfl) (h3.drv rfl)

/-- The drive of a port that is no member's is refused: by its own checks, or as the partner tells. -/
theorem refuse_refused (s : State) (x r : Nat) (tell : Bool) (hq : QuietPort s x) (hl : s.live x = false)
    (hr : tell = true → s.get DRV_PORT_STATUS_rung x ≠ 2) :
    PortRefused (s.refuse x r tell) x (r % 2 ^ DRV_PORT_STATUS_refuse.w) ∧ SameRx s (s.refuse x r tell) := by
  have hn : (tell && (decide (s.get DRV_PORT_STATUS_rung x = 2) || s.live x && decide (s.get DRV_PORT_STATUS_rung x < 3))) = false := by
    rw [hl, Bool.false_and, Bool.or_false]
    cases tell with
    | false => rfl
    | true => simpa using hr rfl
  unfold State.refuse
  extract_lets rung b _ p m n
  rw [if_neg (Bool.eq_false_iff.mp hn)]
  have hb : Within { parts := [.evt, .ctr], fields := [DRV_PORT_STATUS_state, DRV_PORT_STATUS_refuse] } s b :=
    ((within_set s _ _ _ rfl).trans (within_set _ _ _ _ rfl)).trans (within_raise _ _ _ _ _ rfl rfl)
  have h1 : b.get DRV_PORT_STATUS_state x = 4 := (get_set_field _ _ _ _ (by decide)).trans (get_set_same _ _ _ _)
  have h2 : b.get DRV_PORT_STATUS_refuse x = r % 2 ^ DRV_PORT_STATUS_refuse.w := get_set_same _ _ _ _
  have hp : PortRefused p x (r % 2 ^ DRV_PORT_STATUS_refuse.w) := by
    refine ⟨h1, h2, ?_⟩
    rw [port_putPort, if_pos rfl]
  have hpw : Within { parts := [.evt, .ctr, .drv], fields := [DRV_PORT_STATUS_state, DRV_PORT_STATUS_refuse] } s p :=
    (hb.widen (by decide) (by decide) (by decide)).trans (within_drv _ _ rfl)
  have hpc : (p.port x).cmds = [] := by
    rw [port_putPort, if_pos rfl]
    show (b.port x).cmds = []
    rw [State.port, hb.drv rfl]
    exact hq.cmds
  have hm : Within { parts := [], fields := [REB_MEMBER_state] } p m := by
    have hpl : p.live x = false := by
      rw [State.live, hpw.regs _ _ rfl]
      exact hl
    show Within _ p (if p.live x = true then _ else _)
    rw [hpl, if_neg Bool.false_ne_true]
    exact within_ite _ (fun _ => within_set _ _ _ _ rfl) fun _ => .refl _ _
  have hmr : PortRefused m x (r % 2 ^ DRV_PORT_STATUS_refuse.w) := hp.congr (hm.regs _ _ rfl) (hm.regs _ _ rfl) (hm.drv rfl)
  have hmc : ∀ d ∈ (m.port x).cmds, d.gone = true := by
    rw [State.port, hm.drv rfl]
    show ∀ d ∈ (p.port x).cmds, _
    rw [hpc]
    exact fun d hd => absurd hd List.not_mem_nil
  have hmw : m.waitingOf x = [] := by
    rw [waitingOf_congr (hm.tms rfl), waitingOf_congr (hpw.tms rfl)]
    exact hq.wait
  have hnr : PortRefused n x (r % 2 ^ DRV_PORT_STATUS_refuse.w) := hmr.slotTurnOff 8 hmc hmw
  have hnx : SameRx s n := (SameRx.of_pair ((hm.pair rfl).trans (hpw.pair rfl))).trans (sameRx_slotTurnOff m x 8 hmc hmw)
  split
  · have w := pairSend_pairW n (.drive (.refused x r))
    exact ⟨hnr.congr (w.regs _ _ rfl) (w.regs _ _ rfl) (w.drv rfl), hnx.trans (sameRx_pairSend _ _)⟩
  · exact ⟨hnr, hnx⟩

/-! ## A port made ready (R303, R304) -/

/-- A drive that passes the checks and is no member's is a CANDIDATE on a ready port. -/
structure PortReady (s : State) (x : Nat) (f : DriveFacts) : Prop where
  state : s.get DRV_PORT_STATUS_state x = 3
  member : s.get REB_MEMBER_state x = 1
  capacity : tget s.str.capacity x = some f.capacity
  facts : (s.port x).facts = some f
  cmds : (s.port x).cmds = []
  link : (s.port x).linkDown = none

theorem portReady_after (s : State) (x : Nat) (f : DriveFacts) :
    (s.portReady x f).get DRV_PORT_STATUS_state x = 3 ∧ tget (s.portReady x f).str.capacity x = some f.capacity ∧
    ((s.portReady x f).port x).facts = some f ∧ ((s.portReady x f).port x).cmds = [] ∧ ((s.portReady x f).port x).linkDown = none ∧
    Within { parts := [.evt, .ctr, .str, .drv], fields := drvLive } s (s.portReady x f) ∧ (s.portReady x f).boot = s.boot := by
  unfold State.portReady
  extract_lets full a b _ c _ _ d
  have hb : Within { parts := [], fields := drvLive } s b :=
    ((((((within_set s _ _ _ rfl).trans (within_set _ _ _ _ rfl)).trans (within_set _ _ _ _ rfl)).trans (within_set _ _ _ _ rfl)).trans
      (within_set _ _ _ _ rfl)).trans (within_set _ _ _ _ rfl)).trans (within_set _ _ _ _ rfl)
  have hs : b.get DRV_PORT_STATUS_state x = 3 := (get_set_field _ _ _ _ (by decide)).trans (get_set_same _ _ _ _)
  have hl : Within { parts := [.ctr] } c (c.leave (ctrDrv x 13)) := within_leave _ _ rfl
  have hd : Within { parts := [.evt, .ctr, .str, .drv], fields := drvLive } s d :=
    (((hb.widen (by decide) (by decide) (by decide)).trans (within_drv _ _ rfl : Within _ b c)).trans (hl.widen (by decide) (by decide) (by decide))).trans
      (within_str _ _ rfl)
  have hp : d.port x = { b.port x with cmds := [], linkDown := none, facts := some f } := by
    show (State.port (State.leave c _) x) = _
    rw [State.port, leave_drv]
    exact (port_putPort b x x _).trans (if_pos rfl)
  have hds : d.get DRV_PORT_STATUS_state x = 3 := (hl.regs _ _ rfl).trans hs
  have hdc : tget d.str.capacity x = some f.capacity := tget_tput_same _ _ _
  clear_value d
  split
  · refine ⟨(get_raise _ _ _ _ _ _ _).trans hds, hdc, ?_, ?_, ?_, hd.trans (within_raise _ _ _ _ _ rfl rfl), hd.boot rfl⟩
    · exact (congrArg Port.facts hp :)
    · exact (congrArg Port.cmds hp :)
    · exact (congrArg Port.linkDown hp :)
  · refine ⟨hds, hdc, ?_, ?_, ?_, hd, hd.boot rfl⟩
    · exact (congrArg Port.facts hp :)
    · exact (congrArg Port.cmds hp :)
    · exact (congrArg Port.linkDown hp :)

theorem within_configureDrive (s : State) (x : Nat) (f : DriveFacts) : Within { parts := [.outbox] } s (s.configureDrive x f) :=
  within_each _ _ _ fun s _ => within_send s _ rfl

theorem candidate_after (s : State) (x : Nat) (f : DriveFacts) : (s.candidate x f).get REB_MEMBER_state x = 1 ∧
    Within { parts := [.evt, .ctr], fields := [REB_MEMBER_state] } s (s.candidate x f) := by
  unfold State.candidate
  dsimp only
  split
  · exact ⟨(get_raise _ _ _ _ _ _ _).trans (get_set_same _ _ _ _), (within_set s _ _ _ rfl).trans (within_raise _ _ _ _ _ rfl rfl)⟩
  · exact ⟨get_set_same _ _ _ _, within_set s _ _ _ rfl⟩

/-- The state in which the checks are made. -/
def State.asked (s : State) (x : Nat) (f : DriveFacts) : State := if f.l0 && f.classCode = 0x010802 && f.ready then s.askQueues x else s

theorem within_asked (s : State) (x : Nat) (f : DriveFacts) : Within { parts := [.outbox] } s (s.asked x f) :=
  within_ite _ (fun _ => within_send s _ rfl) fun _ => .refl _ _

theorem acceptCheck_asked (s : State) (x : Nat) (f : DriveFacts) : (s.asked x f).acceptCheck x f = s.acceptCheck x f := by
  unfold State.asked
  split <;> rfl

section
variable {s : State} {x : Nat} {f : DriveFacts} (h0 : s.get DRV_PORT_STATUS_state x ≠ 0) (h3 : s.get DRV_PORT_STATUS_state x ≠ 3)
  (h4 : s.get DRV_PORT_STATUS_state x ≠ 4)
include h0 h3 h4

theorem bringUp_some {r : Nat} (ha : s.acceptCheck x f = some r) : s.bringUp x f = (s.asked x f).refuse x r true := by
  have ha' := (acceptCheck_asked s x f).trans ha
  unfold State.asked at ha' ⊢
  unfold State.bringUp
  rw [if_neg (by simp [h0, h3, h4])]
  dsimp only
  rw [ha']

theorem bringUp_none (ha : s.acceptCheck x f = none) (hl : (((s.asked x f).portReady x f).configureDrive x f).live x = false)
    (hb : (((s.asked x f).portReady x f).configureDrive x f).boot.drivesUp = true) :
    s.bringUp x f = (((s.asked x f).portReady x f).configureDrive x f).candidate x f := by
  have ha' := (acceptCheck_asked s x f).trans ha
  unfold State.asked at ha' hl hb ⊢
  unfold State.bringUp
  rw [if_neg (by simp [h0, h3, h4])]
  dsimp only
  rw [ha']
  dsimp only
  rw [hl, if_neg Bool.false_ne_true, hb]
  exact if_neg Bool.false_ne_true

end

/-- The bring-up of a drive that passes the checks, its port neither off, ready nor refused. -/
theorem bringUp_ready (s : State) (x : Nat) (f : DriveFacts) (h0 : s.get DRV_PORT_STATUS_state x ≠ 0) (h3 : s.get DRV_PORT_STATUS_state x ≠ 3)
    (h4 : s.get DRV_PORT_STATUS_state x ≠ 4) (ha : s.acceptCheck x f = none) (hl : s.live x = false) (hb : s.boot.drivesUp = true) :
    PortReady (s.bringUp x f) x f := by
  have w := within_asked s x f
  have e : s.bringUp x f = (((s.asked x f).portReady x f).configureDrive x f).candidate x f := by
    obtain ⟨-, -, -, -, -, wr, wb⟩ := portReady_after (s.asked x f) x f
    have wc := within_configureDrive ((s.asked x f).portReady x f) x f
    refine bringUp_none h0 h3 h4 ha ?_ ?_
    · rw [State.live, wc.regs _ _ rfl, wr.regs _ _ rfl, w.regs _ _ rfl]
      exact hl
    · rw [wc.boot rfl, wb, w.boot rfl, hb]
  obtain ⟨r1, r2, r3, r4, r5, -, -⟩ := portReady_after (s.asked x f) x f
  have wc := within_configureDrive ((s.asked x f).portReady x f) x f
  obtain ⟨c1, c2⟩ := candidate_after (((s.asked x f).portReady x f).configureDrive x f) x f
  have hd : (s.bringUp x f).drv = ((s.asked x f).portReady x f).drv := by rw [e, c2.drv rfl, wc.drv rfl]
  have hp : (s.bringUp x f).port x = ((s.asked x f).portReady x f).port x := by rw [State.port, hd]; rfl
  refine ⟨?_, ?_, ?_, ?_, ?_, ?_⟩
  · rw [e, c2.regs _ _ rfl, wc.regs _ _ rfl, r1]
  · rw [e, c1]
  · rw [e, c2.str rfl, wc.str rfl, r2]
  · rw [hp, r3]
  · rw [hp, r4]
  · rw [hp, r5]

/-- The bring-up of a drive that fails a check. -/
theorem bringUp_refused (s : State) (x r : Nat) (f : DriveFacts) (hq : QuietPort s x) (h0 : s.get DRV_PORT_STATUS_state x ≠ 0)
    (h3 : s.get DRV_PORT_STATUS_state x ≠ 3) (h4 : s.get DRV_PORT_STATUS_state x ≠ 4) (hr : s.get DRV_PORT_STATUS_rung x ≠ 2)
    (ha : s.acceptCheck x f = some r) (hl : s.live x = false) : PortRefused (s.bringUp x f) x (r % 2 ^ DRV_PORT_STATUS_refuse.w) := by
  have w := within_asked s x f
  rw [bringUp_some h0 h3 h4 ha]
  refine (refuse_refused (s.asked x f) x r true ⟨hq.slot, ?_, ?_⟩ ?_ fun _ => ?_).1
  · rw [State.port, w.drv rfl]
    exact hq.cmds
  · rw [waitingOf_congr (w.tms rfl)]
    exact hq.wait
  · rw [State.live, w.regs _ _ rfl]
    exact hl
  · rw [w.regs _ _ rfl]
    exact hr

/-! ## The ladder (R312 to R314) -/

/-- A report from a state with the clock, the EVT block and the EVT registers of an earlier one is one from there. -/
theorem Reports.before {s t u : State} {e : EvType} {k c : Nat} {l : List Nat} (h : Reports u t e k c l) (hd : u.dtc = s.dtc) (he : u.evt = s.evt)
    (hr : ∀ f i, f.reg / 0x100000 = 2 → u.get f i = s.get f i) : Reports s t e k c l := by
  obtain ⟨v, vd, ve, vr, vt⟩ := h
  exact ⟨v, vd.trans hd, ve.trans he, fun f i hf => (vr f i hf).trans (hr f i hf), vt⟩


/-- A rung of the ladder begun: the port is in recovery and one event says so. -/
structure RungBegun (s : State) (x n : Nat) (t : State) : Prop where
  rung   : t.get DRV_PORT_STATUS_rung x = n
  state  : t.get DRV_PORT_STATUS_state x = 5
  report : Reports s t EV_DRV_ESCALATE 2 x [n]

theorem rung_begins (s : State) (x n : Nat) (hn : n < 2 ^ DRV_PORT_STATUS_rung.w) : RungBegun s x n (s.rung x n) := by
  refine ⟨?_, ?_, ?_⟩
  · rw [State.rung, get_raise, get_set_field _ _ _ _ (by decide), get_set_same, Nat.mod_eq_of_lt hn]
  · rw [State.rung, get_raise, get_set_same]
    rfl
  · refine reports_raise EV_DRV_ESCALATE 2 x [n] rfl rfl fun f i hf => ?_
    rw [get_set_field _ _ _ _ (fun h => by rw [← (Prod.mk.inj h).1] at hf; exact absurd hf (by decide)),
      get_set_field _ _ _ _ (fun h => by rw [← (Prod.mk.inj h).1] at hf; exact absurd hf (by decide))]

theorem RungBegun.congr {s t u : State} {x n : Nat} (h : RungBegun s x n t) {w : Writes} (hw : Within w t u)
    (h1 : w.field (DRV_PORT_STATUS_rung.key x) = false) (h2 : w.field (DRV_PORT_STATUS_state.key x) = false) (he : w.part .evt = false) :
    RungBegun s x n u :=
  ⟨(hw.regs _ _ h1).trans h.rung, (hw.regs _ _ h2).trans h.state, h.report.congr (hw.evt he)⟩

/-- Withdrawing from a quiet port changes no register, no event. -/
theorem withdraw_within (s : State) (x : Nat) (hc : (s.port x).cmds = []) (hw : s.waitingOf x = []) :
    Within { parts := [.tms, .drv] } s (s.withdraw x) ∧ (s.withdraw x).port x = s.port x := by
  rw [withdraw_quiet s x (fun d hd => by rw [hc] at hd; exact absurd hd List.not_mem_nil) hw]
  refine ⟨(within_drv s _ rfl).trans (within_tms _ _ rfl), ?_⟩
  refine (port_putPort s x x _).trans ((if_pos rfl).trans ?_)
  rw [hc]
  show ({ s.port x with cmds := [] } : Port) = s.port x
  rw [← hc]

theorem ladder2_begins (s : State) (x : Nat) (hq : QuietPort s x) (ho : (s.port x).okRung2 = none) : RungBegun s x 2 (s.ladder2 x) := by
  have e : s.ladder2 x = ((s.rung x 2).bump (ctrDrv x 9)).withdraw x := by
    rw [State.ladder2, ho]
    rfl
  rw [e]
  exact (rung_begins s x 2 (by decide)).congr (((within_bump (s.rung x 2) _ _ rfl).trans
    ((withdraw_within ((s.rung x 2).bump (ctrDrv x 9)) x hq.cmds hq.wait).1.widen (by decide) (by decide) (by decide)) :
      Within { parts := [.ctr, .tms, .drv] } _ _)) rfl rfl rfl

theorem ladder3_begins (s : State) (x : Nat) (hq : QuietPort s x) (ho : (s.port x).okRung3 = none) (hs : s.slotOwner x = false) :
    RungBegun s x 3 (s.ladder3 x) := by
  have hw : Within { parts := [.ctr, .tms, .drv, .pair, .outbox] } (s.rung x 3)
      ((((s.rung x 3).bump (ctrDrv x 10)).withdraw x).pairSend (.drive (.cycle x))) :=
    ((within_bump (s.rung x 3) _ _ rfl).trans
      ((withdraw_within ((s.rung x 3).bump (ctrDrv x 10)) x hq.cmds hq.wait).1.widen (by decide) (by decide) (by decide))).trans
      ((pairSend_pairW _ _).widen (by decide) (by decide) (by decide))
  have e : s.ladder3 x = (((s.rung x 3).bump (ctrDrv x 10)).withdraw x).pairSend (.drive (.cycle x)) := by
    rw [State.ladder3, ho]
    refine (if_neg Bool.false_ne_true).trans (if_neg ?_)
    rw [State.slotOwner, State.flag, hw.regs _ _ rfl]
    exact Bool.eq_false_iff.mp (((congrArg (fun n => decide (n = 1)) (show (s.rung x 3).get SLT_CH_STATUS_owner x = s.get SLT_CH_STATUS_owner x by
      rw [State.rung, get_raise, get_set_field _ _ _ _ (by decide), get_set_field _ _ _ _ (by decide)])).trans hs))
  rw [e]
  exact (rung_begins s x 3 (by decide)).congr hw rfl rfl rfl

/-! ## Completions (R306, R314) -/

/-- A command taken from its port and its time sampled. -/
def State.cqeTaken (s : State) (x tag : Nat) (e : DrvCmd) : State :=
  let u := (s.putPort x { s.port x with cmds := (s.port x).cmds.filter fun y => y.tag != tag }).leave (ctrDrv x 13)
  if useReads e.cmd.use then u.sample 1 x (u.since e.at_) true
  else if useChunk e.cmd.use then u.sample 2 x (u.since e.at_) true else u

theorem cqeTaken_after (s : State) (x tag : Nat) (e : DrvCmd) :
    (s.cqeTaken x tag e).port x = { s.port x with cmds := (s.port x).cmds.filter fun y => y.tag != tag } ∧
    Within { parts := [.ctr, .tel, .drv] } s (s.cqeTaken x tag e) := by
  unfold State.cqeTaken
  extract_lets _ u
  have hu : Within { parts := [.ctr, .tel, .drv] } s u := (within_drv s _ rfl).trans (within_leave _ _ rfl)
  have hp : u.port x = { s.port x with cmds := (s.port x).cmds.filter fun y => y.tag != tag } := by
    rw [State.port, leave_drv]
    exact (port_putPort s x x _).trans (if_pos rfl)
  split
  · exact ⟨hp, hu.trans (within_tel _ _ rfl)⟩
  · split
    · exact ⟨hp, hu.trans (within_tel _ _ rfl)⟩
    · exact ⟨hp, hu⟩

theorem driveCqe_ok (s : State) (x tag : Nat) (d : List Block) (e : DrvCmd) (he : (s.port x).cmds.find? (fun d => d.tag = tag) = some e)
    (hg : e.gone = false) (hl : e.late = false) : s.driveCqe x tag 0 d = (s.cqeTaken x tag e).driveOk e.cmd d := by
  rw [State.driveCqe, he]
  dsimp only
  rw [hl, Bool.false_and, if_neg Bool.false_ne_true, if_neg (by decide), hg, if_neg Bool.false_ne_true]
  rfl

/-! ## The link lost (R310) -/

/-- The link of a port lost. -/
structure LinkLost (s : State) (x : Nat) (t : State) : Prop where
  state  : t.get DRV_PORT_STATUS_state x = 5
  speed  : t.get DRV_PORT_STATUS_speed x = 0
  link   : (t.port x).linkDown = some s.dtc
  report : Reports s t EV_DRV_LINK_DOWN 2 x []

theorem linkLost_after (s : State) (x : Nat) (hq : QuietPort s x) : LinkLost s x
    (let s := ((s.set DRV_PORT_STATUS_state x 5).set DRV_PORT_STATUS_speed x 0).set DRV_PORT_STATUS_width x 0
     let s := s.putPort x { s.port x with linkDown := some s.dtc }
     let s := ((s.addSat DRV_PORT_ERR_link_losses x 1).bump (ctrDrv x 11)).raise EV_DRV_LINK_DOWN 2 x
     s.withdraw x) := by
  extract_lets a _ b c
  have hc : c.port x = { s.port x with linkDown := some s.dtc } := (port_putPort a x x _).trans (if_pos rfl)
  obtain ⟨w, hp⟩ := withdraw_within c x (by rw [hc]; exact hq.cmds) hq.wait
  have hreg (f : Fld) : c.get f x = ((s.set DRV_PORT_STATUS_state x 5).set DRV_PORT_STATUS_speed x 0 |>.set DRV_PORT_STATUS_width x 0 |>.addSat
    DRV_PORT_ERR_link_losses x 1).get f x := rfl
  refine ⟨?_, ?_, ?_, ?_⟩
  · rw [w.regs _ _ rfl, hreg, get_addSat_field _ _ _ _ (by decide), get_set_field _ _ _ _ (by decide), get_set_field _ _ _ _ (by decide), get_set_same]
    rfl
  · rw [w.regs _ _ rfl, hreg, get_addSat_field _ _ _ _ (by decide), get_set_field _ _ _ _ (by decide), get_set_same]
    rfl
  · rw [hp, hc]
  · refine Reports.congr (t := c) ?_ (w.evt rfl)
    refine reports_raise EV_DRV_LINK_DOWN 2 x [] rfl rfl fun f i hf => ?_
    have hne (g : Fld) (hg : g.reg / 0x100000 ≠ 2) : (g.reg, g.lo) ≠ (f.reg, f.lo) := fun h => by
      rw [← (Prod.mk.inj h).1] at hf
      exact hg hf
    exact (get_addSat_field _ _ _ _ (hne _ (by decide))).trans ((get_set_field _ _ _ _ (hne _ (by decide))).trans
      ((get_set_field _ _ _ _ (hne _ (by decide))).trans (get_set_field _ _ _ _ (hne _ (by decide)))))

/-- Settles O35: each command is one change of the port, its drive or its member. -/
theorem drivePorts : Obligations.DrivePorts := by
  unfold Obligations.DrivePorts
  refine ⟨fun s x f hx h0 h3 h4 hr ha hl hb => ⟨_, rfl, ?_⟩, fun s x r f hq h0 h3 h4 h1 h2 ha hl => ⟨_, rfl, ?_⟩,
    fun s x b hq h0 h3 h4 h2 hl => ⟨_, rfl, ?_⟩, fun s x tag d e hx he hu hg hl => ⟨_, rfl, ?_⟩,
    fun s x tag i st ch d e r g hx he hu hg hl hw hs hst hch hn => ⟨_, rfl, ?_⟩, fun s x w hx h1 h2 hd hl => ⟨_, rfl, ?_⟩,
    fun s x w hq h1 h2 => ⟨_, rfl, ?_⟩, fun s x hq h3 ho => ⟨_, rfl, ?_⟩, fun s x hq hs => ⟨_, rfl, ?_⟩,
    fun s x f hx hd h5 ha hl hb => ⟨_, rfl, ?_⟩, fun s x hx hn => ⟨_, rfl, ?_⟩, fun s x tag e hx he ht hl hr => ⟨_, rfl, ?_⟩,
    fun s x hq h2 ho hs => ⟨_, rfl, ?_⟩, fun s x u hx h3 => ⟨_, rfl, ?_⟩, fun s h x r hs hq h4 hl => ⟨_, rfl, ?_⟩⟩
  · have h := bringUp_ready s x f h0 h3 h4 ha hl hb
    rw [Nat.mod_eq_of_lt hx, if_neg hr]
    exact ⟨(get_only_in _ _ _ _ _ rfl).trans h.state, (get_only_in _ _ _ _ _ rfl).trans h.member, h.capacity, h.facts, h.cmds⟩
  · have h := bringUp_refused s x r f hq h0 h3 h4 h2 ha hl
    rw [Nat.mod_eq_of_lt hq.slot, if_neg h1]
    exact ⟨(get_only_in _ _ _ _ _ rfl).trans h.state, (get_only_in _ _ _ _ _ rfl).trans h.reason, h.barred⟩
  · have h := (refuse_refused s x (if b then 3 else 1) true hq hl fun _ => h2).1
    rw [Nat.mod_eq_of_lt hq.slot, if_neg (by simp [h0, h3, h4])]
    refine ⟨(get_only_in _ _ _ _ _ rfl).trans h.state, (get_only_in _ _ _ _ _ rfl).trans (h.reason.trans ?_)⟩
    cases b <;> rfl
  · rw [Nat.mod_eq_of_lt hx, driveCqe_ok s x tag d e he hg hl]
    have ho : (s.cqeTaken x tag e).driveOk e.cmd d = s.cqeTaken x tag e := by
      rw [State.driveOk, hu]
    rw [ho]
    exact (cqeTaken_after s x tag e).1
  · rw [Nat.mod_eq_of_lt hx, driveCqe_ok s x tag d e he hg hl]
    have ho : (s.cqeTaken x tag e).driveOk e.cmd d = (s.cqeTaken x tag e).sourceGot i st ch d := by
      rw [State.driveOk, hu]
    have w := (cqeTaken_after s x tag e).2
    have hgot : ((s.cqeTaken x tag e).sourceGot i st ch d).reb.work = tput s.reb.work i
        { r with asked := r.asked.filter (· != ch), got := tput r.got ch d } := by
      rw [State.sourceGot, w.reb rfl, hw, State.seg, w.str rfl, show tget s.str.segs i = some g from hs]
      dsimp only
      rw [if_neg (by simp [hst, hch]), if_pos (by simpa using hn)]
    rw [ho]
    show tget ((s.cqeTaken x tag e).sourceGot i st ch d).reb.work i = _
    rw [hgot]
    exact tget_tput_same _ _ _
  · rw [Nat.mod_eq_of_lt hx]
    have e : s.driveWarning x w = (s.putPort x { s.port x with degraded := true }).raise EV_REB_MEMBER_DEGRADED 2 x := by
      unfold State.driveWarning
      dsimp only
      rw [if_neg (by simp [h2]), if_pos (by simp [h1, hd, hl])]
    rw [e]
    refine ⟨congrArg Port.degraded ((port_putPort s x x _).trans (if_pos rfl)), ?_⟩
    exact (reports_raise (s := s) (u := s.putPort x { s.port x with degraded := true }) EV_REB_MEMBER_DEGRADED 2 x [] rfl rfl fun _ _ _ => rfl).congr rfl
  · rw [Nat.mod_eq_of_lt hq.slot]
    have e : s.driveWarning x w = s.memberFail x 5 := by
      unfold State.driveWarning
      dsimp only
      rw [if_pos (by simp [h2]), if_neg (by simp [h1])]
    rw [e]
    obtain ⟨f1, f2, -, -⟩ := memberFail_failed s x 5 hq (by decide)
    exact ⟨(get_only_in _ _ _ _ _ rfl).trans f1, (get_only_in _ _ _ _ _ rfl).trans f2⟩
  · rw [Nat.mod_eq_of_lt hq.slot, if_pos (by simp [h3])]
    have h := ladder2_begins s x hq ho
    exact ⟨(get_only_in _ _ _ _ _ rfl).trans h.state, (get_only_in _ _ _ _ _ rfl).trans h.rung, h.report.congr rfl⟩
  · rw [Nat.mod_eq_of_lt hq.slot, if_neg hs]
    have h := linkLost_after s x hq
    exact ⟨(get_only_in _ _ _ _ _ rfl).trans h.state, (get_only_in _ _ _ _ _ rfl).trans h.speed, h.link, h.report.congr rfl⟩
  · rw [Nat.mod_eq_of_lt hx, if_neg (by rw [← Option.not_isSome, hd]; decide)]
    have h := bringUp_ready (s.putPort x { s.port x with linkDown := none }) x f (by show s.get _ _ ≠ _; rw [h5]; decide)
      (by show s.get _ _ ≠ _; rw [h5]; decide) (by show s.get _ _ ≠ _; rw [h5]; decide) ha hl hb
    exact ⟨(get_only_in _ _ _ _ _ rfl).trans h.state, h.link⟩
  · rw [Nat.mod_eq_of_lt hx, get_only_in _ _ _ _ _ rfl]
    refine (get_addSat_same s DRV_PORT_ERR_aer_corr x 1).trans ?_
    omega
  · rw [Nat.mod_eq_of_lt hx, if_neg (by simp; exact ⟨e, he, ht, hl⟩)]
    have hm : ∀ u : State, u = ((s.putPort x { s.port x with cmds := (s.port x).cmds.map fun (d : DrvCmd) =>
        if d.tag = tag then { d with late := true } else d }).addSat DRV_PORT_ERR_timeouts x 1).bump (ctrDrv x 7) →
        u.get DRV_PORT_STATUS_rung x = 0 ∧ Within { parts := [.ctr, .drv], fields := [DRV_PORT_ERR_timeouts] } s u := fun u hu => by
      have w : Within { parts := [.ctr, .drv], fields := [DRV_PORT_ERR_timeouts] } s u := by
        rw [hu]
        exact ((within_drv s _ rfl).trans (within_set _ _ _ _ rfl)).trans (within_bump _ _ _ rfl)
      exact ⟨(w.regs _ _ rfl).trans hr, w⟩
    dsimp only
    generalize State.bump _ (ctrDrv x 7) = u at hm ⊢
    obtain ⟨h0, w⟩ := hm u rfl
    rw [h0, if_neg (by decide)]
    have h := rung_begins u x 1 (by decide)
    refine ⟨(get_only_in _ _ _ _ _ rfl).trans h.rung, (get_only_in _ _ _ _ _ rfl).trans h.state, ?_, ?_⟩
    · exact (h.report.before (w.dtc rfl) (w.evt rfl) fun f i hf => w.regs f i (by
        rw [field_of_other_block _ f i hf (by decide) (by decide)])).congr rfl
    · exact congrArg (· ++ [Out.driveAdmin x (8 + 256 * tag)]) (w.outbox rfl)
  · rw [Nat.mod_eq_of_lt hq.slot, h2, if_neg (by decide), if_pos rfl]
    have h := ladder3_begins s x hq ho hs
    exact ⟨(get_only_in _ _ _ _ _ rfl).trans h.rung, h.report.congr rfl⟩
  · rw [Nat.mod_eq_of_lt hx, if_neg (by simp [h3])]
    have e : ((s.send (.driveAdmin x 2)).putPort x { (s.send (.driveAdmin x 2)).port x with used := u }).driveWarning x 0 =
        (s.send (.driveAdmin x 2)).putPort x { (s.send (.driveAdmin x 2)).port x with used := u } := by
      unfold State.driveWarning
      rfl
    dsimp only
    rw [e]
    exact ⟨(port_putPort (s.send (.driveAdmin x 2)) x x _).trans (if_pos rfl), rfl⟩
  · have w := within_pairReady s h
    have hq' : QuietPort (pairReady s h) x := by
      refine ⟨hq.slot, ?_, ?_⟩
      · rw [State.port, w.drv rfl]
        exact hq.cmds
      · rw [waitingOf_congr (w.tms rfl)]
        exact hq.wait
    have hl' : (pairReady s h).live x = false := by
      rw [State.live, w.regs _ _ rfl]
      exact hl
    have e : (pairReady s h).pairDeliver (.drive (.refused x r)) = (pairReady s h).refuse x r false := by
      show (if (pairReady s h).get DRV_PORT_STATUS_state x = 4 then _ else _) = _
      exact if_neg (by rw [w.regs _ _ rfl]; exact h4)
    obtain ⟨f, fr⟩ := refuse_refused (pairReady s h) x r false hq' hl' fun k => absurd k Bool.false_ne_true
    refine ⟨?_, ?_, ?_⟩
    · show (s.pairRx h (.drive (.refused x r))).pair.rxNext = _
      rw [pairRx_part (·.pair.rxNext) s h _ hs ackDue_rxNext, e]
      exact Eq.trans fr (pairReady_rxNext s h)
    · rw [get_only_in _ _ _ _ _ rfl, pairRx_part (·.get DRV_PORT_STATUS_state x) s h _ hs (fun u => (within_ackDue u).regs _ _ rfl), e]
      exact f.state
    · rw [get_only_in _ _ _ _ _ rfl, pairRx_part (·.get DRV_PORT_STATUS_refuse x) s h _ hs (fun u => (within_ackDue u).regs _ _ rfl), e]
      exact f.reason

end Sys2Proof.Machine
end

section
/-! PROOFS. O30: the frames that keep the mirror (R253 to R256, R320, R321). -/

namespace Sys2Proof.Machine

open F

/-! ## The journal as a frame in sequence finds and leaves it -/

theorem pairReady_jnl (s : State) (h : PairHdr) : (pairReady s h).jnl = s.jnl := (within_pairReady s h).jnl rfl

theorem ackDue_jnl (s : State) : (ackDue s).jnl = s.jnl := (within_ackDue s).jnl rfl

theorem pairRx_jnl (s : State) (h : PairHdr) (m : PairMsg) (hs : InSequence s h) : (s.pairRx h m).jnl = ((pairReady s h).pairDeliver m).jnl :=
  pairRx_part (·.jnl) s h m hs ackDue_jnl

theorem pairRx_rxNext (s : State) (h : PairHdr) (m : PairMsg) (hs : InSequence s h) :
    (s.pairRx h m).pair.rxNext = ((pairReady s h).pairDeliver m).pair.rxNext :=
  pairRx_part (·.pair.rxNext) s h m hs ackDue_rxNext

theorem pairReady_isOwn (s : State) (h : PairHdr) (i : Nat) : (pairReady s h).isOwn i = s.isOwn i := by
  have w := within_pairReady s h
  have e : (pairReady s h).ownPart = s.ownPart := by
    unfold State.ownPart State.pairShelf State.bayB State.partP State.flag
    rw [w.regs _ _ rfl, w.regs _ _ rfl, w.regs _ _ rfl]
  rw [State.isOwn, State.isOwn, e]

/-! ## A block of the partner's part kept and retired -/

/-- The partner's block enters an empty slot of its part that was not retired (R254 to R256). -/
theorem nevePutIn_new (s : State) (i : Nat) (d : NeveDesc) (b : Block) (ho : s.isOwn i = false) (hn : tget s.jnl.slots i = none)
    (hr : i ∉ s.jnl.retired) : (s.nevePutIn i d b).pair.rxNext = s.pair.rxNext ∧ (s.nevePutIn i d b).jnl =
      { s.jnl with stale := s.jnl.stale.filter (· != i), rxNeve := max s.jnl.rxNeve (d.seq + 1),
                   slots := tput s.jnl.slots i { state := .committed, desc := some d, mirror := true, data := b } } := by
  unfold State.nevePutIn
  rw [if_neg (by rw [ho]; decide), hn]
  simp only [Option.any_none, Bool.false_eq_true, if_false, bump_jnl]
  rw [if_neg (by simpa using hr)]
  unfold State.ackMirror
  refine ⟨?_, ?_⟩
  · rw [pairSend_rxNext, (waterCheck_waterW _).pair rfl]
    rfl
  · rw [pairSend_jnl, waterCheck_jnl]

/-- A slot of the partner's part freed (R256). -/
theorem neveRetireIn_one (s : State) (i : Nat) (x : NeveSlot) (ho : s.isOwn i = false) (hx : tget s.jnl.slots i = some x) :
    (s.neveRetireIn [i]).jnl = { s.jnl with slots := tdel s.jnl.slots i } := by
  unfold State.neveRetireIn
  rw [waterCheck_jnl]
  show (if s.isOwn i then s.dataGone i else _).jnl = _
  rw [if_neg (by rw [ho]; decide), hx]

/-- A slot of the partner's part with its data is sent (R255). -/
theorem neveFetchIn_good (s : State) (i : Nat) (x : NeveSlot) (d : NeveDesc) (hx : tget s.jnl.slots i = some x) (hd : x.desc = some d)
    (hok : x.dataOk = true) : s.neveFetchIn i = s.pairSend (.nevePut i d x.data) := by
  unfold State.neveFetchIn
  rw [hx]
  dsimp only
  rw [hd]
  dsimp only
  rw [if_pos hok]

/-! ## A record of the pool master -/

/-- A MAP_SET of one block that is unmapped. -/
theorem firnApply_set (s : State) (ns lba seg off : Nat) (k : Bool) (hl : s.lookup ns lba = .unmapped) (hg : seg ≠ 0xFFFFFF) :
    s.firnApply (.mapSet ns lba 1 seg off k) = (s.noteBlock seg off (.data ns lba k)).mapPut ns lba (.member k seg off) := by
  have hn : (s.noteBlock seg off (.data ns lba k)).lookup ns lba = .unmapped := by
    unfold State.noteBlock
    split
    · exact hl
    · exact hl
  show (s.noteBlock seg (off + 0) (.data ns (lba + 0) k)).applySet ns (lba + 0) seg (off + 0) k = _
  unfold State.applySet
  rw [Nat.add_zero, Nat.add_zero, hn]
  simp only [Bool.false_and, Bool.false_eq_true, if_false, hg]

theorem noteBlock_segs (s : State) (seg off : Nat) (b : SegBlk) :
    ∃ segs, s.noteBlock seg off b = { s with str := { s.str with segs := segs } } := by
  unfold State.noteBlock
  split
  · exact ⟨_, rfl⟩
  · exact ⟨_, rfl⟩

theorem liveUp_segs (s : State) (g : Nat) : ∃ segs, s.liveUp g = { s with str := { s.str with segs := segs } } := by
  unfold State.liveUp
  split
  · exact ⟨_, rfl⟩
  · exact ⟨_, rfl⟩

/-- A block that is unmapped gets its place on members: only its entry, its page and live counts change. -/
theorem mapPut_new (s : State) (ns lba g o : Nat) (k : Bool) (hl : s.lookup ns lba = .unmapped) : ∃ pages segs,
    s.mapPut ns lba (.member k g o) = { s with str := { s.str with map := tput s.str.map (ns, lba) (.member k g o), pages := pages, segs := segs } } := by
  unfold State.mapPut
  rw [hl]
  dsimp only
  obtain ⟨segs, e⟩ := liveUp_segs (State.pageDirty { s with str := { s.str with map := tput s.str.map (ns, lba) (.member k g o) } } ns (pageOf lba)) g
  rw [e]
  exact ⟨_, segs, rfl⟩

theorem firnApply_new (s : State) (ns lba seg off : Nat) (k : Bool) (hl : s.lookup ns lba = .unmapped) (hg : seg ≠ 0xFFFFFF) : ∃ pages segs,
    s.firnApply (.mapSet ns lba 1 seg off k) =
      { s with str := { s.str with map := tput s.str.map (ns, lba) (.member k seg off), pages := pages, segs := segs } } := by
  obtain ⟨segs, e⟩ := noteBlock_segs s seg off (.data ns lba k)
  rw [firnApply_set s ns lba seg off k hl hg, e]
  obtain ⟨pages, l, e⟩ := mapPut_new { s with str := { s.str with segs := segs } } ns lba seg off k hl
  exact ⟨pages, l, e⟩

theorem tget_tput_lookup (s t : State) (ns lba : Nat) (e : MapEnt) (h : t.str.map = tput s.str.map (ns, lba) e) :
    t.lookup ns lba = e ∧ ∀ a b, (a, b) ≠ (ns, lba) → t.lookup a b = s.lookup a b := by
  refine ⟨?_, fun a b hab => ?_⟩
  · rw [State.lookup, h]
    exact tgetD_of_some _ (tget_tput_same _ _ _)
  · unfold State.lookup tgetD
    rw [h, tget_tput_other _ _ (Ne.symm hab)]

theorem mapRecorded_none (s : State) (ns lba n q : Nat) (hw : s.jnl.writes = []) : s.mapRecorded ns lba n q = s := by
  unfold State.mapRecorded State.writesCheck
  rw [hw]
  have e : ({ s.jnl with writes := [] } : Jnl) = s.jnl := by rw [← hw]
  show ({ s with jnl := { s.jnl with writes := [] } } : State) = s
  rw [e]

/-- A committed MAP_SET that no switch, slot or write waits for. -/
theorem firnCommit_set (s : State) (r : FirnRec) (ns lba n seg off : Nat) (k : Bool) (hr : r.body = .mapSet ns lba n seg off k)
    (hsw : s.str.switches = []) (hsl : s.jnl.slots = []) (hw : s.jnl.writes = []) :
    ∃ pages, s.firnCommit r = { s with str := { s.str with pages := pages } } := by
  have e : s.slotsAt ns lba n seg off = [] := by rw [State.slotsAt, hsl]; rfl
  have d : s.switchDone seg off = s := by rw [State.switchDone, hsw]; rfl
  unfold State.firnCommit
  rw [hr]
  dsimp only
  rw [d, e]
  exact ⟨_, mapRecorded_none (s.pageSeq ns lba r.seq) ns lba n r.seq hw⟩

/-- A floor below every record takes none (R219). -/
theorem firnFloorIn_below (s : State) (q : Nat) (h : ∀ e ∈ s.jnl.tail, q < e.seq + firnSpan e.body) : s.firnFloorIn q = s := by
  have e0 : s.jnl.tail.filter (fun e => decide (e.seq + firnSpan e.body ≤ q)) = [] :=
    List.filter_eq_nil_iff.mpr fun e he => by simpa using h e he
  have e1 : s.jnl.tail.filter (fun e => !decide (e.seq + firnSpan e.body ≤ q)) = s.jnl.tail :=
    List.filter_eq_self.mpr fun e he => by simpa using h e he
  unfold State.firnFloorIn
  dsimp only
  rw [e0, e1, List.append_nil]
  rfl

/-- No cold block waits to be placed. -/
theorem coldDrain_none (s : State) (h : s.str.cold = []) : s.coldDrain = s := by
  have e : ({ s.str with cold := [] } : Str) = s.str := by rw [← h]
  show ({ s with str := { s.str with cold := [] } } : State).each s.str.cold _ = s
  rw [h, e]
  rfl

/-- The pool master's MAP_SET of an unmapped block as it is taken: the record in the tail, the block's entry named (R320, R321). -/
theorem firnTaken_set (s : State) (r : FirnRec) (ns lba seg off : Nat) (k : Bool) (hsw : s.str.switches = []) (hcold : s.str.cold = [])
    (hr : r.body = .mapSet ns lba 1 seg off k) (hg : seg ≠ 0xFFFFFF) (hl : s.lookup ns lba = .unmapped)
    (hsl : s.jnl.slots = []) (hw : s.jnl.writes = []) : ∃ v : State, ((s.firnApply r.body).noteCheckpoint r).firnCommit r = v ∧ v.pair = s.pair ∧
      v.jnl = s.jnl ∧ v.str.cold = [] ∧ v.str.map = tput s.str.map (ns, lba) (.member k seg off) := by
  obtain ⟨pages, segs, e1⟩ := firnApply_new s ns lba seg off k hl hg
  have e2 : ∀ v : State, v.noteCheckpoint r = v := fun v => by rw [State.noteCheckpoint, hr]
  rw [e2, hr, e1]
  obtain ⟨p2, e3⟩ := firnCommit_set
    { s with str := { s.str with map := tput s.str.map (ns, lba) (.member k seg off), pages := pages, segs := segs } } r ns lba 1 seg off k hr hsw hsl hw
  exact ⟨_, e3, rfl, rfl, hcold, rfl⟩

/-- The frame of that record: its acknowledgement follows (R254). -/
theorem firnPutIn_set (s : State) (r : FirnRec) (ns lba seg off floor : Nat) (k : Bool) (hn : ∀ e ∈ s.jnl.tail, e.seq ≠ r.seq)
    (hf : ∀ e ∈ s.jnl.tail ++ [r], floor < e.seq + firnSpan e.body) (hsw : s.str.switches = []) (hcold : s.str.cold = [])
    (hreq : s.jnl.reqs = []) (hr : r.body = .mapSet ns lba 1 seg off k) (hg : seg ≠ 0xFFFFFF) (hl : s.lookup ns lba = .unmapped)
    (hsl : s.jnl.slots = []) (hw : s.jnl.writes = []) :
    ∃ v : State, s.firnPutIn [r] floor = v.ackMirror ∧ v.pair = s.pair ∧ v.jnl.tail = s.jnl.tail ++ [r] ∧
      v.jnl.rxFirn = max s.jnl.rxFirn (r.seq + 1) ∧ v.str.map = tput s.str.map (ns, lba) (.member k seg off) := by
  have ha : s.jnl.tail.any (fun t => t.seq = r.seq) = false := by simpa using hn
  obtain ⟨v, e, hp, hj, hc, hm⟩ := firnTaken_set
    { s.set JNL_FIRN_SEQ_next_seq 0 (max (s.get JNL_FIRN_SEQ_next_seq) (r.seq + firnSpan r.body)) with
      jnl := { s.jnl with tail := s.jnl.tail ++ [r], reqs := [] } } r ns lba seg off k hsw hcold hr hg hl hsl hw
  have hspan : firnSpan r.body = 1 := by rw [hr]; rfl
  have e0 : s.firnPutIn [r] floor = ((({ v with jnl := { v.jnl with rxFirn := max v.jnl.rxFirn (r.seq + firnSpan r.body) } } : State).firnFloorIn
      floor).coldDrain).ackMirror := by
    rw [← e]
    unfold State.firnPutIn
    simp only [State.each, List.foldl_cons, List.foldl_nil, ha, Bool.false_eq_true, if_false, hreq, set_jnl, List.contains_nil, List.filter_nil,
      List.isEmpty_cons]
  rw [e0, firnFloorIn_below _ _ (by rw [hj]; exact hf), coldDrain_none _ (by exact hc)]
  exact ⟨_, rfl, hp, by rw [hj], by rw [hj, hspan], hm⟩

/-! ## An acknowledgement of the mirror -/

/-- The completion of a command fetched here changes nothing but the queues. -/
theorem Running.completes_only (s : State) (c : Nat) (x : Cmd) (q : Qp) (st : Status) (a b : Word32) (h : Running s c x q) :
    ∃ v, s.complete c st a b = { s with qpe := v } := by
  unfold State.complete
  rw [h.cmd]
  dsimp only
  rw [if_neg h.open_, h.here]
  dsimp only
  rw [h.qp]
  dsimp only
  rw [if_neg (by simp [h.live, h.ring])]
  exact ⟨_, rfl⟩

/-- A write whose last block the partner acknowledges completes, and its job ends (R114, R254). -/
theorem writesCheck_last (s : State) (c : Nat) (w : WJob) (x : Cmd) (q : Qp) (hs : Running s c x q) (hw : s.jnl.writes = [(c, w)])
    (hm : s.writeMet w = true) (ha : w.acked = false) (hd : w.done.length = w.blocks.length) :
    s.writesCheck = { s.complete c St.ok with jnl := { s.jnl with writes := [] } } := by
  obtain ⟨v, hv⟩ := hs.completes_only s c x q St.ok 0 0
  have e : tget s.jnl.writes c = some w := by rw [hw]; exact tget_cons _ _ _ _ |>.trans (if_pos rfl)
  unfold State.writesCheck
  rw [hw]
  show s.writeCheck c = _
  unfold State.writeCheck
  rw [e]
  dsimp only
  rw [ha, hm]
  simp only [Bool.not_false, Bool.and_self, if_true, hd]
  have hj : (s.complete c St.ok).jnl = s.jnl := by rw [hv]
  rw [hj, hw]
  simp [tdel]

/-- The acknowledgement that passes the last block of the one write that waits (R114, R254). -/
theorem mirrorAckIn_last (s : State) (a f c : Nat) (w : WJob) (x : Cmd) (q : Qp) (ht : s.jnl.tail = [])
    (ha : a < 2 ^ JNL_MIRROR_STATUS_acked_seq.w) (hle : s.get JNL_MIRROR_STATUS_acked_seq ≤ a) (hw : s.jnl.writes = [(c, w)])
    (hm : w.mode = 0) (hk : w.acked = false) (hd : w.done.length = w.blocks.length) (hall : ∀ e ∈ w.done, e.2.1 < a) (hs : Running s c x q) :
    ∃ v : Qpe, s.mirrorAckIn a f = { s.set JNL_MIRROR_STATUS_acked_seq 0 a with
        qpe := v, jnl := { s.jnl with ackedFirn := max s.jnl.ackedFirn f, writes := [] } } ∧ ∀ t : State, t.qpe = v → Completes t c St.ok := by
  have hg : (s.set JNL_MIRROR_STATUS_acked_seq 0 a).get JNL_MIRROR_STATUS_acked_seq = a :=
    (get_set_same _ _ _ _).trans (Nat.mod_eq_of_lt ha)
  generalize hu : ({ s.set JNL_MIRROR_STATUS_acked_seq 0 a with jnl := { s.jnl with ackedFirn := max s.jnl.ackedFirn f } } : State) = u
  have e : s.mirrorAckIn a f = u.writesCheck.commitAll := by
    unfold State.mirrorAckIn
    rw [max_eq_left hle]
    have hif : ∀ (v : State) (l : List FirnRec), l = [] → (if v.mirrored = true then v.each l State.firnCommit else v) = v := by
      rintro v _ rfl
      split
      · rfl
      · rfl
    rw [← hu]
    refine congrArg (fun v : State => v.writesCheck.commitAll) (hif _ _ ?_)
    show List.filter _ s.jnl.tail = []
    rw [ht]
    rfl
  have hr : Running u c x q := hs.of_qpe (by rw [← hu]; rfl) (by rw [← hu]; rfl)
  have hmet : u.writeMet w = true := by
    unfold State.writeMet
    rw [hm]
    have : u.get JNL_MIRROR_STATUS_acked_seq = a := by rw [← hu]; exact hg
    rw [this]
    simpa [hd] using hall
  rw [e, writesCheck_last u c w x q hr (by rw [← hu]; exact hw) hmet hk hd]
  obtain ⟨v, hv⟩ := hr.completes_only u c x q St.ok 0 0
  refine ⟨v, ?_, ?_⟩
  · rw [hv, ← hu]
    rfl
  · exact fun t ht => hr.completes_of_qpe _ _ _ (by rw [ht, hv])

/-! ## The family -/

theorem pairSend_moves (s : State) (m : PairMsg) : (s.pairSend m).pair.moves = s.pair.moves := by
  unfold State.pairSend
  split
  · rfl
  · simp

theorem ackDue_kept (s : State) : (ackDue s).pair.kept = s.pair.kept := by
  obtain ⟨n, h⟩ := ackDue_pair s
  rw [h]

theorem moveStep_none (s : State) (h : s.pair.moves = []) : s.moveStep = s := by rw [State.moveStep, h]

theorem pairReady_moves (s : State) (h : PairHdr) : (pairReady s h).pair.moves = s.pair.moves := by
  obtain ⟨_, _, _, _, e⟩ := pairReady_pair s h
  rw [e]

/-- Settles O30: what each frame of the mirror does in sequence, read off the delivery in the state that the link's bookkeeping gives. -/
theorem mirrorFrames : Obligations.MirrorFrames := by
  unfold Obligations.MirrorFrames
  refine ⟨fun s h i d b hs ho hn hr => ?_, fun s h r ns lba seg off floor k hs hmv hseq hfl hsw hcold hreq hr hg hl hsl hw => ?_,
    fun s h a f c w x q hs hmv hre htl ha hle hw hm hk hd hall hx => ?_, fun s h i x hs ho hx => ?_, fun s h i x d hs hx hd hok => ?_⟩
  · refine ⟨_, rfl, ?_⟩
    obtain ⟨hp, hj⟩ := nevePutIn_new (pairReady s h) i d b (by rw [pairReady_isOwn, ho]) (by rw [pairReady_jnl, hn]) (by rw [pairReady_jnl]; exact hr)
    rw [pairReady_jnl] at hj
    have e : (s.pairRx h (.nevePut i d b)).jnl = _ := (pairRx_jnl s h _ hs).trans hj
    show (s.pairRx h (.nevePut i d b)).pair.rxNext = _ ∧ tget (s.pairRx h (.nevePut i d b)).jnl.slots i = _ ∧
      (s.pairRx h (.nevePut i d b)).jnl.rxNeve = _ ∧ ∀ j, j ≠ i → tget (s.pairRx h (.nevePut i d b)).jnl.slots j = _
    rw [pairRx_rxNext s h _ hs, e]
    exact ⟨hp.trans (pairReady_rxNext s h), tget_tput_same _ _ _, rfl, fun j hj => tget_tput_other _ _ (Ne.symm hj)⟩
  · refine ⟨_, rfl, ?_⟩
    have w := within_pairReady s h
    have hstr : (pairReady s h).str = s.str := w.str rfl
    have hj := pairReady_jnl s h
    obtain ⟨v, e, hp, htail, hrx, hmap⟩ := firnPutIn_set (pairReady s h) r ns lba seg off floor k (by rw [hj]; exact hseq) (by rw [hj]; exact hfl)
      (by rw [hstr, hsw]) (by rw [hstr, hcold]) (by rw [hj, hreq]) hr hg (by rw [State.lookup, hstr]; exact hl) (by rw [hj, hsl]) (by rw [hj, hw])
    have hmoves : v.ackMirror.pair.moves = [] := by
      unfold State.ackMirror
      rw [pairSend_moves, hp, pairReady_moves, hmv]
    have d : (pairReady s h).pairDeliver (.firnPut [r] floor) = v.ackMirror := by
      show ((pairReady s h).firnPutIn [r] floor).moveStep = _
      rw [e, moveStep_none _ hmoves]
    have hjnl : (s.pairRx h (.firnPut [r] floor)).jnl = v.jnl := by
      rw [pairRx_jnl s h _ hs, d, State.ackMirror, pairSend_jnl]
    have hst : (s.pairRx h (.firnPut [r] floor)).str = v.str := by
      rw [pairRx_part (·.str) s h _ hs fun u => (within_ackDue u).str rfl, d]
      exact (pairSend_pairW _ _).str rfl
    rw [hj] at htail hrx
    rw [hstr] at hmap
    have hlook := tget_tput_lookup s (s.pairRx h (.firnPut [r] floor)) ns lba (.member k seg off) (by rw [hst, hmap])
    exact ⟨(congrArg Jnl.tail hjnl).trans htail, hlook.1, (congrArg Jnl.rxFirn hjnl).trans hrx, hlook.2⟩
  · refine ⟨_, rfl, ?_⟩
    have wr := within_pairReady s h
    have hj := pairReady_jnl s h
    obtain ⟨v, e, hc⟩ := mirrorAckIn_last (pairReady s h) a f c w x q (by rw [hj, htl]) ha (by rw [wr.regs _ _ rfl]; exact hle) (by rw [hj, hw])
      hm hk hd hall (hx.of_qpe (congrArg Qpe.cmds (wr.qpe rfl)) (congrArg Qpe.qps (wr.qpe rfl)))
    rw [hj] at e
    have d : (pairReady s h).pairDeliver (.mirrorAck a f) = (pairReady s h).mirrorAckIn a f := by
      show (((pairReady s h).mirrorAckIn a f).pairedCheck).moveStep = _
      have hp : ((pairReady s h).mirrorAckIn a f).pairedCheck = (pairReady s h).mirrorAckIn a f := by
        have hn : ((pairReady s h).mirrorAckIn a f).resyncPassed = false := by
          rw [State.resyncPassed, e, hre]
        rw [State.pairedCheck, hn]
        rfl
      rw [hp, moveStep_none _ (by rw [e]; exact (pairReady_moves s h).trans hmv)]
    have hqpe : (s.pairRx h (.mirrorAck a f)).qpe = v := by
      rw [pairRx_part (·.qpe) s h _ hs fun u => (within_ackDue u).qpe rfl, d, e]
    have hjnl : (s.pairRx h (.mirrorAck a f)).jnl = { s.jnl with ackedFirn := max s.jnl.ackedFirn f, writes := [] } := by
      rw [pairRx_jnl s h _ hs, d, e]
    have hget : (s.pairRx h (.mirrorAck a f)).get JNL_MIRROR_STATUS_acked_seq = a := by
      rw [pairRx_part (·.get JNL_MIRROR_STATUS_acked_seq) s h _ hs fun u => (within_ackDue u).regs _ _ rfl, d, e]
      exact (get_set_same (pairReady s h) JNL_MIRROR_STATUS_acked_seq 0 a).trans (Nat.mod_eq_of_lt ha)
    exact ⟨(get_only_in _ _ _ _ _ rfl).trans hget, congrArg Jnl.ackedFirn hjnl, hc _ hqpe, congrArg Jnl.writes hjnl⟩
  · refine ⟨_, rfl, ?_⟩
    have e : (s.pairRx h (.neveRetire [i])).jnl = { s.jnl with slots := tdel s.jnl.slots i } := by
      rw [pairRx_jnl s h _ hs]
      exact (neveRetireIn_one (pairReady s h) i x (by rw [pairReady_isOwn, ho]) (by rw [pairReady_jnl, hx])).trans (by rw [pairReady_jnl])
    show tget (s.pairRx h (.neveRetire [i])).jnl.slots i = none ∧ ∀ j, j ≠ i → tget (s.pairRx h (.neveRetire [i])).jnl.slots j = _
    rw [e]
    exact ⟨tget_tdel_same _ _, fun j hj => tget_tdel_other _ (Ne.symm hj)⟩
  · refine ⟨_, rfl, ?_⟩
    have e : (pairReady s h).pairDeliver (.neveFetch i) = (pairReady s h).pairSend (.nevePut i d x.data) :=
      neveFetchIn_good _ i x d (by rw [pairReady_jnl, hx]) hd hok
    obtain ⟨dn, kept, on, un, hp⟩ := pairReady_pair s h
    have hk : (s.pairRx h (.neveFetch i)).pair.kept = ((pairReady s h).pairSend (.nevePut i d x.data)).pair.kept := by
      rw [pairRx_part (·.pair.kept) s h _ hs ackDue_kept, e]
    have hj : (s.pairRx h (.neveFetch i)).jnl = s.jnl := by
      rw [pairRx_jnl s h _ hs, e, pairSend_jnl, pairReady_jnl]
    refine ⟨?_, hj⟩
    show _ ∈ (s.pairRx h (.neveFetch i)).pair.kept
    have := pairSend_kept (pairReady s h) (.nevePut i d x.data) (by rw [hp]; exact hs.active)
    rw [hk]
    rwa [show (pairReady s h).pair.txNext = s.pair.txNext by rw [hp]] at this

end Sys2Proof.Machine
end

section
/-! PROOFS. O38: what the partner asks for (R320 to R323, R336 to R338, R435), and moves. -/

namespace Sys2Proof.Machine

open F

/-! ## A MAP_SET asked for (R321) -/

/-- Blocks of a segment that hold Firn records from a number on. -/
def segRecBlocks (q : Nat) (g : Seg) : Nat := (g.blocks.filter fun e => match e.2 with
  | .md (.firn f n) => decide (q < f + n)
  | _ => false).length

theorem firnBlocksFrom_eq (s : State) (q : Nat) : s.firnBlocksFrom q = (s.str.segs.map fun e => segRecBlocks q e.2).sum := rfl

theorem sum_tput_le {κ α : Type} [DecidableEq κ] (n : α → Nat) (l : Table κ α) (k : κ) (v w : α) (hk : tget l k = some w) (h : n v ≤ n w) :
    ((tput l k v).map fun e => n e.2).sum ≤ (l.map fun e => n e.2).sum := by
  induction l with
  | nil => cases hk
  | cons e l ih =>
    obtain ⟨k', v'⟩ := e
    rw [tget_cons] at hk
    unfold tput
    by_cases hkk : k' = k
    · rw [if_pos hkk] at hk ⊢
      cases hk
      simpa using h
    · rw [if_neg hkk] at hk ⊢
      simpa using ih hk

/-- A data block written over another adds no block of records. -/
theorem filter_tput_le {κ α : Type} [DecidableEq κ] (p : κ × α → Bool) (l : Table κ α) (k : κ) (v : α) (h : p (k, v) = false) :
    ((tput l k v).filter p).length ≤ (l.filter p).length := by
  induction l with
  | nil => simp [tput, h]
  | cons e l ih =>
    obtain ⟨k', v'⟩ := e
    unfold tput
    by_cases hkk : k' = k
    · rw [if_pos hkk]
      simp only [List.filter_cons, h, Bool.false_eq_true, if_false]
      split <;> simp
    · rw [if_neg hkk]
      simp only [List.filter_cons]
      split
      · simpa using ih
      · exact ih

theorem liveUp_firnBlocks (s : State) (i q : Nat) : (s.liveUp i).firnBlocksFrom q ≤ s.firnBlocksFrom q := by
  unfold State.liveUp
  split
  · exact le_refl _
  · next g hg => exact sum_tput_le (segRecBlocks q) _ _ _ g hg (le_refl _)

theorem noteBlock_firnBlocks (s : State) (i off q ns lba : Nat) (k : Bool) :
    (s.noteBlock i off (.data ns lba k)).firnBlocksFrom q ≤ s.firnBlocksFrom q := by
  unfold State.noteBlock
  split
  · exact le_refl _
  · show (((tmod s.str.segs i fun g => { g with blocks := tput g.blocks off (.data ns lba k) }) : Table Nat Seg).map fun e => segRecBlocks q e.2).sum ≤ _
    unfold tmod
    split
    · next g hg => exact sum_tput_le (segRecBlocks q) _ _ _ g hg (filter_tput_le _ _ _ _ rfl)
    · exact le_refl _

/-- A MAP_SET of an unmapped block adds nothing to what a replay reads. -/
theorem firnApply_firnBlocks (s : State) (ns lba seg off q : Nat) (k : Bool) (hl : s.lookup ns lba = .unmapped) (hg : seg ≠ 0xFFFFFF) :
    (s.firnApply (.mapSet ns lba 1 seg off k)).firnBlocksFrom q ≤ s.firnBlocksFrom q := by
  rw [firnApply_set s ns lba seg off k hl hg]
  have hn : (s.noteBlock seg off (.data ns lba k)).lookup ns lba = .unmapped := by
    obtain ⟨segs, e⟩ := noteBlock_segs s seg off (.data ns lba k)
    rw [e]
    exact hl
  have h1 := noteBlock_firnBlocks s seg off q ns lba k
  unfold State.mapPut
  rw [hn]
  dsimp only
  exact (liveUp_firnBlocks _ seg q).trans h1

/-- A MAP_SET waits for no other reason than the tail, the replay and what waits before it. -/
theorem appendWaits_set (s t : State) (ns lba n seg off : Nat) (k : Bool) (hj : t.jnl = s.jnl) (hr : t.get JNL_FIRN_CFG_replay_limit_gib = s.get JNL_FIRN_CFG_replay_limit_gib)
    (hb : t.firnBlocksFrom t.replayStart ≤ s.firnBlocksFrom t.replayStart) (h : s.appendWaits (.mapSet ns lba n seg off k) = false) :
    t.appendWaits (.mapSet ns lba n seg off k) = false := by
  have hs : t.replayStart = s.replayStart := by rw [State.replayStart, State.replayStart, hj]
  have hl : t.replayLimit = s.replayLimit := by rw [State.replayLimit, State.replayLimit, hr]
  have ht : t.tailFull = s.tailFull := by rw [State.tailFull, State.tailFull, State.tailBlocks, State.tailBlocks, hj]
  have hle : t.replayBytes ≤ s.replayBytes := by
    unfold State.replayBytes
    rw [hs] at hb ⊢
    omega
  unfold State.appendWaits State.compactionRec State.headRec at h ⊢
  simp only [Bool.not_false, Bool.true_and, Bool.or_false, Bool.or_eq_false_iff, decide_eq_false_iff_not] at h ⊢
  rw [ht, hl, hj]
  obtain ⟨h1, h2, h3⟩ := h
  exact ⟨h1, by omega, h3⟩

/-- The pool master appends the MAP_SET that the partner asks for; the mirrored record waits for the partner's acknowledgement. -/
theorem firnReqIn_set (s : State) (o ns lba seg off : Nat) (k : Bool) (hm : s.isMaster = true) (hw : s.appendWaits (.mapSet ns lba 1 seg off k) = false)
    (hmir : s.mirrored = true) (hl : s.lookup ns lba = .unmapped) (hg : seg ≠ 0xFFFFFF) :
    (s.firnReqIn o (.mapSet ns lba 1 seg off k)).str.map = tput s.str.map (ns, lba) (.member k seg off) ∧
      (s.firnReqIn o (.mapSet ns lba 1 seg off k)).jnl.tail = s.jnl.tail ++ [⟨s.get JNL_FIRN_SEQ_next_seq, o, .mapSet ns lba 1 seg off k⟩] := by
  have hb := firnApply_firnBlocks s ns lba seg off
  obtain ⟨pages, segs, e⟩ := firnApply_new s ns lba seg off k hl hg
  unfold State.firnReqIn
  rw [if_neg (by rw [hm]; decide)]
  dsimp only
  generalize hv : s.firnApply (.mapSet ns lba 1 seg off k) = v at e hb
  have hj : v.jnl = s.jnl := by rw [e]
  have hr : ∀ f i, v.get f i = s.get f i := fun f i => by rw [e]; rfl
  have hvm : v.isMaster = true := by
    unfold State.isMaster State.pairShelf State.flag at hm ⊢
    rw [hr, hr]
    exact hm
  obtain ⟨u, q, wu, huj, hq, happ⟩ := firnAppend_master v o (.mapSet ns lba 1 seg off k) hvm
    (appendWaits_set s v ns lba 1 seg off k hj (hr _ _) (by rw [← hv]; exact hb _ _ hl hg) hw)
  have hen : u.firnEnter ⟨q, o, stampSeal q (.mapSet ns lba 1 seg off k)⟩ = u := rfl
  have hmu : u.mirrored = true := by
    unfold State.mirrored at hmir ⊢
    rw [wu.regs _ _ rfl, hr]
    exact hmir
  rw [happ, hen, if_pos hmu]
  refine ⟨?_, ?_⟩
  · rw [wu.str rfl, e]
  · rw [huj, hj, hq, hr]
    rfl

/-! ## Owners (R336) -/

theorem within_locAnnounce (s : State) (i : Nat) :
    Within { parts := [.ctr, .hkt, .tms, .swc, .fwd, .freeCtr], fields := cells } s (s.locAnnounce i) := by
  unfold State.locAnnounce
  split
  · exact .refl _ _
  · exact within_ite _ (fun _ => (within_fwd s _ rfl).trans (within_originate _ _ _ _)) fun _ =>
      within_ite _ (fun _ => within_originate _ _ _ _) fun _ => .refl _ _

theorem owned_congr {s t : State} (h : t.get GLB_IDENT_module_id = s.get GLB_IDENT_module_id) (n : Ns) : t.owned n = s.owned n := by
  rw [State.owned, State.owned, State.moduleId, State.moduleId, h]

/-- A namespace passes to this module with the generation given; its held commands go on here. -/
theorem ownerIn_after (s : State) (i g : Nat) (n : Ns) (hn : s.ns i = some n) :
    (s.ownerIn i g).pair = s.pair ∧ (s.ownerIn i g).ns i = some { n with ownerId := s.moduleId, gen := g } := by
  unfold State.ownerIn
  rw [hn]
  dsimp -zeta only
  extract_lets _ t
  have ht : t.ns i = some { n with ownerId := s.moduleId, gen := g } := tget_tput_same _ _ _
  have hw : Within { parts := [.ctr, .hkt, .tms, .swc, .fwd, .freeCtr], fields := cells } t (if t.moduleId = n.creator then t else t.locAnnounce i) :=
    within_ite _ (fun _ => .refl _ _) fun _ => within_locAnnounce _ _
  generalize (if t.moduleId = n.creator then t else t.locAnnounce i) = u at hw ⊢
  have hu : u.ns i = some { n with ownerId := s.moduleId, gen := g } := by rw [State.ns, hw.nsm rfl]; exact ht
  have ho : u.owned { n with ownerId := s.moduleId, gen := g } = true := by
    rw [owned_congr (hw.regs _ _ rfl)]
    exact decide_eq_true rfl
  have e : u.releaseHeld i = u.unhold i := by
    unfold State.releaseHeld
    rw [hu]
    dsimp only
    rw [if_pos ho]
  rw [e]
  exact ⟨(hw.pair rfl : u.pair = t.pair), hu⟩

/-! ## Forwarded commands (R337) -/

theorem readyCheck_congr {s t : State} (n : Ns) (e : Sqe) (hk : t.key = s.key) (hc : t.cip = s.cip) (h1 : e.opcode ≠ 1) (h19 : e.opcode ≠ 0x19)
    (hg : t.get KEY_STATUS_state = s.get KEY_STATUS_state) : t.readyCheck n e = s.readyCheck n e := by
  unfold State.readyCheck State.classDown State.lanesOf
  rw [hk, hc, hg]
  simp [h1, h19]

theorem qpeStatus_qpe (s : State) : s.qpeStatus.qpe = s.qpe := rfl

theorem qpeStatus_get (s : State) (f : Fld) (i : Nat) (h1 : (QPE_STATUS_cmds_in_flight.reg, QPE_STATUS_cmds_in_flight.lo) ≠ (f.reg, f.lo))
    (h2 : (QPE_STATUS_qps_in_use.reg, QPE_STATUS_qps_in_use.lo) ≠ (f.reg, f.lo)) : s.qpeStatus.get f i = s.get f i :=
  (get_set_field _ _ _ _ h2).trans (get_set_field _ _ _ _ h1)

/-- A forwarded command other than Write and Copy that its namespace's owner may carry out starts there. -/
theorem fwdCmdIn_starts (s : State) (f : FwdCmd) (n : Ns) (hn : s.ns f.ns = some n) (ho : s.owned n = true)
    (hp : tgetD s.nsm.pending (f.owner, f.ns) 0 = 0) (hr : s.readyCheck n (fwdSqe f (nsidOf f.ns n)) = none) (h1 : f.opcode ≠ 1)
    (h19 : f.opcode ≠ 0x19) (hc : s.cmd s.qpe.nextCmd = none) :
    ∃ x, (s.fwdCmdIn f).cmd s.qpe.nextCmd = some x ∧ x.phase = .started ∧ x.remote = some f.id ∧ x.ns = some f.ns ∧ x.issuer = some f.owner := by
  unfold State.fwdCmdIn
  rw [hn]
  dsimp -zeta only
  extract_lets c e x _ t pend
  have hto : t.owned n = true := by
    rw [owned_congr (s := s)]
    · exact ho
    · exact qpeStatus_get _ _ _ (by decide) (by decide)
  have hpend : pend = 0 := hp
  have htr : t.readyCheck n e = none := by
    exact (readyCheck_congr (s := s) (t := t) n e rfl rfl h1 h19 (qpeStatus_get _ _ _ (by decide) (by decide))).trans hr
  have htc : t.cmd c = some x := by
    show tget (s.qpe.cmds ++ [(c, x)]) c = some x
    exact tget_snoc hc
  rw [if_neg (by rw [hto]; decide), if_neg (by rw [hpend]; decide), htr]
  dsimp only
  rw [if_neg (by simp [h1, h19])]
  refine ⟨{ x with phase := .started, startAt := t.dtc }, ?_, rfl, rfl, rfl, rfl⟩
  rw [cmd_modCmd_same, htc]
  rfl

/-- A forwarded write takes its ciphertext. -/
theorem fwdDataIn_taken (s : State) (id b c : Nat) (g : Bool) (v : Block) (x : Cmd)
    (hf : s.qpe.cmds.find? (fun e => e.2.remote = some id && e.2.sqe.opcode = 1 && e.2.phase != .done) = some (c, x)) (hx : s.cmd c = some x)
    (hb : x.begun = false) : (s.fwdDataIn id b (.cipher g v)).cmd c = some { x with data := tput x.data b v, fwdKgen := g } := by
  unfold State.fwdDataIn
  rw [hf]
  dsimp only
  rw [if_neg (by rw [hb]; decide), cmd_modCmd_same, hx]
  rfl

/-- The partner's last answer for a forwarded command completes it. -/
theorem fwdDoneIn_completes (s : State) (c : Nat) (st : Status) (a b : Word32) (x : Cmd) (q : Qp) (h : Running s c x q) (hf : x.forwarded = true)
    (hp : x.phase = .started) (hl : x.fwdLeft = 0) (ho : x.sqe.opcode ≠ 2) : Completes (s.fwdDoneIn c st a b) c st a b := by
  unfold State.fwdDoneIn
  rw [h.cmd]
  dsimp only
  rw [if_neg (by simp [hp]), if_neg (by simp [hl]), if_neg (by simp [hf]), if_neg (by simp [ho])]
  have w := dropStages_swc s c
  exact Running.complete_completes (h.of_qpe (congrArg Qpe.cmds (w.qpe rfl)) (congrArg Qpe.qps (w.qpe rfl))) st a b

/-! ## Slots handed over (R435) -/

/-- A powered slot that the partner released is this module's, which tells it so. -/
theorem slotTake_on (s : State) (x : Nat) (c : ChanState) (hc : c.state = 4) (ha : s.pair.active = true) :
    (s.slotTake x c).slotOwner x = true ∧ (s.slotTake x c).get SLT_CH_STATUS_state x = 4 ∧ (s.slotTake x c).get SLT_CH_STATUS_pg x = 1 ∧
      ((s.slotTake x c).slot x).gate = true ∧ (s.pair.txNext, PairMsg.slotTaken x) ∈ (s.slotTake x c).pair.kept := by
  obtain ⟨u, hs, hp, hu, e⟩ : ∃ u : State, (u.slot x).gate = true ∧ u.pair = s.pair ∧ (u.get SLT_CH_STATUS_owner x = 1 ∧ u.get SLT_CH_STATUS_state x = 4) ∧
      s.slotTake x c = (((u.set SLT_CH_STATUS_pg x 1).enter (ctrSlt x 1)).pairSend (.slotTaken x)).raise EV_SLT_HANDOVER 2 x := by
    unfold State.slotTake
    rw [hc]
    refine ⟨_, ?_, ?_, ?_, rfl⟩
    · exact (congrArg Slot.gate (slot_putSlot_same s x _) :)
    · rfl
    · exact ⟨(get_set_field _ _ _ _ (by decide)).trans (get_set_same _ _ _ _),
        (get_set_field _ _ _ _ (by decide)).trans ((get_set_field _ _ _ _ (by decide)).trans
          ((get_set_field _ _ _ _ (by decide)).trans (get_set_same _ _ _ _)))⟩
  have hv : ∀ f, (SLT_CH_STATUS_pg.reg, SLT_CH_STATUS_pg.lo) ≠ (f.reg, f.lo) → (s.slotTake x c).get f x = u.get f x := by
    intro f hf
    rw [e, get_raise, (pairSend_pairW _ _).regs _ _ rfl, get_enter]
    exact get_set_field _ _ _ _ hf
  have hg : (s.slotTake x c).get SLT_CH_STATUS_pg x = 1 := by
    rw [e, get_raise, (pairSend_pairW _ _).regs _ _ rfl, get_enter]
    exact get_set_same _ _ _ _
  have hsl : (s.slotTake x c).slt = u.slt := by
    rw [e, raise_slt, (pairSend_pairW _ _).slt rfl, enter_slt]
    rfl
  refine ⟨decide_eq_true ((hv _ (by decide)).trans hu.1), (hv _ (by decide)).trans hu.2, hg, ?_, ?_⟩
  · rw [slot_congr hsl]
    exact hs
  · rw [e, raise_pair]
    have hpp : ((u.set SLT_CH_STATUS_pg x 1).enter (ctrSlt x 1)).pair = s.pair := by
      rw [enter_pair]
      exact hp
    have := pairSend_kept ((u.set SLT_CH_STATUS_pg x 1).enter (ctrSlt x 1)) (.slotTaken x) (by rw [hpp]; exact ha)
    rwa [hpp] at this

/-- A leaving slot that the partner took is no longer this module's: its outputs are off. -/
theorem slotTaken_left (s : State) (x : Nat) (h : (s.slot x).leaving = true) : (s.slotTaken x).slotOwner x = false ∧
    (s.slotTaken x).slot x = { s.slot x with gate := false, aux := false, pwrdis := false, leaving := false } := by
  have e : s.slotTaken x = ((s.putSlot x { s.slot x with gate := false, aux := false, pwrdis := false, leaving := false }).set
      SLT_CH_STATUS_owner x 0).raise EV_SLT_HANDOVER 2 x := by
    unfold State.slotTaken
    rw [if_neg (by rw [h]; decide)]
  have hg : (s.slotTaken x).get SLT_CH_STATUS_owner x = 0 := by
    rw [e, get_raise]
    exact get_set_same _ _ _ _
  refine ⟨by rw [State.slotOwner, State.flag, hg]; rfl, ?_⟩
  rw [e, slot_congr (raise_slt _ _ _ _ _)]
  exact slot_putSlot_same s x _

/-! ## Moves (R336) -/

/-- Which namespaces wait to move, and which of them have their record. -/
def State.movesNamed (s : State) : List (Nat × Bool) := s.pair.moves.map fun m => (m.ns, m.recorded)

theorem movesNamed_congr {s t : State} (h : t.pair = s.pair) : t.movesNamed = s.movesNamed := by rw [State.movesNamed, State.movesNamed, h]

theorem movesNamed_pairSend (s : State) (m : PairMsg) : (s.pairSend m).movesNamed = s.movesNamed := by
  rw [State.movesNamed, State.movesNamed, pairSend_moves]

theorem movesNamed_firnSettle (s : State) (r : FirnRec) : (s.firnSettle r).movesNamed = s.movesNamed := by
  unfold State.firnSettle
  split
  · unfold State.movesNamed
    dsimp only
    rw [List.map_map]
    refine List.map_congr_left fun m _ => ?_
    dsimp only [Function.comp]
    split
    · rfl
    · rfl
  · rfl

theorem movesNamed_metaAppend (s : State) (o : Nat) (b : FirnBody) : (s.metaAppend o b).movesNamed = s.movesNamed := by
  unfold State.metaAppend State.firnAppendWith
  split
  · split
    · exact movesNamed_pairSend _ _
    · rfl
  · split
    · dsimp only
      split
      · exact movesNamed_congr (by simp)
      · rfl
    · unfold State.firnPushWith
      extract_lets q r numbered _ placed mirrored entered
      have h1 : placed.movesNamed = s.movesNamed := movesNamed_congr rfl
      have h2 : mirrored.movesNamed = placed.movesNamed := by
        unfold mirrored
        split
        · exact movesNamed_pairSend _ _
        · rfl
      have h3 : entered.movesNamed = s.movesNamed := h2.trans h1
      split
      · exact h3
      · exact (movesNamed_firnSettle _ _).trans h3

theorem within_stripeWrite (s : State) (n : Nat) : Within { parts := [.ctr, .tms, .str] } s (s.stripeWrite n) := by
  unfold State.stripeWrite
  split
  · exact .refl _ _
  · split
    · exact .refl _ _
    · next g _ =>
      refine within_ite _ (fun _ => .refl _ _) fun _ => within_ite _ (fun _ => within_str s _ rfl) fun _ => ?_
      extract_lets cap padded y _ put counted
      have h1 : Within { parts := [.ctr, .tms, .str] } s put := within_str s _ rfl
      have h2 : Within { parts := [.ctr, .tms, .str] } put counted := by
        unfold counted
        split
        · next gr _ =>
          have hc : Within { parts := [.ctr, .tms, .str] } put (if padded = true then (put.bump (ctrStrG gr 0)).bump (ctrStrG gr 1) else put.bump (ctrStrG gr 0)) :=
            (within_bump put _ _ rfl).trans (within_ite _ (fun _ => within_bump _ _ _ rfl) fun _ => .refl _ _)
          dsimp only
          split
          · exact hc.trans (within_str _ _ rfl)
          · exact hc
        · exact .refl _ _
      exact (h1.trans h2).trans (within_each _ _ _ fun s c => (within_driveQueue s _ _ _ _).widen (by decide) (by decide) (by decide))

theorem within_padFor (s : State) (i : Nat) : Within { parts := [.ctr, .tms, .str] } s (s.padFor i) :=
  within_each _ _ _ fun s n => within_stripeWrite s n

theorem nsQuiet_congr {s t : State} (hq : t.qpe = s.qpe) (hj : t.jnl = s.jnl) (i : Nat) : t.nsQuiet i = s.nsQuiet i := by
  rw [State.nsQuiet, State.nsQuiet, hq, hj]

/-- The move of a namespace that is there begins: it is recorded at once where the namespace is quiet. -/
theorem moveStep_begins (s : State) (i : Nat) (l : List Move) (n : Ns) (hn : s.ns i = some n) (hm : s.pair.moves = ⟨i, false, false⟩ :: l) :
    s.moveStep.movesNamed = (i, s.nsQuiet i) :: l.map (fun m => (m.ns, m.recorded)) ∧
      Within { parts := [.evt, .ctr, .tms, .str, .jnl, .pair, .outbox], fields := [JNL_FIRN_SEQ_next_seq] } s s.moveStep := by
  have w := within_padFor s i
  have hq : (s.padFor i).nsQuiet i = s.nsQuiet i := nsQuiet_congr (w.qpe rfl) (w.jnl rfl) i
  have hw : Within { parts := [.evt, .ctr, .tms, .str, .jnl, .pair, .outbox], fields := [JNL_FIRN_SEQ_next_seq] } s (s.padFor i) :=
    w.widen (by decide) (by decide) (by decide)
  unfold State.moveStep
  rw [hm]
  dsimp only
  rw [hn]
  dsimp only
  rw [if_neg (by decide), if_neg (by decide), hq]
  split
  · next h =>
    refine ⟨(movesNamed_metaAppend _ _ _).trans ?_, (hw.trans (within_pair _ _ rfl)).trans ((within_metaAppend _ _ _).widen (by decide) (by decide) (by decide))⟩
    rw [h]
    rfl
  · next h =>
    refine ⟨(movesNamed_congr (w.pair rfl)).trans ?_, hw⟩
    rw [State.movesNamed, hm, Bool.eq_false_iff.mpr h]
    rfl

/-- Moves begin in a pair that is paired, while none runs. -/
theorem movesStart_begins (s : State) (i : Nat) (l : List Nat) (n : Ns) (hp : s.get PAIR_STATUS_state = 2) (hm : s.pair.moves = [])
    (hn : s.ns i = some n) : (s.movesStart (i :: l)).get PAIR_STATUS_cmd_result = 2 ∧
      (s.movesStart (i :: l)).movesNamed = (i, s.nsQuiet i) :: l.map (fun j => (j, false)) := by
  have e : s.movesStart (i :: l) = State.moveStep { s.set PAIR_STATUS_cmd_result 0 2 with
      pair := { s.pair with moves := ⟨i, false, false⟩ :: l.map fun j => { ns := j } } } := by
    unfold State.movesStart
    rw [if_neg (by rw [hp, hm]; decide)]
    rfl
  obtain ⟨h1, h2⟩ := moveStep_begins { s.set PAIR_STATUS_cmd_result 0 2 with
      pair := { s.pair with moves := ⟨i, false, false⟩ :: l.map fun j => { ns := j } } } i (l.map fun j => { ns := j }) n hn rfl
  rw [e]
  refine ⟨(h2.regs _ _ rfl).trans (get_set_same s PAIR_STATUS_cmd_result 0 2), h1.trans ?_⟩
  rw [List.map_map]
  rfl

theorem tget_of_key {κ α : Type} [DecidableEq κ] {m : Table κ α} {k : κ} {v : α} (h : (k, v) ∈ m) : ∃ w, tget m k = some w := by
  induction m with
  | nil => cases h
  | cons e m ih =>
    obtain ⟨k', v'⟩ := e
    rw [tget_cons]
    split
    · exact ⟨v', rfl⟩
    · next hk =>
      rcases List.mem_cons.mp h with he | he
      · exact absurd (congrArg Prod.fst he).symm hk
      · exact ih he

theorem ns_of_returnable (s : State) (i : Nat) (h : i ∈ s.returnable) : ∃ n, s.ns i = some n := by
  unfold State.returnable at h
  rw [mem_sortOn] at h
  obtain ⟨⟨j, n⟩, hm, rfl⟩ := List.mem_map.mp h
  exact tget_of_key (List.mem_of_mem_filter hm)

/-! ## The family -/

theorem pairReady_isMaster (s : State) (h : PairHdr) : (pairReady s h).isMaster = s.isMaster := by
  have w := within_pairReady s h
  unfold State.isMaster State.pairShelf State.flag
  rw [w.regs _ _ rfl, w.regs _ _ rfl]

theorem pairReady_active (s : State) (h : PairHdr) (hs : InSequence s h) : (pairReady s h).pair.active = true := by
  obtain ⟨_, _, _, _, e⟩ := pairReady_pair s h
  rw [e]
  exact hs.active

theorem pairReady_txNext (s : State) (h : PairHdr) : (pairReady s h).pair.txNext = s.pair.txNext := by
  obtain ⟨_, _, _, _, e⟩ := pairReady_pair s h
  rw [e]

theorem pairReady_grants (s : State) (h : PairHdr) : (pairReady s h).pair.grants = s.pair.grants := by
  obtain ⟨_, _, _, _, e⟩ := pairReady_pair s h
  rw [e]

theorem ackDue_grants (s : State) : (ackDue s).pair.grants = s.pair.grants := by
  obtain ⟨n, h⟩ := ackDue_pair s
  rw [h]

theorem pairRx_qpe (s : State) (h : PairHdr) (m : PairMsg) (hs : InSequence s h) : (s.pairRx h m).qpe = ((pairReady s h).pairDeliver m).qpe :=
  pairRx_part (·.qpe) s h m hs fun u => (within_ackDue u).qpe rfl

theorem pairRx_slt (s : State) (h : PairHdr) (m : PairMsg) (hs : InSequence s h) : (s.pairRx h m).slt = ((pairReady s h).pairDeliver m).slt :=
  pairRx_part (·.slt) s h m hs fun u => (within_ackDue u).slt rfl

theorem pairRx_get (s : State) (h : PairHdr) (m : PairMsg) (hs : InSequence s h) (f : Fld) (i : Nat) :
    (s.pairRx h m).get f i = ((pairReady s h).pairDeliver m).get f i :=
  pairRx_part (·.get f i) s h m hs fun u => (within_ackDue u).regs f i rfl

/-- Settles O38: each request of the partner is delivered in the state that the link's bookkeeping gives, by the lemma of its kind; moves begin
with the first namespace of the list. -/
theorem pairRequests : Obligations.PairRequests := by
  unfold Obligations.PairRequests
  refine ⟨fun s h o ns lba seg off k hs hm hw hmir hl hg => ?_, fun s h i g n hs hn => ?_, fun s h d l hs hc => ?_,
    fun s h f n hs hn ho hp hr h1 h19 hc => ?_, fun s h id b k c g v x hs hf hx hb => ?_, fun s h c st a b x q hs hx hf hp hl ho => ?_,
    fun s h x c hs hc => ?_, fun s h x hs hx => ?_, fun s h x c hs ho hc hr => ?_, fun s h x r hs hr => ?_,
    fun s i n hp hm hn ho ha hq => ?_, fun s i hn => ?_, fun s hp hm hr => ?_⟩
  · refine ⟨_, rfl, ?_⟩
    have w := within_pairReady s h
    have hstr := w.str rfl
    have hj := pairReady_jnl s h
    have hmr := (pairReady_isMaster s h).trans hm
    obtain ⟨hmap, htail⟩ := firnReqIn_set (pairReady s h) o ns lba seg off k hmr
      (appendWaits_set s _ ns lba 1 seg off k hj (w.regs _ _ rfl) (by rw [State.firnBlocksFrom, hstr]; exact le_refl _) hw)
      (by rw [State.mirrored, w.regs _ _ rfl]; exact hmir) (by rw [State.lookup, hstr]; exact hl) hg
    have d : (pairReady s h).pairDeliver (.firnReq o (.mapSet ns lba 1 seg off k)) = (pairReady s h).firnReqIn o (.mapSet ns lba 1 seg off k) := by
      unfold State.pairDeliver
      dsimp only
      rw [hmr, Bool.true_or, if_pos rfl]
      rfl
    have e1 : (s.pairRx h (.firnReq o (.mapSet ns lba 1 seg off k))).str = ((pairReady s h).firnReqIn o (.mapSet ns lba 1 seg off k)).str := by
      rw [pairRx_part (·.str) s h _ hs fun u => (within_ackDue u).str rfl, d]
    have e2 : (s.pairRx h (.firnReq o (.mapSet ns lba 1 seg off k))).jnl = ((pairReady s h).firnReqIn o (.mapSet ns lba 1 seg off k)).jnl := by
      rw [pairRx_jnl s h _ hs, d]
    rw [hj, w.regs _ _ rfl] at htail
    rw [hstr] at hmap
    exact ⟨(tget_tput_lookup s (s.pairRx h _) ns lba (.member k seg off) (by rw [e1, hmap])).1, (congrArg Jnl.tail e2).trans htail⟩
  · refine ⟨_, rfl, ?_⟩
    have w := within_pairReady s h
    obtain ⟨hp, hi⟩ := ownerIn_after (pairReady s h) i g n (by rw [State.ns, w.nsm rfl]; exact hn)
    have hid : (pairReady s h).moduleId = s.moduleId := w.regs _ _ rfl
    rw [hid] at hi
    have e : (s.pairRx h (.owner i g)).nsm = ((pairReady s h).ownerIn i g).nsm := pairRx_part (·.nsm) s h _ hs fun u => (within_ackDue u).nsm rfl
    refine ⟨?_, ?_⟩
    · show (s.pairRx h _).pair.rxNext = _
      rw [pairRx_rxNext s h _ hs]
      exact (congrArg Pair.rxNext hp).trans (pairReady_rxNext s h)
    · exact (congrArg (fun m : Nsm => tget m.ns i) e).trans hi
  · refine ⟨_, rfl, ?_⟩
    have w := within_pairReady s h
    show tget (s.pairRx h _).pair.grants d = _
    rw [pairRx_part (·.pair.grants) s h _ hs ackDue_grants]
    show tget (State.coldDrain _).pair.grants d = _
    rw [coldDrain_none _ (by show (pairReady s h).str.cold = []; rw [w.str rfl, hc])]
    exact (tget_tput_same _ _ _).trans (by rw [pairReady_grants])
  · refine ⟨_, rfl, ?_⟩
    have w := within_pairReady s h
    have hq : (pairReady s h).qpe = s.qpe := w.qpe rfl
    have hn' : (pairReady s h).nsm = s.nsm := w.nsm rfl
    have := fwdCmdIn_starts (pairReady s h) f n (by rw [State.ns, hn']; exact hn) (by rw [owned_congr (w.regs _ _ rfl)]; exact ho)
      (by rw [hn']; exact hp) ((readyCheck_congr n _ (w.key rfl) (w.cip rfl) h1 h19 (w.regs _ _ rfl)).trans hr) h1 h19
      (by rw [State.cmd, hq]; exact hc)
    rw [hq] at this
    obtain ⟨x, hx, hrest⟩ := this
    exact ⟨x, (congrArg (fun p : Qpe => tget p.cmds s.qpe.nextCmd) (pairRx_qpe s h _ hs)).trans hx, hrest⟩
  · refine ⟨_, rfl, ?_⟩
    have hq : (pairReady s h).qpe = s.qpe := (within_pairReady s h).qpe rfl
    have := fwdDataIn_taken (pairReady s h) id b c g v x (by rw [hq]; exact hf) (by rw [State.cmd, hq]; exact hx) hb
    exact ⟨_, (congrArg (fun p : Qpe => tget p.cmds c) (pairRx_qpe s h _ hs)).trans this, tget_tput_same _ _ _, rfl⟩
  · refine ⟨_, rfl, ?_⟩
    have hq : (pairReady s h).qpe = s.qpe := (within_pairReady s h).qpe rfl
    exact (fwdDoneIn_completes (pairReady s h) c st a b x q (hx.of_qpe (congrArg Qpe.cmds hq) (congrArg Qpe.qps hq)) hf hp hl ho).congr (pairRx_qpe s h _ hs)
  · refine ⟨_, rfl, ?_⟩
    obtain ⟨h1, h2, h3, h4, h5⟩ := slotTake_on (pairReady s h) x c hc (pairReady_active s h hs)
    have hget : ∀ f, ((pairReady s h).pairDeliver (.slotRelease x c)).get f x = (s.pairRx h (.slotRelease x c)).get f x := fun f =>
      (pairRx_get s h _ hs f x).symm
    rw [pairReady_txNext] at h5
    refine ⟨decide_eq_true ?_, ?_, ?_, ?_, ?_⟩
    · exact (get_only_in _ _ _ _ _ rfl).trans ((hget _).symm.trans (of_decide_eq_true h1))
    · exact (get_only_in _ _ _ _ _ rfl).trans ((hget _).symm.trans h2)
    · exact (get_only_in _ _ _ _ _ rfl).trans ((hget _).symm.trans h3)
    · exact (congrArg Slot.gate (slot_congr (pairRx_slt s h _ hs) x)).trans h4
    · show _ ∈ (s.pairRx h (.slotRelease x c)).pair.kept
      rw [pairRx_part (·.pair.kept) s h _ hs ackDue_kept]
      exact h5
  · refine ⟨_, rfl, ?_⟩
    have hsl : (pairReady s h).slot x = s.slot x := slot_congr ((within_pairReady s h).slt rfl) x
    obtain ⟨h1, h2⟩ := slotTaken_left (pairReady s h) x (by rw [hsl]; exact hx)
    rw [hsl] at h2
    refine ⟨?_, (slot_congr (pairRx_slt s h _ hs) x).trans h2⟩
    exact (congrArg (fun v => decide (v = 1)) ((get_only_in _ _ _ _ _ rfl).trans (pairRx_get s h (.slotTaken x) hs SLT_CH_STATUS_owner x))).trans h1
  · refine ⟨_, rfl, ?_⟩
    have hso : (pairReady s h).slotOwner x = false := by
      rw [State.slotOwner, State.flag, (within_pairReady s h).regs _ _ rfl]
      exact ho
    have d : (pairReady s h).pairDeliver (.slot (.report x c)) =
        ((pairReady s h).set SLT_CH_STATUS_state x c.state).set SLT_CH_STATUS_retries_left x c.retries := by
      show (if (pairReady s h).slotOwner x then _ else _) = _
      rw [hso]
      rfl
    refine ⟨(get_only_in _ _ _ _ _ rfl).trans ((pairRx_get s h _ hs _ _).trans ?_), (get_only_in _ _ _ _ _ rfl).trans ((pairRx_get s h _ hs _ _).trans ?_)⟩
    · rw [d]
      exact (get_set_field _ _ _ _ (by decide)).trans ((get_set_same _ _ _ _).trans (Nat.mod_eq_of_lt hc))
    · rw [d]
      exact (get_set_same _ _ _ _).trans (Nat.mod_eq_of_lt hr)
  · refine ⟨_, rfl, ?_⟩
    refine ⟨(get_only_in _ _ _ _ _ rfl).trans ((pairRx_get s h _ hs _ _).trans ?_), (get_only_in _ _ _ _ _ rfl).trans ((pairRx_get s h _ hs _ _).trans ?_)⟩
    · exact (get_set_field _ _ _ _ (by decide)).trans (get_set_same _ _ _ _)
    · exact (get_set_same _ _ _ _).trans (Nat.mod_eq_of_lt (hr.trans_le (by decide)))
  · refine ⟨_, rfl, ?_⟩
    have e : s.moveNs i = s.movesStart [i] := by
      unfold State.moveNs
      rw [if_pos (by rw [hn]; simp [ho, ha])]
    obtain ⟨h1, h2⟩ := movesStart_begins s i [] n hp hm hn
    rw [← e] at h1 h2
    rw [hq] at h2
    refine ⟨(get_only_in _ _ _ _ _ rfl).trans h1, ?_⟩
    obtain ⟨m, hmm, hml⟩ := List.map_eq_singleton_iff.mp h2
    exact ⟨m, hmm, congrArg Prod.fst hml, congrArg Prod.snd hml⟩
  · refine ⟨_, rfl, ?_⟩
    have e : s.moveNs i = s.set PAIR_STATUS_cmd_result 0 1 := by
      unfold State.moveNs
      rw [if_neg]
      cases hi : s.ns i with
      | none => simp
      | some n => simp [hn n hi]
    rw [e]
    exact ⟨(get_only_in _ _ _ _ _ rfl).trans (get_set_same _ _ _ _), rfl, rfl⟩
  · refine ⟨_, rfl, ?_⟩
    cases hl : s.returnable with
    | nil => exact absurd hl hr
    | cons i l =>
      obtain ⟨n, hn⟩ := ns_of_returnable s i (by rw [hl]; exact List.mem_cons_self)
      obtain ⟨h1, h2⟩ := movesStart_begins s i l n hp hm hn
      refine ⟨(get_only_in _ _ _ _ _ rfl).trans h1, ?_⟩
      have := congrArg (List.map Prod.fst) h2
      rw [State.movesNamed, List.map_map, List.map_cons, List.map_map] at this
      exact this.trans (by simp [Function.comp_def])

end Sys2Proof.Machine
end

section
/-! PROOFS. O26: blocks placed in stripes, stripes padded and written, chunks that become durable, Firn blocks formed (R199 to R202, R222). -/

namespace Sys2Proof.Machine

open F

/-! ## The stripe that a head fills -/

/-- The first entry that a test selects, replaced by one that it selects too, is the first still. -/
theorem find_tput {κ α : Type} [DecidableEq κ] (p : κ × α → Bool) (l : Table κ α) (n : κ) (x y z : α) (hf : l.find? p = some (n, x))
    (hg : tget l n = some y) (hz : p (n, z) = true) : (tput l n z).find? p = some (n, z) := by
  induction l with
  | nil => cases hf
  | cons e l ih =>
    obtain ⟨k, v⟩ := e
    rw [tget_cons] at hg
    unfold tput
    by_cases hk : k = n
    · rw [if_pos hk, List.find?_cons_of_pos hz]
    · rw [if_neg hk] at hg ⊢
      have hp : p (k, v) = false := by
        cases h : p (k, v) with
        | false => rfl
        | true =>
          rw [List.find?_cons_of_pos h] at hf
          exact absurd (congrArg Prod.fst (Option.some.inj hf)) hk
      rw [List.find?_cons_of_neg (by rw [hp]; decide)] at hf ⊢
      exact ih hf hg

theorem filling_found {s : State} {h : HeadId} {n : Nat} (hf : s.filling h = some n) :
    ∃ x, s.str.stripes.find? (fun e => e.2.head = h && !e.2.writing && !e.2.due) = some (n, x) := by
  obtain ⟨⟨m, x⟩, hx, rfl⟩ := Option.map_eq_some_iff.mp hf
  exact ⟨x, hx⟩

/-- The stripe that a head fills stays the one as a block is added. -/
theorem filling_put {s t : State} {h : HeadId} {n : Nat} {y z : Stripe} (hf : s.filling h = some n) (hy : tget s.str.stripes n = some y)
    (hz : z.head = h) (hzw : z.writing = false) (hzd : z.due = false)
    (ht : t.str.stripes = tput s.str.stripes n z) : t.filling h = some n := by
  obtain ⟨x, hx⟩ := filling_found hf
  unfold State.filling
  rw [ht]
  exact congrArg (Option.map Prod.fst) (find_tput _ _ n x y z hx hy (by simp [hz, hzw, hzd]))

/-- A stripe with a block added. -/
def addBlock (y : Stripe) (now : Word64) (b : StripeBlk) (d : Block) : Stripe :=
  { y with blocks := y.blocks ++ [(b, d)], since := if y.blocks.isEmpty then now else y.since }

/-- A head that has its segment fills a stripe which the block does not fill up (R200). -/
structure Fills (s : State) (h : HeadId) (n : Nat) (y : Stripe) (sg : Seg) : Prop where
  up     : s.booting = false
  open_  : ((s.headSeg h).isSome || s.headOpening h) = true
  due    : ∀ e ∈ s.str.stripes, e.2.head = h → e.2.due = false
  fill   : s.filling h = some n
  stripe : tget s.str.stripes n = some y
  head   : y.head = h
  quiet  : y.writing = false
  seg    : s.seg y.seg = some sg
  room   : y.blocks.length + 1 < sg.k * s.chunkBlocks

/-- The stripe so filled is the one that its head finds. -/
theorem Fills.headStripe {s : State} {h : HeadId} {n : Nat} {y : Stripe} {sg : Seg} (hf : Fills s h n y sg) : s.headStripe h = some (n, s) := by
  obtain ⟨x, hx⟩ := filling_found hf.fill
  have e : s.str.stripes.find? (fun e => e.2.head = h && !e.2.writing) = some (n, x) := by
    rw [← hx]
    refine List.find?_congr fun e he => ?_
    by_cases hh : e.2.head = h
    · simp [hf.due e he hh]
    · simp [hh]
  have hd : x.due = false := by
    have := List.find?_some hx
    simp only [Bool.and_eq_true, Bool.not_eq_true'] at this
    exact this.2
  unfold State.headStripe
  rw [e]
  dsimp only
  rw [hd]
  rfl

theorem Fills.headPut {s : State} {h : HeadId} {n : Nat} {y : Stripe} {sg : Seg} (hf : Fills s h n y sg) (b : StripeBlk) (d : Block) :
    s.headPut h b d = ({ s with str := { s.str with stripes := tput s.str.stripes n (addBlock y s.dtc b d) } }, true) := by
  have he : s.ensureSeg h = s := by rw [State.ensureSeg, if_pos hf.open_]
  unfold State.headPut
  rw [if_neg (by rw [hf.up]; decide), he]
  dsimp only
  rw [hf.headStripe]
  dsimp only
  unfold State.stripePut
  rw [hf.stripe]
  dsimp only
  rw [hf.seg]
  dsimp only
  rw [if_neg]
  · rfl
  · have := hf.room
    show ¬ (y.blocks ++ [(b, d)]).length = sg.k * s.chunkBlocks
    rw [List.length_append, List.length_singleton]
    omega

/-! ## A stripe padded and written (R202, R208) -/

/-- A stripe padded to its size, every chunk of which is to be written. -/
def padStripe (x : Stripe) (g : Seg) (cap : Nat) : Stripe :=
  { x with blocks := x.blocks ++ List.replicate (cap - x.blocks.length) (.pad, 0), writing := true, due := false
           padded := decide (x.blocks.length < cap), waiting := List.range (segW g) }

theorem stripeWrite_stripe (s : State) (n : Nat) (x : Stripe) (g : Seg) (hx : tget s.str.stripes n = some x) (hw : x.writing = false)
    (hg : s.seg x.seg = some g) :
    tget (s.stripeWrite n).str.stripes n =
      some (if 8 ≤ s.writingOf x.head then { x with due := true } else padStripe x g (g.k * s.chunkBlocks)) := by
  unfold State.stripeWrite
  rw [hx]
  dsimp -zeta only
  rw [hg]
  dsimp -zeta only
  rw [if_neg (by rw [hw]; decide)]
  split
  · exact tget_tput_same _ _ _
  · extract_lets cap padded y _ put counted
    have hp : tget put.str.stripes n = some (padStripe x g (g.k * s.chunkBlocks)) := tget_tput_same _ _ _
    have hc : counted.str.stripes = put.str.stripes := by
      unfold counted
      split
      · dsimp only
        split
        · split
          · rfl
          · rfl
        · split
          · rfl
          · rfl
      · rfl
    have hd := within_each (w := { parts := [.tms] }) counted (List.range (segW g))
      (fun s c => s.driveQueue ⟨chunkMember g y.idx c, .chunk n c, s.chunkLba g y.idx c 0, s.chunkBlocks⟩ (stripeTenant y)) fun s c =>
        within_driveQueue s _ _ _ _
    rw [hd.str rfl, hc, hp]

/-- A stripe's writing changes no record and no slot. -/
theorem stripeWrite_jnl (s : State) (n : Nat) : (s.stripeWrite n).jnl = s.jnl := (within_stripeWrite s n).jnl rfl

/-! ## A committed block placed (R201) -/

/-- The next committed block of a group, that its map entry still names and no Flush waits for, goes to the stripe its head fills. -/
theorem headPlace_next (s : State) (g i n k : Nat) (x : NeveSlot) (d : NeveDesc) (y : Stripe) (sg : Seg) (hn : s.nextPlaced g = some (i, x))
    (hd : x.desc = some d) (hl : s.lookup d.ns d.lba = .neve d.kgen i) (hfl : s.slotFlushed i = false) (hf : Fills s (.host g) n y sg) :
    (s.headPlace g (k + 1)).jnl = { s.jnl with slots := tmod s.jnl.slots i fun z => { z with state := .placed, first := false } } ∧
      (s.headPlace g (k + 1)).str.stripes = tput s.str.stripes n (addBlock y s.dtc (.neve i d.ns d.lba d.kgen) x.data) := by
  have e : s.headPlace g (k + 1) = (({ s with str := { s.str with
      stripes := tput s.str.stripes n (addBlock y s.dtc (.neve i d.ns d.lba d.kgen) x.data) } } : State).modSlot i
        fun z => { z with state := .placed, first := false }).bump (ctrJnl 1) := by
    unfold State.headPlace
    rw [hn]
    dsimp only
    rw [hd]
    dsimp only
    rw [if_neg (by rw [hl]; simp), hf.headPut]
    dsimp only
    rw [if_neg]
    show ¬ s.slotFlushed i = true
    rw [hfl]
    decide
  rw [e]
  exact ⟨rfl, rfl⟩

/-! ## Firn blocks (R218, R222) -/

/-- A metadata block with none waiting before it goes to the stripe that the metadata head fills. -/
theorem mdPlace_fills (s : State) (n : Nat) (y : Stripe) (sg : Seg) (m : MetaBlk) (d : Block) (hq : s.jnl.mdQueue = [])
    (hf : Fills s .meta_ n y sg) :
    s.mdPlace m d = { s with str := { s.str with stripes := tput s.str.stripes n (addBlock y s.dtc (.md m) d) } } := by
  have hf' : Fills { s with jnl := { s.jnl with mdQueue := [(m, d)] } } .meta_ n y sg :=
    ⟨hf.up, hf.open_, hf.due, hf.fill, hf.stripe, hf.head, hf.quiet, hf.seg, hf.room⟩
  have hj : ({ s.jnl with mdQueue := [] } : Jnl) = s.jnl := by rw [← hq]
  unfold State.mdPlace
  rw [hq]
  show State.mdDrain { s with jnl := { s.jnl with mdQueue := [(m, d)] } } 1 = _
  unfold State.mdDrain
  dsimp only
  rw [hf'.headPut]
  dsimp only
  rw [if_pos rfl]
  show ({ s with str := { s.str with stripes := _ }, jnl := { s.jnl with mdQueue := [] } } : State) = _
  rw [hj]

/-- The records not drained, where one block holds their sequence numbers, fill that block. -/
theorem firnFill_one (s : State) (n q c k : Nat) (r : FirnRec) (l : List FirnRec) (y : Stripe) (sg : Seg) (hm : s.isMaster = true)
    (hq0 : s.jnl.mdQueue = []) (ht : s.jnl.tail.filter (fun e => decide (s.jnl.drained < e.seq + firnSpan e.body)) = r :: l)
    (hq : q = max s.jnl.drained r.seq) (hc : c = firnCut q 127 (r :: l)) (hall : ∀ e ∈ r :: l, e.seq + firnSpan e.body ≤ q + c)
    (hf : Fills s .meta_ n y sg) :
    s.firnFill true (k + 2) = { s with
      jnl := { s.jnl with drained := q + c }
      str := { s.str with stripes := tput s.str.stripes n (addBlock y s.dtc (.md (.firn q c))
        (firnBlock s.str.poolId q c ((r :: l).filter fun e => decide (e.seq < q + c)))) } } := by
  have hf' : Fills { s with jnl := { s.jnl with drained := q + c } } .meta_ n y sg :=
    ⟨hf.up, hf.open_, hf.due, hf.fill, hf.stripe, hf.head, hf.quiet, hf.seg, hf.room⟩
  have hnone : s.jnl.tail.filter (fun e => decide (q + c < e.seq + firnSpan e.body)) = [] := by
    refine List.filter_eq_nil_iff.mpr fun e he => ?_
    have : e ∈ r :: l ∨ ¬ s.jnl.drained < e.seq + firnSpan e.body := by
      by_cases h : s.jnl.drained < e.seq + firnSpan e.body
      · exact .inl (ht ▸ List.mem_filter.mpr ⟨he, decide_eq_true h⟩)
      · exact .inr h
    rcases this with h | h
    · have := hall e h
      simpa using this
    · simp only [decide_eq_true_eq, not_lt]
      omega
  unfold State.firnFill
  rw [if_neg (by rw [hm]; decide)]
  dsimp only
  rw [ht]
  dsimp only
  rw [← hq, ← hc, if_neg (by simp), mdPlace_fills { s with jnl := { s.jnl with drained := q + c } } n y sg _ _ hq0 hf']
  unfold State.firnFill
  split
  · rfl
  · dsimp only
    rw [hnone]

theorem length_filter_tput {κ α : Type} [DecidableEq κ] (p : κ × α → Bool) (l : Table κ α) (n : κ) (y z : α) (hy : tget l n = some y)
    (h : p (n, z) = p (n, y)) : ((tput l n z).filter p).length = (l.filter p).length := by
  induction l with
  | nil => cases hy
  | cons e l ih =>
    obtain ⟨k, v⟩ := e
    rw [tget_cons] at hy
    unfold tput
    by_cases hk : k = n
    · rw [if_pos hk] at hy ⊢
      cases hy
      rw [List.filter_cons, List.filter_cons, h, hk]
      split
      · rfl
      · rfl
    · rw [if_neg hk] at hy ⊢
      rw [List.filter_cons, List.filter_cons]
      split
      · exact congrArg (· + 1) (ih hy)
      · exact ih hy

/-- The Firn block so formed is padded with its stripe and written. -/
theorem metaWrite_after (s v : State) (n : Nat) (m : MetaBlk) (b : Block) (y : Stripe) (sg : Seg) (hf : Fills s .meta_ n y sg)
    (h8 : s.writingOf .meta_ < 8) (hv : v.str = { s.str with stripes := tput s.str.stripes n (addBlock y s.dtc (.md m) b) }) :
    v.filling .meta_ = some n ∧ tget v.str.stripes n = some (addBlock y s.dtc (.md m) b) ∧
      ∃ z, tget (v.stripeWrite n).str.stripes n = some z ∧ z.writing = true ∧ z.blocks[y.blocks.length]? = some (.md m, b) := by
  have hput : v.str.stripes = tput s.str.stripes n (addBlock y s.dtc (.md m) b) := by rw [hv]
  have hz : tget v.str.stripes n = some (addBlock y s.dtc (.md m) b) := by rw [hput]; exact tget_tput_same _ _ _
  have hdue : y.due = false := hf.due _ (mem_of_tget hf.stripe) hf.head
  have h8' : ¬ 8 ≤ v.writingOf (addBlock y s.dtc (.md m) b).head := by
    have : v.writingOf y.head = s.writingOf y.head := by
      unfold State.writingOf
      rw [hput]
      exact length_filter_tput _ _ _ y _ hf.stripe rfl
    show ¬ 8 ≤ v.writingOf y.head
    rw [this, hf.head]
    omega
  have hseg : v.seg (addBlock y s.dtc (.md m) b).seg = some sg := by
    rw [State.seg, hv]
    exact hf.seg
  refine ⟨filling_put (z := addBlock y s.dtc (.md m) b) hf.fill hf.stripe hf.head hf.quiet hdue hput, hz, _, stripeWrite_stripe v n _ sg hz hf.quiet hseg, ?_⟩
  rw [if_neg h8']
  refine ⟨rfl, ?_⟩
  show ((y.blocks ++ [(StripeBlk.md m, b)]) ++ _)[y.blocks.length]? = _
  rw [List.append_assoc, List.getElem?_append_right (le_refl _), Nat.sub_self]
  rfl

/-! ## A chunk on its member -/

/-- A durable chunk, not the last of its stripe, leaves the stripe's waiting list. -/
theorem driveOk_chunk (s : State) (c : DriveCmd) (d : List Block) (n ch : Nat) (y : Stripe) (hu : c.use = .chunk n ch)
    (hy : tget s.str.stripes n = some y) (hk : y.writing = false ∨ ∃ k ∈ y.waiting, k ≠ ch) :
    s.driveOk c d = { s with str := { s.str with stripes := tmod s.str.stripes n fun x => { x with waiting := x.waiting.filter (· != ch) } } } := by
  unfold State.driveOk
  rw [hu]
  dsimp only
  rw [if_neg]
  rw [tget_tmod_same, hy]
  show ¬ (y.writing && (y.waiting.filter (· != ch)).isEmpty) = true
  rcases hk with hk | ⟨k, hm, hne⟩
  · simp [hk]
  · have : k ∈ y.waiting.filter (· != ch) := List.mem_filter.mpr ⟨hm, by simpa using hne⟩
    simp [List.ne_nil_of_mem this]

/-! ## The family -/

/-- Settles O26: a block goes to the stripe its head fills, a stripe with blocks is padded and written, a chunk's completion takes it from its
stripe, and the records not drained fill one block of the metadata stripe, which is then written. -/
theorem headsAndStripes : Obligations.HeadsAndStripes := by
  unfold Obligations.HeadsAndStripes
  refine ⟨fun s g i n x d y sg hg hn hx hd hl hfl hb hc ho hdue hfill hy hyh hyw hs hroom => ?_, fun s n x g hx hw hb hg => ?_,
    fun s x tag n ch e y hx he hu hgo hla hy hk => ?_, fun s n q c r l y sg hm hmd ht hq hc hall hb ho hdue hfill hy hyh hyw hs hroom h8 => ?_⟩
  · refine ⟨_, rfl, ?_⟩
    obtain ⟨hj, hst⟩ := headPlace_next s g i n s.jnl.slots.length x d y sg hn hd hl hfl ⟨hb, ho, hdue, hfill, hy, hyh, hyw, hs, hroom⟩
    have e : s.coldDrain.headPlace (g % 16) (s.jnl.slots.length + 1) = s.headPlace g (s.jnl.slots.length + 1) := by
      rw [coldDrain_none s hc, Nat.mod_eq_of_lt hg]
    generalize s.coldDrain.headPlace (g % 16) (s.jnl.slots.length + 1) = u at e ⊢
    rw [← e] at hj hst
    have hslot : tget u.jnl.slots i = some { x with state := .placed, first := false } := by
      rw [hj]
      exact (tget_tmod_same _ _ _).trans (by rw [hx]; rfl)
    have hstr : tget u.str.stripes n = some (addBlock y s.dtc (.neve i d.ns d.lba d.kgen) x.data) := by
      rw [hst]
      exact tget_tput_same _ _ _
    exact ⟨hslot, _, hstr, rfl, hyw⟩
  · refine ⟨_, rfl, ?_⟩
    have e : (match tget s.str.stripes n with
        | some x => if x.writing || x.blocks.isEmpty then s else s.stripeWrite n
        | none => s) = s.stripeWrite n := by
      rw [hx]
      dsimp only
      rw [if_neg (by simp [hw, hb])]
    have h := stripeWrite_stripe s n x g hx hw hg
    rw [← e] at h
    exact h
  · have hany : ∀ p : DrvCmd → Bool, p e = true → ((s.port (x % 32)).cmds.any fun d => d.tag = tag && p d) = true := by
      intro p hp
      rw [Nat.mod_eq_of_lt hx]
      refine List.any_eq_true.mpr ⟨e, List.mem_of_find?_eq_some he, ?_⟩
      have := List.find?_some he
      rw [hp, Bool.and_true]
      exact this
    refine ⟨_, rfl, ?_⟩
    have hd : s.driveCqe (x % 32) tag 0 [] = (s.cqeTaken x tag e).driveOk e.cmd [] := by
      rw [Nat.mod_eq_of_lt hx]
      exact driveCqe_ok s x tag [] e he hgo hla
    obtain ⟨hp, hw⟩ := cqeTaken_after s x tag e
    have hstr : (s.cqeTaken x tag e).str = s.str := hw.str rfl
    have ho := driveOk_chunk (s.cqeTaken x tag e) e.cmd [] n ch y hu (by rw [hstr]; exact hy) hk
    rw [hstr] at ho
    rw [ho] at hd
    refine ⟨(congrArg (fun u : State => tget u.str.stripes n) ((if_pos ?_).trans hd)).trans ((tget_tmod_same _ _ _).trans (by rw [hy]; rfl)),
      (congrArg (fun u : State => (u.port x).cmds) ((if_pos ?_).trans hd)).trans (congrArg Port.cmds hp)⟩
    · exact hany _ (by rw [hu])
    · exact hany _ (by rw [hu])
  · refine ⟨_, rfl, ?_⟩
    have hf : Fills s .meta_ n y sg := ⟨hb, ho, hdue, hfill, hy, hyh, hyw, hs, hroom⟩
    obtain ⟨k, hk⟩ : ∃ k, s.fillFuel = k + 2 := by
      have : s.jnl.tail ≠ [] := fun h => by rw [h] at ht; cases ht
      have := List.length_pos_iff.mpr this
      exact ⟨s.fillFuel - 2, by unfold State.fillFuel at *; omega⟩
    have e := firnFill_one s n q c k r l y sg hm hmd ht hq hc hall hf
    rw [← hk] at e
    generalize s.firnFill true s.fillFuel = v at e ⊢
    obtain ⟨h1, h2, z, hz, hzw, hzb⟩ := metaWrite_after s v n (.firn q c) _ y sg hf h8 (by rw [e])
    have hgo : (match v.filling .meta_ with
        | some n => match tget v.str.stripes n with
          | some x => if x.blocks.isEmpty then v else v.stripeWrite n
          | none => v
        | none => v) = v.stripeWrite n := by
      rw [h1]
      dsimp only
      rw [h2]
      dsimp only
      rw [if_neg (by simp [addBlock])]
    refine ⟨?_, z, (congrArg (fun u : State => tget u.str.stripes n) hgo).trans hz, hzw, hzb⟩
    exact (congrArg (fun u : State => u.jnl.drained) hgo).trans (by rw [stripeWrite_jnl, e])

end Sys2Proof.Machine
end

section
/-! PROOFS. A refutation about the choice of a victim: a segment table with two entries of one number. -/

namespace Sys2Proof.Machine

open F

/-- A sealed segment of one block on members 0 to 5, with a count of live blocks. -/
def sealedWith (live : Nat) : Seg :=
  { head := .host 0, k := 4, m := 2, e := 4, members := [0, 1, 2, 3, 4, 5], base := [16, 16, 16, 16, 16, 16], state := .isSealed, live := live
    closed := true, sealSeq := 3, blocks := [(0, .data 0 9 false)] }

/-- Members 0 to 5 live; segment 1 stands twice in the table: first with 128 live blocks, then with none, which is the better victim. -/
def twiceSegment : State :=
  { State.reset with
    regs := (List.range 6).map fun x => (REB_MEMBER_state.key x, 3)
    str := { State.reset.str with segs := [(1, sealedWith 128), (1, sealedWith 0)] } }

theorem twiceSegment_stays : (twiceSegment.ran .calvingVictim).str.victims = [1] := by decide +kernel

/-- Refutes O27: the victim is chosen among the entries of the segment table, while its record takes the live count of the first entry of its
number; with two entries of one number a victim without a live block is not released. -/
theorem not_compactionAndCalving : ¬ Obligations.CompactionAndCalving := by
  unfold Obligations.CompactionAndCalving
  rintro ⟨-, -, -, h, -⟩
  obtain ⟨t, ht, hv, -⟩ := h twiceSegment 1 (sealedWith 0) (by decide +kernel) (by decide +kernel) (by decide +kernel) (by decide +kernel)
    (by decide +kernel) (by decide +kernel) (by decide +kernel) (by decide +kernel) (by decide +kernel) (by decide +kernel)
  rw [eq_ran ht, twiceSegment_stays] at hv
  exact absurd hv (by decide)

end Sys2Proof.Machine
end

section
/-! PROOFS. O29: the last durable chunk of a stripe, and the switch of its block's map entry (R35, R212, R221). -/

namespace Sys2Proof.Machine

open F

/-! ## What the freeing of slots and the progress of writes leave of the journal -/

/-- The journal but for the slots, the writes and the dumps to be freed. -/
def jnlRest (j : Jnl) : Jnl := { j with slots := [], writes := [], restored := [], dumps := [] }

theorem slotFree_rest (s : State) (i : Nat) : jnlRest (s.slotFree i).jnl = jnlRest s.jnl := by
  unfold State.slotFree
  split
  · rfl
  · dsimp only
    rw [waterCheck_jnl]
    split_ifs <;> simp [jnlRest]

theorem slotsFree_rest (l : List Nat) (s : State) : jnlRest (s.each l State.slotFree).jnl = jnlRest s.jnl :=
  each_jnl jnlRest _ slotFree_rest l s

theorem writeCheck_rest (s : State) (c : Nat) : jnlRest (s.writeCheck c).jnl = jnlRest s.jnl ∧ (s.writeCheck c).jnl.slots = s.jnl.slots := by
  unfold State.writeCheck
  split
  · exact ⟨rfl, rfl⟩
  · dsimp only
    split
    · have e : (s.complete c St.ok).jnl = s.jnl := (complete_completeW s c _ _ _).jnl rfl
      unfold jnlRest
      dsimp only
      rw [e]
      exact ⟨rfl, rfl⟩
    · exact ⟨rfl, rfl⟩

theorem mapRecorded_rest (s : State) (ns lba n q : Nat) :
    jnlRest (s.mapRecorded ns lba n q).jnl = jnlRest s.jnl ∧ (s.mapRecorded ns lba n q).jnl.slots = s.jnl.slots := by
  unfold State.mapRecorded State.writesCheck
  exact ⟨(each_jnl jnlRest _ (fun s c => (writeCheck_rest s c).1) _ _).trans rfl, (each_jnl Jnl.slots _ (fun s c => (writeCheck_rest s c).2) _ _).trans rfl⟩

theorem mapRecorded_str (s : State) (ns lba n q : Nat) : (s.mapRecorded ns lba n q).str = s.str := by
  unfold State.mapRecorded State.writesCheck
  refine ((within_each (w := { parts := [.ctr, .qpe, .jnl, .pair, .outbox], fields := qpeLive }) _ _ _ fun s c => ?_).str rfl).trans rfl
  unfold State.writeCheck
  split
  · exact .refl _ _
  · dsimp only
    split
    · exact ((complete_completeW s c _ _ _).widen (by decide) (by decide) (by decide)).trans (within_jnl _ _ rfl)
    · exact within_jnl s _ rfl

def slotW : Writes := { parts := [.evt, .ctr, .jnl, .pair, .outbox], fields := [JNL_NEVE_STATUS_high_water] }

theorem slotFree_slotW (s : State) (i : Nat) : Within slotW s (s.slotFree i) := by
  unfold State.slotFree
  split
  · exact .refl _ _
  · extract_lets had _ freed counted retired rest _ consumed
    have hfreed : Within slotW s freed := within_jnl s _ rfl
    have hcounted : Within slotW freed counted := within_ite _ (fun _ => within_bump _ _ _ rfl) fun _ => .refl _ _
    have hretired : Within slotW counted retired :=
      within_ite _ (fun _ => (pairSend_pairW _ _).widen (by decide) (by decide) (by decide)) fun _ => .refl _ _
    have hconsumed : Within slotW retired consumed := within_ite _ (fun _ => within_jnl _ _ rfl) fun _ => .refl _ _
    exact (((hfreed.trans hcounted).trans hretired).trans hconsumed).trans ((waterCheck_waterW _).widen (by decide) (by decide) (by decide))

theorem slotsFree_slotW (l : List Nat) (s : State) : Within slotW s (s.each l State.slotFree) := within_each _ _ _ slotFree_slotW

/-- A slot among those freed is free. -/
theorem slotsFree_none (l : List Nat) (s : State) (i : Nat) (h : i ∈ l) : tget (s.each l State.slotFree).jnl.slots i = none := by
  cases hx : tget (s.each l State.slotFree).jnl.slots i with
  | none => rfl
  | some x => exact absurd h (each_slotFree_slots l s i x hx).1

/-! ## The map entry switched from a Névé slot -/

/-- No page is being read. -/
def NoReading (l : Table (Nat × Nat) MapPage) : Prop := ∀ p ∈ l, p.2.reading = false

theorem noReading_tput {l : Table (Nat × Nat) MapPage} (h : NoReading l) (k : Nat × Nat) (x : MapPage) (hx : x.reading = false) : NoReading (tput l k x) :=
  fun p hp => (mem_tput hp).elim (h p) fun e => by rw [e]; exact hx

theorem noReading_tgetD {l : Table (Nat × Nat) MapPage} (h : NoReading l) (k : Nat × Nat) : (tgetD l k {}).reading = false := by
  unfold tgetD
  cases hk : tget l k with
  | none => rfl
  | some x => exact h _ (mem_of_tget hk)

theorem noReading_tmod {l : Table (Nat × Nat) MapPage} (h : NoReading l) (k : Nat × Nat) (q : Nat) :
    NoReading (tmod l k fun x => { x with last := q }) := by
  unfold tmod
  split
  · next x hx => exact noReading_tput h _ _ (h _ (mem_of_tget hx))
  · exact h

/-- What the sealing of a segment looks at. -/
def segEnd (g : Seg) : SegState × Nat × Bool × Nat := (g.state, g.begun, g.closed, g.e)

theorem liveUp_ends (s : State) (g : Nat) : ∃ segs, s.liveUp g = { s with str := { s.str with segs := segs } } ∧
    ∀ j, (tget segs j).map segEnd = (tget s.str.segs j).map segEnd := by
  unfold State.liveUp
  split
  · exact ⟨s.str.segs, rfl, fun _ => rfl⟩
  · next x hx =>
    refine ⟨_, rfl, fun j => ?_⟩
    by_cases hj : g = j
    · subst hj
      rw [tget_tput_same, show tget s.str.segs g = some x from hx]
      rfl
    · rw [tget_tput_other _ _ hj]

theorem mapPut_fromNeve (s : State) (ns lba g o i : Nat) (k k' : Bool) (hl : s.lookup ns lba = .neve k' i) (hr : NoReading s.str.pages) :
    ∃ pages segs, s.mapPut ns lba (.member k g o) = { s with
        str := { s.str with map := tput s.str.map (ns, lba) (.member k g o), pages := pages, segs := segs } } ∧
      NoReading pages ∧ ∀ j, (tget segs j).map segEnd = (tget s.str.segs j).map segEnd := by
  unfold State.mapPut
  rw [hl]
  dsimp only
  obtain ⟨segs, e, hs⟩ := liveUp_ends (State.pageDirty { s with str := { s.str with map := tput s.str.map (ns, lba) (.member k g o) } } ns (pageOf lba)) g
  rw [e]
  exact ⟨_, segs, rfl, noReading_tput hr _ _ (noReading_tgetD hr _), hs⟩

/-- An open segment is not released. -/
theorem releaseIdle_open (s : State) (i : Nat) (g : Seg) (hg : s.seg i = some g) (ho : g.state = .isOpen) : s.releaseIdle i = s := by
  unfold State.releaseIdle
  rw [hg]
  dsimp only
  rw [if_neg (by simp [ho])]

/-- The one block that waits for its record switches to members. -/
theorem switchDone_own (s : State) (g o i ns lba : Nat) (k : Bool) (x : Seg) (hw : tget s.str.switches (g, o) = some [(.neve i ns lba k, o)])
    (hl : s.lookup ns lba = .neve k i) (hr : NoReading s.str.pages) (hg : s.seg g = some x) (ho : x.state = .isOpen) :
    ∃ sw pages segs, (s.switchDone g o).str = { s.str with
        switches := sw, map := tput s.str.map (ns, lba) (.member k g o), pages := pages, segs := segs } ∧
      (s.switchDone g o).jnl = s.jnl ∧ NoReading pages ∧ ∀ j, (tget segs j).map segEnd = (tget s.str.segs j).map segEnd := by
  obtain ⟨pages, segs, e, hp, hs⟩ := mapPut_fromNeve { s with str := { s.str with switches := tdel s.str.switches (g, o) } } ns lba g o i k k hl hr
  obtain ⟨u, hu, hstr, hj⟩ : ∃ u : State, s.switchDone g o = u.releaseIdle g ∧ u.str = { s.str with
      switches := tdel s.str.switches (g, o), map := tput s.str.map (ns, lba) (.member k g o), pages := pages, segs := segs } ∧ u.jnl = s.jnl := by
    refine ⟨State.switchBlock { s with str := { s.str with switches := tdel s.str.switches (g, o) } } g o (.neve i ns lba k), ?_, ?_⟩
    · rw [State.switchDone, hw]
      rfl
    · unfold State.switchBlock
      dsimp only
      have hl' : State.lookup { s with str := { s.str with switches := tdel s.str.switches (g, o) } } ns lba = .neve k i := hl
      rw [if_pos hl', e]
      split
      · exact ⟨rfl, rfl⟩
      · exact ⟨rfl, rfl⟩
  have hug := hs g
  rw [show tget s.str.segs g = some x from hg] at hug
  obtain ⟨z, hz, hze⟩ := Option.map_eq_some_iff.mp hug
  have e : s.switchDone g o = u := hu.trans (releaseIdle_open u g z (by rw [State.seg, hstr]; exact hz) ((congrArg Prod.fst hze).trans ho))
  rw [e]
  exact ⟨_, pages, segs, hstr, hj, hp, hs⟩

/-- A state whose only change to the map and the segments is that a block's entry names members. -/
structure Switched (s t : State) (ns lba : Nat) (e : MapEnt) : Prop where
  str  : ∃ sw pages segs, t.str = { s.str with switches := sw, map := tput s.str.map (ns, lba) e, pages := pages, segs := segs } ∧
    NoReading pages ∧ ∀ j, (tget segs j).map segEnd = (tget s.str.segs j).map segEnd
  rest : jnlRest t.jnl = jnlRest s.jnl

/-- The commit of the record of a block that stands in a Névé slot: its entry names members, its slot is free (R35, R221). -/
theorem firnCommit_own (s : State) (r : FirnRec) (g o i ns lba : Nat) (k : Bool) (x : Seg) (v : NeveSlot) (w : NeveDesc)
    (hb : r.body = .mapSet ns lba 1 g o k) (hw : tget s.str.switches (g, o) = some [(.neve i ns lba k, o)]) (hl : s.lookup ns lba = .neve k i)
    (hr : NoReading s.str.pages) (hg : s.seg g = some x) (ho : x.state = .isOpen) (hv : tget s.jnl.slots i = some v)
    (hd : v.dest = some (g, o)) (hdesc : v.desc = some w) (hns : w.ns = ns) (hlba : w.lba = lba) :
    Switched s (s.firnCommit r) ns lba (.member k g o) ∧ tget (s.firnCommit r).jnl.slots i = none := by
  obtain ⟨sw, pages, segs, hstr, hj, hp, hs⟩ := switchDone_own s g o i ns lba k x hw hl hr hg ho
  have hin : i ∈ (s.switchDone g o).slotsAt ns lba 1 g o := by
    unfold State.slotsAt
    rw [hj]
    refine List.mem_map.mpr ⟨(i, v), List.mem_filter.mpr ⟨mem_of_tget hv, ?_⟩, rfl⟩
    dsimp only
    rw [hd, hdesc]
    simp [hns, hlba]
  unfold State.firnCommit
  rw [hb]
  dsimp only
  generalize s.switchDone g o = a at hstr hj hin ⊢
  have hfree := slotsFree_slotW (a.slotsAt ns lba 1 g o) a
  have hnone := slotsFree_none _ a i hin
  have hrest := slotsFree_rest (a.slotsAt ns lba 1 g o) a
  generalize a.each (a.slotsAt ns lba 1 g o) State.slotFree = b at hfree hnone hrest ⊢
  obtain ⟨h1, h2⟩ := mapRecorded_rest (b.pageSeq ns lba r.seq) ns lba 1 r.seq
  refine ⟨⟨⟨sw, tmod pages (ns, pageOf lba) fun y => { y with last := r.seq }, segs, ?_, noReading_tmod hp _ _, hs⟩, ?_⟩, ?_⟩
  · rw [mapRecorded_str]
    show ({ b.str with pages := tmod b.str.pages (ns, pageOf lba) fun y => { y with last := r.seq } } : Str) = _
    rw [hfree.str rfl, hstr]
  · rw [h1]
    exact hrest.trans (congrArg jnlRest hj)
  · rw [h2]
    exact hnone

/-! ## The stripe on members -/

/-- The state in which the one block of a stripe waits for its record. -/
def State.switchAsked (s : State) (g o i ns lba : Nat) (k : Bool) : State :=
  { s.modSlot i fun y => { y with dest := some (g, o) } with
    str := { s.str with switches := tput s.str.switches (g, o) [(.neve i ns lba k, o)] } }

theorem each_pads (f : State → StripeBlk × Nat → State) (hf : ∀ s o, f s (.pad, o) = s) (s : State) (l : List (StripeBlk × Nat))
    (h : ∀ b ∈ l, b.1 = .pad) : s.each l f = s := by
  induction l generalizing s with
  | nil => rfl
  | cons a l ih =>
    obtain ⟨b, o⟩ := a
    have hb : b = .pad := h _ List.mem_cons_self
    subst hb
    show (f s (.pad, o)).each l f = s
    rw [hf]
    exact ih s fun b hb => h b (List.mem_cons_of_mem _ hb)

theorem zipIdx_pads (s : State) (x : Stripe) (g : Seg) (m j : Nat) (p : StripeBlk × Nat)
    (h : p ∈ ((List.replicate m ((StripeBlk.pad, (0 : Block)))).zipIdx j).map fun (b, j) => (b.1, s.blockOff x g j)) : p.1 = .pad := by
  obtain ⟨q, hq, rfl⟩ := List.mem_map.mp h
  have := List.fst_mem_of_mem_zipIdx hq
  rw [List.mem_replicate] at this
  exact congrArg Prod.fst this.2

/-- A stripe of one Névé block and padding asks for the record of that block. -/
theorem switchStripe_one (s : State) (x : Stripe) (g : Seg) (i ns lba m : Nat) (k : Bool) (d : Block)
    (hb : x.blocks = (.neve i ns lba k, d) :: List.replicate m (.pad, 0)) (hl : s.lookup ns lba = .neve k i) :
    s.switchStripe x g = (s.switchAsked x.seg (x.idx * g.k * s.chunkBlocks) i ns lba k).firnAppend 0
      (.mapSet ns lba 1 x.seg (x.idx * g.k * s.chunkBlocks) k) := by
  have hsw : s.switchable (.neve i ns lba k) = some (ns, lba, k, 0) := by
    unfold State.switchable
    dsimp only
    rw [if_pos hl]
  unfold State.switchStripe
  rw [hb, List.zipIdx_cons, List.map_cons]
  have hp := zipIdx_pads s x g m (0 + 1)
  generalize ((List.replicate m ((StripeBlk.pad, (0 : Block)))).zipIdx (0 + 1)).map (fun (b, j) => (b.1, s.blockOff x g j)) = l at hp ⊢
  have hnone : l.filterMap (fun (b, o) => (s.switchable b).map fun (ns, lba, k, org) => (b, (ns, lba, k, o, org))) = [] := by
    refine List.filterMap_eq_nil_iff.mpr fun b hb => ?_
    obtain ⟨b, o⟩ := b
    rw [show b = .pad from hp _ hb]
    rfl
  have hoff : s.blockOff x g 0 = x.idx * g.k * s.chunkBlocks := Nat.add_zero _
  dsimp only
  rw [List.filterMap_cons_some (by dsimp only; rw [hsw]; rfl), hnone, hoff]
  generalize x.idx * g.k * s.chunkBlocks = o
  refine Eq.trans (congrArg (fun t : State => t.each _ _) (?_ : _ = s.modSlot i fun y => { y with dest := some (x.seg, o) })) ?_
  · refine (each_pads _ (fun _ _ => rfl) _ l hp).trans ?_
    dsimp only
    rw [hsw]
    rfl
  · simp [State.each, switchRuns, State.switchAsked]
    rfl

/-- A state in which no stripe, cold block, metadata block, relocation or page read waits, and the one record of the tail fills no block. -/
structure AtRest (s : State) : Prop where
  stripes : s.str.stripes = []
  cold    : s.str.cold = []
  moving  : s.str.moving = []
  pages   : NoReading s.str.pages
  queue   : s.jnl.mdQueue = []
  tail    : ∃ r, s.jnl.tail = [r] ∧ firnSpan r.body = 1

theorem AtRest.firnDrain {s : State} (h : AtRest s) : s.firnDrain = s := by
  obtain ⟨r, ht, hr⟩ := h.tail
  unfold State.firnDrain
  generalize s.fillFuel = n
  unfold State.firnFill
  split
  · rfl
  · split
    · rfl
    · dsimp only
      rw [ht]
      by_cases hd : s.jnl.drained < r.seq + firnSpan r.body
      · rw [List.filter_cons_of_pos (by simpa using hd), List.filter_nil]
        dsimp only
        have hc : firnCut (max s.jnl.drained r.seq) 127 [r] < 127 := by
          unfold firnCut firnCut
          split
          · decide
          · rw [hr]
            dsimp only
            omega
        rw [if_pos (by simpa using hc)]
      · rw [List.filter_cons_of_neg (by simpa using hd), List.filter_nil]

theorem AtRest.writeDue {s : State} (h : AtRest s) (d : HeadId) : s.writeDue d = s := by
  rw [State.writeDue, h.stripes]
  rfl

theorem AtRest.switchResume {s : State} (h : AtRest s) : s.switchResume = s := by
  rw [State.switchResume, h.stripes]
  rfl

theorem AtRest.relocSteps {s : State} (h : AtRest s) : s.relocSteps = s := by
  rw [State.relocSteps, h.moving]
  rfl

theorem AtRest.pagesSettle {s : State} (h : AtRest s) : s.pagesSettle = s := by
  have e : s.str.pages.filter (fun e => e.2.cached && e.2.reading) = [] :=
    List.filter_eq_nil_iff.mpr fun e he => by rw [h.pages e he]; simp
  unfold State.pagesSettle
  rw [e]
  rfl

/-- A segment open with further stripes is not sealed. -/
theorem sealCheck_open (s : State) (i : Nat) (x : Seg) (hx : s.seg i = some x) (hc : x.closed = false) (hb : x.begun + 1 < s.segStripes x) :
    s.sealCheck i = s := by
  unfold State.sealCheck
  rw [hx]
  dsimp only
  rw [if_neg]
  have : x.begun ≠ s.segStripes x := by omega
  simp [hc, this]

/-- The segment and the stripes as a stripe of one data block ends. -/
def State.stripeOn (s : State) (n : Nat) (y : Stripe) (g : Seg) (ns lba : Nat) (k : Bool) : State :=
  let g' := { g with done := g.done + 1, blocks := g.blocks ++ [(y.idx * g.k * s.chunkBlocks, SegBlk.data ns lba k)] }
  { s.putSeg y.seg g' with str := { (s.putSeg y.seg g').str with stripes := tdel s.str.stripes n } }

theorem stripeEntries_one (s : State) (y : Stripe) (g : Seg) (i ns lba m : Nat) (k : Bool) (d : Block)
    (hb : y.blocks = (.neve i ns lba k, d) :: List.replicate m (.pad, 0)) :
    s.stripeEntries y g = [(y.idx * g.k * s.chunkBlocks, .data ns lba k)] := by
  unfold State.stripeEntries
  rw [hb, List.zipIdx_cons, List.filterMap_cons]
  dsimp only
  refine congrArg₂ List.cons rfl (List.filterMap_eq_nil_iff.mpr fun p hp => ?_)
  have := List.fst_mem_of_mem_zipIdx hp
  rw [List.mem_replicate] at this
  obtain ⟨b, j⟩ := p
  rw [show b = (.pad, 0) from this.2]

/-- Where nothing makes a switch wait, a MAP_SET does not wait after the stripe's block has entered its segment. -/
theorem appendWaits_stripeOn (s t : State) (n : Nat) (y : Stripe) (g : Seg) (ns lba a b c e : Nat) (k k' : Bool) (hm : s.isMaster = true)
    (hw : s.switchWaits = false) (hg : s.seg y.seg = some g) (hs : t.str.segs = (s.stripeOn n y g ns lba k).str.segs) (hj : t.jnl.tail = s.jnl.tail)
    (hp : t.jnl.parked = s.jnl.parked) (hc : t.jnl.media = s.jnl.media) (hl : t.replayLimit = s.replayLimit) :
    t.appendWaits (.mapSet a b 1 c e k') = false := by
  unfold State.switchWaits at hw
  rw [if_pos hm] at hw
  simp only [Bool.or_eq_false_iff, decide_eq_false_iff_not] at hw
  obtain ⟨⟨h1, h2⟩, h3⟩ := hw
  have hb : t.replayBytes ≤ s.replayBytes := by
    unfold State.replayBytes
    have hst : t.replayStart = s.replayStart := by rw [State.replayStart, State.replayStart, hc]
    rw [hst, firnBlocksFrom_eq, firnBlocksFrom_eq, hs]
    refine Nat.mul_le_mul_left _ (sum_tput_le (segRecBlocks s.replayStart) _ _ _ g hg ?_)
    unfold segRecBlocks
    dsimp only
    rw [List.filter_append, List.filter_cons_of_neg (by simp), List.filter_nil, List.append_nil]
  have ht : t.tailFull = false := by
    rw [← h1, State.tailFull, State.tailFull, State.tailBlocks, State.tailBlocks, hj]
  unfold State.appendWaits State.compactionRec State.headRec
  simp only [Bool.not_false, Bool.true_and, Bool.or_false, Bool.or_eq_false_iff, decide_eq_false_iff_not]
  rw [hl, hp]
  exact ⟨ht, by omega, h3⟩

theorem isMaster_congr {s t : State} (h : t.regs = s.regs) : t.isMaster = s.isMaster := by
  unfold State.isMaster State.pairShelf State.flag
  rw [get_congr h, get_congr h]

theorem mirrored_congr {s t : State} (h : t.regs = s.regs) : t.mirrored = s.mirrored := by
  rw [State.mirrored, State.mirrored, get_congr h]

/-- What the switch of one block needs of the state in which its stripe is on members. -/
structure OneBlock (s : State) (n : Nat) (y : Stripe) (sg : Seg) (i ns lba m : Nat) (k : Bool) (d : Block) (v : NeveSlot) (w : NeveDesc) : Prop where
  stripes : s.str.stripes = [(n, y)]
  head    : ∃ g, y.head = .host g
  blocks  : y.blocks = (.neve i ns lba k, d) :: List.replicate m (.pad, 0)
  seg     : s.seg y.seg = some sg
  open_   : sg.state = .isOpen
  map     : s.lookup ns lba = .neve k i
  slot    : tget s.jnl.slots i = some v
  desc    : v.desc = some w
  wns     : w.ns = ns
  wlba    : w.lba = lba
  master  : s.isMaster = true
  free    : s.switchWaits = false
  queue   : s.jnl.mdQueue = []
  tail    : s.jnl.tail = []
  cold    : s.str.cold = []
  moving  : s.str.moving = []
  pages   : NoReading s.str.pages
  room    : sg.begun + 1 < s.segStripes sg
  closed  : sg.closed = false

/-- What the end of that stripe leaves. -/
structure OneDone (s t : State) (y : Stripe) (sg : Seg) (i ns lba : Nat) (k : Bool) (v : NeveSlot) : Prop where
  rest   : AtRest t
  others : ∀ a b, (a, b) ≠ (ns, lba) → t.lookup a b = s.lookup a b
  record : ∃ r ∈ t.jnl.tail, r.body = .mapSet ns lba 1 y.seg (y.idx * sg.k * s.chunkBlocks) k
  entry  : if s.mirrored = true then
        t.lookup ns lba = .neve k i ∧ tget t.jnl.slots i = some { v with dest := some (y.seg, y.idx * sg.k * s.chunkBlocks) }
      else t.lookup ns lba = .member k y.seg (y.idx * sg.k * s.chunkBlocks) ∧ tget t.jnl.slots i = none

section
variable {s : State} {n i ns lba m : Nat} {y : Stripe} {sg : Seg} {k : Bool} {d : Block} {v : NeveSlot} {w : NeveDesc}

theorem asked_regs (s : State) (n : Nat) (y : Stripe) (sg : Seg) (i ns lba o : Nat) (k : Bool) :
    ((s.stripeOn n y sg ns lba k).switchAsked y.seg o i ns lba k).regs = s.regs := rfl

/-- The block's slot and segment as its record is asked for. -/
theorem OneBlock.asked (h : OneBlock s n y sg i ns lba m k d v w) (o : Nat) :
    tget ((s.stripeOn n y sg ns lba k).switchAsked y.seg o i ns lba k).jnl.slots i = some { v with dest := some (y.seg, o) } ∧
      ∃ x, ((s.stripeOn n y sg ns lba k).switchAsked y.seg o i ns lba k).seg y.seg = some x ∧ segEnd x = segEnd sg := by
  refine ⟨?_, _, tget_tput_same _ _ _, rfl⟩
  exact (tget_tmod_same _ _ _).trans (by rw [show tget (s.stripeOn n y sg ns lba k).jnl.slots i = some v from h.slot]; rfl)

/-- The record that the stripe's end asks for, in the mirrored pair and alone. -/
theorem OneBlock.switched (h : OneBlock s n y sg i ns lba m k d v w) :
    ∃ z, OneDone s z y sg i ns lba k v ∧ (∃ x, z.seg y.seg = some x ∧ x.closed = false ∧ x.begun + 1 < z.segStripes x) ∧
      (s.stripeOn n y sg ns lba k).switchStripe y sg = z := by
  have e0 := switchStripe_one (s.stripeOn n y sg ns lba k) y sg i ns lba m k d h.blocks h.map
  have hcb : (s.stripeOn n y sg ns lba k).chunkBlocks = s.chunkBlocks := rfl
  rw [hcb] at e0
  obtain ⟨hslot, x, hx, hxe⟩ := h.asked (y.idx * sg.k * s.chunkBlocks)
  have hwait := appendWaits_stripeOn s ((s.stripeOn n y sg ns lba k).switchAsked y.seg (y.idx * sg.k * s.chunkBlocks) i ns lba k) n y sg ns lba ns lba
    y.seg (y.idx * sg.k * s.chunkBlocks) k k h.master h.free h.seg rfl rfl rfl rfl rfl
  have hrest : jnlRest ((s.stripeOn n y sg ns lba k).switchAsked y.seg (y.idx * sg.k * s.chunkBlocks) i ns lba k).jnl = jnlRest s.jnl := rfl
  have hstr : ∃ segs, ((s.stripeOn n y sg ns lba k).switchAsked y.seg (y.idx * sg.k * s.chunkBlocks) i ns lba k).str = { s.str with
      segs := segs, stripes := [], switches := tput s.str.switches (y.seg, y.idx * sg.k * s.chunkBlocks) [(.neve i ns lba k, y.idx * sg.k * s.chunkBlocks)] } := by
    have : tdel s.str.stripes n = [] := by rw [h.stripes]; simp [tdel]
    refine ⟨(s.stripeOn n y sg ns lba k).str.segs, ?_⟩
    rw [← this]
    rfl
  have hmaster : ((s.stripeOn n y sg ns lba k).switchAsked y.seg (y.idx * sg.k * s.chunkBlocks) i ns lba k).isMaster = true :=
    by rw [isMaster_congr (asked_regs s n y sg i ns lba _ k)]; exact h.master
  have hmir : ((s.stripeOn n y sg ns lba k).switchAsked y.seg (y.idx * sg.k * s.chunkBlocks) i ns lba k).mirrored = s.mirrored :=
    mirrored_congr (asked_regs s n y sg i ns lba _ k)
  generalize (s.stripeOn n y sg ns lba k).switchAsked y.seg (y.idx * sg.k * s.chunkBlocks) i ns lba k = a at *
  obtain ⟨segs, hstr⟩ := hstr
  obtain ⟨u, q, hu, huj, -, happ⟩ := firnAppend_master a 0 (.mapSet ns lba 1 y.seg (y.idx * sg.k * s.chunkBlocks) k) hmaster hwait
  have hen : ∀ r : FirnRec, r.body = .mapSet ns lba 1 y.seg (y.idx * sg.k * s.chunkBlocks) k → u.firnEnter r = u := fun r hr => by
    rw [State.firnEnter, hr]
  have hust : u.str = a.str := hu.str rfl
  have hsl : tget u.jnl.slots i = some { v with dest := some (y.seg, y.idx * sg.k * s.chunkBlocks) } := by
    rw [huj]
    exact hslot
  have htail : u.jnl.tail = [⟨q, 0, .mapSet ns lba 1 y.seg (y.idx * sg.k * s.chunkBlocks) k⟩] := by
    have : a.jnl.tail = [] := (congrArg Jnl.tail hrest).trans h.tail
    rw [huj]
    show a.jnl.tail ++ _ = _
    rw [this]
    rfl
  have hq : u.jnl.mdQueue = [] := by
    rw [huj]
    exact (congrArg Jnl.mdQueue hrest).trans h.queue
  have hlook : u.lookup = s.lookup := by
    funext b c
    rw [State.lookup, State.lookup, hust, hstr]
  rw [e0, happ, hen _ rfl]
  have hum : u.mirrored = s.mirrored := by
    rw [← hmir, State.mirrored, State.mirrored, hu.regs _ _ rfl]
  have hsx : ∀ z : State, z.str.chunk128 = s.str.chunk128 → (z.seg y.seg).map segEnd = some (segEnd sg) →
      ∃ x, z.seg y.seg = some x ∧ x.closed = false ∧ x.begun + 1 < z.segStripes x := by
    intro z hz hzs
    obtain ⟨x, hx, he⟩ := Option.map_eq_some_iff.mp hzs
    simp only [segEnd, Prod.mk.injEq] at he
    obtain ⟨-, hbegun, hclosed, hee⟩ := he
    refine ⟨x, hx, hclosed.trans h.closed, ?_⟩
    have hr := h.room
    unfold State.segStripes at hr ⊢
    rw [hz, hee, hbegun]
    exact hr
  by_cases hmi : s.mirrored = true
  · rw [if_pos (by rw [hum]; exact hmi)]
    refine ⟨u, ⟨⟨?_, ?_, ?_, ?_, hq, _, htail, rfl⟩, fun b c _ => by rw [hlook], ⟨_, by rw [htail]; exact List.mem_singleton_self _, rfl⟩, ?_⟩, ?_, rfl⟩
    · rw [hust, hstr]
    · rw [hust, hstr]
      exact h.cold
    · rw [hust, hstr]
      exact h.moving
    · rw [hust, hstr]
      exact h.pages
    · rw [if_pos hmi]
      exact ⟨by rw [hlook]; exact h.map, hsl⟩
    · exact hsx u (by rw [hust, hstr]) (by rw [State.seg, hust, show tget a.str.segs y.seg = some x from hx, Option.map_some, hxe])
  · rw [if_neg (by rw [hum]; exact hmi)]
    obtain ⟨⟨⟨sw, pages, segs', hzstr, hzp, hzs⟩, hzr⟩, hznone⟩ := firnCommit_own u
      ⟨q, 0, .mapSet ns lba 1 y.seg (y.idx * sg.k * s.chunkBlocks) k⟩ y.seg (y.idx * sg.k * s.chunkBlocks) i ns lba k x _ w rfl
      (by rw [hust, hstr]; exact tget_tput_same _ _ _) (by rw [hlook]; exact h.map) (by rw [hust, hstr]; exact h.pages)
      (by rw [State.seg, hust]; exact hx) ((congrArg Prod.fst hxe).trans h.open_) hsl rfl h.desc h.wns h.wlba
    have hl := tget_tput_lookup u _ ns lba _ (congrArg Str.map hzstr)
    rw [hlook] at hl
    have hzt : (u.firnCommit ⟨q, 0, .mapSet ns lba 1 y.seg (y.idx * sg.k * s.chunkBlocks) k⟩).jnl.tail = _ := (congrArg Jnl.tail hzr).trans htail
    refine ⟨_, ⟨⟨?_, ?_, ?_, ?_, (congrArg Jnl.mdQueue hzr).trans hq, _, hzt, rfl⟩, hl.2, ⟨_, by rw [hzt]; exact List.mem_singleton_self _, rfl⟩, ?_⟩, ?_, rfl⟩
    · rw [hzstr, hust, hstr]
    · rw [hzstr, hust, hstr]
      exact h.cold
    · rw [hzstr, hust, hstr]
      exact h.moving
    · rw [hzstr]
      exact hzp
    · rw [if_neg hmi]
      exact ⟨hl.1, hznone⟩
    · refine hsx _ (by rw [hzstr, hust, hstr]) ?_
      rw [State.seg, hzstr]
      dsimp only
      rw [hzs, hust, show tget a.str.segs y.seg = some x from hx, Option.map_some, hxe]

/-- The stripe ends: nothing follows the switch. -/
theorem OneBlock.done (h : OneBlock s n y sg i ns lba m k d v w) : OneDone s (s.stripeDone n) y sg i ns lba k v := by
  obtain ⟨z, hz, ⟨x, hx, hc, hb⟩, e⟩ := h.switched
  obtain ⟨g, hg⟩ := h.head
  have hy : tget s.str.stripes n = some y := by
    rw [h.stripes]
    exact (tget_cons _ _ _ _).trans (if_pos rfl)
  have hs : s.stripeDone n = z := by
    unfold State.stripeDone
    rw [hy]
    dsimp only
    rw [h.seg]
    dsimp only
    rw [if_neg (by rw [h.free]; simp), stripeEntries_one s y sg i ns lba m k d h.blocks, hg, if_neg (by simp), if_neg (by simp)]
    have hq : z.jnl.mdQueue.length = 0 := by rw [hz.rest.queue]; rfl
    show State.coldDrain (State.firnDrain (State.mdDrain (State.writeDue (State.sealCheck ((s.stripeOn n y sg ns lba k).switchStripe y sg) y.seg) (.host g))
      (State.writeDue (State.sealCheck ((s.stripeOn n y sg ns lba k).switchStripe y sg) y.seg) (.host g)).jnl.mdQueue.length)) = z
    rw [e, sealCheck_open z y.seg x hx hc hb, hz.rest.writeDue, hq]
    show State.coldDrain (State.firnDrain z) = z
    rw [hz.rest.firnDrain, coldDrain_none _ hz.rest.cold]
  rw [hs]
  exact hz

end

/-! ## The statement -/

/-- The last chunk of the one stripe being written. -/
theorem driveOk_last (s : State) (c : DriveCmd) (d : List Block) (n ch : Nat) (y : Stripe) (hu : c.use = .chunk n ch)
    (hst : s.str.stripes = [(n, y)]) (hw : y.writing = true) (hwait : y.waiting = [ch]) :
    s.driveOk c d = (((State.stripeDone { s with str := { s.str with stripes := [(n, { y with waiting := [] })] } } n).switchResume).pagesSettle).relocSteps := by
  have htm : tmod s.str.stripes n (fun x => { x with waiting := x.waiting.filter (· != ch) }) = [(n, { y with waiting := [] })] := by
    rw [hst]
    simp [tmod, tget_cons, tput, hwait]
  unfold State.driveOk
  rw [hu]
  dsimp only
  rw [htm, if_pos (by simp [tget_cons, hw])]

/-- The stripe so ended is that of one block. -/
theorem oneBlock_of {s u : State} {n i ns lba m g : Nat} {y : Stripe} {sg : Seg} {k : Bool} {d : Block} {v : NeveSlot} {w : NeveDesc}
    (hus : u.str = { s.str with stripes := [(n, { y with waiting := [] })] }) (huj : u.jnl = s.jnl) (hup : u.pair = s.pair)
    (hur : ∀ f i, u.get f i = s.get f i) (hh : y.head = .host g)
    (hb : y.blocks = (.neve i ns lba k, d) :: List.replicate m (.pad, 0)) (hg : s.seg y.seg = some sg) (ho : sg.state = .isOpen)
    (hl : s.lookup ns lba = .neve k i) (hv : tget s.jnl.slots i = some v) (hd : v.desc = some w) (hns : w.ns = ns) (hlba : w.lba = lba)
    (hm : s.isMaster = true) (hsw : s.switchWaits = false) (hmd : s.jnl.mdQueue = []) (ht : s.jnl.tail = []) (hc : s.str.cold = [])
    (hmv : s.str.moving = []) (hp : NoReading s.str.pages) (hr : sg.begun + 1 < s.segStripes sg) (hcl : sg.closed = false) :
    OneBlock u n { y with waiting := [] } sg i ns lba m k d v w := by
  have hum : u.isMaster = s.isMaster := by
    unfold State.isMaster State.pairShelf State.flag
    rw [hur, hur]
  refine ⟨by rw [hus], ⟨g, hh⟩, hb, by rw [State.seg, hus]; exact hg, ho, by rw [State.lookup, hus]; exact hl, by rw [huj, hv], hd, hns, hlba,
    hum.trans hm, ?_, by rw [huj, hmd], by rw [huj, ht], by rw [hus]; exact hc, by rw [hus]; exact hmv, by rw [hus]; exact hp, ?_, hcl⟩
  · rw [← hsw]
    unfold State.switchWaits State.tailFull State.tailBlocks State.replayLimit State.replayBytes State.replayStart State.firnBlocksFrom
    rw [hum, huj, hus, hur, hup]
  · unfold State.segStripes at hr ⊢
    rw [hus]
    exact hr

/-- Settles O29: the chunk is the last of its stripe, whose end asks for the block's record; nothing else waits. -/
theorem mapSwitch : Obligations.MapSwitch := by
  unfold Obligations.MapSwitch
  intro s x tag n ch g i ns lba m k e y sg d v w hx he hu hgo hla hst hh hw hwait hdue hb hg ho hl hv hd hns hlba hm hsw hmd ht hc hmv hp hr hcl
  have hany : ∀ p : DrvCmd → Bool, p e = true → ((s.port (x % 32)).cmds.any fun d => d.tag = tag && p d) = true := by
    intro p hpe
    rw [Nat.mod_eq_of_lt hx]
    refine List.any_eq_true.mpr ⟨e, List.mem_of_find?_eq_some he, ?_⟩
    have := List.find?_some he
    rw [hpe, Bool.and_true]
    exact this
  obtain ⟨t, ht', hts, htj⟩ : ∃ t, exec (.chunkWriteDone x tag) s = .next t ∧ t.str = (s.driveCqe (x % 32) tag 0 []).str ∧
      t.jnl = (s.driveCqe (x % 32) tag 0 []).jnl := by
    refine ⟨_, rfl, ?_, ?_⟩
    · show State.str (ite _ _ _) = _
      rw [if_pos (hany _ (by rw [hu]))]
    · show State.jnl (ite _ _ _) = _
      rw [if_pos (hany _ (by rw [hu]))]
  have hdrv : s.driveCqe (x % 32) tag 0 [] = (s.cqeTaken x tag e).driveOk e.cmd [] := by
    rw [Nat.mod_eq_of_lt hx]
    exact driveCqe_ok s x tag [] e he hgo hla
  have hwk := (cqeTaken_after s x tag e).2
  have hstr : (s.cqeTaken x tag e).str = s.str := hwk.str rfl
  have e1 := driveOk_last (s.cqeTaken x tag e) e.cmd [] n ch y hu (by rw [hstr, hst]) hw hwait
  rw [hstr] at e1
  have ob := oneBlock_of (s := s) (u := { s.cqeTaken x tag e with str := { s.str with stripes := [(n, { y with waiting := [] })] } }) (m := m) (d := d)
    rfl (hwk.jnl rfl) (hwk.pair rfl) (fun f i => hwk.regs f i rfl) hh hb hg ho hl hv hd hns hlba hm hsw hmd ht hc hmv hp hr hcl
  have hlk : ∀ a b, State.lookup { s.cqeTaken x tag e with str := { s.str with stripes := [(n, { y with waiting := [] })] } } a b = s.lookup a b := fun _ _ => rfl
  have hmi : State.mirrored { s.cqeTaken x tag e with str := { s.str with stripes := [(n, { y with waiting := [] })] } } = s.mirrored := by
    unfold State.mirrored
    exact congrArg (fun v => decide (v = 1)) (hwk.regs JNL_NEVE_STATUS_pair_state 0 rfl)
  have hcb : State.chunkBlocks { s.cqeTaken x tag e with str := { s.str with stripes := [(n, { y with waiting := [] })] } } = s.chunkBlocks := rfl
  generalize ({ s.cqeTaken x tag e with str := { s.str with stripes := [(n, { y with waiting := [] })] } } : State) = u at *
  have od := ob.done
  rw [od.rest.switchResume, od.rest.pagesSettle, od.rest.relocSteps, ← hdrv] at e1
  rw [← e1] at od
  obtain ⟨hrest, hothers, hrec, hent⟩ := od
  rw [hmi, hcb] at hent
  rw [hcb] at hrec
  have hlt : t.lookup = (s.driveCqe (x % 32) tag 0 []).lookup := by
    funext a b
    rw [State.lookup, State.lookup, hts]
  refine ⟨t, ht', by rw [hts]; exact hrest.stripes, fun a b hab => ?_, by rw [htj]; exact hrec, ?_⟩
  · rw [hlt]
    exact (hothers a b hab).trans (hlk a b)
  · rw [hlt, htj]
    exact hent

end Sys2Proof.Machine
end

section
/-! PROOFS. The boot: labels taken, the map rebuilt, Névé replayed, serving. -/

namespace Sys2Proof.Machine

open F

/-! ## Labels -/

theorem noneReady (s : State) (h : ∀ x < 32, s.get DRV_PORT_STATUS_state x ≠ 3) :
    (List.range 32).filter (fun x => decide (s.get DRV_PORT_STATUS_state x = 3)) = [] :=
  List.filter_eq_nil_iff.mpr fun x hx => by simpa using h x (List.mem_range.mp hx)

theorem bootLabels_none (s : State) (h : ∀ x < 32, s.get DRV_PORT_STATUS_state x ≠ 3) : s.bootLabels = [] :=
  List.filterMap_eq_nil_iff.mpr fun x hx => by rw [if_pos (by simpa using h x (List.mem_range.mp hx))]

/-- With no ready drive the module waits on its own. -/
theorem drivesUp_none (s : State) (hs : s.get BOOT_STATUS_stage = 3) (hh : s.boot.held = false) (hn : ∀ x < 32, s.get DRV_PORT_STATUS_state x ≠ 3) :
    s.drivesUp = { s with boot := { s.boot with drivesUp := true } }.set BOOT_STATUS_stage 0 4 := by
  unfold State.drivesUp
  rw [if_neg (by simp [hs, hh]), bootLabels_none s hn]
  have e : (if ({ s with boot := { s.boot with drivesUp := true } }.set BOOT_STATUS_stage 0 4).pair.conflict then none
      else newestLabel (([] : List (Nat × DriveLabel)).map (·.2))) = none := ite_self _
  dsimp only
  rw [e]
  dsimp only
  rw [noneReady _ fun x hx => by
    rw [get_set_field _ _ _ _ (by decide)]
    exact hn x hx]
  rfl

theorem bootDrivesUp_none (s : State) (hs : s.get BOOT_STATUS_stage = 3) (hh : s.boot.held = false) (hn : ∀ x < 32, s.get DRV_PORT_STATUS_state x ≠ 3) :
    ∃ t, exec .bootDrivesUp s = .next t ∧ t.get BOOT_STATUS_stage = 4 ∧ t.boot.drivesUp = true ∧ t.str = s.str := by
  refine ⟨_, rfl, (get_only_in _ _ _ _ _ rfl).trans ?_, ?_, ?_⟩
  · rw [drivesUp_none s hs hh hn]
    exact get_set_same ..
  · show s.drivesUp.boot.drivesUp = true
    rw [drivesUp_none s hs hh hn]
    rfl
  · show s.drivesUp.str = _
    rw [drivesUp_none s hs hh hn]
    rfl

/-- The one ready drive gives the one label. -/
theorem bootLabels_one (s : State) (f : DriveFacts) (l : DriveLabel) (h5 : s.get DRV_PORT_STATUS_state 5 = 3)
    (hn : ∀ x < 32, x ≠ 5 → s.get DRV_PORT_STATUS_state x ≠ 3) (hf : (s.port 5).facts = some f) (hl : poolLabel f = some l) (hm : l.member = 5) :
    s.bootLabels = [(5, l)] := by
  have e : s.bootLabels = (List.range 32).filterMap fun x => if x = 5 then some (5, l) else none := by
    refine List.filterMap_congr fun x hx => ?_
    by_cases hx5 : x = 5
    · rw [hx5, if_neg (by simp [h5]), hf, Option.bind_some, hl, Option.bind_some, if_pos hm, if_pos rfl]
    · rw [if_pos (by simpa using hn x (List.mem_range.mp hx) hx5), if_neg hx5]
  rw [e]
  rfl

/-- Only the slot of a ready drive takes a state from its label. -/
theorem labelSlot_notReady (s : State) (p : DriveLabel) (ls : List (Nat × DriveLabel)) (x : Nat) (h : s.get DRV_PORT_STATUS_state x ≠ 3) :
    s.labelSlot p ls x = s := if_pos (by simpa using h)

theorem labelSlot_live (s : State) (p : DriveLabel) (x : Nat) (h : s.get DRV_PORT_STATUS_state x = 3) :
    s.labelSlot p [(x, p)] x = (s.set REB_MEMBER_state x 3).set STR_MEMBER_STATUS_live x 1 := by
  unfold State.labelSlot
  rw [if_neg (by simp [h])]
  simp

theorem each_append {α : Type} (s : State) (a b : List α) (f : State → α → State) : s.each (a ++ b) f = (s.each a f).each b f := List.foldl_append

theorem each_labelSlot (s : State) (p : DriveLabel) (h5 : s.get DRV_PORT_STATUS_state 5 = 3)
    (hn : ∀ x < 32, x ≠ 5 → s.get DRV_PORT_STATUS_state x ≠ 3) :
    s.each (List.range 32) (fun s x => s.labelSlot p [(5, p)] x) = (s.set REB_MEMBER_state 5 3).set STR_MEMBER_STATUS_live 5 1 := by
  have e : List.range 32 = List.range 5 ++ ([5] ++ List.range' 6 26) := by decide
  rw [e, each_append, each_append, each_id (List.range 5) _ s fun x hx => labelSlot_notReady s _ _ _ (hn x (by have := List.mem_range.mp hx; omega)
    (by have := List.mem_range.mp hx; omega))]
  show ((s.labelSlot p [(5, p)] 5).each _ _) = _
  rw [labelSlot_live s p 5 h5]
  refine each_id _ _ _ fun x hx => labelSlot_notReady _ _ _ _ ?_
  rw [get_set_field _ _ _ _ (by decide), get_set_field _ _ _ _ (by decide)]
  have hx := List.mem_range'_1.mp hx
  exact hn x (by omega) (by omega)

/-- What a change of the members writes beside where blocks are placed. -/
def groupsW : Writes := { parts := [.evt, .ctr], fields := membersW.fields }

theorem groupsW_groupsCheck (s : State) : Within groupsW s s.groupsCheck := by
  refine within_each _ _ _ fun s g => ?_
  dsimp only
  have hs : Within groupsW s (((s.set STR_GROUP_STATUS_k_cap g (s.kCap g)).set STR_GROUP_STATUS_k_cur g
      (s.kCur g)).set STR_GROUP_STATUS_blocked g (bit (s.groupBlocked g))) :=
    ((within_set s _ _ _ rfl).trans (within_set _ _ _ _ rfl)).trans (within_set _ _ _ _ rfl)
  exact within_ite _ (fun _ => (hs.trans (within_enter _ _ rfl)).trans (within_raise _ _ _ _ _ rfl rfl)) fun _ =>
    within_ite _ (fun _ => hs) fun _ => hs.trans (within_leave _ _ rfl)

theorem groupsW_calveCheck (s : State) : Within groupsW s s.calveCheck := by
  unfold State.calveCheck
  extract_lets start urgent stop f cur thr stays lev shown urged
  have h1 : Within groupsW s shown := within_set s _ _ _ rfl
  have h2 : Within groupsW s urged := h1.trans (within_ite _ (fun _ => within_raise _ _ _ _ _ rfl rfl) fun _ => .refl _ _)
  exact h2.trans (within_ite _ (fun _ => within_raise _ _ _ _ _ rfl rfl) fun _ => .refl _ _)

/-- A change of the members leaves the storage but for where blocks are placed. -/
theorem membersChanged_str (s : State) : s.membersChanged.str = { s.str with placed := s.membersChanged.str.placed } := by
  have e : s.membersChanged.str = s.rebuildTables.str := ((groupsW_groupsCheck _).trans (groupsW_calveCheck _)).str rfl
  rw [e]
  unfold State.rebuildTables
  split
  · rfl
  · rfl

/-- What the Crevasse list taken from the vault writes. -/
def crevLoadW : Writes := { parts := [.reb], fields := [REB_CREV_STATUS_generation, REB_CREV_STATUS_entries, REB_CREV_COUNT_lost_blocks,
  REB_CREV_COUNT_overflow, REB_CREV_STATUS_scanning] }

theorem within_crevLoad (s : State) : Within crevLoadW s s.crevLoad := by
  unfold State.crevLoad
  split
  · exact within_ite _ (fun _ => ((((within_reb s _ rfl).trans (within_set _ _ _ _ rfl)).trans (within_set _ _ _ _ rfl)).trans
      (within_set _ _ _ _ rfl)).trans (within_set _ _ _ _ rfl)) fun _ => within_set s _ _ _ rfl
  · exact within_set s _ _ _ rfl

/-- The label of the one ready drive makes the pool, the drive its live member. -/
theorem bootDrivesUp_one (s : State) (f : DriveFacts) (l : DriveLabel) (hs : s.get BOOT_STATUS_stage = 3) (hh : s.boot.held = false)
    (hc : s.pair.conflict = false) (h5 : s.get DRV_PORT_STATUS_state 5 = 3) (hn : ∀ x < 32, x ≠ 5 → s.get DRV_PORT_STATUS_state x ≠ 3)
    (hf : (s.port 5).facts = some f) (hl : poolLabel f = some l) (hm : l.member = 5) :
    ∃ t, exec .bootDrivesUp s = .next t ∧ t.get BOOT_STATUS_stage = 4 ∧ t.str.poolId = l.poolId ∧ t.str.chunk128 = l.chunk128 ∧
      t.get REB_MEMBER_state 5 = 3 ∧ t.get STR_MEMBER_STATUS_live 5 = 1 := by
  obtain ⟨u, hu, hr, hp, hk⟩ : ∃ u : State, s.drivesUp = ((u.each (List.range 32) fun s x => s.labelSlot l [(5, l)] x).crevLoad).membersChanged ∧
      u.regs = (s.set BOOT_STATUS_stage 0 4).regs ∧ u.str.poolId = l.poolId ∧ u.str.chunk128 = l.chunk128 := by
    unfold State.drivesUp
    rw [if_neg (by simp [hs, hh]), bootLabels_one s f l h5 hn hf hl hm]
    have e : (if ({ s with boot := { s.boot with drivesUp := true } }.set BOOT_STATUS_stage 0 4).pair.conflict then none
        else newestLabel ([(5, l)].map (·.2))) = some l := if_neg (by show ¬ s.pair.conflict = true; simp [hc])
    extract_lets ls up
    rw [e]
    exact ⟨_, rfl, rfl, rfl, rfl⟩
  have hd : ∀ x, u.get DRV_PORT_STATUS_state x = s.get DRV_PORT_STATUS_state x := fun x =>
    (get_congr hr _ _).trans (get_set_field _ _ _ _ (by decide))
  rw [each_labelSlot u l ((hd 5).trans h5) fun x hx h => by rw [hd]; exact hn x hx h] at hu
  have w := (within_crevLoad ((u.set REB_MEMBER_state 5 3).set STR_MEMBER_STATUS_live 5 1))
  have w2 := within_membersChanged (((u.set REB_MEMBER_state 5 3).set STR_MEMBER_STATUS_live 5 1)).crevLoad
  have hst : ∀ {α : Type} (P : Str → α), (∀ x p, P { x with placed := p } = P x) → P s.drivesUp.str = P u.str := by
    intro _ P hP
    rw [hu, membersChanged_str, hP, w.str rfl]
    rfl
  have hget : ∀ (g : Fld) i, membersW.field (g.key i) = false → crevLoadW.field (g.key i) = false →
      s.drivesUp.get g i = ((u.set REB_MEMBER_state 5 3).set STR_MEMBER_STATUS_live 5 1).get g i := fun g i h1 h2 => by
    rw [hu, w2.regs g i h1, w.regs g i h2]
  refine ⟨_, rfl, (get_only_in _ _ _ _ _ rfl).trans ?_, (hst (·.poolId) fun _ _ => rfl).trans hp, (hst (·.chunk128) fun _ _ => rfl).trans hk,
    (get_only_in _ _ _ _ _ rfl).trans ?_, (get_only_in _ _ _ _ _ rfl).trans ?_⟩
  · rw [hget _ _ rfl rfl, get_set_field _ _ _ _ (by decide), get_set_field _ _ _ _ (by decide), get_congr hr]
    exact get_set_same ..
  · rw [hget _ _ rfl rfl, get_set_field _ _ _ _ (by decide)]
    exact get_set_same ..
  · rw [hget _ _ rfl rfl]
    exact get_set_same ..

/-! ## The map rebuilt -/

/-- A pool whose labels cannot be read, or name no checkpoint, is given up. -/
theorem mapRebuildDone_unreadable (s : State) (found : Option Media) (readable : Bool) (hs : s.get BOOT_STATUS_stage = 4) (hp : s.str.poolId ≠ 0)
    (h : readable = false ∨ s.labelCkpt (found.getD s.jnl.media) = none) :
    ∃ t, exec (.mapRebuildDone found readable) s = .next t ∧ t.get BOOT_STATUS_stage = 5 ∧ t.str.poolId = 0 ∧
      Reports s t EV_REB_POOL_UNREADABLE 0 0 [] := by
  have e : s.mapRebuilt found readable = (s.set BOOT_STATUS_stage 0 5).poolUnreadable := by
    unfold State.mapRebuilt
    rw [if_neg (by simp [hs])]
    dsimp -zeta only
    extract_lets m u
    rw [if_neg (show ¬ u.str.poolId = 0 from hp)]
    have : (if readable = true then u.labelCkpt m else none) = none := by
      rcases h with h | h
      · rw [h]
        rfl
      · split
        · exact h
        · rfl
    rw [this]
  refine ⟨_, rfl, (get_only_in _ _ _ _ _ rfl).trans ?_, ?_, ?_⟩
  · rw [e, State.poolUnreadable, get_raise]
    exact get_set_same ..
  · show (s.mapRebuilt found readable).str.poolId = 0
    rw [e, State.poolUnreadable, raise_str]
  · refine (reports_raise (s := s) (u := { s.set BOOT_STATUS_stage 0 5 with str := { s.str with poolId := 0 } }) _ 0 0 [] rfl rfl fun f i hf => ?_).congr ?_
    · refine get_set_other s _ fun hk => ?_
      have := congrArg RKey.reg hk
      simp only [Fld.key] at this
      rw [← this] at hf
      exact absurd hf (by decide)
    · show (s.mapRebuilt found readable).evt = _
      rw [e]
      rfl

end Sys2Proof.Machine
end

section
/-! PROOFS. The map rebuilt from a checkpoint without segments and without records after it. -/

namespace Sys2Proof.Machine

open F

theorem tenants_each (l : List (Nat × Nat × Nat × Nat)) (s : State) :
    Within tenantW s (s.each l fun s (t, a, b, e) => s.tenantSet t a b e) ∧
      ∃ z, (s.each l fun s (t, a, b, e) => s.tenantSet t a b e).nsm = { s.nsm with tenants := z } := by
  induction l generalizing s with
  | nil => exact ⟨.refl _ _, s.nsm.tenants, rfl⟩
  | cons x l ih =>
    obtain ⟨h1, -, -, z, h2⟩ := tenantSet_after s x.1 x.2.1 x.2.2.1 x.2.2.2
    obtain ⟨h3, y, h4⟩ := ih (s.tenantSet x.1 x.2.1 x.2.2.1 x.2.2.2)
    exact ⟨h1.trans h3, y, h4.trans (by rw [h2])⟩

/-- The keys of the namespaces follow the table; those missing are reported. -/
theorem within_nsKeys (s : State) : Within { parts := [.evt, .ctr, .key] } s s.nsKeys := by
  have ha : ∀ (s : State) k a c, Within { parts := [.evt, .ctr, .key] } s (s.slotAwaited k a c) := fun s k a c =>
    within_ite _ (fun _ => .refl _ _) fun _ => (within_key s _ rfl).trans (within_raise _ _ _ _ _ rfl rfl)
  refine (within_each _ _ _ fun s e => ?_).trans (within_each _ _ _ fun s i => within_key s _ rfl)
  obtain ⟨i, n⟩ := e
  dsimp only
  split
  · exact (ha _ _ _ _).trans (ha _ _ _ _)
  · exact ha _ _ _ _

/-- What the rest of a map's rebuilding writes where no segment is known. -/
def rebuiltW : Writes := { parts := [.evt, .ctr, .key, .str, .reb], fields := membersW.fields ++ [REB_STATUS_state, REB_STATUS_seg_done] }

theorem replayHeads_empty (s : State) (h : s.str.segs = []) : s.replayHeads = { s with str := { s.str with heads := [] } } := by
  unfold State.replayHeads
  dsimp only
  rw [h]
  rfl

theorem missingMembers_empty (s : State) (h : s.str.segs = []) : s.missingMembers = s := by
  unfold State.missingMembers
  rw [h]
  rfl

theorem rebQueue_empty (s : State) (h : s.str.segs = []) : s.rebQueue = [] := by
  unfold State.rebQueue
  rw [h]
  rfl

theorem zeroMargin_empty (s : State) (h : s.str.segs = []) : s.zeroMargin = s := by
  unfold State.zeroMargin
  rw [rebQueue_empty s h]
  rfl

/-- The last part of a map's rebuilding, without segments: the map stays. -/
theorem rebuilt_rest (s : State) (h : s.str.segs = []) :
    Within rebuiltW s ((((s.replayHeads.nsKeys).missingMembers).membersChanged.rebCheck).zeroMargin) ∧
      ((((s.replayHeads.nsKeys).missingMembers).membersChanged.rebCheck).zeroMargin).str.map = s.str.map := by
  rw [replayHeads_empty s h]
  have hk := within_nsKeys { s with str := { s.str with heads := [] } }
  have hks : ({ s with str := { s.str with heads := [] } } : State).nsKeys.str = { s.str with heads := [] } := hk.str rfl
  rw [missingMembers_empty _ (by rw [hks]; exact h)]
  have hm := within_membersChanged ({ s with str := { s.str with heads := [] } } : State).nsKeys
  have hms := membersChanged_str ({ s with str := { s.str with heads := [] } } : State).nsKeys
  rw [hks] at hms
  have hr := within_rebCheck ({ s with str := { s.str with heads := [] } } : State).nsKeys.membersChanged
  have hrs : (({ s with str := { s.str with heads := [] } } : State).nsKeys.membersChanged.rebCheck).str = _ := hr.str rfl
  rw [zeroMargin_empty _ (by rw [hrs, hms]; exact h)]
  refine ⟨?_, by rw [hrs, hms]⟩
  have h0 : Within rebuiltW s { s with str := { s.str with heads := [] } } := within_str s _ rfl
  exact ((h0.trans (hk.widen (by decide) (by decide) (by decide))).trans (hm.widen (by decide) (by decide) (by decide))).trans
    (hr.widen (by decide) (by decide) (by decide))

/-- What a checkpoint without segments and records gives. -/
structure Rebuilt (s : State) (m : Media) (c : Checkpoint) (t : State) : Prop where
  stage     : t.get BOOT_STATUS_stage = 5
  ns        : t.nsm.ns = c.ns
  recorded  : t.nsm.recorded = c.mgmt.2.2
  dels      : t.nsm.dels = c.dels
  accepted  : t.get GLB_MGMT_SEQ_last_accepted = c.mgmt.1 % 2 ^ 32
  completed : t.get GLB_MGMT_SEQ_last_completed = c.mgmt.2.1 % 2 ^ 32
  next      : t.get JNL_FIRN_SEQ_next_seq = max (c.seq + 1) c.replayStart % 2 ^ JNL_FIRN_SEQ_next_seq.w
  map       : t.str.map = mediaMap (m.pages.filter fun e => (tget c.dirs e.1).isSome)

theorem candDumps_stage (s : State) (v : Nat) : (s.set BOOT_STATUS_stage 0 v).candDumps = s.candDumps := by
  unfold State.candDumps State.bayB
  rw [flag_set_field _ _ _ _ (by decide)]
  rfl

theorem replayRecs_none (s : State) (m : Media) (q : Nat) (hm : m.firn = []) (hd : s.candDumps = []) : s.replayRecs m q = ([], []) := by
  unfold State.replayRecs
  rw [hm, hd]
  rfl

theorem pages_found (l : Table (Nat × Nat) MapPage) (f : MapPage → MapPage) (k : Nat × Nat) :
    (tget (l.map fun (k, x) => (k, f x)) k).isSome = (tget l k).isSome := by
  induction l with
  | nil => rfl
  | cons e l ih =>
    obtain ⟨a, b⟩ := e
    rw [List.map_cons, tget_cons, tget_cons]
    split
    · rfl
    · exact ih

theorem mapRebuilt_rebuilt (s : State) (m : Media) (c : Checkpoint) (hs : s.get BOOT_STATUS_stage = 4) (hp : s.str.poolId ≠ 0)
    (hc : s.labelCkpt m = some c) (hm : m.firn = []) (hd : s.candDumps = []) (hg : c.segs = []) : Rebuilt s m c (s.mapRebuilt (some m) true) := by
  have hcd : (s.set BOOT_STATUS_stage 0 5).candDumps = [] := (candDumps_stage s 5).trans hd
  unfold State.mapRebuilt
  rw [if_neg (by simp [hs])]
  extract_lets f u
  rw [if_neg (show ¬ u.str.poolId = 0 from hp)]
  have e : (if true = true then u.labelCkpt f else none) = some c := hc
  rw [e]
  dsimp -zeta only
  rw [replayRecs_none u f c.replayStart hm hcd, show u.candDumps = [] from hcd]
  extract_lets rs last next base tens seqd tabs dirs _ mapped v
  obtain ⟨ht, z, htn⟩ := tenants_each c.tenants base
  have ht : Within tenantW base tens := ht
  have htn : tens.nsm = { base.nsm with tenants := z } := htn
  have hv : ∃ q, v = { mapped with jnl := { mapped.jnl with lastSeq := q }, str := { mapped.str with segs := [] } } := by
    refine ⟨(State.replayTable mapped dirs []).jnl.lastSeq, ?_⟩
    show State.replaySegs (State.replayTable mapped dirs []) f = _
    have hms : mapped.str.segs = [] := (congrArg Str.segs (ht.str rfl : tens.str = base.str)).trans hg
    unfold State.replaySegs
    dsimp only
    rw [show (State.replayTable mapped dirs []).str = mapped.str from rfl, hms]
    rfl
  obtain ⟨q, hv⟩ := hv
  obtain ⟨hw, hmap⟩ := rebuilt_rest v (by rw [hv])
  have hreg : ∀ g i, rebuiltW.field (Fld.key g i) = false → (((v.replayHeads.nsKeys.missingMembers).membersChanged.rebCheck).zeroMargin).get g i =
      seqd.get g i := fun g i h => by
    rw [hw.regs g i h, hv]
    rfl
  have hn : (((v.replayHeads.nsKeys.missingMembers).membersChanged.rebCheck).zeroMargin).nsm = { base.nsm with tenants := z } := by
    rw [hw.nsm rfl, hv, ← htn]
    rfl
  refine ⟨?_, by rw [hn], by rw [hn], by rw [hn], ?_, ?_, ?_, ?_⟩
  · rw [hreg _ _ rfl]
    show (((tens.set _ _ _).set _ _ _).set _ _ _).get _ _ = _
    rw [get_set_field _ _ _ _ (by decide), get_set_field _ _ _ _ (by decide), get_set_field _ _ _ _ (by decide), ht.regs _ _ rfl]
    exact get_set_same ..
  · rw [hreg _ _ rfl]
    show (((tens.set _ _ _).set _ _ _).set _ _ _).get _ _ = _
    rw [get_set_field _ _ _ _ (by decide), get_set_field _ _ _ _ (by decide)]
    exact get_set_same ..
  · rw [hreg _ _ rfl]
    show (((tens.set _ _ _).set _ _ _).set _ _ _).get _ _ = _
    rw [get_set_field _ _ _ _ (by decide)]
    exact get_set_same ..
  · rw [hreg _ _ rfl]
    exact (get_set_same ..).trans (congrArg (fun n => max (c.seq + 1) n % 2 ^ JNL_FIRN_SEQ_next_seq.w) (by
      show max c.replayStart 0 = c.replayStart
      exact Nat.max_zero _))
  · rw [hmap, hv]
    show mediaMap (f.pages.filter fun e => (tget dirs e.1).isSome) = _
    refine congrArg mediaMap (List.filter_congr fun e _ => ?_)
    have hdirs : dirs = c.dirs.map fun (k, (x : MapPage)) => (k, { x with cached := false, dirty := false, reading := false }) :=
      congrArg Str.pages (ht.str rfl : tens.str = base.str)
    rw [hdirs]
    exact pages_found c.dirs (fun x => { x with cached := false, dirty := false, reading := false }) e.1

theorem mapRebuildDone_rebuilt (s : State) (m : Media) (c : Checkpoint) (hs : s.get BOOT_STATUS_stage = 4) (hp : s.str.poolId ≠ 0)
    (hc : s.labelCkpt m = some c) (hm : m.firn = []) (hd : s.candDumps = []) (hg : c.segs = []) :
    ∃ t, exec (.mapRebuildDone (some m) true) s = .next t ∧ Rebuilt s m c t := by
  obtain ⟨h1, h2, h3, h4, h5, h6, h7, h8⟩ := mapRebuilt_rebuilt s m c hs hp hc hm hd hg
  exact ⟨_, rfl, (get_only_in _ _ _ _ _ rfl).trans h1, h2, h3, h4, (get_only_in _ _ _ _ _ rfl).trans h5, (get_only_in _ _ _ _ _ rfl).trans h6,
    (get_only_in _ _ _ _ _ rfl).trans h7, h8⟩

end Sys2Proof.Machine
end

section
/-! PROOFS. Névé replayed and the record of the boot. -/

namespace Sys2Proof.Machine

open F

/-- What shows the number and the count of the records does not enter a record. -/
theorem rimeBody_shown (s : State) (a b k o m : Nat) (torn : Bool) :
    ((s.set BOOT_RIME_STATUS_record_count 0 a).set BOOT_RIME_SEQ_last_seq 0 b).rimeBody k torn o m = s.rimeBody k torn o m := by
  have h : ∀ g j, (BOOT_RIME_STATUS_record_count.reg, BOOT_RIME_STATUS_record_count.lo) ≠ (Fld.reg g, g.lo) →
      (BOOT_RIME_SEQ_last_seq.reg, BOOT_RIME_SEQ_last_seq.lo) ≠ (g.reg, g.lo) →
      ((s.set BOOT_RIME_STATUS_record_count 0 a).set BOOT_RIME_SEQ_last_seq 0 b).get g j = s.get g j := fun g j h1 h2 => by
    rw [get_set_field _ _ _ _ h2, get_set_field _ _ _ _ h1]
  unfold State.rimeBody State.meas State.runImage State.runBank State.flag
  simp (disch := decide) only [h]
  rfl

/-- What is left of the boot's replay once Névé is replayed: the record of the boot, the ports. -/
def State.recorded (s : State) (pkgs : Nat) : State :=
  let s := (s.set BOOT_RIME_STATUS_record_count 0 s.rime.records.length).set BOOT_RIME_SEQ_last_seq 0 (s.rime.nextSeq - 1)
  let s := s.rimeAppend 1 (false && s.flag BOOT_RIME_STATUS_prior_torn) 0 0 pkgs
  let s := s.set BOOT_RIME_STATUS_boot_count 0 s.boot.count
  if pkgs % 4 = 0 then s.bootHold
  else
    let s := { s with boot := { s.boot with raised := false } }.set BOOT_STATUS_stage 0 7
    let s := ((s.mdDrain s.jnl.mdQueue.length).coldDrain).hifStart
    if s.pairShelf && !s.pair.conflict then s.set PAIR_STATUS_state 0 1 else s

theorem replayDone_eq (s : State) (a b : List Nat) (pkgs : Nat) (h : s.get BOOT_STATUS_stage = 5) :
    s.replayDone a b false pkgs = (if s.str.poolId = 0 then s else s.neveReplay a b).recorded pkgs := by
  unfold State.replayDone
  rw [if_neg (by simp [h])]
  rfl

/-- Whether the log already holds as many records as it may. -/
theorem rimeAppend_both (s : State) (k o m : Nat) (torn : Bool) (hl : s.rime.records.length < 65536) :
    (s.rimeAppend k torn o m 3).rime.records = s.rime.records ++ [s.rimeBody k torn o m ++ ecdsaSign (recordChain (s.rimeBody k torn o m))] ∧
    (s.rimeAppend k torn o m 3).rime.chain = recordChain (s.rimeBody k torn o m) ∧ (s.rimeAppend k torn o m 3).get BOOT_RIME_STATUS_state = 1 ∧
    (s.rimeAppend k torn o m 3).evt = s.evt := by
  have hm : ∀ (s : State) v, Within { fields := [BOOT_MEAS_data] } s (s.setMeas 8 v) := fun s v => within_each _ _ _ fun s j => within_set _ _ _ _ rfl
  have hfull : decide (65536 < (s.rime.records ++ [s.rimeBody k torn o m ++ ecdsaSign (recordChain (s.rimeBody k torn o m))]).length) = false := by
    rw [List.length_append]
    exact decide_eq_false (by simpa using hl)
  unfold State.rimeAppend
  rw [if_neg (by decide)]
  extract_lets body c l full _ r _ shown u
  have hd : Within { fields := [BOOT_MEAS_data] } (shown.set BOOT_RIME_SEQ_last_seq 0 (r.nextSeq - 1)) u := hm _ (leNat (digestBytes c))
  rw [if_pos (by decide)]
  have hr : u.rime = r := hd.rime rfl
  have hf : full = false := hfull
  refine ⟨by rw [hr]; show (if full then _ else l) = _; rw [hf]; rfl, by rw [hr], ?_, hd.evt rfl⟩
  rw [hd.regs _ _ rfl, get_set_field _ _ _ _ (by decide), get_set_field _ _ _ _ (by decide)]
  exact get_set_same ..

theorem within_hifStart (s : State) : Within { parts := [.qpe, .nsm], fields := qpeLive ++ [HIF_CTRL_STATUS_cfs, HIF_CTRL_STATUS_rdy] } s s.hifStart := by
  refine within_ite _ (fun _ => ?_) fun _ => .refl _ _
  unfold State.hifAdmin State.adminUp
  split
  · next v h =>
    split at h
    · exact absurd h (by simp)
    · split at h
      · exact absurd h (by simp)
      · next q _ =>
        rw [Option.some.injEq] at h
        rw [← h]
        exact (((((within_qpe s _ rfl : Within _ s (s.putQp q _)).trans (within_set _ QPE_STATUS_cmds_in_flight _ _ rfl)).trans
          (within_set _ QPE_STATUS_qps_in_use _ _ rfl)).trans (within_nsm _ _ rfl))).trans (within_set _ _ _ _ rfl)
  · exact within_set s _ _ _ rfl

/-- The boot recorded in both packages, with no block waiting: the module stands at stage 7. -/
structure Recorded (s t : State) : Prop where
  stage   : t.get BOOT_STATUS_stage = 7
  nextSeq : t.rime.nextSeq = s.rime.nextSeq + 1
  jnl     : t.jnl = s.jnl
  str     : t.str = s.str
  log     : s.rime.records.length < 65536 →
    t.rime.records = s.rime.records ++ [s.rimeBody 1 false 0 0 ++ ecdsaSign (recordChain (s.rimeBody 1 false 0 0))] ∧
    t.rime.chain = recordChain (s.rimeBody 1 false 0 0) ∧ t.get BOOT_RIME_STATUS_state = 1 ∧ t.evt = s.evt

theorem recorded_both (s : State) (hmd : s.jnl.mdQueue = []) (hc : s.str.cold = []) : Recorded s (s.recorded 3) := by
  unfold State.recorded
  extract_lets u logged counted _ v up
  rw [if_neg (by decide)]
  obtain ⟨hn, hw⟩ := rimeAppend_after u 1 (false && u.flag BOOT_RIME_STATUS_prior_torn) 0 0 3 (by decide)
  have hn : logged.rime.nextSeq = s.rime.nextSeq + 1 := hn
  have hw : Within { parts := [.evt, .ctr, .rime], fields := bootLive } u logged := hw
  have hbody : u.rimeBody 1 (false && u.flag BOOT_RIME_STATUS_prior_torn) 0 0 = s.rimeBody 1 false 0 0 := rimeBody_shown s _ _ 1 0 0 false
  have hlog := rimeAppend_both u 1 0 0 (false && u.flag BOOT_RIME_STATUS_prior_torn)
  rw [hbody] at hlog
  have hlog : s.rime.records.length < 65536 →
      logged.rime.records = s.rime.records ++ [s.rimeBody 1 false 0 0 ++ ecdsaSign (recordChain (s.rimeBody 1 false 0 0))] ∧
      logged.rime.chain = recordChain (s.rimeBody 1 false 0 0) ∧ logged.get BOOT_RIME_STATUS_state = 1 ∧ logged.evt = s.evt := hlog
  clear_value logged
  have hvj : v.jnl = s.jnl := hw.jnl rfl
  have hvs : v.str = s.str := hw.str rfl
  have hup : up = v.hifStart := by
    show ((v.mdDrain v.jnl.mdQueue.length).coldDrain).hifStart = _
    have e : v.mdDrain v.jnl.mdQueue.length = v := by
      rw [hvj, hmd]
      rfl
    rw [e, coldDrain_none v (by rw [hvs]; exact hc)]
  have hh := within_hifStart v
  rw [← hup] at hh
  have ht : Within { fields := [PAIR_STATUS_state] } up (if up.pairShelf && !up.pair.conflict then up.set PAIR_STATUS_state 0 1 else up) :=
    within_ite _ (fun _ => within_set _ _ _ _ rfl) fun _ => .refl _ _
  generalize (if up.pairShelf && !up.pair.conflict then up.set PAIR_STATUS_state 0 1 else up) = t at ht ⊢
  have hreg : ∀ (f : Fld) i, (f.reg, f.lo) ≠ (BOOT_STATUS_stage.reg, BOOT_STATUS_stage.lo) →
      (f.reg, f.lo) ≠ (BOOT_RIME_STATUS_boot_count.reg, BOOT_RIME_STATUS_boot_count.lo) → ({ fields := [PAIR_STATUS_state] } : Writes).field (f.key i) = false →
      ({ parts := [.qpe, .nsm], fields := qpeLive ++ [HIF_CTRL_STATUS_cfs, HIF_CTRL_STATUS_rdy] } : Writes).field (f.key i) = false →
      t.get f i = logged.get f i := fun f i h1 h2 h3 h4 => by
    rw [ht.regs f i h3, hh.regs f i h4]
    show (State.set _ _ _ _).get f i = _
    rw [get_set_field _ _ _ _ h1.symm]
    exact get_set_field _ _ _ _ h2.symm
  have hrime : t.rime = logged.rime := (ht.rime rfl).trans ((hh.rime rfl).trans rfl)
  refine ⟨?_, by rw [hrime, hn], (ht.jnl rfl).trans ((hh.jnl rfl).trans hvj), (ht.str rfl).trans ((hh.str rfl).trans hvs), fun hl => ?_⟩
  · rw [ht.regs _ _ rfl, hh.regs _ _ rfl]
    exact get_set_same ..
  · obtain ⟨h1, h2, h3, h4⟩ := hlog hl
    refine ⟨by rw [hrime]; exact h1, by rw [hrime]; exact h2, ?_, (ht.evt rfl).trans ((hh.evt rfl).trans h4)⟩
    rw [hreg _ _ (by decide) (by decide) rfl rfl]
    exact h3

theorem replayDone_noPool (s : State) (hs : s.get BOOT_STATUS_stage = 5) (hp : s.str.poolId = 0) (hl : s.rime.records.length < 65536)
    (hmd : s.jnl.mdQueue = []) (hc : s.str.cold = []) :
    ∃ t, exec (.replayDone [] [] false 3) s = .next t ∧ t.get BOOT_STATUS_stage = 7 ∧ t.rime.nextSeq = s.rime.nextSeq + 1 ∧
      t.rime.records = s.rime.records ++ [s.rimeBody 1 false 0 0 ++ ecdsaSign (recordChain (s.rimeBody 1 false 0 0))] ∧
      t.rime.chain = recordChain (s.rimeBody 1 false 0 0) ∧ t.get BOOT_RIME_STATUS_state = 1 ∧ t.evt = s.evt := by
  have e := replayDone_eq s [] [] 3 hs
  rw [if_pos hp] at e
  obtain ⟨h1, h2, -, -, h⟩ := recorded_both s hmd hc
  obtain ⟨h3, h4, h5, h6⟩ := h hl
  rw [← e] at h1 h2 h3 h4 h5 h6
  exact ⟨_, rfl, (get_only_in _ _ _ _ _ rfl).trans h1, h2, h3, h4, (get_only_in _ _ _ _ _ rfl).trans h5, h6⟩

/-- No package takes the record: the module holds. -/
theorem replayDone_unrecorded (s : State) (hs : s.get BOOT_STATUS_stage = 5) (hp : s.str.poolId = 0) :
    ∃ t, exec (.replayDone [] [] false 0) s = .next t ∧ t.get BOOT_STATUS_stage = 0xA ∧ t.boot.held = true ∧ t.rime.records = s.rime.records ∧
      Reports s t EV_BOOT_RIME_FAIL 0 0 [] := by
  have e := replayDone_eq s [] [] 0 hs
  rw [if_pos hp] at e
  have hst : (s.recorded 0).get BOOT_STATUS_stage = 0xA := get_set_same ..
  rw [← e] at hst
  refine ⟨_, rfl, (get_only_in _ _ _ _ _ rfl).trans hst, congrArg (·.boot.held) e, congrArg (·.rime.records) e, ?_⟩
  refine (reports_raise (s := s) (u := ((s.set BOOT_RIME_STATUS_record_count 0 s.rime.records.length).set BOOT_RIME_SEQ_last_seq 0
    (s.rime.nextSeq - 1)).set BOOT_RIME_STATUS_state 0 3) EV_BOOT_RIME_FAIL 0 0 [] rfl rfl fun f i hf => ?_).congr (congrArg (·.evt) e)
  have hne : ∀ g : Fld, g.reg / 0x100000 ≠ 2 → (g.reg, g.lo) ≠ (f.reg, f.lo) := fun g hg h => hg (by rw [(Prod.mk.inj h).1, hf])
  rw [get_set_field _ _ _ _ (hne _ (by decide)), get_set_field _ _ _ _ (hne _ (by decide)), get_set_field _ _ _ _ (hne _ (by decide))]

end Sys2Proof.Machine
end

section
/-! PROOFS. A kept entry of Névé goes back to its slot and its block's entry. -/

namespace Sys2Proof.Machine

open F

/-- The slots, the blocks waiting for a head and the map are as they were, and every record kept for later is still kept. -/
structure SameBlocks (s t : State) : Prop where
  slots   : t.jnl.slots = s.jnl.slots
  mdQueue : t.jnl.mdQueue = s.jnl.mdQueue
  map     : t.str.map = s.str.map
  cold    : t.str.cold = s.str.cold
  parked  : s.jnl.parked ⊆ t.jnl.parked
  reqs    : s.jnl.reqs ⊆ t.jnl.reqs

theorem SameBlocks.of_eq {s t : State} (hs : t.jnl.slots = s.jnl.slots) (hq : t.jnl.mdQueue = s.jnl.mdQueue) (hm : t.str.map = s.str.map)
    (hc : t.str.cold = s.str.cold) (hp : t.jnl.parked = s.jnl.parked) (hr : t.jnl.reqs = s.jnl.reqs) : SameBlocks s t :=
  ⟨hs, hq, hm, hc, hp ▸ List.Subset.refl _, hr ▸ List.Subset.refl _⟩

theorem SameBlocks.refl (s : State) : SameBlocks s s := .of_eq rfl rfl rfl rfl rfl rfl

theorem SameBlocks.trans {s t u : State} (h : SameBlocks s t) (k : SameBlocks t u) : SameBlocks s u :=
  ⟨k.slots.trans h.slots, k.mdQueue.trans h.mdQueue, k.map.trans h.map, k.cold.trans h.cold, List.Subset.trans h.parked k.parked, List.Subset.trans h.reqs k.reqs⟩

theorem SameBlocks.after {s t u : State} (k : SameBlocks t u) (h : SameBlocks s t) : SameBlocks s u := h.trans k

theorem SameBlocks.of_within {w : Writes} {s t : State} (h : Within w s t) (hj : w.part .jnl = false) (hs : w.part .str = false) : SameBlocks s t :=
  .of_eq (by rw [h.jnl hj]) (by rw [h.jnl hj]) (by rw [h.str hs]) (by rw [h.str hs]) (by rw [h.jnl hj]) (by rw [h.jnl hj])

theorem SameBlocks.ite {c : Prop} [Decidable c] {s a b : State} (h : SameBlocks s a) (k : SameBlocks s b) : SameBlocks s (if c then a else b) := by
  split
  · exact h
  · exact k

theorem sameBlocks_pairSend (s : State) (m : PairMsg) : SameBlocks s (s.pairSend m) := .of_within (pairSend_pairW s m) rfl rfl

theorem sameBlocks_segEnter (s : State) (r : FirnRec) : SameBlocks s (s.segEnter r) := by
  unfold State.segEnter State.enterSegState
  split
  · split
    · exact .of_eq rfl rfl rfl rfl rfl rfl
    · exact .of_eq rfl rfl rfl rfl rfl rfl
  · exact .refl s

theorem sameBlocks_firnSettle (s : State) (r : FirnRec) : SameBlocks s (s.firnSettle r) := by
  unfold State.firnSettle
  split
  · exact .of_eq rfl rfl rfl rfl rfl rfl
  · exact .refl s

theorem sameBlocks_firnAppendWith {enter commit : State → FirnRec → State} (he : ∀ s r, SameBlocks s (enter s r))
    (hc : ∀ s r, SameBlocks s (commit s r)) (s : State) (o : Nat) (b : FirnBody) : SameBlocks s (s.firnAppendWith enter commit o b) := by
  refine .ite (.ite ((sameBlocks_pairSend _ _).after ⟨rfl, rfl, rfl, rfl, List.Subset.refl _, List.subset_append_left _ _⟩)
    ⟨rfl, rfl, rfl, rfl, List.subset_append_left _ _, List.Subset.refl _⟩) (.ite ?_ ?_)
  · extract_lets _ parked
    have h : SameBlocks s parked := ⟨rfl, rfl, rfl, rfl, List.subset_append_left _ _, List.Subset.refl _⟩
    exact h.trans (.ite ((SameBlocks.of_within ((within_raise _ _ _ _ _ rfl rfl).trans (within_enter _ _ rfl) :
      Within { parts := [.evt, .ctr] } _ _) rfl rfl).after (.of_eq rfl rfl rfl rfl rfl rfl)) (.refl _))
  · unfold State.firnPushWith
    extract_lets q r numbered _ placed mirrored entered
    have h1 : SameBlocks s placed := .of_eq rfl rfl rfl rfl rfl rfl
    have h2 : SameBlocks placed mirrored := .ite (sameBlocks_pairSend _ _) (.refl _)
    have h3 : SameBlocks s entered := (h1.trans h2).trans (he _ _)
    exact .ite h3 (h3.trans (hc _ _))

theorem sameBlocks_segAppend (s : State) (o i : Nat) (g : Option Seg) : SameBlocks s (s.segAppend o i g) :=
  sameBlocks_firnAppendWith sameBlocks_segEnter sameBlocks_firnSettle s o _

theorem sameBlocks_releaseSeg (s : State) (i : Nat) : SameBlocks s (s.releaseSeg i) := by
  unfold State.releaseSeg
  split
  · exact .refl s
  · refine .ite (.refl s) ?_
    extract_lets appended counted
    have hw : Within { parts := [.ctr], fields := [REB_STATUS_seg_done] } appended counted :=
      within_ite _ (fun _ => (within_bump _ _ _ rfl).trans (within_set _ _ _ _ rfl)) fun _ => .refl _ _
    have h : SameBlocks appended counted := .of_within hw rfl rfl
    have hr := SameBlocks.of_within (within_rebCheck { counted with
      str := { counted.str with victims := counted.str.victims.filter (· != i), moving := tdel counted.str.moving i }
      reb := { counted.reb with bad := counted.reb.bad.filter (· != i), work := tdel counted.reb.work i, evac := counted.reb.evac.filter (· != i) } }) rfl rfl
    exact hr.after (SameBlocks.trans ((sameBlocks_segAppend _ _ _ _).trans h) (.of_eq rfl rfl rfl rfl rfl rfl))

theorem sameBlocks_releaseIdle (s : State) (i : Nat) : SameBlocks s (s.releaseIdle i) := by
  unfold State.releaseIdle
  split
  · exact .refl s
  · exact .ite (sameBlocks_releaseSeg _ _) (.refl s)

theorem sameBlocks_liveDown (s : State) (i : Nat) : SameBlocks s (s.liveDown i) := by
  unfold State.liveDown
  split
  · exact .refl s
  · exact .ite ((sameBlocks_releaseIdle _ _).after (.of_eq rfl rfl rfl rfl rfl rfl)) (.of_eq rfl rfl rfl rfl rfl rfl)

theorem sameBlocks_crevHeal (s : State) (nsid a n : Nat) : SameBlocks s (s.crevHeal nsid a n) := by
  have hw : Within { parts := [.ctr, .reb], fields := [REB_CREV_COUNT_overflow, REB_CREV_STATUS_generation, REB_CREV_STATUS_entries] } s
      (s.crevTake nsid a n) := by
    refine (within_each _ _ _ fun s c => ?_).trans (((within_set _ _ _ _ rfl).trans (within_set _ _ _ _ rfl)).trans (within_reb _ _ rfl))
    exact (within_bump s _ _ rfl).trans (within_ite _ (fun _ => (within_reb _ _ rfl).trans (within_addSat _ _ _ _ rfl)) fun _ => within_reb _ _ rfl)
  exact .ite ((SameBlocks.of_within hw rfl rfl).trans (sameBlocks_pairSend _ _)) (.refl s)

theorem sameBlocks_liveUp (s : State) (i : Nat) : SameBlocks s (s.liveUp i) := by
  unfold State.liveUp
  split
  · exact .refl s
  · exact .of_eq rfl rfl rfl rfl rfl rfl

/-- The map with one block's entry put. -/
def entryPut (l : Table (Nat × Nat) MapEnt) (k : Nat × Nat) : MapEnt → Table (Nat × Nat) MapEnt
  | .unmapped => tdel l k
  | e => tput l k e

/-- A block's entry put changes the map by that entry alone; what the old and the new entry count follows. -/
theorem mapPut_entry (s : State) (ns lba : Nat) (e : MapEnt) :
    SameBlocks { s with str := { s.str with map := entryPut s.str.map (ns, lba) e } } (s.mapPut ns lba e) := by
  unfold State.mapPut
  extract_lets _ old put lived
  have hput : SameBlocks { s with str := { s.str with map := entryPut s.str.map (ns, lba) e } } put := by
    cases e <;> exact .of_eq rfl rfl rfl rfl rfl rfl
  have hlived : SameBlocks put lived := by
    unfold lived
    split
    · exact sameBlocks_liveUp _ _
    · exact .refl _
  refine (hput.trans hlived).trans ?_
  clear_value old lived
  cases old with
  | member k g o => exact sameBlocks_liveDown _ _
  | lost g o =>
    dsimp only
    split
    · exact .refl _
    · exact sameBlocks_crevHeal _ _ _ _
    · exact .refl _
  | unmapped => exact .refl _
  | neve k i => exact .refl _

/-- A block's entry that names a Névé slot is put: its block leads there, the slots stay. -/
theorem mapPut_neve (s : State) (ns lba i : Nat) (k : Bool) : (s.mapPut ns lba (.neve k i)).jnl.slots = s.jnl.slots ∧
    (s.mapPut ns lba (.neve k i)).jnl.mdQueue = s.jnl.mdQueue ∧ (s.mapPut ns lba (.neve k i)).str.cold = s.str.cold ∧
    (s.mapPut ns lba (.neve k i)).lookup ns lba = .neve k i := by
  have h := mapPut_entry s ns lba (.neve k i)
  refine ⟨h.slots, h.mdQueue, h.cold, ?_⟩
  rw [State.lookup, h.map]
  exact congrArg (fun o => Option.getD o MapEnt.unmapped) (tget_tput_same _ _ _)

theorem replayOwn_kept (s : State) (k : Kept) (hg : s.nsGone k = false) (hsu : s.superseded k.desc = false)
    (hq : tget s.jnl.lastSeq (k.desc.ns, k.desc.lba) = none) (hd : k.slot.dataOk = true) (hmd : s.jnl.mdQueue = []) (hc : s.str.cold = []) :
    tget (s.replayOwn [k] [] k).jnl.slots k.idx = some { state := .committed, desc := some k.desc, data := k.slot.data } ∧
    (s.replayOwn [k] [] k).jnl.mdQueue = [] ∧ (s.replayOwn [k] [] k).str.cold = [] ∧
    (s.replayOwn [k] [] k).lookup k.desc.ns k.desc.lba = .neve k.desc.kgen k.idx := by
  unfold State.replayOwn
  dsimp only
  rw [hg, hsu, hq, hd, if_neg (by decide), if_neg (by decide), if_neg Bool.false_ne_true, if_neg (by simp), if_neg (by simp)]
  obtain ⟨h1, h2, h3, h4⟩ := mapPut_neve { s with jnl := { s.jnl with
    slots := tput s.jnl.slots k.idx { state := .committed, desc := some k.desc, data := k.slot.data }, restored := k.idx :: s.jnl.restored } }
    k.desc.ns k.desc.lba k.idx k.desc.kgen
  exact ⟨by rw [h1]; exact tget_tput_same _ _ _, h2.trans hmd, h3.trans hc, h4⟩

theorem within_dumpStatus (s : State) (g : Bool) : Within { fields := [JNL_DUMP_STATUS_dump_seq_lo, JNL_DUMP_STATUS_outcome, JNL_DUMP_STATUS_cause,
    JNL_DUMP_STATUS_sealed, JNL_DUMP_STATUS_dump_ms] } s (s.dumpStatus g) := by
  unfold State.dumpStatus
  split
  next d _ _ =>
    cases d with
    | none => exact .refl _ s
    | some d =>
      exact ((((within_set s _ _ _ rfl).trans (within_set _ _ _ _ rfl)).trans (within_set _ _ _ _ rfl)).trans (within_set _ _ _ _ rfl)).trans
        (within_set _ _ _ _ rfl)

/-- One kept own entry replayed. -/
theorem neveReplay_one (s : State) (k : Kept) (hk : s.keptEntries [] = [k]) (hm : k.slot.mirror = false) (hg : s.nsGone k = false)
    (hsu : s.superseded k.desc = false) (hq : tget s.jnl.lastSeq (k.desc.ns, k.desc.lba) = none) (hd : k.slot.dataOk = true)
    (hmd : s.jnl.mdQueue = []) (hc : s.str.cold = []) :
    tget (s.neveReplay [] []).jnl.slots k.idx = some { state := .committed, desc := some k.desc, data := k.slot.data } ∧
    (s.neveReplay [] []).jnl.mdQueue = [] ∧ (s.neveReplay [] []).str.cold = [] ∧
    (s.neveReplay [] []).lookup k.desc.ns k.desc.lba = .neve k.desc.kgen k.idx := by
  unfold State.neveReplay
  rw [hk]
  extract_lets l own gone unknown errs shown torn numbered placed mirrors told lost shownRest counted done _ noted
  have hown : own = [k] := by
    show [k].filter (fun k => !k.slot.mirror) = [k]
    simp [hm]
  have hmir : mirrors = placed := by
    show placed.each ([k].filter fun k => k.slot.mirror) _ = placed
    rw [show ([k].filter fun k : Kept => k.slot.mirror) = [] by simp [hm]]
    rfl
  have hn : Within { fields := [JNL_DUMP_STATUS_dump_seq_lo, JNL_DUMP_STATUS_outcome, JNL_DUMP_STATUS_cause, JNL_DUMP_STATUS_sealed,
      JNL_DUMP_STATUS_dump_ms, JNL_NEVE_SEQ_next_seq] } s numbered :=
    ((within_dumpStatus s gone).widen (by decide) (by decide) (by decide)).trans (within_set _ _ _ _ rfl)
  have hp : placed = numbered.replayOwn [k] [] k := by
    show numbered.each own _ = _
    rw [hown]
    rfl
  have hgn : numbered.nsGone k = false := by
    rw [← hg]
    unfold State.nsGone State.ns
    rw [hn.nsm rfl, hn.jnl rfl]
  have hsn : numbered.superseded k.desc = false := by
    rw [← hsu]
    have ho : ∀ n, numbered.owned n = s.owned n := fun n => by
      unfold State.owned State.moduleId
      rw [hn.regs _ _ rfl]
    unfold State.superseded State.pairShelf State.flag State.ns
    rw [hn.nsm rfl, hn.regs _ _ rfl]
    simp only [ho]
  obtain ⟨h1, h2, h3, h4⟩ := replayOwn_kept numbered k hgn hsn (by rw [hn.jnl rfl]; exact hq) hd (by rw [hn.jnl rfl]; exact hmd) (by rw [hn.str rfl]; exact hc)
  rw [← hp, ← hmir] at h1 h2 h3 h4
  have ht : SameBlocks mirrors ((noted.waterCheck).raise EV_JNL_REPLAY_DONE 0 0) := by
    have he : SameBlocks mirrors lost := .of_within (((within_each _ _ _ fun _ _ => within_raise _ _ _ _ _ rfl rfl).trans
      (within_ite _ (fun _ => .refl _ _) fun _ => within_raise _ _ _ _ _ rfl rfl)) : Within { parts := [.evt, .ctr] } mirrors lost) rfl rfl
    have hcn : SameBlocks lost counted := .of_eq rfl rfl rfl rfl rfl rfl
    have hno : SameBlocks counted noted := .ite (.of_eq rfl rfl rfl rfl rfl rfl) (.refl _)
    exact ((he.trans hcn).trans hno).trans ((SameBlocks.of_within (waterCheck_waterW noted) rfl rfl).trans
      (.of_within (within_raise _ _ _ _ _ rfl rfl : Within { parts := [.evt, .ctr] } _ _) rfl rfl))
  refine ⟨by rw [ht.slots]; exact h1, ht.mdQueue.trans h2, ht.cold.trans h3, ?_⟩
  rw [State.lookup, ht.map]
  exact h4

theorem replayDone_one (s : State) (k : Kept) (hs : s.get BOOT_STATUS_stage = 5) (hp : s.str.poolId ≠ 0) (hk : s.keptEntries [] = [k])
    (hm : k.slot.mirror = false) (hg : s.nsGone k = false) (hsu : s.superseded k.desc = false)
    (hq : tget s.jnl.lastSeq (k.desc.ns, k.desc.lba) = none) (hd : k.slot.dataOk = true) (hmd : s.jnl.mdQueue = []) (hc : s.str.cold = []) :
    ∃ t, exec (.replayDone [] [] false 3) s = .next t ∧ t.get BOOT_STATUS_stage = 7 ∧
      tget t.jnl.slots k.idx = some { state := .committed, desc := some k.desc, data := k.slot.data } ∧
      t.lookup k.desc.ns k.desc.lba = .neve k.desc.kgen k.idx := by
  have e := replayDone_eq s [] [] 3 hs
  rw [if_neg hp] at e
  obtain ⟨h1, h2, h3, h4⟩ := neveReplay_one s k hk hm hg hsu hq hd hmd hc
  obtain ⟨hst, -, hj, hr, -⟩ := recorded_both _ h2 h3
  rw [← e] at hst hj hr
  refine ⟨_, rfl, (get_only_in _ _ _ _ _ rfl).trans hst, ?_, ?_⟩
  · show tget (s.replayDone [] [] false 3).jnl.slots k.idx = _
    rw [hj]
    exact h1
  · show (s.replayDone [] [] false 3).lookup _ _ = _
    rw [State.lookup, hr]
    exact h4

end Sys2Proof.Machine
end

section
/-! PROOFS. From the replay to serving, and the boot as a whole. -/

namespace Sys2Proof.Machine

open F

theorem deleting_congr {s t : State} (hn : t.nsm.ns = s.nsm.ns) (hm : t.moduleId = s.moduleId) : t.deleting = s.deleting := by
  unfold State.deleting State.owned
  rw [hn, hm]

theorem nsDrained_rounds (s : State) (n : Nat) (h : s.deleting = []) :
    s.each (List.range n) (fun s _ => s.each s.deleting State.nsDrained) = s :=
  each_id _ _ _ fun _ _ => by
    rw [h]
    rfl

/-- The state that serves, before a pending bank is confirmed. -/
def State.shownServing (s : State) : State :=
  (((s.set BOOT_STATUS_stage 0 8).set BOOT_STATUS_boot_ms 0 (s.since s.boot.startAt / msTicks 1))).raise EV_BOOT_SERVING 0 0

/-- The same with a pending bank confirmed. -/
def State.confirmedServing (s : State) : State :=
  if (s.shownServing.bank s.shownServing.runBank).state = 2 then s.shownServing.bankConfirm s.shownServing.runBank else s.shownServing

theorem shownServing_bank (s : State) : s.shownServing.bank s.shownServing.runBank = s.bank s.runBank := by
  have e : s.shownServing.runBank = s.runBank := by
    unfold State.runBank State.shownServing
    rw [get_raise, get_set_field _ _ _ _ (by decide), get_set_field _ _ _ _ (by decide)]
  rw [e]
  rfl

theorem within_confirmedServing (s : State) : Within confirmW s s.confirmedServing :=
  (((within_set s _ _ _ rfl).trans (within_set _ _ _ _ rfl)).trans (within_raise _ _ _ _ _ rfl rfl) : Within confirmW s s.shownServing).trans
    (within_ite _ (fun _ => (bankConfirm_after _ _).1) fun _ => .refl _ _)

/-- What the resumption of management commands writes; the namespaces stay. -/
theorem mgmtResume_kept (s : State) : Within { parts := tableParts, fields := qpeLive ++ [JNL_FIRN_SEQ_next_seq, GLB_MGMT_SEQ_last_completed,
    GLB_MGMT_SEQ_last_accepted] } s s.mgmtResume ∧ s.mgmtResume.nsm.ns = s.nsm.ns := by
  unfold State.mgmtResume
  extract_lets a c l n _ cut taken
  have h1 : Within { parts := tableParts, fields := qpeLive ++ [JNL_FIRN_SEQ_next_seq, GLB_MGMT_SEQ_last_completed, GLB_MGMT_SEQ_last_accepted] } s cut :=
    within_nsm s _ rfl
  split
  · exact ⟨h1, rfl⟩
  · have h2 := (h1.trans (within_set cut GLB_MGMT_SEQ_last_accepted 0 ((c + n) % 2 ^ 32) rfl)).trans
      ((within_metaAppend _ 0 (.nsMeta taken.mgmtImage)).widen (by decide) (by decide) (by decide))
    obtain ⟨h3, h4⟩ := mgmtTurn_kept (2 * ((taken.metaAppend 0 (.nsMeta taken.mgmtImage)).nsm.seqQueue.length +
      (taken.metaAppend 0 (.nsMeta taken.mgmtImage)).nsm.dels.length) + 2) (taken.metaAppend 0 (.nsMeta taken.mgmtImage))
    refine ⟨h2.trans (h3.widen (by decide) (by decide) (by decide)), ?_⟩
    have e : (taken.metaAppend 0 (.nsMeta taken.mgmtImage)).nsm = taken.nsm := (within_metaAppend _ _ _).nsm rfl
    rw [State.mgmtGo, h4, e]
    rfl

/-- With nothing accepted that has not completed, no command is resumed. -/
theorem mgmtResume_idle (s : State) (h : s.get GLB_MGMT_SEQ_last_accepted = s.get GLB_MGMT_SEQ_last_completed) :
    ∃ l, s.mgmtResume = { s with nsm := { s.nsm with dels := l } } := by
  unfold State.mgmtResume
  extract_lets a c l n _ cut taken
  rw [if_pos (show a = c from h)]
  exact ⟨_, rfl⟩

/-- Without accepted deletes what was accepted and not completed is taken back. -/
theorem mgmtResume_back (s : State) (hd : s.nsm.dels = []) (h : s.get GLB_MGMT_SEQ_last_accepted ≠ s.get GLB_MGMT_SEQ_last_completed) :
    s.mgmtResume.get GLB_MGMT_SEQ_last_accepted = s.get GLB_MGMT_SEQ_last_completed % 2 ^ 32 := by
  unfold State.mgmtResume
  rw [hd]
  extract_lets a c l n _ cut taken
  rw [if_neg (show ¬ a = c from h)]
  obtain ⟨h3, -⟩ := mgmtTurn_kept (2 * ((taken.metaAppend 0 (.nsMeta taken.mgmtImage)).nsm.seqQueue.length +
    (taken.metaAppend 0 (.nsMeta taken.mgmtImage)).nsm.dels.length) + 2) (taken.metaAppend 0 (.nsMeta taken.mgmtImage))
  rw [State.mgmtGo, h3.regs _ _ rfl, (within_metaAppend _ _ _).regs _ _ rfl]
  refine (get_set_same ..).trans ?_
  show (c + 0) % 2 ^ 32 % 2 ^ 32 = c % 2 ^ 32
  rw [Nat.add_zero, Nat.mod_mod]

/-- A module with no deletion to go on with serves once its commands are resumed. -/
theorem serving_eq (s : State) (hs : s.get BOOT_STATUS_stage = 7) (hd : s.deleting = []) : s.serving = s.confirmedServing.mgmtResume := by
  have hw := within_confirmedServing s
  obtain ⟨hr, hn⟩ := mgmtResume_kept s.confirmedServing
  have h0 : s.confirmedServing.mgmtResume.deleting = [] := by
    rw [deleting_congr (s := s) (by rw [hn, hw.nsm rfl]) (by rw [State.moduleId, hr.regs _ _ rfl, hw.regs _ _ rfl]; rfl), hd]
  unfold State.serving
  rw [if_neg (by simp [hs])]
  exact nsDrained_rounds s.confirmedServing.mgmtResume _ h0

theorem ownerBurn_get (s : State) (b : List Byte) (f : Fld) (i : Nat) : (s.ownerBurn b).get f i = s.get f i := by
  unfold State.ownerBurn
  extract_lets d slot mask _ u gone
  have h : u.get f i = s.get f i := by
    show (ite _ _ (ite _ _ _) : State).get f i = _
    split_ifs
    · rfl
    · exact get_raise ..
    · rfl
  split
  · rfl
  · exact h

theorem bankConfirm_stage (s : State) (i : Nat) : (s.bankConfirm i).get BOOT_STATUS_stage = s.get BOOT_STATUS_stage := by
  unfold State.bankConfirm
  extract_lets k burnt fw cfg _ raised
  have hb : burnt.get BOOT_STATUS_stage = s.get BOOT_STATUS_stage := by
    refine (ownerBurn_get _ _ _ _).trans ?_
    unfold State.putBank
    split
    · exact get_set_field _ _ _ _ (by decide)
    · exact get_set_field _ _ _ _ (by decide)
  have hr : raised.get BOOT_STATUS_stage = burnt.get BOOT_STATUS_stage := by
    show (ite _ _ _ : State).get _ _ = _
    split
    · rfl
    · rfl
  rw [State.fuseStatus, get_set_field _ _ _ _ (by decide), get_set_field _ _ _ _ (by decide), get_set_field _ _ _ _ (by decide), hr, hb]

theorem serving_stage (s : State) (hs : s.get BOOT_STATUS_stage = 7) (hd : s.deleting = []) : s.serving.get BOOT_STATUS_stage = 8 := by
  have h : s.shownServing.get BOOT_STATUS_stage = 8 := by
    rw [State.shownServing, get_raise, get_set_field _ _ _ _ (by decide)]
    exact get_set_same ..
  rw [serving_eq s hs hd, (mgmtResume_kept _).1.regs _ _ rfl, State.confirmedServing]
  split
  · rw [(bankConfirm_stage _ _)]
    exact h
  · exact h

theorem confirmedServing_confirmed (s : State) (h : (s.bank s.runBank).state ≠ 2) : s.confirmedServing = s.shownServing :=
  if_neg (by rw [shownServing_bank]; exact h)

theorem shownServing_seq (s : State) (f : Fld) (i : Nat) (h : f.reg = GLB_MGMT_SEQ_last_accepted.reg) : s.shownServing.get f i = s.get f i := by
  have hne : ∀ g : Fld, g.reg ≠ GLB_MGMT_SEQ_last_accepted.reg → (g.reg, g.lo) ≠ (f.reg, f.lo) := fun g hg he => hg ((Prod.mk.inj he).1.trans h)
  rw [State.shownServing, get_raise, get_set_field _ _ _ _ (hne _ (by decide)), get_set_field _ _ _ _ (hne _ (by decide))]

/-- A confirmed bank: serving is reported, the boot's part stays. -/
theorem bootServing_confirmed (s : State) (hs : s.get BOOT_STATUS_stage = 7)
    (hq : s.get GLB_MGMT_SEQ_last_accepted = s.get GLB_MGMT_SEQ_last_completed) (hd : s.deleting = []) (hb : (s.bank s.runBank).state = 3) :
    ∃ t, exec .bootServing s = .next t ∧ t.get BOOT_STATUS_stage = 8 ∧ Reports s t EV_BOOT_SERVING 0 0 [] ∧ t.boot = s.boot := by
  have e := serving_eq s hs hd
  rw [confirmedServing_confirmed s (by rw [hb]; decide)] at e
  obtain ⟨l, hl⟩ := mgmtResume_idle s.shownServing (by rw [shownServing_seq s _ _ rfl, shownServing_seq s GLB_MGMT_SEQ_last_completed _ rfl, hq])
  rw [hl] at e
  refine ⟨_, rfl, (get_only_in _ _ _ _ _ rfl).trans (serving_stage s hs hd), ?_, congrArg (·.boot) e⟩
  refine (reports_raise (s := s) (u := (s.set BOOT_STATUS_stage 0 8).set BOOT_STATUS_boot_ms 0 (s.since s.boot.startAt / msTicks 1))
    EV_BOOT_SERVING 0 0 [] rfl rfl fun f i hf => ?_).congr (congrArg (·.evt) e)
  have hne : ∀ g : Fld, g.reg / 0x100000 ≠ 2 → (g.reg, g.lo) ≠ (f.reg, f.lo) := fun g hg h => hg (by rw [(Prod.mk.inj h).1, hf])
  rw [get_set_field _ _ _ _ (hne _ (by decide)), get_set_field _ _ _ _ (hne _ (by decide))]

/-- A pending bank is confirmed. -/
theorem bootServing_pending (s : State) (hs : s.get BOOT_STATUS_stage = 7) (hd : s.deleting = []) (hb : (s.bank s.runBank).state = 2) :
    ∃ t, exec .bootServing s = .next t ∧ t.get BOOT_STATUS_stage = 8 ∧ (t.bank s.runBank).state = 3 := by
  refine ⟨_, rfl, (get_only_in _ _ _ _ _ rfl).trans (serving_stage s hs hd), ?_⟩
  show (s.serving.bank s.runBank).state = 3
  have hrun : s.shownServing.runBank = s.runBank := by
    unfold State.runBank State.shownServing
    rw [get_raise, get_set_field _ _ _ _ (by decide), get_set_field _ _ _ _ (by decide)]
  have hc : s.confirmedServing = s.shownServing.bankConfirm s.runBank := by
    unfold State.confirmedServing
    rw [if_pos (by rw [shownServing_bank]; exact hb), hrun]
  have hk : s.serving.boot = s.confirmedServing.boot := by
    rw [serving_eq s hs hd]
    exact (mgmtResume_kept _).1.boot rfl
  rw [State.bank, hk, hc]
  exact (bankConfirm_after _ _).2

/-- What was accepted and never ran is taken back. -/
theorem bootServing_back (s : State) (hs : s.get BOOT_STATUS_stage = 7)
    (hq : s.get GLB_MGMT_SEQ_last_accepted ≠ s.get GLB_MGMT_SEQ_last_completed) (hn : s.nsm.dels = []) (hd : s.deleting = [])
    (hb : (s.bank s.runBank).state = 3) :
    ∃ t, exec .bootServing s = .next t ∧ t.get BOOT_STATUS_stage = 8 ∧
      t.get GLB_MGMT_SEQ_last_accepted = s.get GLB_MGMT_SEQ_last_completed % 2 ^ 32 := by
  refine ⟨_, rfl, (get_only_in _ _ _ _ _ rfl).trans (serving_stage s hs hd), (get_only_in _ _ _ _ _ rfl).trans ?_⟩
  have h := mgmtResume_back s.shownServing hn (by rw [shownServing_seq s _ _ rfl, shownServing_seq s GLB_MGMT_SEQ_last_completed _ rfl]; exact hq)
  rw [serving_eq s hs hd, confirmedServing_confirmed s (by rw [hb]; decide), h, shownServing_seq s GLB_MGMT_SEQ_last_completed _ rfl]

/-- Elsewhere than at stage 7 nothing happens. -/
theorem bootServing_elsewhere (s : State) (hs : s.get BOOT_STATUS_stage ≠ 7) : ∃ t, exec .bootServing s = .next t ∧ t.regs = s.regs ∧ t.boot = s.boot := by
  have e : s.serving = s := if_pos (by simpa using hs)
  refine ⟨_, rfl, ?_, congrArg (·.boot) e⟩
  show keepRegs _ s.regs s.serving.regs = s.regs
  rw [e]
  exact if_pos rfl

/-- Settles O56: each step of the boot from the labels to serving. -/
theorem bootToServing : Obligations.BootToServing := by
  unfold Obligations.BootToServing
  refine ⟨bootDrivesUp_none, bootDrivesUp_one, fun s m c hs hp hc hm hd hg => ?_, mapRebuildDone_unreadable, fun s hs hp _ hl hmd hc =>
    replayDone_noPool s hs hp hl hmd hc, replayDone_unrecorded, replayDone_one, bootServing_confirmed, fun s hs _ hd hb => bootServing_pending s hs hd hb,
    bootServing_back, bootServing_elsewhere⟩
  obtain ⟨t, ht, h1, h2, h3, h4, h5, h6, h7, h8⟩ := mapRebuildDone_rebuilt s m c hs hp hc hm hd hg
  exact ⟨t, ht, h1, h2, h3, h4, h5, h6, h7, h8⟩

end Sys2Proof.Machine
end

section
/-! PROOFS. Support: what the work of the map, of segments and of completions keeps of the pair, the namespaces and the registers of GLB and PAIR. -/

namespace Sys2Proof.Machine

open F

/-- Of the pair only the frames kept, the moves under way and the grants change, of the namespaces none, and no register of GLB or PAIR. -/
structure Steady (s t : State) : Prop where
  pair : t.pair = { s.pair with kept := t.pair.kept, keptOn := t.pair.keptOn, txNext := t.pair.txNext, onPl1 := t.pair.onPl1
                                moves := t.pair.moves, grants := t.pair.grants }
  ns   : t.nsm.ns = s.nsm.ns
  regs : ∀ f i, f.reg / 0x100000 = 0 ∨ f.reg / 0x100000 = 23 → t.get f i = s.get f i

/-- Whether a footprint spares the registers of GLB and PAIR. -/
def Writes.steady (w : Writes) : Bool :=
  w.blocks.isEmpty && w.fields.all fun g => g.reg / 0x100000 != 0 && g.reg / 0x100000 != 23

theorem Writes.steady_field {w : Writes} (h : w.steady = true) (f : Fld) (i : Nat) (hf : f.reg / 0x100000 = 0 ∨ f.reg / 0x100000 = 23) :
    w.field (f.key i) = false := by
  rw [Writes.steady, Bool.and_eq_true, List.isEmpty_iff, List.all_eq_true] at h
  rw [field_key, h.1]
  refine Bool.or_eq_false_iff.mpr ⟨rfl, List.any_eq_false.mpr fun g hg => ?_⟩
  have := h.2 g hg
  intro hc
  rw [Bool.and_eq_true, decide_eq_true_eq] at hc
  rw [hc.1] at this
  rcases hf with e | e <;> rw [e] at this <;> exact absurd this (by decide)

theorem Steady.refl (s : State) : Steady s s := ⟨rfl, rfl, fun _ _ _ => rfl⟩

theorem Steady.trans {s t u : State} (h : Steady s t) (k : Steady t u) : Steady s u :=
  ⟨by rw [k.pair, h.pair], k.ns.trans h.ns, fun f i hf => (k.regs f i hf).trans (h.regs f i hf)⟩

theorem Steady.of_parts {w : Writes} {s t : State} (h : Within w s t) (hp : t.pair = s.pair) (hn : t.nsm.ns = s.nsm.ns) (hw : w.steady = true) :
    Steady s t := ⟨by rw [hp], hn, fun f i hf => h.regs f i (Writes.steady_field hw f i hf)⟩

/-- A footprint without the pair and the namespaces, and without registers of GLB and PAIR. -/
theorem Steady.of_within {w : Writes} {s t : State} (h : Within w s t) (hw : (!w.part .pair && !w.part .nsm && w.steady) = true) : Steady s t := by
  rw [Bool.and_eq_true, Bool.and_eq_true, Bool.not_eq_true', Bool.not_eq_true'] at hw
  exact .of_parts h (h.pair hw.1.1) (by rw [h.nsm hw.1.2]) hw.2

theorem Steady.ite {s a b : State} (c : Prop) [Decidable c] (h : c → Steady s a) (k : ¬c → Steady s b) : Steady s (if c then a else b) := by
  split
  · next e => exact h e
  · next e => exact k e

theorem Steady.each {α : Type} (s : State) (l : List α) (f : State → α → State) (h : ∀ s a, Steady s (f s a)) : Steady s (s.each l f) := by
  induction l generalizing s with
  | nil => exact .refl s
  | cons a l ih => exact (h s a).trans (ih (f s a))

theorem steady_pairSend (s : State) (m : PairMsg) : Steady s (s.pairSend m) := by
  have hw := pairSend_pairW s m
  refine ⟨?_, by rw [hw.nsm rfl], fun f i hf => hw.regs f i (Writes.steady_field (by decide) f i hf)⟩
  unfold State.pairSend
  split <;> simp

theorem steady_firnSettle (s : State) (r : FirnRec) : Steady s (s.firnSettle r) := by
  unfold State.firnSettle
  split
  · exact ⟨rfl, rfl, fun _ _ _ => rfl⟩
  · exact .refl s

/-- All that an append sets going. -/
theorem steady_firn : FirnClosed Steady where
  own h := .of_within h (by decide)
  send := steady_pairSend
  settle := steady_firnSettle
  trans := Steady.trans

/-! ## Segments opened, filled and closed -/

theorem steady_enterSeg (s : State) (h : HeadId) (i : Nat) (g : Seg) : Steady s (s.enterSeg h i g) := by
  unfold State.enterSeg
  extract_lets _ entered shown
  have h1 : Steady s entered := steady_firn.after (within_str s _ rfl) (steady_firn.firnAppend _ _ _)
  have h2 : Within { fields := [STR_GROUP_STATUS_open_seg, STR_GROUP_STATUS_k_cap] } entered shown := by
    unfold shown
    split
    · exact (within_set _ _ _ _ rfl).trans (within_set _ _ _ _ rfl)
    · exact .refl _ _
  exact (h1.trans (.of_within h2 (by decide))).trans (.of_within (groupsW_calveCheck _) (by decide))

theorem steady_grants (s : State) (g : Table HeadId (List (Nat × Seg))) : Steady s { s with pair := { s.pair with grants := g } } :=
  ⟨rfl, rfl, fun _ _ _ => rfl⟩

theorem steady_openSeg {s t : State} {h : HeadId} (e : s.openSeg h = some t) : Steady s t := by
  unfold State.openSeg at e
  obtain ⟨-, e⟩ := Option.ite_none_left_eq_some.mp e
  split at e
  · split at e
    · cases e
    · cases e
      exact steady_firn.after (within_str s _ rfl) (steady_enterSeg _ _ _ _)
  · split at e
    · cases e
      exact ((steady_grants s _).trans (steady_enterSeg _ _ _ _)).trans (steady_pairSend _ _)
    · cases e

theorem steady_ensureSeg (s : State) (h : HeadId) : Steady s (s.ensureSeg h) := by
  refine .ite _ (fun _ => .refl s) fun _ => ?_
  cases e : s.openSeg h with
  | none => exact .refl s
  | some t => exact steady_openSeg e

theorem steady_newStripe {s t : State} {h : HeadId} {n : Nat} (e : s.newStripe h = some (n, t)) : Steady s t := by
  unfold State.newStripe at e
  obtain ⟨⟨i, g⟩, -, e⟩ := Option.map_eq_some_iff.mp e
  cases e
  exact ⟨rfl, rfl, fun _ _ _ => rfl⟩

theorem steady_stripeWrite (s : State) (n : Nat) : Steady s (s.stripeWrite n) := .of_within (within_stripeWrite s n) (by decide)

theorem steady_stripePut (s : State) (n : Nat) (b : StripeBlk) (d : Block) : Steady s (s.stripePut n b d) := by
  unfold State.stripePut
  split
  · exact .refl s
  · split
    · exact .refl s
    · exact .ite _ (fun _ => steady_firn.after (within_str s _ rfl) (steady_stripeWrite _ _)) fun _ => steady_firn.own (within_str s _ rfl)

theorem steady_headPut (s : State) (h : HeadId) (b : StripeBlk) (d : Block) : Steady s (s.headPut h b d).1 := by
  unfold State.headPut
  split
  · exact .refl s
  · have h1 := steady_ensureSeg s h
    dsimp only
    split
    · next n t e =>
      have h2 : Steady (s.ensureSeg h) t := by
        unfold State.headStripe at e
        split at e
        · split at e
          · cases e
          · cases e
            exact .refl _
        · exact steady_newStripe e
      exact (h1.trans h2).trans (steady_stripePut _ _ _ _)
    · exact h1

theorem steady_mdDrain (n : Nat) (s : State) : Steady s (s.mdDrain n) := by
  induction n generalizing s with
  | zero => exact .refl s
  | succ n ih =>
    unfold State.mdDrain
    split
    · exact .refl s
    · next b d rest _ =>
      have h := steady_headPut s .meta_ (.md b) d
      generalize s.headPut .meta_ (.md b) d = p at h ⊢
      obtain ⟨t, ok⟩ := p
      exact .ite _ (fun _ => h.trans (steady_firn.after (within_jnl t _ rfl) (ih _))) fun _ => h

theorem steady_mdPlace (s : State) (b : MetaBlk) (d : Block) : Steady s (s.mdPlace b d) :=
  steady_firn.after (within_jnl s _ rfl) (steady_mdDrain _ _)

theorem steady_headLeaves (s : State) (i : Nat) (g : Seg) : Steady s (s.headLeaves i g) := by
  unfold State.headLeaves
  split
  · exact .ite _ (fun _ => .of_within (within_set (w := { fields := [STR_GROUP_STATUS_open_seg] }) s _ _ _ rfl) (by decide)) fun _ => .refl s
  · exact .refl s

theorem steady_sealCheck (s : State) (i : Nat) : Steady s (s.sealCheck i) := by
  unfold State.sealCheck
  split
  · exact .refl s
  · next g _ =>
    refine .ite _ (fun _ => ?_) fun _ => .refl s
    extract_lets left _ gone
    have h : Steady s gone := (steady_headLeaves s i g).trans (steady_firn.own (within_str left _ rfl))
    refine h.trans (.ite _ (fun _ => ?_) fun _ => steady_firn.firnAppend _ _ _)
    unfold State.sealStart
    split
    · exact .refl _
    · exact .ite _ (fun _ => .refl _) fun _ => .each _ _ _ fun s p => steady_mdPlace s _ _

theorem steady_writeDue (s : State) (h : HeadId) : Steady s (s.writeDue h) := .each _ _ _ fun s n => steady_stripeWrite s n

theorem steady_requeueBlocks (s : State) (h : HeadId) (l : List (StripeBlk × Block)) : Steady s (s.requeueBlocks h l) := by
  refine .each _ _ _ fun s a => ?_
  obtain ⟨b, d⟩ := a
  dsimp only
  split
  · exact steady_firn.own (within_jnl s _ rfl)
  · exact steady_firn.own (within_jnl s _ rfl)
  · exact .refl s
  · exact steady_firn.own (within_str s _ rfl)

theorem steady_rewrite (n : Nat) (s : State) (h : HeadId) (l : List (StripeBlk × Block)) : Steady s (s.rewrite h l n) := by
  induction n generalizing s l with
  | zero => exact steady_requeueBlocks s h l
  | succ n ih =>
    unfold State.rewrite
    refine .ite _ (fun _ => .refl s) fun _ => (steady_ensureSeg s h).trans ?_
    dsimp only
    split
    · exact steady_requeueBlocks _ h l
    · next m t e =>
      refine (steady_newStripe e).trans ?_
      split
      · exact .refl t
      · have hput : ∀ l, Steady t (t.each l fun s (x : StripeBlk × Block) => s.stripePut m x.1 x.2) := fun l =>
          .each _ _ _ fun s a => steady_stripePut s _ _ _
        exact ((hput _).trans (.ite _ (fun _ => steady_stripeWrite _ _) fun _ => .refl _)).trans (ih _ _)

theorem steady_abandon (s : State) (n : Nat) : Steady s (s.abandon n) := by
  unfold State.abandon
  split
  · exact .refl s
  · next x _ =>
    extract_lets mine told counted _ gone l
    have h1 : Within { parts := [.evt, .ctr, .tms, .drv] } s told :=
      ((within_tms s _ rfl).trans (within_drv _ _ rfl)).trans (within_raise _ _ _ _ _ rfl rfl)
    have h2 : Within { parts := [.ctr] } told counted := by
      unfold counted
      split
      · exact within_bump _ _ _ rfl
      · exact .refl _ _
    have h3 : Steady s gone := ((Steady.of_within h1 (by decide)).trans (.of_within h2 (by decide))).trans (steady_firn.own (within_str counted _ rfl))
    exact ((h3.trans (steady_rewrite _ _ _ _)).trans (steady_sealCheck _ _)).trans (steady_writeDue _ _)

theorem steady_closeSeg (s : State) (i : Nat) : Steady s (s.closeSeg i) := by
  unfold State.closeSeg
  split
  · exact .refl s
  · next g _ =>
    refine .ite _ (fun _ => .refl s) fun _ => ?_
    extract_lets put left _ gone l
    have h1 : Steady s put := steady_firn.own (within_str s _ rfl)
    have h2 : Steady put left := steady_headLeaves _ _ _
    exact (((h1.trans h2).trans (steady_firn.own (within_str left _ rfl : Within firnOwnW left gone))).trans (.each _ _ _ steady_abandon)).trans (steady_sealCheck _ _)

/-! ## Writes and commands -/

theorem steady_neveCommit (s : State) (c b : Nat) (k : Bool) (d : Block) : Steady s (s.neveCommit c b k d) := by
  unfold State.neveCommit
  split
  · exact .refl s
  · extract_lets i q mark desc numbered _ put mapped
    have h1 : Within { parts := [.ctr, .jnl], fields := [JNL_NEVE_SEQ_next_seq] } s put :=
      ((within_set s JNL_NEVE_SEQ_next_seq _ _ rfl).trans (within_bump _ _ _ rfl)).trans (within_jnl _ _ rfl)
    have h2 : Steady s mapped := (Steady.of_within h1 (by decide)).trans (steady_firn.mapPut _ _ _ _)
    exact h2.trans (.ite _ (fun _ => steady_firn.before (steady_pairSend _ _) (within_bump _ _ _ rfl)) fun _ => .refl _)

theorem steady_commitReady (s : State) (c : Nat) : Steady s (s.commitReady c) := by
  unfold State.commitReady
  split
  · exact .refl s
  · refine .ite _ (fun _ => .refl s) fun _ => Steady.trans (.each _ _ _ fun s b => ?_) (steady_firn.writeCheck _ _)
    split
    · exact .ite _ (fun _ => steady_firn.after (within_leave s _ rfl) (steady_neveCommit _ _ _ _ _)) fun _ => steady_firn.own (within_enter s _ rfl)
    · exact .refl s

theorem steady_notice (s : State) (o : QOwner) (a b c d : Nat) : Steady s (s.notice o a b c d) := by
  unfold State.notice
  refine .ite _ (fun _ => .refl s) fun _ => ?_
  split
  · exact Steady.trans (t := s.putFeat _ _) ⟨rfl, rfl, fun _ _ _ => rfl⟩ (steady_firn.complete _ _ _ _ _)
  · exact .ite _ (fun _ => .refl s) fun _ => ⟨rfl, rfl, fun _ _ _ => rfl⟩

theorem steady_modeNotices (s : State) : Steady s s.modeNotices := .each _ _ _ fun _ _ => .each _ _ _ fun s _ => steady_notice s _ _ _ _ _

/-- The mirror given up (R262). -/
theorem steady_pairSingle (s : State) : Steady s s.pairSingle := by
  unfold State.pairSingle
  refine .ite _ (fun _ => .refl s) fun _ => ?_
  extract_lets was _ _ single recorded
  have h1 : Within { parts := [.jnl], fields := [JNL_NEVE_STATUS_pair_state] } s single := (within_set s JNL_NEVE_STATUS_pair_state _ _ rfl).trans (within_jnl _ _ rfl)
  have h2 : Steady single recorded := .ite _ (fun _ => .each _ _ _ steady_firn.firnCommit) fun _ => .refl _
  have h3 : Steady recorded (recorded.raise EV_NEVE_SINGLE 0 0) := steady_firn.own (within_raise _ _ _ _ _ rfl rfl)
  exact (((((Steady.of_within h1 (by decide)).trans h2).trans h3).trans (steady_modeNotices _)).trans (steady_firn.writesCheck _)).trans
    (.each _ _ _ steady_commitReady)

theorem steady_dropStages (s : State) (c : Nat) : Steady s (s.dropStages c) := by
  refine .of_within (w := { parts := [.swc] }) ((within_swc s _ rfl).trans (within_each _ _ _ fun s b => ?_)) (by decide)
  unfold State.dropStage
  dsimp only
  split
  · exact (within_swc s _ rfl).trans (within_swc _ _ rfl)
  · exact within_swc s _ rfl

theorem steady_dropWrite (s : State) (c : Nat) : Steady s (s.dropWrite c) := by
  unfold State.dropWrite
  split
  · exact .refl s
  · refine steady_firn.before (.each _ _ _ fun s i => ?_) (within_jnl _ _ rfl)
    split
    · exact .ite _ (fun _ => steady_firn.slotFree s i) fun _ => .refl s
    · exact .refl s

theorem steady_redirect (s : State) (c o : Nat) : Steady s (s.redirect c o) :=
  ((steady_dropWrite s c).trans (steady_dropStages _ c)).trans (steady_firn.complete _ _ _ _ _)

theorem steady_redirectAll (s : State) : Steady s s.redirectAll := by
  refine .each _ _ _ fun s a => ?_
  dsimp only
  split
  · split
    · exact steady_redirect _ _ _
    · exact .refl s
  · exact steady_redirect _ _ _

theorem steady_splitHold (s : State) : Steady s s.splitHold :=
  .ite _ (fun _ => .refl s) fun _ => .each _ _ _ fun s _ => steady_firn.own (within_qpe s _ rfl)

theorem steady_keyAlone (s : State) : Steady s s.keyAlone := by
  unfold State.keyAlone
  split
  · exact .of_within (w := { parts := [.key], fields := [KEY_STATUS_busy, KEY_STATUS_result, KEY_STATUS_done_count] })
      ((((within_key s _ rfl).trans (within_set _ _ _ _ rfl)).trans (within_set _ _ _ _ rfl)).trans (within_set _ _ _ _ rfl)) (by decide)
  · exact .refl s

theorem steady_sltAlone (s : State) : Steady s s.sltAlone :=
  .ite _ (fun _ => .of_within (w := { fields := [SLT_CMD_busy, SLT_CMD_result] }) ((within_set s _ _ _ rfl).trans (within_set _ _ _ _ rfl)) (by decide))
    fun _ => .refl s

theorem steady_requeue (s : State) : Steady s s.requeue := by
  unfold State.requeue
  refine Steady.trans (.of_within (within_cip (w := { parts := [.cip] }) s _ rfl) (by decide)) (.each _ _ _ fun s c => ?_)
  exact steady_firn.before (steady_dropStages s c) (within_qpe _ _ rfl)

/-! ## The pool master's records -/

theorem steady_firnContinue (s : State) : Steady s s.firnContinue := by
  unfold State.firnContinue
  split
  · exact steady_firn.own (within_set s _ _ _ rfl)
  · exact .refl s

theorem steady_unpark (s : State) : Steady s s.unpark := by
  unfold State.unpark
  extract_lets l _ taken _ eased
  have h : Within firnOwnW s eased := (within_jnl s _ rfl : Within firnOwnW s taken).trans
    (within_ite _ (fun _ => (within_jnl _ _ rfl).trans (within_leave _ _ rfl)) fun _ => .refl _ _)
  exact steady_firn.after h (.each _ _ _ fun s a => steady_firn.firnAppend s _ _)

theorem steady_reqsResend (s : State) : Steady s s.reqsResend := by
  refine Steady.trans (.ite _ (fun _ => .each _ _ _ fun s a => ?_) fun _ => .each _ _ _ fun s a => steady_pairSend s _) (steady_unpark _)
  exact steady_firn.after (within_jnl s _ rfl) (steady_firn.firnAppend _ _ _)

/-! ## The partner's part -/

theorem steady_neveConvert (s : State) : Steady s s.neveConvert := by
  refine .each _ _ _ fun s a => ?_
  dsimp only
  split
  · exact .refl s
  · exact steady_firn.after (within_jnl s _ rfl) (steady_firn.mapPut _ _ _ _)

theorem steady_setCh (s : State) (x v : Nat) : Steady s (s.setCh x v) :=
  (Steady.of_within (within_set (w := { fields := [SLT_CH_STATUS_state] }) s _ _ _ rfl) (by decide)).trans
    (.ite _ (fun _ => steady_pairSend _ _) fun _ => .refl _)

theorem steady_slotAdopt (s : State) (x : Nat) : Steady s (s.slotAdopt x) := by
  refine .ite _ (fun _ => .refl s) fun _ => ?_
  extract_lets st shown
  have h1 : Within { fields := [SLT_CH_STATUS_owner, SLT_CH_STATUS_present] } s shown := (within_set s _ _ _ rfl).trans (within_set _ _ _ _ rfl)
  refine (Steady.of_within h1 (by decide)).trans (.ite _ (fun _ => .refl _) fun _ => .ite _ (fun _ => ?_) fun _ => ?_)
  · exact (Steady.of_within (within_slt (w := { parts := [.slt] }) shown _ rfl) (by decide)).trans (steady_setCh _ _ _)
  · have h2 : ∀ z, Within { parts := [.ctr, .slt], fields := [SLT_CH_STATUS_pg, SLT_CH_STATUS_perst_rel] } shown ((shown.putSlot x z).pgClear x) := fun z =>
      (((within_slt shown _ rfl).trans (within_set _ _ _ _ rfl)).trans (within_set _ _ _ _ rfl)).trans (within_leave _ _ rfl)
    exact (Steady.of_within (h2 _) (by decide)).trans (steady_setCh _ _ _)

theorem steady_locAnnounce (s : State) (i : Nat) : Steady s (s.locAnnounce i) := .of_within (within_locAnnounce s i) (by decide)

theorem steady_unhold (s : State) (i : Nat) : Steady s (s.unhold i) := steady_firn.own (within_qpe s _ rfl)

theorem steady_restoreStop (s : State) (i : Nat) : Steady s (s.restoreStop i) := .of_within (within_restoreStop s i) (by decide)

end Sys2Proof.Machine
end

section
/-! PROOFS. The takeover: alone, master and owner of every namespace. -/

namespace Sys2Proof.Machine

open F

/-- Each namespace not owned yet is among those to be recorded. -/
theorem each_owned (l : List (Nat × Ns)) (s : State) (h : ∀ i n, s.ns i = some n → n.ownerId = s.moduleId ∨ ∃ m, (i, m) ∈ l) :
    ∀ i n, (s.each l fun s (i, n) => { s with nsm := { s.nsm with ns := tput s.nsm.ns i { n with ownerId := s.moduleId, gen := n.gen + 1 } } }.metaAppend 0
      (.nsMeta (.entry i { n with ownerId := s.moduleId, gen := n.gen + 1 }))).ns i = some n → n.ownerId = s.moduleId := by
  induction l generalizing s with
  | nil =>
    intro i n hi
    rcases h i n hi with e | ⟨m, hm⟩
    · exact e
    · exact absurd hm List.not_mem_nil
  | cons a l ih =>
    obtain ⟨j, m⟩ := a
    have w := within_metaAppend { s with nsm := { s.nsm with ns := tput s.nsm.ns j { m with ownerId := s.moduleId, gen := m.gen + 1 } } } 0
      (.nsMeta (.entry j { m with ownerId := s.moduleId, gen := m.gen + 1 }))
    have hmod := w.regs GLB_IDENT_module_id 0 rfl
    have hns := w.nsm rfl
    intro i n hi
    refine (ih _ (fun k o hk => ?_) i n hi).trans hmod
    rw [State.ns, hns] at hk
    rw [State.moduleId, hmod]
    by_cases hjk : j = k
    · subst hjk
      rw [tget_tput_same, Option.some.injEq] at hk
      exact .inl (by rw [← hk]; rfl)
    · rw [tget_tput_other _ _ hjk] at hk
      rcases h k o hk with e | ⟨z, hz⟩
      · exact .inl e
      · rcases List.mem_cons.mp hz with e | e
        · exact absurd (Prod.mk.inj e).1.symm hjk
        · exact .inr ⟨z, e⟩

theorem ownAll_owned (s : State) (i : Nat) (n : Ns) (h : s.ownAll.ns i = some n) : n.ownerId = s.moduleId := by
  refine each_owned _ s (fun i n hi => ?_) i n h
  by_cases ho : s.owned n = true
  · exact .inl (of_decide_eq_true ho)
  · exact .inr ⟨n, List.mem_filter.mpr ⟨mem_of_tget hi, by simpa using ho⟩⟩

/-- Only the owners of namespaces change. -/
theorem ownAll_kept (s : State) : s.ownAll.pair.active = s.pair.active ∧ ∀ f i, f.reg / 0x100000 = 0 ∨ f.reg / 0x100000 = 23 →
    s.ownAll.get f i = s.get f i := by
  refine each_holds (P := fun t => t.pair.active = s.pair.active ∧ ∀ f i, f.reg / 0x100000 = 0 ∨ f.reg / 0x100000 = 23 → t.get f i = s.get f i)
    (fun t a ht => ?_) _ ⟨rfl, fun _ _ _ => rfl⟩
  have hs := steady_firn.metaAppend { t with nsm := { t.nsm with ns := tput t.nsm.ns a.1 { a.2 with ownerId := t.moduleId, gen := a.2.gen + 1 } } } 0
    (.nsMeta (.entry a.1 { a.2 with ownerId := t.moduleId, gen := a.2.gen + 1 }))
  exact ⟨(congrArg Pair.active hs.pair :).trans ht.1, fun f i hf => (hs.regs f i hf).trans (ht.2 f i hf)⟩

/-- The grants given up with the partner. -/
theorem steady_ungranted {s t : State} (h : Steady s t) : Steady s { t with pair := { s.pair with grants := [] } } := ⟨rfl, h.ns, h.regs⟩

/-- What a takeover leaves. -/
structure TakenOver (s t : State) : Prop where
  state    : t.get PAIR_STATUS_state = 3
  duration : t.get PAIR_TAKEOVER_STATUS_duration = 0
  active   : t.pair.active = false
  master   : t.flag PAIR_STATUS_master = true
  owner    : ∀ i n, t.ns i = some n → n.ownerId = s.moduleId

theorem Steady.active {s t : State} (h : Steady s t) : t.pair.active = s.pair.active := (congrArg Pair.active h.pair :)

theorem Steady.master {s t : State} (h : Steady s t) : t.get PAIR_STATUS_master = s.get PAIR_STATUS_master := h.regs _ _ (by decide)

theorem Steady.moduleId {s t : State} (h : Steady s t) : t.moduleId = s.moduleId := h.regs _ _ (by decide)

theorem takeover_taken (s : State) : TakenOver s s.takeover := by
  unfold State.takeover
  extract_lets was told shown _ alone single cont _ continued resent l closed _ held converted adopted stopped announced ended
  have h1 : single.pair.active = false ∧ single.get PAIR_STATUS_master = 1 ∧ single.moduleId = s.moduleId := by
    have hs : Steady alone alone.pairSingle := steady_pairSingle _
    refine ⟨hs.active, ?_, ?_⟩
    · show (State.set _ _ _ _).get _ _ = _
      rw [get_set_field _ _ _ _ (by decide)]
      exact get_set_same ..
    · show (State.set _ _ _ _).get _ _ = _
      rw [get_set_field _ _ _ _ (by decide), get_set_field _ _ _ _ (by decide)]
      refine hs.moduleId.trans ?_
      show ((State.set _ _ _ _).set _ _ _).get _ _ = _
      rw [get_set_field _ _ _ _ (by decide), get_set_field _ _ _ _ (by decide)]
      exact get_set_field _ _ _ _ (by decide)
  clear_value single
  have h2 : continued.pair.active = false ∧ continued.get PAIR_STATUS_master = 1 ∧ continued.moduleId = s.moduleId := by
    show (ite _ _ _ : State).pair.active = _ ∧ (ite _ _ _ : State).get _ _ = _ ∧ (ite _ _ _ : State).moduleId = _
    split
    · exact h1
    · have hs := steady_ungranted (show Steady single cont from steady_firnContinue single)
      exact ⟨hs.active.trans h1.1, hs.master.trans h1.2.1, hs.moduleId.trans h1.2.2⟩
  clear_value continued
  have hc : Steady continued closed := ((steady_reqsResend _).trans (steady_requeue _)).trans (.each _ _ _ steady_closeSeg)
  clear_value closed
  have h3 : held.pair.active = false ∧ held.get PAIR_STATUS_master = 1 ∧ held.moduleId = s.moduleId :=
    ⟨hc.active.trans h2.1, hc.master.trans h2.2.1, hc.moduleId.trans h2.2.2⟩
  clear_value held
  obtain ⟨hoa, hor⟩ := ownAll_kept held
  have hconv : Steady held.ownAll converted := steady_neveConvert _
  have hadopt : Steady converted adopted := .each _ _ _ steady_slotAdopt
  have hstop : Steady adopted stopped := .each _ _ _ steady_restoreStop
  have hann : Steady stopped announced := .each _ _ _ steady_locAnnounce
  have hend : Steady announced ended := ((Steady.each _ _ _ steady_unhold).trans (steady_keyAlone _)).trans (steady_sltAlone _)
  have hs : Steady held.ownAll ended := (((hconv.trans hadopt).trans hstop).trans hann).trans hend
  clear_value ended
  refine ⟨?_, ?_, hs.active.trans (hoa.trans h3.1), ?_, fun i n hi => ?_⟩
  · rw [get_raise, get_set_field _ _ _ _ (by decide)]
    exact get_set_same ..
  · rw [get_raise]
    exact get_set_same ..
  · rw [State.flag, get_raise, get_set_field _ _ _ _ (by decide), get_set_field _ _ _ _ (by decide), hs.master, hor _ _ (by decide), h3.2.1]
    rfl
  · have hn : held.ownAll.ns i = some n := by
      rw [State.ns, ← hs.ns]
      exact hi
    exact (ownAll_owned held i n hn).trans h3.2.2

/-! ## The period of heartbeats -/

/-- What a period's heartbeats write. -/
theorem heartbeatSend_sent (s : State) : Within { parts := [.ctr, .pair, .outbox] } s s.heartbeatSend ∧
    ∃ n, s.heartbeatSend.pair = { s.pair with sent := n } := by
  refine ⟨within_each _ _ _ fun s l => ((within_pair s _ rfl).trans (within_send _ _ rfl)).trans (within_bump _ _ _ rfl), ?_⟩
  exact each_holds (P := fun t => ∃ n, t.pair = { s.pair with sent := n }) (fun t l ⟨n, hn⟩ => ⟨t.pair.sent + 1, by
    show ({ t.pair with sent := t.pair.sent + 1 } : Pair) = _
    rw [hn]⟩) _ ⟨s.pair.sent, rfl⟩

/-- The period counted, before anything is decided. -/
def State.counted (s : State) : State :=
  let s := s.heartbeatSend
  let heard := s.pair.heard
  let s := { s with pair := { s.pair with heard := false } }
  if heard then s.set PAIR_STATUS_missed 0 0 else (s.addSat PAIR_STATUS_missed 0 1).bump (ctrPair 3)

/-- A counted period: the count of misses, and what else is as it was. -/
structure Counted (s t : State) : Prop where
  pair   : ∃ n, t.pair = { s.pair with sent := n, heard := false }
  regs   : ∀ f i, (PAIR_STATUS_missed.reg, PAIR_STATUS_missed.lo) ≠ (f.reg, f.lo) → t.get f i = s.get f i
  jnl    : t.jnl = s.jnl
  missed : t.get PAIR_STATUS_missed = if s.pair.heard then 0 else min (s.get PAIR_STATUS_missed + 1) 15

theorem counted_counted (s : State) : Counted s s.counted := by
  obtain ⟨hw, n, hn⟩ := heartbeatSend_sent s
  unfold State.counted
  extract_lets sent heard _ taken
  have hh : heard = s.pair.heard := (congrArg Pair.heard hn :)
  have hp : taken.pair = { s.pair with sent := n, heard := false } := by
    show ({ sent.pair with heard := false } : Pair) = _
    rw [show sent.pair = _ from hn]
  have hr : ∀ f i, taken.get f i = s.get f i := fun f i => hw.regs f i rfl
  have hj : taken.jnl = s.jnl := hw.jnl rfl
  clear_value taken
  rw [hh]
  split
  · next e =>
    refine ⟨⟨n, hp⟩, fun f i hf => (get_set_field _ _ _ _ hf).trans (hr f i), hj, ?_⟩
    rw [if_pos e, get_set_same]
    rfl
  · next e =>
    refine ⟨⟨n, hp⟩, fun f i hf => (get_set_field _ _ _ _ hf).trans (hr f i), hj, ?_⟩
    rw [if_neg e, ← hr]
    have hlt : min (taken.get PAIR_STATUS_missed + 1) 15 < 2 ^ PAIR_STATUS_missed.w := Nat.lt_of_le_of_lt (Nat.min_le_right _ _) (by decide)
    exact (get_set_same ..).trans (Nat.mod_eq_of_lt hlt)

/-- With no move under way and the third miss counted, the decision falls. -/
theorem heartbeatPeriod_decides (s : State) (hp : s.pairShelf = true) (hc : s.pair.conflict = false) (hd : s.dumping = false)
    (hh : s.pair.heard = false) (hm : s.pair.moves = []) (ha : s.pair.active = true) (hn : s.get PAIR_STATUS_missed = 2) :
    s.heartbeatPeriod = s.counted.pairDecide := by
  obtain ⟨⟨n, hpair⟩, -, -, hmiss⟩ := counted_counted s
  have hph : s.jnl.phase ≠ .held := fun e => by
    rw [State.dumping, e] at hd
    cases hd
  have hsent : s.heartbeatSend.pair.heard = false := by
    obtain ⟨-, m, h⟩ := heartbeatSend_sent s
    rw [h]
    exact hh
  unfold State.heartbeatPeriod
  rw [if_neg (by simp [hp, hc, hph])]
  show (if s.heartbeatSend.pair.heard then s.counted.moveStep else if s.counted.moveStep.pair.active && decide (s.counted.moveStep.get PAIR_STATUS_missed = 3)
    then s.counted.moveStep.pairDecide else _) = _
  rw [moveStep_none _ (by rw [hpair]; exact hm), hsent, if_neg Bool.false_ne_true, hpair, hmiss, hh, hn, if_pos (by simp [ha])]

theorem Counted.dumping {s t : State} (h : Counted s t) : t.dumping = s.dumping := by rw [State.dumping, State.dumping, h.jnl]

/-- Settles O37: a takeover command in a split and the third miss with a low line both run the takeover. -/
theorem takeover : Obligations.Takeover := by
  unfold Obligations.Takeover
  refine ⟨fun s hs hb hd => ?_, fun s hs => ?_, fun s hp hc hd hh hm ha hn hal hbad => ?_⟩
  · have e : s.takeoverCmd = s.takeover := if_pos (by simp [hs, hb, hd])
    obtain ⟨h1, h2, h3, h4, h5⟩ := takeover_taken s
    rw [← e] at h1 h2 h3 h4 h5
    refine ⟨_, rfl, (get_only_in _ _ _ _ _ rfl).trans h1, (get_only_in _ _ _ _ _ rfl).trans h2, h3, ?_, h5⟩
    rw [State.flag, get_only_in _ _ _ _ _ rfl]
    exact h4
  · have e : s.takeoverCmd = s.set PAIR_STATUS_cmd_result 0 1 := if_neg (by simp [hs])
    refine ⟨_, rfl, (get_only_in _ _ _ _ _ rfl).trans ?_, ?_⟩
    · rw [e]
      exact get_set_same ..
    · show s.takeoverCmd.pair = _
      rw [e]
      rfl
  · have hk := counted_counted s
    obtain ⟨n, hpair⟩ := hk.pair
    have e : s.heartbeatPeriod = s.counted.takeover := by
      rw [heartbeatPeriod_decides s hp hc hd hh hm ha hn, State.pairDecide, if_neg (by rw [hk.dumping, hd]; decide)]
      refine if_pos ?_
      rw [State.flag] at hal
      rw [State.flag, hk.regs _ _ (by decide), hpair, hal, hbad]
      rfl
    obtain ⟨h1, -, h3, -, -⟩ := takeover_taken s.counted
    rw [← e] at h1 h3
    exact ⟨_, rfl, (get_only_in _ _ _ _ _ rfl).trans h1, h3⟩

end Sys2Proof.Machine
end

section
/-! PROOFS. The pair link: heartbeats, formation, splits, acknowledgements and retransmission (chapter 11). -/

namespace Sys2Proof.Machine

open F

/-! ## The split and the yield -/

/-- What a split leaves. -/
structure IsSplit (s t : State) : Prop where
  state  : t.get PAIR_STATUS_state = 4
  missed : t.get PAIR_STATUS_missed = s.get PAIR_STATUS_missed
  active : t.pair.active = false

theorem split_isSplit (s : State) : IsSplit s s.split := by
  unfold State.split
  extract_lets told _ alone
  have hs : Steady alone (alone.pairSingle.redirectAll.splitHold.keyAlone.sltAlone) :=
    ((((steady_pairSingle _).trans (steady_redirectAll _)).trans (steady_splitHold _)).trans (steady_keyAlone _)).trans (steady_sltAlone _)
  refine ⟨(hs.regs _ _ (by decide)).trans (get_set_same ..), ?_, hs.active⟩
  rw [hs.regs _ _ (by decide)]
  exact get_set_field _ _ _ _ (by decide)

/-- With the partner's line high the decision is a split. -/
theorem pairDecide_split (s : State) (hd : s.dumping = false) (ha : s.flag PAIR_STATUS_partner_alive = true) (hs : s.get PAIR_STATUS_state ≠ 4) :
    s.pairDecide = s.split := by
  unfold State.pairDecide
  rw [hd, ha, if_neg Bool.false_ne_true, if_neg (by simp), if_neg hs]

theorem yieldNow_idle (s : State) (h : s.jnl.phase = .idle) : s.yieldNow.jnl.phase = .stopping false s.dtc ∧ s.yieldNow.evt = (s.raise EV_PAIR_YIELD 0 0).evt := by
  unfold State.yieldNow State.stopStart
  rw [show ((s.raise EV_PAIR_YIELD 0 0).set PAIR_STATUS_state 0 5).jnl.phase = .idle from h]
  exact ⟨rfl, rfl⟩

theorem stopStart_get (s : State) (r : Bool) (f : Fld) (i : Nat) : (s.stopStart r).get f i = s.get f i := by
  unfold State.stopStart
  split <;> rfl

theorem yieldNow_state (s : State) : s.yieldNow.get PAIR_STATUS_state = 5 := (stopStart_get _ _ _ _).trans (get_set_same ..)

/-! ## Heartbeats -/

/-- A period with a heartbeat heard only counts. -/
theorem heartbeatPeriod_heard (s : State) (hp : s.pairShelf = true) (hc : s.pair.conflict = false) (hj : s.jnl.phase ≠ .held)
    (hh : s.pair.heard = true) (hm : s.pair.moves = []) : s.heartbeatPeriod = s.counted := by
  obtain ⟨⟨n, hpair⟩, -, -, -⟩ := counted_counted s
  have hsent : s.heartbeatSend.pair.heard = true := by
    obtain ⟨-, m, h⟩ := heartbeatSend_sent s
    rw [h]
    exact hh
  unfold State.heartbeatPeriod
  rw [if_neg (by simp [hp, hc, hj])]
  show (if s.heartbeatSend.pair.heard then s.counted.moveStep else _) = _
  rw [hsent, if_pos rfl, moveStep_none _ (by rw [hpair]; exact hm)]

theorem staleDrop_after (s : State) (h : Heartbeat) :
    Within { parts := [.evt, .ctr, .jnl], fields := [JNL_NEVE_STATUS_high_water] } s (s.staleDrop h) ∧ (s.staleDrop h).jnl.phase = s.jnl.phase := by
  unfold State.staleDrop
  split
  · exact ⟨.refl _ _, rfl⟩
  · refine ⟨(within_jnl s _ rfl).trans ((waterCheck_waterW _).widen (by decide) (by decide) (by decide)), ?_⟩
    rw [(waterCheck_waterW _).jnl rfl]

/-- The master's hand-over leaves who is heard and when. -/
theorem handover_pair (s : State) : s.handover.pair.heard = s.pair.heard ∧ s.handover.pair.partner = s.pair.partner ∧
    s.handover.pair.lastHb = s.pair.lastHb ∧ s.handover.pair.active = s.pair.active := by
  have h : ∀ {u v : State}, Steady u v → u.pair = s.pair → v.pair.heard = s.pair.heard ∧ v.pair.partner = s.pair.partner ∧
      v.pair.lastHb = s.pair.lastHb ∧ v.pair.active = s.pair.active := fun k e => by
    rw [k.pair, e]
    exact ⟨rfl, rfl, rfl, rfl⟩
  unfold State.handover
  split
  · exact ⟨rfl, rfl, rfl, rfl⟩
  · split
    · split
      · exact h (steady_unpark (s.set PAIR_STATUS_master 0 0)) rfl
      · exact ⟨rfl, rfl, rfl, rfl⟩
    · split
      · exact ⟨rfl, rfl, rfl, rfl⟩
      · have hc : s.firnContinue.pair = s.pair := by
          unfold State.firnContinue
          split <;> rfl
        exact h (steady_reqsResend (s.firnContinue.set PAIR_STATUS_master 0 1)) hc

/-- A heartbeat noted, before the partner's copies and roles are looked at. -/
def State.heartbeatNoted (s : State) (h : Heartbeat) : State :=
  let s := { s with pair := { s.pair with heard := true, partner := some h, lastHb := s.dtc } }
  let s := s.set PAIR_STATUS_partner_id 0 h.moduleId
  if s.pair.active && !s.flag PAIR_STATUS_partner_alive && !s.pair.aliveBad then
    { s with pair := { s.pair with aliveBad := true } }.raise EV_PAIR_ALIVE_FAULT 0 0 else s

/-- What the note of a heartbeat writes. -/
def notedW : Writes := { parts := [.evt, .ctr, .pair], fields := [PAIR_STATUS_partner_id] }

theorem heartbeatNoted_after (s : State) (h : Heartbeat) : Within notedW s (s.heartbeatNoted h) ∧
    (s.heartbeatNoted h).pair.heard = true ∧ (s.heartbeatNoted h).pair.partner = some h ∧ (s.heartbeatNoted h).pair.lastHb = s.dtc ∧
    (s.heartbeatNoted h).pair.active = s.pair.active ∧ (s.heartbeatNoted h).pair.conflict = s.pair.conflict ∧
    (s.heartbeatNoted h).pair.lastForm = s.pair.lastForm := by
  unfold State.heartbeatNoted
  extract_lets _ noted shown
  have w : Within notedW s shown := (within_pair s _ rfl).trans (within_set _ _ _ _ rfl)
  split
  · exact ⟨w.trans ((within_pair shown _ rfl).trans (within_raise _ _ _ _ _ rfl rfl)), rfl, rfl, rfl, rfl, rfl, rfl⟩
  · exact ⟨w, rfl, rfl, rfl, rfl, rfl, rfl⟩

/-- A heartbeat of the formation in being counts. -/
theorem heartbeatTake_active (s : State) (h : Heartbeat) (ha : s.pair.active = true) (hf : h.formation = s.pair.formation) :
    (s.heartbeatTake h).pair.heard = true ∧ (s.heartbeatTake h).pair.partner = some h ∧ (s.heartbeatTake h).pair.lastHb = s.dtc ∧
    (s.heartbeatTake h).pair.active = true := by
  have hold : s.oldFormation h = false := by simp [State.oldFormation, ha, hf]
  obtain ⟨-, h1, h2, h3, h4, -, -⟩ := heartbeatNoted_after s h
  obtain ⟨hw, -⟩ := staleDrop_after (s.heartbeatNoted h) h
  have hp := hw.pair rfl
  obtain ⟨k1, k2, k3, k4⟩ := handover_pair ((s.heartbeatNoted h).staleDrop h)
  rw [hp] at k1 k2 k3 k4
  have hm : ((s.heartbeatNoted h).staleDrop h).handover.mayForm = false := by
    unfold State.mayForm
    rw [k4, h4, ha]
    simp
  have e : s.heartbeatTake h = ((s.heartbeatNoted h).staleDrop h).handover := by
    unfold State.heartbeatTake
    rw [hold, if_neg Bool.false_ne_true]
    refine if_neg ?_
    show ¬(((s.heartbeatNoted h).staleDrop h).handover.mayForm && _ && _) = true
    rw [hm]
    simp
  rw [e]
  exact ⟨k1.trans h1, k2.trans h2, k3.trans h3, k4.trans (h4.trans ha)⟩

/-! ## Formation -/

/-- What a formation leaves. -/
structure Formed (n : Nat) (t : State) : Prop where
  active    : t.pair.active = true
  formation : t.pair.formation = n
  state     : t.get PAIR_STATUS_state = 1
  mirror    : t.get JNL_NEVE_STATUS_pair_state = 3

theorem steady_keyAgreeSend (s : State) : Steady s s.keyAgreeSend := by
  have hw : ∀ x, Within { parts := [.key, .freeCtr] } s { s.drbgPrivate.2 with key := x } := fun x =>
    (within_drbg s 4 rfl rfl : Within { parts := [.key, .freeCtr] } s s.drbgPrivate.2).trans (within_key s.drbgPrivate.2 x rfl)
  unfold State.keyAgreeSend
  exact (Steady.of_within (hw _) (by decide)).trans (steady_pairSend _ _)

theorem resyncStart_after (s : State) : s.resyncStart.get JNL_NEVE_STATUS_pair_state = 3 ∧ Steady s s.resyncStart := by
  unfold State.resyncStart
  extract_lets old cleared _ begun sent
  have h0 : Within { parts := [.jnl], fields := [JNL_NEVE_STATUS_pair_state, JNL_MIRROR_STATUS_acked_seq] } s begun :=
    ((within_set s _ _ _ rfl).trans (within_set _ _ _ _ rfl)).trans (within_jnl _ _ rfl)
  have hb : begun.get JNL_NEVE_STATUS_pair_state = 3 := by
    show (State.set _ _ _ _).get _ _ = _
    rw [get_set_field _ _ _ _ (by decide)]
    exact get_set_same ..
  have hs : Within pairW begun sent ∧ Steady begun sent := by
    have hi : ∀ (s : State) (a : Nat × NeveSlot), Within pairW s (match a.2.desc with
        | some d => (s.pairSend (.nevePut a.1 d a.2.data)).bump (ctrJnl 4) | none => s) ∧ Steady s (match a.2.desc with
        | some d => (s.pairSend (.nevePut a.1 d a.2.data)).bump (ctrJnl 4) | none => s) := fun s a => by
      split
      · exact ⟨(pairSend_pairW _ _).trans (within_bump _ _ _ rfl), (steady_pairSend _ _).trans (steady_firn.own (within_bump _ _ _ rfl))⟩
      · exact ⟨.refl _ _, .refl s⟩
    exact ⟨within_each _ _ _ fun s a => (hi s a).1, .each _ _ _ fun s a => (hi s a).2⟩
  clear_value sent
  have he : Within pairW sent (if sent.isMaster then sent.each sent.jnl.tail fun s r => s.pairSend (.firnPut [r] s.firnFloor) else sent) ∧
      Steady sent (if sent.isMaster then sent.each sent.jnl.tail fun s r => s.pairSend (.firnPut [r] s.firnFloor) else sent) :=
    ⟨within_ite _ (fun _ => within_each _ _ _ fun s r => pairSend_pairW s _) fun _ => .refl _ _,
      .ite _ (fun _ => .each _ _ _ fun s r => steady_pairSend s _) fun _ => .refl _⟩
  refine ⟨?_, ((Steady.of_within h0 (by decide)).trans hs.2).trans he.2⟩
  rw [he.1.regs _ _ rfl, hs.1.regs _ _ rfl, hb]

theorem pairForm_formed (s : State) (n : Nat) (h : Heartbeat) : Formed n (s.pairForm n h) := by
  unfold State.pairForm
  extract_lets _ begun shown mastered _ cleared told
  have h1 : mastered.pair.active = true ∧ mastered.pair.formation = n ∧ mastered.get PAIR_STATUS_state = 1 := by
    have hb : shown.pair.active = true ∧ shown.pair.formation = n ∧ shown.get PAIR_STATUS_state = 1 := ⟨rfl, rfl, get_set_same ..⟩
    clear_value shown
    show (ite _ _ _ : State).pair.active = _ ∧ (ite _ _ _ : State).pair.formation = _ ∧ (ite _ _ _ : State).get _ _ = _
    split
    · have hc := steady_firnContinue shown
      refine ⟨hc.active.trans hb.1, (congrArg Pair.formation hc.pair :).trans hb.2.1, ?_⟩
      rw [get_set_field _ _ _ _ (by decide), hc.regs _ _ (by decide)]
      exact hb.2.2
    · exact hb
  clear_value mastered
  have h2 : Steady mastered told := (steady_firn.own (within_qpe mastered _ rfl)).trans ((steady_keyAgreeSend _).trans (steady_pairSend _ _))
  clear_value told
  have h3 : Steady told (told.each told.jnl.awaiting fun s (i, _) => s.pairSend (.neveFetch i)) := .each _ _ _ fun s a => steady_pairSend s _
  obtain ⟨h4, h5⟩ := resyncStart_after (told.each told.jnl.awaiting fun s (i, _) => s.pairSend (.neveFetch i))
  have hs := (h2.trans h3).trans h5
  exact ⟨hs.active.trans h1.1, (congrArg Pair.formation hs.pair :).trans h1.2.1, (hs.regs _ _ (by decide)).trans h1.2.2, h4⟩

end Sys2Proof.Machine
end

section
/-! PROOFS. The rows of the pair link. -/

namespace Sys2Proof.Machine

open F

/-! ## Heartbeats taken -/

/-- A heartbeat that is not of an old formation: noted, then a formation where one may begin. -/
theorem heartbeatTake_eq (s : State) (h : Heartbeat) (hold : s.oldFormation h = false) : s.heartbeatTake h =
    if ((s.heartbeatNoted h).staleDrop h).handover.mayForm && decide (h.poolId = ((s.heartbeatNoted h).staleDrop h).handover.str.poolId) &&
      (h.bayB != ((s.heartbeatNoted h).staleDrop h).handover.bayB) then
      if !((s.heartbeatNoted h).staleDrop h).handover.bayB then
        ((s.heartbeatNoted h).staleDrop h).handover.pairForm ((s.heartbeatNoted h).staleDrop h).handover.nextFormation h
      else if h.formation != 0 && h.formation != ((s.heartbeatNoted h).staleDrop h).handover.pair.lastForm then
        ((s.heartbeatNoted h).staleDrop h).handover.pairForm h.formation h
      else ((s.heartbeatNoted h).staleDrop h).handover
    else ((s.heartbeatNoted h).staleDrop h).handover := by
  unfold State.heartbeatTake
  rw [hold, if_neg Bool.false_ne_true]
  rfl

/-- Bay A that waits for its partner forms a pair with the first heartbeat. -/
theorem heartbeatTake_forms (s : State) (h : Heartbeat) (hp : s.pairShelf = true) (hb : s.bayB = false) (hhb : h.bayB = true)
    (ha : s.pair.active = false) (hc : s.pair.conflict = false) (hd : s.dumping = false) (hs : s.get PAIR_STATUS_state = 1)
    (hpool : h.poolId = s.str.poolId) (hf : h.formation = 0) : Formed s.nextFormation (s.heartbeatTake h) := by
  have hold : s.oldFormation h = false := by simp [State.oldFormation, ha, hf]
  obtain ⟨hnw, -, -, -, hna, hnc, hnl⟩ := heartbeatNoted_after s h
  obtain ⟨hsw, hsp⟩ := staleDrop_after (s.heartbeatNoted h) h
  obtain ⟨u, hu⟩ : ∃ u, u = (s.heartbeatNoted h).staleDrop h := ⟨_, rfl⟩
  have hr : ∀ f i, notedW.field (Fld.key f i) = false → ({ parts := [.evt, .ctr, .jnl], fields := [JNL_NEVE_STATUS_high_water] } : Writes).field (f.key i) = false →
      u.get f i = s.get f i := fun f i h1 h2 => by rw [hu, hsw.regs f i h2, hnw.regs f i h1]
  have hup : u.pair = (s.heartbeatNoted h).pair := by rw [hu]; exact hsw.pair rfl
  have hph : u.jnl.phase = s.jnl.phase := by rw [hu, hsp, hnw.jnl rfl]
  have hst : u.str = s.str := by rw [hu, hsw.str rfl, hnw.str rfl]
  have hub : u.bayB = false := by
    rw [State.bayB, State.flag] at hb ⊢
    rw [hr _ _ rfl rfl]
    exact hb
  have hho : u.handover = u := by
    refine if_pos ?_
    rw [hr _ _ rfl rfl, hs]
    rfl
  have hmay : u.mayForm = true := by
    unfold State.mayForm
    rw [hup, hna, hnc, ha, hc, show u.dumping = s.dumping by rw [State.dumping, State.dumping, hph], hd, hr _ _ rfl rfl, hs,
      show u.pairShelf = s.pairShelf by rw [State.pairShelf, State.pairShelf, State.flag, State.flag, hr _ _ rfl rfl], hp]
    rfl
  have e : s.heartbeatTake h = u.pairForm u.nextFormation h := by
    rw [heartbeatTake_eq s h hold, ← hu, hho, if_pos (by simp [hmay, hst, hpool, hub, hhb]), if_pos (by simp [hub])]
  rw [e, show s.nextFormation = u.nextFormation by rw [State.nextFormation, State.nextFormation, hup, hnl]]
  exact pairForm_formed _ _ _

/-- A heartbeat of the other bay in this module's protocol is taken into account. -/
theorem heartbeatIn_taken (s : State) (l : Nat) (h : Heartbeat) (hp : s.pairShelf = true) (hb : h.bayB ≠ s.bayB) (hv : h.proto = s.boot.proto) :
    s.heartbeatIn l h = (s.linkHeard l).heartbeatTake h := by
  have hw := within_linkHeard s l
  have hb2 : (s.linkHeard l).bayB = s.bayB := by rw [State.bayB, State.bayB, State.flag, State.flag, hw.regs _ _ rfl]
  unfold State.heartbeatIn
  rw [hp, if_neg (by decide)]
  dsimp only
  rw [hb2, if_neg hb, hw.boot rfl, if_neg (by simp [hv])]

/-! ## Frames kept, sent again and released -/

/-- The kept frames sent again, one after another: only where each was sent last changes. -/
theorem each_resend (s : State) (l : List (Nat × PairMsg)) (u : State) (hl : (l.map (·.1)).Nodup) (hp : { u.pair with keptOn := s.pair.keptOn } = s.pair)
    (hk : ∀ q ∈ l.map (·.1), tgetD u.pair.keptOn q 0 = tgetD s.pair.keptOn q 0) (hr : ∀ n, u.plUp n = s.plUp n) :
    { (u.each l fun s (q, m) =>
        let l := s.resendLink q
        let s := { s with pair := { s.pair with keptOn := tput s.pair.keptOn q l } }
        ((s.send (.pair l q s.pair.rxNext s.pair.formation m)).bump (ctrPair 2)).bump (ctrPair 0)).pair with keptOn := s.pair.keptOn } = s.pair ∧
    (u.each l fun s (q, m) =>
        let l := s.resendLink q
        let s := { s with pair := { s.pair with keptOn := tput s.pair.keptOn q l } }
        ((s.send (.pair l q s.pair.rxNext s.pair.formation m)).bump (ctrPair 2)).bump (ctrPair 0)).outbox = u.outbox ++ l.map fun e =>
      .pair (if s.plUp (1 - tgetD s.pair.keptOn e.1 0) then 1 - tgetD s.pair.keptOn e.1 0 else tgetD s.pair.keptOn e.1 0) e.1
        s.pair.rxNext s.pair.formation e.2 := by
  induction l generalizing u with
  | nil => exact ⟨hp, (List.append_nil _).symm⟩
  | cons a l ih =>
    obtain ⟨q, m⟩ := a
    have hrx : u.pair.rxNext = s.pair.rxNext := (congrArg Pair.rxNext hp :)
    have hfo : u.pair.formation = s.pair.formation := (congrArg Pair.formation hp :)
    have hlink : u.resendLink q = if s.plUp (1 - tgetD s.pair.keptOn q 0) then 1 - tgetD s.pair.keptOn q 0 else tgetD s.pair.keptOn q 0 := by
      unfold State.resendLink
      dsimp only
      rw [hk q (List.mem_cons_self ..), hr]
    obtain ⟨hq, hl⟩ := List.nodup_cons.mp hl
    obtain ⟨h1, h2⟩ := ih ((({ u with pair := { u.pair with keptOn := tput u.pair.keptOn q (u.resendLink q) } }.send
      (.pair (u.resendLink q) q u.pair.rxNext u.pair.formation m)).bump (ctrPair 2)).bump (ctrPair 0)) hl hp (fun r hrm => by
        show tgetD (tput u.pair.keptOn q _) r 0 = _
        rw [tgetD, tget_tput_other _ _ fun e => hq (by rw [e]; exact hrm)]
        exact hk r (List.mem_cons_of_mem _ hrm)) hr
    refine ⟨h1, h2.trans ?_⟩
    show (u.outbox ++ [_]) ++ _ = _
    rw [hlink, hrx, hfo, List.append_assoc]
    rfl

/-- The held segments let go one after another. -/
theorem each_released (l : List Nat) (s : State) :
    ∀ i ∈ (s.each l fun s i =>
      let s := { s with pair := { s.pair with takenSegs := s.pair.takenSegs.filter (· != i) } }
      match s.seg i with
      | some g => if g.live = 0 && (g.state = .isSealed || g.state = .calving) then s.releaseSeg i else s
      | none => s).pair.takenSegs, i ∈ s.pair.takenSegs ∧ i ∉ l := by
  induction l generalizing s with
  | nil => exact fun i hi => ⟨hi, List.not_mem_nil⟩
  | cons a l ih =>
    intro i hi
    obtain ⟨h1, h2⟩ := ih _ i hi
    have hk : ∀ u : State, Steady u (match u.seg a with
        | some g => if g.live = 0 && (g.state = .isSealed || g.state = .calving) then u.releaseSeg a else u
        | none => u) := fun u => by
      split
      · exact .ite _ (fun _ => steady_firn.releaseSeg u a) fun _ => .refl u
      · exact .refl u
    have h3 : i ∈ s.pair.takenSegs.filter (· != a) := by
      have e := congrArg Pair.takenSegs (hk { s with pair := { s.pair with takenSegs := s.pair.takenSegs.filter (· != a) } }).pair
      rw [← show _ = s.pair.takenSegs.filter (· != a) from e]
      exact h1
    obtain ⟨h4, h5⟩ := List.mem_filter.mp h3
    exact ⟨h4, fun h => (List.mem_cons.mp h).elim (fun e => by simp [e] at h5) h2⟩

/-! ## A silent link -/

theorem portUp_silent (s : State) (l : Nat) (hl : l < 2) (h : l ∈ s.pair.down) : s.portUp (32 + l) = false := by
  rw [State.portUp, if_pos (by omega), Nat.add_sub_cancel_left, List.contains_iff_mem.mpr h]
  simp

theorem linksCheck_silent (s : State) (l : Nat) (hl : l < 2) (h : l ∈ s.pair.down) : s.linksCheck.plUp l = false := by
  rw [linksCheck_eq]
  rcases (by omega : l = 0 ∨ l = 1) with rfl | rfl
  · rw [linkCheck_first]
    exact linkCheck_down s 0 hl (portUp_silent s 0 hl h)
  · exact linkCheck_down _ 1 hl (portUp_silent _ 1 hl (by rw [(within_linkCheck s 0).pair rfl]; exact h))

theorem within_privilegedFlush (s : State) (p : Nat) : Within portEndW s (s.privilegedFlush p) :=
  (((flushRoot_after s p).2.1.widen (by decide) (by decide) (by decide)).trans (within_each _ _ _ fun s e => within_endCopy s _ _ _)).trans
    (within_raise _ _ _ _ _ rfl rfl)

theorem linkSilent_down (s : State) (l : Nat) (hl : l < 2) : (s.linkSilent l).plUp l = false ∧ l ∈ (s.linkSilent l).pair.down := by
  unfold State.linkSilent
  rw [if_neg (by omega)]
  extract_lets was _ u
  have hp : u.pair = { s.pair with down := l :: s.pair.down.filter (· != l) } := linksCheck_pair _
  have hd : u.plUp l = false := linksCheck_silent _ l hl (List.mem_cons_self ..)
  have hf : (if was then (u.privilegedFlush (32 + l)).portGone (32 + l) else u).pair = u.pair ∧
      (if was then (u.privilegedFlush (32 + l)).portGone (32 + l) else u).get PAIR_STATUS_links = u.get PAIR_STATUS_links := by
    split
    · have w1 := within_privilegedFlush u (32 + l)
      have w2 := within_portGone (u.privilegedFlush (32 + l)) (32 + l)
      exact ⟨(w2.pair rfl).trans (w1.pair rfl), (w2.regs _ _ rfl).trans (w1.regs _ _ rfl)⟩
    · exact ⟨rfl, rfl⟩
  refine ⟨?_, by rw [hf.1, hp]; exact List.mem_cons_self ..⟩
  rw [plUp_eq, hf.2]
  exact hd

/-! ## The rows together -/

theorem heartbeatPeriod_rows (s : State) (hp : s.pairShelf = true) (hc : s.pair.conflict = false) (hm : s.pair.moves = []) :
    (s.jnl.phase ≠ .held → s.pair.heard = true → ∃ t, exec .heartbeatPeriod s = .next t ∧ t.get PAIR_STATUS_missed = 0 ∧ t.pair.heard = false ∧
      t.get PAIR_STATUS_state = s.get PAIR_STATUS_state) ∧
    (s.dumping = false → s.pair.heard = false → s.pair.active = true → s.get PAIR_STATUS_missed = 2 → s.get PAIR_STATUS_state ≠ 4 →
      s.flag PAIR_STATUS_partner_alive = true →
      ∃ t, exec .heartbeatPeriod s = .next t ∧ t.get PAIR_STATUS_missed = 3 ∧ t.get PAIR_STATUS_state = 4 ∧ t.pair.active = false) := by
  have hk := counted_counted s
  obtain ⟨n, hpair⟩ := hk.pair
  refine ⟨fun hj hh => ?_, fun hd hh ha hn hs hal => ?_⟩
  · have e := heartbeatPeriod_heard s hp hc hj hh hm
    have hmi := hk.missed
    rw [if_pos hh] at hmi
    refine ⟨_, rfl, (get_only_in _ _ _ _ _ rfl).trans ?_, ?_, (get_only_in _ _ _ _ _ rfl).trans ?_⟩
    · rw [e]
      exact hmi
    · show s.heartbeatPeriod.pair.heard = false
      rw [e, hpair]
    · rw [e]
      exact hk.regs _ _ (by decide)
  · have e : s.heartbeatPeriod = s.counted.split := by
      rw [heartbeatPeriod_decides s hp hc hd hh hm ha hn]
      refine pairDecide_split _ (hk.dumping.trans hd) ?_ ?_
      · rw [State.flag, hk.regs _ _ (by decide)]
        exact hal
      · rw [hk.regs _ _ (by decide)]
        exact hs
    obtain ⟨h1, h2, h3⟩ := split_isSplit s.counted
    have hmi := hk.missed
    rw [hh, hn, if_neg Bool.false_ne_true] at hmi
    refine ⟨_, rfl, (get_only_in _ _ _ _ _ rfl).trans ?_, (get_only_in _ _ _ _ _ rfl).trans ?_, ?_⟩
    · rw [e, h2]
      exact hmi
    · rw [e]
      exact h1
    · show s.heartbeatPeriod.pair.active = false
      rw [e]
      exact h3

theorem bayConflict_served (s : State) (h : s.pair.conflict = false) : s.bayConflict.pair.conflict = true ∧ s.bayConflict.nsm.ns = [] ∧
    s.bayConflict.str.poolId = 0 := by
  unfold State.bayConflict
  rw [if_neg (by simp [h])]
  exact ⟨rfl, rfl, rfl⟩

theorem yieldCmd_begins (s : State) (h : s.get PAIR_STATUS_state = 2) : s.yieldCmd = s.yieldNow.set PAIR_STATUS_cmd_result 0 0 := if_neg (by simp [h])

/-- Settles O36: the period, a heartbeat, the line, an acknowledgement and the commands of the pair each leave what they say. -/
theorem pairLink : Obligations.PairLink := by
  unfold Obligations.PairLink
  refine ⟨fun s hp hc hj hh hm => (heartbeatPeriod_rows s hp hc hm).1 hj hh, fun s hp hc hd hh hm ha hn hs hal =>
    (heartbeatPeriod_rows s hp hc hm).2 hd hh ha hn hs hal, fun s l h hp hb hv ha hf => ?_, fun s l h hp hb hhb hv ha hc hd hs hpool hf => ?_,
    fun s l h hp hb hc => ?_, fun s => ?_, fun s hs => ?_, fun s => ?_, fun s hs hm hy hi => ?_, fun s l a ha => ?_, fun s ha hu => ?_,
    fun s ha hl => ?_, fun s l hl => ?_, fun s hp ha hs hw hd hal => ?_, fun s hs => ?_, fun s hs => ?_⟩
  · obtain ⟨h1, h2, h3, h4⟩ := heartbeatTake_active (s.linkHeard l) h (by rw [linkHeard_pair]; exact ha) (by rw [linkHeard_pair]; exact hf)
    rw [← heartbeatIn_taken s l h hp hb hv] at h1 h2 h3 h4
    exact ⟨_, rfl, h1, h2, h3.trans ((within_linkHeard s l).dtc rfl), h4⟩
  · have w := within_linkHeard s l
    have hfl : ∀ f : Fld, linkW.field (f.key 0) = false → (s.linkHeard l).flag f = s.flag f := fun f hf => by rw [State.flag, State.flag, w.regs _ _ hf]
    have hform := heartbeatTake_forms (s.linkHeard l) h ((hfl _ rfl).trans hp) ((hfl _ rfl).trans hb) hhb (by rw [linkHeard_pair]; exact ha)
      (by rw [linkHeard_pair]; exact hc) (by rw [State.dumping, w.jnl rfl]; exact hd) (by rw [w.regs _ _ rfl]; exact hs) (by rw [w.str rfl]; exact hpool) hf
    rw [← heartbeatIn_taken s l h hp (by rw [hhb, hb]; decide) hv] at hform
    obtain ⟨h1, h2, h3, h4⟩ := hform
    refine ⟨_, rfl, h1, h2.trans ?_, (get_only_in _ _ _ _ _ rfl).trans h3, (get_only_in _ _ _ _ _ rfl).trans h4⟩
    rw [State.nextFormation, linkHeard_pair]
    rfl
  · have w := within_linkHeard s l
    have e : s.heartbeatIn l h = (s.linkHeard l).bayConflict := by
      unfold State.heartbeatIn
      rw [hp, if_neg (by decide)]
      refine if_pos ?_
      rw [hb, State.bayB, State.bayB, State.flag, State.flag, w.regs _ _ rfl]
    obtain ⟨h1, h2, h3⟩ := bayConflict_served (s.linkHeard l) (by rw [linkHeard_pair]; exact hc)
    rw [← e] at h1 h2 h3
    exact ⟨_, rfl, h1, h2, h3⟩
  · refine ⟨_, rfl, (get_only_in _ _ _ _ _ rfl).trans ?_, rfl⟩
    exact get_set_same s PAIR_STATUS_partner_alive 0 1
  · have e : s.aliveLine false = s.set PAIR_STATUS_partner_alive 0 0 := by
      unfold State.aliveLine
      dsimp only
      rw [if_neg Bool.false_ne_true, get_set_field _ _ _ _ (by decide), if_neg (by simp [hs])]
      rfl
    refine ⟨_, rfl, (get_only_in _ _ _ _ _ rfl).trans ?_, ?_⟩
    · rw [e]
      exact get_set_same ..
    · show (s.aliveLine false).pair = _
      rw [e]
      rfl
  · refine ⟨_, rfl, List.eq_nil_iff_forall_not_mem.mpr fun i hi => ?_⟩
    obtain ⟨h1, h2⟩ := each_released s.pair.takenSegs s i hi
    exact h2 h1
  · have e : (if s.get PAIR_STATUS_state = 4 && !s.isMaster && s.get PAIR_CFG_split_yield_s != 0 then s.yieldNow else s) = s.yieldNow :=
      if_pos (by simp [hs, hm, hy])
    obtain ⟨h1, h2⟩ := yieldNow_idle s hi
    refine ⟨_, rfl, (get_only_in _ _ _ _ _ rfl).trans ?_, ?_, ?_⟩
    · rw [e]
      exact yieldNow_state s
    · exact (congrArg (·.jnl.phase) e).trans h1
    · exact (reports_raise (s := s) (u := s) EV_PAIR_YIELD 0 0 [] rfl rfl fun _ _ _ => rfl).congr ((congrArg (·.evt) e).trans h2)
  · have e : (if s.pair.active && s.pair.formation = s.pair.formation then (s.linkHeard l).pairAcked a else s.linkHeard l) = (s.linkHeard l).pairAcked a :=
      if_pos (by simp [ha])
    refine ⟨_, rfl, (congrArg (·.pair.kept) e).trans ?_⟩
    show List.filter _ (s.linkHeard l).pair.kept = _
    rw [linkHeard_pair]
  · have e : (if s.pair.active && s.pair.unacked != 0 then s.linkAckSend else s) = s.linkAckSend := if_pos (by simp [ha, hu])
    exact ⟨_, rfl, congrArg (·.pair.unacked) e, congrArg (·.outbox) e⟩
  · have e : s.pairResend = _ := if_neg (by simp [ha])
    obtain ⟨h1, h2⟩ := each_resend s s.pair.kept s hl rfl (fun _ _ => rfl) fun _ => rfl
    refine ⟨_, rfl, ?_, ?_⟩
    · show ({ s.pairResend.pair with keptOn := s.pair.keptOn } : Pair) = _
      rw [e]
      exact h1
    · show s.pairResend.outbox = _
      rw [e]
      exact h2
  · obtain ⟨h1, h2⟩ := linkSilent_down s l hl
    refine ⟨_, rfl, ?_, h2⟩
    rw [plUp_eq, get_only_in _ _ _ _ _ rfl]
    exact h1
  · have hq : s.awaitedLost = s := by
      unfold State.awaitedLost
      rw [hw]
      rfl
    have e : s.formWait = s.split := by
      unfold State.formWait
      rw [if_neg (by simp [hp, ha, hs]), hq]
      exact pairDecide_split s hd hal (by rw [hs]; decide)
    refine ⟨_, rfl, (get_only_in _ _ _ _ _ rfl).trans ?_⟩
    rw [e]
    exact (split_isSplit s).state
  · have e := yieldCmd_begins s hs
    refine ⟨_, rfl, (get_only_in _ _ _ _ _ rfl).trans ?_, (get_only_in _ _ _ _ _ rfl).trans ?_⟩
    · rw [e, get_set_field _ _ _ _ (by decide)]
      exact yieldNow_state s
    · rw [e]
      exact get_set_same ..
  · have e : s.yieldCmd = s.set PAIR_STATUS_cmd_result 0 1 := if_pos (by simp [hs])
    refine ⟨_, rfl, (get_only_in _ _ _ _ _ rfl).trans ?_, rfl⟩
    rw [e]
    exact get_set_same ..

end Sys2Proof.Machine
end

section
/-! PROOFS. A MAP_CLEAR appended: at the master its blocks lose their entries at once, elsewhere its record is kept. -/

namespace Sys2Proof.Machine

open F

/-- A block without an entry stays without one, and a record kept for later stays kept. -/
structure Unmaps (s t : State) : Prop where
  bare   : ∀ ns lba, s.lookup ns lba = .unmapped → t.lookup ns lba = .unmapped
  parked : s.jnl.parked ⊆ t.jnl.parked
  reqs   : s.jnl.reqs ⊆ t.jnl.reqs

theorem SameBlocks.unmaps {s t : State} (h : SameBlocks s t) : Unmaps s t :=
  ⟨fun ns lba hb => by rw [State.lookup, h.map]; exact hb, h.parked, h.reqs⟩

theorem Unmaps.refl (s : State) : Unmaps s s := (SameBlocks.refl s).unmaps

theorem Unmaps.trans {s t u : State} (h : Unmaps s t) (k : Unmaps t u) : Unmaps s u :=
  ⟨fun ns lba hb => k.bare ns lba (h.bare ns lba hb), List.Subset.trans h.parked k.parked, List.Subset.trans h.reqs k.reqs⟩

theorem Unmaps.each {α : Type} {f : State → α → State} (h : ∀ s a, Unmaps s (f s a)) (l : List α) (s : State) : Unmaps s (s.each l f) :=
  each_holds (P := Unmaps s) (fun t a ht => ht.trans (h t a)) l (.refl s)

theorem SameBlocks.each {α : Type} {f : State → α → State} (h : ∀ s a, SameBlocks s (f s a)) (l : List α) (s : State) : SameBlocks s (s.each l f) :=
  each_holds (P := SameBlocks s) (fun t a ht => ht.trans (h t a)) l (.refl s)

/-- What holds after one element of a list, and stays, holds after the list. -/
theorem each_reaches {α : Type} {P : State → Prop} {f : State → α → State} {a : α} (ha : ∀ s, P (f s a)) (hk : ∀ s b, P s → P (f s b)) {l : List α}
    (hm : a ∈ l) (s : State) : P (s.each l f) := by
  induction l generalizing s with
  | nil => cases hm
  | cons b l ih =>
    rcases List.mem_cons.1 hm with rfl | hm
    · exact each_holds hk l (ha s)
    · exact ih hm (f s b)

/-! ## Blocks that lose their entry -/

theorem mapPut_unmaps (s : State) (ns lba : Nat) : Unmaps s (s.mapPut ns lba .unmapped) := by
  have h := mapPut_entry s ns lba .unmapped
  refine ⟨fun i l hb => ?_, h.parked, h.reqs⟩
  rw [State.lookup, h.map]
  show (tget (tdel s.str.map (ns, lba)) (i, l)).getD .unmapped = .unmapped
  rw [tget_tdel]
  split
  · rfl
  · exact hb

theorem mapPut_bare (s : State) (ns lba : Nat) : (s.mapPut ns lba .unmapped).lookup ns lba = .unmapped := by
  rw [State.lookup, (mapPut_entry s ns lba .unmapped).map]
  exact congrArg (fun o => Option.getD o MapEnt.unmapped) (tget_tdel_same _ _)

theorem mapUnmap_unmaps (s : State) (ns lba n : Nat) : Unmaps s (s.mapUnmap ns lba n) := .each (fun s _ => mapPut_unmaps s _ _) _ s

theorem mapUnmap_bare (s : State) (ns lba n : Nat) {l : Nat} (h : lba ≤ l) (k : l < lba + n) : (s.mapUnmap ns lba n).lookup ns l = .unmapped := by
  cases he : tget s.str.map (ns, l) with
  | none => exact (mapUnmap_unmaps s ns lba n).bare ns l (by rw [State.lookup, tgetD, he]; rfl)
  | some e =>
    refine each_reaches (P := fun t => t.lookup ns l = .unmapped) (a := l) (fun t => mapPut_bare t ns l) (fun t b ht => (mapPut_unmaps t ns b).bare ns l ht) ?_ s
    exact List.mem_filterMap.2 ⟨((ns, l), e), mem_of_tget he, by simp [h, k]⟩

/-! ## What a record's commit leaves -/

theorem sameBlocks_complete (s : State) (c : Nat) (st : Status) (a b : Word32) : SameBlocks s (s.complete c st a b) :=
  .of_within (complete_completeW s c st a b) rfl rfl

theorem sameBlocks_writeCheck (s : State) (c : Nat) : SameBlocks s (s.writeCheck c) := by
  unfold State.writeCheck
  split
  · exact .refl s
  · dsimp only
    split
    · exact (sameBlocks_complete s c _ _ _).trans (.of_eq rfl rfl rfl rfl rfl rfl)
    · exact .of_eq rfl rfl rfl rfl rfl rfl

theorem sameBlocks_mapRecorded (s : State) (ns lba n q : Nat) : SameBlocks s (s.mapRecorded ns lba n q) :=
  (SameBlocks.each sameBlocks_writeCheck _ _).after (.of_eq rfl rfl rfl rfl rfl rfl)

theorem sameBlocks_recSettled (s : State) (ns lba : Nat) (m : Bool) : SameBlocks s (s.recSettled ns lba m) := by
  unfold State.recSettled
  split
  · exact .refl s
  · exact .ite ((sameBlocks_complete _ _ _ _ _).after (.of_eq rfl rfl rfl rfl rfl rfl)) (.of_eq rfl rfl rfl rfl rfl rfl)

/-! ## The record appended -/

/-- A MAP_CLEAR that goes into the master's tail takes the entries of its blocks. -/
theorem firnAppend_clears (s : State) (o ns lba n : Nat) (hm : s.isMaster = true) (hw : s.appendWaits (.mapClear ns lba n) = false) :
    Unmaps s (s.firnAppend o (.mapClear ns lba n)) ∧
    ∀ l, lba ≤ l → l < lba + n → (s.firnAppend o (.mapClear ns lba n)).lookup ns l = .unmapped := by
  obtain ⟨u, q, hu, hj, -, he⟩ := firnAppend_master s o _ hm hw
  have hplaced : SameBlocks s u := .of_eq (by rw [hj]) (by rw [hj]) (by rw [hu.str rfl]) (by rw [hu.str rfl]) (by rw [hj]) (by rw [hj])
  have hend : SameBlocks (u.mapUnmap ns lba n) (s.firnAppend o (.mapClear ns lba n)) := by
    rw [he]
    exact .ite (.refl _) (((sameBlocks_mapRecorded _ _ _ _ _).trans (sameBlocks_recSettled _ _ _ _)).after (.of_eq rfl rfl rfl rfl rfl rfl))
  exact ⟨(hplaced.unmaps.trans (mapUnmap_unmaps u ns lba n)).trans hend.unmaps, fun l h k => hend.unmaps.bare ns l (mapUnmap_bare u ns lba n h k)⟩

/-- A block without an entry, or one whose MAP_CLEAR is kept for later. -/
def State.Clearing (s : State) (ns lba : Nat) : Prop := s.lookup ns lba = .unmapped ∨
  ∃ a n, a ≤ lba ∧ lba < a + n ∧ ((0, FirnBody.mapClear ns a n) ∈ s.jnl.parked ∨ (0, FirnBody.mapClear ns a n) ∈ s.jnl.reqs)

theorem Unmaps.clearing {s t : State} (h : Unmaps s t) {ns lba : Nat} (hc : s.Clearing ns lba) : t.Clearing ns lba := by
  rcases hc with hb | ⟨a, n, h1, h2, hp | hr⟩
  · exact .inl (h.bare ns lba hb)
  · exact .inr ⟨a, n, h1, h2, .inl (h.parked hp)⟩
  · exact .inr ⟨a, n, h1, h2, .inr (h.reqs hr)⟩

/-- A record that does not go into the tail is kept for later, and no block gains an entry. -/
theorem firnAppend_keeps (s : State) (o : Nat) (b : FirnBody) (h : ¬(s.isMaster = true ∧ s.appendWaits b = false)) :
    SameBlocks s (s.firnAppend o b) ∧ ((o, b) ∈ (s.firnAppend o b).jnl.parked ∨ (o, b) ∈ (s.firnAppend o b).jnl.reqs) := by
  have hs : SameBlocks s (s.firnAppendWith (fun s _ => s) (fun s _ => s) o b) := sameBlocks_firnAppendWith (fun s _ => .refl s) (fun s _ => .refl s) s o b
  have he : s.firnAppend o b = s.firnAppendWith (fun s _ => s) (fun s _ => s) o b := by
    unfold State.firnAppend State.firnAppendWith
    split
    · rfl
    · next hm =>
      split
      · rfl
      · next hw => exact absurd ⟨by simpa using hm, by simpa using hw⟩ h
  refine ⟨he ▸ hs, ?_⟩
  unfold State.firnAppend State.firnAppendWith
  split
  · split
    · exact .inr (by rw [(pairSend_pairW _ _).jnl rfl]; exact List.mem_append_right _ (List.mem_singleton_self _))
    · exact .inl (List.mem_append_right _ (List.mem_singleton_self _))
  · next hm =>
    split
    · extract_lets _ parked
      have hp : (o, b) ∈ parked.jnl.parked := List.mem_append_right _ (List.mem_singleton_self _)
      refine .inl ?_
      split
      · rw [(within_enter _ _ rfl : Within { parts := [.ctr] } _ _).jnl rfl, (within_raise _ _ _ _ _ rfl rfl : Within { parts := [.evt, .ctr] } _ _).jnl rfl]
        exact hp
      · exact hp
    · next hw => exact absurd ⟨by simpa using hm, by simpa using hw⟩ h

theorem firnAppend_unmaps (s : State) (o ns lba n : Nat) : Unmaps s (s.firnAppend o (.mapClear ns lba n)) := by
  by_cases h : s.isMaster = true ∧ s.appendWaits (.mapClear ns lba n) = false
  · exact (firnAppend_clears s o ns lba n h.1 h.2).1
  · exact (firnAppend_keeps s o _ h).1.unmaps

/-- A MAP_CLEAR appended anywhere: its blocks have lost their entry, or its record is kept. -/
theorem firnAppend_clearing (s : State) (ns lba n : Nat) {l : Nat} (h : lba ≤ l) (k : l < lba + n) :
    (s.firnAppend 0 (.mapClear ns lba n)).Clearing ns l := by
  by_cases hm : s.isMaster = true ∧ s.appendWaits (.mapClear ns lba n) = false
  · exact .inl ((firnAppend_clears s 0 ns lba n hm.1 hm.2).2 l h k)
  · exact .inr ⟨lba, n, h, k, (firnAppend_keeps s 0 _ hm).2⟩

/-! ## A range cut at the map's pages -/

/-- The run of a range in the page `j` pages behind its first. -/
def runIn (lba n j : Nat) : Option (Nat × Nat) :=
  let a := if j = 0 then lba else (pageOf lba + j) * 512
  let b := min (lba + n) ((pageOf lba + j + 1) * 512)
  if a < b then some (a, b - a) else none

theorem pageRuns_eq (lba n : Nat) : pageRuns lba n = (List.range ((n + 511) / 512 + 1)).filterMap (runIn lba n) := rfl

/-- Every block of a range lies in one of its runs. -/
theorem mem_pageRuns (lba n : Nat) {l : Nat} (h : lba ≤ l) (k : l < lba + n) : ∃ r ∈ pageRuns lba n, r.1 ≤ l ∧ l < r.1 + r.2 := by
  have hj : l / 512 - lba / 512 < (n + 511) / 512 + 1 := by omega
  have hr : ∃ r, runIn lba n (l / 512 - lba / 512) = some r ∧ r.1 ≤ l ∧ l < r.1 + r.2 := by
    unfold runIn pageOf
    refine ⟨_, if_pos ?_, ?_, ?_⟩ <;> split <;> omega
  obtain ⟨r, hr, h1, h2⟩ := hr
  exact ⟨r, by rw [pageRuns_eq]; exact List.mem_filterMap.2 ⟨_, List.mem_range.2 hj, hr⟩, h1, h2⟩

/-- A range within one page is one run. -/
theorem pageRuns_single (lba n : Nat) (hn : 0 < n) (h : pageOf lba = pageOf (lba + n - 1)) : pageRuns lba n = [(lba, n)] := by
  unfold pageOf at h
  have h0 : runIn lba n 0 = some (lba, n) := by
    have hb : min (lba + n) ((lba / 512 + 0 + 1) * 512) = lba + n := by omega
    unfold runIn pageOf
    dsimp only
    rw [hb, if_pos rfl, if_pos (by omega), Nat.add_sub_cancel_left]
  have hs : ∀ j, runIn lba n (j + 1) = none := fun j => by
    unfold runIn pageOf
    dsimp only
    rw [if_neg (Nat.succ_ne_zero j), if_neg (by omega)]
  rw [pageRuns_eq, List.range_succ_eq_map, List.filterMap_cons, h0, List.filterMap_map]
  exact congrArg _ (List.filterMap_eq_nil_iff.2 fun j _ => hs j)

end Sys2Proof.Machine
end

section
/-! PROOFS. The commands on I/O commands as they begin: Flush, Write, Read, Write Zeroes, Dataset Management and Copy (R114, R122, R210, R214 to
R216). -/

namespace Sys2Proof.Machine

open F

/-! ## A command that is ready -/

theorem ready_spec {s : State} {c op : Nat} {x : Cmd} (h : s.ready c op = some x) :
    s.cmd c = some x ∧ x.phase = .started ∧ x.sqe.opcode = op ∧ s.cmdAdmin x = false := by
  unfold State.ready at h
  split at h
  · cases h
  next y hy =>
    split at h
    next hc =>
      cases h
      simp only [Bool.and_eq_true, decide_eq_true_eq, Bool.not_eq_true'] at hc
      obtain ⟨⟨⟨hp, ho⟩, -⟩, ha⟩ := hc
      exact ⟨hy, hp, ho, ha⟩
    · cases h

/-- A command begun is the one it was, with the marks given. -/
theorem begin_cmd {s : State} {c : Nat} {x : Cmd} (h : s.cmd c = some x) (f : Cmd → Cmd) : (s.modCmd c f).cmd c = some (f x) := by
  rw [cmd_modCmd_same, h]
  rfl

theorem Running.modCmd {s : State} {c : Nat} {x : Cmd} {q : Qp} (h : Running s c x q) (f : Cmd → Cmd) (hr : (f x).remote = x.remote)
    (hp : (f x).phase = x.phase) (hq : (f x).qpn = x.qpn) : Running (s.modCmd c f) c (f x) q :=
  ⟨begin_cmd h.cmd f, hr.trans h.here, hp ▸ h.open_, hq ▸ h.qp, h.live, h.ring⟩

theorem Running.kept {s t : State} {c : Nat} {x : Cmd} {q : Qp} (h : Running s c x q) (e : t.qpe = s.qpe) : Running t c x q :=
  h.of_qpe (congrArg Qpe.cmds e) (congrArg Qpe.qps e)

/-- A command completed is as far as it was. -/
theorem Running.complete_keeps {s : State} {c : Nat} {x : Cmd} {q : Qp} (h : Running s c x q) (st : Status) (a b : Word32) :
    ∃ y, (s.complete c st a b).cmd c = some y ∧ y.begun = x.begun ∧ y.left = x.left ∧ y.data = x.data := by
  obtain ⟨hcmd, hhere, hopen, hqp, hlive, hring⟩ := h
  simp only [State.complete, hcmd, hopen, hhere, hqp, hlive, hring, if_false, decide_false, Bool.or_self, Bool.false_eq_true]
  exact ⟨_, (cmd_modCmd_same s c _).trans (congrArg (Option.map _) hcmd), rfl, rfl, rfl⟩

/-! ## Flush (R122) -/

/-- A Flush that has begun and covers the writes given. -/
def State.Flushing (s : State) (c : Nat) (l : List Nat) : Prop := ∃ y, s.cmd c = some y ∧ y.begun = true ∧ y.phase = .started ∧ y.covers = l

theorem State.Flushing.of_qpe {s t : State} {c : Nat} {l : List Nat} (h : s.Flushing c l) (e : t.qpe = s.qpe) : t.Flushing c l := by
  obtain ⟨y, hy, hb⟩ := h
  exact ⟨y, by rw [State.cmd, e]; exact hy, hb⟩

theorem flushOut_flushing {s : State} {c : Nat} {l : List Nat} (h : s.Flushing c l) (n : List Nat) : (s.flushOut c n).Flushing c l := by
  unfold State.flushOut
  split
  · exact h
  · refine each_holds (P := fun t => t.Flushing c l) (fun t i ht => ?_) _ h
    obtain ⟨y, hy, hb⟩ := ht
    exact State.Flushing.of_qpe (s := t.modCmd c fun x => { x with fwdLeft := x.fwdLeft + 1 }) ⟨_, begin_cmd hy _, hb⟩ (pairSend_qpe _ _)

theorem flush_begins (s : State) (c : Nat) (x : Cmd) (h : s.ready c 0 = some x) (hf : x.forwarded = false) :
    ∃ l, (s.flush c).Flushing c l ∧ ∀ e ∈ s.jnl.writes, e.1 < c → e.2.ns ∈ s.flushNs x → e.1 ∈ l := by
  obtain ⟨hx, hp, -, -⟩ := ready_spec h
  have hn : ¬x.forwarded = true := by rw [hf]; exact Bool.false_ne_true
  unfold State.flush
  rw [h]
  change ∃ l, (ite (x.forwarded = true) _ _ : State).Flushing c l ∧ _
  rw [if_neg hn]
  extract_lets ns cmds jobs begun _ marked through due
  refine ⟨(cmds ++ jobs).dedup, ?_, fun e he hc hn => ?_⟩
  · have hbegun : begun.Flushing c (cmds ++ jobs).dedup := ⟨_, begin_cmd hx _, rfl, hp, rfl⟩
    have hwrite : ∀ (t : State) i, t.Flushing c (cmds ++ jobs).dedup → (t.stripeWrite i).Flushing c (cmds ++ jobs).dedup :=
      fun t i ht => ht.of_qpe ((within_stripeWrite t i).qpe rfl)
    exact flushOut_flushing (each_holds hwrite due (hbegun.of_qpe (t := marked) rfl)) _
  · refine List.mem_dedup.2 (List.mem_append_right _ (List.mem_map.2 ⟨e, List.mem_filter.2 ⟨he, ?_⟩, rfl⟩))
    simp [hc, hn, ns]

theorem flushDone_completes (s : State) (c : Nat) (x : Cmd) (q : Qp) (h : Running s c x q) (ho : x.sqe.opcode = 0) (hb : x.begun = true)
    (hp : x.phase = .started) (hf : x.forwarded = false) (ha : s.cmdAdmin x = false) (hc : ∀ k ∈ x.covers, s.coveredDone k = true)
    (hl : x.fwdLeft = 0) (hn : x.failed = none) : Completes (s.flushDone c) c St.ok := by
  unfold State.flushDone
  rw [h.cmd]
  dsimp only
  rw [if_pos (by simpa [ho, hb, hp, hf, ha, hl] using hc), hn]
  exact h.complete_completes _ _ _

/-! ## Staging (R28, R29) -/

theorem foldlM_within {w : Writes} {f : State → Nat → Option State} (hf : ∀ s b t, f s b = some t → Within w s t) (l : List Nat) {s t : State}
    (h : l.foldlM f s = some t) : Within w s t := by
  induction l generalizing s with
  | nil => cases h; exact .refl _ _
  | cons b l ih =>
    rw [List.foldlM_cons] at h
    obtain ⟨u, hu, ht⟩ := Option.bind_eq_some_iff.1 h
    exact (hf s b u hu).trans (ih ht)

theorem takeStage_swc {s t : State} {c b : Nat} (h : s.takeStage c b = some t) : Within { parts := [.swc] } s t := by
  unfold State.takeStage at h
  split at h
  · cases h; exact .refl _ _
  · split at h
    · cases h
    · split at h
      · cases h; exact within_swc s _ rfl
      · cases h

theorem takeReadUnit_swc {s t : State} {c b : Nat} (h : s.takeReadUnit c b = some t) : Within { parts := [.swc] } s t := by
  unfold State.takeReadUnit at h
  split at h
  next u hu => cases h; exact takeStage_swc hu
  · split at h
    · cases h; exact .refl _ _
    · split at h
      · cases h
      · cases h; exact within_swc s _ rfl

theorem takeStages_swc {s t : State} {c n : Nat} (h : s.takeStages c n = some t) : Within { parts := [.swc] } s t :=
  foldlM_within (fun _ _ _ h => takeStage_swc h) _ h

theorem takeReadUnits_swc {s t : State} {c n : Nat} (h : s.takeReadUnits c n = some t) : Within { parts := [.swc] } s t :=
  foldlM_within (fun _ _ _ h => takeReadUnit_swc h) _ h

/-! ## Write (R114) -/

/-- A Write that has begun, all its blocks still awaited, its data to be asked for under a region that is not being revoked. -/
structure Asking (c : Nat) (e : Sqe) (t : State) : Prop where
  live : t.keyRevoking (sglKeyOf e) = false
  cmd  : ∃ y, t.cmd c = some y ∧ y.begun = true ∧ y.phase = .started ∧ y.left = nlbOf e ∧ y.sqe = e

namespace Asking

variable {c : Nat} {e : Sqe} {s t : State}

theorem of_cmds (h : Asking c e s) (hr : t.hkt.regions = s.hkt.regions) (hc : t.qpe.cmds = s.qpe.cmds) : Asking c e t :=
  ⟨(keyRevoking_congr hr _).trans h.live, by rw [State.cmd, hc]; exact h.cmd⟩

theorem modCmd (h : Asking c e s) {f : Cmd → Cmd}
    (hf : ∀ y, (f y).begun = y.begun ∧ (f y).phase = y.phase ∧ (f y).left = y.left ∧ (f y).sqe = y.sqe) : Asking c e (s.modCmd c f) := by
  obtain ⟨y, hy, hb, hp, hl, he⟩ := h.cmd
  obtain ⟨h1, h2, h3, h4⟩ := hf y
  exact ⟨h.live, f y, begin_cmd hy f, h1.trans hb, h2.trans hp, h3.trans hl, h4.trans he⟩

theorem hostOp (h : Asking c e s) (o : QOwner) (p : HostOp) : Asking c e (s.hostOp o p) :=
  h.of_cmds (by rw [(within_hostOp s o p).hkt rfl]) (hostOp_queues s o p).cmds

theorem awayOn (h : Asking c e s) : Asking c e (s.awayOn c) := h.modCmd fun _ => ⟨rfl, rfl, rfl, rfl⟩

theorem pullBlock (h : Asking c e s) (b : Nat) : Asking c e (s.pullBlock c b) := by
  obtain ⟨y, hy, -, -, -, he⟩ := h.cmd
  unfold State.pullBlock
  rw [hy]
  dsimp only
  split
  · exact h
  · rw [he, h.live, Bool.and_false, if_neg Bool.false_ne_true]
    refine each_holds (P := Asking c e) (fun t r ht => ?_) _ h
    split
    · exact ht.of_cmds (sendMsg_mgmt _ _ _ _ _ _ _ _ _ _).2 (by rw [(within_sendMsg _ _ _ _ _ _ _ _ _ _).qpe rfl])
    · exact ht.awayOn.hostOp _ _

theorem pullAll (h : Asking c e s) : Asking c e (s.pullAll c) := by
  unfold State.pullAll
  split
  · exact h
  · exact each_holds (P := Asking c e) (fun t b ht => ht.pullBlock b) _ h

theorem ioGo (h : Asking c e s) (ho : e.opcode = 1) : Asking c e (s.ioGo c) := by
  obtain ⟨y, hy, -, -, -, he⟩ := h.cmd
  unfold State.ioGo
  rw [hy]
  dsimp only
  split
  · split
    · exact h
    · exact h.pullAll
  · rw [he, if_pos ho, ite_self]
    exact h.pullAll

theorem ioBegin (h : Asking c e s) (ho : e.opcode = 1) : Asking c e (s.ioBegin c) := by
  unfold State.ioBegin
  split
  · exact h
  · split
    · exact h.ioGo ho
    · dsimp only
      split
      · exact h.ioGo ho
      · split
        · exact Asking.ioGo (h.modCmd fun _ => ⟨rfl, rfl, rfl, rfl⟩) ho
        · refine Asking.hostOp (Asking.awayOn (h.modCmd ?_)) _ _
          exact fun _ => ⟨rfl, rfl, rfl, rfl⟩

end Asking

theorem write_asks (s u : State) (c : Nat) (x : Cmd) (h : s.ready c 1 = some x) (hu : s.takeStages c (nlbOf x.sqe) = some u)
    (hr : x.remote = none) (hk : s.keyRevoking (sglKeyOf x.sqe) = false) : Asking c x.sqe (s.write c) := by
  obtain ⟨hx, hp, ho, -⟩ := ready_spec h
  have hn : x.neveNeed = nlbOf x.sqe := if_neg (by rw [ho]; decide)
  have hs := takeStages_swc hu
  unfold State.write
  rw [h]
  dsimp only
  rw [hn, hu]
  dsimp only
  rw [hr, if_neg (by simp)]
  refine Asking.ioBegin ⟨(keyRevoking_congr (by rw [← hs.hkt rfl]; rfl) _).trans hk, _, begin_cmd (by rw [State.cmd, hs.qpe rfl]; exact hx) _, rfl, hp, hn, rfl⟩ ho

/-! ## A block without an entry read (R210) -/

theorem dropStage_swc (s : State) (c b : Nat) : Within { parts := [.swc] } s (s.dropStage c b) := by
  unfold State.dropStage
  dsimp only
  split
  · exact (within_swc s _ rfl).trans (within_swc _ _ rfl)
  · exact within_swc s _ rfl

/-- A block without an entry, its page in the cache, gives zeroes at once. -/
theorem readBlock_unmapped {s : State} {c b i : Nat} {x : Cmd} (hx : s.cmd c = some x) (hn : x.ns = some i) (hr : x.remote = none)
    (hc : (tgetD s.str.pages (i, pageOf (x.readLba b)) {}).cached = true) (hd : (tgetD s.str.pages (i, pageOf (x.readLba b)) {}).reading = false)
    (hl : s.lookup i (x.readLba b) = .unmapped) :
    s.readBlock c b = ({ s with str := { s.str with pages := tmod s.str.pages (i, pageOf (x.readLba b)) fun y => { y with used := true } } }).blockOut c b 0 := by
  unfold State.readBlock
  rw [hx]
  dsimp only
  rw [hn]
  dsimp only
  rw [hc, hd, if_neg (by decide), show State.lookup { s with str := { s.str with pages := tmod s.str.pages (i, pageOf (x.readLba b)) fun y =>
    { y with used := true } } } i (x.readLba b) = .unmapped from hl]
  dsimp only
  rw [hr]

/-- A Read whose last block is in, with nothing lost, completes once no write of it waits at the host port. -/
theorem readEnd_completes {s : State} {c : Nat} {x : Cmd} {q : Qp} (h : Running s c x q) (ho : x.sqe.opcode = 2) (hp : x.phase = .started)
    (hleft : x.left = 0) (hlost : x.lost = none) (hf : x.forwarded = false) (hq : s.hif.queue = []) : Completes (s.readEnd c) c St.ok := by
  unfold State.readEnd
  rw [h.cmd]
  dsimp only
  rw [hq, hleft, hp, hlost, ho, hf, if_neg (by simp)]
  dsimp only
  rw [if_neg (by decide), Bool.false_and, if_neg Bool.false_ne_true]
  exact (h.kept ((dropStages_swc s c).qpe rfl)).complete_completes _ _ _

/-- A block given to a network owner is sent; queues and host port are as before. -/
theorem pushBlock_net {s : State} {c : Nat} {x : Cmd} {q : Qp} {e : Eid} (h : Running s c x q) (ho : q.owner = .net e)
    (hk : s.keyRevoking (sglKeyOf x.sqe) = false) (b : Nat) (d : List Byte) : Within messageW s (s.pushBlock c b d) := by
  unfold State.pushBlock
  rw [h.cmd]
  dsimp only
  rw [h.qp]
  dsimp only
  rw [hk, Bool.and_false, if_neg Bool.false_ne_true, ho]
  exact within_each _ _ _ fun s _ => within_sendMsg s _ _ _ _ _ _ _ _ _

theorem blockOut_completes {s : State} {c : Nat} {x : Cmd} {q : Qp} {e : Eid} (h : Running s c x q) (ho : q.owner = .net e)
    (hk : s.keyRevoking (sglKeyOf x.sqe) = false) (hop : x.sqe.opcode = 2) (hp : x.phase = .started) (hleft : x.left = 1) (hlost : x.lost = none)
    (hf : x.forwarded = false) (hq : s.hif.queue = []) (b : Nat) : Completes (s.blockOut c b 0) c St.ok := by
  have hw : Within messageW s ((s.pushBlock c b (blockBytes 0)).dropStage c b) :=
    (pushBlock_net h ho hk b _).trans ((dropStage_swc _ c b).widen (by decide) (by decide) (by decide))
  unfold State.blockOut
  rw [h.cmd]
  dsimp only
  rw [hp, if_neg (by decide), hop, if_neg (by decide)]
  refine readEnd_completes ((h.kept (hw.qpe rfl)).modCmd _ rfl rfl rfl) hop hp (by rw [hleft]) hlost hf ?_
  show ((s.pushBlock c b (blockBytes 0)).dropStage c b).hif.queue = []
  rw [hw.hif rfl]
  exact hq

/-- A started command that has one block to read, which has no entry and whose page is in the cache. -/
structure OneBare (s : State) (c : Nat) (x : Cmd) (q : Qp) (i : Nat) : Prop where
  run     : Running s c x q
  io      : s.cmdAdmin x = false
  started : x.phase = .started
  reads   : x.sqe.opcode ≠ 1
  own     : x.forwarded = false
  whole   : x.waitList = false
  ns      : x.ns = some i
  need    : x.neveNeed = 1
  cached  : (tgetD s.str.pages (i, pageOf (x.readLba 0)) {}).cached = true
  settled : (tgetD s.str.pages (i, pageOf (x.readLba 0)) {}).reading = false
  bare    : s.lookup i (x.readLba 0) = .unmapped

/-- Staging taken and the command's progress noted leave it so. -/
theorem OneBare.after {s u : State} {c : Nat} {x : Cmd} {q : Qp} {i : Nat} (h : OneBare s c x q i) (hs : Within { parts := [.swc] } s u) {f : Cmd → Cmd}
    (hf : f x = { x with begun := (f x).begun, left := (f x).left, data := (f x).data, addrs := (f x).addrs }) : OneBare (u.modCmd c f) c (f x) q i := by
  obtain ⟨hrun, hio, hstarted, hreads, hown, hwhole, hns, hneed, hcached, hsettled, hbare⟩ := h
  have hux : Running u c x q := hrun.kept (hs.qpe rfl)
  have hq : (u.modCmd c f).qp x.qpn = s.qp x.qpn := hux.qp.trans hrun.qp.symm
  have hstr : (u.modCmd c f).str = s.str := hs.str rfl
  have hcmd : (u.modCmd c f).cmd c = some (f x) := begin_cmd hux.cmd f
  rw [hf] at hcmd ⊢
  refine ⟨⟨hcmd, hrun.here, hrun.open_, hux.qp, hrun.live, hrun.ring⟩, ?_, hstarted, hreads, hown, hwhole, hns, hneed, ?_, ?_, ?_⟩
  · rw [← hio, State.cmdAdmin, State.cmdAdmin, State.isAdmin, State.isAdmin, hq]
  · rw [hstr]
    exact hcached
  · rw [hstr]
    exact hsettled
  · rw [State.lookup, hstr]
    exact hbare

/-- The page of a block marked as used. -/
def State.pageUsed (s : State) (i p : Nat) : State :=
  { s with str := { s.str with pages := tmod s.str.pages (i, p) fun y => { y with used := true } } }

/-- Its block gives zeroes at once. -/
theorem OneBare.ioGo {s : State} {c : Nat} {x : Cmd} {q : Qp} {i : Nat} (h : OneBare s c x q i) :
    s.ioGo c = (s.pageUsed i (pageOf (x.readLba 0))).blockOut c 0 0 := by
  unfold State.ioGo
  rw [h.run.cmd]
  dsimp only
  rw [h.io, if_neg Bool.false_ne_true, h.whole, if_neg Bool.false_ne_true, if_neg h.reads, h.own, if_neg Bool.false_ne_true, h.need]
  exact readBlock_unmapped h.run.cmd h.ns h.run.here h.cached h.settled h.bare

theorem read_completes (s u : State) (c i : Nat) (x : Cmd) (q : Qp) (e : Eid) (h : OneBare s c x q i) (hr : s.ready c 2 = some x)
    (ho : q.owner = .net e) (hu : s.takeReadUnits c 1 = some u) (hk : s.keyRevoking (sglKeyOf x.sqe) = false) (hl : x.lost = none)
    (hq : s.hif.queue = []) : Completes (s.read c) c St.ok := by
  have hs := takeReadUnits_swc hu
  obtain ⟨-, -, hop, -⟩ := ready_spec hr
  have go : ∀ (v : State) (y : Cmd), OneBare v c y q i → Within { parts := [.swc, .qpe] } s v → y.sqe = x.sqe → y.left = 1 → y.lost = none →
      Completes (v.ioGo c) c St.ok := fun v y hv hw he hleft hlost => by
    rw [hv.ioGo]
    refine blockOut_completes (s := v.pageUsed i _) (hv.run.kept rfl) ho ?_ (he ▸ hop) hv.started hleft hlost hv.own ?_ 0
    · rw [he]
      exact (keyRevoking_congr (by rw [← hw.hkt rfl]; rfl) _).trans hk
    · show v.hif.queue = []
      rw [hw.hif rfl]
      exact hq
  have hread : s.read c = (u.modCmd c fun x => { x with begun := true, left := x.neveNeed }).ioBegin c := by
    unfold State.read
    rw [hr]
    dsimp only
    rw [h.need, hu]
  have hv := h.after hs (f := fun x => { x with begun := true, left := x.neveNeed }) rfl
  have hvw : Within { parts := [.swc, .qpe] } s (u.modCmd c fun x => { x with begun := true, left := x.neveNeed }) :=
    (hs.widen (by decide) (by decide) (by decide)).trans (within_qpe u _ rfl)
  rw [hread]
  generalize u.modCmd c (fun x => { x with begun := true, left := x.neveNeed }) = v at hv hvw ⊢
  unfold State.ioBegin
  rw [hv.run.cmd]
  dsimp only
  rw [State.ownerOf, hv.run.qp, Option.map_some, ho]
  dsimp only
  split
  · exact go v _ hv hvw rfl h.need hl
  · exact go _ _ (hv.after (.refl _ _) rfl) (hvw.trans (within_qpe v _ rfl)) rfl h.need hl

/-! ## Copy (R216) -/

/-- A command that is as far as the one given. -/
def State.AsFar (s : State) (c : Nat) (x : Cmd) : Prop := ∃ y, s.cmd c = some y ∧ y.begun = x.begun ∧ y.left = x.left ∧ y.data = x.data

theorem Running.asFar {s : State} {c : Nat} {x : Cmd} {q : Qp} (h : Running s c x q) : s.AsFar c x := ⟨x, h.cmd, rfl, rfl, rfl⟩

theorem dropWrite_slotW (s : State) (c : Nat) : Within slotW s (s.dropWrite c) := by
  unfold State.dropWrite
  split
  · exact .refl _ s
  · refine Within.trans (within_each _ _ _ fun s i => ?_) (within_jnl _ _ rfl)
    split
    · exact within_ite _ (fun _ => slotFree_slotW s i) fun _ => .refl _ s
    · exact .refl _ s

theorem writeCheck_asFar {s : State} {c : Nat} {x : Cmd} {q : Qp} (h : Running s c x q) : (s.writeCheck c).AsFar c x := by
  unfold State.writeCheck
  split
  · exact h.asFar
  · dsimp only
    split
    · exact h.complete_keeps _ _ _
    · exact h.asFar

theorem State.AsFar.ite {p : Prop} [Decidable p] {a b : State} {c : Nat} {x : Cmd} (h : a.AsFar c x) (k : b.AsFar c x) : (if p then a else b).AsFar c x := by
  split
  · exact h
  · exact k

/-- What follows a command's last block leaves it as far as it was. -/
theorem readEnd_asFar {s : State} {c : Nat} {x : Cmd} {q : Qp} (h : Running s c x q) : (s.readEnd c).AsFar c x := by
  unfold State.readEnd
  rw [h.cmd]
  refine .ite h.asFar ?_
  split
  · exact ((h.kept ((dropWrite_slotW s c).qpe rfl)).kept ((dropStages_swc _ c).qpe rfl)).complete_keeps _ _ _
  · refine .ite ?_ (.ite h.asFar ((h.kept ((dropStages_swc s c).qpe rfl)).complete_keeps _ _ _))
    split
    · refine writeCheck_asFar (q := q) (Running.kept (s := s) h ?_)
      exact (within_each _ _ _ fun s _ => within_cipPush s _ _ : Within cipW _ _).qpe rfl
    · exact h.asFar

theorem copy_begins (s u : State) (c i : Nat) (x : Cmd) (q : Qp) (h : OneBare s c x q i) (hr : s.ready c 0x19 = some x)
    (hu : s.takeReadUnits c 1 = some u) :
    ∃ y, (s.copy c).cmd c = some y ∧ y.begun = true ∧ y.left = 0 ∧ tget y.data 0 = some 0 := by
  obtain ⟨-, -, hop, -⟩ := ready_spec hr
  have hcopy : s.copy c = (u.modCmd c fun x => { x with begun := true, left := x.neveNeed, data := [] }).ioGo c := by
    unfold State.copy
    rw [hr]
    dsimp only
    rw [h.own, if_neg Bool.false_ne_true, h.need, hu]
  have hv := h.after (takeReadUnits_swc hu) (f := fun x => { x with begun := true, left := x.neveNeed, data := [] }) rfl
  rw [hcopy, hv.ioGo]
  generalize u.modCmd c (fun x => { x with begun := true, left := x.neveNeed, data := [] }) = v at hv ⊢
  generalize hw : v.pageUsed i _ = w
  have hrun : Running w c { x with begun := true, left := x.neveNeed, data := [] } q := hw ▸ hv.run.kept rfl
  unfold State.blockOut
  rw [hrun.cmd]
  dsimp only
  rw [h.started, if_neg (by decide), if_pos hop]
  obtain ⟨y, hy, hb, hl, hd⟩ := readEnd_asFar ((hrun.modCmd (fun x => { x with data := tput x.data 0 0 }) rfl rfl rfl).modCmd
    (fun x => { x with left := x.left - 1 }) rfl rfl rfl)
  exact ⟨y, hy, hb, hl.trans (congrArg (· - 1) h.need), by rw [hd]; rfl⟩

/-! ## Write Zeroes, Dataset Management (R214, R215) -/

theorem mapClear_unmaps (s : State) (ns lba n : Nat) : Unmaps s (s.mapClear ns lba n 0) := .each (fun s _ => firnAppend_unmaps s _ _ _ _) _ s

theorem mapClear_clearing (s : State) (ns lba n : Nat) {l : Nat} (h : lba ≤ l) (k : l < lba + n) : (s.mapClear ns lba n 0).Clearing ns l := by
  obtain ⟨⟨a, m⟩, hr, h1, h2⟩ := mem_pageRuns lba n h k
  refine each_reaches (P := fun t => t.Clearing ns l) (a := (a, m)) (fun t => ?_) (fun t b ht => ?_) hr s
  · exact firnAppend_clearing t ns a m h1 h2
  · exact (firnAppend_unmaps t 0 ns b.1 b.2).clearing ht

/-- A range within one page is cleared by one record. -/
theorem mapClear_page (s : State) (ns lba n : Nat) (hn : 0 < n) (h : pageOf lba = pageOf (lba + n - 1)) :
    s.mapClear ns lba n 0 = s.firnAppend 0 (.mapClear ns lba n) := by
  unfold State.mapClear
  rw [pageRuns_single lba n hn h]
  rfl

/-- Ranges with a block are cleared run by run. -/
theorem deallocate_clears (s : State) (c i : Nat) (l : List (Nat × Nat)) {r : Nat × Nat} (hr : r ∈ l) {lba : Nat} (h : r.1 ≤ lba) (k : lba < r.1 + r.2) :
    s.deallocate c i l = (s.modCmd c fun x => { x with recs := (l.flatMap fun (a, n) => pageRuns a n).map (·.1) }).each l fun s (a, n) => s.mapClear i a n 0 := by
  obtain ⟨p, hp, -⟩ := mem_pageRuns r.1 r.2 h k
  have hm : p ∈ l.flatMap fun (a, n) => pageRuns a n := List.mem_flatMap.2 ⟨r, hr, hp⟩
  exact if_neg fun he => absurd hm (by rw [List.isEmpty_iff.1 he]; exact List.not_mem_nil)

theorem deallocate_clearing (s : State) (c i : Nat) (l : List (Nat × Nat)) {r : Nat × Nat} (hr : r ∈ l) {lba : Nat} (h : r.1 ≤ lba) (k : lba < r.1 + r.2) :
    (s.deallocate c i l).Clearing i lba := by
  rw [deallocate_clears s c i l hr h k]
  obtain ⟨a, n⟩ := r
  refine each_reaches (P := fun t => t.Clearing i lba) (a := (a, n)) (fun t => ?_) (fun t b ht => ?_) hr _
  · exact mapClear_clearing t i a n h k
  · exact (mapClear_unmaps t i b.1 b.2).clearing ht

theorem writeZeroes_eq {s : State} {c i : Nat} {x : Cmd} (h : s.ready c 8 = some x) (hf : x.forwarded = false) (hi : x.ns = some i) :
    s.writeZeroes c = (s.modCmd c fun x => { x with begun := true }).deallocate c i [(slbaOf x.sqe, nlbOf x.sqe)] := by
  unfold State.writeZeroes
  rw [h]
  dsimp only
  rw [hi]
  dsimp only
  rw [hf, if_neg Bool.false_ne_true]

/-- Whether a record waits does not depend on the commands. -/
theorem appendWaits_qpe (s : State) (l : Qpe) (b : FirnBody) : State.appendWaits { s with qpe := l } b = s.appendWaits b := rfl

/-- At the master a Write Zeroes within a page, with room in the tail, takes its blocks' entries at once. -/
theorem writeZeroes_bare (s : State) (c i lba : Nat) (x : Cmd) (h : s.ready c 8 = some x) (hf : x.forwarded = false) (hi : x.ns = some i)
    (hl : slbaOf x.sqe ≤ lba) (hu : lba < slbaOf x.sqe + nlbOf x.sqe) (hp : pageOf (slbaOf x.sqe) = pageOf (slbaOf x.sqe + nlbOf x.sqe - 1))
    (hm : s.isMaster = true) (hw : s.appendWaits (.mapClear i (slbaOf x.sqe) (nlbOf x.sqe)) = false) :
    (s.writeZeroes c).lookup i lba = .unmapped := by
  rw [writeZeroes_eq h hf hi, deallocate_clears _ c i _ (List.mem_singleton_self _) hl hu]
  generalize hv : State.modCmd (State.modCmd s c _) c _ = v
  obtain ⟨l, hl'⟩ : ∃ l, v = { s with qpe := l } := ⟨_, hv.symm⟩
  have hvm : v.isMaster = true := (isMaster_congr (by rw [hl'])).trans hm
  have hvw : v.appendWaits (.mapClear i (slbaOf x.sqe) (nlbOf x.sqe)) = false := by
    rw [hl', appendWaits_qpe]
    exact hw
  show (State.mapClear v i (slbaOf x.sqe) (nlbOf x.sqe) 0).lookup i lba = .unmapped
  rw [mapClear_page _ i _ _ (by unfold nlbOf; omega) hp]
  exact (firnAppend_clears _ 0 i _ _ hvm hvw).2 lba hl hu

theorem datasetManagement_plain (s : State) (c i : Nat) (x : Cmd) (h : s.ready c 9 = some x) (hi : x.ns = some i) (ha : (x.sqe.cdw11.toNat / 4) % 2 = 0) :
    s.datasetManagement c = (s.modCmd c fun x => { x with begun := true }).complete c St.ok := by
  unfold State.datasetManagement
  rw [h]
  dsimp only
  rw [hi]
  exact if_pos ha

theorem datasetManagement_deallocates (s : State) (c i : Nat) (x : Cmd) (h : s.ready c 9 = some x) (hi : x.ns = some i)
    (ha : (x.sqe.cdw11.toNat / 4) % 2 = 1) (hf : x.forwarded = false) :
    s.datasetManagement c = (s.modCmd c fun x => { x with begun := true }).deallocate c i x.ranges := by
  unfold State.datasetManagement
  rw [h]
  dsimp only
  rw [hi]
  dsimp only
  rw [ha, if_neg (by decide), hf, if_neg Bool.false_ne_true]

/-- Settles O18: each command as it begins. -/
theorem ioCommands : Obligations.IoCommands := by
  unfold Obligations.IoCommands
  refine ⟨fun s c x h hf => ?_, fun s c x q h ho hb hp hf ha hc hl hn => ?_, fun s u c x h hu hr hk => ?_,
    fun s u c i x q e h hr ho hn hu hk hf hw hl hi hc hd hm hq => ?_, fun s c i lba x h hf hi hl hu => ?_,
    fun s c i lba x h hf hi hl hu hp hm hw => ?_, fun s c i x q h hr hi ha => ?_, fun s c i lba x h hi ha hf hr => ?_,
    fun s u c i a x q h hr hf hra hu hw hi hc hd hm => ?_⟩
  · obtain ⟨l, ⟨y, hy, hb, hp, hl⟩, hc⟩ := flush_begins s c x h hf
    exact ⟨_, rfl, y, hy, hb, hp, hl ▸ hc⟩
  · exact ⟨_, rfl, (flushDone_completes s c x q h ho hb hp hf ha hc hl hn).congr rfl⟩
  · obtain ⟨y, hy, hb, hp, hl, -⟩ := (write_asks s u c x h hu hr hk).cmd
    exact ⟨_, rfl, y, hy, hb, hp, hl⟩
  · obtain ⟨-, hp, hop, ha⟩ := ready_spec hr
    have hlba : x.readLba 0 = slbaOf x.sqe := if_neg (by rw [hop]; decide)
    have hbare : OneBare s c x q i := ⟨h, ha, hp, by rw [hop]; decide, hf, hw, hi, (if_neg (by rw [hop]; decide)).trans hn,
      by rw [hlba]; exact hc, by rw [hlba]; exact hd, by rw [hlba]; exact hm⟩
    exact ⟨_, rfl, (read_completes s u c i x q e hbare hr ho hu hk hl hq).congr rfl⟩
  · refine ⟨_, rfl, ?_⟩
    show (s.writeZeroes c).Clearing i lba
    rw [writeZeroes_eq h hf hi]
    exact deallocate_clearing _ c i _ (List.mem_singleton_self _) hl hu
  · exact ⟨_, rfl, writeZeroes_bare s c i lba x h hf hi hl hu hp hm hw⟩
  · have e := datasetManagement_plain s c i x hr hi ha
    have hd : Completes (s.datasetManagement c) c St.ok := by
      rw [e]
      exact (h.modCmd _ rfl rfl rfl).complete_completes _ _ _
    refine ⟨_, rfl, hd.congr rfl, ?_⟩
    show (s.datasetManagement c).str = s.str
    rw [e, (complete_completeW _ _ _ _ _).str rfl]
    rfl
  · obtain ⟨r, hr, h1, h2⟩ := hr
    refine ⟨_, rfl, ?_⟩
    show (s.datasetManagement c).Clearing i lba
    rw [datasetManagement_deallocates s c i x h hi ha hf]
    exact deallocate_clearing _ c i _ hr h1 h2
  · obtain ⟨-, hp, hop, ha⟩ := ready_spec hr
    have hlba : x.readLba 0 = a := (if_pos hop).trans (by rw [hra]; rfl)
    have hbare : OneBare s c x q i := ⟨h, ha, hp, by rw [hop]; decide, hf, hw, hi, (if_pos hop).trans (by rw [hra]; rfl),
      by rw [hlba]; exact hc, by rw [hlba]; exact hd, by rw [hlba]; exact hm⟩
    exact ⟨_, rfl, copy_begins s u c i x q hbare hr hu⟩

end Sys2Proof.Machine
end

section
/-! PROOFS. Commands take their effect between two ticks (R18): what each part of a reset, a stop and a boot leaves of the DTC. -/

namespace Sys2Proof.Machine

open F

@[simp] theorem each_dtc {α : Type} {f : State → α → State} (h : ∀ s a, (f s a).dtc = s.dtc) (l : List α) (s : State) : (s.each l f).dtc = s.dtc :=
  each_holds (P := fun t => t.dtc = s.dtc) (fun t a ht => (h t a).trans ht) l rfl

theorem ite_dtc {c : Prop} [Decidable c] {s a b : State} (ha : a.dtc = s.dtc) (hb : b.dtc = s.dtc) : (if c then a else b).dtc = s.dtc := by
  split
  · exact ha
  · exact hb

theorem foldl_dtc {α : Type} {f : State → α → State} (h : ∀ s a, (f s a).dtc = s.dtc) (l : List α) (s : State) : (l.foldl f s).dtc = s.dtc :=
  each_dtc h l s

/-! ## Shared operations -/

@[simp] theorem complete_dtc (s : State) (c : Nat) (st : Status) (a b : Word32) : (s.complete c st a b).dtc = s.dtc := (complete_completeW s c st a b).dtc rfl

@[simp] theorem pairSend_dtc (s : State) (m : PairMsg) : (s.pairSend m).dtc = s.dtc := (pairSend_pairW s m).dtc rfl

@[simp] theorem hostOp_dtc (s : State) (o : QOwner) (p : HostOp) : (s.hostOp o p).dtc = s.dtc := (within_hostOp s o p).dtc rfl

@[simp] theorem intxUpdate_dtc (s : State) : s.intxUpdate.dtc = s.dtc := (within_intxUpdate s).dtc rfl

@[simp] theorem message_dtc (s : State) (o : QOwner) (e v : Nat) : (s.message o e v).dtc = s.dtc := (within_message s o e v).dtc rfl

@[simp] theorem sendMsg_dtc (s : State) (l p : Eid) (b : MsgBody) (f n : Bool) (v : Nat) (u : Purpose) (t : Nat) (y : Bool) :
    (s.sendMsg l p b f n v u t y).dtc = s.dtc := (within_sendMsg s l p b f n v u t y).dtc rfl

@[simp] theorem notice_dtc (s : State) (o : QOwner) (a b c d : Nat) : (s.notice o a b c d).dtc = s.dtc := (notice_within s o a b c d).dtc rfl

@[simp] theorem dropWrite_dtc (s : State) (c : Nat) : (s.dropWrite c).dtc = s.dtc := (dropWrite_slotW s c).dtc rfl

@[simp] theorem dropStages_dtc (s : State) (c : Nat) : (s.dropStages c).dtc = s.dtc := (dropStages_swc s c).dtc rfl

@[simp] theorem coresRun_dtc (s : State) (on : Bool) : (s.coresRun on).dtc = s.dtc := (coresRun_after s on).1.dtc rfl

@[simp] theorem measureCore_dtc (s : State) : s.measureCore.dtc = s.dtc := (within_measureCore s).dtc rfl

@[simp] theorem putBank_dtc (s : State) (i : Nat) (b : Bank) : (s.putBank i b).dtc = s.dtc := (within_putBank s i b).dtc rfl

@[simp] theorem deleteAllOf_dtc (s : State) (o : QOwner) : (s.deleteAllOf o).dtc = s.dtc := (deleteW_deleteAllOf s o).dtc rfl

@[simp] theorem calHeld_dtc (s : State) (c : Nat) (x : Cmd) : (s.calHeld c x).dtc = s.dtc := (within_calHeld s c x).dtc rfl

/-! ## Stops and dumps (R269, R435) -/

@[simp] theorem actClose_dtc (s : State) : s.actClose.dtc = s.dtc := (actClose_after s).1.dtc rfl

@[simp] theorem mgmtEnd_dtc (s : State) (st : Status) (a b : Word32) (l : List NsImage) : (s.mgmtEnd st a b l).dtc = s.dtc := (mgmtEnd_kept s st a b l).1.dtc rfl

@[simp] theorem dumpStart_dtc (s : State) (cause : Nat) : (s.dumpStart cause).dtc = s.dtc := (within_dumpStart s cause).dtc rfl

@[simp] theorem actAbort_dtc (s : State) (bad : Bool) : (s.actAbort bad).dtc = s.dtc := by
  unfold State.actAbort
  extract_lets i returned _ restored _ refused
  have hreturned : returned.dtc = s.dtc := ite_dtc (coresRun_dtc s true) rfl
  have hrestored : restored.dtc = returned.dtc := ite_dtc (by simp) rfl
  have hrefused : refused.dtc = restored.dtc := ite_dtc (by simp) rfl
  exact ite_dtc (by simp [hreturned]) (by simp [hrefused, hrestored, hreturned])

@[simp] theorem actFatal_dtc (s : State) : s.actFatal.dtc = s.dtc := ite_dtc (actAbort_dtc s false) rfl

@[simp] theorem dumpBegin_dtc (s : State) (cause after : Nat) : (s.dumpBegin cause after).dtc = s.dtc := ite_dtc rfl (by simp)

@[simp] theorem stopStart_dtc (s : State) (r : Bool) : (s.stopStart r).dtc = s.dtc := by
  unfold State.stopStart
  split <;> rfl

@[simp] theorem stopBegin_dtc (s : State) (after : Nat) : (s.stopBegin after).dtc = s.dtc := ite_dtc rfl (ite_dtc (by simp) (by simp))

@[simp] theorem actOpen_dtc (s : State) (c : Nat) : (s.actOpen c).dtc = s.dtc := by
  unfold State.actOpen
  simp

@[simp] theorem glbWarm_dtc (s : State) : s.glbWarm.dtc = s.dtc := ite_dtc rfl (dumpBegin_dtc s 3 1)

@[simp] theorem glbCoreReset_dtc (s : State) : s.glbCoreReset.dtc = s.dtc := ite_dtc rfl (by simp)

/-! ## Event rings (R531) -/

@[simp] theorem ringOut_dtc (s : State) (r off : Nat) (d : List Byte) (n : Bool) : (s.ringOut r off d n).dtc = s.dtc := by
  unfold State.ringOut
  split
  · exact ite_dtc (by simp) (by simp)
  · exact sendMsg_dtc _ _ _ _ _ _ _ _ _ _
  · exact ite_dtc rfl rfl

@[simp] theorem ringStep_dtc (s : State) (r n : Nat) : (s.ringStep r n).dtc = s.dtc := by
  unfold State.ringStep
  extract_lets moved turned
  have h : turned.dtc = s.dtc := ite_dtc rfl rfl
  exact ite_dtc h h

@[simp] theorem ringPut_dtc (s : State) (r : Nat) (e : EvRec) : (s.ringPut r e).dtc = s.dtc := by
  unfold State.ringPut
  extract_lets g tail compat due off d g' size _ noted stepped
  have h : stepped.dtc = s.dtc := ringStep_dtc noted r _
  clear_value stepped d
  exact (ringOut_dtc _ _ _ _ _).trans (ite_dtc h h)

@[simp] theorem evTrim_dtc (s : State) : s.evTrim.dtc = s.dtc := rfl

@[simp] theorem ringDeliver_dtc (s : State) (r : Nat) : (s.ringDeliver r).dtc = s.dtc := by
  refine ite_dtc rfl ?_
  split
  · exact ringPut_dtc _ _ _
  · split
    · rfl
    · exact (evTrim_dtc _).trans (ringPut_dtc _ _ _)

@[simp] theorem ringResume_dtc (s : State) (r : Nat) : (s.ringResume r).dtc = s.dtc := ite_dtc rfl (ringDeliver_dtc _ _)

@[simp] theorem ringHead_dtc (s : State) (r v : Nat) : (s.ringHead r v).dtc = s.dtc := ite_dtc rfl rfl

@[simp] theorem ringCfg_dtc (s : State) (r v : Nat) : (s.ringCfg r v).dtc = s.dtc := by
  unfold State.ringCfg
  extract_lets was set started
  have h : set.dtc = s.dtc := foldl_dtc (fun s f => set_dtc s f r _) _ s
  exact ite_dtc h h

/-! ## Controllers -/

theorem adminUp_dtc {s t : State} {o : QOwner} {a b c d : Nat} (h : s.adminUp o a b c d = some t) : t.dtc = s.dtc := by
  unfold State.adminUp at h
  split at h
  · cases h
  · split at h
    · cases h
    · cases h
      rfl

@[simp] theorem hifAdmin_dtc (s : State) : s.hifAdmin.dtc = s.dtc := by
  unfold State.hifAdmin
  split
  next h => exact (set_dtc _ _ _ _).trans (adminUp_dtc h)
  · rfl

@[simp] theorem sliceDrain_dtc (s : State) (n : Nat) (c : Bool) : (s.sliceDrain n c).dtc = s.dtc := by
  unfold State.sliceDrain
  simp

@[simp] theorem sliceEnable_dtc (s : State) (n : Nat) : (s.sliceEnable n).dtc = s.dtc := by
  refine ite_dtc rfl (ite_dtc rfl (ite_dtc rfl ?_))
  split
  next h => exact (set_dtc _ _ _ _).trans ((adminUp_dtc h).trans (set_dtc s SLC_CTRL_en n 1))
  · rfl

@[simp] theorem sliceDisable_dtc (s : State) (n : Nat) : (s.sliceDisable n).dtc = s.dtc := ite_dtc rfl (ite_dtc (sliceDrain_dtc _ _ _) rfl)

@[simp] theorem hifEnable_dtc (s : State) : s.hifEnable.dtc = s.dtc := ite_dtc rfl (ite_dtc rfl (ite_dtc (hifAdmin_dtc _) rfl))

@[simp] theorem hifDisable_dtc (s : State) : s.hifDisable.dtc = s.dtc := ite_dtc rfl ((intxUpdate_dtc _).trans (deleteAllOf_dtc _ _))

@[simp] theorem ctrlEn_dtc (s : State) (o : QOwner) (on : Bool) : (s.ctrlEn o on).dtc = s.dtc := by
  unfold State.ctrlEn
  split
  · exact ite_dtc (sliceEnable_dtc _ _) (sliceDisable_dtc _ _)
  · exact ite_dtc (hifEnable_dtc _) (hifDisable_dtc _)

/-! ## The other registers a configuration may write (R478, R539) -/

@[simp] theorem fieldWrite_dtc (s : State) (f : Fld) (i v ones : Nat) (core locked : Bool) : (s.fieldWrite f i v ones core locked).dtc = s.dtc := by
  unfold State.fieldWrite
  split
  · rfl
  · rfl
  · exact set_dtc _ _ _ _
  · exact set_dtc _ _ _ _
  · exact set_dtc _ _ _ _
  · exact ite_dtc rfl (set_dtc _ _ _ _)
  · exact ite_dtc (set_dtc _ _ _ _) rfl
  · exact set_dtc _ _ _ _
  · exact ite_dtc (set_dtc _ _ _ _) rfl

@[simp] theorem partStore_dtc (s : State) (p : RegPart) (v : Nat) (core : Bool) : (s.partStore p v core).dtc = s.dtc := by
  refine ite_dtc rfl ?_
  extract_lets locked ones stored
  have h : stored.dtc = s.dtc := foldl_dtc (fun s f => fieldWrite_dtc _ _ _ _ _ _ _) _ s
  exact ite_dtc h h

@[simp] theorem glbCtrl_dtc (s : State) (v : Nat) (service : Bool) : (s.glbCtrl v service).dtc = s.dtc :=
  ite_dtc rfl (ite_dtc (glbWarm_dtc _) (ite_dtc (glbCoreReset_dtc _) rfl))

@[simp] theorem tgtCfg_dtc (s : State) (j v : Nat) : (s.tgtCfg j v).dtc = s.dtc := by
  unfold State.tgtCfg
  extract_lets was set
  have h : set.dtc = s.dtc := foldl_dtc (fun s f => set_dtc s f j _) _ s
  exact ite_dtc h h

@[simp] theorem ctrWrite_dtc (s : State) (i v n : Nat) : (s.ctrWrite i v n).dtc = s.dtc := ite_dtc rfl (ite_dtc rfl (bump_dtc _ _ _))

@[simp] theorem levelSet_dtc (s : State) (i was : Nat) : (s.levelSet i was).dtc = s.dtc := by
  unfold State.levelSet
  split
  · rfl
  · exact ite_dtc rfl rfl

@[simp] theorem eselWrite_dtc (s : State) (k v : Nat) : (s.eselWrite k v).dtc = s.dtc := ite_dtc rfl (foldl_dtc (fun s f => set_dtc s f k _) _ s)

@[simp] theorem telCfg_dtc (s : State) (k v : Nat) : (s.telCfg k v).dtc = s.dtc := ite_dtc rfl (foldl_dtc (fun s f => set_dtc s f k _) _ s)

@[simp] theorem epKindCheck_dtc (s : State) (e : Nat) : (s.epKindCheck e).dtc = s.dtc := ite_dtc rfl (raise_dtc _ _ _ _ _)

@[simp] theorem epRelease_dtc (s : State) (n : Nat) : (s.epRelease n).dtc = s.dtc := by
  unfold State.epRelease
  split
  · exact ite_dtc rfl rfl
  · rfl

@[simp] theorem epWrite_dtc (s : State) (e eid len slot : Nat) : (s.epWrite e eid len slot).dtc = s.dtc := by
  refine ite_dtc rfl ?_
  extract_lets old set _ kept
  have h : kept.dtc = s.dtc := epRelease_dtc _ _
  exact ite_dtc h ((epKindCheck_dtc _ _).trans h)

@[simp] theorem policerSet_dtc (s old : State) (t : Nat) : (s.policerSet old t).dtc = s.dtc := by
  unfold State.policerSet
  simp

@[simp] theorem pendSend_dtc (s : State) (e v : Nat) : (s.pendSend e v).dtc = s.dtc := ite_dtc (hostOp_dtc _ _ _) rfl

@[simp] theorem intMask_dtc (s : State) (v : Nat) : (s.intMask v).dtc = s.dtc := by
  unfold State.intMask
  simp

@[simp] theorem shapeSet_dtc (s old : State) (n : Nat) : (s.shapeSet old n).dtc = s.dtc := rfl

/-! ## A register a configuration may write -/

/-- The registers that carry a command: none of their fields takes a write of a configuration. -/
def opRegs : List Nat := [TEL_CMD_unit.reg, SLT_CMD_op.reg, BOOT_CMD_op.reg, KEY_CMD_op.reg, FWD_CMD_op.reg, REB_CMD_op.reg,
  HIF_PEER_COMMIT_commit.reg, SLC_CMD_op.reg, PAIR_CMD_op.reg]

theorem opRegs_locked : regTable.all (fun d => !opRegs.contains d.base || d.fields.all fun f => !writable f) = true := by decide

theorem regAt_mem {a : Nat} {d : RegDef} {i : Nat} (h : regAt a = some (d, i)) : d ∈ regTable := by
  obtain ⟨e, he, hf⟩ := List.exists_of_findSome?_eq_some h
  obtain ⟨j, -, hj⟩ := Option.map_eq_some_iff.1 hf
  cases hj
  exact he

theorem regPart32_mem {a k : Nat} {p : RegPart} (h : p ∈ regPart32 a k) : p.d ∈ regTable := by
  unfold regPart32 at h
  split at h
  next hd => cases List.mem_singleton.1 h; exact regAt_mem hd
  · split at h
    next hd =>
      split at h
      · cases List.mem_singleton.1 h
        split at hd
        · exact regAt_mem hd
        · cases hd
      · cases h
    · cases h

theorem regParts_mem {a w : Nat} {p : RegPart} (h : p ∈ regParts a w) : p.d ∈ regTable := by
  unfold regParts at h
  split at h
  · exact regPart32_mem h
  · split at h
    next hd =>
      split at h
      · cases List.mem_singleton.1 h; exact regAt_mem hd
      · rcases List.mem_cons.1 h with rfl | h
        · exact regAt_mem hd
        · exact regPart32_mem h
    · exact regPart32_mem h

/-- A register that takes a write of a configuration carries no command. -/
theorem settable_base {p : RegPart} {v : Nat} (h : p.d ∈ regTable) (hs : p.settable v = true) : p.d.base ∉ opRegs := fun hc => by
  have hl := List.all_eq_true.1 opRegs_locked p.d h
  rw [List.contains_iff_mem.2 hc, Bool.not_true, Bool.false_or] at hl
  obtain ⟨hw, -⟩ := Bool.and_eq_true_iff.1 hs
  obtain ⟨f, hf, hw⟩ := List.any_eq_true.1 hw
  obtain ⟨-, hw⟩ := Bool.and_eq_true_iff.1 hw
  have := List.all_eq_true.1 hl f hf
  rw [hw] at this
  cases this

end Sys2Proof.Machine
end

section
/-! PROOFS. Resets, boots and stops leave the DTC, but for the cold reset (R15, R18). -/

namespace Sys2Proof.Machine

open F

/-! ## The configuration (R478) -/

/-- An effect, where there is one, that leaves the DTC. -/
def LeavesDtc (s : State) (o : Option State) : Prop := ∀ t, o = some t → t.dtc = s.dtc

theorem LeavesDtc.of_eq {s t : State} (h : t.dtc = s.dtc) : LeavesDtc s (some t) := fun _ e => Option.some.inj e ▸ h

theorem LeavesDtc.none (s : State) : LeavesDtc s none := fun _ e => by cases e

theorem LeavesDtc.ite {s : State} {c : Prop} [Decidable c] {a b : Option State} (ha : c → LeavesDtc s a) (hb : LeavesDtc s b) :
    LeavesDtc s (if c then a else b) := by
  split
  next hc => exact ha hc
  · exact hb

/-- What a write does to a register that carries no command leaves the DTC. -/
theorem partEffect_dtc (s : State) (path : AccessPath) {p : RegPart} (v : Nat) (hp : p.d.base ∉ opRegs) : LeavesDtc s (s.partEffect path p v) := by
  have op : ∀ {r : Nat} {o : Option State}, r ∈ opRegs → p.d.base = r → LeavesDtc s o := fun hr he => absurd (he ▸ hr) hp
  have head := ite_dtc (c := p.hits EVT_RING_PTR_head = true) (ringHead_dtc s p.i (s.partWord p v)) rfl
  unfold State.partEffect
  exact .ite (fun _ => .of_eq (glbCtrl_dtc _ _ _)) <| .ite (fun _ => .of_eq rfl) <| .ite (fun _ => .of_eq (ringCfg_dtc _ _ _)) <|
    .ite (fun _ => .of_eq (ite_dtc ((ringResume_dtc _ _).trans head) head)) <| .ite (fun _ => .of_eq (tgtCfg_dtc _ _ _)) <|
    .ite (fun _ => .of_eq (ctrWrite_dtc _ _ _ _)) <| .ite (fun _ => .of_eq ((levelSet_dtc _ _ _).trans (partStore_dtc _ _ _ _))) <|
    .ite (fun _ => .of_eq (eselWrite_dtc _ _ _)) <| .ite (op (by decide)) <| .ite (fun _ => .of_eq (telCfg_dtc _ _ _)) <|
    .ite (op (by decide)) <| .ite (op (by decide)) <| .ite (op (by decide)) <| .ite (fun _ => .of_eq (epWrite_dtc _ _ _ _ _)) <|
    .ite (op (by decide)) <|
    .ite (fun _ => .of_eq ((policerSet_dtc _ _ _).trans (ite_dtc (partStore_dtc _ _ _ _) (partStore_dtc _ _ _ _)))) <|
    .ite (op (by decide)) <| .ite (fun _ => .of_eq (ctrlEn_dtc _ _ _)) <| .ite (fun _ => .of_eq (intMask_dtc _ _)) <|
    .ite (op (by decide)) <| .ite (op (by decide)) <| .ite (fun _ => .of_eq ((shapeSet_dtc _ _ _).trans (partStore_dtc _ _ _ _))) <|
    .ite (fun _ => .ite (fun _ => .of_eq rfl) <| .ite (fun _ => .of_eq (ctrlEn_dtc _ _ _)) <| .none s) <| .ite (op (by decide)) <| .none s

theorem partWrite_dtc (s : State) (path : AccessPath) {p : RegPart} (v : Nat) (hp : p.d.base ∉ opRegs) : (s.partWrite path p v).dtc = s.dtc := by
  unfold State.partWrite
  split
  next h => exact partEffect_dtc s path v hp _ h
  · exact partStore_dtc _ _ _ _

/-- The register parts of an entry that is applied are written without a step of the DTC. -/
theorem regsOk_dtc (s : State) {a flags v : Nat} (h : regsOk a flags v = true) :
    (s.each (regParts a (if flags % 2 = 1 then 8 else 4)) fun s p => s.partWrite .core p v).dtc = s.dtc := by
  obtain ⟨-, hall⟩ := Bool.and_eq_true_iff.1 h
  have hs := List.all_eq_true.1 hall
  have key : ∀ (l : List RegPart) (t : State), (∀ p ∈ l, p.d.base ∉ opRegs) → (t.each l fun s p => s.partWrite .core p v).dtc = t.dtc := fun l => by
    induction l with
    | nil => exact fun t _ => rfl
    | cons p l ih => exact fun t hl => (ih _ fun q hq => hl q (List.mem_cons_of_mem _ hq)).trans (partWrite_dtc t .core v (hl p List.mem_cons_self))
  exact key _ s fun p hp => settable_base (regParts_mem hp) (hs p hp)

@[simp] theorem applyRegs_dtc (s : State) (l : List Byte) : (s.applyRegs l).dtc = s.dtc := by
  unfold State.applyRegs
  extract_lets es absent applied
  have h : applied.dtc = s.dtc := each_dtc (fun s ⟨x, i⟩ => by
    by_cases hc : (decide (x.length = 16) && regsOk (leAt x 0 4) (leAt x 4 4) (leAt x 8 (if leAt x 4 4 % 2 = 1 then 8 else 4))) = true
    · exact (congrArg State.dtc (if_pos hc)).trans (regsOk_dtc s (Bool.and_eq_true_iff.1 hc).2)
    · exact (congrArg State.dtc (if_neg hc)).trans (raise_dtc _ _ _ _ _)) _ s
  exact ite_dtc ((raise_dtc _ _ _ _ _).trans h) h

/-! ## The other sections (R378, R478) -/

@[simp] theorem relearnAll_dtc (s : State) (l : List (BitVec 128)) : (s.relearnAll l).dtc = s.dtc := (within_relearnAll s l).dtc rfl

@[simp] theorem fwdPut_dtc (s : State) (t n : Nat) (x : FwdTbl) : (s.fwdPut t n x).dtc = s.dtc := (within_fwdPut s t n x).dtc rfl

@[simp] theorem rehashReq_dtc (s : State) (t : Nat) : (s.rehashReq t).dtc = s.dtc := ite_dtc rfl (raise_dtc _ _ _ _ _)

@[simp] theorem fwdPlacedAt_dtc (s : State) (t : Nat) (e : BitVec 128) (r : FwdPlaced) : (s.fwdPlacedAt t e r).dtc = s.dtc := by
  unfold State.fwdPlacedAt
  extract_lets moved placed
  have h : placed.dtc = s.dtc := ((relearnAll_dtc _ _).trans (fwdPut_dtc _ _ _ _)).trans (ite_dtc rfl (bump_dtc _ _ _))
  split
  · exact h
  · exact (ite_dtc (rehashReq_dtc _ _) rfl).trans h
  · exact (rehashReq_dtc _ _).trans h

@[simp] theorem fwdInsert_dtc (s : State) (t : Nat) (e : BitVec 128) : (s.fwdInsert t e).1.dtc = s.dtc := by
  unfold State.fwdInsert
  extract_lets x k counted
  split
  · split
    · simp [counted]
    · rfl
  · split
    · simp [counted]
    · exact fwdPlacedAt_dtc _ _ _ _

@[simp] theorem applyStatic_dtc (s : State) (b : List Byte) : (s.applyStatic b).dtc = s.dtc := by
  refine each_dtc (fun s ⟨x, i⟩ => ite_dtc ?_ (raise_dtc _ _ _ _ _)) _ s
  split
  · exact raise_dtc _ _ _ _ _
  next h => exact (congrArg (fun r => r.1.dtc) h).symm.trans (fwdInsert_dtc _ _ _)

@[simp] theorem shapersSet_dtc (s : State) (l : List Byte) : (s.shapersSet l).dtc = s.dtc := by
  unfold State.shapersSet
  exact each_dtc (fun s p => ite_dtc rfl (set_dtc _ _ _ _)) _ s

@[simp] theorem applySections_dtc (s : State) (b : List Byte) : (s.applySections b).dtc = s.dtc := by
  unfold State.applySections
  simp

/-! ## The boot (R469, R479) -/

@[simp] theorem setMeas_dtc (s : State) (i v : Nat) : (s.setMeas i v).dtc = s.dtc := each_dtc (fun s _ => set_dtc s _ _ _) _ s

@[simp] theorem measureBoot_dtc (s : State) : s.measureBoot.dtc = s.dtc := by
  unfold State.measureBoot State.setDigest
  simp

@[simp] theorem loaderRun_dtc (s : State) : s.loaderRun.dtc = s.dtc := by
  unfold State.loaderRun
  extract_lets b bay ps strapped _ cored measured told
  have hmeasured : measured.dtc = s.dtc := (coresRun_dtc _ _).trans ((set_dtc _ _ _ _).trans (measureBoot_dtc cored))
  clear_value measured
  have htold : told.dtc = s.dtc := (ite_dtc (raise_dtc _ _ _ _ _) rfl).trans hmeasured
  clear_value told
  exact (applySections_dtc _ _).trans ((applyRegs_dtc _ _).trans htold)

@[simp] theorem bankVerify_dtc (s : State) (i : Nat) : (s.bankVerify i).dtc = s.dtc := ite_dtc (putBank_dtc _ _ _) rfl

@[simp] theorem romChoose_dtc (s : State) : s.romChoose.1.dtc = s.dtc := by
  unfold State.romChoose
  extract_lets verified shown top fall
  have hshown : shown.dtc = s.dtc := (bankVerify_dtc _ 1).trans (bankVerify_dtc s 0)
  have hfall : ∀ t : State, (fall t).1.dtc = t.dtc := fun t => by
    unfold fall
    split <;> rfl
  split
  · exact (hfall shown).trans hshown
  · extract_lets k
    split
    · exact (putBank_dtc _ _ _).trans hshown
    · exact (hfall _).trans ((putBank_dtc _ _ _).trans hshown)

@[simp] theorem seedsDraw_dtc (s : State) : s.seedsDraw.dtc = s.dtc := (within_seedsDraw s).dtc rfl

@[simp] theorem fuseStatus_dtc (s : State) : s.fuseStatus.dtc = s.dtc := (within_fuseStatus s).dtc rfl

@[simp] theorem evResume_dtc (s : State) : s.evResume.dtc = s.dtc := by
  unfold State.evResume
  exact ite_dtc rfl rfl

@[simp] theorem deferError_dtc (s : State) (o : QOwner) (i nsid lba n cause : Nat) : (s.deferError o i nsid lba n cause).dtc = s.dtc :=
  ite_dtc rfl (notice_dtc _ _ _ _ _ _)

@[simp] theorem keyLoss_dtc (s : State) (c : Nat) (dnr : Bool) : (s.keyLoss c dnr).dtc = s.dtc := by
  unfold State.keyLoss
  simp only [complete_dtc, dropStages_dtc, dropWrite_dtc]
  split
  · exact ite_dtc (each_dtc (fun s b => (deferError_dtc _ _ _ _ _ _ _).trans (fresh_dtc s)) _ s) rfl
  · rfl

@[simp] theorem keyFail_dtc (s : State) (e : EvType) : (s.keyFail e).dtc = s.dtc := by
  unfold State.keyFail
  simp

@[simp] theorem noiseStart_dtc (s : State) (b : BootIn) : (s.noiseStart b).dtc = s.dtc := ite_dtc (keyFail_dtc _ _) (set_dtc _ _ _ _)

@[simp] theorem restoreSlot_dtc (s : State) (n : Nat) : (s.restoreSlot n).dtc = s.dtc := by
  unfold State.restoreSlot
  split <;> rfl

@[simp] theorem awaitSlot_dtc (s : State) (n : Nat) (k : KeySlot) : (s.awaitSlot n k).dtc = s.dtc := ite_dtc rfl (ite_dtc rfl (raise_dtc _ _ _ _ _))

@[simp] theorem restoreSlots_dtc (s : State) : s.restoreSlots.dtc = s.dtc := by
  unfold State.restoreSlots
  simp

@[simp] theorem keyStart_dtc (s : State) (b : BootIn) : (s.keyStart b).dtc = s.dtc := by
  unfold State.keyStart
  extract_lets fail _ failed raised started
  have h : raised.dtc = s.dtc := each_dtc (fun s l => raise_dtc _ _ _ _ _) _ _
  exact (restoreSlots_dtc _).trans ((ite_dtc (noiseStart_dtc _ _) (keyFail_dtc _ _)).trans h)

@[simp] theorem slotsOwn_dtc (s : State) (l : List Nat) : (s.slotsOwn l).dtc = s.dtc := each_dtc (fun _ _ => set_dtc _ _ _ _) _ _

@[simp] theorem bootKeys_dtc (s : State) (b : BootIn) : (s.bootKeys b).dtc = s.dtc := by
  unfold State.bootKeys
  extract_lets owned paired _ _ strapped
  have howned : owned.dtc = s.dtc := by
    unfold owned State.budgetSet
    simp
  have hpaired : paired.dtc = s.dtc := (set_dtc _ _ _ _).trans howned
  clear_value paired
  have h : strapped.dtc = s.dtc := by
    unfold strapped
    split
    · exact (raise_dtc paired EV_GLB_STRAP_FAULT 0 0 []).trans hpaired
    · exact hpaired
  clear_value strapped
  split
  · exact h
  · exact (raise_dtc strapped EV_PAIR_BAY_CONFLICT 0 0 []).trans h

@[simp] theorem bootRun_dtc (s : State) (b : BootIn) : (s.bootRun b).dtc = s.dtc := by
  have hstart : (romStart s).dtc = s.dtc := by
    unfold romStart
    simp
  cases h : (romStart s).romChoose with
  | mk u i =>
    have hu : u.dtc = s.dtc := ((congrArg (fun r => r.1.dtc) h).symm.trans (romChoose_dtc _)).trans hstart
    cases i with
    | none => exact (congrArg State.dtc (bootRun_none s u b h)).trans hu
    | some i =>
      rw [bootRun_some s u b i h]
      unfold romBooted
      simp [hu]

/-! ## The end of a stop (R269, R437) -/

@[simp] theorem warmReset_dtc (s : State) (cause : Nat) (b : BootIn) : (s.warmReset cause b).dtc = s.dtc := (sameMem_dtc _ _).trans (bootRun_dtc _ b)

@[simp] theorem coldReset_dtc (s : State) (straps feed : Nat) (l : List (Nat × Bank)) (b : BootIn) : (s.coldReset straps feed l b).dtc = 0 := by
  unfold State.coldReset
  extract_lets reset _ _ placed fed booted
  have h : booted.dtc = 0 := (sameMem_dtc _ _).trans (bootRun_dtc _ b)
  split
  · exact h
  · exact (raise_dtc booted EV_PWR_FEED_GOOD _ _ _).trans h

@[simp] theorem feedAgain_dtc (s : State) : s.feedAgain.dtc = s.dtc := ite_dtc rfl rfl

@[simp] theorem leaveHold_dtc (s : State) (cause : Nat) (b : BootIn) : (s.leaveHold cause b).dtc = s.dtc :=
  (warmReset_dtc _ cause b).trans ((set_dtc _ _ _ _).trans ((sameMem_dtc _ _).trans (feedAgain_dtc s)))

@[simp] theorem holdReset_dtc (s : State) : s.holdReset.dtc = s.dtc := by
  unfold State.holdReset
  exact ite_dtc (each_dtc (fun _ _ => set_dtc _ _ _ _) _ _) rfl

@[simp] theorem stopEnd_dtc (s : State) (o : Option Nat) (b : BootIn) : (s.stopEnd o b).dtc = s.dtc := by
  unfold State.stopEnd
  extract_lets _ held
  have h : held.dtc = s.dtc := (sameMem_dtc _ _).trans (holdReset_dtc _)
  exact ite_dtc ((leaveHold_dtc _ _ _).trans h) h

@[simp] theorem dumpPut_dtc (s : State) (c : Nat) (l : List (Nat × NeveSlot)) (w : Word64) (a t : List Nat) (used : Bool) :
    (s.dumpPut c l w a t used).dtc = s.dtc := rfl

@[simp] theorem dumpSeal_dtc (s : State) (a t : List Nat) (p : Bool) (b : BootIn) : (s.dumpSeal a t p b).dtc = s.dtc := by
  unfold State.dumpSeal
  split
  · exact (stopEnd_dtc _ _ _).trans ((sameMem_dtc _ _).trans (dumpPut_dtc _ _ _ _ _ _ _))
  · rfl

/-- The drives' commands withdrawn, the slots turn off with none of their own to end. -/
@[simp] theorem dumpWriting_dtc (s : State) : s.dumpWriting.dtc = s.dtc := by
  unfold State.dumpWriting
  split
  next c w _ =>
    dsimp only
    generalize hu : (({ s with jnl := { s.jnl with phase := .writing c w }, slt := { s.slt with dumped := true } } : State).unqueue
      fun _ => true).disown (fun _ => true) = u
    have hoff := NoDrive.eachOff (List.range 32) (hu ▸ noDrive_all _ : NoDrive u) 9 (by decide)
    have hdtc : u.dtc = s.dtc := by rw [← hu]; rfl
    generalize u.each (List.range 32) (fun s x => s.slotTurnOff x 9) = v at hoff
    exact (hoff.dtc rfl).trans hdtc
  · rfl

@[simp] theorem linkDown_dtc (s : State) (p : Nat) : (s.linkDown p).dtc = s.dtc := (within_linkDown s p).dtc rfl

@[simp] theorem flushEnd_dtc (s : State) : s.flushEnd.dtc = s.dtc := by
  unfold State.flushEnd
  split
  · exact (dumpWriting_dtc _).trans ((each_dtc (fun _ _ => set_dtc _ _ _ _) _ _).trans (each_dtc linkDown_dtc _ s))
  · rfl

@[simp] theorem stopDone_dtc (s : State) (b : BootIn) : (s.stopDone b).dtc = s.dtc := by
  unfold State.stopDone
  split
  · exact ite_dtc rfl ((stopEnd_dtc _ _ _).trans ((dumpPut_dtc _ _ _ _ _ _ _).trans ((sameMem_dtc _ _).trans (flushEnd_dtc _))))
  · rfl

/-! ## Seating, button and feeds (R428, R430, R437) -/

@[simp] theorem seat_dtc (s : State) (straps : Nat) (b : BootIn) : (s.seat straps b).dtc = s.dtc := ite_dtc rfl (ite_dtc (leaveHold_dtc _ 8 b) rfl)

@[simp] theorem button_dtc (s : State) (ms : Nat) (b : BootIn) : (s.button ms b).dtc = s.dtc :=
  ite_dtc rfl (ite_dtc (set_dtc _ _ _ _) (ite_dtc ((sameMem_dtc _ _).trans (stopBegin_dtc _ _))
    (ite_dtc (ite_dtc (leaveHold_dtc _ _ _) ((sameMem_dtc _ _).trans (stopBegin_dtc _ _))) rfl)))

@[simp] theorem storeCharge_dtc (s : State) : s.storeCharge.dtc = s.dtc := (within_storeCharge s).dtc rfl

@[simp] theorem rideOver_dtc (s : State) : s.rideOver.dtc = s.dtc := by
  refine ite_dtc rfl ?_
  extract_lets counted charged
  have h : charged.dtc = s.dtc := storeCharge_dtc _
  split
  · exact h
  · exact h

@[simp] theorem feedSwitch_dtc (s : State) (f : Nat) : (s.feedSwitch f).dtc = s.dtc := ite_dtc rfl rfl

@[simp] theorem feedQualify_dtc (s : State) (f : Nat) (b : BootIn) : (s.feedQualify f b).dtc = s.dtc := by
  refine ite_dtc rfl ?_
  extract_lets alone seen aimed ridden
  refine ite_dtc rfl ?_
  have haimed : aimed.dtc = s.dtc := ite_dtc rfl (feedSwitch_dtc _ _)
  have h : ridden.dtc = s.dtc := ((sameMem_dtc _ _).trans (rideOver_dtc _)).trans haimed
  exact ite_dtc ((leaveHold_dtc _ _ _).trans h) h

end Sys2Proof.Machine
end

section
/-! PROOFS. A step runs the command at the front of the queue; the DTC moves only where none waits, and returns to 0 only with a cold reset (R18). -/

namespace Sys2Proof.Machine

open F

/-- An empty queue lets one tick pass: only what counts by itself goes on. -/
theorem step_tick (s : State) (h : s.pending = []) : step s = .next s.tick := by
  unfold step
  rw [h]

/-- A command that may write the DTC takes the one its effect has. -/
theorem only_takes_dtc (s t : State) {w : Writes} (hw : w.part .dtc = true) : (s.only w t).dtc = t.dtc := by rw [only_dtc, hw]; rfl

/-- A command that may not write the DTC leaves it. -/
theorem exec_keeps_dtc (i : Instr) (s : State) (h : (footprint i).part .dtc = false) :
    ∃ t, exec i s = .next t ∧ (t.dtc = s.dtc ∨ ∃ a b c d, i = .coldReset a b c d) := by
  obtain ⟨u, hu⟩ := exec_commits i s
  exact ⟨_, hu, .inl ((exec_within hu).dtc h)⟩

/-- The DTC a command leaves; those whose footprint has it are the resets and what may end in one. -/
theorem exec_dtc (i : Instr) (s : State) : ∃ t, exec i s = .next t ∧ (t.dtc = s.dtc ∨ ∃ a b c d, i = .coldReset a b c d) := by
  cases i with
  | coldReset a b c d => exact ⟨_, rfl, .inr ⟨a, b, c, d, rfl⟩⟩
  | warmReset cause b => exact ⟨_, rfl, .inl ((only_takes_dtc s _ rfl).trans (warmReset_dtc s cause b))⟩
  | dumpSeal a t p b => exact ⟨_, rfl, .inl ((only_takes_dtc s _ rfl).trans (dumpSeal_dtc s a t p b))⟩
  | orderlyStopDrained b => exact ⟨_, rfl, .inl ((only_takes_dtc s _ rfl).trans (stopDone_dtc s b))⟩
  | moduleSeated straps b => exact ⟨_, rfl, .inl ((only_takes_dtc s _ rfl).trans (seat_dtc s straps b))⟩
  | buttonRelease ms b => exact ⟨_, rfl, .inl ((only_takes_dtc s _ rfl).trans (button_dtc s ms b))⟩
  | feedQualifying f b => exact ⟨_, rfl, .inl ((only_takes_dtc s _ rfl).trans (feedQualify_dtc s (f % 2) b))⟩
  | bootWatchdog b => exact ⟨_, rfl, .inl ((only_takes_dtc s _ rfl).trans (ite_dtc (warmReset_dtc s 4 b) rfl))⟩
  | _ => exact exec_keeps_dtc _ s rfl

/-- Settles O1: one step, command by command. -/
theorem stepRunsTheFront : Obligations.StepRunsTheFront := by
  unfold Obligations.StepRunsTheFront
  refine ⟨fun s c q => rfl, fun s h => ?_, fun s straps f l b => ?_, fun i s => exec_dtc i s⟩
  · exact ⟨s.tick, step_tick s h, rfl, h, rfl, rfl, rfl, rfl, rfl, rfl, rfl, rfl, rfl, rfl, rfl, rfl, rfl, rfl, rfl, rfl, rfl, rfl, rfl, rfl⟩
  · exact ⟨_, rfl, (only_takes_dtc s _ rfl).trans (coldReset_dtc s straps f l b)⟩

end Sys2Proof.Machine
end
